-- ==== Sys2Proof/Word.lean ====
section
/-! DEFINITION. Word types of the Scelet SC8 and the sparse map in one canonical form.

The units are the spec's own: a 256-bit row (R143), the 276-bit Kolvos codeword a bank stores (R145),
32-bit tile-local words (R59), 1,024-bit vector registers (R79).  A sparse map lists (key, value) pairs with
strictly rising keys and never lists a value equal to what an unlisted key reads as. -/

namespace Sys2Proof

/-- A row of 256 data bits (R143). -/
abbrev Row := BitVec 256
/-- A stored codeword: data bits 255..0, check bits 275..256 (R145). -/
abbrev CodeWord := BitVec 276
/-- A tile-local register word (R59). -/
abbrev Word32 := BitVec 32
/-- A register value of up to 64 bits. -/
abbrev Word64 := BitVec 64
/-- A vector register (R79). -/
abbrev VReg := BitVec 1024
/-- A towpath word's data bits (R206). -/
abbrev TpWord := BitVec 36
/-- A towpath word with the two parity wires of its link in bits [37:36] (R206). -/
abbrev TpLine := BitVec 38

/-- A logical tile `T(x, y)`, numbered `48 * y + x` (R14). -/
abbrev TileId := Fin 2304
/-- A unit that an unload or load engine belongs to: a presented logical tile, or 2304 + p for the physical tile p that
sparing skips. -/
abbrev UnitId := Fin 4904
/-- A physical tile `P(c, r)`, numbered `52 * r + c` (R14). -/
abbrev PhysId := Fin 2600
/-- One of the sixteen banks of a tile (R143). -/
abbrev BankId := Fin 16
/-- One of up to sixteen basins (R23). -/
abbrev BasinId := Fin 16
/-- A berth `B(bx, by)`, numbered `12 * by + bx` (R14). -/
abbrev BerthId := Fin 144
/-- A field F0 to F7 (R17). -/
abbrev FieldId := Fin 8
/-- A pound PD00 to PD39 (R14). -/
abbrev PoundId := Fin 40
/-- A link port P00 to P63 (R14). -/
abbrev PortId := Fin 64
/-- A scalar register S0 to S31 (R63). -/
abbrev SReg := Fin 32
/-- A vector register V0 to V31 (R79). -/
abbrev VIdx := Fin 32
/-- A lane `2 * d + L` of a switch (R177). -/
abbrev LaneId := Fin 8

/-- A sparse map: strictly rising keys, no entry equal to the default of its reader. -/
abbrev Map (α : Type) := List (Nat × α)

namespace Map

variable {α : Type}

/-- The value at key `k`; an unlisted key reads as `d`. -/
def get (m : Map α) (d : α) (k : Nat) : α :=
  match m with
  | [] => d
  | (j, v) :: rest => if j = k then v else get rest d k

/-- Removes key `k`. -/
def del (m : Map α) (k : Nat) : Map α :=
  match m with
  | [] => []
  | (j, v) :: rest => if j = k then rest else (j, v) :: del rest k

/-- Lists `(k, v)` at its place, replacing an entry of the same key. -/
def ins (m : Map α) (k : Nat) (v : α) : Map α :=
  match m with
  | [] => [(k, v)]
  | (j, w) :: rest =>
    if k < j then (k, v) :: (j, w) :: rest
    else if k = j then (k, v) :: rest
    else (j, w) :: ins rest k v

/-- Writes `v` at `k`, keeping the canonical form with respect to the default `d`. -/
def put [DecidableEq α] (m : Map α) (d : α) (k : Nat) (v : α) : Map α :=
  if v = d then del m k else ins m k v

/-- Every key of the map is above `lo`, the keys rise strictly, and no value is what `d` reads there. -/
def wfFrom [DecidableEq α] (d : Nat → α) : Option Nat → Map α → Bool
  | _, [] => true
  | lo, (k, v) :: rest =>
    (match lo with | none => true | some l => decide (l < k)) && decide (v ≠ d k) && wfFrom d (some k) rest

/-- The canonical form with respect to what unlisted keys read as: keys strictly rising, no value equal to it. -/
def wf [DecidableEq α] (m : Map α) (d : Nat → α) : Bool := wfFrom d none m

end Map

/-- Bits `hi..lo` of a natural number, as a number. -/
def bitsOf (n hi lo : Nat) : Nat := n / 2 ^ lo % 2 ^ (hi + 1 - lo)

/-- Bit `i` of a natural number. -/
def bitOf (n i : Nat) : Bool := n / 2 ^ i % 2 == 1

/-- A Boolean as a bit. -/
def b2n (b : Bool) : Nat := if b then 1 else 0

end Sys2Proof
end

