-- ==== Sys2Proof/Syntax.lean ====
section
/-! DEFINITION. The commands of the Scelet SC8: one constructor per row of the table of operations and events. -/

namespace Sys2Proof

/-- A token on a lane (R178). -/
structure Token where
  word : CodeWord
  tag : BitVec 4
  poison : Bool
  last : Bool
  spare : BitVec 2
  deriving DecidableEq, Repr

/-- A flit (R234): header in bits [43:0], payload in [299:44], check bits in [319:300]. -/
abbrev Flit := BitVec 320

/-- The operand fields of a bank op (R65). -/
structure BankOp where
  mode : Fin 4
  row : BitVec 16
  sidx : SReg
  route : Fin 32
  reg : Fin 32
  count : BitVec 11
  deriving DecidableEq, Repr

/-- The operand fields of an array op (R64). -/
structure ArrOp where
  fmt : Fin 16
  outFmt : Fin 8
  rnd : Fin 8
  count : BitVec 12
  vd : VIdx
  ring : Fin 8
  gen : Fin 4
  acc : Bool
  deriving DecidableEq, Repr

/-- The operand fields of a vector op (R80): type 0 FP32, 1 BF16, 2 FP16, 3 INT32. -/
structure VecOp where
  ty : Fin 4
  vd : VIdx
  va : VIdx
  vb : VIdx
  vc : VIdx
  rnd : Fin 8
  imm : BitVec 15
  deriving DecidableEq, Repr

/-- The operand fields of INJECT and LAND (R68): lane `2 × direction + lane`, address mode, row and index register. -/
structure MeshOp where
  lane : LaneId
  mode : Fin 4
  row : BitVec 16
  sidx : SReg
  deriving DecidableEq, Repr

/-- The causes of a lock hold request (R54). -/
inductive HoldCause where
  | snapshot
  | trierPause
  | remap
  deriving DecidableEq, Repr


/-- A check of R78, R83, R116 or R388 that fails in a beat: the tiller copies, on slot controls or elsewhere; a vector
residue or parity; the address parity of a bank; an input trunk; the duplicated rounding of an entry; the Kolvos check
of the rows that reach the array's input register from a source (0 and 1 the feeds, 2 the load tap, 3 the scale tap). -/
inductive CheckFail where
  | tiller (controls : Bool)
  | vector
  | bankAddress (bank : BankId)
  | trunk
  | rounding (entry : BitVec 8)
  | arrayInput (src : Fin 4)
  deriving DecidableEq, Repr

/-- Where STOP arrives (R391): a tile, the transmit stages of a port, or the host engine, for a basin. -/
inductive StopDest where
  | tile (t : TileId)
  | port (p : PortId) (b : BasinId)
  | host (b : BasinId)
  deriving DecidableEq, Repr

/-- What a router receives of a towpath message (R206, R207, R211): the message whole; a word as sent again, with its parity
wires; or the words of a message. -/
inductive TpFate where
  | whole
  | repeated (l : TpLine)
  | words (l : List TpWord)
  deriving DecidableEq, Repr

/-- How a towpath message fares at the router that has to resend words of it or that discards it (R205, R211): tile
routers 0 to 2,303, berth hubs from 2,304, field gateways from 2,448; the words that failed parity and were sent again;
and its fate. -/
structure TpHop where
  router : Fin 2456
  resent : Fin 9
  fate : TpFate
  deriving DecidableEq, Repr

/-- A message that passes every hop with no word sent again. -/
def TpHop.clean : TpHop := ⟨0, 0, .whole⟩

/-- The destination of a firmware message (R208): a tile router, the tiles of a basin, or every tile of the device. -/
inductive TpTarget where
  | tile (t : TileId)
  | basin (b : BasinId)
  | device
  deriving DecidableEq, Repr

/-- A program image as its reader finds it (R269, R56, R189, R305, R419, R420, R430, R458): whether its header is well
formed and its CRC matches, and what it states: length, CRC-64, contract level, array width, logical rows of the shape,
berth rectangle, seed; rows as (tile, flat row, row); wheel entries as (tile, 64 × wheel + slot, entry); the records of
the epoch table and each tile's report beats as (tile, record, beat); the configuration block; stream bindings as
(tile, register, slot, class); regions as (base, length, method); named channels as (port, channel); and a restore map's
moves of rows and of stream registers as (tile, place, tile, place). -/
structure Image where
  sound : Bool
  len : Nat
  crc : Word64
  level : Nat
  width : Nat
  rows : Nat
  rect : Nat × Nat × Nat × Nat
  seed : Word64
  cells : List (Nat × Nat × Row)
  wheels : List (Nat × Nat × Word32)
  epochs : List (BitVec 128)
  reports : List (Nat × Nat × Nat)
  config : List (BitVec 8)
  streams : List (Nat × Nat × Nat × Nat)
  regions : List (Nat × Nat × Nat)
  channels : List (Nat × Nat)
  moves : List (Nat × Nat × Nat × Nat)
  streamMoves : List (Nat × Nat × Nat × Nat)
  deriving DecidableEq, Repr

/-- A firmware image as its signed file states it (R306, R445, R446, R450): version, lowest and highest contract level it
honours, mirror format it writes and those it reads, identifier, chunks and CRC-64 of a tile image. -/
structure UpdateImage where
  version : List Nat
  lo : Nat
  hi : Nat
  mirror : Nat
  reads : List Nat
  ident : Nat
  chunks : List (BitVec 128)
  crc : Word64
  deriving DecidableEq, Repr

/-- What a bring-up phase finds (R362 to R380): its duration in ms; for phase 1, whether each Lockkeeper completes its
self-test in time and whether a ledger copy passes its CRC; defects found as (kind, physical tile, item, sub-item); and,
for phase 2, the voltage offsets chosen, in mV, of physical tiles. -/
structure PhaseResult where
  ms : Nat
  lkA : Bool
  lkB : Bool
  ledgerOk : Bool
  found : List (Nat × Option Nat × Nat × Nat)
  offsets : List (PhysId × Int)
  deriving DecidableEq, Repr

/-- What a generic write names (R59, R266, R300): a word of a tile's registers as a context or the towpath writes it, a
BAR0 register, or an entry of the dictionary by SDO. -/
inductive RegTarget where
  | tile (t : TileId) (ctx : Option (Fin 4)) (off : BitVec 16)
  | bar0 (off : BitVec 24)
  | object (i : BitVec 16) (sub : BitVec 8)
  deriving DecidableEq, Repr


/-- The commands of the block: one constructor per row of the table of operations and events. -/
inductive Instr where
  /-- `PACE_PULSE` (R34): A tile's ring oscillator delivers a pace pulse, which may let the tile complete its current beat. -/
  | pacePulse (t : TileId)
  /-- `BEAT_COMPLETE` (R34): A tile completes beat t once its pulse has arrived and every consumed and produced token has been handed over. -/
  | beatComplete (t : TileId) (chk : Option CheckFail)
  /-- `ILLEGAL_BUNDLE` (R61): A bundle with a bad format would issue, so nothing issues in its place and the beat still completes. -/
  | illegalBundle (t : TileId)
  /-- `NOP` (R61): A slot whose opcode is zero does nothing. -/
  | nop (t : TileId) (slot : Fin 6)
  /-- `BR` (R70): Unconditional branch with two delay slots. -/
  | br (t : TileId) (off : BitVec 16)
  /-- `BRZ` (R70): Branch taken if the scalar register is zero. -/
  | brz (t : TileId) (r : SReg) (off : BitVec 16)
  /-- `BRNZ` (R70): Branch taken if the scalar register is non-zero. -/
  | brnz (t : TileId) (r : SReg) (off : BitVec 16)
  /-- `CALL` (R70): Pushes the return address on the 8-deep stack and then branches. -/
  | call (t : TileId) (off : BitVec 16)
  /-- `RET` (R70): Pops the return stack and branches to the popped address. -/
  | ret (t : TileId)
  /-- `LOOP` (R71): Runs the next L bundles N times, filling and then issuing from the loop buffer. -/
  | loop (t : TileId) (len1 : Fin 64) (byReg : Bool) (count : BitVec 16)
  /-- `TASK` (R76): Switches task context, saving the current PC. -/
  | task (t : TileId) (ctx : Fin 4)
  /-- `BAR` (R212): Issues a towpath barrier by sending a BAR_UP frame. -/
  | bar (t : TileId) (num : BitVec 8) (ext : Fin 4)
  /-- `BARW` (R212): Holds the tile until the named barrier completes. -/
  | barw (t : TileId) (num : BitVec 8)
  /-- `EPOCH_END` (R73): Marks the tile's last bundle of the epoch and fixes its beat count. -/
  | epochEnd (t : TileId)
  /-- `ADDI` (R62): Adds a sign-extended immediate to a scalar register. -/
  | addi (t : TileId) (d : SReg) (r : SReg) (imm : BitVec 16)
  /-- `ANDI` (R62): ANDs a zero-extended immediate into a scalar register. -/
  | andi (t : TileId) (d : SReg) (r : SReg) (imm : BitVec 16)
  /-- `ORI` (R62): ORs a zero-extended immediate into a scalar register. -/
  | ori (t : TileId) (d : SReg) (r : SReg) (imm : BitVec 16)
  /-- `XORI` (R62): XORs a zero-extended immediate into a scalar register. -/
  | xori (t : TileId) (d : SReg) (r : SReg) (imm : BitVec 16)
  /-- `SHLI` (R62): Shifts a scalar register left by an immediate amount. -/
  | shli (t : TileId) (d : SReg) (r : SReg) (imm : BitVec 16)
  /-- `SHRI` (R62): Shifts a scalar register right by an immediate amount. -/
  | shri (t : TileId) (d : SReg) (r : SReg) (imm : BitVec 16)
  /-- `LUI` (R62): Sets a scalar register to the immediate times 65,536. -/
  | lui (t : TileId) (d : SReg) (imm : BitVec 16)
  /-- `ADD` (R62): Adds two scalar registers. -/
  | add (t : TileId) (d : SReg) (r : SReg) (u : SReg)
  /-- `SUB` (R62): Subtracts one scalar register from another. -/
  | sub (t : TileId) (d : SReg) (r : SReg) (u : SReg)
  /-- `AND` (R62): ANDs two scalar registers. -/
  | andS (t : TileId) (d : SReg) (r : SReg) (u : SReg)
  /-- `OR` (R62): ORs two scalar registers. -/
  | orS (t : TileId) (d : SReg) (r : SReg) (u : SReg)
  /-- `XOR` (R62): XORs two scalar registers. -/
  | xorS (t : TileId) (d : SReg) (r : SReg) (u : SReg)
  /-- `SLTU` (R62): Unsigned less-than comparison of two scalar registers. -/
  | sltu (t : TileId) (d : SReg) (r : SReg) (u : SReg)
  /-- `LRR` (R59): Reads a tile-local register word into a scalar register. -/
  | lrr (t : TileId) (d : SReg) (off : BitVec 16)
  /-- `LRW` (R59): Writes a scalar register to a tile-local register word. -/
  | lrw (t : TileId) (r : SReg) (off : BitVec 16)
  /-- `BANK_READ` (R65): A bank op streams reads of rows through port E to the given route. -/
  | bankRead (t : TileId) (slot : Fin 2) (o : BankOp)
  /-- `BANK_WRITE` (R65): A bank op streams writes of rows through port E from the given source. -/
  | bankWrite (t : TileId) (slot : Fin 2) (o : BankOp)
  /-- `BANK_ALIAS` (R152): A read-modify-write of rows in the bank's alias or atomic mode. -/
  | bankAlias (t : TileId) (slot : Fin 2) (o : BankOp)
  /-- `BANK_ZERO` (R65): A bank op writes all-zero rows. -/
  | bankZero (t : TileId) (slot : Fin 2) (o : BankOp)
  /-- `INJECT` (R186): Reads a row through port X and sends it on the outgoing lanes two beats later. -/
  | inject (t : TileId) (o : MeshOp)
  /-- `LAND` (R186): Writes the token waiting on an incoming lane into a row through port X. -/
  | land (t : TileId) (o : MeshOp)
  /-- `WHEEL_STAGE` (R189): Stages a slot-wheel entry that takes effect at the next lock. -/
  | wheelStage (t : TileId) (lane : LaneId) (slot : Fin 64) (r : SReg)
  /-- `STREAM_WS` (R103): Streams input rows through a K-major stationary set (weight stationary). -/
  | streamWs (t : TileId) (o : ArrOp)
  /-- `STREAM_AS` (R102): Streams input rows through a column-major stationary set (activation stationary). -/
  | streamAs (t : TileId) (o : ArrOp)
  /-- `STREAM_CONV` (R108): Streams one convolution tap using PAD indications from an address generator. -/
  | streamConv (t : TileId) (o : ArrOp)
  /-- `SHADOW_LOAD` (R97): Loads the shadow stationary set from route 0x02 rows or the load tap. -/
  | shadowLoad (t : TileId) (o : ArrOp)
  /-- `SWAP` (R99): Exchanges the active and shadow stationary sets. -/
  | swap (t : TileId)
  /-- `CLEAR` (R104): Zeroes accumulator entries of every column. -/
  | clear (t : TileId) (o : ArrOp)
  /-- `SHADOW_COMPLETE` (R98): A shadow set becomes complete 4 beats after its last load row lands. -/
  | shadowComplete (t : TileId)
  /-- `ARRAY_OUTPUT` (R103): An input row's accumulator entry is updated and its rounded output row is presented 66 beats after acceptance. -/
  | arrayOutput (t : TileId)
  /-- `CHECKSUM_COMPARE` (R115): The checksum or residue comparison for an output row concludes within 4 beats of presentation. -/
  | checksumCompare (t : TileId) (delta : Int)
  /-- `VEC_MOV` (R81): Vector move. -/
  | vecMov (t : TileId) (v : VecOp)
  /-- `VEC_AND` (R81): Vector bitwise AND. -/
  | vecAnd (t : TileId) (v : VecOp)
  /-- `VEC_OR` (R81): Vector bitwise OR. -/
  | vecOr (t : TileId) (v : VecOp)
  /-- `VEC_XOR` (R81): Vector bitwise XOR. -/
  | vecXor (t : TileId) (v : VecOp)
  /-- `VEC_NOT` (R81): Vector bitwise NOT. -/
  | vecNot (t : TileId) (v : VecOp)
  /-- `VEC_BCAST` (R81): Copies one lane of va to every lane. -/
  | vecBcast (t : TileId) (v : VecOp)
  /-- `VEC_ROTL` (R81): Rotates lanes toward higher-numbered lanes. -/
  | vecRotl (t : TileId) (v : VecOp)
  /-- `VEC_REV` (R81): Reverses lane order. -/
  | vecRev (t : TileId) (v : VecOp)
  /-- `VEC_ADD` (R134): Vector addition, correctly rounded or wrapping. -/
  | vecAdd (t : TileId) (v : VecOp)
  /-- `VEC_SUB` (R134): Vector subtraction. -/
  | vecSub (t : TileId) (v : VecOp)
  /-- `VEC_MIN` (R134): Lane-wise IEEE minimum. -/
  | vecMin (t : TileId) (v : VecOp)
  /-- `VEC_MAX` (R134): Lane-wise IEEE maximum. -/
  | vecMax (t : TileId) (v : VecOp)
  /-- `VEC_ABS` (R134): Lane-wise absolute value. -/
  | vecAbs (t : TileId) (v : VecOp)
  /-- `VEC_NEG` (R134): Lane-wise negation. -/
  | vecNeg (t : TileId) (v : VecOp)
  /-- `VEC_MUL` (R134): Vector multiplication. -/
  | vecMul (t : TileId) (v : VecOp)
  /-- `VEC_FMA` (R134): Fused multiply-add rounded once. -/
  | vecFma (t : TileId) (v : VecOp)
  /-- `VEC_SHL` (R81): INT32 lane shift left. -/
  | vecShl (t : TileId) (v : VecOp)
  /-- `VEC_SHR` (R81): INT32 lane logical shift right. -/
  | vecShr (t : TileId) (v : VecOp)
  /-- `VEC_SAR` (R81): INT32 lane arithmetic shift right. -/
  | vecSar (t : TileId) (v : VecOp)
  /-- `VEC_CMPEQ` (R134): Lane compare for equality. -/
  | vecCmpeq (t : TileId) (v : VecOp)
  /-- `VEC_CMPLT` (R134): Lane compare for less-than. -/
  | vecCmplt (t : TileId) (v : VecOp)
  /-- `VEC_CMPLE` (R134): Lane compare for less-or-equal. -/
  | vecCmple (t : TileId) (v : VecOp)
  /-- `VEC_CMPNE` (R134): Lane compare for not-equal. -/
  | vecCmpne (t : TileId) (v : VecOp)
  /-- `VEC_SEL` (R81): Selects va or vb per lane by vc. -/
  | vecSel (t : TileId) (v : VecOp)
  /-- `VEC_RSUM` (R134): Sum across lanes in a fixed pairwise tree. -/
  | vecRsum (t : TileId) (v : VecOp)
  /-- `VEC_RMAX` (R134): Maximum across lanes. -/
  | vecRmax (t : TileId) (v : VecOp)
  /-- `VEC_RMIN` (R134): Minimum across lanes. -/
  | vecRmin (t : TileId) (v : VecOp)
  /-- `VEC_RAMAX` (R134): Largest magnitude across lanes. -/
  | vecRamax (t : TileId) (v : VecOp)
  /-- `VEC_CVTN` (R137): Narrows lanes into element positions of a quarter. -/
  | vecCvtn (t : TileId) (v : VecOp)
  /-- `VEC_CVTW` (R137): Widens elements of a quarter into lanes. -/
  | vecCvtw (t : TileId) (v : VecOp)
  /-- `VEC_CVTI` (R138): Converts floating-point lanes to INT32. -/
  | vecCvti (t : TileId) (v : VecOp)
  /-- `VEC_CVTF` (R138): Converts INT32 lanes to floating point. -/
  | vecCvtf (t : TileId) (v : VecOp)
  /-- `VEC_MXSCALE` (R139): Computes the E8M0 shared scale of each 32-lane block. -/
  | vecMxscale (t : TileId) (v : VecOp)
  /-- `VEC_MXAPPLY` (R140): Applies block scales from vb to the lanes of va. -/
  | vecMxapply (t : TileId) (v : VecOp)
  /-- `VEC_EXP` (R135): Exponential function. -/
  | vecExp (t : TileId) (v : VecOp)
  /-- `VEC_EXP2` (R135): Base-2 exponential. -/
  | vecExp2 (t : TileId) (v : VecOp)
  /-- `VEC_LOG` (R135): Natural logarithm. -/
  | vecLog (t : TileId) (v : VecOp)
  /-- `VEC_LOG2` (R135): Base-2 logarithm. -/
  | vecLog2 (t : TileId) (v : VecOp)
  /-- `VEC_RECIP` (R135): Reciprocal. -/
  | vecRecip (t : TileId) (v : VecOp)
  /-- `VEC_RSQRT` (R135): Reciprocal square root. -/
  | vecRsqrt (t : TileId) (v : VecOp)
  /-- `VEC_SQRT` (R135): Square root. -/
  | vecSqrt (t : TileId) (v : VecOp)
  /-- `VEC_TANH` (R135): Hyperbolic tangent. -/
  | vecTanh (t : TileId) (v : VecOp)
  /-- `VEC_SIGMOID` (R135): Logistic sigmoid. -/
  | vecSigmoid (t : TileId) (v : VecOp)
  /-- `VEC_SIN` (R135): Sine. -/
  | vecSin (t : TileId) (v : VecOp)
  /-- `VEC_COS` (R135): Cosine. -/
  | vecCos (t : TileId) (v : VecOp)
  /-- `VEC_RAND` (R132): Writes 1,024 Philox random bits into vd and advances the stream counter by 8. -/
  | vecRand (t : TileId) (v : VecOp)
  /-- `STREAM_REG_WRITE` (R141): A write to a stream register counter or key word takes effect after the same beat's draws. -/
  | streamRegWrite (t : TileId) (r : Fin 8) (w : Fin 6) (val : Word32)
  /-- `LOCK_REPORT` (R48): At its report beat the tile sends its lock report as a class 0 reduction over the basin. -/
  | lockReport (t : TileId)
  /-- `LOCK_UP` (R215): A hub or gateway combines lock report frames and forwards them toward the root. -/
  | lockUp (r : Fin 152) (b : BasinId) (split : Bool) (hop : TpHop)
  /-- `LOCK_RESULT` (R215): A tile receives the lock wave result from the root. -/
  | lockResult (t : TileId) (hop : TpHop)
  /-- `LOCK_BEAT` (R49): The tile completes its lock beat once the result, its checks and the clean horizon allow, applying every staged item. -/
  | lockBeat (t : TileId)
  /-- `LOCK_HOLD_REQUEST` (R54): A hold request of cause snapshot, trier pause or remap is placed on a lock. -/
  | lockHoldRequest (b : BasinId) (cause : HoldCause) (lock : Nat)
  /-- `LOCK_HOLD_RELEASE` (R54): A hold request is released, letting the held lock complete. -/
  | lockHoldRelease (b : BasinId) (cause : HoldCause) (lock : Nat)
  /-- `ESTORE_DATA_WRITE` (R56): A towpath write to the epoch store, refused outside the permitted states. -/
  | estoreDataWrite (t : TileId) (w : Fin 4) (val : Word32)
  /-- `BAR_UP` (R212): A hub or gateway combines barrier frames of the same number and generation. -/
  | barUp (r : Fin 152) (b : BasinId) (num : BitVec 8) (hop : TpHop)
  /-- `BAR_DONE` (R212): Barrier completion reaches participants and releases BARW. -/
  | barDone (t : TileId) (num : BitVec 8) (hop : TpHop)
  /-- `ALARM` (R217): An ALARM message reaches the active Lockkeeper's alarm queue. -/
  | alarm (src : Option TileId) (hop : TpHop)
  /-- `IRQ` (R218): A notice needing no recovery reaches the active Lockkeeper. -/
  | irq (src : Option TileId) (hop : TpHop)
  /-- `CFG_WR` (R219): A configuration write to tile-local registers, answered once in force or staged. -/
  | cfgWr (d : BitVec 12) (w : Word32) (data : List Word32) (hop : TpHop)
  /-- `CFG_RD` (R219): A configuration read of tile-local registers. -/
  | cfgRd (d : BitVec 12) (w : Word32) (hop : TpHop)
  /-- `CFG_RSP` (R219): A response to a configuration request reaches the requester. -/
  | cfgRsp (d : BitVec 12) (hop : TpHop)
  /-- `BATCH_SEAL` (R220): Closes a tile's share of a batch with its write count. -/
  | batchSeal (t : TileId) (id : BitVec 8) (count : BitVec 16) (target : Word32) (hop : TpHop)
  /-- `FW_INFO` (R222): Clears the staged firmware half and stores identifier, count and CRC-64. -/
  | fwInfo (d : TpTarget) (w : BitVec 30) (crc : Word64) (hop : TpHop)
  /-- `FW_CHUNK` (R222): A firmware chunk with a good CRC is written into the staged half. -/
  | fwChunk (d : TpTarget) (id : BitVec 8) (idx : BitVec 16) (data : BitVec 128) (crc : Word32) (hop : TpHop)
  /-- `FW_QUERY` (R224): Asks tiles for their missing-chunk bitmaps. -/
  | fwQuery (d : TpTarget) (w : BitVec 30) (hop : TpHop)
  /-- `MISSING_UP` (R224): Missing-chunk frames are combined up the tree and sent to the Lockkeeper. -/
  | missingUp (d : TpTarget) (hop : TpHop)
  /-- `FW_ACTIVATE` (R223): Stages the firmware activation as a batch in verified tiles. -/
  | fwActivate (d : TpTarget) (w : BitVec 30) (batch : BitVec 8) (hop : TpHop)
  /-- `FW_CANCEL` (R222): Clears the staged half and any staged activation. -/
  | fwCancel (d : TpTarget) (hop : TpHop)
  /-- `TRACE` (R469): A tile trace unit sends a trace record for an enabled kind. -/
  | trace (t : TileId) (hop : TpHop)
  /-- `STOP_ARRIVE` (R391): STOP reaches a tile or engine, halting beats and blocking locks for the basin. -/
  | stopArrive (d : StopDest)
  /-- `STOP_FORCE` (R413): A towpath write raises STOP at a tile on behalf of the Lockkeeper. -/
  | stopForce (t : TileId)
  /-- `TOKEN_ARRIVE` (R180): A token is presented at a switch input and is checked, then forwarded, landed or discarded. -/
  | tokenArrive (t : TileId) (lane : LaneId) (tok : Option Token) (par : Option LaneId)
  /-- `TOKEN_ACK` (R191): The next stage acknowledges a token, the fork branch takes it, and the source is acknowledged once all branches have taken it. -/
  | tokenAck (t : TileId) (lane : LaneId) (off : BitVec 6)
  /-- `WHEEL_INJECTION` (R186): An active TRIG entry reads its circuit row and injects the token on its lanes. -/
  | wheelInjection (t : TileId) (k : Fin 32) (par : Bool)
  /-- `WHEEL_DATA_WRITE` (R189): A write stages the selected wheel entry for the next lock. -/
  | wheelDataWrite (t : TileId) (ctx : Option (Fin 4)) (val : Word32)
  /-- `CIRC_WRITE` (R185): A write to CIRC_CNT or CIRC_ROW takes effect from the next beat. -/
  | circWrite (t : TileId) (ctx : Option (Fin 4)) (k : Fin 32) (row : Bool) (val : Word32)
  /-- `STALL` (R198): The berth sentinel finds a tile without a completed beat for longer than the limit. -/
  | stall (b : BerthId) (mask : BitVec 16)
  /-- `STALL_RECORD` (R199): One sentinel limit after a basin's first STALL, the Lockkeeper builds the STALL record and names the root. -/
  | stallRecord (b : BasinId)
  /-- `SEAM_WIRE_FAIL` (R195): A seam wire reaches the correction threshold in its window and a steer is staged. -/
  | seamWireFail (t : TileId) (lane : LaneId) (wire : Fin 292)
  /-- `SEAM_HANDSHAKE_FAIL` (R193): A handshake wire that disagrees 1,024 times in a row is marked failed. -/
  | seamHandshakeFail (t : TileId) (lane : LaneId) (wire : Fin 6)
  /-- `PAIL_RESUME` (R160): A blocked pail access proceeds when the row's tag changes. -/
  | pailResume (t : TileId) (bank : BankId)
  /-- `CORRECTION_WRITEBACK` (R148): A corrected row is written back in the first fill-in beat. -/
  | correctionWriteback (t : TileId) (bank : BankId)
  /-- `PATROL_SCRUB` (R148): The bank's patrol reads one row in a fill-in beat on its schedule. -/
  | patrolScrub (t : TileId) (bank : BankId) (row : Fin 2592)
  /-- `NARROW_WRITE` (R163): A narrow write merges into or takes a gather buffer entry. -/
  | narrowWrite (t : TileId) (row : Nat) (data : Row) (mask : BitVec 8) (bad : Bool)
  /-- `GATHER_FLUSH` (R164): A gather entry is flushed as a full or read-modify-write row in a fill-in beat. -/
  | gatherFlush (t : TileId) (bank : BankId) (bad : Bool)
  /-- `ROW_WIN_WRITE` (R165): A row window go-write sends masked words into the gather buffer. -/
  | rowWinWrite (t : TileId) (ctx : Option (Fin 4)) (mask : BitVec 8)
  /-- `ROW_WIN_READ` (R165): A row window go-read reads a row in a fill-in beat into ROW_WIN_DATA. -/
  | rowWinRead (t : TileId) (ctx : Option (Fin 4))
  /-- `BANK_OWNER_WRITE` (R155): A write stages a new bank owner, taking effect at once or at a later lock. -/
  | bankOwnerWrite (t : TileId) (ctx : Option (Fin 4)) (bank : BankId) (val : Word32)
  /-- `SLEEP_RETAIN` (R170): A SLEEP_CTL write of 1 closes the gate and drains the bank toward retention. -/
  | sleepRetain (t : TileId) (ctx : Option (Fin 4)) (bank : BankId)
  /-- `SLEEP_OFF` (R170): A SLEEP_CTL write of 2 closes the gate and drains the bank toward off. -/
  | sleepOff (t : TileId) (ctx : Option (Fin 4)) (bank : BankId)
  /-- `BANK_DRAINED` (R170): INFLIGHT_WRITES reaches zero and the bank rail lowers to retention or off. -/
  | bankDrained (t : TileId) (bank : BankId)
  /-- `WAKE` (R171): A SLEEP_CTL write of 0 wakes the bank or cancels a power-down. -/
  | wake (t : TileId) (ctx : Option (Fin 4)) (bank : BankId)
  /-- `WAKE_COMPLETE` (R171): The rail is up and, after off, every row is zeroed, and the bank is awake. -/
  | wakeComplete (t : TileId) (bank : BankId)
  /-- `REMAP_ENTRY_WRITE` (R169): A REMAP write starts mirroring, or installs a valid entry directly at bring-up or in a reset. -/
  | remapEntryWrite (t : TileId) (ctx : Option (Fin 4)) (bank : BankId) (m : Fin 32) (val : Word32)
  /-- `REMAP_COPY` (R169): In a fill-in beat the row is copied to its spare and copy done is set. -/
  | remapCopy (t : TileId) (bank : BankId) (m : Fin 32)
  /-- `UNLOAD` (R85): UNLOAD_CTL starts the unload engine sending the tile state in the given direction. -/
  | unload (u : UnitId) (dir : Fin 4)
  /-- `LOAD` (R85): UNLOAD_CTL starts the load engine landing the stream from the given direction. -/
  | load (u : UnitId) (dir : Fin 4)
  /-- `LOAD_END` (R87): At the end of a load the trailer is compared, giving LOADED or LOAD_FAIL. -/
  | loadEnd (u : UnitId) (ok : Bool)
  /-- `PORT_ENABLE` (R262): A port enable write starts qualification or disables the port. -/
  | portEnable (p : PortId) (en : BitVec 8)
  /-- `QUALIFY_END` (R257): A qualification attempt ends, making the port READY, repeating, or FAILED. -/
  | qualifyEnd (p : PortId) (tx : BitVec 8) (rx : BitVec 8) (ok : Bool)
  /-- `LANE_TRAIN_TIMEOUT` (R257): A lane that does not complete training within 500 ms is not qualified. -/
  | laneTrainTimeout (p : PortId) (lane : Fin 8)
  /-- `RETRAIN_END` (R258): Training ends and the transmitter replays from the oldest unacknowledged flit or fails. -/
  | retrainEnd (p : PortId) (ok : Bool)
  /-- `LANE_DROP` (R253): A lane's error rate exceeds its limit, and the port retrains at a narrower mode. -/
  | laneDrop (p : PortId) (lane : Fin 8)
  /-- `FLIT_RECEIVE` (R236): A received flit is checked by RS, HCRC, Kolvos and POISON in order. -/
  | flitReceive (p : PortId) (f : Flit) (rs : Bool)
  /-- `HEAD_FLIT` (R243): A barge header is checked for form, sequence, target, binding and epoch. -/
  | headFlit (p : PortId)
  /-- `ROW_FLIT` (R243): A barge row flit is taken at the receive crossing for landing or discard. -/
  | rowFlit (p : PortId)
  /-- `BARGE_ROW_LAND` (R243): A barge row lands at its attachment tile in a fill-in beat, subject to gate, ownership, bounds and alias order. -/
  | bargeRowLand (p : PortId) (ch : BitVec 8)
  /-- `TAIL_FLIT` (R245): The TAIL ends a barge and its digest is compared. -/
  | tailFlit (p : PortId)
  /-- `BARGE_COMPLETION_SEND` (R245): When every row rests and the notify row is written, the receiver sends the COMPLETION flit. -/
  | bargeCompletionSend (p : PortId) (ch : BitVec 8)
  /-- `COMPLETION_FLIT` (R250): An outbound barge's completion arrives and is reported once. -/
  | completionFlit (p : PortId)
  /-- `BOUND_BARGE_RELEASE` (R247): A waiting bound barge is taken when its basin reaches the named epoch, or completes LATE. -/
  | boundBargeRelease (p : PortId) (ch : BitVec 8)
  /-- `DESCRIPTOR_READ` (R249): The transmit engine reads the next descriptor from its pail window and starts a barge. -/
  | descriptorRead (p : PortId)
  /-- `FLIT_GATE_RELEASE` (R393): A held outbound flit is sent once the clean horizon reaches its gate beat less 26. -/
  | flitGateRelease (p : PortId)
  /-- `ACK` (R241): A cumulative ACK frees flits from the retry buffer. -/
  | ack (p : PortId) (body : BitVec 240)
  /-- `NAK` (R238): A NAK moves the transmitter into REPLAY from the named FSEQ. -/
  | nak (p : PortId) (body : BitVec 240)
  /-- `CREDIT` (R241): Cumulative credit grants for channels or the completion pool. -/
  | credit (p : PortId) (body : BitVec 240)
  /-- `HELLO` (R254): Exchanges version, lane mask, floor and identity at link-up. -/
  | hello (p : PortId) (body : BitVec 240)
  /-- `SYNC` (R256): Reconciles expected receive numbers with outstanding barges at version 1.2 link-up. -/
  | sync (p : PortId) (body : BitVec 240)
  /-- `MODE` (R253): Agrees the lane mode and lane mask with the peer. -/
  | mode (p : PortId) (body : BitVec 240)
  /-- `CTRL_REPEAT` (R241): Every 1 µs an unanswered HELLO, SYNC or MODE is repeated. -/
  | ctrlRepeat (p : PortId)
  /-- `ACK_SEND` (R239): The receiver sends a cumulative ACK after 64 accepted flits or 100 ns. -/
  | ackSend (p : PortId)
  /-- `ACK_TIMEOUT` (R238): The oldest unacknowledged flit ages past ACK_TIMEOUT and the transmitter enters REPLAY. -/
  | ackTimeout (p : PortId)
  /-- `CHANNEL_SEQ_WRITE` (R263): A write sets a channel's transmit or expected number, only while the port is not READY. -/
  | channelSeqWrite (sub : BitVec 8) (val : Word32)
  /-- `LINK_REF_LOST` (R483): LREF has no edge for 10 µs and every port retrains. -/
  | linkRefLost
  /-- `LINK_REF_RETURN` (R483): LREF has held within limits for 1 ms and ports resume retraining. -/
  | linkRefReturn
  /-- `CAGE_MEDIUM_REMOVED` (R491): PRES_N of a cage goes high and its ports retrain holding state. -/
  | cageMediumRemoved (cage : Fin 16)
  /-- `CAGE_MEDIUM_INSERTED` (R491): PRES_N goes low and the cage's ports qualify and link up. -/
  | cageMediumInserted (cage : Fin 16)
  /-- `CAGE_POWER` (R480): A cage's VAUX_C trips and opens that cage's switch. -/
  | cagePower (cage : Fin 16)
  /-- `DOORBELL` (R267): A doorbell write sets the new submission tail, or is discarded if out of range. -/
  | doorbell (q : Fin 129) (val : Word32)
  /-- `QUEUE_ENABLE` (R280): Setting Q_CTL enable resets the ring positions and starts fetching. -/
  | queueEnable (q : Fin 129)
  /-- `QUEUE_DISABLE` (R280): Clearing Q_CTL enable aborts entries that are not complete. -/
  | queueDisable (q : Fin 129)
  /-- `QUEUE_COALESCE_SET` (R281): Q_CTL bit 1 selects interrupt coalescing. -/
  | queueCoalesceSet (q : Fin 129) (on : Bool)
  /-- `CQ_HEAD_WRITE` (R267): The host frees completion slots, letting fetching resume. -/
  | cqHeadWrite (q : Fin 129) (val : Word32)
  /-- `DATA` (R272): A DATA entry supplies a piece of a slot's stream, judged against the next needed row. -/
  | data (q : Fin 128) (entry : BitVec 512)
  /-- `LOAD_IMAGE` (R269): Reads, checks and loads a program image into a basin. -/
  | loadImage (entry : BitVec 512) (image : Option Image)
  /-- `HOST_ROW_LAND` (R271): The host engine lands the next quota row into the slot binding as a pail write. -/
  | hostRowLand (slot : Fin 128) (data : Row)
  /-- `HOST_READ_ERROR` (R274): A failed host read lands its rows as poison and completes with HOST_ERR. -/
  | hostReadError (slot : Fin 128)
  /-- `HOST_DESCRIPTOR_READ` (R275): The host engine reads a host descriptor and writes rows and a completion to the host. -/
  | hostDescriptorRead (h : Fin 4)
  /-- `COAL_TIMEOUT` (R281): COAL_TIME passes since the first counted completion and the vector is signalled. -/
  | coalTimeout (q : Fin 129)
  /-- `FUNCTION_LEVEL_RESET` (R280): FLR disables queues and forgets rings while cursors survive. -/
  | functionLevelReset
  /-- `PERST_ASSERT` (R491): PERST_N resets the endpoint as for Function Level Reset. -/
  | perstAssert
  /-- `PCIE_LINK_TRAIN` (R264): The PCIe link trains to the best common speed and width. -/
  | pcieLinkTrain (speed : Fin 6) (width : Fin 5)
  /-- `MB_WRITE` (R278): MB_CTL bit 0 performs an object write through the host mailbox. -/
  | mbWrite (ca : Bool)
  /-- `MB_READ` (R278): MB_CTL bit 1 performs an object read through the host mailbox. -/
  | mbRead (ca : Bool)
  /-- `SDO_DOWNLOAD` (R300): An SDO write to one entry, applied, staged or aborted by access class. -/
  | sdoDownload (idx : BitVec 16) (sub : BitVec 8) (data : List Nat)
  /-- `SDO_UPLOAD` (R296): An SDO read of one entry. -/
  | sdoUpload (idx : BitVec 16) (sub : BitVec 8)
  /-- `SDO_COMPLETE_DOWNLOAD` (R297): A complete-access write whose RWL part is one batch. -/
  | sdoCompleteDownload (idx : BitVec 16) (zero : Bool) (data : List (List Nat))
  /-- `SDO_COMPLETE_UPLOAD` (R297): A complete-access read of every subindex. -/
  | sdoCompleteUpload (idx : BitVec 16) (zero : Bool)
  /-- `SDO_INFORMATION` (R288): An SDO Information request about the dictionary. -/
  | sdoInformation (idx : BitVec 16) (sub : BitVec 8)
  /-- `FOE_WRITE` (R306): A FoE file write stages a signed image after its signature check. -/
  | foeWrite (name : List Nat) (password : Nat) (len : Nat) (sigOk : Bool) (img : UpdateImage)
  /-- `AL_STATE_REQUEST` (R289): The MainDevice requests an AL state change, applying any new PDO layout at SAFEOP. -/
  | alStateRequest (st : Nat) (dcMet : Bool)
  /-- `RXPDO` (R295): Set-points arrive in process data. -/
  | rxpdo (a : Word64) (c : Word64)
  /-- `SYNC0` (R291): A SYNC0 edge latches inputs and applies the previous cycle's outputs. -/
  | sync0
  /-- `PDO_LATCH` (R291): TxPDO inputs are latched in free-run or SM-synchronous mode. -/
  | pdoLatch
  /-- `SYNC_ERROR` (R292): SYNC0 missing for 1.5 cycles counts a sync error, and the limit drops to SAFEOP. -/
  | syncError
  /-- `SETPOINT_TIMEOUT` (R295): Set-points unchanged for the timeout become absent. -/
  | setpointTimeout
  /-- `CLAMP_LOG_CLEAR` (R310): A write of 1 to 0x2F11.04 empties the clamp log. -/
  | clampLogClear
  /-- `STATUS_CLEAR` (R310): A write to 0x2F00.02 clears configuration status bits. -/
  | statusClear (bits : Word32)
  /-- `LK_HEARTBEAT` (R287): The active Lockkeeper sends a heartbeat every 1 ms. -/
  | lkHeartbeat
  /-- `LK_TAKEOVER` (R287): After 10 missed heartbeats or a reported fault, the standby takes over. -/
  | lkTakeover
  /-- `LK_BOOT_TIMEOUT` (R285): The preferred Lockkeeper not passing self-test within 2 s lets the other become active. -/
  | lkBootTimeout
  /-- `INPUT_QUALIFIED` (R312): Input at or above 355 V for 50 ms closes the hot-swap stage. -/
  | inputQualified
  /-- `POWER_GOOD` (R330): The bus, VAUX and VMG hold in regulation for 10 ms and bring-up begins. -/
  | powerGood (scanEn : Bool)
  /-- `POWER_FAIL` (R313): Input loss, over-voltage or over-current holds every pulse and opens every pound. -/
  | powerFail (cause : Fin 4)
  /-- `PRES_OPEN` (R478): J1 PRES_N opens and a power fail runs before the power contacts separate. -/
  | presOpen
  /-- `CELL_LOST` (R314): A converter cell leaves service. -/
  | cellLost (cell : Fin 16)
  /-- `CEILING_UPDATE` (R315): Every 1 ms the Lockkeeper recomputes the supply ceiling. -/
  | ceilingUpdate (vin : Nat)
  /-- `PHASE_LOST` (R316): A vertical-stage phase leaves service and the pound rating falls. -/
  | phaseLost (pd : PoundId) (phase : Fin 6)
  /-- `REG_FAIL` (R318): A tile regulator fails, is opened and bridged to partners within 2 µs. -/
  | regFail (p : PhysId) (cause : Fin 4)
  /-- `WEIR_DROOP` (R320): VPN falls past the droop threshold and the boost bank injects charge. -/
  | weirDroop (pd : PoundId) (depth : Nat) (charge : Fin 101)
  /-- `WEIR_OVERSHOOT` (R320): VPN rises past the overshoot threshold and the shunt draws current. -/
  | weirOvershoot (pd : PoundId)
  /-- `WEIR_SETTLED` (R320): Every point returns within 10 mV and the weir action ends. -/
  | weirSettled (pd : PoundId)
  /-- `POUND_TRIP` (R322): An e-fuse isolates a pound for short, undervoltage, phases or failed ramp. -/
  | poundTrip (pd : PoundId) (cause : Fin 4)
  /-- `POUND_POWER_UP` (R324): A power-up command queues a grant request, clearing an isolation latch first. -/
  | poundPowerUp (pd : PoundId)
  /-- `POUND_POWER_DOWN` (R328): A power-down command holds pulses, marks lanes absent and ramps VPN down. -/
  | poundPowerDown (pd : PoundId)
  /-- `POUND_GRANT_EVAL` (R327): At each 64 µs window end, pending power-up requests are granted or deferred. -/
  | poundGrantEval
  /-- `POUND_RAMP_END` (R328): After ramp and settling the e-fuse check is made and the pound turns on. -/
  | poundRampEnd (pd : PoundId) (ok : Bool)
  /-- `CAPTURE_8US` (R332): An 8 µs telemetry capture ends, driving rail limits, sensors and averages. -/
  | capture8us (pd : PoundId) (ivpn : Nat) (ivpm : Nat) (sys : Option (List Nat)) (tiles : List (Int × Nat × Nat))
  /-- `VT_SET_WRITE` (R334): The field power controller sets a tile's regulator voltage. -/
  | vtSetWrite (t : TileId) (mv : BitVec 16)
  /-- `ESTIMATE_SAMPLE` (R340): Every 2 µs the pound estimates are formed and k_cap is computed. -/
  | estimateSample
  /-- `ESTIMATOR_GAIN_UPDATE` (R340): Every 1 ms each pound's estimator gain is updated. -/
  | estimatorGainUpdate
  /-- `SKIM_FRAME` (R341): A new 16-pulse frame begins and takes up the skim level in force. -/
  | skimFrame (t : TileId)
  /-- `COOLANT_SAMPLE` (R357): Every 1 ms inlet temperature and flow set the coolant ceiling. -/
  | coolantSample (tin : Int) (flow : Nat)
  /-- `VOLTAGE_STEP` (R353): When permitted, a pound's pulses are held and VT_SET and VPN targets are written. -/
  | voltageStep (pd : PoundId)
  /-- `VOLTAGE_STEP_END` (R353): VT and VPN settle and the pound's pulses are released. -/
  | voltageStepEnd (pd : PoundId)
  /-- `SKIM_TEST_WRITE` (R359): Sets k_test on a tile in no basin. -/
  | skimTestWrite (t : TileId) (val : Word32)
  /-- `BRINGUP_PHASE_END` (R362): A bring-up phase ends and the next begins, or the device becomes ready or halts. -/
  | bringupPhaseEnd (r : PhaseResult)
  /-- `SERVICE_UNLOCK` (R369): Writing the unlock value opens a 10 s window for service commands. -/
  | serviceUnlock (val : Word32)
  /-- `REMOVE_ENTRY` (R369): Marks a ledger entry for removal at the next passing bring-up. -/
  | removeEntry (i : Nat)
  /-- `BRING_UP` (R369): Runs bring-up phases 2–5 again. -/
  | bringUp
  /-- `POWER_DOWN` (R331): An orderly power-down reverses the power-on sequence. -/
  | powerDown
  /-- `CANCEL_REMOVAL` (R369): Clears a pending ledger removal. -/
  | cancelRemoval (i : Nat)
  /-- `RESET_TILE` (R381): Requests a reset of one logical tile. -/
  | resetTile (t : TileId)
  /-- `RESET_BERTH` (R381): Requests a reset of one berth. -/
  | resetBerth (t : BerthId)
  /-- `RESET_BASIN` (R381): Requests a reset of one basin. -/
  | resetBasin (b : BasinId)
  /-- `RESET_DEVICE` (R381): Requests a reset of the whole device. -/
  | resetDevice
  /-- `RESET_DRAIN_END` (R382): Nothing remains at the boundary and the region is reset. -/
  | resetDrainEnd
  /-- `DRAIN_LIMIT` (R382): The drain limit expires and absorb applies to what remains. -/
  | drainLimit
  /-- `RESET_END` (R383): The region is cleared and zeroed and is released. -/
  | resetEnd
  /-- `ALARM_COLLECTION_END` (R400): The collection interval ends and the Lockkeeper tests, repairs and chooses replay or job end. -/
  | alarmCollectionEnd (b : BasinId)
  /-- `TARGETED_TEST_END` (R396): A trier's targeted test run ends, marking the fault lasting or transient. -/
  | targetedTestEnd (t : TileId) (cls : Fin 9) (lasting : Bool) (item : Nat)
  /-- `REPLAY_RELEASE` (R406): After preparation the replay is released, STOP clears and lock beat n repeats. -/
  | replayRelease (b : BasinId)
  /-- `REMAP` (R409): In a remap hold the new map is computed and tile states are moved by unload and load. -/
  | remap
  /-- `IDLE_WINDOW_SLICE` (R398): The trier tests a unit in a declared idle window. -/
  | idleWindowSlice (t : TileId) (cls : Fin 9) (ok : Bool) (item : Nat)
  /-- `TRIER_OVERDUE` (R399): A tile's due period plus grace expires. -/
  | trierOverdue (t : TileId)
  /-- `TRIER_PAUSE_REQUEST` (R399): Requests a trier-pause hold on the basin's next lock. -/
  | trierPauseRequest (b : BasinId)
  /-- `TRIER_PAUSE_DONE` (R399): Overdue tiles are tested or the pause limit runs out, and the hold is released. -/
  | trierPauseDone (b : BasinId) (tested : List TileId) (faults : List (TileId × Fin 9 × Nat))
  /-- `SNAPSHOT_REQUEST` (R421): An operator write requests an incremental or full snapshot. -/
  | snapshotRequest (b : BasinId) (kind : Bool)
  /-- `SNAPSHOT_INTERVAL` (R421): A basin's incremental or full interval expires and requests a snapshot. -/
  | snapshotInterval (b : BasinId) (full : Bool)
  /-- `RISK_EVALUATE` (R425): Every 1 s the risk score is computed. -/
  | riskEvaluate
  /-- `SNAPSHOT_START` (R422): When the cellar is free, a snapshot hold is placed on the basin's next snapshot-point lock. -/
  | snapshotStart
  /-- `SNAPSHOT_COPY` (R422): With the lock held and outbound barges completed, engines send state and rows to the cellar. -/
  | snapshotCopy (b : BasinId)
  /-- `SNAPSHOT_RELEASE` (R422): The last row enters the write buffer and the hold is released. -/
  | snapshotRelease (b : BasinId)
  /-- `SNAPSHOT_SECURED` (R422): The buffer flushes, the manifest is written and SNAP_DIRTY clears. -/
  | snapshotSecured (b : BasinId)
  /-- `RESTORE_LATEST` (R427): Restores a basin from its latest secured snapshot chain. -/
  | restoreLatest (b : BasinId) (bad : List Nat)
  /-- `RESTORE_OLDER_FULL` (R427): Restores a basin from its older full snapshot. -/
  | restoreOlderFull (b : BasinId) (bad : List Nat)
  /-- `RESTORE_DONE` (R428): Rows and state are written, numbers set, and the basin completes lock beat m. -/
  | restoreDone (b : BasinId) (media : Bool)
  /-- `BASIN_DEFINE` (R437): Defines a basin rectangle. -/
  | basinDefine (b : BasinId)
  /-- `BASIN_REMOVE` (R438): Removes a basin definition. -/
  | basinRemove (b : BasinId)
  /-- `UPDATE_ACTIVATE` (R444): Activates a staged verified image of the chosen kind. -/
  | updateActivate
  /-- `UPDATE_ROLLBACK` (R444): Reactivates the rollback image of the chosen kind. -/
  | updateRollback
  /-- `UPDATE_CANCEL` (R444): Cancels an update. -/
  | updateCancel
  /-- `LK_HANDOVER` (R445): A planned handover makes the standby Lockkeeper active. -/
  | lkHandover
  /-- `STANDBY_REBOOT_END` (R445): The updated standby completes reboot and resumes mirroring, or fails self-test. -/
  | standbyRebootEnd (ok : Bool)
  /-- `PORT_DRAIN_END` (R447): A port's drain finishes and its link controller restarts on the new image. -/
  | portDrainEnd (p : PortId)
  /-- `PORT_DRAIN_LIMIT` (R447): The port drain limit expires and the link update fails. -/
  | portDrainLimit (p : PortId)
  /-- `POWER_CTRL_RESTART_END` (R448): A field power controller finishes restarting on its new image. -/
  | powerCtrlRestartEnd (f : FieldId)
  /-- `DIGEST_DRAIN` (R461): The Lockkeeper drains tile digest rings and appends a basin record, checking for mismatch. -/
  | digestDrain (b : BasinId)
  /-- `DIGEST_ACK` (R473): Frees the n oldest records of a tile digest ring. -/
  | digestAck (t : TileId) (n : Nat)
  /-- `DIGEST_CAPTURE_ARM` (R462): Arms a capture of every tile digest at a given epoch. -/
  | digestCaptureArm (b : BasinId) (epoch : Word64)
  /-- `BANK_CAPTURE_ARM` (R462): Arms capture of one tile's sixteen bank digests. -/
  | bankCaptureArm (b : BasinId) (xy : BitVec 16)
  /-- `TRACE_MARK` (R469): A write to TRACE_MARK sends a MARK trace record. -/
  | traceMark (t : TileId) (val : Word32)
  /-- `HS_SEL_WRITE` (R468): Selects the lane for handshake counting and clears the counters. -/
  | hsSelWrite (t : TileId) (val : Word32)
  /-- `PROBE_SELECT` (R464): A multiplexer selection takes effect, driving the pin low for 8 ns. -/
  | probeSelect
  /-- `TRACE_STORE_CLEAR` (R474): Empties the trace store. -/
  | traceStoreClear
  /-- `BYPASS` (R471): TAP BYPASS instruction. -/
  | bypass
  /-- `IDCODE` (R471): TAP instruction returning the identification code. -/
  | idcode
  /-- `SAMPLE_PRELOAD` (R471): TAP SAMPLE/PRELOAD instruction. -/
  | samplePreload
  /-- `EXTEST` (R471): TAP EXTEST instruction driving the boundary register. -/
  | extest
  /-- `CLAMP` (R471): TAP CLAMP instruction. -/
  | clamp
  /-- `HIGHZ` (R471): TAP HIGHZ instruction. -/
  | highz
  /-- `REGISTER_WRITE` (R59): A write to a register or entry with no row of its own takes effect as its table states. -/
  | registerWrite (target : RegTarget) (val : Word64)
  /-- `REPORT_WINDOW_END` (R39): The report window of 0x2602.01 ends: pace rates, effective beat rates, PACE_SPREAD flags and every per-window counter and object are updated, and per-window IRQ merging and notice limits restart. -/
  | reportWindowEnd (m : List (BitVec 16 × BitVec 8 × Word64)) (seams : List (Fin 8 × BitVec 8))
  /-- `LANE_LOSS_OF_LOCK` (R258): A Voxvia lane loses lock and the port begins a retrain. -/
  | laneLossOfLock (p : PortId) (lane : Fin 8)
  /-- `PCIE_REFERENCE_LOST` (R491): The 100 MHz PCIe reference is lost and the endpoint behaves as for PERST_N until the reference returns and the link retrains. -/
  | pcieReferenceLost
  /-- `POUND_RAMP_DOWN_END` (R328): A commanded pound power-down finishes its 250 µs ramp, VPN falls below 0.1 V and the pound is off. -/
  | poundRampDownEnd (pd : PoundId)
  /-- `WEIR_BANK_RECHARGED` (R321): A pound's weir boost bank finishes recharging 2–4 µs after a droop and again holds its full charge. -/
  | weirBankRecharged (pd : PoundId)
  /-- `LINK_CONTROLLER_RESTART_END` (R447): A port's link controller finishes restarting on its new firmware, within 5 ms, and starts the retrain with a new link-up. -/
  | linkControllerRestartEnd (p : PortId) (ok : Bool)
  /-- `BUS_HOLDUP_END` (R313): After a power fail the 48 V bus stops holding up the off-die loads, so the Lockkeepers, cellar and management lose power. -/
  | busHoldupEnd
  deriving DecidableEq, Repr

end Sys2Proof
end

