-- ==== Sys2Proof/Decode.lean ====
section
/-! DEFINITION. The words that spell a command.  The table of operations and events gives no row any bits. -/

namespace Sys2Proof

/-- The command a word spells by the table's bits: none, since the table gives no row any bits. (DESIGN CHOICE, log 3) -/
def decodeTableWord (_nbits _w : Nat) : Option Instr := none

end Sys2Proof
end

