-- ==== Sys2Proof/Machine/Codes.lean ====
section
/-! DEFINITION. The codes of the device: Kolvos-276 (R145 to R147), the CRCs of the towpath, the links and
the digests (R221, R236, R245), and Philox4x32-10 (R132). -/

namespace Sys2Proof.Machine

/-- `n`, as a count of turns that is known only once `x` is: a loop over an unknown word is not unrolled. -/
def turns (n x : Nat) : Nat := n + (x - x)

/-- The remainder of the `n`-bit word `v`, appended below `rem`, modulo the polynomial `g` of degree `deg`. -/
def polyRem (g deg v : Nat) : Nat → Nat → Nat
  | 0, rem => rem
  | n + 1, rem =>
    let r := 2 * rem + v / 2 ^ n % 2
    polyRem g deg v n (if r < 2 ^ deg then r else r ^^^ g)

/-- `g(x) = (x + 1)² m₁(x) m₃(x)` of R145, with `m₁ = x⁹ + x⁴ + 1` and
`m₃ = x⁹ + x⁶ + x⁴ + x³ + 1`, the minimal polynomial of `α³`. -/
def kolvosPoly : Nat := 0x16C2ED

/-- The check bits of 256 data bits: `x²⁰ d(x) mod g(x)` (R145). -/
def kolvosCheck (d : Row) : BitVec 20 := BitVec.ofNat 20 (polyRem kolvosPoly 20 (d.toNat * 2 ^ 20) (turns 276 d.toNat) 0)

/-- The codeword that stores a row: data bit `i` is bit `i`, check bit `j` is bit `256 + j` (R145). -/
def kolvosEncode (d : Row) : CodeWord := (kolvosCheck d) ++ d

/-- The data bits of a stored word. -/
def cwData (w : CodeWord) : Row := w.extractLsb' 0 256

/-- The check bits of a stored word. -/
def cwCheck (w : CodeWord) : BitVec 20 := w.extractLsb' 256 20

/-- The syndrome of a received word, its remainder modulo `g` (R145). -/
def kolvosSyndrome (w : CodeWord) : Nat := (kolvosCheck (cwData w)).toNat ^^^ (cwCheck w).toNat

/-- The check bits of the poison word (R146). -/
def poisonCheck : BitVec 20 := 0x5A6C3#20

/-- The poison word: all data bits zero, check bits P (R146). -/
def poisonWord : CodeWord := poisonCheck ++ (0 : Row)

/-- `xⁱ mod g` for the positions `i < n`, in rising order. -/
def kolvosPowers : Nat → Nat → List Nat
  | 0, _ => []
  | n + 1, p => p :: kolvosPowers n (if 2 * p < 2 ^ 20 then 2 * p else (2 * p) ^^^ kolvosPoly)

/-- The first position from `i` on whose power equals `s`. -/
def findPower (s : Nat) : List Nat → Nat → Option Nat
  | [], _ => none
  | p :: rest, i => if p = s then some i else findPower s rest (i + 1)

/-- The pair of positions whose powers sum to `s`. -/
def findPair (s : Nat) : List Nat → Nat → Option (Nat × Nat)
  | [], _ => none
  | p :: rest, i =>
    match findPower (s ^^^ p) rest (i + 1) with
    | some j => some (i, j)
    | none => findPair s rest (i + 1)

/-- What a Kolvos decoder finds (R147, R180). -/
inductive Decoded where
  | good (d : Row)
  | corrected (d : Row) (bits : Nat)
  | poison
  | uncorrectable
  deriving DecidableEq, Repr

/-- Flips the codeword bit at polynomial position `p`: positions 0 to 19 are check bits, 20 on data bits. -/
def flipAt (w : CodeWord) (p : Nat) : CodeWord :=
  w ^^^ BitVec.ofNat 276 (2 ^ (if p < 20 then 256 + p else p - 20))

/-- The four outcomes of R147: good, corrected after a 1-bit or 2-bit error, the exact poison word, or uncorrectable. -/
def kolvosDecode (w : CodeWord) : Decoded :=
  let s := kolvosSyndrome w
  if s = 0 then .good (cwData w)
  else if s = poisonCheck.toNat then (if cwData w = 0 then .poison else .uncorrectable)
  else
    let ps := kolvosPowers 276 1
    match findPower s ps 0 with
    | some i => .corrected (cwData (flipAt w i)) 1
    | none =>
      match findPair s ps 0 with
      | some (i, j) => .corrected (cwData (flipAt (flipAt w i) j)) 2
      | none => .uncorrectable

/-- The row a decoder delivers: a poisoned or uncorrectable word delivers all-zero data (R146). -/
def Decoded.row : Decoded → Row
  | .good d => d
  | .corrected d _ => d
  | .poison => 0
  | .uncorrectable => 0

/-- Whether the delivered row carries the poison indication (R147). -/
def Decoded.poisoned : Decoded → Bool
  | .good _ => false
  | .corrected _ _ => false
  | .poison => true
  | .uncorrectable => true

/-- One byte of a CRC of width `w` and polynomial `g`, most significant bit first. -/
def crcByte (w g : Nat) : Nat → Nat → Nat → Nat
  | 0, _, crc => crc
  | n + 1, b, crc =>
    let fb := (crc / 2 ^ (w - 1)) % 2 != b / 2 ^ n % 2
    let c := 2 * crc % 2 ^ w
    crcByte w g n b (if fb then c ^^^ g else c)

/-- A CRC over bytes, most significant bit of each byte first. -/
def crcBytes (w g : Nat) (bytes : List Nat) (init : Nat) : Nat :=
  bytes.foldl (fun c b => crcByte w g (turns 8 b) b c) init

/-- The low `n` bytes of `v`, byte 0 first. -/
def bytesOf (v : Nat) : Nat → List Nat
  | 0 => []
  | n + 1 => v % 256 :: bytesOf (v / 256) n

/-- The running state of the CRC-64 of R245, before the final inversion. -/
def crc64Step (crc : Nat) (bytes : List Nat) : Nat := crcBytes 64 0x42F0E1EBA9EA3693 bytes crc

/-- CRC-64 with the ECMA-182 polynomial, initial value all ones, no reflection, final value inverted (R245). -/
def crc64 (bytes : List Nat) : Nat :=
  crc64Step 0xFFFFFFFFFFFFFFFF bytes ^^^ 0xFFFFFFFFFFFFFFFF

/-- The header check of a flit: `x⁸ + x² + x + 1`, initial value 0, over header bits 43 to 8, most significant first. -/
def hcrc (hdr : Nat) : Nat := polyRem 0x107 8 (hdr / 256 % 2 ^ 36 * 256) (turns 44 hdr) 0

/-- The eight bits of a byte reversed. -/
def revByte (b : Nat) : Nat :=
  (List.range (turns 8 b)).foldl (fun acc i => acc + b / 2 ^ i % 2 * 2 ^ (7 - i)) 0

/-- The 32 bits of a word reversed. -/
def rev32 (v : Nat) : Nat :=
  (List.range (turns 32 v)).foldl (fun acc i => acc + v / 2 ^ i % 2 * 2 ^ (31 - i)) 0

/-- CRC-32 with the IEEE 802.3 polynomial (R221), in that standard's own form: reflected bytes, initial value all
ones, reflected and inverted result. -/
def crc32 (bytes : List Nat) : Nat :=
  rev32 (crcBytes 32 0x04C11DB7 (bytes.map revByte) 0xFFFFFFFF) ^^^ 0xFFFFFFFF

/-- One Philox4x32 round (R132). -/
def philoxRound (c : Nat × Nat × Nat × Nat) (k0 k1 : Nat) : Nat × Nat × Nat × Nat :=
  let (c0, c1, c2, c3) := c
  let p0 := c0 * 0xD2511F53
  let p1 := c2 * 0xCD9E8D57
  ((p1 / 2 ^ 32) ^^^ c1 ^^^ k0, p1 % 2 ^ 32, (p0 / 2 ^ 32) ^^^ c3 ^^^ k1, p0 % 2 ^ 32)

/-- `n` rounds, the key bumped by the Weyl constants between rounds. -/
def philoxRounds : Nat → Nat × Nat × Nat × Nat → Nat → Nat → Nat × Nat × Nat × Nat
  | 0, c, _, _ => c
  | n + 1, c, k0, k1 =>
    philoxRounds n (philoxRound c k0 k1) ((k0 + 0x9E3779B9) % 2 ^ 32) ((k1 + 0xBB67AE85) % 2 ^ 32)

/-- Philox4x32-10 of a 128-bit counter and a 64-bit key, as a 128-bit number with word 0 least significant. -/
def philox (ctr key : Nat) : Nat :=
  let (a, b, c, d) := philoxRounds (turns 10 ctr)
    (ctr % 2 ^ 32, ctr / 2 ^ 32 % 2 ^ 32, ctr / 2 ^ 64 % 2 ^ 32, ctr / 2 ^ 96 % 2 ^ 32) (key % 2 ^ 32) (key / 2 ^ 32 % 2 ^ 32)
  a + b * 2 ^ 32 + c * 2 ^ 64 + d * 2 ^ 96

/-- The 1,024-bit block of one draw: instances `j = 0` to `7` at counter `C + j` (R132). -/
def drawBlock (ctr key : Nat) : VReg :=
  BitVec.ofNat 1024 ((List.range (turns 8 ctr)).foldl (fun acc j => acc + philox ((ctr + j) % 2 ^ 128) key * 2 ^ (128 * j)) 0)

end Sys2Proof.Machine
end

