-- ==== Sys2Proof/Machine/Objs.lean ====
section
/-! DEFINITION. The object dictionary (R288, R296): one descriptor per row of the spec's object tables. -/

namespace Sys2Proof.Machine

/-- A row of an object table: first index and count of indices, first subindex and count, data type (1, 2, 4, 8: unsigned
of that many bytes; 9 REAL32; 10 INTEGER32; 11 VISIBLE_STRING; 12 OCTET_STRING), access (0 RO, 1 RW, 2 RWL, 3 RW in
PREOP), default, and range, as bit patterns. -/
structure ObjDesc where
  index : Nat
  indices : Nat
  sub : Nat
  subs : Nat
  ty : Nat
  acc : Nat
  dflt : Nat
  lo : Nat
  hi : Nat
  deriving DecidableEq, Repr

/-- The object tables of chapter 02. -/
def lockObjs : List ObjDesc := [
  ⟨0x2600, 1, 1, 8, 9, 0, 0x0, 0x0, 0xFFFFFFFF⟩,  -- Field pace pulse rate, F0–F7
  ⟨0x2601, 1, 1, 8, 1, 0, 0x0, 0x0, 0xFF⟩,  -- Field phase spread, largest in window, F0–F7
  ⟨0x2601, 1, 9, 1, 1, 0, 0x0, 0x0, 0xFF⟩,  -- PACE_SPREAD warning flags, bit f for field Ff
  ⟨0x2602, 1, 1, 1, 2, 1, 0x1, 0x1, 0x3E8⟩,  -- Report window
  ⟨0x2610, 16, 1, 1, 8, 0, 0x0, 0x0, 0xFFFFFFFFFFFFFFFF⟩,  -- Epoch number
  ⟨0x2610, 16, 2, 1, 8, 0, 0x0, 0x0, 0xFFFFFFFFFFFFFFFF⟩,  -- Lock count
  ⟨0x2610, 16, 3, 1, 4, 0, 0x0, 0x0, 0xFFFFFFFF⟩,  -- Beat within current epoch, lowest tile
  ⟨0x2610, 16, 4, 1, 8, 0, 0x0, 0x0, 0xFFFFFFFFFFFFFFFF⟩,  -- Basin beat count
  ⟨0x2610, 16, 5, 1, 4, 0, 0x0, 0x0, 0xFFFFFFFF⟩,  -- Length of last completed epoch
  ⟨0x2610, 16, 6, 1, 9, 0, 0x0, 0x0, 0xFFFFFFFF⟩,  -- Effective beat rate
  ⟨0x2610, 16, 7, 1, 4, 0, 0x0, 0x0, 0xFFFFFFFF⟩,  -- Held pulses in last epoch, largest tile
  ⟨0x2610, 16, 8, 1, 2, 0, 0x0, 0x0, 0xFFFF⟩,  -- Lock waves at last lock
  ⟨0x2610, 16, 9, 1, 4, 0, 0x0, 0x0, 0xFFFFFFFF⟩,  -- EPOCH_LEAK count
  ⟨0x2610, 16, 10, 1, 4, 0, 0x0, 0x0, 0xFFFFFFFF⟩,  -- BEAT_MISMATCH count
  ⟨0x2610, 16, 11, 1, 1, 0, 0x0, 0x0, 0xFF⟩,  -- Lock state
  ⟨0x2610, 16, 12, 1, 8, 0, 0x0, 0x0, 0xFFFFFFFFFFFFFFFF⟩  -- Target lock of oldest unapplied batch; 0 when none
  ]

/-- The object tables of chapter 06. -/
def scrubObjs : List ObjDesc := [
  ⟨0x2700, 1, 1, 1, 2, 1, 0x3C, 0x1, 0xE10⟩,  -- Patrol scrub period
  ⟨0x2700, 1, 2, 1, 8, 0, 0x0, 0x0, 0xFFFFFFFFFFFFFFFF⟩,  -- 1-bit corrections, whole device
  ⟨0x2700, 1, 3, 1, 8, 0, 0x0, 0x0, 0xFFFFFFFFFFFFFFFF⟩,  -- 2-bit corrections, whole device
  ⟨0x2700, 1, 4, 1, 8, 0, 0x0, 0x0, 0xFFFFFFFFFFFFFFFF⟩,  -- Uncorrectable reads, whole device
  ⟨0x2700, 1, 5, 1, 4, 0, 0x0, 0x0, 0xFFFFFFFF⟩,  -- Rows remapped in service since ready
  ⟨0x2700, 1, 6, 1, 2, 0, 0x0, 0x0, 0xFFFF⟩,  -- Banks asleep
  ⟨0x2700, 1, 7, 1, 8, 0, 0x0, 0x0, 0xFFFFFFFFFFFFFFFF⟩,  -- BANK_ASLEEP rejections, whole device
  ⟨0x2700, 1, 8, 1, 8, 0, 0x0, 0x0, 0xFFFFFFFFFFFFFFFF⟩  -- Port collisions, whole device
  ]

/-- The object tables of chapter 07. -/
def meshObjs : List ObjDesc := [
  ⟨0x2620, 1, 1, 16, 4, 1, 0xFA0, 0x3E8, 0x5F5E100⟩,  -- Sentinel limit, basins 0–15
  ⟨0x2621, 1, 1, 1, 4, 0, 0x0, 0x0, 0xFFFFFFFF⟩,  -- STALL count
  ⟨0x2621, 1, 2, 1, 1, 0, 0x0, 0x0, 0xFF⟩,  -- Last STALL record
  ⟨0x2621, 1, 3, 1, 2, 0, 0x0, 0x0, 0xFFFF⟩,  -- Root tile
  ⟨0x2621, 1, 4, 1, 1, 0, 0x0, 0x0, 0xFF⟩,  -- Root cause code
  ⟨0x2621, 1, 5, 1, 1, 0, 0x0, 0x0, 0xFF⟩,  -- Root incoming lanes expected and not presented
  ⟨0x2621, 1, 6, 1, 1, 0, 0x0, 0x0, 0xFF⟩,  -- Root outgoing lanes awaiting acknowledge
  ⟨0x2621, 1, 7, 1, 4, 0, 0x0, 0x0, 0xFFFFFFFF⟩,  -- Root tile's epoch beat
  ⟨0x2621, 1, 8, 1, 8, 0, 0x0, 0x0, 0xFFFFFFFFFFFFFFFF⟩,  -- Epoch number
  ⟨0x2621, 1, 9, 1, 2, 0, 0x0, 0x0, 0xFFFF⟩,  -- Tiles stalled in basin
  ⟨0x2621, 1, 10, 1, 1, 0, 0x0, 0x0, 0xFF⟩,  -- Root bank, or barrier number
  ⟨0x2621, 1, 11, 1, 1, 0, 0x0, 0x0, 0xFF⟩,  -- Cycle flag
  ⟨0x2622, 1, 1, 1, 8, 0, 0x0, 0x0, 0xFFFFFFFFFFFFFFFF⟩,  -- Hop corrections, whole device
  ⟨0x2622, 1, 2, 1, 8, 0, 0x0, 0x0, 0xFFFFFFFFFFFFFFFF⟩,  -- Hop uncorrectable, whole device
  ⟨0x2622, 1, 3, 1, 8, 0, 0x0, 0x0, 0xFFFFFFFFFFFFFFFF⟩,  -- Foreign tokens, whole device
  ⟨0x2622, 1, 4, 1, 8, 0, 0x0, 0x0, 0xFFFFFFFFFFFFFFFF⟩,  -- Fence drops, whole device
  ⟨0x2622, 1, 5, 1, 8, 0, 0x0, 0x0, 0xFFFFFFFFFFFFFFFF⟩,  -- Sideband errors, whole device
  ⟨0x2630, 1, 1, 1, 2, 1, 0x0, 0x0, 0x327⟩,  -- Seam lane selected
  ⟨0x2630, 1, 2, 1, 1, 0, 0x0, 0x0, 0xFF⟩,  -- Spares in use, selected lane
  ⟨0x2630, 1, 3, 8, 2, 0, 0xFFFF, 0x0, 0xFFFF⟩,  -- Failed wire 1–8, selected lane; 0xFFFF none
  ⟨0x2630, 1, 11, 1, 1, 0, 0x0, 0x0, 0xFF⟩,  -- Lane state
  ⟨0x2630, 1, 12, 1, 2, 0, 0x0, 0x0, 0xFFFF⟩,  -- Corrections on the worst wire in the current window
  ⟨0x2630, 1, 13, 1, 4, 0, 0x0, 0x0, 0xFFFFFFFF⟩,  -- Handshake disagreements, selected lane
  ⟨0x2631, 1, 1, 1, 2, 0, 0x0, 0x0, 0xFFFF⟩,  -- Seam lanes with one or more spares in use
  ⟨0x2631, 1, 2, 1, 2, 0, 0x0, 0x0, 0xFFFF⟩,  -- Seam lanes retired
  ⟨0x2631, 1, 3, 1, 4, 0, 0x0, 0x0, 0xFFFFFFFF⟩,  -- Seam wires failed in service since ready
  ⟨0x2631, 1, 4, 1, 1, 1, 0x8, 0x2, 0x40⟩,  -- Wire failure threshold
  ⟨0x2631, 1, 5, 1, 4, 1, 0x10000, 0x1000, 0x100000⟩  -- Wire monitoring window
  ]

/-- The object tables of chapter 08. -/
def towpathObjs : List ObjDesc := [
  ⟨0x2640, 1, 1, 1, 8, 0, 0x0, 0x0, 0xFFFFFFFFFFFFFFFF⟩,  -- Parity retries, whole device
  ⟨0x2640, 1, 2, 1, 8, 0, 0x0, 0x0, 0xFFFFFFFFFFFFFFFF⟩,  -- Messages discarded, whole device
  ⟨0x2640, 1, 3, 1, 8, 0, 0x0, 0x0, 0xFFFFFFFFFFFFFFFF⟩,  -- Alarms received
  ⟨0x2640, 1, 4, 1, 4, 0, 0x0, 0x0, 0xFFFFFFFF⟩,  -- Alarms lost to overflow
  ⟨0x2640, 1, 5, 1, 4, 0, 0x0, 0x0, 0xFFFFFFFF⟩,  -- BAR_ORPHAN
  ⟨0x2640, 1, 6, 1, 4, 0, 0x0, 0x0, 0xFFFFFFFF⟩,  -- BAR_FORM events
  ⟨0x2641, 1, 1, 1, 1, 0, 0x0, 0x0, 0xFF⟩,  -- Staged image identifier
  ⟨0x2641, 1, 2, 1, 2, 0, 0x0, 0x0, 0xFFFF⟩,  -- Chunks in staged image
  ⟨0x2641, 1, 3, 1, 2, 0, 0x0, 0x0, 0xFFFF⟩,  -- Tiles not verified, last query
  ⟨0x2641, 1, 4, 1, 2, 0, 0x0, 0x0, 0xFFFF⟩,  -- Chunks missing somewhere, last query round
  ⟨0x2641, 1, 5, 1, 4, 0, 0x0, 0x0, 0xFFFFFFFF⟩,  -- Unicast repairs sent
  ⟨0x2641, 1, 6, 1, 2, 1, 0x40, 0x1, 0x900⟩,  -- Rebroadcast threshold
  ⟨0x2641, 1, 7, 1, 8, 0, 0x0, 0x0, 0xFFFFFFFFFFFFFFFF⟩,  -- Activation target lock
  ⟨0x2641, 1, 8, 1, 1, 0, 0x0, 0x0, 0xFF⟩  -- Broadcast state
  ]

/-- The object tables of chapter 09. -/
def linkObjs : List ObjDesc := [
  ⟨0x2400, 64, 1, 1, 1, 0, 0x0, 0x0, 0xFF⟩,  -- Port state
  ⟨0x2400, 64, 2, 1, 1, 1, 0x1, 0x0, 0x1⟩,  -- Port enable
  ⟨0x2400, 64, 3, 1, 1, 0, 0x0, 0x0, 0xFF⟩,  -- Lane mode in force
  ⟨0x2400, 64, 4, 1, 2, 0, 0x0, 0x0, 0xFFFF⟩,  -- Lanes in use
  ⟨0x2400, 64, 5, 1, 1, 1, 0x4, 0x0, 0xFF⟩,  -- Lane-mode floor
  ⟨0x2400, 64, 6, 1, 2, 0, 0x0, 0x0, 0xFFFF⟩,  -- Voxvia version in force
  ⟨0x2400, 64, 7, 1, 8, 0, 0x0, 0x0, 0xFFFFFFFFFFFFFFFF⟩,  -- Peer module identifier
  ⟨0x2400, 64, 8, 1, 1, 0, 0x0, 0x0, 0xFF⟩,  -- Peer port number
  ⟨0x2400, 64, 9, 1, 9, 0, 0x0, 0x0, 0xFFFFFFFF⟩,  -- Pre-FEC BER, worst lane in use
  ⟨0x2400, 64, 10, 1, 8, 0, 0x0, 0x0, 0xFFFFFFFFFFFFFFFF⟩,  -- Corrected codewords
  ⟨0x2400, 64, 11, 1, 8, 0, 0x0, 0x0, 0xFFFFFFFFFFFFFFFF⟩,  -- Uncorrectable codewords
  ⟨0x2400, 64, 12, 1, 8, 0, 0x0, 0x0, 0xFFFFFFFFFFFFFFFF⟩,  -- Flits replayed
  ⟨0x2400, 64, 13, 1, 4, 0, 0x0, 0x0, 0xFFFFFFFF⟩,  -- Retrains
  ⟨0x2400, 64, 14, 1, 8, 0, 0x0, 0x0, 0xFFFFFFFFFFFFFFFF⟩,  -- Kolvos corrections on receive
  ⟨0x2400, 64, 15, 1, 4, 2, 0x0, 0x0, 0xFFFFFFFF⟩,  -- Descriptor window
  ⟨0x2400, 64, 16, 1, 2, 1, 0x7D0, 0xC8, 0xC350⟩,  -- ACK_TIMEOUT
  ⟨0x2400, 64, 17, 1, 8, 0, 0x0, 0x0, 0xFFFFFFFFFFFFFFFF⟩,  -- Barges sent
  ⟨0x2400, 64, 18, 1, 8, 0, 0x0, 0x0, 0xFFFFFFFFFFFFFFFF⟩,  -- Barges received
  ⟨0x2400, 64, 19, 1, 8, 0, 0x0, 0x0, 0xFFFFFFFFFFFFFFFF⟩,  -- Rows landed
  ⟨0x2400, 64, 20, 1, 8, 0, 0x0, 0x0, 0xFFFFFFFFFFFFFFFF⟩,  -- Rows sent
  ⟨0x2400, 64, 21, 1, 4, 0, 0x0, 0x0, 0xFFFFFFFF⟩,  -- Duplicates suppressed
  ⟨0x2400, 64, 22, 1, 4, 0, 0x0, 0x0, 0xFFFFFFFF⟩,  -- DUP_MISMATCH count
  ⟨0x2400, 64, 23, 1, 4, 0, 0x0, 0x0, 0xFFFFFFFF⟩,  -- SEQ_GAP count
  ⟨0x2400, 64, 24, 1, 4, 0, 0x0, 0x0, 0xFFFFFFFF⟩,  -- LATE, UNBOUND, BAD_TARGET and MALFORMED count
  ⟨0x2400, 64, 25, 1, 4, 0, 0x0, 0x0, 0xFFFFFFFF⟩,  -- Rows accepted as poison
  ⟨0x2400, 64, 26, 1, 8, 0, 0x0, 0x0, 0xFFFFFFFFFFFFFFFF⟩,  -- Credit-stall time, transmit
  ⟨0x2400, 64, 27, 1, 2, 0, 0x0, 0x0, 0xFFFF⟩,  -- Absent attachment indices of the port's block, bit i for att
  ⟨0x2450, 1, 1, 1, 2, 1, 0x0, 0x0, 0xFFFF⟩,  -- Channel selected
  ⟨0x2450, 1, 2, 1, 4, 1, 0x0, 0x0, 0xFFFFFFFF⟩,  -- Next transmit sequence number
  ⟨0x2450, 1, 3, 1, 4, 1, 0x0, 0x0, 0xFFFFFFFF⟩,  -- Expected receive sequence number e
  ⟨0x2450, 1, 4, 1, 4, 0, 0x0, 0x0, 0xFFFFFFFF⟩,  -- Last reported outbound sequence number
  ⟨0x2450, 1, 5, 1, 1, 0, 0x0, 0x0, 0xFF⟩,  -- Channel state
  ⟨0x2450, 1, 6, 1, 1, 0, 0x0, 0x0, 0xFF⟩,  -- Barges in progress, transmit
  ⟨0x2451, 1, 1, 1, 1, 0, 0x1, 0x0, 0xFF⟩,  -- Voxvia major version supported
  ⟨0x2451, 1, 2, 1, 2, 0, 0x200, 0x0, 0xFFFF⟩,  -- Voxvia minor versions supported
  ⟨0x2451, 1, 3, 1, 1, 0, 0x0, 0x0, 0xFF⟩,  -- Ports READY
  ⟨0x2451, 1, 4, 1, 1, 0, 0x0, 0x0, 0xFF⟩,  -- Ports below x8
  ⟨0x2451, 1, 5, 1, 9, 0, 0x0, 0x0, 0xFFFFFFFF⟩,  -- Row bandwidth received, whole device
  ⟨0x2451, 1, 6, 1, 9, 0, 0x0, 0x0, 0xFFFFFFFF⟩  -- Row bandwidth sent, whole device
  ]

/-- The object tables of chapter 10. -/
def hostIfObjs : List ObjDesc := [
  ⟨0x2500, 1, 1, 1, 1, 1, 0x0, 0x0, 0x1⟩,  -- Host mailbox access
  ⟨0x2500, 1, 2, 1, 2, 0, 0x0, 0x0, 0xFFFF⟩,  -- PCIe link
  ⟨0x2500, 1, 3, 1, 8, 0, 0x0, 0x0, 0xFFFFFFFFFFFFFFFF⟩,  -- Rows landed from host
  ⟨0x2500, 1, 4, 1, 8, 0, 0x0, 0x0, 0xFFFFFFFFFFFFFFFF⟩,  -- Rows written to host
  ⟨0x2500, 1, 5, 1, 4, 0, 0x0, 0x0, 0xFFFFFFFF⟩,  -- Host read errors
  ⟨0x2500, 1, 6, 1, 1, 0, 0x0, 0x0, 0xFF⟩,  -- Host attachment tiles absent, bit i for Hi, under R375
  ⟨0x2501, 1, 1, 4, 4, 2, 0x0, 0x0, 0xFFFFFFFF⟩,  -- Host descriptor window, H0–H3
  ⟨0x2510, 128, 1, 1, 4, 2, 0x0, 0x0, 0xFFFFFFFF⟩,  -- Slot binding
  ⟨0x2510, 128, 2, 1, 4, 2, 0x0, 0x0, 0x1000000⟩,  -- Quota
  ⟨0x2510, 128, 3, 1, 8, 0, 0x0, 0x0, 0xFFFFFFFFFFFFFFFF⟩,  -- Committed cursor
  ⟨0x2510, 128, 4, 1, 8, 0, 0x0, 0x0, 0xFFFFFFFFFFFFFFFF⟩,  -- Entries completed
  ⟨0x2510, 128, 5, 1, 4, 0, 0x0, 0x0, 0xFFFFFFFF⟩  -- Held time waiting on this slot, last epoch
  ]

/-- The object tables of chapter 11. -/
def mgmtObjs : List ObjDesc := [
  ⟨0x6000, 1, 1, 1, 2, 0, 0x0, 0x0, 0xFFFF⟩,  -- State word
  ⟨0x6000, 1, 2, 1, 2, 0, 0x0, 0x0, 0xFFFF⟩,  -- Alarms received, mod 65,536
  ⟨0x6000, 1, 3, 1, 2, 0, 0x0, 0x0, 0xFFFF⟩,  -- Risk score
  ⟨0x6000, 1, 4, 1, 1, 0, 0x0, 0x0, 0xFF⟩,  -- Active Lockkeeper
  ⟨0x6000, 1, 5, 1, 1, 0, 0x0, 0x0, 0xFF⟩,  -- Basins running
  ⟨0x6000, 1, 6, 1, 4, 0, 0x0, 0x0, 0xFFFFFFFF⟩,  -- Latch count, mod 2³²
  ⟨0x6010, 1, 1, 1, 9, 0, 0x7FC00000, 0x0, 0xFFFFFFFF⟩,  -- Module input power
  ⟨0x6010, 1, 2, 1, 9, 0, 0x7FC00000, 0x0, 0xFFFFFFFF⟩,  -- Input voltage
  ⟨0x6010, 1, 3, 1, 9, 0, 0x7FC00000, 0x0, 0xFFFFFFFF⟩,  -- Input current
  ⟨0x6010, 1, 4, 1, 9, 0, 0x7FC00000, 0x0, 0xFFFFFFFF⟩,  -- Die power, measured
  ⟨0x6010, 1, 5, 1, 9, 0, 0x7FC00000, 0x0, 0xFFFFFFFF⟩,  -- Die power, estimated
  ⟨0x6010, 1, 6, 1, 9, 0, 0x7FC00000, 0x0, 0xFFFFFFFF⟩,  -- Chip budget in force
  ⟨0x6020, 1, 1, 40, 9, 0, 0x7FC00000, 0x0, 0xFFFFFFFF⟩,  -- VPN current, PD00–PD39
  ⟨0x6025, 1, 1, 40, 9, 0, 0x7FC00000, 0x0, 0xFFFFFFFF⟩,  -- VPN peak 8 µs current in window, PD00–PD39
  ⟨0x6030, 1, 1, 40, 9, 0, 0x7FC00000, 0x0, 0xFFFFFFFF⟩,  -- VPM current, PD00–PD39
  ⟨0x6035, 1, 1, 40, 9, 0, 0x7FC00000, 0x0, 0xFFFFFFFF⟩,  -- VPM peak 8 µs current in window, PD00–PD39
  ⟨0x6040, 1, 1, 6, 9, 0, 0x7FC00000, 0x0, 0xFFFFFFFF⟩,  -- Rail current
  ⟨0x6050, 1, 1, 1, 9, 0, 0x7FC00000, 0x0, 0xFFFFFFFF⟩,  -- Hottest tile Tj, whole die
  ⟨0x6050, 1, 2, 8, 9, 0, 0x7FC00000, 0x0, 0xFFFFFFFF⟩,  -- Hottest tile Tj, F0–F7
  ⟨0x6060, 1, 1, 16, 4, 0, 0x0, 0x0, 0xFFFFFFFF⟩,  -- Lock slack, basins 0–15
  ⟨0x6070, 1, 1, 16, 9, 0, 0x0, 0x0, 0xFFFFFFFF⟩,  -- Effective beat rate, basins 0–15
  ⟨0x7000, 1, 1, 1, 9, 1, 0x46192000, 0x0, 0x46192000⟩,  -- Chip budget
  ⟨0x7000, 1, 2, 1, 4, 1, 0x0, 0x0, 0xFFFFFFFF⟩,  -- Set-point sequence
  ⟨0x1000, 1, 0, 1, 4, 0, 0x0, 0x0, 0xFFFFFFFF⟩,  -- Device type
  ⟨0x1001, 1, 0, 1, 1, 0, 0x0, 0x0, 0xFF⟩,  -- Error register
  ⟨0x1008, 1, 0, 1, 11, 0, 0x0, 0x0, 0x0⟩,  -- Device name
  ⟨0x1009, 1, 0, 1, 11, 0, 0x0, 0x0, 0x0⟩,  -- Hardware version
  ⟨0x100A, 1, 0, 1, 11, 0, 0x0, 0x0, 0x0⟩,  -- Software version, active Lockkeeper
  ⟨0x1018, 1, 1, 1, 4, 0, 0x0, 0x0, 0xFFFFFFFF⟩,  -- Vendor ID
  ⟨0x1018, 1, 2, 1, 4, 0, 0x5C080048, 0x0, 0xFFFFFFFF⟩,  -- Product code
  ⟨0x1018, 1, 3, 1, 4, 0, 0x0, 0x0, 0xFFFFFFFF⟩,  -- Revision
  ⟨0x1018, 1, 4, 1, 4, 0, 0x0, 0x0, 0xFFFFFFFF⟩,  -- Serial number
  ⟨0x10F1, 1, 1, 1, 4, 1, 0x0, 0x0, 0x0⟩,  -- Local error reaction
  ⟨0x10F1, 1, 2, 1, 4, 1, 0xA, 0x1, 0x3E8⟩,  -- Sync error limit
  ⟨0x1600, 2, 0, 65, 4, 3, 0x0, 0x0, 0xFFFFFFFF⟩,  -- RxPDO mapping
  ⟨0x1A00, 8, 0, 65, 4, 3, 0x0, 0x0, 0xFFFFFFFF⟩,  -- TxPDO mapping
  ⟨0x1C00, 1, 1, 1, 1, 0, 0x1, 0x0, 0xFF⟩,  -- SyncManager types: 1, 2, 3, 4
  ⟨0x1C00, 1, 2, 1, 1, 0, 0x2, 0x0, 0xFF⟩,  -- SyncManager types: 1, 2, 3, 4
  ⟨0x1C00, 1, 3, 1, 1, 0, 0x3, 0x0, 0xFF⟩,  -- SyncManager types: 1, 2, 3, 4
  ⟨0x1C00, 1, 4, 1, 1, 0, 0x4, 0x0, 0xFF⟩,  -- SyncManager types: 1, 2, 3, 4
  ⟨0x1C12, 1, 1, 1, 2, 3, 0x1600, 0x1600, 0x1601⟩,  -- RxPDO assignment
  ⟨0x1C12, 1, 2, 1, 2, 3, 0x0, 0x1600, 0x1601⟩,  -- RxPDO assignment
  ⟨0x1C13, 1, 1, 1, 2, 3, 0x1A00, 0x1A00, 0x1A07⟩,  -- TxPDO assignment
  ⟨0x1C13, 1, 2, 1, 2, 3, 0x1A01, 0x1A00, 0x1A07⟩,  -- TxPDO assignment
  ⟨0x1C13, 1, 3, 1, 2, 3, 0x1A02, 0x1A00, 0x1A07⟩,  -- TxPDO assignment
  ⟨0x1C13, 1, 4, 1, 2, 3, 0x1A03, 0x1A00, 0x1A07⟩,  -- TxPDO assignment
  ⟨0x1C13, 1, 5, 1, 2, 3, 0x1A04, 0x1A00, 0x1A07⟩,  -- TxPDO assignment
  ⟨0x1C13, 1, 6, 1, 2, 3, 0x1A05, 0x1A00, 0x1A07⟩,  -- TxPDO assignment
  ⟨0x1C13, 1, 7, 1, 2, 3, 0x1A06, 0x1A00, 0x1A07⟩,  -- TxPDO assignment
  ⟨0x1C13, 1, 8, 1, 2, 3, 0x0, 0x1A00, 0x1A07⟩,  -- TxPDO assignment
  ⟨0x1C32, 1, 1, 1, 2, 3, 0x0, 0x0, 0x2⟩,  -- Sync mode
  ⟨0x1C32, 1, 2, 1, 4, 3, 0xF4240, 0x0, 0xFFFFFFFF⟩,  -- Cycle time
  ⟨0x1C32, 1, 3, 1, 4, 3, 0x0, 0x0, 0xFFFFFFFF⟩,  -- Output shift time
  ⟨0x1C32, 1, 4, 1, 2, 0, 0x7, 0x0, 0xFFFF⟩,  -- Sync modes supported
  ⟨0x1C32, 1, 5, 1, 4, 0, 0x3D090, 0x0, 0xFFFFFFFF⟩,  -- Minimum cycle time
  ⟨0x1C32, 1, 11, 1, 2, 0, 0x0, 0x0, 0xFFFF⟩,  -- Sync errors
  ⟨0x1C32, 1, 12, 1, 2, 0, 0x0, 0x0, 0xFFFF⟩,  -- Cycle time too small
  ⟨0x1C32, 1, 32, 1, 1, 0, 0x0, 0x0, 0xFF⟩,  -- Sync error
  ⟨0x1C33, 1, 1, 1, 2, 0, 0x0, 0x0, 0x2⟩,  -- As 0x1C32, for inputs; .01–.03 follow 0x1C32
  ⟨0x1C33, 1, 2, 1, 4, 0, 0xF4240, 0x0, 0xFFFFFFFF⟩,  -- As 0x1C32, for inputs; .01–.03 follow 0x1C32
  ⟨0x1C33, 1, 3, 1, 4, 0, 0x0, 0x0, 0xFFFFFFFF⟩,  -- As 0x1C32, for inputs; .01–.03 follow 0x1C32
  ⟨0x1C33, 1, 4, 1, 2, 0, 0x7, 0x0, 0xFFFF⟩,  -- As 0x1C32, for inputs; .01–.03 follow 0x1C32
  ⟨0x1C33, 1, 5, 1, 4, 0, 0x3D090, 0x0, 0xFFFFFFFF⟩,  -- As 0x1C32, for inputs; .01–.03 follow 0x1C32
  ⟨0x1C33, 1, 11, 1, 2, 0, 0x0, 0x0, 0xFFFF⟩,  -- As 0x1C32, for inputs
  ⟨0x1C33, 1, 12, 1, 2, 0, 0x0, 0x0, 0xFFFF⟩,  -- As 0x1C32, for inputs
  ⟨0x1C33, 1, 32, 1, 1, 0, 0x0, 0x0, 0xFF⟩,  -- As 0x1C32, for inputs
  ⟨0x2000, 1, 1, 1, 11, 0, 0x0, 0x0, 0x0⟩,  -- Ordering code
  ⟨0x2000, 1, 2, 1, 11, 0, 0x0, 0x0, 0x0⟩,  -- Module serial number
  ⟨0x2000, 1, 3, 1, 8, 0, 0x0, 0x0, 0xFFFFFFFFFFFFFFFF⟩,  -- Module identifier, as sent in Voxvia HELLO
  ⟨0x2000, 1, 4, 1, 2, 0, 0x0, 0x0, 0xFFFF⟩,  -- Die revision
  ⟨0x2000, 1, 5, 1, 1, 0, 0x40, 0x0, 0xFF⟩,  -- Array width, as ARRAY_WIDTH
  ⟨0x2000, 1, 6, 1, 2, 0, 0x3030, 0x0, 0xFFFF⟩,  -- Logical shape
  ⟨0x2000, 1, 7, 1, 1, 0, 0x0, 0x0, 0xFF⟩,  -- Device state
  ⟨0x2000, 1, 8, 1, 4, 0, 0x0, 0x0, 0xFFFFFFFF⟩,  -- Time from power-good to ready, last bring-up
  ⟨0x2000, 1, 9, 1, 8, 0, 0x0, 0x0, 0xFFFFFFFFFFFFFFFF⟩,  -- Time since power-good
  ⟨0x2001, 1, 1, 1, 1, 1, 0x0, 0x0, 0x1⟩,  -- Preferred active Lockkeeper
  ⟨0x2001, 1, 2, 1, 1, 0, 0x0, 0x0, 0xFF⟩,  -- Active Lockkeeper
  ⟨0x2001, 1, 3, 1, 1, 0, 0x1, 0x0, 0xFF⟩,  -- Standby state
  ⟨0x2001, 1, 4, 1, 4, 0, 0x0, 0x0, 0xFFFFFFFF⟩,  -- Takeovers since power-good
  ⟨0x2001, 1, 5, 1, 4, 0, 0x0, 0x0, 0xFFFFFFFF⟩,  -- Last write confirmed but not acknowledged
  ⟨0x2002, 1, 1, 1, 4, 1, 0x64, 0xA, 0x2710⟩,  -- Set-point timeout
  ⟨0x2002, 1, 2, 1, 1, 1, 0x1, 0x0, 0x1⟩,  -- Emergencies enabled
  ⟨0x2002, 1, 3, 1, 1, 1, 0x4, 0x1, 0x10⟩,  -- Emergency limit
  ⟨0x2002, 1, 4, 1, 4, 0, 0x0, 0x0, 0xFFFFFFFF⟩,  -- Emergencies suppressed
  ⟨0x2F00, 1, 1, 1, 4, 0, 0x0, 0x0, 0xFFFFFFFF⟩,  -- Configuration status
  ⟨0x2F00, 1, 2, 1, 4, 1, 0x0, 0x0, 0xF⟩,  -- Status clear
  ⟨0x2F00, 1, 3, 1, 2, 0, 0x0, 0x0, 0xFFFF⟩,  -- Batches staged, all basins
  ⟨0x2F01, 1, 1, 8, 12, 0, 0x0, 0x0, 0x0⟩,  -- Batch record, newest first
  ⟨0x2F10, 1, 1, 255, 12, 0, 0x0, 0x0, 0x0⟩,  -- Clamp record, under R304
  ⟨0x2F11, 1, 1, 1, 8, 0, 0x0, 0x0, 0xFFFFFFFFFFFFFFFF⟩,  -- Clamp records written since power-good
  ⟨0x2F11, 1, 2, 1, 1, 0, 0x1, 0x0, 0xFF⟩,  -- Next clamp record subindex
  ⟨0x2F11, 1, 3, 1, 4, 0, 0x0, 0x0, 0xFFFFFFFF⟩,  -- Records overwritten unread
  ⟨0x2F11, 1, 4, 1, 1, 1, 0x0, 0x0, 0x1⟩,  -- Clear clamp log
  ⟨0x2F12, 1, 1, 1, 1, 0, 0xFF, 0x0, 0xFF⟩,  -- Last rejected block
  ⟨0x2F12, 1, 2, 1, 4, 0, 0x0, 0x0, 0xFFFFFFFF⟩,  -- Byte offset of the first failing record
  ⟨0x2F12, 1, 3, 1, 1, 0, 0x0, 0x0, 0xFF⟩  -- Reason
  ]

/-- The object tables of chapter 12. -/
def powerObjs : List ObjDesc := [
  ⟨0x2100, 1, 1, 1, 1, 0, 0x0, 0x0, 0xFF⟩,  -- Hot-swap state
  ⟨0x2100, 1, 2, 1, 9, 0, 0x46192000, 0x0, 0xFFFFFFFF⟩,  -- Supply ceiling P_ceiling
  ⟨0x2100, 1, 3, 1, 9, 0, 0x46066000, 0x0, 0xFFFFFFFF⟩,  -- Die share P_die
  ⟨0x2100, 1, 4, 1, 1, 0, 0x10, 0x0, 0xFF⟩,  -- Cells in service
  ⟨0x2100, 1, 5, 1, 2, 0, 0x0, 0x0, 0xFFFF⟩,  -- Cells out of service, bit n for cell n
  ⟨0x2100, 1, 6, 1, 9, 0, 0x7FC00000, 0x0, 0xFFFFFFFF⟩,  -- 48 V bus voltage, 1 ms average
  ⟨0x2100, 1, 7, 1, 4, 0, 0x0, 0x0, 0xFFFFFFFF⟩,  -- Power-fail events since manufacture
  ⟨0x2101, 1, 1, 16, 9, 0, 0x7FC00000, 0x0, 0xFFFFFFFF⟩,  -- Cell output current, cells 0–15, 1 ms average
  ⟨0x2102, 1, 1, 6, 9, 0, 0x7FC00000, 0x0, 0xFFFFFFFF⟩,  -- Rail voltage
  ⟨0x2103, 1, 1, 1, 2, 0, 0x0, 0x0, 0xFFFF⟩,  -- Regulator groups bridged
  ⟨0x2103, 1, 2, 1, 2, 0, 0x0, 0x0, 0xFFFF⟩,  -- Tiles dark for regulator failure
  ⟨0x2104, 1, 1, 1, 8, 0, 0x0, 0x0, 0xFFFFFFFFFFFFFFFF⟩,  -- Weir droop events, whole device
  ⟨0x2104, 1, 2, 1, 8, 0, 0x0, 0x0, 0xFFFFFFFFFFFFFFFF⟩,  -- Weir shunt events, whole device
  ⟨0x2104, 1, 3, 1, 4, 0, 0x0, 0x0, 0xFFFFFFFF⟩,  -- Weir depletions, whole device
  ⟨0x2300, 40, 1, 1, 1, 0, 0x0, 0x0, 0xFF⟩,  -- Pound state
  ⟨0x2300, 40, 2, 1, 1, 1, 0x0, 0x0, 0x2⟩,  -- Power command
  ⟨0x2300, 40, 3, 1, 9, 0, 0x0, 0x0, 0xFFFFFFFF⟩,  -- VPN set point
  ⟨0x2300, 40, 4, 1, 9, 0, 0x0, 0x0, 0xFFFFFFFF⟩,  -- VPM set point
  ⟨0x2300, 40, 5, 1, 1, 0, 0x6, 0x0, 0xFF⟩,  -- Phases in service
  ⟨0x2300, 40, 6, 1, 9, 0, 0x43960000, 0x0, 0xFFFFFFFF⟩,  -- Pound rating
  ⟨0x2300, 40, 7, 1, 9, 0, 0x7FC00000, 0x0, 0xFFFFFFFF⟩,  -- VPN current, 64 µs average
  ⟨0x2300, 40, 8, 1, 4, 0, 0x0, 0x0, 0xFFFFFFFF⟩,  -- Deferrals of the last request
  ⟨0x2300, 40, 9, 1, 4, 0, 0x0, 0x0, 0xFFFFFFFF⟩,  -- Time from last request to grant
  ⟨0x2300, 40, 10, 1, 4, 0, 0x0, 0x0, 0xFFFFFFFF⟩,  -- Weir droop events
  ⟨0x2300, 40, 11, 1, 4, 0, 0x0, 0x0, 0xFFFFFFFF⟩,  -- Weir shunt events
  ⟨0x2300, 40, 12, 1, 2, 0, 0x0, 0x0, 0xFFFF⟩,  -- Deepest droop in last report window
  ⟨0x2300, 40, 13, 1, 1, 0, 0x0, 0x0, 0xFF⟩,  -- e-fuse trips since power-on
  ⟨0x2300, 40, 14, 1, 1, 0, 0x0, 0x0, 0xFF⟩,  -- Last trip cause
  ⟨0x2300, 40, 15, 1, 1, 0, 0x0, 0x0, 0xFF⟩,  -- Regulator groups bridged in pound
  ⟨0x2330, 1, 1, 1, 1, 0, 0x0, 0x0, 0xFF⟩,  -- Pounds on
  ⟨0x2330, 1, 2, 1, 1, 0, 0x0, 0x0, 0xFF⟩,  -- Pounds isolated or latched off
  ⟨0x2330, 1, 3, 1, 1, 0, 0x0, 0x0, 0xFF⟩  -- Degraded shape available
  ]

/-- The object tables of chapter 13. -/
def thermalObjs : List ObjDesc := [
  ⟨0x2200, 1, 1, 1, 9, 1, 0x46192000, 0x0, 0x46192000⟩,  -- Operator ceiling
  ⟨0x2200, 1, 2, 1, 9, 1, 0x45FA0000, 0x0, 0x46192000⟩,  -- Fallback budget
  ⟨0x2200, 1, 3, 1, 9, 0, 0x46066000, 0x0, 0xFFFFFFFF⟩,  -- Die allowance A
  ⟨0x2200, 1, 4, 1, 1, 0, 0x1, 0x0, 0xFF⟩,  -- Budget source
  ⟨0x2200, 1, 5, 1, 1, 0, 0x0, 0x0, 0xFF⟩,  -- k_cap in force
  ⟨0x2200, 1, 6, 1, 9, 0, 0x7FC00000, 0x0, 0xFFFFFFFF⟩,  -- Budget floor B_floor
  ⟨0x2200, 1, 7, 1, 9, 0, 0x0, 0x0, 0xFFFFFFFF⟩,  -- Estimate error, last 1 ms
  ⟨0x2200, 1, 8, 1, 4, 0, 0x0, 0x0, 0xFFFFFFFF⟩,  -- CAP_UNMET events
  ⟨0x2201, 1, 1, 4, 9, 0, 0x7FC00000, 0x0, 0xFFFFFFFF⟩,  -- Class 1–4 power, 1 ms average
  ⟨0x2210, 1, 1, 1, 9, 1, 0x3FCCCCCD, 0x3F933333, 0x3FF33333⟩,  -- Target pace rate
  ⟨0x2210, 1, 2, 1, 1, 0, 0x9, 0x0, 0xFF⟩,  -- Bin in force
  ⟨0x2220, 40, 1, 1, 9, 1, 0x438E8000, 0x0, 0x4F800000⟩,  -- VPN limit
  ⟨0x2220, 40, 2, 1, 9, 1, 0x42980000, 0x41A00000, 0x42A00000⟩,  -- VPM limit
  ⟨0x2220, 40, 3, 1, 1, 0, 0x0, 0x0, 0xFF⟩,  -- k_lim in force
  ⟨0x2220, 40, 4, 1, 4, 0, 0x0, 0x0, 0xFFFFFFFF⟩,  -- Limit hits
  ⟨0x2220, 40, 5, 1, 9, 0, 0x3F800000, 0x0, 0xFFFFFFFF⟩,  -- Estimator gain g
  ⟨0x2250, 1, 1, 1, 9, 1, 0x43980000, 0x0, 0x43A00000⟩,  -- VLNK 0.75 V limit
  ⟨0x2250, 1, 2, 1, 9, 1, 0x42640000, 0x0, 0x42700000⟩,  -- VLNK 1.2 V limit
  ⟨0x2250, 1, 3, 1, 9, 1, 0x42180000, 0x0, 0x42200000⟩,  -- VMG limit
  ⟨0x22A0, 40, 1, 16, 10, 2, 0x0, 0xFFFFFFE2, 0x1E⟩,  -- Trim, bins 0–15
  ⟨0x2280, 1, 1, 1, 1, 1, 0x5F, 0x55, 0x5F⟩,  -- Throttle threshold T_thr
  ⟨0x2280, 1, 2, 1, 2, 0, 0x0, 0x0, 0xFFFF⟩,  -- Tiles throttling
  ⟨0x2280, 1, 3, 1, 1, 0, 0x0, 0x0, 0xFF⟩,  -- Pounds throttling
  ⟨0x2280, 1, 4, 1, 2, 0, 0x0, 0x0, 0xFFFF⟩,  -- Sensors failed
  ⟨0x2280, 1, 5, 1, 9, 0, 0x7FC00000, 0x0, 0xFFFFFFFF⟩,  -- Coolant inlet temperature
  ⟨0x2280, 1, 6, 1, 9, 0, 0x7FC00000, 0x0, 0xFFFFFFFF⟩,  -- Coolant flow
  ⟨0x2280, 1, 7, 1, 9, 0, 0x46192000, 0x0, 0xFFFFFFFF⟩,  -- Coolant ceiling
  ⟨0x2280, 1, 8, 1, 4, 0, 0x0, 0x0, 0xFFFFFFFF⟩  -- Thermal shutdowns since manufacture
  ]

/-- The object tables of chapter 14. -/
def bringupObjs : List ObjDesc := [
  ⟨0x2E00, 1, 1, 1, 1, 0, 0x0, 0x0, 0xFF⟩,  -- Phase in progress; 0 when none
  ⟨0x2E00, 1, 2, 5, 4, 0, 0x0, 0x0, 0xFFFFFFFF⟩,  -- Duration of phases 1–5, last bring-up
  ⟨0x2E00, 1, 7, 1, 1, 0, 0x0, 0x0, 0xFF⟩,  -- Result
  ⟨0x2E00, 1, 8, 1, 1, 0, 0x0, 0x0, 0xFF⟩,  -- Grade
  ⟨0x2E00, 1, 9, 1, 2, 0, 0x0, 0x0, 0xFFFF⟩,  -- Bad physical tiles
  ⟨0x2E00, 1, 10, 1, 4, 0, 0x0, 0x0, 0xFFFFFFFF⟩,  -- Rows remapped at bring-up
  ⟨0x2E00, 1, 11, 1, 2, 0, 0x0, 0x0, 0xFFFF⟩,  -- Columns bypassed
  ⟨0x2E00, 1, 12, 1, 2, 0, 0x0, 0x0, 0xFFFF⟩,  -- Seam wires steered
  ⟨0x2E00, 1, 13, 1, 4, 0, 0x0, 0x0, 0xFFFFFFFF⟩,  -- Bring-ups since manufacture
  ⟨0x2E01, 1, 1, 1, 1, 1, 0x0, 0x0, 0x4⟩,  -- Service command, under R369
  ⟨0x2E01, 1, 2, 1, 2, 1, 0x0, 0x0, 0xFFFF⟩,  -- Unlock
  ⟨0x2E01, 1, 3, 1, 4, 1, 0x0, 0x0, 0x1FFF⟩,  -- Argument
  ⟨0x2E01, 1, 4, 1, 1, 0, 0x0, 0x0, 0xFF⟩,  -- Result
  ⟨0x2E02, 1, 1, 1, 2, 0, 0x0, 0x0, 0xFFFF⟩,  -- Ledger entries
  ⟨0x2E02, 1, 2, 1, 2, 0, 0x0, 0x0, 0xFFFF⟩,  -- Entries added since power-good
  ⟨0x2E02, 1, 3, 1, 2, 0, 0x0, 0x0, 0xFFFF⟩,  -- Entries with removal pending
  ⟨0x2E02, 1, 4, 1, 2, 1, 0x0, 0x0, 0x1FFF⟩,  -- Entry selected
  ⟨0x2E02, 1, 5, 1, 12, 0, 0x0, 0x0, 0x0⟩,  -- Selected entry, under R367
  ⟨0x2E10, 8, 1, 1, 1, 0, 0x18, 0x0, 0xFF⟩,  -- Skipped physical row, field-local; 0xFF when none
  ⟨0x2E10, 8, 2, 24, 1, 0, 0xC, 0x0, 0xFF⟩,  -- Skipped column of the segment carrying field-local logical r
  ⟨0x2E10, 8, 26, 1, 1, 0, 0xFF, 0x0, 0xFF⟩,  -- Band of ferry rows or lost pound; 0xFF when none
  ⟨0x2E10, 8, 27, 1, 2, 0, 0x0, 0x0, 0xFFFF⟩,  -- Ferry links present, bit i for field-local logical column i
  ⟨0x2E10, 8, 28, 1, 4, 0, 0x0, 0x0, 0xFFFFFFFF⟩,  -- East–west seam links present to the field east of f, bit i f
  ⟨0x2A80, 1, 1, 1, 2, 1, 0x0, 0x0, 0xFFFF⟩,  -- Reset target
  ⟨0x2A80, 1, 2, 1, 1, 1, 0x0, 0x1, 0x4⟩,  -- Reset level
  ⟨0x2A80, 1, 3, 1, 1, 1, 0x0, 0x0, 0x2⟩,  -- Boundary mode
  ⟨0x2A80, 1, 4, 1, 4, 1, 0x14, 0x1, 0x186A0⟩,  -- Drain limit
  ⟨0x2A80, 1, 5, 1, 1, 0, 0x0, 0x0, 0xFF⟩,  -- Reset state
  ⟨0x2A80, 1, 6, 1, 4, 0, 0x0, 0x0, 0xFFFFFFFF⟩  -- Tokens absorbed, last reset
  ]

/-- The object tables of chapter 15. -/
def recoveryObjs : List ObjDesc := [
  ⟨0x2800, 1, 1, 1, 1, 1, 0x1, 0x0, 0x1⟩,  -- Replay enabled
  ⟨0x2800, 1, 2, 1, 1, 1, 0x2, 0x0, 0x8⟩,  -- Replay limit per epoch
  ⟨0x2800, 1, 3, 1, 2, 1, 0x2, 0x1, 0x64⟩,  -- Alarm collection interval
  ⟨0x2800, 1, 4, 1, 1, 1, 0x1, 0x0, 0x1⟩,  -- Restore after step 3
  ⟨0x2800, 1, 5, 1, 1, 1, 0x3, 0x1, 0xFF⟩,  -- Transient threshold
  ⟨0x2800, 1, 6, 1, 8, 0, 0x0, 0x0, 0xFFFFFFFFFFFFFFFF⟩,  -- Replays performed
  ⟨0x2800, 1, 7, 1, 4, 0, 0x0, 0x0, 0xFFFFFFFF⟩,  -- Step 3 events
  ⟨0x2800, 1, 8, 1, 4, 0, 0x0, 0x0, 0xFFFFFFFF⟩,  -- Faults found transient
  ⟨0x2800, 1, 9, 1, 4, 0, 0x0, 0x0, 0xFFFFFFFF⟩,  -- Faults found lasting
  ⟨0x2800, 1, 10, 1, 4, 0, 0x0, 0x0, 0xFFFFFFFF⟩,  -- Tile deaths in service
  ⟨0x2800, 1, 11, 1, 8, 0, 0x0, 0x0, 0xFFFFFFFFFFFFFFFF⟩,  -- Rows sent as poison by the gate
  ⟨0x2810, 16, 1, 1, 1, 0, 0x0, 0x0, 0xFF⟩,  -- Recovery state
  ⟨0x2810, 16, 2, 1, 2, 0, 0x0, 0x0, 0xFFFF⟩,  -- First error cause code
  ⟨0x2810, 16, 3, 1, 2, 0, 0x0, 0x0, 0xFFFF⟩,  -- First error tile
  ⟨0x2810, 16, 4, 1, 8, 0, 0x0, 0x0, 0xFFFFFFFFFFFFFFFF⟩,  -- First error epoch
  ⟨0x2810, 16, 5, 1, 4, 0, 0x0, 0x0, 0xFFFFFFFF⟩,  -- Replays since program load
  ⟨0x2810, 16, 6, 1, 4, 0, 0x0, 0x0, 0xFFFFFFFF⟩,  -- Last recovery, STOP to release
  ⟨0x2810, 16, 7, 1, 8, 0, 0x0, 0x0, 0xFFFFFFFFFFFFFFFF⟩,  -- Poisoned rows read
  ⟨0x2810, 16, 8, 1, 8, 0, 0x0, 0x0, 0xFFFFFFFFFFFFFFFF⟩,  -- Poisoned rows exported
  ⟨0x2810, 16, 9, 1, 1, 1, 0x0, 0x0, 0x1⟩,  -- Trier pause request
  ⟨0x2810, 16, 10, 1, 1, 0, 0x0, 0x0, 0xFF⟩,  -- Current epoch replayable
  ⟨0x2840, 1, 1, 1, 2, 1, 0x18, 0x1, 0x2D0⟩,  -- Due period
  ⟨0x2840, 1, 2, 1, 2, 1, 0x6, 0x0, 0xA8⟩,  -- Grace
  ⟨0x2840, 1, 3, 1, 2, 0, 0x200, 0x0, 0xFFFF⟩,  -- Minimum slice
  ⟨0x2840, 1, 4, 1, 4, 1, 0x14, 0x1, 0x3E8⟩,  -- Trier pause limit
  ⟨0x2840, 1, 5, 1, 2, 0, 0x0, 0x0, 0xFFFF⟩,  -- Tiles overdue
  ⟨0x2840, 1, 6, 1, 4, 0, 0x0, 0x0, 0xFFFFFFFF⟩,  -- Oldest pass age
  ⟨0x2848, 8, 1, 1, 2, 0, 0xFFFF, 0x0, 0xFFFF⟩,  -- Tile under test
  ⟨0x2848, 8, 2, 1, 2, 0, 0x0, 0x0, 0xFFFF⟩,  -- Tiles passed this period
  ⟨0x2848, 8, 3, 1, 4, 0, 0x0, 0x0, 0xFFFFFFFF⟩,  -- Idle-window slices used, last hour
  ⟨0x2848, 8, 4, 1, 4, 0, 0x0, 0x0, 0xFFFFFFFF⟩  -- Targeted tests run
  ]

/-- The object tables of chapter 16. -/
def cellarObjs : List ObjDesc := [
  ⟨0x2900, 1, 1, 1, 1, 0, 0x0, 0x0, 0xFF⟩,  -- Cellar state
  ⟨0x2900, 1, 2, 1, 4, 0, 0xFE000, 0x0, 0xFFFFFFFF⟩,  -- Ring space free
  ⟨0x2900, 1, 3, 1, 1, 0, 0x0, 0x0, 0xFF⟩,  -- Requests queued
  ⟨0x2900, 1, 4, 1, 8, 0, 0x0, 0x0, 0xFFFFFFFFFFFFFFFF⟩,  -- Bytes programmed since manufacture
  ⟨0x2900, 1, 5, 1, 2, 0, 0x0, 0x0, 0xFFFF⟩,  -- Endurance used
  ⟨0x2900, 1, 6, 1, 9, 0, 0x0, 0x0, 0xFFFFFFFF⟩,  -- Write rate, last snapshot
  ⟨0x2900, 1, 7, 1, 4, 0, 0x0, 0x0, 0xFFFFFFFF⟩,  -- Pages uncorrectable
  ⟨0x2910, 16, 1, 1, 4, 1, 0x258, 0x0, 0xFFFFFFFF⟩,  -- Incremental interval; 0 none
  ⟨0x2910, 16, 2, 1, 4, 1, 0x5460, 0x0, 0xFFFFFFFF⟩,  -- Full interval; 0 none
  ⟨0x2910, 16, 3, 1, 1, 1, 0x0, 0x0, 0x2⟩,  -- Snapshot request
  ⟨0x2910, 16, 4, 1, 8, 0, 0x0, 0x0, 0xFFFFFFFFFFFFFFFF⟩,  -- Latest secured
  ⟨0x2910, 16, 5, 1, 1, 0, 0x0, 0x0, 0xFF⟩,  -- Latest secured
  ⟨0x2910, 16, 6, 1, 8, 0, 0x0, 0x0, 0xFFFFFFFFFFFFFFFF⟩,  -- Latest secured
  ⟨0x2910, 16, 7, 1, 4, 0, 0x0, 0x0, 0xFFFFFFFF⟩,  -- Last pause
  ⟨0x2910, 16, 8, 1, 4, 0, 0x0, 0x0, 0xFFFFFFFF⟩,  -- Longest pause
  ⟨0x2910, 16, 9, 1, 4, 0, 0x0, 0x0, 0xFFFFFFFF⟩,  -- Chain since last full
  ⟨0x2910, 16, 10, 1, 1, 1, 0x10, 0x1, 0x40⟩,  -- Chain limit, in multiples of the full size
  ⟨0x2910, 16, 11, 1, 1, 0, 0x0, 0x0, 0xFF⟩,  -- Slot of latest full
  ⟨0x2910, 16, 12, 1, 1, 0, 0x0, 0x0, 0xFF⟩,  -- Snapshot state
  ⟨0x2910, 16, 13, 1, 1, 1, 0x0, 0x0, 0x2⟩,  -- Restore command
  ⟨0x2910, 16, 14, 1, 1, 0, 0x0, 0x0, 0xFF⟩,  -- Restore state
  ⟨0x2910, 16, 15, 1, 1, 0, 0x0, 0x0, 0xFF⟩,  -- Restore status
  ⟨0x2910, 16, 16, 1, 4, 0, 0x0, 0x0, 0xFFFFFFFF⟩,  -- Snapshots secured
  ⟨0x2910, 16, 17, 1, 4, 0, 0x0, 0x0, 0xFFFFFFFF⟩,  -- Risk-triggered snapshots
  ⟨0x2940, 16, 1, 1, 1, 1, 0x0, 0x0, 0x2⟩,  -- Method policy
  ⟨0x2940, 16, 2, 64, 12, 0, 0x0, 0x0, 0x0⟩,  -- Region record g = 1–64
  ⟨0x2880, 1, 1, 1, 2, 0, 0x0, 0x0, 0xFFFF⟩,  -- Risk score
  ⟨0x2880, 1, 2, 1, 2, 1, 0x1F4, 0x1, 0x3E8⟩,  -- Risk threshold
  ⟨0x2880, 1, 3, 1, 2, 1, 0x3C, 0xA, 0xE10⟩,  -- Risk repeat interval
  ⟨0x2880, 1, 4, 4, 2, 0, 0x0, 0x0, 0xFFFF⟩,  -- Components E, D, T, L
  ⟨0x2880, 1, 8, 1, 9, 1, 0x3D4CCCCD, 0x0, 0x42C80000⟩,  -- Weight, 1-bit correction
  ⟨0x2880, 1, 9, 1, 9, 1, 0x40A00000, 0x0, 0x42C80000⟩,  -- Weight, 2-bit correction
  ⟨0x2880, 1, 10, 1, 9, 1, 0x38D1B717, 0x0, 0x3F800000⟩,  -- Weight, droop event
  ⟨0x2880, 1, 11, 1, 9, 1, 0x41A00000, 0x0, 0x43480000⟩,  -- Weight, depletion
  ⟨0x2880, 1, 12, 1, 9, 1, 0x41200000, 0x0, 0x43480000⟩,  -- Weight, temperature
  ⟨0x2880, 1, 13, 1, 9, 1, 0x41C80000, 0x0, 0x43480000⟩,  -- Weight, retrain
  ⟨0x2880, 1, 14, 1, 9, 1, 0x42480000, 0x0, 0x43480000⟩,  -- Weight, lane drop
  ⟨0x2880, 1, 15, 1, 4, 0, 0x0, 0x0, 0xFFFFFFFF⟩  -- Risk triggers since power-good
  ]

/-- The object tables of chapter 17. -/
def basinObjs : List ObjDesc := [
  ⟨0x2A00, 1, 1, 1, 12, 0, 0x0, 0x0, 0x0⟩,  -- Berth map
  ⟨0x2A00, 1, 2, 1, 1, 0, 0x0, 0x0, 0xFF⟩,  -- Basins defined
  ⟨0x2A00, 1, 3, 1, 1, 0, 0x0, 0x0, 0xFF⟩,  -- Definitions removed at the last bring-up
  ⟨0x2A10, 16, 1, 1, 4, 1, 0x0, 0x0, 0xFFFFFFFF⟩,  -- Rectangle
  ⟨0x2A10, 16, 2, 1, 1, 1, 0x0, 0x0, 0x2⟩,  -- Command
  ⟨0x2A10, 16, 3, 1, 1, 0, 0x0, 0x0, 0xFF⟩,  -- Basin state, under R438
  ⟨0x2A10, 16, 4, 1, 1, 0, 0x0, 0x0, 0xFF⟩,  -- Contract level of the loaded job; 0 none
  ⟨0x2A10, 16, 5, 1, 1, 0, 0x0, 0x0, 0xFF⟩,  -- Tile image identifier in force
  ⟨0x2A10, 16, 6, 1, 8, 0, 0x0, 0x0, 0xFFFFFFFFFFFFFFFF⟩,  -- Pounds shared with other basins, bit n for PDn
  ⟨0x2A10, 16, 7, 1, 4, 0, 0x0, 0x0, 0xFFFFFFFF⟩,  -- Fence hits
  ⟨0x2A10, 16, 8, 1, 2, 0, 0x0, 0x0, 0xFFFF⟩,  -- Logical tiles
  ⟨0x2A10, 16, 9, 1, 1, 0, 0x0, 0x0, 0xFF⟩,  -- Last command result
  ⟨0x2A10, 16, 10, 1, 2, 0, 0x101, 0x0, 0xFFFF⟩,  -- Levels honoured
  ⟨0x2B00, 1, 1, 1, 1, 1, 0x0, 0x0, 0x4⟩,  -- Command
  ⟨0x2B00, 1, 2, 1, 1, 1, 0x0, 0x0, 0x3⟩,  -- Image kind
  ⟨0x2B00, 1, 3, 1, 1, 1, 0x0, 0x0, 0x3F⟩,  -- Target
  ⟨0x2B00, 1, 4, 1, 1, 0, 0x0, 0x0, 0xFF⟩,  -- Update state
  ⟨0x2B00, 1, 5, 1, 1, 0, 0x0, 0x0, 0xFF⟩,  -- Reason
  ⟨0x2B00, 1, 6, 1, 2, 1, 0x32, 0x1, 0x2710⟩,  -- Port drain limit
  ⟨0x2B10, 4, 1, 1, 11, 0, 0x0, 0x0, 0x0⟩,  -- Active image version
  ⟨0x2B10, 4, 2, 1, 11, 0, 0x0, 0x0, 0x0⟩,  -- Staged image version; empty when none
  ⟨0x2B10, 4, 3, 1, 11, 0, 0x0, 0x0, 0x0⟩,  -- Rollback image version
  ⟨0x2B10, 4, 4, 1, 2, 0, 0x101, 0x0, 0xFFFF⟩,  -- Levels honoured, active image
  ⟨0x2B10, 4, 5, 1, 2, 0, 0x0, 0x0, 0xFFFF⟩,  -- Levels honoured, staged image
  ⟨0x2B10, 1, 6, 1, 2, 0, 0x0, 0x0, 0xFFFF⟩,  -- Mirror format, active Lockkeeper
  ⟨0x2B20, 64, 1, 1, 11, 0, 0x0, 0x0, 0x0⟩,  -- Link image version, port p
  ⟨0x2B60, 8, 1, 1, 11, 0, 0x0, 0x0, 0x0⟩  -- Power controller image version, field f
  ]

/-- The object tables of chapter 18. -/
def debugObjs : List ObjDesc := [
  ⟨0x2C10, 16, 1, 1, 8, 0, 0x0, 0x0, 0xFFFFFFFFFFFFFFFF⟩,  -- Job seed
  ⟨0x2C10, 16, 2, 1, 1, 2, 0x0, 0x0, 0x1⟩,  -- Loose mode
  ⟨0x2C10, 16, 3, 1, 8, 0, 0x0, 0x0, 0xFFFFFFFFFFFFFFFF⟩,  -- Non-determinism counter
  ⟨0x2C10, 16, 4, 1, 2, 0, 0x0, 0x0, 0xFFFF⟩,  -- Digest records held
  ⟨0x2C10, 16, 5, 1, 4, 0, 0x0, 0x0, 0xFFFFFFFF⟩,  -- Tile digest records lost
  ⟨0x2C10, 16, 6, 1, 2, 1, 0x0, 0x0, 0x3FF⟩,  -- Digest log index, 0 the newest
  ⟨0x2C10, 16, 7, 1, 12, 0, 0x0, 0x0, 0x0⟩,  -- Selected digest record, under R461
  ⟨0x2C10, 16, 8, 1, 8, 1, 0x0, 0x0, 0xFFFFFFFFFFFFFFFF⟩,  -- Capture epoch
  ⟨0x2C10, 16, 9, 1, 1, 0, 0x0, 0x0, 0xFF⟩,  -- Capture state
  ⟨0x2C10, 16, 10, 1, 2, 1, 0xFFFF, 0x0, 0xFFFF⟩,  -- Bank capture tile
  ⟨0x2C10, 16, 11, 1, 12, 0, 0x0, 0x0, 0x0⟩,  -- Captured bank digests, bank 0 first
  ⟨0x2C40, 1, 1, 144, 12, 0, 0x0, 0x0, 0x0⟩,  -- Captured tile digests for berth n − 1
  ⟨0x2D00, 1, 1, 1, 1, 0, 0x0, 0x0, 0xFF⟩,  -- SCAN_EN at power-good
  ⟨0x2D01, 1, 1, 16, 2, 1, 0x0, 0x0, 0xFFFF⟩,  -- OBS0–OBS15 selection
  ⟨0x2D10, 8, 1, 16, 4, 1, 0x0, 0x0, 0xFFFFFFFF⟩,  -- Field f channel 0–15, as FMUX_CH
  ⟨0x2D20, 1, 1, 1, 2, 1, 0x0, 0x0, 0xFFFF⟩,  -- Probe tile
  ⟨0x2D20, 1, 2, 4, 4, 1, 0x0, 0x0, 0xFFFFFFFF⟩,  -- TMUX_P0–P3 of the probe tile
  ⟨0x2D20, 1, 6, 1, 4, 1, 0x0, 0x0, 0xF⟩,  -- HS_SEL of the probe tile
  ⟨0x2D20, 1, 7, 3, 4, 0, 0x0, 0x0, 0xFFFFFFFF⟩,  -- HS_REQ, HS_ACK, HS_WAIT of the probe tile
  ⟨0x2D30, 1, 1, 1, 4, 0, 0x0, 0x0, 0xFFFFFFFF⟩,  -- Trace store records held
  ⟨0x2D30, 1, 2, 1, 4, 1, 0x0, 0x0, 0x1FFFFFF⟩,  -- Trace read offset
  ⟨0x2D30, 1, 3, 1, 12, 0, 0x0, 0x0, 0x0⟩,  -- Trace data at the offset
  ⟨0x2D30, 1, 4, 1, 1, 1, 0x0, 0x0, 0x1⟩  -- Clear trace store
  ]

/-- The whole dictionary. -/
def objTable : List ObjDesc :=
  lockObjs ++ scrubObjs ++ meshObjs ++ towpathObjs ++ linkObjs ++ hostIfObjs ++ mgmtObjs ++ powerObjs ++ thermalObjs ++ bringupObjs ++ recoveryObjs ++ cellarObjs ++ basinObjs ++ debugObjs

/-- Whether an entry belongs to the row. -/
def ObjDesc.has (r : ObjDesc) (index sub : Nat) : Bool :=
  decide (r.index ≤ index) && decide (index < r.index + r.indices) && decide (r.sub ≤ sub) && decide (sub < r.sub + r.subs)

/-- The row of an entry; none where the dictionary has no such entry. -/
def findObj (index sub : Nat) : Option ObjDesc := objTable.find? (fun r => r.has index sub)

/-- Whether the dictionary has any entry at an index. -/
def hasIndex (index : Nat) : Bool :=
  objTable.any (fun r => decide (r.index ≤ index) && decide (index < r.index + r.indices))

/-- The default process data mapping (R293): entry `sub` of a mapping object, its number of entries at 0. -/
def pdoDefault (index sub : Nat) : Nat :=
  let all (obj n : Nat) : Nat := if sub = 0 then n else if sub ≤ n then 65536 * obj + 256 * sub + 32 else 0
  match index with
  | 0x1600 => all 0x7000 2
  | 0x1A00 => if sub = 0 then 6 else if sub ≤ 6 then 65536 * 0x6000 + 256 * sub + [0, 16, 16, 16, 8, 8, 32].getD sub 0 else 0
  | 0x1A01 => all 0x6010 6
  | 0x1A02 => all 0x6020 40
  | 0x1A03 => all 0x6030 40
  | 0x1A04 => all 0x6040 6
  | 0x1A05 => all 0x6050 9
  | 0x1A06 => all 0x6060 16
  | _ => 0

/-- Whether an index is a PDO mapping object (R294). -/
def isPdoMap (index : Nat) : Bool :=
  (decide (0x1600 ≤ index) && decide (index ≤ 0x1601)) || (decide (0x1A00 ≤ index) && decide (index ≤ 0x1A07))

/-- What an entry holds after reset, by its key `256 × index + subindex`. (DESIGN CHOICE, log 112; PRESUMED, log 116) -/
def objDefault (k : Nat) : Word64 :=
  match findObj (k / 256) (k % 256) with
  | some r => BitVec.ofNat 64 (if isPdoMap (k / 256) then pdoDefault (k / 256) (k % 256) else r.dflt)
  | none => 0

end Sys2Proof.Machine
end

