-- ==== Sys2Proof/Config.lean ====
section
/-! DEFINITION. What an implementation fixes and the spec leaves open: free values, each an opaque constant with no body. -/

namespace Sys2Proof.Config

/-- A vector function of opcodes 0x70 to 0x7A on a finite operand of its domain, by function number, lane type and
operand bits: R135 bounds its error and promises that the result is the same on every device, and gives no bits.
(DESIGN CHOICE, log 21) -/
opaque vecFn : Nat → Nat → BitVec 32 → BitVec 32

/-- A fresh value wherever the spec states an effect and not the value: applied to the state's counter. (DESIGN
CHOICE, log 114) -/
opaque freeValue : Nat → BitVec 64

/-- The fused calibration of a physical tile that no chapter gives a number for (R359), by physical tile. (DESIGN
CHOICE, log 113) -/
opaque leakCoef : Nat → BitVec 16

/-- The fused voltage table of a pound (R351): its entry in mV for a bin; the spec gives no entries. (DESIGN CHOICE,
log 113) -/
opaque vtEntry : Nat → Nat → BitVec 16

/-- What a completion record of a barge of COUNT rows shows of its first row not landed where there is none, or of that
row's port X status where port X refused none (R245 states neither): status above 13 bits of row index. (DESIGN
CHOICE, log 42) -/
opaque noFirstRow : Nat → BitVec 17

/-- A number that the spec gives per module (R309, R310), by the key of its entry: vendor, revision and serial numbers, module
identifier, die revision. (DESIGN CHOICE, log 59) -/
opaque perModule : Nat → BitVec 64

/-- A text that the spec gives per module (R309, R310), by the key of its entry. (DESIGN CHOICE, log 59) -/
opaque perModuleText : Nat → List (BitVec 8)

/-- The cause code of SEAM_LANE_LOST (R196), which no table of causes gives. (DESIGN CHOICE, log 82) -/
opaque seamLaneLost : BitVec 16

end Sys2Proof.Config
end

