-- ==== Sys2Proof/Machine/BootState.lean ====
section
/-! DEFINITION. The state of power delivery and control, bring-up, sparing, resets and debug access that no object holds
(R312 to R387, R464 to R471). -/

namespace Sys2Proof.Machine

/-- A reset under way (R381 to R383): level (1 tile, 2 berth, 3 basin, 4 device), target, its tiles, whether it
absorbs at its boundary, its phase (0 draining, 1 clearing), tokens absorbed, and the basin whose recovery makes it. -/
structure ResetReq where
  level : Nat
  target : Nat
  tiles : List Nat
  absorb : Bool
  phase : Nat
  drops : Nat
  ladder : Option Nat
  deriving DecidableEq, Repr

/-- An entry of the defect ledger (R367): kind, flags, physical tile `52 × r + c` (none where none), item, sub-item,
power-on count and seconds when it was added. -/
structure LedgerEntry where
  kind : Nat
  excludes : Bool
  service : Bool
  removal : Bool
  tile : Option Nat
  item : Nat
  sub : Nat
  powerOn : Nat
  secs : Nat
  deriving DecidableEq, Repr

/-- Bring-up and reset state: logical rows that the lower and upper field rows present (R17, R371), resets under way,
ledger, power-ons, bring-ups, whether LEDGER_FULL has been sent, the heartbeat of the last unlock (R369), power fails and thermal
shutdowns written to flash, transient faults of the last 24 h as (tile, heartbeat), idle-window slices of the last hour as
(field, heartbeat), and by physical tile the mask of test classes passed since its last complete pass. -/
structure Boot where
  rowsLow : Nat
  rowsHigh : Nat
  resets : List ResetReq
  ledger : List LedgerEntry
  powerOns : Nat
  bringUps : Nat
  ledgerFull : Bool
  unlock : Option Nat
  fails : Nat
  shutdowns : Nat
  transients : List (Nat × Nat)
  slices : List (Nat × Nat)
  passed : Map Nat
  deriving DecidableEq, Repr

/-- A pound (R316 to R343): pulses held; phases out of service; VPN and VPM current in mA of the last 125 captures, newest
first; sum and number of captures since the last gain update; captures in a row below 90 % of both limits; a tile 5 °C
over the threshold or four throttling; a tile critical; gain (× 10⁹) and estimates in nW (the last, their sum and
number); windows since a request and whether its deferral has been sent; going down; heartbeat of a start after an
isolation; boost and shunt acting; charge of the boost bank in per cent; notices sent in this report window. -/
structure Pound where
  hold : Bool
  out : List Nat
  caps : List (Nat × Nat)
  sumI : Nat
  sumN : Nat
  low : Nat
  warm : Bool
  crit : Bool
  gain : Nat
  est : Nat
  estSum : Nat
  estN : Nat
  asked : Option Nat
  deferred : Bool
  down : Bool
  revived : Option Nat
  boost : Bool
  shunt : Bool
  charge : Nat
  depleted : Bool
  throttled : Bool
  deriving DecidableEq, Repr

/-- A pound after reset. (DESIGN CHOICE, log 112) -/
def Pound.init : Pound :=
  ⟨false, [], [], 0, 0, 0, false, false, 1000000000, 0, 0, 0, none, false, false, none, false, false, 100, false, false⟩

/-- Power delivery and control: pounds; every pulse held after a power fail or thermal shutdown; input voltage in mV;
the last 125 captures, newest first, of the six other rails in mA and of the input in mV and mA; activity counters at the last sample, keyed
`16 × tile + counter`; samples since k_cap last fell; whether CAP_UNMET stands; samples in a row in which a sensor
departs from its neighbours; samples in a row of a tile at 105 °C (key 2 × tile) and 110 °C (one more); captures in a row of a tile below its threshold;
VLNK is up; the input qualified; COOLANT sent in this window; class powers summed since the last update in mW, and their
number; the unscaled and scaled power of the last sample in mW; and fields whose power controller restarts (R448). -/
structure Power where
  pounds : Map Pound
  allHeld : Bool
  vin : Nat
  rails : List (List Nat)
  last : Map Nat
  since : Nat
  unmet : Bool
  odd : Map Nat
  hot : Map Nat
  cool : Map Nat
  vlnk : Bool
  input : Bool
  coolant : Bool
  classes : List Nat
  classN : Nat
  fixed : Nat
  scaled : Nat
  restart : List Nat
  deriving DecidableEq, Repr

/-- Power delivery and control after reset. (DESIGN CHOICE, log 112) -/
def Power.init : Power :=
  ⟨[], false, 400000, [], [], 0, false, [], [], [], false, false, false, [0, 0, 0, 0], 0, 0, 0, []⟩

/-- An update in progress (R444 to R448): image kind, target, whether it is a rollback, the image, and its phase: 1 the
standby reboots, 2 before the handover, 3 the former active one reboots, 4 awaiting locks, 5 draining, 6 restarting; the
batches that activate a tile image. -/
structure Update where
  kind : Nat
  target : Nat
  back : Bool
  img : UpdateImage
  phase : Nat
  batches : List Nat
  deriving DecidableEq, Repr

/-- Firmware images (R444 to R450): active, staged and rollback image of each kind (0 Lockkeeper, 1 tile, 2 link, 3 power
controller); versions by port and, from 64 on, by field; the tile image in force in a basin as identifier and levels; the update in progress; and of the Lockkeeper's broadcast the group last queried, its base and the chunks that
some tile missed in the query round (R224). -/
structure Updates where
  active : Map UpdateImage
  staged : Map (Option UpdateImage)
  rollback : Map (Option UpdateImage)
  versions : Map (List Nat)
  basins : Map (Nat × Nat × Nat)
  run : Option Update
  fwGroup : Option TpTarget
  fwBase : Nat
  fwMissing : List Nat
  deriving DecidableEq, Repr

/-- The image of each kind that the module comes with. (DESIGN CHOICE, log 94) -/
def factoryImage : UpdateImage := ⟨[], 1, 1, 0, [0], 0, [], 0⟩

/-- Firmware images after reset. (DESIGN CHOICE, log 112) -/
def Updates.init : Updates := ⟨[], [], [], [], [], none, none, 0, []⟩

/-- The trace store, the test multiplexer and the test access port (R464, R470, R471): records as (arrival stamp,
words), oldest first; selections in force (OBS pins at 0 to 15, channel `n` of field `f` at `16 + 16 × f + n`); the TAP
instruction, 0 to 5 in the order of R471 (none in test-logic-reset); and the data register it captures. -/
structure Debug where
  trace : List (Nat × List Nat)
  mux : Map Nat
  tap : Option Nat
  dr : Word64
  deriving DecidableEq, Repr

/-- The trace store, multiplexers and test access port after reset. (DESIGN CHOICE, log 112) -/
def Debug.init : Debug := ⟨[], [], none, 0⟩

/-- Bring-up and reset state after reset. (DESIGN CHOICE, log 112) -/
def Boot.init : Boot := ⟨24, 24, [], [], 0, 0, false, none, 0, 0, [], [], []⟩

end Sys2Proof.Machine
end

