-- ==== Sys2Proof/Machine/Num.lean ====
section
/-! DEFINITION. Number formats, rounding and conversion (R119 to R123, R130, R131, R133), exact arithmetic on
decoded values, and the correctly rounded functions of R134 and R135. -/

namespace Sys2Proof.Machine

/-- A decoded number: a finite value `(−1)^neg × m × 2^e`, an infinity, or NaN. -/
inductive FNum where
  | fin (neg : Bool) (m : Nat) (e : Int)
  | inf (neg : Bool)
  | nan
  deriving DecidableEq, Repr

/-- A floating-point format (R120): exponent and mantissa widths, bias, and its special encodings
(0: infinities and NaN, 1: E4M3, whose only specials are the two NaN codes, 2: none). -/
structure Fmt where
  eb : Nat
  mb : Nat
  bias : Nat
  kind : Nat
  nanBits : Nat
  deriving DecidableEq, Repr

def fmtFP32 : Fmt := ⟨8, 23, 127, 0, 0x7FC00000⟩
def fmtBF16 : Fmt := ⟨8, 7, 127, 0, 0x7FC0⟩
def fmtFP16 : Fmt := ⟨5, 10, 15, 0, 0x7E00⟩
def fmtE4M3 : Fmt := ⟨4, 3, 7, 1, 0x7F⟩
def fmtE5M2 : Fmt := ⟨5, 2, 15, 0, 0x7E⟩
def fmtE3M2 : Fmt := ⟨3, 2, 3, 2, 0⟩
def fmtE2M3 : Fmt := ⟨2, 3, 1, 2, 0⟩
def fmtE2M1 : Fmt := ⟨2, 1, 1, 2, 0⟩

/-- Width of a format in bits. -/
def Fmt.width (f : Fmt) : Nat := 1 + f.eb + f.mb

/-- The value of an encoding (R120). -/
def decodeF (f : Fmt) (bits : Nat) : FNum :=
  let neg := bitOf bits (f.eb + f.mb)
  let ex := bitsOf bits (f.eb + f.mb - 1) f.mb
  let man := bitsOf bits (f.mb - 1) 0
  if f.kind = 0 && ex = 2 ^ f.eb - 1 then (if man = 0 then .inf neg else .nan)
  else if f.kind = 1 && ex = 2 ^ f.eb - 1 && man = 2 ^ f.mb - 1 then .nan
  else if ex = 0 then .fin neg man (1 - (f.bias : Int) - f.mb)
  else .fin neg (2 ^ f.mb + man) ((ex : Int) - f.bias - f.mb)

/-- What a rounding reports: the encoding, and the events of R133. -/
structure Rounded where
  bits : Nat
  sat : Bool
  under : Bool
  nanOut : Bool
  nanLost : Bool
  deriving DecidableEq, Repr

/-- A result without events. -/
def Rounded.plain (b : Nat) : Rounded := ⟨b, false, false, false, false⟩

/-- Whether the magnitude goes up to the next grid point, by rounding mode (R123, R131): the discarded part is
`rem / den`, the kept part is odd or not, and SR adds `r` of `D` random bits. -/
def roundUp (mode : Nat) (neg odd : Bool) (rem den D r : Nat) : Bool :=
  match mode with
  | 0 => decide (2 * rem > den) || (decide (2 * rem = den) && odd)
  | 1 => false
  | 2 => !neg && decide (rem ≠ 0)
  | 3 => neg && decide (rem ≠ 0)
  | 4 => decide (2 * rem ≥ den)
  | _ => decide (rem ≠ 0) && decide (rem * 2 ^ D / den + r ≥ 2 ^ D)

/-- The kept part of `m × 2^e` on the grid `2^q`, after rounding. -/
def roundGrid (mode : Nat) (neg : Bool) (m : Nat) (e q : Int) (D r : Nat) : Nat :=
  if q ≤ e then m * 2 ^ (e - q).toNat
  else
    let den := 2 ^ (q - e).toNat
    let sig := m / den
    if roundUp mode neg (sig % 2 == 1) (m % den) den D r then sig + 1 else sig

/-- The result beyond the largest finite value (R133): true gives infinity, false saturates. -/
def overflowInf (f : Fmt) (mode : Nat) (neg e5inf : Bool) : Bool :=
  if f.kind = 0 && (f.eb ≠ 5 || f.mb ≠ 2 || e5inf) then
    match mode with
    | 1 => false
    | 2 => !neg
    | 3 => neg
    | _ => true
  else false

/-- The encoding of infinity in a format that has one. -/
def infBits (f : Fmt) (neg : Bool) : Nat := b2n neg * 2 ^ (f.eb + f.mb) + (2 ^ f.eb - 1) * 2 ^ f.mb

/-- The encoding of the largest finite magnitude. -/
def maxBits (f : Fmt) (neg : Bool) : Nat :=
  b2n neg * 2 ^ (f.eb + f.mb) +
  (if f.kind = 0 then (2 ^ f.eb - 1) * 2 ^ f.mb - 1
   else if f.kind = 1 then 2 ^ (f.eb + f.mb) - 2
   else 2 ^ (f.eb + f.mb) - 1)

/-- Rounds a non-zero finite magnitude `m × 2^e` into a format (R123, R131, R133). -/
def roundFin (f : Fmt) (mode : Nat) (e5inf neg : Bool) (m : Nat) (e : Int) (D r : Nat) : Rounded :=
  let emin : Int := 1 - f.bias
  let top : Int := (Nat.log2 m : Int) + e
  let q : Int := (if top < emin then emin else top) - f.mb
  let sig0 := roundGrid mode neg m e q D r
  let carry : Bool := decide (sig0 ≥ 2 ^ (f.mb + 1))
  let sig := if carry then sig0 / 2 else sig0
  let q := if carry then q + 1 else q
  let ex : Int := if sig < 2 ^ f.mb then 0 else q + f.mb + f.bias
  let mag := ex.toNat * 2 ^ f.mb + sig % 2 ^ f.mb
  let s := b2n neg * 2 ^ (f.eb + f.mb)
  if mag > maxBits f false then
    ⟨if overflowInf f mode neg e5inf then infBits f neg else maxBits f neg, true, false, false, false⟩
  else ⟨s + mag, false, decide (mag = 0), false, false⟩

/-- Rounds any value into a floating-point format (R133).  `e5inf` is NUM_CTL[8]. -/
def roundTo (f : Fmt) (mode : Nat) (e5inf : Bool) (v : FNum) (D r : Nat) : Rounded :=
  match v with
  | .nan => if f.kind = 2 then ⟨0, false, false, false, true⟩ else ⟨f.nanBits, false, false, true, false⟩
  | .inf neg =>
    if f.kind = 0 then .plain (infBits f neg)
    else if f.kind = 1 then ⟨f.nanBits, false, false, true, false⟩
    else ⟨maxBits f neg, true, false, false, false⟩
  | .fin neg m e => if m = 0 then .plain (b2n neg * 2 ^ (f.eb + f.mb)) else roundFin f mode e5inf neg m e D r

/-- Two's complement of an integer in `w` bits. -/
def twos (w : Nat) (v : Int) : Nat := (v % (2 : Int) ^ w).toNat

/-- The signed value of `w` bits. -/
def signed (w n : Nat) : Int := if n % 2 ^ w ≥ 2 ^ (w - 1) then ((n % 2 ^ w : Nat) : Int) - (2 : Int) ^ w else ((n % 2 ^ w : Nat) : Int)

/-- Rounds any value to a `w`-bit two's complement integer with saturation (R133). -/
def roundInt (w mode : Nat) (v : FNum) (D r : Nat) : Rounded :=
  match v with
  | .nan => ⟨0, false, false, false, true⟩
  | .inf neg => ⟨if neg then 2 ^ (w - 1) else 2 ^ (w - 1) - 1, true, false, false, false⟩
  | .fin neg m e =>
    let g := roundGrid mode neg m e 0 D r
    let lim := if neg then 2 ^ (w - 1) else 2 ^ (w - 1) - 1
    if g > lim then ⟨lim, true, false, false, false⟩
    else ⟨twos w (if neg then -(g : Int) else g), false, decide (g = 0) && decide (m ≠ 0), false, false⟩

/-- The value `V + ε` of a window-mode entry as a finite number whose discarded part is a sticky bit (R130). -/
def withEpsilon (v : Int) (e : Int) : FNum :=
  let k : Nat := 3000
  let w : Int := v * (2 : Int) ^ k + 1
  .fin (decide (w < 0)) w.natAbs (e - k)

/-- An exact integer multiple of `2^e` as a decoded number; zero is +0 (R130). -/
def ofFixed (v : Int) (e : Int) : FNum := .fin (decide (v < 0)) v.natAbs e

/-- The signed integer `±m` of a finite value on the grid `2^g`, `g ≤ e`. -/
def onGrid (neg : Bool) (m : Nat) (e g : Int) : Int :=
  let x : Int := (m : Int) * (2 : Int) ^ (e - g).toNat
  if neg then -x else x

/-- Exact sum; the sign of an exact zero follows IEEE 754-2019: −0 only for two negative zeros, or under RDN (R134). -/
def addF (mode : Nat) (a b : FNum) : FNum × Bool :=
  match a, b with
  | .nan, _ => (.nan, false)
  | _, .nan => (.nan, false)
  | .inf x, .inf y => if x = y then (.inf x, false) else (.nan, true)
  | .inf x, _ => (.inf x, false)
  | _, .inf y => (.inf y, false)
  | .fin n1 m1 e1, .fin n2 m2 e2 =>
    let g := if e1 ≤ e2 then e1 else e2
    let s := onGrid n1 m1 e1 g + onGrid n2 m2 e2 g
    if s = 0 then
      (.fin (if m1 = 0 && m2 = 0 && n1 = n2 then n1 else decide (mode = 3)) 0 0, false)
    else (.fin (decide (s < 0)) s.natAbs g, false)

/-- Exact product, with the invalid case 0 × ∞ (R134). -/
def mulF (a b : FNum) : FNum × Bool :=
  match a, b with
  | .nan, _ => (.nan, false)
  | _, .nan => (.nan, false)
  | .inf x, .inf y => (.inf (x != y), false)
  | .inf x, .fin n m _ => if m = 0 then (.nan, true) else (.inf (x != n), false)
  | .fin n m _, .inf x => if m = 0 then (.nan, true) else (.inf (x != n), false)
  | .fin n1 m1 e1, .fin n2 m2 e2 => (.fin (n1 != n2) (m1 * m2) (e1 + e2), false)

/-- The sign change of NEG on a decoded number. -/
def negF : FNum → FNum
  | .nan => .nan
  | .inf n => .inf (!n)
  | .fin n m e => .fin (!n) m e

/-- Compares two finite or infinite values: −1, 0 or 1; zeros are equal. -/
def cmpVal (a b : FNum) : Int :=
  match a, b with
  | .nan, _ => 0
  | _, .nan => 0
  | .inf x, .inf y => if x = y then 0 else if x then -1 else 1
  | .inf x, _ => if x then -1 else 1
  | _, .inf y => if y then 1 else -1
  | .fin n1 m1 e1, .fin n2 m2 e2 =>
    let g := if e1 ≤ e2 then e1 else e2
    let d := onGrid n1 m1 e1 g - onGrid n2 m2 e2 g
    if d < 0 then -1 else if d = 0 then 0 else 1

/-- The order of MIN and MAX, in which −0 lies below +0 (R134). -/
def totalLess (a b : FNum) : Bool :=
  let c := cmpVal a b
  if c < 0 then true
  else if c = 0 then
    match a, b with
    | .fin n1 0 _, .fin n2 0 _ => n1 && !n2
    | _, _ => false
  else false

/-- The integer square root by bits from `b` down. -/
def isqrtBits (n : Nat) : Nat → Nat → Nat
  | 0, r => r
  | b + 1, r =>
    let r' := r + 2 ^ b
    isqrtBits n b (if r' * r' ≤ n then r' else r)

/-- The integer square root of `n`. -/
def isqrt (n : Nat) : Nat := isqrtBits n (Nat.log2 n / 2 + 1) 0

/-- The square root of a positive value to far more bits than any format keeps, with a sticky bit. -/
def sqrtSticky (m : Nat) (e : Int) : FNum :=
  let k : Nat := 128 + (if (e % 2 : Int) = 0 then 0 else 1)
  let n := m * 2 ^ k
  let r := isqrt n
  .fin false (2 * r + b2n (decide (r * r ≠ n))) ((e - k) / 2 - 1)

/-- The reciprocal of a non-zero value to far more bits than any format keeps, with a sticky bit. -/
def recipSticky (neg : Bool) (m : Nat) (e : Int) : FNum :=
  let k : Nat := 256
  .fin neg (2 * (2 ^ k / m) + b2n (decide (2 ^ k % m ≠ 0))) (-e - k - 1)

/-- The reciprocal square root of a positive value, with a sticky bit. -/
def rsqrtSticky (m : Nat) (e : Int) : FNum :=
  let odd : Bool := decide ((e % 2 : Int) ≠ 0)
  let m' := if odd then 2 * m else m
  let e' : Int := if odd then e - 1 else e
  let n := 2 ^ 512 / m'
  let r := isqrt n
  .fin false (2 * r + b2n (decide (r * r * m' ≠ 2 ^ 512))) (-(e' / 2) - 256 - 1)

end Sys2Proof.Machine
end

