-- ==== Sys2Proof/Machine/TileState.lean ====
section
/-! DEFINITION. The state of one tile beyond its numbered registers and its bank rows: tiller, array, vector unit,
banks, switch, towpath router, lock logic, firmware store, digest and trace logic.  Each part is plain data. -/

namespace Sys2Proof.Machine

/-- An active loop (R71, R72): its body is `start + 1` to `start + len`, and `left` iterations remain, the running one included. -/
structure Loop where
  start : Nat
  len : Nat
  left : Nat
  deriving DecidableEq, Repr

/-- A fetched bundle (R69): relative address, context, its row, and whether the row
was poison or uncorrectable. -/
structure Fetched where
  ctx : Nat
  addr : Nat
  row : Row
  poison : Bool
  deriving DecidableEq, Repr

/-- A pending taken branch or task switch (R70, R76): delay slots still to issue, target context and address. -/
structure Redirect where
  slots : Nat
  ctx : Nat
  addr : Nat
  deriving DecidableEq, Repr

/-- A bank op running as a stream (R65): slot, issue beat, op (1 READ, 2 WRITE, 3 ALIAS, 4 ZERO), address mode, first
relative row, route, register, count, index of the next row, context, generator, banks whose port E it holds, whether a
row failed its data bound, whether PORT_OVERLAP has been raised, whether its access of this beat is blocked on a pail, and
whether that has been counted, and the flat row it accessed last. -/
structure BankStream where
  slot : Nat
  beat : Nat
  op : Nat
  mode : Nat
  row : Nat
  route : Nat
  reg : Nat
  count : Nat
  next : Nat
  ctx : Nat
  gen : Nat
  held : List Nat
  stopped : Bool
  overlap : Bool
  blocked : Bool
  counted : Bool
  flat : Nat
  deriving DecidableEq, Repr

/-- A scalar register write on its way (R63): the beat it is written in, whether the control slot or a bank load makes it. -/
structure SWrite where
  beat : Nat
  ctrl : Bool
  reg : Nat
  val : Word32
  deriving DecidableEq, Repr

/-- A vector quarter write on its way (R82): beat, rank (4 bank op 1, 3 bank op 0, 2 array ring, 1 vector op), issue
order among vector ops, quarter number `4 × register + quarter`, data and poison mark. -/
structure VWrite where
  beat : Nat
  rank : Nat
  order : Nat
  quarter : Nat
  mask : Row
  val : Row
  poison : Bool
  deriving DecidableEq, Repr

/-- A row on its way to the array (R91, R94, R97): delivery beat, bank op it comes from (2 the load tap, 3 the scale
tap), load route or not. -/
structure FeedRow where
  beat : Nat
  src : Nat
  load : Bool
  row : Row
  poison : Bool
  deriving DecidableEq, Repr

/-- The tiller's own state beside its registers (R61 to R77): the bundle of the beat in progress and its address;
context and address of the next fetch; bundles fetched ahead; active loops, innermost first, and the loop buffer; return
stack; pending target; coming beats that issue nothing; delay slots; slots issued; whether EPOCH_END has issued; active
context; bank op streams and the banks generator streams claim in this beat; register writes on their way; an LRW of
this beat; completed beats; a pending pulse and the pulse number; freeze; latched high words with their offsets (R59); whether
port E of bank 15 serves fetch in this beat; a bank whose accesses of this beat fail address parity (R388). -/
structure Tiller where
  cur : Option Row
  ipc : Nat
  fctx : Nat
  fpc : Nat
  fetched : List Fetched
  loops : List Loop
  loopBuf : Map (Option Row)
  rets : List Nat
  redirect : Option Redirect
  skip : Nat
  delay : Nat
  slots : List Nat
  endIssued : Bool
  active : Nat
  streams : List BankStream
  gclaims : List Nat
  swrites : List SWrite
  lrw : Option (Nat × Word32)
  beat : Nat
  pulse : Bool
  pulses : Nat
  frozen : Bool
  latch : List (Nat × Word32)
  fetchNow : Bool
  badBank : Option Nat
  deriving DecidableEq, Repr

/-- One column of an accumulator entry (R124 to R128): value, anchor, INEXACT, special state
(0 none, 1 +∞, 2 −∞, 3 NaN), residue of the untruncated sum (R114). -/
structure ColAcc where
  v : Int
  anchor : Int
  empty : Bool
  inexact : Bool
  special : Nat
  res : Nat
  deriving DecidableEq, Repr

/-- An accumulator entry (R90, R113, R128): mode (0 empty, 1 fixed, 2 window), data columns, checksum sum and residue,
and why it is poisoned (0 not, 1 a poisoned row or set, 2 overflow, 3 a scale out of range). -/
structure AccEntry where
  mode : Nat
  cols : List ColAcc
  chk : Int
  chkRes : Nat
  poison : Nat
  deriving DecidableEq, Repr

/-- A stationary set (R96 to R98): whether it is valid, format, orientation, load rows, and whether a poisoned row
landed in it. -/
structure StatSet where
  valid : Bool
  fmt : Nat
  colMajor : Bool
  rows : Map Row
  poison : Bool
  deriving DecidableEq, Repr

/-- A shadow load in flight (R97): issue beat, next load row, source, tap base and context. -/
structure ShadowLoad where
  beat : Nat
  next : Nat
  len : Nat
  src : Nat
  tap : Nat
  ctx : Nat
  deriving DecidableEq, Repr

/-- A stream in flight (R103) with what it latched at issue; the elements and marks of an input row still gathering its
feed rows, the set that row meets, the scale row in use (R94), and the input rows judged already with whether each is
padding (R108). -/
structure ArrStream where
  beat : Nat
  kind : Nat
  fmt : Nat
  outFmt : Nat
  rnd : Nat
  count : Nat
  vd : Nat
  ring : Nat
  gen : Nat
  acc : Bool
  feeds : Nat
  scaleRow : Nat
  numCtl : Nat
  ctx : Nat
  rowBuf : List FNum
  rowPoison : Bool
  rowSet : Option StatSet
  scale : Option (Row × Bool)
  pads : List (Nat × Bool)
  deriving DecidableEq, Repr

/-- An accepted input row on its way through the cells (R103): acceptance beat, row number, whether its first update
adds, entry mode, output format, rounding, ring, NUM_CTL, the products of each column, the checksum column's products,
and its marks. -/
structure AccRow where
  beat : Nat
  idx : Nat
  add : Bool
  mode : Nat
  outFmt : Nat
  rnd : Nat
  vd : Nat
  ring : Nat
  numCtl : Nat
  prods : List (List FNum)
  chk : List FNum
  poison : Bool
  range : Bool
  deriving DecidableEq, Repr

/-- A checksum comparison still to conclude (R115): presentation beat, entry, whether poison skips it, cause code, and
the difference of the two sums or residues. -/
structure PendCheck where
  beat : Nat
  entry : Nat
  skip : Bool
  cause : Nat
  delta : Int
  deriving DecidableEq, Repr

/-- An address generator's latched geometry and position (R106). -/
structure GenState where
  regs : List Nat
  pos : Nat
  quad : Bool
  start : Nat
  deriving DecidableEq, Repr

/-- The matrix array (R89 to R117). -/
structure ArrayUnit where
  active : StatSet
  shadow : StatSet
  complete : Bool
  armed : Bool
  completeAt : Option Nat
  freshAt : Option Nat
  clearTo : Nat
  load : Option ShadowLoad
  streams : List ArrStream
  nextFree : Nat
  swapBeat : Option Nat
  rows : List AccRow
  entries : Map AccEntry
  checks : List PendCheck
  gens : Map GenState
  feed : List FeedRow
  deriving DecidableEq, Repr

/-- A gather-buffer entry (R163): flat row, eight words, word mask, its issuer as LAST_REJECT numbers issuers, and the
parity bit of each word. -/
structure GatherEntry where
  row : Nat
  data : Row
  mask : BitVec 8
  issuer : Nat
  par : BitVec 8
  deriving DecidableEq, Repr

/-- An access kept for the port rules of R151 and R152 and for the bank's pipeline (R155): beat, bank-local row, kind
(0 port E read, 1 port E write, 2 port E ALIAS, 3 alias landing, 4 other port X write, 5 port X read), and the stored word
and the words of a gather entry before it. -/
structure RowUse where
  beat : Nat
  row : Nat
  kind : Nat
  old : CodeWord
  gath : Option (Row × BitVec 8)
  deriving DecidableEq, Repr

/-- A request of the row window that waits for port X (R165): read or write, flat row, word mask, data. -/
structure WinReq where
  read : Bool
  row : Nat
  mask : BitVec 8
  data : Row
  deriving DecidableEq, Repr

/-- A remap copy on its way to its spare (R169): spare, bank-local row, beat of the write, and the word, none once the row
has been written. -/
structure RowCopy where
  spare : Nat
  row : Nat
  beat : Nat
  word : Option CodeWord
  deriving DecidableEq, Repr

/-- One bank (R143 to R174) beside its registers and rows: owner in force, staged owner, whether it was staged in this
beat, at whose end both owners are judged, sleep state as BANK_STATUS numbers it, pending wake, whether it was off, pail tags and the beat
each FULL row filled in (R393), dirty and inbound bitmaps by bank-local row (`snapAll`:
every bit of SNAP_DIRTY is set; `snapLate`: rows that locks have folded into SNAP_DIRTY since a snapshot's release, R422), gather buffer, pending correction
write-backs, port X use of the beat by scheduled and by fill-in agents, the uses that the port rules need, classes of
fill-in agents that asked for port X in vain with the beat (R150), and remap copies on their way. -/
structure Bank where
  owner : Nat
  staged : Option Nat
  ownerNext : Bool
  sleep : Nat
  wakePending : Bool
  wasOff : Bool
  full : Map Bool
  fillBeat : Map Nat
  epochDirty : Map Bool
  snapAll : Bool
  snapDirty : Map Bool
  snapLate : Map Bool
  inbound : Map Bool
  gather : List GatherEntry
  writeback : List (Nat × Row)
  busy : Bool
  fill : Bool
  uses : List RowUse
  waits : List (Nat × Nat)
  copies : List RowCopy
  deriving DecidableEq, Repr

/-- An error that is raised when its data is presented (R147): beat, summary bit, cause, detail, and how recovery
weighs it, as in an alarm. -/
structure DueError where
  beat : Nat
  bit : Nat
  cause : Nat
  detail : Nat
  aux : Nat
  deriving DecidableEq, Repr

/-- An injection read and waiting for its departure beat (R186): beat, lanes, word, poison, last bit, deliveries, and whether
an INJECT op made it, whose lanes and deliveries are those of its departure slot. -/
structure Injection where
  beat : Nat
  lanes : List Nat
  word : CodeWord
  poison : Bool
  last : Bool
  deliv : Nat
  op : Bool
  deriving DecidableEq, Repr

/-- A fork that still holds its token (R191): source (an incoming lane, or 8 for LOCAL), lanes not yet acknowledged, and
the flat row of a landing that a pail blocks. -/
structure ForkHold where
  src : Nat
  tok : Token
  lanes : List Nat
  land : Option Nat
  deriving DecidableEq, Repr

/-- An INJECT op whose port X read waits on an EMPTY pail row (R160): flat row, lanes and deliveries. -/
structure WaitInj where
  flat : Nat
  lanes : List Nat
  deliv : Nat
  deriving DecidableEq, Repr

/-- The mesh switch (R177 to R203) beside its registers: tokens in input registers and on outgoing lanes, incoming lanes
accepted whose sender is not yet acknowledged, lanes taken in this beat, forks, wheels in force and staged (key
`64 × wheel + slot`), injections, LAND ops of this beat as (lane, flat row), circuit register contexts, circuit writes
that stand from the next beat, circuit registers whose injection of this beat is made or waits, those whose read waits on a
pail with its flat row, an INJECT op waiting on a pail, the bank that this beat's mesh-slot op uses, INJECT ops of this beat,
uses of circuit registers in this beat, pulses that the selected lane's request has waited (R468), tokens in the ferry switches
of an outgoing lane, oldest first (R374), and wheel entries (circuit register k as 512 + k) that fail their parity, with those
found so and invalid in this beat (R190). -/
structure Switch where
  inputs : Map (Option Token)
  outs : Map (Option Token)
  owed : List Nat
  taken : List Nat
  forks : List ForkHold
  wheel : Map Word32
  staged : Map (Option Word32)
  injections : List Injection
  landOps : List (Nat × Nat)
  circCtx : Map Nat
  circPend : List (Nat × Word32 × Nat)
  doneCirc : List Nat
  waitCirc : List (Nat × Nat)
  waitInj : Option WaitInj
  opBank : Option Nat
  injects : Nat
  circUses : List Nat
  hsWait : Nat
  ferry : Map (List Token)
  upset : List Nat
  bad : List Nat
  deriving DecidableEq, Repr

/-- An alarm or notice message (R217, R218): cause code, detail, source beat, low word of the epoch number, basin (16 for none), source tile (2304 for another agent), and how recovery weighs it (0 by its cause, 1 curable, 2 not, 3 a curable parity error). -/
structure AlarmMsg where
  cause : Nat
  detail : Nat
  beat : Nat
  epoch : Nat
  basin : Nat
  src : Nat
  aux : Nat
  deriving DecidableEq, Repr

/-- A batch held at a tile (R52, R220, R223): identifier, target lock, the count of its seal, batch writes received,
the words they stage, whether it activates firmware that is not verified, the image it activates, and the staged places of its
words that the tile itself has staged again since (R51, R201). -/
structure TileBatch where
  id : Nat
  target : Nat
  sealN : Option Nat
  msgs : Nat
  writes : List (Nat × Nat)
  bad : Bool
  act : Option Nat
  covered : List Nat
  deriving DecidableEq, Repr

/-- A response to a configuration request (R219). -/
structure CfgRsp where
  src : Nat
  status : Nat
  data : List Word32
  deriving DecidableEq, Repr

/-- A message on a link between two routers (R210): its words, and how many of them have crossed and are held by the buffer
of the receiving end. -/
structure TpEntry where
  words : List TpWord
  sent : Nat
  deriving DecidableEq, Repr

/-- The tile's towpath router (R205 to R226) beside its registers; `up` is its spoke towards its berth hub. -/
structure TpRouter where
  gens : Map Bool
  pend : List Nat
  waitBar : Option Nat
  alarms : List AlarmMsg
  overflow : Bool
  irqs : List AlarmMsg
  irqSeen : List Nat
  batches : List TileBatch
  responses : List CfgRsp
  up : List TpEntry
  deriving DecidableEq, Repr

/-- The firmware store (R221 to R223, R446): active and staged halves by 16-byte chunk, and the chunk record; identifier,
chunk count and CRC-64 of the active half's image. -/
structure FwStore where
  activeHalf : Map (BitVec 128)
  stagedHalf : Map (BitVec 128)
  ident : Nat
  count : Nat
  crc : Nat
  have_ : Map Bool
  verified : Bool
  actStaged : Bool
  zeroLen : Bool
  actIdent : Nat
  actCount : Nat
  actCrc : Nat
  deriving DecidableEq, Repr

/-- A lock wave result (R215). -/
structure WaveResult where
  diff : Int
  bmin : Nat
  bmax : Nat
  batch : Bool
  faults : Nat
  wave : Nat
  tiles : Nat
  deriving DecidableEq, Repr

/-- The tile's lock logic (R46 to R57, R413): its next lock needs no wave (a first or repeated one), it waits at its
lock, its report is sent, wave number, result held, EPOCH_LEAK seen, batch incomplete at the last report, clean horizon
passed, first fault of the epoch latched, the next lock repeats one, the result of its wave was discarded on its way
(R211); and the epoch store. -/
structure LockUnit where
  open_ : Bool
  atLock : Bool
  reported : Bool
  wave : Nat
  result : Option WaveResult
  leak : Bool
  batchBad : Bool
  cleanPass : Bool
  faulted : Bool
  repeatLock : Bool
  missed : Bool
  estore : Map (BitVec 128)
  deriving DecidableEq, Repr

/-- Digest and trace logic (R459 to R473): bank accumulators; records held in the ring, index of the oldest, records
lost; queued trace messages, records lost since the last message sent, bundles issued since the last PC record. -/
structure DigestUnit where
  acc : Map Word64
  held : Nat
  oldest : Nat
  lost : Nat
  trace : List (List Nat)
  traceLost : Nat
  counter : Nat
  deriving DecidableEq, Repr

/-- The lock image (R404): registers that carry state across a lock, vector registers, both sets, wheels, digests, return
stack, active context, address of the last bundle with where the next one comes from, completed beats, and bank
owners. -/
structure LockImage where
  epoch : Nat
  regs : Map Word64
  vregs : Map VReg
  vpoison : Map Bool
  active : StatSet
  shadow : StatSet
  complete : Bool
  armed : Bool
  wheel : Map Word32
  digests : Map Word64
  rets : List Nat
  actCtx : Nat
  ipc : Nat
  start : Option Redirect
  skip : Nat
  beat : Nat
  owners : Map Nat
  deriving DecidableEq, Repr

/-- The unload and load engines of a tile (R85 to R87): unload direction and load direction while they run, beats of the
unload engine, rows sent and landed, the running digests of both, rows received with the beat they were sent in, rows of
sections 1 to 11 and the trailer as received, and the logical tile whose state was loaded. -/
structure Mover where
  out : Option Nat
  inn : Option Nat
  clock : Nat
  sent : Nat
  landed : Nat
  sentSum : Nat
  gotSum : Nat
  wait : List (Nat × Row × Bool)
  rows : List (Row × Bool)
  loaded : Option Nat
  deriving DecidableEq, Repr

/-- A logical tile (R58, R84) beside its numbered registers and its bank rows.  `stop` tells that STOP has reached it,
`halted` that the beat then in progress has completed (R391); a dark tile is dead or unpowered; `xwait` lists accesses of
exchange agents that wait on a pail and are counted (R174); `win` is the row window's request (R165); `bargeNow` tells that
a barge agent has had port X in this beat, and `bargeAsks` lists the ranks of barge agents that asked in vain, with the beat
(R229). -/
structure Tile where
  til : Tiller
  arr : ArrayUnit
  vregs : Map VReg
  vpoison : Map Bool
  vwrites : List VWrite
  vorder : Nat
  banks : Map Bank
  sw : Switch
  tp : TpRouter
  fw : FwStore
  lk : LockUnit
  dig : DigestUnit
  stagedRegs : Map (Option Word64)
  stop : Bool
  halted : Bool
  image : Option LockImage
  dark : Bool
  dues : List DueError
  draws : List Nat
  arrDraw : Option Nat
  xwait : List Nat
  win : Option WinReq
  bargeNow : Bool
  bargeAsks : List (Nat × Nat)
  streamPend : List (Nat × Word32)
  mover : Mover
  deriving DecidableEq, Repr

/-- A stationary set after reset. -/
def StatSet.init : StatSet := ⟨false, 0, false, [], false⟩
/-- A tiller after reset. (DESIGN CHOICE, log 112) -/
def Tiller.init : Tiller :=
  ⟨none, 0, 1, 0, [], [], [], [], none, 0, 0, [], false, 1, [], [], [], none, 0, false, 0, false, [], false, none⟩
/-- An array after reset. (DESIGN CHOICE, log 112) -/
def ArrayUnit.init : ArrayUnit :=
  ⟨StatSet.init, StatSet.init, false, false, none, none, 0, none, [], 0, none, [], [], [], [], []⟩
/-- A bank after reset. (DESIGN CHOICE, log 112) -/
def Bank.init : Bank := ⟨1, none, false, 0, false, false, [], [], [], false, [], [], [], [], [], false, false, [], [], []⟩
/-- A mesh switch after reset. (DESIGN CHOICE, log 112) -/
def Switch.init : Switch := ⟨[], [], [], [], [], [], [], [], [], [], [], [], [], none, none, 0, [], 0, [], [], []⟩
/-- A towpath router after reset. (DESIGN CHOICE, log 112) -/
def TpRouter.init : TpRouter := ⟨[], [], none, [], false, [], [], [], [], []⟩
/-- A firmware store after reset. (DESIGN CHOICE, log 112) -/
def FwStore.init : FwStore := ⟨[], [], 0, 0, 0, [], false, false, false, 0, 512, 0⟩
/-- A tile's lock logic after reset. (DEDUCED, log 109; DESIGN CHOICE, log 112) -/
def LockUnit.init : LockUnit := ⟨false, false, false, 0, none, false, false, false, false, false, false, []⟩
/-- Digest and trace logic after reset. (DESIGN CHOICE, log 112) -/
def DigestUnit.init : DigestUnit := ⟨[], 0, 0, 0, [], 0, 0⟩
/-- Engines that do not run. (DESIGN CHOICE, log 112) -/
def Mover.init : Mover := ⟨none, none, 0, 0, 0, 0, 0, [], [], none⟩
/-- A tile as reset leaves it. (DESIGN CHOICE, log 112) -/
def Tile.init : Tile :=
  ⟨Tiller.init, ArrayUnit.init, [], [], [], 0, [], Switch.init, TpRouter.init, FwStore.init, LockUnit.init,
   DigestUnit.init, [], false, false, none, false, [], [], none, [], none, false, [], [], Mover.init⟩

end Sys2Proof.Machine
end

