-- ==== Sys2Proof/Machine/FabricState.lean ====
section
/-! DEFINITION. The state of a basin that no single tile holds: its rectangle, the towpath frames on their way, hold
requests, the Lockkeeper's copy of the epoch table and the facts of the loaded image. -/

namespace Sys2Proof.Machine

/-- A lock report frame at a router (R215).  `at_` is a hub number 0 to 143 or 144 plus a field for a gateway;
`count` is the number of tile reports it combines. -/
structure LockFrame where
  at_ : Nat
  count : Nat
  rep : WaveResult
  deriving DecidableEq, Repr

/-- A barrier frame at a router (R212), as `at_` of a lock frame numbers routers; `count` is the number of tile frames
it combines. -/
structure BarFrame where
  at_ : Nat
  num : Nat
  gen : Bool
  ext : Nat
  count : Nat
  deriving DecidableEq, Repr

/-- A completed barrier on its way to its participants (R213): those it has not reached yet. -/
structure BarDone where
  num : Nat
  gen : Bool
  tiles : List Nat
  deriving DecidableEq, Repr

/-- A region of the image's region table (R420): base row, length, declared method, method last used, dirty rows. -/
structure Region where
  base : Nat
  len : Nat
  method : Nat
  used : Nat
  dirty : Nat
  deriving DecidableEq, Repr

/-- What a program image states beside the rows it loads (R269, R419, R430, R458): CRC-64, contract level, width,
shape rows, rectangle, seed, saved channels as (port, channel), regions, and the restore map's row moves. -/
structure ImageFacts where
  crc : Nat
  level : Nat
  width : Nat
  rows : Nat
  rect : Nat × Nat × Nat × Nat
  seed : Nat
  channels : List (Nat × Nat)
  regions : List Region
  moves : List (Nat × Nat × Nat × Nat)
  streamMoves : List (Nat × Nat × Nat × Nat)
  deriving DecidableEq, Repr

/-- The facts of no image after reset. -/
def ImageFacts.init : ImageFacts := ⟨0, 0, 64, 48, (0, 0, 0, 0), 0, [], [], [], []⟩

/-- What a STALL carries of one stalled tile (R199): cause, lanes expected and not presented, lanes awaiting
acknowledge, epoch beat, bank or barrier. -/
structure StallRec where
  tile : Nat
  cause : Nat
  ins : List Nat
  outs : List Nat
  beat : Nat
  unit : Nat
  deriving DecidableEq, Repr

/-- A seam lane (R193 to R196): failed wires steered around, wires staged, state (0 in service, 1 steer staged,
2 retired, 3 to be retired at the next hold), handshake disagreements, failed handshake wires, disagreements in a row by
handshake wire; corrections by physical wire and tokens of the current window, with its threshold and length. -/
structure Seam where
  wires : List Nat
  staged : List Nat
  state : Nat
  hs : Nat
  hsFailed : List Nat
  hsRun : Map Nat
  counts : Map Nat
  tokens : Nat
  limit : Nat
  span : Nat
  deriving DecidableEq, Repr

/-- A seam lane after reset. (DESIGN CHOICE, log 112) -/
def Seam.init : Seam := ⟨[], [], 0, 0, [], [], [], 0, 8, 65536⟩

/-- A digest log record (R461): closing epoch, layer tag, flags, tiles reporting, basin digest. -/
structure DigestRec where
  epoch : Nat
  tag : Nat
  flags : Nat
  tiles : Nat
  sum : Nat
  deriving DecidableEq, Repr

/-- Digests of a basin (R461, R462): log, tile records drained and not yet in a record as (tile, epoch, T), flags
[1] and [2] of the spans whose points have closed and have no record yet as (epoch, flags), the non-determinism counter at
the last point, whether the span held a replay, whether a restore precedes it,
captured tile digests, captured bank digests, tile records lost as last seen. -/
structure DigestLog where
  recs : List DigestRec
  pend : List (Nat × Nat × Nat)
  spans : List (Nat × Nat)
  nd : Nat
  replay : Bool
  restored : Bool
  tiles : Map Word64
  banks : List Nat
  lostSeen : Nat
  deriving DecidableEq, Repr

/-- The digest log of a basin after reset. -/
def DigestLog.init : DigestLog := ⟨[], [], [], 0, false, false, [], [], 0⟩

/-- How a lock differs: a first one does not advance the epoch table and starts context 1 at address 0; a repeated one
applies nothing (R56, R406). -/
inductive LockKind where
  | first
  | again
  | normal
  deriving DecidableEq, Repr

/-- A basin (R23, R437).  `stopPos` is the clean horizon when STOP was raised, the last that any tile or engine sees
before STOP (R390); `defers` tells that the wave result in hand defers batches (R52); `lockNow` gives the number and kind of the lock that some tiles have completed, and whether batches apply at it, and `lockDone` those tiles; `held` lists locks that a request has held (R352); `looseMade` tells of a timing-dependent landing in the epoch (R463).  For recovery (R396 to R407):
`alien` tells of poison of another origin in the epoch and `eaten` of poison that a scalar load or fetch took; `tests` lists
targeted tests to come as (tile, class, treated as lasting), `fixed` tiles whose lasting fault was repaired, `judged` the
errors already weighed, and `replays` the epoch's replays. -/
structure Basin where
  rect : Option (Nat × Nat × Nat × Nat)
  stop : Bool
  started : Bool
  lockFrames : List LockFrame
  result : Option WaveResult
  wave : Nat
  leaks : List Nat
  barFrames : List BarFrame
  barDone : List BarDone
  holds : List (HoldCause × Nat)
  held : List Nat
  lockDone : List Nat
  lockNow : Option (Nat × LockKind × Bool)
  waveBegun : Bool
  table : Map (BitVec 128)
  image : ImageFacts
  replayed : Bool
  restored : Bool
  errors : List AlarmMsg
  stalls : List StallRec
  stalled : List Nat
  prepared : Bool
  stopPos : Nat
  looseMade : Bool
  digests : DigestLog
  alien : Bool
  eaten : Bool
  tests : List (Nat × Nat × Bool)
  fixed : List Nat
  judged : Nat
  replays : Nat
  defers : Bool
  deriving DecidableEq, Repr

/-- A basin, undefined after reset. (DESIGN CHOICE, log 112) -/
def Basin.init : Basin :=
  ⟨none, false, false, [], none, 0, [], [], [], [], [], [], none, false, [], ImageFacts.init, false, false, [], [], [], false, 0, false, DigestLog.init, false, false, [], [], 0, 0, false⟩

/-- A berth hub (R219, R224, R226): its miss mask, the MISSING_UP frames of its tiles on their way, as (tile, base,
whether the tile's image is not verified, chunks missing), HUB_RETRY, HUB_DROPS, configuration responses waiting, and its link
towards its field gateway (R210). -/
structure Hub where
  missMask : Nat
  missing : List (Nat × Nat × Bool × List Nat)
  retry : Nat
  drops : Nat
  responses : List CfgRsp
  up : List TpEntry
  deriving DecidableEq, Repr

/-- A berth hub after reset. (DESIGN CHOICE, log 112) -/
def Hub.init : Hub := ⟨0, [], 0, 0, [], []⟩

end Sys2Proof.Machine
end

