-- ==== Sys2Proof/Machine/HostState.lean ====
section
/-! DEFINITION. The state of the host interface (R264 to R283) and of the object dictionary's server
(R284 to R311) beside their registers and entries. -/

namespace Sys2Proof.Machine

/-- A submission entry taken from a queue (R268, R272): tag, interrupt request, start row, length, rows of it that the
slot needs, rows landed, rows landed at the last lock, whether a host read of it failed, and its status once it is
complete. -/
structure HostEntry where
  tag : Nat
  irq : Bool
  start : Nat
  len : Nat
  need : Nat
  landed : Nat
  landedLock : Nat
  bad : Bool
  status : Option Nat
  deriving DecidableEq, Repr

/-- A completion entry written to a completion ring (R268). -/
structure HostCpl where
  queue : Nat
  pos : Nat
  tag : Nat
  status : Nat
  phase : Bool
  rows : Nat
  cursor : Nat
  deriving DecidableEq, Repr

/-- A queue beside its BAR0 registers (R266 to R281): ring size in force, entries taken and not posted, completion
position, phase, completion slots not yet freed, tail, completions counted for coalescing, position in the binding's
ring with its value at the last lock, and rows landed in the epoch. -/
structure HostQueue where
  size : Nat
  entries : List HostEntry
  cplPos : Nat
  phase : Bool
  used : Nat
  tail : Nat
  coal : Nat
  ringPos : Nat
  ringPosLock : Nat
  landedEpoch : Nat
  deriving DecidableEq, Repr

/-- A queue after reset. (DESIGN CHOICE, log 112) -/
def HostQueue.init : HostQueue := ⟨0, [], 0, true, 0, 0, 0, 0, 0, 0⟩

/-- An outbound host write in progress (R275, R393, R394): descriptor, gate beat, sending basin, rows written, and
whether a row was written as poison. -/
structure HostWrite where
  desc : Row
  gate : Nat
  basin : Nat
  read : Nat
  bad : Bool
  deriving DecidableEq, Repr

/-- The PCIe endpoint and its engine (R264 to R283): queues (128 is the admin queue), completions written, MSI-X vectors
signalled, pending and unmasked, rows written to host memory, the write in progress at each host attachment tile,
descriptor window positions with their values at the last lock, the highest OSEQ reported of each basin plus 1, mailbox
data, link and reset, and basins whose STOP the engine has seen. -/
structure HostIf where
  queues : Map HostQueue
  cpls : List HostCpl
  msix : List Nat
  pba : List Nat
  unmasked : List Nat
  posted : List (Nat × Row)
  writes : Map (Option HostWrite)
  winPos : Map Nat
  winPosLock : Map Nat
  oseq : Map Nat
  mbData : List Nat
  linkUp : Bool
  perst : Bool
  refLost : Bool
  stops : List Nat
  deriving DecidableEq, Repr

/-- The host interface after reset. (PRESUMED, log 48; DESIGN CHOICE, log 112) -/
def HostIf.init : HostIf := ⟨[], [], [], [], [], [], [], [], [], [], [], false, false, false, []⟩

/-- A clamp record (R304). -/
structure ClampRec where
  index : Nat
  sub : Nat
  src : Nat
  off : Nat
  x : Nat
  y : Nat
  written : Nat
  applied : Nat
  lock : Nat
  basin : Nat
  read : Bool
  deriving DecidableEq, Repr

/-- A batch of object entries or tile registers that the Lockkeeper issued (R52, R301). `state`: 0 staged, 1 applied,
2 deferred, 3 discarded.  `regs` counts the batch writes sent to each tile. -/
structure ObjBatch where
  id : Nat
  basin : Nat
  state : Nat
  target : Nat
  deferrals : Nat
  entries : List (Nat × Nat)
  deriving DecidableEq, Repr

/-- The answer to an SDO or mailbox request: abort code (0 for success) and data bytes. -/
structure SdoRsp where
  abort : Nat
  data : List Nat
  deriving DecidableEq, Repr

/-- The dictionary's server (R284 to R311): clamp ring, batches, AL state and status code, the last response, Emergencies
sent with the heartbeat they were sent in, heartbeats since power-good, whether set-points are present, set-points
waiting for SYNC0, a budget received while they are absent, sync mode in force, PDO layouts in force as object keys, the
TxPDO last latched, consecutive sync errors, the source of the write being served (R304), and alarms received at the
last latch.  By basin: SLACK_PULSES of its tiles (keyed by tile) and its beat count at the last heartbeat, the slack and the beats of the
millisecond before it, and the beat count when the report window began, whose length in ms is `winLen`. -/
structure ObjServer where
  clamps : Map (Option ClampRec)
  batches : List ObjBatch
  nextId : Nat
  al : Nat
  alStatus : Nat
  rsp : Option SdoRsp
  emergencies : List (Nat × AlarmMsg)
  ms : Nat
  present : Bool
  setPending : Option (Nat × Nat)
  held : Option Nat
  sync : Nat
  txLayout : List Nat
  rxLayout : List Nat
  txPdo : List (Nat × Nat)
  syncMiss : Nat
  src : Nat
  alarmMark : Nat
  slackMark : Map Nat
  beatMark : Map Nat
  slack : Map Nat
  beats : Map Nat
  winMark : Map Nat
  winDone : Map Nat
  winLen : Nat
  deriving DecidableEq, Repr

/-- The object server after reset. (DESIGN CHOICE, log 112) -/
def ObjServer.init : ObjServer :=
  ⟨[], [], 0, 1, 0, none, [], 0, false, none, none, 0, [], [], [], 0, 0, 0, [], [], [], [], [], [], 1⟩

/-- One Lockkeeper (R284 to R287): state 0 not in service, 1 booting, 2 standby mirroring, 3 active, 4 updating. -/
structure Keeper where
  state : Nat
  selfTest : Bool
  slot : Nat
  alarms : List AlarmMsg
  deriving DecidableEq, Repr

/-- A Lockkeeper after reset. (DEDUCED, log 115) -/
def Keeper.init : Keeper := ⟨1, false, 0, []⟩

end Sys2Proof.Machine
end

