-- ==== Sys2Proof/Machine/LinkState.lean ====
section
/-! DEFINITION. The state of a Voxvia port beside its objects (R228 to R263). -/

namespace Sys2Proof.Machine

/-- A control message (R241): opcode and payload bits [239:0]. -/
structure CtrlMsg where
  op : Nat
  body : BitVec 240
  deriving DecidableEq, Repr

/-- A barge being received (R243 to R248): header; the status its header drew; duplicate; waiting for its epoch; ROW
flits received; rows taken from the crossing; rows landed; first row not landed with its port X status; running digest;
rows at the crossing; ended; the digest of its TAIL; notify row written; old rows to return; a return barge; whether it
made a timing-dependent choice. -/
structure RxBarge where
  hdr : Row
  status : Option Nat
  dup : Bool
  waiting : Bool
  recvd : Nat
  taken : Nat
  landed : Nat
  firstBad : Option (Nat × Nat)
  digest : Nat
  rows : List (Row × Bool)
  ended : Bool
  tail : Option Nat
  notified : Bool
  returns : List (Row × Bool)
  isReturn : Bool
  loose : Bool
  deriving DecidableEq, Repr

/-- A barge being sent or awaiting its completion (R249, R250, R256): descriptor, sequence number, the gate beat of its
HEAD, sending basin (16 for none), progress, running digest, whether it is resent, and the rows of a return barge. -/
structure TxBarge where
  desc : Row
  seq : Nat
  gate : Nat
  basin : Nat
  headSent : Bool
  read : Nat
  digest : Nat
  resend : Bool
  rows : Option (List (Row × Bool))
  deriving DecidableEq, Repr

/-- What the receiver keeps of a barge that advanced e (R244): SEQ, digest, rows landed. -/
structure StoredBarge where
  seq : Nat
  digest : Nat
  landed : Nat
  deriving DecidableEq, Repr

/-- One port of a link block.  `retry` numbers the states of R238 from 0; `buf` is the retry buffer; `accepted` the
receive buffer; credit maps are keyed by channel, 256 for the completion pool; `lastRep` holds the last reported number
plus 1; `records` is keyed `2³² × channel + SEQ`; `retDue` lists return barges to come; `stops` lists basins whose STOP
the port has seen; `wire` lists every flit sent; `hdrErrs` and `ctrlErrs` count header errors and discarded control
messages (R235, R241). -/
structure Port where
  retry : Nat
  buf : List Flit
  replays : Nat
  retrainFails : Nat
  attempts : Nat
  txSeq : Nat
  rxSeq : Nat
  nakOut : Bool
  kolvosNak : Option Nat
  unacked : Nat
  accepted : List Flit
  granted : Map Nat
  spent : Map Nat
  given : Map Nat
  shared : Map Nat
  ctrlSent : Nat
  ctrlBack : Nat
  ctrlFreed : Nat
  ctrlOut : List CtrlMsg
  nextTx : Map Nat
  nextTxLock : Map Nat
  expRx : Map Nat
  lastRep : Map Nat
  chState : Map Nat
  rx : Map (Option RxBarge)
  stored : Map (List StoredBarge)
  tx : List TxBarge
  outstanding : List TxBarge
  records : Map Row
  retDue : List (Nat × Nat)
  winPos : Nat
  winPosLock : Nat
  qualTx : Nat
  qualRx : Nat
  peer : Option (BitVec 240)
  idChanged : Bool
  helloDone : Bool
  syncGot : List (Nat × Nat)
  syncIn : Bool
  syncAck : Bool
  modeDone : Bool
  newLink : Bool
  stops : List Nat
  drain : Nat
  wire : List Flit
  hdrErrs : Nat
  ctrlErrs : Nat
  deriving DecidableEq, Repr

/-- A port as reset leaves it. (DEDUCED, log 34; DESIGN CHOICE, log 112) -/
def Port.init : Port :=
  { retry := 0, buf := [], replays := 0, retrainFails := 0, attempts := 0, txSeq := 0, rxSeq := 0, nakOut := false,
    kolvosNak := none, unacked := 0, accepted := [], granted := [], spent := [], given := [], shared := [],
    ctrlSent := 0, ctrlBack := 0, ctrlFreed := 0, ctrlOut := [], nextTx := [], nextTxLock := [], expRx := [],
    lastRep := [], chState := [], rx := [], stored := [], tx := [], outstanding := [], records := [], retDue := [],
    winPos := 0, winPosLock := 0, qualTx := 0, qualRx := 0, peer := none, idChanged := false, helloDone := false,
    syncGot := [], syncIn := false, syncAck := false, modeDone := true, newLink := false, stops := [], drain := 0,
    wire := [], hdrErrs := 0, ctrlErrs := 0 }

/-- The link blocks beside their ports (R480, R483): the reference is absent; per cage, its medium is out, its auxiliary
supply has tripped; per port, its link firmware restarts; and
LANE_DROPPED notices sent since power-good. -/
structure Links where
  ports : Map Port
  refLost : Bool
  cageOut : Map Bool
  cageOff : Map Bool
  fwRestart : Map Bool
  laneDrops : Nat
  deriving DecidableEq, Repr

/-- The link blocks after reset. (DESIGN CHOICE, log 112) -/
def Links.init : Links := ⟨[], false, [], [], [], 0⟩

end Sys2Proof.Machine
end

