-- ==== Sys2Proof/Machine/CellarState.lean ====
section
/-! DEFINITION. The state of the cellar: snapshot records, requests, and the snapshot and restores in progress (R416 to
R436). -/

namespace Sys2Proof.Machine

/-- What a record holds of one tile beside its rows (R419): its state as a lock image holds it, the registers, wheel
entries and bank owners staged for the lock, and the batches it holds. -/
structure SnapTile where
  tile : Nat
  image : LockImage
  regs : Map (Option Word64)
  wheel : Map (Option Word32)
  owners : List (Nat × Nat)
  batches : List TileBatch
  store : Map (BitVec 128)
  deriving DecidableEq, Repr

/-- A saved channel (R419): port, channel, next transmit number, expected receive number, last reported number plus 1,
and the stored barges of R244. -/
structure SnapChannel where
  port : Nat
  channel : Nat
  nextTx : Nat
  expRx : Nat
  lastRep : Nat
  stored : List StoredBarge
  deriving DecidableEq, Repr

/-- A snapshot record (R416, R419): basin, full or incremental, slot of a full one (0 A, 1 B), the epoch object in the hold
of its lock, lock count, beat count, contract level, image facts, shape rows, grade, rectangle, epoch table, tiles,
ranges of rows copied whole, rows as `65536 × tile + flat row`, channels, slot cursors, OSEQ plus 1, staged batches, RWL
objects, non-determinism counter, length in bytes, and when it was secured. -/
structure SnapRecord where
  basin : Nat
  full : Bool
  slot : Nat
  epoch : Nat
  locks : Nat
  beats : Nat
  level : Nat
  image : ImageFacts
  rows : Nat
  grade : Nat
  rect : Nat × Nat × Nat × Nat
  table : Map (BitVec 128)
  tiles : List SnapTile
  whole : List (Nat × Nat)
  cells : Map (Option CodeWord)
  channels : List SnapChannel
  slots : List (Nat × Nat)
  oseq : Nat
  batches : List ObjBatch
  objs : List (Nat × Nat)
  nd : Nat
  bytes : Nat
  time : Nat
  deriving DecidableEq, Repr

/-- A snapshot in progress (R422): basin, full or incremental, lock number, phase (2 hold placed, 3 copying,
4 flushing), its record once copied, and whether the risk score asked for it. -/
structure SnapJob where
  basin : Nat
  full : Bool
  lock : Nat
  phase : Nat
  rec_ : Option SnapRecord
  risk : Bool
  deriving DecidableEq, Repr

/-- A restore (R427, R430): basin, whether of the older full snapshot, whether it has fallen back, whether it waits for a
fallback image, and its chain, oldest record first. -/
structure RestoreJob where
  basin : Nat
  older : Bool
  fallback : Bool
  needImage : Bool
  chain : List SnapRecord
  deriving DecidableEq, Repr

/-- The cellar: secured records, oldest first; requests queued as (basin, full), head first; the snapshot in progress;
restores, of which the first not waiting for an image is in progress; basins restored or reset since their last full
snapshot; the last risk samples, newest first, of corrections of one and two bits, droops, depletions, retrains and lane
drops; the heartbeat of the last risk trigger; and basins whose waiting request the risk score made. -/
structure Cellar where
  records : List SnapRecord
  queue : List (Nat × Bool)
  job : Option SnapJob
  restores : List RestoreJob
  renew : List Nat
  risk : List (List Nat)
  trigger : Option Nat
  risky : List Nat
  deriving DecidableEq, Repr

/-- The cellar after reset. (DESIGN CHOICE, log 112) -/
def Cellar.init : Cellar := ⟨[], [], none, [], [], [], none, []⟩

end Sys2Proof.Machine
end

