-- ==== Sys2Proof/Machine/Regs.lean ====
section
/-! DEFINITION. The tile-local register map (R58): one descriptor per row of the spec's register tables. -/

namespace Sys2Proof.Machine

/-- A row of a tile-local register table: base offset, two strides with their counts, width in bits,
access (0 RO, 1 RW, 2 RWL), default, mask of the bits that are not reserved, and range. -/
structure RegDesc where
  base : Nat
  s1 : Nat
  n1 : Nat
  s2 : Nat
  n2 : Nat
  bits : Nat
  acc : Nat
  dflt : Nat
  mask : Nat
  lo : Nat
  hi : Nat
  deriving DecidableEq, Repr

/-- Tiller, lock, beat and epoch store registers (R56, R57, R88). -/
def tillerRegs : List RegDesc := [
  ⟨0xf30, 0, 1, 0, 1, 32, 0, 0, 0xff, 0, 0xff⟩,  -- R56 EPOCH_REC
  ⟨0xf34, 0, 1, 0, 1, 32, 0, 0, 0xffffffff, 0, 0xffffffff⟩,  -- R56 EPOCH_LEFT
  ⟨0xf38, 0, 1, 0, 1, 32, 1, 0, 0xffffffff, 0, 0xff⟩,  -- R56 ESTORE_IDX
  ⟨0xf40, 4, 4, 0, 1, 32, 1, 0, 0xffffffff, 0, 0xffffffff⟩,  -- R56 ESTORE_DATA w
  ⟨0xf00, 0, 1, 0, 1, 64, 0, 0, 0xffffffffffffffff, 0, 0xffffffffffffffff⟩,  -- R57 EPOCH_NUM
  ⟨0xf08, 0, 1, 0, 1, 32, 0, 0, 0xffffffff, 0, 0xffffffff⟩,  -- R57 EPOCH_BEAT
  ⟨0xf0c, 0, 1, 0, 1, 32, 2, 0x4000, 0xffffffff, 0x100, 0xffffffff⟩,  -- R57 EPOCH_LEN
  ⟨0xf10, 0, 1, 0, 1, 32, 2, 0x3fff, 0xffffffff, 1, 0xffffffff⟩,  -- R57 REPORT_BEAT
  ⟨0xf18, 0, 1, 0, 1, 32, 0, 0, 0xffffffff, 0, 0xffffffff⟩,  -- R57 TOKENS_SENT
  ⟨0xf1c, 0, 1, 0, 1, 32, 0, 0, 0xffffffff, 0, 0xffffffff⟩,  -- R57 TOKENS_RECV
  ⟨0xf20, 0, 1, 0, 1, 32, 0, 0, 0xffffffff, 0, 0xffffffff⟩,  -- R57 HELD_PULSES
  ⟨0xf24, 0, 1, 0, 1, 32, 0, 0, 0xffffffff, 0, 0xffffffff⟩,  -- R57 LOCK_STATUS
  ⟨0xf28, 0, 1, 0, 1, 64, 0, 0, 0xffffffffffffffff, 0, 0xffffffffffffffff⟩,  -- R57 BATCH_TARGET
  ⟨0, 0, 1, 0, 1, 32, 0, 0, 0xfffff, 0, 0xffffffff⟩,  -- R88 TILE_ID
  ⟨8, 0, 1, 0, 1, 32, 0, 1, 0x7ff, 0, 0xffffffff⟩,  -- R88 TILLER_STATUS
  ⟨0xc, 0, 1, 0, 1, 8, 0, 0, 0xff, 0, 8⟩,  -- R88 FAULT_CAUSE
  ⟨0x10, 0, 1, 0, 1, 32, 0, 0, 0xffffffff, 0, 0xffffffff⟩,  -- R88 FAULT_BEAT
  ⟨0x14, 0, 1, 0, 1, 16, 0, 0, 0xffff, 0, 0x7ff⟩,  -- R88 FAULT_PC
  ⟨0x18, 0, 1, 0, 1, 16, 2, 0x800, 0xffff, 0, 0x800⟩,  -- R88 CODE_SEG_LEN
  ⟨0x1c, 0, 1, 0, 1, 32, 0, 0, 0xffffffff, 0, 0xffffffff⟩,  -- R88 ZERO_LEN_COUNT
  ⟨0x20, 0, 1, 0, 1, 32, 0, 0, 0xffffffff, 0, 0xffffffff⟩,  -- R88 TILLER_MISMATCH count
  ⟨0x24, 0, 1, 0, 1, 32, 0, 0, 0xffffffff, 0, 0xffffffff⟩,  -- R88 VREG_COLLIDE
  ⟨0x28, 0, 1, 0, 1, 16, 0, 0, 0xffff, 0, 0xffff⟩,  -- R88 TASK_FAULT_COUNT
  ⟨0x100, 0x20, 4, 0, 1, 16, 2, 0, 0xffff, 0, 0x9fff⟩,  -- R88 DATA_BASE
  ⟨0x104, 0x20, 4, 0, 1, 16, 2, 0, 0xffff, 0, 0xffff⟩,  -- R88 DATA_BOUND
  ⟨0x108, 0x20, 4, 0, 1, 16, 2, 0, 0xffff, 0, 0x7ff⟩,  -- R88 CODE_BASE
  ⟨0x10c, 0x20, 4, 0, 1, 16, 2, 0, 0xffff, 0, 0xffff⟩,  -- R88 CODE_BOUND
  ⟨0x110, 0x20, 4, 0, 1, 16, 0, 0, 0xffff, 0, 0x7ff⟩,  -- R88 PC
  ⟨0x114, 0x20, 4, 0, 1, 8, 0, 0, 0xff, 0, 3⟩,  -- R88 CTX_STATE
  ⟨0x200, 4, 32, 0, 1, 32, 0, 0, 0xffffffff, 0, 0xffffffff⟩,  -- R88 S(i)
  ⟨0xe00, 0, 1, 0, 1, 32, 1, 0, 0x3f, 0, 0xffffffff⟩,  -- R88 UNLOAD_CTL
  ⟨0xe04, 0, 1, 0, 1, 8, 0, 0, 0xff, 0, 3⟩,  -- R88 UNLOAD_STATUS
  ⟨0xe08, 0, 1, 0, 1, 32, 0, 0, 0xffffffff, 0, 0xffffffff⟩  -- R88 Rows sent
  ]

/-- Digest, test multiplexer and trace registers (R473). -/
def digestRegs : List RegDesc := [
  ⟨0x800, 0, 1, 0, 1, 32, 2, 0xffff, 0xffff, 0, 0xffffffff⟩,  -- R473 DIGEST_EN
  ⟨0x804, 0, 1, 0, 1, 32, 0, 0, 0xffff0001, 0, 0xffffffff⟩,  -- R473 DIGEST_POINT
  ⟨0x808, 0, 1, 0, 1, 32, 0, 0, 0xffff007f, 0, 0xffffffff⟩,  -- R473 DIGEST_RING_STAT
  ⟨0x80c, 0, 1, 0, 1, 32, 1, 0, 0xffffffff, 0, 8⟩,  -- R473 DIGEST_ACK
  ⟨0x810, 0, 1, 0, 1, 32, 1, 0, 0xffffffff, 0, 0xffffffff⟩,  -- R473 DIGEST_CAP_EPOCH
  ⟨0x814, 0, 1, 0, 1, 32, 1, 0, 3, 0, 0xffffffff⟩,  -- R473 DIGEST_CAP_CTL
  ⟨0x880, 0x10, 8, 0, 1, 32, 0, 0, 0xffffffff, 0, 0xffffffff⟩,  -- R473 DIGEST_RING epoch
  ⟨0x888, 0x10, 8, 0, 1, 64, 0, 0, 0xffffffffffffffff, 0, 0xffffffffffffffff⟩,  -- R473 DIGEST_RING T
  ⟨0x900, 8, 16, 0, 1, 64, 0, 0, 0xffffffffffffffff, 0, 0xffffffffffffffff⟩,  -- R473 DIGEST_BANKS k
  ⟨0x980, 4, 4, 0, 1, 32, 1, 0, 0x7fff, 0, 0xffffffff⟩,  -- R473 TMUX_P j
  ⟨0x990, 0, 1, 0, 1, 32, 1, 0, 0xf, 0, 0xffffffff⟩,  -- R473 HS_SEL
  ⟨0x994, 0, 1, 0, 1, 32, 0, 0, 0xffffffff, 0, 0xffffffff⟩,  -- R473 HS_REQ
  ⟨0x998, 0, 1, 0, 1, 32, 0, 0, 0xffffffff, 0, 0xffffffff⟩,  -- R473 HS_ACK
  ⟨0x99c, 0, 1, 0, 1, 32, 0, 0, 0xffffffff, 0, 0xffffffff⟩,  -- R473 HS_WAIT
  ⟨0x9a0, 0, 1, 0, 1, 32, 1, 0, 0x7ff, 0, 0xffffffff⟩,  -- R473 TRACE_CTL
  ⟨0x9a4, 0, 1, 0, 1, 32, 1, 0, 0xffffffff, 0, 0xffffffff⟩,  -- R473 TRACE_ROWS
  ⟨0x9a8, 0, 1, 0, 1, 32, 0, 0, 0xffffffff, 0, 0xffffffff⟩,  -- R473 TRACE_LOST
  ⟨0x2f00, 0, 1, 0, 1, 32, 1, 0, 0xffffffff, 0, 0xffffffff⟩  -- R473 TRACE_MARK
  ]

/-- Tile router registers (R226). -/
def routerRegs : List RegDesc := [
  ⟨0xc00, 0, 1, 0, 1, 32, 0, 0, 0x1fff, 0, 0xffffffff⟩,  -- R226 TP_STATUS
  ⟨0xc04, 0, 1, 0, 1, 32, 0, 0, 0xffffffff, 0, 0xffffffff⟩,  -- R226 TP_RETRY
  ⟨0xc08, 0, 1, 0, 1, 32, 0, 0, 0xffffffff, 0, 0xffffffff⟩,  -- R226 TP_DROPS
  ⟨0xc0c, 0, 1, 0, 1, 32, 0, 0, 0xffffffff, 0, 0xffffffff⟩,  -- R226 TP_IRQ_MERGED
  ⟨0xc10, 0, 1, 0, 1, 32, 0, 0, 0x7ff, 0, 0xffffffff⟩,  -- R226 FW_STATUS
  ⟨0xc14, 0, 1, 0, 1, 16, 0, 0, 0xffff, 0, 0x200⟩,  -- R226 FW_MISSING_COUNT
  ⟨0xc18, 0, 1, 0, 1, 32, 0, 0, 0xffffffff, 0, 0xffffffff⟩,  -- R226 FW_REJECTS
  ⟨0xc1c, 0, 1, 0, 1, 32, 0, 0x100, 0x1ff, 0, 0xffffffff⟩,  -- R226 BATCH_PENDING
  ⟨0xc20, 4, 8, 0, 1, 32, 0, 0, 0xffffffff, 0, 0xffffffff⟩,  -- R226 BAR_PEND w
  ⟨0xc40, 4, 10, 0, 1, 32, 0, 0, 0xffffffff, 0, 0xffffffff⟩  -- R226 FW_MISSING w
  ]

/-- Array registers (R118). -/
def arrayRegs : List RegDesc := [
  ⟨0x1000, 0, 1, 0, 1, 32, 1, 0, 1, 0, 1⟩,  -- R118 ARRAY_CFG
  ⟨0x1004, 0, 1, 0, 1, 8, 0, 0x40, 0xff, 0, 0xff⟩,  -- R118 ARRAY_WIDTH
  ⟨0x1008, 0, 1, 0, 1, 32, 0, 0, 0xff7f, 0, 0xffffffff⟩,  -- R118 ARRAY_STATUS
  ⟨0x100c, 0, 1, 0, 1, 16, 1, 0, 0xffff, 0, 0xffff⟩,  -- R118 SCALE_ROW
  ⟨0x1010, 0, 1, 0, 1, 16, 1, 0, 0xffff, 0, 0xffff⟩,  -- R118 XTAP_ROW
  ⟨0x1014, 0, 1, 0, 1, 32, 0, 0, 0xffffffff, 0, 0xffffffff⟩,  -- R118 STARVED_ROWS
  ⟨0x1018, 0, 1, 0, 1, 32, 0, 0, 0xffffffff, 0, 0xffffffff⟩,  -- R118 ORPHAN_ROWS
  ⟨0x101c, 0, 1, 0, 1, 32, 0, 0, 0xffffffff, 0, 0xffffffff⟩,  -- R118 CHECK_FAIL_COUNT
  ⟨0x1020, 0, 1, 0, 1, 8, 0, 0, 0xff, 0, 5⟩,  -- R118 CHECK_FAIL_CAUSE
  ⟨0x1024, 0, 1, 0, 1, 32, 0, 0, 0xffffffff, 0, 0xffffffff⟩,  -- R118 CHECK_FAIL_BEAT
  ⟨0x1028, 0, 1, 0, 1, 16, 0, 0, 0xffff, 0, 0xff⟩,  -- R118 CHECK_FAIL_ENTRY
  ⟨0x1030, 0, 1, 0, 1, 64, 0, 0, 0xffffffffffffffff, 0, 0xffffffffffffffff⟩,  -- R118 CHECK_DELTA
  ⟨0x1038, 0, 1, 0, 1, 64, 0, 0, 0xffffffffffffffff, 0, 0xffffffffffffffff⟩,  -- R118 COL_MAP
  ⟨0x1040, 0, 1, 0, 1, 32, 0, 0, 0xffffffff, 0, 0xffffffff⟩,  -- R118 POISON_ROWS
  ⟨0x1100, 0x40, 4, 0, 1, 16, 1, 0, 0xffff, 0, 0xffff⟩,  -- R118 GEN_BASE
  ⟨0x1104, 0x40, 4, 0, 1, 8, 1, 1, 0xff, 1, 8⟩,  -- R118 GEN_PITCH
  ⟨0x1108, 0x40, 4, 0, 1, 8, 1, 0, 0xff, 0, 0xff⟩,  -- R118 GEN_PLANE
  ⟨0x110c, 0x40, 4, 0, 1, 16, 1, 1, 0xffff, 1, 0x1000⟩,  -- R118 GEN_IN_W
  ⟨0x1110, 0x40, 4, 0, 1, 16, 1, 1, 0xffff, 1, 0x1000⟩,  -- R118 GEN_IN_H
  ⟨0x1114, 0x40, 4, 0, 1, 16, 1, 1, 0xffff, 1, 0x1000⟩,  -- R118 GEN_OUT_W
  ⟨0x1118, 0x40, 4, 0, 1, 16, 1, 0, 0xffff, 0, 0xffff⟩,  -- R118 GEN_OX0
  ⟨0x111c, 0x40, 4, 0, 1, 16, 1, 0, 0xffff, 0, 0xfff⟩,  -- R118 GEN_OY0
  ⟨0x1120, 0x40, 4, 0, 1, 32, 1, 0x11, 0xff, 0, 0xffffffff⟩,  -- R118 GEN_STRIDE
  ⟨0x1124, 0x40, 4, 0, 1, 32, 1, 0x11, 0xff, 0, 0xffffffff⟩,  -- R118 GEN_DIL
  ⟨0x1128, 0x40, 4, 0, 1, 32, 1, 0, 0xff, 0, 0xffffffff⟩,  -- R118 GEN_PAD
  ⟨0x112c, 0x40, 4, 0, 1, 32, 1, 0, 0xff, 0, 0xffffffff⟩,  -- R118 GEN_KPOS
  ⟨0x1130, 0x40, 4, 0, 1, 32, 0, 0, 0xffffffff, 0, 0xffffffff⟩  -- R118 GEN_POS
  ]

/-- Numeric registers (R142). -/
def vectorRegs : List RegDesc := [
  ⟨0x2000, 0, 1, 0, 1, 32, 1, 0x67, 0x177, 0, 0xffffffff⟩,  -- R142 NUM_CTL
  ⟨0x2004, 0, 1, 0, 1, 32, 0, 0, 0xff, 0, 0xffffffff⟩,  -- R142 NUM_STATUS
  ⟨0x2008, 0, 1, 0, 1, 32, 0, 0, 0xffffffff, 0, 0xffffffff⟩,  -- R142 INEXACT_ROWS
  ⟨0x200c, 0, 1, 0, 1, 32, 0, 0, 0xffffffff, 0, 0xffffffff⟩,  -- R142 MX_RANGE_ROWS
  ⟨0x2010, 0, 1, 0, 1, 32, 0, 0, 0xffffffff, 0, 0xffffffff⟩,  -- R142 ACC_OVF_ROWS
  ⟨0x2014, 0, 1, 0, 1, 32, 0, 0, 0xffffffff, 0, 0xffffffff⟩,  -- R142 MODE_MIX_ROWS
  ⟨0x2018, 0, 1, 0, 1, 32, 0, 0, 0xffffffff, 0, 0xffffffff⟩,  -- R142 OUT_SAT_COUNT
  ⟨0x2100, 0x20, 8, 4, 4, 32, 1, 0, 0xffffffff, 0, 0xffffffff⟩,  -- R142 Stream s counter word w
  ⟨0x2110, 0x20, 8, 0, 1, 32, 1, 0, 0xffffffff, 0, 0xffffffff⟩,  -- R142 Stream s key word 0
  ⟨0x2114, 0x20, 8, 0, 1, 32, 1, 0, 0xffffffff, 0, 0xffffffff⟩  -- R142 Stream s key word 1
  ]

/-- Bank registers (R173). -/
def bankRegs : List RegDesc := [
  ⟨0x3000, 0x100, 16, 0, 1, 32, 2, 1, 7, 0, 4⟩,  -- R173 BANK_OWNER
  ⟨0x3004, 0x100, 16, 0, 1, 32, 0, 1, 0x1ff, 0, 0xffffffff⟩,  -- R173 BANK_STATUS
  ⟨0x3008, 0x100, 16, 0, 1, 32, 1, 0, 3, 0, 2⟩,  -- R173 SLEEP_CTL
  ⟨0x300c, 0x100, 16, 0, 1, 8, 0, 0, 0xff, 0, 0x10⟩,  -- R173 INFLIGHT_WRITES
  ⟨0x3010, 0x100, 16, 0, 1, 32, 2, 0, 7, 0, 5⟩,  -- R173 ALIAS_CTL
  ⟨0x3014, 0x100, 16, 0, 1, 32, 2, 0, 0xfff0fff, 0, 0xffffffff⟩,  -- R173 ALIAS_WIN
  ⟨0x3018, 0x100, 16, 0, 1, 32, 0, 0, 0xffffffff, 0, 0xffffffff⟩,  -- R173 CE_COUNT
  ⟨0x301c, 0x100, 16, 0, 1, 16, 0, 0, 0xffff, 0, 0xffff⟩,  -- R173 UE_COUNT
  ⟨0x3020, 0x100, 16, 0, 1, 32, 0, 0, 0xffffffff, 0, 0xffffffff⟩,  -- R173 POISON_READS
  ⟨0x3024, 0x100, 16, 0, 1, 32, 0, 0, 0xffffffff, 0, 0xffffffff⟩,  -- R173 COLLIDE_COUNT
  ⟨0x3028, 0x100, 16, 0, 1, 32, 0, 0, 0xffffffff, 0, 0xffffffff⟩,  -- R173 ASLEEP_REJECTS
  ⟨0x302c, 0x100, 16, 0, 1, 32, 0, 0, 0xffffffff, 0, 0xffffffff⟩,  -- R173 OTHER_REJECTS
  ⟨0x3030, 0x100, 16, 0, 1, 32, 0, 0, 0xfffff, 0, 0xffffffff⟩,  -- R173 LAST_REJECT
  ⟨0x3034, 0x100, 16, 0, 1, 16, 0, 0, 0xffff, 0, 0xa00⟩,  -- R173 EPOCH_DIRTY_ROWS
  ⟨0x3038, 0x100, 16, 0, 1, 16, 0, 0, 0xffff, 0, 0xa00⟩,  -- R173 SNAP_DIRTY_ROWS
  ⟨0x303c, 0x100, 16, 0, 1, 8, 0, 0x20, 0xff, 0, 0x20⟩,  -- R173 SPARES_FREE
  ⟨0x3080, 0x100, 16, 4, 32, 32, 1, 0, 0xb0000fff, 0, 0xffffffff⟩  -- R173 REMAP m
  ]

/-- Mesh switch registers (R202). -/
def switchRegs : List RegDesc := [
  ⟨0x4000, 0, 1, 0, 1, 32, 1, 0, 0x13f07, 0, 0xffffffff⟩,  -- R202 WHEEL_SEL
  ⟨0x4004, 0, 1, 0, 1, 32, 2, 0, 0xffffffff, 0, 0xffffffff⟩,  -- R202 WHEEL_DATA
  ⟨0x4008, 0, 1, 0, 1, 16, 0, 0, 0xffff, 0, 0x200⟩,  -- R202 WHEEL_STAGED
  ⟨0x400c, 0, 1, 0, 1, 32, 0, 0, 0x3ffffff, 0, 0xffffffff⟩,  -- R202 SWITCH_STATUS
  ⟨0x4010, 0, 1, 0, 1, 32, 0, 0, 0xffffffff, 0, 0xffffffff⟩,  -- R202 HOP_CE
  ⟨0x4014, 0, 1, 0, 1, 32, 0, 0, 0xffffffff, 0, 0xffffffff⟩,  -- R202 HOP_UE
  ⟨0x4018, 0, 1, 0, 1, 32, 0, 0, 0xffffffff, 0, 0xffffffff⟩,  -- R202 POISON_FWD
  ⟨0x401c, 0, 1, 0, 1, 32, 0, 0, 0xffffffff, 0, 0xffffffff⟩,  -- R202 SIDEBAND_ERR
  ⟨0x4020, 0, 1, 0, 1, 32, 0, 0, 0xffffffff, 0, 0xffffffff⟩,  -- R202 FOREIGN_COUNT
  ⟨0x4024, 0, 1, 0, 1, 32, 0, 0, 0xff7, 0, 0xffffffff⟩,  -- R202 FOREIGN_REC
  ⟨0x4028, 0, 1, 0, 1, 32, 0, 0, 0xffffffff, 0, 0xffffffff⟩,  -- R202 FOREIGN_BEAT
  ⟨0x402c, 0, 1, 0, 1, 32, 0, 0, 0xffffffff, 0, 0xffffffff⟩,  -- R202 FENCE_DROPS
  ⟨0x4030, 0, 1, 0, 1, 32, 0, 0, 0xffffffff, 0, 0xffffffff⟩,  -- R202 WHEEL_PARITY
  ⟨0x4034, 0, 1, 0, 1, 32, 0, 0, 0xffffffff, 0, 0xffffffff⟩,  -- R202 FORK_HOLD_PULSES
  ⟨0x4038, 0, 1, 0, 1, 32, 0, 0, 0xffff, 0, 0xffffffff⟩,  -- R202 STALL_CAUSE
  ⟨0x4100, 8, 32, 0, 1, 32, 1, 0, 0xffffffff, 0, 0xffffffff⟩,  -- R202 CIRC_CNT k
  ⟨0x4104, 8, 32, 0, 1, 32, 1, 0, 0xffffffff, 0, 0xffffffff⟩,  -- R202 CIRC_ROW k
  ⟨0x4200, 4, 8, 0, 1, 32, 0, 0, 0x1f3, 0, 0xffffffff⟩  -- R202 LANE_CFG o
  ]

/-- Pail, gather and row window registers (R174). -/
def pailRegs : List RegDesc := [
  ⟨0x5000, 0x80, 16, 4, 4, 32, 2, 0, 0xffffff, 0, 0xffffffff⟩,  -- R174 PAIL_WIN w
  ⟨0x5010, 0x80, 16, 0, 1, 32, 0, 0, 0xffffffff, 0, 0xffffffff⟩,  -- R174 PAIL_BLOCKS
  ⟨0x5014, 0x80, 16, 0, 1, 32, 0, 0, 0xffff, 0, 0xffffffff⟩,  -- R174 GATHER_STATUS
  ⟨0x5018, 0x80, 16, 0, 1, 32, 0, 0, 0xffffffff, 0, 0xffffffff⟩,  -- R174 GATHER_MERGES
  ⟨0x501c, 0x80, 16, 0, 1, 32, 0, 0, 0xffffffff, 0, 0xffffffff⟩,  -- R174 GATHER_SUPERSEDED
  ⟨0x5020, 0x80, 16, 0, 1, 32, 0, 0, 0xffffffff, 0, 0xffffffff⟩,  -- R174 GATHER_PARTIAL_FLUSHES
  ⟨0x5800, 0, 1, 0, 1, 16, 1, 0, 0xffff, 0, 0x9fff⟩,  -- R174 ROW_WIN_ROW
  ⟨0x5804, 0, 1, 0, 1, 32, 1, 0, 0x3ff, 0, 0xffffffff⟩,  -- R174 ROW_WIN_CTL
  ⟨0x5808, 0, 1, 0, 1, 32, 0, 0, 0x1f, 0, 0xffffffff⟩,  -- R174 ROW_WIN_STATUS
  ⟨0x5820, 4, 8, 0, 1, 32, 1, 0, 0xffffffff, 0, 0xffffffff⟩  -- R174 ROW_WIN_DATA w
  ]

/-- Fault, recovery and repair registers (R385, R413). -/
def faultRegs : List RegDesc := [
  ⟨0x6c00, 0, 1, 0, 1, 32, 1, 1, 3, 0, 3⟩,  -- R385 REPAIR_ROLE
  ⟨0x6c04, 0, 1, 0, 1, 32, 0, 0, 0xffff, 0, 0xffffffff⟩,  -- R385 PHYS_ID
  ⟨0x6c08, 0, 1, 0, 1, 64, 1, 0, 0xffffffffffffffff, 0, 0xffffffffffffffff⟩,  -- R385 COL_MAP_SET
  ⟨0x6c10, 0, 1, 0, 1, 32, 0, 0, 0x1fffff, 0, 0xffffffff⟩,  -- R385 BIST_STATUS
  ⟨0x6c14, 0, 1, 0, 1, 16, 0, 0, 0xffff, 0, 0xa200⟩,  -- R385 BIST_BAD_ROWS
  ⟨0x6c18, 0, 1, 0, 1, 8, 0, 0, 0xff, 0, 0x44⟩,  -- R385 ARRAY_BAD_COLS
  ⟨0x6c1c, 0, 1, 0, 1, 32, 0, 0, 0xffffffff, 0, 0xffffffff⟩,  -- R385 ABSORB_DROPS
  ⟨0x6c20, 0, 1, 0, 1, 32, 1, 0, 3, 0, 2⟩,  -- R385 RESET_CTL
  ⟨0x6c24, 0, 1, 0, 1, 32, 0, 0, 0xffffffff, 0, 0xffffffff⟩,  -- R385 RESET_COUNT
  ⟨0x6000, 0, 1, 0, 1, 32, 0, 0, 0xffe, 0, 0xffffffff⟩,  -- R413 FAULT_SUMMARY
  ⟨0x6004, 0, 1, 0, 1, 32, 0, 0, 0xffffffff, 0, 0xffffffff⟩,  -- R413 FIRST_FAULT
  ⟨0x6008, 0, 1, 0, 1, 32, 0, 0, 0xffffffff, 0, 0xffffffff⟩,  -- R413 FIRST_FAULT_BEAT
  ⟨0x600c, 0, 1, 0, 1, 32, 0, 0, 0xffffffff, 0, 0xffffff⟩,  -- R413 STOP_POS
  ⟨0x6010, 0, 1, 0, 1, 32, 0, 0, 0xffffffff, 0, 0xffffff⟩,  -- R413 HORIZON
  ⟨0x6014, 0, 1, 0, 1, 32, 1, 0, 1, 0, 1⟩,  -- R413 STOP_FORCE
  ⟨0x6018, 0, 1, 0, 1, 32, 0, 0, 0xffffffff, 0, 0xffffffff⟩,  -- R413 IMAGE_EPOCH
  ⟨0x601c, 0, 1, 0, 1, 8, 0, 0, 0xff, 0, 8⟩,  -- R413 REPLAYS
  ⟨0x6020, 4, 16, 0, 1, 16, 0, 0, 0xffff, 0, 0xa00⟩,  -- R413 INBOUND_ROWS b
  ⟨0x6060, 0, 1, 0, 1, 32, 0, 0, 0xffffffff, 0, 0xffffffff⟩,  -- R413 GATE_POISONED
  ⟨0x6080, 0, 1, 0, 1, 32, 0, 0, 0xffffffff, 0, 0xffffffff⟩,  -- R413 TRIER_PASS
  ⟨0x6084, 0, 1, 0, 1, 32, 0, 0, 0x3ff, 0, 0xffffffff⟩,  -- R413 TRIER_STATE
  ⟨0x6088, 0, 1, 0, 1, 8, 0, 0, 0xff, 0, 0xff⟩  -- R413 TRANSIENTS
  ]

/-- Tile power registers (R334, R359). -/
def powerRegs : List RegDesc := [
  ⟨0x7000, 0, 1, 0, 1, 32, 0, 0, 0x1f, 0, 0xffffffff⟩,  -- R334 REG_STATUS
  ⟨0x7004, 0, 1, 0, 1, 16, 1, 0x2ee, 0xffff, 0x258, 0x352⟩,  -- R334 VT_SET
  ⟨0x7008, 0, 1, 0, 1, 16, 0, 0, 0xffff, 0, 0x3e8⟩,  -- R334 VT_MEAS
  ⟨0x700c, 0, 1, 0, 1, 16, 0, 0, 0xffff, 0, 0x1f40⟩,  -- R334 IT_MEAS
  ⟨0x7010, 0, 1, 0, 1, 8, 0, 0, 0xff, 0, 4⟩,  -- R334 REG_FAULT_CAUSE
  ⟨0x7014, 0, 1, 0, 1, 8, 0, 0, 0xff, 0, 0xff⟩,  -- R334 BRIDGE_SKIM_FLOOR
  ⟨0x7018, 0, 1, 0, 1, 8, 0, 0, 0xff, 0, 0x27⟩,  -- R334 POUND_OF_TILE
  ⟨0x7100, 0, 1, 0, 1, 32, 0, 0, 0xffffff, 0, 0xffffffff⟩,  -- R359 SKIM_K
  ⟨0x7104, 0, 1, 0, 1, 32, 1, 0, 0x1f, 0, 0xffffffff⟩,  -- R359 SKIM_TEST
  ⟨0x7108, 0, 1, 0, 1, 32, 0, 0, 0xffffffff, 0, 0xffffffff⟩,  -- R359 TJ_MEAS
  ⟨0x710c, 0, 1, 0, 1, 32, 0, 0, 3, 0, 0xffffffff⟩,  -- R359 SENSOR_STATUS
  ⟨0x7110, 0, 1, 0, 1, 32, 0, 0, 0xffffffff, 0, 0xffffffff⟩,  -- R359 ACT_CELL8
  ⟨0x7114, 0, 1, 0, 1, 32, 0, 0, 0xffffffff, 0, 0xffffffff⟩,  -- R359 ACT_CELL4
  ⟨0x7118, 0, 1, 0, 1, 32, 0, 0, 0xffffffff, 0, 0xffffffff⟩,  -- R359 ACT_CELL16
  ⟨0x711c, 0, 1, 0, 1, 32, 0, 0, 0xffffffff, 0, 0xffffffff⟩,  -- R359 ACT_VEC
  ⟨0x7120, 0, 1, 0, 1, 32, 0, 0, 0xffffffff, 0, 0xffffffff⟩,  -- R359 ACT_VFN
  ⟨0x7124, 0, 1, 0, 1, 32, 0, 0, 0xffffffff, 0, 0xffffffff⟩,  -- R359 ACT_BUNDLE
  ⟨0x7128, 0, 1, 0, 1, 32, 0, 0, 0xffffffff, 0, 0xffffffff⟩,  -- R359 ACT_HOP
  ⟨0x712c, 0, 1, 0, 1, 32, 0, 0, 0xffffffff, 0, 0xffffffff⟩,  -- R359 BEATS
  ⟨0x7130, 0, 1, 0, 1, 32, 0, 0, 0xffffffff, 0, 0xffffffff⟩,  -- R359 ACT_BANK_RD
  ⟨0x7134, 0, 1, 0, 1, 32, 0, 0, 0xffffffff, 0, 0xffffffff⟩,  -- R359 SLACK_PULSES
  ⟨0x7138, 0, 1, 0, 1, 16, 0, 0, 0xffff, 0, 0x7d0⟩,  -- R359 LEAK_COEF
  ⟨0x713c, 0, 1, 0, 1, 32, 0, 0, 0xffffffff, 0, 0xffffffff⟩,  -- R359 VT_OFFSET
  ⟨0x7140, 0, 1, 0, 1, 32, 0, 0, 0xffffffff, 0, 0xffffffff⟩  -- R359 ACT_BANK_WR
  ]

/-- The whole register map of a tile (R58). -/
def tileRegTable : List RegDesc :=
  tillerRegs ++ digestRegs ++ routerRegs ++ arrayRegs ++ vectorRegs ++ bankRegs ++ switchRegs ++ pailRegs ++ faultRegs ++ powerRegs

/-- Whether `off` is a word of the register row `r`; the answer says which word of it (0 low, 1 high). -/
def regWord (r : RegDesc) (off : Nat) : Option Nat :=
  let hit (o : Nat) : Bool :=
    if o < r.base then false
    else
      let d := o - r.base
      let i := if r.s1 = 0 then 0 else d / r.s1
      let e := d - r.s1 * i
      let j := if r.s2 = 0 then 0 else e / r.s2
      decide (i < r.n1) && decide (j < r.n2) && decide (r.s1 * i + r.s2 * j = d)
  if hit off then some 0
  else if r.bits = 64 && decide (4 ≤ off) && hit (off - 4) then some 1
  else none

/-- The register row that a word offset belongs to, with the word's place; none at a reserved offset. -/
def findRegIn : List RegDesc → Nat → Option (RegDesc × Nat)
  | [], _ => none
  | r :: rest, off =>
    match regWord r off with
    | some w => some (r, w)
    | none => findRegIn rest off

/-- The register row of a word offset in the tile-local space (R58, R59). -/
def findReg (off : Nat) : Option (RegDesc × Nat) := findRegIn tileRegTable off

/-- What a register whose first word lies at `off` holds after reset. (DESIGN CHOICE, log 112 and 113) -/
def regDefault (off : Nat) : Word64 :=
  match findReg off with
  | some (r, 0) => BitVec.ofNat 64 r.dflt
  | _ => 0

end Sys2Proof.Machine
end

