-- ==== Sys2Proof/Machine/State.lean ====
section
/-! DEFINITION. The state of the device as plain data, its reset value, and the reasons a command can stop. -/

namespace Sys2Proof.Machine

/-- The device.  `mem` holds every bank row as the codeword the bank stores, keyed
`65536 × tile + 4096 × bank + local row` (spare row `m` at local row `2560 + m`); an unlisted row reads as the
all-zero codeword.  `tregs` holds every tile-local register, keyed `65536 × tile + offset`; an unlisted register reads
as its default.  `objs` holds the numeric entries of the object dictionary, keyed `256 × index + subindex`; `win` holds what the next report window end adds to an entry.  `alarmQ` and `irqQ` hold
the alarms and notices of agents other than tile routers; `agentRsp` holds the responses of towpath destinations other than
tiles and hubs, by address. -/
structure State where
  pending : List Instr
  free : Nat
  mem : Map CodeWord
  tregs : Map Word64
  objs : Map Word64
  bar0 : Map Word32
  win : Map Nat
  tiles : Map Tile
  basins : Map Basin
  hubs : Map Hub
  seams : Map Seam
  alarmQ : List AlarmMsg
  irqQ : List AlarmMsg
  agentRsp : Map (List CfgRsp)
  link : Links
  host : HostIf
  srv : ObjServer
  keepers : List Keeper
  boot : Boot
  power : Power
  cellar : Cellar
  upd : Updates
  dbg : Debug
  deriving DecidableEq, Repr

/-- Why the machine could stop.  No command does: an access to a place that does not exist has an answer of its own in the
spec (REFUSED, an abort code, DATA_BOUND, MALFORMED), and takes it. (DESIGN CHOICE, log 119) -/
inductive Fault where
  /-- Raised by no command; safe. -/
  | noSuchAddress
  deriving DecidableEq, Repr

/-- Why a command would have no meaning. -/
inductive Refusal where
  /-- For `exec`'s arm of a command without a meaning, of which there is none; safe. -/
  | notModelled (mnemonic : String)
  deriving DecidableEq, Repr

/-- The device right after reset. (DESIGN CHOICE, log 114) -/
def State.reset : State :=
  { pending := [], free := 0, mem := [], tregs := [], objs := [], bar0 := [], win := [], tiles := [],
    basins := [], hubs := [], seams := [], alarmQ := [], irqQ := [], agentRsp := [], link := Links.init,
    host := HostIf.init, srv := ObjServer.init, keepers := [Keeper.init, Keeper.init], boot := Boot.init, power := Power.init, cellar := Cellar.init, upd := Updates.init, dbg := Debug.init }

end Sys2Proof.Machine
end

