-- ==== Sys2Proof/Machine/TpNet.lean ====
section
/-! DEFINITION. Towpath words, messages, addresses and the links that carry them (R206 to R211). -/

namespace Sys2Proof.Machine

/-! ### Words (R206) -/

/-- A towpath word of a class and a kind: 0 head, 1 body, 2 last, 3 a message of one word. -/
def tpWord (cls kind : Nat) (d : Word32) : TpWord := (BitVec.ofNat 2 cls ++ BitVec.ofNat 2 kind : BitVec 4) ++ d

/-- The class of a word. -/
def tpClass (w : TpWord) : Nat := bitsOf w.toNat 35 34
/-- The kind of a word. -/
def tpKind (w : TpWord) : Nat := bitsOf w.toNat 33 32
/-- The data of a word. -/
def tpData (w : TpWord) : Nat := bitsOf w.toNat 31 0

/-- Whether a number has an odd count of ones in its `n` lowest bits. -/
def oddBits (v n : Nat) : Bool := (List.range n).foldl (fun a i => a ^^ bitOf v i) false

/-- What the two parity wires of a link carry beside a word: over bits [17:0] and over bits [35:18]. (DESIGN CHOICE,
log 132) -/
def tpParity (w : TpWord) : Nat := b2n (oddBits w.toNat 18) + 2 * b2n (oddBits (w.toNat / 2 ^ 18) 18)

/-- Whether a word with its parity wires in bits [37:36] fails a parity check. -/
def tpFails (l : TpLine) : Bool := decide (l.toNat / 2 ^ 36 ≠ tpParity (l.setWidth 36))

/-! ### Messages (R207, R209) -/

/-- An opcode with its class and the lengths that its messages have in words. -/
structure TpOpcode where
  code : Nat
  cls : Nat
  least : Nat
  most : Nat
  deriving DecidableEq, Repr

/-- The opcodes in use. -/
def tpOpcodes : List TpOpcode :=
  [⟨0x1, 0, 2, 2⟩, ⟨0x2, 0, 2, 2⟩, ⟨0x3, 0, 6, 6⟩, ⟨0x4, 0, 6, 6⟩, ⟨0x5, 0, 4, 4⟩, ⟨0x6, 1, 3, 3⟩, ⟨0x7, 1, 2, 8⟩,
   ⟨0x8, 1, 2, 2⟩, ⟨0x9, 1, 2, 8⟩, ⟨0xA, 1, 3, 3⟩, ⟨0xB, 2, 2, 4⟩, ⟨0xC, 2, 7, 7⟩, ⟨0xD, 2, 8, 8⟩, ⟨0xE, 3, 2, 8⟩]

/-- Whether an opcode has messages of `n` words: FW_CTL has 2 or 4, never 3. -/
def TpOpcode.fits (o : TpOpcode) (n : Nat) : Bool :=
  decide (o.least ≤ n) && decide (n ≤ o.most) && !(decide (o.code = 0xB) && decide (n = 3))

/-- The class of an opcode's messages. -/
def opClass (op : Nat) : Nat := ((tpOpcodes.find? (fun o => decide (o.code = op))).map (·.cls)).getD 3

/-- A head word: opcode, number of words that follow, destination form and bits, source address. -/
def tpHead (op n form dst src : Nat) : Nat := op * 2 ^ 28 + n * 2 ^ 25 + form * 2 ^ 24 + dst * 2 ^ 12 + src

/-- The opcode of a head word. -/
def headOp (w : TpWord) : Nat := bitsOf w.toNat 31 28

/-- The words of a message: its head, with unicast form, and what follows it. -/
def tpMessage (op dst src : Nat) (body : List Nat) : List TpWord :=
  let c := opClass op
  let w (k v : Nat) : TpWord := tpWord c k (BitVec.ofNat 32 v)
  match body.reverse with
  | [] => [w 3 (tpHead op 0 0 dst src)]
  | z :: _ => w 0 (tpHead op body.length 0 dst src) :: (body.dropLast.map (w 1) ++ [w 2 z])

/-- Whether the kinds of a message's words are in order. -/
def kindsFit : List Nat → Bool
  | [] => false
  | [k] => k == 3
  | k :: rest => k == 0 && rest.dropLast.all (· == 1) && rest.getLast? == some 2

/-- Whether a message fits its opcode (R207): its length, its class, and its word kinds. -/
def tpFormed (l : List TpWord) : Bool :=
  match l with
  | [] => false
  | w :: rest =>
    (tpOpcodes.any (fun o => decide (o.code = headOp w) && o.fits l.length && l.all (fun x => decide (tpClass x = o.cls)))) &&
    decide (bitsOf w.toNat 27 25 = rest.length) && kindsFit (l.map tpKind)

/-- Whether a hop discards a message: the word as sent again fails a parity check too, or the words do not fit their opcode
(R207, R211). -/
def hopLoses (h : TpHop) : Bool :=
  match h.fate with
  | .whole => false
  | .repeated l => tpFails l
  | .words l => !tpFormed l

/-- Whether a hop discards a message for its words (R207). -/
def hopMalformed (h : TpHop) : Bool := match h.fate with | .words l => !tpFormed l | _ => false

/-- Word 1 of a configuration request (R219): offset, data words, batch member, batch identifier. -/
structure CfgWord where
  off : Nat
  n : Nat
  batch : Bool
  id : Nat
  deriving DecidableEq, Repr

/-- The fields of word 1 of a CFG_WR; a CFG_RD has the first two. -/
def cfgFields (w : Word32) : CfgWord := ⟨bitsOf w.toNat 15 0, bitsOf w.toNat 19 16, bitOf w.toNat 20, bitsOf w.toNat 31 24⟩

/-- The fields that bits [29:0] of a FW_CTL word 1 hold (R221): the image identifier, and the chunk count or base chunk. -/
def fwIdent (w : BitVec 30) : Nat := bitsOf w.toNat 7 0
def fwNumber (w : BitVec 30) : Nat := bitsOf w.toNat 19 8

/-! ### Addresses (R208) -/

/-- What a 12-bit address names. -/
inductive TpDest where
  | tile (t : Nat)
  | hub (h : Nat)
  | gateway (f : Nat)
  | trier (f : Nat)
  | power (f : Nat)
  | keeper (k : Nat)
  | link (b : Nat)
  | cellar
  | pcie
  deriving DecidableEq, Repr

/-- The address of a destination. -/
def tpCode : TpDest → Nat
  | .tile t => t / 48 * 64 + t % 48
  | .hub h => (48 + h / 12) * 64 + h % 12
  | .gateway f => 0xFC0 + f
  | .trier f => 0xFC8 + f
  | .power f => 0xFD0 + f
  | .keeper k => 0xFD8 + k
  | .link b => 0xFE0 + b
  | .cellar => 0xFF0
  | .pcie => 0xFF1

/-- What an address names; none where it is reserved. -/
def tpAddr (a : Nat) : Option TpDest :=
  let hi := a / 64 % 64
  let lo := a % 64
  if hi < 48 then (if lo < 48 then some (.tile (48 * hi + lo)) else none)
  else if hi < 60 then (if lo < 12 then some (.hub (12 * (hi - 48) + lo)) else none)
  else if hi < 63 then none
  else if lo < 8 then some (.gateway lo)
  else if lo < 16 then some (.trier (lo - 8))
  else if lo < 24 then some (.power (lo - 16))
  else if lo < 0x1B then some (.keeper (lo - 24))
  else if lo < 0x20 then none
  else if lo < 0x30 then some (.link (lo - 32))
  else if lo = 0x30 then some .cellar
  else if lo = 0x31 then some .pcie
  else none

/-- The address of the active Lockkeeper. -/
def keeperAddr : Nat := tpCode (.keeper 2)

/-! ### Links (R210) -/

/-- The opcode of a message on a link. -/
def TpEntry.op (e : TpEntry) : Nat := match e.words with | w :: _ => headOp w | [] => 0
/-- The class of a message on a link. -/
def TpEntry.cls (e : TpEntry) : Nat := opClass e.op
/-- Whether a message on a link is one of a reduction. -/
def TpEntry.reduction (e : TpEntry) : Bool := decide (1 ≤ e.op) && decide (e.op ≤ 4)
/-- Whether some word of a message is still at the sender. -/
def TpEntry.waits (e : TpEntry) : Bool := decide (e.sent < e.words.length)
/-- Whether a message has been begun and is not yet across. -/
def TpEntry.begun (e : TpEntry) : Bool := decide (0 < e.sent) && e.waits

/-- Words of a class that the receiving end's buffer holds. -/
def tpHeld (l : List TpEntry) (c : Nat) : Nat := (l.filter (fun e => decide (e.cls = c))).foldl (fun a e => a + e.sent) 0

/-- Credits of a class that the sender has: the receiving end's buffer has 8 words. -/
def tpCredits (l : List TpEntry) (c : Nat) : Nat := 8 - tpHeld l c

/-- The first message with words to send that satisfies `p` and has a credit. -/
def tpFirst (l : List TpEntry) (p : TpEntry → Bool) : Option Nat :=
  match l.findIdx? (fun e => e.waits && p e) with
  | some i => if (l[i]?).any (fun e => decide (0 < tpCredits l e.cls)) then some i else none
  | none => none

/-- The message whose word the link carries next: of class 0 between any two words, reductions before alarms; then the
message of another class that has been begun; then, at a message boundary, one of the lowest class that waits. -/
def tpNext (l : List TpEntry) : Option Nat :=
  (tpFirst l (fun e => e.reduction)).orElse (fun _ =>
  (tpFirst l (fun e => decide (e.cls = 0) && !e.reduction)).orElse (fun _ =>
  if l.any (fun e => e.begun && decide (e.cls ≠ 0)) then tpFirst l (fun e => e.begun && decide (e.cls ≠ 0))
  else (tpFirst l (fun e => decide (e.cls = 1))).orElse (fun _ =>
    (tpFirst l (fun e => decide (e.cls = 2))).orElse (fun _ => tpFirst l (fun e => decide (e.cls = 3))))))

/-- One word time of a link; a whole reduction message leaves the buffer for the router that combines it. -/
def tpPulse (l : List TpEntry) : List TpEntry :=
  match tpNext l with
  | some i => (l.modify i (fun e => { e with sent := e.sent + 1 })).filter (fun e => e.waits || !e.reduction)
  | none => l

/-- A message with its words at the sender. -/
def tpPost (l : List TpEntry) (words : List TpWord) : List TpEntry := l ++ [⟨words, 0⟩]

/-- The oldest message of an opcode has gone on from the receiving end, and its words' credits return. -/
def tpTake (l : List TpEntry) (op : Nat) : List TpEntry := l.eraseP (fun e => decide (e.op = op))

end Sys2Proof.Machine
end

