-- ==== Sys2Proof/Machine/Ops.lean ====
section
/-! DEFINITION. Named operations over the state: reads and writes of tiles, registers, objects and rows; alarms,
notices, task faults and STOP. -/

namespace Sys2Proof.Machine

/-! ### Geometry (R14, R17, R205) -/

/-- The x coordinate of tile `t`. -/
def tx (t : Nat) : Nat := t % 48
/-- The y coordinate of tile `t`. -/
def ty (t : Nat) : Nat := t / 48
/-- The tile number of `T(x, y)`. -/
def tileAt (x y : Nat) : Nat := 48 * y + x
/-- The berth of tile `t`, `12 × by + bx`. -/
def berthOf (t : Nat) : Nat := 12 * (ty t / 4) + tx t / 4
/-- Berth-local position `(x mod 4) + 4 × (y mod 4)` (R224). -/
def berthPos (t : Nat) : Nat := tx t % 4 + 4 * (ty t % 4)

/-! ### Reads and writes -/

/-- The tile `t`. -/
def State.tile (s : State) (t : Nat) : Tile := Map.get s.tiles Tile.init t

/-- Replaces tile `t`. -/
def State.setTile (s : State) (t : Nat) (v : Tile) : State :=
  { s with tiles := Map.put s.tiles Tile.init t v }

/-- Changes tile `t`. -/
def State.updTile (s : State) (t : Nat) (f : Tile → Tile) : State := s.setTile t (f (s.tile t))

/-- The key of a tile-local register. -/
def regKey (t off : Nat) : Nat := 65536 * t + off

/-- The stored value of the register of tile `t` whose first word lies at `off`. -/
def State.reg (s : State) (t off : Nat) : Word64 := Map.get s.tregs (regDefault (regKey t off % 65536)) (regKey t off)

/-- The stored value of a register as a number. -/
def State.regN (s : State) (t off : Nat) : Nat := (s.reg t off).toNat

/-- Stores a register value. -/
def State.setReg (s : State) (t off : Nat) (v : Word64) : State :=
  { s with tregs := Map.put s.tregs (regDefault (regKey t off % 65536)) (regKey t off) v }

/-- Stores a register value given as a number. -/
def State.setRegN (s : State) (t off n : Nat) : State := s.setReg t off (BitVec.ofNat 64 n)

/-- Counts `n` events in a register whose largest value is `top`: the counter stays there. (DEDUCED, log 110) -/
def State.bumpReg (s : State) (t off n : Nat) (top : Nat := 0xFFFFFFFF) : State :=
  s.setRegN t off (min (s.regN t off + n) top)

/-- Counts `n` events in a register of 32 bits that wraps (R338). (DEDUCED, log 110) -/
def State.countReg (s : State) (t off n : Nat) : State := s.setRegN t off ((s.regN t off + n) % 2 ^ 32)

/-- Sets or clears bit `i` of a register. -/
def State.setRegBit (s : State) (t off i : Nat) (b : Bool) : State :=
  let v := s.regN t off
  s.setRegN t off (v - b2n (bitOf v i) * 2 ^ i + b2n b * 2 ^ i)

/-- The key of an object entry. -/
def objKey (index sub : Nat) : Nat := 256 * index + sub

/-- The basin `b`. -/
def State.basin (s : State) (b : Nat) : Basin := Map.get s.basins Basin.init b

/-- Replaces basin `b`. -/
def State.setBasin (s : State) (b : Nat) (v : Basin) : State :=
  { s with basins := Map.put s.basins Basin.init b v }

/-- Changes basin `b`. -/
def State.updBasin (s : State) (b : Nat) (f : Basin → Basin) : State := s.setBasin b (f (s.basin b))

/-- Whether berth column and row lie in the rectangle. -/
def inRect (r : Nat × Nat × Nat × Nat) (bx by_ : Nat) : Bool :=
  decide (r.1 ≤ bx) && decide (bx ≤ r.2.2.1) && decide (r.2.1 ≤ by_) && decide (by_ ≤ r.2.2.2)

/-- Whether a tile lies in a basin's rectangle in force. -/
def Basin.holds? (b : Basin) (t : Nat) : Bool :=
  match b.rect with
  | some r => inRect r (tx t / 4) (ty t / 4)
  | none => false

/-- The basin that holds tile `t` (R23). -/
def State.basinOf (s : State) (t : Nat) : Option Nat :=
  ((s.basins.filter (fun p => p.2.holds? t)).head?).map (·.1)

/-- Every tile number. -/
def allTiles : List Nat := List.range 2304

/-- The tiles of a rectangle of berths, in order. -/
def rectTiles (r : Nat × Nat × Nat × Nat) : List Nat :=
  ((List.range (4 * (r.2.2.2 + 1 - r.2.1))).map (fun j =>
    (List.range (4 * (r.2.2.1 + 1 - r.1))).map (fun i => tileAt (4 * r.1 + i) (4 * r.2.1 + j)))).flatten

/-- The tiles of basin `b`. -/
def State.basinTiles (s : State) (b : Nat) : List Nat :=
  match (s.basin b).rect with
  | some r => rectTiles r
  | none => []

/-- A fresh free value, and the state with the counter advanced. (DESIGN CHOICE, log 114) -/
def State.fresh (s : State) : Word64 × State :=
  (Config.freeValue s.free, { s with free := s.free + 1 })

/-! ### Rows (R143 to R145, R168) -/

/-- The bank of a flat row. -/
def bankOf (flat : Nat) : Nat := flat / 2560
/-- The bank-local index of a flat row. -/
def localOf (flat : Nat) : Nat := flat % 2560

/-- The key of the stored word of a flat row of tile `t`, before any row remap. -/
def rowKey (t flat : Nat) : Nat := 65536 * t + 4096 * bankOf flat + localOf flat
/-- The key of spare row `m` of a bank. -/
def spareKey (t bank m : Nat) : Nat := 65536 * t + 4096 * bank + 2560 + m

/-- The offset of REMAP register `m` of a bank (R173). -/
def remapOff (bank m : Nat) : Nat := 0x3080 + 0x100 * bank + 4 * m

/-- The spare that a valid remap entry (bit 31) names for a local row, if any: the highest-numbered such entry (R168). -/
def State.spareOf (s : State) (t bank loc : Nat) : Option Nat :=
  (List.range 32).reverse.find? (fun m =>
    let v := s.regN t (remapOff bank m)
    bitOf v 31 && decide (v % 4096 = loc))

/-- Where the word of a flat row is stored. -/
def State.cellKey (s : State) (t flat : Nat) : Nat :=
  match s.spareOf t (bankOf flat) (localOf flat) with
  | some m => spareKey t (bankOf flat) m
  | none => rowKey t flat

/-- The word at a key of the bank arrays. (DEDUCED, log 111) -/
def State.word (s : State) (k : Nat) : CodeWord := Map.get s.mem 0 k

/-- Writes a word at a key of the bank arrays. -/
def State.setWord (s : State) (k : Nat) (w : CodeWord) : State := { s with mem := Map.put s.mem 0 k w }

/-- The stored word of a flat row. (DEDUCED, log 111) -/
def State.rowWord (s : State) (t flat : Nat) : CodeWord := s.word (s.cellKey t flat)

/-- The mirroring remap entries for a local row (R169): bit 29 of the register is set and bit 31 clear. -/
def State.mirrorsOf (s : State) (t bank loc : Nat) : List Nat :=
  (List.range 32).filter (fun m =>
    let v := s.regN t (remapOff bank m)
    bitOf v 29 && !bitOf v 31 && decide (v % 4096 = loc))

/-- Stores a word in a flat row, and in every spare that a remap mirrors it to (R168, R169). -/
def State.setRowWord (s : State) (t flat : Nat) (w : CodeWord) : State :=
  (s.mirrorsOf t (bankOf flat) (localOf flat)).foldl (fun a m => a.setWord (spareKey t (bankOf flat) m) w)
    (s.setWord (s.cellKey t flat) w)

/-- Stores a row of data with its check bits. -/
def State.setRow (s : State) (t flat : Nat) (d : Row) : State := s.setRowWord t flat (kolvosEncode d)

/-! ### Objects -/

/-- Counts `n` in what the next report window end adds to an entry. -/
def State.bumpWin (s : State) (k n : Nat) : State :=
  { s with win := Map.put s.win 0 k (Map.get s.win 0 k + n) }

/-- Notes a value of which the next report window end shows the largest. -/
def State.maxWin (s : State) (k n : Nat) : State := { s with win := Map.put s.win 0 k (max (Map.get s.win 0 k) n) }

/-! ### Towpath links (R205, R210) -/

/-- The router of a tile sends a message on its spoke. -/
def TpRouter.send (r : TpRouter) (t op dst : Nat) (body : List Nat) : TpRouter :=
  { r with up := tpPost r.up (tpMessage op dst (tpCode (.tile t)) body) }

/-- Tile `t` sends a message on its spoke. -/
def State.tileSend (s : State) (t op dst : Nat) (body : List Nat) : State :=
  s.updTile t (fun tl => { tl with tp := tl.tp.send t op dst body })

/-- Changes a berth hub. -/
def State.updHub (s : State) (h : Nat) (f : Hub → Hub) : State :=
  { s with hubs := Map.put s.hubs Hub.init h (f (Map.get s.hubs Hub.init h)) }

/-- The south-west tile of a berth. -/
def hubTile (h : Nat) : Nat := tileAt (4 * (h % 12)) (4 * (h / 12))

/-- One word time of a tile's spoke, and of its hub's link at the pulse of the hub's south-west tile. (DEDUCED, log 104) -/
def State.spokePulse (s : State) (t : Nat) : State :=
  let s1 := if (s.tile t).tp.up.isEmpty then s
    else s.updTile t (fun tl => { tl with tp := { tl.tp with up := tpPulse tl.tp.up } })
  let h := berthOf t
  if decide (t = hubTile h) && !(Map.get s1.hubs Hub.init h).up.isEmpty then s1.updHub h (fun x => { x with up := tpPulse x.up })
  else s1

/-- The oldest message of an opcode on tile `t`'s spoke has arrived. -/
def State.tileTook (s : State) (t op : Nat) : State :=
  s.updTile t (fun tl => { tl with tp := { tl.tp with up := tpTake tl.tp.up op } })

/-! ### Trace (R469, R470) -/

/-- Queues a trace message of an enabled kind; a full queue drops it. -/
def State.trace (s : State) (t kind hi : Nat) (words : List Nat) : State :=
  if bitOf (s.regN t 0x9a0) (kind - 1) then
    let tl := s.tile t
    if tl.dig.trace.length < 16 then
      let body := (s.regN t 0xf08) :: (s.regN t 0xf00 % 2 ^ 32) :: words
      s.setTile t { tl with
        dig := { tl.dig with trace := tl.dig.trace ++ [(kind + hi * 65536) :: body] },
        tp := tl.tp.send t 0xE keeperAddr ((kind + 16 * min tl.dig.traceLost 255 + hi * 65536) :: body) }
    else
      (s.setTile t { tl with dig := { tl.dig with traceLost := tl.dig.traceLost + 1 } }).bumpReg t 0x9a8 1
  else s

/-! ### Alarms, notices and STOP -/

/-- An alarm or notice of tile `t` (R217). -/
def State.tileMsg (s : State) (t cause detail : Nat) (aux : Nat := 0) : AlarmMsg :=
  ⟨cause, detail, s.regN t 0xf08, s.regN t 0xf00 % 2 ^ 32, (s.basinOf t).getD 16, t, aux⟩

/-- Sends a class 0 alarm from tile `t`: at most four wait, a further one is lost and only counted (R217).  The first
fault of an epoch is never lost, and latches FIRST_FAULT and FIRST_FAULT_BEAT (R413). -/
def State.raiseAlarm (s : State) (t cause detail : Nat) (aux : Nat := 0) : State :=
  let tl := s.tile t
  let first := !tl.lk.faulted
  let s1 : State :=
    if first || decide (tl.tp.alarms.length < 4) then
      s.setTile t { tl with
        lk := { tl.lk with faulted := true },
        tp := { (tl.tp.send t 5 keeperAddr [cause + detail % 65536 * 65536, s.regN t 0xf08, s.regN t 0xf00]) with
          alarms := tl.tp.alarms ++ [s.tileMsg t cause detail aux] } }
    else (s.setTile t { tl with tp := { tl.tp with overflow := true } }).bumpWin (objKey 0x2640 4) 1
  if first then
    let s2 := (s1.setRegN t 0x6004 (cause + detail % 65536 * 65536)).setRegN t 0x6008 (s1.regN t 0xf08)
    s2.trace t 4 0 [s2.regN t 0x6000, s2.regN t 0x6004]
  else s1

/-- Sends a notice from tile `t`, merged with an earlier one of its cause in the same report window (R218). -/
def State.raiseIrq (s : State) (t cause detail : Nat) : State :=
  let tl := s.tile t
  if cause ∈ tl.tp.irqSeen then s.bumpReg t 0xc0c 1
  else s.setTile t { tl with tp := { (tl.tp.send t 6 keeperAddr [cause, detail]) with
    irqs := tl.tp.irqs ++ [s.tileMsg t cause detail], irqSeen := tl.tp.irqSeen ++ [cause] } }

/-- A notice of an agent that is not a tile router. -/
def State.agentIrq (s : State) (cause detail : Nat) : State :=
  { s with irqQ := s.irqQ ++ [⟨cause, detail, 0, 0, 16, 2304, 0⟩] }

/-- A numeric entry of the object dictionary. -/
def State.obj (s : State) (index sub : Nat) : Nat :=
  (Map.get s.objs (objDefault (objKey index sub)) (objKey index sub)).toNat

/-- An alarm of an agent that is not a tile router, with the low word of its basin's epoch number (R217). -/
def State.agentAlarm (s : State) (cause detail basin : Nat) : State :=
  { s with alarmQ := s.alarmQ ++
    [⟨cause, detail, 0, if basin < 16 then s.obj (0x2610 + basin) 1 % 2 ^ 32 else 0, basin, 2304, 0⟩] }

/-- Stores a numeric entry of the object dictionary. -/
def State.setObj (s : State) (index sub n : Nat) : State :=
  { s with objs := Map.put s.objs (objDefault (objKey index sub)) (objKey index sub) (BitVec.ofNat 64 n) }

/-- Counts in an entry, up to `top`. (DEDUCED, log 110) -/
def State.bumpObj (s : State) (index sub n : Nat) (top : Nat := 0xFFFFFFFF) : State :=
  s.setObj index sub (min (s.obj index sub + n) top)

/-- The number of a basin's next lock: lock 0 starts epoch 0, lock n + 1 ends epoch n, and a replay repeats the lock that
began its epoch (R22, R46, R57). (DEDUCED, log 7) -/
def State.nextLockNum (s : State) (b : Nat) : Nat :=
  let e := s.obj (0x2610 + b) 1
  if (s.basin b).started && !(s.basin b).replayed then e + 1 else e

/-- The least position of a basin's tiles; a tile's position is the number of beats it has completed (R390).
(DEDUCED, log 15) -/
def State.leastPos (s : State) (b : Nat) : Nat :=
  match s.basinTiles b with
  | [] => 0
  | t :: rest => rest.foldl (fun a u => min a (s.tile u).til.beat) (s.tile t).til.beat

/-- The clean horizon of a basin: what STOP's delivery leaves visible once STOP has been raised (R390). (DEDUCED, log
33) -/
def State.horizon (s : State) (b : Nat) : Nat :=
  if (s.basin b).stop then (s.basin b).stopPos else s.leastPos b

/-- STOP is raised for basin `b` because of `cause` at tile `t` (R391, R414, R438): the basin's wire is driven, the
basin becomes RECOVERING, and the first error of the episode is recorded. (DEDUCED, log 33) -/
def State.raiseStop (s : State) (b t cause : Nat) : State :=
  if (s.basin b).stop then s
  else
    let s1 := s.updBasin b (fun v => { v with stop := true, stopPos := s.leastPos b })
    let s2 := if s1.obj (0x2A10 + b) 3 = 3 then s1.setObj (0x2A10 + b) 3 4 else s1
    (((s2.setObj (0x2810 + b) 1 1).setObj (0x2810 + b) 2 cause).setObj (0x2810 + b) 3
      (tx t + 256 * ty t)).setObj (0x2810 + b) 4 (s2.obj (0x2610 + b) 1)

/-- Sets bit `bit` of a tile's fault summary (R215), which raises STOP in its basin (R391). -/
def State.setSummary (s : State) (t bit cause : Nat) : State :=
  let s1 := (s.setRegBit t 0x6000 bit true).setRegBit t 0x6000 8 true
  match s1.basinOf t with
  | some b => s1.raiseStop b t cause
  | none => s1

/-- Poison of an origin that a replay does not remove reaches the tile's basin (R401). -/
def State.noteAlien (s : State) (t : Nat) : State :=
  match s.basinOf t with
  | some b => s.updBasin b (fun v => { v with alien := true })
  | none => s

/-- A scalar load or a fetch takes poison: only the fault summary records it (R147, R401). -/
def State.poisonTaken (s : State) (t : Nat) : State :=
  let s1 := s.setSummary t 3 5
  match s1.basinOf t with
  | some b => s1.updBasin b (fun v => { v with eaten := true })
  | none => s1

/-- An error that a tile detects: its summary bit, STOP and its class 0 alarm. -/
def State.tileError (s : State) (t bit cause detail : Nat) (aux : Nat := 0) : State :=
  (s.setSummary t bit cause).raiseAlarm t cause detail aux

/-! ### The clamp log (R302 to R304) -/

/-- Appends a record to the clamp log of 255 subindexes. (DEDUCED, log 58) -/
def State.logClamp (s : State) (r : ClampRec) : State :=
  let n := s.obj 0x2F11 2
  let old := Map.get s.srv.clamps none n
  let s1 : State := { s with srv := { s.srv with clamps := Map.put s.srv.clamps none n (some r) } }
  let s2 := (s1.setObj 0x2F11 2 (if n = 255 then 1 else n + 1)).bumpObj 0x2F11 1 1 (2 ^ 64 - 1)
  let st := s2.obj 0x2F00 1
  let s3 := s2.setObj 0x2F00 1 ((st ||| 1) ||| (if old.isSome then 2 else 0))
  match old with
  | some o => (if o.read then s3 else s3.bumpObj 0x2F11 3 1).agentIrq 0x183 0
  | none => s3

/-- A clamp record of a tile's register: its basin and lock; what a program load writes has source 2 (R304, R305). -/
def State.clampTile (s : State) (t off src written applied : Nat) (lock : Option Nat) : State :=
  let b := s.basinOf t
  s.logClamp ⟨0, 0, if s.srv.src = 2 then 2 else src, off, tx t, ty t, written, applied,
    (lock.getD (match b with | some b => s.obj (0x2610 + b) 1 | none => 0)) % 2 ^ 56, b.getD 255, false⟩

/-! ### Tiller helpers -/

/-- The offset of a context register (R88). -/
def ctxOff (base n : Nat) : Nat := base + 0x20 * n

/-- A task fault (R77): the first of the epoch is latched, all are counted, and the alarm and the summary bit follow.
(DEDUCED, log 32 and 138) -/
def State.taskFault (s : State) (t cause : Nat) : State :=
  let tl := s.tile t
  let s1 :=
    if s.regN t 0xc = 0 then
      ((s.setRegN t 0xc cause).setRegN t 0x10 (s.regN t 0xf08)).setRegN t 0x14 (tl.til.ipc % 2048)
    else s
  let s2 := (s1.bumpReg t 0x28 1 0xFFFF).setRegN t (ctxOff 0x114 tl.til.active) 3
  s2.tileError t 1 2 cause

/-- A zero-count completion (R16, R67). -/
def State.zeroLen (s : State) (t : Nat) : State := s.bumpReg t 0x1c 1

/-- A scalar register; S0 reads as zero (R63). -/
def State.sreg (s : State) (t i : Nat) : Word32 :=
  if i = 0 then 0 else (s.reg t (0x200 + 4 * i)).setWidth 32

/-- Stores a scalar register at once; writes to S0 are discarded (R63). -/
def State.setSreg (s : State) (t i : Nat) (v : Word32) : State :=
  if i = 0 then s else s.setReg t (0x200 + 4 * i) (v.setWidth 64)

/-- The data base and bound of a context; context 0 covers every row (R88). -/
def State.dataRange (s : State) (t c : Nat) : Nat × Nat :=
  if c = 0 then (0, 40960) else (s.regN t (ctxOff 0x100 c), s.regN t (ctxOff 0x104 c))

/-- The code base and bound of a context (R74). -/
def State.codeRange (s : State) (t c : Nat) : Nat × Nat :=
  if c = 0 then (0, 256) else (s.regN t (ctxOff 0x108 c), s.regN t (ctxOff 0x10c c))

/-- Whether a flat row lies in the code range of any of contexts 1 to 3 (R75). -/
def State.inCode (s : State) (t flat : Nat) : Bool :=
  [1, 2, 3].any (fun c =>
    let (b, n) := s.codeRange t c
    decide (38400 + b ≤ flat) && decide (flat < 38400 + b + n))

/-- Whether a tile is in bring-up, before the device is ready, or in a reset (R169). -/
def State.inBring (s : State) (t : Nat) : Bool :=
  decide (s.obj 0x2000 7 < 2) || s.boot.resets.any (fun r => decide (t ∈ r.tiles))

/-- Whether a reset that absorbs holds the tile (R382). -/
def State.absorbing (s : State) (t : Nat) : Bool := s.boot.resets.any (fun r => r.absorb && decide (t ∈ r.tiles))

/-- Whether the tile can issue an op in its current beat: it is alive, not frozen, not halted by STOP, not at its lock and
not held for a reset. (DESIGN CHOICE, log 4; DEDUCED, log 118) -/
def State.canIssue (s : State) (t : Nat) : Bool :=
  let tl := s.tile t
  !tl.dark && !tl.til.frozen && !tl.halted && !tl.lk.atLock && decide (s.regN t 0x6c20 = 0)

end Sys2Proof.Machine
end

