-- ==== Sys2Proof/Machine/MapOps.lean ====
section
/-! DEFINITION. Where logical tiles lie on the die, pounds, the defect ledger, and the lanes between tiles (R14 to R21, R192 to
R194, R326, R366 to R368, R371 to R374). -/

namespace Sys2Proof.Machine

/-! ### The map in force (R18, R19, R371, R373) -/

/-- The field of a tile: fields lie 4 across, F0 to F3 below F4 to F7 (R17, R325). -/
def State.fieldOf (s : State) (t : Nat) : Nat := tx t / 12 + (if ty t < s.boot.rowsLow then 0 else 4)

/-- The map object of a field (R386). -/
def mapObj (f : Nat) : Nat := 0x2E10 + f

/-- Distance of two numbers. -/
def absDiff (a b : Nat) : Nat := if a ≤ b then b - a else a - b

/-- The nearest number of a list to `x`, the first where two are equally near. -/
def nearest (x : Nat) : List Nat → Option Nat
  | [] => none
  | a :: rest => match nearest x rest with
    | some b => if absDiff a x ≤ absDiff b x then some a else some b
    | none => some a

/-- The field-local physical rows that a field presents, in order, given its skipped row and its band of ferry or lost
rows (0xFF for none). -/
def presentedRows (skip band : Nat) : List Nat :=
  if band = 0xFF then (List.range 25).filter (fun r => decide (r ≠ skip))
  else
    let outside := fun r => decide (r / 5 ≠ band)
    if skip = 0xFF ∨ skip / 5 = band then (List.range 25).filter outside
    else
      let put := nearest skip ((List.range 25).filter (fun r => !outside r))
      (List.range 25).filter (fun r => (outside r && decide (r ≠ skip)) || decide (put = some r))

/-- The presented rows of field `f` under the map in force. -/
def State.fieldRows (s : State) (f : Nat) : List Nat := presentedRows (s.obj (mapObj f) 1) (s.obj (mapObj f) 0x1A)

/-- The field-local logical row of a tile. -/
def State.localRow (s : State) (t : Nat) : Nat := if ty t < s.boot.rowsLow then ty t else ty t - s.boot.rowsLow

/-- The physical tile `52 × r + c` behind a logical tile (R19). -/
def State.physOf (s : State) (t : Nat) : Nat :=
  let f := s.fieldOf t
  let y := s.localRow t
  let skip := s.obj (mapObj f) (2 + y)
  let x := tx t % 12
  52 * (25 * (f / 4) + (s.fieldRows f).getD y 0) + 13 * (f % 4) + x + b2n (decide (skip ≤ x))

/-- The column and row of a physical tile. -/
def pc (p : Nat) : Nat := p % 52
def pr (p : Nat) : Nat := p / 52
/-- The field of a physical tile (R18). -/
def pField (p : Nat) : Nat := pc p / 13 + 4 * (pr p / 25)
/-- The pound of a physical tile (R21). -/
def pPound (p : Nat) : Nat := 5 * pField p + pr p % 25 / 5
/-- The physical tile at field-local column and row. -/
def pAt (f c r : Nat) : Nat := 52 * (25 * (f / 4) + r) + 13 * (f % 4) + c

/-- A physical tile as alarms and the ledger name it: c in [5:0], r in [11:6] (R337). -/
def pName (p : Nat) : Nat := pc p + 64 * pr p

/-- The logical tile that a physical tile carries, if it is presented. -/
def State.logicalOf (s : State) (p : Nat) : Option Nat :=
  let f := pField p
  match (s.fieldRows f).findIdx? (fun r => decide (r = pr p % 25)) with
  | none => none
  | some y =>
    let skip := s.obj (mapObj f) (2 + y)
    let c := pc p % 13
    if c = skip then none
    else
      let x := c - b2n (decide (skip < c))
      let row := y + (if f < 4 then 0 else s.boot.rowsLow)
      if x < 12 ∧ y < (if f < 4 then s.boot.rowsLow else s.boot.rowsHigh) then some (tileAt (12 * (f % 4) + x) row) else none

/-- Where the registers of a physical tile are kept: with its logical tile, or, for a tile that sparing skips, under
`2304 + p`. -/
def State.holder (s : State) (p : Nat) : Nat := (s.logicalOf p).getD (2304 + p)

/-- The physical tile of a unit: a logical tile's, or `k − 2304`. -/
def State.unitPhys (s : State) (k : Nat) : Nat := if k < 2304 then s.physOf k else k - 2304

/-- Whether `k` names a unit of the map in force. -/
def State.unitIs (s : State) (k : Nat) : Bool := decide (s.holder (s.unitPhys k) = k)

/-- The physical tile next to `p` in direction `d` (R18, R68). -/
def physNeighbour (p d : Nat) : Option Nat :=
  match d with
  | 0 => if pr p < 49 then some (p + 52) else none
  | 1 => if pc p < 51 then some (p + 1) else none
  | 2 => if 0 < pr p then some (p - 52) else none
  | _ => if 0 < pc p then some (p - 1) else none

/-- Logical rows of the shape in force: 48 or 44. -/
def State.shapeRows (s : State) : Nat := s.boot.rowsLow + s.boot.rowsHigh

/-- The logical tiles of the shape in force. -/
def State.shapeTiles (s : State) : List Nat := List.range (48 * s.shapeRows)

/-! ### Pounds (R21, R326) -/

/-- The physical tiles of a pound, by row, then column (R21). -/
def poundPhys (n : Nat) : List Nat :=
  ((List.range 5).map (fun i => (List.range 13).map (fun j => pAt (n / 5) j (5 * (n % 5) + i)))).flatten

/-- The logical tiles of a pound. -/
def State.poundTiles (s : State) (n : Nat) : List Nat := (poundPhys n).filterMap s.logicalOf

/-- The pound that holds a logical tile. -/
def State.poundOf (s : State) (t : Nat) : Nat := pPound (s.physOf t)

/-- Whether two pounds are adjacent (R326). -/
def poundsAdjacent (a b : Nat) : Bool :=
  let (fa, ba, fb, bb) := (a / 5, a % 5, b / 5, b % 5)
  (decide (fa = fb) && (decide (ba + 1 = bb) || decide (bb + 1 = ba))) ||
  (decide (ba = bb) && decide (fa / 4 = fb / 4) && (decide (fa + 1 = fb) || decide (fb + 1 = fa))) ||
  (decide (fa + 4 = fb) && decide (ba = 4) && decide (bb = 0)) || (decide (fb + 4 = fa) && decide (bb = 4) && decide (ba = 0))

/-- The pound `n`. -/
def State.pound (s : State) (n : Nat) : Pound := Map.get s.power.pounds Pound.init n

/-- Changes pound `n`. -/
def State.updPound (s : State) (n : Nat) (f : Pound → Pound) : State :=
  { s with power := { s.power with pounds := Map.put s.power.pounds Pound.init n (f (s.pound n)) } }

/-- The objects of a pound (R336). -/
def poundObj (n : Nat) : Nat := 0x2300 + n
/-- The state of a pound: 0 off, 1 awaiting grant, 2 ramping, 3 on, 4 isolated, 5 latched off. -/
def State.poundState (s : State) (n : Nat) : Nat := s.obj (poundObj n) 1

/-- Whether any tile of a pound lies in a basin. -/
def State.poundInBasin (s : State) (n : Nat) : Bool := (s.poundTiles n).any (fun t => (s.basinOf t).isSome)

/-- The basins with a tile in a pound. -/
def State.poundBasins (s : State) (n : Nat) : List Nat :=
  (List.range 16).filter (fun b => (s.poundTiles n).any (fun t => decide (s.basinOf t = some b)))

/-- Whether the tile's pulses are held for power (R313, R318, R334, R353). -/
def State.powerHeld (s : State) (t : Nat) : Bool := s.power.allHeld || (s.pound (s.poundOf t)).hold

/-! ### The ledger (R366 to R368) -/

/-- Whether a kind of entry excludes its unit (R368). -/
def kindExcludes (k : Nat) : Bool := decide (k ≤ 7) || decide (k = 0xE) || decide (k = 0xF)

/-- An entry is added unless an equal one is present; a full ledger records nothing and says so once (R365, R366). -/
def State.addLedger (s : State) (kind : Nat) (tile : Option Nat) (item sub : Nat) (service : Bool) : State :=
  if s.boot.ledger.any (fun e => decide (e.kind = kind ∧ e.tile = tile ∧ e.item = item ∧ e.sub = sub)) then s
  else if 8192 ≤ s.boot.ledger.length then
    if s.boot.ledgerFull then s
    else
      let s1 : State := { s with boot := { s.boot with ledgerFull := true } }
      s1.agentAlarm 0x185 0 16
  else
    let e : LedgerEntry := ⟨kind, kindExcludes kind, service, false, tile, item, sub, s.boot.powerOns, s.srv.ms / 1000⟩
    let s1 : State := { s with boot := { s.boot with ledger := s.boot.ledger ++ [e] } }
    ((s1.setObj 0x2E02 1 s1.boot.ledger.length).bumpObj 0x2E02 2 1 8192).agentIrq 0x184 kind

/-! ### Skim demands (R342, R355, R359) -/

/-- k_th of a pound: 12 while a tile is critical, 4 while the pound throttles. -/
def Pound.kth (p : Pound) : Nat := if p.crit then 12 else if p.warm then 4 else 0

/-- k_test of a tile, which lies in no basin (R342). -/
def State.kTest (s : State) (t : Nat) : Nat :=
  let v := s.regN t 0x7104
  if bitOf v 4 && (s.basinOf t).isNone then v % 16 else 0

/-- k_cap as it applies to pound `n`: raised by 2 while the field's power controller restarts (R448). -/
def State.kCap (s : State) (n : Nat) : Nat :=
  if s.power.restart.contains (n / 5) then min 12 (s.obj 0x2200 5 + 2) else s.obj 0x2200 5

/-- SKIM_K of a tile: the level in force and its demands k_cap, k_lim, k_th, bridge floor and k_test. -/
def State.skimK (s : State) (t : Nat) : Nat :=
  let v := s.regN t 0x7100
  let n := s.poundOf t
  v % 16 + 16 * s.kCap n + 256 * s.obj (0x2220 + n) 3 + 4096 * max (bitsOf v 15 12) (s.pound n).kth +
    65536 * s.regN t 0x7014 + 2 ^ 20 * s.kTest t

/-! ### Lanes (R177, R192 to R194, R373, R374) -/

/-- The neighbour in direction `d` (0 north, 1 east, 2 south, 3 west) on the logical mesh. -/
def neighbour (t d : Nat) : Option Nat :=
  match d with
  | 0 => if ty t < 47 then some (t + 48) else none
  | 1 => if tx t < 47 then some (t + 1) else none
  | 2 => if 0 < ty t then some (t - 48) else none
  | _ => if 0 < tx t then some (t - 1) else none

/-- The tile and incoming lane that outgoing lane `o` of tile `t` leads to. -/
def laneEnd (t o : Nat) : Option (Nat × Nat) :=
  (neighbour t (o / 2)).map (fun n => (n, 2 * ((o / 2 + 2) % 4) + o % 2))

/-- The seam lane that carries outgoing lane `o` of tile `t`, if it crosses a seam (R193, R194). -/
def State.seamLane (s : State) (t o : Nat) : Option Nat :=
  match laneEnd t o with
  | none => none
  | some (u, _) =>
    if s.fieldOf t = s.fieldOf u then none
    else
      let (w, e) := if o / 2 < 2 then (t, 0) else (u, 1)
      let f := s.fieldOf w
      let p := s.physOf w
      if o / 2 % 2 = 1 then some (100 * (3 * (f / 4) + f % 4) + 4 * (pr p % 25) + 2 * (o % 2) + e)
      else some (600 + 52 * (f % 4) + 4 * (pc p % 13) + 2 * (o % 2) + e)

/-- The seam lane `n`. -/
def State.seam (s : State) (n : Nat) : Seam := Map.get s.seams Seam.init n

/-- Changes seam lane `n`. -/
def State.updSeam (s : State) (n : Nat) (f : Seam → Seam) : State :=
  { s with seams := Map.put s.seams Seam.init n (f (s.seam n)) }

/-- The physical ends of the link of lane `o`: the west or south tile first. -/
def State.linkEnds (s : State) (t o : Nat) : Option (Nat × Nat) :=
  (laneEnd t o).map (fun u => if o / 2 < 2 then (s.physOf t, s.physOf u.1) else (s.physOf u.1, s.physOf t))

/-- Ferry switches on the way of lane `o` (R374): physical rows between the two ends beyond a skipped one. -/
def State.ferryStages (s : State) (t o : Nat) : Nat :=
  if o / 2 % 2 = 1 then 0
  else match s.linkEnds t o with
    | some (a, b) => if pr a + 2 < pr b then pr b - pr a - 1 else 0
    | none => 0

/-- Whether the map gives lane `o` a route: a column offset or a row offset of at most 1, or a ferry link (R192, R193,
R373, R374). -/
def State.hasRoute (s : State) (t o : Nat) : Bool :=
  match laneEnd t o, s.linkEnds t o with
  | some (u, _), some (a, b) =>
    if s.shapeRows ≤ ty t ∨ s.shapeRows ≤ ty u then false
    else if o / 2 % 2 = 1 then decide (pField a = pField b) || decide (absDiff (pr a) (pr b) ≤ 1)
    else if pr a + 2 < pr b then
      bitOf (s.obj (mapObj (s.fieldOf (if o / 2 = 0 then t else u))) 0x1B) (tx t % 12) ||
      bitOf (s.obj (mapObj (s.fieldOf (if o / 2 = 0 then u else t))) 0x1B) (tx t % 12)
    else true
  | _, _ => false

/-- The route code of a lane, with the seam flag above it (R192, R193, R202). -/
def State.routeCode (s : State) (t o : Nat) : Nat :=
  match s.linkEnds t o with
  | none => 0
  | some (a, b) =>
    let ew := decide (o / 2 % 2 = 1)
    let off (d : Int) : Nat := if d = 1 then 1 else if d = -1 then 2 else 0
    if pField a = pField b then
      if ew then pc b - pc a - 1
      else if s.ferryStages t o ≠ 0 then 0
      else 3 * (pr b - pr a - 1) + off ((pc b : Int) - pc a)
    else if ew then
      let d := ((pr b % 25 : Nat) : Int) - ((pr a % 25 : Nat) : Int)
      16 + ((4 * (d + 1)).toNat + 2 * b2n (decide (pc a % 13 = 12)) + b2n (decide (pc b % 13 = 1)))
    else
      let d := ((pc b % 13 : Nat) : Int) - ((pc a % 13 : Nat) : Int)
      16 + ((4 * (d + 1)).toNat + 2 * b2n (decide (pr a % 25 = 24)) + b2n (decide (pr b % 25 = 1)))

/-- The state of outgoing lane `o`: 0 open, 1 fenced, 2 retired, 3 absent; a lane that leads nowhere is absent, and
one whose tiles do not lie in one basin is fenced (R202, R439). (DEDUCED, log 30) -/
def State.laneState (s : State) (t o : Nat) : Nat :=
  match laneEnd t o with
  | none => 3
  | some (n, _) =>
    let v := s.regN t (0x4200 + 4 * o) % 4
    if 2 ≤ v then v
    else if (s.basinOf t).isSome ∧ s.basinOf t = s.basinOf n then 0 else 1

end Sys2Proof.Machine
end

