-- ==== Sys2Proof/Machine/BankOps.lean ====
section
/-! DEFINITION. One access to a bank row: decoding, pail tags, dirty bits, digests, alias updates and the rules of
ports E and X (R147 to R167, R459). -/

namespace Sys2Proof.Machine

/-- Bank `b` of tile `t`. -/
def State.bank (s : State) (t b : Nat) : Bank := Map.get (s.tile t).banks Bank.init b

/-- Changes bank `b` of tile `t`. -/
def State.updBank (s : State) (t b : Nat) (f : Bank → Bank) : State :=
  s.updTile t (fun tl => { tl with banks := Map.put tl.banks Bank.init b (f (Map.get tl.banks Bank.init b)) })

/-- The offset of a bank register (R173). -/
def bankOff (b off : Nat) : Nat := 0x3000 + 0x100 * b + off
/-- The offset of a pail or gather register (R174). -/
def pailOff (b off : Nat) : Nat := 0x5000 + 0x80 * b + off

/-- Word `w` of a row. -/
def rowWord8 (d : Row) (w : Nat) : Word32 := d.extractLsb' (32 * w) 32

/-- A row from its eight words. -/
def rowOfWords (f : Nat → Word32) : Row :=
  (f 7 ++ f 6 ++ f 5 ++ f 4 ++ f 3 ++ f 2 ++ f 1 ++ f 0 : BitVec 256)

/-- The words of `new` under the mask, the words of `old` elsewhere. -/
def mergeWords (old new : Row) (mask : BitVec 8) : Row :=
  rowOfWords (fun w => if mask.getLsbD w then rowWord8 new w else rowWord8 old w)

/-- Whether a bank-local row lies in an enabled pail window in force (R159). -/
def State.inPail (s : State) (t b loc : Nat) : Bool :=
  [0, 1, 2, 3].any (fun w =>
    let v := s.regN t (pailOff b (4 * w))
    let base := v % 4096
    let len := v / 4096 % 4096
    decide (base ≤ loc) && decide (loc < base + len))

/-- Whether a bank-local row lies in the alias window in force, with a mode other than OFF (R158). -/
def State.inAlias (s : State) (t b loc : Nat) : Bool :=
  let v := s.regN t (bankOff b 0x14)
  let base := v % 4096
  let len := v / 65536 % 4096
  decide (base ≤ loc) && decide (loc < base + len) && decide (s.regN t (bankOff b 0x10) ≠ 0)

/-- The use before which a read issued in beat `u` finds its row: an ALIAS of this beat or the last (R152), and where the
row is no pail a write of this beat through the other port (R151, R161). -/
def oldUse (uses : List RowUse) (u loc : Nat) (portX pail : Bool) : Option RowUse :=
  uses.find? (fun e => decide (e.row = loc) &&
    (((decide (e.kind = 2) || decide (e.kind = 3)) && decide (u ≤ e.beat + 1)) ||
     (!pail && decide (e.beat = u) && decide (e.kind = if portX then 1 else 4))))

/-- The words of a pending gather entry of a flat row. -/
def Bank.pending (k : Bank) (flat : Nat) : Option (Row × BitVec 8) :=
  (k.gather.find? (fun e => decide (e.row = flat))).map (fun e => (e.data, e.mask))

/-- Notes an access for the port rules: `old` is the bank and the stored word before it. -/
def State.noteUse (s : State) (t b loc kind : Nat) (old : Bank × CodeWord) : State :=
  s.updBank t b (fun k => { k with
    uses := k.uses ++ [⟨(s.tile t).til.beat, loc, kind, old.2, old.1.pending (2560 * b + loc)⟩] })

/-- Nothing that was read of a row before this write is written back over it (R148, R169, R172). -/
def Bank.dropPending (k : Bank) (loc : Nat) : Bank :=
  { k with
    writeback := k.writeback.filter (fun e => decide (e.1 ≠ loc)),
    copies := k.copies.map (fun c => if c.row = loc then { c with word := none } else c) }

/-- The parity of a word. -/
def oddWord (w : Word32) : Bool := (List.range 32).foldl (fun a i => a ^^ w.getLsbD i) false

/-- The parity bit of each word of a row (R163). -/
def wordParity (d : Row) : BitVec 8 :=
  (List.range 8).foldl (fun a w => if oddWord (rowWord8 d w) then a ||| (1#8 <<< w) else a) 0#8

/-- Whether a word of a gather entry fails its parity (R163). -/
def GatherEntry.fails (e : GatherEntry) : Bool := decide ((e.par ^^^ wordParity e.data) &&& e.mask ≠ 0#8)

/-- Counts corrections of one or two bits (R173, R176). -/
def State.countCe (s : State) (t b bits : Nat) : State :=
  let v := s.regN t (bankOff b 0x18)
  let lo := v % 65536
  let hi := v / 65536
  let v' := if bits = 1 then min (lo + 1) 65535 + hi * 65536 else lo + min (hi + 1) 65535 * 65536
  (s.setRegN t (bankOff b 0x18) v').bumpWin (objKey 0x2700 (if bits = 1 then 2 else 3)) 1

/-- How recovery weighs an uncorrectable row: curable when the epoch had written it and no other module (R401). -/
def ueAux (k : Bank) (loc : Nat) : Nat :=
  if Map.get k.epochDirty false loc && !Map.get k.inbound false loc then 1 else 2

/-- Raises an error now, or when its data is presented in beat `due`. -/
def State.errorAt (s : State) (t bit cause detail aux : Nat) (due : Option Nat) : State :=
  match due with
  | none => s.tileError t bit cause detail aux
  | some u => s.updTile t (fun tl => { tl with dues := tl.dues ++ [⟨u, bit, cause, detail, aux⟩] })

/-- Decodes one word of a row and carries out R147's effects: the counts, the pending correction, the rewrite of an
uncorrectable row as poison and BANK_UE; ACT_BANK_RD counts it (R338).  `fix` tells that the word is the stored one and that
nothing else rewrites it now. -/
def State.decodeRow (s0 : State) (t flat : Nat) (w : CodeWord) (due : Option Nat) (fix : Bool) : Row × Bool × State :=
  let s := s0.countReg t 0x7130 1
  let b := bankOf flat
  let loc := localOf flat
  match kolvosDecode w with
  | .good d => (d, false, s)
  | .corrected d n =>
    let s1 := s.countCe t b n
    (d, false, if fix then s1.updBank t b (fun k => { k with writeback := k.writeback ++ [(loc, d)] }) else s1)
  | .poison =>
    let s1 := s.bumpReg t (bankOff b 0x20) 1
    (0, true, match s1.basinOf t with | some n => s1.bumpWin (objKey (0x2810 + n) 7) 1 | none => s1)
  | .uncorrectable =>
    let aux := ueAux (s.bank t b) loc
    let s1 := (s.bumpReg t (bankOff b 0x1c) 1 0xFFFF).bumpWin (objKey 0x2700 4) 1
    let s2 := if fix then (s1.setRowWord t flat poisonWord).updBank t b (fun k =>
        { k.dropPending loc with epochDirty := Map.put k.epochDirty false loc true }) else s1
    (0, true, s2.errorAt t 3 5 b aux due)

/-- Drops a gather entry whose word parity failed: BANK_UE with the bank as detail, and status POISON to the row window
(R163). -/
def State.dropEntry (s : State) (t : Nat) (e : GatherEntry) : State :=
  let b := bankOf e.row
  let s0 := s.updBank t b (fun k => { k with gather := k.gather.filter (fun x => decide (x.row ≠ e.row)) })
  let s1 := if e.issuer = 4 then s0.setRegN t 0x5808 6 else s0
  s1.tileError t 3 5 b 3

/-- A decoded row with its pending gather entry's words merged in; an entry that fails its parity is dropped (R163,
R164). -/
def State.mergePending (s : State) (t flat : Nat) (d : Row) (p : Bool) : Row × State :=
  match (s.bank t (bankOf flat)).gather.find? (fun e => decide (e.row = flat)) with
  | some e => if e.fails then (d, s.dropEntry t e) else (if p then d else mergeWords d e.data e.mask, s)
  | none => (d, s)

/-- Reads a row on either port, with a pending gather entry merged in (R147, R164); a read that R151 or R152 gives an older
row amends nothing that is stored now. -/
def State.readRow (s : State) (t flat : Nat) (portX : Bool) (due : Option Nat) : Row × Bool × State :=
  let b := bankOf flat
  let loc := localOf flat
  match oldUse (s.bank t b).uses (s.tile t).til.beat loc portX (s.inPail t b loc) with
  | some e =>
    let (d, p, s1) := s.decodeRow t flat e.old due false
    (match e.gath with | some g => if p then d else mergeWords d g.1 g.2 | none => d, p, s1)
  | none =>
    let (d, p, s1) := s.decodeRow t flat (s.rowWord t flat) due true
    let (d1, s2) := s1.mergePending t flat d p
    (d1, p, s2)

/-- The bytes hashed for a folded write (R459). -/
def foldBytes (flat : Nat) (d : Row) (tail : List Nat) : List Nat :=
  [flat % 256, flat / 256] ++ bytesOf d.toNat 32 ++ tail

/-- Folds a write into its bank's digest accumulator and traces it (R459, R469).  Agents: 0 port E, 1 mesh, 2 barge,
3 host. -/
def State.foldDigest (s : State) (t flat agent : Nat) (d : Row) (tail : List Nat) : State :=
  let b := bankOf flat
  if bitOf (s.regN t 0x800) b then
    let h := crc64 (foldBytes flat d tail)
    let s1 := s.updTile t (fun tl => { tl with dig := { tl.dig with
      acc := Map.put tl.dig.acc 0 b (Map.get tl.dig.acc 0 b + BitVec.ofNat 64 h) } })
    let rows := s.regN t 0x9a4
    if rows % 65536 ≤ flat ∧ flat ≤ rows / 65536 then
      s1.trace t 2 b [flat + agent * 65536, d.toNat % 2 ^ 32, h % 2 ^ 32]
    else s1
  else s

/-- The bookkeeping of a write that changes a stored row: EPOCH_DIRTY, INBOUND, a superseded gather entry, and a skipped
correction write-back or remap copy (R148, R164, R166, R169, R405). -/
def State.noteWrite (s : State) (t flat agent : Nat) : State :=
  let b := bankOf flat
  let loc := localOf flat
  let sup := ((s.bank t b).gather.filter (fun e => decide (e.row = flat))).length
  let s1 := (s.countReg t 0x7140 1).updBank t b (fun k => { k.dropPending loc with
    epochDirty := Map.put k.epochDirty false loc true,
    inbound := Map.put k.inbound false loc (agent == 2),
    gather := k.gather.filter (fun e => decide (e.row ≠ flat)) })
  if sup = 0 then s1 else s1.bumpReg t (pailOff b 0x1c) sup

/-- Writes a whole row; a poisoned source stores the poison word.  `agent` 4 and above is not folded (R459). -/
def State.writeRow (s : State) (t flat : Nat) (d : Row) (poison : Bool) (agent : Nat) : State :=
  let s1 := s.setRowWord t flat (if poison then poisonWord else kolvosEncode d)
  let s2 := s1.noteWrite t flat agent
  if agent ≤ 3 then s2.foldDigest t flat agent (if poison then 0 else d) (if poison then [1] else []) else s2

/-- A row that the load engine, the cellar engine or the program loader writes to an awake bank, in a hold or before the first
lock (R154): nothing read or gathered of it before is written over it (R148, R164), and its bitmaps stay (R166). -/
def State.installRow (s : State) (t flat : Nat) (w : CodeWord) : State :=
  let b := bankOf flat
  let k := s.bank t b
  if k.sleep ≠ 0 then s
  else
    let sup := (k.gather.filter (fun e => decide (e.row = flat))).length
    let s1 := (s.setRowWord t flat w).updBank t b (fun k => { k.dropPending (localOf flat) with
      gather := k.gather.filter (fun e => decide (e.row ≠ flat)) })
    if sup = 0 then s1 else s1.bumpReg t (pailOff b 0x1c) sup

/-- Binary32 addition under RNE with the canonical NaN (R134, R156). -/
def addF32 (a b : Word32) : Word32 :=
  BitVec.ofNat 32 (roundTo fmtFP32 0 false (addF 0 (decodeF fmtFP32 a.toNat) (decodeF fmtFP32 b.toNat)).1 0 0).bits

/-- Whether that addition is an invalid operation (R134). -/
def badAddF32 (a b : Word32) : Bool := (addF 0 (decodeF fmtFP32 a.toNat) (decodeF fmtFP32 b.toNat)).2

/-- What an alias mode makes of one word (R156). -/
def aliasWord (mode : Nat) (old op : Word32) : Word32 :=
  match mode with
  | 1 => old ||| op
  | 2 => old &&& ~~~op
  | 3 => old + op
  | 4 => addF32 old op
  | 5 => op
  | _ => old

/-- An ALIAS update of a row under the bank's mode: the words under the mask are updated.  A row already poisoned stays
poison unless SWAP replaces every word; a poisoned operand stores poison; an invalid operation of ADD_F32 is recorded (R134).
Answers the old row and its poison mark. -/
def State.aliasRow (s : State) (t flat : Nat) (op : Row) (opPoison : Bool) (mask : BitVec 8) (agent : Nat)
    (window : Bool) : Row × Bool × State :=
  let mode := s.regN t (bankOf flat * 0x100 + 0x3010)
  let due := if s.canIssue t then some ((s.tile t).til.beat + 2) else none
  let (d0, p, s0) := s.decodeRow t flat (s.rowWord t flat) due false
  let (d, s1) := s0.mergePending t flat d0 p
  let new := rowOfWords (fun w => if mask.getLsbD w then aliasWord mode (rowWord8 d w) (rowWord8 op w) else rowWord8 d w)
  let bad := opPoison || (p && !(decide (mode = 5) && decide (mask = 0xFF#8)))
  let nan := !bad && decide (mode = 4) &&
    (List.range 8).any (fun w => mask.getLsbD w && badAddF32 (rowWord8 d w) (rowWord8 op w))
  let s2 := ((if nan then s1.setRegBit t 0x2004 7 true else s1).setRowWord t flat
    (if bad then poisonWord else kolvosEncode new)).noteWrite t flat agent
  let s3 :=
    if bad then s2.foldDigest t flat agent 0 [1]
    else if window then s2.foldDigest t flat agent op [0x10 + mode]
    else s2.foldDigest t flat agent new []
  (d, p, s3)

/-! ### Port X admission (R153, R154) -/

/-- The status of a port X access to a flat row: bounds, an absorbing reset, a gate that has closed (R170), ownership; 0
where it may proceed.  A row beyond the row
space has no bank, so only BOUND applies to it. -/
def State.portXStatus (s : State) (t flat : Nat) (owners : List Nat) : Nat :=
  if flat ≥ 40960 then 7
  else if s.absorbing t then 4
  else
    let k := s.bank t (bankOf flat)
    if 2 ≤ k.sleep then 3 else if k.owner ∉ owners then 4 else 0

/-- Counts and records a refused port X access (R153, R170, R173). (DESIGN CHOICE, log 47) -/
def State.rejectX (s : State) (t flat status issuer : Nat) : State :=
  let b := if flat ≥ 40960 then 15 else bankOf flat
  let row := if flat ≥ 40960 then 0xFFF else localOf flat
  let s1 :=
    if status = 3 then (s.bumpReg t (bankOff b 0x28) 1).bumpWin (objKey 0x2700 7) 1
    else s.bumpReg t (bankOff b 0x2c) 1
  s1.setRegN t (bankOff b 0x30) (row + 4096 * status + 65536 * issuer)

/-- Counts a blocked pail access (R174). -/
def State.countBlock (s : State) (t b : Nat) (write : Bool) : State :=
  let v := s.regN t (pailOff b 0x10)
  let lo := v % 65536
  let hi := v / 65536
  s.setRegN t (pailOff b 0x10) (if write then lo + min (hi + 1) 65535 * 65536 else min (lo + 1) 65535 + hi * 65536)

/-- The name of an exchange agent's access: kind, port, channel or slot, and flat row. -/
def xKey (kind a b flat : Nat) : Nat := ((kind * 64 + a) * 256 + b) * 65536 + flat

/-- An exchange agent's access waits on a pail: it counts once (R174). (DEDUCED, log 28) -/
def State.blockOnce (s : State) (t b key : Nat) (write : Bool) : State :=
  if (s.tile t).xwait.contains key then s
  else (s.countBlock t b write).updTile t (fun tl => { tl with xwait := key :: tl.xwait })

/-- An exchange agent's access has been made. -/
def State.unblock (s : State) (t key : Nat) : State :=
  if (s.tile t).xwait.contains key then
    s.updTile t (fun tl => { tl with xwait := tl.xwait.filter (fun k => decide (k ≠ key)) })
  else s

/-- A landing that a FULL pail row blocks waits. -/
def State.blockLand (s : State) (t flat key : Nat) : State :=
  if decide (flat < 40960) && s.inPail t (bankOf flat) (localOf flat) &&
      Map.get (s.bank t (bankOf flat)).full false (localOf flat) then s.blockOnce t (bankOf flat) key true
  else s

/-- A read that an EMPTY pail row blocks waits. -/
def State.blockRead (s : State) (t flat key : Nat) : State :=
  if decide (flat < 40960) && s.inPail t (bankOf flat) (localOf flat) &&
      !Map.get (s.bank t (bankOf flat)).full false (localOf flat) then s.blockOnce t (bankOf flat) key false
  else s

/-- Sets the tag of a pail row; a row that fills notes its beat (R393). -/
def State.setTag (s : State) (t b loc : Nat) (full : Bool) : State :=
  let beat := (s.tile t).til.beat
  s.updBank t b (fun k => { k with
    full := Map.put k.full false loc full,
    fillBeat := Map.put k.fillBeat 0 loc (if full then beat else 0) })

/-- Whether port E used the row in the beat in progress, with a use of kind `p`. -/
def usedNow (k : Bank) (beat loc : Nat) (p : Nat → Bool) : Bool :=
  k.uses.any (fun e => decide (e.beat = beat) && decide (e.row = loc) && p e.kind)

/-- What a landing through port X does (R151, R153, R158, R160, R161). -/
def State.landCore (s : State) (t flat : Nat) (d : Row) (poison : Bool) (agent issuer : Nat) (loose : Bool) :
    Option Nat × State :=
  let st := s.portXStatus t flat [1]
  if st ≠ 0 then (some st, s.rejectX t flat st issuer)
  else
    let b := bankOf flat
    let loc := localOf flat
    let k := s.bank t b
    let beat := (s.tile t).til.beat
    let mode := s.regN t (bankOff b 0x10)
    let al := decide (agent ≤ 2) && s.inAlias t b loc
    if al && decide (agent = 2) && !loose && (decide (mode = 4) || decide (mode = 5)) then
      (some 5, s.rejectX t flat 5 issuer)
    else if s.inPail t b loc && !al then
      if Map.get k.full false loc || usedNow k beat loc (fun e => e == 0) then (none, s)
      else (some 0, ((s.writeRow t flat d poison agent).setTag t b loc true).noteUse t b loc 4 (k, s.rowWord t flat))
    else if usedNow k beat loc (fun e => e == 1 || e == 2) then
      (some 2, (s.bumpReg t (bankOff b 0x24) 1).bumpWin (objKey 0x2700 8) 1)
    else if al then
      let (_, _, s1) := s.aliasRow t flat d poison 0xFF#8 agent true
      (some 0, s1.noteUse t b loc 3 (k, s.rowWord t flat))
    else (some 0, (s.writeRow t flat d poison agent).noteUse t b loc 4 (k, s.rowWord t flat))

/-- A landing through port X.  `agent` is 1 mesh, 2 barge, 3 host; `issuer` numbers LAST_REJECT's issuer.  Answers the
status, or none where a pail blocks the landing; COLLIDE discards it; an order-dependent alias landing of a barge outside
loose mode is refused with ORDER_DEP.  Poison from a link or the host is remembered for its basin (R401). -/
def State.landRow (s : State) (t flat : Nat) (d : Row) (poison : Bool) (agent issuer : Nat) (loose : Bool) :
    Option Nat × State :=
  match s.landCore t flat d poison agent issuer loose with
  | (some 0, s1) => (some 0, if poison && decide (2 ≤ agent) then s1.noteAlien t else s1)
  | r => r

/-- A read through port X by an agent of PROGRAM: a pail read takes a FULL row and waits on an EMPTY one (R160).
Answers none where it waits. -/
def State.fetchRow (s : State) (t flat : Nat) (due : Option Nat) : Option (Row × Bool) × State :=
  let b := bankOf flat
  let loc := localOf flat
  let use := fun (a : State) => a.noteUse t b loc 5 (s.bank t b, s.rowWord t flat)
  if s.inPail t b loc then
    if Map.get (s.bank t b).full false loc then
      let (d, p, s1) := s.readRow t flat true due
      (some (d, p), use ((s1.setTag t b loc false).bumpReg t 0xf1c 1))
    else (none, s)
  else
    let (d, p, s1) := s.readRow t flat true due
    (some (d, p), use s1)

/-! ### Ownership, sleep and remap (R155, R168 to R171) -/

/-- INFLIGHT_WRITES in beat `u`: port X writes in the bank's write pipeline (an alias landing stays there for two beats),
pending gather entries and pending correction write-backs, at most 16 (R170, R173). (DEDUCED, log 128) -/
def Bank.inflight (k : Bank) (u : Nat) : Nat :=
  min 16 ((k.uses.filter (fun e => (decide (e.kind = 3) && decide (u ≤ e.beat + 1)) ||
    (decide (e.kind = 4) && decide (e.beat = u)))).length + k.gather.length + k.writeback.length)

/-- Whether a port X access is anywhere in the bank's pipeline in beat `u` (R43, R155). (DEDUCED, log 128) -/
def Bank.piped (k : Bank) (u : Nat) : Bool :=
  k.busy || k.fill || k.uses.any (fun e => decide (3 ≤ e.kind) && decide (u ≤ e.beat + 1))

/-- Whether an access of an exchange agent or of the switch waits on a pail row of bank `b` (R160). -/
def State.blockedX (s : State) (t b : Nat) : Bool :=
  let tl := s.tile t
  tl.xwait.any (fun x => decide (bankOf (x % 65536) = b)) ||
  tl.sw.forks.any (fun f => match f.land with | some flat => decide (bankOf flat = b) | none => false) ||
  (match tl.sw.waitInj with | some j => decide (bankOf j.flat = b) | none => false) ||
  tl.sw.waitCirc.any (fun w => decide (bankOf w.2 = b))

/-- Whether a class of owner is idle on a bank: accesses through port X are those of the owner in force (R155). -/
def State.ownerIdle (s : State) (t b owner : Nat) : Bool :=
  let tl := s.tile t
  let k := s.bank t b
  decide (k.inflight tl.til.beat = 0) &&
  !(tl.til.streams.any (fun m => decide (b ∈ m.held) && decide ((if m.ctx = 0 then 2 else 1) = owner))) &&
  !(decide (owner = k.owner) && (k.piped tl.til.beat || s.blockedX t b))

/-- Answers a configuration request (R219). -/
def State.respond (s : State) (t status : Nat) (data : List Word32) : State :=
  s.updTile t (fun tl => { tl with tp := { (tl.tp.send t 9 keeperAddr ((status + 65536 * data.length) :: data.map (·.toNat))) with
    responses := tl.tp.responses ++ [⟨t, status, data⟩] } })

/-- Status codes of a configuration response. -/
def rspOK : Nat := 0
def rspClamped : Nat := 2
def rspRefused : Nat := 4
def rspUnreachable : Nat := 6

/-- A towpath request to a tile: UNREACHABLE where the tile is dark (R323), REFUSED where a reset that absorbs holds it
(R382), and else answered with what `f` does (R219). (DEDUCED, log 118) -/
def State.towpathAsk (s : State) (t : Nat) (f : State → Nat × State) : State :=
  if (s.tile t).dark then s.respond t rspUnreachable []
  else if s.absorbing t then s.respond t rspRefused []
  else
    let (st, s1) := f s
    s1.respond t st []

/-- A staged owner takes effect where both owners are idle (R155). -/
def State.ownerJudge (s : State) (t b : Nat) : State :=
  let k := s.bank t b
  match k.staged with
  | some c =>
    if s.ownerIdle t b k.owner && s.ownerIdle t b c then
      s.updBank t b (fun k => { k with owner := c, staged := none, ownerNext := false })
    else s.updBank t b (fun k => { k with ownerNext := false })
  | none => s

/-- A write to BANK_OWNER at once (R155): CLAMPED above 4, REFUSED where the bank is not awake.  The owners are judged at the
end of the beat; a tile in no beat judges them now.  `src` is the clamp record's source. -/
def State.ownerWrite (s : State) (t b v src : Nat) : Nat × State :=
  let k := s.bank t b
  if k.sleep ≠ 0 then (rspRefused, s)
  else
    let o := v % 8
    let c := if o > 4 then 4 else o
    let s1 := if o > 4 then s.clampTile t (bankOff b 0) src v c none else s
    let s2 := s1.setRegN t (bankOff b 0) c
    let s3 :=
      if c = k.owner then s2.updBank t b (fun k => { k with staged := none, ownerNext := false })
      else
        let s4 := s2.updBank t b (fun k => { k with staged := some c, ownerNext := true })
        if s.canIssue t then s4 else s4.ownerJudge t b
    (if o > 4 then rspClamped else rspOK, s3)

/-- A write to SLEEP_CTL (R170, R171). -/
def State.sleepWrite (s : State) (t b v src : Nat) : Nat × State :=
  let k := s.bank t b
  let o := v % 4
  let c := if o = 3 then 2 else o
  let s0 := if o = 3 then s.clampTile t (bankOff b 8) src v c none else s
  let ok := if o = 3 then rspClamped else rspOK
  if c = 0 then
    let s1 := s0.setRegN t (bankOff b 8) 0
    (ok, s1.updBank t b (fun k =>
      if k.sleep = 1 ∨ k.sleep = 2 then { k with wakePending := true }
      else if k.sleep = 3 ∨ k.sleep = 4 then { k with wasOff := k.sleep == 4, sleep := 5 }
      else k))
  else if k.owner = 0 ∧ k.staged = none ∧ k.sleep = 0 then
    (ok, (s0.setRegN t (bankOff b 8) c).updBank t b (fun k => { k with sleep := 1, wakePending := false }))
  else (rspRefused, s)

/-- Whether the ledger names spare `m` of a tile's bank as bad (R368, R377). -/
def State.badSpare (s : State) (t b m : Nat) : Bool :=
  s.boot.ledger.any (fun e => decide (e.kind = 2 ∧ e.tile = some (s.physOf t) ∧ e.item = b ∧ e.sub = 2560 + m))

/-- Spares that no entry uses: good, and neither valid nor mirroring (R168, R377). -/
def State.sparesFree (s : State) (t b : Nat) : Nat :=
  ((List.range 32).filter (fun m =>
    let v := s.regN t (remapOff b m)
    !bitOf v 31 && !bitOf v 29 && !s.badSpare t b m)).length

/-- A write to REMAP entry `m` (R168, R169); `bring` tells that the tile is in bring-up or in a reset. (DEDUCED, log
31) -/
def State.remapWrite (s : State) (t b m v src : Nat) (bring : Bool) : Nat × State :=
  let row := v % 4096
  let c := if row > 2559 then 2559 else row
  let s0 := if row > 2559 then s.clampTile t (remapOff b m) src v (v - row + c) none else s
  let ok := if row > 2559 then rspClamped else rspOK
  let cur := s.regN t (remapOff b m)
  if bitOf v 31 then
    if bring then (ok, s0.setRegN t (remapOff b m) (2 ^ 31 + c)) else (rspRefused, s)
  else if bitOf cur 31 then (rspRefused, s)
  else if bitOf v 29 then
    if s.sparesFree t b = 0 && !bitOf cur 29 then (rspRefused, s)
    else (ok, s0.setRegN t (remapOff b m) (2 ^ 29 + c))
  else (ok, s0.setRegN t (remapOff b m) c)

/-! ### Gather buffers (R163, R164) -/

/-- Writes one gather entry to its row: a whole row plainly, a partial one by read, merge and write; an entry that fails its
parity is dropped. -/
def State.flushEntry (s : State) (t : Nat) (e : GatherEntry) : State :=
  let b := bankOf e.row
  if e.fails then s.dropEntry t e
  else
  let s0 := s.updBank t b (fun k => { k with gather := k.gather.filter (fun x => decide (x.row ≠ e.row)) })
  if e.mask = 0xFF#8 then s0.writeRow t e.row e.data false 5
  else
    let (d, p, s1) := s0.decodeRow t e.row (s0.rowWord t e.row) none false
    (s1.writeRow t e.row (mergeWords d e.data e.mask) p 5).bumpReg t (pailOff b 0x20) 1

/-- An upset in the gather buffer: the parity bits of the entry of a flat row, or else of the oldest entry, no longer fit
their words (R163). -/
def State.upsetGather (s : State) (t b flat : Nat) : State :=
  let k := s.bank t b
  match (k.gather.find? (fun e => decide (e.row = flat))).orElse (fun _ => k.gather.head?) with
  | some e => s.updBank t b (fun k => { k with
      gather := k.gather.map (fun x => if x.row = e.row then { x with par := x.par ^^^ x.mask } else x) })
  | none => s

/-- A narrow write enters the gather buffer (R163): it merges into its row's entry, or takes a free one, for which the
oldest entry may have to be flushed. -/
def State.narrowWrite (s : State) (t flat : Nat) (d : Row) (mask : BitVec 8) (issuer : Nat) : State :=
  let b := bankOf flat
  let k := s.bank t b
  match k.gather.find? (fun e => decide (e.row = flat)) with
  | some e =>
    if e.fails then s.dropEntry t e
    else
    let data := mergeWords e.data d mask
    let e' : GatherEntry := { e with data := data, mask := e.mask ||| mask, par := wordParity data }
    (s.updBank t b (fun k => { k with gather := k.gather.map (fun x => if x.row = flat then e' else x) })).bumpReg t
      (pailOff b 0x18) 1
  | none =>
    let s1 := if k.gather.length < 8 then s else
      match k.gather with
      | [] => s
      | e :: _ => s.flushEntry t e
    let data := mergeWords 0 d mask
    s1.updBank t b (fun k => { k with gather := k.gather ++ [⟨flat, data, mask, issuer, wordParity data⟩] })

end Sys2Proof.Machine
end

