-- ==== Sys2Proof/Machine/MeshOps.lean ====
section
/-! DEFINITION. The mesh switch: wheel entries, circuit registers, token checks, forks, landings and injections
(R177 to R191, R200). -/

namespace Sys2Proof.Machine

/-- Changes the switch of tile `t`. -/
def State.updSw (s : State) (t : Nat) (f : Switch → Switch) : State :=
  s.updTile t (fun tl => { tl with sw := f tl.sw })

/-- The slot of the beat in progress (R182). -/
def State.slotOf (s : State) (t : Nat) : Nat := s.regN t 0xf08 % 64

/-! ### Scheduled uses of port X by the array's taps (R94, R97, R150) -/

/-- Whether a format code is an MX format. -/
def isMx (f : Nat) : Bool := decide (8 ≤ f)

/-- Element width of a format code. -/
def fmtWidth (f : Nat) : Nat :=
  match f with
  | 3 => 4
  | 0xD => 4
  | 4 => 6
  | 5 => 6
  | 0xB => 6
  | 0xC => 6
  | 6 => 16
  | 7 => 16
  | _ => 8

/-- Feeds a stream takes. -/
def ArrStream.feedCount (m : ArrStream) : Nat := if fmtWidth m.fmt = 16 then 1 else m.feeds + 1

/-- MX scales per input row (R94). -/
def ArrStream.scales (m : ArrStream) : Nat := (if m.fmt = 0xD then 2 else 1) * m.feedCount

/-- A tap read of a beat: context, row relative to its data range, and feed source (2 the load tap, 3 the scale tap). -/
structure TapUse where
  ctx : Nat
  row : Nat
  src : Nat
  deriving DecidableEq, Repr

/-- The tap reads of the beat in progress: the scale tap, then the load tap (R94, R97). -/
def State.tapRows (s : State) (t : Nat) : List TapUse :=
  let a := (s.tile t).arr
  let u := (s.tile t).til.beat
  a.streams.filterMap (fun m =>
    let per := 32 / m.scales
    if isMx m.fmt && decide (m.beat ≤ u) && decide (u < m.beat + m.count) && decide ((u - m.beat) % per = 0) then
      some ⟨m.ctx, m.scaleRow + (u - m.beat) / per, 3⟩
    else none) ++
  (match a.load with
   | some l => if l.src = 1 ∧ l.beat ≤ u ∧ u < l.beat + l.len then [⟨l.ctx, l.tap + (u - l.beat), 2⟩] else []
   | none => [])

/-- Whether a tap reads bank `b` in the beat in progress. -/
def State.tapsBank (s : State) (t b : Nat) : Bool :=
  (s.tapRows t).any (fun p => decide (bankOf ((s.dataRange t p.ctx).1 + p.row) = b))

/-! ### Seam lanes at their receiver (R194, R195) -/

/-- The seam lane that incoming lane `i` of tile `t` is received on. -/
def State.seamIn (s : State) (t i : Nat) : Option Nat :=
  match laneEnd t i with
  | some (u, o) => s.seamLane u o
  | none => none

/-- The physical wire that carries payload wire `w` past the failed wires: the w-th working one (R194). -/
def steerWire (failed : List Nat) (w : Nat) : Nat :=
  (((List.range 292).filter (fun x => !failed.contains x)).getD w 292)

/-- The payload wire of the polynomial position of a corrected bit (R145, R178). -/
def wireOf (p : Nat) : Nat := if p < 20 then 256 + p else p - 20

/-- The payload wire of the 1-bit error of a received word, if it has one. -/
def errorWire (w : CodeWord) : Option Nat := (findPower (kolvosSyndrome w) (kolvosPowers 276 1) 0).map wireOf

/-- A token over a seam lane is recorded: its window, and the wire of a 1-bit correction; a new window starts with the
threshold and length then set (R195, R204). -/
def Seam.token (v : Seam) (limit span : Nat) (wire : Option Nat) : Seam :=
  let v1 : Seam := if v.span ≤ v.tokens then { v with tokens := 0, counts := [], limit := limit, span := span } else v
  { v1 with
    tokens := v1.tokens + 1,
    counts := match wire with
      | some w => Map.put v1.counts 0 w (min 65535 (Map.get v1.counts 0 w + 1))
      | none => v1.counts }

/-- The receiver of a seam lane records a token and the physical wire of its 1-bit correction (R195). -/
def State.seamToken (s : State) (t i : Nat) (wire : Option Nat) : State :=
  match s.seamIn t i with
  | some n => s.updSeam n (fun v => v.token (s.obj 0x2631 4) (s.obj 0x2631 5) (wire.map (steerWire v.wires)))
  | none => s

/-! ### Wheel entries (R183 to R185) -/

/-- The bits of a wheel entry that are stored: [6:0] are reserved (R183). -/
def weMask (e : Nat) : Nat := e / 128 % 2 ^ 25 * 128


/-- Fields of a wheel entry (R183). -/
def weValid (e : Nat) : Bool := bitOf e 31
def weFwd (e : Nat) : Bool := bitOf e 30
def weSrc (e : Nat) : Nat := bitsOf e 29 26
def weLand (e : Nat) : Bool := bitOf e 25
def weCirc (e : Nat) : Nat := bitsOf e 24 20
def weDeliv (e : Nat) : Nat := bitsOf e 19 8
def weTrig (e : Nat) : Bool := bitOf e 7

/-- Whether a valid entry is malformed (R184). -/
def weMalformed (e : Nat) : Bool :=
  weValid e && (decide (weSrc e > 8) || (weLand e && decide (weSrc e = 8)) || (!weFwd e && !weLand e) ||
    (decide (weDeliv e = 0) && decide (weSrc e = 8)))

/-- The in-force entry of wheel `o` in a slot. -/
def Switch.entry (w : Switch) (o slot : Nat) : Nat := (Map.get w.wheel 0 (64 * o + slot)).toNat

/-- The offset of CIRC_CNT `k`; CIRC_ROW follows it (R202). -/
def circOff (k : Nat) : Nat := 0x4100 + 8 * k

/-- The periods remaining of circuit register `k` (R185). -/
def State.circCount (s : State) (t k : Nat) : Nat := s.regN t (circOff k) % 65536

/-- The periods that circuit register `k` will have remaining at the start of the beat two beats on, as far as this beat's
writes tell (R185). -/
def State.circAhead (s : State) (t k : Nat) : Nat :=
  let u := s.slotOf t
  let c := s.circCount t k
  let c1 := match (s.tile t).sw.circPend.reverse.find? (fun p => decide (p.1 = circOff k)) with
    | some p => p.2.1.toNat % 65536
    | none => if u = 63 then c - 1 else c
  if u = 62 then c1 - 1 else c1

/-- Whether an entry is active in the beat in progress (R185). -/
def State.weActive (s : State) (t e : Nat) : Bool := weValid e && decide (s.circCount t (weCirc e) ≠ 0)

/-- The wheels whose entry in `slot` is active, has not failed its parity in this beat and satisfies `p`, in order. -/
def State.wheels (s : State) (t slot : Nat) (p : Nat → Bool) : List (Nat × Nat) :=
  ((List.range 8).map (fun o => (o, (s.tile t).sw.entry o slot))).filter (fun q =>
    s.weActive t q.2 && !((s.tile t).sw.bad.contains (64 * q.1 + slot)) && p q.2)

/-- A use of a wheel entry that fails its parity, or whose circuit register does: invalid in this beat, counted, and
raised (R190). -/
def State.parityUse (s : State) (t o slot : Nat) : State :=
  let w := (s.tile t).sw
  let key := 64 * o + slot
  let e := w.entry o slot
  if s.weActive t e && (w.upset.contains key || w.upset.contains (512 + weCirc e)) && !w.bad.contains key then
    ((s.updSw t (fun w => { w with bad := w.bad ++ [key] })).bumpReg t 0x4030 1).tileError t 4 8 o 1
  else s

/-- The entries that a beat uses are checked: those of its slot but for wheel injections, and the wheel injections two slots
on (R186, R190). -/
def State.parityBeat (s : State) (t : Nat) : State :=
  if (s.tile t).sw.upset.isEmpty then s
  else
    let u := s.slotOf t
    let inj (o slot : Nat) : Bool :=
      decide (weSrc ((s.tile t).sw.entry o slot) = 8) && weTrig ((s.tile t).sw.entry o slot)
    (List.range 8).foldl (fun a o =>
      let a1 := if inj o u then a else a.parityUse t o u
      if inj o ((u + 2) % 64) then a1.parityUse t o ((u + 2) % 64) else a1) s

/-- A parity bit no longer fits its wheel entry or circuit register (R190). -/
def State.upset (s : State) (t key : Nat) : State :=
  s.updSw t (fun w => { w with upset := if w.upset.contains key then w.upset else w.upset ++ [key] })

/-- The context whose data range circuit register `k` uses (R185). -/
def State.circContext (s : State) (t k : Nat) : Nat := Map.get (s.tile t).sw.circCtx 1 k

/-- The row word of a circuit register after one use, under its count word (R185). -/
def circNext (cnt v : Nat) : Nat :=
  let base := v / 65536
  let len := cnt / 65536
  let r := v % 65536 + 1
  base * 65536 + (if len ≠ 0 ∧ r = base + len then base else r % 65536)

/-- The row word of a circuit register after `n` uses. -/
def circAfter (cnt v : Nat) : Nat → Nat
  | 0 => v
  | n + 1 => circAfter cnt (circNext cnt v) n

/-- The flat row that use `n` (from 0) of circuit register `k` in this beat names, or none beyond its data bound
(R74, R185). -/
def State.circFlat (s : State) (t k n : Nat) : Option Nat :=
  let r := circAfter (s.regN t (circOff k)) (s.regN t (circOff k + 4)) n % 65536
  let (base, bound) := s.dataRange t (s.circContext t k)
  if r < bound then some (base + r) else none

/-- Notes a use of circuit register `k` in this beat; the rows advance at its end. -/
def State.circUse (s : State) (t k : Nat) : State :=
  s.updSw t (fun w => { w with circUses := w.circUses ++ [k] })

/-- Advances the circuit registers by the beat's uses (R185). -/
def State.circAdvance (s : State) (t : Nat) : State :=
  let s1 := (s.tile t).sw.circUses.foldl (fun a k =>
    a.setRegN t (circOff k + 4) (circNext (a.regN t (circOff k)) (a.regN t (circOff k + 4)))) s
  s1.updSw t (fun w => { w with circUses := [] })

/-! ### Token checks (R180, R181) -/

/-- A token as the switch uses it after the Kolvos and sideband checks, its spare wires zero, and the state with what they
report; the receiver of a seam lane records the wire of a 1-bit correction (R178, R180, R181, R195). -/
def State.checkToken (s : State) (t lane : Nat) (k0 : Token) : Token × State :=
  let sb (s : State) : State := (s.bumpReg t 0x401c 1).bumpWin (objKey 0x2622 5) 1
  let dec := kolvosDecode k0.word
  let sw := s.seamToken t lane (match dec with | .corrected _ 1 => errorWire k0.word | _ => none)
  let s0 := if k0.spare ≠ 0 then sb sw else sw
  let k : Token := { k0 with spare := 0 }
  match dec with
  | .good _ =>
    if k.poison then ({ k with word := poisonWord, poison := true }, sb s0) else (k, s0)
  | .corrected d _ =>
    let s1 := (s0.bumpReg t 0x4010 1).bumpWin (objKey 0x2622 1) 1
    if k.poison then ({ k with word := poisonWord, poison := true }, sb s1)
    else ({ k with word := kolvosEncode d }, s1)
  | .poison => if k.poison then (k, s0) else ({ k with poison := true }, sb s0)
  | .uncorrectable =>
    let s1 := (s0.bumpReg t 0x4014 1).bumpWin (objKey 0x2622 2) 1
    ({ k with word := poisonWord, poison := true }, s1.tileError t 4 6 lane)

/-! ### Sending, landing and forks -/

/-- Counts deliveries that end at the tile (R47). -/
def State.recv (s : State) (t n : Nat) : State := s.bumpReg t 0xf1c n

/-- A request (0x994) or an acknowledge (0x998) of the lane that HS_SEL selects: outgoing lanes are 0 to 7, incoming
lanes 8 to 15 (R468). -/
def State.handshake (s : State) (t lane off : Nat) : State :=
  if s.regN t 0x990 = lane then (s.bumpReg t off 1).updSw t (fun w => { w with hsWait := 0 }) else s

/-- A switch discards a token that it would send into a region that absorbs (R382). -/
def State.absorbed (s : State) (t : Nat) : State :=
  let s1 := s.bumpReg t 0x6c1c 1
  let near (r : ResetReq) : Bool := r.absorb && [0, 1, 2, 3].any (fun d => match neighbour t d with
    | some u => decide (u ∈ r.tiles) | none => false)
  { s1 with boot := { s1.boot with
    resets := s1.boot.resets.map (fun r => if near r then { r with drops := r.drops + 1 } else r) } }

/-- A lane discards a token that may not leave by it: counted at the tile, for the device, and for its basin (R200).
(DEDUCED, log 30) -/
def State.fenceDrop (s : State) (t : Nat) : State :=
  let s1 := ((s.recv t 1).bumpReg t 0x402c 1).bumpWin (objKey 0x2622 4) 1
  match s1.basinOf t with
  | some b => s1.bumpWin (objKey (0x2A10 + b) 7) 1
  | none => s1

/-- Offers a token to outgoing lane `o`: an open lane carries it; a fenced, retired or absent lane discards it (R200).
Answers whether the branch still waits for an acknowledge. -/
def State.sendLane (s : State) (t o : Nat) (k : Token) : Bool × State :=
  match s.laneState t o with
  | 0 =>
    if (match laneEnd t o with | some (u, _) => s.absorbing u && !s.absorbing t | none => false) then
      (false, (s.recv t 1).absorbed t)
    else (true, (s.updSw t (fun w => { w with outs := Map.put w.outs none o (some k) })).handshake t o 0x994)
  | 1 => (false, (s.fenceDrop t).tileError t 4 9 o)
  | _ => (false, (s.fenceDrop t).tileError t 4 8 o 2)

/-- Offers a token to several lanes; answers those that wait for an acknowledge. -/
def State.sendLanes (s : State) (t : Nat) (k : Token) : List Nat → List Nat × State
  | [] => ([], s)
  | o :: rest =>
    let (w, s1) := s.sendLane t o k
    let (l, s2) := s1.sendLanes t k rest
    (if w then o :: l else l, s2)

/-- Lands a token at a flat row through port X (R186).  Answers true where the branch takes it.  A landing into a
non-pail row, and every discarded landing, ends a delivery (R47); a pail holds the token. -/
def State.landToken (s : State) (t flat : Nat) (k : Token) : Bool × State :=
  let b := bankOf flat
  let pail := s.inPail t b (localOf flat) && !s.inAlias t b (localOf flat)
  match s.landRow t flat (cwData k.word) k.poison 1 0 false with
  | (none, _) => (false, s.countBlock t b true)
  | (some st, s1) =>
    let s2 := s1.updBank t b (fun k => { k with busy := true })
    (true, if st = 0 && pail then s2 else s2.recv t 1)

/-- Retries a landing that a pail blocked, without counting the block again. -/
def State.relandToken (s : State) (t flat : Nat) (k : Token) : Bool × State :=
  match s.landRow t flat (cwData k.word) k.poison 1 0 false with
  | (none, _) => (false, s)
  | (some _, s1) => (true, s1)

/-- A landing or injection that the local interface or port X cannot serve (R150, R187): PORT_OVERLAP. -/
def State.excess (s : State) (t : Nat) : State := s.taskFault t 5

/-- Whether each of some slots of the bundle in progress holds no op or has issued.  Opcodes lie at bit 171 for the array
slot, 132 and 84 for the bank slots, 36 for the mesh slot (R60). -/
def State.opsSettled (s : State) (t : Nat) (slots : List Nat) : Bool :=
  let m := (s.tile t).til
  let opcode (n : Nat) : Nat := match n with
    | 2 => 171
    | 3 => 132
    | 4 => 84
    | _ => 36
  match m.cur with
  | some row => decide (bitsOf row.toNat 7 6 ≠ 1) ||
      slots.all (fun n => decide (row.toNat / 2 ^ opcode n % (if n = 2 then 32 else 16) = 0) || m.slots.contains n)
  | none => true

/-- Whether the bank ops and the mesh-slot op of the beat in progress have issued: port E's accesses decide what a landing in
this beat does, and the mesh-slot op is served before the wheel entries (R151, R187). -/
def State.meshSettled (s : State) (t : Nat) : Bool := s.opsSettled t [3, 4, 5]

/-- A use of the local interface by a wheel entry: injection or landing, register or source lane, circuit register. -/
structure LocalUse where
  inj : Bool
  id : Nat
  circ : Nat
  deriving DecidableEq, Repr

/-- The wheel that lands source `i` in this beat: none where a LAND op takes the token (R201). (DEDUCED, log 25) -/
def State.landHead (s : State) (t i : Nat) : Option (Nat × Nat) :=
  if (s.tile t).sw.landOps.any (fun p => decide (p.1 = i)) then none
  else (s.wheels t (s.slotOf t) (fun e => weLand e && decide (weSrc e = i))).head?

/-- The TRIG = 1 injection of circuit register `k` that reads in the beat in progress: its wheels (R186). -/
def State.trigWheels (s : State) (t k : Nat) : List (Nat × Nat) :=
  s.wheels t ((s.slotOf t + 2) % 64) (fun e => decide (weSrc e = 8) && weTrig e && decide (weCirc e = k))

/-- The local-interface uses of this beat's wheel entries, in increasing wheel number (R187). -/
def State.localUses (s : State) (t : Nat) : List LocalUse :=
  ((List.range 8).map (fun o =>
    let e := (s.tile t).sw.entry o (s.slotOf t)
    let j := (s.tile t).sw.entry o ((s.slotOf t + 2) % 64)
    (if (s.landHead t (weSrc e)).map (·.1) = some o then [LocalUse.mk false (weSrc e) (weCirc e)] else []) ++
    (if (s.trigWheels t (weCirc j)).head?.map (·.1) = some o then [LocalUse.mk true (weCirc j) (weCirc j)] else []))).flatten

/-- The row of each use and whether it is served: at most two landings and two injections, and one use of a bank
(R150, R187). -/
def State.localGrants (s : State) (t : Nat) : List (LocalUse × Option Nat × Bool) :=
  let w := (s.tile t).sw
  (s.localUses t).foldl (fun acc u =>
    let flat := s.circFlat t u.circ (acc.filter (fun g => decide (g.1.circ = u.circ))).length
    let same := (acc.filter (fun g => g.1.inj == u.inj)).length + (if u.inj then w.injects else w.landOps.length)
    let taken := acc.filterMap (fun g => if g.2.2 then g.2.1.map bankOf else none)
    let clash := match flat with
      | some f => decide (w.opBank = some (bankOf f)) || taken.contains (bankOf f)
      | none => false
    acc ++ [(u, flat, decide (same < 2) && !clash)]) []

/-- The grant of one use. -/
def State.grantOf (s : State) (t : Nat) (inj : Bool) (id : Nat) : Option Nat × Bool :=
  match (s.localGrants t).find? (fun g => g.1.inj == inj && decide (g.1.id = id)) with
  | some g => g.2
  | none => (none, false)

/-- Whether a fill-in agent may use port X of a bank: every op of the bundle that can use it has issued, no scheduled agent
uses it in this beat, nor another fill-in agent (R150).  A tile that issues no beat leaves its ports to fill-in agents. -/
def State.portXFree (s : State) (t b : Nat) : Bool :=
  !s.canIssue t || (s.opsSettled t [2, 3, 4, 5] && !(s.bank t b).busy && !(s.bank t b).fill && !s.tapsBank t b &&
    !((s.localGrants t).any (fun g => g.2.2 && decide (g.2.1.map bankOf = some b))))

/-- A fill-in agent of a class of R150 asked for port X in vain: it waits in this beat and the next. -/
def State.askX (s : State) (t b cls : Nat) : State :=
  s.updBank t b (fun k => { k with waits := if k.waits.contains (cls, (s.tile t).til.beat) then k.waits else
    k.waits ++ [(cls, (s.tile t).til.beat)] })

/-- A gather entry that a flush is due for (R164): a complete one first, else the oldest once the sleep gate has closed or
the tile's lock conditions hold. -/
def State.dueGather (s : State) (t b : Nat) : Option GatherEntry :=
  let k := s.bank t b
  match k.gather.find? (fun e => decide (e.mask = 0xFF#8)) with
  | some e => some e
  | none => if 2 ≤ k.sleep ∨ (s.tile t).lk.result.isSome then k.gather.head? else none

/-- Whether a fill-in agent of class `cls` may use port X of a bank: it is free, and no agent of an earlier class of R150
waits for it: 1 barges, 2 cellar, 3 trier, 4 correction write-backs, 5 gather flushes, 6 row window, 7 patrol.
(DEDUCED, log 129) -/
def State.fillTurn (s : State) (t b cls : Nat) : Bool :=
  let k := s.bank t b
  s.portXFree t b && (!s.canIssue t ||
    (!(k.waits.any (fun w => decide (w.1 < cls))) && (decide (cls ≤ 4) || k.writeback.isEmpty) &&
     (decide (cls ≤ 5) || (s.dueGather t b).isNone) &&
     (decide (cls ≤ 6) || !((s.tile t).win.any (fun r => decide (bankOf r.row = b))))))

/-- Whether a tile belongs to a basin that runs. -/
def State.inRun (s : State) (t : Nat) : Bool := (s.basinOf t).any (fun n => (s.basin n).started)

/-- A fill-in agent uses port X of a bank in this beat of a tile that runs a program. -/
def State.useFill (s : State) (t b : Nat) : State :=
  if s.inRun t then s.updBank t b (fun k => { k with fill := true }) else s

/-- Whether port X of a bank may serve an agent of the links or the host: a barge agent has its rank, receive landings of
port p being p and transmit reads 64 + p, gives way to one of a lower rank that waits, and shares one access in a beat of the
tile with the others (R229); the host engine has none. (DEDUCED, log 134) -/
def State.bargeTurn (s : State) (t b : Nat) (rank : Option Nat) : Bool :=
  let tl := s.tile t
  s.portXFree t b && (match rank with
    | some r => !s.canIssue t || (!tl.bargeNow && !(tl.bargeAsks.any (fun a => decide (a.1 < r))))
    | none => true)

/-- An agent of the links or the host waits for port X. -/
def State.bargeAsk (s : State) (t b : Nat) (rank : Option Nat) : State :=
  let s1 := s.askX t b 1
  match rank with
  | some r =>
    let a := (r, (s.tile t).til.beat)
    s1.updTile t (fun tl => { tl with bargeAsks := if tl.bargeAsks.contains a then tl.bargeAsks else tl.bargeAsks ++ [a] })
  | none => s1

/-- An agent of the links or the host has port X in this beat. -/
def State.bargeUse (s : State) (t b : Nat) (rank : Option Nat) : State :=
  let s1 := s.useFill t b
  match rank with
  | some r => s1.updTile t (fun tl => { tl with
      bargeNow := tl.bargeNow || s1.inRun t, bargeAsks := tl.bargeAsks.filter (fun a => decide (a.1 ≠ r)) })
  | none => s1

/-- A landing that port X serves; answers the row of a landing that a pail blocks. -/
def State.landAt (s : State) (t flat : Nat) (k : Token) : Option Nat × State :=
  match s.landToken t flat k with
  | (true, a) => (none, a)
  | (false, a) => (some flat, a)

/-- The landing of one source in one beat: the LAND op, else the lowest wheel; the others are suppressed and end their
delivery (R187, R201).  A wheel landing may write a code range: R75 suppresses bank and mesh-slot ops only.  Answers the row
of a landing that a pail blocks. -/
def State.landSource (s : State) (t i : Nat) (k : Token) (op : Option Nat) (ents : List (Nat × Nat)) :
    Option Nat × State :=
  let rest := match op with | some _ => ents | none => ents.drop 1
  let s0 := rest.foldl (fun a _ => (a.excess t).recv t 1) s
  match op with
  | some flat => if flat < 40960 then s0.landAt t flat k else (none, s0.recv t 1)
  | none =>
    match ents with
    | [] => (none, s0)
    | (_, e) :: _ =>
      let (flat, ok) := s.grantOf t false i
      let s1 := s0.circUse t (weCirc e)
      match flat with
      | none => (none, (s1.taskFault t 1).recv t 1)
      | some f => if !ok then (none, (s1.excess t).recv t 1) else s1.landAt t f k

/-- Whether incoming lane `i` is expected in the beat in progress (R179). -/
def State.expected (s : State) (t i : Nat) : Bool :=
  !(s.wheels t (s.slotOf t) (fun e => decide (weSrc e = i))).isEmpty ||
  (s.tile t).sw.landOps.any (fun p => decide (p.1 = i))

/-- Serves incoming lane `i` in the beat in progress: checks its tag, and takes an expected token to every branch of
its fork (R45, R179 to R191, R200). -/
def State.serveLane (s : State) (t i : Nat) : State :=
  let tl := s.tile t
  match Map.get tl.sw.inputs none i with
  | none => s
  | some k =>
    let tag := s.regN t 0xf00 % 16
    if k.tag.toNat = (tag + 1) % 16 then s
    else if k.tag.toNat ≠ tag then
      let s1 := s.updSw t (fun w => { w with inputs := Map.put w.inputs none i none })
      let s2 := if s1.regN t 0x4024 = 0 then
          (s1.setRegN t 0x4024 (i + 16 * k.tag.toNat + 256 * tag)).setRegN t 0x4028 (s1.regN t 0xf08)
        else s1
      ((s2.bumpReg t 0x4020 1).bumpWin (objKey 0x2622 3) 1).tileError t 4 7 i
    else if tl.sw.taken.contains i || !s.canIssue t || !s.meshSettled t || tl.sw.forks.any (fun f => decide (f.src = i)) then s
    else
      let ents := s.wheels t (s.slotOf t) (fun e => decide (weSrc e = i))
      let op := (tl.sw.landOps.find? (fun p => decide (p.1 = i))).map (·.2)
      if ents.isEmpty && op.isNone then s
      else
        let (k1, s1) := (s.countReg t 0x7128 1).checkToken t i k
        let fw := (ents.filter (fun q => weFwd q.2)).map (·.1)
        let s2 := if k1.poison && !fw.isEmpty then s1.bumpReg t 0x4018 1 else s1
        let (lanes, s3) := s2.sendLanes t k1 fw
        let (land, s4) := s3.landSource t i k1 op (ents.filter (fun q => weLand q.2))
        s4.updSw t (fun w => { w with
          taken := w.taken ++ [i],
          forks := if lanes.isEmpty && land.isNone then w.forks else w.forks ++ [⟨i, k1, lanes, land⟩],
          inputs := if lanes.isEmpty && land.isNone then Map.put w.inputs none i none else w.inputs })

/-- Serves every incoming lane. -/
def State.serveLanes (s : State) (t : Nat) : State :=
  (List.range 8).foldl (fun a i => a.serveLane t i) s

/-- Removes a fork that every branch has taken, and frees its source register (R191). -/
def closeForks (w : Switch) : Switch :=
  let done := w.forks.filter (fun f => f.lanes.isEmpty && f.land.isNone)
  { w with
    forks := w.forks.filter (fun f => !(f.lanes.isEmpty && f.land.isNone)),
    inputs := done.foldl (fun m f => if f.src < 8 then Map.put m none f.src none else m) w.inputs }

/-- Retries the landings that pails block in one bank (R160, R191). -/
def State.retryLands (s : State) (t b : Nat) : State :=
  (s.tile t).sw.forks.foldl (fun a f =>
    match f.land with
    | some flat =>
      if bankOf flat = b then
        match a.relandToken t flat f.tok with
        | (true, a1) => a1.updSw t (fun w => closeForks { w with
            forks := w.forks.map (fun g => if g.src = f.src then { g with land := none } else g) })
        | (false, a1) => a1
      else a
    | none => a) s

/-- The lanes and deliveries of an INJECT op that leaves in `slot`: its active LOCAL entries with TRIG = 0 (R186, R188). -/
def State.localLanes (s : State) (t slot : Nat) : List Nat × Nat :=
  let ents := s.wheels t slot (fun e => decide (weSrc e = 8) && !weTrig e)
  (ents.map (·.1), ((ents.head?).map (fun q => weDeliv q.2)).getD 0)

/-- An injection leaves in `slot` on its lanes, and its deliveries count as sent (R186, R188). -/
def State.depart (s : State) (t slot : Nat) (j : Injection) : State :=
  let k : Token := ⟨j.word, BitVec.ofNat 4 (s.regN t 0xf00), j.poison, j.last, 0⟩
  let p := if j.op then s.localLanes t slot else (j.lanes, j.deliv)
  let (lanes, s2) := s.sendLanes t k p.1
  (s2.bumpReg t 0xf18 p.2).updSw t (fun w =>
    { w with forks := if lanes.isEmpty then w.forks else w.forks ++ [⟨8, k, lanes, none⟩] })

/-- The injections whose departure beat is `now` or earlier leave. -/
def State.departBy (s : State) (t now : Nat) : State :=
  let due := (s.tile t).sw.injections.filter (fun j => decide (j.beat ≤ now))
  let s1 := s.updSw t (fun w => { w with injections := w.injections.filter (fun j => decide (now < j.beat)) })
  due.foldl (fun a j => a.depart t ((s.slotOf t + now - (s.tile t).til.beat) % 64) j) s1

/-- Every injection whose departure beat has come leaves. -/
def State.departures (s : State) (t : Nat) : State := s.departBy t (s.tile t).til.beat

/-- At its last bundle a tile holds until the injections in flight have left: each held pulse that finds the lanes free sends
those of the next beat (R46, R201). (DEDUCED, log 130) -/
def State.departHeld (s : State) (t : Nat) : State :=
  let tl := s.tile t
  if tl.til.endIssued && tl.sw.outs.isEmpty && tl.sw.forks.isEmpty then
    if tl.sw.injections.any (fun j => decide (j.beat ≤ tl.til.beat + 1)) then s.departBy t (tl.til.beat + 1)
    else s.departBy t (tl.til.beat + 2)
  else s

/-- Queues an injection for its departure, two beats on. -/
def State.queueInjection (s : State) (t : Nat) (lanes : List Nat) (d : Option (Row × Bool)) (last : Bool)
    (deliv : Nat) (op : Bool) : State :=
  let j : Injection := match d with
    | some (r, p) => ⟨(s.tile t).til.beat + 2, lanes, if p then poisonWord else kolvosEncode r, p, last, deliv, op⟩
    | none => ⟨(s.tile t).til.beat + 2, lanes, poisonWord, true, last, deliv, op⟩
  s.updSw t (fun w => { w with injections := w.injections ++ [j] })

/-- Circuit registers whose wheel injection reads in the beat in progress and has not been made. -/
def State.dueInjections (s : State) (t : Nat) : List Nat :=
  (List.range 32).filter (fun k => !(s.trigWheels t k).isEmpty && !((s.tile t).sw.doneCirc.contains k))

/-- Whether the count is 1 and no later read of the period is made for an injection entry naming the register: the injections
of slots 0 and 1 are read in slots 62 and 63 of the period before (R186). (DEDUCED, log 130) -/
def State.lastOfPeriod (s : State) (t k : Nat) : Bool :=
  decide (s.circCount t k = 1) &&
  (List.range 64).all (fun x => decide (x ≤ s.slotOf t) ||
    (s.wheels t ((x + 2) % 64) (fun e => decide (weSrc e = 8) && weTrig e && decide (weCirc e = k))).isEmpty)

/-- Whether a tile at its last bundle waits for a check, a row of the array, or an injection (R46, R199, R201). -/
def State.checkWait (s : State) (t : Nat) : Bool :=
  let tl := s.tile t
  (tl.til.endIssued && !tl.lk.atLock &&
    (!tl.arr.rows.isEmpty || !tl.arr.checks.isEmpty || !tl.arr.streams.isEmpty || tl.arr.load.isSome ||
     !tl.sw.injections.isEmpty)) ||
  (!tl.lk.atLock && !(s.dueInjections t).isEmpty)

/-- STALL_CAUSE's cause code of R199 for a tile's wait, with its bank or barrier; 0 where it does not wait. -/
def State.stallCause (s : State) (t : Nat) : Nat × Nat :=
  let tl := s.tile t
  if (List.range 8).any (fun i => s.expected t i && !tl.sw.taken.contains i) && !tl.lk.atLock then (1, 0)
  else if !tl.sw.outs.isEmpty then (2, 0)
  else match tl.til.streams.find? (fun m => m.blocked && decide (m.op = 1)) with
    | some m => (3, bankOf m.flat)
    | none =>
      match tl.sw.waitInj, tl.sw.waitCirc.head? with
      | some w, _ => (3, bankOf w.flat)
      | none, some w => (3, bankOf w.2)
      | none, none =>
        match tl.til.streams.find? (fun m => m.blocked) with
        | some m => (4, bankOf m.flat)
        | none =>
          match tl.sw.forks.find? (fun f => f.land.isSome) with
          | some f => (4, bankOf (f.land.getD 0))
          | none =>
            match tl.tp.waitBar with
            | some n => (5, n)
            | none =>
              if tl.lk.atLock && tl.lk.result.isNone && !tl.lk.leak then (6, 0)
              else if tl.lk.leak then (7, 0)
              else if tl.til.frozen then (8, 0)
              else if s.checkWait t then (9, 0)
              else (0, 0)

/-- The incoming lanes expected and not presented, and the outgoing lanes awaiting acknowledge (R202). -/
def State.laneMasks (s : State) (t : Nat) : List Nat × List Nat :=
  let tl := s.tile t
  ((List.range 8).filter (fun i => s.expected t i && (Map.get tl.sw.inputs none i).isNone && !tl.sw.taken.contains i),
   (List.range 8).filter (fun o => (Map.get tl.sw.outs none o).isSome))

end Sys2Proof.Machine
end

