-- ==== Sys2Proof/Machine/Banks.lean ====
section
/-! DEFINITION. Bank, pail and gather-buffer commands (R148 to R171). -/

namespace Sys2Proof.Machine

/-- A write that only context 0 and the towpath may make: contexts 1 to 3 raise LR_DENIED with no effect (R59, R175);
the towpath is answered with the status. -/
def State.ctl0Write (s : State) (t : Nat) (ctx : Option (Fin 4)) (f : Nat → State → Nat × State) : State :=
  match ctx with
  | none => s.towpathAsk t (f 3)
  | some c => if (s.tile t).dark then s else if c.val = 0 then (f 4 s).2 else s.taskFault t 8

/-- A corrected row is written back in the first fill-in beat of port X (R148, R150). -/
def execCorrectionWriteback (t : TileId) (bank : BankId) (s : State) : Host.Outcome State Fault Refusal :=
  let k := s.bank t bank
  match k.writeback with
  | [] => .next s
  | (loc, d) :: rest =>
    if !(s.fillTurn t bank 4) then .next s
    else .next ((((s.useFill t bank).countReg t 0x7140 1).updBank t bank (fun k => { k with writeback := rest })).setRow t (2560 * bank.val + loc) d)

/-- The patrol reads one presented row, or one spare that an entry in force uses, of an awake bank, last of all fill-in agents
(R148, R150, R168). -/
def execPatrolScrub (t : TileId) (bank : BankId) (row : Fin 2592) (s : State) : Host.Outcome State Fault Refusal :=
  let k := s.bank t bank
  if k.sleep ≠ 0 ∨ !(s.fillTurn t bank 7) then .next s
  else if row.val < 2560 then
    let flat := 2560 * bank.val + row.val
    .next ((s.useFill t bank).decodeRow t flat (s.rowWord t flat) none true).2.2
  else
    let v := s.regN t (remapOff bank (row.val - 2560))
    if bitOf v 31 && decide (s.spareOf t bank (v % 4096) = some (row.val - 2560)) then
      let flat := 2560 * bank.val + v % 4096
      .next ((s.useFill t bank).decodeRow t flat (s.word (spareKey t bank (row.val - 2560))) none true).2.2
    else .next s

/-- Whether the gather buffer can take a narrow write of a row: it has the row's entry or a free one, or port X may flush the
oldest (R163, R164). -/
def State.gatherRoom (s : State) (t flat : Nat) : Bool :=
  let k := s.bank t (bankOf flat)
  k.gather.any (fun e => decide (e.row = flat)) || decide (k.gather.length < 8) || s.fillTurn t (bankOf flat) 5

/-- A narrow write that the gather buffer can take; a flush for space uses port X in this beat. -/
def State.gatherWrite (s : State) (t flat : Nat) (d : Row) (mask : BitVec 8) (issuer : Nat) : State :=
  let b := bankOf flat
  let k := s.bank t b
  (if k.gather.any (fun e => decide (e.row = flat)) || decide (k.gather.length < 8) then s else s.useFill t b).narrowWrite t flat
    d mask issuer

/-- A narrow write by an exchange agent (R163): admitted under R154, closed by the sleep gate; it waits where a flush for
space must.  `bad` tells that a word held in the buffer, of the row's entry or of the oldest, no longer fits its parity. -/
def execNarrowWrite (t : TileId) (row : Nat) (data : Row) (mask : BitVec 8) (bad : Bool) (s : State) :
    Host.Outcome State Fault Refusal :=
  let st := s.portXStatus t row [1, 2]
  if st ≠ 0 then .next (s.rejectX t row st 5)
  else if mask = 0#8 then .next (s.zeroLen t)
  else if !(s.gatherRoom t row) then .next (s.askX t (bankOf row) 5)
  else .next ((if bad then s.upsetGather t (bankOf row) row else s).gatherWrite t row data mask 5)

/-- A flush in a fill-in beat (R164).  `bad` tells that a word of the entry fails its parity. -/
def execGatherFlush (t : TileId) (bank : BankId) (bad : Bool) (s : State) : Host.Outcome State Fault Refusal :=
  if !(s.fillTurn t bank 5) then .next s
  else
    match s.dueGather t bank with
    | none => .next s
    | some e =>
      let s1 := s.useFill t bank
      if bad then .next (s1.dropEntry t e) else .next (s1.flushEntry t e)

/-- The row the row window holds in ROW_WIN_DATA (R165). -/
def State.rowWinData (s : State) (t : Nat) : Row :=
  rowOfWords (fun w => (s.reg t (0x5820 + 4 * w)).setWidth 32)

/-- Stores a row in ROW_WIN_DATA. -/
def State.setRowWin (s : State) (t : Nat) (d : Row) : State :=
  (List.range 8).foldl (fun a w => a.setReg t (0x5820 + 4 * w) ((rowWord8 d w).setWidth 64)) s

/-- Whether a request of the row window can be served in this beat: a narrow write by the gather buffer, any other access by
port X in its turn (R150, R163, R165). -/
def State.winTurn (s : State) (t : Nat) (r : WinReq) : Bool :=
  if r.read || decide (r.mask = 0xFF#8) then s.fillTurn t (bankOf r.row) 6 else s.gatherRoom t r.row

/-- A request of the row window is served (R153, R165): no pail tag changes, a poisoned row answers POISON, and a whole row
that meets a port E write in its beat answers COLLIDE. -/
def State.winServe (s : State) (t : Nat) (r : WinReq) : State :=
  let st := s.portXStatus t r.row [1, 2]
  let b := bankOf r.row
  let k := s.bank t b
  let s0 := s.updTile t (fun tl => { tl with win := none })
  if st ≠ 0 then (s0.rejectX t r.row st 4).setRegN t 0x5808 st
  else if r.read then
    let (d, p, s1) := (s0.useFill t b).readRow t r.row true none
    (s1.setRowWin t d).setRegN t 0x5808 (if p then 6 else 0)
  else if r.mask ≠ 0xFF#8 then (s0.setRegN t 0x5808 0).gatherWrite t r.row r.data r.mask 4
  else if usedNow k (s.tile t).til.beat (localOf r.row) (fun e => e == 1 || e == 2) then
    (((s0.useFill t b).bumpReg t (bankOff b 0x24) 1).bumpWin (objKey 0x2700 8) 1).setRegN t 0x5808 2
  else ((s0.useFill t b).writeRow t r.row r.data false 4).setRegN t 0x5808 0

/-- The row window's request is served where its beat has come. -/
def State.winStep (s : State) (t : Nat) : State :=
  match (s.tile t).win with
  | some r => if s.portXStatus t r.row [1, 2] ≠ 0 || s.winTurn t r then s.winServe t r else s
  | none => s

/-- A go of the row window: it is served at once where its beat has come, else it is busy (R165). (DESIGN CHOICE, log
23) -/
def State.winAsk (s : State) (t : Nat) (read : Bool) (mask : BitVec 8) : State :=
  ((s.setRegN t 0x5808 0).updTile t (fun tl => { tl with win := some ⟨read, s.regN t 0x5800, mask, s.rowWinData t⟩ })).winStep t

/-- A go-write of the row window (R165): ZERO_LEN where the mask names no word. -/
def State.rowWinWrite (s : State) (t : Nat) (mask : BitVec 8) : State :=
  if mask = 0#8 then s.setRegN t 0x5808 1 else s.winAsk t false mask

/-- A go-read of the row window (R165). -/
def State.rowWinRead (s : State) (t : Nat) : State := s.winAsk t true 0xFF#8

/-- A remap copy whose two beats are over is written to its spare, unless the row has been written meanwhile, and copy done is
set (R169). -/
def State.copyEnd (s : State) (t b : Nat) (c : RowCopy) : State :=
  let s1 := s.updBank t b (fun k => { k with copies := k.copies.filter (fun x => decide (x.spare ≠ c.spare)) })
  (match c.word with | some w => s1.setWord (spareKey t b c.spare) w | none => s1).setRegBit t (remapOff b c.spare) 28 true

/-- The remap copies due by beat `u` are written. -/
def State.copyEnds (s : State) (t u : Nat) : State :=
  (s.tile t).banks.foldl (fun a p => (p.2.copies.filter (fun c => decide (c.beat ≤ u))).foldl (fun a c => a.copyEnd t p.1 c) a) s

/-- ROW_WIN_CTL bit 8 with a word mask: the masked words go to the gather buffer, or the whole row is written (R165). -/
def execRowWinWrite (t : TileId) (ctx : Option (Fin 4)) (mask : BitVec 8) (s : State) :
    Host.Outcome State Fault Refusal :=
  .next (s.ctl0Write t ctx (fun _ s => (rspOK, s.rowWinWrite t mask)))

/-- ROW_WIN_CTL bit 9: the row is read in a fill-in beat (R165). -/
def execRowWinRead (t : TileId) (ctx : Option (Fin 4)) (s : State) : Host.Outcome State Fault Refusal :=
  .next (s.ctl0Write t ctx (fun _ s => (rspOK, s.rowWinRead t)))

/-- A write to BANK_OWNER stages a new owner (R155, R175). -/
def execBankOwnerWrite (t : TileId) (ctx : Option (Fin 4)) (bank : BankId) (val : Word32) (s : State) :
    Host.Outcome State Fault Refusal :=
  .next (s.ctl0Write t ctx (fun src s => s.ownerWrite t bank val.toNat src))

/-- SLEEP_CTL written 1 (R170). -/
def execSleepRetain (t : TileId) (ctx : Option (Fin 4)) (bank : BankId) (s : State) :
    Host.Outcome State Fault Refusal :=
  .next (s.ctl0Write t ctx (fun src s => s.sleepWrite t bank 1 src))

/-- SLEEP_CTL written 2 (R170). -/
def execSleepOff (t : TileId) (ctx : Option (Fin 4)) (bank : BankId) (s : State) : Host.Outcome State Fault Refusal :=
  .next (s.ctl0Write t ctx (fun src s => s.sleepWrite t bank 2 src))

/-- The drain ends: retention or off as SLEEP_CTL asked, or awake again after a wake request (R170, R171). -/
def execBankDrained (t : TileId) (bank : BankId) (s : State) : Host.Outcome State Fault Refusal :=
  let k := s.bank t bank
  if (k.sleep = 1 ∨ k.sleep = 2) ∧ k.inflight (s.tile t).til.beat = 0 then
    if k.wakePending then .next (s.updBank t bank (fun k => { k with sleep := 0, wakePending := false }))
    else
      let asleep := if s.regN t (bankOff bank 8) = 1 then 3 else 4
      .next ((s.updBank t bank (fun k => { k with sleep := asleep })).bumpObj 0x2700 6 1 0xFFFF)
  else .next s

/-- SLEEP_CTL written 0 (R171). -/
def execWake (t : TileId) (ctx : Option (Fin 4)) (bank : BankId) (s : State) : Host.Outcome State Fault Refusal :=
  .next (s.ctl0Write t ctx (fun src s => s.sleepWrite t bank 0 src))

/-- Every row and spare of a bank becomes the all-zero codeword. -/
def State.zeroBank (s : State) (t b : Nat) : State :=
  { s with mem := s.mem.filter (fun p => decide (p.1 / 4096 ≠ 16 * t + b)) }

/-- The rail is up; after off, every row and spare is zero, every tag EMPTY and every SNAP_DIRTY bit set (R171). -/
def execWakeComplete (t : TileId) (bank : BankId) (s : State) : Host.Outcome State Fault Refusal :=
  let k := s.bank t bank
  if k.sleep = 5 then
    let s1 := s.setObj 0x2700 6 (s.obj 0x2700 6 - 1)
    if k.wasOff then
      .next ((s1.zeroBank t bank).updBank t bank (fun k =>
        { k with sleep := 0, wasOff := false, full := [], snapAll := true, snapDirty := [] }))
    else .next (s1.updBank t bank (fun k => { k with sleep := 0 }))
  else .next s

/-- A write of a REMAP entry (R168, R169, R175). -/
def execRemapEntryWrite (t : TileId) (ctx : Option (Fin 4)) (bank : BankId) (m : Fin 32) (val : Word32) (s : State) :
    Host.Outcome State Fault Refusal :=
  .next (s.ctl0Write t ctx (fun src s => s.remapWrite t bank m val.toNat src (s.inBring t)))

/-- The row of a mirroring entry is read in a fill-in beat; its copy reaches the spare two beats later, at once where the tile
is in no beat (R169). (DEDUCED, log 131) -/
def State.remapCopy (s : State) (t b m : Nat) : State :=
  let flat := 2560 * b + s.regN t (remapOff b m) % 4096
  let u := (s.tile t).til.beat
  let (d, p, s1) := (s.useFill t b).decodeRow t flat (s.rowWord t flat) none true
  let c : RowCopy := ⟨m, localOf flat, u + 2, some (if p then poisonWord else kolvosEncode d)⟩
  if s.canIssue t then s1.updBank t b (fun k => { k with copies := k.copies ++ [c] }) else s1.copyEnd t b c

/-- The row of a mirroring entry is copied to its spare in a fill-in beat, and copy done is set (R169). -/
def execRemapCopy (t : TileId) (bank : BankId) (m : Fin 32) (s : State) : Host.Outcome State Fault Refusal :=
  let v := s.regN t (remapOff bank m)
  .next (if bitOf v 29 && !bitOf v 31 && !bitOf v 28 && s.fillTurn t bank 6 &&
      !((s.bank t bank).copies.any (fun c => decide (c.spare = m.val))) then s.remapCopy t bank m else s)

end Sys2Proof.Machine
end

