-- ==== Sys2Proof/Machine/TileRegs.lean ====
section
/-! DEFINITION. Reads and writes of the tile-local register space (R58, R59, R118, R142, R175, R203): computed
registers, clamps, staged registers and the registers whose writes act at once. -/

namespace Sys2Proof.Machine

/-- The sum of `2^i` over a list of bit numbers. -/
def maskOf (l : List Nat) : Nat := l.foldl (fun a i => a ||| 2 ^ i) 0

/-- Whether the tile holds tokens of its epoch that are not delivered: switch registers, lanes, forks, injections and
FULL pail rows (R46, R162). -/
def State.holdsTokens (s : State) (t : Nat) : Bool :=
  let tl := s.tile t
  let tag := s.regN t 0xf00 % 16
  tl.sw.inputs.any (fun p => match p.2 with | some k => decide (k.tag.toNat = tag) | none => false) ||
  !tl.sw.outs.isEmpty || !tl.sw.forks.isEmpty || !tl.sw.injections.isEmpty || !tl.sw.ferry.isEmpty ||
  (List.range 16).any (fun b => (s.bank t b).full.any (fun p => p.2 && s.inPail t b p.1))

/-- The target lock of the oldest batch held at the tile, 0 when none (R57). -/
def State.batchTarget (s : State) (t : Nat) : Nat :=
  (s.tile t).tp.batches.foldl (fun a k => if a = 0 then k.target else min a k.target) 0

/-- Whether a batch is complete at the tile: sealed, with exactly that many good writes, and verified firmware for an
activation (R220, R223). -/
def TileBatch.complete (k : TileBatch) : Bool :=
  match k.sealN with
  | some n => decide (k.msgs = n) && !k.bad
  | none => false

/-- Whether every tile of a basin waits at its lock (R52, R54). -/
def State.allAtLock (s : State) (b : Nat) : Bool := (s.basinTiles b).all (fun t => (s.tile t).lk.atLock)

/-- Whether the lock of a basin is held by requests alone (R54). -/
def State.heldByRequest (s : State) (b : Nat) : Bool :=
  (s.basin b).holds.any (fun h => decide (h.2 ≤ s.nextLockNum b)) && s.allAtLock b &&
  (match (s.basin b).result with
   | some r => decide (r.diff = 0)
   | none => (s.basinTiles b).all (fun t => (s.tile t).lk.open_))

/-- SWITCH_STATUS (R202). -/
def State.switchStatus (s : State) (t : Nat) : Nat :=
  let w := (s.tile t).sw
  let (ins, outs) := s.laneMasks t
  maskOf ins + 256 * maskOf outs +
  65536 * maskOf ((List.range 8).filter (fun i => (Map.get w.inputs none i).isSome)) +
  2 ^ 24 * b2n (!w.forks.isEmpty) +
  2 ^ 25 * b2n (!w.injections.isEmpty || w.waitInj.isSome || !w.waitCirc.isEmpty || !(s.dueInjections t).isEmpty)

/-- ARRAY_STATUS (R118): a stream is in flight until its last output row is presented (R103, R104), and a set shows as
complete from the beat after the one that completes it (R98). (DEDUCED, log 26) -/
def State.arrayStatus (s : State) (t : Nat) : Nat :=
  let a := (s.tile t).arr
  b2n (!a.streams.isEmpty || !a.rows.isEmpty) + 2 * b2n a.load.isSome + 4 * b2n (a.complete && decide (a.freshAt ≠ some (s.tile t).til.beat)) + 8 * b2n a.armed +
  16 * b2n a.active.colMajor + 32 * b2n a.shadow.colMajor + 64 * b2n a.active.valid + 256 * a.active.fmt +
  4096 * a.shadow.fmt

/-- The value of a bank or pail register that the bank computes (R173, R174). -/
def State.bankValue (s : State) (t b off : Nat) : Option Nat :=
  let k := s.bank t b
  match off with
  | 4 => some (k.owner + 8 * b2n k.staged.isSome + 16 * k.sleep +
      128 * b2n (!k.writeback.isEmpty || (s.dueGather t b).isSome || !k.waits.isEmpty ||
        (s.tile t).win.any (fun r => decide (bankOf r.row = b)) ||
        (List.range 32).any (fun m => let v := s.regN t (remapOff b m); bitOf v 29 && !bitOf v 28 && !bitOf v 31)) +
      256 * b2n (decide (s.sparesFree t b = 0)))
  | 0xc => some (k.inflight (s.tile t).til.beat)
  | 0x34 => some k.epochDirty.length
  | 0x38 => some (if k.snapAll then 2560 else k.snapDirty.length)
  | 0x3c => some (s.sparesFree t b)
  | _ => none

/-- The words that batches satisfying `p` hold and the tile has not itself staged again since, in order of their batches (R51,
R201). -/
def State.stagedWords (s : State) (t : Nat) (p : TileBatch → Bool) : List (Nat × Nat) :=
  (((s.tile t).tp.batches.filter p).map (fun k => k.writes.filter (fun w => !(k.covered.contains w.1)))).flatten

/-- The staged value of the wheel entry of a key: the later of the tile's own and a batch's (R189, R201). -/
def State.stagedEntry (s : State) (t key : Nat) : Option Nat :=
  match (s.stagedWords t (fun _ => true)).reverse.find? (fun w => decide (w.1 = 0x10000 + key)) with
  | some w => some w.2
  | none => (Map.get (s.tile t).sw.staged none key).map (·.toNat)

/-- The keys of the wheel entries that are staged (R189). -/
def State.stagedKeys (s : State) (t : Nat) : List Nat :=
  let own : List Nat := (s.tile t).sw.staged.map (fun e => e.1)
  let words : List (Nat × Nat) := ((s.tile t).tp.batches.map (fun k => k.writes)).flatten
  (own ++ words.filterMap (fun (w : Nat × Nat) => if 0x10000 ≤ w.1 then some (w.1 - 0x10000) else none)).eraseDups

/-- The whole value of the register whose first word lies at `base`. -/
def State.regValue (s : State) (t base : Nat) : Nat :=
  let tl := s.tile t
  match base with
  | 0 => let c := tl.mover.loaded.getD t; tx c + 256 * ty c + 65536 * (s.basinOf c).getD 0
  | 0xe08 => tl.mover.sent + 65536 * tl.mover.landed
  | 8 => tl.til.active + 4 * b2n tl.til.frozen + 8 * b2n (decide (s.regN t 0xc ≠ 0)) + 16 * tl.til.loops.length +
      128 * tl.til.rets.length
  | 0x104 => 40960
  | 0x10c => 256
  | 0xf24 => b2n tl.lk.atLock + 2 * b2n tl.lk.reported + 4 * b2n tl.lk.leak + 8 * b2n (match s.basinOf t with | some b => s.heldByRequest b | none => false) +
      16 * b2n tl.lk.batchBad + 32 * b2n (s.holdsTokens t)
  | 0xf28 => s.batchTarget t
  | 0xf40 => (Map.get tl.lk.estore 0 (s.regN t 0xf38)).toNat % 2 ^ 32
  | 0xf44 => (Map.get tl.lk.estore 0 (s.regN t 0xf38)).toNat / 2 ^ 32 % 2 ^ 32
  | 0xf48 => (Map.get tl.lk.estore 0 (s.regN t 0xf38)).toNat / 2 ^ 64 % 2 ^ 32
  | 0xf4c => (Map.get tl.lk.estore 0 (s.regN t 0xf38)).toNat / 2 ^ 96 % 2 ^ 32
  | 0x808 => tl.dig.held + 16 * tl.dig.oldest + 65536 * tl.dig.lost
  | 0x80c => 0
  | 0xc00 => tl.tp.waitBar.getD 0 + 256 * b2n tl.tp.waitBar.isSome + 512 * b2n tl.tp.overflow +
      1024 * tl.tp.alarms.length
  | 0xc10 => tl.fw.ident + 256 * b2n tl.fw.verified + 512 * b2n tl.fw.actStaged + 1024 * b2n tl.fw.zeroLen
  | 0xc14 => tl.fw.count - tl.fw.have_.length
  | 0xc1c => min tl.tp.batches.length 255 + 256 * b2n (tl.tp.batches.all TileBatch.complete)
  | 0x1008 => s.arrayStatus t
  | 0x4004 =>
    let sel := s.regN t 0x4000
    let key := 64 * (sel % 8) + sel / 256 % 64
    if bitOf sel 16 then (s.stagedEntry t key).getD (Map.get tl.sw.wheel 0 key).toNat
    else (Map.get tl.sw.wheel 0 key).toNat
  | 0x4008 => (s.stagedKeys t).length
  | 0x5808 => s.regN t 0x5808 + 16 * b2n tl.win.isSome
  | 0x400c => s.switchStatus t
  | 0x4038 => let (c, u) := s.stallCause t; if c = 5 then c + 256 * u else c + 16 * u
  | 0x6000 => s.regN t 0x6000 + 512 * b2n tl.stop + 1024 * b2n tl.image.isSome +
      2048 * b2n (match s.basinOf t with | some b => (s.basin b).prepared | none => false)
  | 0x6010 => match s.basinOf t with | some b => s.horizon b % 2 ^ 24 | none => 0
  | 0x6c04 => let p := s.physOf t; pName p + 4096 * pField p
  | 0x7000 => s.regN t 0x7000 + 16 * b2n (s.powerHeld t)
  | 0x7018 => s.poundOf t
  | 0x7100 => s.skimK t
  | 0x7138 => (Config.leakCoef (s.physOf t)).toNat % 2001
  | 0x6018 => match tl.image with | some g => g.epoch % 2 ^ 32 | none => 0
  | _ =>
    if 0xc20 ≤ base ∧ base < 0xc40 then
      maskOf ((tl.tp.pend.filter (fun n => decide (n / 32 = (base - 0xc20) / 4))).map (· % 32))
    else if 0xc40 ≤ base ∧ base < 0xc68 then
      let w := (base - 0xc40) / 4
      maskOf ((List.range 32).filter (fun i =>
        decide (32 * w + i < tl.fw.count) && !(Map.get tl.fw.have_ false (32 * w + i))))
    else if base % 0x40 = 0x30 ∧ 0x1100 ≤ base ∧ base < 0x1200 then
      match tl.arr.gens.find? (fun p => decide (p.1 = (base - 0x1100) / 0x40)) with
      | some p => p.2.pos
      | none => 0
    else if 0x3000 ≤ base ∧ base < 0x4000 then
      (s.bankValue t ((base - 0x3000) / 256) (base % 256)).getD (s.regN t base)
    else if 0x5000 ≤ base ∧ base < 0x5800 ∧ base % 0x80 = 0x14 then
      let k := s.bank t ((base - 0x5000) / 0x80)
      k.gather.length + 256 * (k.gather.filter (fun e => decide (e.mask = 0xFF#8))).length
    else if 0x6020 ≤ base ∧ base < 0x6060 then (s.bank t ((base - 0x6020) / 4)).inbound.length
    else if 0x200 = base then 0
    else if 0x4200 ≤ base ∧ base < 0x4220 then
      let o := (base - 0x4200) / 4
      s.laneState t o + 16 * s.routeCode t o
    else s.regN t base

/-- A read of one word (R59): the low word of a 64-bit register latches its high word, which the next read of that high
word returns; each register has its own latch. -/
def State.regRead (s : State) (t off : Nat) : Word32 × State :=
  match findReg off with
  | none => (0, s)
  | some (r, 0) =>
    let v := s.regValue t off
    if r.bits = 64 then
      (BitVec.ofNat 32 v, s.updTile t (fun tl => { tl with til := { tl.til with
        latch := (off + 4, BitVec.ofNat 32 (v / 2 ^ 32)) :: tl.til.latch.filter (fun l => decide (l.1 ≠ off + 4)) } }))
    else (BitVec.ofNat 32 v, s)
  | some (_, _) =>
    match (s.tile t).til.latch.find? (fun l => decide (l.1 = off)) with
    | some (_, w) => (w, s.updTile t (fun tl => { tl with til := { tl.til with
        latch := tl.til.latch.filter (fun l => decide (l.1 ≠ off)) } }))
    | none => (BitVec.ofNat 32 (s.regValue t (off - 4) / 2 ^ 32), s)

/-! ### Staged registers (R51) -/

/-- The last value that batches satisfying `p` hold for a register. -/
def State.batchValue (s : State) (t off : Nat) (p : TileBatch → Bool) : Option Nat :=
  ((s.stagedWords t p).reverse.find? (fun w => decide (w.1 = off))).map (·.2)

/-- The value a register has after its lock: in a batch that satisfies `p`, staged by itself, else in force.
(DEDUCED, log 11) -/
def State.comingValue (s : State) (t off : Nat) (p : TileBatch → Bool) : Nat :=
  match s.batchValue t off p with
  | some v => v
  | none =>
    match Map.get (s.tile t).stagedRegs none off with
    | some v => v.toNat
    | none => s.regN t off

/-- The value a register will hold once everything staged has applied. (DEDUCED, log 11) -/
def State.staged (s : State) (t off : Nat) : Nat := s.comingValue t off (fun _ => true)

/-- The state with writes of a message or block that are judged but not yet held. (DEDUCED, log 11) -/
def State.withDraft (s : State) (t : Nat) (l : List (Nat × Nat)) : State :=
  s.updTile t (fun tl => { tl with tp := { tl.tp with batches := tl.tp.batches ++ [⟨0, 0, none, 0, l, false, none, []⟩] } })

/-- The tile has staged a place itself: it stands over the batch writes of that place received so far (R201). -/
def State.stageOver (s : State) (t key : Nat) : State :=
  s.updTile t (fun tl => { tl with tp := { tl.tp with batches := tl.tp.batches.map (fun k =>
    if k.writes.any (fun w => decide (w.1 = key)) then { k with covered := key :: k.covered } else k) } })

/-- Stages a register for the next lock. -/
def State.stageReg (s : State) (t off v : Nat) : State :=
  (s.updTile t (fun tl => { tl with stagedRegs := Map.put tl.stagedRegs none off (some (BitVec.ofNat 64 v)) })).stageOver t off

/-- Stages a wheel entry for the next lock (R189). -/
def State.stageEntry (s : State) (t key : Nat) (e : Word32) : State :=
  (s.updSw t (fun w => { w with staged := Map.put w.staged none key (some e) })).stageOver t (0x10000 + key)

/-- The lock at which a staged write would apply: the basin's next one. -/
def State.nextLock (s : State) (t : Nat) : Option Nat := (s.basinOf t).map s.nextLockNum

/-! ### Clamps -/

/-- Puts a value into a range. -/
def clampN (lo hi v : Nat) : Nat := if v < lo then lo else if hi < v then hi else v

/-- Two 4-bit fields, each at least 1. -/
def clampNibbles (v : Nat) : Nat := clampN 1 15 (v % 16) + 16 * clampN 1 15 (v / 16 % 16)

/-- A window register with base in [11:0] and length at bit `sh` that must end at row 2,559 (R175). -/
def clampWindow (v sh : Nat) : Nat :=
  let base := clampN 0 2559 (v % 4096)
  let len := v / 2 ^ sh % 4096
  base + 2 ^ sh * clampN 0 (2560 - base) len

/-- Whether two windows of bank-local rows overlap. -/
def windowsMeet (b1 l1 b2 l2 : Nat) : Bool :=
  decide (0 < l1) && decide (0 < l2) && decide (b1 < b2 + l2) && decide (b2 < b1 + l1)

/-- What a circuit register's word will hold in the next beat: the last write that waits, else the word in force. -/
def State.circComing (s : State) (t off : Nat) : Nat :=
  match (s.tile t).sw.circPend.reverse.find? (fun p => decide (p.1 = off)) with
  | some p => p.2.1.toNat
  | none => s.regN t off

/-- A ring whose base plus length exceeds 65,536 rows, its length cut to fit (R203). -/
def ringFit (cnt row : Nat) : Nat :=
  if row / 65536 + cnt / 65536 > 65536 then cnt % 65536 + 65536 * (65536 - row / 65536) else cnt

/-- Four slots of a column map with their columns at most 67 (R118). -/
def clampCols (v : Nat) : Nat :=
  (List.range 4).foldl (fun a m => a + (min (v / 2 ^ (8 * m) % 128) 67 + 128 * (v / 2 ^ (8 * m + 7) % 2)) * 2 ^ (8 * m)) 0

/-- The legal value of a write to a register of the tile, given the other registers as they will stand (R76, R118, R142,
R175, R203, R473); of an epoch store record, the fields' ranges (R56). (DEDUCED, log 11) -/
def State.legalValue (s : State) (t off v : Nat) (r : RegDesc) : Nat :=
  if r.base = 0x104 then min v (40960 - s.staged t (off - 4))
  else if r.base = 0x10c then min v (s.staged t 0x18 - s.staged t (off - 4))
  else if r.base = 0xf10 then clampN 1 (s.staged t 0xf0c - 1) v
  else if r.base = 0x1108 then min v (s.regN t (off - 4) - 1)
  else if r.base = 0x1118 then min v (s.regN t (off - 4) - 1)
  else if r.base = 0x1120 ∨ r.base = 0x1124 then clampNibbles v
  else if r.base = 0xf40 then
    let e := (Map.get (s.tile t).lk.estore 0 (s.regN t 0xf38)).toNat / 2 ^ 32 % 2 ^ 32
    match (off - 0xf40) / 4 with
    | 0 => max 1 v
    | 1 => max 256 v
    | 2 => if e = 0 then max 1 v else clampN 1 (e - 1) v
    | _ => v
  else if r.base = 0x3014 then
    let c := clampWindow v 16
    let b := (off - 0x3000) / 256
    if [0, 1, 2, 3].any (fun w =>
        let p := s.staged t (pailOff b (4 * w))
        windowsMeet (c % 4096) (c / 65536) (p % 4096) (p / 4096 % 4096)) then c % 4096 else c
  else if r.base = 0x5000 then
    let c := clampWindow v 12
    let b := (off - 0x5000) / 0x80
    let w := (off - 0x5000) % 0x80 / 4
    if (List.range w).any (fun u =>
        let p := s.staged t (pailOff b (4 * u))
        windowsMeet (c % 4096) (c / 4096) (p % 4096) (p / 4096 % 4096)) then c % 4096 else c
  else if r.base = 0x4100 then
    let base := s.circComing t (off + 4) / 65536
    let len := v / 65536
    if base + len > 65536 then v % 65536 + 65536 * (65536 - base) else v
  else if r.base = 0x6c08 then clampCols v
  else if r.base = 0x7104 then min (v % 16) 12 + v / 16 * 16
  else if r.base = 0x980 then (if v / 256 % 4 = 3 then v - 256 else v)
  else if r.base = 0x9a4 then min (v % 65536) 40959 + 65536 * min (v / 65536) 40959
  else clampN r.lo r.hi v

/-- The clamps that a write of `v` makes on registers whose ranges depend on the one written, as (register, value to come,
value applied): bounds beyond a base or a code length (R76), and pail windows that a lower-numbered one meets (R175).
(DEDUCED, log 11) -/
def State.sideClamps (s : State) (t off v : Nat) : List (Nat × Nat × Nat) :=
  let fit (o top : Nat) : List (Nat × Nat × Nat) :=
    let b := s.staged t o
    if top < b then [(o, b, top)] else []
  if [0x120, 0x140, 0x160].contains off then fit (off + 4) (40960 - v)
  else if [0x128, 0x148, 0x168].contains off then fit (off + 4) (s.staged t 0x18 - v)
  else if off = 0x18 then ([1, 2, 3].map (fun c => fit (ctxOff 0x10c c) (v - s.staged t (ctxOff 0x108 c)))).flatten
  else if 0x5000 ≤ off ∧ off < 0x5800 ∧ off % 0x80 < 0x10 then
    (([1, 2, 3].filter (fun u => decide (off % 0x80 / 4 < u))).map (fun u =>
      let o := off / 0x80 * 0x80 + 4 * u
      let p := s.staged t o
      if windowsMeet (v % 4096) (v / 4096) (p % 4096) (p / 4096 % 4096) then [(o, p, p % 4096)] else [])).flatten
  else []

/-! ### Writes -/

/-- Who writes a register: a task context of the tile, or the towpath (none). -/
abbrev Writer := Option Nat

/-- The clamp record's source of a writer (R304). -/
def Writer.src : Writer → Nat
  | none => 3
  | some _ => 4

/-- Whether a basin's lock is held on request for a cause (R54). -/
def State.heldFor (s : State) (b : Nat) (c : HoldCause) : Bool :=
  (s.basin b).holds.any (fun h => decide (h.1 = c) && decide (h.2 ≤ s.nextLockNum b)) &&
  s.allAtLock b

/-- Whether the epoch store may be written: before the basin's first lock, in a lock held for a remap or a restore, or
in a reset (R56). -/
def State.storeOpen (s : State) (t : Nat) : Bool :=
  s.boot.resets.any (fun r => decide (t ∈ r.tiles)) ||
  (match s.basinOf t with
   | some b => !(s.basin b).started || s.heldFor b .remap || decide (s.obj (0x2810 + b) 1 = 6)
   | none => true)

/-- Writes word `w` of a record of the epoch store (R56). -/
def State.estoreWrite (s : State) (t w v : Nat) : State :=
  let i := s.regN t 0xf38
  let old := (Map.get (s.tile t).lk.estore 0 i).toNat
  let new := old - old / 2 ^ (32 * w) % 2 ^ 32 * 2 ^ (32 * w) + v % 2 ^ 32 * 2 ^ (32 * w)
  s.updTile t (fun tl => { tl with lk := { tl.lk with
    estore := Map.put tl.lk.estore 0 i (BitVec.ofNat 128 new) } })

/-- Frees the `n` oldest records of the digest ring (R473). -/
def State.digestAck (s : State) (t n : Nat) : State :=
  s.updTile t (fun tl =>
    let k := min n tl.dig.held
    { tl with dig := { tl.dig with held := tl.dig.held - k, oldest := (tl.dig.oldest + k) % 8 } })

/-- HS_SEL is written: the lane is selected and the three counters clear (R468). -/
def State.hsSelect (s : State) (t v : Nat) : State :=
  ((((s.setRegN t 0x990 (v % 16)).setRegN t 0x994 0).setRegN t 0x998 0).setRegN t 0x99c 0).updSw t
    (fun w => { w with hsWait := 0 })

/-- A write to WHEEL_DATA stages the selected entry; a malformed one is refused (R184, R189). (DEDUCED, log 24) -/
def State.wheelWrite (s : State) (t v : Nat) : Nat × State :=
  if weMalformed v then (rspRefused, s)
  else
    let sel := s.regN t 0x4000
    (rspOK, s.stageEntry t (64 * (sel % 8) + sel / 256 % 64) (BitVec.ofNat 32 (weMask v)))

/-- A word of a circuit register is stored: its parity is good again, its context is noted, and its ring's length fits (R185,
R190, R203). -/
def State.circStore (s : State) (t off v ctx : Nat) : State :=
  let k := (off - 0x4100) / 8
  let s1 := (s.setRegN t off v).updSw t (fun w => { w with
    upset := w.upset.filter (fun x => decide (x ≠ 512 + k)),
    circCtx := if off % 8 = 4 then Map.put w.circCtx 1 k ctx else w.circCtx })
  if off % 8 = 4 then s1.setRegN t (circOff k) (ringFit (s1.regN t (circOff k)) v) else s1

/-- A write to a circuit register takes effect from the beat after it while the tile runs, else at once (R185); one of CIRC_ROW
may clamp its ring's length (R203).  `src` is the clamp record's source. (DEDUCED, log 27) -/
def State.circWrite (s : State) (t off v ctx src : Nat) : Nat × State :=
  let cnt := s.circComing t (off - 4)
  let cut := decide (off % 8 = 4) && decide (ringFit cnt v ≠ cnt)
  let s1 := if cut then s.clampTile t (off - 4) src cnt (ringFit cnt v) none else s
  (if cut then rspClamped else rspOK,
   if s.canIssue t && (s.basinOf t).any (fun b => (s.basin b).started) then
     s1.updSw t (fun w => { w with circPend := w.circPend ++ [(off, BitVec.ofNat 32 v, ctx)] })
   else s1.circStore t off v ctx)

/-- A write to ROW_WIN_CTL (R165): a write request first, else a read request. (DESIGN CHOICE, log 23) -/
def State.rowWinCtl (s : State) (t v : Nat) : State :=
  let s1 := s.setRegN t 0x5804 (v % 256)
  if bitOf v 8 then s1.rowWinWrite t (BitVec.ofNat 8 v) else if bitOf v 9 then s1.rowWinRead t else s1

/-- STOP_FORCE raises STOP in the tile's basin (R391). -/
def State.stopForce (s : State) (t v : Nat) : State :=
  if v % 2 = 1 then
    let s1 := s.setRegBit t 0x6000 8 true
    match s1.basinOf t with
    | some b => s1.raiseStop b t 0
    | none => s1
  else s

/-- Whether the repair registers of a tile may be written: in bring-up phases 2 to 5, in a lock held for a remap, or in a
reset (R385). -/
def State.repairOpen (s : State) (t : Nat) : Bool :=
  decide (2 ≤ s.obj 0x2E00 1) || s.boot.resets.any (fun r => decide (t ∈ r.tiles)) ||
  (match s.basinOf t with | some b => s.heldFor b .remap | none => false)

/-- Whether a unit's state may be moved (R85): its basin's lock is held for a remap; a unit of no running basin is moved
with the others while some basin is held so (R409). (DESIGN CHOICE, log 135) -/
def State.moveOpen (s : State) (t : Nat) : Bool :=
  match s.basinOf t with
  | some b => if (s.basin b).started then s.heldFor b .remap else (List.range 16).any (fun b => s.heldFor b .remap)
  | none => (List.range 16).any (fun b => s.heldFor b .remap)

/-- Whether a direction of UNLOAD_CTL names a lane that is retired, or absent: without a neighbour, or without a route inside
the shape (R85). (DESIGN CHOICE, log 135) -/
def State.badSide (s : State) (t d : Nat) : Bool :=
  (physNeighbour (s.unitPhys t) d).isNone ||
  [0, 1].any (fun l =>
    let v := s.regN t (0x4200 + 4 * (2 * d + l)) % 4
    decide (v = 2) || (decide (v = 3) && decide (t < 2304) && (laneEnd t (2 * d + l)).isSome))

/-- A write to UNLOAD_CTL starts the engines that its bits name; one that runs goes on (R85). (DESIGN CHOICE, log 135) -/
def State.unloadCtl (s : State) (t v : Nat) : Nat × State :=
  if s.moveOpen t && !(bitOf v 0 && s.badSide t (bitsOf v 3 2)) && !(bitOf v 1 && s.badSide t (bitsOf v 5 4)) then
    let s1 := s.setRegN t 0xe00 v
    let s2 := if bitOf v 0 && decide ((s.tile t).mover.out ≠ some (bitsOf v 3 2)) then s1.updTile t (fun tl => { tl with mover := { tl.mover with
        out := some (bitsOf v 3 2), clock := 0, sent := 0, sentSum := 0xFFFFFFFFFFFFFFFF } }) else s1
    let s3 := if bitOf v 1 && decide ((s.tile t).mover.inn ≠ some (bitsOf v 5 4)) then s2.updTile t (fun tl => { tl with mover := { tl.mover with
        inn := some (bitsOf v 5 4), landed := 0, gotSum := 0xFFFFFFFFFFFFFFFF, wait := [], rows := [] } }) else s2
    (0, if bitOf v 0 || bitOf v 1 then s3.setRegN t 0xe04 1 else s3)
  else (4, s)

/-- A stream register is written while beats run: the word stands after the beat's draws (R141, R142). -/
def State.streamWrite (s : State) (t off v : Nat) : State :=
  s.updTile t (fun tl => { tl with streamPend := tl.streamPend ++ [(off, BitVec.ofNat 32 v)] })

/-- Whether the column map may change now: in bring-up, or at a lock held for a remap (R111). -/
def State.colsOpen (s : State) (t : Nat) : Bool :=
  decide (2 ≤ s.obj 0x2E00 1) || (match s.basinOf t with | some b => s.heldFor b .remap | none => false)

/-- COL_MAP_SET is written: the map of the array follows it at once where R111 lets it change, else at the next hold for a
remap (R111, R117, R385). -/
def State.setColMap (s : State) (t v : Nat) : State :=
  let s1 := s.setRegN t 0x6c08 v
  if s.colsOpen t then s1.setRegN t 0x1038 v else s1

/-- The effect of a legal value on a register that acts at once; a plain register stores it. -/
def State.regAct (s : State) (t off v : Nat) (w : Writer) (r : RegDesc) : Nat × State :=
  if off = 0xe00 then if w.isNone then s.unloadCtl t v else (rspRefused, s)
  else if off = 0xf38 then
    if w.isNone && s.storeOpen t then (rspOK, s.setRegN t off v) else (rspRefused, s)
  else if r.base = 0xf40 then
    if w.isNone && s.storeOpen t then (rspOK, s.estoreWrite t ((off - 0xf40) / 4) v) else (rspRefused, s)
  else if off = 0x80c then (rspOK, s.digestAck t v)
  else if off = 0x990 then (rspOK, s.hsSelect t v)
  else if off = 0x2f00 then (rspOK, (s.setRegN t off v).trace t 6 0 [v])
  else if r.base = 0x3008 then s.sleepWrite t ((off - 0x3000) / 256) v w.src
  else if r.base = 0x3080 then s.remapWrite t ((off - 0x3000) / 256) ((off - 0x3080) % 256 / 4) v w.src (s.inBring t)
  else if r.base = 0x4100 ∨ r.base = 0x4104 then s.circWrite t off v (w.getD 1) w.src
  else if off = 0x5804 then (rspOK, s.rowWinCtl t v)
  else if off = 0x6014 then if w.isNone then (rspOK, s.stopForce t v) else (rspRefused, s)
  else if off = 0x7004 then (rspRefused, s)
  else if off = 0x7104 then if (s.basinOf t).isSome then (rspRefused, s) else (rspOK, s.setRegN t off v)
  else if 0x6c00 ≤ r.base ∧ r.base < 0x6c28 ∧ (w.isSome ∨ s.repairOpen t = false) then (rspRefused, s)
  else if r.base = 0x6c08 then
    let old := s.regN t 0x6c08
    (rspOK, s.setColMap t (if off = 0x6c08 then old / 2 ^ 32 * 2 ^ 32 + v else old % 2 ^ 32 + v * 2 ^ 32))
  else if 0x2100 ≤ off ∧ off < 0x2200 ∧ w.isNone ∧ s.canIssue t = true then (rspOK, s.streamWrite t off v)
  else (rspOK, s.setRegN t off v)

/-- A write of one word to the tile-local space by context 0, a job context that may write there, or the towpath: its
configuration status and the state (R59, R118, R219). -/
def State.regWrite (s : State) (t off v : Nat) (w : Writer) : Nat × State :=
  match findReg off with
  | none => (rspOK, s)
  | some (r, _) =>
    if r.acc = 0 then (3, s)
    else if 0x100 ≤ off ∧ off < 0x110 then (3, s)
    else if r.base = 0x3000 then s.ownerWrite t ((off - 0x3000) / 256) v w.src
    else if off = 0x4004 then s.wheelWrite t v
    else if r.base = 0x3008 ∨ r.base = 0x3080 then s.regAct t off v w r
    else
      let v0 := (v % 2 ^ r.bits) &&& (if off = 0xf4c then 0xFFFFFF1F else r.mask)
      let c := s.legalValue t off v0 r
      if r.acc = 2 then
        let s1 := if c = v0 then s else s.clampTile t off w.src v0 c (s.nextLock t)
        let side := s.sideClamps t off c
        let s2 := side.foldl (fun a k => (a.clampTile t k.1 w.src k.2.1 k.2.2 (s.nextLock t)).stageReg t k.1 k.2.2)
          (s1.stageReg t off c)
        (if c ≠ v0 || !side.isEmpty then rspClamped else rspOK, s2)
      else
        let (st, s2) := s.regAct t off c w r
        if c = v0 ∨ st = rspRefused then (st, s2)
        else (if st = rspOK then rspClamped else st, s2.clampTile t off w.src v0 c none)

/-- Whether a job context may write the offset (R59, R175, R203, R473). -/
def jobMayWrite (off : Nat) : Bool :=
  decide (0x1000 ≤ off) && decide (off < 0x6000) &&
  (match findReg off with
   | some (r, _) => !(decide (r.base = 0x3000) || decide (r.base = 0x3008) || decide (r.base = 0x3080) ||
       decide (r.base = 0x4000) || decide (r.base = 0x4004) || decide (0x5800 ≤ r.base && r.base < 0x5840))
   | none => true)

end Sys2Proof.Machine
end

