-- ==== Sys2Proof/Machine/TillerOps.lean ====
section
/-! DEFINITION. The tiller: bundle slots, the order of bundles, fetch, and register writes on their way (R60 to R77). -/

namespace Sys2Proof.Machine

/-- Changes the tiller of tile `t`. -/
def State.updTil (s : State) (t : Nat) (f : Tiller → Tiller) : State :=
  s.updTile t (fun tl => { tl with til := f tl.til })

/-! ### Slots (R60, R61) -/

/-- The slots of a bundle: low bit and width of control, vector, array, bank 0, bank 1 and mesh (R60). -/
def slotField : Nat → Nat × Nat
  | 0 => (224, 32)
  | 1 => (176, 48)
  | 2 => (136, 40)
  | 3 => (88, 48)
  | 4 => (40, 48)
  | _ => (8, 32)

/-- The bits of slot `n` of a bundle. -/
def slotWord (row : Row) (n : Nat) : Nat :=
  let (lo, w) := slotField n
  row.toNat / 2 ^ lo % 2 ^ w

/-- The opcode of a slot's bits. -/
def slotOpcode (n w : Nat) : Nat :=
  match n with
  | 0 => bitsOf w 31 26
  | 1 => bitsOf w 47 40
  | 2 => bitsOf w 39 35
  | 3 => bitsOf w 47 44
  | 4 => bitsOf w 47 44
  | _ => bitsOf w 31 28

/-- Whether an opcode of slot `n` is not reserved (R62, R64, R65, R68, R81). -/
def opcodeLegal (n op : Nat) : Bool :=
  match n with
  | 0 => decide (op ≤ 6) || (decide (8 ≤ op) && decide (op ≤ 0xB)) || (decide (0x10 ≤ op) && decide (op ≤ 0x16)) ||
      (decide (0x18 ≤ op) && decide (op ≤ 0x1D)) || decide (op = 0x20) || decide (op = 0x21)
  | 1 => decide (op ≤ 6) || decide (op = 8) || decide (op = 9) || (decide (0x10 ≤ op) && decide (op ≤ 0x1A)) ||
      (decide (0x30 ≤ op) && decide (op ≤ 0x34)) || (decide (0x40 ≤ op) && decide (op ≤ 0x43)) ||
      (decide (0x50 ≤ op) && decide (op ≤ 0x53)) || decide (op = 0x60) || decide (op = 0x61) ||
      (decide (0x70 ≤ op) && decide (op ≤ 0x7A)) || decide (op = 0x80)
  | 2 => decide (op ≤ 6)
  | 3 => decide (op ≤ 4)
  | 4 => decide (op ≤ 4)
  | _ => decide (op ≤ 3)

/-- Whether the tile runs a program: its basin has passed its first lock. -/
def State.runs (s : State) (t : Nat) : Bool :=
  match s.basinOf t with
  | some b => (s.basin b).started
  | none => false

/-- Whether the tile issues, in slot `n` of its current beat, the op whose fields are given as (high bit, low bit,
value).  A tile that runs a program issues what its bundle carries; a tile that runs none issues what it is sent.  Bank
op 1 follows bank op 0. (DESIGN CHOICE, log 4) -/
def State.issues (s : State) (t n : Nat) (fields : List (Nat × Nat × Nat)) : Bool :=
  let m := (s.tile t).til
  s.canIssue t && !(m.slots.contains n) &&
  (match m.cur with
   | some row =>
     decide (bitsOf row.toNat 7 6 = 1) &&
     fields.all (fun f => decide (bitsOf (slotWord row n) f.1 f.2.1 = f.2.2)) &&
     (decide (n ≠ 4) || m.slots.contains 3 || decide (slotOpcode 3 (slotWord row 3) = 0))
   | none => !s.runs t)

/-- Marks slot `n` as issued. -/
def State.takeSlot (s : State) (t n : Nat) : State := s.updTil t (fun m => { m with slots := m.slots ++ [n] })

/-- A command that is one slot's op: it acts where the tile issues that op, and changes nothing elsewhere. (DESIGN
CHOICE, log 2 and 4) -/
def State.slotOp (s : State) (t n : Nat) (fields : List (Nat × Nat × Nat)) (f : State → State) : State :=
  if s.issues t n fields then f (s.takeSlot t n) else s

/-- The fields of a control op (R62). -/
def ctrlFields (op : Nat) (rest : List (Nat × Nat × Nat)) : List (Nat × Nat × Nat) := (31, 26, op) :: rest

/-- The fields of a bank op (R65). -/
def bankFields (op : Nat) (o : BankOp) : List (Nat × Nat × Nat) :=
  [(47, 44, op), (43, 42, o.mode.val), (41, 26, o.row.toNat), (25, 21, o.sidx.val), (20, 16, o.route.val),
   (15, 11, o.reg.val), (10, 0, o.count.toNat)]

/-- The fields of an array op (R64). -/
def arrFields (op : Nat) (o : ArrOp) : List (Nat × Nat × Nat) :=
  [(39, 35, op), (34, 31, o.fmt.val), (30, 28, o.outFmt.val), (27, 25, o.rnd.val), (24, 13, o.count.toNat),
   (12, 8, o.vd.val), (7, 5, o.ring.val), (4, 3, o.gen.val), (2, 2, b2n o.acc)]

/-- The fields of a vector op (R80). -/
def vecFields (op : Nat) (v : VecOp) : List (Nat × Nat × Nat) :=
  [(47, 40, op), (39, 38, v.ty.val), (37, 33, v.vd.val), (32, 28, v.va.val), (27, 23, v.vb.val), (22, 18, v.vc.val),
   (17, 15, v.rnd.val), (14, 0, v.imm.toNat)]

/-- The fields of INJECT and LAND (R68). -/
def meshFields (op : Nat) (o : MeshOp) : List (Nat × Nat × Nat) :=
  [(31, 28, op), (27, 25, o.lane.val), (24, 23, o.mode.val), (22, 7, o.row.toNat), (6, 2, o.sidx.val)]

/-! ### Scalar results (R63) -/

/-- A control-slot result that is written in beat `beat`. -/
def State.writeS (s : State) (t : Nat) (beat reg : Nat) (v : Word32) : State :=
  s.updTil t (fun m => { m with swrites := m.swrites ++ [⟨beat, true, reg, v⟩] })

/-- The scalar writes of the beat that ends: a control-slot result prevails over a bank load of the same register
(R63). (DESIGN CHOICE, log 136) -/
def State.applySWrites (s : State) (t beat : Nat) : State :=
  let due := (s.tile t).til.swrites.filter (fun w => decide (w.beat ≤ beat))
  let s1 := s.updTil t (fun m => { m with swrites := m.swrites.filter (fun w => decide (beat < w.beat)) })
  let s2 := (due.filter (fun w => !w.ctrl)).foldl (fun a w => a.setSreg t w.reg w.val) s1
  (due.filter (fun w => w.ctrl)).foldl (fun a w => a.setSreg t w.reg w.val) s2

/-! ### Vector registers (R79, R82) -/

/-- The mask of a whole row. -/
def wholeRow : Row := BitVec.allOnes 256

/-- Quarter `n` of the numbering of R65. -/
def State.vquarter (s : State) (t n : Nat) : Row × Bool :=
  let tl := s.tile t
  ((Map.get tl.vregs 0 (n / 4)).extractLsb' (256 * (n % 4)) 256, Map.get tl.vpoison false n)

/-- Replaces the bits of quarter `n` that `mask` names; what is kept of a poisoned quarter keeps it poisoned (R137). -/
def State.setQuarter (s : State) (t n : Nat) (mask d : Row) (p : Bool) : State :=
  s.updTile t (fun tl =>
    let v := Map.get tl.vregs 0 (n / 4)
    let old : Row := v.extractLsb' (256 * (n % 4)) 256
    let v' := rowOfQuarters (fun q =>
      if q = n % 4 then (old &&& ~~~mask) ||| (d &&& mask) else v.extractLsb' (256 * q) 256)
    { tl with
      vregs := Map.put tl.vregs 0 (n / 4) v',
      vpoison := Map.put tl.vpoison false n (p || (decide (mask ≠ wholeRow) && Map.get tl.vpoison false n)) })
where
  /-- A vector register from its quarters. -/
  rowOfQuarters (f : Nat → Row) : VReg := (f 3 ++ f 2 ++ f 1 ++ f 0 : BitVec 1024)

/-- A vector quarter write that is made in beat `beat`. -/
def State.writeV (s : State) (t : Nat) (w : VWrite) : State :=
  s.updTile t (fun tl => { tl with vwrites := tl.vwrites ++ [w] })

/-- Whether write `a` prevails over write `b` of the same quarter and beat (R82). -/
def VWrite.beats (a b : VWrite) : Bool := decide (b.rank < a.rank) || (decide (a.rank = b.rank) && decide (b.order ≤ a.order))

/-- What the writes of a beat to one quarter add to VREG_COLLIDE: one where a lower-ranked write loses, and one for each
earlier vector result that a later one displaces (R82). -/
def collisions (ws : List VWrite) : Nat :=
  b2n (ws.any (fun w => ws.any (fun x => decide (w.rank < x.rank)))) +
  (ws.filter (fun w => ws.any (fun x => decide (x.rank = w.rank) && decide (w.order < x.order)))).length

/-- The vector writes of the beat that ends: per quarter the highest prevails, and the losers are counted (R82). -/
def State.applyVWrites (s : State) (t beat : Nat) : State :=
  let due := (s.tile t).vwrites.filter (fun w => decide (w.beat ≤ beat))
  let s1 := s.updTile t (fun tl => { tl with vwrites := tl.vwrites.filter (fun w => decide (beat < w.beat)) })
  let win := due.filter (fun w => due.all (fun x => decide (x.quarter ≠ w.quarter) || w.beats x))
  let s2 := win.foldl (fun a w => a.setQuarter t w.quarter w.mask w.val w.poison) s1
  let lost := ((due.map (·.quarter)).eraseDups.map (fun q => collisions (due.filter (fun w => decide (w.quarter = q))))).sum
  if lost = 0 then s2 else s2.bumpReg t 0x24 lost

/-! ### The order of bundles (R70 to R73) -/

/-- The address after `a` under the active loops, innermost first, and the loops that remain active (R71, R72). -/
def loopNext : List Loop → Nat → Nat × List Loop
  | [], a => (a + 1, [])
  | l :: rest, a =>
    if a = l.start + l.len then
      if 1 < l.left then (l.start + 1, { l with left := l.left - 1 } :: rest) else loopNext rest a
    else (a + 1, l :: rest)

/-- Context and address of the bundle of the next beat, and the tiller with its loops and pending target advanced. -/
def Tiller.advance (m : Tiller) : Nat × Nat × Tiller :=
  match m.redirect with
  | some r =>
    if r.slots = 0 then (r.ctx, r.addr, { m with redirect := none })
    else
      let (a, ls) := loopNext m.loops m.ipc
      (m.active, a, { m with loops := ls, redirect := some { r with slots := r.slots - 1 } })
  | none =>
    let (a, ls) := loopNext m.loops m.ipc
    (m.active, a, { m with loops := ls })

/-- The flat row of code-segment bundle `p` of a context (R69, R74). -/
def State.codeFlat (s : State) (t c p : Nat) : Nat := 38400 + (s.codeRange t c).1 + p

/-- A bundle of which every slot holds opcode 0. -/
def emptyBundle : Row := 0x40

/-- A bundle as the tiller reads it: from the firmware store in context 0, else from bank 15, its data presented in beat
`u`; where PROGRAM does not own bank 15 the fetch raises PORT_OVERLAP and reads nothing (R154).  Answers the row, whether it is poison, whether port E of bank 15 served the fetch, and
the state. (DESIGN CHOICE, log 127) -/
def State.readBundle (s : State) (t c p u : Nat) : Row × Bool × Bool × State :=
  if c = 0 then
    let h := (s.tile t).fw.activeHalf
    ((Map.get h 0 (2 * p + 1)) ++ (Map.get h 0 (2 * p)), false, false, s)
  else if p < (s.codeRange t c).2 then
    let flat := s.codeFlat t c p
    if (s.bank t 15).owner ≠ 1 then (emptyBundle, false, false, s.taskFault t 5)
    else
    let (d, bad, s1) := s.readRow t flat false (some u)
    (d, bad, true, s1.noteUse t 15 (localOf flat) 0 (s.bank t 15, s.rowWord t flat))
  else (0, false, false, s)

/-- A fetch whose bundle issues in beat `u`: while fewer than two bundles are held, the next one is read (R69, R71). -/
def State.fetchFor (s : State) (t u : Nat) : State :=
  let m := (s.tile t).til
  if m.fetched.length < 2 then
    let (d, bad, port, s1) := s.readBundle t m.fctx m.fpc u
    s1.updTil t (fun m => { m with fetched := m.fetched ++ [⟨m.fctx, m.fpc, d, bad⟩], fpc := m.fpc + 1, fetchNow := port })
  else s

/-- The fetch of a beat, two beats ahead (R69). -/
def State.fetch (s : State) (t : Nat) : State := s.fetchFor t ((s.tile t).til.beat + 2)

/-- Slots of a bundle whose opcode is reserved. -/
def reservedSlots (row : Row) : List Nat :=
  (List.range 6).filter (fun n => !opcodeLegal n (slotOpcode n (slotWord row n)))

/-- Slots of a bundle that carry an op and have not issued; slot 6 stands for a bundle of a bad format. -/
def Tiller.unissued (m : Tiller) : List Nat :=
  match m.cur with
  | none => []
  | some row =>
    if bitsOf row.toNat 7 6 = 1 then
      (List.range 6).filter (fun n => decide (slotOpcode n (slotWord row n) ≠ 0) && !(m.slots.contains n))
    else if m.slots.contains 6 then [] else [6]

/-- Whether the tile is held at its last bundle of the epoch, every op of which has issued (R46). -/
def Tiller.drained (m : Tiller) : Bool := m.endIssued && m.unissued.isEmpty

/-- The bundle read for address `p` of context `c` becomes the bundle of the beat that begins: it is suppressed beyond
the code bound (R74) or when its row is poison (R69), and reserved opcodes raise ILLEGAL_OP (R61). (DEDUCED, log 5) -/
def State.present (s : State) (t c p : Nat) (row : Row) (bad : Bool) : State :=
  let old := (s.tile t).til.active
  let s0 := s.updTil t (fun m => { m with ipc := p, active := c, cur := none })
  let s1 := if c = old then s0 else s0.setRegN t (ctxOff 0x114 c) 1
  if (s1.codeRange t c).2 ≤ p then s1.taskFault t 2
  else if bad then s1.poisonTaken t
  else
    let res := if bitsOf row.toNat 7 6 = 1 then reservedSlots row else []
    let s2 := s1.updTil t (fun m => { m with cur := some row, slots := res })
    res.foldl (fun a _ => a.taskFault t 3) s2

/-- PC trace: every `2^n` bundles that issue (R469). -/
def State.tracePc (s : State) (t : Nat) : State :=
  let m := (s.tile t).til
  if m.cur.isSome then
    let n := (s.tile t).dig.counter + 1
    if n % 2 ^ (bitsOf (s.regN t 0x9a0) 10 6) = 0 then
      (s.updTile t (fun tl => { tl with dig := { tl.dig with counter := 0 } })).trace t 1 (m.ipc % 65536) [m.active]
    else s.updTile t (fun tl => { tl with dig := { tl.dig with counter := n } })
  else s

/-- Whether the bundle in progress is the last of its epoch: EPOCH_END outside any body and delay slot (R70, R72, R73). -/
def Tiller.ends (m : Tiller) : Bool :=
  match m.cur with
  | some row => decide (bitsOf row.toNat 7 6 = 1) && decide (slotOpcode 0 (slotWord row 0) = 0xB) && decide (m.delay = 0) &&
      m.loops.isEmpty
  | none => false

/-- The fetch of a beat with a bundle: in the last beat of an epoch it is that of the bundle of beat 1, which the lock
beat's own fetch follows (R69, R73). (DESIGN CHOICE, log 124) -/
def State.fetchOn (s : State) (t : Nat) : State :=
  let m := (s.tile t).til
  (if m.ends then s.updTil t (fun m => { m with fetched := [], fctx := m.active, fpc := m.ipc + 1 }) else s).fetch t

/-- The pipeline is filled for beat 1 of an epoch whose bundles no earlier beat has read. (DESIGN CHOICE, log 124) -/
def State.prime (s : State) (t : Nat) : State :=
  let m := (s.tile t).til
  let (c, p, _) := m.advance
  let s1 := s.updTil t (fun m => { m with fetched := [], fctx := c, fpc := p })
  let s2 := if m.skip = 0 then (s1.fetchFor t m.beat).fetchFor t (m.beat + 1) else s1.fetchFor t (m.beat + 1)
  s2.updTil t (fun m => { m with fetchNow := false })

/-- The bundle of the beat that begins comes from the loop buffer, from the bundles held, or, where no fetch of it was
followed, from its row (R69, R71, R72). -/
def State.nextBundle (s : State) (t : Nat) : State :=
  let m := (s.tile t).til
  if 0 < m.skip then
    (s.updTil t (fun m => { m with
      skip := m.skip - 1, cur := none, redirect := m.redirect.map (fun r => { r with slots := r.slots - 1 }) })).fetch t
  else
    let (c, p, m1) := m.advance
    let s0 := s.updTil t (fun _ => if m1.loops.isEmpty then { m1 with loopBuf := [] } else m1)
    match (if m1.loops.isEmpty then none else Map.get m.loopBuf none p) with
    | some row => (s0.present t c p row false).tracePc t
    | none =>
      let (row, bad, s1) : Row × Bool × State :=
        match m.fetched with
        | e :: rest =>
          if e.ctx = c ∧ e.addr = p then (e.row, e.poison, s0.updTil t (fun m => { m with fetched := rest }))
          else
            let (d, b, _, a) := s0.readBundle t c p m.beat
            (d, b, a.updTil t (fun m => { m with fetched := [], fctx := c, fpc := p + 1 }))
        | [] =>
          let (d, b, _, a) := s0.readBundle t c p m.beat
          (d, b, a.updTil t (fun m => { m with fetched := [], fctx := c, fpc := p + 1 }))
      let s2 := if m1.loops.isEmpty || bad then s1
        else s1.updTil t (fun m => { m with loopBuf := Map.put m.loopBuf none p (some row) })
      ((s2.present t c p row bad).fetchOn t).tracePc t

/-! ### Flow ops (R70 to R73, R76) -/

/-- CTRL_FORM (R70, R72). -/
def State.ctrlForm (s : State) (t : Nat) : State := s.taskFault t 6

/-- A target taken after two delay slots: bundles held beyond the delay slots are dropped unless the loop buffer holds
the target (R70). -/
def State.jump (s : State) (t c p : Nat) : State :=
  s.updTil t (fun m =>
    let inBuf := !m.loops.isEmpty && decide (c = m.active) && (Map.get m.loopBuf none p).isSome
    let m1 := { m with redirect := some ⟨2, c, p⟩, delay := 3 }
    if inBuf then m1 else
      { m1 with fetched := m.fetched.filter (fun e => decide (e.addr = m.ipc + 1) || decide (e.addr = m.ipc + 2)),
                fctx := c, fpc := p })

/-- Two delay slots follow a branch that is not taken (R70). -/
def State.fallThrough (s : State) (t : Nat) : State := s.updTil t (fun m => { m with delay := 3 })

/-- Whether a branch at `a` to `p` stays inside the innermost active body with its delay slots (R72). -/
def Tiller.insideBody (m : Tiller) (p : Nat) : Bool :=
  match m.loops with
  | [] => true
  | l :: _ => decide (l.start + 1 ≤ p) && decide (p ≤ l.start + l.len) && decide (m.ipc + 2 ≤ l.start + l.len)

/-- The address of a target: offsets are signed and counted from the bundle that carries the op (R62). -/
def branchTarget (a : Nat) (off : BitVec 16) : Nat := (((a : Int) + off.toInt) % 2 ^ 32).toNat

/-- A branch, taken or not (R70). -/
def State.branch (s : State) (t : Nat) (off : BitVec 16) (taken : Bool) : State :=
  let m := (s.tile t).til
  let p := branchTarget m.ipc off
  if 0 < m.delay then s.ctrlForm t
  else if !taken then s.fallThrough t
  else if m.insideBody p then s.jump t m.active p
  else s.ctrlForm t

/-- CALL: pushes the address after the delay slots and branches (R62, R70). -/
def State.call (s : State) (t : Nat) (off : BitVec 16) : State :=
  let m := (s.tile t).til
  let p := branchTarget m.ipc off
  if 0 < m.delay || decide (8 ≤ m.rets.length) || !m.insideBody p then s.ctrlForm t
  else (s.updTil t (fun m => { m with rets := (m.ipc + 3) :: m.rets })).jump t m.active p

/-- RET: pops the return stack and branches to the popped address (R62, R70). -/
def State.ret (s : State) (t : Nat) : State :=
  let m := (s.tile t).til
  match m.rets with
  | [] => s.ctrlForm t
  | p :: rest =>
    if 0 < m.delay || !m.insideBody p then s.ctrlForm t
    else (s.updTil t (fun m => { m with rets := rest })).jump t m.active p

/-- LOOP: runs the next `len` bundles `n` times (R71, R72). -/
def State.loop (s : State) (t len n : Nat) : State :=
  let m := (s.tile t).til
  if 0 < m.delay || m.loops.any (fun l => decide (l.start + l.len < m.ipc + len)) || decide (4 ≤ m.loops.length) then
    s.ctrlForm t
  else if n = 0 then
    let (p, ls) := loopNext m.loops (m.ipc + len)
    (s.updTil t (fun m => { m with
      skip := 2, loops := ls, redirect := some ⟨2, m.active, p⟩, fetched := [], fctx := m.active,
      fpc := p })).zeroLen t
  else s.updTil t (fun m => { m with
    loopBuf := if m.loops.isEmpty then [] else m.loopBuf, loops := ⟨m.ipc, len, n⟩ :: m.loops })

/-- TASK: saves the PC after the delay slots and switches context (R76). -/
def State.task (s : State) (t c : Nat) : State :=
  let m := (s.tile t).til
  if 0 < m.delay || !m.loops.isEmpty then s.ctrlForm t
  else
    let s1 := s.setRegN t (ctxOff 0x110 m.active) ((m.ipc + 3) % 65536)
    if c = m.active then s1.jump t c (m.ipc + 3)
    else
      let s2 := if s.regN t (ctxOff 0x114 m.active) = 3 then s1 else s1.setRegN t (ctxOff 0x114 m.active) 2
      s2.jump t c (s.regN t (ctxOff 0x110 c))

/-- EPOCH_END: this bundle is the tile's last of the epoch (R73). -/
def State.epochEnd (s : State) (t : Nat) : State :=
  let m := (s.tile t).til
  if 0 < m.delay || !m.loops.isEmpty then s.ctrlForm t
  else s.updTil t (fun m => { m with endIssued := true })

end Sys2Proof.Machine
end

