-- ==== Sys2Proof/Machine/BankStreams.lean ====
section
/-! DEFINITION. Bank ops as streams through port E (R65 to R67, R74, R75, R106, R107, R154 to R161). -/

namespace Sys2Proof.Machine

/-! ### Address generators (R106, R107) -/

/-- The offset of register `i` of generator `g` (R118). -/
def genOff (g i : Nat) : Nat := 0x1100 + 0x40 * g + 4 * i

/-- The row of generator position `i`, sub-beat `q`, from latched registers; none is PAD (R107). -/
def genRow (r : List Nat) (i q : Nat) : Option Nat :=
  let f (k : Nat) : Int := (r.getD k 0 : Nat)
  let outW := if f 5 = 0 then 1 else f 5
  let p : Int := f 7 * f 5 + f 6 + i
  let oy := p / outW
  let ox := p % outW
  let st := r.getD 8 0
  let dil := r.getD 9 0
  let pad := r.getD 10 0
  let kp := r.getD 11 0
  let iy : Int := oy * (bitsOf st 7 4 : Nat) + (bitsOf kp 7 4 : Nat) * (bitsOf dil 7 4 : Nat) - (bitsOf pad 7 4 : Nat)
  let ix : Int := ox * (bitsOf st 3 0 : Nat) + (bitsOf kp 3 0 : Nat) * (bitsOf dil 3 0 : Nat) - (bitsOf pad 3 0 : Nat)
  if iy < 0 ∨ f 4 ≤ iy ∨ ix < 0 ∨ f 3 ≤ ix then none
  else some ((f 0 + (iy * f 3 + ix) * f 1 + f 2 + q) % 2 ^ 32).toNat

/-- The generator `g` of tile `t`, if it has been started. -/
def State.gen (s : State) (t g : Nat) : Option GenState :=
  ((s.tile t).arr.gens.find? (fun p => decide (p.1 = g))).map (·.2)

/-- Changes the array of tile `t`. -/
def State.updArr (s : State) (t : Nat) (f : ArrayUnit → ArrayUnit) : State :=
  s.updTile t (fun tl => { tl with arr := f tl.arr })

/-- Whether the bundle in progress carries a 16-bit STREAM_CONV that names generator `g` (R106). -/
def Tiller.quadConv (m : Tiller) (g : Nat) : Bool :=
  match m.cur with
  | some row =>
    let w := slotWord row 2
    decide (slotOpcode 2 w = 5) && decide (bitsOf w 4 3 = g) && (decide (bitsOf w 34 31 = 6) || decide (bitsOf w 34 31 = 7))
  | none => false

/-- Restarts generator `g` in the beat in progress and latches its registers; a 16-bit STREAM_CONV of the same bundle
that names it puts it in quad mode (R106). -/
def State.restartGen (s : State) (t g : Nat) : State :=
  let now := (s.tile t).til.beat
  let quad := (s.tile t).til.quadConv g || (s.tile t).arr.streams.any (fun m =>
    decide (m.beat = now) && decide (m.kind = 2) && decide (m.gen = g) && (decide (m.fmt = 6) || decide (m.fmt = 7)))
  let regs := (List.range 12).map (fun i => s.regN t (genOff g i))
  s.updArr t (fun a => { a with gens := Map.ins a.gens g ⟨regs, 0, quad, now⟩ })

/-- Position and sub-beat of a generator in beat `u`. -/
def GenState.at_ (g : GenState) (u : Nat) : Nat × Nat :=
  if g.quad then ((u - g.start) / 4, (u - g.start) % 4) else (u - g.start, 0)

/-- The row that generator `g` gives in the beat in progress. -/
def State.genNow (s : State) (t g : Nat) : Option Nat :=
  match s.gen t g with
  | some v => let (i, q) := v.at_ (s.tile t).til.beat; genRow v.regs i q
  | none => none

/-- Notes the position a generator stands at (GEN_POS). (DESIGN CHOICE, log 141) -/
def State.noteGen (s : State) (t g : Nat) : State :=
  match s.gen t g with
  | some v =>
    let p := (v.at_ (s.tile t).til.beat).1
    s.updArr t (fun a => { a with gens := Map.ins a.gens g { v with pos := p } })
  | none => s

/-! ### Ports -/

/-- The owner class of a task context's bank ops (R154). -/
def ctxOwner (c : Nat) : Nat := if c = 0 then 2 else 1

/-- The banks of the flat rows `lo` to `lo + n − 1`. -/
def banksOf (lo n : Nat) : List Nat :=
  (List.range 16).filter (fun b => decide (lo / 2560 ≤ b) && decide (b ≤ (lo + n - 1) / 2560))

/-- Replaces the stream of a slot issued in a beat. -/
def setStream (l : List BankStream) (m : BankStream) : List BankStream :=
  l.map (fun x => if x.slot = m.slot ∧ x.beat = m.beat then m else x)

/-- Stores what a stream has become. -/
def State.putStream (s : State) (t : Nat) (m : BankStream) : State :=
  s.updTil t (fun v => { v with streams := setStream v.streams m })

/-- A conflict of one access: PORT_OVERLAP, once for the op (R66). -/
def State.loseAccess (s : State) (t : Nat) (m : BankStream) : State :=
  (if m.overlap then s else s.taskFault t 5).putStream t { m with next := m.next + 1, overlap := true, blocked := false }

/-- Poison that a scalar load takes: recorded in the fault summary when the data is presented (R147). -/
def State.scalarPoison (s : State) (t beat : Nat) : State :=
  s.updTile t (fun tl => { tl with dues := tl.dues ++ [⟨beat, 3, 0, 0, 0⟩] })

/-- Delivers a row that a bank op read in beat `u` (R65). -/
def State.deliver (s : State) (t : Nat) (m : BankStream) (u : Nat) (d : Row) (p : Bool) : State :=
  let rank := m.slot
  if m.route = 1 ∨ m.route = 2 then
    s.updArr t (fun a => { a with feed := a.feed ++ [⟨u + 2, m.slot - 3, m.route == 2, d, p⟩] })
  else if 4 ≤ m.route ∧ m.route ≤ 7 then
    s.writeV t ⟨u + 2, rank, 0, (4 * m.reg + (m.route - 4) + m.next) % 128, wholeRow, d, p⟩
  else if m.route = 8 then
    let s1 := s.updTil t (fun v => { v with
      swrites := v.swrites ++ [⟨u + 2, false, m.reg, if p then 0 else d.setWidth 32⟩] })
    if p then s1.scalarPoison t (u + 2) else s1
  else s

/-- The source of a WRITE or ALIAS: data, poison mark, and the words it affects (R65, R157). -/
def State.bankSource (s : State) (t : Nat) (m : BankStream) : Row × Bool × BitVec 8 :=
  if m.route = 0x14 then ((s.sreg t m.reg).setWidth 256, false, 1)
  else
    let (d, p) := s.vquarter t ((4 * m.reg + (m.route - 0x10) + m.next) % 128)
    (d, p, 0xFF)

/-- What SWAP returns: the old word 0 to S(register), or the old row to the quarter its source came from (R157). -/
def State.swapReturn (s : State) (t : Nat) (m : BankStream) (u : Nat) (d : Row) (p : Bool) : State :=
  if m.route = 0x14 then
    let s1 := s.updTil t (fun v => { v with
      swrites := v.swrites ++ [⟨u + 2, false, m.reg, if p then 0 else d.setWidth 32⟩] })
    if p then s1.scalarPoison t (u + 2) else s1
  else s.writeV t ⟨u + 2, m.slot, 0, (4 * m.reg + (m.route - 0x10) + m.next) % 128, wholeRow, d, p⟩

/-- Marks a stream as having made its access. -/
def State.advanceStream (s : State) (t : Nat) (m : BankStream) : State :=
  s.putStream t { m with next := m.next + 1, blocked := false, counted := false }

/-- A stream waits on the pail row at `flat` (R160); it is counted once it holds the tile. -/
def State.blockStream (s : State) (t flat : Nat) (m : BankStream) : State :=
  s.putStream t { m with blocked := true, flat := flat }

/-- One row of a stream, in the beat in progress, once its port is free (R65, R75, R147, R156 to R161). (DEDUCED, log
6 and 25) -/
def State.streamRow (s : State) (t : Nat) (m : BankStream) (flat : Nat) : State :=
  let b := bankOf flat
  let loc := localOf flat
  let u := (s.tile t).til.beat
  let k := s.bank t b
  let old := (k, s.rowWord t flat)
  if m.op = 1 then
    if s.inPail t b loc then
      if Map.get k.full false loc then
        let (d, p, s1) := s.readRow t flat false (some (u + 2))
        ((((s1.noteUse t b loc 0 old).setTag t b loc false).recv t 1).deliver t m u d p).advanceStream t m
      else s.blockStream t flat m
    else
      let (d, p, s1) := s.readRow t flat false (some (u + 2))
      ((s1.noteUse t b loc 0 old).deliver t m u d p).advanceStream t m
  else if m.ctx ≠ 0 && s.inCode t flat then (s.taskFault t 7).advanceStream t m
  else if m.op = 3 then
    let mode := s.regN t (bankOff b 0x10)
    if mode = 0 then (s.taskFault t 3).advanceStream t m
    else
      let (src, sp, mask) := s.bankSource t m
      let (d, p, s1) := s.aliasRow t flat src sp mask 0 false
      let s2 := s1.noteUse t b loc 2 old
      (if mode = 5 then s2.swapReturn t m u d p else s2).advanceStream t m
  else
    let (d, p) : Row × Bool := if m.op = 4 then (0, false) else ((s.bankSource t m).1, (s.bankSource t m).2.1)
    if s.inPail t b loc then
      if Map.get k.full false loc then s.blockStream t flat m
      else (((s.writeRow t flat d p 0).setTag t b loc true).noteUse t b loc 1 old).advanceStream t m
    else ((s.writeRow t flat d p 0).noteUse t b loc 1 old).advanceStream t m

/-- An access that the address parity of its bank suppresses (R388): BANK_UE with detail bit [8]; a read delivers
poison. -/
def State.parityLost (s : State) (t : Nat) (m : BankStream) (b : Nat) : State :=
  let u := (s.tile t).til.beat
  let s1 := s.tileError t 3 5 (256 + b) 3
  (if m.op = 1 then s1.deliver t m u 0 true else s1).advanceStream t m

/-- A stream's access in the beat in progress: PAD, bounds, the ports that earlier ops and fetch hold, and ownership
(R65, R66, R69, R74, R154). -/
def State.streamBeat (s : State) (t : Nat) (m : BankStream) (earlier : List BankStream) : State :=
  let v := (s.tile t).til
  let (base, bound) := s.dataRange t m.ctx
  let s0 := if m.mode = 2 then s.noteGen t m.gen else s
  match (if m.mode = 2 then s.genNow t m.gen else some ((m.row + m.next) % 2 ^ 32)) with
  | none => s0.advanceStream t m
  | some r =>
    if m.stopped then s0.advanceStream t m
    else if bound ≤ r then (s0.taskFault t 1).advanceStream t { m with stopped := true }
    else
      let flat := base + r
      let b := bankOf flat
      let gen := decide (m.mode = 2)
      let clash := (gen && earlier.any (fun e => e.mode != 2 && decide (b ∈ e.held))) ||
        (if gen then decide (b ∈ v.gclaims) && !m.blocked else m.held.any (fun h => decide (h ∈ v.gclaims)))
      let s1 := if gen && !m.blocked then s0.updTil t (fun w => { w with gclaims := w.gclaims ++ [b] }) else s0
      if clash || (decide (b = 15) && v.fetchNow) then s1.loseAccess t m
      else if (s1.bank t b).owner ≠ ctxOwner m.ctx then s1.loseAccess t m
      else if v.badBank = some b then s1.parityLost t m b
      else s1.streamRow t (if gen then { m with held := [b] } else m) flat

/-- Every stream makes its access of the beat that begins, in the order of issue. (DEDUCED, log 12) -/
def State.streamsBeat (s : State) (t : Nat) : State :=
  let all := (s.tile t).til.streams.filter (fun m => decide (m.next < m.count))
  let s0 := s.updTil t (fun v => { v with streams := all, gclaims := [] })
  (List.range all.length).foldl (fun a i =>
    match all[i]? with
    | some m => a.streamBeat t m (all.take i)
    | none => a) s0

/-- Streams that a pail blocks in a bank try again (R160). -/
def State.retryStreams (s : State) (t b : Nat) : State :=
  (s.tile t).til.streams.foldl (fun a m =>
    if m.blocked then
      let (base, _) := a.dataRange t m.ctx
      match (if m.mode = 2 then a.genNow t m.gen else some ((m.row + m.next) % 2 ^ 32)) with
      | some r => if bankOf (base + r) = b then a.streamRow t m (base + r) else a
      | none => a
    else a) s

/-- Whether an op may use a route (R65). -/
def routeLegal (op route : Nat) : Bool :=
  match op with
  | 1 => decide (route ≤ 2) || (decide (4 ≤ route) && decide (route ≤ 8))
  | 2 => decide (0x10 ≤ route) && decide (route ≤ 0x13)
  | 3 => decide (0x10 ≤ route) && decide (route ≤ 0x14)
  | _ => true

/-- Whether a bank op is not suppressed at once: its mode and route are legal and its count is one it may have (R65, R67). -/
def bankStarts (op mode route count : Nat) : Bool :=
  decide (mode ≠ 3) && routeLegal op route && decide (count ≠ 0) && !(decide (op = 1) && decide (route = 8) && decide (count ≠ 1))

/-- The generators that the bank ops of the beat's bundle name restart before any stream makes its access of the beat
(R106). -/
def State.restartGens (s : State) (t : Nat) : State :=
  match (s.tile t).til.cur with
  | none => s
  | some row =>
    if bitsOf row.toNat 7 6 = 1 then
      [3, 4].foldl (fun a n =>
        let w := slotWord row n
        let op := slotOpcode n w
        if 1 ≤ op ∧ op ≤ 4 ∧ bitsOf w 43 42 = 2 ∧ bankStarts op 2 (bitsOf w 20 16) (bitsOf w 10 0) = true then
          a.restartGen t (bitsOf w 41 26 % 4)
        else a) s
    else s

/-- A bank op issues (R65 to R67, R74): `slot` 3 is bank op 0, 4 is bank op 1. (DEDUCED, log 17 and 137) -/
def State.bankOp (s : State) (t slot op : Nat) (o : BankOp) : State :=
  let v := (s.tile t).til
  let c := v.active
  let count := o.count.toNat
  let (base, bound) := s.dataRange t c
  if o.mode.val = 3 || !routeLegal op o.route.val then s.taskFault t 3
  else if count = 0 then s.zeroLen t
  else if !bankStarts op o.mode.val o.route.val count then s.taskFault t 3
  else
    let row := if o.mode.val = 1 then (o.row.toNat + (s.sreg t o.sidx.val).toNat) % 2 ^ 32 else o.row.toNat
    let m : BankStream := ⟨slot, v.beat, op, o.mode.val, row, o.route.val, o.reg.val, count, 0, c, row % 4, [], false,
      false, false, false, 0⟩
    if o.mode.val = 2 then
      let s1 := (s.restartGen t (row % 4)).updTil t (fun w => { w with streams := w.streams ++ [m] })
      s1.streamBeat t m v.streams
    else if bound < row + count then s.taskFault t 1
    else
      let held := banksOf (base + row) count
      if v.streams.any (fun e => e.mode != 2 && e.held.any (fun h => decide (h ∈ held))) then s.taskFault t 5
      else if held.any (fun b => decide ((s.bank t b).owner ≠ ctxOwner c)) then s.taskFault t 5
      else if op = 3 && held.any (fun b => decide (s.regN t (bankOff b 0x10) = 0)) then s.taskFault t 3
      else
        let m1 := { m with held := held }
        (s.updTil t (fun w => { w with streams := w.streams ++ [m1] })).streamBeat t m1 v.streams

end Sys2Proof.Machine
end

