-- ==== Sys2Proof/Machine/ArrayOps.lean ====
section
/-! DEFINITION. The matrix array: formats, stationary sets, acceptance of input rows, accumulators, rounding and the
checksum column (R89 to R133). -/

namespace Sys2Proof.Machine

/-! ### Formats (R119, R92, R96) -/

/-- Whether a format code may be used in the array (R119). -/
def arrFmt (f : Nat) : Bool := decide (f ≤ 3) || decide (f = 6) || decide (f = 7) || (decide (8 ≤ f) && decide (f ≤ 0xD))

/-- Pairing group (R93): 0 float 8/6, 1 integer 8, 2 float 4, 3 float 16. -/
def fmtGroup (f : Nat) : Nat :=
  match f with
  | 2 => 1
  | 0xA => 1
  | 3 => 2
  | 0xD => 2
  | 6 => 3
  | 7 => 3
  | _ => 0

/-- The value of one element, before a shared scale (R120, R121). -/
def elemValue (f bits : Nat) : FNum :=
  match f with
  | 0 => decodeF fmtE4M3 bits
  | 1 => decodeF fmtE5M2 bits
  | 2 => ofFixed (signed 8 bits) 0
  | 3 => decodeF fmtE2M1 bits
  | 4 => decodeF fmtE3M2 bits
  | 5 => decodeF fmtE2M3 bits
  | 6 => decodeF fmtBF16 bits
  | 7 => decodeF fmtFP16 bits
  | 8 => decodeF fmtE4M3 bits
  | 9 => decodeF fmtE5M2 bits
  | 0xA => ofFixed (signed 8 bits) (-6)
  | 0xB => decodeF fmtE3M2 bits
  | 0xC => decodeF fmtE2M3 bits
  | _ => decodeF fmtE2M1 bits

/-- Element `e` of width `w` of a row. -/
def rowElem (d : Row) (w e : Nat) : Nat := d.toNat / 2 ^ (w * e) % 2 ^ w

/-- Byte `e` of a row. -/
def rowByte (d : Row) (e : Nat) : Nat := d.toNat / 2 ^ (8 * e) % 256

/-- Whether the array accepts an E8M0 scale code (R126). -/
def scaleOk (c : Nat) : Bool := (decide (0x5F ≤ c) && decide (c ≤ 0x8F)) || decide (c = 0xFF)

/-- A value times its shared scale (R121). -/
def scaled (v : FNum) (c : Nat) : FNum :=
  if c = 0xFF then .nan
  else match v with
    | .fin n m e => .fin n m (e + c - 127)
    | x => x

/-- Load rows of a set (R96). -/
def setLen (f : Nat) : Nat :=
  if f = 6 ∨ f = 7 then 256 else if f = 0xD then 136 else if isMx f then 132 else 128

/-- Scale blocks per column of an MX set (R96). -/
def setBlocks (f : Nat) : Nat := if f = 0xD then 4 else 2

/-- The scale code of column `c` and K block `b` of a set (R96). -/
def StatSet.scaleCode (z : StatSet) (c b : Nat) : Nat :=
  let i := setBlocks z.fmt * c + b
  rowByte (Map.get z.rows 0 (128 + i / 32)) (i % 32)

/-- The stationary value `v[k][c]`, its shared scale applied (R96). -/
def StatSet.value (z : StatSet) (k c : Nat) : FNum :=
  let w := fmtWidth z.fmt
  let (j, e) : Nat × Nat :=
    if w = 16 then (if z.colMajor then (4 * c + k / 16, k % 16) else (4 * k + c / 16, c % 16))
    else if w = 4 then
      (if z.colMajor then (2 * c + k / 64, k % 64) else (2 * (k / 2) + c / 32, 2 * (c % 32) + k % 2))
    else (if z.colMajor then (2 * c + k / 32, k % 32) else (2 * k + c / 32, c % 32))
  let v := elemValue z.fmt (rowElem (Map.get z.rows 0 j) w e)
  if isMx z.fmt then scaled v (z.scaleCode c (k / 32)) else v

/-- Whether a set of `width` presented columns holds a scale out of the array range (R126). -/
def StatSet.badScale (z : StatSet) (width : Nat) : Bool :=
  isMx z.fmt && (List.range width).any (fun c =>
    (List.range (setBlocks z.fmt)).any (fun b => !scaleOk (z.scaleCode c b)))

/-- The presented width of the tile (R112). -/
def State.width (s : State) (t : Nat) : Nat := s.regN t 0x1004

/-- A finite part of a value: NaN and infinities contribute nothing (R124). -/
def finitePart : FNum → FNum
  | .fin n m e => .fin n m e
  | _ => .fin false 0 0

/-- A product of R124: special if either factor is. -/
def product (x v : FNum) : FNum := (mulF x v).1

/-- The checksum column's stationary value: the sum of the finite values of cell row `k` (R113, R124). -/
def StatSet.checkValue (z : StatSet) (k width : Nat) : FNum :=
  (List.range width).foldl (fun a c => (addF 0 a (finitePart (z.value k c))).1) (.fin false 0 0)

/-! ### Accumulators (R124 to R129) -/

/-- An empty column. -/
def ColAcc.zero : ColAcc := ⟨0, 0, true, false, 0, 0⟩

/-- An empty entry. -/
def AccEntry.zero (width : Nat) : AccEntry := ⟨0, List.replicate width ColAcc.zero, 0, 0, 0⟩

/-- The special state after one product (R124): 0 none, 1 +∞, 2 −∞, 3 NaN. -/
def specialStep (st : Nat) (p : FNum) : Nat :=
  match p with
  | .fin _ _ _ => st
  | .nan => 3
  | .inf n =>
    let k := if n then 2 else 1
    if st = 0 ∨ st = k then k else 3

/-- The modulus of R114. (DEDUCED, log 16) -/
def residueMod : Int := 2 ^ 61 - 1

/-- The residue of a finite value `m × 2^q`: `m × 2^(q mod 61)` modulo M (R114). (DEDUCED, log 16) -/
def residue (p : FNum) : Int :=
  match p with
  | .fin n m e =>
    let v : Int := (m : Int) * (2 : Int) ^ (e % 61).toNat
    (if n then -v else v) % residueMod
  | _ => 0

/-- The exponent of a non-zero finite product. (DEDUCED, log 16) -/
def exOf (m : Nat) (e : Int) : Int := (Nat.log2 m : Int) + e

/-- A column of a fixed-mode entry after one input row (R125). -/
def ColAcc.fixedStep (c : ColAcc) (ps : List FNum) : ColAcc :=
  ps.foldl (fun a p =>
    match p with
    | .fin n m e => { a with v := a.v + onGrid n m e (-96), empty := a.empty && decide (m = 0) }
    | x => { a with special := specialStep a.special x }) c

/-- `floor(±m × 2^e / 2^g)` and whether it discards bits. -/
def floorGrid (n : Bool) (m : Nat) (e g : Int) : Int × Bool :=
  if g ≤ e then (onGrid n m e g, false)
  else
    let d : Int := (2 : Int) ^ (g - e).toNat
    let x : Int := if n then -(m : Int) else m
    (x / d, decide (x % d ≠ 0))

/-- A column of a window-mode entry after one input row (R127). -/
def ColAcc.windowStep (c : ColAcc) (ps : List FNum) : ColAcc :=
  let exs := ps.filterMap (fun p => match p with | .fin _ m e => if m = 0 then none else some (exOf m e) | _ => none)
  let c1 : ColAcc := match exs with
    | [] => c
    | x :: rest =>
      let aRow := rest.foldl (fun a b => if a < b then b else a) x
      if c.empty then { c with anchor := aRow, empty := false }
      else if c.anchor < aRow then
        let d : Int := (2 : Int) ^ (aRow - c.anchor).toNat
        { c with anchor := aRow, v := c.v / d, inexact := c.inexact || decide (c.v % d ≠ 0) }
      else c
  ps.foldl (fun a p =>
    match p with
    | .fin n m e =>
      if m = 0 then a
      else
        let (q, lost) := floorGrid n m e (c1.anchor - 127)
        { a with v := a.v + q, inexact := a.inexact || lost, res := ((a.res + residue p) % residueMod).toNat }
    | x => { a with special := specialStep a.special x }) c1

/-- Whether a column has left its range (R125, R127, R129). -/
def ColAcc.overflowed (c : ColAcc) (mode : Nat) : Bool :=
  let lim : Int := if mode = 1 then 2 ^ 191 else 2 ^ 159
  decide (c.v < -lim) || decide (lim ≤ c.v)

/-- The value that is rounded (R124, R130): stochastic rounding ignores ε. -/
def ColAcc.value (c : ColAcc) (mode rnd : Nat) : FNum :=
  match c.special with
  | 1 => .inf false
  | 2 => .inf true
  | 3 => .nan
  | _ =>
    if mode = 1 then ofFixed c.v (-96)
    else if c.inexact && decide (rnd ≠ 5) then withEpsilon c.v (c.anchor - 127)
    else ofFixed c.v (c.anchor - 127)

/-! ### Output formats (R122) -/

/-- Width of a result. -/
def outWidth (o : Nat) : Nat :=
  match o with
  | 0 => 32
  | 1 => 16
  | 2 => 16
  | 3 => 8
  | 4 => 8
  | 5 => 32
  | _ => 8

/-- Rounds a value into an output format (R122, R130, R133). -/
def outRound (o mode : Nat) (e5inf : Bool) (v : FNum) (r : Nat) : Rounded :=
  match o with
  | 0 => roundTo fmtFP32 mode e5inf v 16 r
  | 1 => roundTo fmtBF16 mode e5inf v 16 r
  | 2 => roundTo fmtFP16 mode e5inf v 16 r
  | 3 => roundTo fmtE4M3 mode e5inf v 16 r
  | 4 => roundTo fmtE5M2 mode e5inf v 16 r
  | 5 => roundInt 32 mode v 16 r
  | _ => roundInt 8 mode v 16 r

/-- The events of a rounding are recorded in NUM_STATUS and OUT_SAT_COUNT (R133, R142). (DEDUCED, log 19) -/
def State.noteRounded (s : State) (t : Nat) (r : Rounded) : State :=
  let s1 := if r.sat then (s.setRegBit t 0x2004 2 true).bumpReg t 0x2018 1 else s
  let s2 := if r.under then s1.setRegBit t 0x2004 3 true else s1
  let s3 := if r.nanOut then s2.setRegBit t 0x2004 4 true else s2
  if r.nanLost then s3.setRegBit t 0x2004 5 true else s3

/-! ### Draws (R132, R141) -/

/-- The 128-bit counter of a stream register. -/
def State.streamCtr (s : State) (t k : Nat) : Nat :=
  (List.range 4).foldl (fun a w => a + s.regN t (0x2100 + 0x20 * k + 4 * w) * 2 ^ (32 * w)) 0

/-- The key of a stream register. -/
def State.streamKey (s : State) (t k : Nat) : Nat :=
  s.regN t (0x2110 + 0x20 * k) + s.regN t (0x2114 + 0x20 * k) * 2 ^ 32

/-- Whether the array draws from stream register `k` in the beat in progress. -/
def State.arrayDraws (s : State) (t k : Nat) : Bool :=
  let tl := s.tile t
  decide (tl.arrDraw = some k) ||
  tl.arr.rows.any (fun r => decide (r.beat + 66 = tl.til.beat) && decide (r.rnd = 5) && decide (r.numCtl % 8 = k))

/-- A draw of the array: the output row of the beat draws from counter C (R141), and each further row that a tile held at
its last bundle presents draws after those of the beat before it (R132). -/
def State.drawArray (s : State) (t k : Nat) (due : Bool) : VReg × State :=
  let before := if due then 0 else ((s.tile t).draws.filter (fun x => decide (x = k))).length
  (drawBlock (s.streamCtr t k + 8 * before) (s.streamKey t k),
   s.updTile t (fun tl => { tl with draws := tl.draws ++ [k], arrDraw := some k }))

/-- A draw of a vector op: from C, or from C + 8 where the array draws in the same beat (R141). -/
def State.drawVector (s : State) (t k : Nat) : VReg × State :=
  (drawBlock (s.streamCtr t k + (if s.arrayDraws t k then 8 else 0)) (s.streamKey t k),
   s.updTile t (fun tl => { tl with draws := tl.draws ++ [k] }))

/-- Sets the counter of a stream register. -/
def State.setStreamCtr (s : State) (t k v : Nat) : State :=
  (List.range 4).foldl (fun a w => a.setRegN t (0x2100 + 0x20 * k + 4 * w) (v / 2 ^ (32 * w) % 2 ^ 32)) s

/-- Writes of the beat to stream registers from elsewhere than an LRW stand after the beat's draws (R141, R142). -/
def State.streamWrites (s : State) (t : Nat) : State :=
  (s.tile t).streamPend.foldl (fun a p => a.setRegN t p.1 p.2.toNat) s

/-- At the end of a beat the counters advance by 8 for each draw; a write to a counter word discards the increment
(R141). -/
def State.endDraws (s : State) (t : Nat) : State :=
  let tl := s.tile t
  let offs : List Nat := (match tl.til.lrw with | some (off, _) => [off] | none => []) ++ tl.streamPend.map (fun p => p.1)
  let hit (k : Nat) : Bool := offs.any (fun off => decide (0x2100 + 0x20 * k ≤ off) && decide (off < 0x2110 + 0x20 * k))
  let s1 := (List.range 8).foldl (fun a k =>
    let n := (tl.draws.filter (fun x => decide (x = k))).length
    if n = 0 || hit k then a else a.setStreamCtr t k ((a.streamCtr t k + 8 * n) % 2 ^ 128)) s
  s1.updTile t (fun tl => { tl with draws := [], arrDraw := none, streamPend := [] })

/-! ### Acceptance (R91 to R94, R103, R105, R108) -/

/-- Feed rows per input row. -/
def feedRows (f : Nat) : Nat := if fmtWidth f = 16 then 4 else 1

/-- The elements of a feed row (R92). -/
def feedElems (f : Nat) (d : Row) : List FNum :=
  let w := fmtWidth f
  (List.range (if w = 6 then 32 else 256 / w)).map (fun e => elemValue f (rowElem d w e))

/-- The feed row of a source in a beat. -/
def feedOf (l : List FeedRow) (u src : Nat) (load : Bool) : Option FeedRow :=
  l.find? (fun r => decide (r.beat = u) && decide (r.src = src) && r.load == load)

/-- The PAD indication for input row `i` of a STREAM_CONV, in the beat `u` in which its first feed row is read: that of
generator position `i`, or of the position a restarted sequence stands at (R106, R108). -/
def State.padAt (s : State) (t : Nat) (m : ArrStream) (i u : Nat) : Bool :=
  match s.gen t m.gen with
  | some g => (genRow g.regs (if m.beat < g.start then (g.at_ u).1 else i) 0).isNone
  | none => false

/-- The streams of a STREAM_CONV judge the input rows whose feed rows are read in the beat that ends (R108). -/
def State.judgePads (s : State) (t : Nat) : State :=
  let u := (s.tile t).til.beat
  s.updArr t (fun a => { a with
    streams := a.streams.map (fun m =>
      let n := feedRows m.fmt
      let i := (u - m.beat) / n
      if m.kind = 2 ∧ (u - m.beat) % n = 0 ∧ i < m.count then
        { m with pads := m.pads.filter (fun p => decide (i ≤ p.1 + 2)) ++ [(i, s.padAt t m i u)] }
      else m) })

/-- The elements of an input row with their shared scales, and whether a scale is out of range (R94, R126). -/
def ArrStream.withScales (m : ArrStream) (i : Nat) (feeds : List (List FNum)) : List FNum × Bool :=
  if isMx m.fmt then
    let n := m.scales
    let sr : Row := match m.scale with | some (d, _) => d | none => 0
    let code (f b : Nat) : Nat := rowByte sr (i % (32 / n) * n + f * (n / m.feedCount) + b)
    let go := (List.range feeds.length).map (fun f =>
      let l := feeds.getD f []
      (List.range l.length).map (fun e => (scaled (l.getD e .nan) (code f (e / 32)), scaleOk (code f (e / 32)))))
    let all := go.flatten
    (all.map (·.1), all.any (fun p => !p.2))
  else (feeds.flatten, false)

/-- The products of an accepted input row with its set, column by column, and the checksum column's products. -/
def rowProducts (z : StatSet) (xs : List FNum) (width : Nat) : List (List FNum) × List FNum :=
  ((List.range width).map (fun c => (List.range xs.length).map (fun k => product (xs.getD k .nan) (z.value k c))),
   (List.range xs.length).map (fun k => product (finitePart (xs.getD k .nan)) (z.checkValue k width)))

/-- The stationary set that an input row accepted in beat `a` meets: the old set in the beat of a SWAP (R99). -/
def ArrayUnit.setAt (a : ArrayUnit) (u : Nat) : StatSet := if a.swapBeat = some u then a.shadow else a.active

/-- One stream takes its rows of beat `u`.  Answers the feed sources it expected. -/
def State.streamAccept (s : State) (t u : Nat) (m : ArrStream) : List Nat × State :=
  let a := (s.tile t).arr
  let n := feedRows m.fmt
  if u < m.beat + 2 ∨ m.beat + 2 + n * m.count ≤ u then ([], s)
  else
    let j := u - (m.beat + 2)
    let i := j / n
    let q := j % n
    let pad := m.pads.any (fun p => decide (p.1 = i) && p.2)
    let srcs := List.range m.feedCount
    let rows := srcs.map (fun f => feedOf a.feed u f false)
    let starved := if pad then 0 else (rows.filter (fun r => r.isNone)).length
    let s1 := if starved = 0 then s else s.bumpReg t 0x1014 starved
    let els := rows.map (fun r => match r with
      | some x => feedElems m.fmt (if pad then 0 else x.row)
      | none => feedElems m.fmt 0)
    let bad := !pad && rows.any (fun r => match r with | some x => x.poison | none => false)
    let scl : Option (Row × Bool) := match feedOf a.feed u 3 false with
      | some x => some (x.row, x.poison)
      | none => m.scale
    let m1 : ArrStream := { m with
      scale := scl,
      rowSet := if q = 0 then some (a.setAt u) else m.rowSet,
      rowPoison := (if q = 0 then false else m.rowPoison) || bad,
      rowBuf := if n = 1 then [] else (if q = 0 then [] else m.rowBuf) ++ els.flatten }
    let put (m : ArrStream) (s : State) : State := s.updArr t (fun a =>
      { a with streams := a.streams.map (fun x => if x.beat = m.beat then m else x) })
    if q + 1 = n then
      let z := m1.rowSet.getD a.active
      let (xs, out) := if n = 1 then m1.withScales i els else (m1.rowBuf, false)
      let width := s.width t
      let (ps, chk) := rowProducts z xs width
      let sp := isMx m.fmt && (match scl with | some (_, p) => p | none => false)
      let r : AccRow := ⟨u + 1 - n, i, m.acc && decide (i < 256), if fmtGroup m.fmt = 3 then 2 else 1, m.outFmt, m.rnd,
        m.vd, m.ring, m.numCtl, ps, chk, m1.rowPoison || z.poison || sp, out || z.badScale width⟩
      let act := if n = 4 then 0x7118 else if fmtWidth m.fmt = 4 then 0x7114 else 0x7110
      (srcs, ((put m1 s1).countReg t act (32 * (if n = 4 then 8 else m.feedCount) * width)).updArr t (fun a =>
        { a with rows := a.rows ++ [r] }))
    else (srcs, put m1 s1)

/-- The shadow load takes its row of beat `u` (R97, R98, R105).  Answers the source it took. -/
def State.loadAccept (s : State) (t u : Nat) : Option Nat × State :=
  let a := (s.tile t).arr
  match a.load with
  | none => (none, s)
  | some l =>
    if u < l.beat + 2 then (none, s)
    else
      let got := if l.src = 1 then feedOf a.feed u 2 true
        else match feedOf a.feed u 0 true with
          | some x => some x
          | none => feedOf a.feed u 1 true
      let s1 := if got.isNone then s.bumpReg t 0x1014 1 else s
      let d : Row := match got with | some x => x.row | none => 0
      let p := match got with | some x => x.poison | none => false
      let last := decide (l.next + 1 = l.len)
      (got.map (·.src), s1.updArr t (fun a => { a with
        shadow := { a.shadow with rows := Map.put a.shadow.rows 0 l.next d, poison := a.shadow.poison || p },
        load := if last then none else some { l with next := l.next + 1 },
        completeAt := if last then some (u + 4) else a.completeAt }))

/-- A tap read through port X of the active context's row `r`, which delivers two beats later (R94, R97): bounds, then
the port, then ownership. (DEDUCED, log 6) -/
def State.tapRead (s : State) (t ctx r src : Nat) (load : Bool) : State :=
  let (base, bound) := s.dataRange t ctx
  let u := (s.tile t).til.beat
  if bound ≤ r then s.taskFault t 1
  else
    let flat := base + r
    if (s.bank t (bankOf flat)).busy then s.taskFault t 5
    else
      let st := s.portXStatus t flat [1]
      if st ≠ 0 then s.rejectX t flat st 0
      else
        let (d, p, s1) := s.readRow t flat true (some (u + 2))
        (s1.updBank t (bankOf flat) (fun k => { k with busy := true })).updArr t (fun a =>
          { a with feed := a.feed ++ [⟨u + 2, src, load, d, p⟩] })

/-- The tap reads of the beat that ends: the scale tap, then the load tap (R94, R97, R117). (DEDUCED, log 6) -/
def State.taps (s : State) (t : Nat) : State :=
  (s.tapRows t).foldl (fun a p => a.tapRead t p.ctx p.row p.src (decide (p.src = 2))) s

/-- The array takes what the schedule says that it takes in beat `u`: input rows, load rows and orphans (R105). -/
def State.arrayTake (s : State) (t u : Nat) : State :=
  let (srcs, s1) := ((s.tile t).arr.streams).foldl (fun (acc : List Nat × State) m =>
    let (l, x) := acc.2.streamAccept t u m
    (acc.1 ++ l, x)) ([], s)
  let (ld, s2) := s1.loadAccept t u
  let now := (s2.tile t).arr.feed.filter (fun r => decide (r.beat ≤ u))
  let orphans := (now.filter (fun r =>
    if r.load then decide (some r.src ≠ ld) && decide (r.src ≠ 2)
    else decide (r.src ≠ 3) && !(srcs.contains r.src))).length
  let s3 := s2.updArr t (fun a => { a with
    feed := a.feed.filter (fun r => decide (u < r.beat)),
    streams := a.streams.filter (fun m => decide (u + 1 < m.beat + 2 + feedRows m.fmt * m.count)) })
  if orphans = 0 then s3 else s3.bumpReg t 0x1018 orphans

/-- A CLEAR of the beat that ends takes effect (R104). -/
def State.clearEntries (s : State) (t : Nat) : State :=
  s.updArr t (fun a => { a with
    entries := a.entries.filter (fun p => decide (min a.clearTo 256 ≤ p.1)), clearTo := 0 })

/-- The array's part of the end of a beat: CLEAR, taps, padding, and what it takes. -/
def State.arrayBeat (s : State) (t : Nat) : State :=
  let s1 := (((if (s.tile t).arr.clearTo = 0 then s else s.clearEntries t)).taps t).judgePads t
  s1.arrayTake t (s1.tile t).til.beat

/-- The array takes beat after beat, from `u` on, until no stream and no load is in flight, within `n` beats. -/
def State.arrayRun (s : State) (t u : Nat) : Nat → State
  | 0 => s
  | n + 1 =>
    if (s.tile t).arr.streams.isEmpty && (s.tile t).arr.load.isNone then s
    else (s.arrayTake t u).arrayRun t (u + 1) n

/-- The last beat in which a stream or load in flight takes a row. -/
def ArrayUnit.lastTake (a : ArrayUnit) : Nat :=
  (a.streams.map (fun m => m.beat + 2 + feedRows m.fmt * m.count) ++
    (match a.load with | some l => [l.beat + 2 + l.len] | none => [])).foldl max 0

/-- A stream or load in flight at the last bundle completes while the tile is held there; rows that are still missing are
zero (R101, R105). (DEDUCED, log 12) -/
def State.arrayDrain (s : State) (t : Nat) : State :=
  let u := (s.tile t).til.beat
  let s1 := s.arrayBeat t
  s1.arrayRun t (u + 1) (s1.tile t).arr.lastTake

/-! ### Output rows (R95, R103, R115, R128 to R130) -/

/-- The accumulator entry after an input row, and what the update reports. -/
structure EntryStep where
  entry : AccEntry
  mix : Bool
  delta : Int
  deriving DecidableEq, Repr

/-- Whether an entry is empty: no column has seen a non-zero finite product (R127, R128). -/
def AccEntry.isEmpty (e : AccEntry) : Bool := e.cols.all (fun c => c.empty)

/-- The update of an entry by an input row (R103, R113, R114, R128, R129). -/
def AccRow.step (r : AccRow) (old : AccEntry) (width : Nat) : EntryStep :=
  let bad := if r.poison then 1 else if r.range then 3 else 0
  if r.add && !old.isEmpty && decide (old.mode ≠ r.mode) then ⟨old, true, 0⟩
  else
    let e0 : AccEntry := if r.add then { old with mode := r.mode } else { AccEntry.zero width with mode := r.mode }
    let cols := (List.range width).map (fun c =>
      let col := e0.cols.getD c ColAcc.zero
      let ps := r.prods.getD c []
      if r.mode = 1 then col.fixedStep ps else col.windowStep ps)
    let ovf := cols.any (fun c => c.overflowed r.mode)
    let chk := r.chk.foldl (fun a p => match p with | .fin n m e => a + onGrid n m (max e (-96)) (-96) | _ => a) e0.chk
    let chkRes := ((r.chk.foldl (fun a p => a + residue p) (e0.chkRes : Int)) % residueMod).toNat
    let data : Int := cols.foldl (fun a c => a + c.v) 0
    let res : Int := cols.foldl (fun a c => a + (c.res : Int)) (0 : Int) % residueMod
    ⟨⟨r.mode, cols, if r.mode = 1 then chk else 0, if r.mode = 1 then 0 else chkRes,
       if e0.poison ≠ 0 then e0.poison else if bad ≠ 0 then bad else if ovf then 2 else 0⟩,
     false, if r.mode = 1 then data - chk else res - chkRes⟩

/-- Registers a row of the output format occupies (R95). -/
def ringUnits (o width : Nat) : Nat := if outWidth o * width ≤ 1024 then 1 else 2

/-- Writes an output row into the ring (R95, R103). -/
def State.ringWrite (s : State) (t : Nat) (r : AccRow) (bits : Nat) (poison : Bool) (width : Nat) : State :=
  let u := ringUnits r.outFmt width
  let len := r.ring + 1
  let now := (s.tile t).til.beat
  (List.range (4 * u)).foldl (fun a q =>
    let reg := (r.vd + (r.idx * u + q / 4) % len) % 32
    a.writeV t ⟨now, 2, 0, 4 * reg + q % 4, wholeRow, BitVec.ofNat 256 (bits / 2 ^ (256 * q)), poison⟩) s

/-- The output row of an input row accepted 66 beats ago (R103): the entry is updated, the row is rounded, drawn for
and written to the ring, and its comparison begins. (DEDUCED, log 17; DESIGN CHOICE, log 145) -/
def State.arrayOutput (s : State) (t : Nat) (r : AccRow) : State :=
  let width := s.width t
  let n := r.idx % 256
  let now := (s.tile t).til.beat
  let s0 := s.updArr t (fun a => { a with rows := a.rows.drop 1 })
  let old := Map.get (s0.tile t).arr.entries (AccEntry.zero width) n
  let st := r.step old width
  let s1 := s0.updArr t (fun a => { a with entries := Map.put a.entries (AccEntry.zero width) n st.entry })
  let (blk, s2) : VReg × State :=
    if r.rnd = 5 then s1.drawArray t (r.numCtl % 8) (decide (r.beat + 66 = now)) else (0, s1)
  let rowBad := st.mix || decide (st.entry.poison ≠ 0) || r.poison || r.range
  if rowBad then
    let own := st.mix || decide (2 ≤ st.entry.poison) || r.range
    let s3 := (if own then s2.noteAlien t else s2).bumpReg t 0x1040 1
    let s4 := if st.mix then (s3.bumpReg t 0x2014 1).setRegBit t 0x2004 7 true else s3
    let s5 := if st.entry.poison = 2 then (s4.bumpReg t 0x2010 1).setRegBit t 0x2004 1 true else s4
    let s6 := if r.range || decide (st.entry.poison = 3) then (s5.bumpReg t 0x200c 1).setRegBit t 0x2004 6 true else s5
    (s6.ringWrite t r 0 true width).updArr t (fun a => { a with checks := a.checks ++ [⟨now, n, true, 0, 0⟩] })
  else
    let inex := decide (r.mode = 2) && st.entry.cols.any (fun c => c.inexact && decide (c.special = 0))
    let s3 := if inex then (s2.bumpReg t 0x2008 1).setRegBit t 0x2004 0 true else s2
    let w := outWidth r.outFmt
    let (bits, s4) := (List.range width).foldl (fun (acc : Nat × State) c =>
      let col := st.entry.cols.getD c ColAcc.zero
      let o := outRound r.outFmt r.rnd (bitOf r.numCtl 8) (col.value r.mode r.rnd) (blk.toNat / 2 ^ (16 * c) % 65536)
      (acc.1 + o.bits * 2 ^ (w * c), acc.2.noteRounded t o)) (0, s3)
    (s4.ringWrite t r bits false width).updArr t (fun a =>
      { a with checks := a.checks ++ [⟨now, n, false, if r.mode = 1 then 1 else 2, st.delta⟩] })

/-- ARRAY_CHECK (R115, R116): latched for the first failure of the epoch, counted, and raised. (DEDUCED, log 16;
DESIGN CHOICE, log 140) -/
def State.arrayCheck (s : State) (t cause entry : Nat) (delta : Int) : State :=
  let s1 :=
    if s.regN t 0x1020 = 0 then
      (((s.setRegN t 0x1020 cause).setRegN t 0x1024 (s.regN t 0xf08)).setRegN t 0x1028 entry).setRegN t 0x1030
        (twos 64 delta)
    else s
  (s1.bumpReg t 0x101c 1).tileError t 2 3 cause

/-! ### Ops (R93, R95, R97 to R104) -/

/-- STREAM_WS (0), STREAM_AS (1) and STREAM_CONV (2) (R93, R95, R100, R102 to R104, R119, R122, R123). (DESIGN
CHOICE, log 142) -/
def State.stream (s : State) (t kind : Nat) (o : ArrOp) : State :=
  let a := (s.tile t).arr
  let v := (s.tile t).til
  let f := o.fmt.val
  let count := o.count.toNat
  if !arrFmt f || decide (o.outFmt.val = 7) || decide (5 < o.rnd.val) || !a.active.valid ||
      decide (fmtGroup f ≠ fmtGroup a.active.fmt) || (a.active.colMajor != decide (kind = 1)) ||
      (decide (ringUnits o.outFmt.val (s.width t) = 2) && decide (o.ring.val = 0)) then s.taskFault t 3
  else if count = 0 then s.zeroLen t
  else if v.beat < a.nextFree then s.taskFault t 5
  else
    let m : ArrStream := ⟨v.beat, kind, f, o.outFmt.val, o.rnd.val, count, o.vd.val, o.ring.val, o.gen.val, o.acc,
      s.regN t 0x1000 % 2, s.regN t 0x100c, s.regN t 0x2000, v.active, [], false, none, none, []⟩
    s.updArr t (fun a => { a with
      streams := a.streams ++ [m], nextFree := v.beat + feedRows f * count,
      gens := if kind = 2 && decide (fmtWidth f = 16) then
          a.gens.map (fun p => if p.1 = o.gen.val ∧ p.2.start = v.beat then (p.1, { p.2 with quad := true }) else p)
        else a.gens })

/-- SHADOW_LOAD (R97, R98, R100, R117). -/
def State.shadowLoad (s : State) (t : Nat) (o : ArrOp) : State :=
  let a := (s.tile t).arr
  let v := (s.tile t).til
  let f := o.fmt.val
  if !arrFmt f || decide (o.count.toNat ≠ setLen f) || decide (2 ≤ o.gen.val) then s.taskFault t 3
  else if a.load.isSome || (match a.swapBeat with | some b => decide (v.beat < b + 64) | none => false) then s.taskFault t 5
  else s.updArr t (fun a => { a with
    shadow := ⟨false, f, o.acc, [], false⟩, complete := false, completeAt := none, armed := decide (16 ≤ o.vd.val),
    load := some ⟨v.beat, 0, setLen f, o.gen.val, s.regN t 0x1010, v.active⟩ })

/-- The sets exchange (R99, R101). -/
def ArrayUnit.swapped (a : ArrayUnit) (beat : Option Nat) : ArrayUnit :=
  { a with
    active := { a.shadow with valid := true }, shadow := a.active, complete := a.active.valid, armed := false,
    completeAt := none, swapBeat := beat }

/-- SWAP (R99, R100, R117). -/
def State.swap (s : State) (t : Nat) : State :=
  let a := (s.tile t).arr
  if a.complete then s.updArr t (fun a => a.swapped (some (s.tile t).til.beat)) else s.taskFault t 5

/-- CLEAR: refused while an input row accepted fewer than 66 beats before is in flight, one of this beat among them;
complete in the beat after (R67, R104). (DESIGN CHOICE, log 142) -/
def State.clear (s : State) (t : Nat) (o : ArrOp) : State :=
  let a := (s.tile t).arr
  let now := (s.tile t).til.beat
  let count := o.count.toNat
  if count = 0 then s.zeroLen t
  else if a.rows.any (fun r => decide (now < r.beat + 66)) || a.streams.any (fun m => decide (m.beat + 2 ≤ now)) then
    s.taskFault t 5
  else s.updArr t (fun a => { a with clearTo := count })

end Sys2Proof.Machine
end

