-- ==== Sys2Proof/Machine/Elementary.lean ====
section
/-! DEFINITION. The vector functions whose error R135 bounds: their values to some 500 bits, in exact dyadic arithmetic,
and the encodings that the bounds admit. -/

namespace Sys2Proof.Machine

/-! ### Fixed point with 512 fraction bits -/

/-- One. -/
def fxOne : Int := 2 ^ 512

/-- `π / 2` in units of `2^-700`. -/
def halfPi : Int :=
  0x1921fb54442d18469898cc51701b839a252049c1114cf98e804177d4c76273644a29410f31c6809bbdf2a33679a748636605614dbe4be286e9fc26adadaa3848bc90b6aecc4bcfd8de89885d34c6fdad617feb96de80d6fd

/-- The natural logarithm of 2. -/
def lnTwo : Int :=
  0xb17217f7d1cf79abc9e3b39803f2f6af40f343267298b62d8a0d175b8baafa2be7b876206debac98559552fb4afa1b10ed2eae35c138214427573b291169b825

/-- A finite value in fixed point. -/
def toFx (n : Bool) (m : Nat) (e : Int) : Int := onGrid n m e (-512)

/-- A fixed-point number as a value. -/
def ofFx (v : Int) : FNum := ofFixed v (-512)

/-- `z` within 1000 of zero: beyond, every function of R135 has left every format or reached its limit. -/
def capFx (z : Int) : Int := max (-(1000 * fxOne)) (min (1000 * fxOne) z)

/-- The exponential series: `n` terms from `term`, the one of degree `k − 1`. -/
def expSum (z : Int) : Nat → Nat → Int → Int → Int
  | 0, _, _, acc => acc
  | n + 1, k, term, acc =>
    let x := term * z / (fxOne * k)
    expSum z n (k + 1) x (acc + x)

/-- `e^z` for `0 ≤ z < 1`. -/
def expFx (z : Int) : Int := expSum z 120 1 fxOne fxOne

/-- The series of the inverse hyperbolic tangent, from the power `p` of odd degree `k`. -/
def atanhSum (z2 : Int) : Nat → Nat → Int → Int → Int
  | 0, _, _, acc => acc
  | n + 1, k, p, acc => atanhSum z2 n (k + 2) (p * z2 / fxOne) (acc + p / k)

/-- The natural logarithm of `m / 2^(log2 m)`. -/
def lnMantissa (m : Nat) : Int :=
  let b : Int := 2 ^ Nat.log2 m
  let z := ((m : Int) - b) * fxOne / ((m : Int) + b)
  2 * atanhSum (z * z / fxOne) 200 1 z 0

/-- The alternating series of sine and cosine, from `term` of degree `k`. -/
def trigSum (r2 : Int) : Nat → Nat → Int → Int → Int
  | 0, _, _, acc => acc
  | n + 1, k, term, acc =>
    let x := -(term * r2 / fxOne) / ((k + 1) * (k + 2) : Nat)
    trigSum r2 n (k + 2) x (acc + term)

/-- Sine (`false`) or cosine of a fixed-point angle of at most `π / 4`. -/
def trigFx (cosine : Bool) (r : Int) : Int :=
  if cosine then trigSum (r * r / fxOne) 60 0 fxOne 0 else trigSum (r * r / fxOne) 60 1 r 0

/-! ### The functions (R135) -/

/-- A quotient of two positive values to 600 bits. -/
def quotF (a b : FNum) : FNum :=
  match a, b with
  | .fin _ m1 e1, .fin _ m2 e2 =>
    let k := 600 + Nat.log2 m2
    .fin false (m1 * 2 ^ k / m2) (e1 - e2 - k)
  | x, _ => x

/-- `2^(z / ln 2)` for a capped `z`. -/
def expF (z : Int) : FNum :=
  let q := capFx z
  .fin false (expFx (q % lnTwo)).toNat (q / lnTwo - 512)

/-- `2^z`. -/
def exp2F (z : Int) : FNum :=
  let q := capFx z
  .fin false (expFx (q % fxOne * lnTwo / fxOne)).toNat (q / fxOne - 512)

/-- Sine (`false`) or cosine of a finite value of any size. -/
def trigF (cosine : Bool) (n : Bool) (m : Nat) (e : Int) : FNum :=
  let x := onGrid n m e (-700)
  let q := (2 * x + halfPi) / (2 * halfPi)
  let r := (x - q * halfPi) / 2 ^ 188
  let k := ((q + (if cosine then 1 else 0)) % 4).toNat
  let v := trigFx (decide (k % 2 = 1)) r
  ofFx (if 2 ≤ k then -v else v)

/-- The value of function `fn` at a finite operand of its domain. -/
def fnValue (fn : Nat) (n : Bool) (m : Nat) (e : Int) : FNum :=
  match fn with
  | 0x70 => expF (toFx n m e)
  | 0x71 => exp2F (toFx n m e)
  | 0x72 => ofFx ((exOf m e) * lnTwo + lnMantissa m)
  | 0x73 => ofFx ((exOf m e) * fxOne + lnMantissa m * fxOne / lnTwo)
  | 0x74 => match quotF (.fin false 1 0) (.fin false m e) with | .fin _ k q => .fin n k q | x => x
  | 0x75 => rsqrtSticky m e
  | 0x77 =>
    match expF (2 * min (100 * fxOne) (toFx false m e)) with
    | .fin _ k q =>
      let x := toFx false k q
      ofFx ((x - fxOne) * fxOne / (x + fxOne) * (if n then -1 else 1))
    | x => x
  | 0x78 =>
    let x := expF (toFx n m e)
    quotF x (addF 0 x (.fin false 1 0)).1
  | 0x79 => trigF false n m e
  | _ => trigF true n m e
where
  /-- The exponent of a value. -/
  exOf (m : Nat) (e : Int) : Int := (Nat.log2 m : Int) + e

/-! ### The bounds (R135) -/

/-- The bound of function `fn` in ulp, by lane type (0 FP32, else BF16 or FP16). -/
def fnUlps (fn ty : Nat) : Nat :=
  if ty ≠ 0 then 1
  else match fn with
    | 0x70 => 2
    | 0x72 => 2
    | 0x77 => 3
    | 0x78 => 3
    | 0x79 => 2
    | 0x7A => 2
    | _ => 1

/-- The error that function `fn` may have at a value: its ulps at that value, or the absolute bound of small sines and
cosines in FP32. -/
def fnError (fn ty : Nat) (f : Fmt) (v : FNum) : FNum :=
  match v with
  | .fin _ m e =>
    let top : Int := if m = 0 then 1 - f.bias else (Nat.log2 m : Int) + e
    let q : Int := (if top < 1 - f.bias then 1 - (f.bias : Int) else top) - f.mb
    if ty = 0 ∧ 0x79 ≤ fn ∧ top < -12 then .fin false 1 (-36) else .fin false (fnUlps fn ty) q
  | x => x

/-- The place of an encoding in the order of a format's values; both zeros stand at 0. -/
def ordOf (f : Fmt) (bits : Nat) : Int :=
  let mag := bits % 2 ^ (f.eb + f.mb)
  if bitOf bits (f.eb + f.mb) then -(mag : Int) else mag

/-- The encoding at a place. -/
def ofOrd (f : Fmt) (i : Int) : Nat := i.natAbs + (if i < 0 then 2 ^ (f.eb + f.mb) else 0)

/-- The least and the greatest place of an encoding whose error the bound of `fn` admits at the value `v`; what `v` itself
rounds to is among them, an infinity beyond the largest finite value (R133, R135). -/
def fnRange (fn ty : Nat) (f : Fmt) (v : FNum) : Int × Int :=
  let b := fnError fn ty f v
  let near := ordOf f (roundTo f 0 true v 16 0).bits
  let lo := ordOf f (roundTo f 2 true (addF 0 v (negF b)).1 16 0).bits
  let hi := ordOf f (roundTo f 3 true (addF 0 v b).1 16 0).bits
  (min near lo, max near hi)

/-- A function's result: one of the encodings that its bound admits, chosen by `pick`. -/
def fnResult (fn ty : Nat) (f : Fmt) (v : FNum) (pick : Nat) : Nat :=
  let (lo, hi) := fnRange fn ty f v
  ofOrd f (lo + (pick % ((hi - lo).toNat + 1) : Nat))

end Sys2Proof.Machine
end

