-- ==== Sys2Proof/Machine/VectorOps.lean ====
section
/-! DEFINITION. The vector unit: lanes, arithmetic, conversions, reductions and functions (R79 to R83, R134 to R140). -/

namespace Sys2Proof.Machine

/-! ### Lanes -/

/-- Lane width of a type (R79). -/
def laneBits (ty : Nat) : Nat := if ty = 0 ∨ ty = 3 then 32 else 16

/-- Lane count of a type (R79). -/
def laneCount (ty : Nat) : Nat := 1024 / laneBits ty

/-- The floating-point format of a type. -/
def tyFmt (ty : Nat) : Fmt :=
  match ty with
  | 0 => fmtFP32
  | 1 => fmtBF16
  | _ => fmtFP16

/-- Lane `i` of width `w`. -/
def lane (w : Nat) (v : VReg) (i : Nat) : Nat := v.toNat / 2 ^ (w * i) % 2 ^ w

/-- A register from its lanes. -/
def ofLanes (w n : Nat) (f : Nat → Nat) : VReg :=
  BitVec.ofNat 1024 ((List.range n).foldl (fun a i => a + f i % 2 ^ w * 2 ^ (w * i)) 0)

/-- The whole register `r`. -/
def State.vreg (s : State) (t r : Nat) : VReg := Map.get (s.tile t).vregs 0 r

/-- A lane result: encoding, the events of R133, and whether the operation was invalid (R134). -/
structure LaneOut where
  r : Rounded
  invalid : Bool
  deriving DecidableEq, Repr

/-- A lane result without events. -/
def LaneOut.plain (b : Nat) : LaneOut := ⟨Rounded.plain b, false⟩

/-- What a vector op latches when it issues: operands, type, NUM_CTL, random bits of each lane, poison of its sources. -/
structure VecIn where
  ty : Nat
  mode : Nat
  a : VReg
  b : VReg
  c : VReg
  d : VReg
  numCtl : Nat
  rand : Nat → Nat
  imm : Nat

/-- The random bits' width of a type (R131). -/
def srBits (ty : Nat) : Nat := laneBits ty

/-- A correctly rounded lane of the op's type. -/
def VecIn.round (i : VecIn) (l : Nat) (x : FNum × Bool) : LaneOut :=
  ⟨roundTo (tyFmt i.ty) i.mode true x.1 (srBits i.ty) (i.rand l), x.2⟩

/-- Lane values. -/
def VecIn.fa (i : VecIn) (l : Nat) : FNum := decodeF (tyFmt i.ty) (lane (laneBits i.ty) i.a l)
def VecIn.fb (i : VecIn) (l : Nat) : FNum := decodeF (tyFmt i.ty) (lane (laneBits i.ty) i.b l)
def VecIn.fc (i : VecIn) (l : Nat) : FNum := decodeF (tyFmt i.ty) (lane (laneBits i.ty) i.c l)
def VecIn.na (i : VecIn) (l : Nat) : Nat := lane (laneBits i.ty) i.a l
def VecIn.nb (i : VecIn) (l : Nat) : Nat := lane (laneBits i.ty) i.b l
def VecIn.nc (i : VecIn) (l : Nat) : Nat := lane (laneBits i.ty) i.c l

/-- A binary arithmetic op: integers wrap, floating-point lanes round once (R134). -/
def VecIn.arith (i : VecIn) (int : Nat → Nat → Nat) (flt : FNum → FNum → FNum × Bool) (l : Nat) : LaneOut :=
  if i.ty = 3 then .plain (int (i.na l) (i.nb l) % 2 ^ 32) else i.round l (flt (i.fa l) (i.fb l))

/-- FMA: one rounding of the exact `va × vb + vc` (R134). -/
def VecIn.fma (i : VecIn) (l : Nat) : LaneOut :=
  if i.ty = 3 then .plain ((i.na l * i.nb l + i.nc l) % 2 ^ 32)
  else
    let (p, e1) := mulF (i.fa l) (i.fb l)
    let (x, e2) := addF i.mode p (i.fc l)
    i.round l (x, e1 || e2)

/-- The smaller (`least`) or larger of two lane encodings (R134). -/
def pickLane (ty : Nat) (least : Bool) (a b : Nat) : Nat :=
  if ty = 3 then
    if (signed 32 a < signed 32 b) = least then a else b
  else
    match decodeF (tyFmt ty) a, decodeF (tyFmt ty) b with
    | .nan, _ => (tyFmt ty).nanBits
    | _, .nan => (tyFmt ty).nanBits
    | x, y => if totalLess x y = least then a else b

/-- MIN or MAX of two lanes: a NaN result is recorded (R134, R142). -/
def pickOut (ty : Nat) (least : Bool) (a b : Nat) : LaneOut :=
  let x := pickLane ty least a b
  ⟨{ Rounded.plain x with nanOut := decide (ty ≠ 3) && decide (decodeF (tyFmt ty) x = .nan) }, false⟩

/-- The magnitude of a lane: ABS (R134). -/
def absLane (ty a : Nat) : Nat :=
  if ty = 3 then twos 32 ((signed 32 a).natAbs : Int) else a % 2 ^ (laneBits ty - 1)

/-- The negation of a lane: NEG (R134). -/
def negLane (ty a : Nat) : Nat :=
  if ty = 3 then twos 32 (-(signed 32 a)) else a ^^^ 2 ^ (laneBits ty - 1)

/-- A comparison: all ones or zero (R81, R134).  `p` judges the order −1, 0, 1; NaN answers `nan`. -/
def VecIn.compare (i : VecIn) (p : Int → Bool) (nan : Bool) (l : Nat) : Nat :=
  let r : Bool :=
    if i.ty = 3 then
      let x := signed 32 (i.na l)
      let y := signed 32 (i.nb l)
      p (if x < y then -1 else if x = y then 0 else 1)
    else match i.fa l, i.fb l with
      | .nan, _ => nan
      | _, .nan => nan
      | x, y => p (cmpVal x y)
  if r then 2 ^ laneBits i.ty - 1 else 0

/-- One level of a pairwise tree. -/
def pairUp {α : Type} (f : α → α → α) : List α → List α
  | a :: b :: rest => f a b :: pairUp f rest
  | l => l

/-- The fixed pairwise tree over `2^n` lanes (R134). -/
def treeFold {α : Type} (f : α → α → α) (z : α) : Nat → List α → α
  | 0, l => l.headD z
  | n + 1, l => treeFold f z n (pairUp f l)

/-- A reduction of the lanes of va. -/
def VecIn.reduce (i : VecIn) (f : LaneOut → LaneOut → LaneOut) (pre : Nat → Nat) : LaneOut :=
  treeFold f (.plain 0) 6 ((List.range (laneCount i.ty)).map (fun l => .plain (pre (i.na l))))

/-- Keeps the events of both sides. -/
def LaneOut.with_ (o a b : LaneOut) : LaneOut :=
  ⟨{ o.r with nanOut := o.r.nanOut || a.r.nanOut || b.r.nanOut }, o.invalid || a.invalid || b.invalid⟩

/-- RSUM's step: each sum is rounded in the op's mode (R134). -/
def VecIn.sumStep (i : VecIn) (a b : LaneOut) : LaneOut :=
  let o := if i.ty = 3 then LaneOut.plain ((a.r.bits + b.r.bits) % 2 ^ 32)
    else i.round 0 (addF i.mode (decodeF (tyFmt i.ty) a.r.bits) (decodeF (tyFmt i.ty) b.r.bits))
  o.with_ a b

/-- RAMAX's step on magnitudes: in INT32, `−2^31` compares as the magnitude `2^31` (R134). -/
def VecIn.amaxStep (i : VecIn) (a b : LaneOut) : LaneOut :=
  if i.ty = 3 then .plain (max a.r.bits b.r.bits) else pickOut i.ty false a.r.bits b.r.bits

/-! ### Conversions (R137 to R140) -/

/-- Whether CVTN and CVTW may name a format (R119). -/
def cvtFmt (f : Nat) : Bool := decide (f ≤ 7)

/-- Elements of a format in a quarter. -/
def quarterElems (f : Nat) : Nat :=
  match fmtWidth f with
  | 16 => 16
  | 4 => 64
  | _ => 32

/-- The floating-point format of an element code. -/
def elemFmt (f : Nat) : Fmt :=
  match f with
  | 0 => fmtE4M3
  | 1 => fmtE5M2
  | 3 => fmtE2M1
  | 4 => fmtE3M2
  | 5 => fmtE2M3
  | 6 => fmtBF16
  | _ => fmtFP16

/-- Elements that CVTN and CVTW move. -/
def moveCount (ty f : Nat) : Nat := min (laneCount ty) (quarterElems f)

/-- Whether the fields of CVTN and CVTW are legal (R119, R137). -/
def moveLegal (ty imm : Nat) : Bool :=
  let f := bitsOf imm 3 0
  cvtFmt f && (decide (ty ≠ 3) || decide (f = 2)) &&
  decide (bitsOf imm 7 6 < laneCount ty / moveCount ty f) && decide (bitsOf imm 9 8 < quarterElems f / moveCount ty f)

/-- One lane narrowed to a format (R133, R137). -/
def VecIn.narrow (i : VecIn) (f l : Nat) : Rounded :=
  let v := if i.ty = 3 then ofFixed (signed 32 (i.na l)) 0 else i.fa l
  if f = 2 then roundInt 8 i.mode v (srBits i.ty) (i.rand l)
  else roundTo (elemFmt f) i.mode (bitOf i.numCtl 8) v (srBits i.ty) (i.rand l)

/-- The bits of its quarter that CVTN writes: its elements, and bits [255:192] of a 6-bit quarter (R137). -/
def cvtnMask (ty imm : Nat) : Row :=
  let f := bitsOf imm 3 0
  let n := moveCount ty f * fmtWidth f
  BitVec.ofNat 256 ((2 ^ n - 1) * 2 ^ (n * bitsOf imm 9 8) + (if fmtWidth f = 6 then (2 ^ 64 - 1) * 2 ^ 192 else 0))

/-- The elements that CVTN writes at their places in its quarter, with the events of its lanes (R137). -/
def VecIn.cvtn (i : VecIn) : Row × List Rounded :=
  let f := bitsOf i.imm 3 0
  let w := fmtWidth f
  let n := moveCount i.ty f
  let j := bitsOf i.imm 7 6
  let d := bitsOf i.imm 9 8
  let os := (List.range n).map (fun e => i.narrow f (j * n + e))
  let bits := (List.range n).foldl (fun a e => a + (os.getD e (Rounded.plain 0)).bits % 2 ^ w * 2 ^ (w * (d * n + e))) 0
  (BitVec.ofNat 256 bits, os)

/-- One element widened to the op's type (R133, R137). (DEDUCED, log 143) -/
def VecIn.widen (i : VecIn) (f bits l : Nat) : Rounded :=
  if i.ty = 3 then Rounded.plain (twos 32 (signed 8 bits))
  else roundTo (tyFmt i.ty) i.mode true (elemValue f bits) (srBits i.ty) (i.rand l)

/-- The lanes that CVTW writes: first lane and results (R137). -/
def VecIn.cvtw (i : VecIn) : Nat × List Rounded :=
  let f := bitsOf i.imm 3 0
  let n := moveCount i.ty f
  let j := bitsOf i.imm 7 6
  let d := bitsOf i.imm 9 8
  let src : Row := i.a.extractLsb' (256 * bitsOf i.imm 5 4) 256
  (j * n, (List.range n).map (fun e => i.widen f (rowElem src (fmtWidth f) (d * n + e)) (j * n + e)))

/-- The first of the 32 lanes that CVTI and CVTF take (R138). -/
def halfLane (ty imm : Nat) : Nat := if ty = 0 then 0 else 32 * bitsOf imm 6 6

/-- CVTI of lane `l` of the result (R138). -/
def VecIn.cvti (i : VecIn) (l : Nat) : LaneOut :=
  let k := halfLane i.ty i.imm + l
  ⟨roundInt 32 i.mode (i.fa k) (srBits i.ty) (i.rand k), false⟩

/-- CVTF of INT32 lane `l` of va (R138). -/
def VecIn.cvtf (i : VecIn) (l : Nat) : Rounded :=
  let k := halfLane i.ty i.imm + l
  roundTo (tyFmt i.ty) i.mode true (ofFixed (signed 32 (lane 32 i.a l)) 0) (srBits i.ty) (i.rand k)

/-- The largest exponent of an MX element format (R139). -/
def mxEmax (f : Nat) : Int :=
  match f with
  | 8 => 8
  | 9 => 15
  | 0xA => 0
  | 0xB => 4
  | 0xC => 2
  | _ => 2

/-- The E8M0 scale of one block of lanes (R139). -/
def VecIn.mxScale (i : VecIn) (f b : Nat) : Nat :=
  let vs := (List.range 32).map (fun e => i.fa (32 * b + e))
  if vs.any (fun v => match v with | .fin _ _ _ => false | _ => true) then 0xFF
  else
    let exs := vs.filterMap (fun v => match v with | .fin _ m e => if m = 0 then none else some (exOf m e) | _ => none)
    match exs with
    | [] => 0x7F
    | x :: rest =>
      let e := rest.foldl (fun a c => if a < c then c else a) x - mxEmax f
      let c := if e < -32 then -32 else if 16 < e then 16 else e
      (c + 127).toNat

/-- One lane of MXAPPLY (R140). -/
def VecIn.mxApply (i : VecIn) (l : Nat) : LaneOut :=
  let f := bitsOf i.imm 3 0
  let up := bitOf i.imm 4
  let c := lane 8 i.b (l / 32)
  let k : Int := (c : Int) - 127 + (if f = 0xA then -6 else 0)
  if c = 0xFF then i.round l (.nan, false)
  else i.round l (match i.fa l with
    | .fin n m e => (.fin n m (if up then e + k else e - k), false)
    | x => (x, false))

/-! ### Functions (R135, R136) -/

/-- A function result that R135 bounds and does not state: among the encodings within the bound, the one that
`Config.vecFn` picks. (DESIGN CHOICE, log 21) -/
def VecIn.free (i : VecIn) (fn l : Nat) : LaneOut :=
  match i.fa l with
  | .fin n m e =>
    .plain (fnResult fn i.ty (tyFmt i.ty) (fnValue fn n m e) (Config.vecFn fn i.ty (BitVec.ofNat 32 (i.na l))).toNat)
  | _ => .plain 0

/-- NaN, invalid. -/
def VecIn.invalidNan (i : VecIn) (l : Nat) : LaneOut := i.round l (.nan, true)

/-- The value one of the op's type. -/
def one : FNum := .fin false 1 0

/-- A function of opcodes 0x70 to 0x7A on one lane (R135, R136): the special results, the correctly rounded functions,
and a free value within the bound elsewhere. (DESIGN CHOICE, log 21) -/
def VecIn.func (i : VecIn) (fn l : Nat) : LaneOut :=
  let k (x : FNum) : LaneOut := i.round l (x, false)
  match i.fa l with
  | .nan => k .nan
  | .inf n =>
    match fn with
    | 0x70 => if n then k (.fin false 0 0) else k (.inf false)
    | 0x71 => if n then k (.fin false 0 0) else k (.inf false)
    | 0x72 => if n then i.invalidNan l else k (.inf false)
    | 0x73 => if n then i.invalidNan l else k (.inf false)
    | 0x74 => k (.fin n 0 0)
    | 0x75 => if n then i.invalidNan l else k (.fin false 0 0)
    | 0x76 => if n then i.invalidNan l else k (.inf false)
    | 0x77 => k (.fin n 1 0)
    | 0x78 => if n then k (.fin false 0 0) else k one
    | _ => i.invalidNan l
  | .fin n m e =>
    if m = 0 then
      match fn with
      | 0x72 => k (.inf true)
      | 0x73 => k (.inf true)
      | 0x74 => k (.inf n)
      | 0x75 => k (.inf n)
      | 0x76 => k (.fin n 0 0)
      | 0x77 => k (.fin n 0 0)
      | 0x79 => k (.fin n 0 0)
      | _ => i.free fn l
    else
      match fn with
      | 0x72 => if n then i.invalidNan l else if cmpVal (.fin n m e) one = 0 then k (.fin false 0 0) else i.free fn l
      | 0x73 => if n then i.invalidNan l else if cmpVal (.fin n m e) one = 0 then k (.fin false 0 0) else i.free fn l
      | 0x74 => if i.ty = 0 then i.free fn l else k (recipSticky n m e)
      | 0x75 => if n then i.invalidNan l else if i.ty = 0 then i.free fn l else k (rsqrtSticky m e)
      | 0x76 => if n then i.invalidNan l else k (sqrtSticky m e)
      | _ => i.free fn l

/-! ### Issue (R79, R81) -/

/-- Quarter `q` of a register. -/
def vquarterOf (v : VReg) (q : Nat) : Row := v.extractLsb' (256 * q) 256

/-- The result of a vector op: data for the quarters it writes, whether each is poisoned beyond the sources' poison,
and the events of its lanes; `conv` tells that saturation and underflow count (R133). -/
structure VecOut where
  val : VReg
  quarters : List Nat
  events : List LaneOut
  conv : Bool
  mask : Row

/-- A result that writes the whole register and reports nothing. -/
def VecOut.whole (v : VReg) : VecOut := ⟨v, [0, 1, 2, 3], [], false, wholeRow⟩

/-- A result of lanes with events. -/
def VecIn.lanesOut (i : VecIn) (conv : Bool) (f : Nat → LaneOut) : VecOut :=
  let os := (List.range (laneCount i.ty)).map f
  ⟨ofLanes (laneBits i.ty) (laneCount i.ty) (fun l => (os.getD l (.plain 0)).r.bits), [0, 1, 2, 3], os, conv, wholeRow⟩

/-- A result in lane 0, the other lanes zero. -/
def VecOut.single (o : LaneOut) : VecOut := ⟨BitVec.ofNat 1024 o.r.bits, [0, 1, 2, 3], [o], false, wholeRow⟩

/-- A result of plain lanes. -/
def VecIn.bitsOut (i : VecIn) (f : Nat → Nat) : VecOut := .whole (ofLanes (laneBits i.ty) (laneCount i.ty) f)

/-- Records the events of a lane (R133, R134). (DEDUCED, log 19) -/
def State.noteLane (s : State) (t : Nat) (o : LaneOut) (conv : Bool) : State :=
  let s1 := if conv then s.noteRounded t o.r else if o.r.nanOut then s.setRegBit t 0x2004 4 true else s
  if o.invalid then s1.setRegBit t 0x2004 7 true else s1

/-- How an op uses its rounding field (R123, R131, R134, R135): 0 ignores it, 1 any legal mode, 2 any but SR, 3 only
nearest. -/
def roundLegal (use rnd : Nat) : Bool :=
  match use with
  | 0 => true
  | 1 => decide (rnd ≤ 5)
  | 2 => decide (rnd ≤ 4)
  | _ => decide (rnd = 0)

/-- The operands of a vector op as it issues, with the random bits that stochastic rounding or RAND draws for it, and the
state after the draw (R79, R81, R131, R132). -/
def State.vecIn (s : State) (t op use : Nat) (v : VecOp) : VecIn × State :=
  let numCtl := s.regN t 0x2000
  let (blk, s1) : VReg × State :=
    if op = 0x80 then s.drawVector t (v.imm.toNat % 8)
    else if decide (use = 1) && decide (v.rnd.val = 5) then s.drawVector t (bitsOf numCtl 6 4) else (0, s)
  let w := laneBits v.ty.val
  (⟨v.ty.val, v.rnd.val, s.vreg t v.va, s.vreg t v.vb, s.vreg t v.vc,
    if op = 0x80 then blk else s.vreg t v.vd, numCtl, fun l => blk.toNat / 2 ^ (w * l) % 2 ^ w, v.imm.toNat⟩, s1)

/-- A vector op issues: illegal codes raise ILLEGAL_OP and suppress it (R81, R119); operands are latched, SR draws
(R132), and the result is written so that an op issued `lat` beats later reads it. (DEDUCED, log 20) -/
def State.vecOp (s : State) (t op lat use : Nat) (v : VecOp) (legal : Bool) (srcs : List Nat)
    (f : VecIn → VecOut) : State :=
  if !legal || !roundLegal use v.rnd.val then s.taskFault t 3
  else
    let s0 := s.countReg t (if op < 0x70 then 0x711c else 0x7120) 1
    let (i, s1) := s0.vecIn t op use v
    let o := f i
    let bad := srcs.any (fun q => Map.get (s.tile t).vpoison false q)
    let tl := s1.tile t
    let s2 := s1.updTile t (fun tl => { tl with vorder := tl.vorder + 1 })
    let s3 := o.quarters.foldl (fun a q =>
      a.writeV t ⟨tl.til.beat + lat - 1, 1, tl.vorder, 4 * v.vd.val + q, o.mask, vquarterOf o.val q, bad⟩) s2
    o.events.foldl (fun a e => a.noteLane t e o.conv) s3

/-- The quarters of a register, in the numbering of R65. -/
def quartersOf (r : VIdx) : List Nat := [4 * r.val, 4 * r.val + 1, 4 * r.val + 2, 4 * r.val + 3]

/-- The quarters that a one-, two- and three-operand op reads. -/
def src1 (v : VecOp) : List Nat := quartersOf v.va
def src2 (v : VecOp) : List Nat := quartersOf v.va ++ quartersOf v.vb
def src3 (v : VecOp) : List Nat := quartersOf v.va ++ quartersOf v.vb ++ quartersOf v.vc

end Sys2Proof.Machine
end

