-- ==== Sys2Proof/Machine/Array.lean ====
section
/-! DEFINITION. Bank ops and array ops of a bundle, and the array's own events (R64 to R67, R97 to R104, R115). -/

namespace Sys2Proof.Machine

/-- READ: a stream of row reads through port E to the route (R65). -/
def execBankRead (t : TileId) (slot : Fin 2) (o : BankOp) (s : State) : Host.Outcome State Fault Refusal :=
  .next (s.slotOp t (3 + slot.val) (bankFields 1 o) (fun s => s.bankOp t (3 + slot.val) 1 o))

/-- WRITE (R65). -/
def execBankWrite (t : TileId) (slot : Fin 2) (o : BankOp) (s : State) : Host.Outcome State Fault Refusal :=
  .next (s.slotOp t (3 + slot.val) (bankFields 2 o) (fun s => s.bankOp t (3 + slot.val) 2 o))

/-- ALIAS: a read-modify-write in the bank's mode (R65, R156, R157). -/
def execBankAlias (t : TileId) (slot : Fin 2) (o : BankOp) (s : State) : Host.Outcome State Fault Refusal :=
  .next (s.slotOp t (3 + slot.val) (bankFields 3 o) (fun s => s.bankOp t (3 + slot.val) 3 o))

/-- ZERO: writes all-zero rows (R65). -/
def execBankZero (t : TileId) (slot : Fin 2) (o : BankOp) (s : State) : Host.Outcome State Fault Refusal :=
  .next (s.slotOp t (3 + slot.val) (bankFields 4 o) (fun s => s.bankOp t (3 + slot.val) 4 o))

/-- STREAM_WS: rows through a K-major set (R102, R103). -/
def execStreamWs (t : TileId) (o : ArrOp) (s : State) : Host.Outcome State Fault Refusal :=
  .next (s.slotOp t 2 (arrFields 1 o) (fun s => s.stream t 0 o))

/-- STREAM_AS: rows through a column-major set (R102, R103). -/
def execStreamAs (t : TileId) (o : ArrOp) (s : State) : Host.Outcome State Fault Refusal :=
  .next (s.slotOp t 2 (arrFields 2 o) (fun s => s.stream t 1 o))

/-- STREAM_CONV: rows judged by an address generator (R102, R103, R108). -/
def execStreamConv (t : TileId) (o : ArrOp) (s : State) : Host.Outcome State Fault Refusal :=
  .next (s.slotOp t 2 (arrFields 5 o) (fun s => s.stream t 2 o))

/-- SHADOW_LOAD (R97). -/
def execShadowLoad (t : TileId) (o : ArrOp) (s : State) : Host.Outcome State Fault Refusal :=
  .next (s.slotOp t 2 (arrFields 3 o) (fun s => s.shadowLoad t o))

/-- SWAP (R99). -/
def execSwap (t : TileId) (s : State) : Host.Outcome State Fault Refusal :=
  .next (s.slotOp t 2 [(39, 35, 4)] (fun s => s.swap t))

/-- CLEAR (R104). -/
def execClear (t : TileId) (o : ArrOp) (s : State) : Host.Outcome State Fault Refusal :=
  .next (s.slotOp t 2 [(39, 35, 6), (24, 13, o.count.toNat)] (fun s => s.clear t o))

/-- The shadow set becomes complete 4 beats after its last load row lands (R98), or while the tile is held at its last
bundle (R101). -/
def execShadowComplete (t : TileId) (s : State) : Host.Outcome State Fault Refusal :=
  match (s.tile t).arr.completeAt with
  | some b =>
    if b ≤ (s.tile t).til.beat ∨ (s.tile t).til.drained then
      .next (s.updArr t (fun a => { a with complete := true, completeAt := none, freshAt := some (s.tile t).til.beat }))
    else .next s
  | none => .next s

/-- An entry is updated and its rounded output row is presented 66 beats after its input row was accepted (R103), or
while the tile is held at its last bundle (R46). -/
def execArrayOutput (t : TileId) (s : State) : Host.Outcome State Fault Refusal :=
  match (s.tile t).arr.rows with
  | r :: _ => if r.beat + 66 = (s.tile t).til.beat ∨ (s.tile t).til.drained then .next (s.arrayOutput t r) else .next s
  | [] => .next s

/-- The comparison of an output row concludes; `delta` is what a fault adds to the difference of its two sides, which for
residues is taken modulo M (R113 to R115). -/
def execChecksumCompare (t : TileId) (delta : Int) (s : State) : Host.Outcome State Fault Refusal :=
  match (s.tile t).arr.checks with
  | c :: _ =>
    let s1 := s.updArr t (fun a => { a with checks := a.checks.drop 1 })
    let d : Int := if c.cause = 2 then (c.delta + delta) % residueMod else c.delta + delta
    if c.skip || decide (d = 0) then .next s1
    else .next (s1.arrayCheck t c.cause c.entry d)
  | [] => .next s

end Sys2Proof.Machine
end

