-- ==== Sys2Proof/Machine/Mesh.lean ====
section
/-! DEFINITION. Mesh commands: mesh-slot ops, tokens on lanes, wheel injections, circuit writes and the stall sentinel
(R68, R177 to R203). -/

namespace Sys2Proof.Machine

/-! ### Injections (R186) -/

/-- The row of an injection is read through port X, or waits for its pail; a read that the bank refuses sends poison
(R154, R160, R170, R186).  `k` is the circuit register, 32 for an INJECT op. -/
def State.injectRead (s : State) (t flat : Nat) (lanes : List Nat) (last : Bool) (deliv k : Nat) : State :=
  let b := bankOf flat
  let st := s.portXStatus t flat [1]
  let op := decide (k = 32)
  if st ≠ 0 then (s.rejectX t flat st 0).queueInjection t lanes none false deliv op
  else
    let s1 := s.updBank t b (fun v => { v with busy := true })
    match s1.fetchRow t flat (some ((s.tile t).til.beat + 2)) with
    | (some d, s2) => s2.queueInjection t lanes (some d) last deliv op
    | (none, s2) =>
      (s2.countBlock t b false).updSw t (fun w =>
        if op then { w with waitInj := some ⟨flat, lanes, deliv⟩ }
        else { w with waitCirc := w.waitCirc ++ [(k, flat)] })

/-- The address of a mesh-slot op relative to its context, and the state with S(sidx) incremented by mode 2 (R68).
(DEDUCED, log 29) -/
def State.meshRow (s : State) (t : Nat) (o : MeshOp) : Nat × State :=
  let x := s.sreg t o.sidx
  if o.mode.val = 0 then (o.row.toNat, s)
  else
    let r := (o.row.toNat + x.toNat) % 2 ^ 32
    if o.mode.val = 2 then
      (r, s.updTil t (fun m => { m with swrites := m.swrites ++ [⟨m.beat, false, o.sidx, x + 1⟩] }))
    else (r, s)

/-- An INJECT op issues (R68, R186, R201). (DEDUCED, log 29) -/
def State.inject (s : State) (t : Nat) (o : MeshOp) : State :=
  if o.mode.val = 3 then s.taskFault t 3
  else
    let ents := ((List.range 8).map (fun l => (l, (s.tile t).sw.entry l ((s.slotOf t + 2) % 64)))).filter (fun q =>
      weValid q.2 && decide (s.circAhead t (weCirc q.2) ≠ 0) && decide (weSrc q.2 = 8) && !weTrig q.2)
    let lanes := ents.map (·.1)
    if o.lane.val ∉ lanes then s.taskFault t 5
    else
      let deliv := ((ents.head?).map (fun q => weDeliv q.2)).getD 0
      let (r, s1) := s.meshRow t o
      let s2 := s1.updSw t (fun w => { w with injects := w.injects + 1 })
      let (base, bound) := s2.dataRange t (s2.tile t).til.active
      if bound ≤ r then (s2.taskFault t 1).queueInjection t lanes none false deliv true
      else
        (s2.updSw t (fun w => { w with opBank := some (bankOf (base + r)) })).injectRead t (base + r) lanes false deliv 32

/-- A flat row that no bank holds: the landing that uses it is discarded. -/
def noRow : Nat := 65536

/-- A LAND op issues: its lane is expected in this beat (R68, R74, R75, R179). -/
def State.landOp (s : State) (t : Nat) (o : MeshOp) : State :=
  if o.mode.val = 3 then s.taskFault t 3
  else
    let (r, s1) := s.meshRow t o
    let c := (s1.tile t).til.active
    let (base, bound) := s1.dataRange t c
    let expect (a : State) (flat : Nat) : State :=
      a.updSw t (fun w => { w with landOps := w.landOps ++ [(o.lane.val, flat)] })
    if bound ≤ r then expect (s1.taskFault t 1) noRow
    else if c ≠ 0 && s1.inCode t (base + r) then expect (s1.taskFault t 7) noRow
    else (expect s1 (base + r)).updSw t (fun w => { w with opBank := some (bankOf (base + r)) })

/-- WHEEL_STAGE: a malformed entry raises ILLEGAL_OP and stages nothing (R68, R184). -/
def State.wheelStage (s : State) (t lane slot : Nat) (e : Word32) : State :=
  if weMalformed e.toNat then s.taskFault t 3
  else s.stageEntry t (64 * lane + slot) (BitVec.ofNat 32 (weMask e.toNat))

/-- INJECT (R68, R186). -/
def execInject (t : TileId) (o : MeshOp) (s : State) : Host.Outcome State Fault Refusal :=
  .next (s.slotOp t 5 (meshFields 1 o) (fun s => (s.inject t o).serveLanes t))

/-- LAND (R68, R186). -/
def execLand (t : TileId) (o : MeshOp) (s : State) : Host.Outcome State Fault Refusal :=
  .next (s.slotOp t 5 (meshFields 2 o) (fun s => (s.landOp t o).serveLanes t))

/-- WHEEL_STAGE (R68, R189). -/
def execWheelStage (t : TileId) (lane : LaneId) (slot : Fin 64) (r : SReg) (s : State) :
    Host.Outcome State Fault Refusal :=
  .next (s.slotOp t 5 [(31, 28, 3), (27, 25, lane.val), (24, 19, slot.val), (18, 14, r.val)]
    (fun s => (s.wheelStage t lane slot (s.sreg t r)).serveLanes t))

/-! ### Tokens on lanes -/

/-- The tile and outgoing lane that feed incoming lane `i` of tile `t`. -/
def laneStart (t i : Nat) : Option (Nat × Nat) := laneEnd t i

/-- The token that comes next on outgoing lane `o` of tile `u`: on its wires, or in the last ferry switch (R374). -/
def State.nextToken (s : State) (u o : Nat) : Option Token :=
  if s.ferryStages u o = 0 then Map.get (s.tile u).sw.outs none o else (Map.get (s.tile u).sw.ferry [] o).head?

/-- A token sent by the neighbour reaches the input register of lane `i`, if that is free (R45, R179, R180).  `tok` is
the token as received where a wire changed it; `par` names a wheel whose entry of this slot no longer fits its parity
(R190). (DEDUCED, log 29) -/
def State.tokenArrive (s0 : State) (t i : Nat) (tok : Option Token) (par : Option Nat) : State :=
  let s := match par with
    | some o => (s0.upset t (64 * o + s0.slotOf t)).parityUse t o (s0.slotOf t)
    | none => s0
  let w := (s.tile t).sw
  match laneStart t i with
  | none => s
  | some (u, o) =>
    match s.nextToken u o with
    | none => s
    | some k =>
      if w.owed.contains i then s.serveLane t i
      else if (Map.get w.inputs none i).isSome then s
      else
        let put := fun (l : List Nat) (a : State) => ((a.updSw t (fun w => { w with
          inputs := Map.put w.inputs none i (some (tok.getD k)), owed := w.owed ++ l })).handshake t (8 + i) 0x994).serveLane
            t i
        if s.ferryStages u o = 0 then put [i] s
        else put [] (s.updSw u (fun w => { w with ferry := Map.put w.ferry [] o ((Map.get w.ferry [] o).drop 1) }))

/-- TOKEN_ARRIVE. -/
def execTokenArrive (t : TileId) (lane : LaneId) (tok : Option Token) (par : Option LaneId) (s : State) :
    Host.Outcome State Fault Refusal :=
  .next (s.tokenArrive t lane tok (par.map (·.val)))

/-- The token of outgoing lane `o` is acknowledged: the lane falls silent, and its fork may close (R191). -/
def State.laneAcked (s : State) (t o : Nat) : State :=
  s.updSw t (fun w => closeForks { w with
    outs := Map.put w.outs none o none,
    forks := w.forks.map (fun f => { f with lanes := f.lanes.filter (fun x => decide (x ≠ o)) }) })

/-- The next stage acknowledges the token of outgoing lane `o`: it holds a token of its own epoch whose beat has not come, every
branch of its fork has taken it, or it has discarded a foreign one; a token of the next epoch waits unacknowledged (R45, R179,
R191).  A ferry switch that is free takes any token (R374). (DEDUCED, log 29) -/
def State.tokenAck (s : State) (t o : Nat) : State :=
  match laneEnd t o, Map.get (s.tile t).sw.outs none o with
  | some (n, i), some k =>
    if s.ferryStages t o ≠ 0 then
      let q := Map.get (s.tile t).sw.ferry [] o
      if q.length < s.ferryStages t o then
        (s.updSw t (fun w => { w with ferry := Map.put w.ferry [] o (q ++ [k]) })).laneAcked t o
      else s
    else
      let w := (s.tile n).sw
      let early := match Map.get w.inputs none i with
        | some k => decide (k.tag.toNat = (s.regN n 0xf00 + 1) % 16)
        | none => false
      if w.owed.contains i && !early && !w.forks.any (fun f => decide (f.src = i)) then
        (s.updSw n (fun w => { w with owed := w.owed.filter (fun x => decide (x ≠ i)) })).laneAcked t o
      else s
  | _, _ => s

/-- A handshake over a seam lane: each of its six wires, request 0 to 2 and acknowledge 3 to 5, that disagreed with its
majority counts, and a row of disagreements ends where the wire agreed (R193). -/
def State.seamAgree (s : State) (t o : Nat) (off : BitVec 6) : State :=
  match s.seamLane t o with
  | none => s
  | some n =>
    let l := (List.range 6).filter (fun w => off.getLsbD w)
    s.updSeam n (fun v => { v with
      hs := min (v.hs + l.length) 0xFFFFFFFF, hsRun := l.map (fun w => (w, Map.get v.hsRun 0 w + 1)) })

/-- TOKEN_ACK: a handshake counts for the lane that HS_SEL selects (R468); `off` names the wires of a seam lane's handshake
that disagreed (R193). -/
def execTokenAck (t : TileId) (lane : LaneId) (off : BitVec 6) (s : State) : Host.Outcome State Fault Refusal :=
  let s1 := s.tokenAck t lane
  let done := decide ((Map.get (s.tile t).sw.outs none lane).isSome ∧ (Map.get (s1.tile t).sw.outs none lane).isNone)
  .next (if done then
    let s2 := (s1.seamAgree t lane off).handshake t lane.val 0x998
    match laneEnd t lane with
    | some (n, i) => s2.handshake n (8 + i) 0x998
    | none => s2
  else s1)

/-- The lowest wheel of the injection of circuit register `k` that reads in this beat fails its parity (R190). -/
def State.upsetInjection (s : State) (t k : Nat) : State :=
  match s.trigWheels t k with
  | [] => s
  | (o, _) :: _ => (s.upset t (64 * o + (s.slotOf t + 2) % 64)).parityUse t o ((s.slotOf t + 2) % 64)

/-- A wheel injection reads the row of circuit register `k` for the entries that are valid in this beat; `par` tells that its
lowest entry no longer fits its parity (R186, R190). -/
def State.wheelInjection (s0 : State) (t k : Nat) (par : Bool) : State :=
  let w := (s0.tile t).sw
  if !s0.canIssue t || !s0.meshSettled t || w.doneCirc.contains k then s0
  else
    let s := if par then s0.upsetInjection t k else s0
    let ents := s.trigWheels t k
    match ents with
    | [] => s
    | (_, e) :: _ =>
      let lanes := ents.map (·.1)
      let (flat, ok) := s.grantOf t true k
      let last := s.lastOfPeriod t k
      let s1 := (s.updSw t (fun w => { w with doneCirc := w.doneCirc ++ [k] })).circUse t k
      match flat with
      | none => (s1.taskFault t 1).queueInjection t lanes none false (weDeliv e) false
      | some f =>
        if !ok then (s1.excess t).queueInjection t lanes none false (weDeliv e) false
        else s1.injectRead t f lanes last (weDeliv e) k

/-- WHEEL_INJECTION. -/
def execWheelInjection (t : TileId) (k : Fin 32) (par : Bool) (s : State) : Host.Outcome State Fault Refusal :=
  .next (s.wheelInjection t k par)

/-- A towpath write to WHEEL_DATA once the basin has started is a batch of its own for the basin's next lock (R203).
(DEDUCED, log 24) -/
def State.wheelBatch (s : State) (t v : Nat) : Nat × State :=
  if weMalformed v then (rspRefused, s)
  else
    let sel := s.regN t 0x4000
    let w := (0x10000 + 64 * (sel % 8) + sel / 256 % 64, weMask v)
    (rspOK, s.updTile t (fun tl => { tl with tp := { tl.tp with
      batches := tl.tp.batches ++ [⟨0, (s.nextLock t).getD 0, some 1, 1, [w], false, none, []⟩] } }))

/-- A write to WHEEL_DATA by context 0 or the towpath stages the selected entry (R189, R203). (DEDUCED, log 24) -/
def execWheelDataWrite (t : TileId) (ctx : Option (Fin 4)) (val : Word32) (s : State) :
    Host.Outcome State Fault Refusal :=
  .next (s.ctl0Write t ctx (fun _ s =>
    if ctx.isNone && s.runs t then s.wheelBatch t val.toNat else s.wheelWrite t val.toNat))

/-- A write of a circuit register takes effect from the next beat; its ring is clamped (R185, R203). -/
def execCircWrite (t : TileId) (ctx : Option (Fin 4)) (k : Fin 32) (row : Bool) (val : Word32) (s : State) :
    Host.Outcome State Fault Refusal :=
  let off := circOff k + if row then 4 else 0
  .next (match ctx with
    | none => s.towpathAsk t (fun s => s.regWrite t off val.toNat none)
    | some c => if (s.tile t).dark then s else (s.regWrite t off val.toNat (some c.val)).2)

/-! ### Pails (R160, R161) -/

/-- The injections of a tile that wait on a pail of bank `b` try their rows again. -/
def State.retryInjects (s : State) (t b : Nat) : State :=
  let w := (s.tile t).sw
  let due := some ((s.tile t).til.beat + 2)
  let s1 := match w.waitInj with
    | some j =>
      if bankOf j.flat = b then
        match s.fetchRow t j.flat due with
        | (some d, a) => (a.updSw t (fun w => { w with waitInj := none })).queueInjection t j.lanes (some d) false j.deliv true
        | (none, _) => s
      else s
    | none => s
  w.waitCirc.foldl (fun a x =>
    if bankOf x.2 = b then
      match a.fetchRow t x.2 due with
      | (some d, a1) =>
        let ents := a1.trigWheels t x.1
        (a1.updSw t (fun w => { w with waitCirc := w.waitCirc.filter (fun y => decide (y ≠ x)) })).queueInjection t
          (ents.map (·.1)) (some d) (a.lastOfPeriod t x.1) ((ents.head?.map (fun q => weDeliv q.2)).getD 0) false
      | (none, _) => a
    else a) s1

/-- PAIL_RESUME: accesses of bank `b` that a pail tag held try again (R28, R160, R161). -/
def execPailResume (t : TileId) (bank : BankId) (s : State) : Host.Outcome State Fault Refusal :=
  .next (if s.canIssue t then ((s.retryStreams t bank).retryLands t bank).retryInjects t bank else s)

/-! ### The stall sentinel (R198, R199) -/

/-- What a STALL carries of tile `t`. -/
def State.stallRec (s : State) (t : Nat) : StallRec :=
  let (c, u) := s.stallCause t
  let (ins, outs) := s.laneMasks t
  ⟨t, c, ins, outs, s.regN t 0xf08, u⟩

/-- The tiles of a berth that a mask names, in order of y, then x. -/
def berthMask (h : Nat) (mask : BitVec 16) : List Nat :=
  ((List.range 16).filter (fun i => mask.getLsbD i)).map (fun i => tileAt (4 * (h % 12) + i % 4) (4 * (h / 12) + i / 4))

/-- A berth's sentinel raises STALL for the tiles whose wait exceeds the limit, once per epoch. -/
def State.stall (s : State) (h : Nat) (mask : BitVec 16) : State :=
  let ts := berthMask h mask
  match ts with
  | [] => s
  | t :: _ =>
    match s.basinOf t with
    | none => s
    | some b =>
      let asked := s.heldByRequest b && (match (s.basin b).result with | some r => decide (r.faults = 0) | none => true)
      if (s.basin b).stalled.contains h || asked || s.boot.resets.any (fun r => decide (t ∈ r.tiles)) then s
      else
        let recs := ts.map s.stallRec
        let m := s.tileMsg t 10 (s.stallCause t).1
        let s1 := s.updBasin b (fun v => { v with stalls := v.stalls ++ recs, stalled := v.stalled ++ [h] })
        let s2 := { s1 with alarmQ := s1.alarmQ ++ [m] }
        s2.bumpObj 0x2621 1 1

/-- STALL. -/
def execStall (b : BerthId) (mask : BitVec 16) (s : State) : Host.Outcome State Fault Refusal :=
  .next (s.stall b mask)

/-- Whether a stalled tile's cause points along a lane to another stalled tile. -/
def StallRec.points (r : StallRec) (l : List StallRec) : Bool :=
  let points (lanes : List Nat) : Bool := lanes.any (fun i => match laneEnd r.tile i with
    | some (n, _) => l.any (fun x => decide (x.tile = n))
    | none => false)
  if r.cause = 1 then points r.ins else if r.cause = 2 then points r.outs else false

/-- The record of lowest y, then lowest x. -/
def lowestRec : List StallRec → Option StallRec
  | [] => none
  | r :: rest => match lowestRec rest with
    | some x => some (if r.tile ≤ x.tile then r else x)
    | none => some r

/-- One sentinel limit after the first STALL, the Lockkeeper builds the STALL record and recovery begins (R199, R391). -/
def State.stallRecord (s : State) (b : Nat) : State :=
  let l := (s.basin b).stalls
  let roots := l.filter (fun r => !r.points l)
  match (match lowestRec roots with | some r => some r | none => lowestRec l) with
  | none => s
  | some r =>
    let fields : List (Nat × Nat) := [(2, b), (3, tx r.tile + 256 * ty r.tile), (4, r.cause), (5, maskOf r.ins),
      (6, maskOf r.outs), (7, r.beat), (8, s.obj (0x2610 + b) 1), (9, l.length), (0xA, r.unit),
      (0xB, b2n roots.isEmpty)]
    let s1 := fields.foldl (fun a f => a.setObj 0x2621 f.1 f.2) s
    (s1.updBasin b (fun v => { v with stalls := [] })).raiseStop b r.tile 10

/-- STALL_RECORD. -/
def execStallRecord (b : BasinId) (s : State) : Host.Outcome State Fault Refusal := .next (s.stallRecord b)

end Sys2Proof.Machine
end

