-- ==== Sys2Proof/Machine/Beat.lean ====
section
/-! DEFINITION. Pace pulses and beats (R34, R38, R46, R49, R50, R69, R78, R341). -/

namespace Sys2Proof.Machine

/-! ### Pulses -/

/-- The skim level that the demands of SKIM_K ask for: the largest, at most 12 (R342). -/
def State.skimDemand (s : State) (t : Nat) : Nat :=
  let v := s.skimK t
  min 12 (max (max (max (bitsOf v 7 4) (bitsOf v 11 8)) (max (bitsOf v 15 12) (bitsOf v 19 16))) (bitsOf v 23 20))

/-- Whether skim removes pulse `i` of a frame at level `k` (R341). -/
def skimmed (i k : Nat) : Bool := decide (i * k / 16 < (i + 1) * k / 16)

/-- The wait of the lane that HS_SEL selects grows by a pulse (R468). -/
def State.hsPulse (s : State) (t : Nat) : State :=
  let l := s.regN t 0x990
  let waiting := if l < 8 then (Map.get (s.tile t).sw.outs none l).isSome else
    (match laneEnd t (l - 8) with
     | some (u, o) => (Map.get (s.tile u).sw.outs none o).isSome
     | none => false)
  if waiting then
    let n := (s.tile t).sw.hsWait + 1
    (s.updSw t (fun w => { w with hsWait := n })).setRegN t 0x99c (max n (s.regN t 0x99c))
  else s

/-- The bank ops whose pail row holds the tile now are counted, each access once (R174). (DEDUCED, log 28) -/
def State.countStreams (s : State) (t : Nat) : State :=
  (s.tile t).til.streams.foldl (fun a m =>
    if m.blocked && !m.counted then (a.countBlock t (bankOf m.flat) (m.op != 1)).putStream t { m with counted := true } else a) s

/-- A pulse that finds its beat not complete is held (R34, R191, R349). -/
def State.heldPulse (s : State) (t : Nat) : State :=
  let tl := s.tile t
  let s1 := ((s.bumpReg t 0xf20 1).countStreams t).departHeld t
  let s2 := if tl.sw.forks.isEmpty then s1 else s1.bumpReg t 0x4034 1
  let asked := match s.basinOf t with | some b => s.heldByRequest b | none => false
  if asked || tl.til.frozen || s.powerHeld t then s2 else s2.countReg t 0x7134 1

/-- A pace pulse: skim may remove it; one that finds an earlier pulse still waiting is held. (DEDUCED, log 81 and 118) -/
def State.pacePulse (s : State) (t : Nat) : State :=
  let m := (s.tile t).til
  let i := m.pulses % 16
  let s1 := if i = 0 then s.setRegN t 0x7100 (s.regN t 0x7100 / 16 * 16 + s.skimDemand t) else s
  let s2 := (s1.hsPulse t).updTil t (fun m => { m with pulses := m.pulses + 1 })
  if skimmed i (s2.regN t 0x7100 % 16) then s2
  else if m.pulse then s2.heldPulse t
  else s2.updTil t (fun m => { m with pulse := true })

/-- The banks of a tile that is in no beat: copies on their way arrive and the row window is served (R165, R169). -/
def State.idleBanks (s : State) (t : Nat) : State :=
  if s.canIssue t then s else (s.copyEnds t ((s.tile t).til.beat + 2)).winStep t

/-! ### When a beat completes (R34, R179) -/

/-- Whether nothing is in flight in the array (R46, R101). -/
def ArrayUnit.idle (a : ArrayUnit) : Bool :=
  a.rows.isEmpty && a.checks.isEmpty && a.streams.isEmpty && a.load.isNone && a.completeAt.isNone

/-- Whether the beat in progress waits for nothing but its pulse; the last of an epoch waits for its checks (R46).
(DEDUCED, log 5) -/
def State.beatReady (s : State) (t : Nat) : Bool :=
  let tl := s.tile t
  let m := tl.til
  s.canIssue t && !s.powerHeld t && m.unissued.isEmpty &&
  !(m.streams.any (fun x => x.blocked)) && tl.tp.waitBar.isNone &&
  (List.range 8).all (fun i => !s.expected t i || tl.sw.taken.contains i) &&
  tl.sw.outs.isEmpty && tl.sw.forks.isEmpty && tl.sw.waitInj.isNone &&
  (s.dueInjections t).isEmpty && tl.sw.waitCirc.isEmpty && (!m.endIssued || tl.sw.injections.isEmpty) &&
  tl.arr.rows.all (fun r => decide (m.beat < r.beat + 66)) &&
  tl.arr.checks.all (fun c => decide (m.beat < c.beat + 4)) &&
  (match tl.arr.completeAt with | some u => decide (m.beat < u) | none => true) &&
  (!m.endIssued || tl.arr.idle)

/-! ### The end of a beat -/

/-- Errors whose data is presented by the end of the beat (R147); poison that a scalar load takes only marks the fault
summary. -/
def State.raiseDues (s : State) (t beat : Nat) : State :=
  let due := (s.tile t).dues.filter (fun d => decide (d.beat ≤ beat))
  let s1 := s.updTile t (fun tl => { tl with dues := tl.dues.filter (fun d => decide (beat < d.beat)) })
  due.foldl (fun a d => if d.cause = 0 then a.poisonTaken t else a.tileError t d.bit d.cause d.detail d.aux) s1

/-- What the banks do between two beats: a closing sleep gate, and uses and waiting agents that no later beat can meet (R150,
R151, R152, R170). -/
def Bank.turn (k : Bank) (beat : Nat) : Bank :=
  { k with
    sleep := if k.sleep = 1 then 2 else k.sleep,
    busy := false, fill := false, uses := k.uses.filter (fun u => decide (beat ≤ u.beat)),
    waits := k.waits.filter (fun w => decide (beat ≤ w.2)) }

/-- Owners staged in the beat that ends are judged on the state of the bank at its end (R155). -/
def State.ownersJudge (s : State) (t : Nat) : State :=
  (s.tile t).banks.foldl (fun a p => if p.2.ownerNext then a.ownerJudge t p.1 else a) s

/-- The circuit registers at the end of a beat: rows advance, counts run down at slot 63, and writes take effect
(R185, R203). -/
def State.circTurn (s : State) (t : Nat) : State :=
  let s1 := s.circAdvance t
  let s2 := if s.slotOf t = 63 then
      (List.range 32).foldl (fun a k =>
        let v := a.regN t (circOff k)
        if v % 65536 = 0 then a else a.setRegN t (circOff k) (v - 1)) s1
    else s1
  let pend := (s2.tile t).sw.circPend
  let s3 := s2.updSw t (fun w => { w with circPend := [] })
  pend.foldl (fun a p => a.circStore t p.1 p.2.1.toNat p.2.2) s3

/-- The late check of the beat count by a tile that has reported EPOCH_LEN: BEAT_MISMATCH, which its basin counts (R50,
R57). -/
def State.countCheck (s : State) (t : Nat) : State :=
  let tl := s.tile t
  let n := s.regN t 0xf08 + 1
  let len := s.regN t 0xf0c
  let bad := tl.lk.reported && (if tl.til.endIssued then decide (n ≠ len) else decide (n = len))
  if bad then
    let s1 := s.tileError t 7 0xD 0
    match s.basinOf t with
    | some b => s1.bumpObj (0x2610 + b) 0xA 1
    | none => s1
  else s

/-- The effects that fall at the end of a beat; the last of an epoch ends once every check of its data has concluded
(R46). (DEDUCED, log 5 and 125) -/
def State.beatEnd (s : State) (t : Nat) : State :=
  let m := (s.tile t).til
  let s1 := s.arrayBeat t
  let s1' := s1.streamWrites t
  let s2 := match m.lrw with
    | some (off, v) => (s1'.regWrite t off v.toNat (some m.active)).2
    | none => s1'
  let s3 := ((s2.endDraws t).applySWrites t m.beat).applyVWrites t m.beat
  let s4 := ((s3.raiseDues t (if m.endIssued then m.beat + 2 else m.beat)).circTurn t).countCheck t
  let s5 := (if m.cur.isSome then s4.countReg t 0x7124 1 else s4).countReg t 0x712c 1
  let s6 := ((s5.copyEnds t m.beat).winStep t).ownersJudge t
  s6.updTile t (fun tl => { tl with
    banks := tl.banks.foldl (fun k p => Map.put k Bank.init p.1 (p.2.turn m.beat)) tl.banks,
    bargeNow := false, bargeAsks := tl.bargeAsks.filter (fun a => decide (m.beat ≤ a.2)),
    sw := { tl.sw with taken := [], landOps := [], doneCirc := [], opBank := none, injects := 0, bad := [] },
    til := { tl.til with
      beat := tl.til.beat + 1, pulse := false, slots := [], lrw := none, cur := none, delay := tl.til.delay - 1,
      fetchNow := false, badBank := none } })

/-! ### The next beat -/

/-- The beat after one that completed begins: its bundle, the accesses of streams, departures, and tokens that wait. -/
def State.beatBegin (s : State) (t : Nat) : State :=
  let s1 := s.setRegN t 0xf08 ((s.regN t 0xf08 + 1) % 2 ^ 32)
  let s2 := if s1.runs t then s1.nextBundle t else s1
  ((((s2.restartGens t).streamsBeat t).parityBeat t).departures t).serveLanes t

/-- The tile has completed its last bundle of the epoch: it waits at its lock.  When it is the last of its basin the
clean horizon passes, and it passes first at every tile or STOP does (R46, R49, R390).  Fetch continues in the lock
beat (R73). -/
def State.reachLock (s : State) (t : Nat) : State :=
  let s0 := s.updTile t (fun tl => { tl with lk := { tl.lk with atLock := true } })
  let s1 := ((if s0.runs t then s0.fetch t else s0)).streamsBeat t
  match s1.basinOf t with
  | none => s1
  | some b =>
    let ts := s1.basinTiles b
    if s1.allAtLock b && !(s1.basin b).stop && (s1.basin b).lockDone.isEmpty then
      ts.foldl (fun a u => a.updTile u (fun tl => { tl with lk := { tl.lk with cleanPass := true } })) s1
    else s1

/-- A mismatch on the slot controls of the bundle in progress: what it has not issued does not issue (R78). (DEDUCED,
log 126) -/
def State.stopBundle (s : State) (t : Nat) : State := s.updTil t (fun m => { m with slots := [0, 1, 2, 3, 4, 5, 6] })

/-- TILLER_MISMATCH: the tile freezes before its next bundle, and completes no beat after the one in progress (R78).
(DEDUCED, log 126) -/
def State.tillerMismatch (s : State) (t : Nat) : State :=
  ((s.updTil t (fun m => { m with frozen := true })).bumpReg t 0x20 1).tileError t 6 1 0

/-- An uncorrectable Kolvos error of the rows that enter the array from a source in this beat: they enter as poison
(R105, R116). -/
def State.feedFails (s : State) (t src : Nat) : State :=
  let u := (s.tile t).til.beat
  s.updArr t (fun a => { a with
    feed := a.feed.map (fun r => if r.beat = u ∧ r.src = src then { r with poison := true } else r) })

/-- What a guard that fails in this beat raises (R78, R83, R116). (DESIGN CHOICE, log 140) -/
def State.guardFails (s : State) (t : Nat) (c : CheckFail) : State :=
  match c with
  | .tiller _ => s.tillerMismatch t
  | .vector => s.tileError t 5 4 0
  | .bankAddress _ => s
  | .trunk => s.arrayCheck t 3 0 0
  | .rounding entry => s.arrayCheck t 4 entry.toNat 0
  | .arrayInput src => (s.feedFails t src.val).arrayCheck t 5 0 0

/-- The beat in progress completes, and the next one begins unless this was the tile's last of the epoch, the tile's
tiller copies differ (R78), or STOP has reached the tile (R391).  A beat that cannot complete yet serves the tokens that waited
for its bundle's ops; a tile held at its last bundle lets the array finish what is in flight (R101). -/
def State.beatComplete (s : State) (t : Nat) (chk : Option CheckFail) : State :=
  let s0 := match chk with | some (.tiller true) => s.stopBundle t | _ => s
  if (s.tile t).til.pulse && s0.beatReady t then
    let last := (s0.tile t).til.endIssued
    let s1 := match chk with | some c => s0.guardFails t c | none => s0
    let s2 := s1.beatEnd t
    if last then s2.reachLock t
    else
      let bad := match chk with | some (.bankAddress b) => some b.val | _ => none
      if (s2.tile t).stop then s2.updTile t (fun tl => { tl with halted := true })
      else if (s2.tile t).til.frozen then s2
      else (s2.updTil t (fun m => { m with badBank := bad })).beatBegin t
  else
    let m := (s.tile t).til
    let a := (s.tile t).arr
    (if m.pulse && m.drained && !(m.streams.any (fun x => x.blocked)) && (!a.streams.isEmpty || a.load.isSome) then
      s.arrayDrain t else s).serveLanes t

/-- BEAT_COMPLETE (R34). -/
def execBeatComplete (t : TileId) (chk : Option CheckFail) (s : State) : Host.Outcome State Fault Refusal :=
  .next (s.beatComplete t chk)

end Sys2Proof.Machine
end

