-- ==== Sys2Proof/Machine/LinkOps.lean ====
section
/-! DEFINITION. Voxvia ports: flits, credits, retry, link-up and the landing and sending of barges (R228 to R258,
R393, R394). -/

namespace Sys2Proof.Machine

/-! ### Reads and writes -/

/-- Port `p`. -/
def State.port (s : State) (p : Nat) : Port := Map.get s.link.ports Port.init p

/-- Changes port `p`. -/
def State.updPort (s : State) (p : Nat) (f : Port → Port) : State :=
  { s with link := { s.link with ports := Map.put s.link.ports Port.init p (f (s.port p)) } }

/-- The index of a port's objects (R262). -/
def portObj (p : Nat) : Nat := 0x2400 + p

/-- The port state of R262. -/
def State.portState (s : State) (p : Nat) : Nat := s.obj (portObj p) 1

/-- The common minor version in force (R254). -/
def State.portMinor (s : State) (p : Nat) : Nat := s.obj (portObj p) 6 % 256

/-! ### Attachment tiles (R228, R375) -/

/-- Attachment tile `k` at port `j` of a link block (R228); the north blocks follow the shape in force (R375). -/
def State.attachXY (s : State) (lb j k : Nat) : Nat × Nat :=
  let top := s.boot.rowsLow + s.boot.rowsHigh - 1
  match lb with
  | 0 => (7 + j, 3 * k)
  | 1 => (13 + j, 3 * k)
  | 2 => (19 + j, 3 * k)
  | 3 => (25 + j, 3 * k)
  | 4 => (31 + j, 3 * k)
  | 5 => (37 + j, 3 * k)
  | 6 => (47 - 3 * k, 13 + j)
  | 7 => (47 - 3 * k, s.boot.rowsLow + 7 + j)
  | 8 => (7 + j, top - 3 * k)
  | 9 => (13 + j, top - 3 * k)
  | 10 => (19 + j, top - 3 * k)
  | 11 => (25 + j, top - 3 * k)
  | 12 => (31 + j, top - 3 * k)
  | 13 => (37 + j, top - 3 * k)
  | 14 => (3 * k, 13 + j)
  | _ => (3 * k, s.boot.rowsLow + 7 + j)

/-- The tile of attachment index `i` in the block of port `p`. -/
def State.attachTile (s : State) (p i : Nat) : Nat :=
  let (x, y) := s.attachXY (p / 4) (i / 4 % 4) (i % 4)
  tileAt x y

/-- Whether attachment index `i` of the port's block is absent (R375). -/
def State.attachAbsent (s : State) (p i : Nat) : Bool := bitOf (s.obj (portObj p) 0x1B) i

/-! ### Flits (R234 to R236) -/

/-- Header fields (R234). -/
def flitType (f : Flit) : Nat := (f.extractLsb' 40 4).toNat
def flitPoison (f : Flit) : Bool := f.getLsbD 39
def flitLast (f : Flit) : Bool := f.getLsbD 38
def flitChannel (f : Flit) : Nat := (f.extractLsb' 30 8).toNat
def flitSeq (f : Flit) : Nat := (f.extractLsb' 8 14).toNat
/-- Payload and check bits as one Kolvos word. -/
def flitWord (f : Flit) : CodeWord := f.extractLsb' 44 276

/-- The CRC-8 of header bits [43:8], most significant bit first, initial value 0 (R234). -/
def headerCrc (bits : BitVec 36) : BitVec 8 := BitVec.ofNat 8 (polyRem 0x107 8 (bits.toNat * 2 ^ 8) 44 0)

/-- Whether a flit's header passes its check. -/
def headerOk (f : Flit) : Bool := headerCrc (f.extractLsb' 8 36) == f.extractLsb' 0 8

/-- A flit as a transmitter forms it (R234). -/
def mkFlit (typ : Nat) (poison last : Bool) (ch ridx fseq : Nat) (w : CodeWord) : Flit :=
  let h : BitVec 36 := (BitVec.ofNat 4 typ) ++ (BitVec.ofNat 1 (b2n poison)) ++ (BitVec.ofNat 1 (b2n last)) ++
    (BitVec.ofNat 8 ch) ++ (BitVec.ofNat 8 ridx) ++ (BitVec.ofNat 14 fseq)
  w ++ h ++ headerCrc h

/-! ### Control messages (R237, R240, R241) -/

/-- The port carries flits: its link is trained and the transmitter is not retraining or failed. -/
def State.linkAlive (s : State) (p : Nat) : Bool :=
  let st := s.portState p
  decide (1 ≤ st) && decide (st ≤ 4) && decide ((s.port p).retry < 2)

/-- The control flit of a message: opcode, returned control credits and body (R241). -/
def ctrlFlit (m : CtrlMsg) (freed : Nat) : Flit :=
  let pay : Row := (BitVec.ofNat 8 m.op) ++ (BitVec.ofNat 8 freed) ++ m.body
  mkFlit 4 false false 0 0 0 (kolvosEncode pay)

/-- Sends waiting control messages against control credits: the peer's buffer holds 32 at link-up (R237, R241). -/
def Port.pumpCtrl (q : Port) : Port :=
  let n := 32 + q.ctrlBack - q.ctrlSent
  { q with
    wire := q.wire ++ (q.ctrlOut.take n).map (fun m => ctrlFlit m q.ctrlFreed),
    ctrlSent := q.ctrlSent + (q.ctrlOut.take n).length,
    ctrlOut := q.ctrlOut.drop n }

/-- Queues a control message and sends what may go. -/
def State.sendCtrl (s : State) (p op : Nat) (body : BitVec 240) : State :=
  let s1 := s.updPort p (fun q => { q with ctrlOut := q.ctrlOut ++ [⟨op, body⟩] })
  if s1.linkAlive p then s1.updPort p Port.pumpCtrl else s1

/-- The one NAK for a lost or out-of-order flit (R239). -/
def State.sendNak (s : State) (p : Nat) : State :=
  if (s.port p).nakOut then s
  else (s.updPort p (fun q => { q with nakOut := true })).sendCtrl p 2 (BitVec.ofNat 240 (s.port p).rxSeq)

/-- The CREDIT word that grants channel `c` (256: the completion pool) its running total (R241). (DEDUCED, log 35) -/
def grantWord (c total : Nat) : Nat :=
  if c = 256 then 0xFF + 2 ^ 8 * (total % 2 ^ 15) + 2 ^ 23 else c + 2 ^ 8 * (total % 2 ^ 15)

/-- A CREDIT body of up to nine grants. (DEDUCED, log 35) -/
def creditBody (l : List (Nat × Nat)) : BitVec 240 :=
  BitVec.ofNat 240 ((l.foldr (fun g acc => grantWord g.1 g.2 + 2 ^ 24 * acc) 0))

/-- Grants to a channel or pool in a CREDIT message.  A message that grants nothing else repeats the grant in its other
places. -/
def State.grant (s : State) (p c n : Nat) : State :=
  let total := (Map.get (s.port p).given 0 c + n) % 65536
  (s.updPort p (fun q => { q with given := Map.put q.given 0 c total })).sendCtrl p 3
    (creditBody (List.replicate 9 (c, total)))

/-- A flit of channel `c` leaves the receive buffer: its credit is granted again, and while the shared pool has room the
demand it shows draws one more (R237). (DESIGN CHOICE, log 36) -/
def State.freeFlit (s : State) (p c : Nat) : State :=
  if (s.port p).drain ≠ 0 then s
  else if c = 256 then s.grant p 256 1
  else
    let sh := (s.port p).shared
    let used : Nat := sh.foldl (fun (a : Nat) e => a + e.2) 0
    let mine : Nat := Map.get sh 0 c
    if used < 3328 ∧ mine < 1024 then
      (s.updPort p (fun q => { q with shared := Map.put q.shared 0 c (mine + 1) })).grant p c 2
    else s.grant p c 1

/-- The grants of a link-up: two flits for each channel and 256 completions (R237). (DESIGN CHOICE, log 36) -/
def State.linkGrants (s : State) (p : Nat) : State :=
  let all := ((List.range 256).map (fun c => (c, 2))) ++ [(256, 256)]
  let given : Map Nat := all.foldl (fun m g => Map.put m 0 g.1 g.2) []
  let s1 := s.updPort p (fun q => { q with given := given, shared := [] })
  (List.range 29).foldl (fun a i => a.sendCtrl p 3 (creditBody (
    let l := (all.drop (9 * i)).take 9
    l ++ List.replicate (9 - l.length) (256, 256)))) s1

/-- A grant received: bits [14:0] of a running total, extended from the sender's own count (R241).  A total behind the
one held is an older grant. (DEDUCED, log 35) -/
def Port.takeGrant (q : Port) (w : Nat) : Port :=
  let c := if bitOf w 23 then 256 else w % 256
  let own := Map.get q.granted 0 c
  let step := (bitsOf w 22 8 + 2 ^ 15 - own % 2 ^ 15) % 2 ^ 15
  if step < 2 ^ 14 then { q with granted := Map.put q.granted 0 c ((own + step) % 65536) } else q

/-- Credits a sender holds for a channel or pool. (DEDUCED, log 34) -/
def Port.credits (q : Port) (c : Nat) : Nat := (Map.get q.granted 0 c + 65536 - Map.get q.spent 0 c) % 65536

/-! ### Retry (R238, R239) -/

/-- The port retrains: traffic stops, the retry buffer is kept (R238, R258). -/
def State.startRetrain (s : State) (p : Nat) : State :=
  if s.portState p = 3 then
    (((s.setObj (portObj p) 1 4).bumpObj (portObj p) 0xD 1).agentIrq 0x140 p).updPort p (fun q => { q with retry := 2 })
  else s

/-- Port `p` is down for good (R238, R253, R257). -/
def State.portFailed (s : State) (p : Nat) : State :=
  ((s.setObj (portObj p) 1 5).agentAlarm 0x141 p 16).updPort p (fun q => { q with retry := 3 })

/-- REPLAY from a position of the retry buffer: the buffered flits go out again in order (R238).  After 8 replays in a
row that free no flit the port retrains. -/
def State.replayFrom (s : State) (p : Nat) (l : List Flit) : State :=
  let q := s.port p
  if 8 ≤ q.replays then (s.updPort p (fun q => { q with replays := 0 })).startRetrain p
  else (s.updPort p (fun q => { q with replays := q.replays + 1, wire := q.wire ++ l })).bumpWin
    (objKey (portObj p) 0xC) l.length

/-- A cumulative ACK frees flits up to the one it names (R238, R239). -/
def State.onAck (s : State) (p fseq : Nat) : State :=
  let q := s.port p
  match q.buf.findIdx? (fun f => decide (flitSeq f = fseq)) with
  | some i => s.updPort p (fun q => { q with buf := q.buf.drop (i + 1), replays := 0 })
  | none => s

/-- A NAK moves the transmitter into REPLAY from the FSEQ it names (R238). -/
def State.onNak (s : State) (p fseq : Nat) : State :=
  let q := s.port p
  match q.buf.findIdx? (fun f => decide (flitSeq f = fseq)) with
  | some i => s.replayFrom p (q.buf.drop i)
  | none => s

/-- Sends a data or completion flit: FSEQ, retry buffer and credit (R237, R238). -/
def State.sendFlit (s : State) (p typ : Nat) (poison last : Bool) (ch ridx pool : Nat) (w : CodeWord) : State :=
  s.updPort p (fun q =>
    let f := mkFlit typ poison last ch ridx q.txSeq w
    { q with
      wire := q.wire ++ [f], buf := q.buf ++ [f], txSeq := (q.txSeq + 1) % 16384,
      spent := Map.put q.spent 0 pool ((Map.get q.spent 0 pool + 1) % 65536) })

/-- Whether the transmitter may send a flit of a pool now. -/
def State.maySend (s : State) (p pool : Nat) : Bool :=
  let q := s.port p
  decide (s.portState p = 3) && decide (q.retry = 0) && decide (q.buf.length < 4096) && decide (0 < q.credits pool) &&
  q.helloDone && (decide (s.portMinor p < 2) || (q.syncIn && q.syncAck))

/-! ### Link-up (R253 to R257) -/

/-- The lowest `n` set bits of a mask. -/
def lowestLanes (m n : Nat) : Nat :=
  maskOf (((List.range 8).filter (fun i => bitOf m i)).take n)

/-- Lanes in a mask. -/
def linkLanes (m : Nat) : Nat := ((List.range 8).filter (fun i => bitOf m i)).length

/-- Fields of a HELLO body (R241). -/
def helloField (b : BitVec 240) (hi lo : Nat) : Nat := bitsOf b.toNat hi lo

/-- The lane mode that both directions and both floors allow; none where there is none (R253). -/
def State.laneMode (s : State) (p : Nat) (minor : Nat) : Option Nat :=
  let q := s.port p
  match q.peer with
  | none => none
  | some h =>
    let n := min (linkLanes q.qualRx) (linkLanes (helloField h 31 24 &&& q.qualTx))
    let floor := max (s.obj (portObj p) 5) (helloField h 39 32)
    [8, 6, 4].find? (fun w => decide (w ≤ n) && decide (floor ≤ w) && (decide (w ≠ 6) || decide (2 ≤ minor)))

/-- The module identifier of 0x2000.03 (R241, R310). -/
def moduleId : Nat := (Config.perModule (objKey 0x2000 3)).toNat

/-- This module's HELLO body (R241). -/
def State.helloBody (s : State) (p : Nat) (reply : Bool) : BitVec 240 :=
  let v := s.obj 0x2451 2
  BitVec.ofNat 240 (s.obj 0x2451 1 + 2 ^ 8 * (v / 256) + 2 ^ 16 * (v % 256) + 2 ^ 24 * (s.port p).qualRx +
    2 ^ 32 * s.obj (portObj p) 5 + 2 ^ 40 * moduleId + 2 ^ 104 * p + 2 ^ 112 * b2n reply)

/-- A new link-up: the retry buffer empties and FSEQ restarts in both directions; HELLO goes out (R256). -/
def State.newLinkUp (s : State) (p : Nat) : State :=
  let s1 := s.updPort p (fun q => { q with
    retry := 0, buf := [], replays := 0, txSeq := 0, rxSeq := 0, nakOut := false, kolvosNak := none, unacked := 0,
    granted := [], spent := [], given := [], shared := [], ctrlSent := 0, ctrlBack := 0, ctrlFreed := 0, ctrlOut := [],
    peer := none, helloDone := false, syncGot := [], syncIn := false, syncAck := false, modeDone := true,
    newLink := false })
  s1.sendCtrl p 4 (s1.helloBody p false)

/-- One qualification attempt begins with training of every lane (R257). -/
def State.beginAttempt (s : State) (p : Nat) : State :=
  ((s.setObj (portObj p) 1 1).updPort p (fun q => { q with qualTx := 0xFF, qualRx := 0xFF })).newLinkUp p

/-- A port enable starts qualification or disables the port (R257, R262). -/
def State.portEnable (s : State) (p en : Nat) : State :=
  let s1 := s.setObj (portObj p) 2 (if en = 0 then 0 else 1)
  if en = 0 then (s1.setObj (portObj p) 1 7).updPort p (fun q => { q with retry := 3 })
  else (s1.updPort p (fun q => { q with attempts := 0, retrainFails := 0 })).beginAttempt p

/-- The SYNC set: every channel whose expected number is not 0, five to a message (R241, R256). -/
def syncBodies : List (Nat × Nat) → Nat → List (BitVec 240)
  | [], _ => []
  | l, 0 => [syncBody l true]
  | l, n + 1 => if l.length ≤ 5 then [syncBody l true] else syncBody (l.take 5) false :: syncBodies (l.drop 5) n
where
  /-- One SYNC body. -/
  syncBody (l : List (Nat × Nat)) (last : Bool) : BitVec 240 :=
    BitVec.ofNat 240 ((l.foldr (fun e acc => e.1 + 2 ^ 8 * e.2 + 2 ^ 40 * acc) 0) % 2 ^ 200 +
      2 ^ 200 * l.length + 2 ^ 239 * b2n last)

/-- Sends the set of SYNC messages; one without entries where no channel is to be listed (R241). -/
def State.sendSync (s : State) (p : Nat) : State :=
  let l := ((s.port p).expRx.filter (fun e => decide (e.2 ≠ 0)))
  let bodies := if l.isEmpty then [syncBodies.syncBody [] true] else syncBodies l 64
  bodies.foldl (fun a b => a.sendCtrl p 5 b) s

/-- The link comes up at the common version and lane mode; below version 1.2 no SYNC is exchanged (R253 to R257). -/
def State.portReady (s : State) (p w : Nat) : State :=
  let q := s.port p
  let h := q.peer.getD 0
  let tx := lowestLanes (helloField h 31 24 &&& q.qualTx) w
  let rx := lowestLanes q.qualRx w
  let s1 := ((((s.setObj (portObj p) 1 3).setObj (portObj p) 3 w).setObj (portObj p) 4 (tx + 256 * rx)).setObj
    (portObj p) 7 (helloField h 103 40)).setObj (portObj p) 8 (helloField h 111 104)
  let s2 := (s1.updPort p (fun q => { q with retry := 0, retrainFails := 0 })).linkGrants p
  if 2 ≤ s2.portMinor p then s2.sendSync p else s2

/-- A HELLO: versions must share a major and a minor; a HELLO that is not a reply is answered (R241, R254).  The version
is fixed at link-up, and the first HELLO of an attempt shows its training done (R254, R257). (DEDUCED, log 38) -/
def State.onHello (s : State) (p : Nat) (b : BitVec 240) : State :=
  let own := s.obj 0x2451 2
  let fixed := (s.port p).peer.isSome && decide (3 ≤ s.portState p)
  let minor := if fixed then s.portMinor p else min (own / 256) (helloField b 15 8)
  let low := max (own % 256) (helloField b 23 16)
  if !fixed && (decide (helloField b 7 0 ≠ s.obj 0x2451 1) || decide (minor < low)) then
    ((s.setObj (portObj p) 1 6).agentAlarm 0x142 p 16).updPort p (fun q => { q with retry := 3 })
  else
    let old := s.obj (portObj p) 7
    let s0 := if s.portState p = 1 then s.setObj (portObj p) 1 2 else s
    let s1 := if fixed then s0 else (s0.setObj (portObj p) 6 (256 * s.obj 0x2451 1 + minor)).updPort p (fun q => { q with
      peer := some b, idChanged := q.idChanged || (decide (old ≠ 0) && decide (old ≠ helloField b 103 40)) })
    if b.getLsbD 112 then
      let s2 := s1.updPort p (fun q => { q with helloDone := true })
      match decide (s2.portState p = 3), (s.port p).helloDone, s2.laneMode p minor with
      | true, false, some w => s2.portReady p w
      | _, _, _ => s2
    else s1.sendCtrl p 4 (s1.helloBody p true)

/-- Stops a channel with SYNC_GAP (R256). -/
def State.syncGap (s : State) (p c : Nat) : State :=
  (s.updPort p (fun q => { q with chState := Map.put q.chState 0 c 2 })).agentAlarm 0x147 p 16

/-- Whether `a` lies above `b` in 32-bit sequence order. -/
def seqAbove (a b : Nat) : Bool :=
  let d := (a + 2 ^ 32 - b) % 2 ^ 32
  decide (1 ≤ d) && decide (d < 2 ^ 31)

/-! ### Completion records (R245, R250) -/

/-- A completion record's 256 bits (R245). -/
def cplRecord (seq ch status landed first st dupChk port digest : Nat) : Row :=
  BitVec.ofNat 256 (seq % 2 ^ 32 + 2 ^ 32 * (ch % 256) + 2 ^ 40 * (status % 32) + 2 ^ 45 * (landed % 2 ^ 13) +
    2 ^ 58 * (first % 2 ^ 13) + 2 ^ 71 * (st % 16) + 2 ^ 75 * dupChk + 2 ^ 76 * (port % 256) + 2 ^ 84 * (digest % 2 ^ 64))

/-- The final digest of `n` rows from its running value (R245). -/
def digestOf (run n : Nat) : Nat := if n = 0 then 0 else run ^^^ 0xFFFFFFFFFFFFFFFF

/-- The running digest before any row. -/
def digestStart : Nat := 0xFFFFFFFFFFFFFFFF

/-- The running digest after a row (R245). -/
def digestRow (run : Nat) (d : Row) (poison : Bool) : Nat :=
  crc64Step run (if poison then List.replicate 32 0 ++ [1] else bytesOf d.toNat 32)

/-- Fields of the barge header and descriptor (R242). -/
def hdrF (h : Row) (hi lo : Nat) : Nat := bitsOf h.toNat hi lo
def hdrSeq (h : Row) : Nat := hdrF h 31 0
def hdrCount (h : Row) : Nat := hdrF h 44 32
def hdrBound (h : Row) : Bool := h.getLsbD 45
def hdrNotify (h : Row) : Bool := h.getLsbD 46
def hdrReturn (h : Row) : Bool := h.getLsbD 47
def hdrEpoch (h : Row) : Nat := hdrF h 63 48
def hdrBasin (h : Row) : Nat := hdrF h 67 64
def hdrAttach (h : Row) : Nat := hdrF h 71 68
def hdrDest (h : Row) : Nat := hdrF h 87 72
def hdrNotifyRow (h : Row) : Nat := hdrF h 103 88
def hdrChannel (h : Row) : Nat := hdrF h 111 104
def hdrRetRow (h : Row) : Nat := hdrF h 127 112
def hdrRetAttach (h : Row) : Nat := hdrF h 131 128
def descSrcRow (h : Row) : Nat := hdrF h 147 132
def descSrcAttach (h : Row) : Nat := hdrF h 151 148
def descOutRow (h : Row) : Nat := hdrF h 167 152
def descOut (h : Row) : Bool := h.getLsbD 168

/-- Whether a flat row lies in a pail window of its tile. -/
def State.pailRow (s : State) (t flat : Nat) : Bool :=
  decide (flat < 40960) && s.inPail t (bankOf flat) (localOf flat)

/-- Writes an engine's record at a flat row of a tile as a landing that counts one sent delivery; none where a pail
blocks it (R246, R250).  `key` names the access, `rank` its agent (R229). (DEDUCED, log 41) -/
def State.landNow (s : State) (t flat key : Nat) (rank : Option Nat) (rec_ : Row) : Option State :=
  match s.landRow t flat rec_ false 2 1 false with
  | (none, _) => none
  | (some st, s1) =>
    let s2 := ((if flat < 40960 then s1.bargeUse t (bankOf flat) rank else s1).bumpReg t 0xf18 1).unblock t key
    some (if st = 0 && s.pailRow t flat then s2 else s2.bumpReg t 0xf1c 1)

/-- The same in a fill-in beat of the command's own: none where it must wait for port X or for a pail. -/
def State.landRecord (s : State) (t flat key : Nat) (rank : Option Nat) (rec_ : Row) : Option State :=
  if flat < 40960 && !s.bargeTurn t (bankOf flat) rank then none else s.landNow t flat key rank rec_

/-- A record that must wait for its beat: for port X, or for its pail row. -/
def State.recordWaits (s : State) (t flat key : Nat) (rank : Option Nat) : State :=
  if flat < 40960 && !s.bargeTurn t (bankOf flat) rank then s.bargeAsk t (bankOf flat) rank else s.blockLand t flat key

/-- The fields of a completion record about the first row not landed, with the port X status of that row (R245):
`n` rows landed of `count`, and the first row that port X refused. (DESIGN CHOICE, log 42) -/
def firstRow (count n : Nat) (bad : Option (Nat × Nat)) : Nat × Nat :=
  let v := (Config.noFirstRow count).toNat
  match bad with
  | some x => x
  | none => (if n < count then n else v % 2 ^ 13, v / 2 ^ 13)

/-- The report of an outbound barge's completion: once outside the tile, and again to its notify row (R250, R260).  None
where the notify row must wait. (DESIGN CHOICE, log 39) -/
def State.reportBarge (s : State) (p ch : Nat) (b : TxBarge) (rec_ : Row) : Option State :=
  let q := s.port p
  let key := 2 ^ 32 * ch + b.seq
  let last := Map.get q.lastRep 0 ch
  let fresh := decide (last = 0) || seqAbove b.seq (last - 1)
  let kept := if fresh then rec_ else Map.get q.records rec_ key
  let held := decide (b.basin < 16) && (s.basin b.basin).stop
  let t := s.attachTile p (descSrcAttach b.desc)
  match (if descOut b.desc && !held then
        s.landRecord t (descOutRow b.desc) (xKey 4 p ch (descOutRow b.desc)) (some p) kept
      else some s) with
  | none => none
  | some s1 =>
    let s2 := s1.updPort p (fun q => { q with
      lastRep := if fresh then Map.put q.lastRep 0 ch (b.seq + 1) else q.lastRep,
      records := Map.put q.records 0 key kept })
    some (if fresh then s2.bumpObj (portObj p) 0x11 1 (2 ^ 64 - 1) else s2)

/-- Comparison of a channel's outstanding barges with the peer's expected number `e` (R256). -/
def State.syncChannel (s : State) (p ch e : Nat) : State :=
  let q := s.port p
  let mine := (q.outstanding ++ q.tx.filter (fun b => b.headSent && b.rows.isNone)).filter (fun b => decide (hdrChannel b.desc = ch))
  let next := Map.get q.nextTx 0 ch
  match mine with
  | [] => if seqAbove e next then s.syncGap p ch else s
  | o :: _ =>
    if q.idChanged then s.syncGap p ch
    else if seqAbove o.seq e || seqAbove e next then s.syncGap p ch
    else
      let drop (l : List TxBarge) : List TxBarge :=
        l.filter (fun b => !(mine.any (fun m => decide (m.seq = b.seq ∧ hdrChannel b.desc = ch) && b.rows.isNone)))
      let again := (mine.filter (fun b => !(seqAbove e b.seq))).map (fun b =>
        { b with headSent := false, read := 0, digest := digestStart, resend := true })
      let s1 := s.updPort p (fun q => { q with outstanding := drop q.outstanding, tx := again ++ drop q.tx })
      (mine.filter (fun b => seqAbove e b.seq)).foldl (fun a b =>
        (a.reportBarge p ch b (cplRecord b.seq ch 0 (hdrCount b.desc) (firstRow (hdrCount b.desc) (hdrCount b.desc) none).1
          (firstRow (hdrCount b.desc) (hdrCount b.desc) none).2 0 (s.obj (portObj p) 8)
          (digestOf b.digest (hdrCount b.desc)))).getD a) s1

/-- A SYNC: entries gather until the peer's last one, which is compared and answered (R241, R256). -/
def State.onSync (s : State) (p : Nat) (b : BitVec 240) : State :=
  if b.getLsbD 238 then s.updPort p (fun q => { q with syncAck := true })
  else
    let n := min 5 (bitsOf b.toNat 202 200)
    let ents := (List.range n).map (fun i => (bitsOf b.toNat (40 * i + 7) (40 * i), bitsOf b.toNat (40 * i + 39) (40 * i + 8)))
    let s1 := s.updPort p (fun q => { q with syncGot := q.syncGot ++ ents })
    if b.getLsbD 239 then
      let got := (s1.port p).syncGot
      let s2 := if (s1.port p).syncIn then s1 else
        (List.range 256).foldl (fun a c =>
          a.syncChannel p c (((got.find? (fun e => decide (e.1 = c))).map (·.2)).getD 0)) s1
      (s2.updPort p (fun q => { q with syncIn := true, syncGot := [], idChanged := false })).sendCtrl p 5
        (BitVec.ofNat 240 (2 ^ 238 + 2 ^ 239))
    else s1

/-- A MODE: the peer's lane mode and the lanes it will receive on; a MODE that is not a reply is answered (R241,
R253). -/
def State.onMode (s : State) (p : Nat) (b : BitVec 240) : State :=
  let w := helloField b 3 0
  let m := helloField b 11 4
  if b.getLsbD 12 then s.updPort p (fun q => { q with modeDone := true })
  else if w = 8 ∨ w = 6 ∨ w = 4 then
    let rx := lowestLanes (s.port p).qualRx w
    ((s.setObj (portObj p) 3 w).setObj (portObj p) 4 (m + 256 * rx)).sendCtrl p 6
      (BitVec.ofNat 240 (w + 2 ^ 4 * rx + 2 ^ 12))
  else s

/-- A control message is acted on (R241); a reserved opcode is discarded and counted. (DESIGN CHOICE, log 39) -/
def State.onCtrl (s : State) (p op : Nat) (b : BitVec 240) : State :=
  match op with
  | 1 => s.onAck p (bitsOf b.toNat 13 0)
  | 2 => s.onNak p (bitsOf b.toNat 13 0)
  | 3 => s.updPort p (fun q => (List.range 9).foldl (fun a g => a.takeGrant (bitsOf b.toNat (24 * g + 23) (24 * g))) q)
  | 4 => s.onHello p b
  | 5 => s.onSync p b
  | 6 => s.onMode p b
  | _ => s.updPort p (fun q => { q with ctrlErrs := q.ctrlErrs + 1 })

/-- A control message that arrives while the link carries flits. -/
def State.ctrlIn (s : State) (p op : Nat) (b : BitVec 240) : State := if s.linkAlive p then s.onCtrl p op b else s

/-! ### Receiving flits (R236, R239) -/

/-- LINK_POISON (R239, R245, R261). (DESIGN CHOICE, log 39) -/
def State.linkPoison (s : State) (p : Nat) : State := (s.agentAlarm 0x144 p 16).bumpObj (portObj p) 0x19 1

/-- A flit accepted in order enters the receive buffer with its payload as the engines use it. -/
def State.acceptFlit (s : State) (p : Nat) (f : Flit) (w : CodeWord) (poison : Bool) : State :=
  let g := mkFlit (flitType f) poison (flitLast f) (flitChannel f) ((f.extractLsb' 22 8).toNat) (flitSeq f) w
  s.updPort p (fun q => { q with
    accepted := q.accepted ++ [g], rxSeq := (q.rxSeq + 1) % 16384, nakOut := false, kolvosNak := none,
    unacked := q.unacked + 1 })

/-- A received flit is checked by RS, HCRC, Kolvos and POISON in order, and accepted by its FSEQ (R236, R239); `rs` tells
that its codeword decoded. (DESIGN CHOICE, log 39) -/
def State.flitReceive (s : State) (p : Nat) (f : Flit) (rs : Bool) : State :=
  if !s.linkAlive p then s
  else if !rs then (s.bumpWin (objKey (portObj p) 0xB) 1).sendNak p
  else if !headerOk f then (hdrErr s).sendNak p
  else
    let ty := flitType f
    if ty = 0 then s
    else if 6 ≤ ty then hdrErr s
    else if ty = 4 then
      match kolvosDecode (flitWord f) with
      | .good d => ctrl s d
      | .corrected d _ => ctrl (s.bumpWin (objKey (portObj p) 0xE) 1) d
      | _ => s
    else
      let next := decide (flitSeq f = (s.port p).rxSeq)
      match kolvosDecode (flitWord f) with
      | .good d => if next then data s d else s.sendNak p
      | .corrected d _ =>
        let s1 := s.bumpWin (objKey (portObj p) 0xE) 1
        if next then data s1 d else s1.sendNak p
      | .poison =>
        if next then (if flitPoison f then s else s.bumpObj (portObj p) 0x19 1).acceptFlit p f poisonWord true
        else s.sendNak p
      | .uncorrectable =>
        if !next then s.sendNak p
        else if (s.port p).kolvosNak = some (flitSeq f) then (s.linkPoison p).acceptFlit p f poisonWord true
        else (s.updPort p (fun q => { q with kolvosNak := some (flitSeq f), nakOut := false })).sendNak p
where
  /-- A header error is counted (R235). -/
  hdrErr (s : State) : State := s.updPort p (fun q => { q with hdrErrs := q.hdrErrs + 1 })
  /-- The next flit in order with a payload that decodes. -/
  data (s : State) (d : Row) : State :=
    if flitPoison f then (s.bumpObj (portObj p) 0x19 1).acceptFlit p f poisonWord true
    else s.acceptFlit p f (kolvosEncode d) false
  /-- A control flit's payload. -/
  ctrl (s : State) (d : Row) : State :=
    let back := bitsOf d.toNat 247 240
    let s1 := s.updPort p (fun q =>
      let step := (back + 256 - q.ctrlBack % 256) % 256
      { q with ctrlFreed := (q.ctrlFreed + 1) % 256,
               ctrlBack := if q.ctrlBack + step ≤ q.ctrlSent then q.ctrlBack + step else q.ctrlBack })
    (s1.onCtrl p (bitsOf d.toNat 255 248) (d.extractLsb' 0 240)).updPort p Port.pumpCtrl

/-! ### Landing barges (R243 to R248) -/

/-- The accepted flits of type `ty` that are the first of their channels, with their places, in order of arrival. -/
def firstsOfChannel (l : List Flit) (ty : Nat) : List (Nat × Flit) :=
  ((List.range l.length).filterMap (fun i => (l[i]?).map (fun f => (i, f)))).filter (fun e =>
    decide (flitType e.2 = ty) &&
    !((l.take e.1).any (fun g => decide (flitType g ≠ 3) && decide (flitChannel g = flitChannel e.2))))

/-- The first of these flits that `f` can take is taken: one that waits does not stop those of other channels (R33, R237). -/
def State.takeFirst (s : State) (p ty : Nat) (f : Nat → Flit → Option State) : State :=
  ((firstsOfChannel (s.port p).accepted ty).findSome? (fun e => f e.1 e.2)).getD s

/-- Removes the accepted flit at a place. -/
def State.dropAccepted (s : State) (p i : Nat) : State :=
  s.updPort p (fun q => { q with accepted := q.accepted.eraseIdx i })

/-- The barge in progress on a channel. -/
def State.rxBarge (s : State) (p ch : Nat) : Option RxBarge := Map.get (s.port p).rx none ch

/-- Replaces the barge in progress on a channel. -/
def State.setRx (s : State) (p ch : Nat) (b : Option RxBarge) : State :=
  s.updPort p (fun q => { q with rx := Map.put q.rx none ch b })

/-- Whether rows for a basin are held at the crossings: replay preparation or a restore (R406, R428). -/
def State.holdRows (s : State) (b : Nat) : Bool :=
  decide (s.obj (0x2810 + b) 1 = 4) || decide (s.obj (0x2810 + b) 1 = 6) || (s.basin b).prepared

/-- Whether landings at a tile stop: from its report to the completion of its lock beat (R230). -/
def State.landingsStopped (s : State) (t : Nat) : Bool := (s.tile t).lk.reported

/-- Whether a basin runs, past its first lock. -/
def State.basinRuns (s : State) (b : Nat) : Bool := (s.basin b).started

/-- Whether a basin is in loose mode (R463). -/
def State.looseMode (s : State) (b : Nat) : Bool := decide (s.obj (0x2C10 + b) 2 = 1)

/-- The epoch binding of a header at tile `t`: 0 taken now, 1 waits, 2 LATE (R247).  The destination basin's epoch is
its tile's own, and the basin's number where the tile is none of its. -/
def State.bindOf (s : State) (t : Nat) (h : Row) : Nat :=
  let n := if s.basinOf t = some (hdrBasin h) then s.regN t 0xf00 else s.obj (0x2610 + hdrBasin h) 1
  let d := (hdrEpoch h + 65536 - n % 65536) % 65536
  if d = 0 then 0 else if d < 32768 then 1 else 2

/-- The checks of a header in order (R243, R244): the status it draws, or none with whether it waits. -/
def State.headChecks (s : State) (p ch : Nat) (h : Row) (ret : Bool) : Option Nat × Bool × Bool :=
  let e := Map.get (s.port p).expRx 0 ch
  let d := (hdrSeq h + 2 ^ 32 - e) % 2 ^ 32
  let t := s.attachTile p (hdrAttach h)
  let b := hdrBasin h
  if 4096 < hdrCount h ∨ hdrChannel h ≠ ch then (some 0x16, false, false)
  else if !ret && decide (2 ^ 31 ≤ d) then (none, true, false)
  else if !ret && decide (d ≠ 0) then (some 0x12, false, false)
  else if s.attachAbsent p (hdrAttach h) || (hdrNotify h && !s.pailRow t (hdrNotifyRow h)) then (some 0x15, false, false)
  else if !ret && !hdrBound h && s.basinRuns b && !s.looseMode b then (some 0x14, false, false)
  else if hdrBound h then
    match s.bindOf t h with
    | 0 => (none, false, false)
    | 1 => (none, false, true)
    | _ => (some 0x13, false, false)
  else (none, false, false)

/-- A HEAD is taken (R243, R244, R247).  A HEAD that arrives before the current barge has ended ends that barge; one that
R230 or a recovery keeps waiting stays at the crossing: none. (DEDUCED, log 38 and 40) -/
def State.headTake (s : State) (p i : Nat) (f : Flit) : Option State :=
    let ch := flitChannel f
    match s.rxBarge p ch with
    | some b =>
      if b.ended || b.waiting then none
      else some (s.setRx p ch (some { b with
        ended := true,
        status := if b.recvd = hdrCount b.hdr then b.status else b.status.orElse (fun _ => some 0x16) }))
    | none =>
      let h : Row := if flitPoison f then 0 else cwData (flitWord f)
      let ret := (s.port p).retDue.contains (ch, hdrSeq h) && !hdrBound h && !hdrNotify h
      let (st, dup, wait) := s.headChecks p ch h ret
      let t := s.attachTile p (hdrAttach h)
      let good := st.isNone && !dup && !wait
      if good && (s.holdRows (hdrBasin h) || (s.landingsStopped t && s.basinRuns (hdrBasin h))) then none
      else
        let b : RxBarge := ⟨h, st, dup, wait, 0, 0, 0, none, digestStart, [],
          decide (hdrCount h = 0) && decide (s.portMinor p = 0) && decide (st ≠ some 0x16),
          none, false, [], ret, good && !ret && !hdrBound h && s.basinRuns (hdrBasin h)⟩
        let s0 := s.dropAccepted p i
        let s1 := (if wait then s0 else s0.freeFlit p ch).setRx p ch (some b)
        let s2 := if ret then s1.updPort p (fun q => { q with retDue := q.retDue.filter (fun x => decide (x ≠ (ch, hdrSeq h))) })
          else s1
        some (if st = some 0x12 then
          ((s2.agentAlarm 0x145 p 16).bumpObj (portObj p) 0x17 1).updPort p (fun q => { q with
            chState := Map.put q.chState 0 ch 1 })
        else s2)

/-- The next HEAD that can be taken. (DEDUCED, log 38 and 40) -/
def State.headFlit (s : State) (p : Nat) : State := s.takeFirst p 2 (s.headTake p)

/-- A ROW flit is taken at the crossing (R243): kept for landing, or discarded; none where it waits. -/
def State.rowTake (s : State) (p i : Nat) (f : Flit) : Option State :=
    let ch := flitChannel f
    match s.rxBarge p ch with
    | none => some ((s.dropAccepted p i).freeFlit p ch)
    | some b =>
      if b.waiting || b.ended then none
      else
        let pz := flitPoison f
        let d : Row := if pz then 0 else cwData (flitWord f)
        let n := b.recvd + 1
        let count := hdrCount b.hdr
        let keep := b.status.isNone && !b.dup && decide (n ≤ count)
        let early := flitLast f && decide (n < count)
        let excess := decide (count < n)
        let bad := b.status.isNone && !b.dup && (early || excess)
        let b' : RxBarge := { b with
          recvd := n, digest := digestRow b.digest d pz,
          rows := if keep then b.rows ++ [(d, pz)] else b.rows,
          status := if bad then some 0x16 else b.status,
          ended := (bad && early) || (decide (s.portMinor p = 0) && flitLast f) }
        let s1 := (s.dropAccepted p i).setRx p ch (some b')
        some (if keep then s1 else s1.freeFlit p ch)

/-- The next ROW flit that can be taken. -/
def State.rowFlit (s : State) (p : Nat) : State := s.takeFirst p 1 (s.rowTake p)

/-- Whether a barge's rows still land: its header passed, or it became MALFORMED only by its row count (R243). -/
def RxBarge.lands (b : RxBarge) : Bool := !b.dup && !b.rows.isEmpty

/-- The stored row of a flat row as a barge of SWAP finds it, with a pending gather entry's words merged in (R157, R164). -/
def State.storedRow (s : State) (t flat : Nat) : Row × Bool :=
  let w := kolvosDecode (s.rowWord t flat)
  match (s.bank t (bankOf flat)).pending flat with
  | some g => (if w.poisoned then w.row else mergeWords w.row g.1 g.2, w.poisoned)
  | none => (w.row, w.poisoned)

/-- One row at the crossing lands at its attachment tile in a fill-in beat (R243, R150, R158, R229, R230, R248,
R252). (DEDUCED, log 134) -/
def State.bargeRowLand (s : State) (p ch : Nat) : State :=
  match s.rxBarge p ch with
  | none => s
  | some b =>
    match b.rows with
    | [] => s
    | (d, pz) :: rest =>
      let t := s.attachTile p (hdrAttach b.hdr)
      let bn := hdrBasin b.hdr
      let flat := hdrDest b.hdr + b.taken
      if s.holdRows bn || (s.landingsStopped t && s.basinRuns bn) then s
      else if flat < 40960 && !s.bargeTurn t (bankOf flat) (some p) then s.bargeAsk t (bankOf flat) (some p)
      else
        let bk := bankOf flat
        let swap := hdrReturn b.hdr && decide (flat < 40960) && s.inAlias t bk (localOf flat) &&
          decide (s.regN t (bankOff bk 0x10) = 5)
        let order := decide (flat < 40960) && s.inAlias t bk (localOf flat) &&
          (decide (s.regN t (bankOff bk 0x10) = 4) || decide (s.regN t (bankOff bk 0x10) = 5))
        let old := s.storedRow t flat
        let g := s.portXStatus t flat [1]
        let (res, s1) : Option Nat × State :=
          if g ≠ 3 ∧ s.basinOf t ≠ some bn ∧ ¬ b.isReturn then (some 4, s.rejectX t flat 4 1)
          else s.landRow t flat d pz 2 1 (s.looseMode bn)
        match res with
        | none => s.blockOnce t bk (xKey 0 p ch flat) true
        | some st =>
          let ok := decide (st = 0)
          let s2 := ((if flat < 40960 then s1.bargeUse t bk (some p) else s1).bumpReg t 0xf18 1).unblock t (xKey 0 p ch flat)
          let s3 := if ok && s.pailRow t flat && !s.inAlias t bk (localOf flat) then s2 else s2.bumpReg t 0xf1c 1
          let b' : RxBarge := { b with
            rows := rest, taken := b.taken + 1, landed := if ok then b.landed + 1 else b.landed,
            firstBad := if ok then b.firstBad else b.firstBad.orElse (fun _ => some (b.taken, st)),
            returns := if swap && ok then b.returns ++ [old] else b.returns,
            loose := b.loose || (order && ok) }
          let s4 := ((s3.setRx p ch (some b')).freeFlit p ch).bumpWin (objKey (portObj p) 0x13) (b2n ok)
          if b'.loose && decide (bn < 16) then s4.updBasin bn (fun v => { v with looseMade := true }) else s4

/-- TAIL: the barge ends and its digest is compared (R243, R245); none where it waits. -/
def State.tailTake (s : State) (p i : Nat) (f : Flit) : Option State :=
    let ch := flitChannel f
    let s1 := (s.dropAccepted p i).freeFlit p ch
    match s.rxBarge p ch with
    | none => some s1
    | some b =>
      if b.waiting then none
      else
        let dg := bitsOf (cwData (flitWord f)).toNat 63 0
        let short := b.status.isNone && !b.dup && decide (b.recvd ≠ hdrCount b.hdr)
        let b' : RxBarge := { b with
          ended := true, tail := some dg, status := if short then some 0x16 else b.status }
        let s2 := s1.setRx p ch (some b')
        some (if b.status.isNone && !b.dup && decide (dg ≠ digestOf b.digest b.recvd) then s2.linkPoison p else s2)

/-- The next TAIL that can be taken. -/
def State.tailFlit (s : State) (p : Nat) : State := s.takeFirst p 5 (s.tailTake p)

/-- The status of a barge that has ended (R243 to R245). -/
def RxBarge.result (b : RxBarge) : Nat :=
  match b.status with
  | some st => st
  | none =>
    match b.firstBad with
    | some (_, st) => st
    | none => if hdrCount b.hdr = 0 then 1 else 0

/-- The header of a return barge (R248). -/
def returnHeader (h : Row) (n : Nat) : Row :=
  BitVec.ofNat 256 (hdrSeq h + 2 ^ 32 * n + 2 ^ 64 * hdrBasin h + 2 ^ 68 * hdrRetAttach h + 2 ^ 72 * hdrRetRow h +
    2 ^ 104 * hdrChannel h)

/-- The notify row of a barge lands as its rows do: at a tile of another basin it is refused (R243, R246). -/
def State.notifyLand (s : State) (p ch t : Nat) (h rec_ : Row) : Option State :=
  let flat := hdrNotifyRow h
  let key := xKey 1 p ch flat
  if s.portXStatus t flat [1] ≠ 3 ∧ s.basinOf t ≠ some (hdrBasin h) then
    if s.bargeTurn t (bankOf flat) (some p) then
      some (((((s.rejectX t flat 4 1).bargeUse t (bankOf flat) (some p)).bumpReg t 0xf18 1).bumpReg t 0xf1c 1).unblock t key)
    else none
  else s.landRecord t flat key (some p) rec_

/-- Every row rests: the notify row is written, then the COMPLETION goes out, e advances and a return barge follows
(R244 to R248, R463). -/
def State.bargeComplete (s : State) (p ch : Nat) : State :=
  match s.rxBarge p ch with
  | none => s
  | some b =>
    let q := s.port p
    if !b.ended || b.waiting || !b.rows.isEmpty || !s.maySend p 256 then s
    else
      let seq := hdrSeq b.hdr
      let kept := (Map.get q.stored [] ch).find? (fun x => decide (x.seq = seq))
      let chk := b.dup && kept.isSome && b.tail.isSome
      let mis := match kept, b.tail with
        | some k, some d => b.dup && decide (k.digest ≠ d)
        | _, _ => false
      let status := if b.dup then (if mis then 0x11 else 0x10) else b.result
      let landed := if b.dup then (kept.map (·.landed)).getD 0 else b.landed
      let dg := if b.dup then (kept.map (·.digest)).getD 0 else digestOf b.digest b.recvd
      let fb := firstRow (hdrCount b.hdr) landed (if b.dup then none else b.firstBad)
      let rec_ := cplRecord seq ch status landed fb.1 fb.2 (b2n chk) p dg
      let t := s.attachTile p (hdrAttach b.hdr)
      let notes := hdrNotify b.hdr && b.status.isNone && !b.dup
      match (if notes then
          (if s.landingsStopped t && s.basinRuns (hdrBasin b.hdr) then none else s.notifyLand p ch t b.hdr rec_)
        else some s) with
      | none => s.recordWaits t (hdrNotifyRow b.hdr) (xKey 1 p ch (hdrNotifyRow b.hdr)) (some p)
      | some s1 =>
        let e := Map.get q.expRx 0 ch
        let adv := !b.dup && !b.isReturn && decide (status ≠ 0x12) && decide (seq = e)
        let s2 := s1.updPort p (fun q => { q with
          rx := Map.put q.rx none ch none,
          expRx := if adv then Map.put q.expRx 0 ch ((e + 1) % 2 ^ 32) else q.expRx,
          stored := if adv then Map.put q.stored [] ch ((⟨seq, dg, landed⟩ :: Map.get q.stored [] ch).take 16) else q.stored,
          tx := if hdrReturn b.hdr && notes_ok b && !b.returns.isEmpty then
              q.tx ++ [⟨returnHeader b.hdr b.returns.length, seq, 0, 16, false, 0, digestStart, false, some b.returns⟩]
            else q.tx })
        let s3 := s2.sendFlit p 3 false false ch 0 256 (kolvosEncode rec_)
        let s4 := s3.bumpObj (portObj p) 0x12 1 (2 ^ 64 - 1)
        let s5 := if b.dup then s4.bumpObj (portObj p) 0x15 1 else s4
        let s6 := if mis then (s5.bumpObj (portObj p) 0x16 1).agentAlarm 0x146 p 16 else s5
        let s7 := if 0x13 ≤ status then s6.bumpObj (portObj p) 0x18 1 else s6
        if b.loose then s7.bumpObj (0x2C10 + hdrBasin b.hdr) 3 1 (2 ^ 64 - 1) else s7
where
  /-- Whether a barge landed rows. -/
  notes_ok (b : RxBarge) : Bool := !b.dup

/-- A COMPLETION for an outbound barge arrives and is reported once (R250). -/
def State.completionFlit (s : State) (p : Nat) : State :=
  let q := s.port p
  match q.accepted.findIdx? (fun f => decide (flitType f = 3)) with
  | none => s
  | some i =>
    match q.accepted[i]? with
    | none => s
    | some f =>
      let rec_ := cwData (flitWord f)
      let seq := bitsOf rec_.toNat 31 0
      let ch := flitChannel f
      let s1 := (s.dropAccepted p i).freeFlit p 256
      match q.outstanding.find? (fun b => decide (b.seq = seq ∧ hdrChannel b.desc = ch)) with
      | none => s1
      | some b =>
        match s1.reportBarge p ch b rec_ with
        | none => s.recordWaits (s.attachTile p (descSrcAttach b.desc)) (descOutRow b.desc)
            (xKey 4 p ch (descOutRow b.desc)) (some p)
        | some s2 => s2.updPort p (fun q => { q with
            outstanding := q.outstanding.filter (fun x => decide (x ≠ b)),
            retDue := if hdrReturn b.desc then q.retDue ++ [(ch, seq)] else q.retDue })

/-- A waiting bound barge is taken when its basin reaches its epoch, or completes LATE (R247). -/
def State.boundRelease (s : State) (p ch : Nat) : State :=
  match s.rxBarge p ch with
  | none => s
  | some b =>
    let t := s.attachTile p (hdrAttach b.hdr)
    if !b.waiting || s.holdRows (hdrBasin b.hdr) then s
    else match s.bindOf t b.hdr with
      | 0 => if s.landingsStopped t then s else (s.freeFlit p ch).setRx p ch (some { b with waiting := false })
      | 1 => s
      | _ => (s.freeFlit p ch).setRx p ch (some { b with waiting := false, status := some 0x13 })

/-! ### Sending barges (R249, R251, R252, R393, R394) -/

/-- Whether the port has seen STOP for the basin of its sending tile. -/
def State.portStopped (s : State) (p t : Nat) : Bool :=
  match s.basinOf t with
  | some b => (s.port p).stops.contains b
  | none => false

/-- The engine reads its next descriptor (R249). (DEDUCED, log 41) -/
def State.descriptorRead (s : State) (p : Nat) : State :=
  let q := s.port p
  let w := s.obj (portObj p) 0xF
  let len := bitsOf w 27 20
  let t := s.attachTile p (bitsOf w 19 16)
  let flat := bitsOf w 15 0 + q.winPos
  let b := bankOf flat
  if len = 0 ∨ s.portState p ≠ 3 ∨ q.retry ≠ 0 ∨ 4 ≤ q.tx.length ∨ q.drain ≠ 0 ∨ s.portStopped p t ∨ (s.tile t).stop then s
  else if 40960 ≤ flat then s
  else if !s.bargeTurn t b (some (64 + p)) then s.bargeAsk t b (some (64 + p))
  else
    let next (a : State) : State := a.updPort p (fun q => { q with winPos := if q.winPos + 1 < len then q.winPos + 1 else 0 })
    let st := s.portXStatus t flat [1]
    if st ≠ 0 then ((next (s.rejectX t flat st 1)).bargeUse t b (some (64 + p))).bumpReg t 0xf1c 1
    else
      let gate := Map.get (s.bank t b).fillBeat 0 (localOf flat)
      let peek := cwData (s.rowWord t flat)
      if q.tx.any (fun x => decide (hdrChannel x.desc = hdrChannel peek)) then s
      else match s.fetchRow t flat none with
        | (none, _) => s.blockOnce t b (xKey 2 p 0 flat) false
        | (some (d, pz), s1) =>
          let s2 := (next (s1.bargeUse t b (some (64 + p)))).unblock t (xKey 2 p 0 flat)
          if pz then s2
          else
            let ch := hdrChannel d
            let seq := Map.get q.nextTx 0 ch
            let fail := if 4096 < hdrCount d then 0x16 else if s.attachAbsent p (descSrcAttach d) then 0x15
              else if 40960 < descSrcRow d + hdrCount d then 7 else 0
            if fail ≠ 0 then
              if descOut d then
                let u := s.attachTile p (descSrcAttach d)
                let f := firstRow (hdrCount d) 0 none
                match s2.landNow u (descOutRow d) (xKey 4 p ch (descOutRow d)) (some p) (cplRecord seq ch fail 0 f.1 f.2 0 p 0) with
                | some s3 => s3
                | none => s.blockLand u (descOutRow d) (xKey 4 p ch (descOutRow d))
              else s2
            else s2.updPort p (fun q => { q with
              nextTx := Map.put q.nextTx 0 ch ((seq + 1) % 2 ^ 32),
              tx := q.tx ++ [⟨d, seq, gate, (s.basinOf t).getD 16, false, 0, digestStart, false, none⟩] })

/-- The header that a barge sends: the descriptor with its SEQ and without the descriptor-only fields (R242). -/
def TxBarge.head (b : TxBarge) : Row :=
  BitVec.ofNat 256 (b.desc.toNat / 2 ^ 32 % 2 ^ 100 * 2 ^ 32 + b.seq)

/-- Whether the clean horizon has passed a gate beat less 26 (R393). -/
def State.gatePassed (s : State) (b g : Nat) : Bool :=
  decide (16 ≤ b) || decide (g ≤ s.horizon b + 26)

/-- Replaces a barge in progress. -/
def State.setTx (s : State) (p : Nat) (old new : TxBarge) : State :=
  s.updPort p (fun q => { q with tx := q.tx.map (fun x => if x = old then new else x) })

/-- A barge whose last flit has gone out awaits its completion (R250); a return barge awaits none. -/
def State.finishTx (s : State) (p : Nat) (b : TxBarge) : State :=
  s.updPort p (fun q => { q with
    tx := q.tx.filter (fun x => decide (x ≠ b)),
    outstanding := if b.rows.isSome then q.outstanding else q.outstanding ++ [b] })

/-- A ROW flit of a barge (R252, R394). (DEDUCED, log 37) -/
def State.sendRow (s : State) (p : Nat) (b : TxBarge) (d : Row) (pz : Bool) : State :=
  let n := hdrCount b.desc
  let last := decide (b.read + 1 = n)
  let ch := hdrChannel b.desc
  let s1 := (s.sendFlit p 1 pz last ch (b.read % 256) ch (if pz then poisonWord else kolvosEncode d)).bumpWin
    (objKey (portObj p) 0x14) 1
  let s2 := if pz && decide (b.basin < 16) then s1.bumpWin (objKey (0x2810 + b.basin) 8) 1 else s1
  let b' : TxBarge := { b with read := b.read + 1, digest := digestRow b.digest (if pz then 0 else d) pz }
  let s3 := s2.setTx p b b'
  if last && decide (s.portMinor p = 0) then s3.finishTx p b' else s3

/-- The next flit of one barge, if its gate is passed and its row can be read; none where it must wait. (DEDUCED, log
134) -/
def State.txStep (s : State) (p : Nat) (b : TxBarge) : Option State :=
  let ch := hdrChannel b.desc
  let n := hdrCount b.desc
  let t := s.attachTile p (descSrcAttach b.desc)
  let stop := decide (b.basin < 16) && (s.port p).stops.contains b.basin
  if !b.headSent then
    if !s.gatePassed b.basin b.gate then none
    else
      let b' : TxBarge := { b with headSent := true }
      let s1 := (s.sendFlit p 2 false false ch 0 ch (kolvosEncode b.head)).setTx p b b'
      some (if decide (n = 0) && decide (s.portMinor p = 0) then s1.finishTx p b' else s1)
  else if b.read < n then
    match b.rows with
    | some l => let (d, pz) := l.getD b.read (0, true); some (s.sendRow p b d pz)
    | none =>
      let flat := descSrcRow b.desc + b.read
      let bk := bankOf flat
      let pail := s.pailRow t flat && !b.resend
      let g := if pail then max b.gate (Map.get (s.bank t bk).fillBeat 0 (localOf flat)) else b.gate
      let known := !pail || Map.get (s.bank t bk).full false (localOf flat)
      if known && s.gatePassed b.basin g then
        if !s.bargeTurn t bk (some (64 + p)) then none
        else
          let st := s.portXStatus t flat [1]
          if st ≠ 0 then some (((s.rejectX t flat st 1).bargeUse t bk (some (64 + p))).sendRow p b 0 true)
          else if b.resend then
            let (d, pz, s1) := s.readRow t flat true none
            some ((s1.bargeUse t bk (some (64 + p))).sendRow p b d pz)
          else match s.fetchRow t flat none with
            | (none, _) => none
            | (some (d, pz), s1) => some (((s1.bargeUse t bk (some (64 + p))).unblock t (xKey 3 p ch flat)).sendRow p b d pz)
      else if stop then some (((s.bumpReg t 0x6060 1).bumpWin (objKey 0x2800 0xB) 1).sendRow p b 0 true)
      else none
  else
    some ((s.sendFlit p 5 false false ch 0 ch (kolvosEncode (BitVec.ofNat 256 (digestOf b.digest n)))).finishTx p b)

/-- Barges whose next row is an EMPTY pail row wait on it (R160, R174); others wait for port X (R229). -/
def State.txWaits (s : State) (p : Nat) : State :=
  (s.port p).tx.foldl (fun a b =>
    if b.headSent && decide (b.read < hdrCount b.desc) && b.rows.isNone then
      let flat := descSrcRow b.desc + b.read
      let t := a.attachTile p (descSrcAttach b.desc)
      let bk := bankOf flat
      if a.pailRow t flat && !b.resend && !Map.get (a.bank t bk).full false (localOf flat) then
        a.blockRead t flat (xKey 3 p (hdrChannel b.desc) flat)
      else if a.gatePassed b.basin b.gate && !a.bargeTurn t bk (some (64 + p)) then a.bargeAsk t bk (some (64 + p))
      else a
    else a) s

/-- At a flit boundary the engine sends the oldest barge in progress that holds a credit and may go on (R249, R393). -/
def State.flitRelease (s : State) (p : Nat) : State :=
  (((s.port p).tx.filter (fun b => s.maySend p (hdrChannel b.desc) &&
    decide (Map.get (s.port p).chState 0 (hdrChannel b.desc) ≠ 2))).findSome? (fun b => s.txStep p b)).getD (s.txWaits p)

end Sys2Proof.Machine
end

