-- ==== Sys2Proof/Machine/ServBase.lean ====
section
/-! DEFINITION. Entries of the object dictionary: types, clamps, staged batches and their application at a lock (R52,
R270, R299 to R304, R249). -/

namespace Sys2Proof.Machine

/-- Size in bytes of a numeric data type of `ObjDesc`; 0 for strings (R299). -/
def objSize (ty : Nat) : Nat :=
  match ty with
  | 1 => 1 | 2 => 2 | 4 => 4 | 8 => 8 | 9 => 4 | 10 => 4 | _ => 0

/-- The value of little-endian bytes (R7). -/
def ofBytes (l : List Nat) : Nat := l.foldr (fun b a => b % 256 + 256 * a) 0

/-- Clamps a REAL32: NaN becomes the default, and a value beyond the range its nearest end (R299). -/
def clampReal (lo hi dflt v : Nat) : Nat :=
  match decodeF fmtFP32 v with
  | .nan => dflt
  | x =>
    if cmpVal x (decodeF fmtFP32 lo) < 0 then lo
    else if 0 < cmpVal x (decodeF fmtFP32 hi) then hi else v

/-- Clamps an INTEGER32 given as 32 bits. -/
def clampInt (lo hi v : Nat) : Nat :=
  if signed 32 v < signed 32 lo then lo else if signed 32 hi < signed 32 v then hi else v

/-- The nearest of the legal values `base + k × step` from `lo` to `hi`, ties to the lower (R299). -/
def clampStep (lo hi step v : Nat) : Nat :=
  let c := clampN lo hi v
  let d := (c - lo) % step
  if d * 2 ≤ step then c - d else c - d + step

/-- The bits of a packed entry that are not reserved (R8). -/
def objMask (index sub : Nat) : Nat :=
  if 0x2400 ≤ index ∧ index < 0x2440 ∧ sub = 0xF then 0xFFFFFFF
  else if index = 0x2501 then 0xFFFFFF
  else if 0x2510 ≤ index ∧ index < 0x2590 ∧ sub = 1 then 0x3FFFFFF
  else if 0x2A10 ≤ index ∧ index < 0x2A20 ∧ sub = 1 then 0xFFFF
  else if 0x2D10 ≤ index ∧ index < 0x2D18 then 0xFFF
  else if index = 0x2D20 ∧ sub = 1 then 0xFFF
  else if index = 0x2D20 ∧ 2 ≤ sub ∧ sub ≤ 5 then 0x7FFF
  else if index = 0x2D20 ∧ sub = 6 then 0xF
  else 2 ^ 64 - 1

/-- What an entry takes of a written value whose reserved bits are already gone: field by field for a packed entry
(R299). -/
def State.clampObj (s : State) (index sub v : Nat) (r : ObjDesc) : Nat :=
  if index = 0x2450 ∧ sub = 1 then v % 256 + 256 * min (v / 256) 63
  else if 0x2400 ≤ index ∧ index < 0x2440 ∧ sub = 5 then clampStep 4 8 2 v
  else if index = 0x1C32 ∧ sub = 2 then clampStep 250000 100000000 50000 v
  else if index = 0x1C32 ∧ sub = 3 then min v (s.obj 0x1C32 2 - 50000)
  else if 0x2A10 ≤ index ∧ index < 0x2A20 ∧ sub = 1 then
    let bx1 := min (v / 256 % 16) 11
    let by1 := min (v / 4096) 11
    min (v % 16) bx1 + 16 * min (v / 16 % 16) by1 + 256 * bx1 + 4096 * by1
  else if 0x2910 ≤ index ∧ index < 0x2920 ∧ sub = 1 then
    if v < 10 then (if v ≤ 5 then 0 else 10) else min v 86400
  else if 0x2910 ≤ index ∧ index < 0x2920 ∧ sub = 2 then
    if v < 600 then (if v ≤ 300 then 0 else 600) else min v 604800
  else if 0x2220 ≤ index ∧ index < 0x2248 ∧ sub = 1 then
    clampReal 0x42C80000 (s.obj (0x2300 + (index - 0x2220)) 6) r.dflt v
  else if 0x2C10 ≤ index ∧ index < 0x2C20 ∧ sub = 0xA then
    if v = 0xFFFF then v else min (v % 256) 47 + 256 * min (v / 256) 47
  else if index = 0x2D20 ∧ sub = 1 then min (v % 64) 51 + 64 * min (v / 64) 49
  else if index = 0x2D20 ∧ 2 ≤ sub ∧ sub ≤ 5 then if v / 256 % 4 = 3 then v - 256 else v
  else match r.ty with
    | 9 => clampReal r.lo r.hi r.dflt v
    | 10 => clampInt r.lo r.hi v
    | _ => clampN r.lo r.hi v

/-! ### Host attachment tiles and windows (R249, R265, R270, R375) -/

/-- The host attachment tile `Hh` in the shape in force. -/
def State.hostTile (s : State) (h : Nat) : Nat :=
  tileAt (if h % 2 = 0 then 2 else 4) (s.boot.rowsLow + (if h / 2 % 2 = 0 then 18 else 21) - (24 - s.boot.rowsHigh))

/-- Whether `len` rows from `flat` lie wholly in one pail window that tile `t` has after its next lock. -/
def State.inOneWindow (s : State) (t flat len : Nat) : Bool :=
  decide (flat + len ≤ 40960) &&
  [0, 1, 2, 3].any (fun w =>
    let n := match s.basinOf t with | some b => s.nextLockNum b | none => 0
    let v := s.comingValue t (pailOff (bankOf flat) (4 * w)) (fun k => decide (k.target ≤ n))
    decide (v % 4096 ≤ localOf flat) && decide (localOf flat + len ≤ v % 4096 + v / 4096 % 4096))

/-- The tile that an RWL entry's value names or the entry configures; none where it belongs to a basin by its index
(R301). -/
def State.objTile (s : State) (index sub v : Nat) : Option Nat :=
  if 0x2400 ≤ index ∧ index < 0x2440 ∧ sub = 0xF then some (s.attachTile (index - 0x2400) (v / 65536 % 16))
  else if index = 0x2501 then some (s.hostTile (sub - 1))
  else if 0x2510 ≤ index ∧ index < 0x2590 then some (s.hostTile (v / 65536 % 4))
  else none

/-- The basin an RWL entry's write belongs to (R301). -/
def State.objBasin (s : State) (index sub v : Nat) : Option Nat :=
  if 0x2C10 ≤ index ∧ index < 0x2C20 then some (index - 0x2C10)
  else if 0x2510 ≤ index ∧ index < 0x2590 ∧ sub = 2 then s.basinOf (s.hostTile (s.obj index 1 / 65536 % 4))
  else match s.objTile index sub v with
    | some t => s.basinOf t
    | none => none

/-- Whether the write would move a window or binding out of a running basin (R301). -/
def State.movesOut (s : State) (index sub v : Nat) : Bool :=
  if (0x2400 ≤ index ∧ index < 0x2440 ∧ sub = 0xF) ∨ (0x2510 ≤ index ∧ index < 0x2590 ∧ sub = 1) then
    let old := s.obj index sub
    let len := if index < 0x2500 then old / 2 ^ 20 % 256 else old / 2 ^ 18 % 256
    match s.objTile index sub old with
    | some t =>
      decide (len ≠ 0) && (match s.basinOf t with
        | some b => s.basinRuns b && decide (s.objBasin index sub v ≠ some b)
        | none => false)
    | none => false
  else false

/-- A clamp record of an object. -/
def State.clampEntry (s : State) (index sub src written applied lock basin : Nat) : State :=
  s.logClamp ⟨index, sub, src, 0, 255, 255, written, applied, lock % 2 ^ 56, basin, false⟩

/-- The value that an RWL entry takes when it takes effect: a window or binding that does not lie wholly in one pail
window has its length clamped to 0 (R249, R270, R275). -/
def State.windowClamp (s : State) (index sub v : Nat) : Nat :=
  match s.objTile index sub v with
  | none => v
  | some t =>
    if index < 0x2500 then
      if s.inOneWindow t (v % 65536) (v / 2 ^ 20 % 256) then v else v % 2 ^ 20
    else if index = 0x2501 then
      if s.inOneWindow t (v % 65536) (v / 65536 % 256) then v else v % 65536
    else if sub = 1 then
      if s.inOneWindow t (v % 65536) (v / 2 ^ 18 % 256) then v else v % 2 ^ 18
    else v

/-- The queue of slot `q`; 128 is the admin queue. -/
def State.queue (s : State) (q : Nat) : HostQueue := Map.get s.host.queues HostQueue.init q

/-- Changes a queue. -/
def State.updQueue (s : State) (q : Nat) (f : HostQueue → HostQueue) : State :=
  { s with host := { s.host with queues := Map.put s.host.queues HostQueue.init q (f (s.queue q)) } }

/-- An RWL entry takes effect (R270, R271, R301): windows and bindings are clamped, and one that changed starts at its
first row.  `lock` is the lock's number, `basin` its basin, 255 for none. -/
def State.applyObj (s : State) (key v lock basin : Nat) : State :=
  let index := key / 256
  let sub := key % 256
  let c := s.windowClamp index sub v
  let s1 := if c = v then s else s.clampEntry index sub 5 v c lock basin
  let changed := decide (s.obj index sub ≠ c)
  let s2 := s1.setObj index sub c
  if !changed then s2
  else if index < 0x2440 ∧ 0x2400 ≤ index then s2.updPort (index - 0x2400) (fun q => { q with winPos := 0 })
  else if index = 0x2501 then { s2 with
    host := { s2.host with winPos := Map.put s2.host.winPos 0 (sub - 1) 0 } }
  else if 0x2510 ≤ index ∧ index < 0x2590 ∧ sub = 1 then s2.updQueue (index - 0x2510) (fun q => { q with ringPos := 0 })
  else s2

/-! ### Batches of object entries (R52, R301) -/

/-- The target of a batch issued now: the first lock of the basin whose wave has not begun, and no earlier than an
earlier batch's. -/
def State.batchLock (s : State) (b : Nat) : Nat :=
  let first := s.nextLockNum b + b2n (s.basin b).waveBegun
  s.srv.batches.foldl (fun a k => if k.basin = b ∧ (k.state = 0 ∨ k.state = 2) then max a k.target else a) first

/-- Keeps the newest eight batches and every one that is still staged or deferred (R310). -/
def pruneBatches (l : List ObjBatch) : List ObjBatch :=
  (l.zipIdx).filterMap (fun p =>
    if l.length - 8 ≤ p.2 ∨ p.1.state = 0 ∨ p.1.state = 2 then some p.1 else none)

/-- The Lockkeeper issues a batch of object entries to basin `b`. -/
def State.stageBatch (s : State) (b : Nat) (entries : List (Nat × Nat)) : State :=
  { s with srv := { s.srv with
      batches := pruneBatches (s.srv.batches ++ [⟨s.srv.nextId, b, 0, s.batchLock b, 0, entries⟩]),
      nextId := (s.srv.nextId + 1) % 256 } }

/-- Positions of a basin's tiles that an operation has set count no beats in the report window (R39): the beats that they had
completed in state `s0` are kept, and counting goes on from the positions as they stand. -/
def State.markWindow (s s0 : State) (b : Nat) : State :=
  let done := if (s0.basin b).started then s0.leastPos b - Map.get s0.srv.winMark 0 b else 0
  { s with srv := { s.srv with
      winDone := Map.put s.srv.winDone 0 b (Map.get s.srv.winDone 0 b + done), winMark := Map.put s.srv.winMark 0 b (s.leastPos b) } }

/-- Whether a batch of the server is still to be applied. -/
def ObjBatch.open_ (k : ObjBatch) : Bool := decide (k.state = 0) || decide (k.state = 2)

/-- Target lock of a basin's oldest unapplied batch, whether the server issued it or its tiles alone hold it, 0 when none
(R57). -/
def State.oldestTarget (s : State) (b : Nat) : Nat :=
  let held := ((s.basinTiles b).map (fun t => (s.tile t).tp.batches.map (·.target))).flatten
  let sent := (s.srv.batches.filter (fun k => decide (k.basin = b) && k.open_)).map (·.target)
  match sent ++ held with
  | [] => 0
  | n :: rest => rest.foldl min n

/-- Whether the batch writes trims, which wait for a lock that a request holds (R352). -/
def ObjBatch.trims (k : ObjBatch) : Bool := k.entries.any (fun e => decide (0x22A0 ≤ e.1 / 256 ∧ e.1 / 256 < 0x22C8))

/-- Every batch of basin `b` that targets lock `n` or an earlier one applies, in the order of issue (R301). -/
def State.applyBatches (s : State) (b n : Nat) : State :=
  let due := s.srv.batches.filter (fun k => decide (k.basin = b) && k.open_ && decide (k.target ≤ n))
  let s1 := due.foldl (fun a k => k.entries.foldl (fun a e => a.applyObj e.1 e.2 n b) a) s
  { s1 with srv := { s1.srv with
      batches := s1.srv.batches.map (fun k => if k ∈ due then { k with state := 1 } else k) } }

/-- The lock to which a deferral at lock `n` moves a target (R52, R301). (DEDUCED, log 8) -/
def deferred (n target : Nat) : Nat := max (target + 1) (n + 1)

/-- Batches of trims that target lock `n`, which no request has held, wait for a later lock, and every later batch of the
basin with them, at its tiles too (R301, R352). -/
def State.deferTrims (s : State) (b n : Nat) : State :=
  let open_ := s.srv.batches.filter (fun k => decide (k.basin = b) && k.open_)
  let late := if (s.basin b).held.contains n then [] else
    open_.dropWhile (fun k => !(k.trims && decide (k.target ≤ n)))
  if late.isEmpty then s
  else
    let s1 : State := { s with srv := { s.srv with
      batches := s.srv.batches.map (fun k =>
        if k ∈ late then { k with state := 2, target := deferred n k.target, deferrals := k.deferrals + 1 } else k) } }
    let s2 := (s1.basinTiles b).foldl (fun a t => a.updTile t (fun tl => { tl with tp := { tl.tp with
      batches := tl.tp.batches.map (fun k =>
        if late.any (fun l => decide (l.id = k.id)) then { k with target := deferred n k.target } else k) } })) s1
    s2.setObj 0x2F00 1 (s2.obj 0x2F00 1 ||| 4)

/-- Whether a batch of the basin, at the server or at a tile, targets lock `n` or an earlier one. -/
def State.anyDue (s : State) (b n : Nat) : Bool :=
  s.srv.batches.any (fun k => decide (k.basin = b) && k.open_ && decide (k.target ≤ n)) ||
  (s.basinTiles b).any (fun t => (s.tile t).tp.batches.any (fun k => decide (k.target ≤ n)))

/-- Every batch of basin `b` that targets lock `n` moves to lock `n + 1`, and later ones with it (R52, R301).
(DEDUCED, log 8) -/
def State.deferBatches (s : State) (b n : Nat) : State :=
  let mine := s.srv.batches.any (fun k => decide (k.basin = b) && k.open_)
  if mine && s.anyDue b n then
    let s1 : State := { s with srv := { s.srv with
        batches := s.srv.batches.map (fun k =>
          if k.basin = b ∧ k.open_ = true then { k with
            state := 2, target := deferred n k.target, deferrals := k.deferrals + 1 } else k) } }
    s1.setObj 0x2F00 1 (s.obj 0x2F00 1 ||| 4)
  else s

/-- The batches of a basin that is removed or reset are discarded (R301). -/
def State.discardBatches (s : State) (b : Nat) : State :=
  { s with srv := { s.srv with
      batches := s.srv.batches.map (fun k => if k.basin = b ∧ k.open_ = true then { k with state := 3 } else k) } }

end Sys2Proof.Machine
end

