-- ==== Sys2Proof/Machine/HostOps.lean ====
section
/-! DEFINITION. The host interface: queues, completions, interrupts, slots and host writes (R264 to R283). -/

namespace Sys2Proof.Machine

/-! ### BAR0 (R266, R281, R282) -/

/-- What a BAR0 word holds after reset.  Every MSI-X vector is masked after reset. (DESIGN CHOICE, log 53) -/
def barDefault (off : Nat) : Word32 :=
  if off = 0 then 0x5C080048#32
  else if off = 0xC then 0x3030#32
  else if off = 0x10 then 64#32
  else if off = 0x20 then 0xFF#32
  else if 0x80000 ≤ off ∧ off < 0x80000 + 16 * 130 ∧ off % 16 = 12 then 1#32
  else if (0x100 ≤ off ∧ off < 0x150) ∨ (0x10000 ≤ off ∧ off < 0x18000) then
    (if off % 256 = 0x10 then 4#32 else if off % 256 = 0x40 then 8#32 else if off % 256 = 0x44 then 20#32 else 0#32)
  else 0#32

/-- A BAR0 word. -/
def State.bar (s : State) (off : Nat) : Nat := (Map.get s.bar0 (barDefault off) off).toNat

/-- Stores a BAR0 word. -/
def State.setBar (s : State) (off n : Nat) : State :=
  { s with bar0 := Map.put s.bar0 (barDefault off) off (BitVec.ofNat 32 n) }

/-- The first register of a queue; 128 is the admin queue. -/
def qBase (q : Nat) : Nat := if q = 128 then 0x100 else 0x10000 + 0x100 * q

/-- Q_STATE of a queue. -/
def State.qState (s : State) (q : Nat) : Nat := s.bar (qBase q + 0x18)

/-- Whether a queue is enabled. -/
def State.qOn (s : State) (q : Nat) : Bool := bitOf (s.bar (qBase q + 0x14)) 0

/-- An MSI-X vector is signalled; a masked one becomes pending (R266). -/
def State.signal (s : State) (v : Nat) : State :=
  if v ∈ s.host.unmasked then { s with host := { s.host with msix := s.host.msix ++ [v] } }
  else if v ∈ s.host.pba then s
  else { s with host := { s.host with pba := s.host.pba ++ [v] } }

/-- A completion that asks for an interrupt: at once, or counted (R281). -/
def State.cplInterrupt (s : State) (q : Nat) : State :=
  if bitOf (s.bar (qBase q + 0x14)) 1 then
    let n := (s.queue q).coal + 1
    if s.bar (qBase q + 0x40) ≤ n then (s.updQueue q (fun k => { k with coal := 0 })).signal q
    else s.updQueue q (fun k => { k with coal := n })
  else s.signal q

/-- A queue changes to STOPPED or REWOUND: its vector is signalled and the count restarts (R281). -/
def State.qHalt (s : State) (q st : Nat) : State :=
  ((s.setBar (qBase q + 0x18) st).updQueue q (fun k => { k with coal := 0 })).signal q

/-- The committed cursor of a slot (R271); the admin queue has none. -/
def State.cursor (s : State) (q : Nat) : Nat := if q < 128 then s.obj (0x2510 + q) 3 else 0

/-- A completion is written to the queue's ring, whose slot is free (R267, R268). -/
def State.postCpl (s : State) (q tag status rows : Nat) (irq : Bool) : State :=
  let k := s.queue q
  let wrap := decide (k.size ≤ k.cplPos + 1)
  let s1 : State := { s with host := { s.host with
      cpls := s.host.cpls ++ [⟨q, k.cplPos, tag, status, k.phase, rows, s.cursor q⟩] } }
  let s2 := s1.updQueue q (fun k => { k with
    cplPos := if wrap then 0 else k.cplPos + 1, phase := if wrap then !k.phase else k.phase, used := k.used + 1 })
  if irq then s2.cplInterrupt q else s2

/-- Whether the completion ring has a slot that the host has freed. -/
def State.cplRoom (s : State) (q : Nat) : Bool := decide ((s.queue q).used < (s.queue q).size)

/-- The oldest entry of a queue, if it is complete, posts its completion (R267, R272). -/
def State.postFront (s : State) (q : Nat) : State :=
  match (s.queue q).entries with
  | [] => s
  | e :: rest =>
    match e.status with
    | none => s
    | some st =>
      if !s.cplRoom q then s
      else
        let s1 := (s.updQueue q (fun k => { k with entries := rest })).postCpl q e.tag st e.landed e.irq
        if q < 128 then s1.bumpObj (0x2510 + q) 4 1 (2 ^ 64 - 1) else s1

/-- Every entry that is complete posts its completion in ring order. (DESIGN CHOICE, log 44) -/
def State.postReady (s : State) (q : Nat) : State :=
  (List.range (s.queue q).entries.length).foldl (fun a _ => a.postFront q) s

/-- Whether the device can fetch the next submission entry of a queue (R267, R280). -/
def State.canFetch (s : State) (q : Nat) : Bool :=
  s.qOn q && (decide (s.qState q = 1) || decide (s.qState q = 3)) &&
  decide (s.bar (qBase q + 0x20) ≠ (s.queue q).tail) && s.cplRoom q

/-- The next submission entry of a queue is fetched: SQ_HEAD advances, and REWOUND ends (R273, R281). -/
def State.fetchEntry (s : State) (q : Nat) : State :=
  let h := s.bar (qBase q + 0x20) + 1
  (s.setBar (qBase q + 0x20) (if h < (s.queue q).size then h else 0)).setBar (qBase q + 0x18) 1

/-- An entry is appended to the queue's entries in progress. -/
def State.addEntry (s : State) (q : Nat) (e : HostEntry) : State :=
  (s.updQueue q (fun k => { k with entries := k.entries ++ [e] })).postReady q

/-- The next stream row that an entry taken now must supply: after the rows of entries in progress, or NEXT_ROW. -/
def State.nextRow (s : State) (q : Nat) : Nat :=
  (s.queue q).entries.foldl (fun a e => if e.status.isNone && decide (0 < e.need) then e.start + e.len else a)
    (s.cursor q + (s.queue q).landedEpoch)

/-- NEXT_ROW of a slot (R281). -/
def State.nextNeeded (s : State) (q : Nat) : Nat := s.cursor q + (s.queue q).landedEpoch

/-- A word of the block of queue `q` at offset `o` as the host reads it (R281); the admin queue has no cursor. -/
def State.queueRead (s : State) (q o : Nat) : Nat :=
  let wide (v : Nat) : Nat := if o % 8 = 0 then v % 2 ^ 32 else v / 2 ^ 32 % 2 ^ 32
  if o = 0x28 ∨ o = 0x2C then (if q < 128 then wide (s.cursor q) else 0)
  else if o = 0x30 ∨ o = 0x34 then (if q < 128 then wide (s.nextNeeded q) else 0)
  else if o ≤ 0x20 ∨ o = 0x38 ∨ o = 0x40 ∨ o = 0x44 then s.bar (qBase q + o) else 0

/-- What a host read of an aligned BAR0 word returns; a reserved range reads zero (R266, R281, R282). -/
def State.barRead (s : State) (off : Nat) : Nat :=
  if off < 0x34 then (if off = 0x24 then 0 else s.bar off)
  else if 0x100 ≤ off ∧ off < 0x150 then s.queueRead 128 (off - 0x100)
  else if 0x10000 ≤ off ∧ off < 0x18000 then s.queueRead ((off - 0x10000) / 256) (off % 256)
  else if 0x20000 ≤ off ∧ off ≤ 0x20400 ∧ off % 8 = 0 then (s.queue ((off - 0x20000) / 8)).tail
  else if 0x40000 ≤ off ∧ off ≤ 0x40014 then s.bar off
  else if 0x41000 ≤ off ∧ off < 0x42000 then ofBytes (((s.host.mbData ++ List.replicate 4096 0).drop (off - 0x41000)).take 4)
  else if 0x80000 ≤ off ∧ off < 0x80000 + 16 * 130 then s.bar off
  else if 0x88000 ≤ off ∧ off < 0x88014 then
    maskOf ((s.host.pba.filter (fun v => decide (v / 32 = (off - 0x88000) / 4))).map (· % 32))
  else 0

/-- Fields of a submission entry (R268). -/
def subF (e : BitVec 512) (hi lo : Nat) : Nat := (e.extractLsb' lo (hi + 1 - lo)).toNat

/-- A reserved field of an entry is not zero: bits 15 to 9, and from bit `lo` on (R268's status MALFORMED).  DEDUCED: that
status names a reserved field, so R8's general rule does not cover an entry. (DEDUCED, log 43) -/
def entryReserved (e : BitVec 512) (lo : Nat) : Bool := decide (subF e 15 9 ≠ 0) || decide (subF e 511 lo ≠ 0)

/-- A DATA entry is taken and judged (R268, R272). (DEDUCED, log 43) -/
def State.dataEntry (s : State) (q : Nat) (e : BitVec 512) : State :=
  if !s.canFetch q then s
  else
    let s1 := s.fetchEntry q
    let x := s1.nextRow q
    let st := subF e 191 128
    let n := subF e 63 32
    let mk (need : Nat) (status : Option Nat) : HostEntry :=
      ⟨subF e 31 16, e.getLsbD 8, st, n, need, 0, 0, false, status⟩
    if subF e 7 0 ≠ 1 ∨ 1048576 < n ∨ subF e 68 64 ≠ 0 ∨ entryReserved e 192 = true then s1.addEntry q (mk 0 (some 0x12))
    else if n = 0 then s1.addEntry q (mk 0 (some 1))
    else if st + n ≤ x then s1.addEntry q (mk 0 (some 0x10))
    else if x < st then (s1.addEntry q (mk 0 (some 0x11))).qHalt q 2
    else s1.addEntry q (mk (st + n - x) none)

/-- A doorbell write (R267): beyond the ring it is counted and discarded. -/
def State.doorbell (s : State) (q v : Nat) : State :=
  let size := if s.qOn q then (s.queue q).size else 2 ^ s.bar (qBase q + 0x10)
  if size ≤ v then s.setBar (qBase q + 0x38) (min (s.bar (qBase q + 0x38) + 1) (2 ^ 32 - 1))
  else s.updQueue q (fun k => { k with tail := v })

/-- The host frees completion slots (R267). (DESIGN CHOICE, log 44) -/
def State.cqHead (s : State) (q v : Nat) : State :=
  let k := s.queue q
  let size := if s.qOn q then k.size else 2 ^ s.bar (qBase q + 0x10)
  if size ≤ v then s
  else
    let freed := (v + size - s.bar (qBase q + 0x1C)) % size
    ((s.setBar (qBase q + 0x1C) v).updQueue q (fun k => { k with used := k.used - freed })).postReady q

/-- A queue is enabled (R266, R280): ring size and addresses take effect, positions restart, the phase is 1. -/
def State.queueEnable (s : State) (q : Nat) : State :=
  if s.qOn q then s
  else
    let b := qBase q
    let s1 := (((s.setBar (b + 0x14) (s.bar (b + 0x14) ||| 1)).setBar (b + 0x18) 1).setBar (b + 0x1C) 0).setBar (b + 0x20) 0
    s1.updQueue q (fun k => { k with
      size := 2 ^ s.bar (b + 0x10), entries := [], cplPos := 0, phase := true, used := 0, coal := 0 })

/-- Every entry in progress becomes ABORTED (R268). -/
def State.abortEntries (s : State) (q : Nat) : State :=
  (s.updQueue q (fun k => { k with
    entries := k.entries.map (fun e => if e.status.isNone then { e with status := some 0x14 } else e) })).postReady q

/-- A queue is disabled (R280): entries not complete are aborted; rows landed stay. -/
def State.queueDisable (s : State) (q : Nat) : State :=
  if s.qOn q then
    let b := qBase q
    ((s.abortEntries q).setBar (b + 0x14) (s.bar (b + 0x14) / 2 * 2)).setBar (b + 0x18) 0
  else s

/-- Function Level Reset (R280): queues are disabled and their rings forgotten, and BAR0 returns to its defaults, the
mirrors of management state apart; cursors, quotas and bindings survive. (DEDUCED, log 49) -/
def State.flr (s : State) : State :=
  { s with
    bar0 := s.bar0.filter (fun p => decide (p.1 < 0x100)),
    host := { s.host with
      queues := (s.host.queues.map (fun p => (p.1, { p.2 with
        size := 0, entries := [], cplPos := 0, phase := true, used := 0, tail := 0, coal := 0 }))).filter
          (fun p => decide (p.2 ≠ HostQueue.init)),
      pba := [], unmasked := [], mbData := [] } }

/-- The endpoint is in reset or has no reference: as Function Level Reset, with the link down (R491). (DEDUCED, log
49) -/
def State.endpointReset (s : State) : State :=
  let s1 := s.flr.setObj 0x2500 2 0
  { s1 with host := { s1.host with linkUp := false } }

/-! ### Slots (R270, R271, R274) -/

/-- Binding of a slot: flat row, host attachment index, length. -/
def State.binding (s : State) (q : Nat) : Nat × Nat × Nat :=
  let w := s.obj (0x2510 + q) 1
  (w % 65536, w / 65536 % 4, w / 2 ^ 18 % 256)

/-- The quota of a slot. -/
def State.quota (s : State) (q : Nat) : Nat := s.obj (0x2510 + q) 2

/-- Whether a slot is idle (R270). -/
def State.slotIdle (s : State) (q : Nat) : Bool := decide (s.quota q = 0) || decide ((s.binding q).2.2 = 0)

/-- The tile a slot is bound to. -/
def State.slotTile (s : State) (q : Nat) : Nat := s.hostTile (s.binding q).2.1

/-- The slots bound to a tile of basin `b`, idle ones left out. -/
def State.slotsOf (s : State) (b : Nat) : List Nat :=
  (List.range 128).filter (fun q => !s.slotIdle q && decide (s.basinOf (s.slotTile q) = some b))

/-- Quota rows of the epoch that are still to land at tile `t` (R271). -/
def State.slotShortfall (s : State) (t : Nat) : Nat :=
  ((List.range 128).filter (fun q => !s.slotIdle q && decide (s.slotTile q = t))).foldl
    (fun a q => a + (s.quota q - (s.queue q).landedEpoch)) 0

/-- Changes the oldest entry in progress that still has rows to land. -/
def updOpen (f : HostEntry → HostEntry) : List HostEntry → List HostEntry
  | [] => []
  | e :: rest => if e.status.isNone && decide (e.landed < e.need) then f e :: rest else e :: updOpen f rest

/-- The entry that supplies the next row. -/
def openEntry (l : List HostEntry) : Option HostEntry :=
  l.find? (fun e => e.status.isNone && decide (e.landed < e.need))

/-- The place of a host agent in the order for port X of its attachment tile (R265, R280): notify rows and landings, by
slot, before transmit reads. (DEDUCED, log 134) -/
def hostLands (q : Nat) : Option Nat := some (1 + q)

/-- A notify row of the host engine. (DEDUCED, log 134) -/
def hostNotes : Option Nat := some 0

/-- A transmit read of the host engine. (DEDUCED, log 134) -/
def hostReads : Option Nat := some 129

/-- The next quota row of a slot lands (R271, R150, R160). -/
def State.hostRowLand (s : State) (q : Nat) (d : Row) : State :=
  let k := s.queue q
  let (row, h, len) := s.binding q
  let t := s.hostTile h
  let flat := row + k.ringPos
  match s.basinOf t, openEntry k.entries with
  | some b, some e =>
    if s.slotIdle q || !s.basinRuns b || s.landingsStopped t || s.holdRows b || bitOf (s.obj 0x2500 6) h || s.host.stops.contains b ||
        decide (s.quota q ≤ k.landedEpoch) then s
    else if !s.bargeTurn t (bankOf flat) (hostLands q) then s.bargeAsk t (bankOf flat) (hostLands q)
    else match s.landRow t flat (if e.bad then 0 else d) e.bad 3 1 false with
      | (none, _) => s.blockOnce t (bankOf flat) (xKey 5 0 q flat) true
      | (some st, s1) =>
        let s2 := ((s1.bargeUse t (bankOf flat) (hostLands q)).bumpReg t 0xf18 1).unblock t (xKey 5 0 q flat)
        let s3 := if st = 0 && s.pailRow t flat then s2 else s2.bumpReg t 0xf1c 1
        (s3.updQueue q (fun k => { k with
          ringPos := if k.ringPos + 1 < len then k.ringPos + 1 else 0,
          landedEpoch := k.landedEpoch + 1,
          entries := updOpen (fun e => { e with landed := e.landed + 1 }) k.entries })).bumpWin (objKey 0x2500 3)
          (b2n (decide (st = 0)))
  | _, _ => s

/-- A host read of the entry in progress fails: its remaining rows land as poison (R274, R280). -/
def State.hostReadError (s : State) (q : Nat) : State :=
  match openEntry (s.queue q).entries with
  | none => s
  | some _ =>
    (s.updQueue q (fun k => { k with
      entries := updOpen (fun e => { e with bad := true }) k.entries })).bumpObj 0x2500 5 1

/-- What a lock does to the slots of its basin (R271, R272): the cursor advances, and entries whose last row has landed
are complete. (DESIGN CHOICE, log 50) -/
def State.slotLock (s : State) (q : Nat) : State :=
  let (v, s0) := s.fresh
  let s1 := s0.setObj (0x2510 + q) 3 ((s.cursor q + s.quota q) % 2 ^ 64)
  let s2 := s1.setObj (0x2510 + q) 5 (v.toNat % 2 ^ 32)
  (s2.updQueue q (fun k => { k with
    landedEpoch := 0, ringPosLock := k.ringPos,
    entries := k.entries.map (fun e =>
      if e.status.isNone then { e with
        landedLock := e.landed,
        status := if e.need ≤ e.landed then some (if e.bad then 0x13 else 0) else none } else e) })).postReady q

/-- Epoch replay returns a slot to the failed epoch's lock (R272). -/
def State.slotRewind (s : State) (q : Nat) : State :=
  s.updQueue q (fun k => { k with
    landedEpoch := 0, ringPos := k.ringPosLock,
    entries := k.entries.map (fun e => if e.status.isNone then { e with landed := e.landedLock } else e) })

/-! ### Host writes (R275, R393, R394) -/

/-- Fields of a host descriptor. -/
def hdCount (d : Row) : Nat := hdrF d 12 0
/-- OUT_NOTIFY of a host descriptor. -/
def hdNotify (d : Row) : Bool := d.getLsbD 13
/-- Whether a host descriptor posts a completion. -/
def hdPost (d : Row) : Bool := d.getLsbD 14
/-- The slot of a host descriptor. -/
def hdSlot (d : Row) : Nat := hdrF d 22 16
/-- SRC_ROW of a host descriptor. -/
def hdSrc (d : Row) : Nat := hdrF d 47 32
/-- OUT_NOTIFY_ROW of a host descriptor. -/
def hdOutRow (d : Row) : Nat := hdrF d 63 48
/-- The host address of a host descriptor. -/
def hdAddr (d : Row) : Nat := hdrF d 127 64
/-- OSEQ of a host descriptor. -/
def hdOseq (d : Row) : Nat := hdrF d 191 128

/-- The row that reports a host write (R268, R275). -/
def hostRecord (oseq status rows : Nat) (phase : Bool) : Row :=
  BitVec.ofNat 256 (oseq % 65536 + 2 ^ 16 * status + 2 ^ 24 * b2n phase + 2 ^ 32 * rows + 2 ^ 64 * oseq)

/-- The write in progress at `Hh`. -/
def State.hostWrite (s : State) (h : Nat) : Option HostWrite := Map.get s.host.writes none h

/-- Replaces the write in progress at `Hh`. -/
def State.setWrite (s : State) (h : Nat) (w : Option HostWrite) : State :=
  { s with host := { s.host with writes := Map.put s.host.writes none h w } }

/-- A row goes to host memory; poison goes as ones (R275, R394). -/
def State.postRow (s : State) (h : Nat) (w : HostWrite) (d : Row) (pz : Bool) : State :=
  let s1 : State := { s with host := { s.host with
      posted := s.host.posted ++ [(hdAddr w.desc + 32 * w.read, if pz then BitVec.allOnes 256 else d)] } }
  let s2 := (s1.setWrite h (some { w with read := w.read + 1, bad := w.bad || pz })).bumpWin (objKey 0x2500 4) 1
  if pz && decide (w.basin < 16) then s2.bumpWin (objKey (0x2810 + w.basin) 8) 1 else s2

/-- Every row is written: the notify row, then the completion, once for each OSEQ (R30, R31, R275). (DEDUCED, log 46) -/
def State.hostFinish (s : State) (h : Nat) (w : HostWrite) : State :=
  let d := w.desc
  let q := hdSlot d
  let n := hdCount d
  let st := if w.bad then 0x13 else if n = 0 then 1 else 0
  let fresh := decide (Map.get s.host.oseq 0 w.basin ≤ hdOseq d)
  let post := hdPost d && fresh && s.qOn q
  let held := decide (w.basin < 16) && (s.basin w.basin).stop
  if post && !s.cplRoom q then s
  else match (if hdNotify d && !held then
      s.landRecord (s.hostTile h) (hdOutRow d) (xKey 8 h 0 (hdOutRow d)) hostNotes (hostRecord (hdOseq d) st n (s.queue q).phase)
      else some s) with
    | none => s.recordWaits (s.hostTile h) (hdOutRow d) (xKey 8 h 0 (hdOutRow d)) hostNotes
    | some s1 =>
      let s2 := if post then s1.postCpl q (hdOseq d % 65536) st n true else s1
      let s3 : State := if fresh then { s2 with
          host := { s2.host with oseq := Map.put s2.host.oseq 0 w.basin (hdOseq d + 1) } } else s2
      s3.setWrite h none

/-- The next row of a host write, once the gate lets it pass; after STOP an ungated row is written as ones (R393,
R394). -/
def State.hostWriteRow (s : State) (h : Nat) (w : HostWrite) : State :=
  let t := s.hostTile h
  let flat := hdSrc w.desc + w.read
  let bk := bankOf flat
  let pail := s.pailRow t flat
  let g := if pail then max w.gate (Map.get (s.bank t bk).fillBeat 0 (localOf flat)) else w.gate
  let known := !pail || Map.get (s.bank t bk).full false (localOf flat)
  if known && s.gatePassed w.basin g then
    if !s.bargeTurn t bk hostReads then s.bargeAsk t bk hostReads
    else
      let st := s.portXStatus t flat [1]
      if st ≠ 0 then ((s.rejectX t flat st 1).bargeUse t bk hostReads).postRow h w 0 true
      else match s.fetchRow t flat none with
        | (none, _) => s.blockOnce t bk (xKey 6 h 0 flat) false
        | (some (d, pz), s1) => ((s1.bargeUse t bk hostReads).unblock t (xKey 6 h 0 flat)).postRow h w d pz
  else if s.host.stops.contains w.basin then ((s.bumpReg t 0x6060 1).bumpWin (objKey 0x2800 0xB) 1).postRow h w 0 true
  else s.blockRead t flat (xKey 6 h 0 flat)

/-- The engine reads the next host descriptor of `Hh` (R249, R275). (DESIGN CHOICE, log 45) -/
def State.hostDescriptor (s : State) (h : Nat) : State :=
  let v := s.obj 0x2501 (h + 1)
  let len := v / 65536 % 256
  let t := s.hostTile h
  let pos := Map.get s.host.winPos 0 h
  let flat := v % 65536 + pos
  let b := bankOf flat
  let bn := (s.basinOf t).getD 16
  if len = 0 ∨ bitOf (s.obj 0x2500 6) h = true ∨ s.host.stops.contains bn = true ∨ (s.tile t).stop = true ∨ 40960 ≤ flat then s
  else if !s.bargeTurn t b hostReads then s.bargeAsk t b hostReads
  else
    let next (a : State) : State := { a with
      host := { a.host with winPos := Map.put a.host.winPos 0 h (if pos + 1 < len then pos + 1 else 0) } }
    let st := s.portXStatus t flat [1]
    if st ≠ 0 then ((next (s.rejectX t flat st 1)).bargeUse t b hostReads).bumpReg t 0xf1c 1
    else
      let gate := Map.get (s.bank t b).fillBeat 0 (localOf flat)
      match s.fetchRow t flat none with
      | (none, _) => s.blockOnce t b (xKey 7 h 0 flat) false
      | (some (d, pz), s1) =>
        let s2 := (next (s1.bargeUse t b hostReads)).unblock t (xKey 7 h 0 flat)
        if pz then s2
        else if 4096 < hdCount d ∨ hdAddr d % 32 ≠ 0 ∨ 40960 < hdSrc d + hdCount d then
          if hdNotify d then
            match s2.landNow t (hdOutRow d) (xKey 8 h 0 (hdOutRow d)) hostNotes (hostRecord (hdOseq d) 0x12 0 (s2.queue (hdSlot d)).phase) with
            | some s3 => s3
            | none => s.blockLand t (hdOutRow d) (xKey 8 h 0 (hdOutRow d))
          else s2
        else s2.setWrite h (some ⟨d, gate, bn, 0, false⟩)

/-- The host engine's next action at `Hh`: a row or the end of the write in progress, else the next descriptor.
(DESIGN CHOICE, log 45) -/
def State.hostEngine (s : State) (h : Nat) : State :=
  match s.hostWrite h with
  | some w =>
    let shut := decide (w.read = 0) && !s.gatePassed w.basin w.gate
    if w.read < hdCount w.desc then
      if shut && s.host.stops.contains w.basin then s else s.hostWriteRow h w
    else if shut && decide (hdCount w.desc = 0) then s
    else s.hostFinish h w
  | none => s.hostDescriptor h

end Sys2Proof.Machine
end

