-- ==== Sys2Proof/Machine/TowpathOps.lean ====
section
/-! DEFINITION. Towpath routers and barriers (R205, R212, R213, R216). -/

namespace Sys2Proof.Machine

/-- The router number of a field gateway; berth hubs are 0 to 143. -/
def gatewayOf (f : Nat) : Nat := 144 + f

/-! ### Topology (R205) -/

/-- The last berth row of the device's shape. -/
def State.topBerth (s : State) : Nat := s.shapeRows / 4 - 1

/-- Whether the device's shape has a berth hub: a berth without rows has none. -/
def State.hubExists (s : State) (h : Nat) : Bool := decide (h / 12 < s.shapeRows / 4)

/-- The hubs of the adjacent berths. -/
def State.hubLinks (s : State) (h : Nat) : List Nat :=
  (if 0 < h % 12 then [h - 1] else []) ++ (if h % 12 < 11 then [h + 1] else []) ++
  (if 12 ≤ h then [h - 12] else []) ++ (if h / 12 < s.topBerth then [h + 12] else [])

/-- The hub that links to the gateway of field `f`: in the outer berth row of the field, in its middle column. -/
def State.gatewayHub (s : State) (f : Nat) : Nat := (if f < 4 then 0 else 12 * s.topBerth) + 3 * (f % 4) + 1

/-- The next hub from `h` towards hub `g`, along x first. (DESIGN CHOICE, log 104) -/
def hubNext (h g : Nat) : Nat :=
  if h % 12 < g % 12 then h + 1 else if g % 12 < h % 12 then h - 1
  else if h / 12 < g / 12 then h + 12 else h - 12

/-- The hubs that a message passes from `h` to hub `g`, both counted. -/
def hubRoute : Nat → Nat → Nat → List Nat
  | 0, h, _ => [h]
  | k + 1, h, g => if h = g then [h] else h :: hubRoute k (hubNext h g) g

/-- The gateways that adjoin one in their 4 × 2 mesh. -/
def gatewayLinks (f : Nat) : List Nat :=
  (if 0 < f % 4 then [f - 1] else []) ++ (if f % 4 < 3 then [f + 1] else []) ++ [if f < 4 then f + 4 else f - 4]

/-- The gateways that a message passes from `f` to `g`, both counted, along x first. (DESIGN CHOICE, log 104) -/
def gatewayRoute : Nat → Nat → Nat → List Nat
  | 0, f, _ => [f]
  | k + 1, f, g =>
    if f = g then [f]
    else f :: gatewayRoute k (if f % 4 < g % 4 then f + 1 else if g % 4 < f % 4 then f - 1 else (f + 4) % 8) g

/-- The tiles of basin `b` in field `f`. -/
def State.fieldTiles (s : State) (b f : Nat) : List Nat := (s.basinTiles b).filter (fun t => decide (s.fieldOf t = f))

/-- The tiles of basin `b` in a berth. -/
def State.berthTiles (s : State) (b h : Nat) : List Nat := (s.basinTiles b).filter (fun t => decide (berthOf t = h))

/-- The root of the basin's reductions: the gateway of its south-west field (R213). -/
def State.rootField (s : State) (b : Nat) : Nat :=
  match s.basinTiles b with
  | t :: _ => s.fieldOf t
  | [] => 0

/-- The tiles of basin `b` whose frames pass router `r` on their way to the root (R205). -/
def State.tilesUnder (s : State) (b r : Nat) : List Nat :=
  if r < 144 then s.berthTiles b r
  else if r - 144 = s.rootField b then s.basinTiles b
  else s.fieldTiles b (r - 144)

/-- The routers that a reduction frame of basin `b` passes from router `r` to the router that combines it next: the hubs on the
way to the field gateway, then that gateway; or the gateways on the way to the root (R205, R213). -/
def State.routeUp (s : State) (b r : Nat) : List Nat :=
  if r < 144 then
    match s.berthTiles b r with
    | [] => []
    | t :: _ => (hubRoute 24 r (s.gatewayHub (s.fieldOf t))).drop 1 ++ [gatewayOf (s.fieldOf t)]
  else ((gatewayRoute 8 (r - 144) (s.rootField b)).drop 1).map gatewayOf

/-- The router that combines the frames of `r` next on the way to the basin's root; none at the root (R205, R213). -/
def State.routerAbove (s : State) (b r : Nat) : Option Nat := (s.routeUp b r).getLast?

/-! ### Words of a message at a hop (R206, R207, R211, R226) -/

/-- `n` words were sent again by the hop to router `r`: a field gateway has no registers, and counts in the object only. -/
def State.tpRetry (s : State) (r n : Nat) : State :=
  let s1 := s.bumpWin (objKey 0x2640 1) n
  if r < 2304 then s1.bumpReg r 0xc04 n
  else if r < 2448 then s1.updHub (r - 2304) (fun h => { h with retry := min (h.retry + n) 0xFFFFFFFF })
  else s1

/-- Router `r` discards a message. -/
def State.tpDrop (s : State) (r : Nat) : State :=
  let s1 := s.bumpWin (objKey 0x2640 2) 1
  if r < 2304 then s1.bumpReg r 0xc08 1
  else if r < 2448 then s1.updHub (r - 2304) (fun h => { h with drops := min (h.drops + 1) 0xFFFFFFFF })
  else s1

/-- TP_LINK_FAULT, raised by a tile router, or by a hub or gateway for the message's basin (16: none). (DEDUCED, log
104) -/
def State.linkFault (s : State) (r b : Nat) : State :=
  if r < 2304 then s.raiseAlarm r 0xE 0 else s.agentAlarm 0xE 0 b

/-- The words of a message that had to be sent again are counted (R211). (DEDUCED, log 104) -/
def State.hopRetry (s : State) (h : TpHop) : State :=
  if h.resent.val = 0 then s else s.tpRetry h.router.val h.resent.val

/-- A message is discarded at a router, and counted; a second parity failure raises TP_LINK_FAULT (R207, R211).
(DEDUCED, log 104) -/
def State.hopLost (s : State) (h : TpHop) (b : Nat) : State :=
  let s1 := s.tpDrop h.router.val
  if hopMalformed h then s1 else s1.linkFault h.router.val b

/-- The basin of a message to tile `t`: 16 where it has none. -/
def State.msgBasin (s : State) (t : Nat) : Nat := (s.basinOf t).getD 16

/-- A berth hub sends a message on its link towards its field gateway. -/
def State.hubSend (s : State) (h op dst : Nat) (body : List Nat) : State :=
  s.updHub h (fun x => { x with up := tpPost x.up (tpMessage op dst (tpCode (.hub h)) body) })

/-- Frames of an opcode have gone on from the links below router `r` of basin `b`. -/
def State.framesTaken (s : State) (b r op : Nat) : State :=
  if r < 144 then (s.berthTiles b r).foldl (fun a t => a.tileTook t op) s
  else ((List.range 144).filter (fun h => !(s.berthTiles b h).isEmpty && decide (s.fieldOf (hubTile h) = r - 144))).foldl
    (fun a h => a.updHub h (fun x => { x with up := tpTake x.up op })) s

/-- A berth hub answers a configuration request. -/
def State.hubRespond (s : State) (h status : Nat) (data : List Word32) : State :=
  (s.hubSend h 9 keeperAddr ((status + 65536 * data.length) :: data.map (·.toNat))).updHub h (fun x => { x with
    responses := x.responses ++ [⟨2304 + h, status, data⟩] })

/-- A word of a berth hub's registers (R226). -/
def State.hubReg (s : State) (h off : Nat) : Nat :=
  let x := Map.get s.hubs Hub.init h
  match off with
  | 0 => x.missMask
  | 4 => x.retry
  | 8 => x.drops
  | 12 => (s.basinOf (hubTile h)).getD 0x10
  | _ => 0

/-- Word 2 of a BAR_UP frame: barrier number, generation, extent (R212). -/
def barWord (num : Nat) (g : Bool) (ext : Nat) : Nat := num % 256 + 256 * b2n g + 512 * ext

/-- BAR: the tile's generation bit toggles and its frame goes to its berth hub (R212). -/
def State.barIssue (s : State) (t num ext : Nat) : State :=
  let tl := s.tile t
  if ext = 3 then s.taskFault t 3
  else if num ∈ tl.tp.pend then s.ctrlForm t
  else
    let g := !(Map.get tl.tp.gens false num)
    let s1 := s.updTile t (fun tl => { tl with tp := { tl.tp with
      gens := Map.put tl.tp.gens false num g, pend := tl.tp.pend ++ [num] } })
    let s2 := s1.trace t 5 num []
    match s2.basinOf t with
    | some b => (s2.tileSend t 1 (tpCode (.hub (berthOf t))) [barWord num g ext]).updBasin b (fun v => { v with barFrames := v.barFrames ++ [⟨berthOf t, num, g, ext, 1⟩] })
    | none => s2

/-- BARW: holds the tile while its latest BAR of that number has not completed (R212). -/
def State.barWait (s : State) (t num : Nat) : State :=
  if num ∈ (s.tile t).tp.pend then
    s.updTile t (fun tl => { tl with tp := { tl.tp with waitBar := some num } })
  else s

/-- The frames of one number and generation at a router. -/
def barAt (l : List BarFrame) (r num : Nat) (g : Bool) : List BarFrame :=
  l.filter (fun f => decide (f.at_ = r) && decide (f.num = num) && f.gen == g)

/-- Removes the frames of one number and generation at a router. -/
def barDrop (l : List BarFrame) (r num : Nat) (g : Bool) : List BarFrame :=
  l.filter (fun f => !(decide (f.at_ = r) && decide (f.num = num) && f.gen == g))

/-- BAR_FORM: frames with different extents meet (R212). -/
def State.barForm (s : State) (b num : Nat) : State := (s.agentAlarm 0xF num b).bumpObj 0x2640 6 1

/-- A router combines the frames of one number and generation (R212): at the root of the extent the barrier completes. -/
def State.barCombine (s : State) (r b num : Nat) (g : Bool) : State :=
  let v := s.basin b
  let fs := barAt v.barFrames r num g
  match fs with
  | [] => s
  | f :: _ =>
    let n := fs.foldl (fun a x => a + x.count) 0
    let drop (s : State) : State := (s.updBasin b (fun v => { v with barFrames := barDrop v.barFrames r num g })).framesTaken b r 1
    let finish (tiles : List Nat) : State :=
      (drop s).updBasin b (fun v => { v with barDone := v.barDone ++ [⟨num, g, tiles⟩] })
    if fs.any (fun x => decide (x.ext ≠ f.ext)) then (drop s).barForm b num
    else if f.ext = 0 then (if n = (s.berthTiles b r).length then finish (s.berthTiles b r) else s)
    else if f.ext = 1 ∧ 144 ≤ r then
      (if n = (s.fieldTiles b (r - 144)).length then finish (s.fieldTiles b (r - 144)) else s)
    else
      let need := if r < 144 then s.berthTiles b r else s.tilesUnder b r
      if n ≠ need.length then s
      else match s.routerAbove b r with
        | none => finish (s.basinTiles b)
        | some p =>
          let s1 := if r < 144 then (drop s).hubSend r 1 (tpCode (.gateway (p - 144))) [barWord num g f.ext] else drop s
          s1.updBasin b (fun v => { v with barFrames := v.barFrames ++ [⟨p, num, g, f.ext, n⟩] })

/-- A router combines the barrier frames of one number, generation by generation
(R212). -/
def State.barUp (s : State) (r b num : Nat) : State := (s.barCombine r b num false).barCombine r b num true

/-- Whether a router holds a barrier frame of a number. -/
def State.barHeld (s : State) (r b num : Nat) : Bool :=
  (s.basin b).barFrames.any (fun f => decide (f.at_ = r) && decide (f.num = num))

/-- A barrier frame that reached router `r` is discarded there: its barrier stays incomplete (R211). -/
def State.barLost (s : State) (r b num : Nat) : State :=
  (s.framesTaken b r 1).updBasin b (fun v => { v with
    barFrames := v.barFrames.eraseP (fun f => decide (f.at_ = r) && decide (f.num = num)) })

/-- The completion that tile `t` is still to receive. -/
def State.barDue (s : State) (t num : Nat) : Option BarDone :=
  match s.basinOf t with
  | none => none
  | some b => (s.basin b).barDone.find? (fun d =>
      decide (d.num = num) && d.gen == Map.get (s.tile t).tp.gens false num && decide (t ∈ d.tiles))

/-- A barrier completion on its way to tile `t` is discarded (R211). -/
def State.barDoneLost (s : State) (t num : Nat) : State :=
  match s.barDue t num with
  | none => s
  | some d => s.updBasin (s.msgBasin t) (fun v => { v with
      barDone := (v.barDone.map (fun x => if x = d then { d with tiles := d.tiles.filter (fun u => decide (u ≠ t)) } else x)).filter
        (fun x => !x.tiles.isEmpty) })

/-- A barrier completion reaches a participant (R213). -/
def State.barDeliver (s : State) (t num : Nat) : State :=
  match s.basinOf t with
  | none => s
  | some b =>
    let g := Map.get (s.tile t).tp.gens false num
    match (s.basin b).barDone.find? (fun d => decide (d.num = num) && d.gen == g && decide (t ∈ d.tiles)) with
    | none => s
    | some d =>
      let d' : BarDone := { d with tiles := d.tiles.filter (fun x => decide (x ≠ t)) }
      let s1 := s.updBasin b (fun v => { v with
        barDone := (v.barDone.map (fun x => if x = d then d' else x)).filter (fun x => !x.tiles.isEmpty) })
      let s2 := s1.updTile t (fun tl => { tl with tp := { tl.tp with
        pend := tl.tp.pend.filter (fun x => decide (x ≠ num)),
        waitBar := if tl.tp.waitBar = some num then none else tl.tp.waitBar } })
      s2.trace t 5 (num + 256) []

end Sys2Proof.Machine
end

