-- ==== Sys2Proof/Machine/LockOps.lean ====
section
/-! DEFINITION. Locks: reports, waves, staged items, digests, the lock image and the lock beat (R46 to R57, R215, R216,
R404, R460, R462). -/

namespace Sys2Proof.Machine

/-- Changes the lock logic of tile `t`. -/
def State.updLk (s : State) (t : Nat) (f : LockUnit → LockUnit) : State :=
  s.updTile t (fun tl => { tl with lk := f tl.lk })

/-! ### Epoch store (R56) -/

/-- Fields of an epoch store record. -/
def recRun (r : BitVec 128) : Nat := bitsOf r.toNat 31 0
def recLen (r : BitVec 128) : Nat := bitsOf r.toNat 63 32
def recReport (r : BitVec 128) : Nat := bitsOf r.toNat 95 64
def recReplayable (r : BitVec 128) : Bool := bitOf r.toNat 96
def recSnapshot (r : BitVec 128) : Bool := bitOf r.toNat 97
def recDigest (r : BitVec 128) : Bool := bitOf r.toNat 98
def recLast (r : BitVec 128) : Bool := bitOf r.toNat 99
def recLoop (r : BitVec 128) : Bool := bitOf r.toNat 100
def recTarget (r : BitVec 128) : Nat := bitsOf r.toNat 111 104
def recTag (r : BitVec 128) : Nat := bitsOf r.toNat 127 112

/-- The record in force at tile `t`. -/
def State.estoreRec (s : State) (t : Nat) : BitVec 128 := Map.get (s.tile t).lk.estore 0 (s.regN t 0xf30)

/-- EPOCH_REC and EPOCH_LEFT of the epoch after one with these values. (DEDUCED, log 14) -/
def estoreNext (store : Map (BitVec 128)) (i left : Nat) : Nat × Nat :=
  if 1 < left then (i, left - 1)
  else
    let r := Map.get store 0 i
    if recLast r then
      (if recLoop r then (recTarget r, recRun (Map.get store 0 (recTarget r))) else (i, left))
    else ((i + 1) % 256, recRun (Map.get store 0 ((i + 1) % 256)))

/-- The record of an epoch table that covers the `n`th epoch from the start of record `i`, and the epochs left in its run
(R56). -/
def locate (table : Map (BitVec 128)) : Nat → Nat → Nat → Nat × Nat
  | 0, i, _ => (i, 1)
  | k + 1, i, n =>
    let r := Map.get table 0 i
    if n < recRun r then (i, recRun r - n)
    else if recLast r && !recLoop r then (i, 1)
    else locate table k (if recLast r then recTarget r else (i + 1) % 256) (n - recRun r)

/-- Records that a walk from `i` passes before it has covered one whole turn of the table's loop: the length of the loop
in epochs, 0 where the table has none. -/
def loopLen (table : Map (BitVec 128)) : Nat → Nat → Nat
  | 0, _ => 0
  | k + 1, i =>
    let r := Map.get table 0 i
    if recLast r then recRun r else recRun r + loopLen table k (i + 1)

/-- Epochs before the loop's target, and the loop's length; none where the table does not loop. -/
def loopOf (table : Map (BitVec 128)) : Option (Nat × Nat) :=
  match (List.range 256).find? (fun i => recLast (Map.get table 0 i)) with
  | some i =>
    let r := Map.get table 0 i
    if recLoop r then
      some ((List.range (recTarget r)).foldl (fun a k => a + recRun (Map.get table 0 k)) 0, loopLen table 256 (recTarget r))
    else none
  | none => none

/-- Where epoch `n` stands in a table: record and epochs left. -/
def epochAt (table : Map (BitVec 128)) (n : Nat) : Nat × Nat :=
  match loopOf table with
  | some (a, len) => locate table 257 0 (if a ≤ n ∧ len ≠ 0 then a + (n - a) % len else n)
  | none => locate table 257 0 n

/-- The record that covers epoch `n` of a basin's table. -/
def epochRec (table : Map (BitVec 128)) (n : Nat) : BitVec 128 := Map.get table 0 (epochAt table n).1

/-- Loads EPOCH_LEN, REPORT_BEAT and DIGEST_POINT from the record in force. -/
def State.estoreLoad (s : State) (t : Nat) : State :=
  let r := s.estoreRec t
  ((s.setRegN t 0xf0c (recLen r)).setRegN t 0xf10 (recReport r)).setRegN t 0x804 (b2n (recDigest r) + 65536 * recTag r)

/-! ### Reports and waves (R47, R48, R215, R230) -/

/-- Ports whose block has tile `t` as an attachment tile, with the attachment indices. -/
def State.attachOf (s : State) (t : Nat) : List (Nat × Nat) :=
  ((List.range 64).map (fun p => ((List.range 16).filter (fun i => decide (s.attachTile p i = t))).map (fun i => (p, i)))).flatten

/-- Rows of a barge whose HEAD has been taken that are still to be taken for landing, its notify row included; of one that
has drawn a status, the rows at the crossing (R230). -/
def RxBarge.untaken (b : RxBarge) : Nat :=
  if b.waiting || b.dup then 0
  else if b.status.isNone then hdrCount b.hdr - b.taken + b2n (hdrNotify b.hdr && !b.notified)
  else b.rows.length

/-- Rows of barges taken in the epoch that are still to land at tile `t` (R230). -/
def State.bargeShortfall (s : State) (t : Nat) : Nat :=
  (s.attachOf t).foldl (fun a pi =>
    (s.port pi.1).rx.foldl (fun a e =>
      match e.2 with
      | some b => if hdrAttach b.hdr = pi.2 then a + b.untaken else a
      | none => a) a) 0

/-- The epoch's beat count that the tile reports (R50, R73). -/
def State.beatCount (s : State) (t : Nat) : Nat :=
  if (s.tile t).til.endIssued then s.regN t 0xf08 + 1 else s.regN t 0xf0c

/-- The batch flag of tile `t` for lock `n`: every batch that it has any part of is complete (R220), and it holds every batch
that the Lockkeeper has issued for that lock (R48, R52). (DEDUCED, log 8) -/
def State.batchFlag (s : State) (t n : Nat) : Bool :=
  let l := (s.tile t).tp.batches
  l.all TileBatch.complete &&
  s.srv.batches.all (fun k => decide (some k.basin ≠ s.basinOf t) || !k.open_ || decide (n < k.target) ||
    l.any (fun x => decide (x.id = k.id) && x.complete))

/-- Words 1 to 5 of a lock report (R215). -/
def WaveResult.body (r : WaveResult) : List Nat :=
  let d := (BitVec.ofInt 64 r.diff).toNat
  [d % 2 ^ 32, d / 2 ^ 32, r.bmin, r.bmax,
   b2n r.batch + 2 * (r.faults % 128) + 256 * (r.wave % 256) + 65536 * min r.tiles 65535]

/-- A LOCK_UP frame of tile `t` with its counters as they stand (R48, R215). -/
def State.lockFrame (s : State) (t b : Nat) : LockFrame :=
  let f := bitsOf (s.regN t 0x6000) 7 1
  let c := s.beatCount t
  ⟨berthOf t, 1, ⟨(s.regN t 0xf18 : Int) - s.regN t 0xf1c, c, c, s.batchFlag t (s.nextLockNum b), f,
    (s.tile t).lk.wave % 256, b2n (decide (f ≠ 0))⟩⟩

/-- The tile sends a frame; its batch flag is kept for LOCK_STATUS. -/
def State.sendFrame (s : State) (t b : Nat) : State :=
  let f := s.lockFrame t b
  ((s.updBasin b (fun v => { v with lockFrames := v.lockFrames ++ [f], waveBegun := true })).tileSend t 3
    (tpCode (.hub (berthOf t))) f.rep.body).updLk t (fun l =>
    { l with reported := true, batchBad := !f.rep.batch })

/-- The lock report of a tile, once its report beat has completed or it waits at its lock (R48, R230, R271). -/
def State.lockReport (s : State) (t : Nat) : State :=
  let l := (s.tile t).lk
  match s.basinOf t with
  | none => s
  | some b =>
    if (s.basin b).started && !l.open_ && !l.reported && !(s.tile t).dark &&
        (l.atLock || decide (s.regN t 0xf10 < s.regN t 0xf08)) then
      (s.bumpReg t 0xf18 (s.bargeShortfall t + s.slotShortfall t)).sendFrame t b
    else s

/-- Two lock reports combined (R215). -/
def WaveResult.combine (a b : WaveResult) : WaveResult :=
  ⟨a.diff + b.diff, min a.bmin b.bmin, max a.bmax b.bmax, a.batch && b.batch, a.faults ||| b.faults, a.wave,
   min (a.tiles + b.tiles) 65535⟩

/-- Whether the epoch table, as tile `t` holds it, gives the counts that a result carries (R50). -/
def State.countsAgree (s : State) (t : Nat) (r : WaveResult) : Bool :=
  let e := recLen (s.estoreRec t)
  decide (r.bmin = e) && decide (r.bmax = e)

/-- A result that shows the lock conditions met (R49). -/
def WaveResult.clean (r : WaveResult) : Bool := decide (r.diff = 0) && decide (r.faults = 0)

/-- The root has the result of a wave; a leak names the tiles whose switches, pails or crossings hold tokens (R48, R50,
R52, R53). (DEDUCED, log 109) -/
def State.waveResult (s : State) (b : Nat) (r : WaveResult) : State :=
  let s1 := s.updBasin b (fun v => { v with result := some r, wave := v.wave + 1 })
  let s2 := if (s.basinTiles b).all (fun t => s.countsAgree t r) then s1 else (s1.agentAlarm 0xD 0 b).bumpObj (0x2610 + b) 0xA 1
  if r.diff ≠ 0 then
    ((s2.agentAlarm 0xC r.wave b).bumpObj (0x2610 + b) 9 1).updBasin b (fun v =>
      { v with leaks := (s.basinTiles b).filter (fun t =>
        s.holdsTokens t || decide (s.bargeShortfall t ≠ 0) || decide (s.slotShortfall t ≠ 0)) })
  else if r.clean && !r.batch then
    let n := s.nextLockNum b
    (s2.updBasin b (fun v => { v with defers := s2.anyDue b n })).deferBatches b n
  else s2

/-- A router combines the lock reports of one wave once every tile under it has sent its own (R215).  Where the root's two
copies of the result differ (`split`), it sends nothing and raises TP_LINK_FAULT. (DEDUCED, log 104) -/
def State.lockUp (s : State) (r b : Nat) (split : Bool) : State :=
  let v := s.basin b
  match v.lockFrames.filter (fun f => decide (f.at_ = r)) with
  | [] => s
  | f :: rest =>
    let same := rest.filter (fun x => decide (x.rep.wave = f.rep.wave))
    let n := same.foldl (fun a x => a + x.count) f.count
    if n ≠ (if r < 144 then (s.berthTiles b r).length else (s.tilesUnder b r).length) then s
    else
      let rep := same.foldl (fun a x => a.combine x.rep) f.rep
      let s1 := (s.updBasin b (fun v => { v with
        lockFrames := v.lockFrames.filter (fun x => !(decide (x.at_ = r) && decide (x.rep.wave = f.rep.wave))) })).framesTaken b r 3
      match s.routerAbove b r with
      | none => if split then s1.agentAlarm 0xE 0 b else s1.waveResult b rep
      | some p =>
        let s2 := if r < 144 then s1.hubSend r 3 (tpCode (.gateway (p - 144))) rep.body else s1
        s2.updBasin b (fun v => { v with lockFrames := v.lockFrames ++ [⟨p, n, rep⟩] })

/-- A tile moves its batches as the Lockkeeper moves them when one that targets lock `n` is deferred (R52, R301). -/
def deferTile (n : Nat) (l : List TileBatch) : List TileBatch := l.map (fun k => { k with target := deferred n k.target })

/-- Whether the cellar flushes a snapshot of tile `t`'s basin, whose hold has been released (R422). -/
def State.flushing (s : State) (t : Nat) : Bool :=
  s.cellar.job.any (fun j => decide (j.phase = 4) && decide (s.basinOf t = some j.basin))

/-- EPOCH_DIRTY is folded into SNAP_DIRTY, and pending gather entries flush (R164, R167). -/
def State.foldDirty (s : State) (t : Nat) : State :=
  let s1 := (List.range 16).foldl (fun a b => (a.bank t b).gather.foldl (fun a e => a.flushEntry t e) a) s
  s1.updTile t (fun tl => { tl with banks := tl.banks.foldl (fun m p =>
    Map.put m Bank.init p.1 { p.2 with
      snapDirty := p.2.epochDirty.foldl (fun d e => Map.put d false e.1 true) p.2.snapDirty,
      snapLate := if s.flushing t then p.2.epochDirty.foldl (fun d e => Map.put d false e.1 true) p.2.snapLate else p.2.snapLate,
      epochDirty := [], inbound := [] }) tl.banks })

/-- A lock wave result reaches a tile: a difference asks for a further wave, and a tile that STOP reached before the
horizon passed discards it (R53, R215, R391). -/
def State.lockResult (s : State) (t : Nat) : State :=
  let tl := s.tile t
  match s.basinOf t with
  | none => s
  | some b =>
    match (s.basin b).result with
    | none => s
    | some r =>
      if !tl.lk.reported || tl.lk.result.isSome || tl.lk.missed || decide (r.wave ≠ tl.lk.wave % 256) ||
          (tl.stop && !tl.lk.cleanPass) then s
      else if r.diff ≠ 0 then
        (s.updLk t (fun l => { l with leak := true, wave := l.wave + 1 })).sendFrame t b
      else
        let n := s.nextLockNum b
        let s1 := s.updTile t (fun tl => { tl with
          lk := { tl.lk with result := some r },
          tp := if (s.basin b).defers then { tl.tp with batches := deferTile n tl.tp.batches } else tl.tp })
        if r.clean && tl.lk.cleanPass then s1.foldDirty t else s1

/-- A lock report that reached router `r` is discarded there: its wave stays incomplete (R211). -/
def State.lockFrameLost (s : State) (r b : Nat) : State :=
  (s.framesTaken b r 3).updBasin b (fun v => { v with lockFrames := v.lockFrames.eraseP (fun f => decide (f.at_ = r)) })

/-- Whether a wave result is on its way to tile `t`. (DEDUCED, log 104) -/
def State.resultDue (s : State) (t : Nat) : Bool :=
  match s.basinOf t with
  | none => false
  | some b => match (s.basin b).result with
    | none => false
    | some r => (s.tile t).lk.reported && (s.tile t).lk.result.isNone && !(s.tile t).lk.missed &&
        decide (r.wave = (s.tile t).lk.wave % 256)

/-! ### Digests (R460, R462) -/

/-- Banks whose folds DIGEST_EN enables, summed. -/
def State.tileDigest (s : State) (t : Nat) : Word64 :=
  (List.range 16).foldl (fun a b =>
    if bitOf (s.regN t 0x800) b then a + Map.get (s.tile t).dig.acc 0 b else a) 0

/-- Pushes a record into the digest ring; a full ring loses its oldest. (DEDUCED, log 22) -/
def State.digestPush (s : State) (t epoch : Nat) (v : Word64) : State :=
  let d := (s.tile t).dig
  let i := (d.oldest + d.held) % 8
  let s1 := (s.setRegN t (0x880 + 16 * i) (epoch % 2 ^ 32)).setReg t (0x888 + 16 * i) v
  s1.updTile t (fun tl => { tl with dig :=
    if d.held = 8 then { tl.dig with oldest := (d.oldest + 1) % 8, lost := min (d.lost + 1) 65535 }
    else { tl.dig with held := d.held + 1 } })

/-- The bank capture of a tile whose point closes the epoch it was armed for. -/
def State.bankCapture (s : State) (t epoch : Nat) : State :=
  if bitOf (s.regN t 0x814) 0 && decide (s.regN t 0x810 = epoch % 2 ^ 32) then
    let s1 := (List.range 16).foldl (fun a k => a.setReg t (0x900 + 8 * k) (Map.get (s.tile t).dig.acc 0 k)) s
    let s2 := s1.setRegN t 0x814 2
    match s.basinOf t with
    | some b => s2.updBasin b (fun v => { v with digests := { v.digests with
        banks := (List.range 16).map (fun k => (Map.get (s.tile t).dig.acc 0 k).toNat) } })
    | none => s2
  else s

/-- The digest capture of a basin takes tile `t`'s digest. -/
def State.digestCapture (s : State) (t b epoch : Nat) (v : Word64) : State :=
  let i := 0x2C10 + b
  if s.obj i 9 = 1 ∧ s.obj i 8 = epoch then
    let s1 := s.updBasin b (fun w => { w with digests := { w.digests with tiles := Map.put w.digests.tiles 0 t v } })
    if (s.basin b).lockDone.length + 1 = (s.basinTiles b).length then s1.setObj i 9 2 else s1
  else s

/-- The span that a basin's digest point closes is over (R461): whether its non-determinism counter advanced and whether it
held a replay are kept for the record of the point. (DEDUCED, log 105) -/
def State.digestSpan (s : State) (b epoch : Nat) : State :=
  let nd := s.obj (0x2C10 + b) 3
  if (s.basin b).digests.spans.any (fun x => decide (x.1 = epoch % 2 ^ 32)) then s
  else s.updBasin b (fun v => { v with digests := { v.digests with
    spans := v.digests.spans ++ [(epoch % 2 ^ 32, 2 * b2n (decide (v.digests.nd ≠ nd)) + 4 * b2n v.digests.replay)],
    nd := nd, replay := false } })

/-- A digest point closes at the tile's lock beat. -/
def State.digestPoint (s : State) (t b : Nat) : State :=
  if bitOf (s.regN t 0x804) 0 then
    let e := s.regN t 0xf00
    let v := s.tileDigest t
    let s1 := (((s.digestPush t e v).bankCapture t e).digestCapture t b e v).digestSpan b e
    s1.updTile t (fun tl => { tl with dig := { tl.dig with acc := [] } })
  else s

/-! ### Staged items (R51, R52, R158, R175, R189, R220, R223) -/

/-- A staged bank owner takes effect where the owner in force is idle (R155). -/
def State.ownerTurn (s : State) (t b : Nat) : State :=
  match (s.bank t b).staged with
  | some o =>
    if s.ownerIdle t b (s.bank t b).owner then
      s.updBank t b (fun k => { k with owner := o, staged := none, ownerNext := false })
    else s
  | none => s

/-- A wheel entry comes into force, with the parity of what is written (R189, R190). -/
def State.putWheel (s : State) (t key : Nat) (e : Word32) : State :=
  s.updSw t (fun k => { k with wheel := Map.put k.wheel 0 key e, upset := k.upset.filter (fun x => decide (x ≠ key)) })

/-- One staged write of a batch: a wheel entry, a bank owner or a register. -/
def State.applyWrite (s : State) (t : Nat) (w : Nat × Nat) : State :=
  if 0x10000 ≤ w.1 then s.putWheel t (w.1 - 0x10000) (BitVec.ofNat 32 w.2)
  else if 0x3000 ≤ w.1 ∧ w.1 < 0x4000 ∧ w.1 % 256 = 0 then
    let b := (w.1 - 0x3000) / 256
    (s.setRegN t w.1 w.2).updBank t b (fun k => { k with staged := if w.2 = k.owner then none else some w.2, ownerNext := false })
  else s.setRegN t w.1 w.2

/-- The two halves of the firmware store exchange, and context 0 starts at address 0 (R223); the staged half then holds
the outgoing image, verified (R446), and the Lockkeeper's broadcast is idle again (R227). -/
def State.fwExchange (s : State) (t : Nat) : State :=
  let s1 := s.updTile t (fun tl => { tl with fw := { tl.fw with
    activeHalf := tl.fw.stagedHalf, stagedHalf := tl.fw.activeHalf, actStaged := false, verified := true, zeroLen := false,
    have_ := (List.range tl.fw.actCount).map (fun c => (c, true)),
    ident := tl.fw.actIdent, count := tl.fw.actCount, crc := tl.fw.actCrc,
    actIdent := tl.fw.ident, actCount := tl.fw.count, actCrc := tl.fw.crc } })
  let m := (s1.tile t).til
  let s2 := s1.setRegN t 0x110 0
  let s3 := if m.active = 0 then s2.updTil t (fun m => { m with redirect := some ⟨0, 0, 0⟩, fetched := [], fctx := 0, fpc := 0 })
    else s2
  s3.setObj 0x2641 8 0

/-- Every batch that targets lock `n` or an earlier one applies, but for places that the tile itself has staged since: of two
stagings of a place the later one stands (R51, R201). (DESIGN CHOICE, log 10) -/
def State.applyTileBatches (s : State) (t n : Nat) : State :=
  let due := (s.tile t).tp.batches.filter (fun k => decide (k.target ≤ n))
  let s1 := s.updTile t (fun tl => { tl with tp := { tl.tp with
    batches := (tl.tp.batches.filter (fun k => decide (n < k.target))).map (fun k => { k with covered := [] }) } })
  due.foldl (fun a k =>
    let a1 := (k.writes.filter (fun w => !(k.covered.contains w.1))).foldl (fun a w => a.applyWrite t w) a
    if k.act.isSome then a1.fwExchange t else a1) s1

/-- An alias window that meets a pail window loses its length (R158, R175). -/
def State.aliasClamp (s : State) (t b : Nat) : State :=
  let v := s.regN t (bankOff b 0x14)
  let c := v % 4096
  if [0, 1, 2, 3].any (fun w =>
      let p := s.regN t (pailOff b (4 * w))
      windowsMeet c (v / 65536 % 4096) (p % 4096) (p / 4096 % 4096)) then
    (s.clampTile t (bankOff b 0x14) 5 v c none).setRegN t (bankOff b 0x14) c
  else s

/-- A mirroring remap entry whose row has been copied becomes valid (R169), with its ledger entry (R377). -/
def State.remapTurn (s : State) (t b m : Nat) : State :=
  let v := s.regN t (remapOff b m)
  if bitOf v 29 && bitOf v 28 && !bitOf v 31 then
    ((s.setRegN t (remapOff b m) (2 ^ 31 + v % 4096)).bumpObj 0x2700 5 1).addLedger 2 (some (s.physOf t)) b (v % 4096) true
  else s

/-- Remaps that are ready become valid, at a repeated lock too (R169, R397). -/
def State.remapTurns (s : State) (t : Nat) : State :=
  (List.range 16).foldl (fun a b => (List.range 32).foldl (fun a m => a.remapTurn t b m) a) s

/-- Everything that waits for a lock takes effect at the tile. (DESIGN CHOICE, log 10 and 139) -/
def State.applyStaged (s : State) (t n : Nat) (batches : Bool) : State :=
  let regs := (s.tile t).stagedRegs
  let wheel := (s.tile t).sw.staged
  let s1 := regs.foldl (fun a p => match p.2 with | some v => a.setReg t p.1 v | none => a)
    (s.updTile t (fun tl => { tl with stagedRegs := [] }))
  let s2 := wheel.foldl (fun a p => match p.2 with | some v => a.putWheel t p.1 v | none => a)
    (s1.updSw t (fun w => { w with staged := [] }))
  let s3 := if batches then s2.applyTileBatches t n else s2
  let s4 := (List.range 16).foldl (fun a b =>
    let a2 := (a.aliasClamp t b).ownerTurn t b
    a2.updBank t b (fun k => { k with
      full := k.full.filter (fun e => a2.inPail t b e.1), fillBeat := k.fillBeat.filter (fun e => a2.inPail t b e.1) })) s3
  s4.updArr t (fun a => if a.armed && a.complete then a.swapped none else a)

/-! ### The lock beat (R49, R51, R56, R73, R404) -/

/-- Registers that the lock beat returns to their defaults: those whose descriptions say that a lock clears them. -/
def lockClears (off : Nat) : Bool :=
  [0xc, 0x1c, 0x24, 0x28, 0xf18, 0xf1c, 0xf20, 0x1000, 0x100c, 0x1010, 0x1014, 0x1018, 0x1020, 0x1040, 0x4024, 0x4034,
    0x601c].contains off ||
  (decide (0x1100 ≤ off) && decide (off < 0x1200)) || (decide (0x2000 ≤ off) && decide (off ≤ 0x2018)) ||
  (decide (0x4100 ≤ off) && decide (off < 0x4200)) ||
  (decide (0x5000 ≤ off) && decide (off < 0x5800) && decide (off % 0x80 = 0x10))

/-- Returns registers of tile `t` that satisfy `p` to their defaults. -/
def State.clearRegs (s : State) (t : Nat) (p : Nat → Bool) : State :=
  { s with tregs := s.tregs.filter (fun e => !(decide (e.1 / 65536 = t) && p (e.1 % 65536))) }

/-- Offsets of the registers in the lock image: sections 2, 3, 5 and 8 of the unload stream (R84, R404). -/
def imageRegs : List Nat :=
  [0x18, 0x804, 0xf00, 0xf08, 0xf0c, 0xf10, 0xf18, 0xf1c, 0xf20, 0xf30, 0xf34] ++
  (List.range 32).map (fun i => 0x200 + 4 * i) ++
  ((List.range 4).map (fun c => [0x100, 0x104, 0x108, 0x10c, 0x110, 0x114].map (fun o => o + 0x20 * c))).flatten ++
  ((List.range 8).map (fun i => [0, 4, 8, 0xc, 0x10, 0x14].map (fun o => 0x2100 + 0x20 * i + o))).flatten ++
  ((List.range 16).map (fun b => [0x3000, 0x3010, 0x3014].map (fun o => o + 0x100 * b))).flatten ++
  ((List.range 16).map (fun b => [0x5000, 0x5004, 0x5008, 0x500c].map (fun o => o + 0x80 * b))).flatten

/-- The lock image of a tile as its state stands. -/
def State.takeImage (s : State) (t : Nat) : LockImage :=
  let tl := s.tile t
  { epoch := s.regN t 0xf00,
    regs := imageRegs.foldl (fun m o => Map.put m (regDefault o) o (s.reg t o)) [],
    vregs := tl.vregs, vpoison := tl.vpoison, active := tl.arr.active, shadow := tl.arr.shadow,
    complete := tl.arr.complete, armed := tl.arr.armed, wheel := tl.sw.wheel, digests := tl.dig.acc,
    rets := tl.til.rets, actCtx := tl.til.active, ipc := tl.til.ipc, start := tl.til.redirect, skip := tl.til.skip,
    beat := tl.til.beat,
    owners := (List.range 16).foldl (fun m b => Map.put m 1 b (s.bank t b).owner) [] }

/-- What ends at the tile with the epoch: accumulators, circuit registers, barriers, the lock logic (R73, R185,
R216). (DEDUCED, log 12) -/
def State.endEpoch (s : State) (t : Nat) : State :=
  (s.clearRegs t lockClears).updTile t (fun tl => { tl with
    arr := { tl.arr with entries := [], gens := [] },
    sw := { tl.sw with circCtx := [], circPend := [], upset := tl.sw.upset.filter (fun x => decide (x < 512)) },
    tp := { tl.tp with gens := [], pend := [], waitBar := none, overflow := false, up := tl.tp.up.filter (fun e => !e.reduction) },
    banks := tl.banks.foldl (fun m p => Map.put m Bank.init p.1 { p.2 with epochDirty := [], inbound := [] }) tl.banks,
    til := { tl.til with endIssued := false, loops := [], loopBuf := [], slots := [], delay := 0 },
    lk := { LockUnit.init with estore := tl.lk.estore, batchBad := tl.lk.batchBad } })

/-- The epoch table advances, and its record is loaded. (DEDUCED, log 14) -/
def State.advanceEpoch (s : State) (t : Nat) (k : LockKind) : State :=
  match k with
  | .again => s
  | .first => s.estoreLoad t
  | .normal =>
    let (i, l) := estoreNext (s.tile t).lk.estore (s.regN t 0xf30) (s.regN t 0xf34)
    ((((s.setRegN t 0xf30 i).setRegN t 0xf34 l).estoreLoad t)).setReg t 0xf00 (s.reg t 0xf00 + 1)

/-- Where the bundle of beat 1 comes from: context 1, then active, at address 0 after a first lock, nothing where the code
range of the continuing context changed, else the next bundle (R73, R76).  A first and a repeated lock find nothing
fetched. (DESIGN CHOICE, log 124) -/
def State.continueAt (s : State) (t : Nat) (k : LockKind) (old : Nat × Nat) : State :=
  let c := (s.tile t).til.active
  match k with
  | .first => ((s.updTil t (fun m => { m with redirect := some ⟨0, 1, 0⟩, active := 1, rets := [] })).setRegN t
      (ctxOff 0x114 1) 1).prime t
  | .again => s.prime t
  | .normal =>
    if s.codeRange t c = old then s else (s.updTil t (fun m => { m with skip := 1 })).prime t

/-- The lock beat at tile `t` of lock `n`. -/
def State.tileLock (s : State) (t b n : Nat) (k : LockKind) (batches : Bool) : State :=
  let old := s.codeRange t (s.tile t).til.active
  let held := s.regN t 0xf20
  let waves := (s.tile t).lk.wave + 1
  let s0 := if k = .again then s else s.setObj (0x2610 + b) 7 (max (s.obj (0x2610 + b) 7) held)
  let s0 := if k = .first then s0.setRegN t 0x7104 0 else s0
  let s1 := s0.foldDirty t
  let s2 := if k = .normal then s1.digestPoint t b else s1
  let s3 := s2.beatEnd t
  let s4 := s3.endEpoch t
  let s5 := if k = .again then s4.setRegN t 0x601c (s3.regN t 0x601c) else s4.advanceEpoch t k
  let s6 := (if k = .again then s5 else s5.applyStaged t n batches).remapTurns t
  let s7 := ((s6.continueAt t k old).setRegN t 0xf08 0).trace t 3 0 [held, waves]
  let s8 := s7.updTile t (fun tl => { tl with image := some (s7.takeImage t) })
  let s9 := s8.setRegN t 0x6018 (s8.regN t 0xf00 % 2 ^ 32)
  if (s9.tile t).stop then s9.updTile t (fun tl => { tl with halted := true }) else s9.beatBegin t

/-- The basin whose barges a port sends: that of the tile of its descriptor window (R249). -/
def State.sendsFor (s : State) (p : Nat) : Option Nat := s.basinOf (s.attachTile p (s.obj (portObj p) 0xF / 65536 % 16))

/-- The places that engines keep at a lock: sequence numbers and window positions of the basin's channels (R249, R406). -/
def State.engineLock (s : State) (b : Nat) : State :=
  let s1 := ((List.range 64).filter (fun p => decide (s.sendsFor p = some b))).foldl (fun a p =>
    a.updPort p (fun q => { q with nextTxLock := q.nextTx, winPosLock := q.winPos })) s
  [0, 1, 2, 3].foldl (fun a h =>
    if a.basinOf (a.hostTile h) = some b then { a with host := { a.host with
      winPosLock := Map.put a.host.winPosLock 0 h (Map.get a.host.winPos 0 h) } } else a) s1

/-- Counters of the basin object at a lock; the largest tile's held pulses come with the tiles' own lock beats (R57). -/
def State.lockCounters (s : State) (b : Nat) (k : LockKind) : State :=
  let i := 0x2610 + b
  let ts := s.basinTiles b
  let s1 := s.setObj i 2 (s.obj i 2 + 1)
  match k with
  | .again => s1
  | _ =>
    let s2 := (s1.setObj i 7 0).setObj i 8 (min (s.basin b).wave 65535)
    match k with
    | .normal => (s2.setObj i 1 (s.obj i 1 + 1)).setObj i 5 (match s.basin b |>.result with
        | some r => r.bmax
        | none => match ts with | t :: _ => recLen (s.estoreRec t) | [] => 0)
    | _ => s2

/-- Barrier frames that a lock finds incomplete are discarded; those of one barrier and generation at one router are one
partial frame (R216). -/
def State.dropBarriers (s : State) (b : Nat) : State :=
  let parts : List (Nat × Nat × Bool) := (((s.basin b).barFrames.map (fun f => (f.at_, f.num, f.gen))).eraseDups)
  let s1 := (if parts.isEmpty then s else s.bumpObj 0x2640 5 parts.length).updBasin b (fun v => { v with barFrames := [], barDone := [] })
  ((List.range 144).filter (fun h => !(s.berthTiles b h).isEmpty && !(Map.get s.hubs Hub.init h).up.isEmpty)).foldl (fun a h =>
    a.updHub h (fun x => { x with up := x.up.filter (fun e => !e.reduction) })) s1

/-- The record of a basin's epoch in force, in the Lockkeeper's own copy of the table (R56, R403). -/
def State.epochRow (s : State) (b : Nat) : BitVec 128 := epochRec (s.basin b).table (s.obj (0x2610 + b) 1)

/-- What the lock of a basin does beside its tiles, once for each lock: slots, engines, entries of applied batches,
counters, holds and barrier frames. -/
def State.basinLock (s : State) (b n : Nat) (k : LockKind) (batches : Bool) : State :=
  let s1 := if k = .normal then (s.slotsOf b).foldl (fun a q => a.slotLock q) s else s
  let s2 := s1.engineLock b
  let s3 := if k ≠ .again && batches then s2.applyBatches b n else s2
  let s4 := ((s3.lockCounters b k).dropBarriers b).updBasin b (fun v => { v with
    holds := v.holds.filter (fun h => decide (n < h.2)), held := v.held.filter (fun h => decide (n < h)), stalls := [], stalled := [], leaks := [], lockFrames := [],
    waveBegun := false, result := none, wave := 0, defers := false, looseMade := false, replayed := false, restored := false, started := true,
    errors := if v.stop then v.errors else [],
    alien := decide (k = .again) && v.alien, eaten := v.stop && v.eaten, replays := if k = .again then v.replays else 0 })
  let s4 := s4.setObj (0x2810 + b) 0xA (b2n (recReplayable (s4.epochRow b)))
  if s4.obj (0x2A10 + b) 3 = 2 then s4.setObj (0x2A10 + b) 3 3 else s4

/-- Whether every batch of the basin applies at its coming lock: as the wave result says, or, where no wave is needed,
as every tile's flag stands. (DEDUCED, log 8) -/
def State.batchesApply (s : State) (b n : Nat) : Bool :=
  match (s.basin b).result with
  | some r => r.batch
  | none => (s.basinTiles b).all (fun t => s.batchFlag t n)

/-- Whether the tile may complete its lock beat (R46, R49, R54, R391). (DEDUCED, log 7) -/
def State.lockReady (s : State) (t : Nat) : Bool :=
  let tl := s.tile t
  tl.lk.atLock && tl.til.pulse && !tl.dark && decide (s.regN t 0x6c20 = 0) && !tl.til.frozen && !s.powerHeld t &&
  !(tl.til.streams.any (fun x => x.blocked)) &&
  (if tl.lk.open_ then !tl.stop
   else (match tl.lk.result with
     | some r => r.clean && s.countsAgree t r && !bitOf (s.regN t 0x6000) 7 && tl.lk.cleanPass
     | none => false))

/-- Whether a request holds lock `n` of a basin (R54). -/
def State.lockHeld (s : State) (b n : Nat) : Bool := (s.basin b).holds.any (fun h => decide (h.2 ≤ n))

/-- The kind of a basin's coming lock. (DEDUCED, log 7) -/
def State.lockKind (s : State) (b : Nat) : LockKind :=
  if (s.basin b).replayed then .again
  else if (s.basin b).started then .normal
  else .first

/-- The lock in progress at a basin, and the state in which it has begun; none while a request holds it or a tile has
not reached it. -/
def State.lockBegin (s : State) (b : Nat) : Option ((Nat × LockKind × Bool) × State) :=
  match (s.basin b).lockNow with
  | some l => some (l, s)
  | none =>
    let n := s.nextLockNum b
    if s.lockHeld b n || !s.allAtLock b then none
    else
      let k := s.lockKind b
      let f := s.batchesApply b n
      let s1 := if f ∨ (s.basin b).result.isSome = true ∨ k = .again then s
        else if s.anyDue b n = false then s
        else (s.basinTiles b).foldl (fun a t => a.updTile t (fun tl => { tl with tp := { tl.tp with
          batches := deferTile n tl.tp.batches } })) (s.deferBatches b n)
      some ((n, k, f), ((s1.deferTrims b n).basinLock b n k f).updBasin b (fun v => { v with lockNow := some (n, k, f) }))

/-- The lock beat of a tile completes (R49). (DESIGN CHOICE, log 3) -/
def State.lockBeat (s : State) (t : Nat) : State :=
  match s.basinOf t with
  | none => s
  | some b =>
    if s.lockReady t && !((s.basin b).lockDone.contains t) then
      match s.lockBegin b with
      | none => s
      | some ((n, k, f), s1) =>
        let s2 := s1.tileLock t b n k f
        s2.updBasin b (fun v =>
          if v.lockDone.length + 1 = (s.basinTiles b).length then { v with lockDone := [], lockNow := none }
          else { v with lockDone := v.lockDone ++ [t] })
    else s

end Sys2Proof.Machine
end

