-- ==== Sys2Proof/Machine/PlaceOps.lean ====
section
/-! DEFINITION. Refused writes, a tile that dies, and number formats of objects (R119, R303, R391, R408). -/

namespace Sys2Proof.Machine

/-! ### Refused writes (R303) -/

/-- The number of a basin's last completed lock, 0 when none. -/
def State.lastLock (s : State) (b : Nat) : Nat := s.obj (0x2610 + b) 1

/-- The basin whose own objects an index belongs to. -/
def entryBasinOf (index : Nat) : Option Nat :=
  [0x2610, 0x2810, 0x2910, 0x2940, 0x2A10, 0x2C10].findSome? (fun i =>
    if i ≤ index ∧ index < i + 16 then some (index - i) else none)

/-- A write that a rule of the entry's chapter refuses is recorded as a clamp to the value in force. -/
def State.refuseWrite (s : State) (index sub v : Nat) : State :=
  let b := entryBasinOf index
  s.logClamp ⟨index, sub, s.srv.src, 0, 255, 255, v, s.obj index sub, (match b with | some n => s.lastLock n | none => 0), b.getD 255, false⟩

/-! ### STOP by the Lockkeeper, and tiles that die (R391, R408) -/

/-- An error that the Lockkeeper itself finds in a basin: STOP, and its place among the basin's errors; `aux` 1 is
curable, 2 is not. -/
def State.lkError (s : State) (b t cause detail aux : Nat) : State :=
  let m : AlarmMsg := ⟨cause, detail, s.regN t 0xf08, s.regN t 0xf00 % 2 ^ 32, b, t, aux⟩
  (s.raiseStop b t cause).updBasin b (fun v => { v with errors := v.errors ++ [m] })

/-- A logical tile dies: TILE_DEATH, a TILE entry, and recovery of its basin. -/
def State.tileDeath (s : State) (t cause : Nat) (lost : Bool) : State :=
  let p := s.physOf t
  let s1 := ((s.addLedger 1 (some p) cause 0 true).bumpObj 0x2800 0xA 1).agentAlarm 0x18B (pName p) ((s.basinOf t).getD 16)
  match s1.basinOf t with
  | some b => s1.lkError b t 0x18B (pName p) (if lost then 2 else 1)
  | none => s1

/-! ### Number formats of objects -/

/-- The REAL32 nearest to `n ÷ d` (R119). -/
def f32Of (n : Int) (d : Nat) : Nat :=
  let m := n.natAbs * 2 ^ 200
  (roundTo fmtFP32 0 false (.fin (decide (n < 0)) (2 * (m / d) + b2n (decide (m % d ≠ 0))) (-201)) 0 0).bits

/-- The whole part of `scale` times a REAL32 that is not negative. -/
def f32Scaled (bits scale : Nat) : Nat :=
  match decodeF fmtFP32 bits with
  | .fin false m e => if 0 ≤ e then m * scale * 2 ^ e.toNat else m * scale / 2 ^ (-e).toNat
  | .inf false => 2 ^ 60
  | _ => 0

/-- `scale` times a REAL32 that is not negative, to the nearest integer. -/
def f32Round (bits scale : Nat) : Nat := (f32Scaled bits (2 * scale) + 1) / 2

end Sys2Proof.Machine
end

