-- ==== Sys2Proof/Machine/ShapeOps.lean ====
section
/-! DEFINITION. Choosing the map: skips, grade, degraded shape, ferry links, absent lanes and attachment tiles (R325,
R370 to R375). -/

namespace Sys2Proof.Machine

/-- The map of a field: skipped row (0xFF for none), band of ferry or lost rows (0xFF for none), whether the band's
pound is lost, and the skipped column of each presented row, south to north. -/
structure FieldMap where
  skip : Nat
  band : Nat
  lost : Bool
  cols : List Nat
  deriving DecidableEq, Repr

/-! ### Bad tiles (R370, R372) -/

/-- Whether a pound is isolated or latched off. -/
def State.poundLost (s : State) (n : Nat) : Bool := decide (4 ≤ s.poundState n)

/-- Physical tiles that an excluding entry of kind `k` names. -/
def State.marked (s : State) (k : Nat) : List Nat :=
  s.boot.ledger.filterMap (fun e => if e.kind = k then e.tile else none)

/-- The columns of a physical tile that ARRAY_COL entries exclude. -/
def State.badCols (s : State) (p : Nat) : List Nat :=
  s.boot.ledger.filterMap (fun e => if e.kind = 3 ∧ e.tile = some p then some e.item else none)

/-- The good physical columns of a tile with the bad ones `bad`, in increasing order (R110). -/
def goodColumns (bad : List Nat) : List Nat := (List.range 68).filter (fun c => !bad.contains c)

/-- The physical column that logical data column `n` is steered to (R110). -/
def dataColumn (bad : List Nat) (n : Nat) : Option Nat := (goodColumns bad)[n]?

/-- The physical column that the checksum column of a tile of width `w` is steered to (R110). -/
def checkColumn (bad : List Nat) (w : Nat) : Option Nat := (goodColumns bad)[w]?

/-- The spare columns of a tile of width `w` (R110). -/
def spareColumns (bad : List Nat) (w : Nat) : List Nat := (goodColumns bad).drop (w + 1)

/-- The physical tiles of field `f` that are bad when a tile may bypass `limit` columns, those in lost pounds apart:
named under TILE, dark or bridged as failed under REGULATOR, or with so many bad columns that none is left for the
checksum column. -/
def State.badTiles (s : State) (limit f : Nat) : List Nat :=
  ((s.marked 1 ++ s.marked 7) ++ (s.marked 3).filter (fun p => (checkColumn (s.badCols p) (67 - limit)).isNone)).filter
    (fun p => decide (pField p = f))

/-- MESH_LINK entries of field `f`: sending tile, direction, route code. -/
def State.badLinks (s : State) (f : Nat) : List (Nat × Nat × Nat) :=
  s.boot.ledger.filterMap (fun e => match e.tile with
    | some p => if e.kind = 4 ∧ pField p = f then some (p, e.item, e.sub) else none
    | none => none)

/-! ### One field (R371, R373) -/

/-- Bad tiles of field-local row `r`. -/
def badInRow (bad : List Nat) (r : Nat) : List Nat := (bad.filter (fun p => decide (pr p % 25 = r))).eraseDups

/-- Rows of two or more bad tiles among `rows`. -/
def doubleRows (bad : List Nat) (rows : List Nat) : List Nat := rows.filter (fun r => decide (2 ≤ (badInRow bad r).length))

/-- The skipped column of a row segment (R371). -/
def skipCol (bad : List Nat) (r : Nat) : Nat :=
  match badInRow bad r with
  | p :: _ => pc p % 13
  | [] => 12

/-- The map of a field for a band and a list of bad tiles, if it has one. -/
def rowsMap (bad : List Nat) (band : Nat) (lost : Bool) : Option FieldMap :=
  let inside := (List.range 25).filter (fun r => decide (r / 5 ≠ band))
  match doubleRows bad inside with
  | [] =>
    let skip := if band = 0xFF then 24 else 0xFF
    some ⟨skip, band, lost, (presentedRows skip band).map (skipCol bad)⟩
  | [r] =>
    if lost then none
    else if (doubleRows bad (presentedRows r band)).isEmpty then
      some ⟨r, band, lost, (presentedRows r band).map (skipCol bad)⟩
    else none
  | _ => none

/-- Field-local column of the tile at local logical column `x` of presented row `y`. -/
def FieldMap.colAt (m : FieldMap) (x y : Nat) : Nat := x + b2n (decide (m.cols.getD y 12 ≤ x))

/-- The logical place of a physical tile under a field map. -/
def FieldMap.place (m : FieldMap) (p : Nat) : Option (Nat × Nat) :=
  match (presentedRows m.skip m.band).findIdx? (fun r => decide (r = pr p % 25)) with
  | some y => ((List.range 12).find? (fun x => decide (m.colAt x y = pc p % 13))).map (fun x => (x, y))
  | none => none

/-- The physical tile of a logical place of field `f`. -/
def FieldMap.phys (m : FieldMap) (f x y : Nat) : Nat := pAt f (m.colAt x y) ((presentedRows m.skip m.band).getD y 0)

/-- The receiving tile of an excluded route, where the map uses the route (R370). -/
def FieldMap.usesRoute (m : FieldMap) (f : Nat) (e : Nat × Nat × Nat) : Option Nat :=
  let (p, d, code) := e
  match m.place p with
  | none => none
  | some (x, y) =>
    let q : Option Nat := match d with
      | 0 => if y + 1 < m.cols.length then some (m.phys f x (y + 1)) else none
      | 1 => if x < 11 then some (m.phys f (x + 1) y) else none
      | 2 => if 0 < y then some (m.phys f x (y - 1)) else none
      | _ => if 0 < x then some (m.phys f (x - 1) y) else none
    match q with
    | none => none
    | some u =>
      let (a, b) := if d < 2 then (p, u) else (u, p)
      let used :=
        if d % 2 = 1 then pc b - pc a - 1
        else 3 * (pr b - pr a - 1) + (if pc b = pc a + 1 then 1 else if pc b + 1 = pc a then 2 else 0)
      if used = code ∧ (d % 2 = 1 ∨ pr b ≤ pr a + 2) then some u else none

/-- The map of a field, starting again with one more bad tile for each excluded route that it would use (R371). -/
def fieldMap (f band : Nat) (lost : Bool) (links : List (Nat × Nat × Nat)) : Nat → List Nat → Option FieldMap
  | 0, _ => none
  | n + 1, bad =>
    match rowsMap bad band lost with
    | none => none
    | some m =>
      match links.findSome? (fun e => m.usesRoute f e) with
      | none => some m
      | some u => fieldMap f band lost links n (u :: bad)

/-- The map of field `f` with band `band`. -/
def State.mapField (s : State) (limit f band : Nat) (lost : Bool) : Option FieldMap :=
  fieldMap f band lost (s.badLinks f) 38 (s.badTiles limit f)

/-! ### The whole die (R325, R371 to R373) -/

/-- The lost bands of field `f`: of isolated pounds, or, where it has no map, the one band that holds its rows of two or
more bad tiles (R371). -/
def State.lostBands (s : State) (limit f : Nat) : List Nat :=
  match (List.range 5).filter (fun b => s.poundLost (5 * f + b)) with
  | [] =>
    match s.mapField limit f 0xFF false with
    | some _ => []
    | none => ((doubleRows (s.badTiles limit f) (List.range 25)).map (· / 5)).eraseDups
  | l => l

/-- The band that field `f` of an affected field row takes: its own lost one, or that of the nearest field, the western
one of two (R373). -/
def bandFor (lost : List (Nat × Nat)) (f : Nat) : Nat :=
  match nearest (f % 4) (lost.map (fun p => p.1 % 4)) with
  | some g => ((lost.find? (fun p => decide (p.1 % 4 = g))).map (·.2)).getD 0
  | none => 0

/-- The eight field maps for a limit of bad columns, if a shape can be presented. -/
def State.chooseMaps (s : State) (limit : Nat) : Option (List FieldMap) :=
  let bands := (List.range 8).map (fun f => (f, s.lostBands limit f))
  if bands.any (fun p => decide (1 < p.2.length)) then none
  else
    let lost := bands.filterMap (fun p => p.2.head?.map (fun b => (p.1, b)))
    match lost with
    | [] => (List.range 8).mapM (fun f => s.mapField limit f 0xFF false)
    | (g, _) :: _ =>
      if lost.any (fun p => decide (p.1 / 4 ≠ g / 4)) then none
      else (List.range 8).mapM (fun f =>
        if f / 4 = g / 4 then s.mapField limit f (bandFor lost f) (lost.any (fun p => decide (p.1 = f)))
        else s.mapField limit f 0xFF false)

/-- Whether every field that has lost no pound has a map in the full-width grade, and a shape exists (R372).
(DEDUCED, log 85) -/
def State.fullGrade (s : State) : Option (List FieldMap) :=
  if s.boot.ledger.any (fun e => decide (e.kind = 0xE)) then none
  else if (List.range 8).all (fun f => (List.range 5).any (fun b => s.poundLost (5 * f + b)) ||
      (s.mapField 3 f 0xFF false).isSome) then s.chooseMaps 3
  else none

/-- The maps and the grade of the shape that the die can present: 0 full width, 1 narrow. (DEDUCED, log 85) -/
def State.chooseShape (s : State) : Option (Nat × List FieldMap) :=
  match s.fullGrade with
  | some l => some (0, l)
  | none => (s.chooseMaps 7).map (fun l => (1, l))

/-- Whether the die offers the degraded shape after a pound has been isolated (R325). -/
def State.degradedOffered (s : State) : Bool :=
  match s.chooseShape with
  | some (_, l) => l.any (fun m => m.lost)
  | none => false

/-! ### Ferry links and seam links (R373, R374) -/

/-- Physical columns and rows of the ferry switches between two physical tiles, with one column step after `k` rows. -/
def ferryPath (a b k : Nat) : List Nat :=
  (List.range (pr b - pr a - 1)).map (fun i => 52 * (pr a + 1 + i) + (if i < k then pc a else pc b))

/-- Whether a column of a field has a ferry link: some path whose tiles are all good, with at most one column offset. -/
def ferryOk (bad : List Nat) (a b : Nat) : Bool :=
  decide (absDiff (pc a % 13) (pc b % 13) ≤ 1) &&
  (List.range (pr b - pr a)).any (fun k => (ferryPath a b k).all (fun p => !bad.contains p))

/-- The ferry links of field `f` (R374): one per logical column, across the ferry rows, through the horizontal seam where
the band adjoins it. -/
def State.ferryMask (s : State) (maps : List FieldMap) (limit f : Nat) : Nat :=
  match maps[f]? with
  | none => 0
  | some m =>
    if m.band = 0xFF ∨ m.lost = true then 0
    else
      let rows := presentedRows m.skip m.band
      let bad := s.badTiles limit f
      let ends (x : Nat) : Option (Nat × Nat) :=
        match (List.range 24).find? (fun y => decide (y + 1 < rows.length) && decide (rows.getD y 0 + 2 < rows.getD (y + 1) 0)) with
        | some y => some (m.phys f x y, m.phys f x (y + 1))
        | none =>
          if f < 4 ∧ m.band = 4 then
            (maps[f + 4]?).map (fun n => (m.phys f x (rows.length - 1), n.phys (f + 4) x 0))
          else if 4 ≤ f ∧ m.band = 0 then
            (maps[f - 4]?).map (fun n => (n.phys (f - 4) x (n.cols.length - 1), m.phys f x 0))
          else none
      (List.range 12).foldl (fun a x =>
        match ends x with
        | some (p, q) => if ferryOk bad p q then a + 2 ^ x else a
        | none => a) 0

/-- The east–west seam links of field `f` to the field east of it: local logical rows whose ends differ by at most one
physical row (R373). -/
def seamMask (maps : List FieldMap) (f : Nat) : Nat :=
  if f % 4 = 3 then 0
  else match maps[f]?, maps[f + 1]? with
    | some m, some n =>
      let a := presentedRows m.skip m.band
      let b := presentedRows n.skip n.band
      (List.range (min a.length b.length)).foldl (fun acc y =>
        if absDiff (a.getD y 0) (b.getD y 0) ≤ 1 then acc + 2 ^ y else acc) 0
    | _, _ => 0

/-! ### Taking up a map -/

/-- The objects of a field's map (R386). -/
def State.writeMap (s : State) (maps : List FieldMap) (limit f : Nat) : State :=
  match maps[f]? with
  | none => s
  | some m =>
    let i := mapObj f
    let s1 := ((s.setObj i 1 m.skip).setObj i 0x1A m.band)
    let s2 := (List.range 24).foldl (fun a y => a.setObj i (2 + y) (m.cols.getD y 0xFF)) s1
    (s2.setObj i 0x1B (s.ferryMask maps limit f)).setObj i 0x1C (seamMask maps f)

/-- Registers of the physical tile, which stay with it when a logical tile moves: row remaps, the column map, the trier's
records, repair registers and the power block (R84, R173, R385, R413). -/
def physReg (off : Nat) : Bool :=
  (decide (0x3000 ≤ off ∧ off < 0x4000) && decide (0x80 ≤ off % 256)) || decide (off = 0x1038) || decide (off = 0x20) ||
  decide (0x6080 ≤ off ∧ off < 0x608c) || (decide (0x6c00 ≤ off ∧ off < 0x6d00)) || decide (0x7000 ≤ off ∧ off < 0x8000)

/-- Moves the registers of physical tiles to where the new map keeps them; `old` and `new` are the states whose maps
hold before and after. -/
def rekeyRegs (old new : State) (regs : Map Word64) : Map Word64 :=
  let inverse := (List.range 2600).foldl (fun (m : Map Nat) p => Map.ins m (old.holder p) p) []
  regs.foldl (fun m e =>
    if !physReg (e.1 % 65536) then Map.ins m e.1 e.2
    else match inverse.find? (fun q => decide (q.1 = e.1 / 65536)) with
    | some (_, p) => Map.ins m (65536 * new.holder p + e.1 % 65536) e.2
    | none => m) []

/-- Marks the lanes of every tile that have no route, whose seam lane is retired, or that lead to a pound without power
(R196, R323, R373, R374). -/
def State.laneMark (s : State) (t o : Nat) : Nat :=
  match laneEnd t o with
  | none => 3
  | some (u, _) =>
    if !s.hasRoute t o || decide (s.poundState (s.poundOf t) ≠ 3) || decide (s.poundState (s.poundOf u) ≠ 3) then 3
    else match s.seamLane t o with
      | some n => if (s.seam n).state = 2 then 2 else 0
      | none => 0

/-- Writes the state of the lanes of tile `t`. -/
def State.markLanes (s : State) (t : Nat) : State :=
  (List.range 8).foldl (fun a o => a.setRegN t (0x4200 + 4 * o) (a.laneMark t o)) s

/-- Attachment tiles of a port's block that fall on a bad tile (R375). -/
def State.absentTaps (s : State) (limit p : Nat) : Nat :=
  (List.range 16).foldl (fun a i =>
    let t := s.attachTile p i
    if (s.badTiles limit (s.fieldOf t)).contains (s.physOf t) then a + 2 ^ i else a) 0

/-- Takes up a map: the objects, the registers of the physical tiles, the lanes and the attachment tiles (R371 to
R375). -/
def State.takeMaps (s : State) (grade : Nat) (maps : List FieldMap) : State :=
  let limit := if grade = 0 then 3 else 7
  let s1 := (List.range 8).foldl (fun a f => a.writeMap maps limit f) s
  let rows (f : Nat) : Nat := match maps[f]? with | some m => m.cols.length | none => 24
  let s2 : State := { s1 with boot := { s1.boot with rowsLow := rows 0, rowsHigh := rows 4 } }
  let s3 : State := { s2 with tregs := rekeyRegs s s2 s2.tregs }
  let s4 := s3.shapeTiles.foldl (fun a t => (a.setRegN t 0x6c00 0).markLanes t) s3
  let ferry := (List.range 2600).filter (fun p =>
    (match maps[pField p]? with | some m => decide (m.band = pr p % 25 / 5) && !m.lost | none => false) && (s4.logicalOf p).isNone)
  let dark := (List.range 2600).filter (fun p =>
    (match maps[pField p]? with | some m => decide (m.band = pr p % 25 / 5) && m.lost | none => false) || s4.poundLost (pPound p))
  let s5 := ferry.foldl (fun a p => a.setRegN (a.holder p) 0x6c00 2) s4
  let s6 := dark.foldl (fun a p => a.setRegN (a.holder p) 0x6c00 3) s5
  let s7 := (List.range 64).foldl (fun a p => a.setObj (portObj p) 0x1B (a.absentTaps limit p)) s6
  let lostHosts := [0, 1, 2, 3].foldl (fun a h =>
    let t := s7.hostTile h
    if (s7.badTiles limit (s7.fieldOf t)).contains (s7.physOf t) then a + 2 ^ h else a) 0
  let degraded := decide (s7.shapeRows = 44)
  let s8 := (((s7.setObj 0x2500 6 lostHosts).setObj 0x2E00 8 grade).setObj 0x2E00 7 (b2n degraded)).setObj 0x2330 3
    (if degraded then 2 else 0)
  let width := if grade = 0 then 64 else 60
  let s9 := (s8.setObj 0x2000 5 width).setObj 0x2000 6 (0x3000 + s8.shapeRows)
  s9.shapeTiles.foldl (fun a t => a.setRegN t 0x1004 width) s9

end Sys2Proof.Machine
end

