-- ==== Sys2Proof/Machine/Towpath.lean ====
section
/-! DEFINITION. Towpath commands: barriers, alarms, notices, configuration requests, batches, firmware and STOP (R205 to
R225, R391). -/

namespace Sys2Proof.Machine

/-! ### Barriers (R212, R213) -/

/-- BAR_UP: a router combines barrier frames, or discards one of them (R211, R212). -/
def execBarUp (r : Fin 152) (b : BasinId) (num : BitVec 8) (hop : TpHop) (s : State) : Host.Outcome State Fault Refusal :=
  if s.barHeld r b num.toNat then
    let s1 := s.hopRetry hop
    if hopLoses hop then .next ((s1.barLost r b num.toNat).hopLost hop b) else .next (s1.barUp r b num.toNat)
  else .next s

/-- BAR_DONE: a completion reaches a participant, or is discarded on its way (R211, R212). -/
def execBarDone (t : TileId) (num : BitVec 8) (hop : TpHop) (s : State) : Host.Outcome State Fault Refusal :=
  if (s.barDue t num.toNat).isSome then
    let s1 := s.hopRetry hop
    if hopLoses hop then .next ((s1.barDoneLost t num.toNat).hopLost hop (s1.msgBasin t))
    else .next (s1.barDeliver t num.toNat)
  else .next s

/-! ### Alarms, notices and trace records at the active Lockkeeper (R217, R218, R282, R286, R307, R470) -/

/-- The active Lockkeeper, if one is in service: 0 A, 1 B. (DEDUCED, log 64) -/
def State.activeLk (s : State) : Option Nat := s.keepers.findIdx? (fun k => decide (k.state = 3))

/-- A CoE Emergency, within the limit of 10 ms (R307). -/
def State.emergency (s : State) (m : AlarmMsg) : State :=
  if s.obj 0x2002 2 = 0 then s
  else if (s.srv.emergencies.filter (fun e => decide (s.srv.ms < e.1 + 10))).length < s.obj 0x2002 3 then
    let s1 := s.setObj 0x1001 0 (s.obj 0x1001 0 ||| 0x80)
    { s1 with srv := { s1.srv with emergencies := s1.srv.emergencies ++ [(s1.srv.ms, m)] } }
  else s.bumpObj 0x2002 4 1

/-- The standby records each alarm (R286). -/
def State.standbyAlarm (s : State) (m : AlarmMsg) : State :=
  { s with keepers := s.keepers.map (fun k => if k.state = 2 then { k with alarms := k.alarms ++ [m] } else k) }

/-- An alarm reaches the active Lockkeeper: counted, mirrored to the host, sent as an Emergency, kept for its basin.  A
BEAT_MISMATCH or LOAD_FAIL begins recovery with STOP (R391). -/
def State.alarmIn (s : State) (m : AlarmMsg) : State :=
  let s1 := s.bumpObj 0x2640 3 1 (2 ^ 64 - 1)
  let s2 := ((s1.setBar 0x18 (s1.obj 0x2640 3 % 2 ^ 32)).setBar 0x1C (m.cause + 65536 * (m.detail % 65536))).setBar 0x20
    (if m.basin < 16 then m.basin else 0xFF)
  let s3 := ((s2.signal 129).emergency m).standbyAlarm m
  if m.basin < 16 then
    let s4 := s3.updBasin m.basin (fun v => { v with errors := v.errors ++ [m] })
    if m.cause = 0xB ∨ m.cause = 0xD then
      s4.raiseStop m.basin (if m.src < 2304 then m.src else (s4.basinTiles m.basin).headD 0) m.cause
    else s4
  else s3

/-- An alarm that has left its queue is received, or is discarded on its way (R211, R217). -/
def State.alarmHop (s : State) (m : AlarmMsg) (hop : TpHop) : State :=
  let s1 := s.hopRetry hop
  if hopLoses hop then s1.hopLost hop m.basin else s1.alarmIn m

/-- ALARM: the oldest alarm of a tile router, or of another agent, is received. (DEDUCED, log 64) -/
def execAlarm (src : Option TileId) (hop : TpHop) (s : State) : Host.Outcome State Fault Refusal :=
  if s.activeLk.isNone then .next s
  else match src with
    | some t =>
      match (s.tile t).tp.alarms with
      | [] => .next s
      | m :: rest => .next (((s.updTile t (fun tl => { tl with tp := { tl.tp with alarms := rest } })).tileTook t 5).alarmHop m hop)
    | none =>
      match s.alarmQ with
      | [] => .next s
      | m :: rest =>
        let s1 : State := { s with alarmQ := rest }
        .next (s1.alarmHop m hop)

/-- A notice is received: those of the Lockkeepers, and a failed update, send an Emergency (R218, R307, R455). -/
def State.irqIn (s : State) (m : AlarmMsg) : State :=
  if (0x180 ≤ m.cause ∧ m.cause ≤ 0x183) ∨ (m.cause = 0x18F ∧ m.detail % 16 = 3) then s.emergency m else s

/-- A notice that has left its queue is received, or is discarded on its way (R211, R218). -/
def State.irqHop (s : State) (m : AlarmMsg) (hop : TpHop) : State :=
  let s1 := s.hopRetry hop
  if hopLoses hop then s1.hopLost hop m.basin else s1.irqIn m

/-- IRQ: the oldest notice of a tile router, or of another agent, is received. -/
def execIrq (src : Option TileId) (hop : TpHop) (s : State) : Host.Outcome State Fault Refusal :=
  if s.activeLk.isNone then .next s
  else match src with
    | some t =>
      match (s.tile t).tp.irqs with
      | [] => .next s
      | m :: rest => .next (((s.updTile t (fun tl => { tl with tp := { tl.tp with irqs := rest } })).tileTook t 6).irqHop m hop)
    | none =>
      match s.irqQ with
      | [] => .next s
      | m :: rest =>
        let s1 : State := { s with irqQ := rest }
        .next (s1.irqHop m hop)

/-- Bytes of a trace record with its stamp. -/
def traceBytes (r : Nat × List Nat) : Nat := 8 + 4 * r.2.length

/-- Drops the oldest records until the store holds no more than its 32 MiB. -/
def traceFit : List (Nat × List Nat) → Nat → List (Nat × List Nat)
  | [], _ => []
  | r :: rest, total => if total ≤ 33554432 then r :: rest else traceFit rest (total - traceBytes r)

/-- A record, with its stamp, is appended to the trace store. -/
def State.traceIn (s : State) (l : List Nat) : State :=
  let (stamp, s1) := s.fresh
  let l1 := s1.dbg.trace ++ [(stamp.toNat, l)]
  let kept := traceFit l1 (l1.foldl (fun (a : Nat) r => a + traceBytes r) 0)
  let s2 : State := { s1 with dbg := { s1.dbg with trace := kept } }
  s2.setObj 0x2D30 1 kept.length

/-- TRACE: the oldest record of a tile's trace unit is sent, with the count of those lost, and appended to the store, or
discarded on its way (R211, R469, R470). (DESIGN CHOICE, log 65) -/
def execTrace (t : TileId) (hop : TpHop) (s : State) : Host.Outcome State Fault Refusal :=
  let d := (s.tile t).dig
  match d.trace with
  | [] => .next s
  | ws :: rest =>
    if s.activeLk.isNone then .next s
    else
      let rec_ := match ws with
        | w :: more => (w + 16 * min d.traceLost 255) :: more
        | [] => []
      let s1 := ((s.updTile t (fun tl => { tl with dig := { tl.dig with trace := rest, traceLost := 0 } })).tileTook t 0xE).hopRetry hop
      if hopLoses hop then .next (s1.hopLost hop (s1.msgBasin t)) else .next (s1.traceIn rec_)

/-! ### Configuration requests (R59, R219) -/

/-- Writes words at rising offsets over the towpath; answers the highest status. -/
def State.cfgWords (s : State) (t off : Nat) : List Word32 → Nat → Nat × State
  | [], st => (st, s)
  | w :: rest, st =>
    let (r, s1) := if off = 0x4004 && s.runs t then (rspRefused, s) else s.regWrite t off w.toNat none
    s1.cfgWords t (off + 4) rest (max st r)

/-- Changes the batch `id` held at a tile, which it comes to hold with the target of the Lockkeeper's batch (R52, R220). -/
def State.updBatch (s : State) (t b id : Nat) (f : TileBatch → TileBatch) : State :=
  let target := match s.srv.batches.find? (fun k => decide (k.basin = b) && decide (k.id = id) && k.open_) with
    | some k => k.target
    | none => s.batchLock b
  s.updTile t (fun tl =>
    let l := if tl.tp.batches.any (fun k => decide (k.id = id)) then tl.tp.batches
      else tl.tp.batches ++ [⟨id, target, none, 0, [], false, none, []⟩]
    { tl with tp := { tl.tp with batches := l.map (fun k => if k.id = id then f k else k) } })

/-- What one word of a batch write stages, with its status: a wheel entry of the lane and slot selected, a bank owner,
or a legal register value (R52, R118, R184, R189). (DEDUCED, log 9) -/
def State.batchWord (s : State) (t off v : Nat) (draft : List (Nat × Nat)) : Nat × List (Nat × Nat) × State :=
  match findReg off with
  | none => (rspOK, [], s)
  | some (r, _) =>
    if r.acc = 0 then (3, [], s)
    else if off = 0x4004 then
      if weMalformed v then (rspRefused, [], s)
      else
        let sel := s.regN t 0x4000
        (rspOK, [(0x10000 + 64 * (sel % 8) + sel / 256 % 64, weMask v)], s)
    else
      let v0 := (v % 2 ^ r.bits) &&& r.mask
      let c := (s.withDraft t draft).legalValue t off v0 r
      let side := (s.withDraft t draft).sideClamps t off c
      let all := (if c = v0 then [] else [(off, v0, c)]) ++ side
      (if all.isEmpty then rspOK else rspClamped, (off, c) :: side.map (fun k => (k.1, k.2.2)),
        all.foldl (fun a k => a.clampTile t k.1 3 k.2.1 k.2.2 (s.nextLock t)) s)

/-- The words of a batch write. -/
def State.batchWords (s : State) (t off : Nat) : List Word32 → Nat → List (Nat × Nat) → Nat × List (Nat × Nat) × State
  | [], st, acc => (st, acc, s)
  | w :: rest, st, acc =>
    let (r, e, s1) := s.batchWord t off w.toNat acc
    s1.batchWords t (off + 4) rest (max st r) (acc ++ e)

/-- CFG_WR at a tile (R219, R220): a batch member is staged, and answered once it is held. (DEDUCED, log 9 and 118) -/
def State.cfgWrTile (s : State) (t o n : Nat) (data : List Word32) (batch : Option Nat) : State :=
  if (s.tile t).dark then s.respond t 6 []
  else if s.absorbing t then s.respond t rspRefused []
  else if data.length ≠ n then (s.tpDrop t).respond t 5 []
  else if n = 0 then s.respond t 1 []
  else if o % 4 ≠ 0 then s.respond t rspRefused []
  else
    match batch, s.basinOf t with
    | none, _ => let (st, s1) := s.cfgWords t o data 0; s1.respond t st []
    | some _, none => s.respond t rspRefused []
    | some id, some b =>
      let (st, ws, s1) := s.batchWords t o data 0 []
      if st = rspOK ∨ st = rspClamped then
        (s1.updBatch t b id (fun k => { k with
          msgs := k.msgs + 1, writes := k.writes ++ ws,
          covered := k.covered.filter (fun p => !(ws.any (fun w => decide (w.1 = p)))) })).respond t st []
      else s1.respond t st []

/-- Reads words at rising offsets. -/
def State.readWords (s : State) (t off : Nat) : Nat → List Word32 → List Word32 × State
  | 0, acc => (acc, s)
  | n + 1, acc =>
    let (v, s1) := s.regRead t off
    s1.readWords t (off + 4) n (acc ++ [v])

/-- CFG_RD at a tile (R219); more than six words do not fit a response. (DESIGN CHOICE, log 133) -/
def State.cfgRdTile (s : State) (t o n : Nat) : State :=
  if (s.tile t).dark then s.respond t 6 []
  else if s.absorbing t then s.respond t rspRefused []
  else if 6 < n then (s.tpDrop t).respond t 5 []
  else if n = 0 then s.respond t 1 []
  else if o % 4 ≠ 0 then s.respond t rspRefused []
  else
    let (d, s1) := s.readWords t o n []
    s1.respond t rspOK d

/-- CFG_WR at a berth hub, whose registers are read-only (R219, R226). (DEDUCED, log 104) -/
def State.cfgWrHub (s : State) (h o n : Nat) (data : List Word32) (batch : Option Nat) : State :=
  if data.length ≠ n then (s.tpDrop (2304 + h)).hubRespond h 5 []
  else if n = 0 then s.hubRespond h 1 []
  else if o % 4 ≠ 0 ∨ batch ≠ none then s.hubRespond h rspRefused []
  else s.hubRespond h (if o < 16 then 3 else rspOK) []

/-- CFG_RD at a berth hub (R219, R226). (DEDUCED, log 104) -/
def State.cfgRdHub (s : State) (h o n : Nat) : State :=
  if 6 < n then (s.tpDrop (2304 + h)).hubRespond h 5 [] else
  if n = 0 then s.hubRespond h 1 []
  else if o % 4 ≠ 0 then s.hubRespond h rspRefused []
  else s.hubRespond h rspOK ((List.range n).map (fun k => BitVec.ofNat 32 (s.hubReg h (o + 4 * k))))

/-! ### Other destinations (R208, R219, R470) -/

/-- The gateway to which a clocked agent attaches; none for a tile or a hub. -/
def State.gatewayFor (s : State) (d : TpDest) : Option Nat :=
  match d with
  | .tile _ | .hub _ => none
  | .gateway f | .trier f | .power f => some f
  | .keeper k => some (match k with | 0 => 0 | 1 => 7 | _ => if s.obj 0x2001 2 = 0 then 0 else 7)
  | .link b => some (s.fieldOf (s.attachTile (4 * b) 0))
  | .cellar => some 3
  | .pcie => some 4

/-- The responses of a destination that is neither tile nor hub; UNREACHABLE comes from the gateway of F0, which
Lockkeeper A reaches first. (DESIGN CHOICE, log 133) -/
def State.agentRespond (s : State) (a status : Nat) (data : List Word32) : State :=
  { s with agentRsp := Map.put s.agentRsp [] a (Map.get s.agentRsp [] a ++ [⟨2448 + a % 64, status, data⟩]) }

/-- Channel selections that the words of a request to gateway `f` name: FMUX_CH `n` at offset `4n` is entry
`0x2D10 + f`.`n + 1`. (DESIGN CHOICE, log 133) -/
def fmuxChans (o n : Nat) : List Nat := ((List.range n).map (fun k => o / 4 + k)).filter (fun c => decide (c < 16))

/-- A CFG_WR or CFG_RD at a field gateway. -/
def State.cfgWrGateway (s : State) (f o : Nat) (data : List Word32) : State :=
  (data.zipIdx).foldl (fun a w => if o / 4 + w.2 < 16 then a.setObj (0x2D10 + f) (o / 4 + w.2 + 1) (w.1.toNat % 4096) else a) s
def State.gatewayWord (s : State) (f c : Nat) : Word32 := if c < 16 then BitVec.ofNat 32 (s.obj (0x2D10 + f) (c + 1)) else 0

/-- A configuration request at an agent: a field gateway's selections are in its reach; of the others no offset is described,
so that a write has no effect and a read gives zero. (DESIGN CHOICE, log 133) -/
def State.cfgAgent (s : State) (a : Nat) (d : TpDest) (o n : Nat) (data : Option (List Word32)) (batch : Option Nat) : State :=
  if (data.any (fun l => decide (l.length ≠ n))) || decide (6 < n) then (s.tpDrop (2448 + (s.gatewayFor d).getD 0)).agentRespond a 5 []
  else if n = 0 then s.agentRespond a 1 []
  else if o % 4 ≠ 0 ∨ batch ≠ none then s.agentRespond a rspRefused []
  else match data, d with
    | some l, .gateway f => (s.cfgWrGateway f o l).agentRespond a rspOK []
    | some _, _ => s.agentRespond a rspOK []
    | none, .gateway f => s.agentRespond a rspOK ((List.range n).map (fun k => s.gatewayWord f (o / 4 + k)))
    | none, _ => s.agentRespond a rspOK (List.replicate n 0)

/-- The address of the gateway of F0. -/
def firstGateway : Nat := tpCode (.gateway 0)

/-- Whether a router answers at a destination: the shape has the tile's row, or the hub's (R208, R219). -/
def State.answers (s : State) (d : TpDest) : Bool :=
  match d with
  | .tile t => decide (t < 48 * s.shapeRows)
  | .hub h => s.hubExists h
  | _ => true

/-- The destination of an address; none where no router answers there. -/
def State.destAt (s : State) (a : Nat) : Option TpDest := (tpAddr a).filter s.answers

/-- The basin of a message to a destination (16: none). -/
def State.destBasin (s : State) (d : Option TpDest) : Nat :=
  match d with
  | some (.tile t) => s.msgBasin t
  | some (.hub h) => s.msgBasin (hubTile h)
  | _ => 16

/-- A destination answers a request. -/
def State.destRespond (s : State) (a status : Nat) : State :=
  match s.destAt a with
  | some (.tile t) => s.respond t status []
  | some (.hub h) => s.hubRespond h status []
  | some _ => s.agentRespond a status []
  | none => s.agentRespond firstGateway status []

/-- A configuration request that does not arrive: discarded, and answered where it was malformed (R207, R211). -/
def State.requestLost (s : State) (a : Nat) (hop : TpHop) : State :=
  let s1 := s.hopLost hop (s.destBasin (s.destAt a))
  if hopMalformed hop then s1.destRespond a 5 else s1

/-- CFG_WR: word 1 gives offset, number of words and batch (R211, R219, R220). (DEDUCED, log 9 and 118) -/
def execCfgWr (d : BitVec 12) (w : Word32) (data : List Word32) (hop : TpHop) (s : State) : Host.Outcome State Fault Refusal :=
  let s1 := s.hopRetry hop
  let c := cfgFields w
  let batch := if c.batch then some c.id else none
  if hopLoses hop then .next (s1.requestLost d.toNat hop)
  else match s1.destAt d.toNat with
    | some (.tile t) => .next (s1.cfgWrTile t c.off c.n data batch)
    | some (.hub h) => .next (s1.cfgWrHub h c.off c.n data batch)
    | some a => .next (s1.cfgAgent d.toNat a c.off c.n (some data) batch)
    | none => .next (s1.agentRespond firstGateway rspUnreachable [])

/-- CFG_RD (R211, R219). -/
def execCfgRd (d : BitVec 12) (w : Word32) (hop : TpHop) (s : State) : Host.Outcome State Fault Refusal :=
  let s1 := s.hopRetry hop
  let c := cfgFields w
  if hopLoses hop then .next (s1.requestLost d.toNat hop)
  else match s1.destAt d.toNat with
    | some (.tile t) => .next (s1.cfgRdTile t c.off c.n)
    | some (.hub h) => .next (s1.cfgRdHub h c.off c.n)
    | some a => .next (s1.cfgAgent d.toNat a c.off c.n none none)
    | none => .next (s1.agentRespond firstGateway rspUnreachable [])

/-- The responses that wait at a destination. -/
def State.waitingAt (s : State) (a : Nat) : List CfgRsp :=
  match tpAddr a with
  | some (.tile t) => (s.tile t).tp.responses
  | some (.hub h) => (Map.get s.hubs Hub.init h).responses
  | _ => Map.get s.agentRsp [] a

/-- The oldest response leaves a destination. -/
def State.takeResponse (s : State) (a : Nat) : State :=
  match tpAddr a with
  | some (.tile t) => (s.updTile t (fun tl => { tl with tp := { tl.tp with responses := tl.tp.responses.drop 1 } })).tileTook t 9
  | some (.hub h) => s.updHub h (fun x => { x with responses := x.responses.drop 1, up := tpTake x.up 9 })
  | _ => { s with agentRsp := Map.put s.agentRsp [] a ((Map.get s.agentRsp [] a).drop 1) }

/-- CFG_RSP: the oldest response of a router or agent reaches the requester, or is discarded on its way (R211, R219). -/
def execCfgRsp (d : BitVec 12) (hop : TpHop) (s : State) : Host.Outcome State Fault Refusal :=
  if (s.waitingAt d.toNat).isEmpty then .next s
  else
    let s1 := (s.takeResponse d.toNat).hopRetry hop
    if hopLoses hop then .next (s1.hopLost hop (s1.destBasin (tpAddr d.toNat))) else .next s1

/-- The lock number nearest `n` whose low 32 bits are `low`. -/
def lockNear (n low : Nat) : Nat :=
  let up := (low + 2 ^ 32 - n % 2 ^ 32) % 2 ^ 32
  if up < 2 ^ 31 ∨ n + up < 2 ^ 32 then n + up else n + up - 2 ^ 32

/-- BATCH_SEAL at a tile: it learns how many writes the batch has for it, and the target lock (R220). (DEDUCED, log 9) -/
def State.sealBatch (s : State) (t id count target : Nat) : State :=
  match s.basinOf t with
  | none => s
  | some b =>
    if (s.tile t).dark then s
    else s.updBatch t b id (fun k => { k with sealN := some count, target := max k.target (lockNear (s.nextLockNum b) target) })

/-- BATCH_SEAL (R211, R220). (DEDUCED, log 9) -/
def execBatchSeal (t : TileId) (id : BitVec 8) (count : BitVec 16) (target : Word32) (hop : TpHop) (s : State) :
    Host.Outcome State Fault Refusal :=
  let s1 := s.hopRetry hop
  if hopLoses hop then .next (s1.hopLost hop (s1.msgBasin t)) else .next (s1.sealBatch t id.toNat count.toNat target.toNat)

/-! ### Destinations of firmware messages (R208, R221) -/

/-- The tiles of a destination: a tile, the tiles of a basin, or every tile of the device. -/
def State.targetTiles (s : State) (d : TpTarget) : List Nat :=
  match d with
  | .tile t => [t.val]
  | .basin b => s.basinTiles b
  | .device => s.shapeTiles

/-- Whether router `r` hands a group message on to tile `t`: its own router, its berth hub or its field gateway. -/
def State.handsOn (s : State) (r t : Nat) : Bool :=
  if r < 2304 then decide (r = t) else if r < 2448 then decide (r - 2304 = berthOf t) else decide (r - 2448 = s.fieldOf t)

/-- The tiles that a message reaches: what a hop discards, a tile does not get, nor what lies behind a hub or gateway that
discards a group message. -/
def State.reached (s : State) (d : TpTarget) (hop : TpHop) : List Nat :=
  match d with
  | .tile t => if hopLoses hop then [] else [t.val]
  | d => (s.targetTiles d).filter (fun t => !(hopLoses hop && s.handsOn hop.router.val t))

/-- The basin of a message to a destination (16: none). -/
def State.targetBasin (s : State) (d : TpTarget) : Nat :=
  match d with
  | .tile t => s.msgBasin t
  | .basin b => b.val
  | .device => 16

/-- What a message to a destination does at each tile that it reaches, with the count of what a hop resends or discards
(R211). -/
def State.toTarget (s : State) (d : TpTarget) (hop : TpHop) (f : State → Nat → State) : State :=
  let s1 := s.hopRetry hop
  let s2 := if hopLoses hop then s1.hopLost hop (s1.targetBasin d) else s1
  (s2.reached d hop).foldl f s2

/-! ### Firmware broadcast (R221 to R224) -/

/-- Changes the firmware store of a tile. -/
def State.updFw (s : State) (t : Nat) (f : FwStore → FwStore) : State := s.updTile t (fun tl => { tl with fw := f tl.fw })

/-- What the objects show of a broadcast: identifier, chunks and state (R227). -/
def State.fwShow (s : State) (id n state : Nat) : State := ((s.setObj 0x2641 1 id).setObj 0x2641 2 n).setObj 0x2641 8 state

/-- FW_CTL INFO at a tile (R222): discarded while an activation is staged. (DESIGN CHOICE, log 13) -/
def State.fwInfo (s : State) (t id count : Nat) (crc : Word64) : State :=
  let n := min count 512
  if (s.tile t).fw.actStaged then s
  else
    let s1 := s.updFw t (fun f => { f with
      stagedHalf := [], have_ := [], ident := id, count := n, crc := crc.toNat, verified := false,
      zeroLen := decide (n = 0) })
    s1.fwShow id n 1

/-- FW_CTL INFO (R211, R222). (DESIGN CHOICE, log 13) -/
def execFwInfo (d : TpTarget) (w : BitVec 30) (crc : Word64) (hop : TpHop) (s : State) : Host.Outcome State Fault Refusal :=
  .next (s.toTarget d hop (fun s t => s.fwInfo t (fwIdent w) (fwNumber w) crc))

/-- The bytes of the staged half. -/
def FwStore.bytes (f : FwStore) : List Nat :=
  ((List.range f.count).map (fun c => bytesOf (Map.get f.stagedHalf 0 c).toNat 16)).flatten

/-- The tile computes the CRC-64 once every chunk is present; a match verifies the image, and lets an activation that
waits for it be staged (R222, R223). -/
def State.fwVerify (s : State) (t : Nat) : State :=
  let f := (s.tile t).fw
  if f.have_.length < f.count then s
  else if crc64 f.bytes = f.crc then
    let waits := (s.tile t).tp.batches.any (fun k => decide (k.act = some f.ident))
    s.updTile t (fun tl => { tl with
      fw := { tl.fw with verified := true, actStaged := tl.fw.actStaged || waits },
      tp := { tl.tp with batches := tl.tp.batches.map (fun k => if k.act = some f.ident then { k with bad := false } else k) } })
  else s.updFw t (fun f => { f with have_ := [], verified := false })

/-- FW_CHUNK at a tile: a chunk of the staged image with a good CRC-32 is written; any other is discarded and counted (R221,
R222). -/
def State.fwChunk (s : State) (t : Nat) (id : BitVec 8) (idx : BitVec 16) (data : BitVec 128) (crc : Word32) : State :=
  let f := (s.tile t).fw
  let good := decide (crc32 (bytesOf (idx.toNat + 65536 * id.toNat) 4 ++ bytesOf data.toNat 16) = crc.toNat)
  if id.toNat = f.ident ∧ good = true ∧ idx.toNat < f.count then
    (s.updFw t (fun f => { f with
      stagedHalf := Map.put f.stagedHalf 0 idx.toNat data, have_ := Map.put f.have_ false idx.toNat true })).fwVerify t
  else s.bumpReg t 0xc18 1

/-- Whether a tile misses a chunk of its staged image. -/
def FwStore.misses (f : FwStore) (c : Nat) : Bool := decide (c < f.count) && !(Map.get f.have_ false c)

/-- Where a chunk is sent in a repair, and whether by unicast: to the whole group queried last where more of its tiles miss it
than the threshold (R224, step 4). -/
def State.repairTo (s : State) (d : TpTarget) (idx : Nat) : TpTarget × Bool :=
  match d, s.upd.fwGroup with
  | .tile t, some g =>
    if s.obj 0x2641 8 ≠ 3 then (d, false)
    else if s.obj 0x2641 6 < ((s.targetTiles g).filter (fun t => (s.tile t).fw.misses idx)).length then (g, false)
    else (.tile t, true)
  | d, _ => (d, false)

/-- FW_CHUNK (R211, R222): a discarded chunk stays missing; repairs by unicast are counted (R224, R227). -/
def execFwChunk (d : TpTarget) (id : BitVec 8) (idx : BitVec 16) (data : BitVec 128) (crc : Word32) (hop : TpHop)
    (s : State) : Host.Outcome State Fault Refusal :=
  let r := s.repairTo d idx.toNat
  let s1 := if r.2 then s.bumpObj 0x2641 5 1 else s
  .next (s1.toTarget r.1 hop (fun s t => s.fwChunk t id idx data crc))

/-- A bitmap of 192 chunks as words 2 to 7 of a frame. -/
def missWords (base : Nat) (l : List Nat) : List Nat :=
  (List.range 6).map (fun w => maskOf ((l.filter (fun c => decide ((c - base) / 32 = w))).map (fun c => (c - base) % 32)))

/-- FW_CTL QUERY at a tile: it sends the bitmap of the 192 chunks from `base` that it misses (R224). -/
def State.fwQuery (s : State) (t id base : Nat) : State :=
  let f := (s.tile t).fw
  let h := berthOf t
  let miss := ((List.range 192).map (· + base)).filter f.misses
  let bad := !f.verified || decide (f.ident ≠ id)
  let hub := Map.get s.hubs Hub.init h
  let l := hub.missing.filter (fun e => decide (e.1 ≠ t)) ++ [(t, base, bad, miss)]
  (s.updHub h (fun x => { x with missing := l })).tileSend t 0xD (tpCode (.hub h)) ((base + 65536 * b2n bad) :: missWords base miss)

/-- FW_CTL QUERY: the group is that of the repair (R211, R224). -/
def execFwQuery (d : TpTarget) (w : BitVec 30) (hop : TpHop) (s : State) : Host.Outcome State Fault Refusal :=
  let s1 := (s.toTarget d hop (fun s t => s.fwQuery t (fwIdent w) (fwNumber w))).setObj 0x2641 8 2
  .next { s1 with upd := { s1.upd with fwGroup := some d } }

/-- The berths in which a group has tiles. -/
def State.groupHubs (s : State) (l : List Nat) : List Nat :=
  (List.range 144).filter (fun h => l.any (fun t => decide (berthOf t = h)))

/-- The MISSING_UP frames of a group's tiles. -/
def State.missingFrames (s : State) (l : List Nat) : List (Nat × Nat × Bool × List Nat) :=
  ((s.groupHubs l).map (fun h => (Map.get s.hubs Hub.init h).missing.filter (fun e => l.contains e.1))).flatten

/-- The base of a query round: that of the first frame. -/
def frameBase (frames : List (Nat × Nat × Bool × List Nat)) : Nat := match frames with | e :: _ => e.2.1 | [] => 0

/-- The frames of a group's tiles are combined: each hub notes which of its tiles sent a bitmap that is not zero, and the
Lockkeeper the totals and the bitmap, which a query with base 0 begins anew (R224). -/
def State.missingUp (s : State) (l : List Nat) : State :=
  let frames := s.missingFrames l
  let base := frameBase frames
  let s1 := (s.groupHubs l).foldl (fun a h => a.updHub h (fun x => { x with
    missMask := maskOf ((x.missing.filter (fun e => l.contains e.1 && !e.2.2.2.isEmpty)).map (fun e => berthPos e.1)),
    missing := x.missing.filter (fun e => !(l.contains e.1)) })) s
  let s2 := l.foldl (fun a t => a.tileTook t 0xD) s1
  let bad := (frames.filter (fun e => e.2.2.1)).length
  let miss := ((List.range 192).map (· + base)).filter (fun c => frames.any (fun e => e.2.2.2.contains c))
  let all := (if base = 0 then [] else s.upd.fwMissing) ++ miss
  let s3 : State := { s2 with upd := { s2.upd with fwBase := base, fwMissing := all } }
  ((s3.setObj 0x2641 3 bad).setObj 0x2641 4 all.length).setObj 0x2641 8 (if bad = 0 then 4 else 3)

/-- The frames that router `r` discards: those of the group's tiles behind it. -/
def State.missingLost (s : State) (l : List Nat) (r : Nat) : State :=
  let gone := l.filter (s.handsOn r)
  let s1 := gone.foldl (fun a t => a.tileTook t 0xD) s
  (s.groupHubs gone).foldl (fun a h => a.updHub h (fun x => { x with
    missing := x.missing.filter (fun e => !(gone.contains e.1)) })) s1

/-- MISSING_UP: once each tile of the group has sent its frame of one base they are combined, or some are discarded (R211,
R224). -/
def execMissingUp (d : TpTarget) (hop : TpHop) (s : State) : Host.Outcome State Fault Refusal :=
  let l := s.targetTiles d
  let frames := s.missingFrames l
  if frames.length ≠ l.length ∨ frames.any (fun e => decide (e.2.1 ≠ frameBase frames)) = true then .next s
  else
    let s1 := s.hopRetry hop
    if hopLoses hop then .next ((s1.missingLost l hop.router.val).hopLost hop (s1.targetBasin d)) else .next (s1.missingUp l)

/-- ACTIVATE reaches a tile as batch `batch`: a tile whose image is not verified stages nothing and reports it
incomplete; a tile in no basin exchanges its halves at once (R223, R301). -/
def State.fwActivate (s : State) (t id batch : Nat) : State :=
  let f := (s.tile t).fw
  let ok := f.verified && decide (f.ident = id) && decide (f.count ≠ 0)
  match s.basinOf t with
  | none => if ok then s.fwExchange t else s
  | some b =>
    let s1 := (s.updBatch t b batch (fun k => { k with sealN := some 0, bad := !ok, act := some id })).updFw t
      (fun f => { f with actStaged := f.actStaged || ok })
    (s1.setObj 0x2641 7 (s1.batchTarget t)).setObj 0x2641 8 5

/-- FW_CTL ACTIVATE: a batch (R211, R223). -/
def execFwActivate (d : TpTarget) (w : BitVec 30) (batch : BitVec 8) (hop : TpHop) (s : State) :
    Host.Outcome State Fault Refusal :=
  .next (s.toTarget d hop (fun s t => s.fwActivate t (fwIdent w) batch.toNat))

/-- FW_CTL CANCEL at a tile: the staged half and any staged activation are cleared (R222). -/
def State.fwCancel (s : State) (t : Nat) : State :=
  let s1 := s.updTile t (fun tl => { tl with
    fw := { tl.fw with stagedHalf := [], have_ := [], verified := false, actStaged := false, count := 0, zeroLen := false },
    tp := { tl.tp with batches := tl.tp.batches.filter (fun k => k.act.isNone) } })
  s1.setObj 0x2641 8 0

/-- FW_CTL CANCEL (R211, R222). -/
def execFwCancel (d : TpTarget) (hop : TpHop) (s : State) : Host.Outcome State Fault Refusal :=
  .next (s.toTarget d hop (fun s t => s.fwCancel t))

/-! ### STOP (R390, R391, R394) -/

/-- STOP reaches a tile: it completes no beat after the one in progress, and drops a wave result whose horizon has not
passed. -/
def State.stopTile (s : State) (t : Nat) : State :=
  if (s.tile t).stop then s
  else
    let s1 := s.updTile t (fun tl => { tl with
      stop := true, lk := { tl.lk with result := if tl.lk.cleanPass then tl.lk.result else none } })
    s1.setRegN t 0x600c ((s.tile t).til.beat % 2 ^ 24)

/-- STOP reaches a tile, the transmit stages of a port, or the host engine. -/
def execStopArrive (d : StopDest) (s : State) : Host.Outcome State Fault Refusal :=
  match d with
  | .tile t =>
    match s.basinOf t with
    | some b => if (s.basin b).stop then .next (s.stopTile t) else .next s
    | none => .next s
  | .port p b =>
    if (s.basin b).stop && !((s.port p).stops.contains b) then
      .next (s.updPort p (fun q => { q with stops := q.stops ++ [b.val] }))
    else .next s
  | .host b =>
    if (s.basin b).stop && !(s.host.stops.contains b) then
      .next { s with host := { s.host with stops := s.host.stops ++ [b.val] } }
    else .next s

/-- STOP_FORCE, written 1 over the towpath, raises STOP in the tile's basin (R391). -/
def execStopForce (t : TileId) (s : State) : Host.Outcome State Fault Refusal :=
  .next (s.towpathAsk t (fun s => s.regWrite t 0x6014 1 none))

end Sys2Proof.Machine
end

