-- ==== Sys2Proof/Machine/PowerOps.lean ====
section
/-! DEFINITION. Power delivery: ceilings, phases, regulators and bridges, pounds, isolation, loss of power (R312 to R337,
R356). -/

namespace Sys2Proof.Machine

/-! ### The supply (R314, R315) -/

/-- P_ceiling in mW for `m` cells and an input of `v` mV. -/
def ceilingOf (m v : Nat) : Nat := min (min 9800000 (25 * v)) (675000 * min m 14 * 100 / 97 + 60000)

/-- The die's share of an input power in mW: 0.925 × (0.97 × (P − 60 W) − 150 W). -/
def dieShare (p : Nat) : Nat := 925 * (97 * (p - 60000) - 15000000) / 100000

/-- The input power in mW whose die share is `a` mW: (A ÷ 0.925 + 150 W) ÷ 0.97 + 60 W (R348). -/
def inputFor (a : Nat) : Nat := (a * 1000 / 925 + 150000) * 100 / 97 + 60000

/-- The Lockkeeper recomputes the supply ceiling. -/
def State.newCeiling (s : State) : State :=
  let p := ceilingOf (s.obj 0x2100 4) s.power.vin
  (s.setObj 0x2100 2 (f32Of p 1000)).setObj 0x2100 3 (f32Of (dieShare p) 1000)

/-! ### Pound rails (R316, R317) -/

/-- The rating in A for `p` phases in service. -/
def ratingOf (p : Nat) : Nat := if 5 ≤ p then 300 else if p = 4 then 240 else 0

/-- The pound's rating in A. -/
def State.rating (s : State) (n : Nat) : Nat := f32Scaled (s.obj (poundObj n) 6) 1

/-- VPN of pound `n` in mV: the highest demand of its bank rail and its regulators (R317). -/
def State.vpnTarget (s : State) (n : Nat) : Nat :=
  let top := (poundPhys n).foldl (fun a p => max a (s.regN (s.holder p) 0x7004)) 0
  min 950 (max 820 (max (750 + 70) (top + 100)))

/-- The field power controller sets VPN and VPM of a pound that is powered. -/
def State.setRails (s : State) (n : Nat) : State :=
  (s.setObj (poundObj n) 3 (f32Of (s.vpnTarget n) 1000)).setObj (poundObj n) 4 (f32Of 750 1000)

/-- The VPN set point of a pound in mV. -/
def State.vpn (s : State) (n : Nat) : Nat := f32Round (s.obj (poundObj n) 3) 1000
/-- The VPM set point of a pound in mV. (DEDUCED, log 77) -/
def State.vpm (s : State) (n : Nat) : Nat := f32Round (s.obj (poundObj n) 4) 1000

/-- Counts of pounds on and lost, after a change. -/
def State.poundCounts (s : State) : State :=
  let l := (List.range 40).map s.poundState
  (s.setObj 0x2330 1 (l.count 3)).setObj 0x2330 2 (l.filter (fun x => decide (4 ≤ x))).length

/-- Sets the state of a pound. -/
def State.setPound (s : State) (n st : Nat) : State := (s.setObj (poundObj n) 1 st).poundCounts

/-! ### Tiles without power (R323, R329, R356) -/

/-- Registers that a tile keeps without power: its repair state and its power block's fused and bridging state. -/
def keptDark (off : Nat) : Bool :=
  (decide (0x6c00 ≤ off) && decide (off < 0x6d00)) || (decide (0x7000 ≤ off) && decide (off < 0x7018)) ||
  decide (off = 0x7138) || decide (off = 0x713c) || (decide (0x3000 ≤ off) && decide (off < 0x4000) && decide (0x80 ≤ off % 256)) ||
  decide (off = 0x1004) || decide (off = 0x1038)

/-- A bank whose rows have been zeroed: every tag EMPTY, every bit of SNAP_DIRTY set (R377, R383). -/
def Bank.zeroed : Bank := { Bank.init with snapAll := true }

/-- A tile whose banks have been zeroed. -/
def Tile.zeroed : Tile :=
  { Tile.init with banks := (List.range 16).foldl (fun m b => Map.put m Bank.init b Bank.zeroed) [] }

/-- A tile without power: every bank off. -/
def Tile.off : Tile :=
  { Tile.init with
    dark := true,
    banks := (List.range 16).foldl (fun m b => Map.put m Bank.init b { Bank.init with sleep := 4, wasOff := true }) [] }

/-- Tile `t` loses its power: rows, registers and state are gone. -/
def State.darken (s : State) (t : Nat) : State :=
  let s1 := s.clearRegs t (fun o => !keptDark o)
  let s2 : State := { s1 with mem := s1.mem.filter (fun e => decide (e.1 / 65536 ≠ t)) }
  s2.setTile t Tile.off

/-- Marks the lanes of a pound's tiles and of their neighbours as the power of the pounds now stands (R323, R328). -/
def State.markPound (s : State) (n : Nat) : State :=
  let ts := s.poundTiles n
  let near := (ts.map (fun t => [0, 1, 2, 3].filterMap (neighbour t))).flatten
  (ts ++ near).eraseDups.foldl (fun a t => a.markLanes t) s

/-! ### Isolation (R322 to R325) -/

/-- The device halts with no shape: state 4 (R325, R364). -/
def State.halt (s : State) : State := (s.setObj 0x2000 7 4).setObj 0x2330 3 3

/-- Whether any basin runs. -/
def State.anyRuns (s : State) : Bool := (List.range 16).any s.basinRuns

/-- What an isolation means for the shape (R325). -/
def State.shapeAfterLoss (s : State) : State :=
  if s.obj 0x2000 7 ≠ 2 ∧ s.obj 0x2000 7 ≠ 3 then s
  else if s.degradedOffered then
    if s.anyRuns then s.setObj 0x2330 3 1
    else match s.chooseShape with
      | some (g, m) => s.takeMaps g m
      | none => s
  else s.halt

/-- The e-fuse of pound `n` isolates it for `cause`: 1 SHORT, 2 UNDERVOLT, 3 PHASES, 4 FAILED_RAMP. -/
def State.isolate (s : State) (n cause : Nat) : State :=
  let again := match (s.pound n).revived with
    | some ms => decide (s.poundState n = 2) || decide (s.srv.ms ≤ ms + 1000)
    | none => false
  let bs := s.poundBasins n
  let s1 := (s.setPound n (if again then 5 else 4)).updPound n (fun p => { p with
    hold := false, asked := none, down := false, boost := false, shunt := false })
  let s2 := ((s1.bumpObj (poundObj n) 0xD 1 255).setObj (poundObj n) 0xE cause)
  let s3 := (s2.setObj (poundObj n) 3 0).setObj (poundObj n) 4 0
  let s4 := (s3.poundTiles n).foldl (fun a t => a.darken t) s3
  let s5 := (s4.markPound n).addLedger 0xD none n cause true
  let code := if cause = 2 then 0x163 else 0x162
  let s6 := bs.foldl (fun a b =>
    let t := ((a.poundTiles n).find? (fun t => decide (a.basinOf t = some b))).getD 0
    a.lkError b t code n 2) (s5.agentAlarm code n 16)
  s6.shapeAfterLoss

/-- A powered pound trips. (DEDUCED, log 80) -/
def State.poundTrip (s : State) (n cause : Nat) : State :=
  let st := s.poundState n
  if st = 2 ∨ st = 3 then s.isolate n cause else s

/-! ### Phases (R316, R343) -/

/-- A phase of a vertical stage leaves service until the next power-on. -/
def State.phaseLost (s : State) (n ph : Nat) : State :=
  if ph ∈ (s.pound n).out then s
  else
    let s1 := s.updPound n (fun p => { p with out := p.out ++ [ph] })
    let left := 6 - (s1.pound n).out.length
    let s2 := (s1.setObj (poundObj n) 5 left).addLedger 9 none n ph true
    let r := ratingOf left
    let s3 := (s2.setObj (poundObj n) 6 (f32Of r 1)).agentIrq 0x165 (n + 256 * ph)
    let s4 := if r < f32Scaled (s3.obj (0x2220 + n) 1) 1 ∧ 0 < r then s3.setObj (0x2220 + n) 1 (f32Of r 1) else s3
    if left ≤ 3 then s4.poundTrip n 3 else s4

/-! ### Regulators (R318, R319) -/

/-- Changes REG_STATUS of a physical tile: its role, and a bridge bit to set (2 east, 3 west). -/
def State.regRole (s : State) (p role : Nat) (bridge : Option Nat) : State :=
  let h := s.holder p
  let s1 := s.setRegN h 0x7000 (s.regN h 0x7000 / 4 * 4 + role)
  match bridge with
  | some i => s1.setRegBit h 0x7000 i true
  | none => s1

/-- The role of a physical tile's regulator. -/
def State.regRoleOf (s : State) (p : Nat) : Nat := s.regN (s.holder p) 0x7000 % 4

/-- A physical tile's in-field neighbours in its row: east (bridge 2) and west (bridge 3). -/
def rowPartners (p : Nat) : List (Nat × Nat) :=
  (if pc p % 13 < 12 then [(p + 1, 2)] else []) ++ (if 0 < pc p % 13 then [(p - 1, 3)] else [])

/-- The bridged group of a physical tile: itself and the tiles its closed bridges reach. -/
def State.regGroup (s : State) : Nat → List Nat → List Nat
  | 0, l => l
  | n + 1, l =>
    let more := (l.map (fun p => (rowPartners p).filterMap (fun q =>
      if bitOf (s.regN (s.holder p) 0x7000) q.2 then some q.1 else none))).flatten
    s.regGroup n (l ++ more).eraseDups

/-- A physical tile goes dark for its regulator; a logical one dies (R319). -/
def State.regDark (s : State) (p : Nat) : State :=
  let s1 := ((s.regRole p 3 none).setObj 0x2103 2 (s.obj 0x2103 2 + 1))
  match s1.logicalOf p with
  | some t => (s1.tileDeath t 8 true).darken t
  | none => s1

/-- The group of a failed regulator and its eligible neighbours is bridged (R318, R319). -/
def State.bridge (s : State) (p : Nat) (partners : List (Nat × Nat)) : State :=
  let floor := if partners.length = 2 then 4 else 7
  let group := p :: partners.map (·.1)
  let top := group.foldl (fun a q => max a (s.regN (s.holder q) 0x7004)) 0
  let s1 := partners.foldl (fun a q => (a.regRole q.1 1 (some (5 - q.2))).regRole p 2 (some q.2)) s
  let s2 := group.foldl (fun a q => (a.setRegN (a.holder q) 0x7004 top).setRegN (a.holder q) 0x7014 floor) s1
  let n := pPound p
  let s3 := (s2.bumpObj 0x2103 1 1 2600).bumpObj (poundObj n) 0xF 1 65
  s3.setRails n

/-- A tile regulator fails (R318, R319, R333). -/
def State.regFail (s : State) (p cause : Nat) : State :=
  let role := s.regRoleOf p
  if 2 ≤ role ∨ s.regN (s.holder p) 0x7010 ≠ 0 then s
  else
    let s1 := (s.setRegN (s.holder p) 0x7010 cause).addLedger 7 (some p) cause 0 true
    let s2 := s1.agentIrq 0x160 (pName p)
    if s.poundState (pPound p) ≠ 3 then s2
    else if role = 1 then
      let s3 := (s2.setObj 0x2103 1 (s2.obj 0x2103 1 - 1)).setObj (poundObj (pPound p)) 0xF (s2.obj (poundObj (pPound p)) 0xF - 1)
      (s2.regGroup 4 [p]).foldl (fun a q => a.regDark q) s3
    else if (s2.logicalOf p).isNone then s2.regRole p 3 none
    else
      let ok := (rowPartners p).filter (fun q =>
        decide (s2.regRoleOf q.1 = 0) && decide (s2.regN (s2.holder q.1) 0x7010 = 0) && decide (s2.poundState (pPound q.1) = 3))
      if ok.isEmpty then (s2.agentAlarm 0x161 (pName p) 16).regDark p
      else s2.bridge p ok

/-! ### Powering a pound up and down (R324 to R329) -/

/-- A power-up command. -/
def State.powerUp (s : State) (n : Nat) : State :=
  let s0 := s.setObj (poundObj n) 2 1
  let ask (a : State) : State :=
    ((a.setPound n 1).setObj (poundObj n) 8 0).updPound n (fun p => { p with asked := some 0, deferred := false })
  match s.poundState n with
  | 0 => ask s0
  | 4 =>
    if s.poundInBasin n then s.refuseWrite (poundObj n) 2 1
    else (ask s0).updPound n (fun p => { p with revived := some s.srv.ms })
  | 5 => s.refuseWrite (poundObj n) 2 1
  | _ => s0

/-- A power-down command: a pending request is cancelled; a pound that is on begins its ramp. (DEDUCED, log 80) -/
def State.powerDownPound (s : State) (n : Nat) : State :=
  if s.poundInBasin n then s.refuseWrite (poundObj n) 2 2
  else
    let s0 := s.setObj (poundObj n) 2 2
    match s.poundState n with
    | 1 => (s0.setPound n 0).updPound n (fun p => { p with asked := none, revived := none })
    | 3 =>
      let s1 := (s0.setPound n 2).updPound n (fun p => { p with hold := true, down := true })
      s1.markPound n
    | _ => s0

/-- The ramp of a commanded power-down ends. -/
def State.rampDownEnd (s : State) (n : Nat) : State :=
  if (s.pound n).down then
    let s1 := ((s.setPound n 0).updPound n (fun p => { p with hold := false, down := false })).setObj (poundObj n) 3 0
    let s2 := s1.setObj (poundObj n) 4 0
    (s2.poundTiles n).foldl (fun a t => a.darken t) s2
  else s

/-- The mean in mA of the last eight captures of VPN current (R327, R332). -/
def State.mean64 (s : State) (n : Nat) : Nat :=
  let l := ((s.pound n).caps.take 8).map (·.1)
  l.foldl (· + ·) 0 / max 1 l.length

/-- Whether an adjacent pound lets pound `n` ramp: off, isolated, or on below 85 % of its rating. -/
def State.letsRamp (s : State) (a : Nat) : Bool :=
  match s.poundState a with
  | 2 => false
  | 3 => decide (s.mean64 a * 100 < 85 * s.rating a * 1000)
  | _ => true

/-- A pending request is granted or deferred. (DESIGN CHOICE, log 79) -/
def State.grantOne (s : State) (n : Nat) : State :=
  if s.poundState n ≠ 1 ∨ s.power.restart.contains (n / 5) = true then s
  else if ((List.range 40).filter (poundsAdjacent n)).all s.letsRamp then
    let (v, s1) := s.fresh
    ((s1.setPound n 2).setObj (poundObj n) 9 (v.toNat % 2 ^ 32)).updPound n (fun p => { p with asked := none })
  else
    let s1 := s.bumpObj (poundObj n) 8 1
    let s2 := if (s.pound n).deferred then s1 else s1.agentIrq 0x164 n
    s2.updPound n (fun p => { p with deferred := true })

/-- The end of a 64 µs window: averages, then pending requests in the order of their pounds (R327). -/
def State.grantEval (s : State) : State :=
  let s1 := (List.range 40).foldl (fun a n =>
    if (a.pound n).caps.isEmpty then a else a.setObj (poundObj n) 7 (f32Of (a.mean64 n) 1000)) s
  (List.range 40).foldl (fun a n => a.grantOne n) s1

/-! ### Loss of power (R313, R356) -/

/-- Every pulse is held and every e-fuse opens. -/
def State.openAll (s : State) : State :=
  let s1 := (List.range 40).foldl (fun a n =>
    (((a.setObj (poundObj n) 1 0).setObj (poundObj n) 3 0).setObj (poundObj n) 4 0).updPound n (fun p => { p with
      hold := false, asked := none, down := false, boost := false, shunt := false })) s
  let s2 : State := { s1.poundCounts with
    power := { s1.power with allHeld := true }, cellar := { s1.cellar with job := none } }
  allTiles.foldl (fun a t => a.darken t) s2

/-- A power fail (R313): causes 0 input low, 1 input high, 2 hot-swap over-current, 3 fewer than 8 cells. -/
def State.powerFail (s : State) (cause : Nat) : State :=
  let s1 := s.openAll
  let s2 : State := { s1 with
    boot := { s1.boot with fails := s1.boot.fails + 1 },
    power := { s1.power with input := false } }
  (s2.setObj 0x2100 1 (if cause = 2 then 5 else 4)).agentAlarm 0x168 cause 16

/-- A converter cell leaves service until the next power-on (R314, R315). -/
def State.cellLost (s : State) (c : Nat) : State :=
  if bitOf (s.obj 0x2100 5) c then s
  else
    let s1 := (s.setObj 0x2100 5 (s.obj 0x2100 5 + 2 ^ c)).setObj 0x2100 4 (s.obj 0x2100 4 - 1)
    let s2 := ((s1.addLedger 0xA none c 0 true).agentIrq 0x166 c).newCeiling
    if s2.obj 0x2100 4 < 8 then s2.powerFail 3 else s2

/-- THERMAL_SHUTDOWN (R356). -/
def State.thermalShutdown (s : State) (p : Nat) : State :=
  let bs := (List.range 16).filter (fun b => (s.basin b).started)
  let s1 := s.openAll
  let s2 : State := { s1 with
    power := { s1.power with vlnk := false }, boot := { s1.boot with shutdowns := s1.boot.shutdowns + 1 } }
  let s3 := (s2.setObj 0x2000 7 4).agentAlarm 0x16D (pName p) 16
  bs.foldl (fun a b => a.lkError b ((a.basinTiles b).headD 0) 0x16D (pName p) 2) s3

end Sys2Proof.Machine
end

