-- ==== Sys2Proof/Machine/SeamOps.lean ====
section
/-! DEFINITION. Seam lanes: failed wires, steering and retirement (R193 to R196, R379). -/

namespace Sys2Proof.Machine

/-- The outgoing lanes that seam lane `n` carries under the map in force. -/
def State.seamUsers (s : State) (n : Nat) : List (Nat × Nat) :=
  (s.shapeTiles.map (fun t => (List.range 8).filterMap (fun o => if s.seamLane t o = some n then some (t, o) else none))).flatten

/-- Whether the wheels in force use outgoing lane `o` of tile `t`. -/
def State.laneUsed (s : State) (t o : Nat) : Bool :=
  (s.tile t).sw.wheel.any (fun e => decide (e.1 / 64 = o) && weValid e.2.toNat && weFwd e.2.toNat)

/-- A remap hold is requested on the next lock of a basin (R54, R195). -/
def State.askHold (s : State) (b : Nat) (c : HoldCause) : State :=
  let n := s.nextLockNum b
  s.updBasin b (fun v => if v.holds.contains (c, n) then v else { v with holds := v.holds ++ [(c, n)], held := v.held ++ [n] })

/-- The two ends of the lane that leaves tile `t` by `o`, each as a tile and the number that it gives the lane. -/
def laneEnds (t o : Nat) : List (Nat × Nat) := (t, o) :: (laneEnd t o).toList

/-- LANE_CFG shows a lane retired at both of its ends (R196). -/
def State.retireLane (s : State) (t o : Nat) : State := (laneEnds t o).foldl (fun a x => a.setRegN x.1 (0x4200 + 4 * x.2) 2) s

/-- Seam lane `n` is retired at both ends; a basin whose image uses it goes to recovery (R196). (DESIGN CHOICE, log
82; DEDUCED, log 83) -/
def State.retireSeam (s : State) (n : Nat) : State :=
  let s1 := (s.updSeam n (fun v => { v with state := 2, staged := [] })).addLedger 6 none n 0 true
  (s1.seamUsers n).foldl (fun a x =>
    let a1 := a.retireLane x.1 x.2
    match a1.basinOf x.1 with
    | some b =>
      let a2 := a1.agentAlarm Config.seamLaneLost.toNat n b
      if (laneEnds x.1 x.2).any (fun y => a2.laneUsed y.1 y.2) then a2.lkError b x.1 Config.seamLaneLost.toNat n 2 else a2
    | none => a1) s1

/-- What is staged for the seam lanes of basin `b` is applied in a lock held on request (R195, R196). -/
def State.seamTurn (s : State) (b : Nat) : State :=
  s.seams.foldl (fun a e =>
    if (a.seamUsers e.1).any (fun x => decide (a.basinOf x.1 = some b)) then
      if e.2.state = 1 then a.updSeam e.1 (fun v => { v with wires := v.wires ++ v.staged, staged := [], state := 0 })
      else if e.2.state = 3 then a.retireSeam e.1
      else a
    else a) s

/-- Whether a seam lane carries tokens of a basin: not fenced, both tiles in one basin. -/
def State.seamBasin (s : State) (n : Nat) : Option Nat :=
  (s.seamUsers n).findSome? (fun x => if s.laneState x.1 x.2 = 0 then s.basinOf x.1 else none)

/-- Stages a steer or a retirement for the next lock held on request, or applies it at once where no basin uses the
lane. -/
def State.seamStage (s : State) (n : Nat) (retire : Bool) : State :=
  match s.seamBasin n with
  | some b => (s.updSeam n (fun v => { v with state := if retire then 3 else 1 })).askHold b .remap
  | none =>
    if retire then s.retireSeam n
    else s.updSeam n (fun v => { v with wires := v.wires ++ v.staged, staged := [], state := 0 })

/-- A wire of seam lane `n` is marked failed in service; the ninth retires the lane (R195, R196). (DEDUCED, log 83) -/
def State.seamWireFail (s : State) (n wire : Nat) : State :=
  let v := s.seam n
  if v.state = 2 ∨ wire ∈ v.wires ∨ wire ∈ v.staged then s
  else
    let s1 := ((s.updSeam n (fun v => { v with staged := v.staged ++ [wire] })).bumpObj 0x2631 3 1).addLedger 5 none n wire true
    s1.seamStage n (decide (8 < (s1.seam n).wires.length + (s1.seam n).staged.length))

/-- Whether physical wire `wire` of a seam lane has reached the threshold in its window (R195). -/
def Seam.worn (v : Seam) (wire : Nat) : Bool := decide (v.limit ≤ Map.get v.counts 0 wire)

/-- Disagreements in a row that mark a handshake wire failed (R193). -/
def hsLimit : Nat := 1024

/-- A handshake wire of seam lane `n` is marked failed; a second one of its triple retires the lane (R193). -/
def State.seamHandshakeFail (s : State) (n wire : Nat) : State :=
  let v := s.seam n
  if v.state = 2 ∨ wire ∈ v.hsFailed then s
  else
    let s1 := s.updSeam n (fun v => { v with hsFailed := v.hsFailed ++ [wire] })
    if v.hsFailed.any (fun w => decide (w / 3 = wire / 3)) then s1.seamStage n true else s1

/-- SEAM_WIRE_FAIL: the receiver of incoming lane `lane` marks physical wire `wire` failed once it has reached the threshold
in its window (R195). -/
def execSeamWireFail (t : TileId) (lane : LaneId) (wire : Fin 292) (s : State) : Host.Outcome State Fault Refusal :=
  .next (match s.seamIn t lane with
    | some n => if (s.seam n).worn wire then s.seamWireFail n wire else s
    | none => s)

/-- SEAM_HANDSHAKE_FAIL: a wire that has disagreed in 1,024 handshakes in a row is marked failed; request wires are 0 to 2,
acknowledge wires 3 to 5 (R193). -/
def execSeamHandshakeFail (t : TileId) (lane : LaneId) (wire : Fin 6) (s : State) : Host.Outcome State Fault Refusal :=
  .next (match s.seamIn t lane with
    | some n => if hsLimit ≤ Map.get (s.seam n).hsRun 0 wire then s.seamHandshakeFail n wire else s
    | none => s)

end Sys2Proof.Machine
end

