-- ==== Sys2Proof/Machine/ResetOps.lean ====
section
/-! DEFINITION. Resets of tiles, berths, basins and the device (R381 to R384). -/

namespace Sys2Proof.Machine

/-- Registers that a reset of the tile clears: its state, counters and latches; not its repair state, its power block's
settings, TILLER_MISMATCH or the trier's records (R383). (DEDUCED, log 86) -/
def resetClears (off : Nat) : Bool :=
  imageRegs.contains off ||
  (match findReg off with
   | some (r, 0) => decide (r.acc = 0) && !(decide (0x6c00 ≤ off) && decide (off < 0x6d00)) &&
       !(decide (0x7000 ≤ off) && decide (off < 0x7110)) && decide (off ≠ 0x713c) && decide (off ≠ 0x20) &&
       decide (off ≠ 0x1004) && decide (off ≠ 0x1038) && !(decide (0x4200 ≤ off) && decide (off < 0x4220)) &&
       decide (off ≠ 0x6080) && decide (off ≠ 0x6084)
   | _ => false)

/-- A tile's state after a reset: firmware, epoch store and the sleep of its banks stay. -/
def Tile.cleared (tl : Tile) : Tile :=
  { Tile.init with
    banks := tl.banks.foldl (fun m p => Map.put m Bank.init p.1 { Bank.zeroed with sleep := p.2.sleep, wasOff := p.2.wasOff }) Tile.zeroed.banks,
    fw := tl.fw, dark := tl.dark, til := { Tiller.init with pulses := tl.til.pulses },
    lk := { LockUnit.init with estore := tl.lk.estore } }

/-- Tile `t` is reset: state, rows, tags, bitmaps, wheels and counters (R383). -/
def State.resetTile (s : State) (t : Nat) : State :=
  let s1 := s.clearRegs t resetClears
  let s2 : State := { s1 with mem := s1.mem.filter (fun e => decide (e.1 / 65536 ≠ t)) }
  ((s2.setTile t (s2.tile t).cleared).setRegN t 0x6c20 0).bumpReg t 0x6c24 1

/-- What the cellar keeps of a basin whose job ends: its request and a snapshot of it in progress go; the next one is full; its
records go with a reset that the recovery ladder does not make (R421, R424, R433). -/
def Cellar.jobEnded (c : Cellar) (b : Nat) (keep : Bool) : Cellar :=
  { c with
    queue := c.queue.filter (fun q => decide (q.1 ≠ b)),
    risky := c.risky.filter (fun x => decide (x ≠ b)),
    job := if c.job.any (fun j => decide (j.basin = b)) then none else c.job,
    restores := c.restores.filter (fun r => decide (r.basin ≠ b)),
    renew := if c.renew.contains b then c.renew else c.renew ++ [b],
    records := if keep then c.records else c.records.filter (fun r => decide (r.basin ≠ b)) }

/-- A basin's job ends: numbers to 0, batches discarded, slots aborted, channel queues emptied; channel sequence numbers
and cursors stay (R383, R402, R438). `keep` tells that the recovery ladder ends it. (DEDUCED, log 14 and 86) -/
def State.endJob (s : State) (b : Nat) (keep : Bool) : State :=
  let s1 := ((s.slotsOf b).foldl (fun a q => a.abortEntries q) s).markWindow s b
  let s2 := (s1.discardBatches b).updBasin b (fun v => { Basin.init with rect := v.rect, digests := { v.digests with lostSeen := 0, nd := 0 } })
  let s3 := ((s2.setObj (0x2610 + b) 1 0).setObj (0x2610 + b) 2 0).setObj (0x2A10 + b) 4 0
  let s4 := if s3.obj (0x2A10 + b) 3 = 0 then s3 else s3.setObj (0x2A10 + b) 3 1
  let s5 := (List.range 64).foldl (fun a p =>
    let q := a.port p
    if q.stops.contains b || q.tx.any (fun x => decide (x.basin = b)) then
      a.updPort p (fun q => { q with
        stops := q.stops.filter (fun x => decide (x ≠ b)),
        tx := q.tx.filter (fun x => x.headSent || decide (x.basin ≠ b)) })
    else a) s4
  let s6 := if s5.cellar.job.any (fun j => decide (j.basin = b)) then s5.agentAlarm 0x121 b b else s5
  let s7 : State := { s6 with
    host := { s6.host with stops := s6.host.stops.filter (fun x => decide (x ≠ b)) }, cellar := s6.cellar.jobEnded b keep }
  let s8 := if s7.obj (0x2C10 + b) 9 = 1 then s7.setObj (0x2C10 + b) 9 3 else s7
  ((s8.setObj (0x2C10 + b) 3 0).setObj (0x2910 + b) 0xC 0).setObj 0x2900 3 s8.cellar.queue.length

/-! ### Requests (R381, R382) -/

/-- The state that 0x2A80.05 shows: of the oldest reset under way. -/
def State.showReset (s : State) : State :=
  s.setObj 0x2A80 5 (match s.boot.resets with
    | [] => 0
    | r :: _ => if r.phase = 1 then 3 else if r.absorb then 2 else 1)

/-- A switch outside the region discards the tokens it holds for it (R382). -/
def State.absorbLanes (s : State) (r : ResetReq) : State :=
  r.tiles.foldl (fun a t => (List.range 8).foldl (fun a i =>
    match laneEnd t i with
    | some (u, o) =>
      if !(decide (u ∈ r.tiles)) && (Map.get (a.tile u).sw.outs none o).isSome then
        ((a.recv u 1).absorbed u).laneAcked u o
      else a
    | none => a) a) s

/-- A reset of a region begins: its tiles are held, and its boundary drains or absorbs. -/
def State.beginReset (s : State) (level target : Nat) (tiles : List Nat) (dflt : Bool)
    (ladder : Option Nat := none) : State :=
  let absorb := match s.obj 0x2A80 3 with | 1 => false | 2 => true | _ => dflt
  let r : ResetReq := ⟨level, target, tiles, absorb, 0, 0, ladder⟩
  let s1 : State := { s with boot := { s.boot with resets := s.boot.resets ++ [r] } }
  let s2 := tiles.foldl (fun a t => a.setRegN t 0x6c20 1) s1
  (if absorb then s2.absorbLanes r else s2).showReset

/-- A refused reset is logged (R303, R381). -/
def State.refuseReset (s : State) (level : Nat) : State := s.refuseWrite 0x2A80 2 level

/-- Whether a tile may be reset alone: its basin's lock is held on request, or it lies in no basin. -/
def State.mayReset (s : State) (t : Nat) : Bool :=
  decide (s.obj 0x2000 7 ≠ 1) && (match s.basinOf t with | some b => s.heldByRequest b | none => true)

/-- A reset of one logical tile is requested. -/
def State.askResetTile (s : State) (t : Nat) : State :=
  if s.mayReset t then s.beginReset 1 t [t] true else s.refuseReset 1

/-- The tiles of berth `h`. -/
def berthAll (h : Nat) : List Nat := rectTiles (h % 12, h / 12, h % 12, h / 12)

/-- A reset of one berth is requested. -/
def State.askResetBerth (s : State) (h : Nat) : State :=
  if (berthAll h).all s.mayReset then s.beginReset 2 h (berthAll h) true else s.refuseReset 2

/-- A reset of one basin is requested. -/
def State.askResetBasin (s : State) (b : Nat) : State :=
  if (s.obj 0x2000 7 = 2 ∨ s.obj 0x2000 7 = 3) ∧ (s.basin b).rect.isSome = true then
    s.beginReset 3 b (s.basinTiles b) false
  else s.refuseReset 3

/-- A reset of the device is requested. -/
def State.askResetDevice (s : State) : State :=
  if 2 ≤ s.obj 0x2000 7 then s.beginReset 4 0 s.shapeTiles true else s.refuseReset 4

/-- Whether nothing remains at the boundary of a draining region (R382). -/
def State.drained (s : State) (r : ResetReq) : Bool :=
  r.tiles.all (fun t =>
    (List.range 16).all (fun b => decide ((s.bank t b).inflight (s.tile t).til.beat = 0)) && (s.tile t).tp.responses.isEmpty &&
    (List.range 8).all (fun i => match laneEnd t i with
      | some (u, o) => decide (u ∈ r.tiles) || (Map.get (s.tile u).sw.outs none o).isNone
      | none => true)) &&
  (List.range 64).all (fun p => (s.port p).tx.all (fun x =>
    !x.headSent || !(decide (s.attachTile p (descSrcAttach x.desc) ∈ r.tiles))))

/-- Changes the first reset under way that satisfies `p`. (DEDUCED, log 86) -/
def updFirst (p : ResetReq → Bool) (f : ResetReq → ResetReq) : List ResetReq → List ResetReq
  | [] => []
  | r :: rest => if p r then f r :: rest else r :: updFirst p f rest

/-- A reset that drains. -/
def ResetReq.draining (r : ResetReq) : Bool := decide (r.phase = 0) && !r.absorb

/-- The drain of the oldest draining reset has ended: its region is reset. (DEDUCED, log 117) -/
def State.drainEnd (s : State) : State :=
  match s.boot.resets.find? ResetReq.draining with
  | some r =>
    if s.drained r then
      let s1 : State := { s with boot := { s.boot with
        resets := updFirst ResetReq.draining (fun r => { r with phase := 1 }) s.boot.resets } }
      (r.tiles.foldl (fun a t => a.setRegN t 0x6c20 2) s1).showReset
    else s
  | none => s

/-- The drain limit has expired: absorb applies to what remains. -/
def State.drainLimit (s : State) : State :=
  match s.boot.resets.find? ResetReq.draining with
  | some r =>
    let s1 : State := { s with boot := { s.boot with
      resets := updFirst ResetReq.draining (fun r => { r with absorb := true }) s.boot.resets } }
    (s1.absorbLanes { r with absorb := true }).showReset
  | none => s

/-! ### The end of a reset (R383) -/

/-- What a device reset does beside its tiles: jobs end, hubs forget, the map is chosen again and the repair registers
are written from it. -/
def State.resetFabric (s : State) (keep : Bool) : State :=
  let s1 := (List.range 16).foldl (fun a b => if (a.basin b).rect.isSome then a.endJob b keep else a) s
  let s2 : State := { s1 with hubs := [] }
  match s2.chooseShape with
  | some (g, m) =>
    let s3 := s2.takeMaps g m
    if s3.obj 0x2000 7 = 4 then s3 else s3.setObj 0x2000 7 2
  | none => s2.halt

/-- The region of the oldest reset that may end is cleared, zeroed and released; with the basin whose recovery made
it. (DEDUCED, log 86) -/
def State.resetEnd (s : State) : State × Option Nat :=
  match s.boot.resets.find? (fun r => r.absorb || decide (r.phase = 1)) with
  | none => (s, none)
  | some r =>
    let s1 : State := { s with boot := { s.boot with resets := s.boot.resets.erase r } }
    let s2 := r.tiles.foldl (fun a t => a.resetTile t) s1
    let s3 := if r.level = 3 then s2.endJob r.target r.ladder.isSome else if r.level = 4 then s2.resetFabric r.ladder.isSome else s2
    let s4 := s3.setObj 0x2A80 6 r.drops
    ((if r.absorb then s4.agentIrq 0x186 (min r.drops 65535) else s4).showReset, r.ladder)

end Sys2Proof.Machine
end

