-- ==== Sys2Proof/Machine/ReplayOps.lean ====
section
/-! DEFINITION. A lock image put back into its tile (R404, R406, R428). -/

namespace Sys2Proof.Machine

/-- The tile takes the state that an image holds: registers, vectors, sets, wheels, digests, contexts and bank owners;
nothing of an epoch in progress remains in the array, the switch, the tiller and the vector unit. -/
def State.putImage (s : State) (t : Nat) (g : LockImage) : State :=
  let s1 := imageRegs.foldl (fun a o => a.setReg t o (Map.get g.regs (regDefault o) o)) s
  let s2 := s1.updTile t (fun tl => { tl with
    arr := { ArrayUnit.init with active := g.active, shadow := g.shadow, complete := g.complete, armed := g.armed },
    sw := { Switch.init with wheel := g.wheel },
    dig := { tl.dig with acc := g.digests },
    til := { Tiller.init with
      rets := g.rets, active := g.actCtx, ipc := g.ipc, redirect := g.start, skip := g.skip, beat := tl.til.beat,
      pulses := tl.til.pulses, fctx := g.actCtx, fpc := g.ipc + 1 },
    vregs := g.vregs, vpoison := g.vpoison, vwrites := [], vorder := 0, dues := [], draws := [], arrDraw := none, xwait := [],
    stagedRegs := [] })
  (List.range 16).foldl (fun a b => a.updBank t b (fun k => { k with
    owner := Map.get g.owners 1 b, staged := none, ownerNext := false })) s2

/-- The bundle of the next beat is the one that the image names: where a tile continues after its lock beat.
(DEDUCED, log 15) -/
def State.atOpenLock (s : State) (t : Nat) : State :=
  s.updTile t (fun tl => { tl with lk := { LockUnit.init with estore := tl.lk.estore, open_ := true, atLock := true } })

end Sys2Proof.Machine
end

