-- ==== Sys2Proof/Machine/CellarOps.lean ====
section
/-! DEFINITION. Cellar snapshots, the risk score and restores (R416 to R436). -/

namespace Sys2Proof.Machine

/-- Changes the cellar. -/
def State.updCellar (s : State) (f : Cellar → Cellar) : State := { s with cellar := f s.cellar }

/-- The basin's snapshot object. -/
def snapObj (b : Nat) : Nat := 0x2910 + b

/-! ### The store (R416, R419, R424) -/

/-- The secured records of basin `b`, newest first. -/
def State.recordsOf (s : State) (b : Nat) : List SnapRecord := (s.cellar.records.filter (fun r => decide (r.basin = b))).reverse

/-- Records of the newest chain: the newest full snapshot and what follows it, newest first. -/
def newChain : List SnapRecord → List SnapRecord
  | [] => []
  | r :: rest => if r.full then [r] else r :: newChain rest

/-- The records of a basin that R424 keeps, newest first: back to the older of its two newest full snapshots. -/
def keptRecords (n : Nat) : List SnapRecord → List SnapRecord
  | [] => []
  | r :: rest => if r.full then (if n ≤ 1 then [r] else r :: keptRecords (n - 1) rest) else r :: keptRecords n rest

/-- Releases what no basin needs (R424). (DEDUCED, log 89) -/
def State.reclaim (s : State) (b : Nat) : State :=
  let keep := keptRecords 2 (s.recordsOf b)
  s.updCellar (fun c => { c with records := c.records.filter (fun r => decide (r.basin ≠ b) || decide (r ∈ keep)) })

/-- Bytes of the ring in use by incremental records. (DEDUCED, log 89) -/
def State.ringUsed (s : State) : Nat :=
  s.cellar.records.foldl (fun a r => if r.full then a else a + r.bytes) 0

/-- The ring's size in bytes. -/
def ringSize : Nat := 1040384 * 2 ^ 20

/-- The bytes of a full record of a basin (R423). -/
def State.fullBytes (s : State) (b : Nat) : Nat := (s.basinTiles b).length * (28672 + 1310720)

/-- The records of a basin that is redefined, or reset other than by the ladder, are released at once (R424). -/
def State.releaseRecords (s : State) (b : Nat) : State :=
  let s1 := s.updCellar (fun c => { c with records := c.records.filter (fun r => decide (r.basin ≠ b)) })
  s1.setObj 0x2900 2 ((ringSize - s1.ringUsed) / 2 ^ 20)

/-- The cellar's state object and the number of queued requests. -/
def State.showCellar (s : State) : State :=
  (s.setObj 0x2900 1 (match s.cellar.job with
    | some j => if j.phase = 3 then 1 else if j.phase = 4 then 2 else 0
    | none => if s.cellar.restores.any (fun r => !r.needImage) then 3 else 0)).setObj 0x2900 3 s.cellar.queue.length

/-! ### Requests (R421) -/

/-- A request for basin `b` joins the queue's tail, or its head when the risk score makes it; it merges into one that
waits. (DEDUCED, log 88) -/
def State.askSnapshot (s : State) (b : Nat) (full risk : Bool) : State :=
  let had := s.cellar.queue.find? (fun q => decide (q.1 = b))
  let kind := full || (match had with | some q => q.2 | none => false)
  let rest := s.cellar.queue.filter (fun q => decide (q.1 ≠ b))
  let queue := if risk then (b, kind) :: rest
    else if had.isSome then s.cellar.queue.map (fun q => if q.1 = b then (b, kind) else q)
    else s.cellar.queue ++ [(b, kind)]
  let s1 := s.updCellar (fun c => { c with queue := queue, risky := if risk then c.risky.filter (fun x => decide (x ≠ b)) ++ [b] else c.risky })
  let s2 := if (s1.cellar.job.any (fun j => decide (j.basin = b))) then s1 else s1.setObj (snapObj b) 0xC 1
  s2.showCellar

/-- Whether an incremental request has become full, apart from ring space. -/
def State.mustBeFull (s : State) (b : Nat) : Bool :=
  match newChain (s.recordsOf b) with
  | [] => true
  | c => !(c.any (fun r => r.full)) || s.cellar.renew.contains b ||
      decide (s.obj (snapObj b) 0xA * s.fullBytes b < c.foldl (fun a r => if r.full then a else a + r.bytes) 0)

/-! ### Rows of a record (R419, R420) -/

/-- The flat row of tile `t` that the bank cell at `key` presents, none for a spare or remapped cell that presents
nothing. -/
def State.presented (s : State) (key : Nat) : Option Nat :=
  let t := key / 65536
  let bank := key % 65536 / 4096
  let loc := key % 4096
  if loc < 2560 then
    if (s.spareOf t bank loc).isNone then some (2560 * bank + loc) else none
  else
    let v := s.regN t (remapOff bank (loc - 2560))
    if s.spareOf t bank (v % 4096) = some (loc - 2560) then some (2560 * bank + v % 4096) else none

/-- Whether SNAP_DIRTY marks a flat row. -/
def State.snapDirtyRow (s : State) (t flat : Nat) : Bool :=
  let k := s.bank t (bankOf flat)
  k.snapAll || Map.get k.snapDirty false (localOf flat)

/-- Dirty rows of tile `t` from `base`, `len` rows long. -/
def State.dirtyIn (s : State) (t base len : Nat) : List Nat :=
  (List.range 16).foldl (fun a b =>
    let k := s.bank t b
    if k.snapAll then
      a ++ (List.range (min (2560 * b + 2560) (base + len) - max (2560 * b) base)).map (fun i => max (2560 * b) base + i)
    else a ++ (k.snapDirty.filterMap (fun e =>
      if e.2 ∧ base ≤ 2560 * b + e.1 ∧ 2560 * b + e.1 < base + len then some (2560 * b + e.1) else none))) []

/-- The parts of a list of ranges that a new range does not cover. -/
def cutRange (l : List (Nat × Nat)) (base len : Nat) : List (Nat × Nat) :=
  (l.map (fun r =>
    [(r.1, min r.2 (base - r.1)), (max r.1 (base + len), r.1 + r.2 - max r.1 (base + len))])).flatten.filter (fun r => decide (0 < r.2))

/-- Regions of a basin with their declared methods as the policy object overrides them: those of the image, and region 0,
which covers the remaining rows (R420). -/
def State.snapRegions (s : State) (b : Nat) : List (Nat × Nat × Nat) :=
  let l := (s.basin b).image.regions
  let policy := s.obj (0x2940 + b) 1
  let m (x : Nat) : Nat := match policy with | 1 => 1 | 2 => 0 | _ => x
  l.map (fun r => (r.base, r.len, m r.method)) ++
  (l.foldl (fun a r => cutRange a r.base r.len) [(0, 40960)]).map (fun r => (r.1, r.2, m 0))

/-- Whether a region of an incremental snapshot is copied whole (R420): FULL, or AUTO where dirty and bitmap rows come
to a quarter of it. -/
def State.copyWhole (s : State) (b : Nat) (r : Nat × Nat × Nat) : Bool :=
  let ts := s.basinTiles b
  let d := ts.foldl (fun a t => a + (s.dirtyIn t r.1 r.2.1).length) 0
  match r.2.2 with
  | 1 => true
  | 2 => false
  | _ => decide (r.2.1 * ts.length ≤ 4 * (d + ts.length * ((r.2.1 + 255) / 256)))

/-- The rows that region 0's parts count together for AUTO: the settled methods of every range of a snapshot, as
(base, length, copied whole). -/
def State.settle (s : State) (b : Nat) (full : Bool) : List (Nat × Nat × Bool) :=
  if full then [(0, 40960, true)]
  else
    let l := (s.basin b).image.regions
    let all := s.snapRegions b
    let rest := all.drop l.length
    let ts := s.basinTiles b
    let d := rest.foldl (fun a r => ts.foldl (fun a t => a + (s.dirtyIn t r.1 r.2.1).length) a) 0
    let n := rest.foldl (fun a r => a + r.2.1) 0
    let k := rest.foldl (fun a r => a + ts.length * ((r.2.1 + 255) / 256)) 0
    let whole0 := match rest with
      | (_, _, 1) :: _ => true
      | _ => decide (n * ts.length ≤ 4 * (d + k))
    (all.take l.length).map (fun r => (r.1, r.2.1, s.copyWhole b r)) ++ rest.map (fun r => (r.1, r.2.1, whole0))

/-- The bytes of a record with settled ranges. -/
def State.recBytes (s : State) (b : Nat) (l : List (Nat × Nat × Bool)) : Nat :=
  let ts := s.basinTiles b
  ts.length * 28672 + 32 * l.foldl (fun a r =>
    if r.2.2 then a + ts.length * r.2.1
    else a + ts.length * ((r.2.1 + 255) / 256) + ts.foldl (fun a t => a + (s.dirtyIn t r.1 r.2.1).length) 0) 0

/-- The rows of a record, keyed `65536 × tile + flat row`: every presented word of a range copied whole, and the dirty
rows of the others. -/
def State.recCells (s : State) (b : Nat) (l : List (Nat × Nat × Bool)) : Map (Option CodeWord) :=
  let ts := s.basinTiles b
  let whole (f : Nat) : Bool := l.any (fun r => r.2.2 && decide (r.1 ≤ f) && decide (f < r.1 + r.2.1))
  let m1 := s.mem.foldl (fun m e =>
    if (e.1 / 65536) ∈ ts then
      match s.presented e.1 with
      | some f => if whole f then Map.put m none (65536 * (e.1 / 65536) + f) (some e.2) else m
      | none => m
    else m) []
  ts.foldl (fun m t => l.foldl (fun m r =>
    if r.2.2 then m
    else (s.dirtyIn t r.1 r.2.1).foldl (fun m f => Map.put m none (65536 * t + f) (some (s.rowWord t f))) m) m) m1

/-- The word of a row as a record holds it, none where it does not hold the row. -/
def SnapRecord.word (r : SnapRecord) (key : Nat) : Option CodeWord :=
  match Map.get r.cells none key with
  | some w => some w
  | none => if r.whole.any (fun x => decide (x.1 ≤ key % 65536) && decide (key % 65536 < x.1 + x.2)) then some 0 else none

/-! ### What a record holds beside rows (R419) -/

/-- The ports and channels that an image's silo plan and descriptors name, of basin `b`. -/
def State.snapChannels (s : State) (b : Nat) : List SnapChannel :=
  (s.basin b).image.channels.map (fun pc =>
    let q := s.port pc.1
    ⟨pc.1, pc.2, Map.get q.nextTx 0 pc.2, Map.get q.expRx 0 pc.2, Map.get q.lastRep 0 pc.2, Map.get q.stored [] pc.2⟩)

/-- The keys of RWL objects that can belong to a basin (R301). -/
def rwlKeys : List Nat :=
  (List.range 64).map (fun p => objKey (portObj p) 0xF) ++ (List.range 4).map (fun h => objKey 0x2501 (h + 1)) ++
  ((List.range 128).map (fun q => [objKey (0x2510 + q) 1, objKey (0x2510 + q) 2])).flatten ++
  (List.range 16).map (fun b => objKey (0x2C10 + b) 2)

/-- The RWL object values that belong to basin `b`. -/
def State.snapObjs (s : State) (b : Nat) : List (Nat × Nat) :=
  rwlKeys.filterMap (fun k =>
    let v := s.obj (k / 256) (k % 256)
    if s.objBasin (k / 256) (k % 256) v = some b then some (k, v) else none)

/-- The tile's part of a record beside its rows. (DEDUCED, log 89) -/
def State.snapTile (s : State) (t : Nat) : SnapTile :=
  let tl := s.tile t
  ⟨t, s.takeImage t, tl.stagedRegs, tl.sw.staged,
    (List.range 16).filterMap (fun b => (s.bank t b).staged.map (fun o => (b, o))), tl.tp.batches, tl.lk.estore⟩

/-- The record of basin `b` in the hold of its lock. -/
def State.makeRecord (s : State) (b : Nat) (full : Bool) : SnapRecord :=
  let l := s.settle b full
  let v := s.basin b
  { basin := b, full := full, slot := match (s.recordsOf b).find? (fun r => r.full) with | some r => 1 - r.slot | none => 0,
    epoch := s.obj (0x2610 + b) 1, locks := s.obj (0x2610 + b) 2, beats := s.leastPos b, level := s.obj (0x2A10 + b) 4,
    image := v.image, rows := s.shapeRows, grade := s.obj 0x2E00 8, rect := v.rect.getD (0, 0, 0, 0), table := v.table,
    tiles := (s.basinTiles b).map s.snapTile, whole := (l.filter (fun r => r.2.2)).map (fun r => (r.1, r.2.1)),
    cells := s.recCells b l, channels := s.snapChannels b,
    slots := (s.slotsOf b).map (fun q => (q, s.cursor q)), oseq := Map.get s.host.oseq 0 b,
    batches := s.srv.batches.filter (fun k => decide (k.basin = b) && k.open_), objs := s.snapObjs b,
    nd := s.obj (0x2C10 + b) 3, bytes := s.recBytes b l, time := s.srv.ms }

/-! ### Taking a snapshot (R422) -/

/-- The first snapshot-point lock from lock `n` on, among the next `k` locks. (DEDUCED, log 88) -/
def snapPoint (table : Map (BitVec 128)) (n : Nat) : Nat → Option Nat
  | 0 => none
  | k + 1 => if recSnapshot (epochRec table n) then some n else snapPoint table (n + 1) k

/-- The first request of the queue whose basin runs and has no STOP in force is served when the cellar is free: its kind is
settled, and a hold is placed on the first snapshot-point lock whose wave has not begun. (DEDUCED, log 88) -/
def State.snapshotStart (s : State) : State :=
  match s.cellar.queue.find? (fun q => (s.basin q.1).started && !(s.basin q.1).stop) with
  | none => s
  | some (b, kind) =>
    if s.cellar.job.isSome || s.cellar.restores.any (fun r => !r.needImage) then s
    else
      let rest := s.cellar.queue.filter (fun q => decide (q.1 ≠ b))
      let must := kind || s.mustBeFull b
      let short := !must && decide (ringSize < s.ringUsed + s.recBytes b (s.settle b false))
      match snapPoint (s.basin b).table (s.nextLockNum b + b2n (s.basin b).waveBegun) 65536 with
      | none => s
      | some n =>
        let s1 := if short then s.agentIrq 0x126 b else s
        let s2 := s1.updCellar (fun c => { c with
          queue := rest, risky := c.risky.filter (fun x => decide (x ≠ b)),
          job := some ⟨b, must || short, n, 2, none, c.risky.contains b⟩ })
        let s3 := s2.updBasin b (fun v => { v with holds := v.holds ++ [(HoldCause.snapshot, n)], held := v.held ++ [n] })
        (s3.setObj (snapObj b) 0xC 2).showCellar

/-- The snapshot of a job ends without a record. -/
def State.snapshotFail (s : State) (j : SnapJob) : State :=
  let s1 := s.updCellar (fun c => { c with job := none })
  let s2 := s1.updBasin j.basin (fun v => { v with holds := v.holds.erase (HoldCause.snapshot, j.lock) })
  ((s2.setObj (snapObj j.basin) 0xC (if s2.cellar.queue.any (fun q => decide (q.1 = j.basin)) then 1 else 0)).agentAlarm
    0x121 j.basin j.basin).showCellar

/-- Every outbound barge of basin `b` whose HEAD has been sent has its completion. -/
def State.bargesDone (s : State) (b : Nat) : Bool :=
  (List.range 64).all (fun p =>
    (s.port p).tx.all (fun x => !(x.headSent && decide (x.basin = b))) &&
    (s.port p).outstanding.all (fun x => decide (x.basin ≠ b)))

/-- The rows of a record read through port X, with what R147 does for each; the second part tells whether none was
uncorrectable, at which the reading stops (R422). -/
def State.readCells (s : State) : List (Nat × Option CodeWord) → State × Bool
  | [] => (s, true)
  | (k, w) :: rest =>
    let t := k / 65536
    let f := k % 65536
    match w with
    | none => s.readCells rest
    | some w =>
      let s1 := (s.decodeRow t f w none true).2.2
      match kolvosDecode w with
      | .uncorrectable => (s1, false)
      | _ => s1.readCells rest

/-- A corrected word is stored as its correct codeword. -/
def goodWord (w : CodeWord) : CodeWord :=
  match kolvosDecode w with
  | .corrected d _ => kolvosEncode d
  | _ => w

/-- The engines copy: in the hold, with outbound barges completed and remap holds gone (R422, R433). -/
def State.snapshotCopy (s : State) (b : Nat) : State :=
  match s.cellar.job with
  | none => s
  | some j =>
    if j.basin ≠ b ∨ j.phase ≠ 2 ∨ s.nextLockNum b ≠ j.lock ∨ ¬ (s.heldByRequest b = true) ∨ s.heldFor b .remap = true ∨
        (s.basin b).stop = true ∨ ¬ (s.bargesDone b = true) then s
    else
      let s1 := (s.basinTiles b).foldl (fun a t => a.foldDirty t) s
      let r0 := s1.makeRecord b j.full
      let (s2, ok) := s1.readCells r0.cells
      if !ok then s2.snapshotFail j
      else
        let r : SnapRecord := { r0 with cells := r0.cells.map (fun e => (e.1, e.2.map goodWord)) }
        let l := s1.settle b j.full
        let s3 := s2.updBasin b (fun v => { v with image := { v.image with regions := v.image.regions.map (fun g =>
          { g with
            used := if j.full || l.any (fun x => decide (x.1 = g.base) && decide (x.2.1 = g.len) && x.2.2) then 1 else 2,
            dirty := (s1.basinTiles b).foldl (fun a t => a + (s1.dirtyIn t g.base g.len).length) 0 }) } })
        ((s3.updCellar (fun c => { c with job := some { j with phase := 3, rec_ := some r } })).setObj (snapObj b) 0xC 3).showCellar

/-- The last row has entered the write buffer: the hold is released. (DESIGN CHOICE, log 65) -/
def State.snapshotRelease (s : State) (b : Nat) : State :=
  match s.cellar.job with
  | none => s
  | some j =>
    if j.basin ≠ b ∨ j.phase ≠ 3 then s
    else
      let s1 := s.updCellar (fun c => { c with job := some { j with phase := 4 } })
      let s1 := (s1.basinTiles b).foldl (fun a t =>
        (List.range 16).foldl (fun a k => a.updBank t k (fun x => { x with snapLate := [] })) a) s1
      let s2 := if s1.heldByRequest b then s1.seamTurn b else s1
      let s3 := s2.updBasin b (fun v => { v with holds := v.holds.erase (HoldCause.snapshot, j.lock) })
      let (f, s4) := s3.fresh
      let pause := f.toNat % 2 ^ 32
      (((s4.setObj (snapObj b) 7 pause).setObj (snapObj b) 8 (max pause (s4.obj (snapObj b) 8))).setObj (snapObj b) 0xC 4).showCellar

/-- SNAP_DIRTY of tile `t` is cleared where EPOCH_DIRTY is clear and no lock has folded the row in since the release
(R422). (DEDUCED, log 89) -/
def State.clearSnap (s : State) (t : Nat) : State :=
  (List.range 16).foldl (fun a b => a.updBank t b (fun k => { k with
    snapAll := false,
    snapDirty := k.epochDirty.foldl (fun m e =>
      if e.2 && (k.snapAll || Map.get k.snapDirty false e.1) then Map.put m false e.1 true else m) k.snapLate,
    snapLate := [] })) s

/-- Bytes are programmed: the count, the endurance used, and the notice at 80 % of the rating (R432). (DESIGN CHOICE,
log 90) -/
def State.program (s : State) (n : Nat) : State :=
  let rated := 3298534883328000
  let old := s.obj 0x2900 4
  let new := min (old + n) (2 ^ 64 - 1)
  let s1 := (s.setObj 0x2900 4 new).setObj 0x2900 5 (min (new * 1000 / rated) 65535)
  if old * 5 < rated * 4 ∧ rated * 4 ≤ new * 5 then s1.agentIrq 0x125 0 else s1

/-- The flush is done and the manifest is written: the snapshot is secured. (DESIGN CHOICE, log 90) -/
def State.snapshotSecured (s : State) (b : Nat) : State :=
  match s.cellar.job with
  | none => s
  | some j =>
    match j.rec_ with
    | none => s
    | some r0 =>
      if j.basin ≠ b ∨ j.phase ≠ 4 then s
      else
        let i := snapObj b
        let r : SnapRecord := { r0 with time := s.srv.ms }
        let (amp, s0) := s.fresh
        let s1 := (s0.updCellar (fun c => { c with
          job := none, records := c.records ++ [r], renew := if j.full then c.renew.filter (fun x => decide (x ≠ b)) else c.renew })).reclaim b
        let s2 := (s1.basinTiles b).foldl (fun a t => a.clearSnap t) s1
        let s3 := s2.program (r.bytes + amp.toNat % 2 ^ 32)
        let (rate, s4) := s3.fresh
        let s5 := (s4.setObj 0x2900 2 ((ringSize - s4.ringUsed) / 2 ^ 20)).setObj 0x2900 6
          (clampReal 0 0x41480000 0 (rate.toNat % 2 ^ 32))
        let s6 := ((s5.setObj i 4 r.epoch).setObj i 5 (if j.full then 1 else 2)).setObj i 6 r.time
        let s7 := s6.setObj i 9 (((newChain (s6.recordsOf b)).foldl (fun a r => if r.full then a else a + r.bytes) 0) / 1000000)
        let s8 := if j.full then s7.setObj i 0xB r.slot else s7
        let s8 := if j.risk then s8.bumpObj i 0x11 1 else s8
        let s9 := (s8.bumpObj i 0x10 1).setObj i 0xC (if s8.cellar.queue.any (fun q => decide (q.1 = b)) then 1 else 0)
        (s9.agentIrq 0x120 b).showCellar

/-! ### The risk score (R425, R426) -/

/-- The sum of an object over ports. -/
def State.sumPorts (s : State) (sub : Nat) : Nat := (List.range 64).foldl (fun a p => a + s.obj (portObj p) sub) 0

/-- What an object shows and what the next report window end adds. -/
def State.soFar (s : State) (i sub : Nat) : Nat := s.obj i sub + Map.get s.win 0 (objKey i sub)

/-- The counters of a risk sample. -/
def State.riskSample (s : State) : List Nat :=
  [s.obj 0x2700 2 + s.obj 0x2622 1, s.obj 0x2700 3, s.obj 0x2104 1, s.obj 0x2104 3, s.sumPorts 0xD, s.link.laneDrops]

/-- `weight × count` in millionths of a point. -/
def weighted (w n : Nat) : Nat := f32Scaled w (1000000 * n)

/-- The components E, D, T and L of the score, in points, from the samples kept. -/
def State.riskParts (s : State) (now : List Nat) : List Nat :=
  let past (k i : Nat) : Nat := ((s.cellar.risk[k - 1]?).getD (s.cellar.risk.getLastD now)).getD i 0
  let rate (k i : Nat) : Nat := now.getD i 0 - past k i
  let hot := match decodeF fmtFP32 (s.obj 0x6050 1) with
    | .fin false _ _ => f32Scaled (s.obj 0x6050 1) 1000
    | _ => 0
  [min 400 ((weighted (s.obj 0x2880 8) (rate 60 0) + weighted (s.obj 0x2880 9) (rate 60 1)) / 1000000),
   min 200 ((weighted (s.obj 0x2880 0xA) (rate 60 2) + weighted (s.obj 0x2880 0xB) (rate 60 3)) / 1000000),
   min 200 (weighted (s.obj 0x2880 0xC) (hot - 85000) / 1000000000),
   min 200 ((weighted (s.obj 0x2880 0xD) (rate 600 4) + weighted (s.obj 0x2880 0xE) (rate 600 5)) / 1000000)]

/-- A snapshot of every running basin is requested, but not of one secured in the last 10 s. -/
def State.riskRequests (s : State) : State :=
  (List.range 16).foldl (fun a b =>
    let young := match (a.recordsOf b).head? with | some r => decide (a.srv.ms < r.time + 10000) | none => false
    if a.obj (0x2A10 + b) 3 = 3 ∧ young = false then a.askSnapshot b false true else a) s

/-- The score is computed; at the threshold it asks for snapshots, once and then at each repeat interval. -/
def State.riskEvaluate (s : State) : State :=
  let now := s.riskSample
  let parts := s.riskParts now
  let score := min 1000 (parts.foldl (· + ·) 0)
  let old := s.obj 0x2880 1
  let s1 := (parts.zipIdx).foldl (fun a p => a.setObj 0x2880 (4 + p.2) p.1) (s.setObj 0x2880 1 score)
  let s2 := s1.updCellar (fun c => { c with risk := (now :: c.risk).take 600 })
  let limit := s.obj 0x2880 2
  if score < limit then s2.updCellar (fun c => { c with trigger := none })
  else
    let due := match s.cellar.trigger with
      | some ms => decide (ms + 1000 * s.obj 0x2880 3 ≤ s.srv.ms)
      | none => true
    let first := decide (old < limit) || s.cellar.trigger.isNone
    if first then
      ((s2.riskRequests.agentIrq 0x18E score).bumpObj 0x2880 0xF 1).updCellar (fun c => { c with trigger := some s.srv.ms })
    else if due then s2.riskRequests.updCellar (fun c => { c with trigger := some s.srv.ms })
    else s2

/-! ### Restoring (R427 to R431) -/

/-- The chain of the older full snapshot, newest record first: the records after it up to the next full one. -/
def oldChain (l : List SnapRecord) : List SnapRecord := newChain (l.drop (newChain l).length)

/-- The restore ends with a status: 3 done or 4 failed is shown. -/
def State.restoreEnd (s : State) (b status : Nat) : State :=
  let s1 := s.updCellar (fun c => { c with restores := c.restores.filter (fun r => decide (r.basin ≠ b)) })
  let s2 := (s1.setObj (snapObj b) 0xE (if status ≤ 1 then 3 else 4)).setObj (snapObj b) 0xF status
  let s3 := if s2.obj (0x2810 + b) 1 = 6 then s2.setObj (0x2810 + b) 1 (if status ≤ 1 then 0 else 5) else s2
  (if status ≤ 1 then s3.agentIrq 0x122 b else s3.agentAlarm 0x123 b b).showCellar

/-- The contract levels that the firmware honours (R449). -/
def State.levelOk (s : State) (b level : Nat) : Bool :=
  decide (s.obj (0x2A10 + b) 0xA % 256 ≤ level) && decide (level ≤ s.obj (0x2A10 + b) 0xA / 256)

/-- A restore is checked in the order of R427 and begins, or ends with the first check's status; `bad` names records, by
their places from the newest, whose manifests fail their CRC. (DESIGN CHOICE, log 91) -/
def State.restoreBegin (s : State) (b : Nat) (older : Bool) (bad : List Nat) : State :=
  let l := s.recordsOf b
  let c1 := newChain l
  let c2 := oldChain l
  let broken (off : Nat) (c : List SnapRecord) : Bool := (List.range c.length).any (fun i => bad.contains (off + i))
  let fall := !older && broken 0 c1 && !c2.isEmpty
  let c := if older || fall then c2 else c1
  match c with
  | [] => s.restoreEnd b 2
  | r :: _ =>
    if broken (if older || fall then c1.length else 0) c then s.restoreEnd b 3
    else
      let shape := decide ((s.basin b).rect = some r.rect) && decide (r.rows = s.shapeRows)
      if shape && decide (r.grade ≠ s.obj 0x2E00 8) then s.restoreEnd b 5
      else if shape && !s.levelOk b r.level then s.restoreEnd b 6
      else
        let job : RestoreJob := ⟨b, older, fall, !shape, c.reverse⟩
        let s1 := s.updCellar (fun k => { k with restores := k.restores.filter (fun x => decide (x.basin ≠ b)) ++ [job] })
        let s2 := s1.setObj (snapObj b) 0xE (if shape then 2 else 1)
        (if shape then s2.setObj (0x2810 + b) 1 6 else s2.setObj (snapObj b) 0xF 4).showCellar

/-- A restore command (R427): refused unless the basin is defined, runs no job and has no restore filling. -/
def State.askRestore (s : State) (b : Nat) (older : Bool) (bad : List Nat) : State :=
  let st := s.obj (0x2A10 + b) 3
  if (st = 1 ∨ st = 2) ∧ s.obj (snapObj b) 0xE ≠ 2 then s.restoreBegin b older bad
  else s.refuseWrite (snapObj b) 0xD (if older then 2 else 1)

/-- The newest word that a chain, oldest record first, holds of a row. -/
def chainWord (chain : List SnapRecord) (key : Nat) : CodeWord :=
  chain.foldl (fun a r => (r.word key).getD a) 0

/-- Every key that some record of a chain lists. -/
def chainKeys (chain : List SnapRecord) : List Nat :=
  (chain.foldl (fun m r => r.cells.foldl (fun m e => Map.ins m e.1 ()) m) ([] : Map Unit)).map (·.1)

/-- The rows that the banks of some tiles hold, as `65536 × tile + flat row`. -/
def State.heldRows (s : State) (ts : List Nat) : List Nat :=
  s.mem.filterMap (fun e =>
    if ts.contains (e.1 / 65536) then (s.presented e.1).map (fun f => 65536 * (e.1 / 65536) + f) else none)

/-- Every row of the tiles of a chain is written, as program-loader writes (R166, R428). (DESIGN CHOICE, log 91) -/
def State.restoreRows (s : State) (b : Nat) (chain : List SnapRecord) : State :=
  let keys := (s.heldRows (s.basinTiles b)).foldl (fun m k => Map.ins m k ()) ((chainKeys chain).map (fun k => (k, ())))
  keys.foldl (fun a e => a.installRow (e.1 / 65536) (e.1 % 65536) (chainWord chain e.1)) s

/-- The state record of one tile is loaded. -/
def State.restoreTile (s : State) (x : SnapTile) (beats : Nat) : State :=
  let s1 := (s.putImage x.tile x.image).updTile x.tile (fun tl => { tl with
    stagedRegs := x.regs, sw := { tl.sw with staged := x.wheel }, tp := { tl.tp with batches := x.batches },
    lk := { tl.lk with estore := x.store }, til := { tl.til with beat := beats } })
  x.owners.foldl (fun a o => a.updBank x.tile o.1 (fun k => { k with staged := some o.2 })) s1

/-- Every bit of SNAP_DIRTY of tile `t` is set. -/
def State.fillSnap (s : State) (t : Nat) : State :=
  (List.range 16).foldl (fun a b => a.updBank t b (fun k => { k with snapAll := true, snapDirty := [] })) s

/-- A saved channel's numbers return (R428, R431). -/
def State.restoreChannel (s : State) (c : SnapChannel) : State :=
  s.updPort c.port (fun q => { q with
    nextTx := Map.put q.nextTx 0 c.channel c.nextTx, nextTxLock := Map.put q.nextTxLock 0 c.channel c.nextTx,
    expRx := Map.put q.expRx 0 c.channel c.expRx, lastRep := Map.put q.lastRep 0 c.channel c.lastRep,
    stored := Map.put q.stored [] c.channel c.stored })

/-- A port that carries a saved channel retrains with a new link-up (R431). -/
def State.renewLink (s : State) (p : Nat) : State :=
  if s.portState p = 3 ∨ s.portState p = 4 then (s.startRetrain p).updPort p (fun q => { q with newLink := true }) else s

/-- A saved slot's cursor returns and its queue enters REWOUND (R273). -/
def State.restoreSlot (s : State) (q c : Nat) : State :=
  let s1 := s.setObj (0x2510 + q) 3 c
  if s1.qOn q then (s1.abortEntries q).qHalt q 3 else s1

/-- The basin-level items of a manifest return. -/
def State.restoreBasin (s : State) (b : Nat) (r : SnapRecord) : State :=
  let s1 := (((s.setObj (0x2610 + b) 1 r.epoch).setObj (0x2610 + b) 2 r.locks).setObj (0x2C10 + b) 3 r.nd).setObj
    (0x2A10 + b) 4 r.level
  let s2 := r.objs.foldl (fun a e => a.applyObj e.1 e.2 (r.epoch + 1) b) s1
  let s3 := r.slots.foldl (fun a x => a.restoreSlot x.1 x.2) s2
  let s4 := r.channels.foldl (fun a c => a.restoreChannel c) s3
  let s5 := ((r.channels.map (·.port)).eraseDups).foldl (fun a p => a.renewLink p) s4
  let s6 : State := { s5 with host := { s5.host with oseq := Map.put s5.host.oseq 0 b r.oseq } }
  { s6 with srv := { s6.srv with batches := pruneBatches (s6.srv.batches ++ r.batches) } }

/-- The basin completes lock beat m, which needs no wave, at all its tiles. (DESIGN CHOICE, log 91) -/
def State.completeLock (s : State) (b : Nat) : State :=
  (s.basinTiles b).foldl (fun a t =>
    match a.lockBegin b with
    | none => a
    | some ((n, k, f), a1) =>
      (a1.tileLock t b n k f).updBasin b (fun v =>
        if v.lockDone.length + 1 = (a.basinTiles b).length then { v with lockDone := [], lockNow := none }
        else { v with lockDone := v.lockDone ++ [t] })) s

/-- Steps 3 to 5 of R428: dirty bits, numbers, and lock beat m. -/
def State.restoreFinish (s : State) (b : Nat) (r : SnapRecord) (image : ImageFacts) (table : Map (BitVec 128)) (fallback : Bool) : State :=
  let ts := s.basinTiles b
  let s1 := ts.foldl (fun a t => (a.fillSnap t).atOpenLock t) s
  let s2 := (s1.restoreBasin b r).updBasin b (fun v => { Basin.init with
    rect := v.rect, started := true, restored := true, table := table, image := image,
    digests := { v.digests with restored := true, nd := r.nd } })
  let s3 := (s2.setObj (0x2A10 + b) 3 2).updCellar (fun c => { c with
    renew := if c.renew.contains b then c.renew else c.renew ++ [b] })
  (s3.completeLock b).restoreEnd b (if fallback then 1 else 0)

/-- RESTORE_DONE (R428): the rows and state records are written and the basin completes lock beat m.  `media` tells that
a row of the chain is uncorrectable: the restore falls back once, else it fails. (DESIGN CHOICE, log 91) -/
def State.restoreDone (s : State) (b : Nat) (media : Bool) : State :=
  match s.cellar.restores.find? (fun r => decide (r.basin = b) && !r.needImage) with
  | none => s
  | some j =>
    if s.cellar.job.isSome then s
    else if media then
      let s1 := (s.bumpObj 0x2900 7 1).agentAlarm 0x124 (s.fresh.1.toNat % 2 ^ 16) b
      let s2 := s1.fresh.2
      let c2 := oldChain (s2.recordsOf b)
      if j.fallback || j.older || c2.isEmpty then (s2.restoreEnd b 8).setObj 0x2900 1 4
      else s2.updCellar (fun c => { c with restores := c.restores.map (fun r =>
        if r.basin = b then { r with fallback := true, chain := c2.reverse } else r) })
    else
      match j.chain.getLast? with
      | none => s
      | some r =>
        let s1 := s.restoreRows b j.chain
        let s2 := (r.tiles.foldl (fun a x => a.restoreTile x r.beats) s1).markWindow s b
        s2.restoreFinish b r r.image r.table j.fallback

/-- Whether a restore map can be carried out (R430): its sources lie in the snapshot, its targets in the basin's layout. -/
def State.mapOk (s : State) (b : Nat) (r : SnapRecord) (f : ImageFacts) : Bool :=
  let ts := s.basinTiles b
  let old := r.tiles.map (·.tile)
  f.moves.all (fun m => old.contains m.1 && decide (m.2.1 < 40960) && ts.contains m.2.2.1 && decide (m.2.2.2 < 40960)) &&
  f.streamMoves.all (fun m => old.contains m.1 && decide (m.2.1 < 8) && ts.contains m.2.2.1 && decide (m.2.2.2 < 8))

/-- A tile of the new placement stands in the hold of lock m: its epoch number is the manifest's, and its epoch store
stands at the record of that epoch. -/
def State.mappedTile (s : State) (t : Nat) (r : SnapRecord) : State :=
  let (i, left) := epochAt (s.tile t).lk.estore r.epoch
  (((s.setRegN t 0xf00 r.epoch).setRegN t 0xf30 i).setRegN t 0xf34 left).updTil t (fun m => { m with
    beat := r.beats, redirect := some ⟨0, 1, 0⟩ })

/-- A restore that waited for a fallback image, which has just been loaded, moves rows and stream registers as the image's
restore map says and goes on at step 3 (R430). -/
def State.restoreMapped (s : State) (b : Nat) : State :=
  match s.cellar.restores.find? (fun r => decide (r.basin = b) && r.needImage) with
  | none => s
  | some j =>
    match j.chain.getLast? with
    | none => s
    | some r =>
      let f := (s.basin b).image
      if !s.mapOk b r f then s.restoreEnd b 7
      else
        let s1 := f.moves.foldl (fun a m =>
          a.installRow m.2.2.1 m.2.2.2 (chainWord j.chain (65536 * m.1 + m.2.1))) s
        let s2 := f.streamMoves.foldl (fun a m =>
          match r.tiles.find? (fun x => decide (x.tile = m.1)) with
          | some x => [0, 4, 8, 0xc, 0x10, 0x14].foldl (fun a o =>
              let src := 0x2100 + 0x20 * m.2.1 + o
              a.setReg m.2.2.1 (0x2100 + 0x20 * m.2.2.2 + o) (Map.get x.image.regs (regDefault src) src)) a
          | none => a) s1
        let s3 := ((s2.basinTiles b).foldl (fun a t => a.mappedTile t r) s2).markWindow s b
        s3.restoreFinish b r f (s3.basin b).table j.fallback

end Sys2Proof.Machine
end

