-- ==== Sys2Proof/Machine/BasinOps.lean ====
section
/-! DEFINITION. Basins: definitions, shared pounds and the effects of a removal (R437 to R443). -/

namespace Sys2Proof.Machine

/-- The pounds that hold a tile of a basin. -/
def State.basinPounds (s : State) (b : Nat) : List Nat := ((s.basinTiles b).map s.poundOf).eraseDups

/-- The mask of pounds that basin `b` shares with another (R443). -/
def State.sharedMask (s : State) (b : Nat) : Nat :=
  let others := ((List.range 16).filter (fun c => decide (c ≠ b))).map s.basinPounds
  (s.basinPounds b).foldl (fun a n => if others.any (fun l => l.contains n) then a + 2 ^ n else a) 0

/-- The shared masks are computed again after a definition or a map change. -/
def State.showShared (s : State) : State :=
  ((List.range 16).filter (fun b => (s.basin b).rect.isSome || decide (s.obj (0x2A10 + b) 6 ≠ 0))).foldl (fun a b =>
    a.setObj (0x2A10 + b) 6 (s.sharedMask b)) s

/-- Whether two rectangles of berths share a berth. -/
def rectsMeet (a b : Nat × Nat × Nat × Nat) : Bool :=
  decide (a.1 ≤ b.2.2.1) && decide (b.1 ≤ a.2.2.1) && decide (a.2.1 ≤ b.2.2.2) && decide (b.2.1 ≤ a.2.2.2)

/-- Why a rectangle is no valid definition of basin `b` on the shape in force: 0 valid, 1 overlap, 3 a pound without power
or a berth the shape does not have (R437). (DEDUCED, log 92) -/
def State.rectFault (s : State) (b : Nat) (r : Nat × Nat × Nat × Nat) : Nat :=
  if (List.range 16).any (fun c => decide (c ≠ b) && (match (s.basin c).rect with | some q => rectsMeet r q | none => false)) then 1
  else if s.shapeRows / 4 ≤ r.2.2.2 then 3
  else if (((rectTiles r).map s.poundOf).eraseDups).any (fun n => decide (s.poundState n ≠ 3)) then 3
  else 0

/-- The rectangle that (0x2A10 + b).01 gives. -/
def State.rectObj (s : State) (b : Nat) : Nat × Nat × Nat × Nat :=
  let v := s.obj (0x2A10 + b) 1
  (v % 16, v / 16 % 16, v / 256 % 16, v / 4096 % 16)

/-- The number of basins defined. -/
def State.countBasins (s : State) : State :=
  s.setObj 0x2A00 2 ((List.range 16).filter (fun b => (s.basin b).rect.isSome)).length

/-- A command that R438 refuses. -/
def State.refuseBasin (s : State) (b cmd code : Nat) : State :=
  ((s.setObj (0x2A10 + b) 2 cmd).setObj (0x2A10 + b) 9 code).refuseWrite (0x2A10 + b) 2 cmd

/-- Define: accepted in state FREE or IDLE of a ready device. (DEDUCED, log 92) -/
def State.basinDefine (s : State) (b : Nat) : State :=
  let i := 0x2A10 + b
  let r := s.rectObj b
  if 1 < s.obj i 3 ∨ s.obj 0x2000 7 ≠ 2 then s.refuseBasin b 1 2
  else
    let f := s.rectFault b r
    if f ≠ 0 then s.refuseBasin b 1 f
    else
      let s1 := (s.releaseRecords b).setBasin b { Basin.init with rect := some r }
      let s2 := (((s1.setObj i 2 1).setObj i 3 1).setObj i 9 0).setObj i 8 (rectTiles r).length
      s2.countBasins.showShared

/-- Remove: accepted in state FREE or IDLE. -/
def State.basinRemove (s : State) (b : Nat) : State :=
  let i := 0x2A10 + b
  if 1 < s.obj i 3 then s.refuseBasin b 2 2
  else
    let s1 := (s.releaseRecords b).setBasin b Basin.init
    let s2 := ((((s1.setObj i 2 2).setObj i 3 0).setObj i 9 0).setObj i 8 0).discardBatches b
    s2.countBasins.showShared

/-- At the end of phase 5 a stored definition that no longer meets R437 is removed (R441). -/
def State.checkDefinitions (s : State) : State :=
  let bad := (List.range 16).filter (fun b => match (s.basin b).rect with
    | some r => decide (s.rectFault b r ≠ 0)
    | none => false)
  let s1 := bad.foldl (fun a b =>
    let a1 := (a.releaseRecords b).setBasin b Basin.init
    ((((a1.setObj (0x2A10 + b) 3 0).setObj (0x2A10 + b) 8 0).setObj (0x2A10 + b) 9 4).agentIrq 0x18F (5 + 256 * b))) s
  (s1.setObj 0x2A00 3 bad.length).countBasins.showShared

end Sys2Proof.Machine
end

