-- ==== Sys2Proof/Machine/UpdateOps.lean ====
section
/-! DEFINITION. Firmware updates (R444 to R455). -/

namespace Sys2Proof.Machine

/-- Changes the update state. -/
def State.updUpd (s : State) (f : Updates → Updates) : State := { s with upd := f s.upd }

/-- The active, staged and rollback image of a kind. -/
def State.activeImg (s : State) (k : Nat) : UpdateImage := Map.get s.upd.active factoryImage k
def State.stagedImg (s : State) (k : Nat) : Option UpdateImage := Map.get s.upd.staged none k
def State.rollbackImg (s : State) (k : Nat) : Option UpdateImage := Map.get s.upd.rollback none k

/-- UPDATE_EVENT (R455). -/
def State.updateEvent (s : State) (ev kind target : Nat) : State := s.agentIrq 0x18F (ev + 16 * kind + 256 * target)

/-- State and reason of the update objects. -/
def State.updateShow (s : State) (st reason : Nat) : State := (s.setObj 0x2B00 4 st).setObj 0x2B00 5 reason

/-- A command is refused: recorded, logged and reported (R444, R455). -/
def State.updateRefuse (s : State) (cmd reason : Nat) : State :=
  let s1 := (s.setObj 0x2B00 1 cmd).refuseWrite 0x2B00 1 cmd
  let s2 := s1.updateEvent 2 (s.obj 0x2B00 2) (s.obj 0x2B00 3)
  if s.upd.run.isSome then s2 else s2.updateShow 6 reason

/-- The update in progress fails. -/
def State.updateFail (s : State) (reason : Nat) : State :=
  match s.upd.run with
  | none => s
  | some u => ((s.updUpd (fun d => { d with run := none })).updateShow 7 reason).updateEvent 3 u.kind u.target

/-- The levels a basin honours: those that both the active Lockkeeper image and its tile image honour (R450). -/
def State.showLevels (s : State) (b : Nat) : State :=
  let k := s.activeImg 0
  let (id, lo, hi) := Map.get s.upd.basins (0, 1, 1) b
  ((s.setObj (0x2A10 + b) 0xA (max k.lo lo % 256 + 256 * (min k.hi hi % 256))).setObj (0x2A10 + b) 5 id)

/-- An update ends done, or rolled back: its image is active and the one before it becomes the rollback image. -/
def State.updateDone (s : State) : State :=
  match s.upd.run with
  | none => s
  | some u =>
    let s1 := s.updUpd (fun d => { d with
      run := none, rollback := Map.put d.rollback none u.kind (some (s.activeImg u.kind)),
      active := Map.put d.active factoryImage u.kind u.img,
      staged := if u.back then d.staged else Map.put d.staged none u.kind none })
    let s2 := match u.kind with
      | 0 => (List.range 16).foldl (fun (a : State) b => a.showLevels b) s1
      | 1 => ((List.range 16).filter (fun b => decide (u.target = b) || decide (u.target = 16))).foldl (fun (a : State) b =>
          (a.updUpd (fun d => { d with basins := Map.put d.basins (0, 1, 1) b (u.img.ident % 256, u.img.lo, u.img.hi) })).showLevels b) s1
      | 2 => s1.updUpd (fun d => { d with versions := Map.put d.versions [] u.target u.img.version })
      | _ => s1.updUpd (fun d => { d with versions := Map.put d.versions [] (64 + u.target) u.img.version })
    (s2.updateShow 5 0).updateEvent (if u.back then 4 else 1) u.kind u.target

/-- The levels of the jobs of the basins that satisfy `p`. -/
def State.jobLevels (s : State) (p : Nat → Bool) : List Nat :=
  ((List.range 16).filter (fun b => p b && decide (2 ≤ s.obj (0x2A10 + b) 3))).map (fun b => s.obj (0x2A10 + b) 4)

/-- Whether an image honours every level of a list. -/
def honours (i : UpdateImage) (l : List Nat) : Bool := l.all (fun v => decide (i.lo ≤ v) && decide (v ≤ i.hi))

/-! ### Lockkeepers (R287, R445) -/

/-- The active Lockkeeper's number and the standby's. -/
def State.activeNo (s : State) : Nat := s.obj 0x2001 2
def State.standbyNo (s : State) : Nat := 1 - s.obj 0x2001 2

/-- Keeper `i`. -/
def State.keeper (s : State) (i : Nat) : Keeper := (s.keepers[i]?).getD Keeper.init

/-- Changes keeper `i`. -/
def State.updKeeper (s : State) (i : Nat) (f : Keeper → Keeper) : State :=
  { s with keepers := (s.keepers.zipIdx).map (fun k => if k.2 = i then f k.1 else k.1) }

/-- Whether the standby mirrors. -/
def State.mirroring (s : State) : Bool := decide ((s.keeper s.standbyNo).state = 2)

/-- The standby's state object: 0 mirroring, 1 booting, 2 updating, 3 not in service. -/
def State.showStandby (s : State) : State :=
  s.setObj 0x2001 3 (match (s.keeper s.standbyNo).state with | 2 => 0 | 1 => 1 | 4 => 2 | _ => 3)

/-- The two Lockkeepers exchange their parts: the former active one gets state `former`. -/
def State.exchangeKeepers (s : State) (former : Nat) : State :=
  let a := s.activeNo
  let b := s.standbyNo
  let s1 := (s.updKeeper a (fun k => { k with state := former })).updKeeper b (fun k => { k with state := 3 })
  ((s1.setObj 0x2001 2 b).setBar 0x14 b).showStandby

/-! ### Activation (R444 to R448) -/

/-- The Lockkeeper's broadcast of a tile image to tile `t`, repaired until it is verified (R221 to R224); an INFO that finds
an activation staged is discarded; the objects show the image as verified (R227). -/
def State.sendTileImage (s : State) (t : Nat) (i : UpdateImage) : State :=
  if (s.tile t).fw.actStaged || (s.tile t).dark then s
  else (s.updFw t (fun f => { f with
    stagedHalf := (i.chunks.zipIdx).foldl (fun m c => Map.put m 0 c.2 c.1) [], ident := i.ident % 256, count := min i.chunks.length 512,
    crc := i.crc.toNat, have_ := (List.range (min i.chunks.length 512)).map (fun c => (c, true)), verified := true,
    zeroLen := i.chunks.isEmpty })).fwShow (i.ident % 256) (min i.chunks.length 512) 4

/-- The tiles of a tile update's target: a basin, or 16 for every tile. -/
def State.updateTiles (s : State) (target : Nat) : List Nat := if target = 16 then s.shapeTiles else s.basinTiles target

/-- A tile activation: at once for tiles in no running basin, and a batch for each running basin concerned; a rollback is
sent only to a half that no longer holds it verified (R446). (DEDUCED, log 93) -/
def State.activateTiles (s : State) (u : Update) : State :=
  let ts := s.updateTiles u.target
  let s1 := ts.foldl (fun a t =>
    if u.back && (a.tile t).fw.verified && decide ((a.tile t).fw.ident = u.img.ident % 256) then a else a.sendTileImage t u.img) s
  let runs (t : Nat) : Bool := match s.basinOf t with | some b => s.basinRuns b | none => false
  let s2 := (ts.filter (fun t => !runs t)).foldl (fun a t =>
    if (a.tile t).fw.verified && decide ((a.tile t).fw.ident = u.img.ident % 256) && decide ((a.tile t).fw.count ≠ 0) then
      a.fwExchange t else a) s1
  let bs := (List.range 16).filter (fun b => s.basinRuns b && (decide (u.target = b) || decide (u.target = 16)))
  let s3 := bs.foldl (fun a b =>
    let id := a.srv.nextId
    let a1 := a.stageBatch b []
    let a2 := (a1.basinTiles b).foldl (fun x t => x.fwActivate t (u.img.ident % 256) id) a1
    a2.updUpd (fun d => { d with run := d.run.map (fun r => { r with batches := r.batches ++ [id] }) })) s2
  if bs.isEmpty then s3.updateDone else s3.updateShow 4 0

/-- The state of the newest batch of an identifier; one that is no longer kept has applied. -/
def State.batchState (s : State) (id : Nat) : Nat :=
  match s.srv.batches.reverse.find? (fun k => decide (k.id = id)) with
  | some k => k.state
  | none => 1

/-- The update ends once every batch of its tile activation has applied; it fails when one is discarded (R446, R452). -/
def State.updateSettle (s : State) : State :=
  match s.upd.run with
  | none => s
  | some u =>
    if u.phase ≠ 4 then s
    else
      if u.batches.any (fun i => s.batchState i == 3) then s.updateFail 7
      else if u.batches.all (fun i => s.batchState i == 1) then s.updateDone
      else s

/-- Whether a port's descriptor window lies in a running basin (R447). -/
def State.portInUse (s : State) (p : Nat) : Bool :=
  let v := s.obj (portObj p) 0xF
  decide (v / 2 ^ 20 % 256 ≠ 0) &&
  (match s.basinOf (s.attachTile p (v / 65536 % 16)) with | some b => s.basinRuns b | none => false)

/-- An image begins to be activated; the conditions of its kind hold. -/
def State.updateBegin (s : State) (u : Update) : State :=
  let s1 := (s.updUpd (fun d => { d with run := some u })).updateShow 3 0
  match u.kind with
  | 0 => (s1.updKeeper s1.standbyNo (fun k => { k with state := 4 })).showStandby
  | 1 => s1.activateTiles u
  | 2 => (s1.updPort u.target (fun q => { q with drain := 1 })).updateShow 2 0
  | _ => { s1 with power := { s1.power with restart := s1.power.restart ++ [u.target] } }

/-- The reason for which a command with image `i` is refused, 0 for none. (DEDUCED, log 93) -/
def State.updateCheck (s : State) (kind target : Nat) (i : UpdateImage) : Nat :=
  match kind with
  | 0 =>
    if !(i.reads.contains (s.activeImg 0).mirror) then 4
    else if !(honours i (s.jobLevels (fun _ => true))) then 2
    else if !s.mirroring then 3 else 0
  | 1 =>
    if 16 < target then 3
    else if honours i (s.jobLevels (fun b => decide (target = b) || decide (target = 16))) then 0 else 2
  | 2 => if 63 < target ∨ s.portInUse target = true then 3 else 0
  | _ => if 7 < target then 3 else 0

/-- The phase in which an update of a kind begins. -/
def startPhase (kind : Nat) : Nat := match kind with | 0 => 1 | 1 => 4 | 2 => 5 | _ => 6

/-- Activate or roll back. -/
def State.updateCommand (s : State) (back : Bool) : State :=
  let cmd := if back then 2 else 1
  let kind := s.obj 0x2B00 2
  let target := s.obj 0x2B00 3
  match (if back then s.rollbackImg kind else s.stagedImg kind) with
  | none => s.updateRefuse cmd 1
  | some i =>
    if s.upd.run.isSome then s.updateRefuse cmd 3
    else match s.updateCheck kind target i with
      | 0 => (s.setObj 0x2B00 1 cmd).updateBegin ⟨kind, target, back, i, startPhase kind, []⟩
      | r => s.updateRefuse cmd r

/-- Cancel: a tile activation that waits is discarded and its tiles cleared (CANCEL of R222); a port that drains returns to
service.  An update that has gone further runs on. (DEDUCED, log 93) -/
def State.updateCancel (s : State) : State :=
  let s0 := s.setObj 0x2B00 1 3
  match s.upd.run with
  | none => s0
  | some u =>
    if u.phase = 4 then
      let s1 := (s0.updateTiles u.target).foldl (fun a t => a.updTile t (fun tl => { tl with
        fw := { tl.fw with stagedHalf := [], have_ := [], verified := false, actStaged := false, count := 0, zeroLen := false },
        tp := { tl.tp with batches := tl.tp.batches.filter (fun k => k.act.isNone) } })) s0
      let s2 : State := { s1 with srv := { s1.srv with
        batches := s1.srv.batches.map (fun k => if u.batches.contains k.id ∧ k.open_ = true then { k with state := 3 } else k) } }
      (s2.updUpd (fun d => { d with run := none })).updateShow 0 0
    else if u.phase = 5 then
      ((s0.updPort u.target (fun q => { q with drain := 0 })).updUpd (fun d => { d with run := none })).updateShow 0 0
    else s0.refuseWrite 0x2B00 1 3

/-- The updated standby, or the former active Lockkeeper, has rebooted (R445). -/
def State.standbyReboot (s : State) (ok : Bool) : State :=
  let i := s.standbyNo
  if (s.keeper i).state ≠ 4 ∧ (s.keeper i).state ≠ 1 then s
  else
    let s1 := (s.updKeeper i (fun k => { k with
      state := if ok || (s.upd.run.any (fun u => decide (u.kind = 0))) then 2 else 0, selfTest := ok,
      slot := if ok && decide (k.state = 4) then 1 - k.slot else k.slot })).showStandby
    match s.upd.run with
    | none => s1
    | some u =>
      if u.kind ≠ 0 then s1
      else if !ok then s1.updateFail 6
      else if u.phase = 1 then s1.updUpd (fun d => { d with run := some { u with phase := 2 } })
      else if u.phase = 3 then s1.updateDone
      else s1

/-- A planned handover: step 3 of an update, or command 4 alone. (DEDUCED, log 93) -/
def State.lkHandover (s : State) : State :=
  match s.upd.run with
  | some u =>
    if u.kind = 0 ∧ u.phase = 2 then
      (s.exchangeKeepers 4).updUpd (fun d => { d with run := some { u with phase := 3 } })
    else s.updateRefuse 4 3
  | none =>
    if s.mirroring then ((s.exchangeKeepers 1).setObj 0x2B00 1 4).updateShow 5 0
    else s.updateRefuse 4 3

/-! ### Link firmware (R447, R483) -/

/-- Whether a port has drained: nothing received remains, no barge is begun, the retry buffer is empty. -/
def State.portDrained (s : State) (p : Nat) : Bool :=
  let q := s.port p
  q.accepted.isEmpty && q.rx.all (fun e => match e.2 with | some b => b.waiting | none => true) &&
  q.tx.all (fun b => !b.headSent) && q.buf.isEmpty && q.ctrlOut.isEmpty

/-- The drain has ended: the controller restarts. -/
def State.portDrainEnd (s : State) (p : Nat) : State :=
  match s.upd.run with
  | some u =>
    if u.phase = 5 ∧ u.target = p ∧ s.portDrained p = true then
      let s1 : State := { s with link := { s.link with fwRestart := Map.put s.link.fwRestart false p true } }
      let s2 := (s1.setObj (portObj p) 1 4).updPort p (fun q => { q with retry := 2 })
      (s2.updUpd (fun d => { d with run := some { u with phase := 6 } })).updateShow 3 0
    else s
  | none => s

/-- The drain limit expires: the port returns to service and the update fails. -/
def State.portDrainLimit (s : State) (p : Nat) : State :=
  match s.upd.run with
  | some u => if u.phase = 5 ∧ u.target = p then (s.updPort p (fun q => { q with drain := 0 })).updateFail 5 else s
  | none => s

/-- The link controller has restarted: a retrain with a new link-up follows. (DEDUCED, log 93) -/
def State.linkRestarted (s : State) (p : Nat) (ok : Bool) : State :=
  if !(Map.get s.link.fwRestart false p) then s
  else
    let s1 : State := { s with link := { s.link with fwRestart := Map.put s.link.fwRestart false p false } }
    let s2 := ((s1.setObj (portObj p) 1 3).startRetrain p).updPort p (fun q => { q with drain := 0, newLink := true })
    if ok then s2.updateDone else s2.updateFail 6

/-- A field power controller has restarted (R448). -/
def State.powerCtrlRestarted (s : State) (f : Nat) : State :=
  if s.power.restart.contains f then
    ({ s with power := { s.power with restart := s.power.restart.filter (fun x => decide (x ≠ f)) } } : State).updateDone
  else s

end Sys2Proof.Machine
end

