-- ==== Sys2Proof/Machine/Basins.lean ====
section
/-! DEFINITION. Commands of basins and firmware updates (R437 to R455). -/

namespace Sys2Proof.Machine

/-- BASIN_DEFINE: the rectangle of (0x2A10 + b).01 (R437, R438). -/
def execBasinDefine (b : BasinId) (s : State) : Host.Outcome State Fault Refusal := .next (s.basinDefine b)

/-- BASIN_REMOVE (R438). -/
def execBasinRemove (b : BasinId) (s : State) : Host.Outcome State Fault Refusal := .next (s.basinRemove b)

/-- UPDATE_ACTIVATE: of the kind and target that 0x2B00.02 and .03 give (R444 to R448). -/
def execUpdateActivate (s : State) : Host.Outcome State Fault Refusal := .next (s.updateCommand false)

/-- UPDATE_ROLLBACK (R444). -/
def execUpdateRollback (s : State) : Host.Outcome State Fault Refusal := .next (s.updateCommand true)

/-- UPDATE_CANCEL (R444). -/
def execUpdateCancel (s : State) : Host.Outcome State Fault Refusal := .next s.updateCancel

/-- LK_HANDOVER (R445). -/
def execLkHandover (s : State) : Host.Outcome State Fault Refusal := .next s.lkHandover

/-- STANDBY_REBOOT_END: `ok` tells whether the self-test passed (R445). -/
def execStandbyRebootEnd (ok : Bool) (s : State) : Host.Outcome State Fault Refusal := .next (s.standbyReboot ok)

/-- PORT_DRAIN_END (R447). -/
def execPortDrainEnd (p : PortId) (s : State) : Host.Outcome State Fault Refusal := .next (s.portDrainEnd p)

/-- PORT_DRAIN_LIMIT (R447). -/
def execPortDrainLimit (p : PortId) (s : State) : Host.Outcome State Fault Refusal := .next (s.portDrainLimit p)

/-- LINK_CONTROLLER_RESTART_END (R447). -/
def execLinkControllerRestartEnd (p : PortId) (ok : Bool) (s : State) : Host.Outcome State Fault Refusal :=
  .next (s.linkRestarted p ok)

/-- POWER_CTRL_RESTART_END (R448). -/
def execPowerCtrlRestartEnd (f : FieldId) (s : State) : Host.Outcome State Fault Refusal :=
  .next (s.powerCtrlRestarted f)

end Sys2Proof.Machine
end

