-- ==== Sys2Proof/Machine/ControlOps.lean ====
section
/-! DEFINITION. Power control: estimates, skim demands, rail limits, cap sharing, voltage steps and temperature (R332,
R338 to R357). -/

namespace Sys2Proof.Machine

/-! ### Estimates (R338 to R340) -/

/-- Activity counters with their energy per event in 10 fJ: those on VT, then reads and writes on VPM (R338). -/
def vtEvents : List (Nat × Nat) :=
  [(0x7110, 30), (0x7114, 34), (0x7118, 26), (0x711c, 12000), (0x7120, 26000), (0x7124, 2200), (0x7128, 480), (0x712c, 3800)]
def vmEvents : List (Nat × Nat) := [(0x7130, 750), (0x7140, 900)]

/-- 2^(1/250) in units of 2^-40: the growth of leakage over 0.1 °C (R339). (DESIGN CHOICE, log 76) -/
def leakStep : Nat := 1102564351333

/-- 2^((Tj − 65 °C) ÷ 25 °C) in units of 2^-40 for a temperature in 0.1 °C (R339). (DESIGN CHOICE, log 76) -/
def leakFactor (tj : Int) : Nat :=
  let d := (tj - 650 + 250000).toNat
  let part := (List.range (d % 250)).foldl (fun a _ => a * leakStep / 2 ^ 40) (2 ^ 40)
  if 1000 ≤ d / 250 then part * 2 ^ (d / 250 - 1000) else part / 2 ^ (1000 - d / 250)

/-- A tile's temperature in 0.1 °C. -/
def State.tj (s : State) (h : Nat) : Int := signed 32 (s.regN h 0x7108)

/-- P_LT of a physical tile in nW; a dark one has none (R339). -/
def State.leakTile (s : State) (p : Nat) : Nat :=
  let h := s.holder p
  if s.regRoleOf p = 3 then 0
  else
    let v := s.regN h 0x7008
    (Config.leakCoef p).toNat % 2001 * 1000000 * v * v * v / 750 ^ 3 * leakFactor (s.tj h) / 2 ^ 40

/-- The awake share of a bank's leakage in per cent (R171, R339). (DEDUCED, log 77) -/
def sleepShare (st : Nat) : Nat := if st = 3 then 12 else if st = 4 then 1 else 100

/-- P_LB of a physical tile in nW (R339). -/
def State.leakBanks (s : State) (p vpm : Nat) : Nat :=
  let h := s.holder p
  let awake := match s.logicalOf p with
    | some t => (List.range 16).foldl (fun a b => a + sleepShare (s.bank t b).sleep) 0
    | none => 1600
  143750 * awake * vpm * vpm * vpm / 750 ^ 3 * leakFactor (s.tj h) / 2 ^ 40

/-- The difference of a counter since the last sample (R338). -/
def State.counted (s : State) (h off : Nat) : Nat :=
  (s.regN h off + 2 ^ 32 - Map.get s.power.last 0 (65536 * h + off)) % 2 ^ 32

/-- Energy of events of a tile since the last sample, in 10 fJ. -/
def State.energyOf (s : State) (h : Nat) (l : List (Nat × Nat)) : Nat :=
  l.foldl (fun a e => a + s.counted h e.1 * e.2) 0

/-- What a sample finds in a pound, in nW referred to VPN before the gain: tile dynamic, projected to k = 0; bank
accesses, likewise; both as they are; tile leakage; bank leakage; the part of the bank accesses that fill-in agents
made (R340, R346). -/
structure PoundPower where
  dyn : Nat
  dyn0 : Nat
  acc : Nat
  acc0 : Nat
  leak : Nat
  bank : Nat
  fill : Nat
  deriving DecidableEq, Repr

def PoundPower.zero : PoundPower := ⟨0, 0, 0, 0, 0, 0, 0⟩

/-- The sample of one physical tile; `share` is the share in 1/2³² of its bank accesses that fill-in agents made, which
no counter tells apart (R346). (DESIGN CHOICE, log 76) -/
def State.tilePower (s : State) (vpn vpm share p : Nat) : PoundPower :=
  let h := s.holder p
  let k := s.regN h 0x7100 % 16
  let vt := s.regN h 0x7008
  let up (x : Nat) : Nat := x * 16 / (16 - min k 12)
  let dyn := s.energyOf h vtEvents * 5 * vt * vt / 562500 * 10 / 9
  let acc := s.energyOf h vmEvents * 5 * vpm * vpm / 562500 * vpn / max 1 vpm
  let fill := acc * share / 2 ^ 32
  ⟨dyn, up dyn, acc - fill, up (acc - fill), s.leakTile p * 10 / 9, s.leakBanks p vpm * vpn / max 1 vpm, fill⟩

/-- Sums two samples. -/
def PoundPower.add (a b : PoundPower) : PoundPower :=
  ⟨a.dyn + b.dyn, a.dyn0 + b.dyn0, a.acc + b.acc, a.acc0 + b.acc0, a.leak + b.leak, a.bank + b.bank, a.fill + b.fill⟩

/-- A sample times the pound's gain. -/
def PoundPower.gain (a : PoundPower) (g : Nat) : PoundPower :=
  let f (x : Nat) : Nat := x * g / 1000000000
  ⟨f a.dyn, f a.dyn0, f a.acc, f a.acc0, f a.leak, f a.bank, f a.fill⟩

/-- Everything a sample is made of. -/
def PoundPower.total (a : PoundPower) : Nat := a.dyn + a.acc + a.leak + a.bank + a.fill

/-- The estimate of pound `n`, zero without power; the state keeps it. (DESIGN CHOICE, log 76) -/
def State.samplePound (s : State) (n share : Nat) : PoundPower × State :=
  if s.poundState n ≠ 3 then (PoundPower.zero, s)
  else
    let a := ((poundPhys n).foldl (fun a p => a.add (s.tilePower (s.vpn n) (s.vpm n) share p)) PoundPower.zero).gain (s.pound n).gain
    (a, s.updPound n (fun p => { p with est := a.total, estSum := p.estSum + a.total, estN := p.estN + 1 }))

/-- The newest capture of the other rails and the input, in mA, mV and mA. -/
def State.rail (s : State) (i : Nat) : Nat := ((s.power.rails.headD []).getD i 0)

/-- Class 1 and class 2 power in mW: VLNK; VMG and 12 mW for each tile router and berth hub (R340, R346). -/
def State.linkPower (s : State) : Nat := (s.rail 0 * 750 + s.rail 1 * 1200) / 1000
def State.keeperPower (s : State) : Nat := s.rail 2 * 800 / 1000 + 12 * (48 * s.shapeRows + 3 * s.shapeRows)

/-! ### The budget and k_cap (R345, R346) -/

/-- The chip budget in mW that set-points or the fallback give (R289, R345). (DESIGN CHOICE, log 78) -/
def State.setBudget (s : State) : Nat × Nat :=
  if s.srv.al = 8 ∧ s.srv.present = true then (0, f32Round (s.obj 0x7000 1) 1000) else (1, f32Round (s.obj 0x2200 2) 1000)

/-- The chip budget in force in mW, with the source that sets it. (DESIGN CHOICE, log 78) -/
def State.budget (s : State) : Nat × Nat :=
  [(2, f32Round (s.obj 0x2200 1) 1000), (3, f32Round (s.obj 0x2100 2) 1000), (4, f32Round (s.obj 0x2280 7) 1000)].foldl
    (fun a x => if x.2 < a.2 then x else a) s.setBudget

/-- The smallest level that meets the allowance, 13 when none does. -/
def capFor (d0 f : Int) : Nat :=
  ((List.range 13).find? (fun (k : Nat) => decide (0 ≤ f ∧ d0 * ((16 : Int) - (k : Int)) ≤ f * 16))).getD 13

/-- k_cap after a sample of `d0` scaled and `fixed` unscaled milliwatts under the allowance `a` (R346). -/
def State.newCap (s : State) (d0 fixed a : Nat) : State :=
  let k := capFor d0 ((a : Int) - fixed)
  let old := s.obj 0x2200 5
  let p : Power := { s.power with since := s.power.since + 1, unmet := decide (k = 13), fixed := fixed, scaled := d0 }
  let s1 : State := { s with power := p }
  let least := fixed + d0 * 4 / 16
  let s2 := if k = 13 ∧ s.power.unmet = false then (s1.agentIrq 0x169 (least / 1000)).bumpObj 0x2200 8 1 else s1
  let k' := min k 12
  if old < k' then s2.setObj 0x2200 5 k'
  else if k' < old ∧ 32 ≤ s.power.since + 1 ∧ (fixed + d0 * (16 - (old - 1)) / 16) * 100 ≤ 98 * a then
    let s3 := s2.setObj 0x2200 5 (old - 1)
    { s3 with power := { s3.power with since := 0 } }
  else s2

/-- A 2 µs sample: estimates of the pounds, the budget in force, the allowance and k_cap (R340, R345, R346). -/
def State.estimateSample (s : State) : State :=
  let (v, s0) := s.fresh
  let (parts, s1) := (List.range 40).foldl (fun (a : PoundPower × State) n =>
    let (x, t) := a.2.samplePound n (v.toNat % 2 ^ 32)
    (a.1.add x, t)) (PoundPower.zero, s0)
  let last := (List.range 2600).foldl (fun m p =>
    (vtEvents ++ vmEvents).foldl (fun m e =>
      Map.put m 0 (65536 * s1.holder p + e.1) (s1.regN (s1.holder p) e.1)) m) s1.power.last
  let (src, b) := s1.budget
  let a := dieShare b
  let classes := [s1.linkPower, s1.keeperPower, (parts.bank + parts.fill + parts.acc) / 1000000, (parts.dyn + parts.leak) / 1000000]
  let s2 : State := { s1 with power := { s1.power with
    last := last, classes := List.zipWith (· + ·) s1.power.classes classes, classN := s1.power.classN + 1 } }
  let s3 := (s2.setObj 0x2200 3 (f32Of a 1000)).setObj 0x2200 4 src
  s3.newCap ((parts.dyn0 + parts.acc0) / 1000000)
    (s3.linkPower + s3.keeperPower + (parts.bank + parts.fill + parts.leak) / 1000000) a

/-! ### The 1 ms updates (R340, R348) -/

/-- The gain of pound `n` is updated from the mean measured and estimated power of the millisecond, in nW. -/
def State.gainUpdate (s : State) (n : Nat) : State :=
  let p := s.pound n
  let clear (a : State) : State := a.updPound n (fun p => { p with sumI := 0, sumN := 0, estSum := 0, estN := 0 })
  if p.sumN = 0 ∨ p.estN = 0 ∨ p.estSum = 0 then clear s
  else
    let m := s.vpn n * p.sumI * 1000 / p.sumN
    let e := p.estSum / p.estN
    let goal := m * 1000000000 / max 1 e
    let g := (7 * p.gain + goal) / 8
    let g' := min 1150000000 (max 850000000 g)
    let atEnd := decide (g' = 850000000) || decide (g' = 1150000000)
    let s1 := (s.updPound n (fun p => { p with gain := g' })).setObj (0x2220 + n) 5 (f32Of g' 1000000000)
    clear (if atEnd && decide (g' ≠ p.gain) then s1.agentIrq 0x170 n else s1)

/-- Measured and estimated pound power of the millisecond in nW. -/
def State.msPower (s : State) : Nat × Nat :=
  (List.range 40).foldl (fun a n =>
    let p := s.pound n
    (a.1 + s.vpn n * p.sumI * 1000 / max 1 p.sumN, a.2 + p.estSum / max 1 p.estN)) (0, 0)

/-- ESTIMATOR_GAIN_UPDATE: gains, estimate error, class powers and the budget floor. -/
def State.msUpdate (s : State) : State :=
  let other := s.linkPower + s.keeperPower
  let (m, e) := s.msPower
  let (m', e') := (m / 1000000 + other, e / 1000000 + other)
  let s1 := s.setObj 0x2200 7 (f32Of ((((e' : Int) - m') * 100)) (max 1 m'))
  let c := s1.power.classes
  let s2 := (List.range 4).foldl (fun a i =>
    if a.power.classN = 0 then a else a.setObj 0x2201 (i + 1) (f32Of (c.getD i 0) (1000 * a.power.classN))) s1
  let s3 := s2.setObj 0x2200 6 (f32Of (inputFor (s2.power.fixed + s2.power.scaled * 4 / 16)) 1000)
  let s4 := (List.range 40).foldl (fun a n => a.gainUpdate n) s3
  { s4 with power := { s4.power with classes := [0, 0, 0, 0], classN := 0 } }

/-! ### Rail limits (R343, R344) -/

/-- The limits of pound `n` in mA. -/
def State.vpnLimit (s : State) (n : Nat) : Nat := f32Round (s.obj (0x2220 + n) 1) 1000
def State.vpmLimit (s : State) (n : Nat) : Nat := f32Round (s.obj (0x2220 + n) 2) 1000

/-- A capture of a pound's VPN and VPM currents in mA sets its k_lim. -/
def State.railCapture (s : State) (n ivpn ivpm : Nat) : State :=
  let a := s.vpnLimit n
  let b := s.vpmLimit n
  let k := s.obj (0x2220 + n) 3
  let far := decide (ivpn * 100 > 110 * a) || decide (ivpn > 1000 * s.rating n)
  let farM := decide (ivpm * 100 > 110 * b)
  let above := decide (ivpn > a) || decide (ivpm > b)
  let low := decide (ivpn * 100 < 90 * a) && decide (ivpm * 100 < 90 * b)
  let c := if low then (s.pound n).low + 1 else 0
  let s1 := s.updPound n (fun p => { p with low := c })
  let s2 := if above || far || farM then s1.bumpObj (0x2220 + n) 4 1 else s1
  let s3 := if far then s2.agentIrq 0x16A n else s2
  let s4 := if farM then s3.agentIrq 0x16A (n + 256) else s3
  let k' := if far || farM then 12 else if above then min 12 (k + 2)
    else if low && decide (c % 8 = 0) then k - 1 else k
  s4.setObj (0x2220 + n) 3 k'

/-- Limits of VLNK and VMG: an excess is only reported (R344). -/
def State.otherRails (s : State) : State :=
  (List.range 3).foldl (fun a i =>
    if f32Round (a.obj 0x2250 (i + 1)) 1000 < a.rail i then a.agentIrq 0x16A (0xF0 + i) else a) s

/-! ### Temperature (R354 to R356) -/

/-- The in-field neighbours of a physical tile. -/
def fieldNear (p : Nat) : List Nat :=
  rowPartners p |>.map (·.1) |>.append
    ((if pr p % 25 < 24 then [p + 52] else []) ++ (if 0 < pr p % 25 then [p - 52] else []))

/-- Whether a sensor has failed. -/
def State.sensorFailed (s : State) (p : Nat) : Bool := bitOf (s.regN (s.holder p) 0x710c) 0

/-- Whether a reading departs from the mean of the neighbours by more than 15 °C. -/
def State.oddReading (s : State) (p : Nat) (tj : Int) : Bool :=
  let l := fieldNear p
  let sum := l.foldl (fun a q => a + s.tj (s.holder q)) 0
  decide (150 * (l.length : Int) < (tj * l.length - sum).natAbs)

/-- A reading of a sensor that works: stored, and judged (R354). -/
def State.sensorStep (s : State) (p : Nat) (tj : Int) : State :=
  let h := s.holder p
  if s.sensorFailed p then s
  else
    let n := if s.oddReading p tj then Map.get s.power.odd 0 p + 1 else 0
    let s1 : State := { s with power := { s.power with odd := Map.put s.power.odd 0 p n } }
    if tj < -400 ∨ 1500 < tj ∨ 16 ≤ n then
      (((s1.setRegBit h 0x710c 0 true).addLedger 8 (some p) 0 0 true).agentIrq 0x16E (pName p)).bumpObj 0x2280 4 1 2600
    else s1

/-- A failed sensor is replaced by the highest reading among its neighbours (R354). -/
def State.substitute (s : State) (p : Nat) : State :=
  let h := s.holder p
  if s.sensorFailed p then
    let top := (fieldNear p).foldl (fun (a : Int) q => max a (s.tj (s.holder q))) (-400)
    (s.setRegBit h 0x710c 1 true).setRegN h 0x7108 (top % 2 ^ 32).toNat
  else s

/-- The throttle threshold in 0.1 °C. -/
def State.tThr (s : State) : Int := 10 * s.obj 0x2280 1

/-- k_th of a tile after a sample (R355): key `p` of `cool` counts captures below the release point. -/
def State.tileThermal (s : State) (p : Nat) : State :=
  let h := s.holder p
  let t := s.tj h
  let thr := s.tThr
  let v := s.regN h 0x7100
  let old := bitsOf v 15 12
  let cool := if t < thr - 20 then Map.get s.power.cool 0 p + 1 else 0
  let k := if thr ≤ t then min 12 (2 + 2 * ((t - thr) / 10).toNat)
    else if t < thr - 20 ∧ cool % 8 = 0 then old - 2 else old
  let hot (x : Int) (i : Nat) (m : Map Nat) : Map Nat := Map.put m 0 (2 * p + i) (if x ≤ t then Map.get m 0 (2 * p + i) + 1 else 0)
  let s1 : State := { s with power := { s.power with cool := Map.put s.power.cool 0 p cool, hot := hot 1100 1 (hot 1050 0 s.power.hot) } }
  s1.setRegN h 0x7100 (v - old * 4096 + k * 4096)

/-- Tiles of pound `n` that throttle. (DEDUCED, log 81) -/
def State.throttling (s : State) (n : Nat) : List Nat :=
  (poundPhys n).filter (fun p => decide (0 < bitsOf (s.regN (s.holder p) 0x7100) 15 12))

/-- What the readings of a pound's tiles mean for the pound, and for the die (R355, R356). -/
def State.poundThermal (s : State) (n before : Nat) : State :=
  let ps := poundPhys n
  let t (p : Nat) : Int := s.tj (s.holder p)
  let hotAt (i p : Nat) : Bool := decide (2 ≤ Map.get s.power.hot 0 (2 * p + i))
  let now := (s.throttling n).length
  let p := s.pound n
  let near := ps.any (fun q => decide (s.tThr - 20 ≤ t q))
  let warm := (p.warm && near) || decide (4 ≤ now) || ps.any (fun q => decide (s.tThr + 50 ≤ t q))
  let critNow := ps.any (hotAt 0)
  let crit := critNow || (p.crit && ps.any (fun q => decide (1000 ≤ t q)))
  let say := ps.any (fun q => decide (s.tThr ≤ t q)) && !p.throttled
  let s1 := s.updPound n (fun p => { p with warm := warm, crit := crit, throttled := p.throttled || say })
  let s2 := if say then s1.agentIrq 0x16B n else s1
  let s3 := if critNow && !p.crit then s2.agentAlarm 0x16C n 16 else s2
  let s4 := (s3.setObj 0x2280 2 (s3.obj 0x2280 2 + now - before)).setObj 0x2280 3
    (s3.obj 0x2280 3 + b2n (decide (0 < now)) - b2n (decide (0 < before)))
  match ps.find? (hotAt 1) with
  | some q => if s4.power.allHeld then s4 else s4.thermalShutdown q
  | none => s4

/-! ### Captures (R332) -/

/-- Stores what a capture measures at a physical tile: its temperature in 0.1 °C, VT in mV, current in mA. -/
def State.tileCapture (s : State) (p : Nat) (m : Int × Nat × Nat) : State :=
  let h := s.holder p
  let s1 := (s.setRegN h 0x7008 (min m.2.1 1000)).setRegN h 0x700c (min m.2.2 8000)
  if s.sensorFailed p then s1 else s1.setRegN h 0x7108 (m.1 % 2 ^ 32).toNat

/-- A capture while the field's power controller restarts: only the Lockkeeper's check of the sensors acts (R448,
R452). (DEDUCED, log 87) -/
def State.bareCapture (s : State) (n : Nat) (l : List (Nat × Int × Nat × Nat)) : State :=
  let hot (x : Int) (i : Nat) (m : Map Nat) (e : Nat × Int × Nat × Nat) : Map Nat :=
    Map.put m 0 (2 * e.1 + i) (if x ≤ e.2.1 then Map.get m 0 (2 * e.1 + i) + 1 else 0)
  let s1 : State := { s with power := { s.power with hot := l.foldl (fun m e => hot 1100 1 (hot 1050 0 m e) e) s.power.hot } }
  let at_ (i : Nat) (e : Nat × Int × Nat × Nat) : Bool := decide (2 ≤ Map.get s1.power.hot 0 (2 * e.1 + i))
  let crit := l.any (at_ 0)
  let s2 := if crit && !(s1.pound n).crit then (s1.updPound n (fun p => { p with crit := true })).agentAlarm 0x16C n 16 else s1
  match l.find? (at_ 1) with
  | some e => if s2.power.allHeld then s2 else s2.thermalShutdown e.1
  | none => s2

/-- CAPTURE_8US of pound `n`: currents in mA, the other rails and the input where they are measured with it, and its
tiles in the order of `poundPhys`. (DEDUCED, log 81) -/
def State.capture (s : State) (n ivpn ivpm : Nat) (sys : Option (List Nat)) (tiles : List (Int × Nat × Nat)) : State :=
  if s.power.restart.contains (n / 5) then s.bareCapture n ((poundPhys n).zip tiles) else
  let before := (s.throttling n).length
  let s1 := s.updPound n (fun p => { p with
    caps := ((ivpn, ivpm) :: p.caps).take 125, sumI := p.sumI + ivpn, sumN := p.sumN + 1 })
  let s2 := s1.railCapture n ivpn ivpm
  let s3 : State := match sys with
    | some l => ({ s2 with power := { s2.power with rails := (l :: s2.power.rails).take 125 } } : State).otherRails
    | none => s2
  let l := (poundPhys n).zip tiles
  let s4 := l.foldl (fun a x => a.tileCapture x.1 x.2) s3
  let s5 := l.foldl (fun a x => a.sensorStep x.1 x.2.1) s4
  let s6 := l.foldl (fun a x => a.substitute x.1) s5
  (l.foldl (fun a x => a.tileThermal x.1) s6).poundThermal n before

/-! ### Voltage (R334, R351 to R353) -/

/-- The bin nearest the target pace rate: 1.15 Gbeat/s and 0.05 more for each (R352). -/
def State.binFor (s : State) : Nat := min 15 ((f32Round (s.obj 0x2210 1) 1000 - 1125) / 50)

/-- A new target pace rate takes effect, at bring-up or in a lock held for a remap (R352). -/
def State.takeBin (s : State) : State := s.setObj 0x2210 2 s.binFor

/-- The VT that table, trim and offset give a physical tile, in mV (R351). -/
def State.vtTarget (s : State) (p : Nat) : Nat :=
  let n := pPound p
  let bin := s.obj 0x2210 2
  let v : Int := ((Config.vtEntry n bin).toNat : Int) + signed 32 (s.obj (0x22A0 + n) (bin + 1)) + signed 32 (s.regN (s.holder p) 0x713c)
  (min 850 (max 600 v)).toNat

/-- Whether a voltage step may run: in bring-up, on a pound with no tile in a running basin, or while the lock of every
running basin with a tile in it is held on request (R353), and no targeted test runs in the pound (R412). -/
def State.mayStep (s : State) (n : Nat) : Bool :=
  (decide (s.obj 0x2000 7 < 2) || (s.poundBasins n).all (fun b => !s.basinRuns b || s.heldByRequest b)) &&
  (List.range 16).all (fun b => (s.basin b).tests.all (fun x => decide (s.poundOf x.1 ≠ n)))

/-- A voltage step: the pound's pulses are held, and every tile moves by at most 10 mV (R353). -/
def State.voltageStep (s : State) (n : Nat) : State :=
  if s.mayStep n && decide (s.poundState n = 3) && !s.power.restart.contains (n / 5) then
    let s1 := s.updPound n (fun p => { p with hold := true })
    let s2 := (poundPhys n).foldl (fun a p =>
      let h := a.holder p
      let v := a.regN h 0x7004
      let g := a.vtTarget p
      if a.regN h 0x7014 ≠ 0 then a
      else a.setRegN h 0x7004 (if v < g then min g (v + 10) else max g (v - 10))) s1
    s2.setRails n
  else s

/-- A field power controller's write of VT_SET, put into its range (R334). -/
def State.vtSet (s : State) (t mv : Nat) : State :=
  if s.power.restart.contains (s.poundOf t / 5) then s else
  let v := clampN 600 850 mv
  let s1 := (s.setRegN t 0x7004 v)
  let n := s1.poundOf t
  if s1.poundState n = 3 then s1.setRails n else s1

end Sys2Proof.Machine
end

