-- ==== Sys2Proof/Machine/BootOps.lean ====
section
/-! DEFINITION. Bring-up, the defect ledger's service commands and power cycles (R285, R313, R330, R331, R362 to R380). -/

namespace Sys2Proof.Machine

/-! ### The ledger at bring-up (R365, R366, R369, R384) -/

/-- The phase in which the unit of an entry is tested. -/
def testPhase (e : LedgerEntry) : Nat :=
  match e.kind with
  | 1 => if e.item ≤ 2 then 2 else if e.item ≤ 4 then 3 else 5
  | 2 => 3
  | 3 => 5
  | 0xB => 4
  | 0xC => 4
  | 0xE => 5
  | _ => 2

/-- What the tests of a phase write of BIST_STATUS (R385). -/
def bistMask (phase : Nat) : Nat :=
  match phase with
  | 2 => 2 ^ 19 + 2 ^ 20
  | 3 => 2 ^ 16 - 1
  | 5 => 2 ^ 16 + 2 ^ 17 + 2 ^ 18
  | _ => 0

/-- A defect that a test finds shows in the tile's test registers (R385); `free` names the bank of a fault of bank logic, which
the ledger does not (R368). (DEDUCED, log 95) -/
def State.bistFound (s : State) (free : Nat) (f : Nat × Option Nat × Nat × Nat) : State :=
  match f.2.1 with
  | none => s
  | some p =>
    let h := s.holder p
    let bit : Nat := if f.1 ≠ 1 then 0 else
      match f.2.2.1 with
      | 1 => 2 ^ 20
      | 2 => 2 ^ 19
      | 3 => 2 ^ (free % 16)
      | 5 => 2 ^ 17
      | 6 => 2 ^ 18
      | 7 => 2 ^ 16
      | _ => 0
    let s1 := s.setRegN h 0x6c10 (s.regN h 0x6c10 ||| bit)
    if f.1 = 2 then s1.setRegN h 0x6c14 (min (s1.regN h 0x6c14 + 1) 41472)
    else if f.1 = 3 then s1.setRegN h 0x6c18 (min (s1.regN h 0x6c18 + 1) 68)
    else s1

/-- The test registers of every physical tile after the tests of a phase (R365, R385). -/
def State.bistNote (s : State) (phase : Nat) (found : List (Nat × Option Nat × Nat × Nat)) : State :=
  let (v, s0) := s.fresh
  let s1 := (List.range 2600).foldl (fun a p =>
    let h := a.holder p
    let a1 := a.setRegN h 0x6c10 (a.regN h 0x6c10 &&& (2 ^ 21 - 1 - bistMask phase))
    if phase = 3 then a1.setRegN h 0x6c14 0 else if phase = 5 then a1.setRegN h 0x6c18 0 else a1) s0
  found.foldl (fun a f => a.bistFound v.toNat f) s1

/-- Defects that a phase finds are added, and removals of entries whose units it tests are settled: an entry whose unit
passes is removed, one whose unit fails again stays. (DEDUCED, log 95) -/
def State.phaseLedger (s : State) (phase : Nat) (found : List (Nat × Option Nat × Nat × Nat)) : State :=
  let again (e : LedgerEntry) : Bool := found.contains (e.kind, e.tile, e.item, e.sub)
  let kept := s.boot.ledger.filterMap (fun e =>
    if e.removal ∧ testPhase e = phase then (if again e then some { e with removal := false } else none) else some e)
  let s1 : State := { s with boot := { s.boot with ledger := kept } }
  found.foldl (fun a f => a.addLedger f.1 f.2.1 f.2.2.1 f.2.2.2 false) ((s1.bistNote phase found).setObj 0x2E02 1 kept.length)

/-- Entries of a kind. -/
def State.entries (s : State) (k : Nat) : List LedgerEntry := s.boot.ledger.filter (fun e => decide (e.kind = k))

/-- The device halts without a shape (R364, R366). -/
def State.noShape (s : State) (detail : Nat) : State :=
  (((s.setObj 0x2000 7 4).setObj 0x2E00 1 0).setObj 0x2330 3 3).agentAlarm 0x187 detail 16

/-! ### Phase 1 (R285, R362) -/

/-- Keeper `i` becomes active. -/
def State.makeActive (s : State) (i : Nat) : State :=
  ((s.updKeeper i (fun k => { k with state := 3, selfTest := true })).setObj 0x2001 2 i).setBar 0x14 i

/-- The Lockkeepers' boot ends: the preferred one is active if it passed its self-test in time, else the other.
(DEDUCED, log 115) -/
def State.chooseKeeper (s : State) (okA okB : Bool) : State :=
  let ok (i : Nat) : Bool := if i = 0 then okA else okB
  let pref := s.obj 0x2001 1
  let act : Option Nat := match s.activeLk with
    | some i => some i
    | none => if ok pref then some pref else if ok (1 - pref) then some (1 - pref) else none
  match act with
  | none => [0, 1].foldl (fun (a : State) i => a.updKeeper i (fun k => { k with state := 0 })) s
  | some i =>
    let s1 := (s.makeActive i).updKeeper (1 - i) (fun k => { k with
      state := if ok (1 - i) && decide (k.state ≠ 0) then 2 else 0, selfTest := ok (1 - i) })
    let s2 := s1.showStandby
    if s2.mirroring then s2 else s2.agentIrq 0x182 0

/-- Phase 1 ends: Lockkeepers, ledger, VLNK, and the first pound wave. -/
def State.phaseOneEnd (s : State) (r : PhaseResult) : State :=
  let s1 := s.chooseKeeper r.lkA r.lkB
  if s1.activeLk.isNone then
    let s2 : State := { s1 with srv := { s1.srv with al := 1, alStatus := 1 } }
    (s2.setObj 0x2000 7 0).setObj 0x2E00 1 0
  else if !r.ledgerOk then s1.noShape 2
  else
    let s2 : State := { s1 with power := { s1.power with vlnk := true } }
    let wave (a : State) (n : Nat) : State :=
      if 4 ≤ a.poundState n then a
      else a.setPound n (if (n % 5 + n / 5 % 4 + n / 20) % 2 = 0 then 2 else 1)
    (((List.range 40).foldl wave s2).takeBin).setObj 0x2E00 1 2

/-! ### Phase 2 (R318, R330, R351, R379) -/

/-- The wires and lanes that the ledger excludes at the seams; a lane with more than eight failed wires is retired (R379). -/
def State.loadSeams (s : State) : State :=
  let s1 : State := { s with seams := [] }
  let s2 := (s1.entries 5).foldl (fun a e => a.updSeam e.item (fun v => { v with wires := v.wires ++ [e.sub] })) s1
  let worn := (s2.seams.filter (fun e => decide (8 < e.2.wires.length))).map (·.1)
  let s3 := worn.foldl (fun a n => a.addLedger 6 none n 0 false) s2
  (s3.entries 6).foldl (fun a e => a.updSeam e.item (fun v => { v with state := 2 })) s3

/-- Regulators stand alone again, sensors read, and every tile has the voltage of its pound's table. -/
def State.fabricStart (s : State) (offsets : List (PhysId × Int)) : State :=
  let keep (e : Nat × Word64) : Bool := keptDark (e.1 % 65536) && !([0x7000, 0x7010, 0x7014, 0x1038, 0x6c08].contains (e.1 % 65536))
  let s1 : State := { s with
    tiles := [], tregs := s.tregs.filter keep,
    power := { s.power with allHeld := false, hot := [], cool := [], odd := [] } }
  let s2 := offsets.foldl (fun a o => a.setRegN (a.holder o.1) 0x713c (clampInt (2 ^ 32 - 20) 20 (o.2 % 2 ^ 32).toNat)) s1
  let s3 := (List.range 2600).foldl (fun a p => a.setRegN (a.holder p) 0x7004 (a.vtTarget p)) s2
  (List.range 40).foldl (fun a n =>
    if 4 ≤ a.poundState n then a
    else ((a.setPound n 3).setRails n).updPound n (fun p => { Pound.init with out := p.out })) ((s3.setObj 0x2103 1 0).setObj 0x2103 2 0)

/-- One defect of the power system that phase 2 finds is acted on. -/
def State.fabricDefect (s : State) (f : Nat × Option Nat × Nat × Nat) : State :=
  match f.1, f.2.1 with
  | 8, some p => s.setRegBit (s.holder p) 0x710c 0 true
  | 9, _ => s.phaseLost f.2.2.1 f.2.2.2
  | 0xA, _ => s.cellLost f.2.2.1
  | 0xD, _ => s.poundTrip f.2.2.1 f.2.2.2
  | _, _ => s

/-- Phase 2 ends. (DEDUCED, log 84) -/
def State.phaseTwoEnd (s : State) (r : PhaseResult) : State :=
  let s1 := (s.fabricStart r.offsets).phaseLedger 2 r.found
  let s2 := (s1.entries 7).foldl (fun a e => match e.tile with | some p => a.regFail p e.item | none => a) s1
  ((r.found.foldl State.fabricDefect s2).loadSeams).setObj 0x2E00 1 3

/-! ### Phase 3 (R377) -/

/-- The rows that the ledger names bad in one bank of a physical tile, and its good spares. -/
def State.badRows (s : State) (p b : Nat) : List Nat × List Nat :=
  let l := (s.entries 2).filterMap (fun e => if e.tile = some p ∧ e.item = b then some e.sub else none)
  (l.filter (fun r => decide (r < 2560)), (List.range 32).filter (fun m => !(l.contains (2560 + m))))

/-- Each bad row of a bank gets the next good spare; a bank with too few makes its tile bad. -/
def State.repairBank (s : State) (p b : Nat) : State × Nat :=
  let (bad, spares) := s.badRows p b
  let h := s.holder p
  let s0 := (List.range 32).foldl (fun a m => a.setRegN h (remapOff b m) 0) s
  let s1 := (bad.zip spares).foldl (fun a x => a.setRegN h (remapOff b x.2) (2 ^ 31 + x.1)) s0
  (if spares.length < bad.length then s1.addLedger 1 (some p) 4 0 false else s1, min bad.length spares.length)

/-- Phase 3 ends: rows are repaired and zeroed, and the ports begin to qualify. -/
def State.phaseThreeEnd (s : State) (r : PhaseResult) : State :=
  let s0 := s.phaseLedger 3 r.found
  let s1 : State := { s0 with mem := [], tregs := s0.tregs.filter (fun e =>
    !(decide (0x3000 ≤ e.1 % 65536) && decide (e.1 % 65536 < 0x4000) && decide (0x80 ≤ e.1 % 256))) }
  let units := ((s1.entries 2).filterMap (fun e => e.tile.map (fun p => (p, e.item)))).eraseDups
  let (s2, n) := units.foldl (fun (a : State × Nat) u => let (x, k) := a.1.repairBank u.1 u.2; (x, a.2 + k)) (s1, 0)
  let s3 := (List.range 64).foldl (fun a p =>
    if a.obj (portObj p) 2 = 1 ∧ (a.portState p = 0 ∨ a.portState p = 5) then a.portEnable p 1 else a) s2
  (s3.setObj 0x2E00 0xA n).setObj 0x2E00 1 4

/-! ### Phase 5 (R364, R371, R372, R375, R378, R441) -/

/-- COL_MAP of a physical tile: its bad columns in ascending order. -/
def State.colMap (s : State) (p : Nat) : Nat :=
  let bad := (List.range 68).filter (fun c => (s.badCols p).contains c)
  ((bad.take 8).zipIdx).foldl (fun a c => a + (c.1 + 128) * 2 ^ (8 * c.2)) 0

/-- COL_MAP_SET is written where the map may change, and COL_MAP follows (R111). -/
def State.writeCols (s : State) (h v : Nat) : State := (s.setRegN h 0x6c08 v).setRegN h 0x1038 v

/-- Whether both copies of some hub or gateway have failed. -/
def State.hubLost (s : State) : Bool :=
  (s.entries 0xF).any (fun e => decide (e.sub = 0) && (s.entries 0xF).any (fun x => decide (x.item = e.item ∧ x.sub = 1)))

/-- The tile firmware that a tile starts with: the active tile image. -/
def State.bootFw (s : State) : FwStore :=
  let i := s.activeImg 1
  if i.chunks.isEmpty then FwStore.init
  else { FwStore.init with
    activeHalf := (i.chunks.zipIdx).foldl (fun m c => Map.put m 0 c.2 c.1) [], actIdent := i.ident % 256,
    actCount := min i.chunks.length 512, actCrc := i.crc.toNat }

/-- Tile `t` has power again: its rows are zeroed and its firmware loaded, as phases 3 and 5 do (R324, R384). -/
def State.lighten (s : State) (t : Nat) : State :=
  if (s.regN t 0x7000) % 4 = 3 then s else s.setTile t { Tile.zeroed with fw := s.bootFw }

/-- The e-fuse check at the end of a ramp (R322, R328): the pound is on, or isolated. (DEDUCED, log 80 and 117) -/
def State.rampEnd (s : State) (n : Nat) (ok : Bool) : State :=
  if s.poundState n ≠ 2 ∨ (s.pound n).down then s
  else if !ok then s.isolate n 4
  else
    let s1 := ((s.setPound n 3).updPound n (fun p => { p with
      hold := false, revived := p.revived.map (fun _ => s.srv.ms) })).setRails n
    let s2 := (s1.poundTiles n).foldl (fun a t => a.lighten t) s1
    s2.markPound n

/-- Tiles as they start service: those of the shape and those that sparing skips with their firmware, the others dark. -/
def State.startTiles (s : State) : State :=
  let fw := s.bootFw
  allTiles.foldl (fun a t =>
    if t < 48 * a.shapeRows then a.setTile t { Tile.zeroed with fw := fw } else a.setTile t Tile.off)
    ((List.range 2600).foldl (fun a p =>
      if (a.logicalOf p).isNone then a.setTile (2304 + p) { Tile.zeroed with fw := fw } else a) s)

/-- The pounds of bands that hold a field's rows of two or more bad tiles are powered down (R371). -/
def State.dropBands (s : State) (maps : List FieldMap) : State :=
  (maps.zipIdx).foldl (fun a m =>
    let n := 5 * m.2 + m.1.band
    if m.1.lost && decide (a.poundState n = 3) then
      ((a.setPound n 0).setObj (poundObj n) 3 0).setObj (poundObj n) 4 0
    else a) s

/-- The device becomes ready with a shape. -/
def State.ready (s : State) (grade : Nat) (maps : List FieldMap) : State :=
  let s1 := if grade = 1 then s.addLedger 0xE none 0 0 false else s
  let s2 := (s1.dropBands maps).takeMaps grade maps
  let cols := ((s2.entries 3).filterMap (fun e => e.tile)).eraseDups
  let s3 := cols.foldl (fun a p => a.writeCols (a.holder p) (a.colMap p)) s2
  let shown := cols.filter (fun p => (s3.logicalOf p).isSome)
  let s4 := s3.setObj 0x2E00 0xB (shown.foldl (fun (a : Nat) p => a + (s3.badCols p).eraseDups.length) 0)
  let s5 := (((s4.startTiles.setObj 0x2000 7 2).setObj 0x2000 8 s4.srv.ms).setObj 0x2E00 1 0).setObj 0x2700 5 0
  s5.checkDefinitions

/-- Phase 5 ends: the device is ready, or halts. -/
def State.phaseFiveEnd (s : State) (r : PhaseResult) : State :=
  let s1 := s.phaseLedger 5 r.found
  if s1.hubLost then (s1.setObj 0x2E00 7 2).noShape 1
  else match s1.chooseShape with
    | some (g, m) => s1.ready g m
    | none => (s1.setObj 0x2E00 7 2).noShape 0

/-- The phase in progress ends and the next begins; with SCAN_EN high the Lockkeepers boot, and no phase begins (R471). -/
def State.phaseEnd (s : State) (r : PhaseResult) : State :=
  let p := s.obj 0x2E00 1
  let s1 := if p = 0 then s else s.setObj 0x2E00 (1 + p) (r.ms % 2 ^ 32)
  match p with
  | 0 => if s.obj 0x2D00 1 = 1 then s.chooseKeeper r.lkA r.lkB else s
  | 1 => s1.phaseOneEnd r
  | 2 => s1.phaseTwoEnd r
  | 3 => s1.phaseThreeEnd r
  | 4 => (s1.phaseLedger 4 r.found).setObj 0x2E00 1 5
  | 5 => s1.phaseFiveEnd r
  | _ => s

/-! ### Service commands (R369) -/

/-- Whether service commands are unlocked: within 10 s of the unlock. -/
def State.unlocked (s : State) : Bool :=
  match s.boot.unlock with
  | some ms => decide (s.srv.ms ≤ ms + 10000)
  | none => false

/-- A service command is refused for a reason: 1 locked, 2 state, 3 argument. -/
def State.refuseService (s : State) (cmd reason : Nat) : State := (s.setObj 0x2E01 4 reason).refuseWrite 0x2E01 1 cmd

/-- The unlock value is written; any other value locks. -/
def State.serviceUnlock (s : State) (v : Nat) : State :=
  let s1 := s.setObj 0x2E01 2 (v % 65536)
  { s1 with boot := { s1.boot with unlock := if v % 65536 = 0x5EC7 then some s1.srv.ms else none } }

/-- Sets or clears removal pending of entry `i`. -/
def State.markRemoval (s : State) (i : Nat) (b : Bool) : State :=
  let l := (s.boot.ledger.zipIdx).map (fun e => if e.2 = i then { e.1 with removal := b } else e.1)
  ({ s with boot := { s.boot with ledger := l } } : State).setObj 0x2E01 4 0

/-- REMOVE_ENTRY. -/
def State.removeEntry (s : State) (i : Nat) : State :=
  let s0 := s.setObj 0x2E01 3 i
  if !s0.unlocked then s0.refuseService 1 1
  else if s0.boot.ledger.length ≤ i then s0.refuseService 1 3
  else s0.markRemoval i true

/-- CANCEL_REMOVAL: accepted while the entry's removal is pending. -/
def State.cancelRemoval (s : State) (i : Nat) : State :=
  let s0 := s.setObj 0x2E01 3 i
  if !s0.unlocked then s0.refuseService 4 1
  else match s0.boot.ledger[i]? with
    | none => s0.refuseService 4 3
    | some e => if e.removal then s0.markRemoval i false else s0.refuseService 4 2

/-- Whether every sensor reads below 70 °C (R356). (DEDUCED, log 84) -/
def State.sensorsCool (s : State) : Bool := (List.range 2600).all (fun p => decide (s.tj (s.holder p) < 700))

/-- BRING_UP: phases 2 to 5 run again; the jobs that were loaded are gone. (DEDUCED, log 84) -/
def State.bringUp (s : State) : State :=
  let st := s.obj 0x2000 7
  if !s.unlocked then s.refuseService 2 1
  else if !((decide (st = 2) && !s.anyRuns) || (decide (st = 4) && s.sensorsCool)) then s.refuseService 2 2
  else
    let s1 := (List.range 16).foldl (fun a b => if (a.basin b).rect.isSome then a.endJob b true else a) s
    let s2 := (List.range 40).foldl (fun a n => if a.poundState n < 4 then a.setPound n 2 else a) s1
    let s3 : State := { s2 with power := { s2.power with vlnk := true }, boot := { s2.boot with resets := [] } }
    (((s3.takeBin.setObj 0x2000 7 1).setObj 0x2E00 1 2).setObj 0x2E01 4 0).setObj 0x2E00 7 0

/-! ### Power cycles (R313, R331) -/

/-- Entries that outlive a power cycle: basin rectangles, the cellar's counters and its latest snapshots. (DEDUCED,
log 66) -/
def keptObj (k : Nat) : Bool :=
  let (i, j) := (k / 256, k % 256)
  (decide (0x2A10 ≤ i ∧ i < 0x2A20) && ([1, 5, 8, 0xA].contains j)) || (decide (i = 0x2900) && ([2, 4, 5].contains j)) ||
  (decide (0x2910 ≤ i ∧ i < 0x2920) && ([4, 5, 9, 0xB].contains j)) || decide (k = objKey 0x2A00 2)

/-- The module without power: only flash and NAND keep what they hold. (DEDUCED, log 66) -/
def State.powerCycle (s : State) : State :=
  let b := s.boot
  let s1 : State := { State.reset with
    pending := s.pending, free := s.free, objs := s.objs.filter (fun e => keptObj e.1),
    basins := s.basins.filterMap (fun e => if e.2.rect.isSome then some (e.1, { Basin.init with rect := e.2.rect }) else none),
    boot := { Boot.init with ledger := b.ledger, powerOns := b.powerOns, bringUps := b.bringUps, fails := b.fails, shutdowns := b.shutdowns },
    cellar := { Cellar.init with records := s.cellar.records.map (fun r => { r with time := 0 }), renew := s.cellar.renew },
    keepers := s.keepers.map (fun k => { Keeper.init with slot := k.slot }),
    upd := { s.upd with run := none } }
  s1.basins.foldl (fun a e => a.setObj (0x2A10 + e.1) 3 1) s1

/-- POWER_DOWN: an orderly power-down with no basin running (R331). -/
def State.powerDown (s : State) : State :=
  if !s.unlocked then s.refuseService 3 1
  else if s.anyRuns then s.refuseService 3 2
  else s.powerCycle

/-- The bus hold-up after a loss of power ends. -/
def State.busHoldupEnd (s : State) : State :=
  if s.obj 0x2100 1 = 4 ∨ s.obj 0x2100 1 = 5 then s.powerCycle else s

/-- BRINGUP_PHASE_END (R362). -/
def execBringupPhaseEnd (r : PhaseResult) (s : State) : Host.Outcome State Fault Refusal := .next (s.phaseEnd r)

/-- SERVICE_UNLOCK (R369). -/
def execServiceUnlock (val : Word32) (s : State) : Host.Outcome State Fault Refusal := .next (s.serviceUnlock val.toNat)

/-- REMOVE_ENTRY (R369). -/
def execRemoveEntry (i : Nat) (s : State) : Host.Outcome State Fault Refusal := .next (s.removeEntry i)

/-- BRING_UP (R369). -/
def execBringUp (s : State) : Host.Outcome State Fault Refusal := .next s.bringUp

/-- POWER_DOWN (R331, R369). -/
def execPowerDown (s : State) : Host.Outcome State Fault Refusal := .next s.powerDown

/-- CANCEL_REMOVAL (R369). -/
def execCancelRemoval (i : Nat) (s : State) : Host.Outcome State Fault Refusal := .next (s.cancelRemoval i)

/-- BUS_HOLDUP_END (R313). -/
def execBusHoldupEnd (s : State) : Host.Outcome State Fault Refusal := .next s.busHoldupEnd

end Sys2Proof.Machine
end

