-- ==== Sys2Proof/Machine/Cellar.lean ====
section
/-! DEFINITION. Commands of the cellar and the risk score (R416 to R436). -/

namespace Sys2Proof.Machine

/-- SNAPSHOT_REQUEST: the operator asks for an incremental (`kind` false) or a full snapshot (R421). -/
def execSnapshotRequest (b : BasinId) (kind : Bool) (s : State) : Host.Outcome State Fault Refusal :=
  .next (s.askSnapshot b kind false)

/-- SNAPSHOT_INTERVAL: an interval of a basin runs out; an interval of 0 never does (R421, R434). -/
def execSnapshotInterval (b : BasinId) (full : Bool) (s : State) : Host.Outcome State Fault Refusal :=
  .next (if s.obj (snapObj b) (if full then 2 else 1) = 0 then s else s.askSnapshot b full false)

/-- RISK_EVALUATE (R425, R426). -/
def execRiskEvaluate (s : State) : Host.Outcome State Fault Refusal := .next s.riskEvaluate

/-- SNAPSHOT_START (R422 step 1). -/
def execSnapshotStart (s : State) : Host.Outcome State Fault Refusal := .next s.snapshotStart

/-- SNAPSHOT_COPY (R422 steps 2 to 5). -/
def execSnapshotCopy (b : BasinId) (s : State) : Host.Outcome State Fault Refusal := .next (s.snapshotCopy b)

/-- SNAPSHOT_RELEASE (R422 step 6). -/
def execSnapshotRelease (b : BasinId) (s : State) : Host.Outcome State Fault Refusal := .next (s.snapshotRelease b)

/-- SNAPSHOT_SECURED (R422 step 7). -/
def execSnapshotSecured (b : BasinId) (s : State) : Host.Outcome State Fault Refusal := .next (s.snapshotSecured b)

/-- RESTORE_LATEST (R427); `bad` names records, by their places from the newest, whose manifests fail their CRC. -/
def execRestoreLatest (b : BasinId) (bad : List Nat) (s : State) : Host.Outcome State Fault Refusal :=
  .next (s.askRestore b false bad)

/-- RESTORE_OLDER_FULL (R427). -/
def execRestoreOlderFull (b : BasinId) (bad : List Nat) (s : State) : Host.Outcome State Fault Refusal :=
  .next (s.askRestore b true bad)

/-- RESTORE_DONE (R428); `media` tells that a row of the chain is uncorrectable. -/
def execRestoreDone (b : BasinId) (media : Bool) (s : State) : Host.Outcome State Fault Refusal :=
  .next (s.restoreDone b media)

end Sys2Proof.Machine
end

