-- ==== Sys2Proof/Machine/RecoveryOps.lean ====
section
/-! DEFINITION. Recovery: collection, targeted tests, repair, replay, moves of tiles and the triers (R396 to R415). -/

namespace Sys2Proof.Machine

/-- The recovery state of a basin: 0 running, 1 stopped, 2 testing, 3 repairing, 4 replaying, 5 job ended,
6 restoring. -/
def State.recState (s : State) (b : Nat) : Nat := s.obj (0x2810 + b) 1

/-- Sets the recovery state. -/
def State.setRec (s : State) (b st : Nat) : State := s.setObj (0x2810 + b) 1 st

/-! ### Errors (R401) -/

/-- Whether an alarm is an error that the ladder weighs. (DEDUCED, log 97) -/
def AlarmMsg.isError (m : AlarmMsg) : Bool := decide (m.aux ≠ 0) || (decide (1 ≤ m.cause) && decide (m.cause ≤ 0xF))

/-- The errors collected of a basin. -/
def State.errorsOf (s : State) (b : Nat) : List AlarmMsg := (s.basin b).errors.filter AlarmMsg.isError

/-- The tile that a STALL or an EPOCH_LEAK names: the first error's tile. -/
def State.stallRoot (s : State) (b : Nat) : Nat :=
  let v := s.obj (0x2810 + b) 3
  tileAt (v % 256) (v / 256)

/-- The targeted test of an error: tile and class. (DESIGN CHOICE, log 98; DEDUCED, log 104) -/
def State.errorTest (s : State) (b : Nat) (m : AlarmMsg) : Option (Nat × Nat) :=
  let at_ (c : Nat) : Option (Nat × Nat) := if m.src < 2304 then some (m.src, c) else none
  match m.cause with
  | 0x1 => at_ 5
  | 0x3 => at_ 3
  | 0x4 => at_ 4
  | 0x5 => at_ (if m.aux = 3 then 2 else 1)
  | 0x6 => at_ 7
  | 0x7 => at_ 7
  | 0x8 => if m.aux = 1 then at_ 6 else none
  | 0xE => some (if m.src < 2304 then m.src else (s.basinTiles b).headD 0, 7)
  | 0xA => some (s.stallRoot b, 8)
  | 0xC => some (s.stallRoot b, 8)
  | _ => none

/-- Whether replay cures an error. (DEDUCED, log 100) -/
def State.curable (s : State) (b : Nat) (m : AlarmMsg) : Bool :=
  match m.aux with
  | 1 => true
  | 3 => true
  | 2 => false
  | _ =>
    if m.cause = 0xA ∨ m.cause = 0xC then (s.basin b).fixed.contains (s.stallRoot b)
    else [0x1, 0x3, 0x4, 0x6, 0x7, 0xE].contains m.cause

/-- Whether poison that a scalar load or a fetch took is explained. -/
def State.explained (s : State) (b : Nat) : Bool :=
  !(s.basin b).alien &&
  (s.errorsOf b).any (fun m => s.curable b m && (decide (m.cause = 5) || decide (m.cause = 6) || decide (m.cause = 8)))

/-- Whether every error of the basin is curable. -/
def State.allCurable (s : State) (b : Nat) : Bool :=
  (s.errorsOf b).all (s.curable b) && (!(s.basin b).eaten || s.explained b)

/-! ### Step 3 (R402) -/

/-- The job ends: the basin is reset, or the device where the basin covers the whole shape. (DEDUCED, log 100) -/
def State.endStep (s : State) (b detail : Nat) : State :=
  let s1 := (((s.agentAlarm 0x18A detail b).bumpObj 0x2800 7 1).setRec b 5).updBasin b (fun v => { v with tests := [] })
  let ts := s1.basinTiles b
  if ts.length = s1.shapeTiles.length then s1.beginReset 4 0 s1.shapeTiles true (some b)
  else s1.beginReset 3 b ts false (some b)

/-! ### Preparing a replay (R404, R406) -/

/-- Whether the basin's tiles are settled: no tile still has to complete a lock whose horizon passed before STOP (R49). -/
def State.settled (s : State) (b : Nat) : Bool :=
  (s.basin b).lockNow.isNone &&
  (s.basinTiles b).all (fun t =>
    let l := (s.tile t).lk
    !(l.cleanPass && (match l.result with | some r => r.clean && s.countsAgree t r | none => false)))

/-- Whether every barge of the basin with HEAD sent has read its last row. -/
def State.bargesRead (s : State) (b : Nat) : Bool :=
  (List.range 64).all (fun p => (s.port p).tx.all (fun x =>
    !(x.headSent && decide (x.basin = b)) || x.rows.isSome || decide (hdrCount x.desc ≤ x.read)))

/-- Fault latches that a replay clears: FAULT_SUMMARY, FIRST_FAULT and the latches of R77 and R115. -/
def faultLatch (off : Nat) : Bool :=
  [0xc, 0x10, 0x14, 0x1020, 0x1024, 0x1028, 0x1030, 0x6000, 0x6004, 0x6008].contains off

/-- The banks of a tile return to the lock: rows that the epoch wrote join SNAP_DIRTY, rows from other modules stay dirty
and FULL. -/
def State.prepareBank (s : State) (t b : Nat) : State :=
  let k := s.bank t b
  let tags := k.inbound.filter (fun e => e.2 && s.inPail t b e.1)
  s.updBank t b (fun k => { k with
    gather := [], busy := false, fill := false, uses := [],
    snapDirty := k.epochDirty.foldl (fun m e => Map.put m false e.1 true) k.snapDirty,
    epochDirty := k.inbound, full := tags, fillBeat := [] })

/-- A tile returns to the state at the end of its last lock beat, and waits to repeat it; its position is the basin's beat
count, which keeps the beats that are executed again (R57). -/
def State.prepareTile (s : State) (t pos : Nat) : State :=
  match (s.tile t).image with
  | none => s
  | some g =>
    let s1 := ((s.clearRegs t faultLatch).putImage t g).atOpenLock t
    let s2 := s1.updTile t (fun tl => { tl with
      til := { tl.til with beat := pos }, tp := { tl.tp with gens := [], pend := [], waitBar := none } })
    (List.range 16).foldl (fun a b => a.prepareBank t b) s2

/-- A port returns to the lock of the basin that it sends for. (DEDUCED, log 101) -/
def State.prepareEngines (s : State) (b : Nat) : State :=
  let s1 := ((List.range 64).filter (fun p => decide (s.sendsFor p = some b))).foldl (fun a p =>
    a.updPort p (fun q => { q with
      nextTx := q.nextTxLock, winPos := q.winPosLock,
      tx := q.tx.filter (fun x => x.headSent || decide (x.basin ≠ b)) })) s
  let s2 := [0, 1, 2, 3].foldl (fun a h =>
    if a.basinOf (a.hostTile h) = some b then
      let a1 : State := { a with host := { a.host with
        winPos := Map.put a.host.winPos 0 h (Map.get a.host.winPosLock 0 h) } }
      match a1.hostWrite h with
      | some w => if w.read = 0 then a1.setWrite h none else a1
      | none => a1
    else a) s1
  (s2.slotsOf b).foldl (fun a q => a.slotRewind q) s2

/-- Whether a repair of the basin waits for a remap hold: a dead tile, a column map or a requested hold. -/
def State.needRemap (s : State) (b : Nat) : Bool :=
  (s.errorsOf b).any (fun m => decide (m.cause = 0x18B)) ||
  (s.basinTiles b).any (fun t => decide (s.regN t 0x1038 ≠ s.colMap (s.physOf t))) ||
  (s.basin b).holds.any (fun h => decide (h.1 = .remap))

/-- The basin stands at lock n again; a remap hold that its repairs need is placed on that lock. -/
def State.prepare (s : State) (b : Nat) : State :=
  let n := s.obj (0x2610 + b) 1
  let s1 := ((s.basinTiles b).foldl (fun a t => a.prepareTile t (s.leastPos b)) s).prepareEngines b
  let s2 := s1.updBasin b (fun v => { v with
    replayed := true, prepared := true, lockFrames := [], barFrames := [], barDone := [], result := none, wave := 0, defers := false,
    waveBegun := false, leaks := [], stalls := [], stalled := [],
    holds := v.holds.map (fun h => if h.1 = .remap then (h.1, min h.2 n) else h) })
  if s2.needRemap b then (s2.askHold b .remap).setRec b 3 else s2

/-- The replay is prepared as soon as the tiles have settled and started barges are read. -/
def State.tryPrepare (s : State) (b : Nat) : State :=
  if (3 ≤ s.recState b ∧ s.recState b ≤ 4) ∧ !(s.basin b).prepared && s.settled b && s.bargesRead b then s.prepare b else s

/-! ### Choosing the step (R400, R401, R407) -/

/-- Whether the basin's epoch can be replayed at all. -/
def State.canReplay (s : State) (b : Nat) : Bool :=
  decide (s.obj 0x2800 1 = 1) && recReplayable (s.epochRow b) &&
  (s.basinTiles b).all (fun t => (s.tile t).image.isSome)

/-- The ladder's choice, once every test has ended. -/
def State.chooseStep (s : State) (b : Nat) : State :=
  let errs := s.errorsOf b
  let s1 := s.updBasin b (fun v => { v with judged := errs.length })
  if errs.any (fun m => [0x162, 0x163, 0x16D].contains m.cause) then s1.endStep b 3
  else if errs.any (fun m => decide (m.aux = 2) && (decide (m.cause = 0x18B) || decide (m.cause = 0xB))) then s1.endStep b 2
  else if !s1.allCurable b || !s1.canReplay b then s1.endStep b 0
  else if s1.obj 0x2800 2 ≤ (s1.basin b).replays then (s1.agentAlarm 0x189 (s1.basin b).replays b).endStep b 1
  else (s1.setRec b 4).tryPrepare b

/-! ### Collection and targeted tests (R396, R400) -/

/-- The tile under test of every trier (R414). -/
def State.showTriers (s : State) : State :=
  let all := ((List.range 16).map (fun b => (s.basin b).tests)).flatten
  (List.range 8).foldl (fun a f =>
    a.setObj (0x2848 + f) 1 (match all.find? (fun x => decide (pField (s.physOf x.1) = f)) with
      | some x => pName (s.physOf x.1)
      | none => 0xFFFF)) s

/-- By the end of the collection interval STOP has reached every tile and engine (R390). -/
def State.deliverStop (s : State) (b : Nat) : State :=
  let s1 := (s.basinTiles b).foldl (fun a t => (a.stopTile t).updTile t (fun tl => { tl with halted := true })) s
  let s2 := (List.range 64).foldl (fun a p =>
    if (a.port p).stops.contains b then a else a.updPort p (fun q => { q with stops := q.stops ++ [b] })) s1
  { s2 with host := { s2.host with stops := if s2.host.stops.contains b then s2.host.stops else s2.host.stops ++ [b] } }

/-- ALARM_COLLECTION_END: the units named by errors that have not been weighed are to be tested; with none the step is
chosen at once. (DEDUCED, log 97) -/
def State.collect (s : State) (b : Nat) : State :=
  let v := s.basin b
  let st := s.recState b
  if v.stop = false ∨ s.activeLk.isNone = true ∨ st = 0 ∨ 4 < st then s
  else
    let s1 := s.deliverStop b
    let errs := s1.errorsOf b
    let units := (((errs.drop v.judged).filterMap (fun m => s1.errorTest b m)).eraseDups).filter (fun x =>
      !(v.tests.any (fun y => decide (y.1 = x.1) && decide (y.2.1 = x.2))))
    let tests := v.tests ++ units.map (fun x => (x.1, x.2, decide (s1.obj 0x2800 5 ≤ s1.regN x.1 0x6088)))
    let s2 := s1.updBasin b (fun v => { v with tests := tests, judged := errs.length, prepared := false })
    if tests.isEmpty then s2.chooseStep b
    else
      let s3 := units.foldl (fun a x => a.setRegN x.1 0x6084 (a.regN x.1 0x6084 / 16 * 16 + x.2)) s2
      (s3.setRec b 2).showTriers

/-- A fault that a test finds transient. (DEDUCED, log 99) -/
def State.transientFault (s : State) (t cls : Nat) : State :=
  let p := s.physOf t
  let s1 := ((s.bumpReg t 0x6088 1 255).bumpObj 0x2800 8 1).agentIrq 0x101 (pName p + 4096 * cls)
  { s1 with boot := { s1.boot with transients := s1.boot.transients ++ [(p, s1.srv.ms)] } }

/-! ### Repair (R397, R398, R408) -/

/-- A tile dies: in recovery as `tileDeath`, and one found in service whose state is clean only by its alarm, its entry and
a hold of the basin's next lock. (DEDUCED, log 100) -/
def State.killTile (s : State) (t cause : Nat) (lost idle : Bool) : State :=
  if lost || !idle then s.tileDeath t cause lost
  else
    let p := s.physOf t
    ((s.addLedger 1 (some p) cause 0 true).bumpObj 0x2800 0xA 1).agentAlarm 0x18B (pName p) ((s.basinOf t).getD 16)

/-- A row of a bank is remapped to a free good spare: the entry mirrors, its copy is done with what R147 does for the word
read, and it becomes valid at the next lock beat. -/
def State.repairRow (s : State) (t b row : Nat) : Option State :=
  let spare := (List.range 32).find? (fun m =>
    let v := s.regN t (remapOff b m)
    !bitOf v 31 && !bitOf v 29 && !s.badSpare t b m)
  spare.map (fun m =>
    let (d, p, s0) := s.decodeRow t (2560 * b + row) (s.rowWord t (2560 * b + row)) none true
    let s1 := (s0.setWord (spareKey t b m) (if p then poisonWord else kolvosEncode d)).setRegN t (remapOff b m)
      (2 ^ 29 + 2 ^ 28 + row)
    s1.addLedger 2 (some (s1.physOf t)) b row true)

/-- A failed hub or gateway copy `16 + 2 × router + copy`. -/
def State.hubCopyFail (s : State) (t item : Nat) : State :=
  let r := (item - 16) / 2
  let s1 := s.addLedger 0xF none (if r < 144 then r else 0x100 + (r - 144)) (item % 2) true
  if s1.hubLost then
    match s1.basinOf t with
    | some b => s1.lkError b t 0xE r 2
    | none => s1
  else s1

/-- A failed link of a tile: an incoming mesh lane with its wire above bit 10, 8 for the towpath spoke or tile router, 16
on for a hub or gateway copy. -/
def State.repairLink (s : State) (t item : Nat) (idle : Bool) : State :=
  let i := item % 1024
  if i < 8 then
    match s.seamIn t i with
    | some n => s.seamWireFail n (item / 1024 % 292)
    | none =>
      match laneEnd t i with
      | some (u, o) => (s.addLedger 4 (some (s.physOf u)) (o / 2) (s.routeCode u o) true).killTile t 8 false idle
      | none => s
  else if i < 16 then s.killTile t 2 true idle
  else s.hubCopyFail t i

/-- A lasting fault of class `cls` is repaired.  `item` names the row as `4096 × bank + row`, the physical column (68 and
above a trunk or rounding fault), or the link. (DESIGN CHOICE, log 98) -/
def State.repair (s : State) (t cls item : Nat) (idle : Bool) : State :=
  match cls with
  | 1 =>
    let b := item / 4096 % 16
    let row := item % 4096
    if 2560 ≤ row then s.addLedger 2 (some (s.physOf t)) b (min row 2591) true
    else (s.repairRow t b row).getD (s.killTile t 4 true idle)
  | 2 => s.killTile t 3 true idle
  | 3 =>
    let p := s.physOf t
    let limit := if s.obj 0x2E00 8 = 0 then 3 else 7
    if item < 68 ∧ (item :: s.badCols p).eraseDups.length ≤ limit then s.addLedger 3 (some p) item 0 true
    else s.killTile t 7 false idle
  | 4 => s.killTile t 6 false idle
  | 5 => s.killTile t 5 false idle
  | 6 => s.killTile t 8 true idle
  | _ => s.repairLink t item idle

/-- A fault that a test finds lasting: reported, counted and repaired. -/
def State.lastingFault (s : State) (t cls item : Nat) (idle : Bool) : State :=
  let p := s.physOf t
  let v := s.regN t 0x6084
  let s1 := s.setRegN t 0x6084 (bitsOf v 4 0 + 32 * cls + 512)
  let s2 := (s1.bumpObj 0x2800 9 1).agentAlarm 0x100 (pName p + 4096 * cls) ((s.basinOf t).getD 16)
  s2.repair t cls item idle

/-- TARGETED_TEST_END: the oldest test of tile `t` has ended.  A T_TILE test names the class that failed; a unit at the
transient threshold counts as lasting whatever the test finds. (DEDUCED, log 99 and 117) -/
def State.testEnd (s : State) (t cls : Nat) (lasting : Bool) (item : Nat) : State :=
  match s.basinOf t with
  | none => s
  | some b =>
    match (s.basin b).tests.find? (fun x => decide (x.1 = t)) with
    | none => s
    | some x =>
      let c := if x.2.1 = 8 then clampN 2 7 cls else x.2.1
      let s1 := (s.updBasin b (fun v => { v with tests := v.tests.erase x })).bumpObj (0x2848 + pField (s.physOf t)) 4 1
      let s2 := s1.setRegN t 0x6084 (s1.regN t 0x6084 / 16 * 16)
      let s3 := if lasting || x.2.2 then
          (s2.lastingFault t c item false).updBasin b (fun v => { v with fixed := v.fixed ++ [t] })
        else s2.transientFault t x.2.1
      let s4 := s3.showTriers
      if (s4.basin b).tests.isEmpty then s4.chooseStep b else s4

/-! ### Releasing a replay (R406, R407) -/

/-- STOP clears everywhere. -/
def State.clearStop (s : State) (b : Nat) : State :=
  let s1 := (s.basinTiles b).foldl (fun a t => a.updTile t (fun tl => { tl with stop := false, halted := false })) s
  let s2 := (List.range 64).foldl (fun a p =>
    if (a.port p).stops.contains b then a.updPort p (fun q => { q with stops := q.stops.filter (fun x => decide (x ≠ b)) })
    else a) s1
  { s2 with host := { s2.host with stops := s2.host.stops.filter (fun x => decide (x ≠ b)) } }

/-- A trier pause that was requested takes the basin's next lock (R399, R412). -/
def State.askPause (s : State) (b : Nat) : State :=
  if s.obj (0x2810 + b) 9 = 1 then s.askHold b .trierPause else s

/-- REPLAY_RELEASE: a prepared replay without untested errors and without a remap hold is released; every tile repeats
its lock beat. (DEDUCED, log 15 and 101) -/
def State.replayRelease (s0 : State) (b : Nat) : State :=
  let s := s0.tryPrepare b
  let v := s.basin b
  if v.stop && decide (s.recState b = 4) && v.prepared && v.tests.isEmpty && decide (v.judged = (s.errorsOf b).length) &&
      !(v.holds.any (fun h => decide (h.1 = .remap) && decide (h.2 ≤ s.nextLockNum b))) then
    let n := v.replays + 1
    let s1 := (s.clearStop b).updBasin b (fun v => { v with
      stop := false, errors := [], fixed := [], judged := 0, replays := n, prepared := false, eaten := false,
      digests := { v.digests with replay := true } })
    let s2 := (s1.basinTiles b).foldl (fun a t => a.setRegN t 0x601c n) s1
    let (us, s3) := s2.fresh
    let s4 := ((s3.setRec b 0).setObj (0x2A10 + b) 3 3).setObj (0x2810 + b) 6 (us.toNat % 2 ^ 32)
    let s5 := ((s4.bumpObj (0x2810 + b) 5 1).bumpObj 0x2800 6 1 (2 ^ 64 - 1)).agentIrq 0x188 n
    (s5.completeLock b).askPause b
  else s

/-! ### Moving tiles (R409, R111, R195, R352) -/

/-- Basins that stand in a lock held for a remap. -/
def State.remapHeld (s : State) : List Nat := (List.range 16).filter (fun b => s.heldFor b .remap && s.heldByRequest b)

/-- The remap holds of a basin's coming lock are released; a prepared replay goes on. (DESIGN CHOICE, log 65) -/
def State.releaseRemap (s : State) (b : Nat) : State :=
  let n := s.nextLockNum b
  let s1 := s.updBasin b (fun v => { v with holds := v.holds.filter (fun h => !(decide (h.1 = .remap) && decide (h.2 ≤ n))) })
  if s1.recState b = 3 then s1.setRec b 4 else s1

/-- The flat rows of a tile that a remap entry serves. -/
def State.sparedRows (s : State) (t : Nat) : List Nat :=
  ((List.range 16).map (fun b => (List.range 32).filterMap (fun m =>
    let v := s.regN t (remapOff b m)
    if bitOf v 31 then some (2560 * b + v % 4096) else none))).flatten

/-- The rows of a moved tile present the same words through the remap entries of its new physical tile. -/
def State.moveRows (s old : State) (t : Nat) : State :=
  ((old.sparedRows t ++ s.sparedRows t).eraseDups).foldl (fun a f => a.setWord (a.cellKey t f) (old.rowWord t f)) s

/-- The engines of a tile whose state has been moved: everything sent and landed. -/
def Mover.moved : Mover := { Mover.init with sent := 42016, landed := 42016 }

/-- The unit `h` has loaded the state of logical tile `t`, which it now presents: what unit `h` holds becomes that tile's,
but for its lock logic, its router's batches, its lock image and its staged registers. (DESIGN CHOICE, log 96) -/
def State.takeLoaded (s old : State) (t h : Nat) : State :=
  let from_ := old.tile t
  let s1 := s.clearRegs t (fun off => !physReg off)
  let s2 := (old.tregs.filter (fun e => decide (e.1 / 65536 = h) && !physReg (e.1 % 65536))).foldl
    (fun a e => a.setReg t (e.1 % 65536) e.2) s1
  let s3 : State := { s2 with mem := s2.mem.filter (fun e => decide (e.1 / 65536 ≠ t)) }
  let s4 := (old.mem.filter (fun e => decide (e.1 / 65536 = h))).foldl (fun a e => a.setWord (65536 * t + e.1 % 65536) e.2) s3
  s4.setTile t { old.tile h with
    lk := from_.lk, tp := from_.tp, image := from_.image, stagedRegs := from_.stagedRegs, stop := from_.stop,
    halted := from_.halted }

/-- The state of logical tile `t` goes to the physical tile that unit `h` stood for, which keeps its firmware store; what is
not state stays behind (R84, R223). (DESIGN CHOICE, log 96) -/
def State.carryTile (s old : State) (t h : Nat) : State :=
  (s.moveRows old t).updTile t (fun tl => { tl with
    fw := (old.tile h).fw, arr := { tl.arr with entries := [] },
    banks := tl.banks.foldl (fun m p => Map.put m Bank.init p.1 { p.2 with gather := [] }) tl.banks,
    til := { tl.til with fetched := [], loopBuf := [] } })

/-- A tile's state has been moved by unload and load: by engines that ran, or at once. (DESIGN CHOICE, log 96) -/
def State.movedTile (s old : State) (t : Nat) : State :=
  let h := old.holder (s.physOf t)
  let v := s.holder (old.physOf t)
  let s1 := if (old.tile h).mover.loaded = some t then s.takeLoaded old t h else s.carryTile old t h
  let s2 := (s1.updTile t (fun tl => { tl with
    dark := decide (s.poundState (s.poundOf t) ≠ 3), mover := Mover.moved })).setRegN t 0xe04 2
  let s3 := if 2304 ≤ h then s2.setTile h Tile.init else s2
  if 2304 ≤ v then s3.updTile v (fun tl => { tl with fw := (old.tile t).fw }) else s3

/-- No map exists: each held basin with a tile that can no longer be presented goes to step 3. -/
def State.noMap (s : State) (held : List Nat) (limit : Nat) : State :=
  held.foldl (fun a b =>
    match (a.basinTiles b).find? (fun t => (a.badTiles limit (a.fieldOf t)).contains (a.physOf t)) with
    | some t => ((a.agentAlarm 0x18D (a.fieldOf t) b).updBasin b (fun v => { v with stop := true })).endStep b 0
    | none => a.releaseRemap b) s

/-- A COL_MAP_SET that was written outside a hold is applied at the basin's hold (R111, R117). -/
def State.lateCols (s : State) (b : Nat) : State :=
  (s.basinTiles b).foldl (fun a t => a.setRegN t 0x1038 (a.regN t 0x6c08)) s

/-- REMAP: in remap holds the map is chosen again, tiles move, and column bypasses and seam steering are applied.  A
running basin whose tiles the map moves and that does not stand held is asked to hold first. (DESIGN CHOICE, log 96) -/
def State.remap (s0 : State) : State :=
  let s := (List.range 16).foldl (fun a b => a.tryPrepare b) s0
  match s.remapHeld with
  | [] => s
  | held =>
    let grade := s.obj 0x2E00 8
    let limit := if grade = 0 then 3 else 7
    match s.chooseMaps limit with
    | none => s.noMap held limit
    | some maps =>
      let rows (f : Nat) : Nat := match maps[f]? with | some m => m.cols.length | none => 24
      if rows 0 ≠ s.boot.rowsLow ∨ rows 4 ≠ s.boot.rowsHigh then s.noMap held limit
      else
        let s1 := s.takeMaps grade maps
        let moved := s.shapeTiles.filter (fun t => decide (s.physOf t ≠ s1.physOf t))
        let others := (moved.filterMap s.basinOf).eraseDups.filter (fun b => s.basinRuns b && !(held.contains b))
        if !others.isEmpty then others.foldl (fun a b => a.askHold b .remap) s
        else
          let s2 := moved.foldl (fun a t => a.movedTile s t) s1
          let open_ (t : Nat) : Bool := match s2.basinOf t with | some b => held.contains b || !s2.basinRuns b | none => true
          let cols := ((s2.entries 3).filterMap (fun e => e.tile)).eraseDups
          let s3 := cols.foldl (fun a p => match a.logicalOf p with
            | some t => if open_ t then a.writeCols t (a.colMap p) else a
            | none => a.writeCols (a.holder p) (a.colMap p)) (held.foldl (fun a b => a.lateCols b) s2)
          let s4 := (held.foldl (fun a b => a.seamTurn b) s3).takeBin.showShared
          let s5 := if moved.isEmpty then s4 else s4.agentIrq 0x18C moved.length
          held.foldl (fun a b => a.releaseRemap b) s5

/-! ### Testing in service (R398, R399) -/

/-- A row of fresh free values. (DESIGN CHOICE, log 102) -/
def State.freeRow (s : State) : Row × State :=
  let (a, s1) := s.fresh
  let (b, s2) := s1.fresh
  let (c, s3) := s2.fresh
  let (d, s4) := s3.fresh
  (a ++ b ++ c ++ d, s4)

/-- Every row of a set holds a free value. -/
def freeSet (l : Map Row) (s : State) : Map Row × State :=
  l.foldl (fun (a : Map Row × State) e =>
    let (d, x) := a.2.freeRow
    (a.1 ++ [(e.1, d)], x)) ([], s)

/-- A destructive test of the array leaves free values in both stationary sets, and no accumulator entry. (DESIGN
CHOICE, log 102) -/
def State.wreckArray (s : State) (t : Nat) : State :=
  let a := (s.tile t).arr
  let (r1, s1) := freeSet a.active.rows s
  let (r2, s2) := freeSet a.shadow.rows s1
  s2.updArr t (fun a => { a with
    active := { a.active with rows := r1 }, shadow := { a.shadow with rows := r2 }, entries := [] })

/-- A destructive test of the vector unit leaves free values in every vector register. (DESIGN CHOICE, log 102) -/
def State.wreckVector (s : State) (t : Nat) : State :=
  (List.range 32).foldl (fun a i =>
    let (d0, a0) := a.freeRow
    let (d1, a1) := a0.freeRow
    let (d2, a2) := a1.freeRow
    let (d3, a3) := a2.freeRow
    a3.updTile t (fun tl => { tl with vregs := Map.put tl.vregs 0 i (d0 ++ d1 ++ d2 ++ d3) })) s

/-- A test of the tillers leaves free values in the scalar registers. (DESIGN CHOICE, log 102) -/
def State.wreckScalars (s : State) (t : Nat) : State :=
  (List.range 32).foldl (fun a i =>
    let (v, a1) := a.fresh
    a1.setSreg t i (v.setWidth 32)) s

/-- The pass of a tile is complete. (DEDUCED, log 103) -/
def State.passDone (s : State) (t : Nat) : State :=
  let p := s.physOf t
  let v := s.regN t 0x6084
  let s1 := if bitOf v 4 then (s.setRegN t 0x6084 (v - 16)).setObj 0x2840 5 (s.obj 0x2840 5 - 1) else s
  let s2 : State := { s1 with boot := { s1.boot with passed := Map.put s1.boot.passed 0 p 0 } }
  (s2.setRegN t 0x6080 (s.srv.ms / 1000 % 2 ^ 32)).bumpObj (0x2848 + pField p) 2 1 325

/-- A class has passed at a tile, for banks one bank at a time; the pass is complete with every bank and classes 3
to 6. (DEDUCED, log 103) -/
def State.classPassed (s : State) (t cls item : Nat) : State :=
  if cls = 8 then s.passDone t
  else
    let p := s.physOf t
    let m := Map.get s.boot.passed 0 p ||| 2 ^ (if cls ≤ 2 then item % 16 else 13 + min cls 7)
    if m &&& 0xFFFFF = 0xFFFFF then s.passDone t
    else { s with boot := { s.boot with passed := Map.put s.boot.passed 0 p m } }

/-- A lasting fault found in service is repaired at the basin's next lock, held for a remap. -/
def State.serviceFault (s : State) (t cls item : Nat) : State :=
  let s1 := s.lastingFault t (if cls = 8 then 2 else cls) item true
  match s1.basinOf t with
  | some b => if cls ≠ 1 ∧ (s1.basin b).stop = false then s1.askHold b .remap else s1
  | none => s1

/-- Whether the trier may access the bank that an item of class 1 or 2 names: in a tile of a basin only where it owns the bank
(R154). -/
def State.trierOwns (s : State) (t cls : Nat) (ok : Bool) (item : Nat) : Bool :=
  decide (2 < cls) || (s.basinOf t).isNone ||
    decide ((s.bank t (if ok || decide (cls = 2) then item % 16 else item / 4096 % 16)).owner = 3)

/-- IDLE_WINDOW_SLICE: a trier has tested class `cls` of tile `t` in an idle window.  Banks are marched without loss; the
array, the vector unit and the tillers lose what they held, which the window declares dead. -/
def State.idleSlice (s : State) (t cls : Nat) (ok : Bool) (item : Nat) : State :=
  let stopped := match s.basinOf t with | some b => (s.basin b).stop | none => false
  if cls = 0 ∨ stopped = true ∨ (s.tile t).dark = true ∨ (cls = 8 ∧ (s.basinOf t).isSome = true) ∨
      s.trierOwns t cls ok item = false then s
  else
    let f := pField (s.physOf t)
    let s1 : State := { s with boot := { s.boot with slices := s.boot.slices ++ [(f, s.srv.ms)] } }
    let s2 := match cls with
      | 3 => s1.wreckArray t
      | 4 => s1.wreckVector t
      | 5 => s1.wreckScalars t
      | 8 => ((s1.wreckArray t).wreckVector t).wreckScalars t
      | _ => s1
    if ok then s2.classPassed t cls item else s2.serviceFault t cls item

/-- TRIER_OVERDUE: reported once per tile and period. (DEDUCED, log 103) -/
def State.trierOverdue (s : State) (t : Nat) : State :=
  let v := s.regN t 0x6084
  if bitOf v 4 then s
  else ((s.setRegN t 0x6084 (v + 16)).bumpObj 0x2840 5 1 2600).agentIrq 0x102 (pName (s.physOf t))

/-- TRIER_PAUSE_REQUEST: a hold of the basin's next lock; while STOP is in force it waits for the recovery's end.
(DEDUCED, log 103) -/
def State.pauseRequest (s : State) (b : Nat) : State :=
  let s1 := s.setObj (0x2810 + b) 9 1
  if (s1.basin b).stop then s1 else s1.askPause b

/-- TRIER_PAUSE_DONE: the tiles that T_TILE has passed, and the lasting faults found, which are repaired in the same
hold. (DESIGN CHOICE, log 79) -/
def State.pauseDone (s : State) (b : Nat) (tested : List Nat) (faults : List (Nat × Nat × Nat)) : State :=
  if s.heldFor b .trierPause && s.heldByRequest b then
    let mine (t : Nat) : Bool := (s.basinTiles b).contains t
    let s1 := (tested.filter mine).foldl (fun a t => a.passDone t) s
    let s2 := (faults.filter (fun x => mine x.1)).foldl (fun a x => a.serviceFault x.1 (clampN 1 7 x.2.1) x.2.2) s1
    let n := s2.nextLockNum b
    let s3 := s2.updBasin b (fun v => { v with
      holds := v.holds.filter (fun h => !(decide (h.1 = .trierPause) && decide (h.2 ≤ n))) })
    (s3.setObj (0x2810 + b) 9 0).agentIrq 0x103 (tested.length + faults.length)
  else s

end Sys2Proof.Machine
end

