-- ==== Sys2Proof/Machine/DebugOps.lean ====
section
/-! DEFINITION. Digest logs, captures, the test multiplexer, trace marks and the test access port (R459 to R475). -/

namespace Sys2Proof.Machine

/-! ### Digest logs (R461) -/

/-- The records that a tile's ring holds, oldest first, as (tile, epoch, T). -/
def State.ringRecords (s : State) (t : Nat) : List (Nat × Nat × Nat) :=
  let d := (s.tile t).dig
  (List.range d.held).map (fun k =>
    let i := (d.oldest + k) % 8
    (t, s.regN t (0x880 + 16 * i), s.regN t (0x888 + 16 * i)))

/-- The whole number of an epoch, no later than the current one, whose low 32 bits are `low`. (DEDUCED, log 105) -/
def State.wholeEpoch (s : State) (b low : Nat) : Nat :=
  let cur := s.obj (0x2610 + b) 1
  cur - (cur % 2 ^ 32 + 2 ^ 32 - low) % 2 ^ 32

/-- The basin digest of a list of tile records. -/
def basinSum (l : List (Nat × Nat × Nat)) : Nat :=
  l.foldl (fun a r => (a + crc64 ([tx r.1, ty r.1] ++ bytesOf r.2.2 8)) % 2 ^ 64) 0

/-- The basin record of an epoch is appended; an older record of the same epoch with another digest is reported, but not
where either span is loose. (DEDUCED, log 105) -/
def State.digestAppend (s : State) (b low : Nat) (lost : Bool) : State :=
  let d := (s.basin b).digests
  let mine := d.pend.filter (fun r => decide (r.2.1 = low))
  let e := s.wholeEpoch b low
  let span := match d.spans.find? (fun x => decide (x.1 = low)) with | some x => x.2 | none => 0
  let loose := bitOf span 1
  let part := lost || decide (mine.length < (s.basinTiles b).length)
  let r : DigestRec := ⟨e, recTag (epochRec (s.basin b).table e), b2n part + span + 8 * b2n d.restored,
    mine.length, basinSum mine⟩
  let differs := d.recs.any (fun x => decide (x.epoch = e) && decide (x.sum ≠ r.sum) && !bitOf x.flags 1) && !loose
  let s1 := s.updBasin b (fun v => { v with digests := { v.digests with
    recs := (v.digests.recs ++ [r]).drop (v.digests.recs.length + 1 - 1024),
    pend := v.digests.pend.filter (fun x => decide (x.2.1 ≠ low)),
    spans := v.digests.spans.filter (fun x => decide (x.1 ≠ low)) } })
  let s2 := s1.setObj (0x2C10 + b) 4 (s1.basin b).digests.recs.length
  let s3 := if differs then s2.agentIrq 0x190 b else s2
  if part then s3.agentIrq 0x191 b else s3

/-- DIGEST_DRAIN: the active Lockkeeper reads and frees every tile ring of a running basin; a record is formed for each
point that every tile has reported, and for the others where no lock is in progress. (DEDUCED, log 105) -/
def State.digestDrain (s : State) (b : Nat) : State :=
  if (s.basin b).started = false ∨ s.activeLk.isNone = true then s
  else
    let ts := s.basinTiles b
    let got := (ts.map s.ringRecords).flatten
    let lost := ts.foldl (fun a t => a + (s.tile t).dig.lost) 0
    let new := lost - (s.basin b).digests.lostSeen
    let s1 := ts.foldl (fun a t => a.digestAck t 8) s
    let s2 := (s1.updBasin b (fun v => { v with digests := { v.digests with
      pend := v.digests.pend ++ got, lostSeen := lost } })).bumpObj (0x2C10 + b) 5 new
    let pend := (s2.basin b).digests.pend
    let points := (pend.map (fun r => r.2.1)).eraseDups
    let ripe := points.filter (fun e =>
      (s2.basin b).lockNow.isNone || decide ((pend.filter (fun r => decide (r.2.1 = e))).length = ts.length))
    ripe.foldl (fun a e => a.digestAppend b e (decide (0 < new))) s2

/-! ### Captures (R462) -/

/-- The bank capture of the tile that (0x2C10 + b).0A names is armed for the capture's epoch; that of another tile of the
basin is not. -/
def State.relayCapture (s : State) (b : Nat) : State :=
  let v := s.obj (0x2C10 + b) 0xA
  let t := tileAt (v % 256) (v / 256)
  let s1 := (s.basinTiles b).foldl (fun a u => if bitOf (a.regN u 0x814) 0 then a.setRegBit u 0x814 0 false else a) s
  if v ≠ 0xFFFF ∧ t ∈ s1.basinTiles b ∧ s1.obj (0x2C10 + b) 9 = 1 then
    (s1.setRegN t 0x810 (s1.obj (0x2C10 + b) 8 % 2 ^ 32)).setRegN t 0x814 1
  else s1

/-- A capture is armed for an epoch; one that the basin has passed is missed. -/
def State.captureArm (s : State) (b epoch : Nat) : State :=
  let s1 := s.setObj (0x2C10 + b) 8 epoch
  (s1.setObj (0x2C10 + b) 9 (if epoch < s.obj (0x2610 + b) 1 then 3 else 1)).relayCapture b

/-- The tile of a basin's bank capture is written. -/
def State.bankArm (s : State) (b xy : Nat) : State :=
  let v := if xy = 0xFFFF then xy else min (xy % 256) 47 + 256 * min (xy / 256) 47
  (s.setObj (0x2C10 + b) 0xA v).relayCapture b

/-! ### The test multiplexer (R464) -/

/-- The holder of the registers of the probe tile. -/
def State.probeTile (s : State) : Nat :=
  let v := s.obj 0x2D20 1
  s.holder (v % 64 + 52 * (v / 64 % 64))

/-- The probe selections of the probe tile are relayed to it. (DEDUCED, log 106) -/
def State.relayProbes (s : State) : State :=
  [0, 1, 2, 3].foldl (fun a j => a.setRegN a.probeTile (0x980 + 4 * j) (a.obj 0x2D20 (2 + j))) s

/-- PROBE_SELECT: what the multiplexer objects select comes into force. (DEDUCED, log 106) -/
def State.probeSelect (s : State) : State :=
  let s1 := s.relayProbes
  let pins := (List.range 16).map (fun i => (i, s1.obj 0x2D01 (i + 1)))
  let chans := ((List.range 8).map (fun f => (List.range 16).map (fun n => (16 + 16 * f + n, s1.obj (0x2D10 + f) (n + 1))))).flatten
  { s1 with dbg := { s1.dbg with mux := (pins ++ chans).foldl (fun m e => Map.put m 0 e.1 e.2) s1.dbg.mux } }

/-- The level of a probe signal of physical tile `p` (R465): none for pulses and handshakes, whose edges are wall
time. (DEDUCED, log 121) -/
def State.probeSignal (s : State) (p code : Nat) : Option Bool :=
  let t := s.holder p
  let tl := s.tile t
  match code with
  | 0x01 => none
  | 0x02 => none
  | 0x03 => none
  | 0x04 => some (tl.til.pulse && !s.canIssue t)
  | 0x05 => some tl.lk.atLock
  | 0x06 => some tl.stop
  | 0x40 => none
  | 0x41 => some (bitOf (s.regN t 0x7100) 0)
  | 0x42 => some (bitOf (s.regN t 0x7100) 1)
  | 0x43 => some (bitOf (s.regN t 0x7100) 2)
  | 0x44 => some (bitOf (s.regN t 0x7100) 3)
  | 0x50 => some (s.pound (pPound p)).boost
  | 0x51 => some (s.pound (pPound p)).shunt
  | 0x52 => some (decide (s.regN t 0x7014 ≠ 0))
  | 0x60 => some tl.tp.waitBar.isSome
  | 0x61 => some (!tl.sw.forks.isEmpty)
  | 0x62 => some (decide ((s.stallCause t).1 = 3 ∨ (s.stallCause t).1 = 4))
  | c => if 0x10 ≤ c ∧ c < 0x32 then none else some false

/-- What probe `j` of physical tile `p` puts out (R466): in mode LEVEL the signal, inverted where selected; none in the modes
that count or stretch edges. (DEDUCED, log 121) -/
def State.probeOut (s : State) (p j : Nat) : Option Bool :=
  let v := s.regN (s.holder p) (0x980 + 4 * j)
  if v / 256 % 4 = 0 then (s.probeSignal p (v % 256)).map (fun x => x != bitOf v 14) else none

/-- The level of pin OBS `k` by the selections in force (R464, R474): a module signal, or a field's channel and what it selects;
a channel that is not enabled shows 0; none for what toggles with wall time. (DEDUCED, log 121) -/
def State.obsPin (s : State) (k : Nat) : Option Bool :=
  let v := Map.get s.dbg.mux 0 k
  if bitOf v 7 then (match v / 256 with
    | 1 => none
    | 2 => none
    | 3 => none
    | 4 => some (decide (s.obj 0x2100 1 = 4))
    | _ => some false)
  else
    let f := v % 8
    let c := Map.get s.dbg.mux 0 (16 + 16 * f + v / 8 % 16)
    if bitOf c 11 && decide (c % 16 < 13) && decide (c / 16 % 32 < 25) then
      s.probeOut (52 * (25 * (f / 4) + c / 16 % 32) + 13 * (f % 4) + c % 16) (c / 512 % 4)
    else some false

/-! ### The test access port (R471) -/

/-- A TAP instruction becomes current unless the port is held in test-logic-reset. (DESIGN CHOICE, log 107; DEDUCED,
log 121) -/
def State.tapLoad (s : State) (i : Nat) : State :=
  if s.obj 0x2D00 1 = 1 then { s with dbg := { s.dbg with tap := some i } } else s

/-- IDCODE captures the identification code; die revision and manufacturer identity are not given. (DESIGN CHOICE,
log 107) -/
def State.tapIdcode (s : State) : State :=
  let s1 := s.tapLoad 1
  if s1.dbg.tap = some 1 then
    let (v, s2) := s1.fresh
    { s2 with dbg := { s2.dbg with
      dr := BitVec.ofNat 64 (1 + v.toNat % 2 ^ 11 * 2 + 0x5C08 * 2 ^ 12 + s2.obj 0x2000 4 % 16 * 2 ^ 28) } }
  else s1

/-- SAMPLE/PRELOAD captures the module's pins, which are outside the model. (DESIGN CHOICE, log 107) -/
def State.tapSample (s : State) : State :=
  let s1 := s.tapLoad 2
  if s1.dbg.tap = some 2 then
    let (v, s2) := s1.fresh
    { s2 with dbg := { s2.dbg with dr := v } }
  else s1

end Sys2Proof.Machine
end

