-- ==== Sys2Proof/Machine/DebugCmd.lean ====
section
/-! DEFINITION. Digest, trace, probe and test access port commands (R459 to R474). -/

namespace Sys2Proof.Machine

/-- DIGEST_DRAIN (R461). -/
def execDigestDrain (b : BasinId) (s : State) : Host.Outcome State Fault Refusal := .next (s.digestDrain b)

/-- DIGEST_ACK: a towpath write frees the `n` oldest records of a tile's ring (R473). -/
def execDigestAck (t : TileId) (n : Nat) (s : State) : Host.Outcome State Fault Refusal :=
  .next (s.towpathAsk t (fun s => s.regWrite t 0x80c n none))

/-- DIGEST_CAPTURE_ARM (R462). -/
def execDigestCaptureArm (b : BasinId) (epoch : Word64) (s : State) : Host.Outcome State Fault Refusal :=
  .next (s.captureArm b epoch.toNat)

/-- BANK_CAPTURE_ARM (R462). -/
def execBankCaptureArm (b : BasinId) (xy : BitVec 16) (s : State) : Host.Outcome State Fault Refusal :=
  .next (s.bankArm b xy.toNat)

/-- TRACE_MARK: a write to the register sends a MARK record where the kind is enabled (R469). -/
def execTraceMark (t : TileId) (val : Word32) (s : State) : Host.Outcome State Fault Refusal :=
  .next (s.towpathAsk t (fun s => s.regWrite t 0x2f00 val.toNat none))

/-- HS_SEL_WRITE: a lane is selected and the handshake counters clear (R468). -/
def execHsSelWrite (t : TileId) (val : Word32) (s : State) : Host.Outcome State Fault Refusal :=
  .next (s.towpathAsk t (fun s => s.regWrite t 0x990 val.toNat none))

/-- PROBE_SELECT (R464). -/
def execProbeSelect (s : State) : Host.Outcome State Fault Refusal := .next s.probeSelect

/-- TRACE_STORE_CLEAR (R474). -/
def execTraceStoreClear (s : State) : Host.Outcome State Fault Refusal :=
  .next (({ s with dbg := { s.dbg with trace := [] } } : State).setObj 0x2D30 1 0)

/-- BYPASS (R471). -/
def execBypass (s : State) : Host.Outcome State Fault Refusal := .next (s.tapLoad 0)

/-- IDCODE (R471). -/
def execIdcode (s : State) : Host.Outcome State Fault Refusal := .next s.tapIdcode

/-- SAMPLE/PRELOAD (R471). -/
def execSamplePreload (s : State) : Host.Outcome State Fault Refusal := .next s.tapSample

/-- EXTEST (R471). -/
def execExtest (s : State) : Host.Outcome State Fault Refusal := .next (s.tapLoad 3)

/-- CLAMP (R471). -/
def execClamp (s : State) : Host.Outcome State Fault Refusal := .next (s.tapLoad 4)

/-- HIGHZ (R471). -/
def execHighz (s : State) : Host.Outcome State Fault Refusal := .next (s.tapLoad 5)

end Sys2Proof.Machine
end

