-- ==== Sys2Proof/Machine/Links.lean ====
section
/-! DEFINITION. Link commands: qualification, flits, barges, control messages and the events of the cages (R228 to R263,
R480, R483, R491). -/

namespace Sys2Proof.Machine

/-- A port enable write starts qualification or disables the port; a value above 1 is clamped (R257, R262, R302). -/
def execPortEnable (p : PortId) (en : BitVec 8) (s : State) : Host.Outcome State Fault Refusal :=
  let s1 := if 1 < en.toNat then s.logClamp ⟨portObj p, 2, 0, 0, 0xFF, 0xFF, en.toNat, 1, 0, 255, false⟩ else s
  .next (s1.portEnable p en.toNat)

/-- A lane that an attempt has not qualified adds a PORT_LANE entry (R380). -/
def State.badLanes (s : State) (p : Nat) : State :=
  let q := s.port p
  (List.range 8).foldl (fun a l =>
    let a1 := if bitOf q.qualRx l then a else a.addLedger 0xB none p l false
    if bitOf q.qualTx l then a1 else a1.addLedger 0xB none p (l + 8) false) s

/-- A qualification attempt ends on the lanes that passed; `ok` tells that the flit run of step 4 passed (R257).
(DEDUCED, log 117) -/
def execQualifyEnd (p : PortId) (tx rx : BitVec 8) (ok : Bool) (s : State) : Host.Outcome State Fault Refusal :=
  let st := s.portState p
  if (st ≠ 1 ∧ st ≠ 2) ∨ s.link.refLost then .next s
  else
    let s0 := s.updPort p (fun q => { q with qualTx := q.qualTx &&& tx.toNat, qualRx := q.qualRx &&& rx.toNat })
    let s1 := s0.badLanes p
    let q := s1.port p
    match s1.laneMode p (s1.portMinor p) with
    | none => if q.peer.isSome then .next ((s1.portFailed p).addLedger 0xC none p 3 false) else .next (again s1 2)
    | some w => if ok && q.helloDone then .next (s1.portReady p w) else .next (again s1 4)
where
  /-- A failed attempt: the whole procedure repeats, up to three times. -/
  again (s : State) (step : Nat) : State :=
    let n := (s.port p).attempts + 1
    let s1 := s.updPort p (fun q => { q with attempts := n })
    if 3 ≤ n then (s1.portFailed p).addLedger 0xC none p step false else s1.beginAttempt p

/-- A lane that does not complete training within 500 ms is not qualified (R257). -/
def execLaneTrainTimeout (p : PortId) (lane : Fin 8) (s : State) : Host.Outcome State Fault Refusal :=
  if s.portState p = 1 then
    let m := 255 - 2 ^ lane.val
    .next (s.updPort p (fun q => { q with qualTx := q.qualTx &&& m, qualRx := q.qualRx &&& m }))
  else .next s

/-- Whether failed retrains of the port are not counted: the reference or the medium is absent (R483, R491). -/
def State.mediumOut (s : State) (p : Nat) : Bool :=
  s.link.refLost || Map.get s.link.cageOut false (p / 4) || Map.get s.link.cageOff false (p / 4)

/-- Training ends: the port is READY and replays from the oldest unacknowledged flit, or links up anew; three failed
retrains in a row fail it (R238, R258). -/
def execRetrainEnd (p : PortId) (ok : Bool) (s : State) : Host.Outcome State Fault Refusal :=
  if s.portState p ≠ 4 ∨ Map.get s.link.fwRestart false p = true then .next s
  else if ok then
    if s.mediumOut p then .next s
    else
      let s1 := (s.setObj (portObj p) 1 3).updPort p (fun q => { q with retry := 0, retrainFails := 0, replays := 0 })
      let q := s1.port p
      if q.newLink then .next (s1.newLinkUp p)
      else
        let s2 := match s1.laneMode p (s1.portMinor p) with
          | some w => (s1.setObj (portObj p) 3 w).setObj (portObj p) 4
              (lowestLanes (helloField (q.peer.getD 0) 31 24 &&& q.qualTx) w + 256 * lowestLanes q.qualRx w)
          | none => s1
        .next ((s2.updPort p Port.pumpCtrl).replayFrom p q.buf)
  else if s.mediumOut p then .next s
  else
    let n := (s.port p).retrainFails + 1
    let s1 := s.updPort p (fun q => { q with retrainFails := n })
    .next (if 3 ≤ n then s1.portFailed p else s1)

/-- A lane is dropped: the port retrains at the next mode that the remaining lanes allow (R253, R260). -/
def execLaneDrop (p : PortId) (lane : Fin 8) (s : State) : Host.Outcome State Fault Refusal :=
  let st := s.portState p
  if (st ≠ 3 ∧ st ≠ 4) ∨ !bitOf (s.port p).qualRx lane then .next s
  else
    let s0 := (s.updPort p (fun q => { q with qualRx := q.qualRx &&& (255 - 2 ^ lane.val) })).agentIrq 0x143 p
    let s1 : State := { s0 with link := { s0.link with laneDrops := s0.link.laneDrops + 1 } }
    match s1.laneMode p (s1.portMinor p) with
    | none => .next (s1.portFailed p)
    | some w => .next (((s1.startRetrain p).updPort p (fun q => { q with modeDone := false })).sendCtrl p 6
        (BitVec.ofNat 240 (w + 2 ^ 4 * lowestLanes (s1.port p).qualRx w)))

/-- Loss of lock on a lane causes a retrain (R258). -/
def execLaneLossOfLock (p : PortId) (_lane : Fin 8) (s : State) : Host.Outcome State Fault Refusal :=
  .next (s.startRetrain p)

/-- FLIT_RECEIVE: `rs` tells that the flit's codeword decoded (R236, R239). (DESIGN CHOICE, log 123) -/
def execFlitReceive (p : PortId) (f : Flit) (rs : Bool) (s : State) : Host.Outcome State Fault Refusal :=
  .next (s.flitReceive p f rs)

/-- HEAD_FLIT (R243). -/
def execHeadFlit (p : PortId) (s : State) : Host.Outcome State Fault Refusal := .next (s.headFlit p)

/-- ROW_FLIT (R243). -/
def execRowFlit (p : PortId) (s : State) : Host.Outcome State Fault Refusal := .next (s.rowFlit p)

/-- BARGE_ROW_LAND (R243). -/
def execBargeRowLand (p : PortId) (ch : BitVec 8) (s : State) : Host.Outcome State Fault Refusal :=
  .next (s.bargeRowLand p ch.toNat)

/-- TAIL_FLIT (R245). -/
def execTailFlit (p : PortId) (s : State) : Host.Outcome State Fault Refusal := .next (s.tailFlit p)

/-- BARGE_COMPLETION_SEND (R245). -/
def execBargeCompletionSend (p : PortId) (ch : BitVec 8) (s : State) : Host.Outcome State Fault Refusal :=
  .next (s.bargeComplete p ch.toNat)

/-- COMPLETION_FLIT (R250). -/
def execCompletionFlit (p : PortId) (s : State) : Host.Outcome State Fault Refusal := .next (s.completionFlit p)

/-- BOUND_BARGE_RELEASE (R247). -/
def execBoundBargeRelease (p : PortId) (ch : BitVec 8) (s : State) : Host.Outcome State Fault Refusal :=
  .next (s.boundRelease p ch.toNat)

/-- DESCRIPTOR_READ (R249). -/
def execDescriptorRead (p : PortId) (s : State) : Host.Outcome State Fault Refusal := .next (s.descriptorRead p)

/-- FLIT_GATE_RELEASE (R393). -/
def execFlitGateRelease (p : PortId) (s : State) : Host.Outcome State Fault Refusal := .next (s.flitRelease p)

/-- ACK (R238, R241). -/
def execAck (p : PortId) (body : BitVec 240) (s : State) : Host.Outcome State Fault Refusal := .next (s.ctrlIn p 1 body)

/-- NAK (R238, R241). -/
def execNak (p : PortId) (body : BitVec 240) (s : State) : Host.Outcome State Fault Refusal := .next (s.ctrlIn p 2 body)

/-- CREDIT (R237, R241). -/
def execCredit (p : PortId) (body : BitVec 240) (s : State) : Host.Outcome State Fault Refusal :=
  .next (s.ctrlIn p 3 body)

/-- HELLO (R241, R254). -/
def execHello (p : PortId) (body : BitVec 240) (s : State) : Host.Outcome State Fault Refusal :=
  .next (s.ctrlIn p 4 body)

/-- SYNC (R241, R256). -/
def execSync (p : PortId) (body : BitVec 240) (s : State) : Host.Outcome State Fault Refusal := .next (s.ctrlIn p 5 body)

/-- MODE (R241, R253). -/
def execMode (p : PortId) (body : BitVec 240) (s : State) : Host.Outcome State Fault Refusal := .next (s.ctrlIn p 6 body)

/-- Every 1 µs an unanswered HELLO, SYNC or MODE is repeated (R241). -/
def execCtrlRepeat (p : PortId) (s : State) : Host.Outcome State Fault Refusal :=
  let q := s.port p
  if !s.linkAlive p then .next s
  else if !q.helloDone then .next (s.sendCtrl p 4 (s.helloBody p false))
  else if 2 ≤ s.portMinor p ∧ s.portState p = 3 ∧ !q.syncAck then .next (s.sendSync p)
  else if !q.modeDone then
    let w := s.obj (portObj p) 3
    .next (s.sendCtrl p 6 (BitVec.ofNat 240 (w + 2 ^ 4 * lowestLanes q.qualRx w)))
  else .next s

/-- The receiver acknowledges every flit accepted so far (R239). -/
def execAckSend (p : PortId) (s : State) : Host.Outcome State Fault Refusal :=
  let q := s.port p
  if s.linkAlive p ∧ 0 < q.unacked then
    .next ((s.updPort p (fun q => { q with unacked := 0 })).sendCtrl p 1 (BitVec.ofNat 240 ((q.rxSeq + 16383) % 16384)))
  else .next s

/-- The oldest unacknowledged flit is older than ACK_TIMEOUT: REPLAY (R238). -/
def execAckTimeout (p : PortId) (s : State) : Host.Outcome State Fault Refusal :=
  let q := s.port p
  if s.portState p = 3 ∧ q.retry = 0 ∧ !q.buf.isEmpty then .next (s.replayFrom p q.buf) else .next s

/-- A write of the selected channel's transmit (2) or expected (3) number: refused and logged while its port is READY
(R263). -/
def State.channelSeqWrite (s : State) (sub v : Nat) : State :=
  let sel := s.obj 0x2450 1
  let p := sel / 256 % 64
  let c := sel % 256
  let q := s.port p
  let cur := if sub = 2 then Map.get q.nextTx 0 c else Map.get q.expRx 0 c
  if sub ≠ 2 ∧ sub ≠ 3 then s
  else if s.portState p = 3 then s.logClamp ⟨0x2450, sub, s.srv.src, 0, 0xFF, 0xFF, v, cur, 0, 255, false⟩
  else s.updPort p (fun q => { q with
    nextTx := if sub = 2 then Map.put q.nextTx 0 c v else q.nextTx,
    expRx := if sub = 3 then Map.put q.expRx 0 c v else q.expRx,
    chState := Map.put q.chState 0 c 0 })

/-- CHANNEL_SEQ_WRITE (R263). -/
def execChannelSeqWrite (sub : BitVec 8) (val : Word32) (s : State) : Host.Outcome State Fault Refusal :=
  .next (s.channelSeqWrite sub.toNat val.toNat)

/-- LREF has no edge for 10 µs: every port enters retraining (R483). -/
def execLinkRefLost (s : State) : Host.Outcome State Fault Refusal :=
  if s.link.refLost then .next s
  else
    let s1 := ({ s with link := { s.link with refLost := true } } : State).agentAlarm 0x148 0 16
    .next ((List.range 64).foldl (fun a p => a.startRetrain p) s1)

/-- LREF is back: ports resume their retrains, and abandoned qualifications restart (R483, R491). -/
def execLinkRefReturn (s : State) : Host.Outcome State Fault Refusal :=
  if s.link.refLost then
    let s1 := ({ s with link := { s.link with refLost := false } } : State).agentAlarm 0x148 1 16
    .next ((List.range 64).foldl (fun a p =>
      if a.portState p = 1 ∨ a.portState p = 2 then a.beginAttempt p else a) s1)
  else .next s

/-- The ports of a cage. -/
def cagePorts (c : Nat) : List Nat := (List.range 4).map (fun j => 4 * c + j)

/-- PRES_N of a cage goes high: its READY ports retrain and hold their state (R491). -/
def execCageMediumRemoved (cage : Fin 16) (s : State) : Host.Outcome State Fault Refusal :=
  let s1 : State := { s with link := { s.link with cageOut := Map.put s.link.cageOut false cage true } }
  .next ((cagePorts cage).foldl (fun a p => a.startRetrain p) s1)

/-- PRES_N goes low: the cage's switch closes, and its enabled ports qualify and link up (R480, R491). -/
def execCageMediumInserted (cage : Fin 16) (s : State) : Host.Outcome State Fault Refusal :=
  let s1 : State := { s with link := { s.link with
    cageOut := Map.put s.link.cageOut false cage false, cageOff := Map.put s.link.cageOff false cage false } }
  .next ((cagePorts cage).foldl (fun a p => if a.obj (portObj p) 2 = 1 then a.portEnable p 1 else a) s1)

/-- VAUX_C of a cage trips: its switch opens and its READY ports retrain (R480, R491). -/
def execCagePower (cage : Fin 16) (s : State) : Host.Outcome State Fault Refusal :=
  let s1 : State := { s with link := { s.link with cageOff := Map.put s.link.cageOff false cage true } }
  .next ((cagePorts cage).foldl (fun a p => a.startRetrain p) (s1.agentIrq 0x149 cage))

end Sys2Proof.Machine
end

