-- ==== Sys2Proof/Machine/ObjRead.lean ====
section
/-! DEFINITION. What an upload of an entry of the object dictionary returns (R57, R203, R263, R299, R304, R310, R367, R434,
R440, R454, R461, R462, R474). -/

namespace Sys2Proof.Machine

/-! ### The shape of the dictionary -/

/-- The subindices of an index that have rows of their own, in order. -/
def subsOf (index : Nat) : List Nat :=
  ((objTable.filter (fun r => decide (r.index ≤ index) && decide (index < r.index + r.indices))).map (fun r =>
    (List.range r.subs).map (r.sub + ·))).flatten

/-- The highest subindex of an index. -/
def maxSub (index : Nat) : Nat := (subsOf index).foldl max 0

/-- Length in bytes of an entry's value; the stated length of a string. -/
def entryLen (index sub ty : Nat) : Nat :=
  if ty = 11 then (if index = 0x2000 ∧ sub = 1 then 16 else 32)
  else if ty = 12 then
    if index = 0x2F10 then 32
    else if index = 0x2A00 then 144
    else if index = 0x2C40 then 256
    else if index = 0x2D30 then 4096
    else if 0x2C10 ≤ index ∧ index < 0x2C20 then (if sub = 7 then 32 else 128)
    else 16
  else objSize ty

/-! ### Numeric entries -/

/-- Banks asleep in the tiles of the shape (R171). -/
def State.banksAsleep (s : State) : Nat :=
  s.tiles.foldl (fun a e => a + (e.2.banks.filter (fun b => decide (b.2.sleep = 3) || decide (b.2.sleep = 4))).length) 0

/-- An entry of the selected channel (R263). -/
def State.channelEntry (s : State) (sub : Nat) : Nat :=
  let sel := s.obj 0x2450 1
  let c := sel % 256
  let q := s.port (sel / 256)
  match sub with
  | 2 => Map.get q.nextTx 0 c
  | 3 => Map.get q.expRx 0 c
  | 4 => Map.get q.lastRep 0 c - 1
  | 5 => Map.get q.chState 0 c
  | _ => min 1 (q.tx.filter (fun x => decide (hdrChannel x.desc = c))).length

/-- An entry of the selected seam lane (R195, R203). (DEDUCED, log 61) -/
def State.seamEntry (s : State) (sub : Nat) : Nat :=
  let v := s.seam (s.obj 0x2630 1)
  match sub with
  | 2 => min 8 v.wires.length
  | 0xB => if v.state = 3 then 1 else v.state
  | 0xC => v.counts.foldl (fun a e => max a e.2) 0
  | 0xD => v.hs
  | _ => v.wires.getD (sub - 3) 0xFFFF

/-- Lock state of a basin: 0 running, 1 awaiting a wave, 2 held after EPOCH_LEAK, 3 held on request. -/
def State.lockState (s : State) (b : Nat) : Nat :=
  if s.heldByRequest b then 3
  else if s.basinRuns b && s.allAtLock b then
    (match (s.basin b).result with
     | some r => if r.diff ≠ 0 then 2 else 1
     | none => 1)
  else 0

/-- The least EPOCH_BEAT of a basin's tiles (R57). -/
def State.leastBeat (s : State) (b : Nat) : Nat :=
  match s.basinTiles b with
  | [] => 0
  | t :: rest => rest.foldl (fun a u => min a (s.regN u 0xf08)) (s.regN t 0xf08)

/-- Levels of an image as two bytes. -/
def levelWord (i : UpdateImage) : Nat := i.lo % 256 + 256 * (i.hi % 256)

/-- The bad physical tiles under R370. (DEDUCED, log 61) -/
def State.badCount (s : State) : Nat :=
  (List.range 8).foldl (fun a f => a + (s.badTiles (if s.obj 0x2E00 8 = 1 then 7 else 3) f).eraseDups.length) 0

/-- Whether the spec gives a numeric entry per module (R309, R310). -/
def isPerModule (index sub : Nat) : Bool :=
  [(0x1018, 1), (0x1018, 3), (0x1018, 4), (0x2000, 3), (0x2000, 4)].contains (index, sub)

/-- The value of a numeric entry, computed where the model keeps its source and not the entry. (DESIGN CHOICE, log
59; DEDUCED, log 61) -/
def State.entryNum (s : State) (index sub : Nat) : Nat :=
  if isPerModule index sub then
    (Config.perModule (objKey index sub)).toNat % 2 ^ (if index = 0x1018 then 32 else if sub = 4 then 16 else 64)
  else if index = 0x1C33 then s.obj 0x1C32 sub
  else if index = 0x2000 ∧ sub = 9 then s.srv.ms
  else if index = 0x2450 ∧ 2 ≤ sub then s.channelEntry sub
  else if index = 0x2451 ∧ sub = 3 then ((List.range 64).filter (fun p => decide (s.portState p = 3))).length
  else if index = 0x2451 ∧ sub = 4 then
    ((List.range 64).filter (fun p => decide (s.portState p = 3) && decide (s.obj (portObj p) 3 < 8))).length
  else if 0x2610 ≤ index ∧ index < 0x2620 ∧ sub = 3 then s.leastBeat (index - 0x2610)
  else if 0x2610 ≤ index ∧ index < 0x2620 ∧ sub = 4 then s.leastPos (index - 0x2610)
  else if 0x2610 ≤ index ∧ index < 0x2620 ∧ sub = 0xB then s.lockState (index - 0x2610)
  else if 0x2610 ≤ index ∧ index < 0x2620 ∧ sub = 0xC then s.oldestTarget (index - 0x2610)
  else if index = 0x2630 ∧ 2 ≤ sub then s.seamEntry sub
  else if index = 0x2631 ∧ sub = 1 then (s.seams.filter (fun e => !e.2.wires.isEmpty)).length
  else if index = 0x2631 ∧ sub = 2 then (s.seams.filter (fun e => decide (e.2.state = 2))).length
  else if index = 0x2700 ∧ sub = 6 then s.banksAsleep
  else if 0x2B10 ≤ index ∧ index < 0x2B14 ∧ sub = 4 then
    (if 2 ≤ index - 0x2B10 then 0 else levelWord (s.activeImg (index - 0x2B10)))
  else if 0x2B10 ≤ index ∧ index < 0x2B14 ∧ sub = 5 then
    (match s.stagedImg (index - 0x2B10) with | some i => levelWord i | none => 0)
  else if index = 0x2B10 ∧ sub = 6 then (s.activeImg 0).mirror
  else if index = 0x2D20 ∧ 7 ≤ sub then s.regN s.probeTile (0x994 + 4 * (sub - 7))
  else if index = 0x2E00 ∧ sub = 9 then s.badCount
  else if index = 0x2E00 ∧ sub = 0xC then s.seams.foldl (fun a e => a + e.2.wires.length) 0
  else if index = 0x2E02 ∧ sub = 3 then (s.boot.ledger.filter (fun e => e.removal)).length
  else if index = 0x2F00 ∧ sub = 3 then (s.srv.batches.filter ObjBatch.open_).length
  else s.obj index sub

/-! ### Strings -/

/-- Text of a VISIBLE_STRING entry (R309, R310, R454). (DESIGN CHOICE, log 59) -/
def State.entryText (s : State) (index sub : Nat) : List Nat :=
  let l : List Nat :=
    if index = 0x1008 then [0x53, 0x63, 0x65, 0x6C, 0x65, 0x74, 0x20, 0x53, 0x43, 0x38]
    else if index = 0x1009 ∨ (index = 0x2000 ∧ sub = 2) then
      (Config.perModuleText (objKey index sub)).map BitVec.toNat
    else if index = 0x100A then (s.activeImg 0).version
    else if index = 0x2000 ∧ sub = 1 then [0x5A, 0x56, 0x53, 0x2D, 0x53, 0x43, 0x38, 0x2D, 0x4D, 0x34, 0x38]
    else if 0x2B10 ≤ index ∧ index < 0x2B14 then
      (match sub with
       | 1 => (s.activeImg (index - 0x2B10)).version
       | 2 => (match s.stagedImg (index - 0x2B10) with | some i => i.version | none => [])
       | _ => (match s.rollbackImg (index - 0x2B10) with | some i => i.version | none => []))
    else if 0x2B20 ≤ index ∧ index < 0x2B60 then Map.get s.upd.versions [] (index - 0x2B20)
    else if 0x2B60 ≤ index ∧ index < 0x2B68 then Map.get s.upd.versions [] (64 + (index - 0x2B60))
    else []
  (l.map (· % 256)).take (if index = 0x2000 ∧ sub = 1 then 16 else 32)

/-- A clamp record (R304). -/
def ClampRec.bytes (r : ClampRec) : List Nat :=
  bytesOf r.index 2 ++ [r.sub % 256, r.src % 256] ++ bytesOf r.off 2 ++ [r.x % 256, r.y % 256] ++ bytesOf r.written 8 ++
  bytesOf r.applied 8 ++ bytesOf r.lock 7 ++ [r.basin % 256]

/-- A batch record (R310). (DEDUCED, log 61) -/
def ObjBatch.bytes (k : ObjBatch) : List Nat :=
  [k.id % 256, k.basin % 256, k.state, min k.entries.length 255] ++ bytesOf k.target 8 ++ bytesOf k.deferrals 4

/-- A ledger entry (R367). -/
def LedgerEntry.bytes (e : LedgerEntry) : List Nat :=
  [e.kind % 256, b2n e.excludes + 2 * b2n e.service + 4 * b2n e.removal] ++
  bytesOf (match e.tile with | some p => pName p | none => 0xFFFF) 2 ++ bytesOf e.item 2 ++ bytesOf e.sub 2 ++
  bytesOf e.powerOn 4 ++ bytesOf e.secs 4

/-- A region record (R434). -/
def Region.bytes (r : Region) : List Nat :=
  bytesOf r.base 2 ++ bytesOf r.len 2 ++ [r.method, r.used] ++ bytesOf r.dirty 4 ++ [0, 0, 0, 0, 0, 0]

/-- A digest log record (R461). -/
def DigestRec.bytes (r : DigestRec) : List Nat :=
  bytesOf r.epoch 8 ++ bytesOf r.tag 2 ++ [r.flags] ++ bytesOf r.tiles 2 ++ [0, 0, 0] ++ bytesOf r.sum 8 ++ bytesOf 0 8

/-- The captured digest of a tile, from whichever basin captured it. -/
def State.capturedDigest (s : State) (t : Nat) : Nat :=
  ((s.basins.findSome? (fun e => (e.2.digests.tiles.find? (fun d => decide (d.1 = t))).map (·.2.toNat)))).getD 0

/-- The captured tile digests of berth `h` (R474). -/
def State.captureBytes (s : State) (h : Nat) : List Nat :=
  ((berthAll h).map (fun t => [tx t, ty t, 0, 0, 0, 0, 0, 0] ++ bytesOf (s.capturedDigest t) 8)).flatten

/-- The bytes of the trace store, oldest record first. -/
def State.traceStore (s : State) : List Nat :=
  (s.dbg.trace.map (fun r => bytesOf r.1 8 ++ (r.2.map (fun w => bytesOf w 4)).flatten)).flatten

/-- Bytes of an OCTET_STRING entry; a record that does not exist reads as zeros. -/
def State.entryOctets (s : State) (index sub : Nat) : List Nat :=
  if index = 0x2A00 then
    (List.range 144).map (fun h => match s.basinOf ((berthAll h).headD 0) with | some b => b | none => 0xFF)
  else if index = 0x2F01 then (match s.srv.batches.reverse[sub - 1]? with | some k => k.bytes | none => List.replicate 16 0)
  else if index = 0x2F10 then (match Map.get s.srv.clamps none sub with | some r => r.bytes | none => List.replicate 32 0)
  else if index = 0x2E02 then (match s.boot.ledger[s.obj 0x2E02 4]? with | some e => e.bytes | none => List.replicate 16 0)
  else if 0x2940 ≤ index ∧ index < 0x2950 then
    (match (s.basin (index - 0x2940)).image.regions[sub - 2]? with | some r => r.bytes | none => List.replicate 16 0)
  else if 0x2C10 ≤ index ∧ index < 0x2C20 ∧ sub = 7 then
    (match (s.basin (index - 0x2C10)).digests.recs.reverse[s.obj index 6]? with | some r => r.bytes | none => List.replicate 32 0)
  else if 0x2C10 ≤ index ∧ index < 0x2C20 then
    ((List.range 16).map (fun k => bytesOf ((s.basin (index - 0x2C10)).digests.banks.getD k 0) 8)).flatten
  else if index = 0x2C40 then s.captureBytes (sub - 1)
  else if index = 0x2D30 then (s.traceStore.drop (s.obj 0x2D30 2)).take 4096
  else []

/-! ### Uploads (R296, R297, R310) -/

/-- The bytes of an entry that exists. -/
def State.entryBytes (s : State) (index sub : Nat) : List Nat :=
  match findObj index sub with
  | none => [maxSub index]
  | some r =>
    if r.ty = 11 then s.entryText index sub
    else if r.ty = 12 then s.entryOctets index sub
    else bytesOf (s.entryNum index sub) (objSize r.ty)

/-- An upload of a clamp record marks it read. -/
def State.markRead (s : State) (index sub : Nat) : State :=
  if index = 0x2F10 then
    match Map.get s.srv.clamps none sub with
    | some r => { s with srv := { s.srv with clamps := Map.put s.srv.clamps none sub (some { r with read := true }) } }
    | none => s
  else s

/-- Why an entry cannot be read or written at all: its index or subindex does not exist; 0 otherwise (R296, R311). -/
def missing (index sub : Nat) : Nat :=
  if !hasIndex index then 0x06020000
  else if sub ≠ 0 ∧ findObj index sub = none then 0x06090011
  else 0

/-- An upload of one entry: abort code, bytes and the state after it. -/
def State.upload (s : State) (index sub : Nat) : SdoRsp × State :=
  let a := missing index sub
  if a ≠ 0 then (⟨a, []⟩, s) else (⟨0, s.entryBytes index sub⟩, s.markRead index sub)

/-- The subindices that a complete access covers. (DEDUCED, log 56) -/
def completeSubs (index : Nat) (zero : Bool) : List Nat :=
  if zero then 0 :: (subsOf index).filter (fun j => decide (j ≠ 0)) else (subsOf index).filter (fun j => decide (j ≠ 0))

/-- A complete-access upload: every subindex in order. -/
def State.uploadAll (s : State) (index : Nat) (zero : Bool) : SdoRsp × State :=
  if !hasIndex index then (⟨0x06020000, []⟩, s)
  else
    let l := completeSubs index zero
    (⟨0, (l.map (fun j => s.entryBytes index j)).flatten⟩, l.foldl (fun a j => a.markRead index j) s)

/-! ### SDO Information (R288) -/

/-- CoE code of a data type. (PRESUMED, log 60) -/
def coeType (ty : Nat) : Nat :=
  match ty with
  | 1 => 5 | 2 => 6 | 4 => 7 | 8 => 0x1B | 9 => 8 | 10 => 4 | 11 => 9 | _ => 0xA

/-- Access bits of an entry: readable in every state, and writable in PREOP (bit 3), SAFEOP (bit 4) and OP (bit 5).
(PRESUMED, log 60) -/
def coeAccess (acc : Nat) : Nat := match acc with | 0 => 7 | 3 => 0xF | _ => 0x3F

/-- The description of an entry: data type, bit length and access. (PRESUMED, log 60) -/
def State.describe (_ : State) (index sub : Nat) : SdoRsp :=
  let a := missing index sub
  if a ≠ 0 then ⟨a, []⟩
  else match findObj index sub with
    | some r => ⟨0, bytesOf (coeType r.ty) 2 ++ bytesOf (8 * entryLen index sub r.ty) 2 ++ bytesOf (coeAccess r.acc) 2⟩
    | none => ⟨0, bytesOf 5 2 ++ bytesOf 8 2 ++ bytesOf 7 2⟩

end Sys2Proof.Machine
end

