-- ==== Sys2Proof/Machine/ObjWrite.lean ====
section
/-! DEFINITION. Writes of the object dictionary by SDO, by the host mailbox and by configuration blocks (R279, R294 to R303,
R305, R352, R369). -/

namespace Sys2Proof.Machine

/-! ### Process data layouts (R293, R294) -/

/-- Objects that an assignment object of the RxPDO (`tx` false) or the TxPDO names; 0 names none. (PRESUMED, log 55) -/
def pdoAssigned (rd : Nat → Nat → Nat) (tx : Bool) : List Nat :=
  (if tx then (List.range 8).map (fun k => rd 0x1C13 (k + 1)) else (List.range 2).map (fun k => rd 0x1C12 (k + 1))).filter
    (fun m => decide (m ≠ 0))

/-- The entries that a mapping object maps, as it holds them. (PRESUMED, log 55) -/
def pdoMapped (rd : Nat → Nat → Nat) (m : Nat) : List Nat :=
  ((List.range (min 64 (rd m 0))).map (fun k => rd m (k + 1))).filter (fun v => decide (v ≠ 0))

/-- The entries of a PDO in order. -/
def pdoEntries (rd : Nat → Nat → Nat) (tx : Bool) : List Nat := ((pdoAssigned rd tx).map (fun m => pdoMapped rd m)).flatten

/-- Why a write of `v` to a PDO object is not possible, 0 where it is (R294). (PRESUMED, log 55) -/
def State.pdoAbort (s : State) (index sub v : Nat) : Nat :=
  let rd (i j : Nat) : Nat := if i = index ∧ j = sub then v else s.obj i j
  let tx := decide (0x1A00 ≤ index ∧ index ≤ 0x1A07) || decide (index = 0x1C13)
  let total := (pdoEntries rd tx).foldl (fun a e => a + e % 256 / 8) 0
  let long := decide ((if tx then 1024 else 64) < total)
  if isPdoMap index then
    if sub = 0 then (if 64 < v ∨ long = true then 0x06040042 else 0)
    else if v = 0 then 0
    else
      let i := v / 65536
      match findObj i (v / 256 % 256) with
      | none => 0x06040041
      | some r =>
        if i / 4096 ≠ (if tx then 6 else 7) then 0x06040041
        else if v % 8 ≠ 0 then 0x06040043
        else if v % 256 ≠ 8 * objSize r.ty then 0x06040041
        else if long then 0x06040042 else 0
  else if index = 0x1C12 ∨ index = 0x1C13 then
    if v = 0 then 0
    else if v < (if tx then 0x1A00 else 0x1600) ∨ (if tx then 0x1A07 else 0x1601) < v then 0x06040041
    else if long then 0x06040042 else 0
  else 0

/-- What the layouts in force become at the transition to SAFEOP: object keys in order. -/
def State.pdoKeys (s : State) (tx : Bool) : List Nat := (pdoEntries s.obj tx).map (fun e => e / 256)

/-! ### Set-points (R295) -/

/-- A chip budget and a set-point sequence take effect, whichever is given: a changed sequence makes set-points present,
and a budget that comes while they are absent waits for that change. -/
def State.setpoints (s : State) (a c : Option Nat) : State :=
  let fresh := match c with | some n => decide (n % 2 ^ 32 ≠ s.obj 0x7000 2) | none => false
  let a1 := a.map (fun v => clampReal 0 0x46192000 0x46192000 (v % 2 ^ 32))
  let s1 := match c with | some n => s.setObj 0x7000 2 (n % 2 ^ 32) | none => s
  if fresh || s.srv.present then
    let b := match a1 with | some v => some v | none => if fresh then s.srv.held else none
    let s2 : State := { s1 with srv := { s1.srv with present := true, held := if fresh then none else s.srv.held } }
    match b with
    | some v => s2.setObj 0x7000 1 v
    | none => s2
  else match a1 with
    | some v => { s1 with srv := { s1.srv with held := some v } }
    | none => s1

/-- Set-points become absent: the notice is sent once (R295, R308). -/
def State.setpointsLost (s : State) : State :=
  if s.srv.present then
    ({ s with srv := { s.srv with present := false } } : State).agentIrq 0x180 0
  else s

/-! ### Entries whose write acts (R262, R263, R310, R324, R369, R381, R412, R421, R427, R438, R444, R462, R464, R474) -/

/-- Empties the clamp log (R310). -/
def State.clearClamps (s : State) : State :=
  ({ s with srv := { s.srv with clamps := [] } } : State).setObj 0x2F11 2 1

/-- Clears bits of the configuration status. -/
def State.clearStatus (s : State) (v : Nat) : State :=
  s.setObj 0x2F00 1 (s.obj 0x2F00 1 - (s.obj 0x2F00 1 &&& (v % 16)))

/-- A reset is requested through 0x2A80.02 for the target of 0x2A80.01. -/
def State.resetObj (s : State) (level : Nat) : State :=
  let s0 := s.setObj 0x2A80 2 level
  let v := s.obj 0x2A80 1
  let x := v % 256
  let y := v / 256
  match level with
  | 1 => if x < 48 ∧ y < s.shapeRows then s0.askResetTile (tileAt x y) else s0.refuseReset 1
  | 2 => if x < 12 ∧ y < s.shapeRows / 4 then s0.askResetBerth (12 * y + x) else s0.refuseReset 2
  | 3 => s0.askResetBasin (v % 16)
  | _ => s0.askResetDevice

/-- A service command with the argument of 0x2E01.03. (DEDUCED, log 62) -/
def State.serviceObj (s : State) (cmd : Nat) : State :=
  let s0 := s.setObj 0x2E01 1 cmd
  let a := s.obj 0x2E01 3
  match cmd with
  | 1 => s0.removeEntry a
  | 2 => if a ≠ 0 ∧ s0.unlocked = true then s0.refuseService 2 3 else s0.bringUp
  | 3 => if a ≠ 0 ∧ s0.unlocked = true then s0.refuseService 3 3 else s0.powerDown
  | 4 => s0.cancelRemoval a
  | _ => s0

/-- An update command. -/
def State.updateObj (s : State) (cmd : Nat) : State :=
  match cmd with
  | 1 => s.updateCommand false
  | 2 => s.updateCommand true
  | 3 => s.updateCancel
  | 4 => s.lkHandover
  | _ => s.setObj 0x2B00 1 cmd

/-- A trier pause that was requested is withdrawn. (DEDUCED, log 62) -/
def State.pauseWithdraw (s : State) (b : Nat) : State :=
  (s.setObj (0x2810 + b) 9 0).updBasin b (fun v => { v with holds := v.holds.filter (fun h => decide (h.1 ≠ .trierPause)) })

/-- An RW entry takes effect with a legal value. -/
def State.applyEntry (s : State) (i sub v : Nat) : State :=
  if 0x2300 ≤ i ∧ i < 0x2328 ∧ sub = 2 then
    (match v with | 1 => s.powerUp (i - 0x2300) | 2 => s.powerDownPound (i - 0x2300) | _ => s.setObj i 2 v)
  else if 0x2400 ≤ i ∧ i < 0x2440 ∧ sub = 2 then s.portEnable (i - 0x2400) v
  else if i = 0x2450 ∧ 2 ≤ sub then s.channelSeqWrite sub v
  else if 0x2810 ≤ i ∧ i < 0x2820 ∧ sub = 9 then
    (if v = 1 then s.pauseRequest (i - 0x2810) else s.pauseWithdraw (i - 0x2810))
  else if 0x2910 ≤ i ∧ i < 0x2920 ∧ sub = 3 then (if v = 0 then s else s.askSnapshot (i - 0x2910) (v == 2) false)
  else if 0x2910 ≤ i ∧ i < 0x2920 ∧ sub = 0xD then (if v = 0 then s else s.askRestore (i - 0x2910) (v == 2) [])
  else if 0x2A10 ≤ i ∧ i < 0x2A20 ∧ sub = 2 then
    (match v with | 1 => s.basinDefine (i - 0x2A10) | 2 => s.basinRemove (i - 0x2A10) | _ => s.setObj i 2 v)
  else if i = 0x2A80 ∧ sub = 2 then s.resetObj v
  else if i = 0x2B00 ∧ sub = 1 then s.updateObj v
  else if 0x2C10 ≤ i ∧ i < 0x2C20 ∧ sub = 8 then s.captureArm (i - 0x2C10) v
  else if 0x2C10 ≤ i ∧ i < 0x2C20 ∧ sub = 0xA then s.bankArm (i - 0x2C10) v
  else if i = 0x2D20 ∧ 2 ≤ sub ∧ sub ≤ 5 then (s.setObj i sub v).setRegN s.probeTile (0x980 + 4 * (sub - 2)) v
  else if i = 0x2D20 ∧ sub = 6 then (s.setObj i sub v).hsSelect s.probeTile v
  else if i = 0x2D30 ∧ sub = 4 then
    (if v = 1 then ({ s with dbg := { s.dbg with trace := [] } } : State).setObj 0x2D30 1 0 else s)
  else if i = 0x2E01 ∧ sub = 1 then s.serviceObj v
  else if i = 0x2E01 ∧ sub = 2 then s.serviceUnlock v
  else if i = 0x2F00 ∧ sub = 2 then s.clearStatus v
  else if i = 0x2F11 ∧ sub = 4 then (if v = 1 then s.clearClamps else s)
  else if i = 0x7000 ∧ sub = 1 then s.setpoints (some v) none
  else if i = 0x7000 ∧ sub = 2 then s.setpoints none (some v)
  else s.setObj i sub v

/-! ### RWL entries (R52, R301, R303, R352) -/

/-- Whether an entry is a trim. -/
def isTrim (i : Nat) : Bool := decide (0x22A0 ≤ i) && decide (i < 0x22C8)

/-- The binding a slot will have: as the same write gives it, else as last staged, else in force (R302). (DEDUCED,
log 57) -/
def State.bindingWill (s : State) (i : Nat) (pairs : List (Nat × Nat)) : Nat :=
  match pairs.lookup 1 with
  | some v => v
  | none =>
    ((s.srv.batches.filter ObjBatch.open_).foldl (fun a k =>
      match k.entries.find? (fun e => decide (e.1 = objKey i 1)) with | some e => e.2 | none => a) (s.obj i 1))

/-- The basins that an RWL entry's write belongs to: of a trim, every running basin with a tile in its pound; else at most
one. `pairs` are the subindices and values of the same write. (DEDUCED, log 57) -/
def State.homes (s : State) (i sub v : Nat) (pairs : List (Nat × Nat)) : List Nat :=
  if isTrim i then (s.poundBasins (i - 0x22A0)).filter (fun b => s.basinRuns b)
  else if 0x2510 ≤ i ∧ i < 0x2590 ∧ sub = 2 then
    (s.basinOf (s.hostTile (s.bindingWill i pairs / 65536 % 4))).toList
  else (s.objBasin i sub v).toList

/-- A batch is issued to a basin; the one of a configuration block goes before those issued earlier (R301, R308). -/
def State.issueBatch (s : State) (b : Nat) (entries : List (Nat × Nat)) (first : Bool) : State :=
  let s1 := s.stageBatch b entries
  if first then
    match s1.srv.batches.getLast? with
    | some k =>
      let l := s1.srv.batches.dropLast
      let p := fun (x : ObjBatch) => decide (x.basin ≠ b) || !x.open_
      { s1 with srv := { s1.srv with batches := l.takeWhile p ++ [k] ++ l.dropWhile p } }
    | none => s1
  else s1

/-- A change of an entry's value on its way in is logged (R304). -/
def State.logEntry (s : State) (i sub v c : Nat) (lock : Nat) (basin : Option Nat) : State :=
  if c = v then s else s.clampEntry i sub s.srv.src v c lock (basin.getD 255)

/-- One entry of a write, whose aborts have been ruled out: clamped, logged, and applied or answered for a batch, as
(basin, key, value). -/
def State.writeEntry (s : State) (i sub v : Nat) (pairs : List (Nat × Nat)) (r : ObjDesc) : State × List (Nat × Nat × Nat) :=
  let v0 := v &&& objMask i sub
  let c := s.clampObj i sub v0 r
  if r.acc = 2 then
    if s.movesOut i sub c then
      let b := (s.objTile i sub (s.obj i sub)).bind s.basinOf
      (s.clampEntry i sub s.srv.src v0 (s.obj i sub) (match b with | some n => s.lastLock n | none => 0) (b.getD 255), [])
    else match s.homes i sub c pairs with
      | [] => ((s.applyObj (objKey i sub) c 0 255).logEntry i sub v0 c 0 none, [])
      | b :: rest =>
        (s.logEntry i sub v0 c (s.batchLock b) (some b), (b :: rest).map (fun n => (n, objKey i sub, c)))
  else
    let b := entryBasinOf i
    ((s.applyEntry i sub c).logEntry i sub v0 c (match b with | some n => s.lastLock n | none => 0) b, [])

/-- The entries of a write in order, and what they stage. -/
def State.writeEntries (s : State) (i : Nat) (pairs : List (Nat × Nat)) : List (Nat × Nat) → List (Nat × Nat × Nat) →
    State × List (Nat × Nat × Nat)
  | [], acc => (s, acc)
  | (j, v) :: rest, acc =>
    match findObj i j with
    | none => s.writeEntries i pairs rest acc
    | some r => let (s1, l) := s.writeEntry i j v pairs r; s1.writeEntries i pairs rest (acc ++ l)

/-- One batch for each basin that staged entries belong to. -/
def State.issueAll (s : State) (l : List (Nat × Nat × Nat)) : State :=
  ((l.map (·.1)).eraseDups).foldl (fun a b =>
    a.issueBatch b ((l.filter (fun e => decide (e.1 = b))).map (·.2)) false) s

/-- What follows any write: its source is forgotten. -/
def State.fromSrc (s : State) (src : Nat) : State := { s with srv := { s.srv with src := src } }

/-! ### Aborts (R279, R294 to R299) -/

/-- Whether the entry is reserved to EtherCAT (R279). -/
def reservedEntry (i sub : Nat) : Bool :=
  decide (i / 256 = 0x2B) || decide (i / 256 = 0x2E) || decide (i = 0x2500 ∧ sub = 1)

/-- Whether a mailbox write is turned away as a write of a read-only object. -/
def State.mailboxShut (s : State) (i sub src : Nat) : Bool :=
  decide (src = 1) && (decide (s.obj 0x2500 1 = 0) || reservedEntry i sub)

/-- Why a write of `n` bytes of value `v` to an entry with a row aborts, 0 where it does not. (DEDUCED, log 54) -/
def State.entryAbort (s : State) (i sub v n : Nat) (r : ObjDesc) : Nat :=
  if r.acc = 0 then 0x06010002
  else if i = 0x7000 ∧ s.srv.al = 8 then 0x08000021
  else if r.acc = 3 ∧ s.srv.al ≠ 2 then 0x08000022
  else if n ≠ objSize r.ty then 0x06070010
  else s.pdoAbort i sub v

/-- Why a download aborts, 0 where it does not. (DEDUCED, log 54) -/
def State.writeAbort (s : State) (i sub : Nat) (data : List Nat) (src : Nat) : Nat :=
  let a := missing i sub
  if a ≠ 0 then a
  else if s.mailboxShut i sub src then 0x06010002
  else match findObj i sub with
    | none => if data = [maxSub i] then 0 else 0x06070010
    | some r => s.entryAbort i sub (ofBytes data) data.length r

/-- A download to one entry: abort code and the state after it. -/
def State.download (s : State) (i sub : Nat) (data : List Nat) (src : Nat) : Nat × State :=
  let a := s.writeAbort i sub data src
  if a ≠ 0 then (a, s)
  else
    let v := ofBytes data
    let (s1, l) := (s.fromSrc src).writeEntries i [(sub, v)] [(sub, v)] []
    (0, (s1.issueAll l).fromSrc 0)

/-- The abort of a value for one subindex of a complete-access write; RO subentries are skipped. -/
def State.subAbort (s : State) (i sub : Nat) (data : List Nat) : Nat :=
  match findObj i sub with
  | none => if data = [maxSub i] then 0 else 0x06070010
  | some r => if r.acc = 0 then 0 else s.entryAbort i sub (ofBytes data) data.length r

/-- The subindices and values that a complete-access write gives to entries that can be written. -/
def completePairs (i : Nat) (subs : List Nat) (data : List (List Nat)) : List (Nat × Nat) :=
  (subs.zip data).filterMap (fun e => match findObj i e.1 with
    | some r => if r.acc = 0 then none else some (e.1, ofBytes e.2)
    | none => none)

/-- Whether the RWL entries of a complete-access write, trims apart, belong to more than one basin. (DEDUCED, log 56) -/
def State.splitBasins (s : State) (i : Nat) (pairs : List (Nat × Nat)) : Bool :=
  !isTrim i && decide (1 < (((pairs.filter (fun e => match findObj i e.1 with | some r => decide (r.acc = 2) | none => false)).map
    (fun e => s.homes i e.1 e.2 pairs)).flatten.eraseDups).length)

/-- Why a complete-access download aborts, 0 where it does not (R296, R297, R301). (DEDUCED, log 56) -/
def State.completeAbort (s : State) (i : Nat) (zero : Bool) (data : List (List Nat)) (src : Nat) : Nat :=
  let subs := completeSubs i zero
  if !hasIndex i then 0x06020000
  else if s.mailboxShut i 0 src then 0x06010002
  else if src = 1 ∧ subs.any (fun j => reservedEntry i j) then 0x06010002
  else if subs.length ≠ data.length then 0x06070010
  else
    let a := ((subs.zip data).map (fun e => s.subAbort i e.1 e.2)).find? (fun x => decide (x ≠ 0))
    match a with
    | some x => x
    | none => if s.splitBasins i (completePairs i subs data) then 0x08000020 else 0

/-- A complete-access download. -/
def State.downloadAll (s : State) (i : Nat) (zero : Bool) (data : List (List Nat)) (src : Nat) : Nat × State :=
  let a := s.completeAbort i zero data src
  if a ≠ 0 then (a, s)
  else
    let pairs := completePairs i (completeSubs i zero) data
    let (s1, l) := (s.fromSrc src).writeEntries i pairs pairs []
    (0, (s1.issueAll l).fromSrc 0)

/-- The bytes of a complete-access write cut into values: each of its entry's length, subindex 0 of one byte. -/
def cutBytes (i : Nat) : List Nat → List Nat → List (List Nat)
  | [], [] => []
  | [], l => [l]
  | j :: rest, l =>
    let n := match findObj i j with | some r => entryLen i j r.ty | none => 1
    l.take n :: cutBytes i rest (l.drop n)

end Sys2Proof.Machine
end

