-- ==== Sys2Proof/Machine/MailOps.lean ====
section
/-! DEFINITION. Writes of BAR0 registers and the host's object dictionary mailbox (R266, R267, R278, R279, R281, R282,
R287). -/

namespace Sys2Proof.Machine

/-! ### The mailbox (R278) -/

/-- The data bytes that a mailbox write sends: MB_LEN bytes of MB_DATA. -/
def State.mbSend (s : State) : List Nat := (s.host.mbData ++ List.replicate 4096 0).take (s.bar 0x40008)

/-- A mailbox transaction completes: abort code, data of a read, busy cleared, vector 128. -/
def State.mbDone (s : State) (abort : Nat) (data : Option (List Nat)) : State :=
  let s1 := (s.setBar 0x40014 abort).setBar 0x40010 (s.bar 0x40010 % 256)
  let s2 : State := match data with
    | some d => { s1 with host := { s1.host with mbData := d.take 4096 } }
    | none => s1
  s2.signal 128

/-- The active Lockkeeper serves the waiting mailbox transaction; complete access begins at subindex 0 or 1. (DESIGN
CHOICE, log 52) -/
def State.mbServe (s : State) : State :=
  if !bitOf (s.bar 0x40010) 8 || s.activeLk.isNone then s
  else
    let i := s.bar 0x40000
    let sub := s.bar 0x40004
    let ctl := s.bar 0x4000C
    if bitOf ctl 2 && decide (1 < sub) then s.mbDone 0x05040001 none
    else if bitOf ctl 0 then
      let r := if bitOf ctl 2 then s.downloadAll i (sub == 0) (cutBytes i (completeSubs i (sub == 0)) s.mbSend) 1
        else s.download i sub s.mbSend 1
      r.2.mbDone r.1 none
    else
      let r := if bitOf ctl 2 then s.uploadAll i (sub == 0) else s.upload i sub
      r.2.mbDone r.1.abort (if r.1.abort = 0 then some r.1.data else none)

/-- A write to MB_CTL: discarded and counted while a transaction is busy; a request for a write prevails over one for a
read. (DESIGN CHOICE, log 52) -/
def State.mbCtl (s : State) (ctl : Nat) : State :=
  let st := s.bar 0x40010
  if bitOf st 8 then s.setBar 0x40010 (256 + min (st % 256 + 1) 255)
  else if ctl % 4 = 0 then s.setBar 0x4000C (ctl % 8)
  else ((s.setBar 0x4000C (ctl % 8)).setBar 0x40010 (st + 256)).mbServe

/-- A takeover aborts the transaction in progress (R287). -/
def State.mbAbort (s : State) : State := if bitOf (s.bar 0x40010) 8 then s.mbDone 0x08000022 none else s

/-- Bytes placed in MB_DATA from offset `k`. (DESIGN CHOICE, log 52) -/
def State.mbPlace (s : State) (k : Nat) (l : List Nat) : State :=
  let d := s.host.mbData ++ List.replicate (k + l.length - s.host.mbData.length) 0
  { s with host := { s.host with mbData := d.take k ++ l ++ d.drop (k + l.length) } }

/-! ### BAR0 writes (R266, R281) -/

/-- Two words of a 64-bit register whose low 12 bits stay zero. -/
def State.ringAddr (s : State) (off v : Nat) : State :=
  (s.setBar off (v % 2 ^ 32 / 4096 * 4096)).setBar (off + 4) (v / 2 ^ 32 % 2 ^ 32)

/-- A write to a register of queue `q` at offset `o` of its block. (DESIGN CHOICE, log 51) -/
def State.queueWrite (s : State) (q o v : Nat) : State :=
  let b := qBase q
  match o with
  | 0 => s.ringAddr b v
  | 8 => s.ringAddr (b + 8) v
  | 0x10 => s.setBar (b + 0x10) (clampN 4 16 (v % 32))
  | 0x14 =>
    let s1 := if bitOf v 0 then s.queueEnable q else s.queueDisable q
    s1.setBar (b + 0x14) (s1.bar (b + 0x14) % 2 + 2 * b2n (bitOf v 1))
  | 0x1C => s.cqHead q (v % 2 ^ 32)
  | 0x40 => s.setBar (b + 0x40) (clampN 1 256 (v % 65536))
  | 0x44 => s.setBar (b + 0x44) (clampN 1 1000 (v % 65536))
  | _ => s

/-- A write to a word of the MSI-X table: unmasking a pending vector signals it. (PRESUMED, log 48) -/
def State.msixWrite (s : State) (off v : Nat) : State :=
  let n := (off - 0x80000) / 16
  let s1 := s.setBar off (if off % 16 = 12 then v % 2 else v % 2 ^ 32)
  if off % 16 ≠ 12 then s1
  else if bitOf v 0 then { s1 with host := { s1.host with unmasked := s1.host.unmasked.filter (fun k => decide (k ≠ n)) } }
  else
    let due := decide (n ∈ s1.host.pba)
    let s2 : State := { s1 with host := { s1.host with
      unmasked := s1.host.unmasked.filter (fun k => decide (k ≠ n)) ++ [n], pba := s1.host.pba.filter (fun k => decide (k ≠ n)) } }
    if due then s2.signal n else s2

/-- A write to BAR0; one to a read-only register or a reserved offset is discarded. (DESIGN CHOICE, log 51) -/
def State.barWrite (s : State) (off v : Nat) : State :=
  if 0x100 ≤ off ∧ off < 0x150 then s.queueWrite 128 (off - 0x100) v
  else if 0x10000 ≤ off ∧ off < 0x18000 then s.queueWrite ((off - 0x10000) / 256) (off % 256) v
  else if 0x20000 ≤ off ∧ off ≤ 0x20400 ∧ off % 8 = 0 then s.doorbell ((off - 0x20000) / 8) (v % 2 ^ 32)
  else if off = 0x40000 then s.setBar off (v % 65536)
  else if off = 0x40004 then s.setBar off (v % 256)
  else if off = 0x40008 then s.setBar off (min (v % 65536) 4096)
  else if off = 0x4000C then s.mbCtl (v % 2 ^ 32)
  else if 0x41000 ≤ off ∧ off < 0x42000 ∧ off % 4 = 0 then
    s.mbPlace (off - 0x41000) (bytesOf v (if off % 8 = 0 then 8 else 4))
  else if 0x80000 ≤ off ∧ off < 0x80000 + 16 * 130 ∧ off % 4 = 0 then s.msixWrite off v
  else s

/-- MB_WRITE: MB_CTL is written with bit 0, and bit 2 for complete access (R278). (DESIGN CHOICE, log 123) -/
def execMbWrite (ca : Bool) (s : State) : Host.Outcome State Fault Refusal := .next (s.mbCtl (1 + 4 * b2n ca))

/-- MB_READ: MB_CTL is written with bit 1 (R278). -/
def execMbRead (ca : Bool) (s : State) : Host.Outcome State Fault Refusal := .next (s.mbCtl (2 + 4 * b2n ca))

end Sys2Proof.Machine
end

