-- ==== Sys2Proof/Machine/EcatOps.lean ====
section
/-! DEFINITION. The EtherCAT SubDevice: AL states, SDO and FoE services, process data and sync (R288 to R298, R306,
R310). -/

namespace Sys2Proof.Machine

/-! ### AL states (R285, R289, R294) -/

/-- The AL state and status code change. -/
def State.alSet (s : State) (st code : Nat) : State := { s with srv := { s.srv with al := st, alStatus := code } }

/-- The transitions of the EtherCAT state machine: one step up, any number down, and BOOT from and to INIT.
(PRESUMED, log 67) -/
def alMay (old new : Nat) : Bool :=
  decide (new ≤ old ∧ new ≠ 3 ∧ old ≠ 3) || [(1, 2), (1, 3), (2, 4), (4, 8), (3, 1), (3, 3)].contains (old, new)

/-- The process data layouts and the sync mode written in PREOP take effect at the transition to SAFEOP (R294, R309).
(DEDUCED, log 68) -/
def State.takeLayout (s : State) : State :=
  { s with srv := { s.srv with
      txLayout := s.pdoKeys true, rxLayout := s.pdoKeys false, sync := s.obj 0x1C32 1, syncMiss := 0, setPending := none } }

/-- The MainDevice requests AL state `st`; at the step to SAFEOP the ESC rejects a distributed-clocks configuration that
it cannot meet (R292). (PRESUMED, log 67; DESIGN CHOICE, log 69; DEDUCED, log 122) -/
def State.alRequest (s : State) (st : Nat) (dcMet : Bool) : State :=
  if s.activeLk.isNone then s
  else if !([1, 2, 3, 4, 8].contains st) then s.alSet s.srv.al 0x12
  else if !alMay s.srv.al st then s.alSet s.srv.al 0x11
  else if s.srv.al = 2 ∧ st = 4 ∧ dcMet = false then s.alSet 2 0x35
  else
    let s1 := if s.srv.al = 2 ∧ st = 4 then s.takeLayout else s
    let s2 := if st = 8 then s1.setObj 0x1C32 0x20 0 else s1
    s2.alSet st 0

/-- Whether CoE requests are served: the mailbox runs, and a Lockkeeper is active. (DEDUCED, log 64 and 68) -/
def State.coeOpen (s : State) : Bool := s.activeLk.isSome && [2, 4, 8].contains s.srv.al

/-- The answer to a request is sent. -/
def State.answer (s : State) (r : SdoRsp) : State := { s with srv := { s.srv with rsp := some r } }

/-! ### FoE (R306) -/

/-- Image kind and largest size of a file name. -/
def foeFile (name : List Nat) : Option (Nat × Nat) :=
  if name = [0x6C, 0x6F, 0x63, 0x6B, 0x6B, 0x65, 0x65, 0x70, 0x65, 0x72, 0x2E, 0x69, 0x6D, 0x67] then some (0, 16777216)
  else if name = [0x74, 0x69, 0x6C, 0x65, 0x2E, 0x69, 0x6D, 0x67] then some (1, 9216)
  else if name = [0x6C, 0x69, 0x6E, 0x6B, 0x2E, 0x69, 0x6D, 0x67] then some (2, 4194304)
  else if name = [0x70, 0x6F, 0x77, 0x65, 0x72, 0x2E, 0x69, 0x6D, 0x67] then some (3, 1048576)
  else none

/-- A FoE write of a file. (DESIGN CHOICE, log 94) -/
def State.foeWrite (s : State) (name : List Nat) (password len : Nat) (sigOk : Bool) (img : UpdateImage) : State :=
  if s.activeLk.isNone ∨ s.srv.al = 1 then s
  else match foeFile name with
    | none => s.answer ⟨0x8001, []⟩
    | some (k, top) =>
      if password ≠ 0 then s.answer ⟨0x8002, []⟩
      else if top < len then s.answer ⟨0x8003, []⟩
      else if len = 0 then s.answer ⟨0, []⟩
      else if s.upd.run.any (fun u => decide (u.kind = k)) then s.answer ⟨0x8006, []⟩
      else if !sigOk then s.answer ⟨0x800B, []⟩
      else (s.updUpd (fun d => { d with staged := Map.put d.staged none k (some img) })).answer ⟨0, []⟩

/-! ### The latch (R291, R293, R295) -/

/-- FP32's canonical NaN. -/
def nan32 : Nat := 0x7FC00000

/-- The mean of a list as a REAL32 in units of `1 / d`; NaN where nothing has been measured. -/
def meanF (l : List Nat) (d : Nat) : Nat :=
  if l.isEmpty then nan32 else f32Of ((l.foldl (· + ·) 0 : Nat) : Int) (d * l.length)

/-- The largest of a list as a REAL32 in units of `1 / d`. -/
def topF (l : List Nat) (d : Nat) : Nat := if l.isEmpty then nan32 else f32Of ((l.foldl max 0 : Nat) : Int) d

/-- Stores entries `(subindex, value)` of an object. -/
def State.setObjs (s : State) (index : Nat) (l : List (Nat × Nat)) : State :=
  l.foldl (fun a e => a.setObj index e.1 e.2) s

/-- The state word. -/
def State.stateWord (s : State) : Nat :=
  maskOf ((([decide (s.obj 0x2000 7 = 2), decide (s.obj 0x2000 6 = 0x302C), decide (s.obj 0x2000 5 = 60),
    decide (s.obj 0x2640 3 ≠ s.srv.alarmMark), bitOf (s.obj 0x2F00 1) 0, bitOf (s.obj 0x2F00 1) 2, !s.srv.present, false,
    s.cellar.job.isSome, decide (0 < s.obj 0x2280 2 ∨ 0 < s.obj 0x2280 3), !s.power.restart.isEmpty]).zipIdx).filterMap
      (fun e => if e.1 then some e.2 else none))

/-- Measured power of the pounds over the last 125 captures in mW; none where no pound has been captured. -/
def State.poundsMw (s : State) : Option Nat :=
  let l := (List.range 40).filter (fun n => !(s.pound n).caps.isEmpty)
  if l.isEmpty then none
  else some (l.foldl (fun a n =>
    a + s.vpn n * ((s.pound n).caps.foldl (fun b c => b + c.1) 0) / (1000 * (s.pound n).caps.length)) 0)

/-- The mean estimate of the pounds in mW; none where none has been made. -/
def State.poundsEst (s : State) : Option Nat :=
  let e := (List.range 40).foldl (fun a n =>
    let p := s.pound n
    a + (if p.estN = 0 then p.est else p.estSum / p.estN)) 0
  if e = 0 ∧ s.obj 0x6010 5 = nan32 then none else some (e / 1000000)

/-- The power objects. (DEDUCED, log 70) -/
def State.latchPower (s : State) : State :=
  let other := s.linkPower + s.keeperPower
  let col (i : Nat) : List Nat := s.power.rails.map (fun r => r.getD i 0)
  let inp := s.power.rails.map (fun r => r.getD 6 0 * r.getD 7 0)
  let f (x : Option Nat) : Nat := match x with | some v => f32Of (v + other) 1000 | none => nan32
  let s1 := s.setObjs 0x6010 [(1, meanF inp 1000000), (2, meanF (col 6) 1000), (3, meanF (col 7) 1000),
    (4, f s.poundsMw), (5, f s.poundsEst), (6, f32Of s.budget.2 1000)]
  let s2 := s1.setObjs 0x6040 ((List.range 6).map (fun i => (i + 1, meanF (col i) 1000)))
  (List.range 40).foldl (fun a n =>
    let c := (a.pound n).caps
    (((a.setObj 0x6020 (n + 1) (meanF (c.map (·.1)) 1000)).setObj 0x6025 (n + 1) (topF (c.map (·.1)) 1000)).setObj
      0x6030 (n + 1) (meanF (c.map (·.2)) 1000)).setObj 0x6035 (n + 1) (topF (c.map (·.2)) 1000)) s2

/-- The highest temperature of a list of physical tiles in 0.1 °C as a REAL32; NaN for none. -/
def State.hottest (s : State) (ps : List Nat) : Nat :=
  match ps with
  | [] => nan32
  | p :: rest => f32Of (rest.foldl (fun (a : Int) q => max a (s.tj (s.holder q))) (s.tj (s.holder p))) 10

/-- The physical tiles of a field's pounds that have been captured. -/
def State.capturedTiles (s : State) (f : Nat) : List Nat :=
  ((List.range 5).map (fun k => if (s.pound (5 * f + k)).caps.isEmpty then [] else poundPhys (5 * f + k))).flatten

/-- The thermal and lock objects. (DEDUCED, log 63) -/
def State.latchRest (s : State) : State :=
  let fs := (List.range 8).map (fun f => (f, s.capturedTiles f))
  let s1 := (s.setObj 0x6050 1 (s.hottest ((fs.map (·.2)).flatten))).setObjs 0x6050
    (fs.map (fun e => (e.1 + 2, s.hottest e.2)))
  let s2 := s1.setObjs 0x6060 ((List.range 16).map (fun b => (b + 1, Map.get s.srv.slack 0 b % 2 ^ 32)))
  s2.setObjs 0x6070 ((List.range 16).map (fun b => (b + 1, f32Of ((Map.get s.srv.beats 0 b : Nat) : Int) 1000000)))

/-- Inputs are latched: every TxPDO object, then the process data itself. -/
def State.latch (s : State) : State :=
  let s1 := s.setObjs 0x6000 [(1, s.stateWord), (2, s.obj 0x2640 3 % 65536), (3, s.obj 0x2880 1), (4, s.obj 0x2001 2),
    (5, ((List.range 16).filter s.basinRuns).length), (6, (s.obj 0x6000 6 + 1) % 2 ^ 32)]
  let s2 := s1.latchPower.latchRest
  { s2 with srv := { s2.srv with
      alarmMark := s.obj 0x2640 3, txPdo := s2.srv.txLayout.map (fun k => (k, s2.obj (k / 256) (k % 256))) } }

/-! ### Outputs and sync (R291, R292, R295) -/

/-- What an RxPDO gives for the entries that are mapped. -/
def State.rxPick (s : State) (a c : Nat) : Option Nat × Option Nat :=
  (if s.srv.rxLayout.contains (objKey 0x7000 1) then some a else none,
   if s.srv.rxLayout.contains (objKey 0x7000 2) then some c else none)

/-- An RxPDO arrives: it applies at once, or in mode 2 at the next SYNC0 edge. (DEDUCED, log 58 and 68) -/
def State.rxPdo (s : State) (a c : Nat) : State :=
  if s.activeLk.isNone ∨ s.srv.al ≠ 8 then s
  else if s.srv.sync = 2 then { s with srv := { s.srv with setPending := some (a, c) } }
  else s.setpoints (s.rxPick a c).1 (s.rxPick a c).2

/-- A SYNC0 edge in mode 2: the outputs of the cycle before apply, and inputs are latched. -/
def State.syncEdge (s : State) : State :=
  if s.activeLk.isNone ∨ s.srv.sync ≠ 2 then s
  else
    let s1 := match s.srv.setPending with
      | some (a, c) => s.setpoints (s.rxPick a c).1 (s.rxPick a c).2
      | none => s
    let s2 : State := { s1 with srv := { s1.srv with setPending := none, syncMiss := 0 } }
    s2.latch

/-- A SYNC0 edge is missing in mode 2. (DEDUCED, log 68) -/
def State.syncError (s : State) : State :=
  if s.activeLk.isNone ∨ s.srv.sync ≠ 2 then s
  else
    let s0 := s.bumpObj 0x1C32 0xB 1 0xFFFF
    let n := s.srv.syncMiss + 1
    let s1 : State := { s0 with srv := { s0.srv with syncMiss := n } }
    if n < s.obj 0x10F1 2 then s1
    else
      let s2 := s1.setObj 0x1C32 0x20 1
      (if s2.srv.al = 8 then s2.alSet 4 0x2C else s2).setpointsLost

/-! ### Commands -/

/-- SDO_DOWNLOAD (R279, R296, R300). -/
def execSdoDownload (i : BitVec 16) (sub : BitVec 8) (data : List Nat) (s : State) : Host.Outcome State Fault Refusal :=
  .next (if s.coeOpen then
    let r := s.download i.toNat sub.toNat data 0
    r.2.answer ⟨r.1, []⟩
  else s)

/-- SDO_UPLOAD (R296). -/
def execSdoUpload (i : BitVec 16) (sub : BitVec 8) (s : State) : Host.Outcome State Fault Refusal :=
  .next (if s.coeOpen then
    let r := s.upload i.toNat sub.toNat
    r.2.answer r.1
  else s)

/-- SDO_COMPLETE_DOWNLOAD, from subindex 0 or 1 (R297). -/
def execSdoCompleteDownload (i : BitVec 16) (zero : Bool) (data : List (List Nat)) (s : State) :
    Host.Outcome State Fault Refusal :=
  .next (if s.coeOpen then
    let r := s.downloadAll i.toNat zero data 0
    r.2.answer ⟨r.1, []⟩
  else s)

/-- SDO_COMPLETE_UPLOAD (R297). -/
def execSdoCompleteUpload (i : BitVec 16) (zero : Bool) (s : State) : Host.Outcome State Fault Refusal :=
  .next (if s.coeOpen then
    let r := s.uploadAll i.toNat zero
    r.2.answer r.1
  else s)

/-- SDO_INFORMATION (R288). -/
def execSdoInformation (i : BitVec 16) (sub : BitVec 8) (s : State) : Host.Outcome State Fault Refusal :=
  .next (if s.coeOpen then s.answer (s.describe i.toNat sub.toNat) else s)

/-- FOE_WRITE (R306). -/
def execFoeWrite (name : List Nat) (password len : Nat) (sigOk : Bool) (img : UpdateImage) (s : State) :
    Host.Outcome State Fault Refusal := .next (s.foeWrite name password len sigOk img)

/-- AL_STATE_REQUEST (R289, R294). -/
def execAlStateRequest (st : Nat) (dcMet : Bool) (s : State) : Host.Outcome State Fault Refusal :=
  .next (s.alRequest st dcMet)

/-- RXPDO (R291, R295). -/
def execRxpdo (a c : Word64) (s : State) : Host.Outcome State Fault Refusal := .next (s.rxPdo a.toNat c.toNat)

/-- SYNC0 (R291). -/
def execSync0 (s : State) : Host.Outcome State Fault Refusal := .next s.syncEdge

/-- PDO_LATCH in modes 0 and 1 (R291). -/
def execPdoLatch (s : State) : Host.Outcome State Fault Refusal :=
  .next (if s.activeLk.isSome ∧ s.srv.sync ≠ 2 then s.latch else s)

/-- SYNC_ERROR (R292). -/
def execSyncError (s : State) : Host.Outcome State Fault Refusal := .next s.syncError

/-- SETPOINT_TIMEOUT (R295). -/
def execSetpointTimeout (s : State) : Host.Outcome State Fault Refusal := .next s.setpointsLost

/-- CLAMP_LOG_CLEAR (R310). -/
def execClampLogClear (s : State) : Host.Outcome State Fault Refusal := .next s.clearClamps

/-- STATUS_CLEAR (R310). -/
def execStatusClear (bits : Word32) (s : State) : Host.Outcome State Fault Refusal := .next (s.clearStatus bits.toNat)

end Sys2Proof.Machine
end

