-- ==== Sys2Proof/Machine/HostCmd.lean ====
section
/-! DEFINITION. Host commands: doorbells, queues, slot rows, host writes and resets of the endpoint (R264 to R281, R491). -/

namespace Sys2Proof.Machine

/-- A doorbell write sets the tail, or is discarded and counted (R267). -/
def execDoorbell (q : Fin 129) (val : Word32) (s : State) : Host.Outcome State Fault Refusal :=
  .next (s.doorbell q val.toNat)

/-- Setting the enable of Q_CTL (R280). -/
def execQueueEnable (q : Fin 129) (s : State) : Host.Outcome State Fault Refusal := .next (s.queueEnable q)

/-- Clearing the enable of Q_CTL (R280). -/
def execQueueDisable (q : Fin 129) (s : State) : Host.Outcome State Fault Refusal := .next (s.queueDisable q)

/-- Q_CTL bit 1 selects coalescing (R281). -/
def execQueueCoalesceSet (q : Fin 129) (on : Bool) (s : State) : Host.Outcome State Fault Refusal :=
  let off := qBase q + 0x14
  .next (s.setBar off (s.bar off % 2 + 2 * b2n on))

/-- The host frees completion slots (R267). -/
def execCqHeadWrite (q : Fin 129) (val : Word32) (s : State) : Host.Outcome State Fault Refusal :=
  .next (s.cqHead q val.toNat)

/-- The device fetches a DATA entry and judges it (R268, R272). -/
def execData (q : Fin 128) (entry : BitVec 512) (s : State) : Host.Outcome State Fault Refusal :=
  .next (s.dataEntry q entry)

/-- The next quota row lands (R271). -/
def execHostRowLand (slot : Fin 128) (data : Row) (s : State) : Host.Outcome State Fault Refusal :=
  .next (s.hostRowLand slot data)

/-- A host read fails (R274). -/
def execHostReadError (slot : Fin 128) (s : State) : Host.Outcome State Fault Refusal := .next (s.hostReadError slot)

/-- The host engine acts at a host attachment tile (R275). -/
def execHostDescriptorRead (h : Fin 4) (s : State) : Host.Outcome State Fault Refusal := .next (s.hostEngine h)

/-- COAL_TIME has passed since the first completion counted (R281). -/
def execCoalTimeout (q : Fin 129) (s : State) : Host.Outcome State Fault Refusal :=
  if (s.queue q).coal = 0 then .next s else .next ((s.updQueue q (fun k => { k with coal := 0 })).signal q)

/-- Function Level Reset (R280). -/
def execFunctionLevelReset (s : State) : Host.Outcome State Fault Refusal := .next s.flr

/-- PERST_N resets the endpoint (R491). -/
def execPerstAssert (s : State) : Host.Outcome State Fault Refusal :=
  let s1 := s.endpointReset
  .next { s1 with host := { s1.host with perst := true } }

/-- The PCIe reference is lost (R491). -/
def execPcieReferenceLost (s : State) : Host.Outcome State Fault Refusal :=
  let s1 := s.endpointReset
  .next { s1 with host := { s1.host with refLost := true } }

/-- Speeds of the link in GT/s; 2.5 is no whole number, so its code in 0x2500.02 is a free value (R264, R283).
(DESIGN CHOICE, log 50) -/
def linkSpeed (free : Nat) (speed : Nat) : Nat := [free, 5, 8, 16, 32, 64].getD speed 0

/-- The link trains (R264). -/
def execPcieLinkTrain (speed : Fin 6) (width : Fin 5) (s : State) : Host.Outcome State Fault Refusal :=
  let (v, s0) := if speed = 0 then s.fresh else ((0 : Word64), s)
  let s1 := s0.setObj 0x2500 2 (2 ^ width.val + 256 * linkSpeed (v.toNat % 256) speed)
  .next { s1 with host := { s1.host with linkUp := true, perst := false, refLost := false } }

end Sys2Proof.Machine
end

