-- ==== Sys2Proof/Machine/ImageOps.lean ====
section
/-! DEFINITION. LOAD_IMAGE: image checks, configuration blocks, and the program loader's writes (R56, R189, R269, R305,
R308, R430, R458). -/

namespace Sys2Proof.Machine

/-! ### Configuration blocks (R305) -/

/-- A record of a configuration block: its offset in the block, index, subindex, flags, tile-local offset and tile (0 in
the object form), and data. -/
structure CfgRecord where
  at_ : Nat
  index : Nat
  sub : Nat
  flags : Nat
  off : Nat
  x : Nat
  y : Nat
  data : List Nat
  deriving DecidableEq, Repr

/-- Whether a record has the tile-register form. -/
def CfgRecord.tileForm (r : CfgRecord) : Bool := bitOf r.flags 1

/-- The records of a block, and the offset of one that runs past its end; the first argument bounds the number of records. -/
def cutBlock : Nat → Nat → List Nat → List CfgRecord → List CfgRecord × Option Nat
  | 0, _, _, acc => (acc, none)
  | k + 1, off, l, acc =>
    if l.isEmpty then (acc, none)
    else
      let b (i : Nat) : Nat := l.getD i 0
      let head := if bitOf (b 3) 1 then 10 else 6
      let n := b 4 + 256 * b 5
      let total := (head + n + 3) / 4 * 4
      if l.length < head ∨ l.length < total then (acc, some off)
      else
        let tile := bitOf (b 3) 1
        let r : CfgRecord := ⟨off, b 0 + 256 * b 1, b 2, b 3, if tile then b 6 + 256 * b 7 else 0,
          if tile then b 8 else 0, if tile then b 9 else 0, (l.drop head).take n⟩
        cutBlock k (off + total) (l.drop total) (acc ++ [r])

/-- Whether a value's length does not match an entry's type. -/
def badLength (i j n : Nat) : Bool :=
  match findObj i j with
  | some r => if objSize r.ty = 0 then decide (entryLen i j r.ty < n) else decide (n ≠ objSize r.ty)
  | none => decide (n ≠ 1)

/-- Whether an entry's value names a tile outside a rectangle of berths. (DEDUCED, log 71 and 72) -/
def State.namesOutside (s : State) (rect : Nat × Nat × Nat × Nat) (i j v : Nat) : Bool :=
  !(decide (0x2510 ≤ i ∧ i < 0x2590) && decide (j ≠ 1)) &&
  (match findObj i j with
   | some r => decide (r.acc = 2) && (match s.objTile i j v with | some t => !inRect rect (tx t / 4) (ty t / 4) | none => false)
   | none => false)

/-- Why a record makes its block rejected, 0 where it does not: 2 unknown index, 3 unknown subindex, 4 length and type
disagree, 5 tile outside the basin, 6 subindex 0. (DEDUCED, log 71) -/
def State.recordFault (s : State) (rect : Nat × Nat × Nat × Nat) (r : CfgRecord) : Nat :=
  if r.tileForm then
    if r.index ≠ 0 then 2
    else if r.data.length = 0 ∨ r.data.length % 4 ≠ 0 then 4
    else if 48 ≤ r.x ∨ 48 ≤ r.y ∨ inRect rect (r.x / 4) (r.y / 4) = false then 5
    else 0
  else if !hasIndex r.index then 2
  else if bitOf r.flags 0 then
    if 1 < r.sub then 3
    else
      let subs := completeSubs r.index (r.sub == 0)
      let cut := cutBytes r.index subs r.data
      if cut.length ≠ subs.length ∨ (subs.zip cut).any (fun e => badLength r.index e.1 e.2.length) = true then 4
      else if (subs.zip cut).any (fun e => s.namesOutside rect r.index e.1 (ofBytes e.2)) then 5
      else if (subs.zip cut).any (fun e => (findObj r.index e.1).isNone && decide (e.2 ≠ [maxSub r.index])) then 6
      else 0
  else if missing r.index r.sub ≠ 0 then 3
  else if badLength r.index r.sub r.data.length then 4
  else if s.namesOutside rect r.index r.sub (ofBytes r.data) then 5
  else if (findObj r.index r.sub).isNone ∧ r.data ≠ [maxSub r.index] then 6
  else 0

/-- The records of a block, and where and why it is rejected. (DEDUCED, log 71) -/
def State.checkBlock (s : State) (rect : Nat × Nat × Nat × Nat) (block : List Nat) : List CfgRecord × Option (Nat × Nat) :=
  let (l, past) := cutBlock (block.length + 1) 0 block []
  match l.find? (fun r => decide (s.recordFault rect r ≠ 0)) with
  | some r => (l, some (r.at_, s.recordFault rect r))
  | none => (l, past.map (fun o => (o, 1)))

/-- A block is rejected. -/
def State.rejectBlock (s : State) (b off reason : Nat) : State :=
  (((s.setObj 0x2F12 1 b).setObj 0x2F12 2 off).setObj 0x2F12 3 reason).setObj 0x2F00 1 (s.obj 0x2F00 1 ||| 8)

/-! ### Applying a block -/

/-- A record of an entry reserved to EtherCAT is logged as a clamp to the value in force (R279). -/
def State.refuseRecord (s : State) (i j v : Nat) : State := s.refuseWrite i j v

/-- One value of an object record: entries that an SDO could not write now keep their value. -/
def State.blockValue (s : State) (i j : Nat) (data : List Nat) (pairs : List (Nat × Nat)) : State × List (Nat × Nat × Nat) :=
  match findObj i j with
  | none => (s, [])
  | some r =>
    let v := ofBytes data
    if reservedEntry i j then (if r.acc = 0 then s else s.refuseRecord i j v, [])
    else if s.entryAbort i j v data.length r ≠ 0 then (s, [])
    else s.writeEntry i j v pairs r

/-- The values of an object record in order. -/
def State.blockValues (s : State) (i : Nat) (pairs : List (Nat × Nat)) : List (Nat × List Nat) → List (Nat × Nat × Nat) →
    State × List (Nat × Nat × Nat)
  | [], acc => (s, acc)
  | (j, d) :: rest, acc => let (s1, l) := s.blockValue i j d pairs; s1.blockValues i pairs rest (acc ++ l)

/-- The words of a tile-register record: those applied at a lock are staged, others take effect at once. -/
def State.blockWords (s : State) (t off : Nat) : List Nat → List (Nat × Nat) → List (Nat × Nat) × State
  | a :: b :: c :: d :: rest, acc =>
    let v := ofBytes [a, b, c, d]
    let atLock := off = 0x4004 || (match findReg off with | some (r, _) => decide (r.acc = 2) | none => false)
    if off % 4 ≠ 0 then (acc, s)
    else if atLock then
      let (_, e, s1) := s.batchWord t off v acc
      s1.blockWords t (off + 4) rest (acc ++ e)
    else (s.regWrite t off v none).2.blockWords t (off + 4) rest acc
  | _, acc => (acc, s)

/-- What a block stages: object values as (basin, key, value), tile registers as (tile, offset, value). -/
abbrev Staging := List (Nat × Nat × Nat) × List (Nat × Nat × Nat)

/-- One record. (DEDUCED, log 73) -/
def State.blockRecord (s : State) (g : Staging) (r : CfgRecord) : State × Staging :=
  if r.tileForm then
    let t := tileAt r.x r.y
    let (l, s1) := s.blockWords t r.off r.data ((g.2.filter (fun e => decide (e.1 = t))).map (·.2))
    (s1, g.1, g.2.filter (fun e => decide (e.1 ≠ t)) ++ l.map (fun e => (t, e.1, e.2)))
  else
    let subs := if bitOf r.flags 0 then completeSubs r.index (r.sub == 0) else [r.sub]
    let vals := subs.zip (if bitOf r.flags 0 then cutBytes r.index subs r.data else [r.data])
    let (s1, l) := s.blockValues r.index (vals.map (fun e => (e.1, ofBytes e.2))) vals []
    (s1, g.1 ++ l, g.2)

/-- The block's batch at the tiles of its basin: sealed, with the registers it stages. (DEDUCED, log 73) -/
def State.sealBlock (s : State) (b id target : Nat) (l : List (Nat × Nat × Nat)) : State :=
  (s.basinTiles b).foldl (fun a t =>
    let w := (l.filter (fun e => decide (e.1 = t))).map (·.2)
    a.updTile t (fun tl => { tl with tp := { tl.tp with
      batches := ⟨id, target, some 0, 0, w, false, none, []⟩ :: tl.tp.batches } })) s

/-- The records of a block apply in order; what they stage for basin `b` forms one batch for its first lock.
(DEDUCED, log 73) -/
def State.applyBlock (s : State) (b : Nat) (l : List CfgRecord) : State :=
  let (s1, g) := l.foldl (fun (a : State × Staging) r => a.1.blockRecord a.2 r) (s.fromSrc 2, ([], []))
  let id := s1.srv.nextId
  let s2 := if l.isEmpty then s1
    else
      let mine := (g.1.filter (fun e => decide (e.1 = b))).map (·.2)
      (s1.issueBatch b mine true).sealBlock b id (s1.nextLockNum b) g.2
  (s2.issueAll (g.1.filter (fun e => decide (e.1 ≠ b)))).fromSrc 0

/-! ### The program loader (R56, R189, R458) -/

/-- The key of stream (q, c) under a job seed. -/
def jobKey (seed : Word64) (q c : Nat) : Nat := philox (q + c * 2 ^ 32 + 0x5EED0000 * 2 ^ 96) seed.toNat % 2 ^ 64

/-- Stream register `i` of a tile gets a key and the tile's counter. -/
def State.bindStream (s : State) (t i key : Nat) : State :=
  let o := 0x2100 + 0x20 * i
  (((((s.setRegN t o 0).setRegN t (o + 4) 0).setRegN t (o + 8) 0).setRegN t (o + 0xc) t).setRegN t (o + 0x10)
    (key % 2 ^ 32)).setRegN t (o + 0x14) (key / 2 ^ 32)

/-- An unbound stream register. -/
def State.freeStream (s : State) (t i : Nat) : State :=
  [0, 4, 8, 0xc, 0x10, 0x14].foldl (fun a o => a.setRegN t (0x2100 + 0x20 * i + o) 0) s

/-- A record of the epoch table as tile `t` holds it. -/
def tileRecord (reports : List (Nat × Nat × Nat)) (t i : Nat) (r : BitVec 128) : BitVec 128 :=
  match reports.find? (fun e => decide (e.1 = t ∧ e.2.1 = i)) with
  | some e => BitVec.ofNat 128 (r.toNat - bitsOf r.toNat 95 64 * 2 ^ 64 + e.2.2 % 2 ^ 32 * 2 ^ 64)
  | none => r

/-- A list of values as a map from their places. -/
def tableOf (l : List (BitVec 128)) : Map (BitVec 128) := (l.zipIdx).foldl (fun m e => Map.put m 0 e.2 e.1) []

/-- A tile is made ready for its basin's first lock: epoch store, contexts, array, wheels, streams, and every pail tag EMPTY
(R159). (DEDUCED, log 74) -/
def State.loadTile (s : State) (img : Image) (t : Nat) : State :=
  let store := tableOf ((img.epochs.take 256).zipIdx.map (fun e => tileRecord img.reports t e.2 e.1))
  let wheels := img.wheels.filter (fun w => decide (w.1 = t) && decide (w.2.1 < 512) && !weMalformed w.2.2.toNat)
  let s1 := s.updTile t (fun tl => { tl with
    lk := { tl.lk with estore := store }, arr := ArrayUnit.init,
    sw := { tl.sw with
      wheel := wheels.foldl (fun m w => Map.put m 0 w.2.1 (BitVec.ofNat 32 (weMask w.2.2.toNat))) [], upset := [] },
    banks := tl.banks.foldl (fun m p => Map.put m Bank.init p.1 { p.2 with full := [], fillBeat := [] }) tl.banks,
    til := { tl.til with beat := 0, rets := [], active := 1 } })
  let s2 := (List.range 4).foldl (fun a c => a.setRegN t (ctxOff 0x110 c) 0) s1
  let s3 := ((s2.setRegN t 0xf00 0).setRegN t 0xf30 0).setRegN t 0xf34 (recRun (Map.get store 0 0))
  let s4 := (List.range 8).foldl (fun a i => a.freeStream t i) s3
  let s5 := (img.streams.filter (fun b => decide (b.1 = t) && decide (b.2.1 < 8))).foldl (fun a b =>
    a.bindStream t b.2.1 (jobKey img.seed (b.2.2.1 % 128) (b.2.2.2 % 8))) s4
  s5.atOpenLock t

/-- What the image states beside the rows it loads. -/
def imageFacts (img : Image) : ImageFacts :=
  { crc := img.crc.toNat, level := img.level, width := img.width, rows := img.rows, rect := img.rect,
    seed := img.seed.toNat, channels := img.channels,
    regions := (img.regions.take 64).map (fun r => ⟨r.1, r.2.1, r.2.2, r.2.2, 0⟩),
    moves := img.moves, streamMoves := img.streamMoves }

/-- A row of the image is written to an awake bank of the basin. (DEDUCED, log 74) -/
def State.loadRow (s : State) (ts : List Nat) (c : Nat × Nat × Row) : State :=
  if ts.contains c.1 && decide (c.2.1 < 40960) then s.installRow c.1 c.2.1 (kolvosEncode c.2.2) else s

/-- The image is written to the basin's tiles, and the basin is LOADED. (DEDUCED, log 74) -/
def State.loadBasin (s : State) (b : Nat) (img : Image) (block : List CfgRecord) : State :=
  let ts := s.basinTiles b
  let s1 := img.cells.foldl (fun a c => a.loadRow ts c) s
  let s2 := (ts.foldl (fun a t => a.loadTile img t) s1).markWindow s b
  let s3 := s2.updBasin b (fun v => { Basin.init with
    rect := v.rect, holds := v.holds, digests := { v.digests with replay := false, restored := false, spans := [] }, table := tableOf (img.epochs.take 256), image := imageFacts img })
  let s4 := ((s3.setObj (0x2610 + b) 1 0).setObj (0x2610 + b) 2 0).setObj (0x2C10 + b) 1 img.seed.toNat
  let s5 := ((s4.setObj (0x2810 + b) 1 0).setObj (0x2810 + b) 5 0).setObj (0x2A10 + b) 4 img.level
  ((s5.setObj (0x2A10 + b) 3 2).applyBlock b block).restoreMapped b

/-- The status of the checks of R269 after the first, 0 where all pass. -/
def State.imageStatus (s : State) (b : Nat) (img : Image) : Nat :=
  let st := s.obj (0x2A10 + b) 3
  if !s.levelOk b img.level then 0x21
  else if img.width ≠ s.obj 0x2000 5 then 0x22
  else if (s.basin b).rect.any (fun r => decide (r ≠ img.rect)) ∨ (s.basin b).rect.isSome = true ∧ img.rows ≠ s.shapeRows then 0x23
  else if (s.basin b).rect.isNone ∨ ¬(st = 1 ∨ st = 2) ∨ s.obj (snapObj b) 0xE = 2 then 0x24
  else 0

/-- An image is checked and loaded into basin `b`: the completion's status. -/
def State.loadImage (s : State) (b len : Nat) (img : Option Image) : Nat × State :=
  match img with
  | none => (0x13, s)
  | some i =>
    if !i.sound || decide (i.len ≠ len) then (0x20, s)
    else match s.checkBlock i.rect (i.config.map (·.toNat)) with
      | (_, some e) => (0x20, s.rejectBlock b e.1 e.2)
      | (l, none) =>
        let st := s.imageStatus b i
        if st ≠ 0 then (st, s) else (0, s.loadBasin b i l)

/-- An entry of the admin queue is fetched, performed and completed. (DEDUCED, log 43) -/
def State.adminEntry (s : State) (e : BitVec 512) (img : Option Image) : State :=
  if !s.canFetch 128 then s
  else
    let s1 := s.fetchEntry 128
    let done (a : State) (st : Nat) : State :=
      a.addEntry 128 ⟨subF e 31 16, e.getLsbD 8, 0, subF e 63 32, 0, 0, 0, false, some st⟩
    if subF e 7 0 ≠ 0x10 ∨ subF e 75 64 ≠ 0 ∨ entryReserved e 132 = true then done s1 0x12
    else if subF e 63 32 = 0 then done s1 1
    else
      let r := s1.loadImage (subF e 131 128) (subF e 63 32) img
      done r.2 r.1

/-- LOAD_IMAGE; `image` is what the device reads from host memory, none where a read fails. (DESIGN CHOICE, log 3) -/
def execLoadImage (entry : BitVec 512) (image : Option Image) (s : State) : Host.Outcome State Fault Refusal :=
  .next (s.adminEntry entry image)

end Sys2Proof.Machine
end

