-- ==== Sys2Proof/Machine/KeeperOps.lean ====
section
/-! DEFINITION. Lockkeepers: heartbeats, takeover and boot (R284 to R287, R384, R412, R433, R452). -/

namespace Sys2Proof.Machine

/-- Every hour-old slice and day-old transient fault is forgotten, and the oldest pass is shown (R413, R414). -/
def State.trierSecond (s : State) : State :=
  let now := s.srv.ms
  let old := s.boot.transients.filter (fun e => decide (e.2 + 86400000 ≤ now))
  let s1 := old.foldl (fun a e => a.setRegN (a.holder e.1) 0x6088 (a.regN (a.holder e.1) 0x6088 - 1)) s
  let s2 : State := { s1 with boot := { s1.boot with
    transients := s1.boot.transients.filter (fun e => decide (now < e.2 + 86400000)),
    slices := s1.boot.slices.filter (fun e => decide (now < e.2 + 3600000)) } }
  let s3 := (List.range 8).foldl (fun a f =>
    a.setObj (0x2848 + f) 3 (a.boot.slices.filter (fun e => decide (e.1 = f))).length) s2
  let first := (List.range 2600).foldl (fun a p => min a (s3.regN (s3.holder p) 0x6080)) (2 ^ 32)
  let s4 := s3.setObj 0x2840 6 (now / 1000 - first)
  if now % (3600000 * max 1 (s4.obj 0x2840 1)) = 0 then (List.range 8).foldl (fun a f => a.setObj (0x2848 + f) 2 0) s4 else s4

/-- The slack and the beats of basin `b` in the millisecond that ends (R57, R349): the least SLACK_PULSES that its tiles
accrued, and the beats it completed. (DEDUCED, log 63) -/
def State.basinMs (s : State) (b : Nat) : State :=
  let ts := if s.basinRuns b then s.basinTiles b else []
  let accrued (t : Nat) : Nat := (s.regN t 0x7134 + 2 ^ 32 - Map.get s.srv.slackMark 0 t) % 2 ^ 32
  let slack := match ts with
    | [] => 0
    | t :: rest => rest.foldl (fun a u => min a (accrued u)) (accrued t)
  let pos := s.leastPos b
  { s with srv := { s.srv with
      slack := Map.put s.srv.slack 0 b slack,
      beats := Map.put s.srv.beats 0 b (if ts.isEmpty then 0 else pos - Map.get s.srv.beatMark 0 b),
      beatMark := Map.put s.srv.beatMark 0 b pos,
      slackMark := (s.basinTiles b).foldl (fun m t => Map.put m 0 t (s.regN t 0x7134)) s.srv.slackMark } }

/-- The device status registers mirror their sources (R282). -/
def State.mirrorBar (s : State) : State :=
  [(4, s.obj 0x2000 7), (8, s.obj 0x6000 1), (0xC, s.obj 0x2000 6), (0x10, s.obj 0x2000 5), (0x14, s.obj 0x2001 2),
    (0x28, s.srv.ms % 2 ^ 32), (0x2C, s.srv.ms / 2 ^ 32), (0x30, s.obj 0x2880 1)].foldl (fun a e => a.setBar e.1 e.2) s

/-- LK_HEARTBEAT: a millisecond has passed under the active Lockkeeper, which also serves a mailbox request that
waits. (DEDUCED, log 108) -/
def State.heartbeat (s : State) : State :=
  if s.activeLk.isNone then s
  else
    let s1 : State := { s with srv := { s.srv with ms := s.srv.ms + 1 } }
    let s2 := (List.range 16).foldl (fun (a : State) b => a.basinMs b) s1
    (if s2.srv.ms % 1000 = 0 then s2.trierSecond else s2).mbServe.mirrorBar

/-- Recovery of a basin starts again from collection (R412). -/
def State.recollect (s : State) (b : Nat) : State :=
  if 2 ≤ s.recState b ∧ s.recState b ≤ 4 then
    (s.updBasin b (fun v => { v with tests := [], judged := 0 })).setRec b 1
  else s

/-- A snapshot that copies starts its copy again in the same hold (R433). -/
def State.recopy (s : State) : State :=
  match s.cellar.job with
  | some j =>
    if j.phase = 3 then
      ((s.updCellar (fun c => { c with job := some { j with phase := 2, rec_ := none } })).setObj (snapObj j.basin) 0xC 2).showCellar
    else s
  | none => s

/-- What a takeover does to an update in progress (R452). (DEDUCED, log 108) -/
def State.updateTaken (s : State) : State :=
  match s.upd.run with
  | some u => if u.kind = 3 then s else s.updateFail (if u.kind = 0 then 6 else 7)
  | none => s

/-- LK_TAKEOVER: a mirroring standby becomes active; transactions are aborted, and what the old active Lockkeeper was
doing is taken up from the mirrored state. (DEDUCED, log 108) -/
def State.takeover (s : State) : State :=
  if s.mirroring && s.activeLk.isSome then
    let s1 := s.exchangeKeepers 1
    let s2 : State := ({ s1 with srv := { s1.srv with rsp := some ⟨0x08000022, []⟩ } } : State).mbAbort
    let s3 := (s2.bumpObj 0x2001 4 1).setObj 0x2001 5 0
    let s4 := ((List.range 16).foldl (fun a b => a.recollect b) s3).recopy.updateTaken.showTriers
    (s4.agentIrq 0x181 0).agentIrq 0x182 0
  else match s.upd.run with
    | some u =>
      if u.kind = 0 ∧ u.phase ≤ 2 then
        ((s.updateFail 6).updKeeper s.standbyNo (fun k => { k with state := 0 })).showStandby
      else s
    | none => s

/-- LK_BOOT_TIMEOUT: the preferred Lockkeeper has not passed its self-test within 2 s, so the other becomes active.
(DEDUCED, log 95) -/
def State.bootTimeout (s : State) : State :=
  let p := s.obj 0x2001 1
  if s.activeLk.isSome ∨ (s.keeper p).state ≠ 1 then s
  else
    let s1 := s.updKeeper p (fun k => { k with state := 0 })
    if (s1.keeper (1 - p)).state = 0 then { s1 with srv := { s1.srv with al := 1, alStatus := 1 } }
    else ((s1.makeActive (1 - p)).showStandby).agentIrq 0x182 0

/-- LK_HEARTBEAT (R287). -/
def execLkHeartbeat (s : State) : Host.Outcome State Fault Refusal := .next s.heartbeat

/-- LK_TAKEOVER (R287). -/
def execLkTakeover (s : State) : Host.Outcome State Fault Refusal := .next s.takeover

/-- LK_BOOT_TIMEOUT (R285). -/
def execLkBootTimeout (s : State) : Host.Outcome State Fault Refusal := .next s.bootTimeout

end Sys2Proof.Machine
end

