-- ==== Sys2Proof/Machine/Lock.lean ====
section
/-! DEFINITION. Lock commands: reports, waves, lock beats, hold requests and the epoch store (R46 to R57, R215). -/

namespace Sys2Proof.Machine

/-- LOCK_REPORT: a tile sends its lock report. -/
def execLockReport (t : TileId) (s : State) : Host.Outcome State Fault Refusal := .next (s.lockReport t)

/-- LOCK_UP: a router combines the reports it holds, or discards one of them (R211, R215). -/
def execLockUp (r : Fin 152) (b : BasinId) (split : Bool) (hop : TpHop) (s : State) : Host.Outcome State Fault Refusal :=
  if (s.basin b).lockFrames.any (fun f => decide (f.at_ = r.val)) then
    let s1 := s.hopRetry hop
    if hopLoses hop then .next ((s1.lockFrameLost r b).hopLost hop b) else .next (s1.lockUp r b split)
  else .next s

/-- LOCK_RESULT: the wave result reaches a tile, or is discarded on its way to it (R211, R215). -/
def execLockResult (t : TileId) (hop : TpHop) (s : State) : Host.Outcome State Fault Refusal :=
  if s.resultDue t then
    let s1 := s.hopRetry hop
    if hopLoses hop then .next ((s1.updLk t (fun l => { l with missed := true })).hopLost hop (s1.msgBasin t))
    else .next (s1.lockResult t)
  else .next s

/-- LOCK_BEAT: the lock beat of a tile completes. -/
def execLockBeat (t : TileId) (s : State) : Host.Outcome State Fault Refusal := .next (s.lockBeat t).updateSettle

/-- A hold request on a lock that has completed applies to the next one (R54, R55). -/
def execLockHoldRequest (b : BasinId) (cause : HoldCause) (lock : Nat) (s : State) : Host.Outcome State Fault Refusal :=
  .next (s.updBasin b (fun v => { v with
    holds := v.holds ++ [(cause, max lock (s.nextLockNum b))], held := v.held ++ [max lock (s.nextLockNum b)] }))

/-- A hold request is released (R54); what was staged for the seams is applied in the hold (R195, R196). -/
def execLockHoldRelease (b : BasinId) (cause : HoldCause) (lock : Nat) (s : State) : Host.Outcome State Fault Refusal :=
  let s1 := if s.heldByRequest b then s.seamTurn b else s
  .next (s1.updBasin b (fun v => { v with holds := v.holds.erase (cause, max lock (s.nextLockNum b)) }))

/-- A word of the selected epoch store record is written over the towpath (R56). -/
def execEstoreDataWrite (t : TileId) (w : Fin 4) (val : Word32) (s : State) : Host.Outcome State Fault Refusal :=
  .next (s.towpathAsk t (fun s => s.regWrite t (0xf40 + 4 * w) val.toNat none))

end Sys2Proof.Machine
end

