-- ==== Sys2Proof/Machine/MoveOps.lean ====
section
/-! DEFINITION. The unload and load engines that move a tile's state in a hold for a remap (R84 to R87). -/

namespace Sys2Proof.Machine

/-! ### Places of the stream (R84) -/

/-- Rows of the unload stream. -/
def streamLen : Nat := 42016

/-- A row from 32-bit words, the first lowest. -/
def listRow (l : List Nat) : Row := rowOfWords (fun i => BitVec.ofNat 32 (l.getD i 0))

/-- A row from its bits. -/
def rowOfBits (f : Nat → Bool) : Row := BitVec.ofNat 256 ((List.range 256).foldl (fun a i => a + b2n (f i) * 2 ^ i) 0)

/-- Bits `lo` to `lo + n − 1` of a row. -/
def rowBits (r : Row) (lo n : Nat) : Nat := r.toNat / 2 ^ lo % 2 ^ n

/-- Row, lowest bit and width of a state register in sections 2, 3, 5 and 8 of the stream. (DESIGN CHOICE, log 135) -/
def regPlace (off : Nat) : Nat × Nat × Nat :=
  let w (row i n : Nat) : Nat × Nat × Nat := (row + i / 8, 32 * (i % 8), n)
  if off = 0x18 then (10, 208, 16)
  else if off = 0x804 then w 9 15 32
  else if off < 0x180 then w 1 (32 + 6 * ((off - 0x100) / 0x20) + off % 0x20 / 4) 32
  else if off < 0x280 then w 1 ((off - 0x200) / 4) 32
  else if off = 0xf00 then w 9 0 64
  else if off < 0x1000 then w 9 ((off - 0xf00) / 4) 32
  else if off < 0x3000 then w (139 + (off - 0x2100) / 0x20) (off % 0x20 / 4) 32
  else if off < 0x5000 then
    let b := (off - 0x3000) / 0x100
    (723 + b / 2, 128 * (b % 2) + (match off % 0x100 with | 0 => 0 | 0x10 => 3 | _ => 6), if off % 0x100 = 0x14 then 24 else 3)
  else
    let b := (off - 0x5000) / 0x80
    (723 + b / 2, 128 * (b % 2) + 32 + 24 * (off % 0x80 / 4), 24)

/-- A state register as the stream carries it: an alias window without its unused bits, and the owner in force. -/
def State.regSent (s : State) (t off : Nat) : Nat :=
  let v := (s.reg t off).toNat
  if 0x3000 ≤ off ∧ off < 0x4000 then
    match off % 0x100 with
    | 0 => (s.bank t ((off - 0x3000) / 0x100)).owner
    | 0x14 => v % 4096 + 4096 * (v / 65536)
    | _ => v
  else v

/-- The value of a state register that the stream carried as `x`. -/
def regLanded (off x : Nat) : Nat :=
  if 0x3000 ≤ off ∧ off < 0x4000 ∧ off % 0x100 = 0x14 then x % 4096 + 65536 * (x / 4096) else x

/-- The state registers of a row of the stream. -/
def State.regsRow (s : State) (t i : Nat) : Nat :=
  imageRegs.foldl (fun a off =>
    let (row, lo, n) := regPlace off
    if row = i then a + s.regSent t off % 2 ^ n * 2 ^ lo else a) 0

/-- The logical coordinate whose state a unit holds: the one that it has loaded, else its own. -/
def State.unitCoord (s : State) (t : Nat) : Nat := (s.tile t).mover.loaded.getD t

/-- The last row of section 2: the return stack, the active context and where the next bundle comes from. (DESIGN
CHOICE, log 135) -/
def Tiller.placeRow (m : Tiller) : Nat :=
  let stack := (List.range 8).foldl (fun a i => a + m.rets.getD i 0 % 65536 * 2 ^ (16 * i)) 0
  let go := match m.redirect with
    | some r => 2 ^ 16 + r.slots % 8 * 2 ^ 17 + r.ctx % 4 * 2 ^ 20 + r.addr % 2 ^ 32 * 2 ^ 64
    | none => 0
  stack + (m.active % 4 + 4 * min m.rets.length 8 + 64 * (m.skip % 4) + m.ipc % 2 ^ 32 * 2 ^ 32 + go) * 2 ^ 128

/-- The wheel entry that will route in the next epoch: staged, else in force (R189). -/
def State.nextEntry (s : State) (t key : Nat) : Nat := (s.stagedEntry t key).getD (Map.get (s.tile t).sw.wheel 0 key).toNat

/-- Row `i` of sections 1 to 11 of the stream of unit `t`, with whether it is poison (R84, R101, R189). (DESIGN
CHOICE, log 135) -/
def State.unloadRow (s : State) (t i : Nat) : Row × Bool :=
  let tl := s.tile t
  let c := s.unitCoord t
  if i = 0 then
    (listRow [tx c + 256 * ty c + 65536 * (s.basinOf c).getD 0, s.regN t 0xf00, s.regN t 0xf00 / 2 ^ 32, streamLen,
      tl.til.beat, tl.til.beat / 2 ^ 32], false)
  else if i < 11 then
    (BitVec.ofNat 256 (s.regsRow t i + (if i = 8 then tl.til.placeRow else if i = 10 then s.arrayStatus t % 65536 * 2 ^ 192 else 0)),
      false)
  else if i < 139 then s.vquarter t (i - 11)
  else if i < 147 then (BitVec.ofNat 256 (s.regsRow t i), false)
  else if i < 403 then (Map.get tl.arr.active.rows 0 (i - 147), tl.arr.active.poison)
  else if i < 659 then (Map.get tl.arr.shadow.rows 0 (i - 403), tl.arr.shadow.poison)
  else if i < 723 then (listRow ((List.range 8).map (fun q => s.nextEntry t (8 * (i - 659) + q))), false)
  else if i < 731 then (BitVec.ofNat 256 (s.regsRow t i), false)
  else if i < 891 then
    let k := s.bank t ((i - 731) / 10)
    (rowOfBits (fun j => k.snapAll || Map.get k.snapDirty false (256 * ((i - 731) % 10) + j)), false)
  else if i < 1051 then
    let k := s.bank t ((i - 891) / 10)
    (rowOfBits (fun j => Map.get k.full false (256 * ((i - 891) % 10) + j)), false)
  else
    (BitVec.ofNat 256 ((List.range 4).foldl (fun a q =>
      a + (Map.get tl.dig.acc 0 (4 * (i - 1051) + q)).toNat * 2 ^ (64 * q)) 0), false)

/-- The flat row of row `j` of section 12: bank-local index `j div 16` of bank `j mod 16` (R86). -/
def sectionFlat (j : Nat) : Nat := 2560 * (j % 16) + j / 16

/-! ### State from a stream (R87, R101) -/

/-- A stationary set rebuilt from its rows as if they had come through SHADOW_LOAD. -/
def setLanded (rows : List (Row × Bool)) (first : Nat) (valid : Bool) (fmt : Nat) (colMajor : Bool) : StatSet :=
  let l := (List.range 256).map (fun j => rows.getD (first + j) (0, false))
  ⟨valid, fmt, colMajor, (l.zipIdx).foldl (fun m x => Map.put m 0 x.2 x.1.1) [], l.any (fun x => x.2)⟩

/-- The set bits of ten rows of a bank's bitmap. -/
def bitsLanded (rows : List (Row × Bool)) (first : Nat) : Map Bool :=
  (List.range 10).foldl (fun m q =>
    let r := (rows.getD (first + q) (0, false)).1
    (List.range 256).foldl (fun m j => Map.put m false (256 * q + j) (bitOf r.toNat j)) m) []

/-- What the rows of sections 2 to 8 and 11 hold, as a lock image does (R404). -/
def imageLanded (rows : List (Row × Bool)) : LockImage :=
  let row (i : Nat) : Row := (rows.getD i (0, false)).1
  let st := rowBits (row 10) 192 16
  let ctl := rowBits (row 8) 128 32
  let value (off : Nat) : Nat :=
    let (i, lo, n) := regPlace off
    regLanded off (rowBits (row i) lo n)
  { epoch := value 0xf00,
    regs := imageRegs.foldl (fun m off => Map.put m (regDefault off) off (BitVec.ofNat 64 (value off))) [],
    vregs := (List.range 32).foldl (fun m v =>
      Map.put m 0 v (row (11 + 4 * v + 3) ++ row (11 + 4 * v + 2) ++ row (11 + 4 * v + 1) ++ row (11 + 4 * v) : BitVec 1024)) [],
    vpoison := (List.range 128).foldl (fun m q => Map.put m false q (rows.getD (11 + q) (0, false)).2) [],
    active := setLanded rows 147 (bitOf st 6) (bitsOf st 11 8) (bitOf st 4),
    shadow := setLanded rows 403 false (bitsOf st 15 12) (bitOf st 5),
    complete := bitOf st 2, armed := bitOf st 3,
    wheel := (List.range 512).foldl (fun m e => Map.put m 0 e (BitVec.ofNat 32 (rowBits (row (659 + e / 8)) (32 * (e % 8)) 32))) [],
    digests := (List.range 16).foldl (fun m b => Map.put m 0 b (BitVec.ofNat 64 (rowBits (row (1051 + b / 4)) (64 * (b % 4)) 64))) [],
    rets := (List.range (bitsOf ctl 5 2)).map (fun i => rowBits (row 8) (16 * i) 16),
    actCtx := ctl % 4, ipc := rowBits (row 8) 160 32,
    start := if bitOf ctl 16 then some ⟨bitsOf ctl 19 17, bitsOf ctl 21 20, rowBits (row 8) 192 32⟩ else none,
    skip := bitsOf ctl 7 6, beat := rowBits (row 0) 128 64,
    owners := (List.range 16).foldl (fun m b => Map.put m 1 b (value (0x3000 + 0x100 * b))) [] }

/-- The state of sections 1 to 11 is installed in unit `t`; its bank rows have landed before (R87). (DESIGN CHOICE,
log 135) -/
def State.installState (s : State) (t : Nat) (rows : List (Row × Bool)) : State :=
  let g := imageLanded rows
  let s1 := (s.putImage t g).updTile t (fun tl => { tl with til := { tl.til with beat := g.beat } })
  (List.range 16).foldl (fun a b => a.updBank t b (fun k => { k with
    full := bitsLanded rows (891 + 10 * b), fillBeat := [], snapAll := false, snapDirty := bitsLanded rows (731 + 10 * b),
    epochDirty := [], inbound := [], gather := [] })) s1

/-! ### Sending and landing (R85, R86) -/

/-- The running digest of a stream after a row: CRC-64 (R245). (DESIGN CHOICE, log 135) -/
def streamSum (sum : Nat) (x : Row × Bool) : Nat := digestRow sum x.1 x.2

/-- The unload engine of unit `t` reads row `i` of its stream: bank rows by port X, the trailer its own digest. -/
def State.streamRead (s : State) (t i : Nat) : (Row × Bool) × State :=
  if i < 1055 then (s.unloadRow t i, s)
  else if i + 1 < streamLen then
    let (d, p, s1) := s.readRow t (sectionFlat (i - 1055)) true none
    ((d, p), s1)
  else ((BitVec.ofNat 256 (digestOf (s.tile t).mover.sentSum streamLen), false), s)

/-- Changes the engines of unit `t`. -/
def State.updMover (s : State) (t : Nat) (f : Mover → Mover) : State :=
  s.updTile t (fun tl => { tl with mover := f tl.mover })

/-- The unload engine sends its next row on a lane; a neighbour that is not loading from that side takes nothing. -/
def State.streamSend (s : State) (t to_ d : Nat) : State :=
  let m := (s.tile t).mover
  let (x, s1) := s.streamRead t m.sent
  let s2 := s1.updMover t (fun m => { m with sent := m.sent + 1, sentSum := streamSum m.sentSum x })
  if (s2.tile to_).mover.inn = some ((d + 2) % 4) then
    s2.updMover to_ (fun v => { v with wait := v.wait ++ [(m.clock, x.1, x.2)] })
  else s2

/-- The load engine lands a row: rows of sections 1 to 11 and the trailer stay with it until the load ends, bank rows are
written by port X. -/
def State.landStream (s : State) (t : Nat) (d : Row) (p : Bool) : State :=
  let m := (s.tile t).mover
  let n := m.landed
  let s1 := if 1055 ≤ n ∧ n + 1 < streamLen then s.installRow t (sectionFlat (n - 1055)) (if p then poisonWord else kolvosEncode d)
    else s
  s1.updMover t (fun m => { m with
    landed := n + 1,
    gotSum := if n + 1 < streamLen then streamSum m.gotSum (d, p) else m.gotSum,
    rows := if 1055 ≤ n ∧ n + 1 < streamLen then m.rows else m.rows ++ [(d, p)] })

/-- Rows that were sent three beats before beat `c` of the sender's engine land, but none that the tile's own unload has not
passed (R86). -/
def State.landWaiting (s : State) (t c : Nat) : Nat → State
  | 0 => s
  | n + 1 =>
    let m := (s.tile t).mover
    match m.wait with
    | (u, d, p) :: rest =>
      if u + 3 ≤ c ∧ m.landed < streamLen ∧ (m.out.isNone ∨ m.landed < m.sent) then
        (((s.updMover t (fun v => { v with wait := rest })).landStream t d p).landWaiting t c n)
      else s
    | [] => s

/-- One beat of the unload engine of unit `t` in a hold: two rows leave by lanes A and B, and what its neighbour received
three beats ago lands; the engine stops three beats after its last row (R85, R86). (DESIGN CHOICE, log 135) -/
def State.moverPulse (s : State) (t : Nat) : State :=
  let m := (s.tile t).mover
  match m.out with
  | none => s
  | some d =>
    match physNeighbour (s.unitPhys t) d with
    | none => s
    | some q =>
      let u := s.holder q
      let s1 := if m.sent < streamLen then (s.streamSend t u d).streamSend t u d else s
      let s2 := s1.landWaiting u m.clock (s1.tile u).mover.wait.length
      let last := decide (m.clock + 1 = streamLen / 2 + 3)
      let s3 := s2.updMover t (fun v => { v with clock := v.clock + 1, out := if last then none else v.out })
      if last && (s3.tile t).mover.inn.isNone then s3.setRegN t 0xe04 0 else s3

/-- A unit whose load fails in a run is a dead tile of basin `b` (R408); `c` is the logical tile that it was to
present. (DESIGN CHOICE, log 96) -/
def State.loadDeath (s : State) (u c : Nat) (b : Option Nat) : State :=
  match b with
  | none => s
  | some b =>
    if (s.basin b).started then
      let p := s.unitPhys u
      (((s.addLedger 1 (some p) 8 0 true).bumpObj 0x2800 0xA 1).agentAlarm 0x18B (pName p) b).lkError b c 0x18B (pName p) 2
    else s

/-- The load engine has its whole stream: the trailer agrees with its own digest and no row carried an uncorrectable error
(`ok`), and the state is installed with its coordinate; else the load fails, and the state is lost (R87, R408). -/
def State.loadEnd (s : State) (t : Nat) (ok : Bool) : State :=
  let m := (s.tile t).mover
  if m.inn.isNone || decide (m.landed ≠ streamLen) then s
  else
    let head := (m.rows.getD 0 (0, false)).1
    let c := rowBits head 0 8 + 48 * rowBits head 8 8
    let s1 := s.updMover t (fun v => { v with inn := none })
    if ok && decide (rowBits (m.rows.getD 1055 (0, false)).1 0 64 = digestOf m.gotSum streamLen) then
      ((s1.installState t m.rows).updMover t (fun v => { v with loaded := some c })).setRegN t 0xe04 2
    else
      let s2 := s1.setRegN t 0xe04 3
      if t < 2304 then (s2.raiseAlarm t 0xB 0 2).loadDeath t t (s2.basinOf t)
      else (s2.lkError (rowBits head 16 4) c 0xB 0 2).loadDeath t c (some (rowBits head 16 4))

end Sys2Proof.Machine
end

