-- ==== Sys2Proof/Machine/Moves.lean ====
section
/-! DEFINITION. PACE_PULSE, and the moves of tile states by unload and load (R34, R85 to R87). -/

namespace Sys2Proof.Machine

/-- PACE_PULSE (R34): a dark tile has no pace.  The tile's unload engine, where it runs, makes its beat (R85). -/
def execPacePulse (t : TileId) (s : State) : Host.Outcome State Fault Refusal :=
  .next (if (s.tile t).dark then s else (((s.pacePulse t).idleBanks t).spokePulse t).moverPulse t)

/-- A write to UNLOAD_CTL of a unit, which leaves the bits of an engine that runs (R85): a presented tile answers it. -/
def State.moveAsk (s : State) (u v : Nat) : State :=
  if !s.unitIs u then s
  else if u < 2304 then s.towpathAsk u (fun s => s.unloadCtl u v)
  else (s.unloadCtl u v).2

/-- UNLOAD: UNLOAD_CTL starts the unload engine toward direction `dir` (R85). -/
def execUnload (u : UnitId) (dir : Fin 4) (s : State) : Host.Outcome State Fault Refusal :=
  .next (s.moveAsk u (1 + 4 * dir.val + (match (s.tile u).mover.inn with | some d => 2 + 16 * d | none => 0)))

/-- LOAD: UNLOAD_CTL starts the load engine from direction `dir` (R85). -/
def execLoad (u : UnitId) (dir : Fin 4) (s : State) : Host.Outcome State Fault Refusal :=
  .next (s.moveAsk u (2 + 16 * dir.val + (match (s.tile u).mover.out with | some d => 1 + 4 * d | none => 0)))

/-- LOAD_END: the trailer is compared; the tile is LOADED, or LOAD_FAIL is raised (R87). -/
def execLoadEnd (u : UnitId) (ok : Bool) (s : State) : Host.Outcome State Fault Refusal := .next (s.loadEnd u ok)

end Sys2Proof.Machine
end

