-- ==== Sys2Proof/Machine/Power.lean ====
section
/-! DEFINITION. Commands of power delivery and power control (R312 to R359, R478). -/

namespace Sys2Proof.Machine

/-! ### The supply (R312 to R315, R330, R478) -/

/-- INPUT_QUALIFIED: the hot-swap stage switches on and charges the input. -/
def execInputQualified (s : State) : Host.Outcome State Fault Refusal :=
  .next (if s.obj 0x2100 1 ≤ 1 then
    { s.setObj 0x2100 1 2 with power := { s.power with input := true } }
  else s)

/-- POWER_GOOD: bring-up begins, unless SCAN_EN is high (R330, R362, R471). -/
def execPowerGood (scanEn : Bool) (s : State) : Host.Outcome State Fault Refusal :=
  if s.obj 0x2100 1 ≠ 2 then .next s
  else
    let b := s.boot
    let s1 : State := { s with
      boot := { b with powerOns := b.powerOns + 1, bringUps := b.bringUps + b2n (!scanEn), ledgerFull := false, unlock := none },
      srv := { s.srv with ms := 0 } }
    let s2 := ((s1.setObj 0x2100 1 3).setObj 0x2D00 1 (b2n scanEn)).setObj 0x2100 7 b.fails
    let s3 := ((s2.setObj 0x2280 8 b.shutdowns).setObj 0x2E02 1 b.ledger.length).setObj 0x2E00 0xD s1.boot.bringUps
    .next (if scanEn then s3 else (s3.setObj 0x2000 7 1).setObj 0x2E00 1 1)

/-- POWER_FAIL: causes 0 input low, 1 input high, 2 hot-swap over-current, 3 fewer than 8 cells (R313). -/
def execPowerFail (cause : Fin 4) (s : State) : Host.Outcome State Fault Refusal := .next (s.powerFail cause)

/-- PRES_OPEN: a power fail with detail 0 (R478). -/
def execPresOpen (s : State) : Host.Outcome State Fault Refusal := .next (s.powerFail 0)

/-- CELL_LOST (R314). -/
def execCellLost (cell : Fin 16) (s : State) : Host.Outcome State Fault Refusal := .next (s.cellLost cell)

/-- CEILING_UPDATE at an input of `vin` mV (R315); from 355 V on an input that is off qualifies (R312, R335).
(DEDUCED, log 146) -/
def execCeilingUpdate (vin : Nat) (s : State) : Host.Outcome State Fault Refusal :=
  let s1 : State := { s with power := { s.power with vin := vin } }
  let st := s.obj 0x2100 1
  let s2 := if 1 < st then s1 else s1.setObj 0x2100 1 (b2n (decide (355000 ≤ vin)))
  .next s2.newCeiling

/-! ### Phases, regulators, weir (R316 to R321) -/

/-- PHASE_LOST (R316). -/
def execPhaseLost (pd : PoundId) (phase : Fin 6) (s : State) : Host.Outcome State Fault Refusal :=
  .next (s.phaseLost pd phase)

/-- REG_FAIL of a physical tile: causes 0 under-voltage, 1 over-voltage, 2 over-current, 3 switch self-check (R318,
R334). -/
def execRegFail (p : PhysId) (cause : Fin 4) (s : State) : Host.Outcome State Fault Refusal :=
  .next (s.regFail p (cause + 1))

/-- WEIR_DROOP: a shunt that acts stops, the boost bank acts; with less than half its charge the event is a depletion
(R320, R321, R333).  `charge` is the charge of a bank that has not recharged, in per cent. -/
def execWeirDroop (pd : PoundId) (depth : Nat) (charge : Fin 101) (s : State) : Host.Outcome State Fault Refusal :=
  let p := s.pound pd
  let c := if p.charge = 100 then 100 else charge.val
  let s1 := s.updPound pd (fun p => { p with boost := true, shunt := false, charge := min c 99, depleted := p.depleted || decide (c < 50) })
  let s2 := ((s1.bumpObj (poundObj pd) 0xA 1).bumpWin (objKey 0x2104 1) 1).maxWin (objKey (poundObj pd) 0xC) depth
  let s3 := if c < 50 then s2.bumpObj 0x2104 3 1 else s2
  .next (if c < 50 ∧ p.depleted = false then s3.agentIrq 0x167 pd else s3)

/-- WEIR_OVERSHOOT: the shunt acts (R320). -/
def execWeirOvershoot (pd : PoundId) (s : State) : Host.Outcome State Fault Refusal :=
  let s1 := s.updPound pd (fun p => { p with shunt := true })
  .next ((s1.bumpObj (poundObj pd) 0xB 1).bumpWin (objKey 0x2104 2) 1)

/-- WEIR_SETTLED: the action ends (R320). -/
def execWeirSettled (pd : PoundId) (s : State) : Host.Outcome State Fault Refusal :=
  .next (s.updPound pd (fun p => { p with boost := false, shunt := false }))

/-- WEIR_BANK_RECHARGED: the boost bank holds its full charge (R321). -/
def execWeirBankRecharged (pd : PoundId) (s : State) : Host.Outcome State Fault Refusal :=
  .next (s.updPound pd (fun p => { p with charge := 100 }))

/-! ### Pounds (R322 to R329) -/

/-- POUND_TRIP: causes 0 SHORT, 1 UNDERVOLT, 2 PHASES, 3 FAILED_RAMP (R322). -/
def execPoundTrip (pd : PoundId) (cause : Fin 4) (s : State) : Host.Outcome State Fault Refusal :=
  .next (s.poundTrip pd (cause + 1))

/-- POUND_POWER_UP (R324, R329). -/
def execPoundPowerUp (pd : PoundId) (s : State) : Host.Outcome State Fault Refusal := .next (s.powerUp pd)

/-- POUND_POWER_DOWN (R328, R329). -/
def execPoundPowerDown (pd : PoundId) (s : State) : Host.Outcome State Fault Refusal := .next (s.powerDownPound pd)

/-- POUND_RAMP_DOWN_END (R328). -/
def execPoundRampDownEnd (pd : PoundId) (s : State) : Host.Outcome State Fault Refusal := .next (s.rampDownEnd pd)

/-- POUND_GRANT_EVAL (R327). -/
def execPoundGrantEval (s : State) : Host.Outcome State Fault Refusal := .next s.grantEval

/-- POUND_RAMP_END; `ok` tells that VPN lies within 2 % of its set point (R322, R328). -/
def execPoundRampEnd (pd : PoundId) (ok : Bool) (s : State) : Host.Outcome State Fault Refusal := .next (s.rampEnd pd ok)

/-! ### Telemetry, caps and temperature (R332, R338 to R348, R354 to R357) -/

/-- CAPTURE_8US. -/
def execCapture8us (pd : PoundId) (ivpn ivpm : Nat) (sys : Option (List Nat)) (tiles : List (Int × Nat × Nat)) (s : State) :
    Host.Outcome State Fault Refusal := .next (s.capture pd ivpn ivpm sys tiles)

/-- ESTIMATE_SAMPLE. -/
def execEstimateSample (s : State) : Host.Outcome State Fault Refusal := .next s.estimateSample

/-- ESTIMATOR_GAIN_UPDATE. -/
def execEstimatorGainUpdate (s : State) : Host.Outcome State Fault Refusal := .next s.msUpdate

/-- SKIM_FRAME: a frame of 16 pulses begins with the level that the demands ask for (R341, R342). -/
def execSkimFrame (t : TileId) (s : State) : Host.Outcome State Fault Refusal :=
  let v := s.regN t 0x7100
  .next (if (s.tile t).til.pulses % 16 = 0 then s.setRegN t 0x7100 (v / 16 * 16 + s.skimDemand t) else s)

/-- COOLANT_SAMPLE: inlet temperature in 0.1 °C and flow in mL/min (R357). -/
def execCoolantSample (tin : Int) (flow : Nat) (s : State) : Host.Outcome State Fault Refusal :=
  let byT := (9800000 - 25000 * (tin - 350)).toNat
  let byQ := 9800000 * flow / 16000
  let c := min 9800000 (min byT byQ)
  let s1 := ((s.setObj 0x2280 5 (f32Of tin 10)).setObj 0x2280 6 (f32Of flow 1000)).setObj 0x2280 7 (f32Of c 1000)
  .next (if c < 9800000 ∧ s1.power.coolant = false then
    let s2 : State := { s1 with power := { s1.power with coolant := true } }
    s2.agentIrq 0x16F (b2n (decide (byQ < byT)))
  else s1)

/-! ### Voltage and tests (R334, R353, R359) -/

/-- VT_SET_WRITE: the field power controller sets a regulator. -/
def execVtSetWrite (t : TileId) (mv : BitVec 16) (s : State) : Host.Outcome State Fault Refusal := .next (s.vtSet t mv.toNat)

/-- VOLTAGE_STEP; a step that may not run waits. -/
def execVoltageStep (pd : PoundId) (s : State) : Host.Outcome State Fault Refusal := .next (s.voltageStep pd)

/-- VOLTAGE_STEP_END: the pulses are released. -/
def execVoltageStepEnd (pd : PoundId) (s : State) : Host.Outcome State Fault Refusal :=
  .next (if (s.pound pd).down then s else s.updPound pd (fun p => { p with hold := false }))

/-- SKIM_TEST_WRITE: refused on a tile of a basin (R359). -/
def execSkimTestWrite (t : TileId) (val : Word32) (s : State) : Host.Outcome State Fault Refusal :=
  .next (s.towpathAsk t (fun s => s.regWrite t 0x7104 val.toNat none))

end Sys2Proof.Machine
end

