-- ==== Sys2Proof/Machine/Recovery.lean ====
section
/-! DEFINITION. Recovery and trier commands (R396 to R409), and remaps. -/

namespace Sys2Proof.Machine

/-- ALARM_COLLECTION_END (R400). -/
def execAlarmCollectionEnd (b : BasinId) (s : State) : Host.Outcome State Fault Refusal := .next (s.collect b)

/-- TARGETED_TEST_END (R396, R397). -/
def execTargetedTestEnd (t : TileId) (cls : Fin 9) (lasting : Bool) (item : Nat) (s : State) :
    Host.Outcome State Fault Refusal := .next (s.testEnd t cls lasting item)

/-- REPLAY_RELEASE (R406). -/
def execReplayRelease (b : BasinId) (s : State) : Host.Outcome State Fault Refusal := .next (s.replayRelease b)

/-- REMAP (R409). -/
def execRemap (s : State) : Host.Outcome State Fault Refusal := .next s.remap

/-- IDLE_WINDOW_SLICE (R398). -/
def execIdleWindowSlice (t : TileId) (cls : Fin 9) (ok : Bool) (item : Nat) (s : State) :
    Host.Outcome State Fault Refusal := .next (s.idleSlice t cls ok item)

/-- TRIER_OVERDUE (R399). -/
def execTrierOverdue (t : TileId) (s : State) : Host.Outcome State Fault Refusal := .next (s.trierOverdue t)

/-- TRIER_PAUSE_REQUEST (R399). -/
def execTrierPauseRequest (b : BasinId) (s : State) : Host.Outcome State Fault Refusal := .next (s.pauseRequest b)

/-- TRIER_PAUSE_DONE (R399). -/
def execTrierPauseDone (b : BasinId) (tested : List TileId) (faults : List (TileId × Fin 9 × Nat)) (s : State) :
    Host.Outcome State Fault Refusal :=
  .next (s.pauseDone b (tested.map (·.val)) (faults.map (fun x => (x.1.val, x.2.1.val, x.2.2))))

end Sys2Proof.Machine
end

