-- ==== Sys2Proof/Machine/Resets.lean ====
section
/-! DEFINITION. Reset commands (R381 to R384). -/

namespace Sys2Proof.Machine

/-- RESET_TILE. -/
def execResetTile (t : TileId) (s : State) : Host.Outcome State Fault Refusal := .next (s.askResetTile t)

/-- RESET_BERTH. -/
def execResetBerth (t : BerthId) (s : State) : Host.Outcome State Fault Refusal := .next (s.askResetBerth t)

/-- RESET_BASIN. -/
def execResetBasin (b : BasinId) (s : State) : Host.Outcome State Fault Refusal := .next (s.askResetBasin b)

/-- RESET_DEVICE. -/
def execResetDevice (s : State) : Host.Outcome State Fault Refusal := .next s.askResetDevice

/-- RESET_DRAIN_END. -/
def execResetDrainEnd (s : State) : Host.Outcome State Fault Refusal := .next s.drainEnd

/-- DRAIN_LIMIT. -/
def execDrainLimit (s : State) : Host.Outcome State Fault Refusal := .next s.drainLimit

/-- The ladder restores the basin that it reset, when 0x2800.04 asks for it (R402, R427). (DESIGN CHOICE, log 91) -/
def State.ladderRestore (s : State) (l : Option Nat) : State :=
  match l with
  | some b => if s.obj 0x2800 4 = 1 ∧ (s.basin b).rect.isSome = true then s.restoreBegin b false [] else s
  | none => s

/-- RESET_END. -/
def execResetEnd (s : State) : Host.Outcome State Fault Refusal :=
  .next (s.resetEnd.1.updateSettle.ladderRestore s.resetEnd.2)

end Sys2Proof.Machine
end

