-- ==== Sys2Proof/Machine/Tiller.lean ====
section
/-! DEFINITION. The control slot's ops (R62, R63, R70 to R73, R76) and the bundle that issues nothing (R61). -/

namespace Sys2Proof.Machine

/-- The opcode field of each slot. -/
def opcodeField (n : Nat) : Nat × Nat :=
  match n with
  | 0 => (31, 26)
  | 1 => (47, 40)
  | 2 => (39, 35)
  | 3 => (47, 44)
  | 4 => (47, 44)
  | _ => (31, 28)

/-- A bundle of another format than CL1's would issue: ILLEGAL_BUNDLE, and nothing issues (R61). -/
def execIllegalBundle (t : TileId) (s : State) : Host.Outcome State Fault Refusal :=
  let m := (s.tile t).til
  let bad := match m.cur with
    | some row => decide (bitsOf row.toNat 7 6 ≠ 1)
    | none => !s.runs t
  if s.canIssue t && !(m.slots.contains 6) && bad then
    .next ((s.updTil t (fun m => { m with slots := [0, 1, 2, 3, 4, 5, 6] })).taskFault t 4)
  else .next s

/-- A slot of opcode zero does nothing (R61). -/
def execNop (t : TileId) (slot : Fin 6) (s : State) : Host.Outcome State Fault Refusal :=
  let (hi, lo) := opcodeField slot.val
  .next (s.slotOp t slot.val [(hi, lo, 0)] (fun s => s))

/-- BR: branch to address + offset (R62, R70). -/
def execBr (t : TileId) (off : BitVec 16) (s : State) : Host.Outcome State Fault Refusal :=
  .next (s.slotOp t 0 (ctrlFields 0x01 [(15, 0, off.toNat)]) (fun s => s.branch t off true))

/-- BRZ: branch if S(s) = 0 at the start of the beat (R62, R70). -/
def execBrz (t : TileId) (r : SReg) (off : BitVec 16) (s : State) : Host.Outcome State Fault Refusal :=
  .next (s.slotOp t 0 (ctrlFields 0x02 [(20, 16, r.val), (15, 0, off.toNat)])
    (fun s => s.branch t off (decide (s.sreg t r = 0#32))))

/-- BRNZ: branch if S(s) ≠ 0 (R62, R70). -/
def execBrnz (t : TileId) (r : SReg) (off : BitVec 16) (s : State) : Host.Outcome State Fault Refusal :=
  .next (s.slotOp t 0 (ctrlFields 0x03 [(20, 16, r.val), (15, 0, off.toNat)])
    (fun s => s.branch t off (decide (s.sreg t r ≠ 0#32))))

/-- CALL (R62, R70). -/
def execCall (t : TileId) (off : BitVec 16) (s : State) : Host.Outcome State Fault Refusal :=
  .next (s.slotOp t 0 (ctrlFields 0x04 [(15, 0, off.toNat)]) (fun s => s.call t off))

/-- RET (R62, R70). -/
def execRet (t : TileId) (s : State) : Host.Outcome State Fault Refusal :=
  .next (s.slotOp t 0 (ctrlFields 0x05 []) (fun s => s.ret t))

/-- LOOP: `len1` is L − 1; the count is immediate or S(count[4:0]) (R62, R71). -/
def execLoop (t : TileId) (len1 : Fin 64) (byReg : Bool) (count : BitVec 16) (s : State) :
    Host.Outcome State Fault Refusal :=
  .next (s.slotOp t 0
    (ctrlFields 0x06 [(25, 20, len1.val), (19, 19, b2n byReg), if byReg then (4, 0, count.toNat % 32) else (15, 0, count.toNat)])
    (fun s => s.loop t (len1.val + 1) (if byReg then (s.sreg t (count.toNat % 32)).toNat else count.toNat)))

/-- TASK (R62, R76). -/
def execTask (t : TileId) (ctx : Fin 4) (s : State) : Host.Outcome State Fault Refusal :=
  .next (s.slotOp t 0 (ctrlFields 0x08 [(1, 0, ctx.val)]) (fun s => s.task t ctx))

/-- BAR (R62, R212). -/
def execBar (t : TileId) (num : BitVec 8) (ext : Fin 4) (s : State) : Host.Outcome State Fault Refusal :=
  .next (s.slotOp t 0 (ctrlFields 0x09 [(7, 0, num.toNat), (9, 8, ext.val)]) (fun s => s.barIssue t num.toNat ext))

/-- BARW (R62, R212). -/
def execBarw (t : TileId) (num : BitVec 8) (s : State) : Host.Outcome State Fault Refusal :=
  .next (s.slotOp t 0 (ctrlFields 0x0A [(7, 0, num.toNat)]) (fun s => s.barWait t num.toNat))

/-- EPOCH_END (R62, R73). -/
def execEpochEnd (t : TileId) (s : State) : Host.Outcome State Fault Refusal :=
  .next (s.slotOp t 0 (ctrlFields 0x0B []) (fun s => s.epochEnd t))

/-- A scalar ALU op: the result is written in its beat, for bundle t + 1 to read (R62, R63). -/
def State.alu (s : State) (t op d : Nat) (rest : List (Nat × Nat × Nat)) (f : State → Word32) : State :=
  s.slotOp t 0 (ctrlFields op ((25, 21, d) :: rest)) (fun s => s.writeS t (s.tile t).til.beat d (f s))

/-- The fields of an immediate op. -/
def immFields (r : SReg) (imm : BitVec 16) : List (Nat × Nat × Nat) := [(20, 16, r.val), (15, 0, imm.toNat)]

/-- The fields of a register op. -/
def regFields (r u : SReg) : List (Nat × Nat × Nat) := [(20, 16, r.val), (15, 11, u.val)]

/-- ADDI sign-extends imm (R62). -/
def execAddi (t : TileId) (d r : SReg) (imm : BitVec 16) (s : State) : Host.Outcome State Fault Refusal :=
  .next (s.alu t 0x10 d (immFields r imm) (fun s => s.sreg t r + imm.signExtend 32))

/-- ANDI zero-extends imm (R62). -/
def execAndi (t : TileId) (d r : SReg) (imm : BitVec 16) (s : State) : Host.Outcome State Fault Refusal :=
  .next (s.alu t 0x11 d (immFields r imm) (fun s => s.sreg t r &&& imm.setWidth 32))

/-- ORI (R62). -/
def execOri (t : TileId) (d r : SReg) (imm : BitVec 16) (s : State) : Host.Outcome State Fault Refusal :=
  .next (s.alu t 0x12 d (immFields r imm) (fun s => s.sreg t r ||| imm.setWidth 32))

/-- XORI (R62). -/
def execXori (t : TileId) (d r : SReg) (imm : BitVec 16) (s : State) : Host.Outcome State Fault Refusal :=
  .next (s.alu t 0x13 d (immFields r imm) (fun s => s.sreg t r ^^^ imm.setWidth 32))

/-- SHLI by imm[4:0] (R62). -/
def execShli (t : TileId) (d r : SReg) (imm : BitVec 16) (s : State) : Host.Outcome State Fault Refusal :=
  .next (s.alu t 0x14 d (immFields r imm) (fun s => s.sreg t r <<< (imm.toNat % 32)))

/-- SHRI by imm[4:0] (R62). -/
def execShri (t : TileId) (d r : SReg) (imm : BitVec 16) (s : State) : Host.Outcome State Fault Refusal :=
  .next (s.alu t 0x15 d (immFields r imm) (fun s => s.sreg t r >>> (imm.toNat % 32)))

/-- LUI: S(d) becomes imm × 65,536; the source field is ignored (R62). -/
def execLui (t : TileId) (d : SReg) (imm : BitVec 16) (s : State) : Host.Outcome State Fault Refusal :=
  .next (s.alu t 0x16 d [(15, 0, imm.toNat)] (fun _ => (imm ++ (0 : BitVec 16))))

/-- ADD wraps modulo 2³² (R62, R63). -/
def execAdd (t : TileId) (d r u : SReg) (s : State) : Host.Outcome State Fault Refusal :=
  .next (s.alu t 0x18 d (regFields r u) (fun s => s.sreg t r + s.sreg t u))

/-- SUB (R62, R63). -/
def execSub (t : TileId) (d r u : SReg) (s : State) : Host.Outcome State Fault Refusal :=
  .next (s.alu t 0x19 d (regFields r u) (fun s => s.sreg t r - s.sreg t u))

/-- AND (R62). -/
def execAndS (t : TileId) (d r u : SReg) (s : State) : Host.Outcome State Fault Refusal :=
  .next (s.alu t 0x1A d (regFields r u) (fun s => s.sreg t r &&& s.sreg t u))

/-- OR (R62). -/
def execOrS (t : TileId) (d r u : SReg) (s : State) : Host.Outcome State Fault Refusal :=
  .next (s.alu t 0x1B d (regFields r u) (fun s => s.sreg t r ||| s.sreg t u))

/-- XOR (R62). -/
def execXorS (t : TileId) (d r u : SReg) (s : State) : Host.Outcome State Fault Refusal :=
  .next (s.alu t 0x1C d (regFields r u) (fun s => s.sreg t r ^^^ s.sreg t u))

/-- SLTU gives 1 when S(s) < S(t) unsigned, else 0 (R62). -/
def execSltu (t : TileId) (d r u : SReg) (s : State) : Host.Outcome State Fault Refusal :=
  .next (s.alu t 0x1D d (regFields r u) (fun s => if (s.sreg t r).toNat < (s.sreg t u).toNat then 1 else 0))

/-- LRR: reads a tile-local word for bundle t + 2; an offset that is not a multiple of 4 raises ILLEGAL_OP (R59, R63). -/
def execLrr (t : TileId) (d : SReg) (off : BitVec 16) (s : State) : Host.Outcome State Fault Refusal :=
  .next (s.slotOp t 0 (ctrlFields 0x20 [(25, 21, d.val), (15, 0, off.toNat)]) (fun s =>
    if off.toNat % 4 ≠ 0 then s.taskFault t 3
    else
      let (v, s1) := s.regRead t off.toNat
      s1.writeS t ((s.tile t).til.beat + 1) d v))

/-- LRW: writes a tile-local word at the end of the beat; contexts 1 to 3 may write only their offsets (R59). -/
def execLrw (t : TileId) (r : SReg) (off : BitVec 16) (s : State) : Host.Outcome State Fault Refusal :=
  .next (s.slotOp t 0 (ctrlFields 0x21 [(20, 16, r.val), (15, 0, off.toNat)]) (fun s =>
    if off.toNat % 4 ≠ 0 then s.taskFault t 3
    else if (s.tile t).til.active ≠ 0 && !jobMayWrite off.toNat then s.taskFault t 8
    else s.updTil t (fun m => { m with lrw := some (off.toNat, s.sreg t r) })))


end Sys2Proof.Machine
end

