-- ==== Sys2Proof/Machine/Vector.lean ====
section
/-! DEFINITION. The vector ops (R81, R134 to R140), one meaning each. -/

namespace Sys2Proof.Machine

/-- Issues a vector op in the vector slot. -/
def State.vecSlot (s : State) (t op lat use : Nat) (v : VecOp) (legal : Bool) (srcs : List Nat) (f : VecIn → VecOut) :
    State :=
  s.slotOp t 1 (vecFields op v) (fun s => s.vecOp t op lat use v legal srcs f)

/-- Whether a type is INT32 or not. -/
def isInt (v : VecOp) : Bool := decide (v.ty.val = 3)

/-- MOV: vd ← va (R81). -/
def execVecMov (t : TileId) (v : VecOp) (s : State) : Host.Outcome State Fault Refusal :=
  .next (s.vecSlot t 0x01 2 0 v true (src1 v) (fun i => .whole i.a))

/-- AND (R81). -/
def execVecAnd (t : TileId) (v : VecOp) (s : State) : Host.Outcome State Fault Refusal :=
  .next (s.vecSlot t 0x02 2 0 v true (src2 v) (fun i => .whole (i.a &&& i.b)))

/-- OR (R81). -/
def execVecOr (t : TileId) (v : VecOp) (s : State) : Host.Outcome State Fault Refusal :=
  .next (s.vecSlot t 0x03 2 0 v true (src2 v) (fun i => .whole (i.a ||| i.b)))

/-- XOR (R81). -/
def execVecXor (t : TileId) (v : VecOp) (s : State) : Host.Outcome State Fault Refusal :=
  .next (s.vecSlot t 0x04 2 0 v true (src2 v) (fun i => .whole (i.a ^^^ i.b)))

/-- NOT (R81). -/
def execVecNot (t : TileId) (v : VecOp) (s : State) : Host.Outcome State Fault Refusal :=
  .next (s.vecSlot t 0x05 2 0 v true (src1 v) (fun i => .whole (~~~i.a)))

/-- BCAST: lane imm[5:0] of va goes to every lane; an index beyond the lanes raises ILLEGAL_OP (R81). -/
def execVecBcast (t : TileId) (v : VecOp) (s : State) : Host.Outcome State Fault Refusal :=
  .next (s.vecSlot t 0x06 2 0 v (decide (v.imm.toNat % 64 < laneCount v.ty.val)) (src1 v)
    (fun i => i.bitsOut (fun _ => i.na (i.imm % 64))))

/-- ROTL: lane l of va moves to lane (l + imm[5:0]) mod N (R81). -/
def execVecRotl (t : TileId) (v : VecOp) (s : State) : Host.Outcome State Fault Refusal :=
  .next (s.vecSlot t 0x08 2 0 v true (src1 v) (fun i =>
    i.bitsOut (fun l => i.na ((l + laneCount i.ty - i.imm % 64 % laneCount i.ty) % laneCount i.ty))))

/-- REV: the lane order is reversed (R81). -/
def execVecRev (t : TileId) (v : VecOp) (s : State) : Host.Outcome State Fault Refusal :=
  .next (s.vecSlot t 0x09 2 0 v true (src1 v) (fun i => i.bitsOut (fun l => i.na (laneCount i.ty - 1 - l))))

/-- ADD (R134). -/
def execVecAdd (t : TileId) (v : VecOp) (s : State) : Host.Outcome State Fault Refusal :=
  .next (s.vecSlot t 0x10 3 1 v true (src2 v) (fun i => i.lanesOut false (i.arith (· + ·) (addF i.mode))))

/-- SUB (R134). -/
def execVecSub (t : TileId) (v : VecOp) (s : State) : Host.Outcome State Fault Refusal :=
  .next (s.vecSlot t 0x11 3 1 v true (src2 v) (fun i =>
    i.lanesOut false (i.arith (fun a b => a + 2 ^ 32 - b) (fun a b => addF i.mode a (negF b)))))

/-- MIN (R134). -/
def execVecMin (t : TileId) (v : VecOp) (s : State) : Host.Outcome State Fault Refusal :=
  .next (s.vecSlot t 0x14 3 0 v true (src2 v) (fun i => i.lanesOut false (fun l => pickOut i.ty true (i.na l) (i.nb l))))

/-- MAX (R134). -/
def execVecMax (t : TileId) (v : VecOp) (s : State) : Host.Outcome State Fault Refusal :=
  .next (s.vecSlot t 0x15 3 0 v true (src2 v) (fun i => i.lanesOut false (fun l => pickOut i.ty false (i.na l) (i.nb l))))

/-- ABS (R134). -/
def execVecAbs (t : TileId) (v : VecOp) (s : State) : Host.Outcome State Fault Refusal :=
  .next (s.vecSlot t 0x16 3 0 v true (src1 v) (fun i => i.bitsOut (fun l => absLane i.ty (i.na l))))

/-- NEG (R134). -/
def execVecNeg (t : TileId) (v : VecOp) (s : State) : Host.Outcome State Fault Refusal :=
  .next (s.vecSlot t 0x17 3 0 v true (src1 v) (fun i => i.bitsOut (fun l => negLane i.ty (i.na l))))

/-- MUL (R134). -/
def execVecMul (t : TileId) (v : VecOp) (s : State) : Host.Outcome State Fault Refusal :=
  .next (s.vecSlot t 0x12 4 1 v true (src2 v) (fun i => i.lanesOut false (i.arith (· * ·) mulF)))

/-- FMA: va × vb + vc with one rounding (R134). -/
def execVecFma (t : TileId) (v : VecOp) (s : State) : Host.Outcome State Fault Refusal :=
  .next (s.vecSlot t 0x13 4 1 v true (src3 v) (fun i => i.lanesOut false i.fma))

/-- SHL by imm[4:0], INT32 only (R81). -/
def execVecShl (t : TileId) (v : VecOp) (s : State) : Host.Outcome State Fault Refusal :=
  .next (s.vecSlot t 0x18 2 0 v (isInt v) (src1 v) (fun i => i.bitsOut (fun l => i.na l * 2 ^ (i.imm % 32))))

/-- SHR by imm[4:0], INT32 only (R81). -/
def execVecShr (t : TileId) (v : VecOp) (s : State) : Host.Outcome State Fault Refusal :=
  .next (s.vecSlot t 0x19 2 0 v (isInt v) (src1 v) (fun i => i.bitsOut (fun l => i.na l / 2 ^ (i.imm % 32))))

/-- SAR by imm[4:0], INT32 only (R81). -/
def execVecSar (t : TileId) (v : VecOp) (s : State) : Host.Outcome State Fault Refusal :=
  .next (s.vecSlot t 0x1A 2 0 v (isInt v) (src1 v) (fun i =>
    i.bitsOut (fun l => twos 32 (signed 32 (i.na l) / (2 : Int) ^ (i.imm % 32)))))

/-- CMPEQ (R134). -/
def execVecCmpeq (t : TileId) (v : VecOp) (s : State) : Host.Outcome State Fault Refusal :=
  .next (s.vecSlot t 0x30 3 0 v true (src2 v) (fun i => i.bitsOut (i.compare (fun c => decide (c = 0)) false)))

/-- CMPLT (R134). -/
def execVecCmplt (t : TileId) (v : VecOp) (s : State) : Host.Outcome State Fault Refusal :=
  .next (s.vecSlot t 0x31 3 0 v true (src2 v) (fun i => i.bitsOut (i.compare (fun c => decide (c < 0)) false)))

/-- CMPLE (R134). -/
def execVecCmple (t : TileId) (v : VecOp) (s : State) : Host.Outcome State Fault Refusal :=
  .next (s.vecSlot t 0x32 3 0 v true (src2 v) (fun i => i.bitsOut (i.compare (fun c => decide (c ≤ 0)) false)))

/-- CMPNE: true where an operand is NaN (R134). -/
def execVecCmpne (t : TileId) (v : VecOp) (s : State) : Host.Outcome State Fault Refusal :=
  .next (s.vecSlot t 0x33 3 0 v true (src2 v) (fun i => i.bitsOut (i.compare (fun c => decide (c ≠ 0)) true)))

/-- SEL: va where the vc lane is non-zero, vb elsewhere (R81). (DEDUCED, log 18) -/
def execVecSel (t : TileId) (v : VecOp) (s : State) : Host.Outcome State Fault Refusal :=
  .next (s.vecSlot t 0x34 3 0 v true (src3 v) (fun i =>
    i.bitsOut (fun l => if i.nc l ≠ 0 then i.na l else i.nb l)))

/-- RSUM: the pairwise sum in lane 0 (R134). -/
def execVecRsum (t : TileId) (v : VecOp) (s : State) : Host.Outcome State Fault Refusal :=
  .next (s.vecSlot t 0x40 6 2 v true (src1 v) (fun i =>
    .single (i.reduce i.sumStep id)))

/-- RMAX (R134). -/
def execVecRmax (t : TileId) (v : VecOp) (s : State) : Host.Outcome State Fault Refusal :=
  .next (s.vecSlot t 0x41 6 2 v true (src1 v) (fun i =>
    .single (i.reduce (fun a b => pickOut i.ty false a.r.bits b.r.bits) id)))

/-- RMIN (R134). -/
def execVecRmin (t : TileId) (v : VecOp) (s : State) : Host.Outcome State Fault Refusal :=
  .next (s.vecSlot t 0x42 6 2 v true (src1 v) (fun i =>
    .single (i.reduce (fun a b => pickOut i.ty true a.r.bits b.r.bits) id)))

/-- RAMAX: the largest magnitude as a non-negative value (R134). -/
def execVecRamax (t : TileId) (v : VecOp) (s : State) : Host.Outcome State Fault Refusal :=
  .next (s.vecSlot t 0x43 6 2 v true (src1 v) (fun i =>
    .single (i.reduce i.amaxStep (absLane i.ty))))

/-- CVTN (R137). -/
def execVecCvtn (t : TileId) (v : VecOp) (s : State) : Host.Outcome State Fault Refusal :=
  let q := bitsOf v.imm.toNat 5 4
  .next (s.vecSlot t 0x50 4 1 v (moveLegal v.ty.val v.imm.toNat) (src1 v) (fun i =>
    let (d, os) := i.cvtn
    ⟨(d.setWidth 1024) <<< (256 * q), [q], os.map (fun r => ⟨r, false⟩), true, cvtnMask v.ty.val v.imm.toNat⟩))

/-- CVTW (R137). -/
def execVecCvtw (t : TileId) (v : VecOp) (s : State) : Host.Outcome State Fault Refusal :=
  let q := bitsOf v.imm.toNat 5 4
  .next (s.vecSlot t 0x51 4 1 v (moveLegal v.ty.val v.imm.toNat) [4 * v.va.val + q] (fun i =>
    let (l0, os) := i.cvtw
    let w := laneBits i.ty
    ⟨ofLanes w (laneCount i.ty) (fun l =>
        if l0 ≤ l ∧ l < l0 + os.length then (os.getD (l - l0) (Rounded.plain 0)).bits else lane w i.d l),
      (List.range 4).filter (fun k => decide (l0 * w < 256 * (k + 1)) && decide (256 * k < (l0 + os.length) * w)),
      os.map (fun r => ⟨r, false⟩), true, wholeRow⟩))

/-- CVTI (R138). -/
def execVecCvti (t : TileId) (v : VecOp) (s : State) : Host.Outcome State Fault Refusal :=
  .next (s.vecSlot t 0x52 4 1 v (!isInt v) (src1 v) (fun i =>
    let os := (List.range 32).map i.cvti
    ⟨ofLanes 32 32 (fun l => (os.getD l (.plain 0)).r.bits), [0, 1, 2, 3], os, true, wholeRow⟩))

/-- CVTF (R138). -/
def execVecCvtf (t : TileId) (v : VecOp) (s : State) : Host.Outcome State Fault Refusal :=
  .next (s.vecSlot t 0x53 4 1 v (!isInt v) (src1 v) (fun i =>
    let os := (List.range 32).map i.cvtf
    let h := halfLane i.ty i.imm
    let w := laneBits i.ty
    ⟨ofLanes w (laneCount i.ty) (fun l =>
        if h ≤ l ∧ l < h + 32 then (os.getD (l - h) (Rounded.plain 0)).bits else lane w i.d l),
      if i.ty = 0 then [0, 1, 2, 3] else if h = 0 then [0, 1] else [2, 3], os.map (fun r => ⟨r, false⟩), true, wholeRow⟩))

/-- MXSCALE (R139). (DEDUCED, log 18) -/
def execVecMxscale (t : TileId) (v : VecOp) (s : State) : Host.Outcome State Fault Refusal :=
  .next (s.vecSlot t 0x60 4 0 v (!isInt v && decide (8 ≤ v.imm.toNat % 16) && decide (v.imm.toNat % 16 ≤ 0xD)) (src1 v)
    (fun i => .whole (ofLanes 8 (laneCount i.ty / 32) (fun b => i.mxScale (i.imm % 16) b))))

/-- MXAPPLY (R140). (DEDUCED, log 18; DESIGN CHOICE, log 144) -/
def execVecMxapply (t : TileId) (v : VecOp) (s : State) : Host.Outcome State Fault Refusal :=
  .next (s.vecSlot t 0x61 4 1 v (!isInt v && decide (8 ≤ v.imm.toNat % 16) && decide (v.imm.toNat % 16 ≤ 0xD)) (src2 v)
    (fun i => i.lanesOut true i.mxApply))

/-- EXP (R135, R136). -/
def execVecExp (t : TileId) (v : VecOp) (s : State) : Host.Outcome State Fault Refusal :=
  .next (s.vecSlot t 0x70 8 3 v (!isInt v) (src1 v) (fun i => i.lanesOut false (i.func 0x70)))

/-- EXP2 (R135, R136). -/
def execVecExp2 (t : TileId) (v : VecOp) (s : State) : Host.Outcome State Fault Refusal :=
  .next (s.vecSlot t 0x71 8 3 v (!isInt v) (src1 v) (fun i => i.lanesOut false (i.func 0x71)))

/-- LOG (R135, R136). -/
def execVecLog (t : TileId) (v : VecOp) (s : State) : Host.Outcome State Fault Refusal :=
  .next (s.vecSlot t 0x72 8 3 v (!isInt v) (src1 v) (fun i => i.lanesOut false (i.func 0x72)))

/-- LOG2 (R135, R136). -/
def execVecLog2 (t : TileId) (v : VecOp) (s : State) : Host.Outcome State Fault Refusal :=
  .next (s.vecSlot t 0x73 8 3 v (!isInt v) (src1 v) (fun i => i.lanesOut false (i.func 0x73)))

/-- RECIP (R135, R136). -/
def execVecRecip (t : TileId) (v : VecOp) (s : State) : Host.Outcome State Fault Refusal :=
  .next (s.vecSlot t 0x74 8 3 v (!isInt v) (src1 v) (fun i => i.lanesOut false (i.func 0x74)))

/-- RSQRT (R135, R136). -/
def execVecRsqrt (t : TileId) (v : VecOp) (s : State) : Host.Outcome State Fault Refusal :=
  .next (s.vecSlot t 0x75 8 3 v (!isInt v) (src1 v) (fun i => i.lanesOut false (i.func 0x75)))

/-- SQRT (R135, R136). -/
def execVecSqrt (t : TileId) (v : VecOp) (s : State) : Host.Outcome State Fault Refusal :=
  .next (s.vecSlot t 0x76 8 3 v (!isInt v) (src1 v) (fun i => i.lanesOut false (i.func 0x76)))

/-- TANH (R135, R136). -/
def execVecTanh (t : TileId) (v : VecOp) (s : State) : Host.Outcome State Fault Refusal :=
  .next (s.vecSlot t 0x77 8 3 v (!isInt v) (src1 v) (fun i => i.lanesOut false (i.func 0x77)))

/-- SIGMOID (R135, R136). -/
def execVecSigmoid (t : TileId) (v : VecOp) (s : State) : Host.Outcome State Fault Refusal :=
  .next (s.vecSlot t 0x78 8 3 v (!isInt v) (src1 v) (fun i => i.lanesOut false (i.func 0x78)))

/-- SIN (R135, R136). -/
def execVecSin (t : TileId) (v : VecOp) (s : State) : Host.Outcome State Fault Refusal :=
  .next (s.vecSlot t 0x79 8 3 v (!isInt v) (src1 v) (fun i => i.lanesOut false (i.func 0x79)))

/-- COS (R135, R136). -/
def execVecCos (t : TileId) (v : VecOp) (s : State) : Host.Outcome State Fault Refusal :=
  .next (s.vecSlot t 0x7A 8 3 v (!isInt v) (src1 v) (fun i => i.lanesOut false (i.func 0x7A)))

/-- RAND: one draw from stream register imm[2:0] (R81, R132). -/
def execVecRand (t : TileId) (v : VecOp) (s : State) : Host.Outcome State Fault Refusal :=
  .next (s.vecSlot t 0x80 10 0 v (!isInt v) [] (fun i => .whole i.d))

/-- Writes one word of a stream register: counter words 0 to 3, key words 4 and 5 (R142). -/
def execStreamRegWrite (t : TileId) (r : Fin 8) (w : Fin 6) (val : Word32) (s : State) :
    Host.Outcome State Fault Refusal :=
  .next (s.regWrite t (0x2100 + 0x20 * r.val + 4 * w.val) val.toNat none).2

end Sys2Proof.Machine
end

