-- ==== Sys2Proof/Machine/WindowOps.lean ====
section
/-! DEFINITION. Report windows and generic register and entry writes (R36, R39, R57, R59, R218, R266, R300, R321, R355). -/

namespace Sys2Proof.Machine

/-! ### The end of a report window -/

/-- The largest value of a numeric entry. -/
def objTop (k : Nat) : Nat :=
  match findObj (k / 256) (k % 256) with
  | some r => 2 ^ (8 * objSize r.ty) - 1
  | none => 2 ^ 64 - 1

/-- Whether the entry shows the largest value of the window that ends, and not a count: the deepest droop of a pound. -/
def isWindowMax (k : Nat) : Bool := decide (0x2300 ≤ k / 256) && decide (k / 256 < 0x2328) && decide (k % 256 = 0xC)

/-- What the window gathered is added to its entries. -/
def State.foldWindow (s : State) : State :=
  let s1 := (List.range 40).foldl (fun a n => a.setObj (poundObj n) 0xC (Map.get s.win 0 (objKey (poundObj n) 0xC))) s
  let s2 := (s.win.filter (fun e => !isWindowMax e.1)).foldl (fun a e =>
    a.setObj (e.1 / 256) (e.1 % 256) (min (a.obj (e.1 / 256) (e.1 % 256) + e.2) (objTop e.1))) s1
  { s2 with win := [] }

/-- Whether the device measures an entry over the window: pulse rates and spreads, link error rates and counts, bandwidths,
bus, cells and rails. -/
def isMeasured (i j : Nat) : Bool :=
  (decide (i = 0x2600) && decide (1 ≤ j ∧ j ≤ 8)) || (decide (i = 0x2601) && decide (1 ≤ j ∧ j ≤ 8)) ||
  (decide (0x2400 ≤ i ∧ i < 0x2440) && [9, 0xA, 0x1A].contains j) || (decide (i = 0x2451) && [5, 6].contains j) ||
  (decide (i = 0x2100) && decide (j = 6)) || (decide (i = 0x2101) && decide (1 ≤ j ∧ j ≤ 16)) ||
  (decide (i = 0x2102) && decide (1 ≤ j ∧ j ≤ 6))

/-- The largest value of a measured entry's range: of the REAL32 ones, as its bits (R39, R266, R321). -/
def measureTop (i j : Nat) : Nat :=
  if i = 0x2600 then 0x3FF33333
  else if i = 0x2601 then 100
  else if i = 0x2451 then 0x46200000
  else if i = 0x2100 then 0x42700000
  else if i = 0x2101 then 0x41A00000
  else if i = 0x2102 then 0x40800000
  else if j = 9 then 0x3F800000
  else objTop (objKey i j)

/-- Whether a measured entry is REAL32. -/
def measureReal (i j : Nat) : Bool := [0x2600, 0x2451, 0x2100, 0x2101, 0x2102].contains i || (decide (0x2400 ≤ i ∧ i < 0x2440) && decide (j = 9))

/-- A measurement is shown, within its entry's range. (DESIGN CHOICE, log 75) -/
def State.measure (s : State) (m : BitVec 16 × BitVec 8 × Word64) : State :=
  let i := m.1.toNat
  let j := m.2.1.toNat
  let v := m.2.2.toNat
  if isMeasured i j then s.setObj i j (if measureReal i j && bitOf v 31 then 0 else min v (measureTop i j)) else s

/-- PACE_SPREAD: a field whose largest phase spread is beyond 12 % of a beat, or that has a seam across which it is beyond
20 % (R36). (DESIGN CHOICE, log 75) -/
def State.paceFlags (s : State) (seams : List (Fin 8 × BitVec 8)) : State :=
  s.setObj 0x2601 9 (maskOf ((List.range 8).filter (fun f =>
    decide (12 < s.obj 0x2601 (f + 1)) || seams.any (fun e => decide (e.1.val = f) && decide (20 < e.2.toNat)))))

/-- The effective beat rate of a basin over the window: the beats it completed per nanosecond, at most 1.90 (R39). -/
def State.windowRate (s : State) (b : Nat) : State :=
  let n := Map.get s.srv.winDone 0 b + (if (s.basin b).started then s.leastPos b - Map.get s.srv.winMark 0 b else 0)
  let len := max 1 s.srv.winLen
  let s1 := s.setObj (0x2610 + b) 6 (f32Of ((min n (1900000 * len) : Nat) : Int) (1000000 * len))
  { s1 with srv := { s1.srv with
      winMark := Map.put s1.srv.winMark 0 b (s1.leastPos b), winDone := Map.put s1.srv.winDone 0 b 0 } }

/-- Notices that are sent once in a window may be sent again. -/
def State.noticesAgain (s : State) : State :=
  { s with
    tiles := s.tiles.foldl (fun m e => Map.put m Tile.init e.1 { e.2 with tp := { e.2.tp with irqSeen := [] } }) [],
    power := { s.power with
      coolant := false,
      pounds := s.power.pounds.foldl (fun m e => Map.put m Pound.init e.1 { e.2 with depleted := false, throttled := false }) [] } }

/-- The report window ends, and the next begins with the length that 0x2602.01 gives. -/
def State.windowEnd (s : State) (m : List (BitVec 16 × BitVec 8 × Word64)) (seams : List (Fin 8 × BitVec 8)) : State :=
  let s1 := (m.foldl State.measure s.foldWindow).paceFlags seams
  let s2 := ((List.range 16).foldl (fun a b => a.windowRate b) s1).noticesAgain
  { s2 with srv := { s2.srv with winLen := s2.obj 0x2602 1 } }

/-- REPORT_WINDOW_END; `m` lists what the device measured over the window, as (index, subindex, value), and
`seams` the largest phase spread across a seam of a field, as (field, percent of a beat) (R36). -/
def execReportWindowEnd (m : List (BitVec 16 × BitVec 8 × Word64)) (seams : List (Fin 8 × BitVec 8)) (s : State) :
    Host.Outcome State Fault Refusal :=
  .next (s.windowEnd m seams)

/-! ### Generic writes -/

/-- A configuration write of one register over the towpath. -/
def State.towpathWrite (s : State) (t off v : Nat) : State :=
  s.towpathAsk t (fun s =>
    if off % 4 ≠ 0 ∨ (off = 0x4004 ∧ s.runs t = true) then (rspRefused, s) else s.regWrite t off v none)

/-- A write of one register by a task context (R59, R77). -/
def State.contextWrite (s : State) (t c off v : Nat) : State :=
  if (s.tile t).dark then s
  else if off % 4 ≠ 0 then s.taskFault t 3
  else if c ≠ 0 ∧ jobMayWrite off = false then s.taskFault t 8
  else (s.regWrite t off v (some c)).2

/-- A write of an entry by SDO; the value has the length of the entry. -/
def State.objectWrite (s : State) (i j v : Nat) : State :=
  if s.coeOpen then
    let n := match findObj i j with | some r => objSize r.ty | none => 1
    let r := s.download i j (bytesOf v n) 0
    r.2.answer ⟨r.1, []⟩
  else s

/-- REGISTER_WRITE: a write to what it names takes effect as its table states. -/
def execRegisterWrite (target : RegTarget) (val : Word64) (s : State) : Host.Outcome State Fault Refusal :=
  .next (match target with
    | .tile t none off => s.towpathWrite t off.toNat val.toNat
    | .tile t (some c) off => s.contextWrite t c off.toNat val.toNat
    | .bar0 off => s.barWrite off.toNat val.toNat
    | .object i sub => s.objectWrite i.toNat sub.toNat val.toNat)

end Sys2Proof.Machine
end

