-- ==== Sys2Proof/Machine/Dispatch.lean ====
section
/-! DEFINITION. One arm per command. -/

namespace Sys2Proof.Machine

open Sys2Proof

/-- The effect of one command on everything but the queue. -/
def exec (i : Instr) (s : State) : Host.Outcome State Fault Refusal :=
  match i with
  | .pacePulse t => Sys2Proof.Machine.execPacePulse t s
  | .beatComplete t chk => Sys2Proof.Machine.execBeatComplete t chk s
  | .illegalBundle t => Sys2Proof.Machine.execIllegalBundle t s
  | .nop t slot => Sys2Proof.Machine.execNop t slot s
  | .br t off => Sys2Proof.Machine.execBr t off s
  | .brz t r off => Sys2Proof.Machine.execBrz t r off s
  | .brnz t r off => Sys2Proof.Machine.execBrnz t r off s
  | .call t off => Sys2Proof.Machine.execCall t off s
  | .ret t => Sys2Proof.Machine.execRet t s
  | .loop t len1 byReg count => Sys2Proof.Machine.execLoop t len1 byReg count s
  | .task t ctx => Sys2Proof.Machine.execTask t ctx s
  | .bar t num ext => Sys2Proof.Machine.execBar t num ext s
  | .barw t num => Sys2Proof.Machine.execBarw t num s
  | .epochEnd t => Sys2Proof.Machine.execEpochEnd t s
  | .addi t d r imm => Sys2Proof.Machine.execAddi t d r imm s
  | .andi t d r imm => Sys2Proof.Machine.execAndi t d r imm s
  | .ori t d r imm => Sys2Proof.Machine.execOri t d r imm s
  | .xori t d r imm => Sys2Proof.Machine.execXori t d r imm s
  | .shli t d r imm => Sys2Proof.Machine.execShli t d r imm s
  | .shri t d r imm => Sys2Proof.Machine.execShri t d r imm s
  | .lui t d imm => Sys2Proof.Machine.execLui t d imm s
  | .add t d r u => Sys2Proof.Machine.execAdd t d r u s
  | .sub t d r u => Sys2Proof.Machine.execSub t d r u s
  | .andS t d r u => Sys2Proof.Machine.execAndS t d r u s
  | .orS t d r u => Sys2Proof.Machine.execOrS t d r u s
  | .xorS t d r u => Sys2Proof.Machine.execXorS t d r u s
  | .sltu t d r u => Sys2Proof.Machine.execSltu t d r u s
  | .lrr t d off => Sys2Proof.Machine.execLrr t d off s
  | .lrw t r off => Sys2Proof.Machine.execLrw t r off s
  | .bankRead t slot o => Sys2Proof.Machine.execBankRead t slot o s
  | .bankWrite t slot o => Sys2Proof.Machine.execBankWrite t slot o s
  | .bankAlias t slot o => Sys2Proof.Machine.execBankAlias t slot o s
  | .bankZero t slot o => Sys2Proof.Machine.execBankZero t slot o s
  | .inject t o => Sys2Proof.Machine.execInject t o s
  | .land t o => Sys2Proof.Machine.execLand t o s
  | .wheelStage t lane slot r => Sys2Proof.Machine.execWheelStage t lane slot r s
  | .streamWs t o => Sys2Proof.Machine.execStreamWs t o s
  | .streamAs t o => Sys2Proof.Machine.execStreamAs t o s
  | .streamConv t o => Sys2Proof.Machine.execStreamConv t o s
  | .shadowLoad t o => Sys2Proof.Machine.execShadowLoad t o s
  | .swap t => Sys2Proof.Machine.execSwap t s
  | .clear t o => Sys2Proof.Machine.execClear t o s
  | .shadowComplete t => Sys2Proof.Machine.execShadowComplete t s
  | .arrayOutput t => Sys2Proof.Machine.execArrayOutput t s
  | .checksumCompare t delta => Sys2Proof.Machine.execChecksumCompare t delta s
  | .vecMov t v => Sys2Proof.Machine.execVecMov t v s
  | .vecAnd t v => Sys2Proof.Machine.execVecAnd t v s
  | .vecOr t v => Sys2Proof.Machine.execVecOr t v s
  | .vecXor t v => Sys2Proof.Machine.execVecXor t v s
  | .vecNot t v => Sys2Proof.Machine.execVecNot t v s
  | .vecBcast t v => Sys2Proof.Machine.execVecBcast t v s
  | .vecRotl t v => Sys2Proof.Machine.execVecRotl t v s
  | .vecRev t v => Sys2Proof.Machine.execVecRev t v s
  | .vecAdd t v => Sys2Proof.Machine.execVecAdd t v s
  | .vecSub t v => Sys2Proof.Machine.execVecSub t v s
  | .vecMin t v => Sys2Proof.Machine.execVecMin t v s
  | .vecMax t v => Sys2Proof.Machine.execVecMax t v s
  | .vecAbs t v => Sys2Proof.Machine.execVecAbs t v s
  | .vecNeg t v => Sys2Proof.Machine.execVecNeg t v s
  | .vecMul t v => Sys2Proof.Machine.execVecMul t v s
  | .vecFma t v => Sys2Proof.Machine.execVecFma t v s
  | .vecShl t v => Sys2Proof.Machine.execVecShl t v s
  | .vecShr t v => Sys2Proof.Machine.execVecShr t v s
  | .vecSar t v => Sys2Proof.Machine.execVecSar t v s
  | .vecCmpeq t v => Sys2Proof.Machine.execVecCmpeq t v s
  | .vecCmplt t v => Sys2Proof.Machine.execVecCmplt t v s
  | .vecCmple t v => Sys2Proof.Machine.execVecCmple t v s
  | .vecCmpne t v => Sys2Proof.Machine.execVecCmpne t v s
  | .vecSel t v => Sys2Proof.Machine.execVecSel t v s
  | .vecRsum t v => Sys2Proof.Machine.execVecRsum t v s
  | .vecRmax t v => Sys2Proof.Machine.execVecRmax t v s
  | .vecRmin t v => Sys2Proof.Machine.execVecRmin t v s
  | .vecRamax t v => Sys2Proof.Machine.execVecRamax t v s
  | .vecCvtn t v => Sys2Proof.Machine.execVecCvtn t v s
  | .vecCvtw t v => Sys2Proof.Machine.execVecCvtw t v s
  | .vecCvti t v => Sys2Proof.Machine.execVecCvti t v s
  | .vecCvtf t v => Sys2Proof.Machine.execVecCvtf t v s
  | .vecMxscale t v => Sys2Proof.Machine.execVecMxscale t v s
  | .vecMxapply t v => Sys2Proof.Machine.execVecMxapply t v s
  | .vecExp t v => Sys2Proof.Machine.execVecExp t v s
  | .vecExp2 t v => Sys2Proof.Machine.execVecExp2 t v s
  | .vecLog t v => Sys2Proof.Machine.execVecLog t v s
  | .vecLog2 t v => Sys2Proof.Machine.execVecLog2 t v s
  | .vecRecip t v => Sys2Proof.Machine.execVecRecip t v s
  | .vecRsqrt t v => Sys2Proof.Machine.execVecRsqrt t v s
  | .vecSqrt t v => Sys2Proof.Machine.execVecSqrt t v s
  | .vecTanh t v => Sys2Proof.Machine.execVecTanh t v s
  | .vecSigmoid t v => Sys2Proof.Machine.execVecSigmoid t v s
  | .vecSin t v => Sys2Proof.Machine.execVecSin t v s
  | .vecCos t v => Sys2Proof.Machine.execVecCos t v s
  | .vecRand t v => Sys2Proof.Machine.execVecRand t v s
  | .streamRegWrite t r w val => Sys2Proof.Machine.execStreamRegWrite t r w val s
  | .lockReport t => Sys2Proof.Machine.execLockReport t s
  | .lockUp r b split hop => Sys2Proof.Machine.execLockUp r b split hop s
  | .lockResult t hop => Sys2Proof.Machine.execLockResult t hop s
  | .lockBeat t => Sys2Proof.Machine.execLockBeat t s
  | .lockHoldRequest b cause lock => Sys2Proof.Machine.execLockHoldRequest b cause lock s
  | .lockHoldRelease b cause lock => Sys2Proof.Machine.execLockHoldRelease b cause lock s
  | .estoreDataWrite t w val => Sys2Proof.Machine.execEstoreDataWrite t w val s
  | .barUp r b num hop => Sys2Proof.Machine.execBarUp r b num hop s
  | .barDone t num hop => Sys2Proof.Machine.execBarDone t num hop s
  | .alarm src hop => Sys2Proof.Machine.execAlarm src hop s
  | .irq src hop => Sys2Proof.Machine.execIrq src hop s
  | .cfgWr d w data hop => Sys2Proof.Machine.execCfgWr d w data hop s
  | .cfgRd d w hop => Sys2Proof.Machine.execCfgRd d w hop s
  | .cfgRsp d hop => Sys2Proof.Machine.execCfgRsp d hop s
  | .batchSeal t id count target hop => Sys2Proof.Machine.execBatchSeal t id count target hop s
  | .fwInfo d w crc hop => Sys2Proof.Machine.execFwInfo d w crc hop s
  | .fwChunk d id idx data crc hop => Sys2Proof.Machine.execFwChunk d id idx data crc hop s
  | .fwQuery d w hop => Sys2Proof.Machine.execFwQuery d w hop s
  | .missingUp d hop => Sys2Proof.Machine.execMissingUp d hop s
  | .fwActivate d w batch hop => Sys2Proof.Machine.execFwActivate d w batch hop s
  | .fwCancel d hop => Sys2Proof.Machine.execFwCancel d hop s
  | .trace t hop => Sys2Proof.Machine.execTrace t hop s
  | .stopArrive d => Sys2Proof.Machine.execStopArrive d s
  | .stopForce t => Sys2Proof.Machine.execStopForce t s
  | .tokenArrive t lane tok par => Sys2Proof.Machine.execTokenArrive t lane tok par s
  | .tokenAck t lane off => Sys2Proof.Machine.execTokenAck t lane off s
  | .wheelInjection t k par => Sys2Proof.Machine.execWheelInjection t k par s
  | .wheelDataWrite t ctx val => Sys2Proof.Machine.execWheelDataWrite t ctx val s
  | .circWrite t ctx k row val => Sys2Proof.Machine.execCircWrite t ctx k row val s
  | .stall b mask => Sys2Proof.Machine.execStall b mask s
  | .stallRecord b => Sys2Proof.Machine.execStallRecord b s
  | .seamWireFail t lane wire => Sys2Proof.Machine.execSeamWireFail t lane wire s
  | .seamHandshakeFail t lane wire => Sys2Proof.Machine.execSeamHandshakeFail t lane wire s
  | .pailResume t bank => Sys2Proof.Machine.execPailResume t bank s
  | .correctionWriteback t bank => Sys2Proof.Machine.execCorrectionWriteback t bank s
  | .patrolScrub t bank row => Sys2Proof.Machine.execPatrolScrub t bank row s
  | .narrowWrite t row data mask bad => Sys2Proof.Machine.execNarrowWrite t row data mask bad s
  | .gatherFlush t bank bad => Sys2Proof.Machine.execGatherFlush t bank bad s
  | .rowWinWrite t ctx mask => Sys2Proof.Machine.execRowWinWrite t ctx mask s
  | .rowWinRead t ctx => Sys2Proof.Machine.execRowWinRead t ctx s
  | .bankOwnerWrite t ctx bank val => Sys2Proof.Machine.execBankOwnerWrite t ctx bank val s
  | .sleepRetain t ctx bank => Sys2Proof.Machine.execSleepRetain t ctx bank s
  | .sleepOff t ctx bank => Sys2Proof.Machine.execSleepOff t ctx bank s
  | .bankDrained t bank => Sys2Proof.Machine.execBankDrained t bank s
  | .wake t ctx bank => Sys2Proof.Machine.execWake t ctx bank s
  | .wakeComplete t bank => Sys2Proof.Machine.execWakeComplete t bank s
  | .remapEntryWrite t ctx bank m val => Sys2Proof.Machine.execRemapEntryWrite t ctx bank m val s
  | .remapCopy t bank m => Sys2Proof.Machine.execRemapCopy t bank m s
  | .unload u dir => Sys2Proof.Machine.execUnload u dir s
  | .load u dir => Sys2Proof.Machine.execLoad u dir s
  | .loadEnd u ok => Sys2Proof.Machine.execLoadEnd u ok s
  | .portEnable p en => Sys2Proof.Machine.execPortEnable p en s
  | .qualifyEnd p tx rx ok => Sys2Proof.Machine.execQualifyEnd p tx rx ok s
  | .laneTrainTimeout p lane => Sys2Proof.Machine.execLaneTrainTimeout p lane s
  | .retrainEnd p ok => Sys2Proof.Machine.execRetrainEnd p ok s
  | .laneDrop p lane => Sys2Proof.Machine.execLaneDrop p lane s
  | .flitReceive p f rs => Sys2Proof.Machine.execFlitReceive p f rs s
  | .headFlit p => Sys2Proof.Machine.execHeadFlit p s
  | .rowFlit p => Sys2Proof.Machine.execRowFlit p s
  | .bargeRowLand p ch => Sys2Proof.Machine.execBargeRowLand p ch s
  | .tailFlit p => Sys2Proof.Machine.execTailFlit p s
  | .bargeCompletionSend p ch => Sys2Proof.Machine.execBargeCompletionSend p ch s
  | .completionFlit p => Sys2Proof.Machine.execCompletionFlit p s
  | .boundBargeRelease p ch => Sys2Proof.Machine.execBoundBargeRelease p ch s
  | .descriptorRead p => Sys2Proof.Machine.execDescriptorRead p s
  | .flitGateRelease p => Sys2Proof.Machine.execFlitGateRelease p s
  | .ack p body => Sys2Proof.Machine.execAck p body s
  | .nak p body => Sys2Proof.Machine.execNak p body s
  | .credit p body => Sys2Proof.Machine.execCredit p body s
  | .hello p body => Sys2Proof.Machine.execHello p body s
  | .sync p body => Sys2Proof.Machine.execSync p body s
  | .mode p body => Sys2Proof.Machine.execMode p body s
  | .ctrlRepeat p => Sys2Proof.Machine.execCtrlRepeat p s
  | .ackSend p => Sys2Proof.Machine.execAckSend p s
  | .ackTimeout p => Sys2Proof.Machine.execAckTimeout p s
  | .channelSeqWrite sub val => Sys2Proof.Machine.execChannelSeqWrite sub val s
  | .linkRefLost => Sys2Proof.Machine.execLinkRefLost s
  | .linkRefReturn => Sys2Proof.Machine.execLinkRefReturn s
  | .cageMediumRemoved cage => Sys2Proof.Machine.execCageMediumRemoved cage s
  | .cageMediumInserted cage => Sys2Proof.Machine.execCageMediumInserted cage s
  | .cagePower cage => Sys2Proof.Machine.execCagePower cage s
  | .doorbell q val => Sys2Proof.Machine.execDoorbell q val s
  | .queueEnable q => Sys2Proof.Machine.execQueueEnable q s
  | .queueDisable q => Sys2Proof.Machine.execQueueDisable q s
  | .queueCoalesceSet q on => Sys2Proof.Machine.execQueueCoalesceSet q on s
  | .cqHeadWrite q val => Sys2Proof.Machine.execCqHeadWrite q val s
  | .data q entry => Sys2Proof.Machine.execData q entry s
  | .loadImage entry image => Sys2Proof.Machine.execLoadImage entry image s
  | .hostRowLand slot data => Sys2Proof.Machine.execHostRowLand slot data s
  | .hostReadError slot => Sys2Proof.Machine.execHostReadError slot s
  | .hostDescriptorRead h => Sys2Proof.Machine.execHostDescriptorRead h s
  | .coalTimeout q => Sys2Proof.Machine.execCoalTimeout q s
  | .functionLevelReset => Sys2Proof.Machine.execFunctionLevelReset s
  | .perstAssert => Sys2Proof.Machine.execPerstAssert s
  | .pcieLinkTrain speed width => Sys2Proof.Machine.execPcieLinkTrain speed width s
  | .mbWrite ca => Sys2Proof.Machine.execMbWrite ca s
  | .mbRead ca => Sys2Proof.Machine.execMbRead ca s
  | .sdoDownload idx sub data => Sys2Proof.Machine.execSdoDownload idx sub data s
  | .sdoUpload idx sub => Sys2Proof.Machine.execSdoUpload idx sub s
  | .sdoCompleteDownload idx zero data => Sys2Proof.Machine.execSdoCompleteDownload idx zero data s
  | .sdoCompleteUpload idx zero => Sys2Proof.Machine.execSdoCompleteUpload idx zero s
  | .sdoInformation idx sub => Sys2Proof.Machine.execSdoInformation idx sub s
  | .foeWrite name password len sigOk img => Sys2Proof.Machine.execFoeWrite name password len sigOk img s
  | .alStateRequest st dcMet => Sys2Proof.Machine.execAlStateRequest st dcMet s
  | .rxpdo a c => Sys2Proof.Machine.execRxpdo a c s
  | .sync0 => Sys2Proof.Machine.execSync0 s
  | .pdoLatch => Sys2Proof.Machine.execPdoLatch s
  | .syncError => Sys2Proof.Machine.execSyncError s
  | .setpointTimeout => Sys2Proof.Machine.execSetpointTimeout s
  | .clampLogClear => Sys2Proof.Machine.execClampLogClear s
  | .statusClear bits => Sys2Proof.Machine.execStatusClear bits s
  | .lkHeartbeat => Sys2Proof.Machine.execLkHeartbeat s
  | .lkTakeover => Sys2Proof.Machine.execLkTakeover s
  | .lkBootTimeout => Sys2Proof.Machine.execLkBootTimeout s
  | .inputQualified => Sys2Proof.Machine.execInputQualified s
  | .powerGood scanEn => Sys2Proof.Machine.execPowerGood scanEn s
  | .powerFail cause => Sys2Proof.Machine.execPowerFail cause s
  | .presOpen => Sys2Proof.Machine.execPresOpen s
  | .cellLost cell => Sys2Proof.Machine.execCellLost cell s
  | .ceilingUpdate vin => Sys2Proof.Machine.execCeilingUpdate vin s
  | .phaseLost pd phase => Sys2Proof.Machine.execPhaseLost pd phase s
  | .regFail p cause => Sys2Proof.Machine.execRegFail p cause s
  | .weirDroop pd depth charge => Sys2Proof.Machine.execWeirDroop pd depth charge s
  | .weirOvershoot pd => Sys2Proof.Machine.execWeirOvershoot pd s
  | .weirSettled pd => Sys2Proof.Machine.execWeirSettled pd s
  | .poundTrip pd cause => Sys2Proof.Machine.execPoundTrip pd cause s
  | .poundPowerUp pd => Sys2Proof.Machine.execPoundPowerUp pd s
  | .poundPowerDown pd => Sys2Proof.Machine.execPoundPowerDown pd s
  | .poundGrantEval => Sys2Proof.Machine.execPoundGrantEval s
  | .poundRampEnd pd ok => Sys2Proof.Machine.execPoundRampEnd pd ok s
  | .capture8us pd ivpn ivpm sys tiles => Sys2Proof.Machine.execCapture8us pd ivpn ivpm sys tiles s
  | .vtSetWrite t mv => Sys2Proof.Machine.execVtSetWrite t mv s
  | .estimateSample => Sys2Proof.Machine.execEstimateSample s
  | .estimatorGainUpdate => Sys2Proof.Machine.execEstimatorGainUpdate s
  | .skimFrame t => Sys2Proof.Machine.execSkimFrame t s
  | .coolantSample tin flow => Sys2Proof.Machine.execCoolantSample tin flow s
  | .voltageStep pd => Sys2Proof.Machine.execVoltageStep pd s
  | .voltageStepEnd pd => Sys2Proof.Machine.execVoltageStepEnd pd s
  | .skimTestWrite t val => Sys2Proof.Machine.execSkimTestWrite t val s
  | .bringupPhaseEnd r => Sys2Proof.Machine.execBringupPhaseEnd r s
  | .serviceUnlock val => Sys2Proof.Machine.execServiceUnlock val s
  | .removeEntry entry => Sys2Proof.Machine.execRemoveEntry entry s
  | .bringUp => Sys2Proof.Machine.execBringUp s
  | .powerDown => Sys2Proof.Machine.execPowerDown s
  | .cancelRemoval entry => Sys2Proof.Machine.execCancelRemoval entry s
  | .resetTile t => Sys2Proof.Machine.execResetTile t s
  | .resetBerth t => Sys2Proof.Machine.execResetBerth t s
  | .resetBasin b => Sys2Proof.Machine.execResetBasin b s
  | .resetDevice => Sys2Proof.Machine.execResetDevice s
  | .resetDrainEnd => Sys2Proof.Machine.execResetDrainEnd s
  | .drainLimit => Sys2Proof.Machine.execDrainLimit s
  | .resetEnd => Sys2Proof.Machine.execResetEnd s
  | .alarmCollectionEnd b => Sys2Proof.Machine.execAlarmCollectionEnd b s
  | .targetedTestEnd t cls lasting item => Sys2Proof.Machine.execTargetedTestEnd t cls lasting item s
  | .replayRelease b => Sys2Proof.Machine.execReplayRelease b s
  | .remap => Sys2Proof.Machine.execRemap s
  | .idleWindowSlice t cls ok item => Sys2Proof.Machine.execIdleWindowSlice t cls ok item s
  | .trierOverdue t => Sys2Proof.Machine.execTrierOverdue t s
  | .trierPauseRequest b => Sys2Proof.Machine.execTrierPauseRequest b s
  | .trierPauseDone b tested faults => Sys2Proof.Machine.execTrierPauseDone b tested faults s
  | .snapshotRequest b kind => Sys2Proof.Machine.execSnapshotRequest b kind s
  | .snapshotInterval b full => Sys2Proof.Machine.execSnapshotInterval b full s
  | .riskEvaluate => Sys2Proof.Machine.execRiskEvaluate s
  | .snapshotStart => Sys2Proof.Machine.execSnapshotStart s
  | .snapshotCopy b => Sys2Proof.Machine.execSnapshotCopy b s
  | .snapshotRelease b => Sys2Proof.Machine.execSnapshotRelease b s
  | .snapshotSecured b => Sys2Proof.Machine.execSnapshotSecured b s
  | .restoreLatest b bad => Sys2Proof.Machine.execRestoreLatest b bad s
  | .restoreOlderFull b bad => Sys2Proof.Machine.execRestoreOlderFull b bad s
  | .restoreDone b media => Sys2Proof.Machine.execRestoreDone b media s
  | .basinDefine b => Sys2Proof.Machine.execBasinDefine b s
  | .basinRemove b => Sys2Proof.Machine.execBasinRemove b s
  | .updateActivate => Sys2Proof.Machine.execUpdateActivate s
  | .updateRollback => Sys2Proof.Machine.execUpdateRollback s
  | .updateCancel => Sys2Proof.Machine.execUpdateCancel s
  | .lkHandover => Sys2Proof.Machine.execLkHandover s
  | .standbyRebootEnd ok => Sys2Proof.Machine.execStandbyRebootEnd ok s
  | .portDrainEnd p => Sys2Proof.Machine.execPortDrainEnd p s
  | .portDrainLimit p => Sys2Proof.Machine.execPortDrainLimit p s
  | .powerCtrlRestartEnd f => Sys2Proof.Machine.execPowerCtrlRestartEnd f s
  | .digestDrain b => Sys2Proof.Machine.execDigestDrain b s
  | .digestAck t n => Sys2Proof.Machine.execDigestAck t n s
  | .digestCaptureArm b epoch => Sys2Proof.Machine.execDigestCaptureArm b epoch s
  | .bankCaptureArm b xy => Sys2Proof.Machine.execBankCaptureArm b xy s
  | .traceMark t val => Sys2Proof.Machine.execTraceMark t val s
  | .hsSelWrite t val => Sys2Proof.Machine.execHsSelWrite t val s
  | .probeSelect => Sys2Proof.Machine.execProbeSelect s
  | .traceStoreClear => Sys2Proof.Machine.execTraceStoreClear s
  | .bypass => Sys2Proof.Machine.execBypass s
  | .idcode => Sys2Proof.Machine.execIdcode s
  | .samplePreload => Sys2Proof.Machine.execSamplePreload s
  | .extest => Sys2Proof.Machine.execExtest s
  | .clamp => Sys2Proof.Machine.execClamp s
  | .highz => Sys2Proof.Machine.execHighz s
  | .registerWrite target val => Sys2Proof.Machine.execRegisterWrite target val s
  | .reportWindowEnd m seams => Sys2Proof.Machine.execReportWindowEnd m seams s
  | .laneLossOfLock p lane => Sys2Proof.Machine.execLaneLossOfLock p lane s
  | .pcieReferenceLost => Sys2Proof.Machine.execPcieReferenceLost s
  | .poundRampDownEnd pd => Sys2Proof.Machine.execPoundRampDownEnd pd s
  | .weirBankRecharged pd => Sys2Proof.Machine.execWeirBankRecharged pd s
  | .linkControllerRestartEnd p ok => Sys2Proof.Machine.execLinkControllerRestartEnd p ok s
  | .busHoldupEnd => Sys2Proof.Machine.execBusHoldupEnd s

end Sys2Proof.Machine
end

