-- ==== Sys2Proof/Machine/Step.lean ====
section
/-! DEFINITION. One step: the command at the front of the queue runs on the device with the queue's rest. -/

namespace Sys2Proof.Machine

/-- Takes the command at the front of the queue and runs it; on an empty queue the block idles. (DESIGN CHOICE, log 1
and 120) -/
def step (s : State) : Host.Outcome State Fault Refusal :=
  match s.pending with
  | [] => .next s
  | c :: rest => exec c { s with pending := rest }

/-- `s` with the command that the word spells put at the front of the queue; no row of the table has bits, so no word
spells a command. (DESIGN CHOICE, log 3) -/
def State.withFetchWord (s : State) (nbits w : Nat) : State :=
  match decodeTableWord nbits w with
  | some c => { s with pending := c :: s.pending }
  | none => s

end Sys2Proof.Machine
end

