-- ==== Sys2Proof/Safety.lean ====
section
/-! DEFINITION. What counts as a safe run: a command answers, and the device's sparse parts keep their one canonical
form, so that equal contents are equal data. -/

namespace Sys2Proof.Machine

open Sys2Proof

/-- The command answers a next state: it neither faults nor is refused. -/
def Answers (c : Instr) (s : State) : Prop := ∃ s', exec c s = .next s'

/-- Bank rows, tile-local registers, dictionary entries, BAR0 registers, window counters, tiles, basins, hubs and seams
stand in canonical form: keys strictly rising, and no entry equal to what its unlisted key reads as. -/
structure Canonical (s : State) : Prop where
  mem : Map.wf s.mem (fun _ => 0) = true
  tregs : Map.wf s.tregs (fun k => regDefault (k % 65536)) = true
  objs : Map.wf s.objs objDefault = true
  bar0 : Map.wf s.bar0 barDefault = true
  win : Map.wf s.win (fun _ => 0) = true
  tiles : Map.wf s.tiles (fun _ => Tile.init) = true
  basins : Map.wf s.basins (fun _ => Basin.init) = true
  hubs : Map.wf s.hubs (fun _ => Hub.init) = true
  seams : Map.wf s.seams (fun _ => Seam.init) = true

/-- A choice of parts of the device: the free value counter, bank rows, tile-local registers, dictionary entries, BAR0
registers, window counters, tiles, basins, hubs, seams, the queued alarms and notices, the responses of other towpath destinations, links, the host interface, the
object server, the Lockkeepers, bring-up and resets, power, the cellar, updates, and the debug parts. -/
structure Parts where
  free : Bool := true
  mem : Bool := true
  tregs : Bool := true
  objs : Bool := true
  bar0 : Bool := true
  win : Bool := true
  tiles : Bool := true
  basins : Bool := true
  hubs : Bool := true
  seams : Bool := true
  alarmQ : Bool := true
  irqQ : Bool := true
  agentRsp : Bool := true
  link : Bool := true
  host : Bool := true
  srv : Bool := true
  keepers : Bool := true
  boot : Bool := true
  power : Bool := true
  cellar : Bool := true
  upd : Bool := true
  dbg : Bool := true

/-- Every chosen part of `s` is what it is in `base`. -/
structure Same (p : Parts) (base s : State) : Prop where
  free : p.free = true → s.free = base.free
  mem : p.mem = true → s.mem = base.mem
  tregs : p.tregs = true → s.tregs = base.tregs
  objs : p.objs = true → s.objs = base.objs
  bar0 : p.bar0 = true → s.bar0 = base.bar0
  win : p.win = true → s.win = base.win
  tiles : p.tiles = true → s.tiles = base.tiles
  basins : p.basins = true → s.basins = base.basins
  hubs : p.hubs = true → s.hubs = base.hubs
  seams : p.seams = true → s.seams = base.seams
  alarmQ : p.alarmQ = true → s.alarmQ = base.alarmQ
  irqQ : p.irqQ = true → s.irqQ = base.irqQ
  agentRsp : p.agentRsp = true → s.agentRsp = base.agentRsp
  link : p.link = true → s.link = base.link
  host : p.host = true → s.host = base.host
  srv : p.srv = true → s.srv = base.srv
  keepers : p.keepers = true → s.keepers = base.keepers
  boot : p.boot = true → s.boot = base.boot
  power : p.power = true → s.power = base.power
  cellar : p.cellar = true → s.cellar = base.cellar
  upd : p.upd = true → s.upd = base.upd
  dbg : p.dbg = true → s.dbg = base.dbg

/-- Nothing of the device but tile `t` changes. -/
structure TileOnly (s s' : State) (t : Nat) : Prop where
  others : ∀ u, u ≠ t → s'.tile u = s.tile u
  rest : { s' with tiles := s.tiles } = s

/-- Tile `t` becomes `v`, and nothing else of the device changes. -/
def TileBecomes (s s' : State) (t : Nat) (v : Tile) : Prop := s'.tile t = v ∧ TileOnly s s' t

/-- Tile `t` takes task fault `cause` (R77): the first of the epoch is latched with its beat and the address of its bundle
and a later one leaves those three registers as they are; it is counted, its context becomes faulted, and bits 1 and 8 of
the fault summary are set.  Besides these, the first-error registers and the count of lost trace records, no tile-local
register of any tile changes, and no row. -/
structure TaskFaultTaken (s s' : State) (t cause : Nat) : Prop where
  first : s.regN t 0x0c = 0 →
    s'.regN t 0x0c = cause ∧ s'.regN t 0x10 = s.regN t 0xf08 ∧ s'.regN t 0x14 = (s.tile t).til.ipc % 2048
  later : s.regN t 0x0c ≠ 0 → ∀ off ∈ [0x0c, 0x10, 0x14], s'.regN t off = s.regN t off
  counted : s'.regN t 0x28 = min (s.regN t 0x28 + 1) 0xFFFF
  context : s'.regN t (ctxOff 0x114 (s.tile t).til.active) = 3
  summary : bitOf (s'.regN t 0x6000) 1 = true ∧ bitOf (s'.regN t 0x6000) 8 = true
  others : ∀ u off, off < 65536 → (u ≠ t ∨
    off ∉ [0x0c, 0x10, 0x14, 0x28, ctxOff 0x114 (s.tile t).til.active, 0x9a8, 0x6000, 0x6004, 0x6008]) →
    s'.regN u off = s.regN u off
  rows : s'.mem = s.mem

/-- Tile `t` answers a configuration request with a status and data words, and nothing else of the device changes: of the
tile, only its towpath's part. -/
def AnswersOnly (s s' : State) (t status : Nat) (data : List Word32) : Prop :=
  TileOnly s s' t ∧ s'.tile t = { s.tile t with tp := (s'.tile t).tp } ∧
  (s'.tile t).tp.responses = (s.tile t).tp.responses ++ [⟨t, status, data⟩] ∧
  (s'.tile t).tp.batches = (s.tile t).tp.batches

/-- A write of a register that only context 0 and the towpath may write is let through: the tile is not dark, and it comes
from context 0, or from the towpath where no reset of the tile absorbs (R59, R175, R323, R382). -/
def Admitted (s : State) (t : Nat) (ctx : Option (Fin 4)) : Prop :=
  (s.tile t).dark = false ∧ (ctx = some 0 ∨ (ctx = none ∧ s.absorbing t = false))

/-- The tile answers a write of the towpath with a status, and makes no answer to one of a context. -/
def Answer (s s' : State) (t : Nat) (ctx : Option (Fin 4)) (status : Nat) : Prop :=
  (s'.tile t).tp.responses = (s.tile t).tp.responses ++ (if ctx = none then [⟨t, status, []⟩] else [])

/-- Every tile-local register of every tile but `off` of tile `t` reads as before. -/
def RegsElse (s s' : State) (t off : Nat) : Prop :=
  ∀ u g, g < 65536 → (u ≠ t ∨ g ≠ off) → s'.regN u g = s.regN u g

/-- The control slot of tile `t` issues, and the value `v` is on its way to scalar register `d`, written in the beat in
progress; nothing else changes. -/
def ScalarResult (s s' : State) (t : Nat) (d : SReg) (v : Word32) : Prop :=
  TileBecomes s s' t { s.tile t with til := { (s.tile t).til with
    slots := (s.tile t).til.slots ++ [0],
    swrites := (s.tile t).til.swrites ++ [⟨(s.tile t).til.beat, true, d.val, v⟩] } }

/-- A vector op of tile `t` issues (R79, R81, R82): the quarters `f` gives for its operands are on their way to vd, written
`lat − 1` beats later and poisoned where a quarter it reads is, and the op is counted (R359).  The tile's other registers
but NUM_STATUS and OUT_SAT_COUNT stay, as do its vector registers, every row and every other tile. -/
def VectorResult (s s' : State) (t : Nat) (op lat use : Nat) (v : VecOp) (srcs : List Nat) (f : VecIn → VecOut) : Prop :=
  let tl := s.tile t
  let off := if op < 0x70 then 0x711c else 0x7120
  let o := f (((s.takeSlot t 1).countReg t off 1).vecIn t op use v).1
  (s'.tile t).vwrites = tl.vwrites ++ o.quarters.map (fun q =>
    (⟨tl.til.beat + lat - 1, 1, tl.vorder, 4 * v.vd.val + q, o.mask, vquarterOf o.val q,
      srcs.any (fun q => Map.get tl.vpoison false q)⟩ : VWrite)) ∧
  s'.regN t off = (s.regN t off + 1) % 2 ^ 32 ∧ (s'.tile t).vregs = tl.vregs ∧
  (s'.tile t).til = { tl.til with slots := tl.til.slots ++ [1] } ∧ (∀ u, u ≠ t → s'.tile u = s.tile u) ∧
  (∀ u g, g < 65536 → (u ≠ t ∨ g ∉ [off, 0x2004, 0x2018]) → s'.regN u g = s.regN u g) ∧ s'.mem = s.mem

/-- Every row of every tile but row `flat` of tile `t` reads as before. -/
def RowsElse (s s' : State) (t flat : Nat) : Prop :=
  ∀ u g, u < 2304 → g < 40960 → (u ≠ t ∨ g ≠ flat) → s'.rowWord u g = s.rowWord u g

/-- Nothing of the device but the tile-local registers changes. -/
def RegsOnly (s s' : State) : Prop := { s' with tregs := s.tregs } = s

/-- The row that a bank op's first access names, relative to its context: its row field, plus S(sidx) in mode 1 (R65). -/
def bankOpRow (s : State) (t : Nat) (o : BankOp) : Nat :=
  if o.mode.val = 1 then (o.row.toNat + (s.sreg t o.sidx.val).toNat) % 2 ^ 32 else o.row.toNat

/-- A bank op of row or indexed mode finds nothing against its first access (R65, R66, R69, R74, R154, R160): its rows lie
in the context's data range and end with `flat` as the first; no earlier op, generator or fetch holds a port of its banks;
the context owns them; no parity error strikes; and the first row is not in a pail. -/
structure FirstAccess (s : State) (t : Nat) (o : BankOp) (flat : Nat) : Prop where
  mode : o.mode.val < 2
  some : o.count ≠ 0
  within : bankOpRow s t o + o.count.toNat ≤ (s.dataRange t (s.tile t).til.active).2
  first : flat = (s.dataRange t (s.tile t).til.active).1 + bankOpRow s t o
  room : flat < 40960
  free : ∀ e ∈ (s.tile t).til.streams, e.mode ≠ 2 → ∀ b ∈ banksOf flat o.count.toNat, b ∉ e.held
  generators : ∀ b ∈ banksOf flat o.count.toNat, b ∉ (s.tile t).til.gclaims
  owned : ∀ b ∈ banksOf flat o.count.toNat, (s.bank t b).owner = ctxOwner (s.tile t).til.active
  first_owned : (s.bank t (bankOf flat)).owner = ctxOwner (s.tile t).til.active
  fetch : ¬(bankOf flat = 15 ∧ (s.tile t).til.fetchNow = true)
  parity : (s.tile t).til.badBank ≠ Option.some (bankOf flat)
  plain : s.inPail t (bankOf flat) (localOf flat) = false

/-- The stream of a bank op once its first access is made. -/
def firstStream (s : State) (t slot op : Nat) (o : BankOp) (flat : Nat) : BankStream :=
  ⟨slot, (s.tile t).til.beat, op, o.mode.val, bankOpRow s t o, o.route.val, o.reg.val, o.count.toNat, 1,
    (s.tile t).til.active, bankOpRow s t o % 4, banksOf flat o.count.toNat, false, false, false, false, 0⟩

/-- The parts of the device that a command leaves alone, whatever its operands and the state are. -/
def leaves : Instr → Parts
  | .pacePulse .. =>
    { mem := false, tregs := false, objs := false, win := false, tiles := false, basins := false, hubs := false,
      boot := false }
  | .beatComplete .. =>
    { mem := false, tregs := false, objs := false, win := false, tiles := false, basins := false, seams := false,
      irqQ := false, srv := false, boot := false }
  | .illegalBundle .. | .br .. | .brz .. | .brnz .. | .call .. | .ret .. | .loop .. | .task .. | .bar ..
  | .epochEnd .. | .lrr .. | .lrw .. | .streamWs .. | .streamAs .. | .streamConv .. | .shadowLoad .. | .swap ..
  | .clear .. | .checksumCompare .. | .vecMov .. | .vecAnd .. | .vecOr .. | .vecXor .. | .vecNot .. | .vecBcast ..
  | .vecRotl .. | .vecRev .. | .vecAdd .. | .vecSub .. | .vecMin .. | .vecMax .. | .vecAbs .. | .vecNeg ..
  | .vecMul .. | .vecFma .. | .vecShl .. | .vecShr .. | .vecSar .. | .vecCmpeq .. | .vecCmplt .. | .vecCmple ..
  | .vecCmpne .. | .vecSel .. | .vecRsum .. | .vecRmax .. | .vecRmin .. | .vecRamax .. | .vecCvtn .. | .vecCvtw ..
  | .vecCvti .. | .vecCvtf .. | .vecMxscale .. | .vecMxapply .. | .vecExp .. | .vecExp2 .. | .vecLog ..
  | .vecLog2 .. | .vecRecip .. | .vecRsqrt .. | .vecSqrt .. | .vecTanh .. | .vecSigmoid .. | .vecSin ..
  | .vecCos .. | .vecRand .. | .wheelDataWrite .. =>
    { tregs := false, objs := false, win := false, tiles := false, basins := false }
  | .nop .. | .barw .. | .addi .. | .andi .. | .ori .. | .xori .. | .shli .. | .shri .. | .lui .. | .add ..
  | .sub .. | .andS .. | .orS .. | .xorS .. | .sltu .. | .shadowComplete .. => { tiles := false }
  | .bankRead .. | .bankWrite .. | .bankAlias .. | .bankZero .. | .wheelInjection .. | .pailResume ..
  | .patrolScrub .. | .narrowWrite .. | .gatherFlush .. | .rowWinWrite .. | .rowWinRead .. | .remapCopy .. =>
    { mem := false, tregs := false, objs := false, win := false, tiles := false, basins := false }
  | .inject .. | .land .. | .wheelStage .. | .tokenArrive .. =>
    { mem := false, tregs := false, objs := false, win := false, tiles := false, basins := false, seams := false,
      boot := false }
  | .arrayOutput .. | .lockReport .. => { tregs := false, tiles := false, basins := false }
  | .streamRegWrite .. | .estoreDataWrite .. | .stopForce .. | .circWrite .. | .skimTestWrite .. | .digestAck ..
  | .traceMark .. | .hsSelWrite .. =>
    { mem := false, tregs := false, objs := false, win := false, tiles := false, basins := false, irqQ := false,
      srv := false }
  | .lockUp .. =>
    { tregs := false, objs := false, win := false, tiles := false, basins := false, hubs := false, alarmQ := false,
      srv := false }
  | .lockResult .. =>
    { mem := false, tregs := false, objs := false, win := false, tiles := false, basins := false, hubs := false,
      alarmQ := false }
  | .lockBeat .. =>
    { free := false, mem := false, tregs := false, objs := false, win := false, tiles := false, basins := false,
      hubs := false, seams := false, alarmQ := false, irqQ := false, link := false, host := false, srv := false,
      boot := false, upd := false }
  | .lockHoldRequest .. => { basins := false }
  | .lockHoldRelease .. | .seamWireFail .. | .seamHandshakeFail .. =>
    { tregs := false, objs := false, basins := false, seams := false, alarmQ := false, irqQ := false, boot := false }
  | .barUp .. =>
    { tregs := false, objs := false, win := false, tiles := false, basins := false, hubs := false, alarmQ := false }
  | .barDone .. => { tregs := false, win := false, tiles := false, basins := false, hubs := false, alarmQ := false }
  | .alarm .. =>
    { tregs := false, objs := false, bar0 := false, win := false, tiles := false, basins := false, hubs := false,
      alarmQ := false, host := false, srv := false, keepers := false }
  | .irq .. =>
    { tregs := false, objs := false, win := false, tiles := false, hubs := false, alarmQ := false, irqQ := false,
      srv := false }
  | .cfgWr .. =>
    { mem := false, tregs := false, objs := false, win := false, tiles := false, basins := false, hubs := false,
      alarmQ := false, irqQ := false, agentRsp := false, srv := false }
  | .cfgRd .. =>
    { tregs := false, objs := false, win := false, tiles := false, hubs := false, alarmQ := false, agentRsp := false }
  | .cfgRsp .. => { tregs := false, win := false, tiles := false, hubs := false, alarmQ := false, agentRsp := false }
  | .batchSeal .. => { tregs := false, win := false, tiles := false, hubs := false, alarmQ := false }
  | .fwInfo .. | .fwChunk .. | .fwActivate .. | .fwCancel .. =>
    { tregs := false, objs := false, win := false, tiles := false, hubs := false, alarmQ := false }
  | .fwQuery .. | .missingUp .. =>
    { tregs := false, objs := false, win := false, tiles := false, hubs := false, alarmQ := false, upd := false }
  | .trace .. =>
    { free := false, tregs := false, objs := false, win := false, tiles := false, hubs := false, alarmQ := false,
      dbg := false }
  | .stopArrive .. => { tregs := false, tiles := false, link := false, host := false }
  | .tokenAck .. => { tregs := false, tiles := false, seams := false }
  | .stall .. => { objs := false, basins := false, alarmQ := false }
  | .stallRecord .. | .trierPauseRequest .. => { objs := false, basins := false }
  | .correctionWriteback .. => { mem := false, tregs := false, tiles := false }
  | .bankOwnerWrite .. | .sleepRetain .. | .sleepOff .. | .wake .. | .remapEntryWrite .. =>
    { tregs := false, objs := false, win := false, tiles := false, basins := false, irqQ := false, srv := false }
  | .bankDrained .. => { objs := false, tiles := false }
  | .wakeComplete .. => { mem := false, objs := false, tiles := false }
  | .unload .. | .load .. => { tregs := false, tiles := false }
  | .loadEnd .. =>
    { tregs := false, objs := false, win := false, tiles := false, basins := false, alarmQ := false, irqQ := false,
      boot := false }
  | .portEnable .. | .channelSeqWrite .. => { objs := false, irqQ := false, link := false, srv := false }
  | .qualifyEnd .. => { objs := false, alarmQ := false, irqQ := false, link := false, boot := false }
  | .laneTrainTimeout .. | .rowFlit .. | .boundBargeRelease .. | .ctrlRepeat .. | .ackSend .. => { link := false }
  | .retrainEnd .. => { objs := false, win := false, alarmQ := false, irqQ := false, link := false }
  | .laneDrop .. | .linkRefLost .. => { objs := false, alarmQ := false, irqQ := false, link := false }
  | .flitReceive .. | .ack .. | .nak .. | .credit .. | .hello .. | .sync .. | .mode .. =>
    { mem := false, tregs := false, objs := false, win := false, tiles := false, basins := false, alarmQ := false,
      irqQ := false, link := false }
  | .headFlit .. | .tailFlit .. | .linkRefReturn .. => { objs := false, alarmQ := false, link := false }
  | .bargeRowLand .. | .completionFlit .. | .descriptorRead .. | .flitGateRelease .. =>
    { mem := false, tregs := false, objs := false, win := false, tiles := false, basins := false, link := false }
  | .bargeCompletionSend .. =>
    { mem := false, tregs := false, objs := false, win := false, tiles := false, basins := false, alarmQ := false,
      link := false }
  | .ackTimeout .. => { objs := false, win := false, irqQ := false, link := false }
  | .cageMediumRemoved .. | .cagePower .. | .laneLossOfLock .. => { objs := false, irqQ := false, link := false }
  | .cageMediumInserted .. => { objs := false, link := false }
  | .doorbell .. | .queueEnable .. | .functionLevelReset .. => { bar0 := false, host := false }
  | .queueDisable .. | .cqHeadWrite .. | .data .. | .perstAssert .. | .pcieReferenceLost .. =>
    { objs := false, bar0 := false, host := false }
  | .queueCoalesceSet .. => { bar0 := false }
  | .loadImage .. =>
    { free := false, mem := false, tregs := false, objs := false, bar0 := false, win := false, tiles := false,
      basins := false, hubs := false, seams := false, alarmQ := false, irqQ := false, agentRsp := false,
      link := false, host := false, srv := false, keepers := false, boot := false, power := false, cellar := false,
      upd := false, dbg := false }
  | .hostRowLand .. | .hostDescriptorRead .. =>
    { mem := false, tregs := false, objs := false, win := false, tiles := false, basins := false, host := false }
  | .hostReadError .. => { objs := false, host := false }
  | .coalTimeout .. => { host := false }
  | .pcieLinkTrain .. => { free := false, objs := false, host := false }
  | .mbWrite .. | .mbRead .. | .sdoDownload .. | .sdoCompleteDownload .. | .lkHeartbeat .. | .powerDown ..
  | .registerWrite .. | .busHoldupEnd .. =>
    { mem := false, tregs := false, objs := false, bar0 := false, win := false, tiles := false, basins := false,
      hubs := false, seams := false, alarmQ := false, irqQ := false, agentRsp := false, link := false, host := false,
      srv := false, keepers := false, boot := false, power := false, cellar := false, upd := false, dbg := false }
  | .sdoUpload .. | .sdoCompleteUpload .. | .sdoInformation .. => { srv := false }
  | .foeWrite .. => { srv := false, upd := false }
  | .alStateRequest .. | .rxpdo .. | .sync0 .. | .pdoLatch .. | .clampLogClear .. => { objs := false, srv := false }
  | .syncError .. => { objs := false, irqQ := false, srv := false }
  | .setpointTimeout .. => { irqQ := false, srv := false }
  | .statusClear .. => { objs := false }
  | .lkTakeover .. =>
    { objs := false, bar0 := false, basins := false, irqQ := false, host := false, srv := false, keepers := false,
      cellar := false, upd := false }
  | .lkBootTimeout .. => { objs := false, bar0 := false, irqQ := false, srv := false, keepers := false }
  | .inputQualified .. | .ceilingUpdate .. => { objs := false, power := false }
  | .powerGood .. => { objs := false, srv := false, boot := false }
  | .powerFail .. | .presOpen .. =>
    { mem := false, tregs := false, objs := false, tiles := false, alarmQ := false, boot := false, power := false,
      cellar := false }
  | .cellLost .. =>
    { mem := false, tregs := false, objs := false, tiles := false, alarmQ := false, irqQ := false, boot := false,
      power := false, cellar := false }
  | .phaseLost .. | .poundTrip .. | .poundRampEnd .. =>
    { mem := false, tregs := false, objs := false, tiles := false, basins := false, alarmQ := false, irqQ := false,
      boot := false, power := false }
  | .regFail .. =>
    { mem := false, tregs := false, objs := false, tiles := false, basins := false, alarmQ := false, irqQ := false,
      boot := false }
  | .weirDroop .. => { objs := false, win := false, irqQ := false, power := false }
  | .weirOvershoot .. => { objs := false, win := false, power := false }
  | .weirSettled .. | .voltageStepEnd .. | .weirBankRecharged .. => { power := false }
  | .poundPowerUp .. => { objs := false, irqQ := false, srv := false, power := false }
  | .poundPowerDown .. => { tregs := false, objs := false, irqQ := false, srv := false, power := false }
  | .poundGrantEval .. | .estimateSample .. => { free := false, objs := false, irqQ := false, power := false }
  | .capture8us .. =>
    { mem := false, tregs := false, objs := false, tiles := false, basins := false, alarmQ := false, irqQ := false,
      boot := false, power := false, cellar := false }
  | .vtSetWrite .. | .digestCaptureArm .. | .bankCaptureArm .. => { tregs := false, objs := false }
  | .estimatorGainUpdate .. | .coolantSample .. => { objs := false, irqQ := false, power := false }
  | .skimFrame .. => { tregs := false }
  | .voltageStep .. => { tregs := false, objs := false, power := false }
  | .bringupPhaseEnd .. =>
    { free := false, mem := false, tregs := false, objs := false, bar0 := false, tiles := false, basins := false,
      seams := false, alarmQ := false, irqQ := false, link := false, srv := false, keepers := false, boot := false,
      power := false, cellar := false }
  | .serviceUnlock .. => { objs := false, boot := false }
  | .removeEntry .. | .cancelRemoval .. => { objs := false, irqQ := false, srv := false, boot := false }
  | .bringUp .. =>
    { objs := false, basins := false, alarmQ := false, irqQ := false, link := false, host := false, srv := false,
      boot := false, power := false, cellar := false }
  | .resetTile .. | .resetBerth .. | .resetBasin .. | .resetDevice .. =>
    { tregs := false, objs := false, tiles := false, irqQ := false, srv := false, boot := false }
  | .resetDrainEnd .. => { tregs := false, objs := false, boot := false }
  | .drainLimit .. => { tregs := false, objs := false, tiles := false, boot := false }
  | .resetEnd .. =>
    { mem := false, tregs := false, objs := false, tiles := false, basins := false, hubs := false, alarmQ := false,
      irqQ := false, link := false, host := false, srv := false, boot := false, cellar := false, upd := false }
  | .alarmCollectionEnd .. =>
    { tregs := false, objs := false, tiles := false, basins := false, alarmQ := false, link := false, host := false,
      boot := false }
  | .targetedTestEnd .. =>
    { mem := false, tregs := false, objs := false, win := false, tiles := false, basins := false, seams := false,
      alarmQ := false, irqQ := false, link := false, host := false, boot := false }
  | .replayRelease .. =>
    { free := false, mem := false, tregs := false, objs := false, win := false, tiles := false, basins := false,
      hubs := false, seams := false, alarmQ := false, irqQ := false, link := false, host := false, srv := false,
      boot := false }
  | .remap .. =>
    { mem := false, tregs := false, objs := false, tiles := false, basins := false, seams := false, alarmQ := false,
      irqQ := false, link := false, host := false, boot := false }
  | .idleWindowSlice .. =>
    { free := false, mem := false, tregs := false, objs := false, win := false, tiles := false, basins := false,
      seams := false, alarmQ := false, irqQ := false, boot := false }
  | .trierOverdue .. => { tregs := false, objs := false, irqQ := false }
  | .trierPauseDone .. =>
    { mem := false, tregs := false, objs := false, win := false, tiles := false, basins := false, seams := false,
      alarmQ := false, irqQ := false, boot := false }
  | .snapshotRequest .. | .snapshotInterval .. => { objs := false, cellar := false }
  | .riskEvaluate .. => { objs := false, irqQ := false, cellar := false }
  | .snapshotStart .. => { objs := false, basins := false, irqQ := false, cellar := false }
  | .snapshotCopy .. =>
    { mem := false, tregs := false, objs := false, win := false, tiles := false, basins := false, alarmQ := false,
      cellar := false }
  | .snapshotRelease .. =>
    { free := false, tregs := false, objs := false, tiles := false, basins := false, seams := false, alarmQ := false,
      irqQ := false, boot := false, cellar := false }
  | .snapshotSecured .. => { free := false, objs := false, tiles := false, irqQ := false, cellar := false }
  | .restoreLatest .. | .restoreOlderFull .. =>
    { objs := false, alarmQ := false, irqQ := false, srv := false, cellar := false }
  | .restoreDone .. =>
    { free := false, mem := false, tregs := false, objs := false, bar0 := false, win := false, tiles := false,
      basins := false, hubs := false, seams := false, alarmQ := false, irqQ := false, link := false, host := false,
      srv := false, boot := false, cellar := false }
  | .basinDefine .. | .basinRemove .. =>
    { objs := false, basins := false, irqQ := false, srv := false, cellar := false }
  | .updateActivate .. | .updateRollback .. =>
    { tregs := false, objs := false, tiles := false, irqQ := false, link := false, srv := false, keepers := false,
      power := false, upd := false }
  | .updateCancel .. => { objs := false, tiles := false, irqQ := false, link := false, srv := false, upd := false }
  | .lkHandover .. => { objs := false, bar0 := false, irqQ := false, srv := false, keepers := false, upd := false }
  | .standbyRebootEnd .. => { objs := false, irqQ := false, keepers := false, upd := false }
  | .portDrainEnd .. => { objs := false, link := false, upd := false }
  | .portDrainLimit .. | .linkControllerRestartEnd .. => { objs := false, irqQ := false, link := false, upd := false }
  | .powerCtrlRestartEnd .. => { objs := false, irqQ := false, power := false, upd := false }
  | .digestDrain .. => { objs := false, tiles := false, basins := false, irqQ := false }
  | .probeSelect .. => { tregs := false, dbg := false }
  | .traceStoreClear .. => { objs := false, dbg := false }
  | .bypass .. | .extest .. | .clamp .. | .highz .. => { dbg := false }
  | .idcode .. | .samplePreload .. => { free := false, dbg := false }
  | .reportWindowEnd .. => { objs := false, win := false, tiles := false, srv := false, power := false }
  | .poundRampDownEnd .. => { mem := false, tregs := false, objs := false, tiles := false, power := false }

end Sys2Proof.Machine
end

