-- ==== Sys2Proof/Certificates/Slice0/Obligations.lean ====
section
/-! DEFINITION. The statements for the provers: what the rules of the spec say each command does to the device. -/

open Sys2Proof Sys2Proof.Machine


/-! ### The queue and the whole device -/

/-- A step runs the command at the front of the queue on the device with the rest of the queue. On an empty queue the
block idles; with a command at its front a step is decided by that command alone. The model's own readings and choices
in it: log entry 1. -/
def Obligations.StepRunsFrontCommand : Prop :=
  (∀ (c : Instr) (rest : List Instr) (s : State), s.pending = c :: rest →
     step s = exec c { s with pending := rest }) ∧
  (∀ s : State, s.pending = [] → step s = .next s)

/-- The device right after reset stands in canonical form: no row, register, entry, tile, basin, hub or seam is
listed. The model's own readings and choices in it: log entries 111, 112. -/
def Obligations.ResetCanonical : Prop :=
  Canonical State.reset ∧ State.reset.pending = []

/-- Every command answers a next state, from any canonical state, and leaves the queue to the step. The model's own
readings and choices in it: log entry 2. -/
def Obligations.EveryCommandAnswers : Prop :=
  ∀ (c : Instr) (s : State), Canonical s → ∃ s', exec c s = .next s' ∧ s'.pending = s.pending

/-- The canonical form is an invariant: every step from a canonical state, reached or not, answers a canonical state.
-/
def Obligations.StepKeepsCanonical : Prop :=
  ∀ s s' : State, Canonical s → step s = .next s' → Canonical s'

/-- The frame of every command: what `leaves` names of the device stays as it was. -/
def Obligations.CommandFrame : Prop :=
  ∀ (c : Instr) (s s' : State), Canonical s → exec c s = .next s' → Same (leaves c) s s'

/-! ### The control slot (R62, R63, R70 to R73, R76) -/

/-- The immediate scalar ops (R62): where tile `t` issues the op, its result is on its way to S(d), and nothing but
the tile's slot and that write changes; ADDI sign-extends, ANDI, ORI and XORI zero-extend, shifts take imm[4:0], and
LUI sets imm × 65,536. The register scalar ops (R62, R63): sums and differences wrap modulo 2³², and SLTU gives 1 when
S(s) < S(t) unsigned, else 0. The model's own readings and choices in it: log entry 4. -/
def Obligations.ScalarOps : Prop :=
  (∀ (s : State) (t : TileId) (d r : SReg) (imm : BitVec 16), Canonical s →
     let f (op : Nat) := ctrlFields op [(25, 21, d.val), (20, 16, r.val), (15, 0, imm.toNat)]
     let a := s.sreg t r
     (s.issues t 0 (f 0x10) → ∃ s', exec (.addi t d r imm) s = .next s' ∧ ScalarResult s s' t d (a + imm.signExtend 32)) ∧
     (s.issues t 0 (f 0x11) → ∃ s', exec (.andi t d r imm) s = .next s' ∧ ScalarResult s s' t d (a &&& imm.setWidth 32)) ∧
     (s.issues t 0 (f 0x12) → ∃ s', exec (.ori t d r imm) s = .next s' ∧ ScalarResult s s' t d (a ||| imm.setWidth 32)) ∧
     (s.issues t 0 (f 0x13) → ∃ s', exec (.xori t d r imm) s = .next s' ∧ ScalarResult s s' t d (a ^^^ imm.setWidth 32)) ∧
     (s.issues t 0 (f 0x14) →
       ∃ s', exec (.shli t d r imm) s = .next s' ∧ ScalarResult s s' t d (a <<< (imm.toNat % 32))) ∧
     (s.issues t 0 (f 0x15) →
       ∃ s', exec (.shri t d r imm) s = .next s' ∧ ScalarResult s s' t d (a >>> (imm.toNat % 32))) ∧
     (s.issues t 0 (ctrlFields 0x16 [(25, 21, d.val), (15, 0, imm.toNat)]) →
       ∃ s', exec (.lui t d imm) s = .next s' ∧ ScalarResult s s' t d (BitVec.ofNat 32 (imm.toNat * 65536)))) ∧
  (∀ (s : State) (t : TileId) (d r u : SReg), Canonical s →
     let f (op : Nat) := ctrlFields op [(25, 21, d.val), (20, 16, r.val), (15, 11, u.val)]
     let a := s.sreg t r
     let b := s.sreg t u
     (s.issues t 0 (f 0x18) →
       ∃ s', exec (.add t d r u) s = .next s' ∧ ScalarResult s s' t d (BitVec.ofNat 32 (a.toNat + b.toNat))) ∧
     (s.issues t 0 (f 0x19) →
       ∃ s', exec (.sub t d r u) s = .next s' ∧ ScalarResult s s' t d (BitVec.ofInt 32 (a.toNat - b.toNat : Int))) ∧
     (s.issues t 0 (f 0x1A) → ∃ s', exec (.andS t d r u) s = .next s' ∧ ScalarResult s s' t d (a &&& b)) ∧
     (s.issues t 0 (f 0x1B) → ∃ s', exec (.orS t d r u) s = .next s' ∧ ScalarResult s s' t d (a ||| b)) ∧
     (s.issues t 0 (f 0x1C) → ∃ s', exec (.xorS t d r u) s = .next s' ∧ ScalarResult s s' t d (a ^^^ b)) ∧
     (s.issues t 0 (f 0x1D) →
       ∃ s', exec (.sltu t d r u) s = .next s' ∧ ScalarResult s s' t d (if a.toNat < b.toNat then 1 else 0)))

/-- Branches (R62, R70): outside the delay slots of an earlier branch, a taken branch to a target inside the innermost
loop body, if any, sets the pending target after two delay slots, counted from the bundle that carries the op; one
that is not taken keeps the order of bundles. BRZ and BRNZ test S(s) as it is at the start of the beat. CALL pushes
the address after the delay slots and RET pops it. Nothing but the tile changes. LOOP, TASK, EPOCH_END and NOP (R61,
R71, R73, R76). LOOP with a count above zero and room for a loop that ends no later than those around it makes the
next L bundles the body of N iterations. TASK saves the address after its two delay slots as the PC of the active
context and switches to the PC of the named one. EPOCH_END marks the tile's last bundle. NOP does nothing but take its
slot. The model's own readings and choices in it: log entry 4. -/
def Obligations.BranchAndFlowOps : Prop :=
  (∀ (s : State) (t : TileId) (off : BitVec 16) (r : SReg), Canonical s → (s.tile t).til.delay = 0 →
     let m := (s.tile t).til
     let p := branchTarget m.ipc off
     let taken (s' : State) (q : Nat) : Prop :=
       (s'.tile t).til.redirect = some ⟨2, m.active, q⟩ ∧ (s'.tile t).til.delay = 3 ∧
       (s'.tile t).til.slots = m.slots ++ [0] ∧ (s'.tile t).til.loops = m.loops ∧ TileOnly s s' t
     let through (s' : State) : Prop :=
       TileBecomes s s' t { s.tile t with til := { m with slots := m.slots ++ [0], delay := 3 } }
     (s.issues t 0 (ctrlFields 1 [(15, 0, off.toNat)]) → m.insideBody p →
       ∃ s', exec (.br t off) s = .next s' ∧ taken s' p ∧ (s'.tile t).til.rets = m.rets) ∧
     (s.issues t 0 (ctrlFields 2 [(20, 16, r.val), (15, 0, off.toNat)]) →
       (s.sreg t r = 0#32 → m.insideBody p → ∃ s', exec (.brz t r off) s = .next s' ∧ taken s' p) ∧
       (s.sreg t r ≠ 0#32 → ∃ s', exec (.brz t r off) s = .next s' ∧ through s')) ∧
     (s.issues t 0 (ctrlFields 3 [(20, 16, r.val), (15, 0, off.toNat)]) →
       (s.sreg t r ≠ 0#32 → m.insideBody p → ∃ s', exec (.brnz t r off) s = .next s' ∧ taken s' p) ∧
       (s.sreg t r = 0#32 → ∃ s', exec (.brnz t r off) s = .next s' ∧ through s')) ∧
     (s.issues t 0 (ctrlFields 4 [(15, 0, off.toNat)]) → m.rets.length < 8 → m.insideBody p →
       ∃ s', exec (.call t off) s = .next s' ∧ taken s' p ∧ (s'.tile t).til.rets = (m.ipc + 3) :: m.rets) ∧
     (s.issues t 0 (ctrlFields 5 []) → ∀ q rest, m.rets = q :: rest → m.insideBody q →
       ∃ s', exec (.ret t) s = .next s' ∧ taken s' q ∧ (s'.tile t).til.rets = rest)) ∧
  (∀ (s : State) (t : TileId), Canonical s →
     let m := (s.tile t).til
     (∀ (len1 : Fin 64) (n : BitVec 16),
       s.issues t 0 (ctrlFields 6 [(25, 20, len1.val), (19, 19, 0), (15, 0, n.toNat)]) → m.delay = 0 → n ≠ 0 →
       m.loops.length < 4 → (m.loops.all (fun l => decide (m.ipc + (len1.val + 1) ≤ l.start + l.len))) →
       ∃ s', exec (.loop t len1 false n) s = .next s' ∧
         (s'.tile t).til.loops = ⟨m.ipc, len1.val + 1, n.toNat⟩ :: m.loops ∧ TileOnly s s' t) ∧
     (∀ (len1 : Fin 64) (r : BitVec 16),
       s.issues t 0 (ctrlFields 6 [(25, 20, len1.val), (19, 19, 1), (4, 0, r.toNat % 32)]) → m.delay = 0 →
       s.sreg t (r.toNat % 32) ≠ 0#32 → m.loops.length < 4 →
       (m.loops.all (fun l => decide (m.ipc + (len1.val + 1) ≤ l.start + l.len))) →
       ∃ s', exec (.loop t len1 true r) s = .next s' ∧
         (s'.tile t).til.loops = ⟨m.ipc, len1.val + 1, (s.sreg t (r.toNat % 32)).toNat⟩ :: m.loops ∧ TileOnly s s' t) ∧
     (∀ c : Fin 4, s.issues t 0 (ctrlFields 8 [(1, 0, c.val)]) → m.delay = 0 → m.loops = [] →
       ∃ s', exec (.task t c) s = .next s' ∧ s'.regN t (ctxOff 0x110 m.active) = (m.ipc + 3) % 65536 ∧
         (s'.tile t).til.redirect =
           some ⟨2, c.val, if c.val = m.active then m.ipc + 3 else s.regN t (ctxOff 0x110 c.val)⟩ ∧
         (s'.tile t).til.delay = 3) ∧
     (s.issues t 0 (ctrlFields 0xB []) → m.delay = 0 → m.loops = [] →
       ∃ s', exec (.epochEnd t) s = .next s' ∧
         TileBecomes s s' t { s.tile t with til := { m with slots := m.slots ++ [0], endIssued := true } }) ∧
     (∀ n : Fin 6, s.issues t n [((opcodeField n).1, (opcodeField n).2, 0)] →
       ∃ s', exec (.nop t n) s = .next s' ∧
         TileBecomes s s' t { s.tile t with til := { m with slots := m.slots ++ [n.val] } }))

/-- ILLEGAL_BUNDLE (R61, R77): where tile `t` issues, and the bundle it holds is of another format than CL1's or it
runs and holds none, nothing of the bundle issues and task fault 4 is taken: that entry is the command's whole effect.
A vector op whose type, immediate or rounding the op does not have raises ILLEGAL_OP (cause 3) and writes nothing
(R81, R119): shifts of lanes that are not INT32, functions, RAND, conversions and block scales of INT32 lanes, a lane
index, a format or a quarter that the type does not have, and rounding modes that the op does not take. The model's
own readings and choices in it: log entries 4, 18, 32, 137, 138, 142. -/
def Obligations.IllegalOps : Prop :=
  (∀ (s : State) (t : TileId), Canonical s → s.canIssue t = true → 6 ∉ (s.tile t).til.slots → (s.tile t).til.active < 4 →
     ((∃ row, (s.tile t).til.cur = some row ∧ bitsOf row.toNat 7 6 ≠ 1) ∨
       ((s.tile t).til.cur = none ∧ s.runs t = true)) →
     ∃ s', exec (.illegalBundle t) s = .next s' ∧ TaskFaultTaken s s' t 4 ∧
       (s'.tile t).til = { (s.tile t).til with slots := [0, 1, 2, 3, 4, 5, 6] } ∧
       (∀ u, u ≠ t.val → s'.tile u = s.tile u)) ∧
  (∀ (s : State) (t : TileId) (v : VecOp), Canonical s → (s.tile t).til.active < 4 →
     let bad (c : Instr) (op : Nat) : Prop :=
       s.issues t 1 (vecFields op v) → ∃ s', exec c s = .next s' ∧ TaskFaultTaken s s' t 3 ∧
         (s'.tile t).vwrites = (s.tile t).vwrites ∧ (s'.tile t).vregs = (s.tile t).vregs
     let fmt := bitsOf v.imm.toNat 3 0
     (v.ty.val ≠ 3 → bad (.vecShl t v) 0x18 ∧ bad (.vecShr t v) 0x19 ∧ bad (.vecSar t v) 0x1A) ∧
     (v.ty.val = 3 ∨ v.rnd.val ≠ 0 → bad (.vecExp t v) 0x70 ∧ bad (.vecExp2 t v) 0x71 ∧ bad (.vecLog t v) 0x72 ∧
       bad (.vecLog2 t v) 0x73 ∧ bad (.vecRecip t v) 0x74 ∧ bad (.vecRsqrt t v) 0x75 ∧ bad (.vecSqrt t v) 0x76 ∧
       bad (.vecTanh t v) 0x77 ∧ bad (.vecSigmoid t v) 0x78 ∧ bad (.vecSin t v) 0x79 ∧ bad (.vecCos t v) 0x7A) ∧
     (v.ty.val = 3 → bad (.vecRand t v) 0x80) ∧
     (5 < v.rnd.val → bad (.vecAdd t v) 0x10 ∧ bad (.vecSub t v) 0x11 ∧ bad (.vecMul t v) 0x12 ∧ bad (.vecFma t v) 0x13) ∧
     (4 < v.rnd.val → bad (.vecRsum t v) 0x40 ∧ bad (.vecRmax t v) 0x41 ∧ bad (.vecRmin t v) 0x42 ∧
       bad (.vecRamax t v) 0x43) ∧
     (laneCount v.ty.val ≤ v.imm.toNat % 64 → bad (.vecBcast t v) 0x06) ∧
     (moveLegal v.ty.val v.imm.toNat = false ∨ 5 < v.rnd.val → bad (.vecCvtn t v) 0x50 ∧ bad (.vecCvtw t v) 0x51) ∧
     (v.ty.val = 3 ∨ 5 < v.rnd.val → bad (.vecCvti t v) 0x52 ∧ bad (.vecCvtf t v) 0x53) ∧
     (v.ty.val = 3 ∨ fmt < 8 ∨ 0xD < fmt → bad (.vecMxscale t v) 0x60 ∧ bad (.vecMxapply t v) 0x61) ∧
     (5 < v.rnd.val → bad (.vecMxapply t v) 0x61))

/-- LRR and LRW (R59, R63). LRR of a word-aligned offset sends the word that the offset reads to S(d) for bundle t +
2, and only a 64-bit register's latched high word changes beside it; LRW of one, by context 0 or to an offset that the
contexts 1 to 3 may write, holds S(s) for that offset until the end of the beat. An offset that is not a multiple of 4
raises ILLEGAL_OP (cause 3), and another LRW of a context 1 to 3 raises LR_DENIED (cause 8); neither moves a value. A
word of a stream register of the counter-based generator, written from elsewhere than an LRW (R132, R141, R142): where
the tile issues, it is held until the beat's draws have been made, and elsewhere the register holds it; no other
register, and nothing else of the device, changes. Writes of the switch's registers (R185, R189, R203). WHEEL_DATA, by
context 0: a well-formed word, its reserved bits zero, is staged at the wheel and slot that WHEEL_SEL names; by the
towpath in a basin that has started it is a batch of one write for the basin's next lock. A circuit register, by a
context: the row word stands from the next beat while the tile runs, and at once elsewhere, with the register's ring
cut to end within the row space; the count word with the ring cut in the same way. The model's own readings and
choices in it: log entries 4, 5, 24, 27. -/
def Obligations.RegisterWrites : Prop :=
  (∀ (s : State) (t : TileId) (r : SReg) (off : BitVec 16), Canonical s →
     let m := (s.tile t).til
     (s.issues t 0 (ctrlFields 0x20 [(25, 21, r.val), (15, 0, off.toNat)]) →
       (off.toNat % 4 = 0 →
         ∃ s', exec (.lrr t r off) s = .next s' ∧ TileOnly s s' t ∧
           (s'.tile t).til = { m with
             slots := m.slots ++ [0], latch := (s'.tile t).til.latch,
             swrites := m.swrites ++ [⟨m.beat + 1, true, r.val, ((s.takeSlot t 0).regRead t off.toNat).1⟩] }) ∧
       (off.toNat % 4 ≠ 0 → m.active < 4 →
         ∃ s', exec (.lrr t r off) s = .next s' ∧ TaskFaultTaken s s' t 3 ∧
           (s'.tile t).til = { m with slots := m.slots ++ [0] })) ∧
     (s.issues t 0 (ctrlFields 0x21 [(20, 16, r.val), (15, 0, off.toNat)]) →
       (off.toNat % 4 = 0 → (m.active = 0 ∨ jobMayWrite off.toNat = true) →
         ∃ s', exec (.lrw t r off) s = .next s' ∧ TileBecomes s s' t { s.tile t with
           til := { m with slots := m.slots ++ [0], lrw := some (off.toNat, s.sreg t r) } }) ∧
       (off.toNat % 4 = 0 → m.active ≠ 0 → m.active < 4 → jobMayWrite off.toNat = false →
         ∃ s', exec (.lrw t r off) s = .next s' ∧ TaskFaultTaken s s' t 8 ∧
           (s'.tile t).til = { m with slots := m.slots ++ [0] }) ∧
       (off.toNat % 4 ≠ 0 → m.active < 4 →
         ∃ s', exec (.lrw t r off) s = .next s' ∧ TaskFaultTaken s s' t 3 ∧
           (s'.tile t).til = { m with slots := m.slots ++ [0] }))) ∧
  (∀ (s : State) (t : TileId) (r : Fin 8) (w : Fin 6) (val : Word32), Canonical s →
     let off := 0x2100 + 0x20 * r.val + 4 * w.val
     (s.canIssue t = true → ∃ s', exec (.streamRegWrite t r w val) s = .next s' ∧
       TileBecomes s s' t { s.tile t with streamPend := (s.tile t).streamPend ++ [(off, val)] }) ∧
     (s.canIssue t = false → ∃ s', exec (.streamRegWrite t r w val) s = .next s' ∧ RegsOnly s s' ∧
       s'.regN t off = val.toNat ∧
       ∀ u g, g < 65536 → (u ≠ t.val ∨ g ≠ off) → s'.regN u g = s.regN u g)) ∧
  (∀ (s : State) (t : TileId) (val : Word32), Canonical s → (s.tile t).dark = false →
     let tl := s.tile t
     let sel := s.regN t 0x4000
     let key := 64 * (sel % 8) + sel / 256 % 64
     (weMalformed val.toNat = false →
       (∃ s', exec (.wheelDataWrite t (some 0) val) s = .next s' ∧ TileOnly s s' t ∧ (s'.tile t).til = tl.til ∧
         (s'.tile t).sw = { tl.sw with staged := Map.put tl.sw.staged none key (some (val &&& 0xFFFFFF80#32)) }) ∧
       (s.runs t = true → s.absorbing t = false →
         ∃ s', exec (.wheelDataWrite t none val) s = .next s' ∧ TileOnly s s' t ∧ (s'.tile t).sw = tl.sw ∧
           (s'.tile t).tp.batches = tl.tp.batches ++
             [⟨0, (s.nextLock t).getD 0, some 1, 1, [(0x10000 + key, (val &&& 0xFFFFFF80#32).toNat)], false, none, []⟩] ∧
           (s'.tile t).tp.responses = tl.tp.responses ++ [⟨t.val, 0, []⟩])) ∧
     (∀ (c : Fin 4) (k : Fin 32) (row : Bool),
       let off := circOff k + if row then 4 else 0
       let v := if row then val.toNat else ringFit val.toNat (s.circComing t (circOff k + 4))
       (s.canIssue t = true ∧ (s.basinOf t).any (fun b => (s.basin b).started) = true →
         ∃ s', exec (.circWrite t (some c) k row val) s = .next s' ∧ s'.mem = s.mem ∧ s'.tregs = s.tregs ∧
           s'.tiles = Map.put s.tiles Tile.init t
             { tl with sw := { tl.sw with circPend := tl.sw.circPend ++ [(off, BitVec.ofNat 32 v, c.val)] } }) ∧
       (¬(s.canIssue t = true ∧ (s.basinOf t).any (fun b => (s.basin b).started) = true) →
         ∃ s', exec (.circWrite t (some c) k row val) s = .next s' ∧ s'.mem = s.mem ∧ s'.regN t off = v ∧
           (row = true → s'.regN t (circOff k) = ringFit (s.regN t (circOff k)) v) ∧
           ∀ u g, g < 65536 → (u ≠ t.val ∨ (g ≠ circOff k ∧ g ≠ circOff k + 4)) → s'.regN u g = s.regN u g)))

/-! ### The vector unit (R79 to R82, R131 to R140) -/

/-- The ops that move bits (R81): each reads its sources as they are at issue, its result can be read two beats later
(three for SEL), and it rounds nothing. BCAST copies lane imm[5:0], ROTL moves lane l to lane (l + imm[5:0]) mod N,
REV reverses the lanes; the shifts are of INT32 lanes by imm[4:0]; SEL takes va where the lane of vc is not zero. The
arithmetic ops (R131, R134): ADD, SUB, MUL and FMA round each lane once in a legal mode (INT32 wraps), with the
latencies 3, 3, 4 and 4; MIN, MAX, ABS, NEG and the compares round nothing and can be read three beats later. The
model's own readings and choices in it: log entries 4, 18, 19, 20. -/
def Obligations.VectorMoveAndArithmeticOps : Prop :=
  (∀ (s : State) (t : TileId) (v : VecOp), Canonical s →
     let n := laneCount v.ty.val
     let k := v.imm.toNat % 64
     let ok (c : Instr) (op lat : Nat) (srcs : List Nat) (f : VecIn → VecOut) : Prop :=
       s.issues t 1 (vecFields op v) → ∃ s', exec c s = .next s' ∧ VectorResult s s' t op lat 0 v srcs f
     ok (.vecMov t v) 0x01 2 (src1 v) (fun i => .whole i.a) ∧
     ok (.vecAnd t v) 0x02 2 (src2 v) (fun i => .whole (i.a &&& i.b)) ∧
     ok (.vecOr t v) 0x03 2 (src2 v) (fun i => .whole (i.a ||| i.b)) ∧
     ok (.vecXor t v) 0x04 2 (src2 v) (fun i => .whole (i.a ^^^ i.b)) ∧
     ok (.vecNot t v) 0x05 2 (src1 v) (fun i => .whole (~~~i.a)) ∧
     (k < n → ok (.vecBcast t v) 0x06 2 (src1 v) (fun i => i.bitsOut (fun _ => i.na k))) ∧
     ok (.vecRotl t v) 0x08 2 (src1 v) (fun i => i.bitsOut (fun l => i.na ((l + n - k % n) % n))) ∧
     ok (.vecRev t v) 0x09 2 (src1 v) (fun i => i.bitsOut (fun l => i.na (n - 1 - l))) ∧
     (v.ty.val = 3 → ok (.vecShl t v) 0x18 2 (src1 v) (fun i => i.bitsOut (fun l => i.na l * 2 ^ (k % 32)))) ∧
     (v.ty.val = 3 → ok (.vecShr t v) 0x19 2 (src1 v) (fun i => i.bitsOut (fun l => i.na l / 2 ^ (k % 32)))) ∧
     (v.ty.val = 3 → ok (.vecSar t v) 0x1A 2 (src1 v) (fun i =>
       i.bitsOut (fun l => twos 32 (signed 32 (i.na l) / (2 : Int) ^ (k % 32))))) ∧
     ok (.vecSel t v) 0x34 3 (src3 v) (fun i => i.bitsOut (fun l => if i.nc l ≠ 0 then i.na l else i.nb l))) ∧
  (∀ (s : State) (t : TileId) (v : VecOp), Canonical s →
     let ok (c : Instr) (op lat use : Nat) (srcs : List Nat) (f : VecIn → VecOut) : Prop :=
       roundLegal use v.rnd.val → s.issues t 1 (vecFields op v) →
         ∃ s', exec c s = .next s' ∧ VectorResult s s' t op lat use v srcs f
     ok (.vecAdd t v) 0x10 3 1 (src2 v) (fun i => i.lanesOut false (i.arith (· + ·) (addF i.mode))) ∧
     ok (.vecSub t v) 0x11 3 1 (src2 v) (fun i =>
       i.lanesOut false (i.arith (fun a b => a + 2 ^ 32 - b) (fun a b => addF i.mode a (negF b)))) ∧
     ok (.vecMul t v) 0x12 4 1 (src2 v) (fun i => i.lanesOut false (i.arith (· * ·) mulF)) ∧
     ok (.vecFma t v) 0x13 4 1 (src3 v) (fun i => i.lanesOut false i.fma) ∧
     ok (.vecMin t v) 0x14 3 0 (src2 v) (fun i => i.bitsOut (fun l => pickLane i.ty true (i.na l) (i.nb l))) ∧
     ok (.vecMax t v) 0x15 3 0 (src2 v) (fun i => i.bitsOut (fun l => pickLane i.ty false (i.na l) (i.nb l))) ∧
     ok (.vecAbs t v) 0x16 3 0 (src1 v) (fun i => i.bitsOut (fun l => absLane i.ty (i.na l))) ∧
     ok (.vecNeg t v) 0x17 3 0 (src1 v) (fun i => i.bitsOut (fun l => negLane i.ty (i.na l))) ∧
     ok (.vecCmpeq t v) 0x30 3 0 (src2 v) (fun i => i.bitsOut (i.compare (fun c => decide (c = 0)) false)) ∧
     ok (.vecCmplt t v) 0x31 3 0 (src2 v) (fun i => i.bitsOut (i.compare (fun c => decide (c < 0)) false)) ∧
     ok (.vecCmple t v) 0x32 3 0 (src2 v) (fun i => i.bitsOut (i.compare (fun c => decide (c ≤ 0)) false)) ∧
     ok (.vecCmpne t v) 0x33 3 0 (src2 v) (fun i => i.bitsOut (i.compare (fun c => decide (c ≠ 0)) true)))

/-- Reductions, conversions and block scales (R134, R137 to R140): reductions leave their result in lane 0 and zero in
every other; CVTN writes those element positions of one quarter that its half of the lanes fills, and CVTW widens one
quarter; CVTI and CVTF are for floating-point types; MXSCALE and MXAPPLY for the formats 0x8 to 0xD. The functions and
RAND (R81, R132, R135, R136): on floating-point types, in nearest rounding, each function of a lane can be read 8
beats later; RAND draws the register it writes and can be read 10 beats later. The model's own readings and choices in
it: log entries 4, 19, 20, 21, 143, 144. -/
def Obligations.VectorReduceAndFunctionOps : Prop :=
  (∀ (s : State) (t : TileId) (v : VecOp), Canonical s →
     let ok (c : Instr) (op lat use : Nat) (srcs : List Nat) (f : VecIn → VecOut) : Prop :=
       roundLegal use v.rnd.val → s.issues t 1 (vecFields op v) →
         ∃ s', exec c s = .next s' ∧ VectorResult s s' t op lat use v srcs f
     let q := bitsOf v.imm.toNat 5 4
     let fmt := bitsOf v.imm.toNat 3 0
     let mx := v.ty.val ≠ 3 ∧ 8 ≤ fmt ∧ fmt ≤ 0xD
     ok (.vecRsum t v) 0x40 6 2 (src1 v) (fun i =>
       let o := i.reduce i.sumStep id
       ⟨BitVec.ofNat 1024 o.r.bits, [0, 1, 2, 3], [o], false, wholeRow⟩) ∧
     ok (.vecRmax t v) 0x41 6 2 (src1 v) (fun i => .whole (BitVec.ofNat 1024
       (i.reduce (fun a b => .plain (pickLane i.ty false a.r.bits b.r.bits)) id).r.bits)) ∧
     ok (.vecRmin t v) 0x42 6 2 (src1 v) (fun i => .whole (BitVec.ofNat 1024
       (i.reduce (fun a b => .plain (pickLane i.ty true a.r.bits b.r.bits)) id).r.bits)) ∧
     ok (.vecRamax t v) 0x43 6 2 (src1 v) (fun i => .whole (BitVec.ofNat 1024
       (i.reduce i.amaxStep (absLane i.ty)).r.bits)) ∧
     (moveLegal v.ty.val v.imm.toNat →
       ok (.vecCvtn t v) 0x50 4 1 (src1 v)
         (fun i => ⟨(i.cvtn.1.setWidth 1024) <<< (256 * q), [q], i.cvtn.2.map (fun r => ⟨r, false⟩), true,
           cvtnMask v.ty.val v.imm.toNat⟩)) ∧
     (moveLegal v.ty.val v.imm.toNat →
       ok (.vecCvtw t v) 0x51 4 1 [4 * v.va.val + q] (fun i =>
         let w := laneBits i.ty
         let n := i.cvtw.1 + i.cvtw.2.length
         ⟨ofLanes w (laneCount i.ty) (fun l =>
             if i.cvtw.1 ≤ l ∧ l < n then (i.cvtw.2.getD (l - i.cvtw.1) (Rounded.plain 0)).bits else lane w i.d l),
           (List.range 4).filter (fun k => decide (i.cvtw.1 * w < 256 * (k + 1)) && decide (256 * k < n * w)),
           i.cvtw.2.map (fun r => ⟨r, false⟩), true, wholeRow⟩)) ∧
     (v.ty.val ≠ 3 → ok (.vecCvti t v) 0x52 4 1 (src1 v) (fun i =>
       let os := (List.range 32).map i.cvti
       ⟨ofLanes 32 32 (fun l => (os.getD l (.plain 0)).r.bits), [0, 1, 2, 3], os, true, wholeRow⟩)) ∧
     (v.ty.val ≠ 3 → ok (.vecCvtf t v) 0x53 4 1 (src1 v) (fun i =>
       let os := (List.range 32).map i.cvtf
       let h := halfLane i.ty i.imm
       ⟨ofLanes (laneBits i.ty) (laneCount i.ty) (fun l =>
           if h ≤ l ∧ l < h + 32 then (os.getD (l - h) (Rounded.plain 0)).bits else lane (laneBits i.ty) i.d l),
         if i.ty = 0 then [0, 1, 2, 3] else if h = 0 then [0, 1] else [2, 3], os.map (fun r => ⟨r, false⟩), true,
         wholeRow⟩)) ∧
     (mx → ok (.vecMxscale t v) 0x60 4 0 (src1 v) (fun i =>
       .whole (ofLanes 8 (laneCount i.ty / 32) (fun b => i.mxScale fmt b)))) ∧
     (mx → ok (.vecMxapply t v) 0x61 4 1 (src2 v) (fun i => i.lanesOut true i.mxApply))) ∧
  (∀ (s : State) (t : TileId) (v : VecOp), Canonical s → v.ty.val ≠ 3 →
     let ok (c : Instr) (op : Nat) : Prop :=
       v.rnd.val = 0 → s.issues t 1 (vecFields op v) →
         ∃ s', exec c s = .next s' ∧ VectorResult s s' t op 8 3 v (src1 v) (fun i => i.lanesOut false (i.func op))
     ok (.vecExp t v) 0x70 ∧ ok (.vecExp2 t v) 0x71 ∧ ok (.vecLog t v) 0x72 ∧ ok (.vecLog2 t v) 0x73 ∧
     ok (.vecRecip t v) 0x74 ∧ ok (.vecRsqrt t v) 0x75 ∧ ok (.vecSqrt t v) 0x76 ∧ ok (.vecTanh t v) 0x77 ∧
     ok (.vecSigmoid t v) 0x78 ∧ ok (.vecSin t v) 0x79 ∧ ok (.vecCos t v) 0x7A ∧
     (s.issues t 1 (vecFields 0x80 v) →
       ∃ s', exec (.vecRand t v) s = .next s' ∧ VectorResult s s' t 0x80 10 0 v [] (fun i => .whole i.d)))

/-! ### Bank ops and the array (R64 to R67, R93 to R104, R113 to R116, R142, R147, R156) -/

/-- A row reads back what was written to it, and no other row of any tile changes, whatever rows remap entries move to
spares and mirror (R143, R168, R169). -/
def Obligations.RowReadAfterWrite : Prop :=
  ∀ (s : State) (t flat : Nat) (w : CodeWord), Canonical s → t < 2304 → flat < 40960 →
    (s.setRowWord t flat w).rowWord t flat = w ∧ RowsElse s (s.setRowWord t flat w) t flat

/-- READ (R65): its stream starts, and the first row is on its way: to a quarter of a vector register for routes 4 to
7 and to S(reg) for route 8, readable three beats after its access; routes 1 and 2 feed the array. Every other row of
the device reads as before. WRITE and ZERO (R65, R147): the first row is stored with its check bits in the beat of
issue (a poisoned quarter as the poison word), and every other row of the device reads as before. ALIAS (R65, R156):
on a good stored row, a good operand and no pending gather entry, each word becomes what the bank's mode makes of the
old word and the operand's (OR, AND NOT, INT32 or FP32 sum, SWAP), a scalar operand touching word 0 alone. The model's
own readings and choices in it: log entries 4, 6, 25, 137. -/
def Obligations.BankOpsStart : Prop :=
  (∀ (s : State) (t : TileId) (slot : Fin 2) (o : BankOp) (flat : Nat), Canonical s → FirstAccess s t o flat →
     s.issues t (3 + slot.val) (bankFields 1 o) → routeLegal 1 o.route.val → (o.route.val = 8 → o.count.toNat = 1) →
     let m := (s.tile t).til
     let d := (s.readRow t flat false (some (m.beat + 2))).1
     let p := (s.readRow t flat false (some (m.beat + 2))).2.1
     ∃ s', exec (.bankRead t slot o) s = .next s' ∧ RowsElse s s' t flat ∧ (∀ u, u ≠ t.val → s'.tile u = s.tile u) ∧
       (s'.tile t).til.streams = setStream (m.streams ++ [firstStream s t (3 + slot.val) 1 o flat])
         (firstStream s t (3 + slot.val) 1 o flat) ∧
       (4 ≤ o.route.val ∧ o.route.val ≤ 7 → (s'.tile t).vwrites = (s.tile t).vwrites ++
         [⟨m.beat + 2, 3 + slot.val, 0, (4 * o.reg.val + (o.route.val - 4)) % 128, wholeRow, d, p⟩]) ∧
       (o.route.val = 8 → (s'.tile t).til.swrites = m.swrites ++
         [⟨m.beat + 2, false, o.reg.val, if p then 0 else d.setWidth 32⟩]) ∧
       (o.route.val = 1 ∨ o.route.val = 2 → (s'.tile t).arr.feed = (s.tile t).arr.feed ++
         [⟨m.beat + 2, slot.val, o.route.val == 2, d, p⟩])) ∧
  (∀ (s : State) (t : TileId) (slot : Fin 2) (o : BankOp) (flat : Nat), Canonical s → FirstAccess s t o flat →
     ((s.tile t).til.active = 0 ∨ s.inCode t flat = false) →
     let q := s.vquarter t ((4 * o.reg.val + (o.route.val - 0x10)) % 128)
     (s.issues t (3 + slot.val) (bankFields 2 o) → routeLegal 2 o.route.val →
       ∃ s', exec (.bankWrite t slot o) s = .next s' ∧
         s'.rowWord t flat = (if q.2 then poisonWord else kolvosEncode q.1) ∧ RowsElse s s' t flat ∧
         (∀ u, u ≠ t.val → s'.tile u = s.tile u)) ∧
     (s.issues t (3 + slot.val) (bankFields 4 o) →
       ∃ s', exec (.bankZero t slot o) s = .next s' ∧ s'.rowWord t flat = kolvosEncode 0 ∧ RowsElse s s' t flat ∧
         (∀ u, u ≠ t.val → s'.tile u = s.tile u))) ∧
  (∀ (s : State) (t : TileId) (slot : Fin 2) (o : BankOp) (flat : Nat) (old : Row), Canonical s → FirstAccess s t o flat →
     ((s.tile t).til.active = 0 ∨ s.inCode t flat = false) →
     (∀ b ∈ banksOf flat o.count.toNat, s.regN t (bankOff b 0x10) ≠ 0) → s.regN t (bankOff (bankOf flat) 0x10) ≠ 0 →
     s.issues t (3 + slot.val) (bankFields 3 o) → routeLegal 3 o.route.val →
     kolvosDecode (s.rowWord t flat) = .good old → (s.bank t (bankOf flat)).gather = [] →
     let scalar := o.route.val = 0x14
     let q := s.vquarter t ((4 * o.reg.val + (o.route.val - 0x10)) % 128)
     let op := if scalar then (s.sreg t o.reg.val).setWidth 256 else q.1
     (¬scalar → q.2 = false) →
     ∃ s', exec (.bankAlias t slot o) s = .next s' ∧ RowsElse s s' t flat ∧ (∀ u, u ≠ t.val → s'.tile u = s.tile u) ∧
       s'.rowWord t flat = kolvosEncode (rowOfWords (fun w =>
         if scalar ∧ w ≠ 0 then rowWord8 old w
         else aliasWord (s.regN t (bankOff (bankOf flat) 0x10)) (rowWord8 old w) (rowWord8 op w))))

/-- The streams of the array (R93, R95, R100, R102 to R104): with a legal form that the active set matches, rows to
stream and the array free, the stream is in flight with everything it latched at issue, and the array is taken for as
many beats as its rows take; nothing else changes. STREAM_CONV of a 16-bit format sets the generator of its bundle to
four beats a row. The stationary sets (R97 to R101, R104): SHADOW_LOAD of the format's whole length, where no load is
in flight and 64 beats have passed since SWAP, clears the shadow set and begins its load; SHADOW_COMPLETE makes it
complete once its last row has landed 4 beats ago, or the tile is held at its last bundle; SWAP exchanges a complete
shadow set with the active one; CLEAR takes the entries below its count at the end of the beat, where no row accepted
fewer than 66 beats ago is in flight. Nothing of the device but the tile's array and its slot changes. The model's own
readings and choices in it: log entries 4, 26, 139, 141, 142. -/
def Obligations.ArrayStreamsAndSets : Prop :=
  (∀ (s : State) (t : TileId) (o : ArrOp), Canonical s →
     let a := (s.tile t).arr
     let m := (s.tile t).til
     let f := o.fmt.val
     let start (c : Instr) (op kind : Nat) : Prop :=
       s.issues t 2 (arrFields op o) → arrFmt f → o.outFmt.val ≠ 7 → o.rnd.val ≤ 5 → a.active.valid →
       fmtGroup f = fmtGroup a.active.fmt → a.active.colMajor = decide (kind = 1) →
       ¬(ringUnits o.outFmt.val (s.width t) = 2 ∧ o.ring.val = 0) → o.count ≠ 0 → a.nextFree ≤ m.beat →
       ∃ s', exec c s = .next s' ∧ TileBecomes s s' t { s.tile t with
         til := { m with slots := m.slots ++ [2] },
         arr := { a with
           streams := a.streams ++ [⟨m.beat, kind, f, o.outFmt.val, o.rnd.val, o.count.toNat, o.vd.val, o.ring.val,
             o.gen.val, o.acc, s.regN t 0x1000 % 2, s.regN t 0x100c, s.regN t 0x2000, m.active, [], false, none, none, []⟩],
           nextFree := m.beat + feedRows f * o.count.toNat,
           gens := if kind = 2 ∧ fmtWidth f = 16 then
               a.gens.map (fun p => if p.1 = o.gen.val ∧ p.2.start = m.beat then (p.1, { p.2 with quad := true }) else p)
             else a.gens } }
     start (.streamWs t o) 1 0 ∧ start (.streamAs t o) 2 1 ∧ start (.streamConv t o) 5 2) ∧
  (∀ (s : State) (t : TileId) (o : ArrOp), Canonical s →
     let a := (s.tile t).arr
     let m := (s.tile t).til
     let slot2 : Tiller := { m with slots := m.slots ++ [2] }
     (s.issues t 2 (arrFields 3 o) → arrFmt o.fmt.val → o.count.toNat = setLen o.fmt.val → o.gen.val < 2 → a.load = none →
       (∀ b, a.swapBeat = some b → b + 64 ≤ m.beat) →
       ∃ s', exec (.shadowLoad t o) s = .next s' ∧ TileBecomes s s' t { s.tile t with
         til := slot2,
         arr := { a with
           shadow := ⟨false, o.fmt.val, o.acc, [], false⟩, complete := false, completeAt := none,
           armed := decide (16 ≤ o.vd.val),
           load := some ⟨m.beat, 0, setLen o.fmt.val, o.gen.val, s.regN t 0x1010, m.active⟩ } }) ∧
     (∀ b, a.completeAt = some b → (b ≤ m.beat ∨ m.drained = true) →
       ∃ s', exec (.shadowComplete t) s = .next s' ∧ TileBecomes s s' t { s.tile t with
         arr := { a with complete := true, completeAt := none, freshAt := some m.beat } }) ∧
     (s.issues t 2 [(39, 35, 4)] → a.complete →
       ∃ s', exec (.swap t) s = .next s' ∧ TileBecomes s s' t { s.tile t with
         til := slot2,
         arr := { a with
           active := { a.shadow with valid := true }, shadow := a.active, complete := a.active.valid, armed := false,
           completeAt := none, swapBeat := some m.beat } }) ∧
     (s.issues t 2 [(39, 35, 6), (24, 13, o.count.toNat)] → o.count ≠ 0 → (∀ r ∈ a.rows, r.beat + 66 ≤ m.beat) →
       (∀ x ∈ a.streams, m.beat < x.beat + 2) →
       ∃ s', exec (.clear t o) s = .next s' ∧ TileBecomes s s' t { s.tile t with
         til := slot2, arr := { a with clearTo := o.count.toNat } }))

/-- What the next output row of tile `t` makes (R103, R113 to R115, R128 to R130): 66 beats after its input row was
accepted, or while the tile is held drained at its last bundle, the oldest row updates its accumulator entry; its
rounded columns, or poison, go to its quarters of the ring; and a comparison of its two sides is pending. A comparison
that concludes with equal sides (for residues, modulo M), or that poison skips, leaves the queue and nothing else
changes; one whose sides differ is counted, latches its cause, beat, entry and difference where none is latched in the
epoch, and sets bit 2 of the fault summary. The model's own readings and choices in it: log entries 16, 17, 140, 145.
-/
def Obligations.ArrayResults : Prop :=
  ∀ (s : State) (t : TileId), Canonical s →
    let a := (s.tile t).arr
    let m := (s.tile t).til
    let width := s.width t
    (∀ r rest, a.rows = r :: rest → (r.beat + 66 = m.beat ∨ m.drained = true) →
      let st := r.step (Map.get a.entries (AccEntry.zero width) (r.idx % 256)) width
      let lost := st.mix || decide (st.entry.poison ≠ 0) || r.poison || r.range
      let units := ringUnits r.outFmt width
      ∃ s', exec (.arrayOutput t) s = .next s' ∧ (∀ u, u ≠ t.val → s'.tile u = s.tile u) ∧ s'.mem = s.mem ∧
        (s'.tile t).til = m ∧ (s'.tile t).vregs = (s.tile t).vregs ∧
        (s'.tile t).arr = { a with
          rows := rest, entries := Map.put a.entries (AccEntry.zero width) (r.idx % 256) st.entry,
          checks := a.checks ++ [if lost then ⟨m.beat, r.idx % 256, true, 0, 0⟩ else
            ⟨m.beat, r.idx % 256, false, if r.mode = 1 then 1 else 2, st.delta⟩] } ∧
        (s'.tile t).vwrites.map (fun w => (w.beat, w.quarter, w.poison)) =
          ((s.tile t).vwrites.map (fun w => (w.beat, w.quarter, w.poison))) ++ (List.range (4 * units)).map (fun q =>
            (m.beat, 4 * ((r.vd + (r.idx * units + q / 4) % (r.ring + 1)) % 32) + q % 4, lost)) ∧
        s'.regN t 0x1040 = (if lost then min (s.regN t 0x1040 + 1) 0xFFFFFFFF else s.regN t 0x1040)) ∧
    (∀ c rest, a.checks = c :: rest → ∀ delta : Int,
      let d := if c.cause = 2 then (c.delta + delta) % residueMod else c.delta + delta
      ((c.skip = true ∨ d = 0) → ∃ s', exec (.checksumCompare t delta) s = .next s' ∧
        TileBecomes s s' t { s.tile t with arr := { a with checks := rest } }) ∧
      (c.skip = false → d ≠ 0 → ∃ s', exec (.checksumCompare t delta) s = .next s' ∧
        (s'.tile t).arr = { a with checks := rest } ∧ (s'.tile t).til = m ∧ (∀ u, u ≠ t.val → s'.tile u = s.tile u) ∧
        s'.mem = s.mem ∧ s'.regN t 0x101c = min (s.regN t 0x101c + 1) 0xFFFFFFFF ∧
        bitOf (s'.regN t 0x6000) 2 = true ∧ bitOf (s'.regN t 0x6000) 8 = true ∧
        (s.regN t 0x1020 = 0 → c.cause < 256 → s'.regN t 0x1020 = c.cause ∧ s'.regN t 0x1024 = s.regN t 0xf08 ∧
          s'.regN t 0x1028 = c.entry % 2 ^ 64 ∧ s'.regN t 0x1030 = twos 64 d) ∧
        (s.regN t 0x1020 ≠ 0 → ∀ off ∈ [0x1020, 0x1024, 0x1028, 0x1030], s'.regN t off = s.regN t off)))

/-! ### The mesh (R68, R177 to R203) -/

/-- The mesh slot's ops (R68, R179, R184, R186, R189): INJECT reads its row through port X and its word leaves two
beats later on every lane whose wheel injects by request in that slot; LAND has the token of its lane land in its row
in this beat; WHEEL_STAGE holds a well-formed entry, its reserved bits zero, for the next lock. Tokens that wait are
then served. The model's own readings and choices in it: log entries 4, 29. -/
def Obligations.MeshSlotOps : Prop :=
  ∀ (s : State) (t : TileId) (o : MeshOp), Canonical s →
    let tl := s.tile t
    let row := (s.meshRow t o).1
    let flat := (s.dataRange t tl.til.active).1 + row
    let step := if o.mode.val = 2 then [(⟨tl.til.beat, false, o.sidx.val, s.sreg t o.sidx + 1⟩ : SWrite)] else []
    (s.issues t 5 (meshFields 1 o) → o.mode.val ≠ 3 → row < (s.dataRange t tl.til.active).2 → flat < 40960 →
      s.portXStatus t flat [1] = 0 → s.inPail t (bankOf flat) (localOf flat) = false →
      let ents := ((List.range 8).map (fun l => (l, tl.sw.entry l ((s.slotOf t + 2) % 64)))).filter (fun q =>
        weValid q.2 && decide (s.circAhead t (weCirc q.2) ≠ 0) && decide (weSrc q.2 = 8) && !weTrig q.2)
      o.lane.val ∈ ents.map (·.1) →
      let d := s.readRow t flat true (some (tl.til.beat + 2))
      ∃ a : State, exec (.inject t o) s = .next (a.serveLanes t) ∧ RowsElse s a t flat ∧
        (a.tile t).sw.injections = tl.sw.injections ++ [⟨tl.til.beat + 2, ents.map (·.1),
          if d.2.1 then poisonWord else kolvosEncode d.1, d.2.1, false, ((ents.head?).map (fun q => weDeliv q.2)).getD 0,
          true⟩] ∧
        (a.tile t).sw.injects = tl.sw.injects + 1 ∧
        (a.tile t).til = { tl.til with slots := tl.til.slots ++ [5], swrites := tl.til.swrites ++ step }) ∧
    (s.issues t 5 (meshFields 2 o) → o.mode.val ≠ 3 → row < (s.dataRange t tl.til.active).2 →
      (tl.til.active = 0 ∨ s.inCode t flat = false) →
      ∃ a : State, exec (.land t o) s = .next (a.serveLanes t) ∧
        TileBecomes s a t { tl with
          til := { tl.til with slots := tl.til.slots ++ [5], swrites := tl.til.swrites ++ step },
          sw := { tl.sw with landOps := tl.sw.landOps ++ [(o.lane.val, flat)], opBank := some (bankOf flat) } }) ∧
    (∀ (lane : LaneId) (slot : Fin 64) (r : SReg),
      s.issues t 5 [(31, 28, 3), (27, 25, lane.val), (24, 19, slot.val), (18, 14, r.val)] →
      weMalformed (s.sreg t r).toNat = false →
      ∃ a : State, exec (.wheelStage t lane slot r) s = .next (a.serveLanes t) ∧ TileOnly s a t ∧
        (a.tile t).til = { tl.til with slots := tl.til.slots ++ [5] } ∧
        (a.tile t).sw = { tl.sw with
          staged := Map.put tl.sw.staged none (64 * lane.val + slot.val) (some (s.sreg t r &&& 0xFFFFFF80#32)) })

/-- Malformed wheel entries (R184): a valid entry with a reserved SRC, with LAND or DELIV = 0 for a LOCAL token, or
with neither FWD nor LAND. WHEEL_STAGE of one raises ILLEGAL_OP (cause 3) and stages nothing; a towpath write of one
is answered REFUSED and changes nothing else; an entry with V = 0 is staged, and clears its slot at the lock. -/
def Obligations.MalformedWheelEntries : Prop :=
  ∀ (s : State) (t : TileId) (lane : LaneId) (slot : Fin 64) (r : SReg) (val : Word32), Canonical s →
    let src (e : Word32) := bitsOf e.toNat 29 26
    let bad (e : Word32) : Prop := bitOf e.toNat 31 = true ∧
      (8 < src e ∨ (bitOf e.toNat 25 = true ∧ src e = 8) ∨ (bitOf e.toNat 30 = false ∧ bitOf e.toNat 25 = false) ∨
        (bitsOf e.toNat 19 8 = 0 ∧ src e = 8))
    let e := s.sreg t r
    let staged := (s.tile t).sw.staged
    (s.issues t 5 [(31, 28, 3), (27, 25, lane.val), (24, 19, slot.val), (18, 14, r.val)] →
      ∃ s', exec (.wheelStage t lane slot r) s = .next s' ∧
        (bad e → (s'.tile t).sw.staged = staged ∧ (s.regN t 0x0c = 0 → s'.regN t 0x0c = 3)) ∧
        (¬ bad e → (s'.tile t).sw.staged =
          Map.put staged none (64 * lane.val + slot.val) (some (e &&& 0xFFFFFF80#32)))) ∧
    (bad val → (s.tile t).dark = false →
      ∃ s', exec (.wheelDataWrite t none val) s = .next s' ∧ AnswersOnly s s' t 4 []) ∧
    (bitOf val.toNat 31 = false → ∀ n : Nat, staged = [(64 * lane.val + slot.val, some val)] →
      Map.wf (s.tile t).sw.wheel (fun _ => 0) = true →
      weValid (((s.applyStaged t n false).tile t).sw.entry lane slot) = false)

/-- Tokens between neighbours (R45, R179, R191): a token on the wires of a lane reaches the free input register at the
lane's far end, whose stage then owes an acknowledge; once that stage holds no token of the next epoch there and every
branch of the token's fork has taken it, the acknowledge takes the token off the sender's lane, and over a seam lane
each handshake wire that disagreed with its majority counts. A wheel injection (R186, R190): in its slot, once its
beat has settled its bank and mesh-slot ops, the row of circuit register `k` is read and its word leaves two beats
later on the lanes whose entries trigger; the register's use counts. The stall sentinel (R198, R199, R391): a berth's
sentinel reports its waiting tiles once for each epoch of a basin that no request holds, and the Lockkeeper's record
of the reports raises STOP. Seam wires (R193, R195): a wire of a lane that crosses a seam in service, at which 1-bit
corrections have reached the threshold in its window, is marked failed once and counted; a wire of a seam that no
basin uses is steered around at once while at most eight have failed, and one of a seam that a basin uses is staged
for a lock of it that is held for a remap. A handshake wire that has disagreed in 1,024 handshakes in a row is marked
failed, and a second one of its triple retires the lane. The model's own readings and choices in it: log entries 29,
83, 130. -/
def Obligations.TokensStallsAndSeams : Prop :=
  (∀ (s : State) (t : TileId) (i : LaneId) (u o : Nat), Canonical s → laneEnd t i = some (u, o) → u ≠ t.val →
     (∀ (k : Token) (tok : Option Token) (par : Option LaneId), s.ferryStages u o = 0 →
       Map.get (s.tile u).sw.outs none o = some k → i.val ∉ (s.tile t).sw.owed →
       Map.get (s.tile t).sw.inputs none i = none →
       ∃ a : State, exec (.tokenArrive t i tok par) s = .next (a.serveLane t i) ∧
         (a.tile t).sw.inputs = Map.put (s.tile t).sw.inputs none i (some (tok.getD k)) ∧
         (a.tile t).sw.owed = (s.tile t).sw.owed ++ [i.val] ∧ (∀ v, v ≠ t.val → a.tile v = s.tile v) ∧ a.mem = s.mem) ∧
     (∀ (k : Token) (off : BitVec 6), s.ferryStages t i = 0 → Map.get (s.tile t).sw.outs none i = some k →
       o ∈ (s.tile u).sw.owed →
       (∀ x, Map.get (s.tile u).sw.inputs none o = some x → x.tag.toNat ≠ (s.regN u 0xf00 + 1) % 16) →
       (∀ f ∈ (s.tile u).sw.forks, f.src ≠ o) →
       ∃ s', exec (.tokenAck t i off) s = .next s' ∧ s'.mem = s.mem ∧
         (s'.tile t).sw.outs = Map.put (s.tile t).sw.outs none i none ∧
         (s'.tile u).sw.owed = (s.tile u).sw.owed.filter (fun x => decide (x ≠ o)) ∧
         (∀ v, v ≠ t.val → v ≠ u → s'.tile v = s.tile v) ∧
         (∀ n, s.seamLane t i = some n → (s'.seam n).hs =
           min ((s.seam n).hs + ((List.range 6).filter (fun w => off.getLsbD w)).length) 0xFFFFFFFF))) ∧
  (∀ (s : State) (t : TileId) (k : Fin 32) (o e : Nat) (rest : List (Nat × Nat)) (flat : Nat), Canonical s →
     s.trigWheels t k = (o, e) :: rest → s.canIssue t → s.meshSettled t → k.val ∉ (s.tile t).sw.doneCirc →
     s.grantOf t true k = (some flat, true) → flat < 40960 → s.portXStatus t flat [1] = 0 →
     s.inPail t (bankOf flat) (localOf flat) = false →
     let tl := s.tile t
     let d := s.readRow t flat true (some (tl.til.beat + 2))
     ∃ s', exec (.wheelInjection t k false) s = .next s' ∧ RowsElse s s' t flat ∧ (s'.tile t).til = tl.til ∧
       (s'.tile t).sw.injections = tl.sw.injections ++ [⟨tl.til.beat + 2, ((o, e) :: rest).map (·.1),
         if d.2.1 then poisonWord else kolvosEncode d.1, d.2.1, s.lastOfPeriod t k, weDeliv e, false⟩] ∧
       (s'.tile t).sw.circUses = tl.sw.circUses ++ [k.val] ∧ (s'.tile t).sw.doneCirc = tl.sw.doneCirc ++ [k.val]) ∧
  (∀ (s : State) (b : BasinId), Canonical s →
     (∀ (h : BerthId) (mask : BitVec 16) (t : Nat) (rest : List Nat), berthMask h mask = t :: rest →
       s.basinOf t = some b.val → h.val ∉ (s.basin b).stalled → s.heldByRequest b = false →
       (∀ r ∈ s.boot.resets, t ∉ r.tiles) →
       ∃ s', exec (.stall h mask) s = .next s' ∧
         s'.basin b = { s.basin b with
           stalls := (s.basin b).stalls ++ (t :: rest).map s.stallRec, stalled := (s.basin b).stalled ++ [h.val] } ∧
         s'.alarmQ = s.alarmQ ++ [s.tileMsg t 10 (s.stallCause t).1] ∧
         s'.obj 0x2621 1 = min (s.obj 0x2621 1 + 1) 0xFFFFFFFF) ∧
     ((s.basin b).stalls ≠ [] →
       ∃ s', exec (.stallRecord b) s = .next s' ∧ (s'.basin b).stop = true ∧ (s'.basin b).stalls = [] ∧
         s'.obj 0x2621 2 = b.val ∧ s'.obj 0x2621 9 = (s.basin b).stalls.length % 2 ^ 64)) ∧
  (∀ (s : State) (t : TileId) (i : LaneId) (n : Nat), Canonical s → s.seamIn t i = some n → (s.seam n).state ≠ 2 →
     (∀ wire : Fin 292, wire.val ∉ (s.seam n).wires → wire.val ∉ (s.seam n).staged → (s.seam n).worn wire = true →
       (s.seam n).wires.length + (s.seam n).staged.length < 8 →
       (s.seamBasin n = none →
         ∃ s', exec (.seamWireFail t i wire) s = .next s' ∧ s'.obj 0x2631 3 = min (s.obj 0x2631 3 + 1) 0xFFFFFFFF ∧
           s'.seam n = { s.seam n with
             wires := (s.seam n).wires ++ ((s.seam n).staged ++ [wire.val]), staged := [], state := 0 } ∧
           s'.tiles = s.tiles ∧ s'.mem = s.mem) ∧
       (∀ b, s.seamBasin n = some b →
         ∃ s', exec (.seamWireFail t i wire) s = .next s' ∧ s'.obj 0x2631 3 = min (s.obj 0x2631 3 + 1) 0xFFFFFFFF ∧
           s'.seam n = { s.seam n with staged := (s.seam n).staged ++ [wire.val], state := 1 } ∧
           (HoldCause.remap, s.nextLockNum b) ∈ (s'.basin b).holds ∧ s'.tiles = s.tiles ∧ s'.mem = s.mem)) ∧
     (∀ wire : Fin 6, wire.val ∉ (s.seam n).hsFailed → 1024 ≤ Map.get (s.seam n).hsRun 0 wire →
       ((s.seam n).hsFailed.any (fun w => decide (w / 3 = wire.val / 3)) = false →
         ∃ s', exec (.seamHandshakeFail t i wire) s = .next s' ∧
           s' = { s with seams := Map.put s.seams Seam.init n { s.seam n with
             hsFailed := (s.seam n).hsFailed ++ [wire.val] } }) ∧
       ((s.seam n).hsFailed.any (fun w => decide (w / 3 = wire.val / 3)) = true → s.seamBasin n = none →
         ∃ s', exec (.seamHandshakeFail t i wire) s = .next s' ∧ (s'.seam n).state = 2)))

/-! ### Banks, pails, gather buffers and remap (R148, R155, R160, R163 to R171, R85 to R87) -/

/-- What port X does in a fill-in beat in which its turn has come (R148, R150, R163, R164, R169): a correction is
written back; the patrol notes a corrected row for write-back and rewrites an uncorrectable one as poison, a presented
row or a spare that an entry in force uses; the gather entry that is due is flushed, as a whole row where every word
is held and merged with the stored row elsewhere, and one whose word fails its parity is dropped with BANK_UE; a
mirroring remap entry's row is read for its spare, and with the tile in no beat is there at once, copy done set. No
other row changes. Accesses that a pail held (R160, R161): with its row FULL, the one stream of the tile that waits in
the bank reads it, makes the row EMPTY, counts its delivery and goes on, and so does an INJECT that waits, whose word
then leaves two beats later; with its row EMPTY, a landing that waits stores its word and makes the row FULL. The
model's own readings and choices in it: log entries 28, 129. -/
def Obligations.FillInAndPailResumes : Prop :=
  (∀ (s : State) (t : TileId) (b : BankId), Canonical s →
     let k := s.bank t b
     (∀ p rest, k.writeback = p :: rest → p.1 < 2560 → s.fillTurn t b 4 = true →
       ∃ s', exec (.correctionWriteback t b) s = .next s' ∧ (s'.bank t b).writeback = rest ∧
         s'.rowWord t (2560 * b.val + p.1) = kolvosEncode p.2 ∧ RowsElse s s' t (2560 * b.val + p.1)) ∧
     (∀ row : Fin 2592, k.sleep = 0 → s.fillTurn t b 7 = true →
       let v := s.regN t (remapOff b (row.val - 2560))
       let loc := if row.val < 2560 then row.val else v % 4096
       let w := if row.val < 2560 then s.rowWord t (2560 * b.val + loc) else s.word (spareKey t b (row.val - 2560))
       (row.val < 2560 ∨ (loc < 2560 ∧ bitOf v 31 = true ∧ s.spareOf t b loc = some (row.val - 2560))) →
       (∀ d n, kolvosDecode w = .corrected d n →
         ∃ s', exec (.patrolScrub t b row) s = .next s' ∧ s'.mem = s.mem ∧
           (s'.bank t b).writeback = k.writeback ++ [(loc, d)]) ∧
       (kolvosDecode w = .uncorrectable →
         ∃ s', exec (.patrolScrub t b row) s = .next s' ∧
           s'.rowWord t (2560 * b.val + loc) = poisonWord ∧ RowsElse s s' t (2560 * b.val + loc))) ∧
     (∀ e, s.dueGather t b = some e → bankOf e.row = b.val → e.row < 40960 → s.fillTurn t b 5 = true →
       let left := k.gather.filter (fun x => decide (x.row ≠ e.row))
       (e.fails = false →
         (e.mask = 0xFF#8 → ∃ s', exec (.gatherFlush t b false) s = .next s' ∧ (s'.bank t b).gather = left ∧
           s'.rowWord t e.row = kolvosEncode e.data ∧ RowsElse s s' t e.row) ∧
         (∀ d, e.mask ≠ 0xFF#8 → kolvosDecode (s.rowWord t e.row) = .good d →
           ∃ s', exec (.gatherFlush t b false) s = .next s' ∧ (s'.bank t b).gather = left ∧
             s'.rowWord t e.row = kolvosEncode (mergeWords d e.data e.mask) ∧ RowsElse s s' t e.row)) ∧
       (∃ s', exec (.gatherFlush t b true) s = .next s' ∧ (s'.bank t b).gather = left ∧ s'.mem = s.mem ∧
         bitOf (s'.regN t 0x6000) 3 = true)) ∧
     (∀ (m : Fin 32) (d : Row), let v := s.regN t (remapOff b m)
       bitOf v 29 = true → bitOf v 31 = false → bitOf v 28 = false → s.fillTurn t b 6 = true →
       (∀ c ∈ k.copies, c.spare ≠ m.val) → v % 4096 < 2560 →
       kolvosDecode (s.rowWord t (2560 * b.val + v % 4096)) = .good d →
       (s.canIssue t = true → ∃ s', exec (.remapCopy t b m) s = .next s' ∧ s'.mem = s.mem ∧
         (s'.bank t b).copies = k.copies ++ [⟨m.val, v % 4096, (s.tile t).til.beat + 2, some (kolvosEncode d)⟩]) ∧
       (s.canIssue t = false → ∃ s', exec (.remapCopy t b m) s = .next s' ∧
         s'.word (spareKey t b m) = kolvosEncode d ∧ bitOf (s'.regN t (remapOff b m)) 28 = true))) ∧
  (∀ (s : State) (t : TileId) (b : BankId) (flat : Nat), Canonical s → s.canIssue t → flat < 40960 → bankOf flat = b.val →
     s.inPail t b (localOf flat) = true →
     let tl := s.tile t
     let full (x : State) : Bool := Map.get (x.bank t b).full false (localOf flat)
     (∀ m rest, tl.til.streams = m :: rest → rest = [] → m.blocked = true → m.op = 1 → m.mode ≠ 2 →
       flat = (s.dataRange t m.ctx).1 + (m.row + m.next) % 2 ^ 32 → full s = true →
       tl.sw.forks = [] → tl.sw.waitInj = none → tl.sw.waitCirc = [] →
       ∃ s', exec (.pailResume t b) s = .next s' ∧ full s' = false ∧ RowsElse s s' t flat ∧
         (s'.tile t).til.streams = [{ m with next := m.next + 1, blocked := false, counted := false }] ∧
         s'.regN t 0xf1c = min (s.regN t 0xf1c + 1) 0xFFFFFFFF) ∧
     (∀ j, tl.sw.waitInj = some j → j.flat = flat → (∀ m ∈ tl.til.streams, m.blocked = false) → tl.sw.forks = [] →
       tl.sw.waitCirc = [] → full s = true →
       let d := s.readRow t flat true (some (tl.til.beat + 2))
       ∃ s', exec (.pailResume t b) s = .next s' ∧ full s' = false ∧ RowsElse s s' t flat ∧
         (s'.tile t).sw.waitInj = none ∧
         (s'.tile t).sw.injections = tl.sw.injections ++ [⟨tl.til.beat + 2, j.lanes,
           if d.2.1 then poisonWord else kolvosEncode d.1, d.2.1, false, j.deliv, true⟩]) ∧
     (∀ f rest, tl.sw.forks = f :: rest → rest = [] → f.land = some flat → s.portXStatus t flat [1] = 0 →
       s.inAlias t b (localOf flat) = false → full s = false →
       usedNow (s.bank t b) tl.til.beat (localOf flat) (fun e => e == 0) = false →
       (∀ m ∈ tl.til.streams, m.blocked = false) → tl.sw.waitInj = none → tl.sw.waitCirc = [] →
       ∃ s', exec (.pailResume t b) s = .next s' ∧ full s' = true ∧ RowsElse s s' t flat ∧
         s'.rowWord t flat = (if f.tok.poison then poisonWord else kolvosEncode (cwData f.tok.word)) ∧
         (s'.tile t).sw.forks = if f.lanes.isEmpty then [] else [{ f with land := none }]))

/-- Narrow writes (R153, R163): one that its row's bank admits, with words to write, enters the gather buffer: a new
entry where the row has none and the buffer has room, merged into the row's entry otherwise; a full buffer first
flushes its oldest entry where port X has a turn for it. But for that entry's row, no row changes. One whose entry
fails its parity drops that entry. The row window (R165), in a beat in which port X has a turn for it: a go-write of
every word stores the row, where port E writes it in no bundle of the beat, one of some words enters the gather
buffer, and a go-read brings the row into ROW_WIN_DATA and changes no pail tag; each answers OK in ROW_WIN_STATUS, and
POISON for a poisoned row. Contexts 1 to 3 may not write the window: LR_DENIED (task fault 8) and nothing else. The
model's own readings and choices in it: log entries 23, 132. -/
def Obligations.NarrowWritesAndRowWindow : Prop :=
  (∀ (s : State) (t : TileId) (row : Nat) (data : Row) (mask : BitVec 8), Canonical s → mask ≠ 0#8 →
     s.portXStatus t row [1, 2] = 0 →
     let k := s.bank t (bankOf row)
     let banks (k' : Bank) : Map Bank := Map.put (s.tile t).banks Bank.init (bankOf row) k'
     let new : GatherEntry := ⟨row, mergeWords 0 data mask, mask, 5, wordParity (mergeWords 0 data mask)⟩
     (k.gather.find? (fun e => decide (e.row = row)) = none → k.gather.length < 8 →
       ∃ s', exec (.narrowWrite t row data mask false) s = .next s' ∧ TileBecomes s s' t { s.tile t with
         banks := banks { k with gather := k.gather ++ [new] } }) ∧
     (∀ e rest, k.gather = e :: rest → k.gather.find? (fun e => decide (e.row = row)) = none → 8 ≤ k.gather.length →
       s.fillTurn t (bankOf row) 5 = true → e.fails = false → e.mask = 0xFF#8 → e.row < 40960 → bankOf e.row = bankOf row →
       ∃ s', exec (.narrowWrite t row data mask false) s = .next s' ∧ s'.rowWord t e.row = kolvosEncode e.data ∧
         RowsElse s s' t e.row ∧
         (s'.bank t (bankOf row)).gather = rest.filter (fun x => decide (x.row ≠ e.row)) ++ [new]) ∧
     (∀ e, k.gather.find? (fun e => decide (e.row = row)) = some e →
       (e.fails = false → ∃ s', exec (.narrowWrite t row data mask false) s = .next s' ∧ s'.mem = s.mem ∧
         (s'.tile t).banks = banks { k with gather := k.gather.map (fun x =>
           if x.row = row then { e with
             data := mergeWords e.data data mask, mask := e.mask ||| mask, par := wordParity (mergeWords e.data data mask) }
           else x) }) ∧
       (e.fails = true → ∃ s', exec (.narrowWrite t row data mask false) s = .next s' ∧ s'.mem = s.mem ∧
         (s'.bank t (bankOf row)).gather = k.gather.filter (fun x => decide (x.row ≠ row)) ∧
         bitOf (s'.regN t 0x6000) 3 = true))) ∧
  (∀ (s : State) (t : TileId) (ctx : Option (Fin 4)), Canonical s →
     let row := s.regN t 0x5800
     let k := s.bank t (bankOf row)
     (Admitted s t ctx → s.portXStatus t row [1, 2] = 0 →
       (s.fillTurn t (bankOf row) 6 = true →
         (usedNow k (s.tile t).til.beat (localOf row) (fun e => e == 1 || e == 2) = false →
           ∃ s', exec (.rowWinWrite t ctx 0xFF#8) s = .next s' ∧ s'.rowWord t row = kolvosEncode (s.rowWinData t) ∧
             RowsElse s s' t row ∧ s'.regN t 0x5808 = 0 ∧ Answer s s' t ctx 0) ∧
         (∃ s', exec (.rowWinRead t ctx) s = .next s' ∧ RowsElse s s' t row ∧
           s'.rowWinData t = (s.readRow t row true none).1 ∧
           s'.regN t 0x5808 = (if (s.readRow t row true none).2.1 then 6 else 0) ∧
           (s'.bank t (bankOf row)).full = k.full ∧ Answer s s' t ctx 0)) ∧
       (∀ mask : BitVec 8, mask ≠ 0#8 → mask ≠ 0xFF#8 → k.gather.find? (fun e => decide (e.row = row)) = none →
         k.gather.length < 8 →
         ∃ s', exec (.rowWinWrite t ctx mask) s = .next s' ∧ s'.mem = s.mem ∧ s'.regN t 0x5808 = 0 ∧
           (s'.tile t).banks = Map.put (s.tile t).banks Bank.init (bankOf row) { k with
             gather := k.gather ++ [⟨row, mergeWords 0 (s.rowWinData t) mask, mask, 4,
               wordParity (mergeWords 0 (s.rowWinData t) mask)⟩] } ∧ Answer s s' t ctx 0)) ∧
     (∀ (c : Fin 4) (mask : BitVec 8), c.val ≠ 0 → (s.tile t).dark = false → (s.tile t).til.active < 4 →
       (∃ s', exec (.rowWinWrite t (some c) mask) s = .next s' ∧ TaskFaultTaken s s' t 8) ∧
       (∃ s', exec (.rowWinRead t (some c)) s = .next s' ∧ TaskFaultTaken s s' t 8)))

/-- Ownership and sleep (R155, R170, R171), as context 0 and the towpath write them: an awake bank notes a new owner,
which is judged at the end of the beat, or at once where the tile is in no beat and both owners are idle; a free awake
bank drains for retention or off; a wake request brings it back, at once from draining and through a wake from
retention or off. A drained bank with nothing in flight sleeps as asked, or is awake again after a wake request; a
wake from off finds every row zero, every tag EMPTY and every SNAP_DIRTY bit set. Remap entries (R168, R169), as
context 0 and the towpath write them: an entry that is not valid may mirror a row while a spare is free, or give it
up; in bring-up and resets an entry may be made valid. A valid entry, and validity itself, stay as they are outside
bring-up and resets, and the towpath is answered REFUSED. The model's own readings and choices in it: log entries 31,
118, 131. -/
def Obligations.BankSleepAndRemaps : Prop :=
  (∀ (s : State) (t : TileId) (b : BankId) (ctx : Option (Fin 4)), Canonical s →
     let k := s.bank t b
     let banks (k' : Bank) : Map Bank := Map.put (s.tile t).banks Bank.init b k'
     let ctl := bankOff b 8
     (Admitted s t ctx →
       (∀ val : Word32, k.sleep = 0 → val.toNat % 8 ≤ 4 →
         ∃ s', exec (.bankOwnerWrite t ctx b val) s = .next s' ∧ s'.regN t (bankOff b 0) = val.toNat % 8 ∧
           RegsElse s s' t (bankOff b 0) ∧ s'.mem = s.mem ∧ Answer s s' t ctx 0 ∧
           (val.toNat % 8 = k.owner → (s'.tile t).banks = banks { k with staged := none, ownerNext := false }) ∧
           (val.toNat % 8 ≠ k.owner → s.canIssue t = true →
             (s'.tile t).banks = banks { k with staged := some (val.toNat % 8), ownerNext := true }) ∧
           (val.toNat % 8 ≠ k.owner → s.canIssue t = false → s.ownerIdle t b k.owner = true →
             s.ownerIdle t b (val.toNat % 8) = true →
             (s'.tile t).banks = banks { k with owner := val.toNat % 8, staged := none, ownerNext := false })) ∧
       (k.owner = 0 → k.staged = none → k.sleep = 0 →
         (∃ s', exec (.sleepRetain t ctx b) s = .next s' ∧ s'.regN t ctl = 1 ∧ RegsElse s s' t ctl ∧ s'.mem = s.mem ∧
           (s'.tile t).banks = banks { k with sleep := 1, wakePending := false } ∧ Answer s s' t ctx 0) ∧
         (∃ s', exec (.sleepOff t ctx b) s = .next s' ∧ s'.regN t ctl = 2 ∧ RegsElse s s' t ctl ∧ s'.mem = s.mem ∧
           (s'.tile t).banks = banks { k with sleep := 1, wakePending := false } ∧ Answer s s' t ctx 0)) ∧
       (∃ s', exec (.wake t ctx b) s = .next s' ∧ s'.regN t ctl = 0 ∧ RegsElse s s' t ctl ∧ s'.mem = s.mem ∧
         (s'.tile t).banks = banks (
           if k.sleep = 1 ∨ k.sleep = 2 then { k with wakePending := true }
           else if k.sleep = 3 ∨ k.sleep = 4 then { k with wasOff := k.sleep == 4, sleep := 5 } else k) ∧
         Answer s s' t ctx 0)) ∧
     (k.sleep = 1 ∨ k.sleep = 2 → k.inflight (s.tile t).til.beat = 0 →
       ∃ s', exec (.bankDrained t b) s = .next s' ∧ s'.mem = s.mem ∧ (s'.tile t).banks = banks (
         if k.wakePending then { k with sleep := 0, wakePending := false }
         else { k with sleep := if s.regN t ctl = 1 then 3 else 4 })) ∧
     (k.sleep = 5 →
       (k.wasOff = false → ∃ s', exec (.wakeComplete t b) s = .next s' ∧ s'.mem = s.mem ∧
         (s'.tile t).banks = banks { k with sleep := 0 }) ∧
       (k.wasOff = true → ∃ s', exec (.wakeComplete t b) s = .next s' ∧
         (∀ loc, loc < 2560 → s'.rowWord t (2560 * b.val + loc) = 0) ∧
         (s'.tile t).banks =
           banks { k with sleep := 0, wasOff := false, full := [], snapAll := true, snapDirty := [] }))) ∧
  (∀ (s : State) (t : TileId) (b : BankId) (m : Fin 32) (ctx : Option (Fin 4)) (row : Nat), Canonical s → row < 2560 →
     Admitted s t ctx →
     let off := remapOff b m
     let becomes (v : Nat) : Prop :=
       ∃ s', exec (.remapEntryWrite t ctx b m (BitVec.ofNat 32 v)) s = .next s' ∧ s'.mem = s.mem ∧ s'.regN t off = v ∧
         RegsElse s s' t off ∧ Answer s s' t ctx 0
     let refused (v : Nat) : Prop :=
       ∃ s', exec (.remapEntryWrite t ctx b m (BitVec.ofNat 32 v)) s = .next s' ∧ s'.mem = s.mem ∧ s'.tregs = s.tregs ∧
         Answer s s' t ctx 4
     (bitOf (s.regN t off) 31 = false →
       ((s.sparesFree t b ≠ 0 ∨ bitOf (s.regN t off) 29 = true) → becomes (2 ^ 29 + row)) ∧ becomes row) ∧
     (s.inBring t = true → becomes (2 ^ 31 + row)) ∧
     (bitOf (s.regN t off) 31 = true → refused row ∧ refused (2 ^ 29 + row)) ∧
     (s.inBring t = false → refused (2 ^ 31 + row)))

/-! ### Pulses, beats, barriers and locks (R34, R38, R46 to R57, R63, R212, R213, R215, R341) -/

/-- Pace pulses (R34, R341): a frame is 16 pulses and begins with the level the demands ask for; skim removes the
pulses of its level, a further one is given to the tile, and one that finds an earlier pulse unused is held and
counted in PULSE_HELD. A dark tile has none. A beat completes with its pulse once nothing of it is outstanding (R34):
until then BEAT_COMPLETE serves the lanes, and lets the array of a tile held at its last bundle finish what is in
flight (R101). The slots, the fetch port and the lanes taken are free for the next beat; the tile goes on to it, or
waits at its lock after the last beat of an epoch, or stays where STOP has reached it (R391). Where the tiller copies
differ the tile freezes and completes no further beat (R78). Scalar results of a beat (R63): at its end each is in its
register, S0 reads zero, and where a control-slot op and a bank load name one register the control-slot result stands.
The model's own readings and choices in it: log entries 5, 81, 125, 127, 128, 136. -/
def Obligations.PulsesAndBeats : Prop :=
  (∀ (s : State) (t : TileId), Canonical s →
     ((s.tile t).dark = true → exec (.pacePulse t) s = .next s) ∧
     ((s.tile t).dark = false →
       let m := (s.tile t).til
       let i := m.pulses % 16
       let k := if i = 0 then s.skimDemand t else s.regN t 0x7100 % 16
       (i * k / 16 < (i + 1) * k / 16 →
         ∃ s', exec (.pacePulse t) s = .next s' ∧ (s'.tile t).til = { m with pulses := m.pulses + 1 } ∧
           s'.regN t 0xf20 = s.regN t 0xf20) ∧
       (i * k / 16 = (i + 1) * k / 16 → m.pulse = false →
         ∃ s', exec (.pacePulse t) s = .next s' ∧
           (s'.tile t).til = { m with pulses := m.pulses + 1, pulse := true } ∧ s'.regN t 0xf20 = s.regN t 0xf20) ∧
       (i * k / 16 = (i + 1) * k / 16 → m.pulse = true →
         ∃ s', exec (.pacePulse t) s = .next s' ∧ (s'.tile t).til.pulses = m.pulses + 1 ∧
           (s'.tile t).til.pulse = true ∧ s'.regN t 0xf20 = min (s.regN t 0xf20 + 1) 0xFFFFFFFF))) ∧
  (∀ (s : State) (t : TileId), Canonical s →
     let m := (s.tile t).til
     let u := (s.tile t).arr
     let drains := m.pulse = true ∧ m.drained = true ∧ (∀ x ∈ m.streams, x.blocked = false) ∧
       (u.streams ≠ [] ∨ u.load.isSome = true)
     (m.pulse = false ∨ s.beatReady t = false →
       (¬ drains → exec (.beatComplete t none) s = .next (s.serveLanes t)) ∧
       (drains → exec (.beatComplete t none) s = .next ((s.arrayDrain t).serveLanes t))) ∧
     (m.pulse = true → s.beatReady t = true →
       let a := s.beatEnd t
       let n := (a.tile t).til
       (n.beat = m.beat + 1 ∧ n.pulse = false ∧ n.slots = [] ∧ n.cur = none ∧ n.lrw = none ∧ n.fetchNow = false ∧
         (a.tile t).sw.taken = [] ∧ (a.tile t).sw.landOps = [] ∧ (a.tile t).sw.opBank = none) ∧
       (m.endIssued = true → exec (.beatComplete t none) s = .next (a.reachLock t)) ∧
       (m.endIssued = false → (a.tile t).stop = true → ∃ s', exec (.beatComplete t none) s = .next s' ∧
         TileBecomes a s' t { a.tile t with halted := true }) ∧
       (m.endIssued = false → (a.tile t).stop = false → n.frozen = false →
         exec (.beatComplete t none) s = .next ((a.updTil t (fun m => { m with badBank := none })).beatBegin t))) ∧
     (∀ controls : Bool, m.pulse = true → (if controls then s.stopBundle t else s).beatReady t = true →
       m.endIssued = false →
       ∃ s', exec (.beatComplete t (some (.tiller controls))) s = .next s' ∧ (s'.tile t).til.beat = m.beat + 1 ∧
         (s'.tile t).til.frozen = true ∧ s'.regN t 0x20 = min (s.regN t 0x20 + 1) 0xFFFFFFFF ∧ s'.beatReady t = false)) ∧
  (∀ (s : State) (t : TileId) (beat : Nat) (d : SReg) (v w : Word32), Canonical s →
     ((s.tile t).til.swrites = [⟨beat, true, d.val, v⟩] →
       (s.applySWrites t beat).sreg t d = (if d.val = 0 then 0#32 else v) ∧
       ((s.applySWrites t beat).tile t).til.swrites = [] ∧
       ∀ e : SReg, e ≠ d → (s.applySWrites t beat).sreg t e = s.sreg t e) ∧
     ((s.tile t).til.swrites = [⟨beat, true, d.val, v⟩, ⟨beat, false, d.val, w⟩] →
       (s.applySWrites t beat).sreg t d = if d.val = 0 then 0#32 else v) ∧
     ((s.tile t).til.swrites = [⟨beat + 1, true, d.val, v⟩] → (s.applySWrites t beat).sreg t d = s.sreg t d))

/-- Barriers at a tile (R62, R212, R213): BAR toggles the generation of its number and sends a frame to the berth hub;
BARW holds the tile while its barrier of that number is pending; a completion of the tile's generation ends both.
Barriers at a router (R212, R213, R216): once the frames of one number and generation account for every tile under it,
they complete the barrier at the root of its extent and go on as one frame below it; frames of different extents are
dropped with BAR_FORM. -/
def Obligations.Barriers : Prop :=
  (∀ (s : State) (t : TileId) (num : BitVec 8), Canonical s →
     let tp := (s.tile t).tp
     (∀ (ext : Fin 4) (b : Nat), s.issues t 0 (ctrlFields 9 [(7, 0, num.toNat), (9, 8, ext.val)]) → ext.val ≠ 3 →
       num.toNat ∉ tp.pend → s.basinOf t = some b →
       ∃ s', exec (.bar t num ext) s = .next s' ∧ (s'.tile t).tp.pend = tp.pend ++ [num.toNat] ∧
         (s'.tile t).tp.gens = Map.put tp.gens false num.toNat (!(Map.get tp.gens false num.toNat)) ∧
         (s'.tile t).til = { (s.tile t).til with slots := (s.tile t).til.slots ++ [0] } ∧
         (∀ u, u ≠ t.val → s'.tile u = s.tile u) ∧
         s'.basin b = { s.basin b with barFrames := (s.basin b).barFrames ++
           [⟨berthOf t, num.toNat, !(Map.get tp.gens false num.toNat), ext.val, 1⟩] }) ∧
     (s.issues t 0 (ctrlFields 10 [(7, 0, num.toNat)]) →
       ∃ s', exec (.barw t num) s = .next s' ∧ TileBecomes s s' t { s.tile t with
         til := { (s.tile t).til with slots := (s.tile t).til.slots ++ [0] },
         tp := { tp with waitBar := if num.toNat ∈ tp.pend then some num.toNat else tp.waitBar } }) ∧
     (∀ (b : Nat) (d : BarDone) (hop : TpHop), s.basinOf t = some b → hopLoses hop = false →
       (s.basin b).barDone.find? (fun d => decide (d.num = num.toNat) && d.gen == Map.get tp.gens false num.toNat &&
         decide (t.val ∈ d.tiles)) = some d →
       ∃ s', exec (.barDone t num hop) s = .next s' ∧
         { (s'.tile t).tp with up := tp.up } = { tp with
           pend := tp.pend.filter (fun x => decide (x ≠ num.toNat)),
           waitBar := if tp.waitBar = some num.toNat then none else tp.waitBar } ∧
         (s'.tile t).til = (s.tile t).til ∧ (∀ u, u ≠ t.val → s'.tile u = s.tile u) ∧ s'.mem = s.mem)) ∧
  (∀ (s : State) (r : Fin 152) (b : BasinId) (num : BitVec 8) (g : Bool) (hop : TpHop), Canonical s →
     let v := s.basin b
     let fs := barAt v.barFrames r num.toNat g
     let gone := barDrop v.barFrames r num.toNat g
     let n := fs.foldl (fun a x => a + x.count) 0
     let done (tiles : List Nat) : Basin :=
       { v with barFrames := gone, barDone := v.barDone ++ [⟨num.toNat, g, tiles⟩] }
     let up (p e : Nat) : Basin := { v with barFrames := gone ++ [⟨p, num.toNat, g, e, n⟩] }
     fs ≠ [] → barAt v.barFrames r num.toNat (!g) = [] → hopLoses hop = false →
     ((∀ f ∈ fs, f.ext = 0) → n = (s.berthTiles b r).length →
       ∃ s', exec (.barUp r b num hop) s = .next s' ∧ s'.basin b = done (s.berthTiles b r)) ∧
     ((∀ f ∈ fs, f.ext = 1) → 144 ≤ r.val → n = (s.fieldTiles b (r.val - 144)).length →
       ∃ s', exec (.barUp r b num hop) s = .next s' ∧ s'.basin b = done (s.fieldTiles b (r.val - 144))) ∧
     (∀ e p, e = 1 ∨ e = 2 → (∀ f ∈ fs, f.ext = e) → r.val < 144 → n = (s.berthTiles b r).length →
       s.routerAbove b r = some p →
       ∃ s', exec (.barUp r b num hop) s = .next s' ∧ s'.basin b = up p e) ∧
     ((∀ f ∈ fs, f.ext = 2) → 144 ≤ r.val → n = (s.tilesUnder b r).length →
       (s.routerAbove b r = none →
         ∃ s', exec (.barUp r b num hop) s = .next s' ∧ s'.basin b = done (s.basinTiles b)) ∧
       (∀ p, s.routerAbove b r = some p →
         ∃ s', exec (.barUp r b num hop) s = .next s' ∧ s'.basin b = up p 2)) ∧
     ((∃ f ∈ fs, ∃ f' ∈ fs, f.ext ≠ f'.ext) →
       ∃ s', exec (.barUp r b num hop) s = .next s' ∧ s'.basin b = { v with barFrames := gone } ∧
         s'.alarmQ = s.alarmQ ++ [⟨0xF, num.toNat, 0, s.obj (0x2610 + b) 1 % 2 ^ 32, b.val, 2304, 0⟩]))

/-- Lock reports and waves (R47, R48, R215): a tile of a running basin reports once, when its report beat has
completed or it waits at its lock; a router passes one frame up for all the reports of a wave under it; the root keeps
the result; a difference between tokens issued and delivered raises EPOCH_LEAK and names the tiles that still hold
tokens (R53), a beat count that the epoch table does not give raises BEAT_MISMATCH (R50), and where the root's two
copies differ no result stands and TP_LINK_FAULT is raised. A result that shows no difference stands at the tile; one
that does makes the tile report again. The lock beat (R46, R49, R54, R56, R57): a tile completes it with its pulse
once its lock is clean and no request holds it; what ends with the epoch returns to its defaults, the epoch number
grows by one, and beat, report beat and digest point come from the epoch table's next record. The model's own readings
and choices in it: log entries 7, 8, 104, 109. -/
def Obligations.LockWavesAndBeats : Prop :=
  (∀ (s : State) (b : BasinId) (hop : TpHop), Canonical s → hopLoses hop = false →
     let v := s.basin b
     let e := s.obj (0x2610 + b) 1 % 2 ^ 32
     let alarm (cause detail : Nat) : AlarmMsg := ⟨cause, detail, 0, e, b.val, 2304, 0⟩
     (∀ t : TileId, s.basinOf t = some b.val → v.started = true → (s.tile t).lk.open_ = false →
       (s.tile t).lk.reported = false → (s.tile t).dark = false →
       ((s.tile t).lk.atLock = true ∨ s.regN t 0xf10 < s.regN t 0xf08) →
       let c := s.beatCount t
       let f := bitsOf (s.regN t 0x6000) 7 1
       let ok := s.batchFlag t (s.nextLockNum b)
       let out := min (s.regN t 0xf18 + (s.bargeShortfall t + s.slotShortfall t)) 0xFFFFFFFF
       ∃ s', exec (.lockReport t) s = .next s' ∧ s'.regN t 0xf18 = out ∧
         (s'.tile t).lk = { (s.tile t).lk with reported := true, batchBad := !ok } ∧
         s'.basin b = { v with waveBegun := true, lockFrames := v.lockFrames ++
           [⟨berthOf t, 1, ⟨(out : Int) - s.regN t 0xf1c, c, c, ok, f,
             (s.tile t).lk.wave % 256, b2n (decide (f ≠ 0))⟩⟩] }) ∧
     (∀ (r : Fin 152) (f : LockFrame) (rest : List LockFrame),
       v.lockFrames.filter (fun x => decide (x.at_ = r.val)) = f :: rest → (∀ x ∈ rest, x.rep.wave = f.rep.wave) →
       let n := rest.foldl (fun a x => a + x.count) f.count
       let rep := rest.foldl (fun a x => a.combine x.rep) f.rep
       let gone := v.lockFrames.filter (fun x => !(decide (x.at_ = r.val)))
       n = (if r.val < 144 then (s.berthTiles b r).length else (s.tilesUnder b r).length) →
       (∀ p split, s.routerAbove b r = some p →
         ∃ s', exec (.lockUp r b split hop) s = .next s' ∧ s'.alarmQ = s.alarmQ ∧
           s'.basin b = { v with lockFrames := gone ++ [⟨p, n, rep⟩] }) ∧
       (s.routerAbove b r = none → (∀ t ∈ s.basinTiles b, s.countsAgree t rep = true) →
         (rep.diff = 0 →
           ∃ s', exec (.lockUp r b false hop) s = .next s' ∧ (s'.basin b).result = some rep ∧
             (s'.basin b).wave = v.wave + 1 ∧ (s'.basin b).lockFrames = gone ∧ s'.alarmQ = s.alarmQ) ∧
         (rep.diff ≠ 0 →
           ∃ s', exec (.lockUp r b false hop) s = .next s' ∧ (s'.basin b).result = some rep ∧
             (s'.basin b).leaks = (s.basinTiles b).filter (fun t =>
               s.holdsTokens t || decide (s.bargeShortfall t ≠ 0) || decide (s.slotShortfall t ≠ 0)) ∧
             s'.alarmQ = s.alarmQ ++ [alarm 0xC rep.wave])) ∧
       (s.routerAbove b r = none → (∃ t ∈ s.basinTiles b, s.countsAgree t rep = false) → rep.diff = 0 →
         ∃ s', exec (.lockUp r b false hop) s = .next s' ∧ (s'.basin b).result = some rep ∧
           s'.alarmQ = s.alarmQ ++ [alarm 0xD 0]) ∧
       (s.routerAbove b r = none →
         ∃ s', exec (.lockUp r b true hop) s = .next s' ∧ s'.basin b = { v with lockFrames := gone } ∧
           s'.alarmQ = s.alarmQ ++ [alarm 0xE 0])) ∧
     (∀ (t : TileId) (r : WaveResult), s.basinOf t = some b.val → v.result = some r → (s.tile t).lk.reported = true →
       (s.tile t).lk.result = none → r.wave = (s.tile t).lk.wave % 256 → (s.tile t).stop = false →
       (s.tile t).lk.missed = false →
       (r.diff = 0 → ∃ s', exec (.lockResult t hop) s = .next s' ∧ s'.basins = s.basins ∧
         (s'.tile t).lk = { (s.tile t).lk with result := some r }) ∧
       (r.diff ≠ 0 →
         ∃ s', exec (.lockResult t hop) s = .next s' ∧ (s'.tile t).lk.leak = true ∧
           (s'.tile t).lk.wave = (s.tile t).lk.wave + 1 ∧ (s'.tile t).lk.result = none ∧
           (s'.basin b).lockFrames = v.lockFrames ++ [⟨berthOf t, 1, ⟨(s.regN t 0xf18 : Int) - s.regN t 0xf1c,
             s.beatCount t, s.beatCount t, s.batchFlag t (s.nextLockNum b), bitsOf (s.regN t 0x6000) 7 1,
             ((s.tile t).lk.wave + 1) % 256, b2n (decide (bitsOf (s.regN t 0x6000) 7 1 ≠ 0))⟩⟩]))) ∧
  (∀ (s : State) (t : TileId) (b : BasinId), Canonical s → s.basinOf t = some b.val →
     (s.lockReady t = false → exec (.lockBeat t) s = .next s.updateSettle) ∧
     (s.lockReady t = true → t.val ∈ (s.basin b).lockDone → exec (.lockBeat t) s = .next s.updateSettle) ∧
     (∀ n k f, s.lockReady t = true → t.val ∉ (s.basin b).lockDone → (s.basin b).lockNow = some (n, k, f) →
       exec (.lockBeat t) s = .next ((s.tileLock t b n k f).updBasin b (fun v =>
         if v.lockDone.length + 1 = (s.basinTiles b).length then { v with lockDone := [], lockNow := none }
         else { v with lockDone := v.lockDone ++ [t.val] })).updateSettle) ∧
     (s.lockReady t = true → t.val ∉ (s.basin b).lockDone → (s.basin b).lockNow = none →
       let n := s.nextLockNum b
       (s.lockHeld b n = true ∨ s.allAtLock b = false → exec (.lockBeat t) s = .next s.updateSettle) ∧
       (s.lockHeld b n = false → s.allAtLock b = true →
         s.batchesApply b n = true ∨ (s.basin b).result.isSome = true ∨ s.anyDue b n = false →
         let k := s.lockKind b
         let f := s.batchesApply b n
         let a := ((s.deferTrims b n).basinLock b n k f).updBasin b (fun v => { v with lockNow := some (n, k, f) })
         exec (.lockBeat t) s = .next ((a.tileLock t b n k f).updBasin b (fun v =>
           if v.lockDone.length + 1 = (s.basinTiles b).length then { v with lockDone := [], lockNow := none }
           else { v with lockDone := v.lockDone ++ [t.val] })).updateSettle)) ∧
     (let a := s.endEpoch t
      a.regN t 0xf18 = 0 ∧ a.regN t 0xf1c = 0 ∧ a.regN t 0xf20 = 0 ∧ (a.tile t).arr.entries = [] ∧
         (a.tile t).tp.pend = [] ∧ (a.tile t).til.endIssued = false ∧ (a.tile t).lk.atLock = false ∧
         (a.tile t).lk.estore = (s.tile t).lk.estore) ∧
     (let p := estoreNext (s.tile t).lk.estore (s.regN t 0xf30) (s.regN t 0xf34)
      let r := Map.get (s.tile t).lk.estore 0 p.1
      let a := s.advanceEpoch t .normal
      p.1 < 256 →
       a.reg t 0xf00 = s.reg t 0xf00 + 1 ∧ a.regN t 0xf30 = p.1 ∧ a.regN t 0xf0c = recLen r ∧
         a.regN t 0xf10 = recReport r ∧ a.regN t 0x804 = b2n (recDigest r) + 65536 * recTag r))

/-- Hold requests (R54, R55): a request for a lock that has completed holds the next one; a release takes one such
request back, and where the basin is held what is staged for its seams is applied first (R195, R196). The epoch store
(R56): where it may be written, a word of the record that ESTORE_IDX selects is replaced, by the nearest value of its
field's range, and answered OK, or CLAMPED with a clamp record; elsewhere the write is REFUSED and the store stays.
Reserved bits stay zero (R8). The model's own readings and choices in it: log entry 118. -/
def Obligations.LockHoldsAndEpochStore : Prop :=
  (∀ (s : State) (b : BasinId) (cause : HoldCause) (lock : Nat), Canonical s →
     let v := s.basin b
     let n := max lock (s.nextLockNum b)
     (∃ s', exec (.lockHoldRequest b cause lock) s = .next s' ∧
       s'.basin b = { v with holds := v.holds ++ [(cause, n)], held := v.held ++ [n] } ∧
       (∀ c : Nat, c ≠ b.val → s'.basin c = s.basin c) ∧ { s' with basins := s.basins } = s) ∧
     (s.heldByRequest b = false →
       ∃ s', exec (.lockHoldRelease b cause lock) s = .next s' ∧
         s'.basin b = { v with holds := v.holds.erase (cause, n) } ∧
         (∀ c : Nat, c ≠ b.val → s'.basin c = s.basin c) ∧ { s' with basins := s.basins } = s) ∧
     (s.heldByRequest b = true →
       let a := s.seamTurn b
       ∃ s', exec (.lockHoldRelease b cause lock) s = .next s' ∧
         s'.basin b = { a.basin b with holds := (a.basin b).holds.erase (cause, n) } ∧
         (∀ c : Nat, c ≠ b.val → s'.basin c = a.basin c) ∧ { s' with basins := a.basins } = a)) ∧
  (∀ (s : State) (t : TileId) (w : Fin 4) (val : Word32), Canonical s → (s.tile t).dark = false → s.absorbing t = false →
     let tl := s.tile t
     let i := s.regN t 0xf38
     let old := (Map.get tl.lk.estore 0 i).toNat
     let len := old / 2 ^ 32 % 2 ^ 32
     let given := if w.val = 3 then (val &&& 0xFFFFFF1F#32).toNat else val.toNat
     let legal := match w with
       | 0 => max 1 given
       | 1 => max 256 given
       | 2 => if len = 0 then max 1 given else clampN 1 (len - 1) given
       | _ => given
     let new := BitVec.ofNat 128
       (old - old / 2 ^ (32 * w.val) % 2 ^ 32 * 2 ^ (32 * w.val) + legal * 2 ^ (32 * w.val))
     (s.storeOpen t = true →
       ∃ s', exec (.estoreDataWrite t w val) s = .next s' ∧
         s'.tile t = { tl with lk := { tl.lk with estore := Map.put tl.lk.estore 0 i new }, tp := (s'.tile t).tp } ∧
         (s'.tile t).tp.responses = tl.tp.responses ++ [⟨t.val, if legal = given then 0 else 2, []⟩] ∧
         (legal = given → TileOnly s s' t) ∧
         (legal ≠ given → s'.obj 0x2F11 1 = min (s.obj 0x2F11 1 + 1) (2 ^ 64 - 1))) ∧
     (s.storeOpen t = false →
       ∃ s', exec (.estoreDataWrite t w val) s = .next s' ∧ AnswersOnly s s' t 4 []))

/-! ### The towpath (R205 to R226, R307, R391) -/

/-- Alarms and notices at the active Lockkeeper (R217, R218, R282, R307): the oldest alarm of a router leaves its
queue, counts in 0x2640.03, shows in BAR0 as cause, detail and basin, and is kept with its basin; a BEAT_MISMATCH or
LOAD_FAIL raises STOP. A Lockkeeper notice or one of a failed update sends an Emergency within the limit of 10 ms; any
other leaves only its queue. With no active Lockkeeper both wait. STOP (R390, R391): STOP_FORCE raises it in its
tile's basin; it reaches each tile, which latches the beats it has completed and drops a wave result whose horizon has
not passed, and each port and the host engine. The model's own readings and choices in it: log entries 33, 64, 118. -/
def Obligations.AlarmsAndStop : Prop :=
  (∀ (s : State) (t : TileId) (m : AlarmMsg) (rest : List AlarmMsg) (hop : TpHop), Canonical s → hopLoses hop = false →
     let tl := s.tile t
     let sends := s.obj 0x2002 2 ≠ 0 ∧
       (s.srv.emergencies.filter (fun e => decide (s.srv.ms < e.1 + 10))).length < s.obj 0x2002 3
     let told := (0x180 ≤ m.cause ∧ m.cause ≤ 0x183) ∨ (m.cause = 0x18F ∧ m.detail % 16 = 3)
     (s.activeLk = none → ∀ src : Option TileId,
       exec (.alarm src hop) s = .next s ∧ exec (.irq src hop) s = .next s) ∧
     (tl.tp.alarms = [] → exec (.alarm (some t) hop) s = .next s) ∧
     (tl.tp.irqs = [] → exec (.irq (some t) hop) s = .next s) ∧
     (s.activeLk ≠ none → tl.tp.alarms = m :: rest →
       ∃ s', exec (.alarm (some t) hop) s = .next s' ∧
         s'.tile t = { tl with tp := { tl.tp with alarms := rest, up := tpTake tl.tp.up 5 } } ∧
         s'.obj 0x2640 3 = min (s.obj 0x2640 3 + 1) (2 ^ 64 - 1) ∧
         s'.bar 0x1C = (m.cause + 65536 * (m.detail % 65536)) % 2 ^ 32 ∧
         s'.bar 0x20 = (if m.basin < 16 then m.basin else 0xFF) ∧
         (m.basin < 16 → (s'.basin m.basin).errors = (s.basin m.basin).errors ++ [m]) ∧
         (m.basin < 16 → m.cause = 0xB ∨ m.cause = 0xD → (s'.basin m.basin).stop = true) ∧
         (sends → s'.srv.emergencies = s.srv.emergencies ++ [(s.srv.ms, m)])) ∧
     (s.activeLk ≠ none → s.alarmQ = m :: rest → m.basin < 16 →
       ∃ s', exec (.alarm none hop) s = .next s' ∧ s'.alarmQ = rest ∧ s'.tiles = s.tiles ∧
         s'.obj 0x2640 3 = min (s.obj 0x2640 3 + 1) (2 ^ 64 - 1) ∧
         (s'.basin m.basin).errors = (s.basin m.basin).errors ++ [m]) ∧
     (s.activeLk ≠ none → tl.tp.irqs = m :: rest →
       (¬ told → hop.resent.val = 0 → ∃ s', exec (.irq (some t) hop) s = .next s' ∧
         TileBecomes s s' t { tl with tp := { tl.tp with irqs := rest, up := tpTake tl.tp.up 6 } }) ∧
       (told → sends → ∃ s', exec (.irq (some t) hop) s = .next s' ∧ (s'.tile t).tp.irqs = rest ∧
         s'.srv.emergencies = s.srv.emergencies ++ [(s.srv.ms, m)] ∧ s'.mem = s.mem)) ∧
     (s.activeLk ≠ none → s.irqQ = m :: rest → ¬ told → hop.resent.val = 0 →
       exec (.irq none hop) s = .next { s with irqQ := rest })) ∧
  (∀ (s : State) (t : TileId) (b : BasinId), Canonical s →
     (s.basinOf t = some b.val →
       ((s.tile t).dark = false → s.absorbing t = false →
         ∃ s', exec (.stopForce t) s = .next s' ∧ (s'.basin b).stop = true ∧ bitOf (s'.regN t 0x6000) 8 = true ∧
         (s'.tile t).tp.responses = (s.tile t).tp.responses ++ [⟨t.val, 0, []⟩] ∧
         ((s.basin b).stop = false → (s'.basin b).stopPos = s.leastPos b)) ∧
       ((s.basin b).stop = false → exec (.stopArrive (.tile t)) s = .next s) ∧
       ((s.basin b).stop = true → (s.tile t).stop = true → exec (.stopArrive (.tile t)) s = .next s) ∧
       ((s.basin b).stop = true → (s.tile t).stop = false →
         ∃ s', exec (.stopArrive (.tile t)) s = .next s' ∧ s'.regN t 0x600c = (s.tile t).til.beat % 2 ^ 24 ∧
           RegsElse s s' t 0x600c ∧ s'.mem = s.mem ∧
           s'.tile t = { s.tile t with stop := true, lk := { (s.tile t).lk with
             result := if (s.tile t).lk.cleanPass then (s.tile t).lk.result else none } })) ∧
     (s.basinOf t = none → exec (.stopArrive (.tile t)) s = .next s) ∧
     (∀ p : PortId,
       ((s.basin b).stop = true → b.val ∉ (s.port p).stops →
         ∃ s', exec (.stopArrive (.port p b)) s = .next s' ∧ { s' with link := s.link } = s ∧
           s'.port p = { s.port p with stops := (s.port p).stops ++ [b.val] }) ∧
       ((s.basin b).stop = false ∨ b.val ∈ (s.port p).stops → exec (.stopArrive (.port p b)) s = .next s)) ∧
     ((s.basin b).stop = true → b.val ∉ s.host.stops → exec (.stopArrive (.host b)) s =
       .next { s with host := { s.host with stops := s.host.stops ++ [b.val] } }) ∧
     ((s.basin b).stop = false ∨ b.val ∈ s.host.stops → exec (.stopArrive (.host b)) s = .next s))

/-- Configuration requests to a tile (R207, R219): a write is answered OK where it is stored, CLAMPED with a clamp
record where a limit changed it, READ_ONLY, ZERO_LEN, MALFORMED or REFUSED where nothing is written, and UNREACHABLE
by a dark tile; a read answers its words; responses leave oldest first. A register for the next lock is staged (R51).
Towpath writes of one register (R219, R323, R382): a dark tile's are answered UNREACHABLE and those of a tile that an
absorbing reset holds REFUSED; nothing else happens. A context of a dark tile writes nothing. Batches at a tile (R52,
R220): the first message of a batch makes the tile hold it for its target lock; each good write adds what it stages
and counts; the seal says how many there are and for which lock, and the batch is complete with exactly that many. The
model's own readings and choices in it: log entries 9, 118, 133. -/
def Obligations.ConfigurationAndBatches : Prop :=
  (∀ (s : State) (t : TileId) (d : BitVec 12) (v : Word32) (hop : TpHop), Canonical s →
     s.destAt d.toNat = some (.tile t.val) → hopLoses hop = false → hop.resent.val = 0 →
     let tl := s.tile t
     let word (off : Nat) : Word32 := BitVec.ofNat 32 (0x10000 + off)
     (tl.dark = true → ∀ (w : Word32) (l : List Word32),
       (∃ s', exec (.cfgWr d w l hop) s = .next s' ∧ AnswersOnly s s' t 6 []) ∧
       (∃ s', exec (.cfgRd d w hop) s = .next s' ∧ AnswersOnly s s' t 6 [])) ∧
     (tl.dark = false → s.absorbing t = false →
       (∀ (w : Word32) (l : List Word32),
         let c := cfgFields w
         (c.n = 0 → l = [] → ∃ s', exec (.cfgWr d w l hop) s = .next s' ∧ AnswersOnly s s' t 1 []) ∧
         (l.length ≠ c.n → ∃ s', exec (.cfgWr d w l hop) s = .next s' ∧
           (s'.tile t).tp.responses = tl.tp.responses ++ [⟨t.val, 5, []⟩] ∧ RegsElse s s' t 0xc08 ∧
           s'.regN t 0xc08 = min (s.regN t 0xc08 + 1) 0xFFFFFFFF ∧ s'.mem = s.mem) ∧
         (l.length = c.n → c.n ≠ 0 → c.off % 4 ≠ 0 →
           ∃ s', exec (.cfgWr d w l hop) s = .next s' ∧ AnswersOnly s s' t 4 []) ∧
         (c.n = 0 → ∃ s', exec (.cfgRd d w hop) s = .next s' ∧ AnswersOnly s s' t 1 []) ∧
         (0 < c.n → c.n ≤ 6 → c.off % 4 ≠ 0 → ∃ s', exec (.cfgRd d w hop) s = .next s' ∧ AnswersOnly s s' t 4 []) ∧
         (0 < c.n → c.n ≤ 6 → c.off % 4 = 0 → ∃ s', exec (.cfgRd d w hop) s = .next s' ∧ TileOnly s s' t ∧
           (s'.tile t).tp.responses = tl.tp.responses ++ [⟨t.val, 0, (s.readWords t c.off c.n []).1⟩]) ∧
         (c.n = 1 → c.off % 4 = 0 → (s.readWords t c.off c.n []).1 = [(s.regRead t c.off).1])) ∧
       (∃ s', exec (.cfgWr d (word 0x1014) [v] hop) s = .next s' ∧ AnswersOnly s s' t 3 []) ∧
       (v.toNat < 65536 → ∃ s', exec (.cfgWr d (word 0x100c) [v] hop) s = .next s' ∧ s'.regN t 0x100c = v.toNat ∧
         (s'.tile t).tp.responses = tl.tp.responses ++ [⟨t.val, 0, []⟩] ∧ RegsElse s s' t 0x100c ∧
         { s' with tiles := s.tiles, tregs := s.tregs } = s) ∧
       (256 ≤ v.toNat → ∃ s', exec (.cfgWr d (word 0xf0c) [v] hop) s = .next s' ∧ TileOnly s s' t ∧
         (s'.tile t).stagedRegs = Map.put tl.stagedRegs none 0xf0c (some (v.setWidth 64)) ∧
         (s'.tile t).tp.responses = tl.tp.responses ++ [⟨t.val, 0, []⟩]) ∧
       (v.toNat < 256 → ∃ s', exec (.cfgWr d (word 0xf0c) [v] hop) s = .next s' ∧ s'.tregs = s.tregs ∧
         (s'.tile t).stagedRegs = Map.put tl.stagedRegs none 0xf0c (some 256) ∧
         (s'.tile t).tp.responses = tl.tp.responses ++ [⟨t.val, 2, []⟩] ∧
         s'.obj 0x2F11 1 = min (s.obj 0x2F11 1 + 1) (2 ^ 64 - 1))) ∧
     (tl.tp.responses = [] → exec (.cfgRsp d hop) s = .next s) ∧
     (tl.tp.responses ≠ [] → ∃ s', exec (.cfgRsp d hop) s = .next s' ∧ TileBecomes s s' t { tl with
       tp := { tl.tp with responses := tl.tp.responses.drop 1, up := tpTake tl.tp.up 9 } })) ∧
  (∀ (s : State) (t : TileId) (b : BankId) (m k : Fin 32) (w : Fin 4) (dir : Fin 4) (row : Bool) (mask : BitVec 8)
       (val : Word32) (n : Nat) (off : BitVec 16) (v64 : Word64) (u : UnitId), Canonical s → u.val = t.val →
     s.unitIs u = true →
     let asks (ctx : Option (Fin 4)) : List Instr := [.bankOwnerWrite t ctx b val, .sleepRetain t ctx b, .sleepOff t ctx b,
       .wake t ctx b, .remapEntryWrite t ctx b m val, .rowWinWrite t ctx mask, .rowWinRead t ctx,
       .wheelDataWrite t ctx val, .circWrite t ctx k row val, .registerWrite (.tile t ctx off) v64]
     let all := asks none ++ [.estoreDataWrite t w val, .stopForce t, .skimTestWrite t val, .unload u dir, .load u dir,
       .digestAck t n, .traceMark t val, .hsSelWrite t val]
     let answered (st : Nat) (c : Instr) : Prop := ∃ s', exec c s = .next s' ∧ AnswersOnly s s' t st []
     ((s.tile t).dark = true → (∀ c ∈ all, answered 6 c) ∧ ∀ x : Fin 4, ∀ c ∈ asks (some x), exec c s = .next s) ∧
     ((s.tile t).dark = false → s.absorbing t = true → ∀ c ∈ all, answered 4 c)) ∧
  (∀ (s : State) (t : TileId) (b : Nat) (d : BitVec 12) (id : BitVec 8) (count : BitVec 16) (low v w : Word32) (hop : TpHop),
     Canonical s → s.basinOf t = some b → (s.tile t).dark = false → s.absorbing t = false →
     s.destAt d.toNat = some (.tile t.val) → cfgFields w = ⟨0xf0c, 1, true, id.toNat⟩ →
     hopLoses hop = false → hop.resent.val = 0 →
     let tl := s.tile t
     let target := match s.srv.batches.find? (fun k => decide (k.basin = b) && decide (k.id = id.toNat) && k.open_) with
       | some k => k.target
       | none => s.batchLock b
     let lock := lockNear (s.nextLockNum b) low.toNat
     ((∀ k ∈ tl.tp.batches, k.id ≠ id.toNat) →
       (256 ≤ v.toNat → ∃ s', exec (.cfgWr d w [v] hop) s = .next s' ∧ TileOnly s s' t ∧
         (s'.tile t).tp.batches = tl.tp.batches ++ [⟨id.toNat, target, none, 1, [(0xf0c, v.toNat)], false, none, []⟩] ∧
         (s'.tile t).tp.responses = tl.tp.responses ++ [⟨t.val, 0, []⟩]) ∧
       (∃ s', exec (.batchSeal t id count low hop) s = .next s' ∧ TileBecomes s s' t { tl with tp := { tl.tp with
         batches := tl.tp.batches ++ [⟨id.toNat, max target lock, some count.toNat, 0, [], false, none, []⟩] } })) ∧
     (∀ k, tl.tp.batches = [k] → k.id = id.toNat →
       (256 ≤ v.toNat → ∃ s', exec (.cfgWr d w [v] hop) s = .next s' ∧ TileOnly s s' t ∧
         (s'.tile t).tp.batches = [{ k with
           msgs := k.msgs + 1, writes := k.writes ++ [(0xf0c, v.toNat)],
           covered := k.covered.filter (fun p => decide (p ≠ 0xf0c)) }]) ∧
       (∃ s', exec (.batchSeal t id count low hop) s = .next s' ∧
         TileBecomes s s' t { tl with tp := { tl.tp with
           batches := [{ k with sealN := some count.toNat, target := max k.target lock }] } } ∧
         (({ k with sealN := some count.toNat } : TileBatch).complete = true ↔ k.msgs = count.toNat ∧ k.bad = false))))

/-- Firmware broadcast (R208, R221 to R224): a message reaches each tile of its destination. INFO opens an empty
staged half; a chunk with a good CRC-32 enters it, any other counts in FW_REJECTS, and the last is followed by the
check of the image's CRC-64; a query sends the bitmap of what is missing, combined over the group; a chunk for one
tile in a repair goes to the whole group where more of its tiles miss it than the threshold; ACTIVATE is a batch that
a tile without the verified image holds as incomplete; CANCEL empties the staged half and drops every staged
activation. The model's own readings and choices in it: log entry 13. -/
def Obligations.FirmwareBroadcast : Prop :=
  ∀ (s : State) (t : TileId) (d : TpTarget) (w : BitVec 30), Canonical s →
    let tl := s.tile t
    let f := tl.fw
    let id := fwIdent w
    let hop : TpHop := TpHop.clean
    (∀ crc : Word64,
      ∃ s', exec (.fwInfo d w crc hop) s = .next s' ∧ s'.mem = s.mem ∧ s'.tregs = s.tregs ∧
        (t.val ∉ s.targetTiles d ∨ f.actStaged = true → s'.tile t = tl) ∧
        (t.val ∈ s.targetTiles d → f.actStaged = false → s'.obj 0x2641 8 = 1 ∧ s'.obj 0x2641 1 = id ∧
          s'.tile t = { tl with fw := { f with
            stagedHalf := [], have_ := [], ident := id, count := min (fwNumber w) 512, crc := crc.toNat,
            verified := false, zeroLen := decide (fwNumber w = 0) } })) ∧
    (∀ (k : BitVec 8) (idx : BitVec 16) (data : BitVec 128) (crc : Word32),
      let good := decide (crc32 (bytesOf (idx.toNat + 65536 * k.toNat) 4 ++ bytesOf data.toNat 16) = crc.toNat)
      let put : FwStore := { f with
        stagedHalf := Map.put f.stagedHalf 0 idx.toNat data, have_ := Map.put f.have_ false idx.toNat true }
      let chunk (d : TpTarget) : Instr := .fwChunk d k idx data crc hop
      (s.obj 0x2641 8 ≠ 3 →
        (k.toNat ≠ f.ident ∨ good = false ∨ f.count ≤ idx.toNat →
          ∃ s', exec (chunk (.tile t)) s = .next s' ∧ RegsOnly s s' ∧ RegsElse s s' t 0xc18 ∧
            s'.regN t 0xc18 = min (s.regN t 0xc18 + 1) 0xFFFFFFFF) ∧
        (k.toNat = f.ident → good = true → idx.toNat < f.count →
          (put.have_.length < f.count →
            ∃ s', exec (chunk (.tile t)) s = .next s' ∧ TileBecomes s s' t { tl with fw := put }) ∧
          (f.count ≤ put.have_.length → crc64 put.bytes = f.crc →
            ∃ s', exec (chunk (.tile t)) s = .next s' ∧ TileOnly s s' t ∧ (s'.tile t).fw = { put with
              verified := true, actStaged := f.actStaged || tl.tp.batches.any (fun x => decide (x.act = some f.ident)) }) ∧
          (f.count ≤ put.have_.length → crc64 put.bytes ≠ f.crc →
            ∃ s', exec (chunk (.tile t)) s = .next s' ∧ TileBecomes s s' t { tl with
              fw := { put with have_ := [], verified := false } }))) ∧
      (∀ g : TpTarget, s.obj 0x2641 8 = 3 → s.upd.fwGroup = some g → (∀ u : TileId, g ≠ .tile u) →
        let n := ((s.targetTiles g).filter (fun u => (s.tile u).fw.misses idx.toNat)).length
        (s.obj 0x2641 6 < n → exec (chunk (.tile t)) s = exec (chunk g) s) ∧
        (n ≤ s.obj 0x2641 6 → ∃ s', exec (chunk (.tile t)) s = .next s' ∧
          s'.obj 0x2641 5 = min (s.obj 0x2641 5 + 1) 0xFFFFFFFF ∧ ∀ u, u ≠ t.val → s'.tile u = s.tile u))) ∧
    (let base := fwNumber w
     let h := berthOf t
     let miss := ((List.range 192).map (· + base)).filter (fun c => decide (c < f.count) && !(Map.get f.have_ false c))
     ∃ s', exec (.fwQuery (.tile t) w hop) s = .next s' ∧ s'.obj 0x2641 8 = 2 ∧ s'.upd.fwGroup = some (.tile t) ∧
        (s'.tile t).fw = f ∧ (Map.get s'.hubs Hub.init h).missing =
          (Map.get s.hubs Hub.init h).missing.filter (fun e => decide (e.1 ≠ t.val)) ++
            [(t.val, base, !f.verified || decide (f.ident ≠ id), miss)]) ∧
    (let frames := s.missingFrames (s.targetTiles d)
     let whole := frames.length = (s.targetTiles d).length ∧ ∀ e ∈ frames, e.2.1 = frameBase frames
     let old := if frameBase frames = 0 then [] else s.upd.fwMissing
     let miss := ((List.range 192).map (· + frameBase frames)).filter (fun c => frames.any (fun e => e.2.2.2.contains c))
     (¬ whole → exec (.missingUp d hop) s = .next s) ∧
     (whole → ∃ s', exec (.missingUp d hop) s = .next s' ∧ s'.upd.fwMissing = old ++ miss ∧
        s'.obj 0x2641 3 = (frames.filter (fun e => e.2.2.1)).length % 2 ^ 64 ∧
        s'.obj 0x2641 4 = (old ++ miss).length % 2 ^ 64 ∧
        s'.obj 0x2641 8 = if (frames.filter (fun e => e.2.2.1)).isEmpty then 4 else 3)) ∧
    (∀ (batch : BitVec 8) (b : Nat), s.basinOf t = some b → (∀ k ∈ tl.tp.batches, k.id ≠ batch.toNat) →
      ∃ s', exec (.fwActivate (.tile t) w batch hop) s = .next s' ∧ s'.obj 0x2641 8 = 5 ∧
        ∃ k : TileBatch, (s'.tile t).tp.batches = tl.tp.batches ++ [k] ∧ k.id = batch.toNat ∧ k.act = some id ∧
        (k.complete = true ↔ f.verified = true ∧ f.ident = id ∧ f.count ≠ 0)) ∧
    (∃ s', exec (.fwCancel (.tile t) hop) s = .next s' ∧ s'.obj 0x2641 8 = 0 ∧
      s'.tile t = { tl with
        fw := { f with
          stagedHalf := [], have_ := [], verified := false, actStaged := false, count := 0, zeroLen := false },
        tp := { tl.tp with batches := tl.tp.batches.filter (fun k => k.act.isNone) } })

/-- Words of a towpath message (R206, R207, R211): each word that fails parity is sent again and counts in TP_RETRY or
HUB_RETRY, and the message goes on as any other. A second failure, or a malformed message, ends the message at that
router: it counts in TP_DROPS or HUB_DROPS, a second failure raises TP_LINK_FAULT, and nothing of what the message
carries happens. A malformed request is answered MALFORMED, a discarded one not at all. What is discarded on its way
(R211, R212, R215, R217): a barrier frame or a lock report leaves its router's queue and its barrier or wave is not
combined; a tile that lost the result of its wave holds none and receives none; an alarm leaves its queue and reaches
no Lockkeeper; a response leaves its queue. Addresses of the towpath, and the requests that go elsewhere than to a
tile (R205, R208, R219, R226, R470): each destination has its address. A berth hub answers a read with its registers'
words, and a write of one is READ_ONLY and changes nothing. FMUX_CH of a field gateway is written and read. An address
where nothing answers is UNREACHABLE. Responses leave oldest first. The model's own readings and choices in it: log
entries 104, 133. -/
def Obligations.TowpathMessages : Prop :=
  (∀ (s : State) (hop : TpHop) (t : TileId) (d : BitVec 12) (word low : Word32) (data : List Word32)
       (id x : BitVec 8) (c : BitVec 16) (w : BitVec 30) (bytes : BitVec 128) (crc : Word32)
       (sum : Word64), Canonical s →
     let r := hop.router.val
     let m := hop.resent.val
     let toTile : List (TpHop → Instr) := [.batchSeal t id c low, .fwInfo (.tile t) w sum, .fwChunk (.tile t) id c bytes crc,
       .fwActivate (.tile t) w x, .fwCancel (.tile t)]
     let requests : List (TpHop → Instr) := [.cfgWr d word data, .cfgRd d word]
     let counts (s' : State) (dropped : Nat) : Prop :=
       Map.get s'.win 0 (objKey 0x2640 1) = Map.get s.win 0 (objKey 0x2640 1) + m ∧
       Map.get s'.win 0 (objKey 0x2640 2) = Map.get s.win 0 (objKey 0x2640 2) + dropped ∧
       (r < 2304 →
         s'.regN r 0xc04 = (if m = 0 then s.regN r 0xc04 else min (s.regN r 0xc04 + m) 0xFFFFFFFF) ∧
         s'.regN r 0xc08 = (if dropped = 0 then s.regN r 0xc08 else min (s.regN r 0xc08 + dropped) 0xFFFFFFFF)) ∧
       (2304 ≤ r → r < 2448 →
         let h := Map.get s.hubs Hub.init (r - 2304)
         let h' := Map.get s'.hubs Hub.init (r - 2304)
         h'.retry = (if m = 0 then h.retry else min (h.retry + m) 0xFFFFFFFF) ∧
         h'.drops = (if dropped = 0 then h.drops else min (h.drops + dropped) 0xFFFFFFFF))
     let alarmed (s' : State) (b : Nat) : Prop :=
       (r < 2304 → s'.alarmQ = s.alarmQ ∧ ((s.tile r).tp.alarms.length < 4 →
         (s'.tile r).tp.alarms = (s.tile r).tp.alarms ++ [s.tileMsg r 0xE 0])) ∧
       (2304 ≤ r → s'.tiles = s.tiles ∧ s'.alarmQ = s.alarmQ ++
         [⟨0xE, 0, 0, if b < 16 then s.obj (0x2610 + b) 1 % 2 ^ 32 else 0, b, 2304, 0⟩])
     s.obj 0x2641 8 ≠ 3 →
     (hopLoses hop = false → ∀ i ∈ toTile ++ requests, ∃ s1, exec (i hop) s = exec (i TpHop.clean) s1 ∧ counts s1 0 ∧
       { s1 with tregs := s.tregs, win := s.win, hubs := s.hubs } = s) ∧
     (∀ i ∈ toTile,
       (hopMalformed hop = true → ∃ s', exec (i hop) s = .next s' ∧ counts s' 1 ∧
         { s' with tregs := s.tregs, win := s.win, hubs := s.hubs } = s) ∧
       (hopLoses hop = true → hopMalformed hop = false → ∃ s', exec (i hop) s = .next s' ∧ counts s' 1 ∧
         alarmed s' ((s.basinOf t).getD 16) ∧ s'.mem = s.mem ∧ s'.objs = s.objs ∧ s'.basins = s.basins)) ∧
     (∀ i ∈ requests,
       (hopLoses hop = true → hopMalformed hop = false → ∃ s', exec (i hop) s = .next s' ∧ counts s' 1 ∧
         alarmed s' (s.destBasin (s.destAt d.toNat)) ∧
         s'.mem = s.mem ∧ s'.objs = s.objs ∧ s'.basins = s.basins ∧ s'.waitingAt d.toNat = s.waitingAt d.toNat) ∧
       (hopMalformed hop = true → ∃ s', exec (i hop) s = .next s' ∧ counts s' 1 ∧ s'.mem = s.mem ∧ s'.objs = s.objs ∧
         (∀ u : TileId, s.destAt d.toNat = some (.tile u.val) →
           s'.waitingAt d.toNat = s.waitingAt d.toNat ++ [⟨u.val, 5, []⟩]) ∧
         (∀ h : Fin 144, s.destAt d.toNat = some (.hub h.val) →
           s'.tiles = s.tiles ∧ s'.waitingAt d.toNat = s.waitingAt d.toNat ++ [⟨2304 + h.val, 5, []⟩])))) ∧
  (∀ (s : State) (hop : TpHop) (r : Fin 152) (b : BasinId) (t : TileId) (num : BitVec 8) (split : Bool), Canonical s →
     let v := s.basin b
     let bars := v.barFrames.eraseP (fun f => decide (f.at_ = r.val) && decide (f.num = num.toNat))
     let reports := v.lockFrames.eraseP (fun f => decide (f.at_ = r.val))
     hopLoses hop = true →
     ((∃ f ∈ v.barFrames, f.at_ = r.val ∧ f.num = num.toNat) →
       ∃ s', exec (.barUp r b num hop) s = .next s' ∧ s'.basin b = { v with barFrames := bars }) ∧
     ((∃ f ∈ v.lockFrames, f.at_ = r.val) →
       ∃ s', exec (.lockUp r b split hop) s = .next s' ∧ s'.basin b = { v with lockFrames := reports }) ∧
     (s.resultDue t = true →
       ∃ s', exec (.lockResult t hop) s = .next s' ∧ s'.basins = s.basins ∧ (s'.tile t).lk.missed = true ∧
         (s'.tile t).lk.result = none ∧ ∀ again : TpHop, exec (.lockResult t again) s' = .next s') ∧
     (∀ m rest, s.activeLk ≠ none → 2304 ≤ hop.router.val → (s.tile t).tp.alarms = m :: rest →
       ∃ s', exec (.alarm (some t) hop) s = .next s' ∧ s'.basins = s.basins ∧ s'.srv = s.srv ∧
         s'.tile t = { s.tile t with tp := { (s.tile t).tp with alarms := rest, up := tpTake (s.tile t).tp.up 5 } }) ∧
     (∀ d : BitVec 12, tpAddr d.toNat = some (.tile t.val) → (s.tile t).tp.responses ≠ [] →
       ∃ s', exec (.cfgRsp d hop) s = .next s' ∧ (s'.tile t).tp.responses = (s.tile t).tp.responses.drop 1)) ∧
  (∀ (s : State) (d : BitVec 12) (v w : Word32) (hop : TpHop), Canonical s → hopLoses hop = false → hop.resent.val = 0 →
     let c := cfgFields w
     let answered (h : Nat) (s' : State) (st : Nat) (l : List Word32) : Prop :=
       (Map.get s'.hubs Hub.init h).responses = (Map.get s.hubs Hub.init h).responses ++ [⟨2304 + h, st, l⟩] ∧
       (∀ g, g ≠ h → Map.get s'.hubs Hub.init g = Map.get s.hubs Hub.init g) ∧ { s' with hubs := s.hubs } = s
     (∀ t : TileId, tpAddr (tpCode (.tile t.val)) = some (.tile t.val)) ∧
     (∀ h : Fin 144, tpAddr (tpCode (.hub h.val)) = some (.hub h.val)) ∧
     (∀ f : Fin 8, tpAddr (0xFC0 + f.val) = some (.gateway f.val)) ∧
     (∀ h : Fin 144, s.destAt d.toNat = some (.hub h.val) →
       let x := Map.get s.hubs Hub.init h.val
       (c = ⟨0, 4, c.batch, c.id⟩ → ∃ s', exec (.cfgRd d w hop) s = .next s' ∧ answered h s' 0 [BitVec.ofNat 32 x.missMask,
         BitVec.ofNat 32 x.retry, BitVec.ofNat 32 x.drops, BitVec.ofNat 32 ((s.basinOf (hubTile h.val)).getD 0x10)]) ∧
       (c.off % 4 = 0 → c.off < 16 → c.n = 1 → c.batch = false →
         ∃ s', exec (.cfgWr d w [v] hop) s = .next s' ∧ answered h s' 3 []) ∧
       (x.responses ≠ [] → ∃ s', exec (.cfgRsp d hop) s = .next s' ∧ { s' with hubs := s.hubs } = s ∧
         (Map.get s'.hubs Hub.init h.val).responses = x.responses.drop 1)) ∧
     (∀ f : Fin 8, s.destAt d.toNat = some (.gateway f.val) → c.off % 4 = 0 → c.off < 64 → c.n = 1 → c.batch = false →
       let sub := c.off / 4 + 1
       (∃ s', exec (.cfgWr d w [v] hop) s = .next s' ∧ s'.obj (0x2D10 + f) sub = v.toNat % 4096 ∧
         s'.waitingAt d.toNat = s.waitingAt d.toNat ++ [⟨2448 + d.toNat % 64, 0, []⟩] ∧ s'.tiles = s.tiles ∧ s'.mem = s.mem) ∧
       (∃ s', exec (.cfgRd d w hop) s = .next s' ∧ { s' with agentRsp := s.agentRsp } = s ∧
         s'.waitingAt d.toNat = s.waitingAt d.toNat ++
           [⟨2448 + d.toNat % 64, 0, [BitVec.ofNat 32 (s.obj (0x2D10 + f) sub)]⟩])) ∧
     (s.destAt d.toNat = none → ∀ l : List Word32,
       (∃ s', exec (.cfgWr d w l hop) s = .next s' ∧ { s' with agentRsp := s.agentRsp } = s ∧
         s'.waitingAt firstGateway = s.waitingAt firstGateway ++ [⟨2448, 6, []⟩]) ∧
       (∃ s', exec (.cfgRd d w hop) s = .next s' ∧ { s' with agentRsp := s.agentRsp } = s ∧
         s'.waitingAt firstGateway = s.waitingAt firstGateway ++ [⟨2448, 6, []⟩])))

/-! ### Voxvia ports (R228 to R263, R393, R480, R483, R491) -/

/-- Port states (R253, R257, R258, R260, R262): enabling begins an attempt on all lanes and disabling ends in
DISABLED; an attempt that passes makes the port READY in its lane mode; loss of lock retrains a READY port, a lane
drop retrains it in the mode the other lanes allow or fails it, and a third failed retrain fails it. Reference and
cages (R480, R483, R491): losing the link reference, a cage's medium or its auxiliary supply retrains the READY ports
concerned; the reference's return restarts abandoned attempts, and an inserted medium those of its cage's enabled
ports. The model's own readings and choices in it: log entry 38. -/
def Obligations.PortStates : Prop :=
  (∀ (s : State) (p : PortId), Canonical s →
     let q := s.port p
     (∀ en : BitVec 8,
       (en ≠ 0 → ∃ s', exec (.portEnable p en) s = .next s' ∧ s'.portState p = 1 ∧ s'.obj (portObj p) 2 = 1 ∧
         (s'.port p).qualTx = 0xFF ∧ (s'.port p).qualRx = 0xFF ∧ (s'.port p).attempts = 0) ∧
       (en = 0 → ∃ s', exec (.portEnable p en) s = .next s' ∧ s'.portState p = 7 ∧ s'.obj (portObj p) 2 = 0)) ∧
     (∀ lane : Fin 8, s.portState p = 1 →
       ∃ s', exec (.laneTrainTimeout p lane) s = .next s' ∧
         s'.port p = { q with qualTx := q.qualTx &&& (255 - 2 ^ lane.val), qualRx := q.qualRx &&& (255 - 2 ^ lane.val) }) ∧
     (∀ (tx rx : BitVec 8) (w : Nat), s.portState p = 1 ∨ s.portState p = 2 → s.link.refLost = false →
       let a := (s.updPort p (fun q => { q with
         qualTx := q.qualTx &&& tx.toNat, qualRx := q.qualRx &&& rx.toNat })).badLanes p
       a.laneMode p (a.portMinor p) = some w →
       ((a.port p).helloDone = true →
         ∃ s', exec (.qualifyEnd p tx rx true) s = .next s' ∧ s'.portState p = 3 ∧ s'.obj (portObj p) 3 = w) ∧
       (q.attempts < 2 → (a.port p).attempts = q.attempts →
         ∃ s', exec (.qualifyEnd p tx rx false) s = .next s' ∧ s'.portState p = 1 ∧
           (s'.port p).attempts = q.attempts + 1)) ∧
     (s.portState p = 4 → Map.get s.link.fwRestart false p = false → s.mediumOut p = false →
       (∃ s', exec (.retrainEnd p true) s = .next s' ∧ s'.portState p = 3 ∧ (s'.port p).retry = 0 ∧
         (q.newLink = false → q.buf <:+ (s'.port p).wire)) ∧
       (q.retrainFails < 2 → ∃ s', exec (.retrainEnd p false) s = .next s' ∧
         s'.port p = { q with retrainFails := q.retrainFails + 1 } ∧ s'.objs = s.objs) ∧
       (2 ≤ q.retrainFails → ∃ s', exec (.retrainEnd p false) s = .next s' ∧ s'.portState p = 5 ∧
         s'.alarmQ = s.alarmQ ++ [⟨0x141, p.val, 0, 0, 16, 2304, 0⟩])) ∧
     (∀ lane : Fin 8, s.portState p = 3 → bitOf q.qualRx lane = true →
       ∃ s', exec (.laneDrop p lane) s = .next s' ∧ s'.link.laneDrops = s.link.laneDrops + 1 ∧
         ((s.updPort p (fun q => { q with qualRx := q.qualRx &&& (255 - 2 ^ lane.val) })).laneMode p (s.portMinor p) = none →
           s'.portState p = 5) ∧
         ((s.updPort p (fun q => { q with qualRx := q.qualRx &&& (255 - 2 ^ lane.val) })).laneMode p (s.portMinor p) ≠ none →
           s'.portState p = 4)) ∧
     (∀ lane : Fin 8,
       (s.portState p = 3 → ∃ s', exec (.laneLossOfLock p lane) s = .next s' ∧ s'.portState p = 4 ∧
         (s'.port p).retry = 2 ∧ s'.irqQ = s.irqQ ++ [⟨0x140, p.val, 0, 0, 16, 2304, 0⟩]) ∧
       (s.portState p ≠ 3 → exec (.laneLossOfLock p lane) s = .next s))) ∧
  (∀ (s : State) (p : PortId) (cage : Fin 16), Canonical s →
     (s.link.refLost = false →
       (∃ s', exec .linkRefLost s = .next s' ∧ s'.link.refLost = true ∧
         (s.portState p = 3 → s'.portState p = 4) ∧ (s.portState p ≠ 3 → s'.portState p = s.portState p) ∧
         s'.alarmQ = s.alarmQ ++ [⟨0x148, 0, 0, 0, 16, 2304, 0⟩]) ∧
       exec .linkRefReturn s = .next s) ∧
     (s.link.refLost = true →
       (∃ s', exec .linkRefReturn s = .next s' ∧ s'.link.refLost = false ∧
         (s.portState p = 1 ∨ s.portState p = 2 → s'.portState p = 1) ∧
         s'.alarmQ = s.alarmQ ++ [⟨0x148, 1, 0, 0, 16, 2304, 0⟩]) ∧
       exec .linkRefLost s = .next s) ∧
     (∃ s', exec (.cageMediumRemoved cage) s = .next s' ∧
       s'.link.cageOut = Map.put s.link.cageOut false cage true ∧
       (p.val / 4 = cage.val → s.portState p = 3 → s'.portState p = 4) ∧
       (p.val / 4 ≠ cage.val → s'.portState p = s.portState p)) ∧
     (∃ s', exec (.cageMediumInserted cage) s = .next s' ∧
       s'.link.cageOut = Map.put s.link.cageOut false cage false ∧
       s'.link.cageOff = Map.put s.link.cageOff false cage false ∧
       (p.val / 4 = cage.val → s.obj (portObj p) 2 = 1 → s'.portState p = 1)) ∧
     (∃ s', exec (.cagePower cage) s = .next s' ∧ s'.link.cageOff = Map.put s.link.cageOff false cage true ∧
       (p.val / 4 = cage.val → s.portState p = 3 → s'.portState p = 4)))

/-- Received flits (R236, R239): one that fails its codeword, header or place draws one NAK and is not accepted; one
with its word intact in its place enters the receive buffer; one of type 0 is ignored, and a reserved type counts as a
header error (R235). A barge's HEAD and TAIL (R243 to R245, R247): a HEAD in sequence opens its barge, one ahead of it
draws SEQ_GAP, one behind it is a duplicate, and one that is not bound to an epoch is refused by a running basin; a
flit that waits stops no other channel's (R33, R237); ROWs gather at the crossing; a TAIL ends the barge and its
digest is compared; a bound barge waits for its epoch and is LATE after it. The model's own readings and choices in
it: log entries 36, 38, 40. -/
def Obligations.FlitsAndBarges : Prop :=
  (∀ (s : State) (p : PortId) (f : Flit), Canonical s →
     let q := s.port p
     (∀ rs : Bool, s.linkAlive p = false → exec (.flitReceive p f rs) s = .next s) ∧
     (s.linkAlive p = true →
       (∃ s', exec (.flitReceive p f false) s = .next s' ∧ (s'.port p).nakOut = true ∧
         (s'.port p).accepted = q.accepted ∧ (s'.port p).rxSeq = q.rxSeq) ∧
       (headerOk f = false →
         ∃ s', exec (.flitReceive p f true) s = .next s' ∧ (s'.port p).nakOut = true ∧
           (s'.port p).hdrErrs = q.hdrErrs + 1 ∧ (s'.port p).accepted = q.accepted ∧ (s'.port p).rxSeq = q.rxSeq) ∧
       (headerOk f = true → 1 ≤ flitType f ∧ flitType f ≤ 5 ∧ flitType f ≠ 4 → flitSeq f ≠ q.rxSeq →
         ∃ s', exec (.flitReceive p f true) s = .next s' ∧ (s'.port p).nakOut = true ∧
           (s'.port p).accepted = q.accepted ∧ (s'.port p).rxSeq = q.rxSeq) ∧
       (headerOk f = true → flitType f = 0 → exec (.flitReceive p f true) s = .next s) ∧
       (headerOk f = true → 6 ≤ flitType f → ∃ s', exec (.flitReceive p f true) s = .next s' ∧
         s'.port p = { q with hdrErrs := q.hdrErrs + 1 }) ∧
       (∀ d : Row, kolvosDecode (flitWord f) = .good d → flitPoison f = false → headerOk f = true →
         1 ≤ flitType f ∧ flitType f ≤ 5 ∧ flitType f ≠ 4 → flitSeq f = q.rxSeq →
         ∃ s', exec (.flitReceive p f true) s = .next s' ∧ s'.port p = { q with
           accepted := q.accepted ++ [mkFlit (flitType f) false (flitLast f) (flitChannel f)
             ((f.extractLsb' 22 8).toNat) (flitSeq f) (kolvosEncode d)],
           rxSeq := (q.rxSeq + 1) % 16384, nakOut := false, kolvosNak := none, unacked := q.unacked + 1 }))) ∧
  (∀ (s : State) (p : PortId) (i : Nat) (f : Flit), Canonical s →
     let q := s.port p
     let ch := flitChannel f
     let h := cwData (flitWord f)
     ((firstsOfChannel q.accepted 2).find? (fun e => (s.headTake p e.1 e.2).isSome) = some (i, f) → s.rxBarge p ch = none → flitPoison f = false → hdrCount h ≤ 4096 →
       hdrChannel h = ch → (ch, hdrSeq h) ∉ q.retDue →
       (hdrSeq h = Map.get q.expRx 0 ch → s.attachAbsent p (hdrAttach h) = false → hdrNotify h = false →
         hdrBound h = false → s.basinRuns (hdrBasin h) = false → s.holdRows (hdrBasin h) = false →
         ∃ s', exec (.headFlit p) s = .next s' ∧ (s'.port p).accepted = q.accepted.eraseIdx i ∧
           s'.rxBarge p ch = some ⟨h, none, false, false, 0, 0, 0, none, digestStart, [],
             decide (hdrCount h = 0) && decide (s.portMinor p = 0), none, false, [], false, false⟩) ∧
       (seqAbove (hdrSeq h) (Map.get q.expRx 0 ch) = true →
         ∃ s', exec (.headFlit p) s = .next s' ∧
           (∃ b, s'.rxBarge p ch = some b ∧ b.status = some 0x12) ∧
           s'.alarmQ = s.alarmQ ++ [⟨0x145, p.val, 0, 0, 16, 2304, 0⟩]) ∧
       (hdrSeq h ≠ Map.get q.expRx 0 ch → seqAbove (hdrSeq h) (Map.get q.expRx 0 ch) = false →
         ∃ s', exec (.headFlit p) s = .next s' ∧ (∃ b, s'.rxBarge p ch = some b ∧ b.dup = true) ∧
           s'.alarmQ = s.alarmQ) ∧
       (hdrSeq h = Map.get q.expRx 0 ch → s.attachAbsent p (hdrAttach h) = false → hdrNotify h = false →
         hdrBound h = false → s.basinRuns (hdrBasin h) = true → s.looseMode (hdrBasin h) = false →
         ∃ s', exec (.headFlit p) s = .next s' ∧ (∃ b, s'.rxBarge p ch = some b ∧ b.status = some 0x14) ∧
           s'.alarmQ = s.alarmQ)) ∧
     (∀ b : RxBarge, (firstsOfChannel q.accepted 1).find? (fun e => (s.rowTake p e.1 e.2).isSome) = some (i, f) →
       s.rxBarge p ch = some b → b.waiting = false → b.ended = false → b.status = none → b.dup = false → b.recvd < hdrCount b.hdr → flitPoison f = false →
       flitLast f = false →
       ∃ s', exec (.rowFlit p) s = .next s' ∧ (s'.port p).accepted = q.accepted.eraseIdx i ∧
         s'.rxBarge p ch = some { b with
           recvd := b.recvd + 1, digest := digestRow b.digest h false, rows := b.rows ++ [(h, false)] }) ∧
     (∀ b : RxBarge, (firstsOfChannel q.accepted 5).find? (fun e => (s.tailTake p e.1 e.2).isSome) = some (i, f) →
       s.rxBarge p ch = some b → b.waiting = false →
       b.status = none → b.dup = false → b.recvd = hdrCount b.hdr →
       let dg := bitsOf h.toNat 63 0
       ∃ s', exec (.tailFlit p) s = .next s' ∧ s'.rxBarge p ch = some { b with ended := true, tail := some dg } ∧
         s'.alarmQ = if dg = digestOf b.digest b.recvd then s.alarmQ
           else s.alarmQ ++ [⟨0x144, p.val, 0, 0, 16, 2304, 0⟩]) ∧
     (∀ (c : BitVec 8) (b : RxBarge), s.rxBarge p c.toNat = some b → b.waiting = true →
       s.holdRows (hdrBasin b.hdr) = false →
       let t := s.attachTile p (hdrAttach b.hdr)
       (s.bindOf t b.hdr = 0 → s.landingsStopped t = false →
         ∃ s', exec (.boundBargeRelease p c) s = .next s' ∧ s'.rxBarge p c.toNat = some { b with waiting := false }) ∧
       (s.bindOf t b.hdr = 1 → exec (.boundBargeRelease p c) s = .next s) ∧
       (s.bindOf t b.hdr = 2 →
         ∃ s', exec (.boundBargeRelease p c) s = .next s' ∧
           s'.rxBarge p c.toNat = some { b with waiting := false, status := some 0x13 })))

/-- Rows land and barges complete (R243, R245, R246, R248): the next row of a barge is written at its attachment tile,
counted sent and received; one that port X refuses is counted and noted, and one that finds port X taken waits; a
barge at rest sends its COMPLETION, with what landed, and advances its channel, after its notify row where it has one.
Barges go out (R249, R250, R393): the engine reads its next descriptor in a fill-in beat and numbers the barge; HEAD,
rows and TAIL leave in order once the horizon has passed their gate and a credit is held; a COMPLETION takes its barge
off the outstanding ones and is reported. The model's own readings and choices in it: log entries 34, 37, 39, 41, 42,
134. -/
def Obligations.BargesLandAndLeave : Prop :=
  (∀ (s : State) (p : PortId) (c : BitVec 8) (b : RxBarge), Canonical s → s.rxBarge p c.toNat = some b →
     let q := s.port p
     let t := s.attachTile p (hdrAttach b.hdr)
     (∀ (d : Row) (rest : List (Row × Bool)), b.rows = (d, false) :: rest →
       let flat := hdrDest b.hdr + b.taken
       s.holdRows (hdrBasin b.hdr) = false → s.landingsStopped t = false → flat < 40960 →
       s.bargeTurn t (bankOf flat) (some p.val) = true → s.basinOf t = some (hdrBasin b.hdr) → s.portXStatus t flat [1] = 0 →
       s.inAlias t (bankOf flat) (localOf flat) = false → s.inPail t (bankOf flat) (localOf flat) = false →
       (s.bank t (bankOf flat)).uses = [] → b.loose = false →
       ∃ s', exec (.bargeRowLand p c) s = .next s' ∧ s'.rowWord t flat = kolvosEncode d ∧ RowsElse s s' t flat ∧
         s'.rxBarge p c.toNat = some { b with rows := rest, taken := b.taken + 1, landed := b.landed + 1 } ∧
         s'.regN t 0xf18 = min (s.regN t 0xf18 + 1) 0xFFFFFFFF ∧
         s'.regN t 0xf1c = min (s.regN t 0xf1c + 1) 0xFFFFFFFF) ∧
     (∀ (d : Row) (pz : Bool) (rest : List (Row × Bool)), b.rows = (d, pz) :: rest →
       let flat := hdrDest b.hdr + b.taken
       s.holdRows (hdrBasin b.hdr) = false → s.landingsStopped t = false → flat < 40960 →
       (s.bargeTurn t (bankOf flat) (some p.val) = false →
         exec (.bargeRowLand p c) s = .next (s.bargeAsk t (bankOf flat) (some p.val))) ∧
       (s.bargeTurn t (bankOf flat) (some p.val) = true → s.basinOf t = some (hdrBasin b.hdr) →
         s.portXStatus t flat [1] ≠ 0 → b.loose = false →
         s.inAlias t (bankOf flat) (localOf flat) = false → s.inPail t (bankOf flat) (localOf flat) = false →
         ∃ s', exec (.bargeRowLand p c) s = .next s' ∧ s'.mem = s.mem ∧
           s'.rxBarge p c.toNat = some { b with
             rows := rest, taken := b.taken + 1,
             firstBad := b.firstBad.orElse (fun _ => some (b.taken, s.portXStatus t flat [1])) } ∧
           s'.regN t 0xf18 = min (s.regN t 0xf18 + 1) 0xFFFFFFFF ∧
           s'.regN t 0xf1c = min (s.regN t 0xf1c + 1) 0xFFFFFFFF)) ∧
     (b.ended = true → b.waiting = false → b.rows = [] → s.maySend p 256 = true → b.dup = false → b.isReturn = false →
       hdrNotify b.hdr = false → b.returns = [] → b.result ≠ 0x12 → hdrSeq b.hdr = Map.get q.expRx 0 c.toNat →
       let fb := firstRow (hdrCount b.hdr) b.landed b.firstBad
       let dg := digestOf b.digest b.recvd
       let record := cplRecord (hdrSeq b.hdr) c.toNat b.result b.landed fb.1 fb.2 0 p dg
       ∃ s', exec (.bargeCompletionSend p c) s = .next s' ∧
         (s'.port p).rx = Map.put q.rx none c.toNat none ∧
         (s'.port p).expRx = Map.put q.expRx 0 c.toNat ((hdrSeq b.hdr + 1) % 2 ^ 32) ∧
         (s'.port p).wire = q.wire ++ [mkFlit 3 false false c.toNat 0 q.txSeq (kolvosEncode record)] ∧
         s'.mem = s.mem) ∧
     (let fb := firstRow (hdrCount b.hdr) b.landed b.firstBad
      ∀ s1 : State, s.notifyLand p c.toNat t b.hdr (cplRecord (hdrSeq b.hdr) c.toNat b.result b.landed fb.1 fb.2 0 p
         (digestOf b.digest b.recvd)) = some s1 →
       b.ended = true → b.waiting = false → b.rows = [] → s.maySend p 256 = true → b.dup = false →
       hdrNotify b.hdr = true → b.status = none → s.landingsStopped t = false →
       ∃ s', exec (.bargeCompletionSend p c) s = .next s' ∧ s'.mem = s1.mem ∧ s'.tiles = s1.tiles ∧
         (s'.port p).rx = Map.put q.rx none c.toNat none)) ∧
  (∀ (s : State) (p : PortId), Canonical s →
     let q := s.port p
     (let w := s.obj (portObj p) 0xF
      let t := s.attachTile p (bitsOf w 19 16)
      let flat := bitsOf w 15 0 + q.winPos
      let d := (s.readRow t flat true none).1
      bitsOf w 27 20 ≠ 0 → s.portState p = 3 → q.retry = 0 → q.tx = [] → q.drain = 0 → s.portStopped p t = false →
      (s.tile t).stop = false → flat < 40960 → s.bargeTurn t (bankOf flat) (some (64 + p.val)) = true → s.portXStatus t flat [1] = 0 →
      s.inPail t (bankOf flat) (localOf flat) = false → (s.readRow t flat true none).2.1 = false →
      hdrCount d ≤ 4096 → s.attachAbsent p (descSrcAttach d) = false → descSrcRow d + hdrCount d ≤ 40960 →
      ∃ s', exec (.descriptorRead p) s = .next s' ∧
        (s'.port p).winPos = (if q.winPos + 1 < bitsOf w 27 20 then q.winPos + 1 else 0) ∧
        (s'.port p).nextTx = Map.put q.nextTx 0 (hdrChannel d) ((Map.get q.nextTx 0 (hdrChannel d) + 1) % 2 ^ 32) ∧
        (s'.port p).tx = [⟨d, Map.get q.nextTx 0 (hdrChannel d),
          Map.get (s.bank t (bankOf flat)).fillBeat 0 (localOf flat), (s.basinOf t).getD 16, false, 0, digestStart,
          false, none⟩]) ∧
     (∀ b : TxBarge, q.tx = [b] → s.maySend p (hdrChannel b.desc) = true →
       Map.get q.chState 0 (hdrChannel b.desc) ≠ 2 → 1 ≤ s.portMinor p →
       let ch := hdrChannel b.desc
       (b.headSent = false → s.gatePassed b.basin b.gate = true →
         ∃ s', exec (.flitGateRelease p) s = .next s' ∧ (s'.port p).tx = [{ b with headSent := true }] ∧
           (s'.port p).wire = q.wire ++ [mkFlit 2 false false ch 0 q.txSeq (kolvosEncode b.head)]) ∧
       (∀ l, b.rows = some l → b.headSent = true → b.read < hdrCount b.desc →
         (l.getD b.read (0, true)).2 = false →
         let d := (l.getD b.read (0, true)).1
         ∃ s', exec (.flitGateRelease p) s = .next s' ∧
           (s'.port p).tx = [{ b with read := b.read + 1, digest := digestRow b.digest d false }] ∧
           (s'.port p).wire = q.wire ++ [mkFlit 1 false (decide (b.read + 1 = hdrCount b.desc)) ch (b.read % 256) q.txSeq
             (kolvosEncode d)]) ∧
       (let t := s.attachTile p (descSrcAttach b.desc)
        let flat := descSrcRow b.desc + b.read
        let d := (s.readRow t flat true none).1
        b.headSent = true → b.rows = none → b.read < hdrCount b.desc → flat < 40960 → s.pailRow t flat = false →
        s.gatePassed b.basin b.gate = true → s.bargeTurn t (bankOf flat) (some (64 + p.val)) = true →
        s.portXStatus t flat [1] = 0 → (s.readRow t flat true none).2.1 = false →
         ∃ s', exec (.flitGateRelease p) s = .next s' ∧
           (s'.port p).tx = [{ b with read := b.read + 1, digest := digestRow b.digest d false }] ∧
           (s'.port p).wire = q.wire ++ [mkFlit 1 false (decide (b.read + 1 = hdrCount b.desc)) ch (b.read % 256) q.txSeq
             (kolvosEncode d)]) ∧
       (b.headSent = true → hdrCount b.desc ≤ b.read →
         ∃ s', exec (.flitGateRelease p) s = .next s' ∧ (s'.port p).tx = [] ∧
           (s'.port p).outstanding = (if b.rows.isSome then q.outstanding else q.outstanding ++ [b]) ∧
           (s'.port p).wire = q.wire ++ [mkFlit 5 false false ch 0 q.txSeq
             (kolvosEncode (BitVec.ofNat 256 (digestOf b.digest (hdrCount b.desc))))]) ∧
       (b.headSent = false → s.gatePassed b.basin b.gate = false → exec (.flitGateRelease p) s = .next s)) ∧
     (∀ (i : Nat) (f : Flit) (b : TxBarge), q.accepted.findIdx? (fun f => decide (flitType f = 3)) = some i →
       q.accepted[i]? = some f →
       let record := cwData (flitWord f)
       q.outstanding = [b] → b.seq = bitsOf record.toNat 31 0 → hdrChannel b.desc = flitChannel f →
       descOut b.desc = false → hdrReturn b.desc = false → Map.get q.lastRep 0 (flitChannel f) = 0 →
       ∃ s', exec (.completionFlit p) s = .next s' ∧ (s'.port p).outstanding = [] ∧
         (s'.port p).accepted = q.accepted.eraseIdx i ∧
         (s'.port p).lastRep = Map.put q.lastRep 0 (flitChannel f) (b.seq + 1) ∧
         (s'.port p).records = Map.put q.records 0 (2 ^ 32 * flitChannel f + b.seq) record))

/-- Control messages (R237, R238, R241, R253, R254, R256): with the link up, an ACK frees the retry buffer through the
flit it names and a NAK sends it again from there; a CREDIT extends totals; a HELLO sets the version in force or stops
the port as incompatible; replies to SYNC and MODE are noted. Without the link none acts. What a port does at its own
time (R238, R239, R241, R263): it repeats an unanswered HELLO or MODE, acknowledges what it has accepted and replays
after ACK_TIMEOUT; a channel number is written only while its port is not READY. The model's own readings and choices
in it: log entries 35, 38. -/
def Obligations.LinkMessagesAndTimers : Prop :=
  (∀ (s : State) (p : PortId) (b : BitVec 240), Canonical s →
     let q := s.port p
     let n := bitsOf b.toNat 13 0
     let place := q.buf.findIdx? (fun f => decide (flitSeq f = n))
     (s.linkAlive p = false → ∀ c ∈ [Instr.ack p b, .nak p b, .credit p b, .hello p b, .sync p b, .mode p b],
       exec c s = .next s) ∧
     (s.linkAlive p = true →
       (place = none → exec (.ack p b) s = .next s ∧ exec (.nak p b) s = .next s) ∧
       (∀ i, place = some i →
         (∃ s', exec (.ack p b) s = .next s' ∧ s'.port p = { q with buf := q.buf.drop (i + 1), replays := 0 }) ∧
         (q.replays < 8 → ∃ s', exec (.nak p b) s = .next s' ∧
           s'.port p = { q with replays := q.replays + 1, wire := q.wire ++ q.buf.drop i }) ∧
         (8 ≤ q.replays → s.portState p = 3 → ∃ s', exec (.nak p b) s = .next s' ∧ s'.portState p = 4)) ∧
       (∃ s', exec (.credit p b) s = .next s' ∧
         s'.port p = (List.range 9).foldl (fun a g => a.takeGrant (bitsOf b.toNat (24 * g + 23) (24 * g))) q) ∧
       (let own := s.obj 0x2451 2
        let minor := min (own / 256) (helloField b 15 8)
        let low := max (own % 256) (helloField b 23 16)
        (q.peer = none ∨ s.portState p < 3 → helloField b 7 0 ≠ s.obj 0x2451 1 ∨ minor < low →
          ∃ s', exec (.hello p b) s = .next s' ∧ s'.portState p = 6 ∧
            s'.alarmQ = s.alarmQ ++ [⟨0x142, p.val, 0, 0, 16, 2304, 0⟩]) ∧
        (helloField b 7 0 = s.obj 0x2451 1 → low ≤ minor → b.getLsbD 112 = true → s.portState p < 3 →
          ∃ s', exec (.hello p b) s = .next s' ∧ (s'.port p).peer = some b ∧ (s'.port p).helloDone = true ∧
            s'.obj (portObj p) 6 = (256 * s.obj 0x2451 1 + minor) % 2 ^ 64 ∧ s'.portState p = 2)) ∧
       (b.getLsbD 238 = true →
         ∃ s', exec (.sync p b) s = .next s' ∧ s'.port p = { q with syncAck := true }) ∧
       (b.getLsbD 12 = true →
         ∃ s', exec (.mode p b) s = .next s' ∧ s'.port p = { q with modeDone := true }))) ∧
  (∀ (s : State) (p : PortId), Canonical s →
     let q := s.port p
     let out (op : Nat) (body : BitVec 240) : Port :=
       { q with wire := q.wire ++ [ctrlFlit ⟨op, body⟩ q.ctrlFreed], ctrlSent := q.ctrlSent + 1 }
     (s.linkAlive p = true → q.ctrlOut = [] → q.ctrlSent < 32 + q.ctrlBack →
       (q.helloDone = false → ∃ s', exec (.ctrlRepeat p) s = .next s' ∧ s'.port p = out 4 (s.helloBody p false)) ∧
       (0 < q.unacked → ∃ s', exec (.ackSend p) s = .next s' ∧
         s'.port p = { out 1 (BitVec.ofNat 240 ((q.rxSeq + 16383) % 16384)) with unacked := 0 }) ∧
       (q.helloDone = true → s.portMinor p < 2 ∨ s.portState p ≠ 3 ∨ q.syncAck = true → q.modeDone = false →
         let w := s.obj (portObj p) 3
         ∃ s', exec (.ctrlRepeat p) s = .next s' ∧
           s'.port p = out 6 (BitVec.ofNat 240 (w + 2 ^ 4 * lowestLanes q.qualRx w)))) ∧
     (s.linkAlive p = false → exec (.ctrlRepeat p) s = .next s ∧ exec (.ackSend p) s = .next s) ∧
     (q.unacked = 0 → exec (.ackSend p) s = .next s) ∧
     (s.portState p = 3 → q.retry = 0 → q.buf ≠ [] →
       (q.replays < 8 → ∃ s', exec (.ackTimeout p) s = .next s' ∧
         s'.port p = { q with replays := q.replays + 1, wire := q.wire ++ q.buf }) ∧
       (8 ≤ q.replays → ∃ s', exec (.ackTimeout p) s = .next s' ∧ s'.portState p = 4)) ∧
     (∀ (v : Word32), s.obj 0x2450 1 / 256 % 64 = p.val →
       let c := s.obj 0x2450 1 % 256
       (s.portState p ≠ 3 →
         (∃ s', exec (.channelSeqWrite 2 v) s = .next s' ∧ s'.port p = { q with
           nextTx := Map.put q.nextTx 0 c v.toNat, chState := Map.put q.chState 0 c 0 }) ∧
         (∃ s', exec (.channelSeqWrite 3 v) s = .next s' ∧ s'.port p = { q with
           expRx := Map.put q.expRx 0 c v.toNat, chState := Map.put q.chState 0 c 0 })) ∧
       (s.portState p = 3 → ∃ s', exec (.channelSeqWrite 2 v) s = .next s' ∧ s'.link = s.link ∧
         s'.obj 0x2F11 1 = min (s.obj 0x2F11 1 + 1) (2 ^ 64 - 1))))

/-! ### The host interface (R264 to R283, R491) -/

/-- Queue registers (R266, R267, R280, R281): a doorbell within the ring moves the tail and one beyond it counts;
enabling starts a queue at position 0 with phase 1, disabling aborts what is in progress; the host frees completion
slots; a coalesced interrupt goes out at its time limit; the host reads the tail and SQ_HEAD back, and a reserved word
as zero. DATA entries (R268, R272, R273): on an empty queue that may fetch, a MALFORMED, ZERO_LEN, DUPLICATE or
OUT_OF_ORDER entry completes at once, the last stopping the queue; any other waits for its rows. The model's own
readings and choices in it: log entries 43, 44. -/
def Obligations.HostQueues : Prop :=
  (∀ (s : State) (q : Fin 129), Canonical s →
     let k := s.queue q
     let b := qBase q
     let size := if s.qOn q then k.size else 2 ^ s.bar (b + 0x10)
     (∀ v : Word32,
       (v.toNat < size → ∃ s', exec (.doorbell q v) s = .next s' ∧ s'.queue q = { k with tail := v.toNat } ∧
         s'.bar0 = s.bar0) ∧
       (size ≤ v.toNat → ∃ s', exec (.doorbell q v) s = .next s' ∧ s'.host = s.host ∧
         s'.bar (b + 0x38) = min (s.bar (b + 0x38) + 1) (2 ^ 32 - 1)) ∧
       (v.toNat < size → k.entries = [] → ∃ s', exec (.cqHeadWrite q v) s = .next s' ∧ s'.bar (b + 0x1C) = v.toNat ∧
         s'.queue q = { k with used := k.used - (v.toNat + size - s.bar (b + 0x1C)) % size })) ∧
     (s.qOn q = false → ∃ s', exec (.queueEnable q) s = .next s' ∧ s'.qOn q = true ∧ s'.qState q = 1 ∧
       s'.bar (b + 0x20) = 0 ∧ s'.bar (b + 0x1C) = 0 ∧ s'.queue q = { k with
         size := 2 ^ s.bar (b + 0x10), entries := [], cplPos := 0, phase := true, used := 0, coal := 0 }) ∧
     (s.qOn q = true →
       (∃ s', exec (.queueDisable q) s = .next s' ∧ s'.qOn q = false ∧ s'.qState q = 0) ∧
       (∀ e : HostEntry, k.entries = [e] → e.status = none → k.used < k.size →
         ∃ s', exec (.queueDisable q) s = .next s' ∧ (s'.queue q).entries = [] ∧
           s'.host.cpls = s.host.cpls ++ [⟨q.val, k.cplPos, e.tag, 0x14, k.phase, e.landed, s.cursor q⟩])) ∧
     (∀ on : Bool, ∃ s', exec (.queueCoalesceSet q on) s = .next s' ∧
       s'.bar (b + 0x14) = s.bar (b + 0x14) % 2 + 2 * b2n on ∧ s'.host = s.host) ∧
     s.barRead (0x20000 + 8 * q.val) = k.tail ∧ s.barRead (b + 0x20) = s.bar (b + 0x20) ∧ s.barRead (b + 0x24) = 0 ∧
     (k.coal = 0 → exec (.coalTimeout q) s = .next s) ∧
     (k.coal ≠ 0 → ∃ s', exec (.coalTimeout q) s = .next s' ∧ s'.queue q = { k with coal := 0 } ∧
       (q.val ∈ s.host.unmasked → s'.host.msix = s.host.msix ++ [q.val]) ∧
       (q.val ∉ s.host.unmasked → q.val ∈ s'.host.pba))) ∧
  (∀ (s : State) (q : Fin 128) (e : BitVec 512), Canonical s →
     let k := s.queue q
     let x := s.cursor q + k.landedEpoch
     let start := subF e 191 128
     let n := subF e 63 32
     let well := subF e 7 0 = 1 ∧ n ≤ 1048576 ∧ subF e 68 64 = 0 ∧ entryReserved e 192 = false
     let answers (st : Nat) : Prop := ∃ s', exec (.data q e) s = .next s' ∧
       s'.host.cpls = s.host.cpls ++ [⟨q.val, k.cplPos, subF e 31 16, st, k.phase, 0, s.cursor q⟩] ∧
       (s'.queue q).entries = [] ∧ (s'.queue q).used = k.used + 1 ∧ s'.qState q = if st = 0x11 then 2 else 1
     (s.canFetch q = false → exec (.data q e) s = .next s) ∧
     (s.canFetch q = true → k.entries = [] →
       (¬ well → answers 0x12) ∧
       (well → n = 0 → answers 1) ∧
       (well → n ≠ 0 → start + n ≤ x → answers 0x10) ∧
       (well → n ≠ 0 → x < start → answers 0x11) ∧
       (well → n ≠ 0 → start ≤ x → x < start + n → ∃ s', exec (.data q e) s = .next s' ∧
         s'.host.cpls = s.host.cpls ∧
         (s'.queue q).entries = [⟨subF e 31 16, e.getLsbD 8, start, n, start + n - x, 0, 0, false, none⟩] ∧
         s'.bar (qBase q + 0x20) =
           (if s.bar (qBase q + 0x20) + 1 < k.size then s.bar (qBase q + 0x20) + 1 else 0) % 2 ^ 32)))

/-- Quota rows and host writes (R271, R274, R275): the next row of a slot lands in its ring, which becomes FULL and
counts as sent; after a failed read the rest of its entry lands as poison; the engine reads a host descriptor, writes
its rows in order to rising host addresses, none of them nor an empty write before its gate (R393), and reports each
OSEQ once. The model's own readings and choices in it: log entries 45, 46. -/
def Obligations.HostRows : Prop :=
  ∀ s : State, Canonical s →
    (∀ (slot : Fin 128) (d : Row) (e : HostEntry) (b : Nat),
      let k := s.queue slot
      let t := s.slotTile slot
      let flat := (s.binding slot).1 + k.ringPos
      let loc := localOf flat
      k.entries = [e] → e.status = none → e.landed < e.need → e.bad = false → s.basinOf t = some b →
      s.slotIdle slot = false → s.basinRuns b = true → s.landingsStopped t = false → s.holdRows b = false →
      bitOf (s.obj 0x2500 6) (s.binding slot).2.1 = false → b ∉ s.host.stops → k.landedEpoch < s.quota slot →
      flat < 40960 → s.bargeTurn t (bankOf flat) (hostLands slot) = true → s.portXStatus t flat [1] = 0 →
      s.inPail t (bankOf flat) loc = true → Map.get (s.bank t (bankOf flat)).full false loc = false →
      (s.bank t (bankOf flat)).uses = [] →
      ∃ s', exec (.hostRowLand slot d) s = .next s' ∧ s'.rowWord t flat = kolvosEncode d ∧ RowsElse s s' t flat ∧
        (s'.bank t (bankOf flat)).full = Map.put (s.bank t (bankOf flat)).full false loc true ∧
        s'.regN t 0xf18 = min (s.regN t 0xf18 + 1) 0xFFFFFFFF ∧
        s'.queue slot = { k with
          ringPos := if k.ringPos + 1 < (s.binding slot).2.2 then k.ringPos + 1 else 0,
          landedEpoch := k.landedEpoch + 1, entries := [{ e with landed := e.landed + 1 }] }) ∧
    (∀ (slot : Fin 128) (e : HostEntry) (rest : List HostEntry), (s.queue slot).entries = e :: rest →
      e.status = none → e.landed < e.need →
      ∃ s', exec (.hostReadError slot) s = .next s' ∧ (s'.queue slot).entries = { e with bad := true } :: rest ∧
        s'.obj 0x2500 5 = min (s.obj 0x2500 5 + 1) 0xFFFFFFFF) ∧
    (∀ h : Fin 4,
      let t := s.hostTile h
      let v := s.obj 0x2501 (h.val + 1)
      let pos := Map.get s.host.winPos 0 h
      let flat := v % 65536 + pos
      let bn := (s.basinOf t).getD 16
      let d := (s.readRow t flat true none).1
      (s.hostWrite h = none → v / 65536 % 256 ≠ 0 → bitOf (s.obj 0x2500 6) h = false → bn ∉ s.host.stops →
        (s.tile t).stop = false → flat < 40960 → s.bargeTurn t (bankOf flat) hostReads = true → s.portXStatus t flat [1] = 0 →
        s.inPail t (bankOf flat) (localOf flat) = false → (s.readRow t flat true none).2.1 = false →
        hdCount d ≤ 4096 → hdAddr d % 32 = 0 → hdSrc d + hdCount d ≤ 40960 →
        ∃ s', exec (.hostDescriptorRead h) s = .next s' ∧
          s'.host.writes = Map.put s.host.writes none h
            (some ⟨d, Map.get (s.bank t (bankOf flat)).fillBeat 0 (localOf flat), bn, 0, false⟩) ∧
          s'.host.winPos = Map.put s.host.winPos 0 h (if pos + 1 < v / 65536 % 256 then pos + 1 else 0)) ∧
      (∀ w : HostWrite, s.hostWrite h = some w → w.basin ∉ s.host.stops →
        (w.read < hdCount w.desc → s.gatePassed w.basin w.gate = true →
          let row := hdSrc w.desc + w.read
          row < 40960 → s.inPail t (bankOf row) (localOf row) = false → s.bargeTurn t (bankOf row) hostReads = true →
          s.portXStatus t row [1] = 0 → (s.readRow t row true none).2.1 = false →
          ∃ s', exec (.hostDescriptorRead h) s = .next s' ∧
            s'.host.posted = s.host.posted ++ [(hdAddr w.desc + 32 * w.read, (s.readRow t row true none).1)] ∧
            s'.host.writes = Map.put s.host.writes none h (some { w with read := w.read + 1 })) ∧
        (hdCount w.desc = 0 → w.read = 0 → s.gatePassed w.basin w.gate = false →
          exec (.hostDescriptorRead h) s = .next s) ∧
        (hdCount w.desc ≤ w.read → 0 < w.read ∨ s.gatePassed w.basin w.gate = true → hdPost w.desc = false → hdNotify w.desc = false →
          ∃ s', exec (.hostDescriptorRead h) s = .next s' ∧ s'.host.writes = Map.put s.host.writes none h none ∧
            s'.host.oseq = if Map.get s.host.oseq 0 w.basin ≤ hdOseq w.desc
              then Map.put s.host.oseq 0 w.basin (hdOseq w.desc + 1) else s.host.oseq)))

/-- Resets of the endpoint (R264, R280, R491): each leaves every queue disabled and every vector masked, and keeps
cursors, quotas, bindings and the mirrors of management state; PERST_N and a lost reference also take the link down,
and training brings it up. The mailbox (R278, R287): a request while one is busy is discarded and counted; with no
active Lockkeeper it stays busy; the active Lockkeeper serves it as the SDO service would, with the abort code, the
bytes read and vector 128. The model's own readings and choices in it: log entries 48, 49, 52. -/
def Obligations.EndpointAndMailbox : Prop :=
  (∀ s : State, Canonical s →
     (∀ c ∈ [Instr.functionLevelReset, .perstAssert, .pcieReferenceLost], ∃ s', exec c s = .next s' ∧
       (∀ q : Fin 129, s'.qOn q = false ∧ s'.qState q = 0 ∧ (s'.queue q).entries = [] ∧ (s'.queue q).tail = 0) ∧
       s'.host.unmasked = [] ∧ (∀ off, off < 0x100 → s'.bar off = s.bar off) ∧
       (∀ (q : Fin 128) (sub : Nat), s'.obj (0x2510 + q.val) sub = s.obj (0x2510 + q.val) sub) ∧ s'.tiles = s.tiles) ∧
     (∃ s', exec .functionLevelReset s = .next s' ∧ s'.objs = s.objs ∧ s'.host.linkUp = s.host.linkUp) ∧
     (∃ s', exec .perstAssert s = .next s' ∧ s'.host.perst = true ∧ s'.host.linkUp = false ∧ s'.obj 0x2500 2 = 0) ∧
     (∃ s', exec .pcieReferenceLost s = .next s' ∧ s'.host.refLost = true ∧ s'.host.linkUp = false ∧
       s'.obj 0x2500 2 = 0) ∧
     (∀ (speed : Fin 6) (width : Fin 5), ∃ s', exec (.pcieLinkTrain speed width) s = .next s' ∧
       s'.host = { s.host with linkUp := true, perst := false, refLost := false } ∧
       s'.obj 0x2500 2 % 256 = 2 ^ width.val ∧
       (speed.val ≠ 0 → s'.obj 0x2500 2 / 256 = [0, 5, 8, 16, 32, 64].getD speed.val 0))) ∧
  (∀ (s : State) (ca : Bool), Canonical s →
     let st := s.bar 0x40010
     (bitOf st 8 = true → ∀ c ∈ [Instr.mbWrite ca, .mbRead ca], ∃ s', exec c s = .next s' ∧ s'.objs = s.objs ∧
       s'.bar 0x40010 = 256 + min (st % 256 + 1) 255) ∧
     (bitOf st 8 = false →
       (s.activeLk = none → ∀ c ∈ [Instr.mbWrite ca, .mbRead ca], ∃ s', exec c s = .next s' ∧ s'.objs = s.objs ∧
         bitOf (s'.bar 0x40010) 8 = true) ∧
       (s.activeLk ≠ none →
         (let a := (s.setBar 0x4000C 2).setBar 0x40010 (st + 256)
          let r := a.upload (s.bar 0x40000) (s.bar 0x40004)
          ∃ s', exec (.mbRead false) s = .next s' ∧ s'.bar 0x40014 = r.1.abort % 2 ^ 32 ∧
            bitOf (s'.bar 0x40010) 8 = false ∧ (r.1.abort = 0 → s'.host.mbData = r.1.data.take 4096)) ∧
         (let a := (s.setBar 0x4000C 1).setBar 0x40010 (st + 256)
          let r := a.download (s.bar 0x40000) (s.bar 0x40004) a.mbSend 1
          ∃ s', exec (.mbWrite false) s = .next s' ∧ s'.bar 0x40014 = r.1 % 2 ^ 32 ∧
            bitOf (s'.bar 0x40010) 8 = false ∧ s'.objs = r.2.objs))))

/-! ### EtherCAT and the object dictionary (R285, R288 to R311) -/

/-- The SDO services (R288, R296, R297, R299, R301): with CoE open each answers, and with it closed none acts. An
upload answers the entry's bytes or its abort; a download of an RW entry stores its value clamped, one of a read-only
entry aborts, and one of an entry of a running basin forms a batch for its lock; complete access writes the subentries
in order. The model's own readings and choices in it: log entries 54, 56. -/
def Obligations.SdoServices : Prop :=
  ∀ (s : State) (i : BitVec 16) (sub : BitVec 8), Canonical s →
    (s.coeOpen = false → ∀ (d : List Nat) (dd : List (List Nat)) (z : Bool),
      ∀ c ∈ [Instr.sdoDownload i sub d, .sdoUpload i sub, .sdoCompleteDownload i z dd, .sdoCompleteUpload i z,
        .sdoInformation i sub], exec c s = .next s) ∧
    (s.coeOpen = true →
      (∃ s', exec (.sdoUpload i sub) s = .next s' ∧ s'.objs = s.objs ∧ s'.srv.rsp = some
        (if missing i.toNat sub.toNat = 0 then ⟨0, s.entryBytes i.toNat sub.toNat⟩ else ⟨missing i.toNat sub.toNat, []⟩)) ∧
      (hasIndex i.toNat = false → missing i.toNat sub.toNat = 0x06020000) ∧
      (∃ s', exec (.sdoInformation i sub) s = .next s' ∧ s'.srv.rsp = some (s.describe i.toNat sub.toNat) ∧
        s'.objs = s.objs) ∧
      (∀ z : Bool, hasIndex i.toNat = true → ∃ s', exec (.sdoCompleteUpload i z) s = .next s' ∧ s'.objs = s.objs ∧
        s'.srv.rsp = some ⟨0, ((completeSubs i.toNat z).map (fun j => s.entryBytes i.toNat j)).flatten⟩) ∧
      (∀ d : List Nat, s.writeAbort i.toNat sub.toNat d 0 ≠ 0 →
        ∃ s', exec (.sdoDownload i sub d) s = .next s' ∧ s'.objs = s.objs ∧ s'.tiles = s.tiles ∧
          s'.srv.rsp = some ⟨s.writeAbort i.toNat sub.toNat d 0, []⟩) ∧
      (∀ (z : Bool) (d : List (List Nat)), s.completeAbort i.toNat z d 0 ≠ 0 →
        ∃ s', exec (.sdoCompleteDownload i z d) s = .next s' ∧ s'.objs = s.objs ∧ s'.tiles = s.tiles ∧
          s'.srv.rsp = some ⟨s.completeAbort i.toNat z d 0, []⟩) ∧
      (∀ l : List (BitVec 16), l.length = 16 →
        ∃ s', exec (.sdoCompleteDownload 0x2D01#16 false (l.map (fun v => [v.toNat % 256, v.toNat / 256]))) s = .next s' ∧
          s'.srv.rsp = some ⟨0, []⟩ ∧ ∀ n, n < 16 → s'.obj 0x2D01 (n + 1) = (l.getD n 0).toNat) ∧
      (∀ v : BitVec 8, ∃ s', exec (.sdoDownload 0x2002#16 3#8 [v.toNat]) s = .next s' ∧ s'.srv.rsp = some ⟨0, []⟩ ∧
        s'.obj 0x2002 3 = clampN 1 16 v.toNat ∧
        (s'.obj 0x2F11 1 = if clampN 1 16 v.toNat = v.toNat then s.obj 0x2F11 1
          else min (s.obj 0x2F11 1 + 1) (2 ^ 64 - 1))) ∧
      (∀ d : List Nat, ∃ s', exec (.sdoDownload 0x2000#16 7#8 d) s = .next s' ∧ s'.objs = s.objs ∧
        s'.srv.rsp = some ⟨0x06010002, []⟩) ∧
      (∀ (q : Fin 128) (d : List Nat) (b : Nat), d.length = 4 → (∀ x ∈ d, x < 256) → ofBytes d ≤ 2 ^ 24 →
        s.basinOf (s.hostTile (s.bindingWill (0x2510 + q.val) [(2, ofBytes d)] / 65536 % 4)) = some b →
        ∃ s', exec (.sdoDownload (BitVec.ofNat 16 (0x2510 + q.val)) 2#8 d) s = .next s' ∧ s'.objs = s.objs ∧
          ∃ k ∈ s'.srv.batches, k.basin = b ∧ k.state = 0 ∧ k.target = s.batchLock b ∧
            k.entries = [(objKey (0x2510 + q.val) 2, ofBytes d)]))

/-- FoE and the AL states (R289, R292, R294, R306): a write of an image is refused for its name, password, size, kind
in use or signature, and else is staged; a request steps the AL state machine or is refused with a status code, which
for distributed clocks that cannot be met is 0x0035 (R292). Process data (R291 to R295): outputs apply on arrival, or
in mode 2 at the next SYNC0 edge; inputs are latched by SYNC0 or by the latch of modes 0 and 1, as the layout in force
lists them; missing edges count, and at their limit the SubDevice falls back to SAFEOP and set-points become absent,
as after their timeout. The model's own readings and choices in it: log entries 67, 68, 69, 70, 122. -/
def Obligations.FieldbusStates : Prop :=
  (∀ (s : State) (name : List Nat) (password len : Nat) (sigOk : Bool) (img : UpdateImage) (st : Nat) (dc : Bool),
     Canonical s →
     let write := exec (.foeWrite name password len sigOk img) s
     let answers (a : Nat) : Prop := ∃ s', write = .next s' ∧ s'.srv.rsp = some ⟨a, []⟩ ∧ s'.upd = s.upd
     (s.activeLk = none → write = .next s ∧ exec (.alStateRequest st dc) s = .next s) ∧
     (s.activeLk ≠ none → s.srv.al ≠ 1 →
       (foeFile name = none → answers 0x8001) ∧
       (∀ k top, foeFile name = some (k, top) →
         (password ≠ 0 → answers 0x8002) ∧
         (password = 0 → top < len → answers 0x8003) ∧
         (password = 0 → len = 0 → answers 0) ∧
         (password = 0 → len ≤ top → len ≠ 0 →
           (∀ u, s.upd.run = some u → u.kind = k → answers 0x8006) ∧
           (s.upd.run.any (fun u => decide (u.kind = k)) = false →
             (sigOk = false → answers 0x800B) ∧
             (sigOk = true → ∃ s', write = .next s' ∧ s'.srv.rsp = some ⟨0, []⟩ ∧
               s'.upd = { s.upd with staged := Map.put s.upd.staged none k (some img) }))))) ∧
     (s.activeLk ≠ none →
       (st ∉ [1, 2, 3, 4, 8] → ∃ s', exec (.alStateRequest st dc) s = .next s' ∧ s'.srv.al = s.srv.al ∧
         s'.srv.alStatus = 0x12) ∧
       (st ∈ [1, 2, 3, 4, 8] → alMay s.srv.al st = false →
         ∃ s', exec (.alStateRequest st dc) s = .next s' ∧ s'.srv.al = s.srv.al ∧ s'.srv.alStatus = 0x11) ∧
       (s.srv.al = 2 → st = 4 → dc = false →
         ∃ s', exec (.alStateRequest st dc) s = .next s' ∧ s'.srv.al = 2 ∧ s'.srv.alStatus = 0x35) ∧
       (st ∈ [1, 2, 3, 4, 8] → alMay s.srv.al st = true → (s.srv.al = 2 → st = 4 → dc = true) →
         ∃ s', exec (.alStateRequest st dc) s = .next s' ∧ s'.srv.al = st ∧ s'.srv.alStatus = 0 ∧
           (s.srv.al = 2 → st = 4 → s'.srv.txLayout = s.pdoKeys true ∧ s'.srv.rxLayout = s.pdoKeys false ∧
             s'.srv.sync = s.obj 0x1C32 1)))) ∧
  (∀ (s : State) (a c : Word64), Canonical s →
     let latched (s' : State) : Prop := s'.srv.txPdo = s.srv.txLayout.map (fun k => (k, s'.obj (k / 256) (k % 256)))
     (s.activeLk = none ∨ s.srv.al ≠ 8 → exec (.rxpdo a c) s = .next s) ∧
     (s.activeLk ≠ none → s.srv.al = 8 →
       (s.srv.sync = 2 → ∃ s', exec (.rxpdo a c) s = .next s' ∧ s'.srv.setPending = some (a.toNat, c.toNat) ∧
         s'.objs = s.objs) ∧
       (s.srv.sync ≠ 2 → objKey 0x7000 1 ∈ s.srv.rxLayout → objKey 0x7000 2 ∈ s.srv.rxLayout →
         (s.srv.present = true ∨ c.toNat % 2 ^ 32 ≠ s.obj 0x7000 2 → ∃ s', exec (.rxpdo a c) s = .next s' ∧
           s'.obj 0x7000 1 = clampReal 0 0x46192000 0x46192000 (a.toNat % 2 ^ 32) % 2 ^ 64 ∧
           s'.obj 0x7000 2 = c.toNat % 2 ^ 32 ∧ s'.srv.present = true) ∧
         (s.srv.present = false → c.toNat % 2 ^ 32 = s.obj 0x7000 2 → ∃ s', exec (.rxpdo a c) s = .next s' ∧
           s'.obj 0x7000 1 = s.obj 0x7000 1 ∧ s'.srv.present = false))) ∧
     (s.activeLk = none ∨ s.srv.sync ≠ 2 → exec .sync0 s = .next s ∧ exec .syncError s = .next s) ∧
     (s.activeLk ≠ none → s.srv.sync = 2 →
       (∃ s', exec .sync0 s = .next s' ∧ s'.srv.setPending = none ∧ s'.srv.syncMiss = 0 ∧ latched s') ∧
       (s.srv.syncMiss + 1 < s.obj 0x10F1 2 → ∃ s', exec .syncError s = .next s' ∧
         s'.srv.syncMiss = s.srv.syncMiss + 1 ∧ s'.srv.al = s.srv.al ∧
         s'.obj 0x1C32 0xB = min (s.obj 0x1C32 0xB + 1) 0xFFFF) ∧
       (s.obj 0x10F1 2 ≤ s.srv.syncMiss + 1 → ∃ s', exec .syncError s = .next s' ∧ s'.srv.present = false ∧
         s'.obj 0x1C32 0x20 = 1 ∧ (s.srv.al = 8 → s'.srv.al = 4 ∧ s'.srv.alStatus = 0x2C))) ∧
     (s.activeLk ≠ none → s.srv.sync ≠ 2 → ∃ s', exec .pdoLatch s = .next s' ∧ latched s') ∧
     (s.srv.present = true → ∃ s', exec .setpointTimeout s = .next s' ∧ s'.srv = { s.srv with present := false } ∧
       s'.irqQ = s.irqQ ++ [⟨0x180, 0, 0, 0, 16, 2304, 0⟩]) ∧
     (s.srv.present = false → exec .setpointTimeout s = .next s))

/-- Status, clamp log and generic writes (R266, R300, R302, R310): clearing the log empties it, clearing status bits
clears those, and a generic write acts as its table states for a register over the towpath or from context 0, a BAR0
register or an entry. The end of a report window (R36, R39, R218, R321): what it gathered is added to its entries,
what the device measured is shown within its range, PACE_SPREAD names the fields spread beyond 12 % or across a seam
beyond 20 %, a basin's effective beat rate is its completed beats of the window, and notices may be sent again. The
model's own readings and choices in it: log entries 51, 75, 118. -/
def Obligations.StatusWritesAndReports : Prop :=
  (∀ (s : State) (val : Word64), Canonical s →
     (∃ s', exec .clampLogClear s = .next s' ∧ s'.srv = { s.srv with clamps := [] } ∧ s'.obj 0x2F11 2 = 1) ∧
     (∀ bits : Word32, ∃ s', exec (.statusClear bits) s = .next s' ∧ s'.srv = s.srv ∧
       ∀ i, i < 4 → bitOf (s'.obj 0x2F00 1) i = (bitOf (s.obj 0x2F00 1) i && !bitOf bits.toNat i)) ∧
     (val.toNat < 65536 → ∀ t : TileId, (s.tile t).dark = false →
       (s.absorbing t = false → ∃ s', exec (.registerWrite (.tile t none 0x100c#16) val) s = .next s' ∧
         s'.regN t 0x100c = val.toNat ∧
         (s'.tile t).tp.responses = (s.tile t).tp.responses ++ [⟨t.val, 0, []⟩]) ∧
       (∀ c : Fin 4, ∃ s', exec (.registerWrite (.tile t (some c) 0x100c#16) val) s = .next s' ∧ RegsOnly s s' ∧
         s'.regN t 0x100c = val.toNat) ∧
       (∀ (c : Fin 4) (off : BitVec 16), off.toNat % 4 ≠ 0 →
         ∃ s', exec (.registerWrite (.tile t (some c) off) val) s = .next s' ∧
           s'.regN t 0x0c = if s.regN t 0x0c = 0 then 3 else s.regN t 0x0c)) ∧
     (∃ s', exec (.registerWrite (.bar0 0x40008#24) val) s = .next s' ∧
       s'.bar 0x40008 = min (val.toNat % 65536) 4096 ∧ s'.host = s.host) ∧
     (s.coeOpen = true → val.toNat < 256 → ∃ s', exec (.registerWrite (.object 0x2002#16 3#8) val) s = .next s' ∧
       s'.srv.rsp = some ⟨0, []⟩ ∧ s'.obj 0x2002 3 = clampN 1 16 val.toNat) ∧
     (s.coeOpen = false → ∀ (i : BitVec 16) (sub : BitVec 8), exec (.registerWrite (.object i sub) val) s = .next s)) ∧
  (∀ (s : State) (v : Word64) (n : Nat) (f : Fin 8) (x : BitVec 8), Canonical s → s.win = [(objKey 0x2640 4, n)] →
     ∃ s', exec (.reportWindowEnd [(0x2100#16, 6#8, v)] [(f, x)]) s = .next s' ∧ s'.win = [] ∧
       s'.obj 0x2640 4 = min (s.obj 0x2640 4 + n) 0xFFFFFFFF ∧
       s'.obj 0x2100 6 = (if bitOf v.toNat 31 then 0 else min v.toNat 0x42700000) ∧
       (∀ g : Fin 8, bitOf (s'.obj 0x2601 9) g.val =
         (decide (12 < s.obj 0x2601 (g.val + 1)) || (decide (f = g) && decide (20 < x.toNat)))) ∧
       (∀ k : Fin 40, s'.obj (poundObj k.val) 0xC = 0) ∧
       (∀ b : Fin 16, (s.basin b.val).started = false → Map.get s.srv.winDone 0 b.val = 0 → s'.obj (0x2610 + b.val) 6 = 0) ∧
       (∀ b : Fin 16, Map.get s'.srv.winDone 0 b.val = 0 ∧ Map.get s'.srv.winMark 0 b.val = s.leastPos b.val) ∧
       (∀ t : TileId, s'.tile t = { s.tile t with tp := { (s.tile t).tp with irqSeen := [] } }) ∧ s'.power.coolant = false ∧
       (∀ k : Fin 40, s'.pound k.val = { s.pound k.val with depleted := false, throttled := false }) ∧
       s'.srv.winLen = s'.obj 0x2602 1)

/-! ### Lockkeepers and firmware updates (R285 to R287, R444 to R455) -/

/-- Lockkeepers (R285, R287, R445): a heartbeat is the millisecond under the active one; a takeover makes the
mirroring standby active and aborts the transaction in progress; the other one becomes active where the preferred one
does not pass its self-test in time; a handover and the end of a standby's reboot. The model's own readings and
choices in it: log entries 95, 108. -/
def Obligations.Lockkeepers : Prop :=
  ∀ (s : State) (x y : Keeper), Canonical s → s.keepers = [x, y] →
    (s.activeLk = none → exec .lkHeartbeat s = .next s) ∧
    (s.activeLk ≠ none → bitOf (s.bar 0x40010) 8 = false →
      ∃ s', exec .lkHeartbeat s = .next s' ∧ s'.srv.ms = s.srv.ms + 1 ∧ s'.bar 0x28 = (s.srv.ms + 1) % 2 ^ 32) ∧
    (s.obj 0x2001 2 = 0 → x.state = 3 → y.state = 2 →
      (∃ s', exec .lkTakeover s = .next s' ∧ s'.keepers = [{ x with state := 1 }, { y with state := 3 }] ∧
        s'.obj 0x2001 2 = 1 ∧ s'.srv.rsp = some ⟨0x08000022, []⟩ ∧
        ∃ l, s'.irqQ = l ++ [⟨0x181, 0, 0, 0, 16, 2304, 0⟩, ⟨0x182, 0, 0, 0, 16, 2304, 0⟩]) ∧
      (s.upd.run = none → ∃ s', exec .lkHandover s = .next s' ∧
        s'.keepers = [{ x with state := 1 }, { y with state := 3 }] ∧ s'.obj 0x2001 2 = 1 ∧ s'.obj 0x2B00 4 = 5)) ∧
    (s.upd.run = none → s.obj 0x2001 2 = 0 → y.state ≠ 2 →
      (∃ s', exec .lkHandover s = .next s' ∧ s'.keepers = s.keepers ∧ s'.obj 0x2B00 4 = 6 ∧ s'.obj 0x2B00 5 = 3) ∧
      exec .lkTakeover s = .next s ∧
      (y.state = 1 → ∀ ok : Bool, ∃ s', exec (.standbyRebootEnd ok) s = .next s' ∧
        s'.keepers = [x, { y with state := if ok then 2 else 0, selfTest := ok }])) ∧
    (s.activeLk = none → s.obj 0x2001 1 = 0 → x.state = 1 →
      (y.state = 0 → ∃ s', exec .lkBootTimeout s = .next s' ∧ s'.keepers = [{ x with state := 0 }, y] ∧
        s'.srv.al = 1 ∧ s'.srv.alStatus = 1) ∧
      (y.state ≠ 0 → ∃ s', exec .lkBootTimeout s = .next s' ∧
        s'.keepers = [{ x with state := 0 }, { y with state := 3, selfTest := true }] ∧ s'.obj 0x2001 2 = 1)) ∧
    (∀ u : Update, s.upd.run = some u → u.kind = 0 → s.obj 0x2001 2 = 0 →
      (u.phase = 2 → ∃ s', exec .lkHandover s = .next s' ∧ s'.obj 0x2001 2 = 1 ∧
        s'.keepers = [{ x with state := 4 }, { y with state := 3 }] ∧ s'.upd = { s.upd with run := some { u with phase := 3 } }) ∧
      (u.phase = 1 → y.state = 4 →
        (∃ s', exec (.standbyRebootEnd true) s = .next s' ∧ s'.upd = { s.upd with run := some { u with phase := 2 } } ∧
          s'.keepers = [x, { y with state := 2, selfTest := true, slot := 1 - y.slot }]) ∧
        (∃ s', exec (.standbyRebootEnd false) s = .next s' ∧ s'.upd = { s.upd with run := none } ∧
          s'.obj 0x2B00 4 = 7 ∧ s'.obj 0x2B00 5 = 6))) ∧
    (s.activeLk ≠ none → exec .lkBootTimeout s = .next s)

/-- Updates (R444, R447, R448): activation or rollback without an image is refused with reason 1; a power controller's
update restarts it and a link's drains its port, which then restarts and links up anew or, at the drain limit, returns
to service; cancel stops a drain. The model's own readings and choices in it: log entry 93. -/
def Obligations.FirmwareUpdates : Prop :=
  ∀ (s : State) (p : PortId) (f : FieldId), Canonical s →
    let kind := s.obj 0x2B00 2
    (s.upd.run = none →
      (s.stagedImg kind = none → ∃ s', exec .updateActivate s = .next s' ∧ s'.upd = s.upd ∧ s'.obj 0x2B00 4 = 6 ∧
        s'.obj 0x2B00 5 = 1) ∧
      (s.rollbackImg kind = none → ∃ s', exec .updateRollback s = .next s' ∧ s'.upd = s.upd ∧ s'.obj 0x2B00 4 = 6 ∧
        s'.obj 0x2B00 5 = 1) ∧
      (∀ i, kind = 3 → s.obj 0x2B00 3 = f.val →
        (s.stagedImg 3 = some i → ∃ s', exec .updateActivate s = .next s' ∧
          s'.upd.run = some ⟨3, f.val, false, i, 6, []⟩ ∧ s'.power.restart = s.power.restart ++ [f.val]) ∧
        (s.rollbackImg 3 = some i → ∃ s', exec .updateRollback s = .next s' ∧
          s'.upd.run = some ⟨3, f.val, true, i, 6, []⟩ ∧ s'.power.restart = s.power.restart ++ [f.val])) ∧
      (∀ i, kind = 2 → s.obj 0x2B00 3 = p.val → s.stagedImg 2 = some i → s.portInUse p = false →
        ∃ s', exec .updateActivate s = .next s' ∧ s'.upd.run = some ⟨2, p.val, false, i, 5, []⟩ ∧
          s'.port p = { s.port p with drain := 1 } ∧ s'.obj 0x2B00 4 = 2)) ∧
    (∀ u : Update, s.upd.run = some u → u.phase = 5 → u.target = p.val → u.kind = 2 →
      (∃ s', exec .updateCancel s = .next s' ∧ s'.upd.run = none ∧ s'.port p = { s.port p with drain := 0 } ∧
        s'.obj 0x2B00 4 = 0) ∧
      (∃ s', exec (.portDrainLimit p) s = .next s' ∧ s'.upd.run = none ∧ s'.port p = { s.port p with drain := 0 } ∧
        s'.obj 0x2B00 4 = 7 ∧ s'.obj 0x2B00 5 = 5) ∧
      (s.portDrained p = false → exec (.portDrainEnd p) s = .next s) ∧
      (s.portDrained p = true → ∃ s', exec (.portDrainEnd p) s = .next s' ∧ s'.portState p = 4 ∧
        s'.link.fwRestart = Map.put s.link.fwRestart false p true ∧ s'.upd.run = some { u with phase := 6 })) ∧
    (∀ u : Update, s.upd.run = some u → Map.get s.link.fwRestart false p = true → u.kind = 2 →
      (∃ s', exec (.linkControllerRestartEnd p true) s = .next s' ∧ s'.upd.run = none ∧ s'.portState p = 4 ∧
        (s'.port p).newLink = true ∧ s'.upd.active = Map.put s.upd.active factoryImage 2 u.img) ∧
      (∃ s', exec (.linkControllerRestartEnd p false) s = .next s' ∧ s'.upd.run = none ∧
        s'.upd.active = s.upd.active ∧ s'.obj 0x2B00 4 = 7)) ∧
    (∀ u : Update, s.upd.run = some u → u.kind = 3 → f.val ∈ s.power.restart →
      ∃ s', exec (.powerCtrlRestartEnd f) s = .next s' ∧ s'.upd.run = none ∧
        s'.power.restart = s.power.restart.filter (fun x => decide (x ≠ f.val)) ∧
        s'.upd.active = Map.put s.upd.active factoryImage 3 u.img ∧ s'.obj 0x2B00 4 = 5) ∧
    (f.val ∉ s.power.restart → exec (.powerCtrlRestartEnd f) s = .next s)

/-! ### Power (R312 to R359) -/

/-- The supply (R312 to R315, R330, R478): the input qualifies, power good begins bring-up, a power fail halts every
pulse and darkens every tile, a lost cell leaves the array and lowers the ceiling, and the ceiling follows the input
voltage, which qualifies an input that is off at 355 V (R335). -/
def Obligations.Supply : Prop :=
  ∀ (s : State) (cause : Fin 4) (cell : Fin 16) (vin : Nat) (scan : Bool), Canonical s →
    let fails (o : Host.Outcome State Fault Refusal) (n c : Nat) : Prop := ∃ s', o = .next s' ∧
      s'.obj 0x2100 1 = (if c = 2 then 5 else 4) ∧ s'.power.allHeld = true ∧ s'.power.input = false ∧ s'.boot.fails = s.boot.fails + 1 ∧
      (∀ p, p < 40 → s'.poundState p = 0) ∧ (∀ t, t < 2304 → (s'.tile t).dark = true) ∧
      (∀ k, k / 65536 < 2304 → Map.get s'.mem 0 k = 0) ∧ s'.obj 0x2100 4 = n ∧
      ∃ l, s'.alarmQ = l ++ [⟨0x168, c, 0, 0, 16, 2304, 0⟩]
    (s.obj 0x2100 1 ≤ 1 → ∃ s', exec .inputQualified s = .next s' ∧ s'.obj 0x2100 1 = 2 ∧
      s'.power = { s.power with input := true } ∧ { s' with objs := s.objs, power := s.power } = s) ∧
    (1 < s.obj 0x2100 1 → exec .inputQualified s = .next s) ∧
    (s.obj 0x2100 1 ≠ 2 → exec (.powerGood scan) s = .next s) ∧
    (s.obj 0x2100 1 = 2 → ∃ s', exec (.powerGood scan) s = .next s' ∧ s'.obj 0x2100 1 = 3 ∧
      s'.boot.powerOns = s.boot.powerOns + 1 ∧ s'.obj 0x2D00 1 = b2n scan ∧
      (scan = false → s'.obj 0x2000 7 = 1 ∧ s'.obj 0x2E00 1 = 1 ∧ s'.boot.bringUps = s.boot.bringUps + 1) ∧
      (scan = true → s'.obj 0x2000 7 = s.obj 0x2000 7 ∧ s'.boot.bringUps = s.boot.bringUps)) ∧
    fails (exec (.powerFail cause) s) (s.obj 0x2100 4) cause.val ∧ fails (exec .presOpen s) (s.obj 0x2100 4) 0 ∧
    (bitOf (s.obj 0x2100 5) cell.val = true → exec (.cellLost cell) s = .next s) ∧
    (bitOf (s.obj 0x2100 5) cell.val = false →
      (8 < s.obj 0x2100 4 → ∃ s', exec (.cellLost cell) s = .next s' ∧ s'.obj 0x2100 4 = s.obj 0x2100 4 - 1 ∧
        bitOf (s'.obj 0x2100 5) cell.val = true ∧
        s'.obj 0x2100 2 = f32Of (ceilingOf (s.obj 0x2100 4 - 1) s.power.vin) 1000 % 2 ^ 64 ∧
        (⟨0x166, cell.val, 0, 0, 16, 2304, 0⟩ : AlarmMsg) ∈ s'.irqQ ∧ s'.tiles = s.tiles) ∧
      (s.obj 0x2100 4 ≤ 8 → fails (exec (.cellLost cell) s) (s.obj 0x2100 4 - 1) 3)) ∧
    (∃ s', exec (.ceilingUpdate vin) s = .next s' ∧ s'.power = { s.power with vin := vin } ∧
      s'.obj 0x2100 1 = (if 1 < s.obj 0x2100 1 then s.obj 0x2100 1 else b2n (decide (355000 ≤ vin))) ∧
      s'.obj 0x2100 2 = f32Of (ceilingOf (s.obj 0x2100 4) vin) 1000 % 2 ^ 64 ∧
      s'.obj 0x2100 3 = f32Of (dieShare (ceilingOf (s.obj 0x2100 4) vin)) 1000 % 2 ^ 64)

/-- Phases, regulators and the weir (R316, R318 to R321, R333): a lost phase lowers the rating, a third one isolates a
powered pound; a failed regulator is bridged to its good neighbours at the higher voltage and a skim floor, or only
reported where its pound is not on; the weir's boost, shunt and bank follow droops and overshoots. -/
def Obligations.PhasesRegulatorsWeir : Prop :=
  ∀ (s : State) (pd : PoundId) (ph : Fin 6) (p : PhysId) (cause : Fin 4) (depth : Nat) (charge : Fin 101),
    Canonical s → Map.wf s.power.pounds (fun _ => Pound.init) = true →
    let pn := s.pound pd
    let becomes (s' : State) (v : Pound) : Prop :=
      s'.power = { s.power with pounds := Map.put s.power.pounds Pound.init pd.val v }
    let c := if pn.charge = 100 then 100 else charge.val
    (ph.val ∈ pn.out → exec (.phaseLost pd ph) s = .next s) ∧
    (ph.val ∉ pn.out → pn.out.length ≤ 1 → ∃ s', exec (.phaseLost pd ph) s = .next s' ∧
      becomes s' { pn with out := pn.out ++ [ph.val] } ∧ s'.obj (poundObj pd) 5 = 6 - (pn.out.length + 1) ∧
      s'.obj (poundObj pd) 6 = f32Of (ratingOf (6 - (pn.out.length + 1))) 1 ∧
      (⟨0x165, pd.val + 256 * ph.val, 0, 0, 16, 2304, 0⟩ : AlarmMsg) ∈ s'.irqQ) ∧
    (ph.val ∉ pn.out → pn.out.length = 2 → pn.revived = none → (s.poundState pd = 2 ∨ s.poundState pd = 3) →
      ∃ s', exec (.phaseLost pd ph) s = .next s' ∧ s'.poundState pd = 4 ∧ s'.obj (poundObj pd) 0xE = 3) ∧
    (2 ≤ s.regRoleOf p ∨ s.regN (s.holder p) 0x7010 ≠ 0 → exec (.regFail p cause) s = .next s) ∧
    (s.regRoleOf p < 2 → s.regN (s.holder p) 0x7010 = 0 →
      (s.poundState (pPound p) ≠ 3 → ∃ s', exec (.regFail p cause) s = .next s' ∧
        s'.regN (s.holder p) 0x7010 = cause.val + 1 ∧ s'.tiles = s.tiles ∧
        (⟨0x160, pName p, 0, 0, 16, 2304, 0⟩ : AlarmMsg) ∈ s'.irqQ) ∧
      (s.poundState (pPound p) = 3 → s.regRoleOf p = 0 → s.logicalOf p ≠ none →
        (∀ q ∈ rowPartners p, s.holder q.1 ≠ s.holder p) →
        let good := (rowPartners p).filter (fun q => decide (s.regRoleOf q.1 = 0) &&
          decide (s.regN (s.holder q.1) 0x7010 = 0) && decide (s.poundState (pPound q.1) = 3))
        good ≠ [] → ∃ s', exec (.regFail p cause) s = .next s' ∧ s'.regRoleOf p = 2 ∧
          s'.regN (s.holder p) 0x7014 = (if good.length = 2 then 4 else 7) ∧
          s'.obj 0x2103 1 = min (s.obj 0x2103 1 + 1) 2600)) ∧
    (∃ s', exec (.weirDroop pd depth charge) s = .next s' ∧
      becomes s' { pn with boost := true, shunt := false, charge := min c 99, depleted := pn.depleted || decide (c < 50) } ∧
      s'.obj (poundObj pd) 0xA = min (s.obj (poundObj pd) 0xA + 1) 0xFFFFFFFF ∧
      Map.get s'.win 0 (objKey 0x2104 1) = Map.get s.win 0 (objKey 0x2104 1) + 1 ∧
      Map.get s'.win 0 (objKey (poundObj pd) 0xC) = max (Map.get s.win 0 (objKey (poundObj pd) 0xC)) depth ∧
      s'.obj 0x2104 3 = (if c < 50 then min (s.obj 0x2104 3 + 1) 0xFFFFFFFF else s.obj 0x2104 3) ∧
      s'.irqQ = if c < 50 ∧ pn.depleted = false then s.irqQ ++ [⟨0x167, pd.val, 0, 0, 16, 2304, 0⟩] else s.irqQ) ∧
    (∃ s', exec (.weirOvershoot pd) s = .next s' ∧ becomes s' { pn with shunt := true } ∧
      s'.obj (poundObj pd) 0xB = min (s.obj (poundObj pd) 0xB + 1) 0xFFFFFFFF ∧
      Map.get s'.win 0 (objKey 0x2104 2) = Map.get s.win 0 (objKey 0x2104 2) + 1) ∧
    (∃ s', exec (.weirSettled pd) s = .next s' ∧ becomes s' { pn with boost := false, shunt := false } ∧
      { s' with power := s.power } = s) ∧
    (∃ s', exec (.weirBankRecharged pd) s = .next s' ∧ becomes s' { pn with charge := 100 } ∧ { s' with power := s.power } = s)

/-- Pounds (R322 to R329): a powered pound that trips is isolated, and latched off within a second of its revival;
power-up asks for a grant, which every adjacent pound must let pass; a ramp ends in a pound that is on or isolated; a
commanded power-down cancels a request or ramps the pound down. The model's own readings and choices in it: log
entries 79, 80. -/
def Obligations.Pounds : Prop :=
  ∀ (s : State) (pd : PoundId) (cause : Fin 4), Canonical s → Map.wf s.power.pounds (fun _ => Pound.init) = true →
    let pn := s.pound pd
    let st := s.poundState pd
    let isolated (o : Host.Outcome State Fault Refusal) (code : Nat) : Prop := ∃ s', o = .next s' ∧
      (pn.revived = none → s'.poundState pd = 4) ∧
      (∀ ms, pn.revived = some ms → s'.poundState pd = if st = 2 ∨ s.srv.ms ≤ ms + 1000 then 5 else 4) ∧
      s'.obj (poundObj pd) 3 = 0 ∧ s'.obj (poundObj pd) 4 = 0 ∧ s'.obj (poundObj pd) 0xE = code
    let refuses (c : Instr) (v : Nat) : Prop := ∃ s', exec c s = .next s' ∧ s'.poundState pd = st ∧
      s'.power = s.power ∧ s'.tregs = s.tregs ∧ s'.srv.clamps = Map.put s.srv.clamps none (s.obj 0x2F11 2)
        (some ⟨poundObj pd, 2, s.srv.src, 0, 255, 255, v, s.obj (poundObj pd) 2, 0, 255, false⟩)
    (st ≠ 2 → st ≠ 3 → exec (.poundTrip pd cause) s = .next s) ∧
    (st = 2 ∨ st = 3 → isolated (exec (.poundTrip pd cause) s) (cause.val + 1)) ∧
    (st = 0 → ∃ s', exec (.poundPowerUp pd) s = .next s' ∧ s'.poundState pd = 1 ∧ (s'.pound pd).asked = some 0) ∧
    (st = 4 → s.poundInBasin pd = false → ∃ s', exec (.poundPowerUp pd) s = .next s' ∧ s'.poundState pd = 1 ∧
      (s'.pound pd).asked = some 0 ∧ (s'.pound pd).revived = some s.srv.ms) ∧
    (st = 5 ∨ (st = 4 ∧ s.poundInBasin pd = true) → refuses (.poundPowerUp pd) 1) ∧
    (s.poundInBasin pd = true → refuses (.poundPowerDown pd) 2) ∧
    (s.poundInBasin pd = false →
      (st = 1 → ∃ s', exec (.poundPowerDown pd) s = .next s' ∧ s'.poundState pd = 0 ∧ (s'.pound pd).asked = none) ∧
      (st = 3 → ∃ s', exec (.poundPowerDown pd) s = .next s' ∧ s'.poundState pd = 2 ∧ (s'.pound pd).hold = true ∧
        (s'.pound pd).down = true)) ∧
    (pn.down = false → exec (.poundRampDownEnd pd) s = .next s) ∧
    (pn.down = true → ∃ s', exec (.poundRampDownEnd pd) s = .next s' ∧ s'.poundState pd = 0 ∧
      s'.obj (poundObj pd) 3 = 0 ∧ s'.obj (poundObj pd) 4 = 0 ∧ (s'.pound pd).hold = false ∧ (s'.pound pd).down = false) ∧
    ((∀ n, n < 40 → s.poundState n ≠ 1) → ∃ s', exec .poundGrantEval s = .next s' ∧
      ∀ n, n < 40 → s'.poundState n = s.poundState n ∧
        ((s.pound n).caps ≠ [] → s'.obj (poundObj n) 7 = f32Of (s.mean64 n) 1000 % 2 ^ 64)) ∧
    (st = 1 → (∀ n, n < 40 → n ≠ pd.val → s.poundState n ≠ 1) → s.power.restart.contains (pd.val / 5) = false →
      ((∀ n, n < 40 → poundsAdjacent pd.val n = true → s.letsRamp n = true) →
        ∃ s', exec .poundGrantEval s = .next s' ∧ s'.poundState pd = 2 ∧ (s'.pound pd).asked = none) ∧
      (∀ n, n < 40 → poundsAdjacent pd.val n = true → s.letsRamp n = false →
        ∃ s', exec .poundGrantEval s = .next s' ∧ s'.poundState pd = 1 ∧ (s'.pound pd).deferred = true ∧
          s'.obj (poundObj pd) 8 = min (s.obj (poundObj pd) 8 + 1) 0xFFFFFFFF ∧
          s'.irqQ = if pn.deferred = true then s.irqQ else s.irqQ ++ [⟨0x164, pd.val, 0, 0, 16, 2304, 0⟩])) ∧
    (∀ ok : Bool, st ≠ 2 ∨ pn.down = true → exec (.poundRampEnd pd ok) s = .next s) ∧
    (st = 2 → pn.down = false →
      isolated (exec (.poundRampEnd pd false) s) 4 ∧
      (∃ s', exec (.poundRampEnd pd true) s = .next s' ∧ s'.poundState pd = 3 ∧ (s'.pound pd).hold = false ∧
        s'.obj (poundObj pd) 3 = f32Of (s.vpnTarget pd) 1000 % 2 ^ 64 ∧ s'.obj (poundObj pd) 4 = f32Of 750 1000))

/-- Telemetry and skim (R332, R338 to R346, R354 to R357): a capture sets the pound's rail limit demand and a tile's
thermal demand, a sample puts the least budget in force and sets the cap demand, the gain moves an eighth of the way
within its bounds, and a frame takes the level its demands ask for. The model's own readings and choices in it: log
entries 76, 77, 78, 81. -/
def Obligations.TelemetryAndSkim : Prop :=
  ∀ (s : State) (pd : PoundId) (vn vm : Nat) (sys : Option (List Nat)) (tiles : List (Int × Nat × Nat)) (t : TileId),
    Canonical s → Map.wf s.power.pounds (fun _ => Pound.init) = true →
    let pn := s.pound pd
    let k := s.obj (0x2220 + pd.val) 3
    let a := s.vpnLimit pd
    let b := s.vpmLimit pd
    let p := pAt (pd.val / 5) 0 (5 * (pd.val % 5))
    (s.power.restart.contains (pd.val / 5) = false → ∃ s', exec (.capture8us pd vn vm sys tiles) s = .next s' ∧
      (s'.pound pd).caps = ((vn, vm) :: pn.caps).take 125 ∧
      s'.obj (0x2220 + pd.val) 3 = (if vn * 100 > 110 * a ∨ vn > 1000 * s.rating pd ∨ vm * 100 > 110 * b then 12
        else if vn > a ∨ vm > b then min 12 (k + 2)
        else if vn * 100 < 90 * a ∧ vm * 100 < 90 * b ∧ (pn.low + 1) % 8 = 0 then k - 1 else k)) ∧
    (∀ (x : Int) (v i : Nat), s.power.restart.contains (pd.val / 5) = false → s.power.hot = [] →
      s.sensorFailed p = false → Map.get s.power.odd 0 p < 15 →
      -400 ≤ x → x ≤ 1500 → s.tThr ≤ x →
      ∃ s', exec (.capture8us pd vn vm sys [(x, v, i)]) s = .next s' ∧
        s'.regN (s.holder p) 0x7008 = min v 1000 ∧ s'.regN (s.holder p) 0x700c = min i 8000 ∧
        bitsOf (s'.regN (s.holder p) 0x7100) 15 12 = min 12 (2 + 2 * ((x - s.tThr) / 10).toNat)) ∧
    (∃ s', exec .estimateSample s = .next s' ∧ s'.obj 0x2200 3 = f32Of (dieShare s.budget.2) 1000 % 2 ^ 64 ∧
      s'.obj 0x2200 4 = s.budget.1 ∧
      ((∀ n, n < 40 → s.poundState n ≠ 3) → s.obj 0x2200 5 ≤ 12 → dieShare s.budget.2 < s.linkPower + s.keeperPower →
        s'.obj 0x2200 5 = 12 ∧ s'.power.unmet = true ∧
        (s.power.unmet = false →
          s'.irqQ = s.irqQ ++ [⟨0x169, (s.linkPower + s.keeperPower) / 1000, 0, 0, 16, 2304, 0⟩]))) ∧
    (∃ s', exec .estimatorGainUpdate s = .next s' ∧ s'.power.classN = 0 ∧
      (pn.sumN ≠ 0 → pn.estN ≠ 0 → pn.estSum ≠ 0 → (s'.pound pd).gain = min 1150000000 (max 850000000
        ((7 * pn.gain + s.vpn pd * pn.sumI * 1000 / pn.sumN * 1000000000 / max 1 (pn.estSum / pn.estN)) / 8)))) ∧
    ((s.tile t).til.pulses % 16 ≠ 0 → exec (.skimFrame t) s = .next s) ∧
    ((s.tile t).til.pulses % 16 = 0 → ∃ s', exec (.skimFrame t) s = .next s' ∧ RegsOnly s s' ∧
      s'.regN t 0x7100 % 16 = s.skimDemand t ∧ s'.regN t 0x7100 / 16 = s.regN t 0x7100 / 16)

/-- The coolant ceiling (R357): a sample of the inlet temperature (in 0.1 °C) and the flow (in mL/min) shows both and
sets the ceiling (in mW, shown in W) to the least of 9,800 W, 9,800 W less 250 W for each degree above 35 °C, and the
share of 9,800 W that the flow has of 16 L/min; it is never below zero. A ceiling below 9,800 W sends COOLANT, once
until the report window ends. -/
def Obligations.CoolantCeiling : Prop :=
  ∀ (s : State) (tin : Int) (flow : Nat), Canonical s →
    let byT := (9800000 - 25000 * (tin - 350)).toNat
    let byQ := 9800000 * flow / 16000
    let ceiling := min 9800000 (min byT byQ)
    (∃ s', exec (.coolantSample tin flow) s = .next s' ∧ s'.obj 0x2280 5 = f32Of tin 10 % 2 ^ 64 ∧
      s'.obj 0x2280 6 = f32Of flow 1000 % 2 ^ 64 ∧ s'.obj 0x2280 7 = f32Of ceiling 1000 % 2 ^ 64 ∧
      s'.power.coolant = (s.power.coolant || decide (ceiling < 9800000)) ∧
      (ceiling = 9800000 ∨ s.power.coolant = true → s'.irqQ = s.irqQ) ∧
      (ceiling < 9800000 → s.power.coolant = false →
        s'.irqQ = s.irqQ ++ [⟨0x16F, b2n (decide (byQ < byT)), 0, 0, 16, 2304, 0⟩])) ∧
    (∀ m seams, ∃ s', exec (.reportWindowEnd m seams) s = .next s' ∧ s'.power.coolant = false)

/-- Voltage and skim tests (R317, R334, R351 to R353, R359): a set voltage stays within 600 to 850 mV and the pound's
rails follow; a voltage step holds the pound's pulses and moves every regulator by at most 10 mV toward its target;
and SKIM_TEST may be written only on a tile of no basin. The model's own readings and choices in it: log entry 118. -/
def Obligations.VoltageAndSkimTest : Prop :=
  ∀ (s : State) (pd : PoundId) (t : TileId) (mv : BitVec 16) (val : Word32), Canonical s →
    Map.wf s.power.pounds (fun _ => Pound.init) = true →
    let n := s.poundOf t
    let v0 := val.toNat % 32
    let c := min (v0 % 16) 12 + v0 / 16 * 16
    (s.power.restart.contains (n / 5) = true → exec (.vtSetWrite t mv) s = .next s) ∧
    (s.power.restart.contains (n / 5) = false → ∃ s', exec (.vtSetWrite t mv) s = .next s' ∧
      s'.regN t 0x7004 = clampN 600 850 mv.toNat ∧ s'.tiles = s.tiles ∧
      (s.poundState n = 3 → s'.obj (poundObj n) 3 = f32Of (s'.vpnTarget n) 1000 % 2 ^ 64) ∧
      (s.poundState n ≠ 3 → s'.objs = s.objs)) ∧
    (s.mayStep pd = false ∨ s.poundState pd ≠ 3 ∨ s.power.restart.contains (pd.val / 5) = true →
      exec (.voltageStep pd) s = .next s) ∧
    (s.mayStep pd = true → s.poundState pd = 3 → s.power.restart.contains (pd.val / 5) = false →
      ∃ s', exec (.voltageStep pd) s = .next s' ∧ (s'.pound pd).hold = true ∧
        ∀ p ∈ poundPhys pd, (∀ q ∈ poundPhys pd, q ≠ p → s.holder q ≠ s.holder p) →
          s.regN (s.holder p) 0x7014 = 0 → s'.regN (s.holder p) 0x7004 =
            (if s.regN (s.holder p) 0x7004 < s.vtTarget p then min (s.vtTarget p) (s.regN (s.holder p) 0x7004 + 10)
             else max (s.vtTarget p) (s.regN (s.holder p) 0x7004 - 10))) ∧
    ((s.pound pd).down = true → exec (.voltageStepEnd pd) s = .next s) ∧
    ((s.pound pd).down = false → ∃ s', exec (.voltageStepEnd pd) s = .next s' ∧
      s'.pound pd = { s.pound pd with hold := false } ∧ { s' with power := s.power } = s) ∧
    ((s.tile t).dark = false → s.absorbing t = false → s.basinOf t ≠ none → ∃ s', exec (.skimTestWrite t val) s = .next s' ∧ s'.regN t 0x7104 = s.regN t 0x7104 ∧
      (s'.tile t).tp.responses = (s.tile t).tp.responses ++ [⟨t.val, 4, []⟩]) ∧
    ((s.tile t).dark = false → s.absorbing t = false → s.basinOf t = none → ∃ s', exec (.skimTestWrite t val) s = .next s' ∧ s'.regN t 0x7104 = c ∧
      (s'.tile t).tp.responses = (s.tile t).tp.responses ++ [⟨t.val, if c = v0 then 0 else 2, []⟩])

/-! ### Bring-up, service commands and resets (R331, R362 to R384) -/

/-- Bring-up (R362 to R364, R371, R378): without a Lockkeeper phase 1 ends in INIT, without a ledger it halts the
device, and else powers the pounds in two waves; phases 2 to 4 follow in order; phase 5 makes the device ready, full
width on a die without defects, its tiles zeroed with the active firmware, or halts it without a shape. The model's
own readings and choices in it: log entries 84, 85, 95. -/
def Obligations.BringUpPhases : Prop :=
  ∀ (s : State) (r : PhaseResult) (x y : Keeper), Canonical s → s.keepers = [x, y] →
    let phase := s.obj 0x2E00 1
    let done (P : State → Prop) : Prop := ∃ s', exec (.bringupPhaseEnd r) s = .next s' ∧ P s'
    let halts (detail : Nat) : Prop := done (fun s' => s'.obj 0x2000 7 = 4 ∧ s'.obj 0x2E00 1 = 0 ∧ s'.obj 0x2330 3 = 3 ∧
      ∃ l, s'.alarmQ = l ++ [⟨0x187, detail, 0, 0, 16, 2304, 0⟩])
    (phase = 0 → s.obj 0x2D00 1 ≠ 1 → exec (.bringupPhaseEnd r) s = .next s) ∧
    (5 < phase → exec (.bringupPhaseEnd r) s = .next s) ∧
    (phase = 1 → s.activeLk = none →
      (r.lkA = false → r.lkB = false → done (fun s' => s'.srv.al = 1 ∧ s'.srv.alStatus = 1 ∧ s'.activeLk = none ∧
        s'.obj 0x2000 7 = 0 ∧ s'.obj 0x2E00 1 = 0)) ∧
      (r.lkA = true → s.obj 0x2001 1 = 0 → (r.ledgerOk = false → halts 2) ∧
        (r.ledgerOk = true → done (fun s' => s'.activeLk = some 0 ∧ s'.power.vlnk = true ∧ s'.obj 0x2E00 1 = 2 ∧
          ∀ n, n < 40 → s'.poundState n = if 4 ≤ s.poundState n then s.poundState n
            else if (n % 5 + n / 5 % 4 + n / 20) % 2 = 0 then 2 else 1)))) ∧
    (phase = 2 → s.boot.ledger = [] → r.found = [] → done (fun s' => s'.obj 0x2E00 1 = 3 ∧ s'.tiles = [] ∧
      s'.seams = [] ∧ s'.power.allHeld = false ∧
      ∀ n, n < 40 → s'.poundState n = if 4 ≤ s.poundState n then s.poundState n else 3)) ∧
    (phase = 3 → s.boot.ledger = [] → r.found = [] → done (fun s' => s'.obj 0x2E00 1 = 4 ∧ s'.mem = [] ∧
      s'.obj 0x2E00 0xA = 0)) ∧
    (phase = 4 → done (fun s' => s'.obj 0x2E00 1 = 5 ∧ s'.obj 0x2E00 5 = r.ms % 2 ^ 32)) ∧
    (phase = 5 → r.found = [] → (∀ e ∈ s.boot.ledger, e.removal = false) →
      (s.hubLost = true → halts 1) ∧ (s.hubLost = false → s.chooseShape = none → halts 0) ∧
      (s.boot.ledger = [] → (∀ n, n < 40 → s.poundState n < 4) → done (fun s' => s'.obj 0x2000 7 = 2 ∧
        s'.obj 0x2000 5 = 64 ∧ s'.obj 0x2000 6 = 0x3030 ∧ s'.obj 0x2E00 8 = 0 ∧ s'.obj 0x2E00 1 = 0 ∧
        ∀ t : TileId, s'.tile t = { Tile.zeroed with fw := s.bootFw })))

/-- Service commands and the loss of power (R313, R331, R369): the unlock value opens the window, and a service
command without it, of a wrong state or argument is refused with its reason; an entry's removal is asked for and
cancelled; bring-up runs again; and a power-down or the end of the hold-up leaves only what flash and NAND keep. The
model's own readings and choices in it: log entries 62, 66, 84. -/
def Obligations.ServiceCommands : Prop :=
  ∀ (s : State) (val : Word32) (i : Nat), Canonical s →
    let refused (c : Instr) (cmd reason : Nat) : Prop := ∃ s', exec c s = .next s' ∧ s'.boot = s.boot ∧
      s'.obj 0x2E01 4 = reason ∧ s'.srv.clamps = Map.put s.srv.clamps none (s.obj 0x2F11 2)
        (some ⟨0x2E01, 1, s.srv.src, 0, 255, 255, cmd, s.obj 0x2E01 1, 0, 255, false⟩)
    let marks (c : Instr) (b : Bool) : Prop := ∃ s', exec c s = .next s' ∧ s'.obj 0x2E01 4 = 0 ∧
      (∀ j, s'.boot.ledger[j]? = if j = i then (s.boot.ledger[j]?).map (fun e => { e with removal := b })
        else s.boot.ledger[j]?)
    let kept : Boot := { Boot.init with
      ledger := s.boot.ledger, powerOns := s.boot.powerOns, bringUps := s.boot.bringUps, fails := s.boot.fails,
      shutdowns := s.boot.shutdowns }
    let off (c : Instr) : Prop := ∃ s', exec c s = .next s' ∧ s'.mem = [] ∧ s'.tregs = [] ∧ s'.tiles = [] ∧
      s'.hubs = [] ∧ s'.link = State.reset.link ∧ s'.host = State.reset.host ∧ s'.power = State.reset.power ∧
      s'.boot = kept ∧
      s'.cellar.records.length = s.cellar.records.length ∧ s'.upd = { s.upd with run := none } ∧
      s'.obj 0x2000 7 = State.reset.obj 0x2000 7 ∧ s'.pending = s.pending
    (∃ s', exec (.serviceUnlock val) s = .next s' ∧ s'.obj 0x2E01 2 = val.toNat % 65536 ∧
      s'.boot = { s.boot with unlock := if val.toNat % 65536 = 0x5EC7 then some s.srv.ms else none }) ∧
    (s.unlocked = false → refused (.removeEntry i) 1 1 ∧ refused (.cancelRemoval i) 4 1 ∧ refused .bringUp 2 1 ∧
      refused .powerDown 3 1) ∧
    (s.unlocked = true →
      (s.boot.ledger.length ≤ i → refused (.removeEntry i) 1 3 ∧ refused (.cancelRemoval i) 4 3) ∧
      (i < s.boot.ledger.length → marks (.removeEntry i) true) ∧
      (∀ e, s.boot.ledger[i]? = some e → (e.removal = true → marks (.cancelRemoval i) false) ∧
        (e.removal = false → refused (.cancelRemoval i) 4 2)) ∧
      (s.anyRuns = true → s.obj 0x2000 7 ≠ 4 → refused .bringUp 2 2) ∧
      (s.anyRuns = false → s.obj 0x2000 7 = 2 → ∃ s', exec .bringUp s = .next s' ∧ s'.obj 0x2000 7 = 1 ∧
        s'.obj 0x2E00 1 = 2 ∧ s'.power.vlnk = true ∧ s'.boot.resets = [] ∧
        ∀ n, n < 40 → s'.poundState n = if s.poundState n < 4 then 2 else s.poundState n) ∧
      (s.anyRuns = true → refused .powerDown 3 2) ∧ (s.anyRuns = false → off .powerDown)) ∧
    (s.obj 0x2100 1 = 4 ∨ s.obj 0x2100 1 = 5 → off .busHoldupEnd) ∧
    (s.obj 0x2100 1 ≠ 4 → s.obj 0x2100 1 ≠ 5 → exec .busHoldupEnd s = .next s)

/-- Resets begin (R381, R382): a region that may be reset joins the resets under way with the boundary that 0x2A80.03
selects, its tiles held; any other request is refused and logged. Resets drain and end (R382, R383): a drained region
is cleared, an expired drain absorbs what remains, and at the end the region's tiles hold only what a reset keeps,
their rows are zero, a basin's job is over, and a device reset leaves the hubs empty and the device ready. The model's
own readings and choices in it: log entry 86. -/
def Obligations.Resets : Prop :=
  (∀ (s : State) (t : TileId) (h : BerthId) (b : BasinId), Canonical s →
     let choice := s.obj 0x2A80 3
     let begins (c : Instr) (level target : Nat) (tiles : List Nat) (dflt : Bool) : Prop := ∃ s', exec c s = .next s' ∧
       (∀ u ∈ tiles, s'.regN u 0x6c20 = 1) ∧ s'.mem = s.mem ∧
       (choice = 1 → s'.boot.resets = s.boot.resets ++ [⟨level, target, tiles, false, 0, 0, none⟩]) ∧
       (choice ≠ 1 → ∃ r, s'.boot.resets.getLast? = some r ∧ s'.boot.resets.length = s.boot.resets.length + 1 ∧
         r.level = level ∧ r.target = target ∧ r.tiles = tiles ∧ r.phase = 0 ∧
         r.absorb = if choice = 2 then true else dflt)
     let refused (c : Instr) (level : Nat) : Prop := ∃ s', exec c s = .next s' ∧ s'.boot = s.boot ∧ s'.tregs = s.tregs ∧
       s'.tiles = s.tiles ∧ s'.srv.clamps = Map.put s.srv.clamps none (s.obj 0x2F11 2)
         (some ⟨0x2A80, 2, s.srv.src, 0, 255, 255, level, s.obj 0x2A80 2, 0, 255, false⟩)
     (s.mayReset t = true → begins (.resetTile t) 1 t [t.val] true) ∧
     (s.mayReset t = false → refused (.resetTile t) 1) ∧
     ((∀ u ∈ berthAll h, s.mayReset u = true) → begins (.resetBerth h) 2 h (berthAll h) true) ∧
     (∀ u ∈ berthAll h, s.mayReset u = false → refused (.resetBerth h) 2) ∧
     ((s.obj 0x2000 7 = 2 ∨ s.obj 0x2000 7 = 3) → (s.basin b).rect.isSome = true →
       begins (.resetBasin b) 3 b (s.basinTiles b) false) ∧
     ((s.basin b).rect = none ∨ (s.obj 0x2000 7 ≠ 2 ∧ s.obj 0x2000 7 ≠ 3) → refused (.resetBasin b) 3) ∧
     (2 ≤ s.obj 0x2000 7 → begins .resetDevice 4 0 s.shapeTiles true) ∧
     (s.obj 0x2000 7 < 2 → refused .resetDevice 4)) ∧
  (∀ (s : State) (r : ResetReq), Canonical s → s.boot.resets = [r] →
     let drain := r.phase = 0 ∧ r.absorb = false
     (¬drain → exec .resetDrainEnd s = .next s ∧ exec .drainLimit s = .next s) ∧
     (drain → s.drained r = false → exec .resetDrainEnd s = .next s) ∧
     (drain → s.drained r = true → ∃ s', exec .resetDrainEnd s = .next s' ∧ s'.boot.resets = [{ r with phase := 1 }] ∧
       s'.obj 0x2A80 5 = 3 ∧ ∀ u ∈ r.tiles, s'.regN u 0x6c20 = 2) ∧
     (drain → ∃ s', exec .drainLimit s = .next s' ∧
       s'.boot.resets.map (fun q => (q.absorb, q.phase, q.tiles)) = [(true, 0, r.tiles)] ∧ s'.obj 0x2A80 5 = 2) ∧
     (drain → s.upd.run = none → exec .resetEnd s = .next s) ∧
     (¬drain → (r.absorb = true ∨ r.phase = 1) → r.ladder = none → s.upd.run = none →
       (r.level < 3 → ∃ s', exec .resetEnd s = .next s' ∧ s'.boot.resets = [] ∧ s'.obj 0x2A80 5 = 0 ∧
         s'.obj 0x2A80 6 = r.drops % 2 ^ 64 ∧ (∀ k, k / 65536 ∈ r.tiles → Map.get s'.mem 0 k = 0) ∧
         (r.tiles.Nodup → ∀ u ∈ r.tiles, s'.tile u = (s.tile u).cleared ∧ s'.regN u 0x6c20 = 0) ∧
         (∀ u, u ∉ r.tiles → s'.tile u = s.tile u) ∧
         s'.irqQ = if r.absorb = true then s.irqQ ++ [⟨0x186, min r.drops 65535, 0, 0, 16, 2304, 0⟩] else s.irqQ) ∧
       (r.level = 3 → r.target < 16 → ∃ s', exec .resetEnd s = .next s' ∧ s'.boot.resets = [] ∧
         (∀ k, k / 65536 ∈ r.tiles → Map.get s'.mem 0 k = 0) ∧ s'.obj (0x2610 + r.target) 1 = 0 ∧
         (s'.basin r.target).started = false ∧ (s'.basin r.target).rect = (s.basin r.target).rect ∧
         (∀ x ∈ s'.cellar.records, x.basin ≠ r.target)) ∧
       (r.level = 4 → (∀ b, b < 16 → (s.basin b).rect = none) → s.boot.ledger = [] → (∀ n, n < 40 → s.poundState n < 4) →
         ∃ s', exec .resetEnd s = .next s' ∧ s'.boot.resets = [] ∧ s'.hubs = [] ∧ s'.obj 0x2000 7 = 2 ∧
           (∀ k, k / 65536 ∈ r.tiles → Map.get s'.mem 0 k = 0) ∧ ∀ u ∈ r.tiles, s'.regN u 0x6c20 = 0)))

/-! ### Recovery and triers (R396 to R415) -/

/-- Collection and targeted tests (R396, R397, R400 to R402): once STOP has reached the basin, a unit that an error
names is tested, and an error that replay does not cure ends the job with its reason; a test that ends counts a
transient fault or reports and repairs a lasting one. The model's own readings and choices in it: log entries 97, 98,
99, 100. -/
def Obligations.CollectionAndTests : Prop :=
  ∀ (s : State) (b : BasinId) (m : AlarmMsg) (t : TileId) (c : Nat) (cls : Fin 9) (item : Nat)
      (x : Nat × Nat × Bool) (rest : List (Nat × Nat × Bool)), Canonical s →
    let v := s.basin b
    let collect := exec (.alarmCollectionEnd b) s
    let acts := v.stop = true ∧ s.activeLk ≠ none ∧ s.recState b ≠ 0 ∧ s.recState b ≤ 4
    let ends (detail : Nat) : Prop := ∃ s', collect = .next s' ∧ s'.recState b = 5 ∧ (s'.basin b).tests = [] ∧
      (⟨0x18A, detail, 0, 0, b.val, 2304, 0⟩ : AlarmMsg) ∈ s'.alarmQ ∧ s'.boot.resets.length = s.boot.resets.length + 1
    let testOf (lasting : Bool) := exec (.targetedTestEnd t cls lasting item) s
    let k := if c = 8 then clampN 2 7 cls.val else c
    (¬acts → collect = .next s) ∧
    (acts → v.errors = [m] → m.isError = true → v.judged = 0 → v.tests = [] →
      (s.errorTest b m = some (t.val, c) → ∃ s', collect = .next s' ∧ s'.recState b = 2 ∧
        (s'.basin b).tests = [(t.val, c, decide (s.obj 0x2800 5 ≤ s.regN t 0x6088))] ∧
        (∀ u ∈ s.basinTiles b, (s'.tile u).halted = true)) ∧
      (s.errorTest b m = none →
        (m.cause ∈ [0x162, 0x163, 0x16D] → ends 3) ∧
        (m.aux = 2 → (m.cause = 0x18B ∨ m.cause = 0xB) → ends 2) ∧
        (m.aux = 2 → m.cause ∉ [0x162, 0x163, 0x16D, 0x18B, 0xB] → ends 0))) ∧
    (∀ lasting : Bool, s.basinOf t = none → testOf lasting = .next s) ∧
    (∀ lasting : Bool, s.basinOf t = some b.val → (∀ y ∈ v.tests, y.1 ≠ t.val) → testOf lasting = .next s) ∧
    (s.basinOf t = some b.val → v.tests = x :: rest → x.1 = t.val → x.2.1 = c → rest ≠ [] →
      (x.2.2 = false → ∃ s', testOf false = .next s' ∧ (s'.basin b).tests = rest ∧
        s'.regN t 0x6088 = min (s.regN t 0x6088 + 1) 255 ∧
        s'.irqQ = s.irqQ ++ [⟨0x101, pName (s.physOf t) + 4096 * c, 0, 0, 16, 2304, 0⟩]) ∧
      (∃ s', testOf true = .next s' ∧ (s'.basin b).tests = rest ∧ (s'.basin b).fixed = v.fixed ++ [t.val] ∧
        s'.obj 0x2800 9 = min (s.obj 0x2800 9 + 1) 0xFFFFFFFF ∧
        (⟨0x100, pName (s.physOf t) + 4096 * k, 0, 0, b.val, 2304, 0⟩ : AlarmMsg) ∈ s'.alarmQ))

/-- Replay and remap (R406, R409): a prepared replay with nothing left to test is released, counted and reported, and
its basin runs on; remap acts only in remap holds, takes up the new map and releases them, and without a map ends the
job of a basin that has lost a tile. Moves of tile state (R85 to R87). While the basin's lock is held for a remap or
the basin does not run, UNLOAD_CTL starts the engine toward a direction whose lanes are there, with its counts at
zero, and leaves the other engine as it is. A load that has all its rows ends: with rows that are sound and a trailer
that agrees the unit is LOADED and presents the tile of the stream's header; else it is FAILED, and a presented tile
raises LOAD_FAIL. The model's own readings and choices in it: log entries 65, 96, 101, 118, 135. -/
def Obligations.ReplayAndMoves : Prop :=
  (∀ (s : State) (b : BasinId) (maps : List FieldMap), Canonical s →
     let v := s.basin b
     let limit := if s.obj 0x2E00 8 = 0 then 3 else 7
     let ready := v.stop = true ∧ s.recState b = 4 ∧ v.prepared = true ∧ v.tests = [] ∧
       v.judged = (s.errorsOf b).length ∧ ∀ h ∈ v.holds, h.1 = .remap → s.nextLockNum b < h.2
     (s.recState b ≠ 3 → s.recState b ≠ 4 → exec (.replayRelease b) s = .next s) ∧
     (ready → ∃ s', exec (.replayRelease b) s = .next s' ∧
       (⟨0x188, v.replays + 1, 0, 0, 16, 2304, 0⟩ : AlarmMsg) ∈ s'.irqQ ∧
       (s.lockHeld b (s.nextLockNum b) = true → v.lockNow = none →
         s'.obj (0x2810 + b.val) 5 = min (s.obj (0x2810 + b.val) 5 + 1) 0xFFFFFFFF ∧ (s'.basin b).stop = false ∧ (s'.basin b).errors = [] ∧
         (s'.basin b).replays = v.replays + 1 ∧ s'.recState b = 0 ∧ s'.obj (0x2A10 + b.val) 3 = 3 ∧
         ∀ u ∈ s.basinTiles b, (s'.tile u).stop = false ∧ (s'.tile u).halted = false)) ∧
     ((∀ n, n < 16 → s.recState n ≠ 3 ∧ s.recState n ≠ 4) →
       (s.remapHeld = [] → exec .remap s = .next s) ∧
       (s.remapHeld ≠ [] → s.chooseMaps limit = some maps →
         ((maps[0]?).map (fun m => m.cols.length)).getD 24 = s.boot.rowsLow →
         ((maps[4]?).map (fun m => m.cols.length)).getD 24 = s.boot.rowsHigh →
         (∀ u ∈ s.shapeTiles, s.physOf u = (s.takeMaps (s.obj 0x2E00 8) maps).physOf u) →
         ∃ s', exec .remap s = .next s' ∧ s'.obj 0x2210 2 = s.binFor ∧
           ∀ n ∈ s.remapHeld, ∀ h ∈ (s'.basin n).holds, h.1 = .remap → s.nextLockNum n < h.2) ∧
       (s.remapHeld = [b.val] → s.chooseMaps limit = none →
         (∀ u ∈ s.basinTiles b, s.physOf u ∈ s.badTiles limit (s.fieldOf u) → ∃ s', exec .remap s = .next s' ∧
           s'.recState b = 5 ∧ (s'.basin b).stop = true ∧
           (⟨0x18A, 0, 0, 0, b.val, 2304, 0⟩ : AlarmMsg) ∈ s'.alarmQ)))) ∧
  (∀ (s : State) (u : UnitId) (dir : Fin 4), Canonical s → s.unitIs u = true →
     let m := (s.tile u).mover
     let head := (m.rows.getD 0 (0, false)).1
     let trailer := rowBits (m.rows.getD 1055 (0, false)).1 0 64
     (s.moveOpen u = true → s.badSide u dir = false → (s.tile u).dark = false → s.absorbing u = false →
       ((∀ d, m.inn = some d → d < 4 ∧ s.badSide u d = false) → m.out ≠ some dir.val →
         ∃ s', exec (.unload u dir) s = .next s' ∧ s'.regN u 0xe04 = 1 ∧ bitOf (s'.regN u 0xe00) 0 = true ∧
           bitsOf (s'.regN u 0xe00) 3 2 = dir.val ∧ bitOf (s'.regN u 0xe00) 1 = m.inn.isSome ∧ s'.mem = s.mem ∧
           (s'.tile u).mover = { m with out := some dir.val, clock := 0, sent := 0, sentSum := 0xFFFFFFFFFFFFFFFF } ∧
           (u.val < 2304 → (s'.tile u).tp.responses = (s.tile u).tp.responses ++ [⟨u, 0, []⟩])) ∧
       ((∀ d, m.out = some d → d < 4 ∧ s.badSide u d = false) → m.inn ≠ some dir.val →
         ∃ s', exec (.load u dir) s = .next s' ∧ s'.regN u 0xe04 = 1 ∧ bitOf (s'.regN u 0xe00) 1 = true ∧
           bitsOf (s'.regN u 0xe00) 5 4 = dir.val ∧ bitOf (s'.regN u 0xe00) 0 = m.out.isSome ∧ s'.mem = s.mem ∧
           (s'.tile u).mover = { m with
             inn := some dir.val, landed := 0, gotSum := 0xFFFFFFFFFFFFFFFF, wait := [], rows := [] } ∧
           (u.val < 2304 → (s'.tile u).tp.responses = (s.tile u).tp.responses ++ [⟨u, 0, []⟩]))) ∧
     (m.inn.isSome = true → m.landed = 42016 →
       (trailer = digestOf m.gotSum 42016 → ∃ s', exec (.loadEnd u true) s = .next s' ∧ s'.regN u 0xe04 = 2 ∧
         (s'.tile u).mover = { m with inn := none, loaded := some (rowBits head 0 8 + 48 * rowBits head 8 8) } ∧
         s'.mem = s.mem) ∧
       (∀ ok : Bool, (ok = false ∨ trailer ≠ digestOf m.gotSum 42016) →
         ∃ s', exec (.loadEnd u ok) s = .next s' ∧ s'.regN u 0xe04 = 3 ∧ (s'.tile u).mover = { m with inn := none } ∧
           s'.mem = s.mem ∧ (u.val < 2304 → (s.tile u).lk.faulted = false → s'.regN u 0x6004 = 0xB))))

/-- Testing in service (R398, R399): a slice counts in its field's hour and its class toward the tile's pass, a test
of the array loses what it held, a lasting fault is reported, and a bank of a basin's tile that the trier does not own
is left alone; an overdue pass is reported once; and a pause takes the basin's next lock, ends with the passes it
made, and waits while STOP is in force. The model's own readings and choices in it: log entries 102, 103. -/
def Obligations.TestingInService : Prop :=
  ∀ (s : State) (t : TileId) (b : BasinId) (cls : Fin 9) (ok : Bool) (item : Nat) (tested : List TileId), Canonical s →
    let p := s.physOf t
    let slices := s.boot.slices ++ [(pField p, s.srv.ms)]
    let mask := Map.get s.boot.passed 0 p ||| 2 ^ (if cls.val ≤ 2 then item % 16 else 13 + min cls.val 7)
    let away := cls.val = 0 ∨ (∃ n, s.basinOf t = some n ∧ (s.basin n).stop = true) ∨ (s.tile t).dark = true ∨
      (cls.val = 8 ∧ s.basinOf t ≠ none) ∨ s.trierOwns t cls ok item = false
    let slice := exec (.idleWindowSlice t cls ok item) s
    (away → slice = .next s) ∧
    (¬away → ok = true → cls.val ∈ [1, 2, 6, 7] → mask &&& 0xFFFFF ≠ 0xFFFFF → ∃ s', slice = .next s' ∧
      s'.boot = { s.boot with slices := slices, passed := Map.put s.boot.passed 0 p mask } ∧
      { s' with boot := s.boot } = s) ∧
    (¬away → ok = true → cls.val = 3 → ∃ s', slice = .next s' ∧ (s'.tile t).arr.entries = [] ∧
      s'.boot.slices = slices ∧ s'.mem = s.mem ∧
      (s'.tile t).arr.active.rows.map (·.1) = (s.tile t).arr.active.rows.map (·.1)) ∧
    (¬away → ok = false → ∃ s', slice = .next s' ∧ s'.boot.slices = slices ∧
      (⟨0x100, pName p + 4096 * (if cls.val = 8 then 2 else cls.val), 0, 0, (s.basinOf t).getD 16, 2304, 0⟩ : AlarmMsg) ∈
        s'.alarmQ) ∧
    (bitOf (s.regN t 0x6084) 4 = true → exec (.trierOverdue t) s = .next s) ∧
    (bitOf (s.regN t 0x6084) 4 = false → ∃ s', exec (.trierOverdue t) s = .next s' ∧
      bitOf (s'.regN t 0x6084) 4 = true ∧ s'.obj 0x2840 5 = min (s.obj 0x2840 5 + 1) 2600 ∧
      s'.irqQ = s.irqQ ++ [⟨0x102, pName p, 0, 0, 16, 2304, 0⟩]) ∧
    (∃ s', exec (.trierPauseRequest b) s = .next s' ∧ s'.obj (0x2810 + b.val) 9 = 1 ∧
      ((s.basin b).stop = true → s'.basins = s.basins) ∧
      ((s.basin b).stop = false → (HoldCause.trierPause, s.nextLockNum b) ∈ (s'.basin b).holds)) ∧
    (s.heldFor b .trierPause = false ∨ s.heldByRequest b = false →
      ∀ l : List (TileId × Fin 9 × Nat), exec (.trierPauseDone b tested l) s = .next s) ∧
    (s.heldFor b .trierPause = true → s.heldByRequest b = true →
      ∃ s', exec (.trierPauseDone b tested []) s = .next s' ∧ s'.obj (0x2810 + b.val) 9 = 0 ∧
        (s'.basin b).holds = (s.basin b).holds.filter
          (fun h => !(decide (h.1 = .trierPause) && decide (h.2 ≤ s.nextLockNum b))) ∧
        (∀ u ∈ tested, u.val ∈ s.basinTiles b → s'.regN u 0x6080 = s.srv.ms / 1000 % 2 ^ 32) ∧
        s'.irqQ = s.irqQ ++ [⟨0x103, tested.length, 0, 0, 16, 2304, 0⟩])

/-! ### The cellar, basins and images (R269, R416 to R443) -/

/-- Snapshot requests and the risk score (R421, R425, R426, R434): a request waits at the queue's tail, merged into
one of its basin; an interval of 0 never asks; the score is the sum of its parts, and at the threshold it is reported
and asks. A snapshot (R422): served when the cellar is free, with a hold at the first snapshot point; copied in the
hold once outbound barges are complete; its hold released when the last row is in the write buffer; and secured by its
manifest, which replaces nothing that a newer chain needs. The model's own readings and choices in it: log entries 88,
89, 90. -/
def Obligations.Snapshots : Prop :=
  (∀ (s : State) (b : BasinId) (full : Bool), Canonical s →
     let asks (o : Host.Outcome State Fault Refusal) : Prop := ∃ s', o = .next s' ∧
       (s.cellar.job = none → s'.obj (snapObj b) 0xC = 1) ∧
       ((∀ q ∈ s.cellar.queue, q.1 ≠ b.val) → s'.cellar = { s.cellar with queue := s.cellar.queue ++ [(b.val, full)] }) ∧
       (∀ k : Bool, s.cellar.queue = [(b.val, k)] → s'.cellar = { s.cellar with queue := [(b.val, full || k)] })
     let parts := s.riskParts s.riskSample
     let score := min 1000 (parts.foldl (· + ·) 0)
     let kept := (s.riskSample :: s.cellar.risk).take 600
     asks (exec (.snapshotRequest b full) s) ∧
     (s.obj (snapObj b) (if full then 2 else 1) = 0 → exec (.snapshotInterval b full) s = .next s) ∧
     (s.obj (snapObj b) (if full then 2 else 1) ≠ 0 → asks (exec (.snapshotInterval b full) s)) ∧
     (∃ s', exec .riskEvaluate s = .next s' ∧ s'.obj 0x2880 1 = score ∧ s'.cellar.risk = kept ∧
       (∀ i, i < 4 → s'.obj 0x2880 (4 + i) = parts.getD i 0) ∧
       (score < s.obj 0x2880 2 → s'.cellar = { s.cellar with risk := kept, trigger := none } ∧ s'.irqQ = s.irqQ) ∧
       (s.obj 0x2880 2 ≤ score → s.cellar.trigger = none → s'.cellar.trigger = some s.srv.ms ∧
         s'.irqQ = s.irqQ ++ [⟨0x18E, score, 0, 0, 16, 2304, 0⟩] ∧
         ((∀ n, n < 16 → s.obj (0x2A10 + n) 3 = 3 → n = b.val) → s.obj (0x2A10 + b.val) 3 = 3 → s.recordsOf b = [] →
           s'.cellar.queue.head?.map (·.1) = some b.val ∧ b.val ∈ s'.cellar.risky)))) ∧
  (∀ (s : State) (b : BasinId) (n : Nat) (rest : List (Nat × Bool)) (j : SnapJob) (r : SnapRecord), Canonical s →
     let v := s.basin b
     let i := snapObj b
     let held := s.nextLockNum b = j.lock ∧ s.heldByRequest b = true ∧ s.heldFor b .remap = false ∧ v.stop = false ∧
       s.bargesDone b = true
     (s.cellar.job ≠ none ∨ s.cellar.queue = [] → exec .snapshotStart s = .next s) ∧
     (s.cellar.job = none → (∀ x ∈ s.cellar.restores, x.needImage = true) → s.cellar.queue = (b.val, true) :: rest →
       v.started = true → v.stop = false → snapPoint v.table (s.nextLockNum b + b2n v.waveBegun) 65536 = some n →
       ∃ s', exec .snapshotStart s = .next s' ∧ s'.cellar.job = some ⟨b.val, true, n, 2, none, s.cellar.risky.contains b.val⟩ ∧
         s'.cellar.queue = rest.filter (fun q => decide (q.1 ≠ b.val)) ∧ s'.obj i 0xC = 2 ∧
         s'.basin b = { v with holds := v.holds ++ [(HoldCause.snapshot, n)], held := v.held ++ [n] }) ∧
     (s.cellar.job = none → exec (.snapshotCopy b) s = .next s ∧ exec (.snapshotRelease b) s = .next s ∧
       exec (.snapshotSecured b) s = .next s) ∧
     (s.cellar.job = some j → j.basin = b.val →
       (j.phase ≠ 2 ∨ ¬held → exec (.snapshotCopy b) s = .next s) ∧
       (j.phase = 2 → held → j.full = true → (∀ e ∈ s.mem, kolvosDecode e.2 ≠ .uncorrectable) →
         (∀ t ∈ s.basinTiles b, ∀ k, k < 16 → (s.bank t k).gather = []) →
         ∃ s', exec (.snapshotCopy b) s = .next s' ∧ s'.obj i 0xC = 3 ∧
           s'.cellar.job.map (fun k => { k with rec_ := none }) = some { j with phase := 3, rec_ := none } ∧
           (s'.cellar.job.bind (·.rec_)).map (fun x => (x.basin, x.full, x.epoch, x.table, x.tiles.map (·.tile), x.whole)) =
             some (b.val, true, s.obj (0x2610 + b.val) 1, v.table, s.basinTiles b, [(0, 40960)])) ∧
       (j.phase ≠ 3 → exec (.snapshotRelease b) s = .next s) ∧
       (j.phase = 3 → ∃ s', exec (.snapshotRelease b) s = .next s' ∧ s'.cellar.job = some { j with phase := 4 } ∧
         (s'.basin b).holds = v.holds.erase (HoldCause.snapshot, j.lock) ∧ s'.obj i 0xC = 4 ∧
         ∀ t ∈ s.basinTiles b, ∀ k, k < 16 → (s'.bank t k).snapLate = []) ∧
       (j.phase ≠ 4 → exec (.snapshotSecured b) s = .next s) ∧
       (j.phase = 4 → j.rec_ = some r → ∃ s', exec (.snapshotSecured b) s = .next s' ∧ s'.cellar.job = none ∧
         { r with time := s.srv.ms } ∈ s'.cellar.records ∧ s'.obj i 4 = r.epoch % 2 ^ 64 ∧
         s'.obj i 5 = (if j.full = true then 1 else 2) ∧ s'.obj i 0x10 = min (s.obj i 0x10 + 1) 0xFFFFFFFF ∧
         s'.obj i 0x11 = (if j.risk = true then min (s.obj i 0x11 + 1) 0xFFFFFFFF else s.obj i 0x11) ∧
         (⟨0x120, b.val, 0, 0, 16, 2304, 0⟩ : AlarmMsg) ∈ s'.irqQ)))

/-- Restores (R427 to R429): a restore of a basin that runs is refused and logged; without records it fails with
status 2; one whose records fit begins to fill; a media failure with nothing to fall back to fails it with status 8;
and when its rows are written the basin is done. The model's own readings and choices in it: log entry 91. -/
def Obligations.Restores : Prop :=
  ∀ (s : State) (b : BasinId) (bad : List Nat) (r : SnapRecord) (rest : List SnapRecord) (j : RestoreJob), Canonical s →
    let i := snapObj b
    let st := s.obj (0x2A10 + b.val) 3
    let open_ := (st = 1 ∨ st = 2) ∧ s.obj i 0xE ≠ 2
    let refused (o : Host.Outcome State Fault Refusal) (v : Nat) : Prop := ∃ s', o = .next s' ∧ s'.cellar = s.cellar ∧
      s'.srv.clamps = Map.put s.srv.clamps none (s.obj 0x2F11 2) (some ⟨i, 0xD, s.srv.src, 0, 255, 255, v, s.obj i 0xD,
        s.obj (0x2610 + b.val) 1, b.val, false⟩)
    let ends (o : Host.Outcome State Fault Refusal) (state status : Nat) : Prop := ∃ s', o = .next s' ∧
      s'.obj i 0xE = state ∧ s'.obj i 0xF = status ∧ ∀ x ∈ s'.cellar.restores, x.basin ≠ b.val
    (¬open_ → refused (exec (.restoreLatest b bad) s) 1 ∧ refused (exec (.restoreOlderFull b bad) s) 2) ∧
    (open_ → s.recordsOf b = [] → ends (exec (.restoreLatest b bad) s) 4 2 ∧
      ends (exec (.restoreOlderFull b bad) s) 4 2) ∧
    (open_ → s.recordsOf b = r :: rest → r.full = true → (s.basin b).rect = some r.rect → r.rows = s.shapeRows →
      (oldChain (r :: rest) = [] → ends (exec (.restoreOlderFull b []) s) 4 2) ∧
      (r.grade ≠ s.obj 0x2E00 8 → ends (exec (.restoreLatest b []) s) 4 5) ∧
      (r.grade = s.obj 0x2E00 8 → s.levelOk b r.level = false → ends (exec (.restoreLatest b []) s) 4 6) ∧
      (r.grade = s.obj 0x2E00 8 → s.levelOk b r.level = true → ∃ s', exec (.restoreLatest b []) s = .next s' ∧
        s'.obj i 0xE = 2 ∧ s'.obj (0x2810 + b.val) 1 = 6 ∧ ⟨b.val, false, false, false, [r]⟩ ∈ s'.cellar.restores)) ∧
    (∀ x : SnapRecord, open_ → s.recordsOf b = [x, r] → x.full = true → r.full = true →
      (s.basin b).rect = some r.rect → r.rows = s.shapeRows → r.grade = s.obj 0x2E00 8 → s.levelOk b r.level = true →
      ∃ s', exec (.restoreOlderFull b []) s = .next s' ∧ s'.obj i 0xE = 2 ∧ s'.obj (0x2810 + b.val) 1 = 6 ∧
        ⟨b.val, true, false, false, [r]⟩ ∈ s'.cellar.restores) ∧
    ((∀ x ∈ s.cellar.restores, x.basin = b.val → x.needImage = true) →
      ∀ media : Bool, exec (.restoreDone b media) s = .next s) ∧
    (s.cellar.restores = [j] → j.basin = b.val → j.needImage = false → s.cellar.job = none →
      (j.fallback = true ∨ j.older = true ∨ oldChain (s.recordsOf b) = [] →
        ends (exec (.restoreDone b true) s) 4 8) ∧
      (j.chain = [r] → ends (exec (.restoreDone b false) s) 3 (b2n j.fallback)))

/-- Basins (R437, R438): a valid rectangle of an unused basin on a ready device defines it, with nothing of an earlier
job; removal frees it; and a basin in use, an overlap or a pound without power is refused with its reason. The model's
own readings and choices in it: log entry 92. -/
def Obligations.BasinDefinitions : Prop :=
  ∀ (s : State) (b : BasinId), Canonical s →
    let i := 0x2A10 + b.val
    let r := s.rectObj b
    let refused (o : Host.Outcome State Fault Refusal) (cmd code : Nat) : Prop := ∃ s', o = .next s' ∧ s'.basins = s.basins ∧
      s'.obj i 2 = cmd ∧ s'.obj i 9 = code ∧ s'.obj i 3 = s.obj i 3
    (1 < s.obj i 3 → refused (exec (.basinDefine b) s) 1 2 ∧ refused (exec (.basinRemove b) s) 2 2) ∧
    (s.obj 0x2000 7 ≠ 2 → refused (exec (.basinDefine b) s) 1 2) ∧
    (s.obj i 3 ≤ 1 → s.obj 0x2000 7 = 2 →
      (∀ c : BasinId, c ≠ b → (s.basin c).rect.any (rectsMeet r) = true → refused (exec (.basinDefine b) s) 1 1) ∧
      ((∀ c : BasinId, c ≠ b → (s.basin c).rect.any (rectsMeet r) = false) →
        (s.shapeRows / 4 ≤ r.2.2.2 ∨ (∃ t ∈ rectTiles r, s.poundState (s.poundOf t) ≠ 3) → refused (exec (.basinDefine b) s) 1 3) ∧
        (r.2.2.2 < s.shapeRows / 4 → (∀ t ∈ rectTiles r, s.poundState (s.poundOf t) = 3) →
          ∃ s', exec (.basinDefine b) s = .next s' ∧ s'.basin b = { Basin.init with rect := some r } ∧
            (∀ c : BasinId, c ≠ b → s'.basin c = s.basin c) ∧ s'.obj i 3 = 1 ∧ s'.obj i 9 = 0 ∧
            s'.obj i 8 = (rectTiles r).length ∧ ∀ x ∈ s'.cellar.records, x.basin ≠ b.val))) ∧
    (s.obj i 3 ≤ 1 → ∃ s', exec (.basinRemove b) s = .next s' ∧ s'.basin b = Basin.init ∧
      (∀ c : BasinId, c ≠ b → s'.basin c = s.basin c) ∧ s'.obj i 3 = 0 ∧ s'.obj i 9 = 0 ∧
      (∀ x ∈ s'.cellar.records, x.basin ≠ b.val) ∧
      ∀ k ∈ s'.srv.batches, k.basin = b.val → k.open_ = false)

/-- LOAD_IMAGE (R268, R269): an entry that is malformed or empty, whose image cannot be read, is unsound or fails a
check completes with that status and loads nothing; else the basin is LOADED with the image's table, facts and rows.
The model's own readings and choices in it: log entries 43, 71, 72, 73, 74. -/
def Obligations.ImageLoading : Prop :=
  ∀ (s : State) (e : BitVec 512) (image : Option Image) (i : Image) (b : Nat), Canonical s →
    b = subF e 131 128 → s.canFetch 128 = true → (s.queue 128).entries = [] →
    let well := subF e 7 0 = 0x10 ∧ subF e 75 64 = 0 ∧ entryReserved e 132 = false
    let answers (img : Option Image) (st : Nat) : Prop := ∃ s', exec (.loadImage e img) s = .next s' ∧
      s'.basins = s.basins ∧ s'.mem = s.mem ∧ s'.tregs = s.tregs ∧
      ∃ c, s'.host.cpls = s.host.cpls ++ [c] ∧ c.queue = 128 ∧ c.tag = subF e 31 16 ∧ c.status = st
    (¬well → answers image 0x12) ∧
    (well → subF e 63 32 = 0 → answers image 1) ∧
    (well → subF e 63 32 ≠ 0 →
      answers none 0x13 ∧
      (i.sound = false ∨ i.len ≠ subF e 63 32 → answers (some i) 0x20) ∧
      (i.sound = true → i.len = subF e 63 32 → i.config = [] →
        (s.imageStatus b i ≠ 0 → answers (some i) (s.imageStatus b i)) ∧
        (s.imageStatus b i = 0 → (∀ x ∈ s.cellar.restores, x.needImage = false) →
          ∃ s', exec (.loadImage e (some i)) s = .next s' ∧
            (∃ c, s'.host.cpls = s.host.cpls ++ [c] ∧ c.queue = 128 ∧ c.tag = subF e 31 16 ∧ c.status = 0) ∧
            s'.obj (0x2A10 + b) 3 = 2 ∧ s'.obj (0x2610 + b) 1 = 0 ∧ (s'.basin b).table = tableOf (i.epochs.take 256) ∧
            (s'.basin b).image = imageFacts i ∧ (s'.basin b).started = false ∧
            ∀ (t f : Nat) (d : Row), i.cells = [(t, f, d)] → t ∈ s.basinTiles b → t < 2304 → f < 40960 →
              (s.bank t (bankOf f)).sleep = 0 → s'.rowWord t f = kolvosEncode d)))

/-! ### Debug (R459 to R474) -/

/-- Digests and captures (R461, R462, R468, R473): a drain frees the tile rings and appends the records of points that
every tile has reported; an acknowledgement frees ring records; a capture is armed, or missed where its epoch has
passed. Trace, probes and the test access port (R464, R468 to R471, R474): an enabled mark is traced and the oldest
record of a tile reaches the store; selections come into force together; a lane's selection clears its counters; and a
TAP instruction loads only with SCAN_EN high. The model's own readings and choices in it: log entries 65, 105, 106,
107, 121. -/
def Obligations.DebugCommands : Prop :=
  (∀ (s : State) (b : BasinId) (t : TileId) (e : Word64) (xy : BitVec 16) (n low : Nat) (d : DigestRec), Canonical s →
     let v := s.basin b
     let i := 0x2C10 + b.val
     (v.started = false ∨ s.activeLk = none → exec (.digestDrain b) s = .next s) ∧
     (v.started = true → s.activeLk ≠ none → (∀ u ∈ s.basinTiles b, (s.tile u).dig.held ≤ 8) →
       ∃ s', exec (.digestDrain b) s = .next s' ∧ (∀ u ∈ s.basinTiles b, (s'.tile u).dig.held = 0) ∧
         ((∀ u ∈ s.basinTiles b, (s.tile u).dig.held = 1 ∧ (s.tile u).dig.lost = 0 ∧
             s.regN u (0x880 + 16 * ((s.tile u).dig.oldest % 8)) = low) → s.basinTiles b ≠ [] →
           v.digests.lostSeen = 0 → v.digests.pend = [] → v.digests.recs = [d] → v.digests.spans = [] →
           s'.obj i 4 = 2 ∧ (s'.basin b).digests.recs = [d, ⟨s.wholeEpoch b low,
             recTag (epochRec v.table (s.wholeEpoch b low)), 8 * b2n v.digests.restored, (s.basinTiles b).length,
             (s.basinTiles b).foldl (fun (a u : Nat) => (a +
               crc64 ([tx u, ty u] ++ bytesOf (s.regN u (0x888 + 16 * ((s.tile u).dig.oldest % 8))) 8)) % 2 ^ 64) 0⟩])) ∧
     ((s.tile t).dark = false → s.absorbing t = false → ∃ s', exec (.digestAck t n) s = .next s' ∧
       (s'.tile t).dig.held = (s.tile t).dig.held - min (min (n % 2 ^ 32) 8) (s.tile t).dig.held ∧
       (s'.tile t).tp.responses = (s.tile t).tp.responses ++ [⟨t.val, if n % 2 ^ 32 ≤ 8 then 0 else 2, []⟩]) ∧
     (∃ s', exec (.digestCaptureArm b e) s = .next s' ∧ s'.obj i 8 = e.toNat ∧
       s'.obj i 9 = (if e.toNat < s.obj (0x2610 + b.val) 1 then 3 else 1) ∧
       (s.obj i 0xA = tx t + 256 * ty t → t.val ∈ s.basinTiles b → s.obj (0x2610 + b.val) 1 ≤ e.toNat →
         s'.regN t 0x810 = e.toNat % 2 ^ 32 ∧ s'.regN t 0x814 = 1)) ∧
     (∃ s', exec (.bankCaptureArm b xy) s = .next s' ∧
       s'.obj i 0xA = (if xy.toNat = 0xFFFF then 0xFFFF else min (xy.toNat % 256) 47 + 256 * min (xy.toNat / 256) 47) ∧
       (xy.toNat = tx t + 256 * ty t → t.val ∈ s.basinTiles b → s.obj i 9 = 1 →
         s'.regN t 0x810 = s.obj i 8 % 2 ^ 32 ∧ s'.regN t 0x814 = 1))) ∧
  (∀ (s : State) (t : TileId) (val : Word32) (ws : List Nat) (w : Nat) (more : List (List Nat)), Canonical s →
     let d := (s.tile t).dig
     let record := (s.tile t).tp.responses ++ [⟨t.val, 0, []⟩]
     let loads (o : Host.Outcome State Fault Refusal) (k : Nat) : Prop := ∃ s', o = .next s' ∧
       s'.dbg = { s.dbg with tap := some k } ∧ { s' with dbg := s.dbg } = s
     (d.trace = [] ∨ s.activeLk = none → exec (.trace t TpHop.clean) s = .next s) ∧
     (d.trace = (w :: ws) :: more → s.activeLk ≠ none →
       let l := s.dbg.trace ++ [((Config.freeValue s.free).toNat, (w + 16 * min d.traceLost 255) :: ws)]
       ∃ s', exec (.trace t TpHop.clean) s = .next s' ∧ (s'.tile t).dig = { d with trace := more, traceLost := 0 } ∧
         s'.dbg.trace = traceFit l (l.foldl (fun (a : Nat) r => a + traceBytes r) 0) ∧
         s'.obj 0x2D30 1 = s'.dbg.trace.length % 2 ^ 64 ∧ s'.free = s.free + 1) ∧
     ((s.tile t).dark = false → s.absorbing t = false → ∃ s', exec (.traceMark t val) s = .next s' ∧
       s'.regN t 0x2f00 = val.toNat ∧ (s'.tile t).tp.responses = record ∧
       (bitOf (s.regN t 0x9a0) 5 = true → d.trace.length < 16 →
         (s'.tile t).dig.trace = d.trace ++ [[6, s.regN t 0xf08, s.regN t 0xf00 % 2 ^ 32, val.toNat]]) ∧
       (bitOf (s.regN t 0x9a0) 5 = false → (s'.tile t).dig = d)) ∧
     ((s.tile t).dark = false → s.absorbing t = false → ∃ s', exec (.hsSelWrite t val) s = .next s' ∧
       s'.regN t 0x990 = val.toNat % 16 ∧ s'.regN t 0x994 = 0 ∧
       s'.regN t 0x998 = 0 ∧ (s'.tile t).tp.responses = record) ∧
     (∃ s', exec .probeSelect s = .next s' ∧ s'.regN s.probeTile 0x980 = s.obj 0x2D20 2 ∧
       (Map.wf s.dbg.mux (fun _ => 0) = true → ∀ n, n < 16 → Map.get s'.dbg.mux 0 n = s.obj 0x2D01 (n + 1) ∧
         ∀ f, f < 8 → Map.get s'.dbg.mux 0 (16 + 16 * f + n) = s.obj (0x2D10 + f) (n + 1))) ∧
     (∃ s', exec .traceStoreClear s = .next s' ∧ s'.dbg = { s.dbg with trace := [] } ∧ s'.obj 0x2D30 1 = 0) ∧
     (s.obj 0x2D00 1 ≠ 1 → exec .bypass s = .next s ∧ exec .extest s = .next s ∧ exec .clamp s = .next s ∧
       exec .highz s = .next s) ∧
     (s.obj 0x2D00 1 ≠ 1 → s.dbg.tap = none → exec .idcode s = .next s ∧ exec .samplePreload s = .next s) ∧
     (s.obj 0x2D00 1 = 1 →
       loads (exec .bypass s) 0 ∧ loads (exec .extest s) 3 ∧ loads (exec .clamp s) 4 ∧ loads (exec .highz s) 5 ∧
       (∃ s', exec .idcode s = .next s' ∧ s'.dbg.tap = some 1 ∧ s'.dbg.dr.toNat % 2 = 1 ∧
         bitsOf s'.dbg.dr.toNat 27 12 = 0x5C08 ∧ bitsOf s'.dbg.dr.toNat 31 28 = s.obj 0x2000 4 % 16) ∧
       (∃ s', exec .samplePreload s = .next s' ∧ s'.dbg.tap = some 2 ∧ s'.free = s.free + 1)))

/-! ### The Kolvos code (R145 to R147) -/

/-- One error (R145 to R147): every row decodes from its codeword as good, and from its codeword with any one bit of
the 276 flipped as corrected to the same row. The poison word (R146): its data are zero and its check bits P, of even
weight, are the syndrome of no error of one or two bits; no error of one, two or three bits turns a good word into it;
it decodes as poison, with any one bit in error as uncorrectable, and with more never as good unless the syndrome is
zero. -/
def Obligations.KolvosOneError : Prop :=
  (∀ d : Row, kolvosDecode (kolvosEncode d) = .good d) ∧
  (∀ (d : Row) (i : Nat), i < 276 → kolvosDecode (flipAt (kolvosEncode d) i) = .corrected d 1) ∧
  cwData poisonWord = 0 ∧ cwCheck poisonWord = 0x5A6C3#20 ∧
  ((List.range 20).filter (fun j => (cwCheck poisonWord).getLsbD j)).length % 2 = 0 ∧
  (∀ (d : Row) (i j : Nat), i < 276 → j < 276 → kolvosSyndrome (flipAt (kolvosEncode d) i) ≠ 0x5A6C3 ∧
    kolvosSyndrome (flipAt (flipAt (kolvosEncode d) i) j) ≠ 0x5A6C3) ∧
  (∀ (d : Row) (i j k : Nat), i < 276 → j < 276 → k < 276 → flipAt (kolvosEncode d) i ≠ poisonWord ∧
    flipAt (flipAt (kolvosEncode d) i) j ≠ poisonWord ∧ flipAt (flipAt (flipAt (kolvosEncode d) i) j) k ≠ poisonWord) ∧
  kolvosDecode poisonWord = .poison ∧ (∀ i, i < 276 → kolvosDecode (flipAt poisonWord i) = .uncorrectable) ∧
  (∀ (w : CodeWord) (d : Row), kolvosDecode w = .good d → kolvosSyndrome w = 0)

/-- Two and three errors (R145, R146): every error of two bits in a codeword is corrected to the same row, and every
error of three bits is detected and reads neither as good nor as poison. -/
def Obligations.KolvosTwoAndThreeErrors : Prop :=
  (∀ (d : Row) (i j : Nat), i < j → j < 276 → kolvosDecode (flipAt (flipAt (kolvosEncode d) i) j) = .corrected d 2) ∧
  (∀ (d : Row) (i j k : Nat), i < j → j < k → k < 276 →
    kolvosDecode (flipAt (flipAt (flipAt (kolvosEncode d) i) j) k) = .uncorrectable)
end

