-- ==== Sys2Proof/Laws/Map.lean ====
section
/-! SUPPORT. What the operations of a sparse map do: reads after writes, and the canonical form they keep. -/

namespace Sys2Proof.Map

variable {α : Type}

theorem get_ins_same (m : Map α) (d : α) (k : Nat) (v : α) : get (ins m k v) d k = v := by
  induction m with
  | nil => simp [ins, get]
  | cons e rest ih =>
    obtain ⟨j, w⟩ := e
    unfold ins
    by_cases h1 : k < j
    · simp [h1, get]
    · by_cases h2 : k = j
      · simp [h2, get]
      · have : j ≠ k := fun e => h2 e.symm
        simp [h1, h2, get, this, ih]

theorem get_ins_other (m : Map α) (d : α) (k k' : Nat) (v : α) (h : k' ≠ k) :
    get (ins m k v) d k' = get m d k' := by
  induction m with
  | nil => simp [ins, get, h.symm]
  | cons e rest ih =>
    obtain ⟨j, w⟩ := e
    unfold ins
    by_cases h1 : k < j
    · simp [h1, get, h.symm]
    · by_cases h2 : k = j
      · subst h2; simp [get, h.symm]
      · rw [if_neg h1, if_neg h2]
        simp [get, ih]

theorem get_del_other (m : Map α) (d : α) (k k' : Nat) (h : k' ≠ k) : get (del m k) d k' = get m d k' := by
  induction m with
  | nil => rfl
  | cons e rest ih =>
    obtain ⟨j, w⟩ := e
    unfold del
    by_cases h2 : j = k
    · subst h2; simp [get, h.symm]
    · rw [if_neg h2]
      simp [get, ih]

variable [DecidableEq α]

/-- Every key of a canonical map lies above its bound, so a key at or below the bound is unlisted. -/
theorem get_le_bound (d : Nat → α) (x : α) : ∀ (m : Map α) (l k : Nat), wfFrom d (some l) m = true → k ≤ l → get m x k = x
  | [], _, _, _, _ => rfl
  | (j, w) :: rest, l, k, h, hk => by
    simp only [wfFrom, Bool.and_eq_true, decide_eq_true_eq] at h
    obtain ⟨⟨h1, _⟩, h3⟩ := h
    have hj : j ≠ k := by omega
    simp only [get, hj, if_false]
    exact get_le_bound d x rest j k h3 (by omega)

theorem wfFrom_weaken (d : Nat → α) (m : Map α) (l l' : Nat) (h : wfFrom d (some l) m = true) (hl : l' ≤ l) :
    wfFrom d (some l') m = true := by
  cases m with
  | nil => rfl
  | cons e rest =>
    obtain ⟨j, w⟩ := e
    simp only [wfFrom, Bool.and_eq_true, decide_eq_true_eq] at h ⊢
    exact ⟨⟨by omega, h.1.2⟩, h.2⟩

theorem wfFrom_none (d : Nat → α) (m : Map α) (l : Nat) (h : wfFrom d (some l) m = true) : wfFrom d none m = true := by
  cases m with
  | nil => rfl
  | cons e rest =>
    obtain ⟨j, w⟩ := e
    simp only [wfFrom, Bool.and_eq_true, decide_eq_true_eq] at h ⊢
    exact ⟨⟨trivial, h.1.2⟩, h.2⟩

/-- Whether every key is above the bound, if there is one. -/
def above (lo : Option Nat) (k : Nat) : Prop := ∀ l, lo = some l → l < k

theorem wfFrom_cons (d : Nat → α) (lo : Option Nat) (j : Nat) (w : α) (rest : Map α) :
    wfFrom d lo ((j, w) :: rest) = true ↔ above lo j ∧ w ≠ d j ∧ wfFrom d (some j) rest = true := by
  cases lo <;> simp [wfFrom, above, and_assoc]

theorem wfFrom_ins (d : Nat → α) (k : Nat) (v : α) (hv : v ≠ d k) : ∀ (m : Map α) (lo : Option Nat),
    wfFrom d lo m = true → above lo k → wfFrom d lo (ins m k v) = true
  | [], lo, _, hk => by rw [ins, wfFrom_cons]; exact ⟨hk, hv, rfl⟩
  | (j, w) :: rest, lo, h, hk => by
    rw [wfFrom_cons] at h
    unfold ins
    by_cases h1 : k < j
    · rw [if_pos h1, wfFrom_cons, wfFrom_cons]
      exact ⟨hk, hv, by intro l hl; cases hl; exact h1, h.2⟩
    · rw [if_neg h1]
      by_cases h2 : k = j
      · subst h2; rw [if_pos rfl, wfFrom_cons]; exact ⟨hk, hv, h.2.2⟩
      · rw [if_neg h2, wfFrom_cons]
        exact ⟨h.1, h.2.1, wfFrom_ins d k v hv rest (some j) h.2.2 (by intro l hl; cases hl; omega)⟩

theorem wfFrom_del (d : Nat → α) (k : Nat) : ∀ (m : Map α) (lo : Option Nat),
    wfFrom d lo m = true → wfFrom d lo (del m k) = true
  | [], _, _ => rfl
  | (j, w) :: rest, lo, h => by
    rw [wfFrom_cons] at h
    unfold del
    by_cases h2 : j = k
    · rw [if_pos h2]
      cases lo with
      | none => exact wfFrom_none d rest j h.2.2
      | some l => exact wfFrom_weaken d rest j l h.2.2 (by have := h.1 l rfl; omega)
    · rw [if_neg h2, wfFrom_cons]
      exact ⟨h.1, h.2.1, wfFrom_del d k rest (some j) h.2.2⟩

theorem wfFrom_filter (d : Nat → α) (p : Nat × α → Bool) : ∀ (m : Map α) (lo : Option Nat),
    wfFrom d lo m = true → wfFrom d lo (m.filter p) = true
  | [], _, _ => rfl
  | (j, w) :: rest, lo, h => by
    rw [wfFrom_cons] at h
    have ih := wfFrom_filter d p rest (some j) h.2.2
    rw [List.filter_cons]
    split
    · rw [wfFrom_cons]; exact ⟨h.1, h.2.1, ih⟩
    · cases lo with
      | none => exact wfFrom_none d _ j ih
      | some l => exact wfFrom_weaken d _ j l ih (by have := h.1 l rfl; omega)

theorem get_del_same (d : Nat → α) (x : α) (k : Nat) : ∀ (m : Map α) (lo : Option Nat),
    wfFrom d lo m = true → get (del m k) x k = x
  | [], _, _ => rfl
  | (j, w) :: rest, lo, h => by
    rw [wfFrom_cons] at h
    unfold del
    by_cases h2 : j = k
    · rw [if_pos h2]; exact get_le_bound d x rest j k h.2.2 (by omega)
    · rw [if_neg h2, get, if_neg h2]; exact get_del_same d x k rest (some j) h.2.2

/-- A write keeps the canonical form. -/
theorem wf_put (m : Map α) (d : Nat → α) (x : α) (k : Nat) (v : α) (hx : x = d k) (h : wf m d = true) :
    wf (put m x k v) d = true := by
  unfold put
  split
  · exact wfFrom_del d k m none h
  · rename_i hv
    exact wfFrom_ins d k v (by rw [← hx]; exact hv) m none h (by intro l hl; cases hl)

/-- Dropping entries keeps the canonical form. -/
theorem wf_filter (m : Map α) (d : Nat → α) (p : Nat × α → Bool) (h : wf m d = true) : wf (m.filter p) d = true :=
  wfFrom_filter d p m none h

theorem wf_nil (d : Nat → α) : wf ([] : Map α) d = true := rfl

/-- A read after a write to the same key gives the value written. -/
theorem get_put_same (m : Map α) (d : Nat → α) (x : α) (k : Nat) (v : α) (h : wf m d = true) :
    get (put m x k v) x k = v := by
  unfold put
  split
  · rename_i hv; rw [get_del_same d x k m none h, hv]
  · exact get_ins_same m x k v

/-- A write leaves every other key alone. -/
theorem get_put_other (m : Map α) (d x : α) (k k' : Nat) (v : α) (h : k' ≠ k) :
    get (put m x k v) d k' = get m d k' := by
  unfold put
  split
  · exact get_del_other m d k k' h
  · exact get_ins_other m d k k' v h

end Sys2Proof.Map
end

