-- ==== Sys2Proof/Laws/Good.lean ====
section
/-! SUPPORT. The state of a run between two commands: a given queue, the canonical form, and parts of the device that
must not change.  Every operation over the state keeps the first two and every part that it does not name among its
premises; this file has the rules that the operations of each file are shown by. -/

namespace Sys2Proof.Machine

open Sys2Proof

/-- What a run between two commands is held to: its queue, the state it is compared with, and which parts of the device
must still be what they are in that state. -/
structure Watch where
  queue : List Instr
  base : State
  parts : Parts

/-- The queue is `z`'s, the sparse parts stand in canonical form, and every watched part is the base state's. -/
structure Good (z : Watch) (s : State) : Prop where
  queue : s.pending = z.queue
  canon : Canonical s
  same : Same z.parts z.base s

variable {z : Watch} {s : State}

/-- The part is not watched. -/
class Unwatched (b : Bool) : Prop where
  eq : b = false

theorem unwatched {b : Bool} {P : Prop} (k : Unwatched b) (e : b = true) : P := by rw [k.eq] at e; cases e

theorem good_free (h : Good z s) (x) [k : Unwatched z.parts.free] : Good z { s with free := x } :=
  ⟨h.1, { h.2 with mem := h.2.mem }, { h.3 with free := unwatched k }⟩
theorem good_mem (h : Good z s) (x) (hx : Map.wf x (fun _ => 0) = true) [k : Unwatched z.parts.mem] :
    Good z { s with mem := x } :=
  ⟨h.1, { h.2 with mem := hx }, { h.3 with mem := unwatched k }⟩
theorem good_tregs (h : Good z s) (x) (hx : Map.wf x (fun k => regDefault (k % 65536)) = true) [k : Unwatched z.parts.tregs] :
    Good z { s with tregs := x } :=
  ⟨h.1, { h.2 with tregs := hx }, { h.3 with tregs := unwatched k }⟩
theorem good_objs (h : Good z s) (x) (hx : Map.wf x objDefault = true) [k : Unwatched z.parts.objs] :
    Good z { s with objs := x } :=
  ⟨h.1, { h.2 with objs := hx }, { h.3 with objs := unwatched k }⟩
theorem good_bar0 (h : Good z s) (x) (hx : Map.wf x barDefault = true) [k : Unwatched z.parts.bar0] :
    Good z { s with bar0 := x } :=
  ⟨h.1, { h.2 with bar0 := hx }, { h.3 with bar0 := unwatched k }⟩
theorem good_win (h : Good z s) (x) (hx : Map.wf x (fun _ => 0) = true) [k : Unwatched z.parts.win] :
    Good z { s with win := x } :=
  ⟨h.1, { h.2 with win := hx }, { h.3 with win := unwatched k }⟩
theorem good_tiles (h : Good z s) (x) (hx : Map.wf x (fun _ => Tile.init) = true) [k : Unwatched z.parts.tiles] :
    Good z { s with tiles := x } :=
  ⟨h.1, { h.2 with tiles := hx }, { h.3 with tiles := unwatched k }⟩
theorem good_basins (h : Good z s) (x) (hx : Map.wf x (fun _ => Basin.init) = true) [k : Unwatched z.parts.basins] :
    Good z { s with basins := x } :=
  ⟨h.1, { h.2 with basins := hx }, { h.3 with basins := unwatched k }⟩
theorem good_hubs (h : Good z s) (x) (hx : Map.wf x (fun _ => Hub.init) = true) [k : Unwatched z.parts.hubs] :
    Good z { s with hubs := x } :=
  ⟨h.1, { h.2 with hubs := hx }, { h.3 with hubs := unwatched k }⟩
theorem good_seams (h : Good z s) (x) (hx : Map.wf x (fun _ => Seam.init) = true) [k : Unwatched z.parts.seams] :
    Good z { s with seams := x } :=
  ⟨h.1, { h.2 with seams := hx }, { h.3 with seams := unwatched k }⟩
theorem good_alarmQ (h : Good z s) (x) [k : Unwatched z.parts.alarmQ] : Good z { s with alarmQ := x } :=
  ⟨h.1, { h.2 with mem := h.2.mem }, { h.3 with alarmQ := unwatched k }⟩
theorem good_irqQ (h : Good z s) (x) [k : Unwatched z.parts.irqQ] : Good z { s with irqQ := x } :=
  ⟨h.1, { h.2 with mem := h.2.mem }, { h.3 with irqQ := unwatched k }⟩
theorem good_agentRsp (h : Good z s) (x) [k : Unwatched z.parts.agentRsp] : Good z { s with agentRsp := x } :=
  ⟨h.1, { h.2 with mem := h.2.mem }, { h.3 with agentRsp := unwatched k }⟩
theorem good_link (h : Good z s) (x) [k : Unwatched z.parts.link] : Good z { s with link := x } :=
  ⟨h.1, { h.2 with mem := h.2.mem }, { h.3 with link := unwatched k }⟩
theorem good_host (h : Good z s) (x) [k : Unwatched z.parts.host] : Good z { s with host := x } :=
  ⟨h.1, { h.2 with mem := h.2.mem }, { h.3 with host := unwatched k }⟩
theorem good_srv (h : Good z s) (x) [k : Unwatched z.parts.srv] : Good z { s with srv := x } :=
  ⟨h.1, { h.2 with mem := h.2.mem }, { h.3 with srv := unwatched k }⟩
theorem good_keepers (h : Good z s) (x) [k : Unwatched z.parts.keepers] : Good z { s with keepers := x } :=
  ⟨h.1, { h.2 with mem := h.2.mem }, { h.3 with keepers := unwatched k }⟩
theorem good_boot (h : Good z s) (x) [k : Unwatched z.parts.boot] : Good z { s with boot := x } :=
  ⟨h.1, { h.2 with mem := h.2.mem }, { h.3 with boot := unwatched k }⟩
theorem good_power (h : Good z s) (x) [k : Unwatched z.parts.power] : Good z { s with power := x } :=
  ⟨h.1, { h.2 with mem := h.2.mem }, { h.3 with power := unwatched k }⟩
theorem good_cellar (h : Good z s) (x) [k : Unwatched z.parts.cellar] : Good z { s with cellar := x } :=
  ⟨h.1, { h.2 with mem := h.2.mem }, { h.3 with cellar := unwatched k }⟩
theorem good_upd (h : Good z s) (x) [k : Unwatched z.parts.upd] : Good z { s with upd := x } :=
  ⟨h.1, { h.2 with mem := h.2.mem }, { h.3 with upd := unwatched k }⟩
theorem good_dbg (h : Good z s) (x) [k : Unwatched z.parts.dbg] : Good z { s with dbg := x } :=
  ⟨h.1, { h.2 with mem := h.2.mem }, { h.3 with dbg := unwatched k }⟩
theorem good_boot_power (h : Good z s) (x y) [k1 : Unwatched z.parts.boot]
    [k2 : Unwatched z.parts.power] : Good z { s with boot := x, power := y } :=
  ⟨h.1, { h.2 with mem := h.2.mem }, { h.3 with boot := unwatched k1, power := unwatched k2 }⟩
theorem good_srv_boot (h : Good z s) (x y) [k1 : Unwatched z.parts.srv]
    [k2 : Unwatched z.parts.boot] : Good z { s with srv := x, boot := y } :=
  ⟨h.1, { h.2 with mem := h.2.mem }, { h.3 with srv := unwatched k1, boot := unwatched k2 }⟩
theorem good_power_cellar (h : Good z s) (x y) [k1 : Unwatched z.parts.power]
    [k2 : Unwatched z.parts.cellar] : Good z { s with power := x, cellar := y } :=
  ⟨h.1, { h.2 with mem := h.2.mem }, { h.3 with power := unwatched k1, cellar := unwatched k2 }⟩
theorem good_host_cellar (h : Good z s) (x y) [k1 : Unwatched z.parts.host]
    [k2 : Unwatched z.parts.cellar] : Good z { s with host := x, cellar := y } :=
  ⟨h.1, { h.2 with mem := h.2.mem }, { h.3 with host := unwatched k1, cellar := unwatched k2 }⟩

/-- A result whose state is the second of a pair, the first of one, the third or the fourth of a tuple is good. -/
def GoodSnd {α : Type} (z : Watch) (x : α × State) : Prop := Good z x.2
def GoodFst {α : Type} (z : Watch) (x : State × α) : Prop := Good z x.1
def GoodThd {α β : Type} (z : Watch) (x : α × β × State) : Prop := Good z x.2.2
def GoodFth {α β γ : Type} (z : Watch) (x : α × β × γ × State) : Prop := Good z x.2.2.2
/-- The state that an optional result holds is good. -/
def GoodOpt (z : Watch) (o : Option State) : Prop := ∀ x, o = some x → Good z x
def GoodOptSnd {α : Type} (z : Watch) (o : Option (α × State)) : Prop := ∀ x, o = some x → Good z x.2
/-- The next state of an outcome is good. -/
def GoodOut (z : Watch) (o : Host.Outcome State Fault Refusal) : Prop := ∀ x, o = .next x → Good z x

theorem good_ite {c : Prop} [Decidable c] {a b : State} (ha : Good z a) (hb : Good z b) : Good z (if c then a else b) := by
  split <;> assumption
theorem goodSnd_ite {α : Type} {c : Prop} [Decidable c] {a b : α × State} (ha : GoodSnd z a) (hb : GoodSnd z b) :
    GoodSnd z (if c then a else b) := by
  split <;> assumption
theorem goodFst_ite {α : Type} {c : Prop} [Decidable c] {a b : State × α} (ha : GoodFst z a) (hb : GoodFst z b) :
    GoodFst z (if c then a else b) := by
  split <;> assumption
theorem goodThd_ite {α β : Type} {c : Prop} [Decidable c] {a b : α × β × State} (ha : GoodThd z a) (hb : GoodThd z b) :
    GoodThd z (if c then a else b) := by
  split <;> assumption
theorem goodFth_ite {α β γ : Type} {c : Prop} [Decidable c] {a b : α × β × γ × State} (ha : GoodFth z a)
    (hb : GoodFth z b) : GoodFth z (if c then a else b) := by
  split <;> assumption
theorem goodOpt_ite {c : Prop} [Decidable c] {a b : Option State} (ha : GoodOpt z a) (hb : GoodOpt z b) :
    GoodOpt z (if c then a else b) := by
  split <;> assumption
theorem goodOptSnd_ite {α : Type} {c : Prop} [Decidable c] {a b : Option (α × State)} (ha : GoodOptSnd z a)
    (hb : GoodOptSnd z b) : GoodOptSnd z (if c then a else b) := by
  split <;> assumption
theorem goodOut_ite {c : Prop} [Decidable c] {a b : Host.Outcome State Fault Refusal} (ha : GoodOut z a) (hb : GoodOut z b) :
    GoodOut z (if c then a else b) := by
  split <;> assumption

theorem goodSnd_mk {α : Type} {a : α} {b : State} (h : Good z b) : GoodSnd z (a, b) := h
theorem goodFst_mk {α : Type} {a : State} {b : α} (h : Good z a) : GoodFst z (a, b) := h
theorem goodThd_mk {α β : Type} {a : α} {x : β × State} (h : GoodSnd z x) : GoodThd z (a, x) := h
theorem goodFth_mk {α β γ : Type} {a : α} {x : β × γ × State} (h : GoodThd z x) : GoodFth z (a, x) := h
theorem goodSnd_get {α : Type} {x : α × State} (h : GoodSnd z x) : Good z x.2 := h
theorem goodFst_get {α : Type} {x : State × α} (h : GoodFst z x) : Good z x.1 := h
theorem goodThd_get {α β : Type} {x : α × β × State} (h : GoodThd z x) : GoodSnd z x.2 := h
theorem goodFth_get {α β γ : Type} {x : α × β × γ × State} (h : GoodFth z x) : GoodThd z x.2 := h

theorem goodOut_next {a : State} (h : Good z a) : GoodOut z (.next a) := fun _ e => by cases e; exact h
theorem goodOpt_some {a : State} (h : Good z a) : GoodOpt z (some a) := fun _ e => by cases e; exact h
theorem goodOpt_none : GoodOpt z none := fun _ e => by cases e
theorem goodOptSnd_some {α : Type} {x : α} {a : State} (h : Good z a) : GoodOptSnd z (some (x, a)) :=
  fun _ e => by cases e; exact h
theorem goodOptSnd_none {α : Type} : GoodOptSnd z (none : Option (α × State)) := fun _ e => by cases e

theorem good_foldl {β : Type} {f : State → β → State} (hf : ∀ a x, Good z a → Good z (f a x)) (l : List β) :
    ∀ {a : State}, Good z a → Good z (l.foldl f a) := by
  induction l with
  | nil => exact fun h => h
  | cons x rest ih => exact fun h => ih (hf _ x h)

theorem goodFst_foldl {β γ : Type} {f : State × γ → β → State × γ} (hf : ∀ a x, GoodFst z a → GoodFst z (f a x)) (l : List β) :
    ∀ {a : State × γ}, GoodFst z a → GoodFst z (l.foldl f a) := by
  induction l with
  | nil => exact fun h => h
  | cons x rest ih => exact fun h => ih (hf _ x h)

theorem goodSnd_foldl {β γ : Type} {f : γ × State → β → γ × State} (hf : ∀ a x, GoodSnd z a → GoodSnd z (f a x)) (l : List β) :
    ∀ {a : γ × State}, GoodSnd z a → GoodSnd z (l.foldl f a) := by
  induction l with
  | nil => exact fun h => h
  | cons x rest ih => exact fun h => ih (hf _ x h)

theorem good_fst {α : Type} {x : State × α} {a : State} {b : α} (e : x = (a, b)) (h : GoodFst z x) : Good z a := by
  subst e; exact h

theorem good_snd {α : Type} {x : α × State} {a : α} {b : State} (e : x = (a, b)) (h : GoodSnd z x) : Good z b := by
  subst e; exact h

theorem good_thd {α β : Type} {x : α × β × State} {a : α} {b : β} {c : State} (e : x = (a, b, c)) (h : GoodThd z x) :
    Good z c := by
  subst e; exact h

theorem good_fth {α β γ : Type} {x : α × β × γ × State} {a : α} {b : β} {c : γ} {d : State} (e : x = (a, b, c, d))
    (h : GoodFth z x) : Good z d := by
  subst e; exact h

theorem good_opt {o : Option State} {a : State} (e : o = some a) (h : GoodOpt z o) : Good z a := h a e

theorem good_getD {o : Option State} {a : State} (h : GoodOpt z o) (ha : Good z a) : Good z (o.getD a) := by
  cases o with
  | none => exact ha
  | some x => exact h x rfl

theorem good_optSnd {α : Type} {o : Option (α × State)} {x : α} {a : State} (e : o = some (x, a)) (h : GoodOptSnd z o) :
    Good z a := h _ e

theorem reset_canonical : Canonical State.reset := by constructor <;> rfl

/-- A run that begins in a canonical state is held to that state, whatever parts are watched. -/
theorem good_start (h : Canonical s) (p : Parts) : Good ⟨s.pending, s, p⟩ s :=
  ⟨rfl, h, by constructor <;> intro _ <;> rfl⟩

/-- The canonical form after operations that every run keeps. -/
theorem canonical_of {s' : State} (hc : Canonical s) (h : ∀ z : Watch, Unwatched z.parts.free → Unwatched z.parts.mem → Unwatched z.parts.tregs → Unwatched z.parts.objs → Unwatched z.parts.bar0 → Unwatched z.parts.win → 
    Unwatched z.parts.tiles → Unwatched z.parts.basins → Unwatched z.parts.hubs → Unwatched z.parts.seams → Unwatched z.parts.alarmQ → 
    Unwatched z.parts.irqQ → Unwatched z.parts.agentRsp → Unwatched z.parts.link → Unwatched z.parts.host → Unwatched z.parts.srv → Unwatched z.parts.keepers → Unwatched z.parts.boot → 
    Unwatched z.parts.power → Unwatched z.parts.cellar → Unwatched z.parts.upd → Unwatched z.parts.dbg →
    Good z s → Good z s') : Canonical s' :=
  by
    let z : Watch := ⟨s.pending, s, {
      free := false, mem := false, tregs := false, objs := false, bar0 := false, win := false, tiles := false, basins := false, hubs := false, seams := false, alarmQ := false,
      irqQ := false, agentRsp := false, link := false, host := false, srv := false, keepers := false, boot := false, power := false, cellar := false, upd := false, dbg := false }⟩
    have g : Good z s' := by apply h z <;> first | exact good_start hc _ | constructor <;> rfl
    exact g.2

/-! ### The writes of Ops -/

theorem State.setTile_good (h : Good z s) {t v} [Unwatched z.parts.tiles] : Good z (s.setTile t v) := good_tiles h _ (Map.wf_put _ _ _ _ _ rfl h.2.tiles)
theorem State.setReg_good (h : Good z s) {t off v} [Unwatched z.parts.tregs] : Good z (s.setReg t off v) := good_tregs h _ (Map.wf_put _ _ _ _ _ rfl h.2.tregs)
theorem State.setBasin_good (h : Good z s) {b v} [Unwatched z.parts.basins] : Good z (s.setBasin b v) := good_basins h _ (Map.wf_put _ _ _ _ _ rfl h.2.basins)
theorem State.setWord_good (h : Good z s) {k w} [Unwatched z.parts.mem] : Good z (s.setWord k w) := good_mem h _ (Map.wf_put _ _ _ _ _ rfl h.2.mem)
theorem State.setObj_good (h : Good z s) {i j n} [Unwatched z.parts.objs] : Good z (s.setObj i j n) := good_objs h _ (Map.wf_put _ _ _ _ _ rfl h.2.objs)
theorem State.bumpWin_good (h : Good z s) {k n} [Unwatched z.parts.win] : Good z (s.bumpWin k n) := good_win h _ (Map.wf_put _ _ _ _ _ rfl h.2.win)
theorem State.maxWin_good (h : Good z s) {k n} [Unwatched z.parts.win] : Good z (s.maxWin k n) := good_win h _ (Map.wf_put _ _ _ _ _ rfl h.2.win)

end Sys2Proof.Machine
end

