-- ==== Sys2Proof/Laws/KeepTile.lean ====
section
/-! SUPPORT. The operations of TpNet, Ops, MapOps, BankOps, MeshOps, Banks, TileRegs, TillerOps, BankStreams keep the queue, the canonical form, and every
part of the device that their premises do not name. -/

namespace Sys2Proof.Machine

open Sys2Proof

variable {z : Watch}

theorem State.updTile_good {s : State} {t : Nat} {f : Tile → Tile} (h : Good z s) [Unwatched z.parts.tiles] : Good z (State.updTile s t f) := by
  unfold State.updTile; exact (State.setTile_good h)

theorem State.setRegN_good {s : State} {t : Nat} {off : Nat} {n : Nat} (h : Good z s) [Unwatched z.parts.tregs] : Good z (State.setRegN s t off n) := by
  unfold State.setRegN; exact (State.setReg_good h)

theorem State.bumpReg_good {s : State} {t : Nat} {off : Nat} {n : Nat} {top : Nat} (h : Good z s) [Unwatched z.parts.tregs] : Good z (State.bumpReg s t off n top) := by
  unfold State.bumpReg; exact (State.setRegN_good h)

theorem State.countReg_good {s : State} {t : Nat} {off : Nat} {n : Nat} (h : Good z s) [Unwatched z.parts.tregs] : Good z (State.countReg s t off n) := by
  unfold State.countReg; exact (State.setRegN_good h)

theorem State.setRegBit_good {s : State} {t : Nat} {off : Nat} {i : Nat} {b : Bool} (h : Good z s) [Unwatched z.parts.tregs] : Good z (State.setRegBit s t off i b) := by
  unfold State.setRegBit
  extract_lets +onlyGivenNames -merge -useContext -underBinder v1
  exact (State.setRegN_good h)

theorem State.updBasin_good {s : State} {b : Nat} {f : Basin → Basin} (h : Good z s) [Unwatched z.parts.basins] : Good z (State.updBasin s b f) := by
  unfold State.updBasin; exact (State.setBasin_good h)

theorem State.fresh_good {s : State} (h : Good z s) [Unwatched z.parts.free] : GoodSnd z (State.fresh s) := by
  unfold State.fresh; exact (goodSnd_mk (good_free h _))

theorem State.setRowWord_good {s : State} {t : Nat} {flat : Nat} {w : CodeWord} (h : Good z s) [Unwatched z.parts.mem] : Good z (State.setRowWord s t flat w) := by
  unfold State.setRowWord; exact (good_foldl (fun _ _ h1 => (State.setWord_good h1)) _ (State.setWord_good h))

theorem State.setRow_good {s : State} {t : Nat} {flat : Nat} {d : Row} (h : Good z s) [Unwatched z.parts.mem] : Good z (State.setRow s t flat d) := by
  unfold State.setRow; exact (State.setRowWord_good h)

theorem State.tileSend_good {s : State} {t : Nat} {op : Nat} {dst : Nat} {body : List Nat} (h : Good z s) [Unwatched z.parts.tiles] : Good z (State.tileSend s t op dst body) := by
  unfold State.tileSend; exact (State.updTile_good h)

theorem State.updHub_good {s : State} {b : Nat} {f : Hub → Hub} (h : Good z s) [Unwatched z.parts.hubs] :
    Good z (State.updHub s b f) := by
  unfold State.updHub
  exact good_hubs h _ (Map.wf_put _ _ _ _ _ rfl h.2.hubs)

theorem State.spokePulse_good {s : State} {t : Nat} (h : Good z s) [Unwatched z.parts.tiles] [Unwatched z.parts.hubs] : Good z (State.spokePulse s t) := by
  unfold State.spokePulse
  extract_lets +onlyGivenNames -merge -useContext -underBinder v1 v2
  have h1 : Good z v1 := (good_ite h (State.updTile_good h))
  exact (good_ite (State.updHub_good h1) h1)

theorem State.tileTook_good {s : State} {t : Nat} {op : Nat} (h : Good z s) [Unwatched z.parts.tiles] : Good z (State.tileTook s t op) := by
  unfold State.tileTook; exact (State.updTile_good h)

theorem State.trace_good {s : State} {t : Nat} {kind : Nat} {hi : Nat} {words : List Nat} (h : Good z s) [Unwatched z.parts.tregs] [Unwatched z.parts.tiles] : Good z (State.trace s t kind hi words) := by
  unfold State.trace
  exact (good_ite (by
    extract_lets +onlyGivenNames -merge -useContext -underBinder v1
    exact (good_ite (by
      extract_lets +onlyGivenNames -merge -useContext -underBinder v2
      exact (State.setTile_good h)) (State.bumpReg_good (State.setTile_good h)))) h)

theorem State.raiseAlarm_good {s : State} {t : Nat} {cause : Nat} {detail : Nat} {aux : Nat} (h : Good z s) [Unwatched z.parts.tregs] [Unwatched z.parts.win] [Unwatched z.parts.tiles] : Good z (State.raiseAlarm s t cause detail aux) := by
  unfold State.raiseAlarm
  extract_lets +onlyGivenNames -merge -useContext -underBinder v1 v2 v3 v4 v5 v6
  have h6 : Good z v6 := (good_ite (State.setTile_good h) (State.bumpWin_good (State.setTile_good h)))
  exact (good_ite (by
    extract_lets +onlyGivenNames -merge -useContext -underBinder v7
    have h7 : Good z v7 := (State.setRegN_good (State.setRegN_good h6))
    exact (State.trace_good h7)) h6)

theorem State.raiseIrq_good {s : State} {t : Nat} {cause : Nat} {detail : Nat} (h : Good z s) [Unwatched z.parts.tregs] [Unwatched z.parts.tiles] : Good z (State.raiseIrq s t cause detail) := by
  unfold State.raiseIrq
  extract_lets +onlyGivenNames -merge -useContext -underBinder v1
  exact (good_ite (State.bumpReg_good h) (State.setTile_good h))

theorem State.agentIrq_good {s : State} {cause : Nat} {detail : Nat} (h : Good z s) [Unwatched z.parts.irqQ] : Good z (State.agentIrq s cause detail) := by
  unfold State.agentIrq; exact (good_irqQ h _)

theorem State.agentAlarm_good {s : State} {cause : Nat} {detail : Nat} {basin : Nat} (h : Good z s) [Unwatched z.parts.alarmQ] : Good z (State.agentAlarm s cause detail basin) := by
  unfold State.agentAlarm; exact (good_alarmQ h _)

theorem State.bumpObj_good {s : State} {index : Nat} {sub : Nat} {n : Nat} {top : Nat} (h : Good z s) [Unwatched z.parts.objs] : Good z (State.bumpObj s index sub n top) := by
  unfold State.bumpObj; exact (State.setObj_good h)

theorem State.raiseStop_good {s : State} {b : Nat} {t : Nat} {cause : Nat} (h : Good z s) [Unwatched z.parts.objs] [Unwatched z.parts.basins] : Good z (State.raiseStop s b t cause) := by
  unfold State.raiseStop
  exact (good_ite h (by
    extract_lets +onlyGivenNames -merge -useContext -underBinder v1 v2
    have h1 : Good z v1 := (State.updBasin_good h)
    have h2 : Good z v2 := (good_ite (State.setObj_good h1) h1)
    exact (State.setObj_good (State.setObj_good (State.setObj_good (State.setObj_good h2))))))

theorem State.setSummary_good {s : State} {t : Nat} {bit : Nat} {cause : Nat} (h : Good z s) [Unwatched z.parts.tregs] [Unwatched z.parts.objs] [Unwatched z.parts.basins] : Good z (State.setSummary s t bit cause) := by
  unfold State.setSummary
  extract_lets +onlyGivenNames -merge -useContext -underBinder v1
  have h1 : Good z v1 := (State.setRegBit_good (State.setRegBit_good h))
  split
  · exact (State.raiseStop_good h1)
  · exact h1

theorem State.noteAlien_good {s : State} {t : Nat} (h : Good z s) [Unwatched z.parts.basins] : Good z (State.noteAlien s t) := by
  unfold State.noteAlien
  split
  · exact (State.updBasin_good h)
  · exact h

theorem State.poisonTaken_good {s : State} {t : Nat} (h : Good z s) [Unwatched z.parts.tregs] [Unwatched z.parts.objs] [Unwatched z.parts.basins] : Good z (State.poisonTaken s t) := by
  unfold State.poisonTaken
  extract_lets +onlyGivenNames -merge -useContext -underBinder v1
  have h1 : Good z v1 := (State.setSummary_good h)
  split
  · exact (State.updBasin_good h1)
  · exact h1

theorem State.tileError_good {s : State} {t : Nat} {bit : Nat} {cause : Nat} {detail : Nat} {aux : Nat} (h : Good z s) [Unwatched z.parts.tregs] [Unwatched z.parts.objs] [Unwatched z.parts.win] [Unwatched z.parts.tiles] [Unwatched z.parts.basins] : Good z (State.tileError s t bit cause detail aux) := by
  unfold State.tileError; exact (State.raiseAlarm_good (State.setSummary_good h))

theorem State.logClamp_good {s : State} {r : ClampRec} (h : Good z s) [Unwatched z.parts.objs] [Unwatched z.parts.irqQ] [Unwatched z.parts.srv] : Good z (State.logClamp s r) := by
  unfold State.logClamp
  extract_lets +onlyGivenNames -merge -useContext -underBinder v1 v2 v3 v4 v5 v6 v7
  have h4 : Good z v4 := (good_srv h _)
  have h5 : Good z v5 := (State.bumpObj_good (State.setObj_good h4))
  have h7 : Good z v7 := (State.setObj_good h5)
  clear_value v2
  split
  · exact (State.agentIrq_good (good_ite h7 (State.bumpObj_good h7)))
  · exact h7

theorem State.clampTile_good {s : State} {t : Nat} {off : Nat} {src : Nat} {written : Nat} {applied : Nat} {lock : Option Nat} (h : Good z s) [Unwatched z.parts.objs] [Unwatched z.parts.irqQ] [Unwatched z.parts.srv] : Good z (State.clampTile s t off src written applied lock) := by
  unfold State.clampTile
  extract_lets +onlyGivenNames -merge -useContext -underBinder v1
  exact (State.logClamp_good h)

theorem State.taskFault_good {s : State} {t : Nat} {cause : Nat} (h : Good z s) [Unwatched z.parts.tregs] [Unwatched z.parts.objs] [Unwatched z.parts.win] [Unwatched z.parts.tiles] [Unwatched z.parts.basins] : Good z (State.taskFault s t cause) := by
  unfold State.taskFault
  extract_lets +onlyGivenNames -merge -useContext -underBinder v1 v2 v3
  have h2 : Good z v2 := (good_ite (State.setRegN_good (State.setRegN_good (State.setRegN_good h))) h)
  have h3 : Good z v3 := (State.setRegN_good (State.bumpReg_good h2))
  exact (State.tileError_good h3)

theorem State.zeroLen_good {s : State} {t : Nat} (h : Good z s) [Unwatched z.parts.tregs] : Good z (State.zeroLen s t) := by
  unfold State.zeroLen; exact (State.bumpReg_good h)

theorem State.setSreg_good {s : State} {t : Nat} {i : Nat} {v : Word32} (h : Good z s) [Unwatched z.parts.tregs] : Good z (State.setSreg s t i v) := by
  unfold State.setSreg; exact (good_ite h (State.setReg_good h))

theorem State.updPound_good {s : State} {n : Nat} {f : Pound → Pound} (h : Good z s) [Unwatched z.parts.power] : Good z (State.updPound s n f) := by
  unfold State.updPound; exact (good_power h _)

theorem State.addLedger_good {s : State} {kind : Nat} {tile : Option Nat} {item : Nat} {sub : Nat} {service : Bool} (h : Good z s) [Unwatched z.parts.objs] [Unwatched z.parts.alarmQ] [Unwatched z.parts.irqQ] [Unwatched z.parts.boot] : Good z (State.addLedger s kind tile item sub service) := by
  unfold State.addLedger
  exact (good_ite h (good_ite (good_ite h (by
    extract_lets +onlyGivenNames -merge -useContext -underBinder v1 v2
    have h2 : Good z v2 := (good_boot h _)
    exact (State.agentAlarm_good h2))) (by
    extract_lets +onlyGivenNames -merge -useContext -underBinder v3 v4 v5
    have h5 : Good z v5 := (good_boot h _)
    exact (State.agentIrq_good (State.bumpObj_good (State.setObj_good h5))))))

theorem State.updSeam_good {s : State} {n : Nat} {f : Seam → Seam} (h : Good z s) [Unwatched z.parts.seams] : Good z (State.updSeam s n f) :=
  good_seams h _ (Map.wf_put _ _ _ _ _ rfl h.2.seams)

theorem State.updBank_good {s : State} {t : Nat} {b : Nat} {f : Bank → Bank} (h : Good z s) [Unwatched z.parts.tiles] : Good z (State.updBank s t b f) := by
  unfold State.updBank; exact (State.updTile_good h)

theorem State.noteUse_good {s : State} {t : Nat} {b : Nat} {loc : Nat} {kind : Nat} {old : Bank × CodeWord} (h : Good z s) [Unwatched z.parts.tiles] : Good z (State.noteUse s t b loc kind old) := by
  unfold State.noteUse; exact (State.updBank_good h)

theorem State.countCe_good {s : State} {t : Nat} {b : Nat} {bits : Nat} (h : Good z s) [Unwatched z.parts.tregs] [Unwatched z.parts.win] : Good z (State.countCe s t b bits) := by
  unfold State.countCe
  extract_lets +onlyGivenNames -merge -useContext -underBinder v1 v2 v3 v4
  exact (State.bumpWin_good (State.setRegN_good h))

theorem State.errorAt_good {s : State} {t : Nat} {bit : Nat} {cause : Nat} {detail : Nat} {aux : Nat} {due : Option Nat} (h : Good z s) [Unwatched z.parts.tregs] [Unwatched z.parts.objs] [Unwatched z.parts.win] [Unwatched z.parts.tiles] [Unwatched z.parts.basins] : Good z (State.errorAt s t bit cause detail aux due) := by
  unfold State.errorAt
  split
  · exact (State.tileError_good h)
  · exact (State.updTile_good h)

theorem State.decodeRow_good {s0 : State} {t : Nat} {flat : Nat} {w : CodeWord} {due : Option Nat} {fix : Bool} (hs0 : Good z s0) [Unwatched z.parts.mem] [Unwatched z.parts.tregs] [Unwatched z.parts.objs] [Unwatched z.parts.win] [Unwatched z.parts.tiles] [Unwatched z.parts.basins] : GoodThd z (State.decodeRow s0 t flat w due fix) := by
  unfold State.decodeRow
  extract_lets +onlyGivenNames -merge -useContext -underBinder v1 v2 v3
  have h1 : Good z v1 := (State.countReg_good hs0)
  split
  · exact (goodThd_mk (goodSnd_mk h1))
  · extract_lets +onlyGivenNames -merge -useContext -underBinder v4
    have h4 : Good z v4 := (State.countCe_good h1)
    exact (goodThd_mk (goodSnd_mk (good_ite (State.updBank_good h4) h4)))
  · extract_lets +onlyGivenNames -merge -useContext -underBinder v5
    have h5 : Good z v5 := (State.bumpReg_good h1)
    exact (goodThd_mk (goodSnd_mk (by
      split
      · exact (State.bumpWin_good h5)
      · exact h5)))
  · extract_lets +onlyGivenNames -merge -useContext -underBinder v6 v7 v8
    have h7 : Good z v7 := (State.bumpWin_good (State.bumpReg_good h1))
    have h8 : Good z v8 := (good_ite (State.updBank_good (State.setRowWord_good h7)) h7)
    exact (goodThd_mk (goodSnd_mk (State.errorAt_good h8)))

theorem State.dropEntry_good {s : State} {t : Nat} {e : GatherEntry} (h : Good z s) [Unwatched z.parts.tregs] [Unwatched z.parts.objs] [Unwatched z.parts.win] [Unwatched z.parts.tiles] [Unwatched z.parts.basins] : Good z (State.dropEntry s t e) := by
  unfold State.dropEntry
  extract_lets +onlyGivenNames -merge -useContext -underBinder v1 v2 v3
  have h2 : Good z v2 := (State.updBank_good h)
  have h3 : Good z v3 := (good_ite (State.setRegN_good h2) h2)
  exact (State.tileError_good h3)

theorem State.mergePending_good {s : State} {t : Nat} {flat : Nat} {d : Row} {p : Bool} (h : Good z s) [Unwatched z.parts.tregs] [Unwatched z.parts.objs] [Unwatched z.parts.win] [Unwatched z.parts.tiles] [Unwatched z.parts.basins] : GoodSnd z (State.mergePending s t flat d p) := by
  unfold State.mergePending
  split
  · exact (goodSnd_ite (goodSnd_mk (State.dropEntry_good h)) (goodSnd_mk h))
  · exact (goodSnd_mk h)

theorem State.readRow_good {s : State} {t : Nat} {flat : Nat} {portX : Bool} {due : Option Nat} (h : Good z s) [Unwatched z.parts.mem] [Unwatched z.parts.tregs] [Unwatched z.parts.objs] [Unwatched z.parts.win] [Unwatched z.parts.tiles] [Unwatched z.parts.basins] : GoodThd z (State.readRow s t flat portX due) := by
  unfold State.readRow
  extract_lets +onlyGivenNames -merge -useContext -underBinder v1 v2
  split
  · split
    · exact (goodThd_mk (goodSnd_mk (by refine good_thd (by assumption) ?_; exact (State.decodeRow_good h))))
  · split
    · split
      · exact (goodThd_mk (goodSnd_mk (by refine good_snd (by assumption) ?_; exact (State.mergePending_good (by refine good_thd (by assumption) ?_; exact (State.decodeRow_good h))))))

theorem State.foldDigest_good {s : State} {t : Nat} {flat : Nat} {agent : Nat} {d : Row} {tail : List Nat} (h : Good z s) [Unwatched z.parts.tregs] [Unwatched z.parts.tiles] : Good z (State.foldDigest s t flat agent d tail) := by
  unfold State.foldDigest
  extract_lets +onlyGivenNames -merge -useContext -underBinder v1
  exact (good_ite (by
    extract_lets +onlyGivenNames -merge -useContext -underBinder v2 v3 v4
    have h3 : Good z v3 := (State.updTile_good h)
    exact (good_ite (State.trace_good h3) h3)) h)

theorem State.noteWrite_good {s : State} {t : Nat} {flat : Nat} {agent : Nat} (h : Good z s) [Unwatched z.parts.tregs] [Unwatched z.parts.tiles] : Good z (State.noteWrite s t flat agent) := by
  unfold State.noteWrite
  extract_lets +onlyGivenNames -merge -useContext -underBinder v1 v2 v3 v4
  have h4 : Good z v4 := (State.updBank_good (State.countReg_good h))
  exact (good_ite h4 (State.bumpReg_good h4))

theorem State.writeRow_good {s : State} {t : Nat} {flat : Nat} {d : Row} {poison : Bool} {agent : Nat} (h : Good z s) [Unwatched z.parts.mem] [Unwatched z.parts.tregs] [Unwatched z.parts.tiles] : Good z (State.writeRow s t flat d poison agent) := by
  unfold State.writeRow
  extract_lets +onlyGivenNames -merge -useContext -underBinder v1 v2
  have h1 : Good z v1 := (State.setRowWord_good h)
  have h2 : Good z v2 := (State.noteWrite_good h1)
  exact (good_ite (State.foldDigest_good h2) h2)

theorem State.installRow_good {s : State} {t : Nat} {flat : Nat} {w : CodeWord} (h : Good z s) [Unwatched z.parts.mem] [Unwatched z.parts.tregs] [Unwatched z.parts.tiles] : Good z (State.installRow s t flat w) := by
  unfold State.installRow
  extract_lets +onlyGivenNames -merge -useContext -underBinder v1 v2
  exact (good_ite h (by
    extract_lets +onlyGivenNames -merge -useContext -underBinder v3 v4
    have h4 : Good z v4 := (State.updBank_good (State.setRowWord_good h))
    exact (good_ite h4 (State.bumpReg_good h4))))

theorem State.aliasRow_good {s : State} {t : Nat} {flat : Nat} {op : Row} {opPoison : Bool} {mask : BitVec 8} {agent : Nat} {window : Bool} (h : Good z s) [Unwatched z.parts.mem] [Unwatched z.parts.tregs] [Unwatched z.parts.objs] [Unwatched z.parts.win] [Unwatched z.parts.tiles] [Unwatched z.parts.basins] : GoodThd z (State.aliasRow s t flat op opPoison mask agent window) := by
  unfold State.aliasRow
  extract_lets +onlyGivenNames -merge -useContext -underBinder v1 v2
  split
  · split
    · extract_lets +onlyGivenNames -merge -useContext -underBinder v3 v4 v5 v6 v7
      have h6 : Good z v6 := (State.noteWrite_good (State.setRowWord_good (good_ite (State.setRegBit_good (by refine good_snd (by assumption) ?_; exact (State.mergePending_good (by refine good_thd (by assumption) ?_; exact (State.decodeRow_good h))))) (by refine good_snd (by assumption) ?_; exact (State.mergePending_good (by refine good_thd (by assumption) ?_; exact (State.decodeRow_good h)))))))
      have h7 : Good z v7 := (good_ite (State.foldDigest_good h6) (good_ite (State.foldDigest_good h6) (State.foldDigest_good h6)))
      exact (goodThd_mk (goodSnd_mk h7))

theorem State.rejectX_good {s : State} {t : Nat} {flat : Nat} {status : Nat} {issuer : Nat} (h : Good z s) [Unwatched z.parts.tregs] [Unwatched z.parts.win] : Good z (State.rejectX s t flat status issuer) := by
  unfold State.rejectX
  extract_lets +onlyGivenNames -merge -useContext -underBinder v1 v2 v3
  have h3 : Good z v3 := (good_ite (State.bumpWin_good (State.bumpReg_good h)) (State.bumpReg_good h))
  exact (State.setRegN_good h3)

theorem State.countBlock_good {s : State} {t : Nat} {b : Nat} {write : Bool} (h : Good z s) [Unwatched z.parts.tregs] : Good z (State.countBlock s t b write) := by
  unfold State.countBlock
  extract_lets +onlyGivenNames -merge -useContext -underBinder v1 v2 v3
  exact (State.setRegN_good h)

theorem State.blockOnce_good {s : State} {t : Nat} {b : Nat} {key : Nat} {write : Bool} (h : Good z s) [Unwatched z.parts.tregs] [Unwatched z.parts.tiles] : Good z (State.blockOnce s t b key write) := by
  unfold State.blockOnce; exact (good_ite h (State.updTile_good (State.countBlock_good h)))

theorem State.unblock_good {s : State} {t : Nat} {key : Nat} (h : Good z s) [Unwatched z.parts.tiles] : Good z (State.unblock s t key) := by
  unfold State.unblock; exact (good_ite (State.updTile_good h) h)

theorem State.blockLand_good {s : State} {t : Nat} {flat : Nat} {key : Nat} (h : Good z s) [Unwatched z.parts.tregs] [Unwatched z.parts.tiles] : Good z (State.blockLand s t flat key) := by
  unfold State.blockLand; exact (good_ite (State.blockOnce_good h) h)

theorem State.blockRead_good {s : State} {t : Nat} {flat : Nat} {key : Nat} (h : Good z s) [Unwatched z.parts.tregs] [Unwatched z.parts.tiles] : Good z (State.blockRead s t flat key) := by
  unfold State.blockRead; exact (good_ite (State.blockOnce_good h) h)

theorem State.setTag_good {s : State} {t : Nat} {b : Nat} {loc : Nat} {full : Bool} (h : Good z s) [Unwatched z.parts.tiles] : Good z (State.setTag s t b loc full) := by
  unfold State.setTag
  extract_lets +onlyGivenNames -merge -useContext -underBinder v1
  exact (State.updBank_good h)

theorem State.landCore_good {s : State} {t : Nat} {flat : Nat} {d : Row} {poison : Bool} {agent : Nat} {issuer : Nat} {loose : Bool} (h : Good z s) [Unwatched z.parts.mem] [Unwatched z.parts.tregs] [Unwatched z.parts.objs] [Unwatched z.parts.win] [Unwatched z.parts.tiles] [Unwatched z.parts.basins] : GoodSnd z (State.landCore s t flat d poison agent issuer loose) := by
  unfold State.landCore
  extract_lets +onlyGivenNames -merge -useContext -underBinder v1
  exact (goodSnd_ite (goodSnd_mk (State.rejectX_good h)) (by
    extract_lets +onlyGivenNames -merge -useContext -underBinder v2 v3 v4 v5 v6 v7
    exact (goodSnd_ite (goodSnd_mk (State.rejectX_good h)) (goodSnd_ite (goodSnd_ite (goodSnd_mk h) (goodSnd_mk (State.noteUse_good (State.setTag_good (State.writeRow_good h))))) (goodSnd_ite (goodSnd_mk (State.bumpWin_good (State.bumpReg_good h))) (goodSnd_ite (by
      split
      · exact (goodSnd_mk (State.noteUse_good (by refine good_thd (by assumption) ?_; exact (State.aliasRow_good h))))) (goodSnd_mk (State.noteUse_good (State.writeRow_good h)))))))))

theorem State.landRow_good {s : State} {t : Nat} {flat : Nat} {d : Row} {poison : Bool} {agent : Nat} {issuer : Nat} {loose : Bool} (h : Good z s) [Unwatched z.parts.mem] [Unwatched z.parts.tregs] [Unwatched z.parts.objs] [Unwatched z.parts.win] [Unwatched z.parts.tiles] [Unwatched z.parts.basins] : GoodSnd z (State.landRow s t flat d poison agent issuer loose) := by
  unfold State.landRow
  have hc : GoodSnd z (s.landCore t flat d poison agent issuer loose) := State.landCore_good h
  split
  · rename_i s1 heq
    have h1 : Good z s1 := good_snd heq hc
    exact goodSnd_mk (good_ite (State.noteAlien_good h1) h1)
  · exact hc

theorem State.fetchRow_good {s : State} {t : Nat} {flat : Nat} {due : Option Nat} (h : Good z s) [Unwatched z.parts.mem] [Unwatched z.parts.tregs] [Unwatched z.parts.objs] [Unwatched z.parts.win] [Unwatched z.parts.tiles] [Unwatched z.parts.basins] : GoodSnd z (State.fetchRow s t flat due) := by
  unfold State.fetchRow
  extract_lets +onlyGivenNames -merge -useContext -underBinder v1 v2 v3
  have h3 : ∀ a3_0, Good z a3_0 → Good z (v3 a3_0) := by
    intro a3_0 h3_0
    dsimp -zeta only [v3]
    exact (State.noteUse_good h3_0)
  exact (goodSnd_ite (goodSnd_ite (by
    split
    · exact (goodSnd_mk (h3 _ (State.bumpReg_good (State.setTag_good (by refine good_thd (by assumption) ?_; exact (State.readRow_good h))))))) (goodSnd_mk h)) (by
    split
    · exact (goodSnd_mk (h3 _ (by refine good_thd (by assumption) ?_; exact (State.readRow_good h))))))

theorem State.respond_good {s : State} {t : Nat} {status : Nat} {data : List Word32} (h : Good z s) [Unwatched z.parts.tiles] : Good z (State.respond s t status data) := by
  unfold State.respond; exact (State.updTile_good h)

theorem State.towpathAsk_good {s : State} {t : Nat} {f : State → Nat × State} (h : Good z s)
    (hf : ∀ a, Good z a → GoodSnd z (f a)) [Unwatched z.parts.tiles] : Good z (State.towpathAsk s t f) := by
  unfold State.towpathAsk
  exact good_ite (State.respond_good h) (good_ite (State.respond_good h) (State.respond_good (goodSnd_get (hf s h))))

theorem State.ownerJudge_good {s : State} {t : Nat} {b : Nat} (h : Good z s) [Unwatched z.parts.tiles] : Good z (State.ownerJudge s t b) := by
  unfold State.ownerJudge
  extract_lets +onlyGivenNames -merge -useContext -underBinder v1
  split
  · exact (good_ite (State.updBank_good h) (State.updBank_good h))
  · exact h

theorem State.ownerWrite_good {s : State} {t : Nat} {b : Nat} {v : Nat} {src : Nat} (h : Good z s) [Unwatched z.parts.tregs] [Unwatched z.parts.objs] [Unwatched z.parts.tiles] [Unwatched z.parts.irqQ] [Unwatched z.parts.srv] : GoodSnd z (State.ownerWrite s t b v src) := by
  unfold State.ownerWrite
  extract_lets +onlyGivenNames -merge -useContext -underBinder v1
  exact (goodSnd_ite (goodSnd_mk h) (by
    extract_lets +onlyGivenNames -merge -useContext -underBinder v2 v3 v4 v5 v6 v7
    have h4 : Good z v4 := (good_ite (State.clampTile_good h) h)
    have h5 : Good z v5 := (State.setRegN_good h4)
    have h6 : Good z v6 := (State.updBank_good h5)
    have h7 : Good z v7 := (good_ite (State.updBank_good h5) (good_ite h6 (State.ownerJudge_good h6)))
    exact (goodSnd_mk h7)))

theorem State.sleepWrite_good {s : State} {t : Nat} {b : Nat} {v : Nat} {src : Nat} (h : Good z s) [Unwatched z.parts.tregs] [Unwatched z.parts.objs] [Unwatched z.parts.tiles] [Unwatched z.parts.irqQ] [Unwatched z.parts.srv] : GoodSnd z (State.sleepWrite s t b v src) := by
  unfold State.sleepWrite
  extract_lets +onlyGivenNames -merge -useContext -underBinder v1 v2 v3 v4 v5
  have h4 : Good z v4 := (good_ite (State.clampTile_good h) h)
  exact (goodSnd_ite (by
    extract_lets +onlyGivenNames -merge -useContext -underBinder v6
    have h6 : Good z v6 := (State.setRegN_good h4)
    exact (goodSnd_mk (State.updBank_good h6))) (goodSnd_ite (goodSnd_mk (State.updBank_good (State.setRegN_good h4))) (goodSnd_mk h)))

theorem State.remapWrite_good {s : State} {t : Nat} {b : Nat} {m : Nat} {v : Nat} {src : Nat} {bring : Bool} (h : Good z s) [Unwatched z.parts.tregs] [Unwatched z.parts.objs] [Unwatched z.parts.irqQ] [Unwatched z.parts.srv] : GoodSnd z (State.remapWrite s t b m v src bring) := by
  unfold State.remapWrite
  extract_lets +onlyGivenNames -merge -useContext -underBinder v1 v2 v3 v4 v5
  have h3 : Good z v3 := (good_ite (State.clampTile_good h) h)
  exact (goodSnd_ite (goodSnd_ite (goodSnd_mk (State.setRegN_good h3)) (goodSnd_mk h)) (goodSnd_ite (goodSnd_mk h) (goodSnd_ite (goodSnd_ite (goodSnd_mk h) (goodSnd_mk (State.setRegN_good h3))) (goodSnd_mk (State.setRegN_good h3)))))

theorem State.flushEntry_good {s : State} {t : Nat} {e : GatherEntry} (h : Good z s) [Unwatched z.parts.mem] [Unwatched z.parts.tregs] [Unwatched z.parts.objs] [Unwatched z.parts.win] [Unwatched z.parts.tiles] [Unwatched z.parts.basins] : Good z (State.flushEntry s t e) := by
  unfold State.flushEntry
  extract_lets +onlyGivenNames -merge -useContext -underBinder v1
  exact (good_ite (State.dropEntry_good h) (by
    extract_lets +onlyGivenNames -merge -useContext -underBinder v2
    have h2 : Good z v2 := (State.updBank_good h)
    exact (good_ite (State.writeRow_good h2) (by
      split
      · exact (State.bumpReg_good (State.writeRow_good (by refine good_thd (by assumption) ?_; exact (State.decodeRow_good h2))))))))

theorem State.upsetGather_good {s : State} {t : Nat} {b : Nat} {flat : Nat} (h : Good z s) [Unwatched z.parts.tiles] : Good z (State.upsetGather s t b flat) := by
  unfold State.upsetGather
  extract_lets +onlyGivenNames -merge -useContext -underBinder v1
  split
  · exact (State.updBank_good h)
  · exact h

theorem State.narrowWrite_good {s : State} {t : Nat} {flat : Nat} {d : Row} {mask : BitVec 8} {issuer : Nat} (h : Good z s) [Unwatched z.parts.mem] [Unwatched z.parts.tregs] [Unwatched z.parts.objs] [Unwatched z.parts.win] [Unwatched z.parts.tiles] [Unwatched z.parts.basins] : Good z (State.narrowWrite s t flat d mask issuer) := by
  unfold State.narrowWrite
  extract_lets +onlyGivenNames -merge -useContext -underBinder v1 v2
  split
  · exact (good_ite (State.dropEntry_good h) (by
      extract_lets +onlyGivenNames -merge -useContext -underBinder v3 v4
      exact (State.bumpReg_good (State.updBank_good h))))
  · extract_lets +onlyGivenNames -merge -useContext -underBinder v5 v6
    have h5 : Good z v5 := (good_ite h (by
      split
      · exact h
      · exact (State.flushEntry_good h)))
    exact (State.updBank_good h5)

theorem State.updSw_good {s : State} {t : Nat} {f : Switch → Switch} (h : Good z s) [Unwatched z.parts.tiles] : Good z (State.updSw s t f) := by
  unfold State.updSw; exact (State.updTile_good h)

theorem State.seamToken_good {s : State} {t : Nat} {i : Nat} {wire : Option Nat} (h : Good z s) [Unwatched z.parts.seams] : Good z (State.seamToken s t i wire) := by
  unfold State.seamToken
  split
  · exact (State.updSeam_good h)
  · exact h

theorem State.parityUse_good {s : State} {t : Nat} {o : Nat} {slot : Nat} (h : Good z s) [Unwatched z.parts.tregs] [Unwatched z.parts.objs] [Unwatched z.parts.win] [Unwatched z.parts.tiles] [Unwatched z.parts.basins] : Good z (State.parityUse s t o slot) := by
  unfold State.parityUse
  extract_lets +onlyGivenNames -merge -useContext -underBinder v1 v2 v3
  exact (good_ite (State.tileError_good (State.bumpReg_good (State.updSw_good h))) h)

theorem State.parityBeat_good {s : State} {t : Nat} (h : Good z s) [Unwatched z.parts.tregs] [Unwatched z.parts.objs] [Unwatched z.parts.win] [Unwatched z.parts.tiles] [Unwatched z.parts.basins] : Good z (State.parityBeat s t) := by
  unfold State.parityBeat
  exact (good_ite h (by
    extract_lets +onlyGivenNames -merge -useContext -underBinder v1 v2
    exact (good_foldl (fun _ _ h3 => (by
        extract_lets +onlyGivenNames -merge -useContext -underBinder v4
        have h4 : Good z v4 := (good_ite h3 (State.parityUse_good h3))
        exact (good_ite (State.parityUse_good h4) h4))) _ h)))

theorem State.upset_good {s : State} {t : Nat} {key : Nat} (h : Good z s) [Unwatched z.parts.tiles] : Good z (State.upset s t key) := by
  unfold State.upset; exact (State.updSw_good h)

theorem State.circUse_good {s : State} {t : Nat} {k : Nat} (h : Good z s) [Unwatched z.parts.tiles] : Good z (State.circUse s t k) := by
  unfold State.circUse; exact (State.updSw_good h)

theorem State.circAdvance_good {s : State} {t : Nat} (h : Good z s) [Unwatched z.parts.tregs] [Unwatched z.parts.tiles] : Good z (State.circAdvance s t) := by
  unfold State.circAdvance
  extract_lets +onlyGivenNames -merge -useContext -underBinder v1
  have h1 : Good z v1 := (good_foldl (fun _ _ h2 => (State.setRegN_good h2)) _ h)
  exact (State.updSw_good h1)

theorem State.checkToken_good {s : State} {t : Nat} {lane : Nat} {k0 : Token} (h : Good z s) [Unwatched z.parts.tregs] [Unwatched z.parts.objs] [Unwatched z.parts.win] [Unwatched z.parts.tiles] [Unwatched z.parts.basins] [Unwatched z.parts.seams] : GoodSnd z (State.checkToken s t lane k0) := by
  unfold State.checkToken
  extract_lets +onlyGivenNames -merge -useContext -underBinder v1 v2 v3 v4 v5
  have h1 : ∀ a1_0, Good z a1_0 → Good z (v1 a1_0) := by
    intro a1_0 h1_0
    dsimp -zeta only [v1]
    exact (State.bumpWin_good (State.bumpReg_good h1_0))
  have h3 : Good z v3 := (State.seamToken_good h)
  have h4 : Good z v4 := (good_ite (h1 _ h3) h3)
  clear_value v2
  split
  · exact (goodSnd_ite (goodSnd_mk (h1 _ h4)) (goodSnd_mk h4))
  · extract_lets +onlyGivenNames -merge -useContext -underBinder v6
    have h6 : Good z v6 := (State.bumpWin_good (State.bumpReg_good h4))
    exact (goodSnd_ite (goodSnd_mk (h1 _ h6)) (goodSnd_mk h6))
  · exact (goodSnd_ite (goodSnd_mk h4) (goodSnd_mk (h1 _ h4)))
  · extract_lets +onlyGivenNames -merge -useContext -underBinder v7
    have h7 : Good z v7 := (State.bumpWin_good (State.bumpReg_good h4))
    exact (goodSnd_mk (State.tileError_good h7))

theorem State.recv_good {s : State} {t : Nat} {n : Nat} (h : Good z s) [Unwatched z.parts.tregs] : Good z (State.recv s t n) := by
  unfold State.recv; exact (State.bumpReg_good h)

theorem State.handshake_good {s : State} {t : Nat} {lane : Nat} {off : Nat} (h : Good z s) [Unwatched z.parts.tregs] [Unwatched z.parts.tiles] : Good z (State.handshake s t lane off) := by
  unfold State.handshake; exact (good_ite (State.updSw_good (State.bumpReg_good h)) h)

theorem State.absorbed_good {s : State} {t : Nat} (h : Good z s) [Unwatched z.parts.tregs] [Unwatched z.parts.boot] : Good z (State.absorbed s t) := by
  unfold State.absorbed
  extract_lets +onlyGivenNames -merge -useContext -underBinder v1 v2
  have h1 : Good z v1 := (State.bumpReg_good h)
  exact (good_boot h1 _)

theorem State.fenceDrop_good {s : State} {t : Nat} (h : Good z s) [Unwatched z.parts.tregs] [Unwatched z.parts.win] : Good z (State.fenceDrop s t) := by
  unfold State.fenceDrop
  extract_lets +onlyGivenNames -merge -useContext -underBinder v1
  have h1 : Good z v1 := (State.bumpWin_good (State.bumpReg_good (State.recv_good h)))
  split
  · exact (State.bumpWin_good h1)
  · exact h1

theorem State.sendLane_good {s : State} {t : Nat} {o : Nat} {k : Token} (h : Good z s) [Unwatched z.parts.tregs] [Unwatched z.parts.objs] [Unwatched z.parts.win] [Unwatched z.parts.tiles] [Unwatched z.parts.basins] [Unwatched z.parts.boot] : GoodSnd z (State.sendLane s t o k) := by
  unfold State.sendLane
  split
  · exact (goodSnd_ite (goodSnd_mk (State.absorbed_good (State.recv_good h))) (goodSnd_mk (State.handshake_good (State.updSw_good h))))
  · exact (goodSnd_mk (State.tileError_good (State.fenceDrop_good h)))
  · exact (goodSnd_mk (State.tileError_good (State.fenceDrop_good h)))

theorem State.sendLanes_good {t : Nat} {k : Token} {l : List Nat} {s : State} (h : Good z s) [Unwatched z.parts.tregs] [Unwatched z.parts.objs] [Unwatched z.parts.win] [Unwatched z.parts.tiles] [Unwatched z.parts.basins] [Unwatched z.parts.boot] : GoodSnd z (State.sendLanes s t k l) := by
  induction l generalizing s with
  | nil => exact goodSnd_mk h
  | cons o rest ih => exact goodSnd_mk (goodSnd_get (ih (goodSnd_get (State.sendLane_good (t := t) (o := o) (k := k) h))))

theorem State.landToken_good {s : State} {t : Nat} {flat : Nat} {k : Token} (h : Good z s) [Unwatched z.parts.mem] [Unwatched z.parts.tregs] [Unwatched z.parts.objs] [Unwatched z.parts.win] [Unwatched z.parts.tiles] [Unwatched z.parts.basins] : GoodSnd z (State.landToken s t flat k) := by
  unfold State.landToken
  extract_lets +onlyGivenNames -merge -useContext -underBinder v1 v2
  split
  · exact (goodSnd_mk (State.countBlock_good h))
  · extract_lets +onlyGivenNames -merge -useContext -underBinder v3
    have h3 : Good z v3 := (State.updBank_good (by refine good_snd (by assumption) ?_; exact (State.landRow_good h)))
    exact (goodSnd_mk (good_ite h3 (State.recv_good h3)))

theorem State.relandToken_good {s : State} {t : Nat} {flat : Nat} {k : Token} (h : Good z s) [Unwatched z.parts.mem] [Unwatched z.parts.tregs] [Unwatched z.parts.objs] [Unwatched z.parts.win] [Unwatched z.parts.tiles] [Unwatched z.parts.basins] : GoodSnd z (State.relandToken s t flat k) := by
  unfold State.relandToken
  split
  · exact (goodSnd_mk h)
  · exact (goodSnd_mk (by refine good_snd (by assumption) ?_; exact (State.landRow_good h)))

theorem State.excess_good {s : State} {t : Nat} (h : Good z s) [Unwatched z.parts.tregs] [Unwatched z.parts.objs] [Unwatched z.parts.win] [Unwatched z.parts.tiles] [Unwatched z.parts.basins] : Good z (State.excess s t) := by
  unfold State.excess; exact (State.taskFault_good h)

theorem State.askX_good {s : State} {t : Nat} {b : Nat} {cls : Nat} (h : Good z s) [Unwatched z.parts.tiles] : Good z (State.askX s t b cls) := by
  unfold State.askX; exact (State.updBank_good h)

theorem State.useFill_good {s : State} {t : Nat} {b : Nat} (h : Good z s) [Unwatched z.parts.tiles] : Good z (State.useFill s t b) := by
  unfold State.useFill; exact (good_ite (State.updBank_good h) h)

theorem State.bargeAsk_good {s : State} {t : Nat} {b : Nat} {rank : Option Nat} (h : Good z s) [Unwatched z.parts.tiles] : Good z (State.bargeAsk s t b rank) := by
  unfold State.bargeAsk
  extract_lets +onlyGivenNames -merge -useContext -underBinder v1
  have h1 : Good z v1 := (State.askX_good h)
  split
  · extract_lets +onlyGivenNames -merge -useContext -underBinder v2
    exact (State.updTile_good h1)
  · exact h1

theorem State.bargeUse_good {s : State} {t : Nat} {b : Nat} {rank : Option Nat} (h : Good z s) [Unwatched z.parts.tiles] : Good z (State.bargeUse s t b rank) := by
  unfold State.bargeUse
  extract_lets +onlyGivenNames -merge -useContext -underBinder v1
  have h1 : Good z v1 := (State.useFill_good h)
  split
  · exact (State.updTile_good h1)
  · exact h1

theorem State.landAt_good {s : State} {t : Nat} {flat : Nat} {k : Token} (h : Good z s) [Unwatched z.parts.mem] [Unwatched z.parts.tregs] [Unwatched z.parts.objs] [Unwatched z.parts.win] [Unwatched z.parts.tiles] [Unwatched z.parts.basins] : GoodSnd z (State.landAt s t flat k) := by
  unfold State.landAt
  split
  · exact (goodSnd_mk (by refine good_snd (by assumption) ?_; exact (State.landToken_good h)))
  · exact (goodSnd_mk (by refine good_snd (by assumption) ?_; exact (State.landToken_good h)))

theorem State.landSource_good {s : State} {t : Nat} {i : Nat} {k : Token} {op : Option Nat} {ents : List (Nat × Nat)} (h : Good z s) [Unwatched z.parts.mem] [Unwatched z.parts.tregs] [Unwatched z.parts.objs] [Unwatched z.parts.win] [Unwatched z.parts.tiles] [Unwatched z.parts.basins] : GoodSnd z (State.landSource s t i k op ents) := by
  unfold State.landSource
  extract_lets +onlyGivenNames -merge -useContext -underBinder v1 v2
  have h2 : Good z v2 := (good_foldl (fun _ _ h3 => (State.recv_good (State.excess_good h3))) _ h)
  split
  · exact (goodSnd_ite (State.landAt_good h2) (goodSnd_mk (State.recv_good h2)))
  · split
    · exact (goodSnd_mk h2)
    · split
      · extract_lets +onlyGivenNames -merge -useContext -underBinder v4
        have h4 : Good z v4 := (State.circUse_good h2)
        split
        · exact (goodSnd_mk (State.recv_good (State.taskFault_good h4)))
        · exact (goodSnd_ite (goodSnd_mk (State.recv_good (State.excess_good h4))) (State.landAt_good h4))

theorem State.serveLane_good {s : State} {t : Nat} {i : Nat} (h : Good z s) [Unwatched z.parts.mem] [Unwatched z.parts.tregs] [Unwatched z.parts.objs] [Unwatched z.parts.win] [Unwatched z.parts.tiles] [Unwatched z.parts.basins] [Unwatched z.parts.seams] [Unwatched z.parts.boot] : Good z (State.serveLane s t i) := by
  unfold State.serveLane
  extract_lets +onlyGivenNames -merge -useContext -underBinder v1
  split
  · exact h
  · extract_lets +onlyGivenNames -merge -useContext -underBinder v2
    exact (good_ite h (good_ite (by
      extract_lets +onlyGivenNames -merge -useContext -underBinder v3 v4
      have h3 : Good z v3 := (State.updSw_good h)
      have h4 : Good z v4 := (good_ite (State.setRegN_good (State.setRegN_good h3)) h3)
      exact (State.tileError_good (State.bumpWin_good (State.bumpReg_good h4)))) (good_ite h (by
      extract_lets +onlyGivenNames -merge -useContext -underBinder v5 v6
      exact (good_ite h (by
        split
        · extract_lets +onlyGivenNames -merge -useContext -underBinder v7 v8
          have h8 : Good z v8 := (good_ite (State.bumpReg_good (by refine good_snd (by assumption) ?_; exact (State.checkToken_good (State.countReg_good h)))) (by refine good_snd (by assumption) ?_; exact (State.checkToken_good (State.countReg_good h))))
          split
          · split
            · exact (State.updSw_good (by refine good_snd (by assumption) ?_; exact (State.landSource_good (by refine good_snd (by assumption) ?_; exact (State.sendLanes_good h8)))))))))))

theorem State.serveLanes_good {s : State} {t : Nat} (h : Good z s) [Unwatched z.parts.mem] [Unwatched z.parts.tregs] [Unwatched z.parts.objs] [Unwatched z.parts.win] [Unwatched z.parts.tiles] [Unwatched z.parts.basins] [Unwatched z.parts.seams] [Unwatched z.parts.boot] : Good z (State.serveLanes s t) := by
  unfold State.serveLanes; exact (good_foldl (fun _ _ h1 => (State.serveLane_good h1)) _ h)

theorem State.retryLands_good {s : State} {t : Nat} {b : Nat} (h : Good z s) [Unwatched z.parts.mem] [Unwatched z.parts.tregs] [Unwatched z.parts.objs] [Unwatched z.parts.win] [Unwatched z.parts.tiles] [Unwatched z.parts.basins] : Good z (State.retryLands s t b) := by
  unfold State.retryLands
  exact (good_foldl (fun _ _ h1 => (by
      split
      · exact (good_ite (by
          split
          · exact (State.updSw_good (by refine good_snd (by assumption) ?_; exact (State.relandToken_good h1)))
          · exact (by refine good_snd (by assumption) ?_; exact (State.relandToken_good h1))) h1)
      · exact h1)) _ h)

theorem State.depart_good {s : State} {t : Nat} {slot : Nat} {j : Injection} (h : Good z s) [Unwatched z.parts.tregs] [Unwatched z.parts.objs] [Unwatched z.parts.win] [Unwatched z.parts.tiles] [Unwatched z.parts.basins] [Unwatched z.parts.boot] : Good z (State.depart s t slot j) := by
  unfold State.depart
  extract_lets +onlyGivenNames -merge -useContext -underBinder v1 v2
  split
  · exact (State.updSw_good (State.bumpReg_good (by refine good_snd (by assumption) ?_; exact (State.sendLanes_good h))))

theorem State.departBy_good {s : State} {t : Nat} {now : Nat} (h : Good z s) [Unwatched z.parts.tregs] [Unwatched z.parts.objs] [Unwatched z.parts.win] [Unwatched z.parts.tiles] [Unwatched z.parts.basins] [Unwatched z.parts.boot] : Good z (State.departBy s t now) := by
  unfold State.departBy
  extract_lets +onlyGivenNames -merge -useContext -underBinder v1 v2
  have h2 : Good z v2 := (State.updSw_good h)
  exact (good_foldl (fun _ _ h3 => (State.depart_good h3)) _ h2)

theorem State.departures_good {s : State} {t : Nat} (h : Good z s) [Unwatched z.parts.tregs] [Unwatched z.parts.objs] [Unwatched z.parts.win] [Unwatched z.parts.tiles] [Unwatched z.parts.basins] [Unwatched z.parts.boot] : Good z (State.departures s t) := by
  unfold State.departures; exact (State.departBy_good h)

theorem State.departHeld_good {s : State} {t : Nat} (h : Good z s) [Unwatched z.parts.tregs] [Unwatched z.parts.objs] [Unwatched z.parts.win] [Unwatched z.parts.tiles] [Unwatched z.parts.basins] [Unwatched z.parts.boot] : Good z (State.departHeld s t) := by
  unfold State.departHeld
  extract_lets +onlyGivenNames -merge -useContext -underBinder v1
  exact (good_ite (good_ite (State.departBy_good h) (State.departBy_good h)) h)

theorem State.queueInjection_good {s : State} {t : Nat} {lanes : List Nat} {d : Option (Row × Bool)} {last : Bool} {deliv : Nat} {op : Bool} (h : Good z s) [Unwatched z.parts.tiles] : Good z (State.queueInjection s t lanes d last deliv op) := by
  unfold State.queueInjection
  extract_lets +onlyGivenNames -merge -useContext -underBinder v1
  exact (State.updSw_good h)

theorem State.ctl0Write_good {s : State} {t : Nat} {ctx : Option (Fin 4)} {f : Nat → State → Nat × State} (h : Good z s)
    (hf : ∀ n a, Good z a → GoodSnd z (f n a)) [Unwatched z.parts.tregs] [Unwatched z.parts.objs] [Unwatched z.parts.win] [Unwatched z.parts.tiles] [Unwatched z.parts.basins] : Good z (State.ctl0Write s t ctx f) := by
  unfold State.ctl0Write
  split
  · exact State.towpathAsk_good h (hf 3)
  · exact good_ite h (good_ite (goodSnd_get (hf 4 s h)) (State.taskFault_good h))

theorem execCorrectionWriteback_good {t : TileId} {bank : BankId} {s : State} (h : Good z s) [Unwatched z.parts.mem] [Unwatched z.parts.tregs] [Unwatched z.parts.tiles] : GoodOut z (execCorrectionWriteback t bank s) := by
  unfold execCorrectionWriteback
  extract_lets +onlyGivenNames -merge -useContext -underBinder v1
  split
  · exact (goodOut_next h)
  · exact (goodOut_ite (goodOut_next h) (goodOut_next (State.setRow_good (State.updBank_good (State.countReg_good (State.useFill_good h))))))

theorem execPatrolScrub_good {t : TileId} {bank : BankId} {row : Fin 2592} {s : State} (h : Good z s) [Unwatched z.parts.mem] [Unwatched z.parts.tregs] [Unwatched z.parts.objs] [Unwatched z.parts.win] [Unwatched z.parts.tiles] [Unwatched z.parts.basins] : GoodOut z (execPatrolScrub t bank row s) := by
  unfold execPatrolScrub
  extract_lets +onlyGivenNames -merge -useContext -underBinder v1
  exact (goodOut_ite (goodOut_next h) (goodOut_ite (by
    extract_lets +onlyGivenNames -merge -useContext -underBinder v2
    exact (goodOut_next (goodSnd_get (goodThd_get (State.decodeRow_good (State.useFill_good h)))))) (by
    extract_lets +onlyGivenNames -merge -useContext -underBinder v3
    exact (goodOut_ite (by
      extract_lets +onlyGivenNames -merge -useContext -underBinder v4
      exact (goodOut_next (goodSnd_get (goodThd_get (State.decodeRow_good (State.useFill_good h)))))) (goodOut_next h)))))

theorem State.gatherWrite_good {s : State} {t : Nat} {flat : Nat} {d : Row} {mask : BitVec 8} {issuer : Nat} (h : Good z s) [Unwatched z.parts.mem] [Unwatched z.parts.tregs] [Unwatched z.parts.objs] [Unwatched z.parts.win] [Unwatched z.parts.tiles] [Unwatched z.parts.basins] : Good z (State.gatherWrite s t flat d mask issuer) := by
  unfold State.gatherWrite
  extract_lets +onlyGivenNames -merge -useContext -underBinder v1 v2
  exact (State.narrowWrite_good (good_ite h (State.useFill_good h)))

theorem execNarrowWrite_good {t : TileId} {row : Nat} {data : Row} {mask : BitVec 8} {bad : Bool} {s : State} (h : Good z s) [Unwatched z.parts.mem] [Unwatched z.parts.tregs] [Unwatched z.parts.objs] [Unwatched z.parts.win] [Unwatched z.parts.tiles] [Unwatched z.parts.basins] : GoodOut z (execNarrowWrite t row data mask bad s) := by
  unfold execNarrowWrite
  extract_lets +onlyGivenNames -merge -useContext -underBinder v1
  exact (goodOut_ite (goodOut_next (State.rejectX_good h)) (goodOut_ite (goodOut_next (State.zeroLen_good h)) (goodOut_ite (goodOut_next (State.askX_good h)) (goodOut_next (State.gatherWrite_good (good_ite (State.upsetGather_good h) h))))))

theorem execGatherFlush_good {t : TileId} {bank : BankId} {bad : Bool} {s : State} (h : Good z s) [Unwatched z.parts.mem] [Unwatched z.parts.tregs] [Unwatched z.parts.objs] [Unwatched z.parts.win] [Unwatched z.parts.tiles] [Unwatched z.parts.basins] : GoodOut z (execGatherFlush t bank bad s) := by
  unfold execGatherFlush
  exact (goodOut_ite (goodOut_next h) (by
    split
    · exact (goodOut_next h)
    · extract_lets +onlyGivenNames -merge -useContext -underBinder v1
      have h1 : Good z v1 := (State.useFill_good h)
      exact (goodOut_ite (goodOut_next (State.dropEntry_good h1)) (goodOut_next (State.flushEntry_good h1)))))

theorem State.setRowWin_good {s : State} {t : Nat} {d : Row} (h : Good z s) [Unwatched z.parts.tregs] : Good z (State.setRowWin s t d) := by
  unfold State.setRowWin; exact (good_foldl (fun _ _ h1 => (State.setReg_good h1)) _ h)

theorem State.winServe_good {s : State} {t : Nat} {r : WinReq} (h : Good z s) [Unwatched z.parts.mem] [Unwatched z.parts.tregs] [Unwatched z.parts.objs] [Unwatched z.parts.win] [Unwatched z.parts.tiles] [Unwatched z.parts.basins] : Good z (State.winServe s t r) := by
  unfold State.winServe
  extract_lets +onlyGivenNames -merge -useContext -underBinder v1 v2 v3 v4
  have h4 : Good z v4 := (State.updTile_good h)
  exact (good_ite (State.setRegN_good (State.rejectX_good h4)) (good_ite (by
    split
    · exact (State.setRegN_good (State.setRowWin_good (by refine good_thd (by assumption) ?_; exact (State.readRow_good (State.useFill_good h4)))))) (good_ite (State.gatherWrite_good (State.setRegN_good h4)) (good_ite (State.setRegN_good (State.bumpWin_good (State.bumpReg_good (State.useFill_good h4)))) (State.setRegN_good (State.writeRow_good (State.useFill_good h4)))))))

theorem State.winStep_good {s : State} {t : Nat} (h : Good z s) [Unwatched z.parts.mem] [Unwatched z.parts.tregs] [Unwatched z.parts.objs] [Unwatched z.parts.win] [Unwatched z.parts.tiles] [Unwatched z.parts.basins] : Good z (State.winStep s t) := by
  unfold State.winStep
  split
  · exact (good_ite (State.winServe_good h) h)
  · exact h

theorem State.winAsk_good {s : State} {t : Nat} {read : Bool} {mask : BitVec 8} (h : Good z s) [Unwatched z.parts.mem] [Unwatched z.parts.tregs] [Unwatched z.parts.objs] [Unwatched z.parts.win] [Unwatched z.parts.tiles] [Unwatched z.parts.basins] : Good z (State.winAsk s t read mask) := by
  unfold State.winAsk; exact (State.winStep_good (State.updTile_good (State.setRegN_good h)))

theorem State.rowWinWrite_good {s : State} {t : Nat} {mask : BitVec 8} (h : Good z s) [Unwatched z.parts.mem] [Unwatched z.parts.tregs] [Unwatched z.parts.objs] [Unwatched z.parts.win] [Unwatched z.parts.tiles] [Unwatched z.parts.basins] : Good z (State.rowWinWrite s t mask) := by
  unfold State.rowWinWrite; exact (good_ite (State.setRegN_good h) (State.winAsk_good h))

theorem State.rowWinRead_good {s : State} {t : Nat} (h : Good z s) [Unwatched z.parts.mem] [Unwatched z.parts.tregs] [Unwatched z.parts.objs] [Unwatched z.parts.win] [Unwatched z.parts.tiles] [Unwatched z.parts.basins] : Good z (State.rowWinRead s t) := by
  unfold State.rowWinRead; exact (State.winAsk_good h)

theorem State.copyEnd_good {s : State} {t : Nat} {b : Nat} {c : RowCopy} (h : Good z s) [Unwatched z.parts.mem] [Unwatched z.parts.tregs] [Unwatched z.parts.tiles] : Good z (State.copyEnd s t b c) := by
  unfold State.copyEnd
  extract_lets +onlyGivenNames -merge -useContext -underBinder v1
  have h1 : Good z v1 := (State.updBank_good h)
  exact (State.setRegBit_good (by
    split
    · exact (State.setWord_good h1)
    · exact h1))

theorem State.copyEnds_good {s : State} {t : Nat} {u : Nat} (h : Good z s) [Unwatched z.parts.mem] [Unwatched z.parts.tregs] [Unwatched z.parts.tiles] : Good z (State.copyEnds s t u) := by
  unfold State.copyEnds; exact (good_foldl (fun _ _ h1 => (good_foldl (fun _ _ h2 => (State.copyEnd_good h2)) _ h1)) _ h)

theorem execRowWinWrite_good {t : TileId} {ctx : Option (Fin 4)} {mask : BitVec 8} {s : State} (h : Good z s) [Unwatched z.parts.mem] [Unwatched z.parts.tregs] [Unwatched z.parts.objs] [Unwatched z.parts.win] [Unwatched z.parts.tiles] [Unwatched z.parts.basins] : GoodOut z (execRowWinWrite t ctx mask s) := by
  unfold execRowWinWrite; exact (goodOut_next (State.ctl0Write_good h (fun _ _ h1 => (goodSnd_mk (State.rowWinWrite_good h1)))))

theorem execRowWinRead_good {t : TileId} {ctx : Option (Fin 4)} {s : State} (h : Good z s) [Unwatched z.parts.mem] [Unwatched z.parts.tregs] [Unwatched z.parts.objs] [Unwatched z.parts.win] [Unwatched z.parts.tiles] [Unwatched z.parts.basins] : GoodOut z (execRowWinRead t ctx s) := by
  unfold execRowWinRead; exact (goodOut_next (State.ctl0Write_good h (fun _ _ h1 => (goodSnd_mk (State.rowWinRead_good h1)))))

theorem execBankOwnerWrite_good {t : TileId} {ctx : Option (Fin 4)} {bank : BankId} {val : Word32} {s : State} (h : Good z s) [Unwatched z.parts.tregs] [Unwatched z.parts.objs] [Unwatched z.parts.win] [Unwatched z.parts.tiles] [Unwatched z.parts.basins] [Unwatched z.parts.irqQ] [Unwatched z.parts.srv] : GoodOut z (execBankOwnerWrite t ctx bank val s) := by
  unfold execBankOwnerWrite; exact (goodOut_next (State.ctl0Write_good h (fun _ _ h1 => (State.ownerWrite_good h1))))

theorem execSleepRetain_good {t : TileId} {ctx : Option (Fin 4)} {bank : BankId} {s : State} (h : Good z s) [Unwatched z.parts.tregs] [Unwatched z.parts.objs] [Unwatched z.parts.win] [Unwatched z.parts.tiles] [Unwatched z.parts.basins] [Unwatched z.parts.irqQ] [Unwatched z.parts.srv] : GoodOut z (execSleepRetain t ctx bank s) := by
  unfold execSleepRetain; exact (goodOut_next (State.ctl0Write_good h (fun _ _ h1 => (State.sleepWrite_good h1))))

theorem execSleepOff_good {t : TileId} {ctx : Option (Fin 4)} {bank : BankId} {s : State} (h : Good z s) [Unwatched z.parts.tregs] [Unwatched z.parts.objs] [Unwatched z.parts.win] [Unwatched z.parts.tiles] [Unwatched z.parts.basins] [Unwatched z.parts.irqQ] [Unwatched z.parts.srv] : GoodOut z (execSleepOff t ctx bank s) := by
  unfold execSleepOff; exact (goodOut_next (State.ctl0Write_good h (fun _ _ h1 => (State.sleepWrite_good h1))))

theorem execBankDrained_good {t : TileId} {bank : BankId} {s : State} (h : Good z s) [Unwatched z.parts.objs] [Unwatched z.parts.tiles] : GoodOut z (execBankDrained t bank s) := by
  unfold execBankDrained
  extract_lets +onlyGivenNames -merge -useContext -underBinder v1
  exact (goodOut_ite (goodOut_ite (goodOut_next (State.updBank_good h)) (by
    extract_lets +onlyGivenNames -merge -useContext -underBinder v2
    exact (goodOut_next (State.bumpObj_good (State.updBank_good h))))) (goodOut_next h))

theorem execWake_good {t : TileId} {ctx : Option (Fin 4)} {bank : BankId} {s : State} (h : Good z s) [Unwatched z.parts.tregs] [Unwatched z.parts.objs] [Unwatched z.parts.win] [Unwatched z.parts.tiles] [Unwatched z.parts.basins] [Unwatched z.parts.irqQ] [Unwatched z.parts.srv] : GoodOut z (execWake t ctx bank s) := by
  unfold execWake; exact (goodOut_next (State.ctl0Write_good h (fun _ _ h1 => (State.sleepWrite_good h1))))

theorem State.zeroBank_good {s : State} {t : Nat} {b : Nat} (h : Good z s) [Unwatched z.parts.mem] : Good z (State.zeroBank s t b) :=
  good_mem h _ (Map.wf_filter _ _ _ h.2.mem)

theorem execWakeComplete_good {t : TileId} {bank : BankId} {s : State} (h : Good z s) [Unwatched z.parts.mem] [Unwatched z.parts.objs] [Unwatched z.parts.tiles] : GoodOut z (execWakeComplete t bank s) := by
  unfold execWakeComplete
  extract_lets +onlyGivenNames -merge -useContext -underBinder v1
  exact (goodOut_ite (by
    extract_lets +onlyGivenNames -merge -useContext -underBinder v2
    have h2 : Good z v2 := (State.setObj_good h)
    exact (goodOut_ite (goodOut_next (State.updBank_good (State.zeroBank_good h2))) (goodOut_next (State.updBank_good h2)))) (goodOut_next h))

theorem execRemapEntryWrite_good {t : TileId} {ctx : Option (Fin 4)} {bank : BankId} {m : Fin 32} {val : Word32} {s : State} (h : Good z s) [Unwatched z.parts.tregs] [Unwatched z.parts.objs] [Unwatched z.parts.win] [Unwatched z.parts.tiles] [Unwatched z.parts.basins] [Unwatched z.parts.irqQ] [Unwatched z.parts.srv] : GoodOut z (execRemapEntryWrite t ctx bank m val s) := by
  unfold execRemapEntryWrite; exact (goodOut_next (State.ctl0Write_good h (fun _ _ h1 => (State.remapWrite_good h1))))

theorem State.remapCopy_good {s : State} {t : Nat} {b : Nat} {m : Nat} (h : Good z s) [Unwatched z.parts.mem] [Unwatched z.parts.tregs] [Unwatched z.parts.objs] [Unwatched z.parts.win] [Unwatched z.parts.tiles] [Unwatched z.parts.basins] : Good z (State.remapCopy s t b m) := by
  unfold State.remapCopy
  extract_lets +onlyGivenNames -merge -useContext -underBinder v1 v2
  split
  · extract_lets +onlyGivenNames -merge -useContext -underBinder v3
    exact (good_ite (State.updBank_good (by refine good_thd (by assumption) ?_; exact (State.decodeRow_good (State.useFill_good h)))) (State.copyEnd_good (by refine good_thd (by assumption) ?_; exact (State.decodeRow_good (State.useFill_good h)))))

theorem execRemapCopy_good {t : TileId} {bank : BankId} {m : Fin 32} {s : State} (h : Good z s) [Unwatched z.parts.mem] [Unwatched z.parts.tregs] [Unwatched z.parts.objs] [Unwatched z.parts.win] [Unwatched z.parts.tiles] [Unwatched z.parts.basins] : GoodOut z (execRemapCopy t bank m s) := by
  unfold execRemapCopy
  extract_lets +onlyGivenNames -merge -useContext -underBinder v1
  exact (goodOut_next (good_ite (State.remapCopy_good h) h))

theorem State.regRead_good {s : State} {t : Nat} {off : Nat} (h : Good z s) [Unwatched z.parts.tiles] : GoodSnd z (State.regRead s t off) := by
  unfold State.regRead
  split
  · exact (goodSnd_mk h)
  · extract_lets +onlyGivenNames -merge -useContext -underBinder v1
    exact (goodSnd_ite (goodSnd_mk (State.updTile_good h)) (goodSnd_mk h))
  · split
    · exact (goodSnd_mk (State.updTile_good h))
    · exact (goodSnd_mk h)

theorem State.withDraft_good {s : State} {t : Nat} {l : List (Nat × Nat)} (h : Good z s) [Unwatched z.parts.tiles] : Good z (State.withDraft s t l) := by
  unfold State.withDraft; exact (State.updTile_good h)

theorem State.stageOver_good {s : State} {t : Nat} {key : Nat} (h : Good z s) [Unwatched z.parts.tiles] : Good z (State.stageOver s t key) := by
  unfold State.stageOver; exact (State.updTile_good h)

theorem State.stageReg_good {s : State} {t : Nat} {off : Nat} {v : Nat} (h : Good z s) [Unwatched z.parts.tiles] : Good z (State.stageReg s t off v) := by
  unfold State.stageReg; exact (State.stageOver_good (State.updTile_good h))

theorem State.stageEntry_good {s : State} {t : Nat} {key : Nat} {e : Word32} (h : Good z s) [Unwatched z.parts.tiles] : Good z (State.stageEntry s t key e) := by
  unfold State.stageEntry; exact (State.stageOver_good (State.updSw_good h))

theorem State.estoreWrite_good {s : State} {t : Nat} {w : Nat} {v : Nat} (h : Good z s) [Unwatched z.parts.tiles] : Good z (State.estoreWrite s t w v) := by
  unfold State.estoreWrite
  extract_lets +onlyGivenNames -merge -useContext -underBinder v1 v2 v3
  exact (State.updTile_good h)

theorem State.digestAck_good {s : State} {t : Nat} {n : Nat} (h : Good z s) [Unwatched z.parts.tiles] : Good z (State.digestAck s t n) := by
  unfold State.digestAck; exact (State.updTile_good h)

theorem State.hsSelect_good {s : State} {t : Nat} {v : Nat} (h : Good z s) [Unwatched z.parts.tregs] [Unwatched z.parts.tiles] : Good z (State.hsSelect s t v) := by
  unfold State.hsSelect; exact (State.updSw_good (State.setRegN_good (State.setRegN_good (State.setRegN_good (State.setRegN_good h)))))

theorem State.wheelWrite_good {s : State} {t : Nat} {v : Nat} (h : Good z s) [Unwatched z.parts.tiles] : GoodSnd z (State.wheelWrite s t v) := by
  unfold State.wheelWrite
  exact (goodSnd_ite (goodSnd_mk h) (by
    extract_lets +onlyGivenNames -merge -useContext -underBinder v1
    exact (goodSnd_mk (State.stageEntry_good h))))

theorem State.circStore_good {s : State} {t : Nat} {off : Nat} {v : Nat} {ctx : Nat} (h : Good z s) [Unwatched z.parts.tregs] [Unwatched z.parts.tiles] : Good z (State.circStore s t off v ctx) := by
  unfold State.circStore
  extract_lets +onlyGivenNames -merge -useContext -underBinder v1 v2
  have h2 : Good z v2 := (State.updSw_good (State.setRegN_good h))
  exact (good_ite (State.setRegN_good h2) h2)

theorem State.circWrite_good {s : State} {t : Nat} {off : Nat} {v : Nat} {ctx : Nat} {src : Nat} (h : Good z s) [Unwatched z.parts.tregs] [Unwatched z.parts.objs] [Unwatched z.parts.tiles] [Unwatched z.parts.irqQ] [Unwatched z.parts.srv] : GoodSnd z (State.circWrite s t off v ctx src) := by
  unfold State.circWrite
  extract_lets +onlyGivenNames -merge -useContext -underBinder v1 v2 v3
  have h3 : Good z v3 := (good_ite (State.clampTile_good h) h)
  exact (goodSnd_mk (good_ite (State.updSw_good h3) (State.circStore_good h3)))

theorem State.rowWinCtl_good {s : State} {t : Nat} {v : Nat} (h : Good z s) [Unwatched z.parts.mem] [Unwatched z.parts.tregs] [Unwatched z.parts.objs] [Unwatched z.parts.win] [Unwatched z.parts.tiles] [Unwatched z.parts.basins] : Good z (State.rowWinCtl s t v) := by
  unfold State.rowWinCtl
  extract_lets +onlyGivenNames -merge -useContext -underBinder v1
  have h1 : Good z v1 := (State.setRegN_good h)
  exact (good_ite (State.rowWinWrite_good h1) (good_ite (State.rowWinRead_good h1) h1))

theorem State.stopForce_good {s : State} {t : Nat} {v : Nat} (h : Good z s) [Unwatched z.parts.tregs] [Unwatched z.parts.objs] [Unwatched z.parts.basins] : Good z (State.stopForce s t v) := by
  unfold State.stopForce
  exact (good_ite (by
    extract_lets +onlyGivenNames -merge -useContext -underBinder v1
    have h1 : Good z v1 := (State.setRegBit_good h)
    split
    · exact (State.raiseStop_good h1)
    · exact h1) h)

theorem State.unloadCtl_good {s : State} {t : Nat} {v : Nat} (h : Good z s) [Unwatched z.parts.tregs] [Unwatched z.parts.tiles] : GoodSnd z (State.unloadCtl s t v) := by
  unfold State.unloadCtl
  exact (goodSnd_ite (by
    extract_lets +onlyGivenNames -merge -useContext -underBinder v1 v2 v3
    have h1 : Good z v1 := (State.setRegN_good h)
    have h2 : Good z v2 := (good_ite (State.updTile_good h1) h1)
    have h3 : Good z v3 := (good_ite (State.updTile_good h2) h2)
    exact (goodSnd_mk (good_ite (State.setRegN_good h3) h3))) (goodSnd_mk h))

theorem State.streamWrite_good {s : State} {t : Nat} {off : Nat} {v : Nat} (h : Good z s) [Unwatched z.parts.tiles] : Good z (State.streamWrite s t off v) := by
  unfold State.streamWrite; exact (State.updTile_good h)

theorem State.setColMap_good {s : State} {t : Nat} {v : Nat} (h : Good z s) [Unwatched z.parts.tregs] : Good z (State.setColMap s t v) := by
  unfold State.setColMap
  extract_lets +onlyGivenNames -merge -useContext -underBinder v1
  have h1 : Good z v1 := (State.setRegN_good h)
  exact (good_ite (State.setRegN_good h1) h1)

theorem State.regAct_good {s : State} {t : Nat} {off : Nat} {v : Nat} {w : Writer} {r : RegDesc} (h : Good z s) [Unwatched z.parts.mem] [Unwatched z.parts.tregs] [Unwatched z.parts.objs] [Unwatched z.parts.win] [Unwatched z.parts.tiles] [Unwatched z.parts.basins] [Unwatched z.parts.irqQ] [Unwatched z.parts.srv] : GoodSnd z (State.regAct s t off v w r) := by
  unfold State.regAct
  exact (goodSnd_ite (goodSnd_ite (State.unloadCtl_good h) (goodSnd_mk h)) (goodSnd_ite (goodSnd_ite (goodSnd_mk (State.setRegN_good h)) (goodSnd_mk h)) (goodSnd_ite (goodSnd_ite (goodSnd_mk (State.estoreWrite_good h)) (goodSnd_mk h)) (goodSnd_ite (goodSnd_mk (State.digestAck_good h)) (goodSnd_ite (goodSnd_mk (State.hsSelect_good h)) (goodSnd_ite (goodSnd_mk (State.trace_good (State.setRegN_good h))) (goodSnd_ite (State.sleepWrite_good h) (goodSnd_ite (State.remapWrite_good h) (goodSnd_ite (State.circWrite_good h) (goodSnd_ite (goodSnd_mk (State.rowWinCtl_good h)) (goodSnd_ite (goodSnd_ite (goodSnd_mk (State.stopForce_good h)) (goodSnd_mk h)) (goodSnd_ite (goodSnd_mk h) (goodSnd_ite (goodSnd_ite (goodSnd_mk h) (goodSnd_mk (State.setRegN_good h))) (goodSnd_ite (goodSnd_mk h) (goodSnd_ite (by
    extract_lets +onlyGivenNames -merge -useContext -underBinder v1
    exact (goodSnd_mk (State.setColMap_good h))) (goodSnd_ite (goodSnd_mk (State.streamWrite_good h)) (goodSnd_mk (State.setRegN_good h))))))))))))))))))

theorem State.regWrite_good {s : State} {t : Nat} {off : Nat} {v : Nat} {w : Writer} (h : Good z s) [Unwatched z.parts.mem] [Unwatched z.parts.tregs] [Unwatched z.parts.objs] [Unwatched z.parts.win] [Unwatched z.parts.tiles] [Unwatched z.parts.basins] [Unwatched z.parts.irqQ] [Unwatched z.parts.srv] : GoodSnd z (State.regWrite s t off v w) := by
  unfold State.regWrite
  split
  · exact (goodSnd_mk h)
  · exact (goodSnd_ite (goodSnd_mk h) (goodSnd_ite (goodSnd_mk h) (goodSnd_ite (State.ownerWrite_good h) (goodSnd_ite (State.wheelWrite_good h) (goodSnd_ite (State.regAct_good h) (by
      extract_lets +onlyGivenNames -merge -useContext -underBinder v1 v2
      exact (goodSnd_ite (by
        extract_lets +onlyGivenNames -merge -useContext -underBinder v3 v4 v5
        have h3 : Good z v3 := (good_ite h (State.clampTile_good h))
        have h5 : Good z v5 := (good_foldl (fun _ _ h6 => (State.stageReg_good (State.clampTile_good h6))) _ (State.stageReg_good h3))
        exact (goodSnd_mk h5)) (by
        split
        · exact (goodSnd_ite (goodSnd_mk (by refine good_snd (by assumption) ?_; exact (State.regAct_good h))) (goodSnd_mk (State.clampTile_good (by refine good_snd (by assumption) ?_; exact (State.regAct_good h)))))))))))))

theorem State.updTil_good {s : State} {t : Nat} {f : Tiller → Tiller} (h : Good z s) [Unwatched z.parts.tiles] : Good z (State.updTil s t f) := by
  unfold State.updTil; exact (State.updTile_good h)

theorem State.takeSlot_good {s : State} {t : Nat} {n : Nat} (h : Good z s) [Unwatched z.parts.tiles] : Good z (State.takeSlot s t n) := by
  unfold State.takeSlot; exact (State.updTil_good h)

theorem State.slotOp_good {s : State} {t : Nat} {n : Nat} {fields : List (Nat × Nat × Nat)} {f : State → State} (h : Good z s)
    (hf : ∀ a, Good z a → Good z (f a)) [Unwatched z.parts.tiles] : Good z (State.slotOp s t n fields f) := by
  unfold State.slotOp
  exact good_ite (hf _ (State.takeSlot_good h)) h

theorem State.writeS_good {s : State} {t : Nat} {beat : Nat} {reg : Nat} {v : Word32} (h : Good z s) [Unwatched z.parts.tiles] : Good z (State.writeS s t beat reg v) := by
  unfold State.writeS; exact (State.updTil_good h)

theorem State.applySWrites_good {s : State} {t : Nat} {beat : Nat} (h : Good z s) [Unwatched z.parts.tregs] [Unwatched z.parts.tiles] : Good z (State.applySWrites s t beat) := by
  unfold State.applySWrites
  extract_lets +onlyGivenNames -merge -useContext -underBinder v1 v2 v3
  have h2 : Good z v2 := (State.updTil_good h)
  have h3 : Good z v3 := (good_foldl (fun _ _ h4 => (State.setSreg_good h4)) _ h2)
  exact (good_foldl (fun _ _ h5 => (State.setSreg_good h5)) _ h3)

theorem State.setQuarter_good {s : State} {t : Nat} {n : Nat} {mask : Row} {d : Row} {p : Bool} (h : Good z s) [Unwatched z.parts.tiles] : Good z (State.setQuarter s t n mask d p) := by
  unfold State.setQuarter; exact (State.updTile_good h)

theorem State.writeV_good {s : State} {t : Nat} {w : VWrite} (h : Good z s) [Unwatched z.parts.tiles] : Good z (State.writeV s t w) := by
  unfold State.writeV; exact (State.updTile_good h)

theorem State.applyVWrites_good {s : State} {t : Nat} {beat : Nat} (h : Good z s) [Unwatched z.parts.tregs] [Unwatched z.parts.tiles] : Good z (State.applyVWrites s t beat) := by
  unfold State.applyVWrites
  extract_lets +onlyGivenNames -merge -useContext -underBinder v1 v2 v3 v4 v6
  have h2 : Good z v2 := (State.updTile_good h)
  have h4 : Good z v4 := (good_foldl (fun _ _ h5 => (State.setQuarter_good h5)) _ h2)
  exact (good_ite h4 (State.bumpReg_good h4))

theorem State.readBundle_good {s : State} {t : Nat} {c : Nat} {p : Nat} {u : Nat} (h : Good z s) [Unwatched z.parts.mem] [Unwatched z.parts.tregs] [Unwatched z.parts.objs] [Unwatched z.parts.win] [Unwatched z.parts.tiles] [Unwatched z.parts.basins] : GoodFth z (State.readBundle s t c p u) := by
  unfold State.readBundle
  exact (goodFth_ite (by
    extract_lets +onlyGivenNames -merge -useContext -underBinder v1
    exact (goodFth_mk (goodThd_mk (goodSnd_mk h)))) (goodFth_ite (by
    extract_lets +onlyGivenNames -merge -useContext -underBinder v2
    exact (goodFth_ite (goodFth_mk (goodThd_mk (goodSnd_mk (State.taskFault_good h)))) (by
      split
      · exact (goodFth_mk (goodThd_mk (goodSnd_mk (State.noteUse_good (by refine good_thd (by assumption) ?_; exact (State.readRow_good h))))))))) (goodFth_mk (goodThd_mk (goodSnd_mk h)))))

theorem State.fetchFor_good {s : State} {t : Nat} {u : Nat} (h : Good z s) [Unwatched z.parts.mem] [Unwatched z.parts.tregs] [Unwatched z.parts.objs] [Unwatched z.parts.win] [Unwatched z.parts.tiles] [Unwatched z.parts.basins] : Good z (State.fetchFor s t u) := by
  unfold State.fetchFor
  extract_lets +onlyGivenNames -merge -useContext -underBinder v1
  exact (good_ite (by
    split
    · exact (State.updTil_good (by refine good_fth (by assumption) ?_; exact (State.readBundle_good h)))) h)

theorem State.fetch_good {s : State} {t : Nat} (h : Good z s) [Unwatched z.parts.mem] [Unwatched z.parts.tregs] [Unwatched z.parts.objs] [Unwatched z.parts.win] [Unwatched z.parts.tiles] [Unwatched z.parts.basins] : Good z (State.fetch s t) := by
  unfold State.fetch; exact (State.fetchFor_good h)

theorem State.present_good {s : State} {t : Nat} {c : Nat} {p : Nat} {row : Row} {bad : Bool} (h : Good z s) [Unwatched z.parts.tregs] [Unwatched z.parts.objs] [Unwatched z.parts.win] [Unwatched z.parts.tiles] [Unwatched z.parts.basins] : Good z (State.present s t c p row bad) := by
  unfold State.present
  extract_lets +onlyGivenNames -merge -useContext -underBinder v1 v2 v3
  have h2 : Good z v2 := (State.updTil_good h)
  have h3 : Good z v3 := (good_ite h2 (State.setRegN_good h2))
  exact (good_ite (State.taskFault_good h3) (good_ite (State.poisonTaken_good h3) (by
    extract_lets +onlyGivenNames -merge -useContext -underBinder v4 v5
    have h5 : Good z v5 := (State.updTil_good h3)
    exact (good_foldl (fun _ _ h6 => (State.taskFault_good h6)) _ h5))))

theorem State.tracePc_good {s : State} {t : Nat} (h : Good z s) [Unwatched z.parts.tregs] [Unwatched z.parts.tiles] : Good z (State.tracePc s t) := by
  unfold State.tracePc
  extract_lets +onlyGivenNames -merge -useContext -underBinder v1
  exact (good_ite (by
    extract_lets +onlyGivenNames -merge -useContext -underBinder v2
    exact (good_ite (State.trace_good (State.updTile_good h)) (State.updTile_good h))) h)

theorem State.fetchOn_good {s : State} {t : Nat} (h : Good z s) [Unwatched z.parts.mem] [Unwatched z.parts.tregs] [Unwatched z.parts.objs] [Unwatched z.parts.win] [Unwatched z.parts.tiles] [Unwatched z.parts.basins] : Good z (State.fetchOn s t) := by
  unfold State.fetchOn
  extract_lets +onlyGivenNames -merge -useContext -underBinder v1
  exact (State.fetch_good (good_ite (State.updTil_good h) h))

theorem State.prime_good {s : State} {t : Nat} (h : Good z s) [Unwatched z.parts.mem] [Unwatched z.parts.tregs] [Unwatched z.parts.objs] [Unwatched z.parts.win] [Unwatched z.parts.tiles] [Unwatched z.parts.basins] : Good z (State.prime s t) := by
  unfold State.prime
  extract_lets +onlyGivenNames -merge -useContext -underBinder v1
  split
  · extract_lets +onlyGivenNames -merge -useContext -underBinder v2 v3
    have h2 : Good z v2 := (State.updTil_good h)
    have h3 : Good z v3 := (good_ite (State.fetchFor_good (State.fetchFor_good h2)) (State.fetchFor_good h2))
    exact (State.updTil_good h3)

theorem State.nextBundle_good {s : State} {t : Nat} (h : Good z s) [Unwatched z.parts.mem] [Unwatched z.parts.tregs] [Unwatched z.parts.objs] [Unwatched z.parts.win] [Unwatched z.parts.tiles] [Unwatched z.parts.basins] : Good z (State.nextBundle s t) := by
  unfold State.nextBundle
  extract_lets +onlyGivenNames -merge -useContext -underBinder v1
  exact (good_ite (State.fetch_good (State.updTil_good h)) (by
    split
    · extract_lets +onlyGivenNames -merge -useContext -underBinder v2
      have h2 : Good z v2 := (State.updTil_good h)
      split
      · exact (State.tracePc_good (State.present_good h2))
      · split
        · extract_lets +onlyGivenNames -merge -useContext -underBinder v3
          have h3 : Good z v3 := (good_ite (by refine good_thd (by assumption) ?_; exact (by
          split
          · exact (goodThd_ite (goodThd_mk (goodSnd_mk (State.updTil_good h2))) (by
              split
              · exact (goodThd_mk (goodSnd_mk (State.updTil_good (by refine good_fth (by assumption) ?_; exact (State.readBundle_good h2)))))))
          · split
            · exact (goodThd_mk (goodSnd_mk (State.updTil_good (by refine good_fth (by assumption) ?_; exact (State.readBundle_good h2))))))) (State.updTil_good (by refine good_thd (by assumption) ?_; exact (by
          split
          · exact (goodThd_ite (goodThd_mk (goodSnd_mk (State.updTil_good h2))) (by
              split
              · exact (goodThd_mk (goodSnd_mk (State.updTil_good (by refine good_fth (by assumption) ?_; exact (State.readBundle_good h2)))))))
          · split
            · exact (goodThd_mk (goodSnd_mk (State.updTil_good (by refine good_fth (by assumption) ?_; exact (State.readBundle_good h2)))))))))
          exact (State.tracePc_good (State.fetchOn_good (State.present_good h3)))))

theorem State.ctrlForm_good {s : State} {t : Nat} (h : Good z s) [Unwatched z.parts.tregs] [Unwatched z.parts.objs] [Unwatched z.parts.win] [Unwatched z.parts.tiles] [Unwatched z.parts.basins] : Good z (State.ctrlForm s t) := by
  unfold State.ctrlForm; exact (State.taskFault_good h)

theorem State.jump_good {s : State} {t : Nat} {c : Nat} {p : Nat} (h : Good z s) [Unwatched z.parts.tiles] : Good z (State.jump s t c p) := by
  unfold State.jump; exact (State.updTil_good h)

theorem State.fallThrough_good {s : State} {t : Nat} (h : Good z s) [Unwatched z.parts.tiles] : Good z (State.fallThrough s t) := by
  unfold State.fallThrough; exact (State.updTil_good h)

theorem State.branch_good {s : State} {t : Nat} {off : BitVec 16} {taken : Bool} (h : Good z s) [Unwatched z.parts.tregs] [Unwatched z.parts.objs] [Unwatched z.parts.win] [Unwatched z.parts.tiles] [Unwatched z.parts.basins] : Good z (State.branch s t off taken) := by
  unfold State.branch
  extract_lets +onlyGivenNames -merge -useContext -underBinder v1 v2
  exact (good_ite (State.ctrlForm_good h) (good_ite (State.fallThrough_good h) (good_ite (State.jump_good h) (State.ctrlForm_good h))))

theorem State.call_good {s : State} {t : Nat} {off : BitVec 16} (h : Good z s) [Unwatched z.parts.tregs] [Unwatched z.parts.objs] [Unwatched z.parts.win] [Unwatched z.parts.tiles] [Unwatched z.parts.basins] : Good z (State.call s t off) := by
  unfold State.call
  extract_lets +onlyGivenNames -merge -useContext -underBinder v1 v2
  exact (good_ite (State.ctrlForm_good h) (State.jump_good (State.updTil_good h)))

theorem State.ret_good {s : State} {t : Nat} (h : Good z s) [Unwatched z.parts.tregs] [Unwatched z.parts.objs] [Unwatched z.parts.win] [Unwatched z.parts.tiles] [Unwatched z.parts.basins] : Good z (State.ret s t) := by
  unfold State.ret
  extract_lets +onlyGivenNames -merge -useContext -underBinder v1
  split
  · exact (State.ctrlForm_good h)
  · exact (good_ite (State.ctrlForm_good h) (State.jump_good (State.updTil_good h)))

theorem State.loop_good {s : State} {t : Nat} {len : Nat} {n : Nat} (h : Good z s) [Unwatched z.parts.tregs] [Unwatched z.parts.objs] [Unwatched z.parts.win] [Unwatched z.parts.tiles] [Unwatched z.parts.basins] : Good z (State.loop s t len n) := by
  unfold State.loop
  extract_lets +onlyGivenNames -merge -useContext -underBinder v1
  exact (good_ite (State.ctrlForm_good h) (good_ite (by
    split
    · exact (State.zeroLen_good (State.updTil_good h))) (State.updTil_good h)))

theorem State.task_good {s : State} {t : Nat} {c : Nat} (h : Good z s) [Unwatched z.parts.tregs] [Unwatched z.parts.objs] [Unwatched z.parts.win] [Unwatched z.parts.tiles] [Unwatched z.parts.basins] : Good z (State.task s t c) := by
  unfold State.task
  extract_lets +onlyGivenNames -merge -useContext -underBinder v1
  exact (good_ite (State.ctrlForm_good h) (by
    extract_lets +onlyGivenNames -merge -useContext -underBinder v2
    have h2 : Good z v2 := (State.setRegN_good h)
    exact (good_ite (State.jump_good h2) (by
      extract_lets +onlyGivenNames -merge -useContext -underBinder v3
      have h3 : Good z v3 := (good_ite h2 (State.setRegN_good h2))
      exact (State.jump_good h3)))))

theorem State.epochEnd_good {s : State} {t : Nat} (h : Good z s) [Unwatched z.parts.tregs] [Unwatched z.parts.objs] [Unwatched z.parts.win] [Unwatched z.parts.tiles] [Unwatched z.parts.basins] : Good z (State.epochEnd s t) := by
  unfold State.epochEnd
  extract_lets +onlyGivenNames -merge -useContext -underBinder v1
  exact (good_ite (State.ctrlForm_good h) (State.updTil_good h))

theorem State.updArr_good {s : State} {t : Nat} {f : ArrayUnit → ArrayUnit} (h : Good z s) [Unwatched z.parts.tiles] : Good z (State.updArr s t f) := by
  unfold State.updArr; exact (State.updTile_good h)

theorem State.restartGen_good {s : State} {t : Nat} {g : Nat} (h : Good z s) [Unwatched z.parts.tiles] : Good z (State.restartGen s t g) := by
  unfold State.restartGen
  extract_lets +onlyGivenNames -merge -useContext -underBinder v1 v2 v3
  exact (State.updArr_good h)

theorem State.noteGen_good {s : State} {t : Nat} {g : Nat} (h : Good z s) [Unwatched z.parts.tiles] : Good z (State.noteGen s t g) := by
  unfold State.noteGen
  split
  · extract_lets +onlyGivenNames -merge -useContext -underBinder v1
    exact (State.updArr_good h)
  · exact h

theorem State.putStream_good {s : State} {t : Nat} {m : BankStream} (h : Good z s) [Unwatched z.parts.tiles] : Good z (State.putStream s t m) := by
  unfold State.putStream; exact (State.updTil_good h)

theorem State.loseAccess_good {s : State} {t : Nat} {m : BankStream} (h : Good z s) [Unwatched z.parts.tregs] [Unwatched z.parts.objs] [Unwatched z.parts.win] [Unwatched z.parts.tiles] [Unwatched z.parts.basins] : Good z (State.loseAccess s t m) := by
  unfold State.loseAccess; exact (State.putStream_good (good_ite h (State.taskFault_good h)))

theorem State.scalarPoison_good {s : State} {t : Nat} {beat : Nat} (h : Good z s) [Unwatched z.parts.tiles] : Good z (State.scalarPoison s t beat) := by
  unfold State.scalarPoison; exact (State.updTile_good h)

theorem State.deliver_good {s : State} {t : Nat} {m : BankStream} {u : Nat} {d : Row} {p : Bool} (h : Good z s) [Unwatched z.parts.tiles] : Good z (State.deliver s t m u d p) := by
  unfold State.deliver
  extract_lets +onlyGivenNames -merge -useContext -underBinder v1
  exact (good_ite (State.updArr_good h) (good_ite (State.writeV_good h) (good_ite (by
    extract_lets +onlyGivenNames -merge -useContext -underBinder v2
    have h2 : Good z v2 := (State.updTil_good h)
    exact (good_ite (State.scalarPoison_good h2) h2)) h)))

theorem State.swapReturn_good {s : State} {t : Nat} {m : BankStream} {u : Nat} {d : Row} {p : Bool} (h : Good z s) [Unwatched z.parts.tiles] : Good z (State.swapReturn s t m u d p) := by
  unfold State.swapReturn
  exact (good_ite (by
    extract_lets +onlyGivenNames -merge -useContext -underBinder v1
    have h1 : Good z v1 := (State.updTil_good h)
    exact (good_ite (State.scalarPoison_good h1) h1)) (State.writeV_good h))

theorem State.advanceStream_good {s : State} {t : Nat} {m : BankStream} (h : Good z s) [Unwatched z.parts.tiles] : Good z (State.advanceStream s t m) := by
  unfold State.advanceStream; exact (State.putStream_good h)

theorem State.blockStream_good {s : State} {t : Nat} {flat : Nat} {m : BankStream} (h : Good z s) [Unwatched z.parts.tiles] : Good z (State.blockStream s t flat m) := by
  unfold State.blockStream; exact (State.putStream_good h)

theorem State.streamRow_good {s : State} {t : Nat} {m : BankStream} {flat : Nat} (h : Good z s) [Unwatched z.parts.mem] [Unwatched z.parts.tregs] [Unwatched z.parts.objs] [Unwatched z.parts.win] [Unwatched z.parts.tiles] [Unwatched z.parts.basins] : Good z (State.streamRow s t m flat) := by
  unfold State.streamRow
  extract_lets +onlyGivenNames -merge -useContext -underBinder v1 v2 v3 v4 v5
  exact (good_ite (good_ite (good_ite (by
    split
    · exact (State.advanceStream_good (State.deliver_good (State.recv_good (State.setTag_good (State.noteUse_good (by refine good_thd (by assumption) ?_; exact (State.readRow_good h)))))))) (State.blockStream_good h)) (by
    split
    · exact (State.advanceStream_good (State.deliver_good (State.noteUse_good (by refine good_thd (by assumption) ?_; exact (State.readRow_good h))))))) (good_ite (State.advanceStream_good (State.taskFault_good h)) (good_ite (by
    extract_lets +onlyGivenNames -merge -useContext -underBinder v6
    exact (good_ite (State.advanceStream_good (State.taskFault_good h)) (by
      split
      · split
        · extract_lets +onlyGivenNames -merge -useContext -underBinder v7
          have h7 : Good z v7 := (State.noteUse_good (by refine good_thd (by assumption) ?_; exact (State.aliasRow_good h)))
          exact (State.advanceStream_good (good_ite (State.swapReturn_good h7) h7))))) (by
    split
    · exact (good_ite (good_ite (State.blockStream_good h) (State.advanceStream_good (State.noteUse_good (State.setTag_good (State.writeRow_good h))))) (State.advanceStream_good (State.noteUse_good (State.writeRow_good h))))))))

theorem State.parityLost_good {s : State} {t : Nat} {m : BankStream} {b : Nat} (h : Good z s) [Unwatched z.parts.tregs] [Unwatched z.parts.objs] [Unwatched z.parts.win] [Unwatched z.parts.tiles] [Unwatched z.parts.basins] : Good z (State.parityLost s t m b) := by
  unfold State.parityLost
  extract_lets +onlyGivenNames -merge -useContext -underBinder v1 v2
  have h2 : Good z v2 := (State.tileError_good h)
  exact (State.advanceStream_good (good_ite (State.deliver_good h2) h2))

theorem State.streamBeat_good {s : State} {t : Nat} {m : BankStream} {earlier : List BankStream} (h : Good z s) [Unwatched z.parts.mem] [Unwatched z.parts.tregs] [Unwatched z.parts.objs] [Unwatched z.parts.win] [Unwatched z.parts.tiles] [Unwatched z.parts.basins] : Good z (State.streamBeat s t m earlier) := by
  unfold State.streamBeat
  extract_lets +onlyGivenNames -merge -useContext -underBinder v1
  split
  · extract_lets +onlyGivenNames -merge -useContext -underBinder v2
    have h2 : Good z v2 := (good_ite (State.noteGen_good h) h)
    split
    · exact (State.advanceStream_good h2)
    · exact (good_ite (State.advanceStream_good h2) (good_ite (State.advanceStream_good (State.taskFault_good h2)) (by
        extract_lets +onlyGivenNames -merge -useContext -underBinder v3 v4 v5 v6 v7
        have h7 : Good z v7 := (good_ite (State.updTil_good h2) h2)
        exact (good_ite (State.loseAccess_good h7) (good_ite (State.loseAccess_good h7) (good_ite (State.parityLost_good h7) (State.streamRow_good h7)))))))

theorem State.streamsBeat_good {s : State} {t : Nat} (h : Good z s) [Unwatched z.parts.mem] [Unwatched z.parts.tregs] [Unwatched z.parts.objs] [Unwatched z.parts.win] [Unwatched z.parts.tiles] [Unwatched z.parts.basins] : Good z (State.streamsBeat s t) := by
  unfold State.streamsBeat
  extract_lets +onlyGivenNames -merge -useContext -underBinder v1 v2
  have h2 : Good z v2 := (State.updTil_good h)
  exact (good_foldl (fun _ _ h3 => (by
      split
      · exact (State.streamBeat_good h3)
      · exact h3)) _ h2)

theorem State.retryStreams_good {s : State} {t : Nat} {b : Nat} (h : Good z s) [Unwatched z.parts.mem] [Unwatched z.parts.tregs] [Unwatched z.parts.objs] [Unwatched z.parts.win] [Unwatched z.parts.tiles] [Unwatched z.parts.basins] : Good z (State.retryStreams s t b) := by
  unfold State.retryStreams
  exact (good_foldl (fun _ _ h1 => (good_ite (by
      split
      · split
        · exact (good_ite (State.streamRow_good h1) h1)
        · exact h1) h1)) _ h)

theorem State.restartGens_good {s : State} {t : Nat} (h : Good z s) [Unwatched z.parts.tiles] : Good z (State.restartGens s t) := by
  unfold State.restartGens
  split
  · exact h
  · exact (good_ite (good_foldl (fun _ _ h1 => (by
        extract_lets +onlyGivenNames -merge -useContext -underBinder v2 v3
        exact (good_ite (State.restartGen_good h1) h1))) _ h) h)

theorem State.bankOp_good {s : State} {t : Nat} {slot : Nat} {op : Nat} {o : BankOp} (h : Good z s) [Unwatched z.parts.mem] [Unwatched z.parts.tregs] [Unwatched z.parts.objs] [Unwatched z.parts.win] [Unwatched z.parts.tiles] [Unwatched z.parts.basins] : Good z (State.bankOp s t slot op o) := by
  unfold State.bankOp
  extract_lets +onlyGivenNames -merge -useContext -underBinder v1 v2 v3
  split
  · exact (good_ite (State.taskFault_good h) (good_ite (State.zeroLen_good h) (good_ite (State.taskFault_good h) (by
      extract_lets +onlyGivenNames -merge -useContext -underBinder v4 v5
      exact (good_ite (by
        extract_lets +onlyGivenNames -merge -useContext -underBinder v6
        have h6 : Good z v6 := (State.updTil_good (State.restartGen_good h))
        exact (State.streamBeat_good h6)) (good_ite (State.taskFault_good h) (by
        extract_lets +onlyGivenNames -merge -useContext -underBinder v7
        exact (good_ite (State.taskFault_good h) (good_ite (State.taskFault_good h) (good_ite (State.taskFault_good h) (by
          extract_lets +onlyGivenNames -merge -useContext -underBinder v8
          exact (State.streamBeat_good (State.updTil_good h)))))))))))))

end Sys2Proof.Machine
end

