-- ==== Sys2Proof/Laws/KeepArray.lean ====
section
/-! SUPPORT. The operations of ArrayOps, Elementary, VectorOps, Array, Mesh, Beat keep the queue, the canonical form, and every
part of the device that their premises do not name. -/

namespace Sys2Proof.Machine

open Sys2Proof

variable {z : Watch}

theorem State.noteRounded_good {s : State} {t : Nat} {r : Rounded} (h : Good z s) [Unwatched z.parts.tregs] : Good z (State.noteRounded s t r) := by
  unfold State.noteRounded
  extract_lets +onlyGivenNames -merge -useContext -underBinder v1 v2 v3
  have h1 : Good z v1 := (good_ite (State.bumpReg_good (State.setRegBit_good h)) h)
  have h2 : Good z v2 := (good_ite (State.setRegBit_good h1) h1)
  have h3 : Good z v3 := (good_ite (State.setRegBit_good h2) h2)
  exact (good_ite (State.setRegBit_good h3) h3)

theorem State.drawArray_good {s : State} {t : Nat} {k : Nat} {due : Bool} (h : Good z s) [Unwatched z.parts.tiles] : GoodSnd z (State.drawArray s t k due) := by
  unfold State.drawArray
  extract_lets +onlyGivenNames -merge -useContext -underBinder v1
  exact (goodSnd_mk (State.updTile_good h))

theorem State.drawVector_good {s : State} {t : Nat} {k : Nat} (h : Good z s) [Unwatched z.parts.tiles] : GoodSnd z (State.drawVector s t k) := by
  unfold State.drawVector; exact (goodSnd_mk (State.updTile_good h))

theorem State.setStreamCtr_good {s : State} {t : Nat} {k : Nat} {v : Nat} (h : Good z s) [Unwatched z.parts.tregs] : Good z (State.setStreamCtr s t k v) := by
  unfold State.setStreamCtr; exact (good_foldl (fun _ _ h1 => (State.setRegN_good h1)) _ h)

theorem State.streamWrites_good {s : State} {t : Nat} (h : Good z s) [Unwatched z.parts.tregs] : Good z (State.streamWrites s t) := by
  unfold State.streamWrites; exact (good_foldl (fun _ _ h1 => (State.setRegN_good h1)) _ h)

theorem State.endDraws_good {s : State} {t : Nat} (h : Good z s) [Unwatched z.parts.tregs] [Unwatched z.parts.tiles] : Good z (State.endDraws s t) := by
  unfold State.endDraws
  extract_lets +onlyGivenNames -merge -useContext -underBinder v1 v2 v3 v4
  have h4 : Good z v4 := (good_foldl (fun _ _ h5 => (by
      extract_lets +onlyGivenNames -merge -useContext -underBinder v6
      exact (good_ite h5 (State.setStreamCtr_good h5)))) _ h)
  exact (State.updTile_good h4)

theorem State.judgePads_good {s : State} {t : Nat} (h : Good z s) [Unwatched z.parts.tiles] : Good z (State.judgePads s t) := by
  unfold State.judgePads
  extract_lets +onlyGivenNames -merge -useContext -underBinder v1
  exact (State.updArr_good h)

theorem State.streamAccept_good {s : State} {t : Nat} {u : Nat} {m : ArrStream} (h : Good z s) [Unwatched z.parts.tregs] [Unwatched z.parts.tiles] : GoodSnd z (State.streamAccept s t u m) := by
  unfold State.streamAccept
  extract_lets +onlyGivenNames -merge -useContext -underBinder v1 v2
  exact (goodSnd_ite (goodSnd_mk h) (by
    extract_lets +onlyGivenNames -merge -useContext -underBinder v3 v4 v5 v6 v7 v8 v9 v10 v11 v12 v13 v14 v15
    have h10 : Good z v10 := (good_ite h (State.bumpReg_good h))
    have h15 : ∀ a15_0 a15_1, Good z a15_1 → Good z (v15 a15_0 a15_1) := by
      intro a15_0 a15_1 h15_1
      dsimp -zeta only [v15]
      exact (State.updArr_good h15_1)
    exact (goodSnd_ite (by
      extract_lets +onlyGivenNames -merge -useContext -underBinder v16
      split
      · extract_lets +onlyGivenNames -merge -useContext -underBinder v17
        split
        · extract_lets +onlyGivenNames -merge -useContext -underBinder v18 v19 v20
          exact (goodSnd_mk (State.updArr_good (State.countReg_good (h15 _ _ h10))))) (goodSnd_mk (h15 _ _ h10)))))

theorem State.loadAccept_good {s : State} {t : Nat} {u : Nat} (h : Good z s) [Unwatched z.parts.tregs] [Unwatched z.parts.tiles] : GoodSnd z (State.loadAccept s t u) := by
  unfold State.loadAccept
  extract_lets +onlyGivenNames -merge -useContext -underBinder v1
  split
  · exact (goodSnd_mk h)
  · exact (goodSnd_ite (goodSnd_mk h) (by
      extract_lets +onlyGivenNames -merge -useContext -underBinder v2 v3 v4 v5 v6
      have h3 : Good z v3 := (good_ite (State.bumpReg_good h) h)
      exact (goodSnd_mk (State.updArr_good h3))))

theorem State.tapRead_good {s : State} {t : Nat} {ctx : Nat} {r : Nat} {src : Nat} {load : Bool} (h : Good z s) [Unwatched z.parts.mem] [Unwatched z.parts.tregs] [Unwatched z.parts.objs] [Unwatched z.parts.win] [Unwatched z.parts.tiles] [Unwatched z.parts.basins] : Good z (State.tapRead s t ctx r src load) := by
  unfold State.tapRead
  split
  · extract_lets +onlyGivenNames -merge -useContext -underBinder v1
    exact (good_ite (State.taskFault_good h) (by
      extract_lets +onlyGivenNames -merge -useContext -underBinder v2
      exact (good_ite (State.taskFault_good h) (by
        extract_lets +onlyGivenNames -merge -useContext -underBinder v3
        exact (good_ite (State.rejectX_good h) (by
          split
          · exact (State.updArr_good (State.updBank_good (by refine good_thd (by assumption) ?_; exact (State.readRow_good h))))))))))

theorem State.taps_good {s : State} {t : Nat} (h : Good z s) [Unwatched z.parts.mem] [Unwatched z.parts.tregs] [Unwatched z.parts.objs] [Unwatched z.parts.win] [Unwatched z.parts.tiles] [Unwatched z.parts.basins] : Good z (State.taps s t) := by
  unfold State.taps; exact (good_foldl (fun _ _ h1 => (State.tapRead_good h1)) _ h)

theorem State.arrayTake_good {s : State} {t : Nat} {u : Nat} (h : Good z s) [Unwatched z.parts.tregs] [Unwatched z.parts.tiles] : Good z (State.arrayTake s t u) := by
  unfold State.arrayTake
  split
  · split
    · extract_lets +onlyGivenNames -merge -useContext -underBinder v2 v3 v4
      have h4 : Good z v4 := (State.updArr_good (by refine good_snd (by assumption) ?_; exact (State.loadAccept_good (by refine good_snd (by assumption) ?_; exact (goodSnd_foldl (fun _ _ h1 => (by
      split
      · exact (goodSnd_mk (by refine good_snd (by assumption) ?_; exact (State.streamAccept_good (goodSnd_get h1)))))) _ (goodSnd_mk h))))))
      exact (good_ite h4 (State.bumpReg_good h4))

theorem State.clearEntries_good {s : State} {t : Nat} (h : Good z s) [Unwatched z.parts.tiles] : Good z (State.clearEntries s t) := by
  unfold State.clearEntries; exact (State.updArr_good h)

theorem State.arrayBeat_good {s : State} {t : Nat} (h : Good z s) [Unwatched z.parts.mem] [Unwatched z.parts.tregs] [Unwatched z.parts.objs] [Unwatched z.parts.win] [Unwatched z.parts.tiles] [Unwatched z.parts.basins] : Good z (State.arrayBeat s t) := by
  unfold State.arrayBeat
  extract_lets +onlyGivenNames -merge -useContext -underBinder v1
  have h1 : Good z v1 := (State.judgePads_good (State.taps_good (good_ite h (State.clearEntries_good h))))
  exact (State.arrayTake_good h1)

theorem State.arrayRun_good {s : State} {t : Nat} {u : Nat} {n : Nat} (h : Good z s) [Unwatched z.parts.tregs] [Unwatched z.parts.tiles] : Good z (State.arrayRun s t u n) := by
  induction n generalizing s u with
  | zero => exact h
  | succ n ih => unfold State.arrayRun; exact good_ite h (ih (State.arrayTake_good h))

theorem State.arrayDrain_good {s : State} {t : Nat} (h : Good z s) [Unwatched z.parts.mem] [Unwatched z.parts.tregs] [Unwatched z.parts.objs] [Unwatched z.parts.win] [Unwatched z.parts.tiles] [Unwatched z.parts.basins] : Good z (State.arrayDrain s t) := by
  unfold State.arrayDrain
  extract_lets +onlyGivenNames -merge -useContext -underBinder v1 v2
  have h2 : Good z v2 := (State.arrayBeat_good h)
  exact (State.arrayRun_good h2)

theorem State.ringWrite_good {s : State} {t : Nat} {r : AccRow} {bits : Nat} {poison : Bool} {width : Nat} (h : Good z s) [Unwatched z.parts.tiles] : Good z (State.ringWrite s t r bits poison width) := by
  unfold State.ringWrite
  extract_lets +onlyGivenNames -merge -useContext -underBinder v1 v2 v3
  exact (good_foldl (fun _ _ h4 => (by
      extract_lets +onlyGivenNames -merge -useContext -underBinder v5
      exact (State.writeV_good h4))) _ h)

theorem State.arrayOutput_good {s : State} {t : Nat} {r : AccRow} (h : Good z s) [Unwatched z.parts.tregs] [Unwatched z.parts.tiles] [Unwatched z.parts.basins] : Good z (State.arrayOutput s t r) := by
  unfold State.arrayOutput
  extract_lets +onlyGivenNames -merge -useContext -underBinder v1 v2 v3 v4 v5 v6 v7
  have h4 : Good z v4 := (State.updArr_good h)
  have h7 : Good z v7 := (State.updArr_good h4)
  split
  · extract_lets +onlyGivenNames -merge -useContext -underBinder v8
    exact (good_ite (by
      extract_lets +onlyGivenNames -merge -useContext -underBinder v9 v10 v11 v12 v13
      have h10 : Good z v10 := (State.bumpReg_good (good_ite (State.noteAlien_good (by refine good_snd (by assumption) ?_; exact (goodSnd_ite (State.drawArray_good h7) (goodSnd_mk h7)))) (by refine good_snd (by assumption) ?_; exact (goodSnd_ite (State.drawArray_good h7) (goodSnd_mk h7)))))
      have h11 : Good z v11 := (good_ite (State.setRegBit_good (State.bumpReg_good h10)) h10)
      have h12 : Good z v12 := (good_ite (State.setRegBit_good (State.bumpReg_good h11)) h11)
      have h13 : Good z v13 := (good_ite (State.setRegBit_good (State.bumpReg_good h12)) h12)
      exact (State.updArr_good (State.ringWrite_good h13))) (by
      extract_lets +onlyGivenNames -merge -useContext -underBinder v14 v15 v16
      have h15 : Good z v15 := (good_ite (State.setRegBit_good (State.bumpReg_good (by refine good_snd (by assumption) ?_; exact (goodSnd_ite (State.drawArray_good h7) (goodSnd_mk h7))))) (by refine good_snd (by assumption) ?_; exact (goodSnd_ite (State.drawArray_good h7) (goodSnd_mk h7))))
      split
      · exact (State.updArr_good (State.ringWrite_good (by refine good_snd (by assumption) ?_; exact (goodSnd_foldl (fun _ _ h17 => (by
          extract_lets +onlyGivenNames -merge -useContext -underBinder v18 v19
          exact (goodSnd_mk (State.noteRounded_good (goodSnd_get h17))))) _ (goodSnd_mk h15)))))))

theorem State.arrayCheck_good {s : State} {t : Nat} {cause : Nat} {entry : Nat} {delta : Int} (h : Good z s) [Unwatched z.parts.tregs] [Unwatched z.parts.objs] [Unwatched z.parts.win] [Unwatched z.parts.tiles] [Unwatched z.parts.basins] : Good z (State.arrayCheck s t cause entry delta) := by
  unfold State.arrayCheck
  extract_lets +onlyGivenNames -merge -useContext -underBinder v1
  have h1 : Good z v1 := (good_ite (State.setRegN_good (State.setRegN_good (State.setRegN_good (State.setRegN_good h)))) h)
  exact (State.tileError_good (State.bumpReg_good h1))

theorem State.stream_good {s : State} {t : Nat} {kind : Nat} {o : ArrOp} (h : Good z s) [Unwatched z.parts.tregs] [Unwatched z.parts.objs] [Unwatched z.parts.win] [Unwatched z.parts.tiles] [Unwatched z.parts.basins] : Good z (State.stream s t kind o) := by
  unfold State.stream
  extract_lets +onlyGivenNames -merge -useContext -underBinder v1 v2 v3 v4
  exact (good_ite (State.taskFault_good h) (good_ite (State.zeroLen_good h) (good_ite (State.taskFault_good h) (by
    extract_lets +onlyGivenNames -merge -useContext -underBinder v5
    exact (State.updArr_good h)))))

theorem State.shadowLoad_good {s : State} {t : Nat} {o : ArrOp} (h : Good z s) [Unwatched z.parts.tregs] [Unwatched z.parts.objs] [Unwatched z.parts.win] [Unwatched z.parts.tiles] [Unwatched z.parts.basins] : Good z (State.shadowLoad s t o) := by
  unfold State.shadowLoad
  extract_lets +onlyGivenNames -merge -useContext -underBinder v1 v2 v3
  exact (good_ite (State.taskFault_good h) (good_ite (State.taskFault_good h) (State.updArr_good h)))

theorem State.swap_good {s : State} {t : Nat} (h : Good z s) [Unwatched z.parts.tregs] [Unwatched z.parts.objs] [Unwatched z.parts.win] [Unwatched z.parts.tiles] [Unwatched z.parts.basins] : Good z (State.swap s t) := by
  unfold State.swap
  extract_lets +onlyGivenNames -merge -useContext -underBinder v1
  exact (good_ite (State.updArr_good h) (State.taskFault_good h))

theorem State.clear_good {s : State} {t : Nat} {o : ArrOp} (h : Good z s) [Unwatched z.parts.tregs] [Unwatched z.parts.objs] [Unwatched z.parts.win] [Unwatched z.parts.tiles] [Unwatched z.parts.basins] : Good z (State.clear s t o) := by
  unfold State.clear
  extract_lets +onlyGivenNames -merge -useContext -underBinder v1 v2 v3
  exact (good_ite (State.zeroLen_good h) (good_ite (State.taskFault_good h) (State.updArr_good h)))

theorem State.noteLane_good {s : State} {t : Nat} {o : LaneOut} {conv : Bool} (h : Good z s) [Unwatched z.parts.tregs] : Good z (State.noteLane s t o conv) := by
  unfold State.noteLane
  extract_lets +onlyGivenNames -merge -useContext -underBinder v1
  have h1 : Good z v1 := (good_ite (State.noteRounded_good h) (good_ite (State.setRegBit_good h) h))
  exact (good_ite (State.setRegBit_good h1) h1)

theorem State.vecIn_good {s : State} {t : Nat} {op : Nat} {use : Nat} {v : VecOp} (h : Good z s) [Unwatched z.parts.tiles] : GoodSnd z (State.vecIn s t op use v) := by
  unfold State.vecIn
  extract_lets +onlyGivenNames -merge -useContext -underBinder v1
  split
  · extract_lets +onlyGivenNames -merge -useContext -underBinder v2
    exact (goodSnd_mk (by refine good_snd (by assumption) ?_; exact (goodSnd_ite (State.drawVector_good h) (goodSnd_ite (State.drawVector_good h) (goodSnd_mk h)))))

theorem State.vecOp_good {s : State} {t : Nat} {op : Nat} {lat : Nat} {use : Nat} {v : VecOp} {legal : Bool} {srcs : List Nat} {f : VecIn → VecOut} (h : Good z s) [Unwatched z.parts.tregs] [Unwatched z.parts.objs] [Unwatched z.parts.win] [Unwatched z.parts.tiles] [Unwatched z.parts.basins] : Good z (State.vecOp s t op lat use v legal srcs f) := by
  unfold State.vecOp
  exact (good_ite (State.taskFault_good h) (by
    extract_lets +onlyGivenNames -merge -useContext -underBinder v1
    have h1 : Good z v1 := (State.countReg_good h)
    split
    · extract_lets +onlyGivenNames -merge -useContext -underBinder v2 v3 v4 v5 v6
      have h5 : Good z v5 := (State.updTile_good (by refine good_snd (by assumption) ?_; exact (State.vecIn_good h1)))
      have h6 : Good z v6 := (good_foldl (fun _ _ h7 => (State.writeV_good h7)) _ h5)
      exact (good_foldl (fun _ _ h8 => (State.noteLane_good h8)) _ h6)))

theorem execBankRead_good {t : TileId} {slot : Fin 2} {o : BankOp} {s : State} (h : Good z s) [Unwatched z.parts.mem] [Unwatched z.parts.tregs] [Unwatched z.parts.objs] [Unwatched z.parts.win] [Unwatched z.parts.tiles] [Unwatched z.parts.basins] : GoodOut z (execBankRead t slot o s) := by
  unfold execBankRead; exact (goodOut_next (State.slotOp_good h (fun _ h1 => (State.bankOp_good h1))))

theorem execBankWrite_good {t : TileId} {slot : Fin 2} {o : BankOp} {s : State} (h : Good z s) [Unwatched z.parts.mem] [Unwatched z.parts.tregs] [Unwatched z.parts.objs] [Unwatched z.parts.win] [Unwatched z.parts.tiles] [Unwatched z.parts.basins] : GoodOut z (execBankWrite t slot o s) := by
  unfold execBankWrite; exact (goodOut_next (State.slotOp_good h (fun _ h1 => (State.bankOp_good h1))))

theorem execBankAlias_good {t : TileId} {slot : Fin 2} {o : BankOp} {s : State} (h : Good z s) [Unwatched z.parts.mem] [Unwatched z.parts.tregs] [Unwatched z.parts.objs] [Unwatched z.parts.win] [Unwatched z.parts.tiles] [Unwatched z.parts.basins] : GoodOut z (execBankAlias t slot o s) := by
  unfold execBankAlias; exact (goodOut_next (State.slotOp_good h (fun _ h1 => (State.bankOp_good h1))))

theorem execBankZero_good {t : TileId} {slot : Fin 2} {o : BankOp} {s : State} (h : Good z s) [Unwatched z.parts.mem] [Unwatched z.parts.tregs] [Unwatched z.parts.objs] [Unwatched z.parts.win] [Unwatched z.parts.tiles] [Unwatched z.parts.basins] : GoodOut z (execBankZero t slot o s) := by
  unfold execBankZero; exact (goodOut_next (State.slotOp_good h (fun _ h1 => (State.bankOp_good h1))))

theorem execStreamWs_good {t : TileId} {o : ArrOp} {s : State} (h : Good z s) [Unwatched z.parts.tregs] [Unwatched z.parts.objs] [Unwatched z.parts.win] [Unwatched z.parts.tiles] [Unwatched z.parts.basins] : GoodOut z (execStreamWs t o s) := by
  unfold execStreamWs; exact (goodOut_next (State.slotOp_good h (fun _ h1 => (State.stream_good h1))))

theorem execStreamAs_good {t : TileId} {o : ArrOp} {s : State} (h : Good z s) [Unwatched z.parts.tregs] [Unwatched z.parts.objs] [Unwatched z.parts.win] [Unwatched z.parts.tiles] [Unwatched z.parts.basins] : GoodOut z (execStreamAs t o s) := by
  unfold execStreamAs; exact (goodOut_next (State.slotOp_good h (fun _ h1 => (State.stream_good h1))))

theorem execStreamConv_good {t : TileId} {o : ArrOp} {s : State} (h : Good z s) [Unwatched z.parts.tregs] [Unwatched z.parts.objs] [Unwatched z.parts.win] [Unwatched z.parts.tiles] [Unwatched z.parts.basins] : GoodOut z (execStreamConv t o s) := by
  unfold execStreamConv; exact (goodOut_next (State.slotOp_good h (fun _ h1 => (State.stream_good h1))))

theorem execShadowLoad_good {t : TileId} {o : ArrOp} {s : State} (h : Good z s) [Unwatched z.parts.tregs] [Unwatched z.parts.objs] [Unwatched z.parts.win] [Unwatched z.parts.tiles] [Unwatched z.parts.basins] : GoodOut z (execShadowLoad t o s) := by
  unfold execShadowLoad; exact (goodOut_next (State.slotOp_good h (fun _ h1 => (State.shadowLoad_good h1))))

theorem execSwap_good {t : TileId} {s : State} (h : Good z s) [Unwatched z.parts.tregs] [Unwatched z.parts.objs] [Unwatched z.parts.win] [Unwatched z.parts.tiles] [Unwatched z.parts.basins] : GoodOut z (execSwap t s) := by
  unfold execSwap; exact (goodOut_next (State.slotOp_good h (fun _ h1 => (State.swap_good h1))))

theorem execClear_good {t : TileId} {o : ArrOp} {s : State} (h : Good z s) [Unwatched z.parts.tregs] [Unwatched z.parts.objs] [Unwatched z.parts.win] [Unwatched z.parts.tiles] [Unwatched z.parts.basins] : GoodOut z (execClear t o s) := by
  unfold execClear; exact (goodOut_next (State.slotOp_good h (fun _ h1 => (State.clear_good h1))))

theorem execShadowComplete_good {t : TileId} {s : State} (h : Good z s) [Unwatched z.parts.tiles] : GoodOut z (execShadowComplete t s) := by
  unfold execShadowComplete
  split
  · exact (goodOut_ite (goodOut_next (State.updArr_good h)) (goodOut_next h))
  · exact (goodOut_next h)

theorem execArrayOutput_good {t : TileId} {s : State} (h : Good z s) [Unwatched z.parts.tregs] [Unwatched z.parts.tiles] [Unwatched z.parts.basins] : GoodOut z (execArrayOutput t s) := by
  unfold execArrayOutput
  split
  · exact (goodOut_ite (goodOut_next (State.arrayOutput_good h)) (goodOut_next h))
  · exact (goodOut_next h)

theorem execChecksumCompare_good {t : TileId} {delta : Int} {s : State} (h : Good z s) [Unwatched z.parts.tregs] [Unwatched z.parts.objs] [Unwatched z.parts.win] [Unwatched z.parts.tiles] [Unwatched z.parts.basins] : GoodOut z (execChecksumCompare t delta s) := by
  unfold execChecksumCompare
  split
  · extract_lets +onlyGivenNames -merge -useContext -underBinder v1 v2
    have h1 : Good z v1 := (State.updArr_good h)
    exact (goodOut_ite (goodOut_next h1) (goodOut_next (State.arrayCheck_good h1)))
  · exact (goodOut_next h)

theorem State.injectRead_good {s : State} {t : Nat} {flat : Nat} {lanes : List Nat} {last : Bool} {deliv : Nat} {k : Nat} (h : Good z s) [Unwatched z.parts.mem] [Unwatched z.parts.tregs] [Unwatched z.parts.objs] [Unwatched z.parts.win] [Unwatched z.parts.tiles] [Unwatched z.parts.basins] : Good z (State.injectRead s t flat lanes last deliv k) := by
  unfold State.injectRead
  extract_lets +onlyGivenNames -merge -useContext -underBinder v1 v2 v3
  exact (good_ite (State.queueInjection_good (State.rejectX_good h)) (by
    extract_lets +onlyGivenNames -merge -useContext -underBinder v4
    have h4 : Good z v4 := (State.updBank_good h)
    split
    · exact (State.queueInjection_good (by refine good_snd (by assumption) ?_; exact (State.fetchRow_good h4)))
    · exact (State.updSw_good (State.countBlock_good (by refine good_snd (by assumption) ?_; exact (State.fetchRow_good h4))))))

theorem State.meshRow_good {s : State} {t : Nat} {o : MeshOp} (h : Good z s) [Unwatched z.parts.tiles] : GoodSnd z (State.meshRow s t o) := by
  unfold State.meshRow
  extract_lets +onlyGivenNames -merge -useContext -underBinder v1
  exact (goodSnd_ite (goodSnd_mk h) (by
    extract_lets +onlyGivenNames -merge -useContext -underBinder v2
    exact (goodSnd_ite (goodSnd_mk (State.updTil_good h)) (goodSnd_mk h))))

theorem State.inject_good {s : State} {t : Nat} {o : MeshOp} (h : Good z s) [Unwatched z.parts.mem] [Unwatched z.parts.tregs] [Unwatched z.parts.objs] [Unwatched z.parts.win] [Unwatched z.parts.tiles] [Unwatched z.parts.basins] : Good z (State.inject s t o) := by
  unfold State.inject
  exact (good_ite (State.taskFault_good h) (by
    extract_lets +onlyGivenNames -merge -useContext -underBinder v1 v2
    exact (good_ite (State.taskFault_good h) (by
      extract_lets +onlyGivenNames -merge -useContext -underBinder v3
      split
      · extract_lets +onlyGivenNames -merge -useContext -underBinder v4
        have h4 : Good z v4 := (State.updSw_good (by refine good_snd (by assumption) ?_; exact (State.meshRow_good h)))
        split
        · exact (good_ite (State.queueInjection_good (State.taskFault_good h4)) (State.injectRead_good (State.updSw_good h4)))))))

theorem State.landOp_good {s : State} {t : Nat} {o : MeshOp} (h : Good z s) [Unwatched z.parts.tregs] [Unwatched z.parts.objs] [Unwatched z.parts.win] [Unwatched z.parts.tiles] [Unwatched z.parts.basins] : Good z (State.landOp s t o) := by
  unfold State.landOp
  exact (good_ite (State.taskFault_good h) (by
    split
    · extract_lets +onlyGivenNames -merge -useContext -underBinder v1
      split
      · extract_lets +onlyGivenNames -merge -useContext -underBinder v2
        have h2 : ∀ a2_0 a2_1, Good z a2_0 → Good z (v2 a2_0 a2_1) := by
          intro a2_0 a2_1 h2_0
          dsimp -zeta only [v2]
          exact (State.updSw_good h2_0)
        exact (good_ite (h2 _ _ (State.taskFault_good (by refine good_snd (by assumption) ?_; exact (State.meshRow_good h)))) (good_ite (h2 _ _ (State.taskFault_good (by refine good_snd (by assumption) ?_; exact (State.meshRow_good h)))) (State.updSw_good (h2 _ _ (by refine good_snd (by assumption) ?_; exact (State.meshRow_good h))))))))

theorem State.wheelStage_good {s : State} {t : Nat} {lane : Nat} {slot : Nat} {e : Word32} (h : Good z s) [Unwatched z.parts.tregs] [Unwatched z.parts.objs] [Unwatched z.parts.win] [Unwatched z.parts.tiles] [Unwatched z.parts.basins] : Good z (State.wheelStage s t lane slot e) := by
  unfold State.wheelStage; exact (good_ite (State.taskFault_good h) (State.stageEntry_good h))

theorem execInject_good {t : TileId} {o : MeshOp} {s : State} (h : Good z s) [Unwatched z.parts.mem] [Unwatched z.parts.tregs] [Unwatched z.parts.objs] [Unwatched z.parts.win] [Unwatched z.parts.tiles] [Unwatched z.parts.basins] [Unwatched z.parts.seams] [Unwatched z.parts.boot] : GoodOut z (execInject t o s) := by
  unfold execInject; exact (goodOut_next (State.slotOp_good h (fun _ h1 => (State.serveLanes_good (State.inject_good h1)))))

theorem execLand_good {t : TileId} {o : MeshOp} {s : State} (h : Good z s) [Unwatched z.parts.mem] [Unwatched z.parts.tregs] [Unwatched z.parts.objs] [Unwatched z.parts.win] [Unwatched z.parts.tiles] [Unwatched z.parts.basins] [Unwatched z.parts.seams] [Unwatched z.parts.boot] : GoodOut z (execLand t o s) := by
  unfold execLand; exact (goodOut_next (State.slotOp_good h (fun _ h1 => (State.serveLanes_good (State.landOp_good h1)))))

theorem execWheelStage_good {t : TileId} {lane : LaneId} {slot : Fin 64} {r : SReg} {s : State} (h : Good z s) [Unwatched z.parts.mem] [Unwatched z.parts.tregs] [Unwatched z.parts.objs] [Unwatched z.parts.win] [Unwatched z.parts.tiles] [Unwatched z.parts.basins] [Unwatched z.parts.seams] [Unwatched z.parts.boot] : GoodOut z (execWheelStage t lane slot r s) := by
  unfold execWheelStage; exact (goodOut_next (State.slotOp_good h (fun _ h1 => (State.serveLanes_good (State.wheelStage_good h1)))))

theorem State.tokenArrive_good {s0 : State} {t : Nat} {i : Nat} {tok : Option Token} {par : Option Nat} (hs0 : Good z s0) [Unwatched z.parts.mem] [Unwatched z.parts.tregs] [Unwatched z.parts.objs] [Unwatched z.parts.win] [Unwatched z.parts.tiles] [Unwatched z.parts.basins] [Unwatched z.parts.seams] [Unwatched z.parts.boot] : Good z (State.tokenArrive s0 t i tok par) := by
  unfold State.tokenArrive
  extract_lets +onlyGivenNames -merge -useContext -underBinder v1 v2
  have h1 : Good z v1 := (by
    unfold v1
    split
    · exact (State.parityUse_good (State.upset_good hs0))
    · exact hs0)
  split
  · exact h1
  · split
    · exact h1
    · exact (good_ite (State.serveLane_good h1) (good_ite h1 (by
        extract_lets +onlyGivenNames -merge -useContext -underBinder v3
        have h3 : ∀ a3_0 a3_1, Good z a3_1 → Good z (v3 a3_0 a3_1) := by
          intro a3_0 a3_1 h3_1
          dsimp -zeta only [v3]
          exact (State.serveLane_good (State.handshake_good (State.updSw_good h3_1)))
        exact (good_ite (h3 _ _ h1) (h3 _ _ (State.updSw_good h1))))))

theorem execTokenArrive_good {t : TileId} {lane : LaneId} {tok : Option Token} {par : Option LaneId} {s : State} (h : Good z s) [Unwatched z.parts.mem] [Unwatched z.parts.tregs] [Unwatched z.parts.objs] [Unwatched z.parts.win] [Unwatched z.parts.tiles] [Unwatched z.parts.basins] [Unwatched z.parts.seams] [Unwatched z.parts.boot] : GoodOut z (execTokenArrive t lane tok par s) := by
  unfold execTokenArrive; exact (goodOut_next (State.tokenArrive_good h))

theorem State.laneAcked_good {s : State} {t : Nat} {o : Nat} (h : Good z s) [Unwatched z.parts.tiles] : Good z (State.laneAcked s t o) := by
  unfold State.laneAcked; exact (State.updSw_good h)

theorem State.tokenAck_good {s : State} {t : Nat} {o : Nat} (h : Good z s) [Unwatched z.parts.tiles] : Good z (State.tokenAck s t o) := by
  unfold State.tokenAck
  split
  · exact (good_ite (by
      extract_lets +onlyGivenNames -merge -useContext -underBinder v1
      exact (good_ite (State.laneAcked_good (State.updSw_good h)) h)) (by
      extract_lets +onlyGivenNames -merge -useContext -underBinder v2 v3
      exact (good_ite (State.laneAcked_good (State.updSw_good h)) h)))
  · exact h

theorem State.seamAgree_good {s : State} {t : Nat} {o : Nat} {off : BitVec 6} (h : Good z s) [Unwatched z.parts.seams] : Good z (State.seamAgree s t o off) := by
  unfold State.seamAgree
  split
  · exact h
  · extract_lets +onlyGivenNames -merge -useContext -underBinder v1
    exact (State.updSeam_good h)

theorem execTokenAck_good {t : TileId} {lane : LaneId} {off : BitVec 6} {s : State} (h : Good z s) [Unwatched z.parts.tregs] [Unwatched z.parts.tiles] [Unwatched z.parts.seams] : GoodOut z (execTokenAck t lane off s) := by
  unfold execTokenAck
  extract_lets +onlyGivenNames -merge -useContext -underBinder v1 v2
  have h1 : Good z v1 := (State.tokenAck_good h)
  exact (goodOut_next (good_ite (by
    extract_lets +onlyGivenNames -merge -useContext -underBinder v3
    have h3 : Good z v3 := (State.handshake_good (State.seamAgree_good h1))
    split
    · exact (State.handshake_good h3)
    · exact h3) h1))

theorem State.upsetInjection_good {s : State} {t : Nat} {k : Nat} (h : Good z s) [Unwatched z.parts.tregs] [Unwatched z.parts.objs] [Unwatched z.parts.win] [Unwatched z.parts.tiles] [Unwatched z.parts.basins] : Good z (State.upsetInjection s t k) := by
  unfold State.upsetInjection
  split
  · exact h
  · exact (State.parityUse_good (State.upset_good h))

theorem State.wheelInjection_good {s0 : State} {t : Nat} {k : Nat} {par : Bool} (hs0 : Good z s0) [Unwatched z.parts.mem] [Unwatched z.parts.tregs] [Unwatched z.parts.objs] [Unwatched z.parts.win] [Unwatched z.parts.tiles] [Unwatched z.parts.basins] : Good z (State.wheelInjection s0 t k par) := by
  unfold State.wheelInjection
  extract_lets +onlyGivenNames -merge -useContext -underBinder v1
  exact (good_ite hs0 (by
    extract_lets +onlyGivenNames -merge -useContext -underBinder v2 v3
    have h2 : Good z v2 := (good_ite (State.upsetInjection_good hs0) hs0)
    clear_value v3
    split
    · exact h2
    · extract_lets +onlyGivenNames -merge -useContext -underBinder v4
      split
      · extract_lets +onlyGivenNames -merge -useContext -underBinder v5 v6
        have h6 : Good z v6 := (State.circUse_good (State.updSw_good h2))
        split
        · exact (State.queueInjection_good (State.taskFault_good h6))
        · exact (good_ite (State.queueInjection_good (State.excess_good h6)) (State.injectRead_good h6))))

theorem execWheelInjection_good {t : TileId} {k : Fin 32} {par : Bool} {s : State} (h : Good z s) [Unwatched z.parts.mem] [Unwatched z.parts.tregs] [Unwatched z.parts.objs] [Unwatched z.parts.win] [Unwatched z.parts.tiles] [Unwatched z.parts.basins] : GoodOut z (execWheelInjection t k par s) := by
  unfold execWheelInjection; exact (goodOut_next (State.wheelInjection_good h))

theorem State.wheelBatch_good {s : State} {t : Nat} {v : Nat} (h : Good z s) [Unwatched z.parts.tiles] : GoodSnd z (State.wheelBatch s t v) := by
  unfold State.wheelBatch
  exact (goodSnd_ite (goodSnd_mk h) (by
    extract_lets +onlyGivenNames -merge -useContext -underBinder v1 v2
    exact (goodSnd_mk (State.updTile_good h))))

theorem execWheelDataWrite_good {t : TileId} {ctx : Option (Fin 4)} {val : Word32} {s : State} (h : Good z s) [Unwatched z.parts.tregs] [Unwatched z.parts.objs] [Unwatched z.parts.win] [Unwatched z.parts.tiles] [Unwatched z.parts.basins] : GoodOut z (execWheelDataWrite t ctx val s) := by
  unfold execWheelDataWrite; exact (goodOut_next (State.ctl0Write_good h (fun _ _ h1 => (goodSnd_ite (State.wheelBatch_good h1) (State.wheelWrite_good h1)))))

theorem execCircWrite_good {t : TileId} {ctx : Option (Fin 4)} {k : Fin 32} {row : Bool} {val : Word32} {s : State} (h : Good z s) [Unwatched z.parts.mem] [Unwatched z.parts.tregs] [Unwatched z.parts.objs] [Unwatched z.parts.win] [Unwatched z.parts.tiles] [Unwatched z.parts.basins] [Unwatched z.parts.irqQ] [Unwatched z.parts.srv] : GoodOut z (execCircWrite t ctx k row val s) := by
  unfold execCircWrite
  extract_lets +onlyGivenNames -merge -useContext -underBinder v1
  exact (goodOut_next (by
    split
    · exact (State.towpathAsk_good h (fun _ h2 => (State.regWrite_good h2)))
    · exact (good_ite h (goodSnd_get (State.regWrite_good h)))))

theorem State.retryInjects_good {s : State} {t : Nat} {b : Nat} (h : Good z s) [Unwatched z.parts.mem] [Unwatched z.parts.tregs] [Unwatched z.parts.objs] [Unwatched z.parts.win] [Unwatched z.parts.tiles] [Unwatched z.parts.basins] : Good z (State.retryInjects s t b) := by
  unfold State.retryInjects
  extract_lets +onlyGivenNames -merge -useContext -underBinder v1 v2 v3
  have h3 : Good z v3 := (by
    unfold v3
    split
    · exact (good_ite (by
        split
        · exact (State.queueInjection_good (State.updSw_good (by refine good_snd (by assumption) ?_; exact (State.fetchRow_good h))))
        · exact h) h)
    · exact h)
  exact (good_foldl (fun _ _ h4 => (good_ite (by
      split
      · extract_lets +onlyGivenNames -merge -useContext -underBinder v5
        exact (State.queueInjection_good (State.updSw_good (by refine good_snd (by assumption) ?_; exact (State.fetchRow_good h4))))
      · exact h4) h4)) _ h3)

theorem execPailResume_good {t : TileId} {bank : BankId} {s : State} (h : Good z s) [Unwatched z.parts.mem] [Unwatched z.parts.tregs] [Unwatched z.parts.objs] [Unwatched z.parts.win] [Unwatched z.parts.tiles] [Unwatched z.parts.basins] : GoodOut z (execPailResume t bank s) := by
  unfold execPailResume; exact (goodOut_next (good_ite (State.retryInjects_good (State.retryLands_good (State.retryStreams_good h))) h))

theorem State.stall_good {s : State} {h_ : Nat} {mask : BitVec 16} (h : Good z s) [Unwatched z.parts.objs] [Unwatched z.parts.basins] [Unwatched z.parts.alarmQ] : Good z (State.stall s h_ mask) := by
  unfold State.stall
  extract_lets +onlyGivenNames -merge -useContext -underBinder v1
  clear_value v1
  split
  · exact h
  · split
    · exact h
    · extract_lets +onlyGivenNames -merge -useContext -underBinder v2
      exact (good_ite h (by
        extract_lets +onlyGivenNames -merge -useContext -underBinder v3 v4 v5 v6
        have h5 : Good z v5 := (State.updBasin_good h)
        have h6 : Good z v6 := (good_alarmQ h5 _)
        exact (State.bumpObj_good h6)))

theorem execStall_good {b : BerthId} {mask : BitVec 16} {s : State} (h : Good z s) [Unwatched z.parts.objs] [Unwatched z.parts.basins] [Unwatched z.parts.alarmQ] : GoodOut z (execStall b mask s) := by
  unfold execStall; exact (goodOut_next (State.stall_good h))

theorem State.stallRecord_good {s : State} {b : Nat} (h : Good z s) [Unwatched z.parts.objs] [Unwatched z.parts.basins] : Good z (State.stallRecord s b) := by
  unfold State.stallRecord
  extract_lets +onlyGivenNames -merge -useContext -underBinder v1 v2
  split
  · exact h
  · extract_lets +onlyGivenNames -merge -useContext -underBinder v3 v4
    have h4 : Good z v4 := (good_foldl (fun _ _ h5 => (State.setObj_good h5)) _ h)
    exact (State.raiseStop_good (State.updBasin_good h4))

theorem execStallRecord_good {b : BasinId} {s : State} (h : Good z s) [Unwatched z.parts.objs] [Unwatched z.parts.basins] : GoodOut z (execStallRecord b s) := by
  unfold execStallRecord; exact (goodOut_next (State.stallRecord_good h))

theorem State.hsPulse_good {s : State} {t : Nat} (h : Good z s) [Unwatched z.parts.tregs] [Unwatched z.parts.tiles] : Good z (State.hsPulse s t) := by
  unfold State.hsPulse
  extract_lets +onlyGivenNames -merge -useContext -underBinder v1 v2
  exact (good_ite (by
    extract_lets +onlyGivenNames -merge -useContext -underBinder v3
    exact (State.setRegN_good (State.updSw_good h))) h)

theorem State.countStreams_good {s : State} {t : Nat} (h : Good z s) [Unwatched z.parts.tregs] [Unwatched z.parts.tiles] : Good z (State.countStreams s t) := by
  unfold State.countStreams; exact (good_foldl (fun _ _ h1 => (good_ite (State.putStream_good (State.countBlock_good h1)) h1)) _ h)

theorem State.heldPulse_good {s : State} {t : Nat} (h : Good z s) [Unwatched z.parts.tregs] [Unwatched z.parts.objs] [Unwatched z.parts.win] [Unwatched z.parts.tiles] [Unwatched z.parts.basins] [Unwatched z.parts.boot] : Good z (State.heldPulse s t) := by
  unfold State.heldPulse
  extract_lets +onlyGivenNames -merge -useContext -underBinder v1 v2 v3 v4
  have h2 : Good z v2 := (State.departHeld_good (State.countStreams_good (State.bumpReg_good h)))
  have h3 : Good z v3 := (good_ite h2 (State.bumpReg_good h2))
  exact (good_ite h3 (State.countReg_good h3))

theorem State.pacePulse_good {s : State} {t : Nat} (h : Good z s) [Unwatched z.parts.tregs] [Unwatched z.parts.objs] [Unwatched z.parts.win] [Unwatched z.parts.tiles] [Unwatched z.parts.basins] [Unwatched z.parts.boot] : Good z (State.pacePulse s t) := by
  unfold State.pacePulse
  extract_lets +onlyGivenNames -merge -useContext -underBinder v1 v2 v3 v4
  have h3 : Good z v3 := (good_ite (State.setRegN_good h) h)
  have h4 : Good z v4 := (State.updTil_good (State.hsPulse_good h3))
  exact (good_ite h4 (good_ite (State.heldPulse_good h4) (State.updTil_good h4)))

theorem State.idleBanks_good {s : State} {t : Nat} (h : Good z s) [Unwatched z.parts.mem] [Unwatched z.parts.tregs] [Unwatched z.parts.objs] [Unwatched z.parts.win] [Unwatched z.parts.tiles] [Unwatched z.parts.basins] : Good z (State.idleBanks s t) := by
  unfold State.idleBanks; exact (good_ite h (State.winStep_good (State.copyEnds_good h)))

theorem State.raiseDues_good {s : State} {t : Nat} {beat : Nat} (h : Good z s) [Unwatched z.parts.tregs] [Unwatched z.parts.objs] [Unwatched z.parts.win] [Unwatched z.parts.tiles] [Unwatched z.parts.basins] : Good z (State.raiseDues s t beat) := by
  unfold State.raiseDues
  extract_lets +onlyGivenNames -merge -useContext -underBinder v1 v2
  have h2 : Good z v2 := (State.updTile_good h)
  exact (good_foldl (fun _ _ h3 => (good_ite (State.poisonTaken_good h3) (State.tileError_good h3))) _ h2)

theorem State.ownersJudge_good {s : State} {t : Nat} (h : Good z s) [Unwatched z.parts.tiles] : Good z (State.ownersJudge s t) := by
  unfold State.ownersJudge; exact (good_foldl (fun _ _ h1 => (good_ite (State.ownerJudge_good h1) h1)) _ h)

theorem State.circTurn_good {s : State} {t : Nat} (h : Good z s) [Unwatched z.parts.tregs] [Unwatched z.parts.tiles] : Good z (State.circTurn s t) := by
  unfold State.circTurn
  extract_lets +onlyGivenNames -merge -useContext -underBinder v1 v2 v5 v6
  have h1 : Good z v1 := (State.circAdvance_good h)
  have h2 : Good z v2 := (good_ite (good_foldl (fun _ _ h3 => (by
      extract_lets +onlyGivenNames -merge -useContext -underBinder v4
      exact (good_ite h3 (State.setRegN_good h3)))) _ h1) h1)
  have h6 : Good z v6 := (State.updSw_good h2)
  exact (good_foldl (fun _ _ h7 => (State.circStore_good h7)) _ h6)

theorem State.countCheck_good {s : State} {t : Nat} (h : Good z s) [Unwatched z.parts.tregs] [Unwatched z.parts.objs] [Unwatched z.parts.win] [Unwatched z.parts.tiles] [Unwatched z.parts.basins] : Good z (State.countCheck s t) := by
  unfold State.countCheck
  extract_lets +onlyGivenNames -merge -useContext -underBinder v1 v2 v3 v4
  exact (good_ite (by
    extract_lets +onlyGivenNames -merge -useContext -underBinder v5
    have h5 : Good z v5 := (State.tileError_good h)
    split
    · exact (State.bumpObj_good h5)
    · exact h5) h)

theorem State.beatEnd_good {s : State} {t : Nat} (h : Good z s) [Unwatched z.parts.mem] [Unwatched z.parts.tregs] [Unwatched z.parts.objs] [Unwatched z.parts.win] [Unwatched z.parts.tiles] [Unwatched z.parts.basins] [Unwatched z.parts.irqQ] [Unwatched z.parts.srv] : Good z (State.beatEnd s t) := by
  unfold State.beatEnd
  extract_lets +onlyGivenNames -merge -useContext -underBinder v1 v2 v3 v4 v5 v6 v7 v8
  have h2 : Good z v2 := (State.arrayBeat_good h)
  have h3 : Good z v3 := (State.streamWrites_good h2)
  have h4 : Good z v4 := (by
    unfold v4
    split
    · exact (goodSnd_get (State.regWrite_good h3))
    · exact h3)
  have h5 : Good z v5 := (State.applyVWrites_good (State.applySWrites_good (State.endDraws_good h4)))
  have h6 : Good z v6 := (State.countCheck_good (State.circTurn_good (State.raiseDues_good h5)))
  have h7 : Good z v7 := (State.countReg_good (good_ite (State.countReg_good h6) h6))
  have h8 : Good z v8 := (State.ownersJudge_good (State.winStep_good (State.copyEnds_good h7)))
  exact (State.updTile_good h8)

theorem State.beatBegin_good {s : State} {t : Nat} (h : Good z s) [Unwatched z.parts.mem] [Unwatched z.parts.tregs] [Unwatched z.parts.objs] [Unwatched z.parts.win] [Unwatched z.parts.tiles] [Unwatched z.parts.basins] [Unwatched z.parts.seams] [Unwatched z.parts.boot] : Good z (State.beatBegin s t) := by
  unfold State.beatBegin
  extract_lets +onlyGivenNames -merge -useContext -underBinder v1 v2
  have h1 : Good z v1 := (State.setRegN_good h)
  have h2 : Good z v2 := (good_ite (State.nextBundle_good h1) h1)
  exact (State.serveLanes_good (State.departures_good (State.parityBeat_good (State.streamsBeat_good (State.restartGens_good h2)))))

theorem State.reachLock_good {s : State} {t : Nat} (h : Good z s) [Unwatched z.parts.mem] [Unwatched z.parts.tregs] [Unwatched z.parts.objs] [Unwatched z.parts.win] [Unwatched z.parts.tiles] [Unwatched z.parts.basins] : Good z (State.reachLock s t) := by
  unfold State.reachLock
  extract_lets +onlyGivenNames -merge -useContext -underBinder v1 v2
  have h1 : Good z v1 := (State.updTile_good h)
  have h2 : Good z v2 := (State.streamsBeat_good (good_ite (State.fetch_good h1) h1))
  split
  · exact h2
  · extract_lets +onlyGivenNames -merge -useContext -underBinder v3
    exact (good_ite (good_foldl (fun _ _ h4 => (State.updTile_good h4)) _ h2) h2)

theorem State.stopBundle_good {s : State} {t : Nat} (h : Good z s) [Unwatched z.parts.tiles] : Good z (State.stopBundle s t) := by
  unfold State.stopBundle; exact (State.updTil_good h)

theorem State.tillerMismatch_good {s : State} {t : Nat} (h : Good z s) [Unwatched z.parts.tregs] [Unwatched z.parts.objs] [Unwatched z.parts.win] [Unwatched z.parts.tiles] [Unwatched z.parts.basins] : Good z (State.tillerMismatch s t) := by
  unfold State.tillerMismatch; exact (State.tileError_good (State.bumpReg_good (State.updTil_good h)))

theorem State.feedFails_good {s : State} {t : Nat} {src : Nat} (h : Good z s) [Unwatched z.parts.tiles] : Good z (State.feedFails s t src) := by
  unfold State.feedFails
  extract_lets +onlyGivenNames -merge -useContext -underBinder v1
  exact (State.updArr_good h)

theorem State.guardFails_good {s : State} {t : Nat} {c : CheckFail} (h : Good z s) [Unwatched z.parts.tregs] [Unwatched z.parts.objs] [Unwatched z.parts.win] [Unwatched z.parts.tiles] [Unwatched z.parts.basins] : Good z (State.guardFails s t c) := by
  unfold State.guardFails
  split
  · exact (State.tillerMismatch_good h)
  · exact (State.tileError_good h)
  · exact h
  · exact (State.arrayCheck_good h)
  · exact (State.arrayCheck_good h)
  · exact (State.arrayCheck_good (State.feedFails_good h))

theorem State.beatComplete_good {s : State} {t : Nat} {chk : Option CheckFail} (h : Good z s) [Unwatched z.parts.mem] [Unwatched z.parts.tregs] [Unwatched z.parts.objs] [Unwatched z.parts.win] [Unwatched z.parts.tiles] [Unwatched z.parts.basins] [Unwatched z.parts.seams] [Unwatched z.parts.irqQ] [Unwatched z.parts.srv] [Unwatched z.parts.boot] : Good z (State.beatComplete s t chk) := by
  unfold State.beatComplete
  extract_lets +onlyGivenNames -merge -useContext -underBinder v1
  have h1 : Good z v1 := (by
    unfold v1
    split
    · exact (State.stopBundle_good h)
    · exact h)
  exact (good_ite (by
    extract_lets +onlyGivenNames -merge -useContext -underBinder v2 v3 v4
    have h3 : Good z v3 := (by
      unfold v3
      split
      · exact (State.guardFails_good h1)
      · exact h1)
    have h4 : Good z v4 := (State.beatEnd_good h3)
    exact (good_ite (State.reachLock_good h4) (by
      extract_lets +onlyGivenNames -merge -useContext -underBinder v5
      exact (good_ite (State.updTile_good h4) (good_ite h4 (State.beatBegin_good (State.updTil_good h4))))))) (by
    extract_lets +onlyGivenNames -merge -useContext -underBinder v6 v7
    exact (State.serveLanes_good (good_ite (State.arrayDrain_good h) h))))

theorem execBeatComplete_good {t : TileId} {chk : Option CheckFail} {s : State} (h : Good z s) [Unwatched z.parts.mem] [Unwatched z.parts.tregs] [Unwatched z.parts.objs] [Unwatched z.parts.win] [Unwatched z.parts.tiles] [Unwatched z.parts.basins] [Unwatched z.parts.seams] [Unwatched z.parts.irqQ] [Unwatched z.parts.srv] [Unwatched z.parts.boot] : GoodOut z (execBeatComplete t chk s) := by
  unfold execBeatComplete; exact (goodOut_next (State.beatComplete_good h))

end Sys2Proof.Machine
end

