-- ==== Sys2Proof/Laws/KeepLink.lean ====
section
/-! SUPPORT. The operations of LinkOps, ServBase, HostOps, TowpathOps keep the queue, the canonical form, and every
part of the device that their premises do not name. -/

namespace Sys2Proof.Machine

open Sys2Proof

variable {z : Watch}

theorem State.updPort_good {s : State} {p : Nat} {f : Port → Port} (h : Good z s) [Unwatched z.parts.link] : Good z (State.updPort s p f) := by
  unfold State.updPort; exact (good_link h _)

theorem State.sendCtrl_good {s : State} {p : Nat} {op : Nat} {body : BitVec 240} (h : Good z s) [Unwatched z.parts.link] : Good z (State.sendCtrl s p op body) := by
  unfold State.sendCtrl
  extract_lets +onlyGivenNames -merge -useContext -underBinder v1
  have h1 : Good z v1 := (State.updPort_good h)
  exact (good_ite (State.updPort_good h1) h1)

theorem State.sendNak_good {s : State} {p : Nat} (h : Good z s) [Unwatched z.parts.link] : Good z (State.sendNak s p) := by
  unfold State.sendNak; exact (good_ite h (State.sendCtrl_good (State.updPort_good h)))

theorem State.grant_good {s : State} {p : Nat} {c : Nat} {n : Nat} (h : Good z s) [Unwatched z.parts.link] : Good z (State.grant s p c n) := by
  unfold State.grant
  extract_lets +onlyGivenNames -merge -useContext -underBinder v1
  exact (State.sendCtrl_good (State.updPort_good h))

theorem State.freeFlit_good {s : State} {p : Nat} {c : Nat} (h : Good z s) [Unwatched z.parts.link] : Good z (State.freeFlit s p c) := by
  unfold State.freeFlit
  exact (good_ite h (good_ite (State.grant_good h) (by
    extract_lets +onlyGivenNames -merge -useContext -underBinder v1 v2 v3
    exact (good_ite (State.grant_good (State.updPort_good h)) (State.grant_good h)))))

theorem State.linkGrants_good {s : State} {p : Nat} (h : Good z s) [Unwatched z.parts.link] : Good z (State.linkGrants s p) := by
  unfold State.linkGrants
  extract_lets +onlyGivenNames -merge -useContext -underBinder v1 v2 v3
  have h3 : Good z v3 := (State.updPort_good h)
  exact (good_foldl (fun _ _ h4 => (State.sendCtrl_good h4)) _ h3)

theorem State.startRetrain_good {s : State} {p : Nat} (h : Good z s) [Unwatched z.parts.objs] [Unwatched z.parts.irqQ] [Unwatched z.parts.link] : Good z (State.startRetrain s p) := by
  unfold State.startRetrain; exact (good_ite (State.updPort_good (State.agentIrq_good (State.bumpObj_good (State.setObj_good h)))) h)

theorem State.portFailed_good {s : State} {p : Nat} (h : Good z s) [Unwatched z.parts.objs] [Unwatched z.parts.alarmQ] [Unwatched z.parts.link] : Good z (State.portFailed s p) := by
  unfold State.portFailed; exact (State.updPort_good (State.agentAlarm_good (State.setObj_good h)))

theorem State.replayFrom_good {s : State} {p : Nat} {l : List Flit} (h : Good z s) [Unwatched z.parts.objs] [Unwatched z.parts.win] [Unwatched z.parts.irqQ] [Unwatched z.parts.link] : Good z (State.replayFrom s p l) := by
  unfold State.replayFrom
  extract_lets +onlyGivenNames -merge -useContext -underBinder v1
  exact (good_ite (State.startRetrain_good (State.updPort_good h)) (State.bumpWin_good (State.updPort_good h)))

theorem State.onAck_good {s : State} {p : Nat} {fseq : Nat} (h : Good z s) [Unwatched z.parts.link] : Good z (State.onAck s p fseq) := by
  unfold State.onAck
  extract_lets +onlyGivenNames -merge -useContext -underBinder v1
  split
  · exact (State.updPort_good h)
  · exact h

theorem State.onNak_good {s : State} {p : Nat} {fseq : Nat} (h : Good z s) [Unwatched z.parts.objs] [Unwatched z.parts.win] [Unwatched z.parts.irqQ] [Unwatched z.parts.link] : Good z (State.onNak s p fseq) := by
  unfold State.onNak
  extract_lets +onlyGivenNames -merge -useContext -underBinder v1
  split
  · exact (State.replayFrom_good h)
  · exact h

theorem State.sendFlit_good {s : State} {p : Nat} {typ : Nat} {poison : Bool} {last : Bool} {ch : Nat} {ridx : Nat} {pool : Nat} {w : CodeWord} (h : Good z s) [Unwatched z.parts.link] : Good z (State.sendFlit s p typ poison last ch ridx pool w) := by
  unfold State.sendFlit; exact (State.updPort_good h)

theorem State.newLinkUp_good {s : State} {p : Nat} (h : Good z s) [Unwatched z.parts.link] : Good z (State.newLinkUp s p) := by
  unfold State.newLinkUp
  extract_lets +onlyGivenNames -merge -useContext -underBinder v1
  have h1 : Good z v1 := (State.updPort_good h)
  exact (State.sendCtrl_good h1)

theorem State.beginAttempt_good {s : State} {p : Nat} (h : Good z s) [Unwatched z.parts.objs] [Unwatched z.parts.link] : Good z (State.beginAttempt s p) := by
  unfold State.beginAttempt; exact (State.newLinkUp_good (State.updPort_good (State.setObj_good h)))

theorem State.portEnable_good {s : State} {p : Nat} {en : Nat} (h : Good z s) [Unwatched z.parts.objs] [Unwatched z.parts.link] : Good z (State.portEnable s p en) := by
  unfold State.portEnable
  extract_lets +onlyGivenNames -merge -useContext -underBinder v1
  have h1 : Good z v1 := (State.setObj_good h)
  exact (good_ite (State.updPort_good (State.setObj_good h1)) (State.beginAttempt_good (State.updPort_good h1)))

theorem State.sendSync_good {s : State} {p : Nat} (h : Good z s) [Unwatched z.parts.link] : Good z (State.sendSync s p) := by
  unfold State.sendSync
  extract_lets +onlyGivenNames -merge -useContext -underBinder v1 v2
  exact (good_foldl (fun _ _ h3 => (State.sendCtrl_good h3)) _ h)

theorem State.portReady_good {s : State} {p : Nat} {w : Nat} (h : Good z s) [Unwatched z.parts.objs] [Unwatched z.parts.link] : Good z (State.portReady s p w) := by
  unfold State.portReady
  extract_lets +onlyGivenNames -merge -useContext -underBinder v1 v2 v3 v4 v5 v6
  have h5 : Good z v5 := (State.setObj_good (State.setObj_good (State.setObj_good (State.setObj_good (State.setObj_good h)))))
  have h6 : Good z v6 := (State.linkGrants_good (State.updPort_good h5))
  exact (good_ite (State.sendSync_good h6) h6)

theorem State.onHello_good {s : State} {p : Nat} {b : BitVec 240} (h : Good z s) [Unwatched z.parts.objs] [Unwatched z.parts.alarmQ] [Unwatched z.parts.link] : Good z (State.onHello s p b) := by
  unfold State.onHello
  extract_lets +onlyGivenNames -merge -useContext -underBinder v1 v2 v3 v4
  exact (good_ite (State.updPort_good (State.agentAlarm_good (State.setObj_good h))) (by
    extract_lets +onlyGivenNames -merge -useContext -underBinder v5 v6 v7
    have h6 : Good z v6 := (good_ite (State.setObj_good h) h)
    have h7 : Good z v7 := (good_ite h6 (State.updPort_good (State.setObj_good h6)))
    exact (good_ite (by
      extract_lets +onlyGivenNames -merge -useContext -underBinder v8
      have h8 : Good z v8 := (State.updPort_good h7)
      split
      · exact (State.portReady_good h8)
      · exact h8) (State.sendCtrl_good h7))))

theorem State.syncGap_good {s : State} {p : Nat} {c : Nat} (h : Good z s) [Unwatched z.parts.alarmQ] [Unwatched z.parts.link] : Good z (State.syncGap s p c) := by
  unfold State.syncGap; exact (State.agentAlarm_good (State.updPort_good h))

theorem State.landNow_good {s : State} {t : Nat} {flat : Nat} {key : Nat} {rank : Option Nat} {rec_ : Row} (h : Good z s) [Unwatched z.parts.mem] [Unwatched z.parts.tregs] [Unwatched z.parts.objs] [Unwatched z.parts.win] [Unwatched z.parts.tiles] [Unwatched z.parts.basins] : GoodOpt z (State.landNow s t flat key rank rec_) := by
  unfold State.landNow
  split
  · exact goodOpt_none
  · extract_lets +onlyGivenNames -merge -useContext -underBinder v1
    have h1 : Good z v1 := (State.unblock_good (State.bumpReg_good (good_ite (State.bargeUse_good (by refine good_snd (by assumption) ?_; exact (State.landRow_good h))) (by refine good_snd (by assumption) ?_; exact (State.landRow_good h)))))
    exact (goodOpt_some (good_ite h1 (State.bumpReg_good h1)))

theorem State.landRecord_good {s : State} {t : Nat} {flat : Nat} {key : Nat} {rank : Option Nat} {rec_ : Row} (h : Good z s) [Unwatched z.parts.mem] [Unwatched z.parts.tregs] [Unwatched z.parts.objs] [Unwatched z.parts.win] [Unwatched z.parts.tiles] [Unwatched z.parts.basins] : GoodOpt z (State.landRecord s t flat key rank rec_) := by
  unfold State.landRecord; exact (goodOpt_ite goodOpt_none (State.landNow_good h))

theorem State.recordWaits_good {s : State} {t : Nat} {flat : Nat} {key : Nat} {rank : Option Nat} (h : Good z s) [Unwatched z.parts.tregs] [Unwatched z.parts.tiles] : Good z (State.recordWaits s t flat key rank) := by
  unfold State.recordWaits; exact (good_ite (State.bargeAsk_good h) (State.blockLand_good h))

theorem State.reportBarge_good {s : State} {p : Nat} {ch : Nat} {b : TxBarge} {rec_ : Row} (h : Good z s) [Unwatched z.parts.mem] [Unwatched z.parts.tregs] [Unwatched z.parts.objs] [Unwatched z.parts.win] [Unwatched z.parts.tiles] [Unwatched z.parts.basins] [Unwatched z.parts.link] : GoodOpt z (State.reportBarge s p ch b rec_) := by
  unfold State.reportBarge
  extract_lets +onlyGivenNames -merge -useContext -underBinder v1 v2 v3 v4 v5 v6 v7
  split
  · exact goodOpt_none
  · extract_lets +onlyGivenNames -merge -useContext -underBinder v8
    have h8 : Good z v8 := (State.updPort_good (by refine good_opt (by assumption) ?_; exact (goodOpt_ite (State.landRecord_good h) (goodOpt_some h))))
    exact (goodOpt_some (good_ite (State.bumpObj_good h8) h8))

theorem State.syncChannel_good {s : State} {p : Nat} {ch : Nat} {e : Nat} (h : Good z s) [Unwatched z.parts.mem] [Unwatched z.parts.tregs] [Unwatched z.parts.objs] [Unwatched z.parts.win] [Unwatched z.parts.tiles] [Unwatched z.parts.basins] [Unwatched z.parts.alarmQ] [Unwatched z.parts.link] : Good z (State.syncChannel s p ch e) := by
  unfold State.syncChannel
  extract_lets +onlyGivenNames -merge -useContext -underBinder v1 v2 v3
  clear_value v2
  split
  · exact (good_ite (State.syncGap_good h) h)
  · exact (good_ite (State.syncGap_good h) (good_ite (State.syncGap_good h) (by
      extract_lets +onlyGivenNames -merge -useContext -underBinder v4 v5 v6
      have h6 : Good z v6 := (State.updPort_good h)
      exact (good_foldl (fun _ _ h7 => (good_getD (State.reportBarge_good h7) h7)) _ h6))))

theorem State.onSync_good {s : State} {p : Nat} {b : BitVec 240} (h : Good z s) [Unwatched z.parts.mem] [Unwatched z.parts.tregs] [Unwatched z.parts.objs] [Unwatched z.parts.win] [Unwatched z.parts.tiles] [Unwatched z.parts.basins] [Unwatched z.parts.alarmQ] [Unwatched z.parts.link] : Good z (State.onSync s p b) := by
  unfold State.onSync
  exact (good_ite (State.updPort_good h) (by
    extract_lets +onlyGivenNames -merge -useContext -underBinder v1 v2 v3
    have h3 : Good z v3 := (State.updPort_good h)
    exact (good_ite (by
      extract_lets +onlyGivenNames -merge -useContext -underBinder v4 v5
      have h5 : Good z v5 := (good_ite h3 (good_foldl (fun _ _ h6 => (State.syncChannel_good h6)) _ h3))
      exact (State.sendCtrl_good (State.updPort_good h5))) h3)))

theorem State.onMode_good {s : State} {p : Nat} {b : BitVec 240} (h : Good z s) [Unwatched z.parts.objs] [Unwatched z.parts.link] : Good z (State.onMode s p b) := by
  unfold State.onMode
  extract_lets +onlyGivenNames -merge -useContext -underBinder v1 v2
  exact (good_ite (State.updPort_good h) (good_ite (by
    extract_lets +onlyGivenNames -merge -useContext -underBinder v3
    exact (State.sendCtrl_good (State.setObj_good (State.setObj_good h)))) h))

theorem State.onCtrl_good {s : State} {p : Nat} {op : Nat} {b : BitVec 240} (h : Good z s) [Unwatched z.parts.mem] [Unwatched z.parts.tregs] [Unwatched z.parts.objs] [Unwatched z.parts.win] [Unwatched z.parts.tiles] [Unwatched z.parts.basins] [Unwatched z.parts.alarmQ] [Unwatched z.parts.irqQ] [Unwatched z.parts.link] : Good z (State.onCtrl s p op b) := by
  unfold State.onCtrl
  split
  · exact (State.onAck_good h)
  · exact (State.onNak_good h)
  · exact (State.updPort_good h)
  · exact (State.onHello_good h)
  · exact (State.onSync_good h)
  · exact (State.onMode_good h)
  · exact (State.updPort_good h)

theorem State.ctrlIn_good {s : State} {p : Nat} {op : Nat} {b : BitVec 240} (h : Good z s) [Unwatched z.parts.mem] [Unwatched z.parts.tregs] [Unwatched z.parts.objs] [Unwatched z.parts.win] [Unwatched z.parts.tiles] [Unwatched z.parts.basins] [Unwatched z.parts.alarmQ] [Unwatched z.parts.irqQ] [Unwatched z.parts.link] : Good z (State.ctrlIn s p op b) := by
  unfold State.ctrlIn; exact (good_ite (State.onCtrl_good h) h)

theorem State.linkPoison_good {s : State} {p : Nat} (h : Good z s) [Unwatched z.parts.objs] [Unwatched z.parts.alarmQ] : Good z (State.linkPoison s p) := by
  unfold State.linkPoison; exact (State.bumpObj_good (State.agentAlarm_good h))

theorem State.acceptFlit_good {s : State} {p : Nat} {f : Flit} {w : CodeWord} {poison : Bool} (h : Good z s) [Unwatched z.parts.link] : Good z (State.acceptFlit s p f w poison) := by
  unfold State.acceptFlit
  extract_lets +onlyGivenNames -merge -useContext -underBinder v1
  exact (State.updPort_good h)

theorem State.flitReceive.hdrErr_good {p : Nat} {s : State} (h : Good z s) [Unwatched z.parts.link] : Good z (State.flitReceive.hdrErr p s) := by
  unfold State.flitReceive.hdrErr; exact (State.updPort_good h)

theorem State.flitReceive.ctrl_good {p : Nat} {s : State} {d : Row} (h : Good z s) [Unwatched z.parts.mem] [Unwatched z.parts.tregs] [Unwatched z.parts.objs] [Unwatched z.parts.win] [Unwatched z.parts.tiles] [Unwatched z.parts.basins] [Unwatched z.parts.alarmQ] [Unwatched z.parts.irqQ] [Unwatched z.parts.link] : Good z (State.flitReceive.ctrl p s d) := by
  unfold State.flitReceive.ctrl
  extract_lets +onlyGivenNames -merge -useContext -underBinder v1 v2
  have h2 : Good z v2 := (State.updPort_good h)
  exact (State.updPort_good (State.onCtrl_good h2))

theorem State.flitReceive.data_good {p : Nat} {f : Flit} {s : State} {d : Row} (h : Good z s) [Unwatched z.parts.objs] [Unwatched z.parts.link] : Good z (State.flitReceive.data p f s d) := by
  unfold State.flitReceive.data; exact (good_ite (State.acceptFlit_good (State.bumpObj_good h)) (State.acceptFlit_good h))

theorem State.flitReceive_good {s : State} {p : Nat} {f : Flit} {rs : Bool} (h : Good z s) [Unwatched z.parts.mem] [Unwatched z.parts.tregs] [Unwatched z.parts.objs] [Unwatched z.parts.win] [Unwatched z.parts.tiles] [Unwatched z.parts.basins] [Unwatched z.parts.alarmQ] [Unwatched z.parts.irqQ] [Unwatched z.parts.link] : Good z (State.flitReceive s p f rs) := by
  unfold State.flitReceive
  exact (good_ite h (good_ite (State.sendNak_good (State.bumpWin_good h)) (good_ite (State.sendNak_good (State.flitReceive.hdrErr_good h)) (by
    extract_lets +onlyGivenNames -merge -useContext -underBinder v1
    exact (good_ite h (good_ite (State.flitReceive.hdrErr_good h) (good_ite (by
      split
      · exact (State.flitReceive.ctrl_good h)
      · exact (State.flitReceive.ctrl_good (State.bumpWin_good h))
      · exact h) (by
      extract_lets +onlyGivenNames -merge -useContext -underBinder v2
      split
      · exact (good_ite (State.flitReceive.data_good h) (State.sendNak_good h))
      · extract_lets +onlyGivenNames -merge -useContext -underBinder v3
        have h3 : Good z v3 := (State.bumpWin_good h)
        exact (good_ite (State.flitReceive.data_good h3) (State.sendNak_good h3))
      · exact (good_ite (State.acceptFlit_good (good_ite h (State.bumpObj_good h))) (State.sendNak_good h))
      · exact (good_ite (State.sendNak_good h) (good_ite (State.acceptFlit_good (State.linkPoison_good h)) (State.sendNak_good (State.updPort_good h))))))))))))

theorem State.takeFirst_good {s : State} {p : Nat} {ty : Nat} {f : Nat → Flit → Option State} (h : Good z s)
    (hf : ∀ i g, GoodOpt z (f i g)) : Good z (State.takeFirst s p ty f) := by
  unfold State.takeFirst
  refine good_getD (fun x e => ?_) h
  obtain ⟨_, _, _, _, e', _⟩ := List.findSome?_eq_some_iff.mp e
  exact hf _ _ x e'

theorem State.dropAccepted_good {s : State} {p : Nat} {i : Nat} (h : Good z s) [Unwatched z.parts.link] : Good z (State.dropAccepted s p i) := by
  unfold State.dropAccepted; exact (State.updPort_good h)

theorem State.setRx_good {s : State} {p : Nat} {ch : Nat} {b : Option RxBarge} (h : Good z s) [Unwatched z.parts.link] : Good z (State.setRx s p ch b) := by
  unfold State.setRx; exact (State.updPort_good h)

theorem State.headTake_good {s : State} {p : Nat} {i : Nat} {f : Flit} (h : Good z s) [Unwatched z.parts.objs] [Unwatched z.parts.alarmQ] [Unwatched z.parts.link] : GoodOpt z (State.headTake s p i f) := by
  unfold State.headTake
  extract_lets +onlyGivenNames -merge -useContext -underBinder v1
  split
  · exact (goodOpt_ite goodOpt_none (goodOpt_some (State.setRx_good h)))
  · extract_lets +onlyGivenNames -merge -useContext -underBinder v2 v3
    split
    · extract_lets +onlyGivenNames -merge -useContext -underBinder v4 v5
      exact (goodOpt_ite goodOpt_none (by
        extract_lets +onlyGivenNames -merge -useContext -underBinder v6 v7 v8 v9
        have h7 : Good z v7 := (State.dropAccepted_good h)
        have h8 : Good z v8 := (State.setRx_good (good_ite h7 (State.freeFlit_good h7)))
        have h9 : Good z v9 := (good_ite (State.updPort_good h8) h8)
        exact (goodOpt_some (good_ite (State.updPort_good (State.bumpObj_good (State.agentAlarm_good h9))) h9))))

theorem State.headFlit_good {s : State} {p : Nat} (h : Good z s) [Unwatched z.parts.objs] [Unwatched z.parts.alarmQ] [Unwatched z.parts.link] : Good z (State.headFlit s p) := by
  unfold State.headFlit; exact (State.takeFirst_good h (fun _ _ => (State.headTake_good h)))

theorem State.rowTake_good {s : State} {p : Nat} {i : Nat} {f : Flit} (h : Good z s) [Unwatched z.parts.link] : GoodOpt z (State.rowTake s p i f) := by
  unfold State.rowTake
  extract_lets +onlyGivenNames -merge -useContext -underBinder v1
  split
  · exact (goodOpt_some (State.freeFlit_good (State.dropAccepted_good h)))
  · exact (goodOpt_ite goodOpt_none (by
      extract_lets +onlyGivenNames -merge -useContext -underBinder v2 v3 v4 v5 v6 v7 v8 v9 v10 v11
      have h11 : Good z v11 := (State.setRx_good (State.dropAccepted_good h))
      exact (goodOpt_some (good_ite h11 (State.freeFlit_good h11)))))

theorem State.rowFlit_good {s : State} {p : Nat} (h : Good z s) [Unwatched z.parts.link] : Good z (State.rowFlit s p) := by
  unfold State.rowFlit; exact (State.takeFirst_good h (fun _ _ => (State.rowTake_good h)))

theorem State.bargeRowLand_good {s : State} {p : Nat} {ch : Nat} (h : Good z s) [Unwatched z.parts.mem] [Unwatched z.parts.tregs] [Unwatched z.parts.objs] [Unwatched z.parts.win] [Unwatched z.parts.tiles] [Unwatched z.parts.basins] [Unwatched z.parts.link] : Good z (State.bargeRowLand s p ch) := by
  unfold State.bargeRowLand
  split
  · exact h
  · split
    · exact h
    · extract_lets +onlyGivenNames -merge -useContext -underBinder v1 v2 v3
      exact (good_ite h (good_ite (State.bargeAsk_good h) (by
        extract_lets +onlyGivenNames -merge -useContext -underBinder v4 v5 v6 v7 v8
        split
        · split
          · exact (State.blockOnce_good h)
          · extract_lets +onlyGivenNames -merge -useContext -underBinder v9 v10 v11 v12 v13
            have h10 : Good z v10 := (State.unblock_good (State.bumpReg_good (good_ite (State.bargeUse_good (by refine good_snd (by assumption) ?_; exact (goodSnd_ite (goodSnd_mk (State.rejectX_good h)) (State.landRow_good h)))) (by refine good_snd (by assumption) ?_; exact (goodSnd_ite (goodSnd_mk (State.rejectX_good h)) (State.landRow_good h))))))
            have h11 : Good z v11 := (good_ite h10 (State.bumpReg_good h10))
            have h13 : Good z v13 := (State.bumpWin_good (State.freeFlit_good (State.setRx_good h11)))
            exact (good_ite (State.updBasin_good h13) h13))))

theorem State.tailTake_good {s : State} {p : Nat} {i : Nat} {f : Flit} (h : Good z s) [Unwatched z.parts.objs] [Unwatched z.parts.alarmQ] [Unwatched z.parts.link] : GoodOpt z (State.tailTake s p i f) := by
  unfold State.tailTake
  extract_lets +onlyGivenNames -merge -useContext -underBinder v1 v2
  have h2 : Good z v2 := (State.freeFlit_good (State.dropAccepted_good h))
  split
  · exact (goodOpt_some h2)
  · exact (goodOpt_ite goodOpt_none (by
      extract_lets +onlyGivenNames -merge -useContext -underBinder v3 v4 v5 v6
      have h6 : Good z v6 := (State.setRx_good h2)
      exact (goodOpt_some (good_ite (State.linkPoison_good h6) h6))))

theorem State.tailFlit_good {s : State} {p : Nat} (h : Good z s) [Unwatched z.parts.objs] [Unwatched z.parts.alarmQ] [Unwatched z.parts.link] : Good z (State.tailFlit s p) := by
  unfold State.tailFlit; exact (State.takeFirst_good h (fun _ _ => (State.tailTake_good h)))

theorem State.notifyLand_good {s : State} {p : Nat} {ch : Nat} {t : Nat} {h_ : Row} {rec_ : Row} (h : Good z s) [Unwatched z.parts.mem] [Unwatched z.parts.tregs] [Unwatched z.parts.objs] [Unwatched z.parts.win] [Unwatched z.parts.tiles] [Unwatched z.parts.basins] : GoodOpt z (State.notifyLand s p ch t h_ rec_) := by
  unfold State.notifyLand
  extract_lets +onlyGivenNames -merge -useContext -underBinder v1 v2
  exact (goodOpt_ite (goodOpt_ite (goodOpt_some (State.unblock_good (State.bumpReg_good (State.bumpReg_good (State.bargeUse_good (State.rejectX_good h)))))) goodOpt_none) (State.landRecord_good h))

theorem State.bargeComplete_good {s : State} {p : Nat} {ch : Nat} (h : Good z s) [Unwatched z.parts.mem] [Unwatched z.parts.tregs] [Unwatched z.parts.objs] [Unwatched z.parts.win] [Unwatched z.parts.tiles] [Unwatched z.parts.basins] [Unwatched z.parts.alarmQ] [Unwatched z.parts.link] : Good z (State.bargeComplete s p ch) := by
  unfold State.bargeComplete
  split
  · exact h
  · extract_lets +onlyGivenNames -merge -useContext -underBinder v1
    exact (good_ite h (by
      extract_lets +onlyGivenNames -merge -useContext -underBinder v2 v3 v4 v5 v6 v7 v8 v9 v10 v11 v12
      split
      · exact (State.recordWaits_good h)
      · extract_lets +onlyGivenNames -merge -useContext -underBinder v13 v14 v15 v16 v17 v18 v19 v20
        have h15 : Good z v15 := (State.updPort_good (by refine good_opt (by assumption) ?_; exact (goodOpt_ite (goodOpt_ite goodOpt_none (State.notifyLand_good h)) (goodOpt_some h))))
        have h16 : Good z v16 := (State.sendFlit_good h15)
        have h17 : Good z v17 := (State.bumpObj_good h16)
        have h18 : Good z v18 := (good_ite (State.bumpObj_good h17) h17)
        have h19 : Good z v19 := (good_ite (State.agentAlarm_good (State.bumpObj_good h18)) h18)
        have h20 : Good z v20 := (good_ite (State.bumpObj_good h19) h19)
        exact (good_ite (State.bumpObj_good h20) h20)))

theorem State.completionFlit_good {s : State} {p : Nat} (h : Good z s) [Unwatched z.parts.mem] [Unwatched z.parts.tregs] [Unwatched z.parts.objs] [Unwatched z.parts.win] [Unwatched z.parts.tiles] [Unwatched z.parts.basins] [Unwatched z.parts.link] : Good z (State.completionFlit s p) := by
  unfold State.completionFlit
  extract_lets +onlyGivenNames -merge -useContext -underBinder v1
  split
  · exact h
  · split
    · exact h
    · extract_lets +onlyGivenNames -merge -useContext -underBinder v2 v3 v4 v5
      have h5 : Good z v5 := (State.freeFlit_good (State.dropAccepted_good h))
      split
      · exact h5
      · split
        · exact (State.recordWaits_good h)
        · exact (State.updPort_good (by refine good_opt (by assumption) ?_; exact (State.reportBarge_good h5)))

theorem State.boundRelease_good {s : State} {p : Nat} {ch : Nat} (h : Good z s) [Unwatched z.parts.link] : Good z (State.boundRelease s p ch) := by
  unfold State.boundRelease
  split
  · exact h
  · extract_lets +onlyGivenNames -merge -useContext -underBinder v1
    exact (good_ite h (by
      split
      · exact (good_ite h (State.setRx_good (State.freeFlit_good h)))
      · exact h
      · exact (State.setRx_good (State.freeFlit_good h))))

theorem State.descriptorRead_good {s : State} {p : Nat} (h : Good z s) [Unwatched z.parts.mem] [Unwatched z.parts.tregs] [Unwatched z.parts.objs] [Unwatched z.parts.win] [Unwatched z.parts.tiles] [Unwatched z.parts.basins] [Unwatched z.parts.link] : Good z (State.descriptorRead s p) := by
  unfold State.descriptorRead
  extract_lets +onlyGivenNames -merge -useContext -underBinder v1 v2 v3 v4 v5 v6
  exact (good_ite h (good_ite h (good_ite (State.bargeAsk_good h) (by
    extract_lets +onlyGivenNames -merge -useContext -underBinder v7 v8
    have h7 : ∀ a7_0, Good z a7_0 → Good z (v7 a7_0) := by
      intro a7_0 h7_0
      dsimp -zeta only [v7]
      exact (State.updPort_good h7_0)
    exact (good_ite (State.bumpReg_good (State.bargeUse_good (h7 _ (State.rejectX_good h)))) (by
      extract_lets +onlyGivenNames -merge -useContext -underBinder v9 v10
      exact (good_ite h (by
        split
        · exact (State.blockOnce_good h)
        · extract_lets +onlyGivenNames -merge -useContext -underBinder v11
          have h11 : Good z v11 := (State.unblock_good (h7 _ (State.bargeUse_good (by refine good_snd (by assumption) ?_; exact (State.fetchRow_good h)))))
          exact (good_ite h11 (by
            extract_lets +onlyGivenNames -merge -useContext -underBinder v12 v13 v14
            exact (good_ite (good_ite (by
              extract_lets +onlyGivenNames -merge -useContext -underBinder v15 v16
              split
              · exact (by refine good_opt (by assumption) ?_; exact (State.landNow_good h11))
              · exact (State.blockLand_good h)) h11) (State.updPort_good h11))))))))))))

theorem State.setTx_good {s : State} {p : Nat} {old : TxBarge} {new : TxBarge} (h : Good z s) [Unwatched z.parts.link] : Good z (State.setTx s p old new) := by
  unfold State.setTx; exact (State.updPort_good h)

theorem State.finishTx_good {s : State} {p : Nat} {b : TxBarge} (h : Good z s) [Unwatched z.parts.link] : Good z (State.finishTx s p b) := by
  unfold State.finishTx; exact (State.updPort_good h)

theorem State.sendRow_good {s : State} {p : Nat} {b : TxBarge} {d : Row} {pz : Bool} (h : Good z s) [Unwatched z.parts.win] [Unwatched z.parts.link] : Good z (State.sendRow s p b d pz) := by
  unfold State.sendRow
  extract_lets +onlyGivenNames -merge -useContext -underBinder v1 v2 v3 v4 v5 v6 v7
  have h4 : Good z v4 := (State.bumpWin_good (State.sendFlit_good h))
  have h5 : Good z v5 := (good_ite (State.bumpWin_good h4) h4)
  have h7 : Good z v7 := (State.setTx_good h5)
  exact (good_ite (State.finishTx_good h7) h7)

theorem State.txStep_good {s : State} {p : Nat} {b : TxBarge} (h : Good z s) [Unwatched z.parts.mem] [Unwatched z.parts.tregs] [Unwatched z.parts.objs] [Unwatched z.parts.win] [Unwatched z.parts.tiles] [Unwatched z.parts.basins] [Unwatched z.parts.link] : GoodOpt z (State.txStep s p b) := by
  unfold State.txStep
  extract_lets +onlyGivenNames -merge -useContext -underBinder v1 v2 v3 v4
  exact (goodOpt_ite (goodOpt_ite goodOpt_none (by
    extract_lets +onlyGivenNames -merge -useContext -underBinder v5 v6
    have h6 : Good z v6 := (State.setTx_good (State.sendFlit_good h))
    exact (goodOpt_some (good_ite (State.finishTx_good h6) h6)))) (goodOpt_ite (by
    split
    · split
      · exact (goodOpt_some (State.sendRow_good h))
    · extract_lets +onlyGivenNames -merge -useContext -underBinder v7 v8 v9 v10 v11
      exact (goodOpt_ite (goodOpt_ite goodOpt_none (by
        extract_lets +onlyGivenNames -merge -useContext -underBinder v12
        exact (goodOpt_ite (goodOpt_some (State.sendRow_good (State.bargeUse_good (State.rejectX_good h)))) (goodOpt_ite (by
          split
          · exact (goodOpt_some (State.sendRow_good (State.bargeUse_good (by refine good_thd (by assumption) ?_; exact (State.readRow_good h)))))) (by
          split
          · exact goodOpt_none
          · exact (goodOpt_some (State.sendRow_good (State.unblock_good (State.bargeUse_good (by refine good_snd (by assumption) ?_; exact (State.fetchRow_good h))))))))))) (goodOpt_ite (goodOpt_some (State.sendRow_good (State.bumpWin_good (State.bumpReg_good h)))) goodOpt_none))) (goodOpt_some (State.finishTx_good (State.sendFlit_good h)))))

theorem State.txWaits_good {s : State} {p : Nat} (h : Good z s) [Unwatched z.parts.tregs] [Unwatched z.parts.tiles] : Good z (State.txWaits s p) := by
  unfold State.txWaits
  exact (good_foldl (fun _ _ h1 => (good_ite (by
      extract_lets +onlyGivenNames -merge -useContext -underBinder v2 v3 v4
      exact (good_ite (State.blockRead_good h1) (good_ite (State.bargeAsk_good h1) h1))) h1)) _ h)

theorem good_findSome {β : Type} {f : β → Option State} (hf : ∀ x, GoodOpt z (f x)) (l : List β) : GoodOpt z (l.findSome? f) := by
  intro a e
  obtain ⟨x, _, hx⟩ := List.exists_of_findSome?_eq_some e
  exact hf x a hx

theorem State.flitRelease_good {s : State} {p : Nat} (h : Good z s) [Unwatched z.parts.mem] [Unwatched z.parts.tregs] [Unwatched z.parts.objs] [Unwatched z.parts.win] [Unwatched z.parts.tiles] [Unwatched z.parts.basins] [Unwatched z.parts.link] : Good z (State.flitRelease s p) := by
  unfold State.flitRelease
  exact good_getD (good_findSome (fun _ => State.txStep_good h) _) (State.txWaits_good h)

theorem State.clampEntry_good {s : State} {index : Nat} {sub : Nat} {src : Nat} {written : Nat} {applied : Nat} {lock : Nat} {basin : Nat} (h : Good z s) [Unwatched z.parts.objs] [Unwatched z.parts.irqQ] [Unwatched z.parts.srv] : Good z (State.clampEntry s index sub src written applied lock basin) := by
  unfold State.clampEntry; exact (State.logClamp_good h)

theorem State.updQueue_good {s : State} {q_ : Nat} {f : HostQueue → HostQueue} (h : Good z s) [Unwatched z.parts.host] : Good z (State.updQueue s q_ f) := by
  unfold State.updQueue; exact (good_host h _)

theorem State.applyObj_good {s : State} {key : Nat} {v : Nat} {lock : Nat} {basin : Nat} (h : Good z s) [Unwatched z.parts.objs] [Unwatched z.parts.irqQ] [Unwatched z.parts.link] [Unwatched z.parts.host] [Unwatched z.parts.srv] : Good z (State.applyObj s key v lock basin) := by
  unfold State.applyObj
  extract_lets +onlyGivenNames -merge -useContext -underBinder v1 v2 v3 v4 v5 v6
  have h4 : Good z v4 := (good_ite h (State.clampEntry_good h))
  have h6 : Good z v6 := (State.setObj_good h4)
  exact (good_ite h6 (good_ite (State.updPort_good h6) (good_ite (good_host h6 _) (good_ite (State.updQueue_good h6) h6))))

theorem State.stageBatch_good {s : State} {b : Nat} {entries : List (Nat × Nat)} (h : Good z s) [Unwatched z.parts.srv] : Good z (State.stageBatch s b entries) := by
  unfold State.stageBatch; exact (good_srv h _)

theorem State.markWindow_good {s : State} {s0 : State} {b : Nat} (h : Good z s) (hs0 : Good z s0) [Unwatched z.parts.srv] : Good z (State.markWindow s s0 b) := by
  unfold State.markWindow
  extract_lets +onlyGivenNames -merge -useContext -underBinder v1
  exact (good_srv h _)

theorem State.applyBatches_good {s : State} {b : Nat} {n : Nat} (h : Good z s) [Unwatched z.parts.objs] [Unwatched z.parts.irqQ] [Unwatched z.parts.link] [Unwatched z.parts.host] [Unwatched z.parts.srv] : Good z (State.applyBatches s b n) := by
  unfold State.applyBatches
  extract_lets +onlyGivenNames -merge -useContext -underBinder v1 v2
  have h2 : Good z v2 := (good_foldl (fun _ _ h3 => (good_foldl (fun _ _ h4 => (State.applyObj_good h4)) _ h3)) _ h)
  exact (good_srv h2 _)

theorem State.deferTrims_good {s : State} {b : Nat} {n : Nat} (h : Good z s) [Unwatched z.parts.objs] [Unwatched z.parts.tiles] [Unwatched z.parts.srv] : Good z (State.deferTrims s b n) := by
  unfold State.deferTrims
  extract_lets +onlyGivenNames -merge -useContext -underBinder v1 v2
  exact (good_ite h (by
    extract_lets +onlyGivenNames -merge -useContext -underBinder v3 v4 v5
    have h4 : Good z v4 := (good_srv h _)
    have h5 : Good z v5 := (good_foldl (fun _ _ h6 => (State.updTile_good h6)) _ h4)
    exact (State.setObj_good h5)))

theorem State.deferBatches_good {s : State} {b : Nat} {n : Nat} (h : Good z s) [Unwatched z.parts.objs] [Unwatched z.parts.srv] : Good z (State.deferBatches s b n) := by
  unfold State.deferBatches
  extract_lets +onlyGivenNames -merge -useContext -underBinder v1
  exact (good_ite (by
    extract_lets +onlyGivenNames -merge -useContext -underBinder v2 v3
    have h3 : Good z v3 := (good_srv h _)
    exact (State.setObj_good h3)) h)

theorem State.discardBatches_good {s : State} {b : Nat} (h : Good z s) [Unwatched z.parts.srv] : Good z (State.discardBatches s b) := by
  unfold State.discardBatches; exact (good_srv h _)

theorem State.setBar_good {s : State} {off : Nat} {n : Nat} (h : Good z s) [Unwatched z.parts.bar0] : Good z (State.setBar s off n) :=
  good_bar0 h _ (Map.wf_put _ _ _ _ _ rfl h.2.bar0)

theorem State.signal_good {s : State} {v : Nat} (h : Good z s) [Unwatched z.parts.host] : Good z (State.signal s v) := by
  unfold State.signal; exact (good_ite (good_host h _) (good_ite h (good_host h _)))

theorem State.cplInterrupt_good {s : State} {q_ : Nat} (h : Good z s) [Unwatched z.parts.host] : Good z (State.cplInterrupt s q_) := by
  unfold State.cplInterrupt
  exact (good_ite (by
    extract_lets +onlyGivenNames -merge -useContext -underBinder v1
    exact (good_ite (State.signal_good (State.updQueue_good h)) (State.updQueue_good h))) (State.signal_good h))

theorem State.qHalt_good {s : State} {q_ : Nat} {st : Nat} (h : Good z s) [Unwatched z.parts.bar0] [Unwatched z.parts.host] : Good z (State.qHalt s q_ st) := by
  unfold State.qHalt; exact (State.signal_good (State.updQueue_good (State.setBar_good h)))

theorem State.postCpl_good {s : State} {q_ : Nat} {tag : Nat} {status : Nat} {rows : Nat} {irq : Bool} (h : Good z s) [Unwatched z.parts.host] : Good z (State.postCpl s q_ tag status rows irq) := by
  unfold State.postCpl
  extract_lets +onlyGivenNames -merge -useContext -underBinder v1 v2 v3 v4 v5
  have h4 : Good z v4 := (good_host h _)
  have h5 : Good z v5 := (State.updQueue_good h4)
  exact (good_ite (State.cplInterrupt_good h5) h5)

theorem State.postFront_good {s : State} {q_ : Nat} (h : Good z s) [Unwatched z.parts.objs] [Unwatched z.parts.host] : Good z (State.postFront s q_) := by
  unfold State.postFront
  split
  · exact h
  · split
    · exact h
    · exact (good_ite h (by
        extract_lets +onlyGivenNames -merge -useContext -underBinder v1
        have h1 : Good z v1 := (State.postCpl_good (State.updQueue_good h))
        exact (good_ite (State.bumpObj_good h1) h1)))

theorem State.postReady_good {s : State} {q_ : Nat} (h : Good z s) [Unwatched z.parts.objs] [Unwatched z.parts.host] : Good z (State.postReady s q_) := by
  unfold State.postReady; exact (good_foldl (fun _ _ h1 => (State.postFront_good h1)) _ h)

theorem State.fetchEntry_good {s : State} {q_ : Nat} (h : Good z s) [Unwatched z.parts.bar0] : Good z (State.fetchEntry s q_) := by
  unfold State.fetchEntry
  extract_lets +onlyGivenNames -merge -useContext -underBinder v1
  exact (State.setBar_good (State.setBar_good h))

theorem State.addEntry_good {s : State} {q_ : Nat} {e : HostEntry} (h : Good z s) [Unwatched z.parts.objs] [Unwatched z.parts.host] : Good z (State.addEntry s q_ e) := by
  unfold State.addEntry; exact (State.postReady_good (State.updQueue_good h))

theorem State.dataEntry_good {s : State} {q_ : Nat} {e : BitVec 512} (h : Good z s) [Unwatched z.parts.objs] [Unwatched z.parts.bar0] [Unwatched z.parts.host] : Good z (State.dataEntry s q_ e) := by
  unfold State.dataEntry
  exact (good_ite h (by
    extract_lets +onlyGivenNames -merge -useContext -underBinder v1 v2 v3 v4 v5
    have h1 : Good z v1 := (State.fetchEntry_good h)
    exact (good_ite (State.addEntry_good h1) (good_ite (State.addEntry_good h1) (good_ite (State.addEntry_good h1) (good_ite (State.qHalt_good (State.addEntry_good h1)) (State.addEntry_good h1)))))))

theorem State.doorbell_good {s : State} {q_ : Nat} {v : Nat} (h : Good z s) [Unwatched z.parts.bar0] [Unwatched z.parts.host] : Good z (State.doorbell s q_ v) := by
  unfold State.doorbell
  extract_lets +onlyGivenNames -merge -useContext -underBinder v1
  exact (good_ite (State.setBar_good h) (State.updQueue_good h))

theorem State.cqHead_good {s : State} {q_ : Nat} {v : Nat} (h : Good z s) [Unwatched z.parts.objs] [Unwatched z.parts.bar0] [Unwatched z.parts.host] : Good z (State.cqHead s q_ v) := by
  unfold State.cqHead
  extract_lets +onlyGivenNames -merge -useContext -underBinder v1 v2
  exact (good_ite h (by
    extract_lets +onlyGivenNames -merge -useContext -underBinder v3
    exact (State.postReady_good (State.updQueue_good (State.setBar_good h)))))

theorem State.queueEnable_good {s : State} {q_ : Nat} (h : Good z s) [Unwatched z.parts.bar0] [Unwatched z.parts.host] : Good z (State.queueEnable s q_) := by
  unfold State.queueEnable
  exact (good_ite h (by
    extract_lets +onlyGivenNames -merge -useContext -underBinder v1 v2
    have h2 : Good z v2 := (State.setBar_good (State.setBar_good (State.setBar_good (State.setBar_good h))))
    exact (State.updQueue_good h2)))

theorem State.abortEntries_good {s : State} {q_ : Nat} (h : Good z s) [Unwatched z.parts.objs] [Unwatched z.parts.host] : Good z (State.abortEntries s q_) := by
  unfold State.abortEntries; exact (State.postReady_good (State.updQueue_good h))

theorem State.queueDisable_good {s : State} {q_ : Nat} (h : Good z s) [Unwatched z.parts.objs] [Unwatched z.parts.bar0] [Unwatched z.parts.host] : Good z (State.queueDisable s q_) := by
  unfold State.queueDisable
  exact (good_ite (by
    extract_lets +onlyGivenNames -merge -useContext -underBinder v1
    exact (State.setBar_good (State.setBar_good (State.abortEntries_good h)))) h)

theorem State.flr_good {s : State} (h : Good z s) [Unwatched z.parts.bar0] [Unwatched z.parts.host] : Good z (State.flr s) :=
  ⟨h.1, { h.2 with bar0 := Map.wf_filter _ _ _ h.2.bar0 },
    { h.3 with bar0 := unwatched inferInstance, host := unwatched inferInstance }⟩

theorem State.endpointReset_good {s : State} (h : Good z s) [Unwatched z.parts.objs] [Unwatched z.parts.bar0] [Unwatched z.parts.host] : Good z (State.endpointReset s) := by
  unfold State.endpointReset
  extract_lets +onlyGivenNames -merge -useContext -underBinder v1
  have h1 : Good z v1 := (State.setObj_good (State.flr_good h))
  exact (good_host h1 _)

theorem State.hostRowLand_good {s : State} {q_ : Nat} {d : Row} (h : Good z s) [Unwatched z.parts.mem] [Unwatched z.parts.tregs] [Unwatched z.parts.objs] [Unwatched z.parts.win] [Unwatched z.parts.tiles] [Unwatched z.parts.basins] [Unwatched z.parts.host] : Good z (State.hostRowLand s q_ d) := by
  unfold State.hostRowLand
  extract_lets +onlyGivenNames -merge -useContext -underBinder v1
  split
  · extract_lets +onlyGivenNames -merge -useContext -underBinder v2 v3
    split
    · exact (good_ite h (good_ite (State.bargeAsk_good h) (by
        split
        · exact (State.blockOnce_good h)
        · extract_lets +onlyGivenNames -merge -useContext -underBinder v4 v5
          have h4 : Good z v4 := (State.unblock_good (State.bumpReg_good (State.bargeUse_good (by refine good_snd (by assumption) ?_; exact (State.landRow_good h)))))
          have h5 : Good z v5 := (good_ite h4 (State.bumpReg_good h4))
          exact (State.bumpWin_good (State.updQueue_good h5)))))
    · exact h

theorem State.hostReadError_good {s : State} {q_ : Nat} (h : Good z s) [Unwatched z.parts.objs] [Unwatched z.parts.host] : Good z (State.hostReadError s q_) := by
  unfold State.hostReadError
  split
  · exact h
  · exact (State.bumpObj_good (State.updQueue_good h))

theorem State.slotLock_good {s : State} {q_ : Nat} (h : Good z s) [Unwatched z.parts.free] [Unwatched z.parts.objs] [Unwatched z.parts.host] : Good z (State.slotLock s q_) := by
  unfold State.slotLock
  split
  · extract_lets +onlyGivenNames -merge -useContext -underBinder v1 v2
    have h1 : Good z v1 := (State.setObj_good (by refine good_snd (by assumption) ?_; exact (State.fresh_good h)))
    have h2 : Good z v2 := (State.setObj_good h1)
    exact (State.postReady_good (State.updQueue_good h2))

theorem State.slotRewind_good {s : State} {q_ : Nat} (h : Good z s) [Unwatched z.parts.host] : Good z (State.slotRewind s q_) := by
  unfold State.slotRewind; exact (State.updQueue_good h)

theorem State.setWrite_good {s : State} {h_ : Nat} {w : Option HostWrite} (h : Good z s) [Unwatched z.parts.host] : Good z (State.setWrite s h_ w) := by
  unfold State.setWrite; exact (good_host h _)

theorem State.postRow_good {s : State} {h_ : Nat} {w : HostWrite} {d : Row} {pz : Bool} (h : Good z s) [Unwatched z.parts.win] [Unwatched z.parts.host] : Good z (State.postRow s h_ w d pz) := by
  unfold State.postRow
  extract_lets +onlyGivenNames -merge -useContext -underBinder v1 v2 v3
  have h2 : Good z v2 := (good_host h _)
  have h3 : Good z v3 := (State.bumpWin_good (State.setWrite_good h2))
  exact (good_ite (State.bumpWin_good h3) h3)

theorem State.hostFinish_good {s : State} {h_ : Nat} {w : HostWrite} (h : Good z s) [Unwatched z.parts.mem] [Unwatched z.parts.tregs] [Unwatched z.parts.objs] [Unwatched z.parts.win] [Unwatched z.parts.tiles] [Unwatched z.parts.basins] [Unwatched z.parts.host] : Good z (State.hostFinish s h_ w) := by
  unfold State.hostFinish
  extract_lets +onlyGivenNames -merge -useContext -underBinder v1 v2 v3 v4 v5 v6 v7
  exact (good_ite h (by
    split
    · exact (State.recordWaits_good h)
    · extract_lets +onlyGivenNames -merge -useContext -underBinder v8 v9 v10
      have h8 : Good z v8 := (good_ite (State.postCpl_good (by refine good_opt (by assumption) ?_; exact (goodOpt_ite (State.landRecord_good h) (goodOpt_some h)))) (by refine good_opt (by assumption) ?_; exact (goodOpt_ite (State.landRecord_good h) (goodOpt_some h))))
      have h10 : Good z v10 := (good_ite (good_host h8 _) h8)
      exact (State.setWrite_good h10)))

theorem State.hostWriteRow_good {s : State} {h_ : Nat} {w : HostWrite} (h : Good z s) [Unwatched z.parts.mem] [Unwatched z.parts.tregs] [Unwatched z.parts.objs] [Unwatched z.parts.win] [Unwatched z.parts.tiles] [Unwatched z.parts.basins] [Unwatched z.parts.host] : Good z (State.hostWriteRow s h_ w) := by
  unfold State.hostWriteRow
  extract_lets +onlyGivenNames -merge -useContext -underBinder v1 v2 v3 v4 v5 v6
  exact (good_ite (good_ite (State.bargeAsk_good h) (by
    extract_lets +onlyGivenNames -merge -useContext -underBinder v7
    exact (good_ite (State.postRow_good (State.bargeUse_good (State.rejectX_good h))) (by
      split
      · exact (State.blockOnce_good h)
      · exact (State.postRow_good (State.unblock_good (State.bargeUse_good (by refine good_snd (by assumption) ?_; exact (State.fetchRow_good h))))))))) (good_ite (State.postRow_good (State.bumpWin_good (State.bumpReg_good h))) (State.blockRead_good h)))

theorem State.hostDescriptor_good {s : State} {h_ : Nat} (h : Good z s) [Unwatched z.parts.mem] [Unwatched z.parts.tregs] [Unwatched z.parts.objs] [Unwatched z.parts.win] [Unwatched z.parts.tiles] [Unwatched z.parts.basins] [Unwatched z.parts.host] : Good z (State.hostDescriptor s h_) := by
  unfold State.hostDescriptor
  extract_lets +onlyGivenNames -merge -useContext -underBinder v1 v2 v3 v4 v5 v6 v7
  exact (good_ite h (good_ite (State.bargeAsk_good h) (by
    extract_lets +onlyGivenNames -merge -useContext -underBinder v8 v9
    have h8 : ∀ a8_0, Good z a8_0 → Good z (v8 a8_0) := by
      intro a8_0 h8_0
      dsimp -zeta only [v8]
      exact (good_host h8_0 _)
    exact (good_ite (State.bumpReg_good (State.bargeUse_good (h8 _ (State.rejectX_good h)))) (by
      extract_lets +onlyGivenNames -merge -useContext -underBinder v10
      split
      · exact (State.blockOnce_good h)
      · extract_lets +onlyGivenNames -merge -useContext -underBinder v11
        have h11 : Good z v11 := (State.unblock_good (h8 _ (State.bargeUse_good (by refine good_snd (by assumption) ?_; exact (State.fetchRow_good h)))))
        exact (good_ite h11 (good_ite (good_ite (by
          split
          · exact (by refine good_opt (by assumption) ?_; exact (State.landNow_good h11))
          · exact (State.blockLand_good h)) h11) (State.setWrite_good h11))))))))

theorem State.hostEngine_good {s : State} {h_ : Nat} (h : Good z s) [Unwatched z.parts.mem] [Unwatched z.parts.tregs] [Unwatched z.parts.objs] [Unwatched z.parts.win] [Unwatched z.parts.tiles] [Unwatched z.parts.basins] [Unwatched z.parts.host] : Good z (State.hostEngine s h_) := by
  unfold State.hostEngine
  split
  · extract_lets +onlyGivenNames -merge -useContext -underBinder v1
    exact (good_ite (good_ite h (State.hostWriteRow_good h)) (good_ite h (State.hostFinish_good h)))
  · exact (State.hostDescriptor_good h)

theorem State.tpRetry_good {s : State} {r : Nat} {n : Nat} (h : Good z s) [Unwatched z.parts.tregs] [Unwatched z.parts.win] [Unwatched z.parts.hubs] : Good z (State.tpRetry s r n) := by
  unfold State.tpRetry
  extract_lets +onlyGivenNames -merge -useContext -underBinder v1
  have h1 : Good z v1 := (State.bumpWin_good h)
  exact (good_ite (State.bumpReg_good h1) (good_ite (State.updHub_good h1) h1))

theorem State.tpDrop_good {s : State} {r : Nat} (h : Good z s) [Unwatched z.parts.tregs] [Unwatched z.parts.win] [Unwatched z.parts.hubs] : Good z (State.tpDrop s r) := by
  unfold State.tpDrop
  extract_lets +onlyGivenNames -merge -useContext -underBinder v1
  have h1 : Good z v1 := (State.bumpWin_good h)
  exact (good_ite (State.bumpReg_good h1) (good_ite (State.updHub_good h1) h1))

theorem State.linkFault_good {s : State} {r : Nat} {b : Nat} (h : Good z s) [Unwatched z.parts.tregs] [Unwatched z.parts.win] [Unwatched z.parts.tiles] [Unwatched z.parts.alarmQ] : Good z (State.linkFault s r b) := by
  unfold State.linkFault; exact (good_ite (State.raiseAlarm_good h) (State.agentAlarm_good h))

theorem State.hopRetry_good {s : State} {h_ : TpHop} (h : Good z s) [Unwatched z.parts.tregs] [Unwatched z.parts.win] [Unwatched z.parts.hubs] : Good z (State.hopRetry s h_) := by
  unfold State.hopRetry; exact (good_ite h (State.tpRetry_good h))

theorem State.hopLost_good {s : State} {h_ : TpHop} {b : Nat} (h : Good z s) [Unwatched z.parts.tregs] [Unwatched z.parts.win] [Unwatched z.parts.tiles] [Unwatched z.parts.hubs] [Unwatched z.parts.alarmQ] : Good z (State.hopLost s h_ b) := by
  unfold State.hopLost
  extract_lets +onlyGivenNames -merge -useContext -underBinder v1
  have h1 : Good z v1 := (State.tpDrop_good h)
  exact (good_ite h1 (State.linkFault_good h1))

theorem State.hubSend_good {s : State} {h_ : Nat} {op : Nat} {dst : Nat} {body : List Nat} (h : Good z s) [Unwatched z.parts.hubs] : Good z (State.hubSend s h_ op dst body) := by
  unfold State.hubSend; exact (State.updHub_good h)

theorem State.framesTaken_good {s : State} {b : Nat} {r : Nat} {op : Nat} (h : Good z s) [Unwatched z.parts.tiles] [Unwatched z.parts.hubs] : Good z (State.framesTaken s b r op) := by
  unfold State.framesTaken; exact (good_ite (good_foldl (fun _ _ h1 => (State.tileTook_good h1)) _ h) (good_foldl (fun _ _ h2 => (State.updHub_good h2)) _ h))

theorem State.hubRespond_good {s : State} {h_ : Nat} {status : Nat} {data : List Word32} (h : Good z s) [Unwatched z.parts.hubs] : Good z (State.hubRespond s h_ status data) := by
  unfold State.hubRespond; exact (State.updHub_good (State.hubSend_good h))

theorem State.barIssue_good {s : State} {t : Nat} {num : Nat} {ext : Nat} (h : Good z s) [Unwatched z.parts.tregs] [Unwatched z.parts.objs] [Unwatched z.parts.win] [Unwatched z.parts.tiles] [Unwatched z.parts.basins] : Good z (State.barIssue s t num ext) := by
  unfold State.barIssue
  extract_lets +onlyGivenNames -merge -useContext -underBinder v1
  exact (good_ite (State.taskFault_good h) (good_ite (State.ctrlForm_good h) (by
    extract_lets +onlyGivenNames -merge -useContext -underBinder v2 v3 v4
    have h3 : Good z v3 := (State.updTile_good h)
    have h4 : Good z v4 := (State.trace_good h3)
    split
    · exact (State.updBasin_good (State.tileSend_good h4))
    · exact h4)))

theorem State.barWait_good {s : State} {t : Nat} {num : Nat} (h : Good z s) [Unwatched z.parts.tiles] : Good z (State.barWait s t num) := by
  unfold State.barWait; exact (good_ite (State.updTile_good h) h)

theorem State.barForm_good {s : State} {b : Nat} {num : Nat} (h : Good z s) [Unwatched z.parts.objs] [Unwatched z.parts.alarmQ] : Good z (State.barForm s b num) := by
  unfold State.barForm; exact (State.bumpObj_good (State.agentAlarm_good h))

theorem State.barCombine_good {s : State} {r : Nat} {b : Nat} {num : Nat} {g : Bool} (h : Good z s) [Unwatched z.parts.objs] [Unwatched z.parts.tiles] [Unwatched z.parts.basins] [Unwatched z.parts.hubs] [Unwatched z.parts.alarmQ] : Good z (State.barCombine s r b num g) := by
  unfold State.barCombine
  extract_lets +onlyGivenNames -merge -useContext -underBinder v1 v2
  clear_value v2
  split
  · exact h
  · extract_lets +onlyGivenNames -merge -useContext -underBinder v3 v4 v5
    have h4 : ∀ a4_0, Good z a4_0 → Good z (v4 a4_0) := by
      intro a4_0 h4_0
      dsimp -zeta only [v4]
      exact (State.framesTaken_good (State.updBasin_good h4_0))
    have h5 : ∀ a5_0, Good z (v5 a5_0) := by
      intro a5_0
      dsimp -zeta only [v5]
      exact (State.updBasin_good (h4 _ h))
    exact (good_ite (State.barForm_good (h4 _ h)) (good_ite (good_ite (h5 _) h) (good_ite (good_ite (h5 _) h) (by
      extract_lets +onlyGivenNames -merge -useContext -underBinder v6
      exact (good_ite h (by
        split
        · exact (h5 _)
        · extract_lets +onlyGivenNames -merge -useContext -underBinder v7
          have h7 : Good z v7 := (good_ite (State.hubSend_good (h4 _ h)) (h4 _ h))
          exact (State.updBasin_good h7)))))))

theorem State.barUp_good {s : State} {r : Nat} {b : Nat} {num : Nat} (h : Good z s) [Unwatched z.parts.objs] [Unwatched z.parts.tiles] [Unwatched z.parts.basins] [Unwatched z.parts.hubs] [Unwatched z.parts.alarmQ] : Good z (State.barUp s r b num) := by
  unfold State.barUp; exact (State.barCombine_good (State.barCombine_good h))

theorem State.barLost_good {s : State} {r : Nat} {b : Nat} {num : Nat} (h : Good z s) [Unwatched z.parts.tiles] [Unwatched z.parts.basins] [Unwatched z.parts.hubs] : Good z (State.barLost s r b num) := by
  unfold State.barLost; exact (State.updBasin_good (State.framesTaken_good h))

theorem State.barDoneLost_good {s : State} {t : Nat} {num : Nat} (h : Good z s) [Unwatched z.parts.basins] : Good z (State.barDoneLost s t num) := by
  unfold State.barDoneLost
  split
  · exact h
  · exact (State.updBasin_good h)

theorem State.barDeliver_good {s : State} {t : Nat} {num : Nat} (h : Good z s) [Unwatched z.parts.tregs] [Unwatched z.parts.tiles] [Unwatched z.parts.basins] : Good z (State.barDeliver s t num) := by
  unfold State.barDeliver
  split
  · exact h
  · extract_lets +onlyGivenNames -merge -useContext -underBinder v1
    split
    · exact h
    · extract_lets +onlyGivenNames -merge -useContext -underBinder v2 v3 v4
      have h3 : Good z v3 := (State.updBasin_good h)
      have h4 : Good z v4 := (State.updTile_good h3)
      exact (State.trace_good h4)

end Sys2Proof.Machine
end

