-- ==== Sys2Proof/Laws/KeepLock.lean ====
section
/-! SUPPORT. The operations of LockOps, PlaceOps, ShapeOps, Towpath keep the queue, the canonical form, and every
part of the device that their premises do not name. -/

namespace Sys2Proof.Machine

open Sys2Proof

variable {z : Watch}

theorem State.updLk_good {s : State} {t : Nat} {f : LockUnit → LockUnit} (h : Good z s) [Unwatched z.parts.tiles] : Good z (State.updLk s t f) := by
  unfold State.updLk; exact (State.updTile_good h)

theorem State.estoreLoad_good {s : State} {t : Nat} (h : Good z s) [Unwatched z.parts.tregs] : Good z (State.estoreLoad s t) := by
  unfold State.estoreLoad
  extract_lets +onlyGivenNames -merge -useContext -underBinder v1
  exact (State.setRegN_good (State.setRegN_good (State.setRegN_good h)))

theorem State.sendFrame_good {s : State} {t : Nat} {b : Nat} (h : Good z s) [Unwatched z.parts.tiles] [Unwatched z.parts.basins] : Good z (State.sendFrame s t b) := by
  unfold State.sendFrame
  extract_lets +onlyGivenNames -merge -useContext -underBinder v1
  exact (State.updLk_good (State.tileSend_good (State.updBasin_good h)))

theorem State.lockReport_good {s : State} {t : Nat} (h : Good z s) [Unwatched z.parts.tregs] [Unwatched z.parts.tiles] [Unwatched z.parts.basins] : Good z (State.lockReport s t) := by
  unfold State.lockReport
  extract_lets +onlyGivenNames -merge -useContext -underBinder v1
  split
  · exact h
  · exact (good_ite (State.sendFrame_good (State.bumpReg_good h)) h)

theorem State.waveResult_good {s : State} {b : Nat} {r : WaveResult} (h : Good z s) [Unwatched z.parts.objs] [Unwatched z.parts.basins] [Unwatched z.parts.alarmQ] [Unwatched z.parts.srv] : Good z (State.waveResult s b r) := by
  unfold State.waveResult
  extract_lets +onlyGivenNames -merge -useContext -underBinder v1 v2
  have h1 : Good z v1 := (State.updBasin_good h)
  have h2 : Good z v2 := (good_ite h1 (State.bumpObj_good (State.agentAlarm_good h1)))
  exact (good_ite (State.updBasin_good (State.bumpObj_good (State.agentAlarm_good h2))) (good_ite (by
    extract_lets +onlyGivenNames -merge -useContext -underBinder v3
    exact (State.deferBatches_good (State.updBasin_good h2))) h2))

theorem State.lockUp_good {s : State} {r : Nat} {b : Nat} {split : Bool} (h : Good z s) [Unwatched z.parts.objs] [Unwatched z.parts.tiles] [Unwatched z.parts.basins] [Unwatched z.parts.hubs] [Unwatched z.parts.alarmQ] [Unwatched z.parts.srv] : Good z (State.lockUp s r b split) := by
  unfold State.lockUp
  extract_lets +onlyGivenNames -merge -useContext -underBinder v1
  split
  · exact h
  · extract_lets +onlyGivenNames -merge -useContext -underBinder v2 v3
    exact (good_ite h (by
      extract_lets +onlyGivenNames -merge -useContext -underBinder v4 v5
      have h5 : Good z v5 := (State.framesTaken_good (State.updBasin_good h))
      split
      · exact (good_ite (State.agentAlarm_good h5) (State.waveResult_good h5))
      · extract_lets +onlyGivenNames -merge -useContext -underBinder v6
        have h6 : Good z v6 := (good_ite (State.hubSend_good h5) h5)
        exact (State.updBasin_good h6)))

theorem State.foldDirty_good {s : State} {t : Nat} (h : Good z s) [Unwatched z.parts.mem] [Unwatched z.parts.tregs] [Unwatched z.parts.objs] [Unwatched z.parts.win] [Unwatched z.parts.tiles] [Unwatched z.parts.basins] : Good z (State.foldDirty s t) := by
  unfold State.foldDirty
  extract_lets +onlyGivenNames -merge -useContext -underBinder v1
  have h1 : Good z v1 := (good_foldl (fun _ _ h2 => (good_foldl (fun _ _ h3 => (State.flushEntry_good h3)) _ h2)) _ h)
  exact (State.updTile_good h1)

theorem State.lockResult_good {s : State} {t : Nat} (h : Good z s) [Unwatched z.parts.mem] [Unwatched z.parts.tregs] [Unwatched z.parts.objs] [Unwatched z.parts.win] [Unwatched z.parts.tiles] [Unwatched z.parts.basins] : Good z (State.lockResult s t) := by
  unfold State.lockResult
  extract_lets +onlyGivenNames -merge -useContext -underBinder v1
  split
  · exact h
  · split
    · exact h
    · exact (good_ite h (good_ite (State.sendFrame_good (State.updLk_good h)) (by
        extract_lets +onlyGivenNames -merge -useContext -underBinder v2 v3
        have h3 : Good z v3 := (State.updTile_good h)
        exact (good_ite (State.foldDirty_good h3) h3))))

theorem State.lockFrameLost_good {s : State} {r : Nat} {b : Nat} (h : Good z s) [Unwatched z.parts.tiles] [Unwatched z.parts.basins] [Unwatched z.parts.hubs] : Good z (State.lockFrameLost s r b) := by
  unfold State.lockFrameLost; exact (State.updBasin_good (State.framesTaken_good h))

theorem State.digestPush_good {s : State} {t : Nat} {epoch : Nat} {v : Word64} (h : Good z s) [Unwatched z.parts.tregs] [Unwatched z.parts.tiles] : Good z (State.digestPush s t epoch v) := by
  unfold State.digestPush
  extract_lets +onlyGivenNames -merge -useContext -underBinder v1 v2 v3
  have h3 : Good z v3 := (State.setReg_good (State.setRegN_good h))
  exact (State.updTile_good h3)

theorem State.bankCapture_good {s : State} {t : Nat} {epoch : Nat} (h : Good z s) [Unwatched z.parts.tregs] [Unwatched z.parts.basins] : Good z (State.bankCapture s t epoch) := by
  unfold State.bankCapture
  exact (good_ite (by
    extract_lets +onlyGivenNames -merge -useContext -underBinder v1 v3
    have h1 : Good z v1 := (good_foldl (fun _ _ h2 => (State.setReg_good h2)) _ h)
    have h3 : Good z v3 := (State.setRegN_good h1)
    split
    · exact (State.updBasin_good h3)
    · exact h3) h)

theorem State.digestCapture_good {s : State} {t : Nat} {b : Nat} {epoch : Nat} {v : Word64} (h : Good z s) [Unwatched z.parts.objs] [Unwatched z.parts.basins] : Good z (State.digestCapture s t b epoch v) := by
  unfold State.digestCapture
  extract_lets +onlyGivenNames -merge -useContext -underBinder v1
  exact (good_ite (by
    extract_lets +onlyGivenNames -merge -useContext -underBinder v2
    have h2 : Good z v2 := (State.updBasin_good h)
    exact (good_ite (State.setObj_good h2) h2)) h)

theorem State.digestSpan_good {s : State} {b : Nat} {epoch : Nat} (h : Good z s) [Unwatched z.parts.basins] : Good z (State.digestSpan s b epoch) := by
  unfold State.digestSpan
  extract_lets +onlyGivenNames -merge -useContext -underBinder v1
  exact (good_ite h (State.updBasin_good h))

theorem State.digestPoint_good {s : State} {t : Nat} {b : Nat} (h : Good z s) [Unwatched z.parts.tregs] [Unwatched z.parts.objs] [Unwatched z.parts.tiles] [Unwatched z.parts.basins] : Good z (State.digestPoint s t b) := by
  unfold State.digestPoint
  exact (good_ite (by
    extract_lets +onlyGivenNames -merge -useContext -underBinder v1 v2 v3
    have h3 : Good z v3 := (State.digestSpan_good (State.digestCapture_good (State.bankCapture_good (State.digestPush_good h))))
    exact (State.updTile_good h3)) h)

theorem State.ownerTurn_good {s : State} {t : Nat} {b : Nat} (h : Good z s) [Unwatched z.parts.tiles] : Good z (State.ownerTurn s t b) := by
  unfold State.ownerTurn
  split
  · exact (good_ite (State.updBank_good h) h)
  · exact h

theorem State.putWheel_good {s : State} {t : Nat} {key : Nat} {e : Word32} (h : Good z s) [Unwatched z.parts.tiles] : Good z (State.putWheel s t key e) := by
  unfold State.putWheel; exact (State.updSw_good h)

theorem State.applyWrite_good {s : State} {t : Nat} {w : Nat × Nat} (h : Good z s) [Unwatched z.parts.tregs] [Unwatched z.parts.tiles] : Good z (State.applyWrite s t w) := by
  unfold State.applyWrite
  exact (good_ite (State.putWheel_good h) (good_ite (by
    extract_lets +onlyGivenNames -merge -useContext -underBinder v1
    exact (State.updBank_good (State.setRegN_good h))) (State.setRegN_good h)))

theorem State.fwExchange_good {s : State} {t : Nat} (h : Good z s) [Unwatched z.parts.tregs] [Unwatched z.parts.objs] [Unwatched z.parts.tiles] : Good z (State.fwExchange s t) := by
  unfold State.fwExchange
  extract_lets +onlyGivenNames -merge -useContext -underBinder v1 v2 v3 v4
  have h1 : Good z v1 := (State.updTile_good h)
  have h3 : Good z v3 := (State.setRegN_good h1)
  have h4 : Good z v4 := (good_ite (State.updTil_good h3) h3)
  exact (State.setObj_good h4)

theorem State.applyTileBatches_good {s : State} {t : Nat} {n : Nat} (h : Good z s) [Unwatched z.parts.tregs] [Unwatched z.parts.objs] [Unwatched z.parts.tiles] : Good z (State.applyTileBatches s t n) := by
  unfold State.applyTileBatches
  extract_lets +onlyGivenNames -merge -useContext -underBinder v1 v2
  have h2 : Good z v2 := (State.updTile_good h)
  exact (good_foldl (fun _ _ h3 => (by
      extract_lets +onlyGivenNames -merge -useContext -underBinder v4
      have h4 : Good z v4 := (good_foldl (fun _ _ h5 => (State.applyWrite_good h5)) _ h3)
      exact (good_ite (State.fwExchange_good h4) h4))) _ h2)

theorem State.aliasClamp_good {s : State} {t : Nat} {b : Nat} (h : Good z s) [Unwatched z.parts.tregs] [Unwatched z.parts.objs] [Unwatched z.parts.irqQ] [Unwatched z.parts.srv] : Good z (State.aliasClamp s t b) := by
  unfold State.aliasClamp
  extract_lets +onlyGivenNames -merge -useContext -underBinder v1 v2
  exact (good_ite (State.setRegN_good (State.clampTile_good h)) h)

theorem State.remapTurn_good {s : State} {t : Nat} {b : Nat} {m : Nat} (h : Good z s) [Unwatched z.parts.tregs] [Unwatched z.parts.objs] [Unwatched z.parts.alarmQ] [Unwatched z.parts.irqQ] [Unwatched z.parts.boot] : Good z (State.remapTurn s t b m) := by
  unfold State.remapTurn
  extract_lets +onlyGivenNames -merge -useContext -underBinder v1
  exact (good_ite (State.addLedger_good (State.bumpObj_good (State.setRegN_good h))) h)

theorem State.remapTurns_good {s : State} {t : Nat} (h : Good z s) [Unwatched z.parts.tregs] [Unwatched z.parts.objs] [Unwatched z.parts.alarmQ] [Unwatched z.parts.irqQ] [Unwatched z.parts.boot] : Good z (State.remapTurns s t) := by
  unfold State.remapTurns; exact (good_foldl (fun _ _ h1 => (good_foldl (fun _ _ h2 => (State.remapTurn_good h2)) _ h1)) _ h)

theorem State.applyStaged_good {s : State} {t : Nat} {n : Nat} {batches : Bool} (h : Good z s) [Unwatched z.parts.tregs] [Unwatched z.parts.objs] [Unwatched z.parts.tiles] [Unwatched z.parts.irqQ] [Unwatched z.parts.srv] : Good z (State.applyStaged s t n batches) := by
  unfold State.applyStaged
  extract_lets +onlyGivenNames -merge -useContext -underBinder v1 v2 v3 v5 v7 v8
  have h3 : Good z v3 := (good_foldl (fun _ _ h4 => (by
      split
      · exact (State.setReg_good h4)
      · exact h4)) _ (State.updTile_good h))
  have h5 : Good z v5 := (good_foldl (fun _ _ h6 => (by
      split
      · exact (State.putWheel_good h6)
      · exact h6)) _ (State.updSw_good h3))
  have h7 : Good z v7 := (good_ite (State.applyTileBatches_good h5) h5)
  have h8 : Good z v8 := (good_foldl (fun _ _ h9 => (by
      extract_lets +onlyGivenNames -merge -useContext -underBinder v10
      have h10 : Good z v10 := (State.ownerTurn_good (State.aliasClamp_good h9))
      exact (State.updBank_good h10))) _ h7)
  exact (State.updArr_good h8)

theorem State.clearRegs_good {s : State} {t : Nat} {p : Nat → Bool} (h : Good z s) [Unwatched z.parts.tregs] : Good z (State.clearRegs s t p) :=
  good_tregs h _ (Map.wf_filter _ _ _ h.2.tregs)

theorem State.endEpoch_good {s : State} {t : Nat} (h : Good z s) [Unwatched z.parts.tregs] [Unwatched z.parts.tiles] : Good z (State.endEpoch s t) := by
  unfold State.endEpoch; exact (State.updTile_good (State.clearRegs_good h))

theorem State.advanceEpoch_good {s : State} {t : Nat} {k : LockKind} (h : Good z s) [Unwatched z.parts.tregs] : Good z (State.advanceEpoch s t k) := by
  unfold State.advanceEpoch
  split
  · exact h
  · exact (State.estoreLoad_good h)
  · split
    · exact (State.setReg_good (State.estoreLoad_good (State.setRegN_good (State.setRegN_good h))))

theorem State.continueAt_good {s : State} {t : Nat} {k : LockKind} {old : Nat × Nat} (h : Good z s) [Unwatched z.parts.mem] [Unwatched z.parts.tregs] [Unwatched z.parts.objs] [Unwatched z.parts.win] [Unwatched z.parts.tiles] [Unwatched z.parts.basins] : Good z (State.continueAt s t k old) := by
  unfold State.continueAt
  extract_lets +onlyGivenNames -merge -useContext -underBinder v1
  split
  · exact (State.prime_good (State.setRegN_good (State.updTil_good h)))
  · exact (State.prime_good h)
  · exact (good_ite h (State.prime_good (State.updTil_good h)))

theorem State.tileLock_good {s : State} {t : Nat} {b : Nat} {n : Nat} {k : LockKind} {batches : Bool} (h : Good z s) [Unwatched z.parts.mem] [Unwatched z.parts.tregs] [Unwatched z.parts.objs] [Unwatched z.parts.win] [Unwatched z.parts.tiles] [Unwatched z.parts.basins] [Unwatched z.parts.seams] [Unwatched z.parts.alarmQ] [Unwatched z.parts.irqQ] [Unwatched z.parts.srv] [Unwatched z.parts.boot] : Good z (State.tileLock s t b n k batches) := by
  unfold State.tileLock
  extract_lets +onlyGivenNames -merge -useContext -underBinder v1 v2 v3 v4 v5 v6 v7 v8 v9 v10 v11 v12 v13 v14
  have h4 : Good z v4 := (good_ite h (State.setObj_good h))
  have h5 : Good z v5 := (good_ite (State.setRegN_good h4) h4)
  have h6 : Good z v6 := (State.foldDirty_good h5)
  have h7 : Good z v7 := (good_ite (State.digestPoint_good h6) h6)
  have h8 : Good z v8 := (State.beatEnd_good h7)
  have h9 : Good z v9 := (State.endEpoch_good h8)
  have h10 : Good z v10 := (good_ite (State.setRegN_good h9) (State.advanceEpoch_good h9))
  have h11 : Good z v11 := (State.remapTurns_good (good_ite h10 (State.applyStaged_good h10)))
  have h12 : Good z v12 := (State.trace_good (State.setRegN_good (State.continueAt_good h11)))
  have h13 : Good z v13 := (State.updTile_good h12)
  have h14 : Good z v14 := (State.setRegN_good h13)
  exact (good_ite (State.updTile_good h14) (State.beatBegin_good h14))

theorem State.engineLock_good {s : State} {b : Nat} (h : Good z s) [Unwatched z.parts.link] [Unwatched z.parts.host] : Good z (State.engineLock s b) := by
  unfold State.engineLock
  extract_lets +onlyGivenNames -merge -useContext -underBinder v1
  have h1 : Good z v1 := (good_foldl (fun _ _ h2 => (State.updPort_good h2)) _ h)
  exact (good_foldl (fun _ _ h3 => (good_ite (good_host h3 _) h3)) _ h1)

theorem State.lockCounters_good {s : State} {b : Nat} {k : LockKind} (h : Good z s) [Unwatched z.parts.objs] : Good z (State.lockCounters s b k) := by
  unfold State.lockCounters
  extract_lets +onlyGivenNames -merge -useContext -underBinder v1 v2 v3
  have h3 : Good z v3 := (State.setObj_good h)
  split
  · exact h3
  · extract_lets +onlyGivenNames -merge -useContext -underBinder v4
    have h4 : Good z v4 := (State.setObj_good (State.setObj_good h3))
    split
    · exact (State.setObj_good (State.setObj_good h4))
    · exact h4

theorem State.dropBarriers_good {s : State} {b : Nat} (h : Good z s) [Unwatched z.parts.objs] [Unwatched z.parts.basins] [Unwatched z.parts.hubs] : Good z (State.dropBarriers s b) := by
  unfold State.dropBarriers
  extract_lets +onlyGivenNames -merge -useContext -underBinder v1 v2
  have h2 : Good z v2 := (State.updBasin_good (good_ite h (State.bumpObj_good h)))
  exact (good_foldl (fun _ _ h3 => (State.updHub_good h3)) _ h2)

theorem State.basinLock_good {s : State} {b : Nat} {n : Nat} {k : LockKind} {batches : Bool} (h : Good z s) [Unwatched z.parts.free] [Unwatched z.parts.objs] [Unwatched z.parts.basins] [Unwatched z.parts.hubs] [Unwatched z.parts.irqQ] [Unwatched z.parts.link] [Unwatched z.parts.host] [Unwatched z.parts.srv] : Good z (State.basinLock s b n k batches) := by
  unfold State.basinLock
  extract_lets +onlyGivenNames -merge -useContext -underBinder v1 v3 v4 v5 v6
  have h1 : Good z v1 := (good_ite (good_foldl (fun _ _ h2 => (State.slotLock_good h2)) _ h) h)
  have h3 : Good z v3 := (State.engineLock_good h1)
  have h4 : Good z v4 := (good_ite (State.applyBatches_good h3) h3)
  have h5 : Good z v5 := (State.updBasin_good (State.dropBarriers_good (State.lockCounters_good h4)))
  have h6 : Good z v6 := (State.setObj_good h5)
  exact (good_ite (State.setObj_good h6) h6)

theorem State.lockBegin_good {s : State} {b : Nat} (h : Good z s) [Unwatched z.parts.free] [Unwatched z.parts.objs] [Unwatched z.parts.tiles] [Unwatched z.parts.basins] [Unwatched z.parts.hubs] [Unwatched z.parts.irqQ] [Unwatched z.parts.link] [Unwatched z.parts.host] [Unwatched z.parts.srv] : GoodOptSnd z (State.lockBegin s b) := by
  unfold State.lockBegin
  split
  · exact (goodOptSnd_some h)
  · extract_lets +onlyGivenNames -merge -useContext -underBinder v1
    exact (goodOptSnd_ite goodOptSnd_none (by
      extract_lets +onlyGivenNames -merge -useContext -underBinder v2 v3 v4
      have h4 : Good z v4 := (good_ite h (good_ite h (good_foldl (fun _ _ h5 => (State.updTile_good h5)) _ (State.deferBatches_good h))))
      exact (goodOptSnd_some (State.updBasin_good (State.basinLock_good (State.deferTrims_good h4))))))

theorem State.lockBeat_good {s : State} {t : Nat} (h : Good z s) [Unwatched z.parts.free] [Unwatched z.parts.mem] [Unwatched z.parts.tregs] [Unwatched z.parts.objs] [Unwatched z.parts.win] [Unwatched z.parts.tiles] [Unwatched z.parts.basins] [Unwatched z.parts.hubs] [Unwatched z.parts.seams] [Unwatched z.parts.alarmQ] [Unwatched z.parts.irqQ] [Unwatched z.parts.link] [Unwatched z.parts.host] [Unwatched z.parts.srv] [Unwatched z.parts.boot] : Good z (State.lockBeat s t) := by
  unfold State.lockBeat
  split
  · exact h
  · exact (good_ite (by
      split
      · exact h
      · extract_lets +onlyGivenNames -merge -useContext -underBinder v1
        have h1 : Good z v1 := (State.tileLock_good (by refine good_optSnd (by assumption) ?_; exact (State.lockBegin_good h)))
        exact (State.updBasin_good h1)) h)

theorem State.refuseWrite_good {s : State} {index : Nat} {sub : Nat} {v : Nat} (h : Good z s) [Unwatched z.parts.objs] [Unwatched z.parts.irqQ] [Unwatched z.parts.srv] : Good z (State.refuseWrite s index sub v) := by
  unfold State.refuseWrite
  extract_lets +onlyGivenNames -merge -useContext -underBinder v1
  exact (State.logClamp_good h)

theorem State.lkError_good {s : State} {b : Nat} {t : Nat} {cause : Nat} {detail : Nat} {aux : Nat} (h : Good z s) [Unwatched z.parts.objs] [Unwatched z.parts.basins] : Good z (State.lkError s b t cause detail aux) := by
  unfold State.lkError
  extract_lets +onlyGivenNames -merge -useContext -underBinder v1
  exact (State.updBasin_good (State.raiseStop_good h))

theorem State.tileDeath_good {s : State} {t : Nat} {cause : Nat} {lost : Bool} (h : Good z s) [Unwatched z.parts.objs] [Unwatched z.parts.basins] [Unwatched z.parts.alarmQ] [Unwatched z.parts.irqQ] [Unwatched z.parts.boot] : Good z (State.tileDeath s t cause lost) := by
  unfold State.tileDeath
  extract_lets +onlyGivenNames -merge -useContext -underBinder v1 v2
  have h2 : Good z v2 := (State.agentAlarm_good (State.bumpObj_good (State.addLedger_good h)))
  split
  · exact (State.lkError_good h2)
  · exact h2

theorem State.writeMap_good {s : State} {maps : List FieldMap} {limit : Nat} {f : Nat} (h : Good z s) [Unwatched z.parts.objs] : Good z (State.writeMap s maps limit f) := by
  unfold State.writeMap
  split
  · exact h
  · extract_lets +onlyGivenNames -merge -useContext -underBinder v1 v2 v3
    have h2 : Good z v2 := (State.setObj_good (State.setObj_good h))
    have h3 : Good z v3 := (good_foldl (fun _ _ h4 => (State.setObj_good h4)) _ h2)
    exact (State.setObj_good (State.setObj_good h3))

theorem State.markLanes_good {s : State} {t : Nat} (h : Good z s) [Unwatched z.parts.tregs] : Good z (State.markLanes s t) := by
  unfold State.markLanes; exact (good_foldl (fun _ _ h1 => (State.setRegN_good h1)) _ h)

theorem Map.mem_ne {α : Type} [DecidableEq α] {d : Nat → α} : ∀ {m : Map α} {lo : Option Nat}, Map.wfFrom d lo m = true →
    ∀ e, e ∈ m → e.2 ≠ d e.1
  | (j, w) :: rest, lo, h, e, he => by
    rw [Map.wfFrom_cons] at h
    cases he with
    | head => exact h.2.1
    | tail _ he => exact Map.mem_ne h.2.2 e he

theorem Map.wf_ite {α : Type} [DecidableEq α] {d : Nat → α} {c : Prop} [Decidable c] {a b : Map α} (ha : Map.wf a d = true)
    (hb : Map.wf b d = true) : Map.wf (if c then a else b) d = true := by
  split <;> assumption

theorem rekeyRegs_wf {old new : State} {regs : Map Word64} (h : Map.wf regs (fun k => regDefault (k % 65536)) = true) :
    Map.wf (rekeyRegs old new regs) (fun k => regDefault (k % 65536)) = true := by
  have hne := Map.mem_ne h
  have hi : ∀ (m : Map Word64) (k : Nat) (v : Word64), Map.wf m (fun k => regDefault (k % 65536)) = true →
      v ≠ regDefault (k % 65536) → Map.wf (Map.ins m k v) (fun k => regDefault (k % 65536)) = true :=
    fun m k v hm hv => Map.wfFrom_ins _ k v hv m none hm (by intro l hl; cases hl)
  have step : ∀ (l : Map Word64) (m : Map Word64) (inv : Map Nat), (∀ e, e ∈ l → e.2 ≠ regDefault (e.1 % 65536)) →
      Map.wf m (fun k => regDefault (k % 65536)) = true →
      Map.wf (l.foldl (fun m e =>
        if !physReg (e.1 % 65536) then Map.ins m e.1 e.2
        else match inv.find? (fun q => decide (q.1 = e.1 / 65536)) with
        | some (_, p) => Map.ins m (65536 * new.holder p + e.1 % 65536) e.2
        | none => m) m) (fun k => regDefault (k % 65536)) = true := by
    intro l
    induction l with
    | nil => exact fun m _ _ hm => hm
    | cons e rest ih =>
      intro m inv hl hm
      have he := hl e List.mem_cons_self
      refine ih _ inv (fun x hx => hl x (List.mem_cons_of_mem _ hx)) (Map.wf_ite (hi m _ _ hm he) ?_)
      split
      · rename_i p _
        have hk : (65536 * new.holder p + e.1 % 65536) % 65536 = e.1 % 65536 := by omega
        exact hi m _ _ hm (by rw [hk]; exact he)
      · exact hm
  unfold rekeyRegs
  extract_lets inv
  clear_value inv
  exact step regs [] inv hne (Map.wf_nil _)

theorem State.takeMaps_good {s : State} {grade : Nat} {maps : List FieldMap} (h : Good z s) [Unwatched z.parts.tregs] [Unwatched z.parts.objs] [Unwatched z.parts.boot] : Good z (State.takeMaps s grade maps) := by
  unfold State.takeMaps
  extract_lets +onlyGivenNames -merge -useContext -underBinder v1 v2 v4 v5 v6 v7 v8 v10 v11 v12 v14 v16 v18 v19 v20 v21 v22
  have h2 : Good z v2 := (good_foldl (fun _ _ h3 => (State.writeMap_good h3)) _ h)
  have h6 : Good z v6 := (good_boot h2 _)
  have h7 : Good z v7 := (good_tregs h6 _ (rekeyRegs_wf h6.2.tregs))
  have h8 : Good z v8 := (good_foldl (fun _ _ h9 => (State.markLanes_good (State.setRegN_good h9))) _ h7)
  have h12 : Good z v12 := (good_foldl (fun _ _ h13 => (State.setRegN_good h13)) _ h8)
  have h14 : Good z v14 := (good_foldl (fun _ _ h15 => (State.setRegN_good h15)) _ h12)
  have h16 : Good z v16 := (good_foldl (fun _ _ h17 => (State.setObj_good h17)) _ h14)
  have h20 : Good z v20 := (State.setObj_good (State.setObj_good (State.setObj_good (State.setObj_good h16))))
  have h22 : Good z v22 := (State.setObj_good (State.setObj_good h20))
  exact (good_foldl (fun _ _ h23 => (State.setRegN_good h23)) _ h22)

theorem execBarUp_good {r : Fin 152} {b : BasinId} {num : BitVec 8} {hop : TpHop} {s : State} (h : Good z s) [Unwatched z.parts.tregs] [Unwatched z.parts.objs] [Unwatched z.parts.win] [Unwatched z.parts.tiles] [Unwatched z.parts.basins] [Unwatched z.parts.hubs] [Unwatched z.parts.alarmQ] : GoodOut z (execBarUp r b num hop s) := by
  unfold execBarUp
  exact (goodOut_ite (by
    extract_lets +onlyGivenNames -merge -useContext -underBinder v1
    have h1 : Good z v1 := (State.hopRetry_good h)
    exact (goodOut_ite (goodOut_next (State.hopLost_good (State.barLost_good h1))) (goodOut_next (State.barUp_good h1)))) (goodOut_next h))

theorem execBarDone_good {t : TileId} {num : BitVec 8} {hop : TpHop} {s : State} (h : Good z s) [Unwatched z.parts.tregs] [Unwatched z.parts.win] [Unwatched z.parts.tiles] [Unwatched z.parts.basins] [Unwatched z.parts.hubs] [Unwatched z.parts.alarmQ] : GoodOut z (execBarDone t num hop s) := by
  unfold execBarDone
  exact (goodOut_ite (by
    extract_lets +onlyGivenNames -merge -useContext -underBinder v1
    have h1 : Good z v1 := (State.hopRetry_good h)
    exact (goodOut_ite (goodOut_next (State.hopLost_good (State.barDoneLost_good h1))) (goodOut_next (State.barDeliver_good h1)))) (goodOut_next h))

theorem State.emergency_good {s : State} {m : AlarmMsg} (h : Good z s) [Unwatched z.parts.objs] [Unwatched z.parts.srv] : Good z (State.emergency s m) := by
  unfold State.emergency
  exact (good_ite h (good_ite (by
    extract_lets +onlyGivenNames -merge -useContext -underBinder v1
    have h1 : Good z v1 := (State.setObj_good h)
    exact (good_srv h1 _)) (State.bumpObj_good h)))

theorem State.standbyAlarm_good {s : State} {m : AlarmMsg} (h : Good z s) [Unwatched z.parts.keepers] : Good z (State.standbyAlarm s m) := by
  unfold State.standbyAlarm; exact (good_keepers h _)

theorem State.alarmIn_good {s : State} {m : AlarmMsg} (h : Good z s) [Unwatched z.parts.objs] [Unwatched z.parts.bar0] [Unwatched z.parts.basins] [Unwatched z.parts.host] [Unwatched z.parts.srv] [Unwatched z.parts.keepers] : Good z (State.alarmIn s m) := by
  unfold State.alarmIn
  extract_lets +onlyGivenNames -merge -useContext -underBinder v1 v2 v3
  have h1 : Good z v1 := (State.bumpObj_good h)
  have h2 : Good z v2 := (State.setBar_good (State.setBar_good (State.setBar_good h1)))
  have h3 : Good z v3 := (State.standbyAlarm_good (State.emergency_good (State.signal_good h2)))
  exact (good_ite (by
    extract_lets +onlyGivenNames -merge -useContext -underBinder v4
    have h4 : Good z v4 := (State.updBasin_good h3)
    exact (good_ite (State.raiseStop_good h4) h4)) h3)

theorem State.alarmHop_good {s : State} {m : AlarmMsg} {hop : TpHop} (h : Good z s) [Unwatched z.parts.tregs] [Unwatched z.parts.objs] [Unwatched z.parts.bar0] [Unwatched z.parts.win] [Unwatched z.parts.tiles] [Unwatched z.parts.basins] [Unwatched z.parts.hubs] [Unwatched z.parts.alarmQ] [Unwatched z.parts.host] [Unwatched z.parts.srv] [Unwatched z.parts.keepers] : Good z (State.alarmHop s m hop) := by
  unfold State.alarmHop
  extract_lets +onlyGivenNames -merge -useContext -underBinder v1
  have h1 : Good z v1 := (State.hopRetry_good h)
  exact (good_ite (State.hopLost_good h1) (State.alarmIn_good h1))

theorem execAlarm_good {src : Option TileId} {hop : TpHop} {s : State} (h : Good z s) [Unwatched z.parts.tregs] [Unwatched z.parts.objs] [Unwatched z.parts.bar0] [Unwatched z.parts.win] [Unwatched z.parts.tiles] [Unwatched z.parts.basins] [Unwatched z.parts.hubs] [Unwatched z.parts.alarmQ] [Unwatched z.parts.host] [Unwatched z.parts.srv] [Unwatched z.parts.keepers] : GoodOut z (execAlarm src hop s) := by
  unfold execAlarm
  exact (goodOut_ite (goodOut_next h) (by
    split
    · split
      · exact (goodOut_next h)
      · exact (goodOut_next (State.alarmHop_good (State.tileTook_good (State.updTile_good h))))
    · split
      · exact (goodOut_next h)
      · extract_lets +onlyGivenNames -merge -useContext -underBinder v1
        have h1 : Good z v1 := (good_alarmQ h _)
        exact (goodOut_next (State.alarmHop_good h1))))

theorem State.irqIn_good {s : State} {m : AlarmMsg} (h : Good z s) [Unwatched z.parts.objs] [Unwatched z.parts.srv] : Good z (State.irqIn s m) := by
  unfold State.irqIn; exact (good_ite (State.emergency_good h) h)

theorem State.irqHop_good {s : State} {m : AlarmMsg} {hop : TpHop} (h : Good z s) [Unwatched z.parts.tregs] [Unwatched z.parts.objs] [Unwatched z.parts.win] [Unwatched z.parts.tiles] [Unwatched z.parts.hubs] [Unwatched z.parts.alarmQ] [Unwatched z.parts.srv] : Good z (State.irqHop s m hop) := by
  unfold State.irqHop
  extract_lets +onlyGivenNames -merge -useContext -underBinder v1
  have h1 : Good z v1 := (State.hopRetry_good h)
  exact (good_ite (State.hopLost_good h1) (State.irqIn_good h1))

theorem execIrq_good {src : Option TileId} {hop : TpHop} {s : State} (h : Good z s) [Unwatched z.parts.tregs] [Unwatched z.parts.objs] [Unwatched z.parts.win] [Unwatched z.parts.tiles] [Unwatched z.parts.hubs] [Unwatched z.parts.alarmQ] [Unwatched z.parts.irqQ] [Unwatched z.parts.srv] : GoodOut z (execIrq src hop s) := by
  unfold execIrq
  exact (goodOut_ite (goodOut_next h) (by
    split
    · split
      · exact (goodOut_next h)
      · exact (goodOut_next (State.irqHop_good (State.tileTook_good (State.updTile_good h))))
    · split
      · exact (goodOut_next h)
      · extract_lets +onlyGivenNames -merge -useContext -underBinder v1
        have h1 : Good z v1 := (good_irqQ h _)
        exact (goodOut_next (State.irqHop_good h1))))

theorem State.traceIn_good {s : State} {l : List Nat} (h : Good z s) [Unwatched z.parts.free] [Unwatched z.parts.objs] [Unwatched z.parts.dbg] : Good z (State.traceIn s l) := by
  unfold State.traceIn
  split
  · extract_lets +onlyGivenNames -merge -useContext -underBinder v1 v2 v3 v4
    have h4 : Good z v4 := (good_dbg (by refine good_snd (by assumption) ?_; exact (State.fresh_good h)) _)
    exact (State.setObj_good h4)

theorem execTrace_good {t : TileId} {hop : TpHop} {s : State} (h : Good z s) [Unwatched z.parts.free] [Unwatched z.parts.tregs] [Unwatched z.parts.objs] [Unwatched z.parts.win] [Unwatched z.parts.tiles] [Unwatched z.parts.hubs] [Unwatched z.parts.alarmQ] [Unwatched z.parts.dbg] : GoodOut z (execTrace t hop s) := by
  unfold execTrace
  extract_lets +onlyGivenNames -merge -useContext -underBinder v1
  split
  · exact (goodOut_next h)
  · exact (goodOut_ite (goodOut_next h) (by
      extract_lets +onlyGivenNames -merge -useContext -underBinder v2 v3
      have h3 : Good z v3 := (State.hopRetry_good (State.tileTook_good (State.updTile_good h)))
      exact (goodOut_ite (goodOut_next (State.hopLost_good h3)) (goodOut_next (State.traceIn_good h3)))))

theorem State.cfgWords_good {t : Nat} {l : List Word32} {s : State} {off st : Nat} (h : Good z s) [Unwatched z.parts.mem] [Unwatched z.parts.tregs] [Unwatched z.parts.objs] [Unwatched z.parts.win] [Unwatched z.parts.tiles] [Unwatched z.parts.basins] [Unwatched z.parts.irqQ] [Unwatched z.parts.srv] :
    GoodSnd z (State.cfgWords s t off l st) := by
  induction l generalizing s off st with
  | nil => exact goodSnd_mk h
  | cons w rest ih =>
    have h1 : GoodSnd z (if (off = 0x4004 && s.runs t) = true then (rspRefused, s) else s.regWrite t off w.toNat none) :=
      goodSnd_ite (goodSnd_mk h) (State.regWrite_good h)
    exact ih (goodSnd_get h1)

theorem State.updBatch_good {s : State} {t : Nat} {b : Nat} {id : Nat} {f : TileBatch → TileBatch} (h : Good z s) [Unwatched z.parts.tiles] : Good z (State.updBatch s t b id f) := by
  unfold State.updBatch
  extract_lets +onlyGivenNames -merge -useContext -underBinder v1
  exact (State.updTile_good h)

theorem State.batchWord_good {s : State} {t : Nat} {off : Nat} {v : Nat} {draft : List (Nat × Nat)} (h : Good z s) [Unwatched z.parts.objs] [Unwatched z.parts.tiles] [Unwatched z.parts.irqQ] [Unwatched z.parts.srv] : GoodThd z (State.batchWord s t off v draft) := by
  unfold State.batchWord
  split
  · exact (goodThd_mk (goodSnd_mk h))
  · exact (goodThd_ite (goodThd_mk (goodSnd_mk h)) (goodThd_ite (goodThd_ite (goodThd_mk (goodSnd_mk h)) (by
      extract_lets +onlyGivenNames -merge -useContext -underBinder v1
      exact (goodThd_mk (goodSnd_mk h)))) (by
      extract_lets +onlyGivenNames -merge -useContext -underBinder v2 v3 v4 v5
      exact (goodThd_mk (goodSnd_mk (good_foldl (fun _ _ h6 => (State.clampTile_good h6)) _ h))))))

theorem State.batchWords_good {t : Nat} {l : List Word32} {s : State} {off st : Nat} {acc : List (Nat × Nat)} (h : Good z s) [Unwatched z.parts.objs] [Unwatched z.parts.tiles] [Unwatched z.parts.irqQ] [Unwatched z.parts.srv] :
    GoodThd z (State.batchWords s t off l st acc) := by
  induction l generalizing s off st acc with
  | nil => exact goodThd_mk (goodSnd_mk h)
  | cons w rest ih => exact ih (goodSnd_get (goodThd_get (State.batchWord_good h)))

theorem State.cfgWrTile_good {s : State} {t : Nat} {o : Nat} {n : Nat} {data : List Word32} {batch : Option Nat} (h : Good z s) [Unwatched z.parts.mem] [Unwatched z.parts.tregs] [Unwatched z.parts.objs] [Unwatched z.parts.win] [Unwatched z.parts.tiles] [Unwatched z.parts.basins] [Unwatched z.parts.hubs] [Unwatched z.parts.irqQ] [Unwatched z.parts.srv] : Good z (State.cfgWrTile s t o n data batch) := by
  unfold State.cfgWrTile
  exact (good_ite (State.respond_good h) (good_ite (State.respond_good h) (good_ite (State.respond_good (State.tpDrop_good h)) (good_ite (State.respond_good h) (good_ite (State.respond_good h) (by
    split
    · split
      · exact (State.respond_good (by refine good_snd (by assumption) ?_; exact (State.cfgWords_good h)))
    · exact (State.respond_good h)
    · split
      · exact (good_ite (State.respond_good (State.updBatch_good (by refine good_thd (by assumption) ?_; exact (State.batchWords_good h)))) (State.respond_good (by refine good_thd (by assumption) ?_; exact (State.batchWords_good h))))))))))

theorem State.readWords_good {t n : Nat} {s : State} {off : Nat} {acc : List Word32} (h : Good z s) [Unwatched z.parts.tiles] :
    GoodSnd z (State.readWords s t off n acc) := by
  induction n generalizing s off acc with
  | zero => exact goodSnd_mk h
  | succ k ih => exact ih (goodSnd_get (State.regRead_good h))

theorem State.cfgRdTile_good {s : State} {t : Nat} {o : Nat} {n : Nat} (h : Good z s) [Unwatched z.parts.tregs] [Unwatched z.parts.win] [Unwatched z.parts.tiles] [Unwatched z.parts.hubs] : Good z (State.cfgRdTile s t o n) := by
  unfold State.cfgRdTile
  exact (good_ite (State.respond_good h) (good_ite (State.respond_good h) (good_ite (State.respond_good (State.tpDrop_good h)) (good_ite (State.respond_good h) (good_ite (State.respond_good h) (by
    split
    · exact (State.respond_good (by refine good_snd (by assumption) ?_; exact (State.readWords_good h)))))))))

theorem State.cfgWrHub_good {s : State} {h_ : Nat} {o : Nat} {n : Nat} {data : List Word32} {batch : Option Nat} (h : Good z s) [Unwatched z.parts.tregs] [Unwatched z.parts.win] [Unwatched z.parts.hubs] : Good z (State.cfgWrHub s h_ o n data batch) := by
  unfold State.cfgWrHub; exact (good_ite (State.hubRespond_good (State.tpDrop_good h)) (good_ite (State.hubRespond_good h) (good_ite (State.hubRespond_good h) (State.hubRespond_good h))))

theorem State.cfgRdHub_good {s : State} {h_ : Nat} {o : Nat} {n : Nat} (h : Good z s) [Unwatched z.parts.tregs] [Unwatched z.parts.win] [Unwatched z.parts.hubs] : Good z (State.cfgRdHub s h_ o n) := by
  unfold State.cfgRdHub; exact (good_ite (State.hubRespond_good (State.tpDrop_good h)) (good_ite (State.hubRespond_good h) (good_ite (State.hubRespond_good h) (State.hubRespond_good h))))

theorem State.agentRespond_good {s : State} {a : Nat} {status : Nat} {data : List Word32} (h : Good z s) [Unwatched z.parts.agentRsp] : Good z (State.agentRespond s a status data) := by
  unfold State.agentRespond; exact (good_agentRsp h _)

theorem State.cfgWrGateway_good {s : State} {f : Nat} {o : Nat} {data : List Word32} (h : Good z s) [Unwatched z.parts.objs] : Good z (State.cfgWrGateway s f o data) := by
  unfold State.cfgWrGateway; exact (good_foldl (fun _ _ h1 => (good_ite (State.setObj_good h1) h1)) _ h)

theorem State.cfgAgent_good {s : State} {a : Nat} {d : TpDest} {o : Nat} {n : Nat} {data : Option (List Word32)} {batch : Option Nat} (h : Good z s) [Unwatched z.parts.tregs] [Unwatched z.parts.objs] [Unwatched z.parts.win] [Unwatched z.parts.hubs] [Unwatched z.parts.agentRsp] : Good z (State.cfgAgent s a d o n data batch) := by
  unfold State.cfgAgent
  exact (good_ite (State.agentRespond_good (State.tpDrop_good h)) (good_ite (State.agentRespond_good h) (good_ite (State.agentRespond_good h) (by
    split
    · exact (State.agentRespond_good (State.cfgWrGateway_good h))
    · exact (State.agentRespond_good h)
    · exact (State.agentRespond_good h)
    · exact (State.agentRespond_good h)))))

theorem State.destRespond_good {s : State} {a : Nat} {status : Nat} (h : Good z s) [Unwatched z.parts.tiles] [Unwatched z.parts.hubs] [Unwatched z.parts.agentRsp] : Good z (State.destRespond s a status) := by
  unfold State.destRespond
  split
  · exact (State.respond_good h)
  · exact (State.hubRespond_good h)
  · exact (State.agentRespond_good h)
  · exact (State.agentRespond_good h)

theorem State.requestLost_good {s : State} {a : Nat} {hop : TpHop} (h : Good z s) [Unwatched z.parts.tregs] [Unwatched z.parts.win] [Unwatched z.parts.tiles] [Unwatched z.parts.hubs] [Unwatched z.parts.alarmQ] [Unwatched z.parts.agentRsp] : Good z (State.requestLost s a hop) := by
  unfold State.requestLost
  extract_lets +onlyGivenNames -merge -useContext -underBinder v1
  have h1 : Good z v1 := (State.hopLost_good h)
  exact (good_ite (State.destRespond_good h1) h1)

theorem execCfgWr_good {d : BitVec 12} {w : Word32} {data : List Word32} {hop : TpHop} {s : State} (h : Good z s) [Unwatched z.parts.mem] [Unwatched z.parts.tregs] [Unwatched z.parts.objs] [Unwatched z.parts.win] [Unwatched z.parts.tiles] [Unwatched z.parts.basins] [Unwatched z.parts.hubs] [Unwatched z.parts.alarmQ] [Unwatched z.parts.irqQ] [Unwatched z.parts.agentRsp] [Unwatched z.parts.srv] : GoodOut z (execCfgWr d w data hop s) := by
  unfold execCfgWr
  extract_lets +onlyGivenNames -merge -useContext -underBinder v1 v2 v3
  have h1 : Good z v1 := (State.hopRetry_good h)
  exact (goodOut_ite (goodOut_next (State.requestLost_good h1)) (by
    split
    · exact (goodOut_next (State.cfgWrTile_good h1))
    · exact (goodOut_next (State.cfgWrHub_good h1))
    · exact (goodOut_next (State.cfgAgent_good h1))
    · exact (goodOut_next (State.agentRespond_good h1))))

theorem execCfgRd_good {d : BitVec 12} {w : Word32} {hop : TpHop} {s : State} (h : Good z s) [Unwatched z.parts.tregs] [Unwatched z.parts.objs] [Unwatched z.parts.win] [Unwatched z.parts.tiles] [Unwatched z.parts.hubs] [Unwatched z.parts.alarmQ] [Unwatched z.parts.agentRsp] : GoodOut z (execCfgRd d w hop s) := by
  unfold execCfgRd
  extract_lets +onlyGivenNames -merge -useContext -underBinder v1 v2
  have h1 : Good z v1 := (State.hopRetry_good h)
  exact (goodOut_ite (goodOut_next (State.requestLost_good h1)) (by
    split
    · exact (goodOut_next (State.cfgRdTile_good h1))
    · exact (goodOut_next (State.cfgRdHub_good h1))
    · exact (goodOut_next (State.cfgAgent_good h1))
    · exact (goodOut_next (State.agentRespond_good h1))))

theorem State.takeResponse_good {s : State} {a : Nat} (h : Good z s) [Unwatched z.parts.tiles] [Unwatched z.parts.hubs] [Unwatched z.parts.agentRsp] : Good z (State.takeResponse s a) := by
  unfold State.takeResponse
  split
  · exact (State.tileTook_good (State.updTile_good h))
  · exact (State.updHub_good h)
  · exact (good_agentRsp h _)

theorem execCfgRsp_good {d : BitVec 12} {hop : TpHop} {s : State} (h : Good z s) [Unwatched z.parts.tregs] [Unwatched z.parts.win] [Unwatched z.parts.tiles] [Unwatched z.parts.hubs] [Unwatched z.parts.alarmQ] [Unwatched z.parts.agentRsp] : GoodOut z (execCfgRsp d hop s) := by
  unfold execCfgRsp
  exact (goodOut_ite (goodOut_next h) (by
    extract_lets +onlyGivenNames -merge -useContext -underBinder v1
    have h1 : Good z v1 := (State.hopRetry_good (State.takeResponse_good h))
    exact (goodOut_ite (goodOut_next (State.hopLost_good h1)) (goodOut_next h1))))

theorem State.sealBatch_good {s : State} {t : Nat} {id : Nat} {count : Nat} {target : Nat} (h : Good z s) [Unwatched z.parts.tiles] : Good z (State.sealBatch s t id count target) := by
  unfold State.sealBatch
  split
  · exact h
  · exact (good_ite h (State.updBatch_good h))

theorem execBatchSeal_good {t : TileId} {id : BitVec 8} {count : BitVec 16} {target : Word32} {hop : TpHop} {s : State} (h : Good z s) [Unwatched z.parts.tregs] [Unwatched z.parts.win] [Unwatched z.parts.tiles] [Unwatched z.parts.hubs] [Unwatched z.parts.alarmQ] : GoodOut z (execBatchSeal t id count target hop s) := by
  unfold execBatchSeal
  extract_lets +onlyGivenNames -merge -useContext -underBinder v1
  have h1 : Good z v1 := (State.hopRetry_good h)
  exact (goodOut_ite (goodOut_next (State.hopLost_good h1)) (goodOut_next (State.sealBatch_good h1)))

theorem State.toTarget_good {s : State} {d : TpTarget} {hop : TpHop} {f : State → Nat → State} (h : Good z s)
    (hf : ∀ a t, Good z a → Good z (f a t)) [Unwatched z.parts.tregs] [Unwatched z.parts.win] [Unwatched z.parts.tiles] [Unwatched z.parts.hubs] [Unwatched z.parts.alarmQ] : Good z (State.toTarget s d hop f) := by
  unfold State.toTarget
  exact good_foldl hf _ (good_ite (State.hopLost_good (State.hopRetry_good h)) (State.hopRetry_good h))

theorem State.updFw_good {s : State} {t : Nat} {f : FwStore → FwStore} (h : Good z s) [Unwatched z.parts.tiles] : Good z (State.updFw s t f) := by
  unfold State.updFw; exact (State.updTile_good h)

theorem State.fwShow_good {s : State} {id : Nat} {n : Nat} {state : Nat} (h : Good z s) [Unwatched z.parts.objs] : Good z (State.fwShow s id n state) := by
  unfold State.fwShow; exact (State.setObj_good (State.setObj_good (State.setObj_good h)))

theorem State.fwInfo_good {s : State} {t : Nat} {id : Nat} {count : Nat} {crc : Word64} (h : Good z s) [Unwatched z.parts.objs] [Unwatched z.parts.tiles] : Good z (State.fwInfo s t id count crc) := by
  unfold State.fwInfo
  extract_lets +onlyGivenNames -merge -useContext -underBinder v1
  exact (good_ite h (by
    extract_lets +onlyGivenNames -merge -useContext -underBinder v2
    have h2 : Good z v2 := (State.updFw_good h)
    exact (State.fwShow_good h2)))

theorem execFwInfo_good {d : TpTarget} {w : BitVec 30} {crc : Word64} {hop : TpHop} {s : State} (h : Good z s) [Unwatched z.parts.tregs] [Unwatched z.parts.objs] [Unwatched z.parts.win] [Unwatched z.parts.tiles] [Unwatched z.parts.hubs] [Unwatched z.parts.alarmQ] : GoodOut z (execFwInfo d w crc hop s) := by
  unfold execFwInfo; exact (goodOut_next (State.toTarget_good h (fun _ _ h1 => (State.fwInfo_good h1))))

theorem State.fwVerify_good {s : State} {t : Nat} (h : Good z s) [Unwatched z.parts.tiles] : Good z (State.fwVerify s t) := by
  unfold State.fwVerify
  extract_lets +onlyGivenNames -merge -useContext -underBinder v1
  exact (good_ite h (good_ite (by
    extract_lets +onlyGivenNames -merge -useContext -underBinder v2
    exact (State.updTile_good h)) (State.updFw_good h)))

theorem State.fwChunk_good {s : State} {t : Nat} {id : BitVec 8} {idx : BitVec 16} {data : BitVec 128} {crc : Word32} (h : Good z s) [Unwatched z.parts.tregs] [Unwatched z.parts.tiles] : Good z (State.fwChunk s t id idx data crc) := by
  unfold State.fwChunk
  extract_lets +onlyGivenNames -merge -useContext -underBinder v1 v2
  exact (good_ite (State.fwVerify_good (State.updFw_good h)) (State.bumpReg_good h))

theorem execFwChunk_good {d : TpTarget} {id : BitVec 8} {idx : BitVec 16} {data : BitVec 128} {crc : Word32} {hop : TpHop} {s : State} (h : Good z s) [Unwatched z.parts.tregs] [Unwatched z.parts.objs] [Unwatched z.parts.win] [Unwatched z.parts.tiles] [Unwatched z.parts.hubs] [Unwatched z.parts.alarmQ] : GoodOut z (execFwChunk d id idx data crc hop s) := by
  unfold execFwChunk
  extract_lets +onlyGivenNames -merge -useContext -underBinder v1 v2
  have h2 : Good z v2 := (good_ite (State.bumpObj_good h) h)
  exact (goodOut_next (State.toTarget_good h2 (fun _ _ h3 => (State.fwChunk_good h3))))

theorem State.fwQuery_good {s : State} {t : Nat} {id : Nat} {base : Nat} (h : Good z s) [Unwatched z.parts.tiles] [Unwatched z.parts.hubs] : Good z (State.fwQuery s t id base) := by
  unfold State.fwQuery
  extract_lets +onlyGivenNames -merge -useContext -underBinder v1 v2 v3 v4 v5 v6
  exact (State.tileSend_good (State.updHub_good h))

theorem execFwQuery_good {d : TpTarget} {w : BitVec 30} {hop : TpHop} {s : State} (h : Good z s) [Unwatched z.parts.tregs] [Unwatched z.parts.objs] [Unwatched z.parts.win] [Unwatched z.parts.tiles] [Unwatched z.parts.hubs] [Unwatched z.parts.alarmQ] [Unwatched z.parts.upd] : GoodOut z (execFwQuery d w hop s) := by
  unfold execFwQuery
  extract_lets +onlyGivenNames -merge -useContext -underBinder v1
  have h1 : Good z v1 := (State.setObj_good (State.toTarget_good h (fun _ _ h2 => (State.fwQuery_good h2))))
  exact (goodOut_next (good_upd h1 _))

theorem State.missingUp_good {s : State} {l : List Nat} (h : Good z s) [Unwatched z.parts.objs] [Unwatched z.parts.tiles] [Unwatched z.parts.hubs] [Unwatched z.parts.upd] : Good z (State.missingUp s l) := by
  unfold State.missingUp
  extract_lets +onlyGivenNames -merge -useContext -underBinder v1 v2 v3 v5 v7 v8 v9 v10 v11
  have h3 : Good z v3 := (good_foldl (fun _ _ h4 => (State.updHub_good h4)) _ h)
  have h5 : Good z v5 := (good_foldl (fun _ _ h6 => (State.tileTook_good h6)) _ h3)
  have h11 : Good z v11 := (good_upd h5 _)
  exact (State.setObj_good (State.setObj_good (State.setObj_good h11)))

theorem State.missingLost_good {s : State} {l : List Nat} {r : Nat} (h : Good z s) [Unwatched z.parts.tiles] [Unwatched z.parts.hubs] : Good z (State.missingLost s l r) := by
  unfold State.missingLost
  extract_lets +onlyGivenNames -merge -useContext -underBinder v1 v2
  have h2 : Good z v2 := (good_foldl (fun _ _ h3 => (State.tileTook_good h3)) _ h)
  exact (good_foldl (fun _ _ h4 => (State.updHub_good h4)) _ h2)

theorem execMissingUp_good {d : TpTarget} {hop : TpHop} {s : State} (h : Good z s) [Unwatched z.parts.tregs] [Unwatched z.parts.objs] [Unwatched z.parts.win] [Unwatched z.parts.tiles] [Unwatched z.parts.hubs] [Unwatched z.parts.alarmQ] [Unwatched z.parts.upd] : GoodOut z (execMissingUp d hop s) := by
  unfold execMissingUp
  extract_lets +onlyGivenNames -merge -useContext -underBinder v1 v2
  exact (goodOut_ite (goodOut_next h) (by
    extract_lets +onlyGivenNames -merge -useContext -underBinder v3
    have h3 : Good z v3 := (State.hopRetry_good h)
    exact (goodOut_ite (goodOut_next (State.hopLost_good (State.missingLost_good h3))) (goodOut_next (State.missingUp_good h3)))))

theorem State.fwActivate_good {s : State} {t : Nat} {id : Nat} {batch : Nat} (h : Good z s) [Unwatched z.parts.tregs] [Unwatched z.parts.objs] [Unwatched z.parts.tiles] : Good z (State.fwActivate s t id batch) := by
  unfold State.fwActivate
  extract_lets +onlyGivenNames -merge -useContext -underBinder v1 v2
  split
  · exact (good_ite (State.fwExchange_good h) h)
  · extract_lets +onlyGivenNames -merge -useContext -underBinder v3
    have h3 : Good z v3 := (State.updFw_good (State.updBatch_good h))
    exact (State.setObj_good (State.setObj_good h3))

theorem execFwActivate_good {d : TpTarget} {w : BitVec 30} {batch : BitVec 8} {hop : TpHop} {s : State} (h : Good z s) [Unwatched z.parts.tregs] [Unwatched z.parts.objs] [Unwatched z.parts.win] [Unwatched z.parts.tiles] [Unwatched z.parts.hubs] [Unwatched z.parts.alarmQ] : GoodOut z (execFwActivate d w batch hop s) := by
  unfold execFwActivate; exact (goodOut_next (State.toTarget_good h (fun _ _ h1 => (State.fwActivate_good h1))))

theorem State.fwCancel_good {s : State} {t : Nat} (h : Good z s) [Unwatched z.parts.objs] [Unwatched z.parts.tiles] : Good z (State.fwCancel s t) := by
  unfold State.fwCancel
  extract_lets +onlyGivenNames -merge -useContext -underBinder v1
  have h1 : Good z v1 := (State.updTile_good h)
  exact (State.setObj_good h1)

theorem execFwCancel_good {d : TpTarget} {hop : TpHop} {s : State} (h : Good z s) [Unwatched z.parts.tregs] [Unwatched z.parts.objs] [Unwatched z.parts.win] [Unwatched z.parts.tiles] [Unwatched z.parts.hubs] [Unwatched z.parts.alarmQ] : GoodOut z (execFwCancel d hop s) := by
  unfold execFwCancel; exact (goodOut_next (State.toTarget_good h (fun _ _ h1 => (State.fwCancel_good h1))))

theorem State.stopTile_good {s : State} {t : Nat} (h : Good z s) [Unwatched z.parts.tregs] [Unwatched z.parts.tiles] : Good z (State.stopTile s t) := by
  unfold State.stopTile
  exact (good_ite h (by
    extract_lets +onlyGivenNames -merge -useContext -underBinder v1
    have h1 : Good z v1 := (State.updTile_good h)
    exact (State.setRegN_good h1)))

theorem execStopArrive_good {d : StopDest} {s : State} (h : Good z s) [Unwatched z.parts.tregs] [Unwatched z.parts.tiles] [Unwatched z.parts.link] [Unwatched z.parts.host] : GoodOut z (execStopArrive d s) := by
  unfold execStopArrive
  split
  · split
    · exact (goodOut_ite (goodOut_next (State.stopTile_good h)) (goodOut_next h))
    · exact (goodOut_next h)
  · exact (goodOut_ite (goodOut_next (State.updPort_good h)) (goodOut_next h))
  · exact (goodOut_ite (goodOut_next (good_host h _)) (goodOut_next h))

theorem execStopForce_good {t : TileId} {s : State} (h : Good z s) [Unwatched z.parts.mem] [Unwatched z.parts.tregs] [Unwatched z.parts.objs] [Unwatched z.parts.win] [Unwatched z.parts.tiles] [Unwatched z.parts.basins] [Unwatched z.parts.irqQ] [Unwatched z.parts.srv] : GoodOut z (execStopForce t s) := by
  unfold execStopForce; exact (goodOut_next (State.towpathAsk_good h (fun _ h1 => (State.regWrite_good h1))))

end Sys2Proof.Machine
end

