-- ==== Sys2Proof/Laws/KeepService.lean ====
section
/-! SUPPORT. The operations of PowerOps, SeamOps, ResetOps, ReplayOps, MoveOps, CellarOps, BasinOps, UpdateOps, Basins keep the queue, the canonical form, and every
part of the device that their premises do not name. -/

namespace Sys2Proof.Machine

open Sys2Proof

variable {z : Watch}

theorem State.newCeiling_good {s : State} (h : Good z s) [Unwatched z.parts.objs] : Good z (State.newCeiling s) := by
  unfold State.newCeiling
  extract_lets +onlyGivenNames -merge -useContext -underBinder v1
  exact (State.setObj_good (State.setObj_good h))

theorem State.setRails_good {s : State} {n : Nat} (h : Good z s) [Unwatched z.parts.objs] : Good z (State.setRails s n) := by
  unfold State.setRails; exact (State.setObj_good (State.setObj_good h))

theorem State.poundCounts_good {s : State} (h : Good z s) [Unwatched z.parts.objs] : Good z (State.poundCounts s) := by
  unfold State.poundCounts
  extract_lets +onlyGivenNames -merge -useContext -underBinder v1
  exact (State.setObj_good (State.setObj_good h))

theorem State.setPound_good {s : State} {n : Nat} {st : Nat} (h : Good z s) [Unwatched z.parts.objs] : Good z (State.setPound s n st) := by
  unfold State.setPound; exact (State.poundCounts_good (State.setObj_good h))

theorem State.darken_good {s : State} {t : Nat} (h : Good z s) [Unwatched z.parts.mem] [Unwatched z.parts.tregs] [Unwatched z.parts.tiles] : Good z (State.darken s t) := by
  unfold State.darken
  have h1 : Good z (s.clearRegs t (fun o => !keptDark o)) := State.clearRegs_good h
  exact State.setTile_good (good_mem h1 _ (Map.wf_filter _ _ _ h1.2.mem))

theorem State.markPound_good {s : State} {n : Nat} (h : Good z s) [Unwatched z.parts.tregs] : Good z (State.markPound s n) := by
  unfold State.markPound
  extract_lets +onlyGivenNames -merge -useContext -underBinder v1 v2
  exact (good_foldl (fun _ _ h3 => (State.markLanes_good h3)) _ h)

theorem State.halt_good {s : State} (h : Good z s) [Unwatched z.parts.objs] : Good z (State.halt s) := by
  unfold State.halt; exact (State.setObj_good (State.setObj_good h))

theorem State.shapeAfterLoss_good {s : State} (h : Good z s) [Unwatched z.parts.tregs] [Unwatched z.parts.objs] [Unwatched z.parts.boot] : Good z (State.shapeAfterLoss s) := by
  unfold State.shapeAfterLoss
  exact (good_ite h (good_ite (good_ite (State.setObj_good h) (by
    split
    · exact (State.takeMaps_good h)
    · exact h)) (State.halt_good h)))

theorem State.isolate_good {s : State} {n : Nat} {cause : Nat} (h : Good z s) [Unwatched z.parts.mem] [Unwatched z.parts.tregs] [Unwatched z.parts.objs] [Unwatched z.parts.tiles] [Unwatched z.parts.basins] [Unwatched z.parts.alarmQ] [Unwatched z.parts.irqQ] [Unwatched z.parts.boot] [Unwatched z.parts.power] : Good z (State.isolate s n cause) := by
  unfold State.isolate
  extract_lets +onlyGivenNames -merge -useContext -underBinder v1 v2 v3 v4 v5 v6 v8 v9 v10
  have h3 : Good z v3 := (State.updPound_good (State.setPound_good h))
  have h4 : Good z v4 := (State.setObj_good (State.bumpObj_good h3))
  have h5 : Good z v5 := (State.setObj_good (State.setObj_good h4))
  have h6 : Good z v6 := (good_foldl (fun _ _ h7 => (State.darken_good h7)) _ h5)
  have h8 : Good z v8 := (State.addLedger_good (State.markPound_good h6))
  have h10 : Good z v10 := (good_foldl (fun _ _ h11 => (by
      extract_lets +onlyGivenNames -merge -useContext -underBinder v12
      exact (State.lkError_good h11))) _ (State.agentAlarm_good h8))
  exact (State.shapeAfterLoss_good h10)

theorem State.poundTrip_good {s : State} {n : Nat} {cause : Nat} (h : Good z s) [Unwatched z.parts.mem] [Unwatched z.parts.tregs] [Unwatched z.parts.objs] [Unwatched z.parts.tiles] [Unwatched z.parts.basins] [Unwatched z.parts.alarmQ] [Unwatched z.parts.irqQ] [Unwatched z.parts.boot] [Unwatched z.parts.power] : Good z (State.poundTrip s n cause) := by
  unfold State.poundTrip
  extract_lets +onlyGivenNames -merge -useContext -underBinder v1
  exact (good_ite (State.isolate_good h) h)

theorem State.phaseLost_good {s : State} {n : Nat} {ph : Nat} (h : Good z s) [Unwatched z.parts.mem] [Unwatched z.parts.tregs] [Unwatched z.parts.objs] [Unwatched z.parts.tiles] [Unwatched z.parts.basins] [Unwatched z.parts.alarmQ] [Unwatched z.parts.irqQ] [Unwatched z.parts.boot] [Unwatched z.parts.power] : Good z (State.phaseLost s n ph) := by
  unfold State.phaseLost
  exact (good_ite h (by
    extract_lets +onlyGivenNames -merge -useContext -underBinder v1 v2 v3 v4 v5 v6
    have h1 : Good z v1 := (State.updPound_good h)
    have h3 : Good z v3 := (State.addLedger_good (State.setObj_good h1))
    have h5 : Good z v5 := (State.agentIrq_good (State.setObj_good h3))
    have h6 : Good z v6 := (good_ite (State.setObj_good h5) h5)
    exact (good_ite (State.poundTrip_good h6) h6)))

theorem State.regRole_good {s : State} {p : Nat} {role : Nat} {bridge : Option Nat} (h : Good z s) [Unwatched z.parts.tregs] : Good z (State.regRole s p role bridge) := by
  unfold State.regRole
  extract_lets +onlyGivenNames -merge -useContext -underBinder v1 v2
  have h2 : Good z v2 := (State.setRegN_good h)
  split
  · exact (State.setRegBit_good h2)
  · exact h2

theorem State.regDark_good {s : State} {p : Nat} (h : Good z s) [Unwatched z.parts.mem] [Unwatched z.parts.tregs] [Unwatched z.parts.objs] [Unwatched z.parts.tiles] [Unwatched z.parts.basins] [Unwatched z.parts.alarmQ] [Unwatched z.parts.irqQ] [Unwatched z.parts.boot] : Good z (State.regDark s p) := by
  unfold State.regDark
  extract_lets +onlyGivenNames -merge -useContext -underBinder v1
  have h1 : Good z v1 := (State.setObj_good (State.regRole_good h))
  split
  · exact (State.darken_good (State.tileDeath_good h1))
  · exact h1

theorem State.bridge_good {s : State} {p : Nat} {partners : List (Nat × Nat)} (h : Good z s) [Unwatched z.parts.tregs] [Unwatched z.parts.objs] : Good z (State.bridge s p partners) := by
  unfold State.bridge
  extract_lets +onlyGivenNames -merge -useContext -underBinder v1 v2 v3 v4 v6 v8 v9
  have h4 : Good z v4 := (good_foldl (fun _ _ h5 => (State.regRole_good (State.regRole_good h5))) _ h)
  have h6 : Good z v6 := (good_foldl (fun _ _ h7 => (State.setRegN_good (State.setRegN_good h7))) _ h4)
  have h9 : Good z v9 := (State.bumpObj_good (State.bumpObj_good h6))
  exact (State.setRails_good h9)

theorem State.regFail_good {s : State} {p : Nat} {cause : Nat} (h : Good z s) [Unwatched z.parts.mem] [Unwatched z.parts.tregs] [Unwatched z.parts.objs] [Unwatched z.parts.tiles] [Unwatched z.parts.basins] [Unwatched z.parts.alarmQ] [Unwatched z.parts.irqQ] [Unwatched z.parts.boot] : Good z (State.regFail s p cause) := by
  unfold State.regFail
  extract_lets +onlyGivenNames -merge -useContext -underBinder v1
  exact (good_ite h (by
    extract_lets +onlyGivenNames -merge -useContext -underBinder v2 v3
    have h2 : Good z v2 := (State.addLedger_good (State.setRegN_good h))
    have h3 : Good z v3 := (State.agentIrq_good h2)
    exact (good_ite h3 (good_ite (by
      extract_lets +onlyGivenNames -merge -useContext -underBinder v4
      have h4 : Good z v4 := (State.setObj_good (State.setObj_good h3))
      exact (good_foldl (fun _ _ h5 => (State.regDark_good h5)) _ h4)) (good_ite (State.regRole_good h3) (by
      extract_lets +onlyGivenNames -merge -useContext -underBinder v6
      exact (good_ite (State.regDark_good (State.agentAlarm_good h3)) (State.bridge_good h3))))))))

theorem State.powerUp_good {s : State} {n : Nat} (h : Good z s) [Unwatched z.parts.objs] [Unwatched z.parts.irqQ] [Unwatched z.parts.srv] [Unwatched z.parts.power] : Good z (State.powerUp s n) := by
  unfold State.powerUp
  extract_lets +onlyGivenNames -merge -useContext -underBinder v1 v2
  have h1 : Good z v1 := (State.setObj_good h)
  have h2 : ∀ a2_0, Good z a2_0 → Good z (v2 a2_0) := by
    intro a2_0 h2_0
    dsimp -zeta only [v2]
    exact (State.updPound_good (State.setObj_good (State.setPound_good h2_0)))
  split
  · exact (h2 _ h1)
  · exact (good_ite (State.refuseWrite_good h) (State.updPound_good (h2 _ h1)))
  · exact (State.refuseWrite_good h)
  · exact h1

theorem State.powerDownPound_good {s : State} {n : Nat} (h : Good z s) [Unwatched z.parts.tregs] [Unwatched z.parts.objs] [Unwatched z.parts.irqQ] [Unwatched z.parts.srv] [Unwatched z.parts.power] : Good z (State.powerDownPound s n) := by
  unfold State.powerDownPound
  exact (good_ite (State.refuseWrite_good h) (by
    extract_lets +onlyGivenNames -merge -useContext -underBinder v1
    have h1 : Good z v1 := (State.setObj_good h)
    split
    · exact (State.updPound_good (State.setPound_good h1))
    · extract_lets +onlyGivenNames -merge -useContext -underBinder v2
      have h2 : Good z v2 := (State.updPound_good (State.setPound_good h1))
      exact (State.markPound_good h2)
    · exact h1))

theorem State.rampDownEnd_good {s : State} {n : Nat} (h : Good z s) [Unwatched z.parts.mem] [Unwatched z.parts.tregs] [Unwatched z.parts.objs] [Unwatched z.parts.tiles] [Unwatched z.parts.power] : Good z (State.rampDownEnd s n) := by
  unfold State.rampDownEnd
  exact (good_ite (by
    extract_lets +onlyGivenNames -merge -useContext -underBinder v1 v2
    have h1 : Good z v1 := (State.setObj_good (State.updPound_good (State.setPound_good h)))
    have h2 : Good z v2 := (State.setObj_good h1)
    exact (good_foldl (fun _ _ h3 => (State.darken_good h3)) _ h2)) h)

theorem State.grantOne_good {s : State} {n : Nat} (h : Good z s) [Unwatched z.parts.free] [Unwatched z.parts.objs] [Unwatched z.parts.irqQ] [Unwatched z.parts.power] : Good z (State.grantOne s n) := by
  unfold State.grantOne
  exact (good_ite h (good_ite (by
    split
    · exact (State.updPound_good (State.setObj_good (State.setPound_good (by refine good_snd (by assumption) ?_; exact (State.fresh_good h)))))) (by
    extract_lets +onlyGivenNames -merge -useContext -underBinder v1 v2
    have h1 : Good z v1 := (State.bumpObj_good h)
    have h2 : Good z v2 := (good_ite h1 (State.agentIrq_good h1))
    exact (State.updPound_good h2))))

theorem State.grantEval_good {s : State} (h : Good z s) [Unwatched z.parts.free] [Unwatched z.parts.objs] [Unwatched z.parts.irqQ] [Unwatched z.parts.power] : Good z (State.grantEval s) := by
  unfold State.grantEval
  extract_lets +onlyGivenNames -merge -useContext -underBinder v1
  have h1 : Good z v1 := (good_foldl (fun _ _ h2 => (good_ite h2 (State.setObj_good h2))) _ h)
  exact (good_foldl (fun _ _ h3 => (State.grantOne_good h3)) _ h1)

theorem State.openAll_good {s : State} (h : Good z s) [Unwatched z.parts.mem] [Unwatched z.parts.tregs] [Unwatched z.parts.objs] [Unwatched z.parts.tiles] [Unwatched z.parts.power] [Unwatched z.parts.cellar] : Good z (State.openAll s) := by
  unfold State.openAll
  extract_lets +onlyGivenNames -merge -useContext -underBinder v1 v3 v4 v5 v6
  have h1 : Good z v1 := (good_foldl (fun _ _ h2 => (State.updPound_good (State.setObj_good (State.setObj_good (State.setObj_good h2))))) _ h)
  have h3 : Good z v3 := (State.poundCounts_good h1)
  have h6 : Good z v6 := (good_power_cellar h3 _ _)
  exact (good_foldl (fun _ _ h7 => (State.darken_good h7)) _ h6)

theorem State.powerFail_good {s : State} {cause : Nat} (h : Good z s) [Unwatched z.parts.mem] [Unwatched z.parts.tregs] [Unwatched z.parts.objs] [Unwatched z.parts.tiles] [Unwatched z.parts.alarmQ] [Unwatched z.parts.boot] [Unwatched z.parts.power] [Unwatched z.parts.cellar] : Good z (State.powerFail s cause) := by
  unfold State.powerFail
  extract_lets +onlyGivenNames -merge -useContext -underBinder v1 v2 v3 v4
  have h1 : Good z v1 := (State.openAll_good h)
  have h4 : Good z v4 := (good_boot_power h1 _ _)
  exact (State.agentAlarm_good (State.setObj_good h4))

theorem State.cellLost_good {s : State} {c : Nat} (h : Good z s) [Unwatched z.parts.mem] [Unwatched z.parts.tregs] [Unwatched z.parts.objs] [Unwatched z.parts.tiles] [Unwatched z.parts.alarmQ] [Unwatched z.parts.irqQ] [Unwatched z.parts.boot] [Unwatched z.parts.power] [Unwatched z.parts.cellar] : Good z (State.cellLost s c) := by
  unfold State.cellLost
  exact (good_ite h (by
    extract_lets +onlyGivenNames -merge -useContext -underBinder v1 v2
    have h1 : Good z v1 := (State.setObj_good (State.setObj_good h))
    have h2 : Good z v2 := (State.newCeiling_good (State.agentIrq_good (State.addLedger_good h1)))
    exact (good_ite (State.powerFail_good h2) h2)))

theorem State.thermalShutdown_good {s : State} {p : Nat} (h : Good z s) [Unwatched z.parts.mem] [Unwatched z.parts.tregs] [Unwatched z.parts.objs] [Unwatched z.parts.tiles] [Unwatched z.parts.basins] [Unwatched z.parts.alarmQ] [Unwatched z.parts.boot] [Unwatched z.parts.power] [Unwatched z.parts.cellar] : Good z (State.thermalShutdown s p) := by
  unfold State.thermalShutdown
  extract_lets +onlyGivenNames -merge -useContext -underBinder v1 v2 v3 v4 v5 v6
  have h2 : Good z v2 := (State.openAll_good h)
  have h5 : Good z v5 := (good_boot_power h2 _ _)
  have h6 : Good z v6 := (State.agentAlarm_good (State.setObj_good h5))
  exact (good_foldl (fun _ _ h7 => (State.lkError_good h7)) _ h6)

theorem State.askHold_good {s : State} {b : Nat} {c : HoldCause} (h : Good z s) [Unwatched z.parts.basins] : Good z (State.askHold s b c) := by
  unfold State.askHold
  extract_lets +onlyGivenNames -merge -useContext -underBinder v1
  exact (State.updBasin_good h)

theorem State.retireLane_good {s : State} {t : Nat} {o : Nat} (h : Good z s) [Unwatched z.parts.tregs] : Good z (State.retireLane s t o) := by
  unfold State.retireLane; exact (good_foldl (fun _ _ h1 => (State.setRegN_good h1)) _ h)

theorem State.retireSeam_good {s : State} {n : Nat} (h : Good z s) [Unwatched z.parts.tregs] [Unwatched z.parts.objs] [Unwatched z.parts.basins] [Unwatched z.parts.seams] [Unwatched z.parts.alarmQ] [Unwatched z.parts.irqQ] [Unwatched z.parts.boot] : Good z (State.retireSeam s n) := by
  unfold State.retireSeam
  extract_lets +onlyGivenNames -merge -useContext -underBinder v1
  have h1 : Good z v1 := (State.addLedger_good (State.updSeam_good h))
  exact (good_foldl (fun _ _ h2 => (by
      extract_lets +onlyGivenNames -merge -useContext -underBinder v3
      have h3 : Good z v3 := (State.retireLane_good h2)
      split
      · extract_lets +onlyGivenNames -merge -useContext -underBinder v4
        have h4 : Good z v4 := (State.agentAlarm_good h3)
        exact (good_ite (State.lkError_good h4) h4)
      · exact h3)) _ h1)

theorem State.seamTurn_good {s : State} {b : Nat} (h : Good z s) [Unwatched z.parts.tregs] [Unwatched z.parts.objs] [Unwatched z.parts.basins] [Unwatched z.parts.seams] [Unwatched z.parts.alarmQ] [Unwatched z.parts.irqQ] [Unwatched z.parts.boot] : Good z (State.seamTurn s b) := by
  unfold State.seamTurn; exact (good_foldl (fun _ _ h1 => (good_ite (good_ite (State.updSeam_good h1) (good_ite (State.retireSeam_good h1) h1)) h1)) _ h)

theorem State.seamStage_good {s : State} {n : Nat} {retire : Bool} (h : Good z s) [Unwatched z.parts.tregs] [Unwatched z.parts.objs] [Unwatched z.parts.basins] [Unwatched z.parts.seams] [Unwatched z.parts.alarmQ] [Unwatched z.parts.irqQ] [Unwatched z.parts.boot] : Good z (State.seamStage s n retire) := by
  unfold State.seamStage
  split
  · exact (State.askHold_good (State.updSeam_good h))
  · exact (good_ite (State.retireSeam_good h) (State.updSeam_good h))

theorem State.seamWireFail_good {s : State} {n : Nat} {wire : Nat} (h : Good z s) [Unwatched z.parts.tregs] [Unwatched z.parts.objs] [Unwatched z.parts.basins] [Unwatched z.parts.seams] [Unwatched z.parts.alarmQ] [Unwatched z.parts.irqQ] [Unwatched z.parts.boot] : Good z (State.seamWireFail s n wire) := by
  unfold State.seamWireFail
  extract_lets +onlyGivenNames -merge -useContext -underBinder v1
  exact (good_ite h (by
    extract_lets +onlyGivenNames -merge -useContext -underBinder v2
    have h2 : Good z v2 := (State.addLedger_good (State.bumpObj_good (State.updSeam_good h)))
    exact (State.seamStage_good h2)))

theorem State.seamHandshakeFail_good {s : State} {n : Nat} {wire : Nat} (h : Good z s) [Unwatched z.parts.tregs] [Unwatched z.parts.objs] [Unwatched z.parts.basins] [Unwatched z.parts.seams] [Unwatched z.parts.alarmQ] [Unwatched z.parts.irqQ] [Unwatched z.parts.boot] : Good z (State.seamHandshakeFail s n wire) := by
  unfold State.seamHandshakeFail
  extract_lets +onlyGivenNames -merge -useContext -underBinder v1
  exact (good_ite h (by
    extract_lets +onlyGivenNames -merge -useContext -underBinder v2
    have h2 : Good z v2 := (State.updSeam_good h)
    exact (good_ite (State.seamStage_good h2) h2)))

theorem execSeamWireFail_good {t : TileId} {lane : LaneId} {wire : Fin 292} {s : State} (h : Good z s) [Unwatched z.parts.tregs] [Unwatched z.parts.objs] [Unwatched z.parts.basins] [Unwatched z.parts.seams] [Unwatched z.parts.alarmQ] [Unwatched z.parts.irqQ] [Unwatched z.parts.boot] : GoodOut z (execSeamWireFail t lane wire s) := by
  unfold execSeamWireFail
  exact (goodOut_next (by
    split
    · exact (good_ite (State.seamWireFail_good h) h)
    · exact h))

theorem execSeamHandshakeFail_good {t : TileId} {lane : LaneId} {wire : Fin 6} {s : State} (h : Good z s) [Unwatched z.parts.tregs] [Unwatched z.parts.objs] [Unwatched z.parts.basins] [Unwatched z.parts.seams] [Unwatched z.parts.alarmQ] [Unwatched z.parts.irqQ] [Unwatched z.parts.boot] : GoodOut z (execSeamHandshakeFail t lane wire s) := by
  unfold execSeamHandshakeFail
  exact (goodOut_next (by
    split
    · exact (good_ite (State.seamHandshakeFail_good h) h)
    · exact h))

theorem State.resetTile_good {s : State} {t : Nat} (h : Good z s) [Unwatched z.parts.mem] [Unwatched z.parts.tregs] [Unwatched z.parts.tiles] : Good z (State.resetTile s t) := by
  unfold State.resetTile
  have h1 : Good z (s.clearRegs t resetClears) := State.clearRegs_good h
  exact State.bumpReg_good (State.setRegN_good (State.setTile_good (good_mem h1 _ (Map.wf_filter _ _ _ h1.2.mem))))

theorem State.endJob_good {s : State} {b : Nat} {keep : Bool} (h : Good z s) [Unwatched z.parts.objs] [Unwatched z.parts.basins] [Unwatched z.parts.alarmQ] [Unwatched z.parts.link] [Unwatched z.parts.host] [Unwatched z.parts.srv] [Unwatched z.parts.cellar] : Good z (State.endJob s b keep) := by
  unfold State.endJob
  extract_lets +onlyGivenNames -merge -useContext -underBinder v1 v3 v4 v5 v6 v9 v10 v11 v12
  have h1 : Good z v1 := (State.markWindow_good (good_foldl (fun _ _ h2 => (State.abortEntries_good h2)) _ h) h)
  have h3 : Good z v3 := (State.updBasin_good (State.discardBatches_good h1))
  have h4 : Good z v4 := (State.setObj_good (State.setObj_good (State.setObj_good h3)))
  have h5 : Good z v5 := (good_ite h4 (State.setObj_good h4))
  have h6 : Good z v6 := (good_foldl (fun _ _ h7 => (by
      extract_lets +onlyGivenNames -merge -useContext -underBinder v8
      exact (good_ite (State.updPort_good h7) h7))) _ h5)
  have h9 : Good z v9 := (good_ite (State.agentAlarm_good h6) h6)
  have h11 : Good z v11 := (good_host_cellar h9 _ _)
  have h12 : Good z v12 := (good_ite (State.setObj_good h11) h11)
  exact (State.setObj_good (State.setObj_good (State.setObj_good h12)))

theorem State.showReset_good {s : State} (h : Good z s) [Unwatched z.parts.objs] : Good z (State.showReset s) := by
  unfold State.showReset; exact (State.setObj_good h)

theorem State.absorbLanes_good {s : State} {r : ResetReq} (h : Good z s) [Unwatched z.parts.tregs] [Unwatched z.parts.tiles] [Unwatched z.parts.boot] : Good z (State.absorbLanes s r) := by
  unfold State.absorbLanes
  exact (good_foldl (fun _ _ h1 => (good_foldl (fun _ _ h2 => (by
        split
        · exact (good_ite (State.laneAcked_good (State.absorbed_good (State.recv_good h2))) h2)
        · exact h2)) _ h1)) _ h)

theorem State.beginReset_good {s : State} {level : Nat} {target : Nat} {tiles : List Nat} {dflt : Bool} {ladder : (Option Nat)} (h : Good z s) [Unwatched z.parts.tregs] [Unwatched z.parts.objs] [Unwatched z.parts.tiles] [Unwatched z.parts.boot] : Good z (State.beginReset s level target tiles dflt ladder) := by
  unfold State.beginReset
  extract_lets +onlyGivenNames -merge -useContext -underBinder v1 v2 v3 v4 v5
  have h4 : Good z v4 := (good_boot h _)
  have h5 : Good z v5 := (good_foldl (fun _ _ h6 => (State.setRegN_good h6)) _ h4)
  exact (State.showReset_good (good_ite (State.absorbLanes_good h5) h5))

theorem State.refuseReset_good {s : State} {level : Nat} (h : Good z s) [Unwatched z.parts.objs] [Unwatched z.parts.irqQ] [Unwatched z.parts.srv] : Good z (State.refuseReset s level) := by
  unfold State.refuseReset; exact (State.refuseWrite_good h)

theorem State.askResetTile_good {s : State} {t : Nat} (h : Good z s) [Unwatched z.parts.tregs] [Unwatched z.parts.objs] [Unwatched z.parts.tiles] [Unwatched z.parts.irqQ] [Unwatched z.parts.srv] [Unwatched z.parts.boot] : Good z (State.askResetTile s t) := by
  unfold State.askResetTile; exact (good_ite (State.beginReset_good h) (State.refuseReset_good h))

theorem State.askResetBerth_good {s : State} {h_ : Nat} (h : Good z s) [Unwatched z.parts.tregs] [Unwatched z.parts.objs] [Unwatched z.parts.tiles] [Unwatched z.parts.irqQ] [Unwatched z.parts.srv] [Unwatched z.parts.boot] : Good z (State.askResetBerth s h_) := by
  unfold State.askResetBerth; exact (good_ite (State.beginReset_good h) (State.refuseReset_good h))

theorem State.askResetBasin_good {s : State} {b : Nat} (h : Good z s) [Unwatched z.parts.tregs] [Unwatched z.parts.objs] [Unwatched z.parts.tiles] [Unwatched z.parts.irqQ] [Unwatched z.parts.srv] [Unwatched z.parts.boot] : Good z (State.askResetBasin s b) := by
  unfold State.askResetBasin; exact (good_ite (State.beginReset_good h) (State.refuseReset_good h))

theorem State.askResetDevice_good {s : State} (h : Good z s) [Unwatched z.parts.tregs] [Unwatched z.parts.objs] [Unwatched z.parts.tiles] [Unwatched z.parts.irqQ] [Unwatched z.parts.srv] [Unwatched z.parts.boot] : Good z (State.askResetDevice s) := by
  unfold State.askResetDevice; exact (good_ite (State.beginReset_good h) (State.refuseReset_good h))

theorem State.drainEnd_good {s : State} (h : Good z s) [Unwatched z.parts.tregs] [Unwatched z.parts.objs] [Unwatched z.parts.boot] : Good z (State.drainEnd s) := by
  unfold State.drainEnd
  split
  · exact (good_ite (by
      extract_lets +onlyGivenNames -merge -useContext -underBinder v1 v2
      have h2 : Good z v2 := (good_boot h _)
      exact (State.showReset_good (good_foldl (fun _ _ h3 => (State.setRegN_good h3)) _ h2))) h)
  · exact h

theorem State.drainLimit_good {s : State} (h : Good z s) [Unwatched z.parts.tregs] [Unwatched z.parts.objs] [Unwatched z.parts.tiles] [Unwatched z.parts.boot] : Good z (State.drainLimit s) := by
  unfold State.drainLimit
  split
  · extract_lets +onlyGivenNames -merge -useContext -underBinder v1 v2
    have h2 : Good z v2 := (good_boot h _)
    exact (State.showReset_good (State.absorbLanes_good h2))
  · exact h

theorem State.resetFabric_good {s : State} {keep : Bool} (h : Good z s) [Unwatched z.parts.tregs] [Unwatched z.parts.objs] [Unwatched z.parts.basins] [Unwatched z.parts.hubs] [Unwatched z.parts.alarmQ] [Unwatched z.parts.link] [Unwatched z.parts.host] [Unwatched z.parts.srv] [Unwatched z.parts.boot] [Unwatched z.parts.cellar] : Good z (State.resetFabric s keep) := by
  unfold State.resetFabric
  extract_lets +onlyGivenNames -merge -useContext -underBinder v1 v2
  have h1 : Good z v1 := good_foldl (fun _ _ h => good_ite (State.endJob_good h) h) _ h
  have h2 : Good z v2 := good_hubs h1 _ (Map.wf_nil _)
  split
  · extract_lets +onlyGivenNames -merge -useContext -underBinder v3
    have h3 : Good z v3 := State.takeMaps_good h2
    exact good_ite h3 (State.setObj_good h3)
  · exact State.halt_good h2

theorem State.resetEnd_good {s : State} (h : Good z s) [Unwatched z.parts.mem] [Unwatched z.parts.tregs] [Unwatched z.parts.objs] [Unwatched z.parts.tiles] [Unwatched z.parts.basins] [Unwatched z.parts.hubs] [Unwatched z.parts.alarmQ] [Unwatched z.parts.irqQ] [Unwatched z.parts.link] [Unwatched z.parts.host] [Unwatched z.parts.srv] [Unwatched z.parts.boot] [Unwatched z.parts.cellar] : GoodFst z (State.resetEnd s) := by
  unfold State.resetEnd
  split
  · exact (goodFst_mk h)
  · extract_lets +onlyGivenNames -merge -useContext -underBinder v1 v2 v3 v5 v6
    have h2 : Good z v2 := (good_boot h _)
    have h3 : Good z v3 := (good_foldl (fun _ _ h4 => (State.resetTile_good h4)) _ h2)
    have h5 : Good z v5 := (good_ite (State.endJob_good h3) (good_ite (State.resetFabric_good h3) h3))
    have h6 : Good z v6 := (State.setObj_good h5)
    exact (goodFst_mk (State.showReset_good (good_ite (State.agentIrq_good h6) h6)))

theorem State.putImage_good {s : State} {t : Nat} {g : LockImage} (h : Good z s) [Unwatched z.parts.tregs] [Unwatched z.parts.tiles] : Good z (State.putImage s t g) := by
  unfold State.putImage
  extract_lets +onlyGivenNames -merge -useContext -underBinder v1 v3
  have h1 : Good z v1 := (good_foldl (fun _ _ h2 => (State.setReg_good h2)) _ h)
  have h3 : Good z v3 := (State.updTile_good h1)
  exact (good_foldl (fun _ _ h4 => (State.updBank_good h4)) _ h3)

theorem State.atOpenLock_good {s : State} {t : Nat} (h : Good z s) [Unwatched z.parts.tiles] : Good z (State.atOpenLock s t) := by
  unfold State.atOpenLock; exact (State.updTile_good h)

theorem State.installState_good {s : State} {t : Nat} {rows : List (Row × Bool)} (h : Good z s) [Unwatched z.parts.tregs] [Unwatched z.parts.tiles] : Good z (State.installState s t rows) := by
  unfold State.installState
  extract_lets +onlyGivenNames -merge -useContext -underBinder v1 v2
  have h2 : Good z v2 := (State.updTile_good (State.putImage_good h))
  exact (good_foldl (fun _ _ h3 => (State.updBank_good h3)) _ h2)

theorem State.streamRead_good {s : State} {t : Nat} {i : Nat} (h : Good z s) [Unwatched z.parts.mem] [Unwatched z.parts.tregs] [Unwatched z.parts.objs] [Unwatched z.parts.win] [Unwatched z.parts.tiles] [Unwatched z.parts.basins] : GoodSnd z (State.streamRead s t i) := by
  unfold State.streamRead
  exact (goodSnd_ite (goodSnd_mk h) (goodSnd_ite (by
    split
    · exact (goodSnd_mk (by refine good_thd (by assumption) ?_; exact (State.readRow_good h)))) (goodSnd_mk h)))

theorem State.updMover_good {s : State} {t : Nat} {f : Mover → Mover} (h : Good z s) [Unwatched z.parts.tiles] : Good z (State.updMover s t f) := by
  unfold State.updMover; exact (State.updTile_good h)

theorem State.streamSend_good {s : State} {t : Nat} {to_ : Nat} {d : Nat} (h : Good z s) [Unwatched z.parts.mem] [Unwatched z.parts.tregs] [Unwatched z.parts.objs] [Unwatched z.parts.win] [Unwatched z.parts.tiles] [Unwatched z.parts.basins] : Good z (State.streamSend s t to_ d) := by
  unfold State.streamSend
  extract_lets +onlyGivenNames -merge -useContext -underBinder v1
  split
  · extract_lets +onlyGivenNames -merge -useContext -underBinder v2
    have h2 : Good z v2 := (State.updMover_good (by refine good_snd (by assumption) ?_; exact (State.streamRead_good h)))
    exact (good_ite (State.updMover_good h2) h2)

theorem State.landStream_good {s : State} {t : Nat} {d : Row} {p : Bool} (h : Good z s) [Unwatched z.parts.mem] [Unwatched z.parts.tregs] [Unwatched z.parts.tiles] : Good z (State.landStream s t d p) := by
  unfold State.landStream
  extract_lets +onlyGivenNames -merge -useContext -underBinder v1 v2 v3
  have h3 : Good z v3 := (good_ite (State.installRow_good h) h)
  exact (State.updMover_good h3)

theorem State.landWaiting_good {s : State} {t : Nat} {c : Nat} {n : Nat} (h : Good z s) [Unwatched z.parts.mem] [Unwatched z.parts.tregs] [Unwatched z.parts.tiles] : Good z (State.landWaiting s t c n) := by
  induction n generalizing s with
  | zero => exact h
  | succ n ih =>
    unfold State.landWaiting
    dsimp only
    split
    · exact good_ite (ih (State.landStream_good (State.updMover_good h))) h
    · exact h

theorem State.moverPulse_good {s : State} {t : Nat} (h : Good z s) [Unwatched z.parts.mem] [Unwatched z.parts.tregs] [Unwatched z.parts.objs] [Unwatched z.parts.win] [Unwatched z.parts.tiles] [Unwatched z.parts.basins] : Good z (State.moverPulse s t) := by
  unfold State.moverPulse
  extract_lets +onlyGivenNames -merge -useContext -underBinder v1
  split
  · exact h
  · split
    · exact h
    · extract_lets +onlyGivenNames -merge -useContext -underBinder v2 v3 v4 v5 v6
      have h3 : Good z v3 := (good_ite (State.streamSend_good (State.streamSend_good h)) h)
      have h4 : Good z v4 := (State.landWaiting_good h3)
      have h6 : Good z v6 := (State.updMover_good h4)
      exact (good_ite (State.setRegN_good h6) h6)

theorem State.loadDeath_good {s : State} {u : Nat} {c : Nat} {b : Option Nat} (h : Good z s) [Unwatched z.parts.objs] [Unwatched z.parts.basins] [Unwatched z.parts.alarmQ] [Unwatched z.parts.irqQ] [Unwatched z.parts.boot] : Good z (State.loadDeath s u c b) := by
  unfold State.loadDeath
  split
  · exact h
  · exact (good_ite (by
      extract_lets +onlyGivenNames -merge -useContext -underBinder v1
      exact (State.lkError_good (State.agentAlarm_good (State.bumpObj_good (State.addLedger_good h))))) h)

theorem State.loadEnd_good {s : State} {t : Nat} {ok : Bool} (h : Good z s) [Unwatched z.parts.tregs] [Unwatched z.parts.objs] [Unwatched z.parts.win] [Unwatched z.parts.tiles] [Unwatched z.parts.basins] [Unwatched z.parts.alarmQ] [Unwatched z.parts.irqQ] [Unwatched z.parts.boot] : Good z (State.loadEnd s t ok) := by
  unfold State.loadEnd
  extract_lets +onlyGivenNames -merge -useContext -underBinder v1
  exact (good_ite h (by
    extract_lets +onlyGivenNames -merge -useContext -underBinder v2 v3 v4
    have h4 : Good z v4 := (State.updMover_good h)
    exact (good_ite (State.setRegN_good (State.updMover_good (State.installState_good h4))) (by
      extract_lets +onlyGivenNames -merge -useContext -underBinder v5
      have h5 : Good z v5 := (State.setRegN_good h4)
      exact (good_ite (State.loadDeath_good (State.raiseAlarm_good h5)) (State.loadDeath_good (State.lkError_good h5)))))))

theorem State.updCellar_good {s : State} {f : Cellar → Cellar} (h : Good z s) [Unwatched z.parts.cellar] : Good z (State.updCellar s f) := by
  unfold State.updCellar; exact (good_cellar h _)

theorem State.reclaim_good {s : State} {b : Nat} (h : Good z s) [Unwatched z.parts.cellar] : Good z (State.reclaim s b) := by
  unfold State.reclaim
  extract_lets +onlyGivenNames -merge -useContext -underBinder v1
  exact (State.updCellar_good h)

theorem State.releaseRecords_good {s : State} {b : Nat} (h : Good z s) [Unwatched z.parts.objs] [Unwatched z.parts.cellar] : Good z (State.releaseRecords s b) := by
  unfold State.releaseRecords
  extract_lets +onlyGivenNames -merge -useContext -underBinder v1
  have h1 : Good z v1 := (State.updCellar_good h)
  exact (State.setObj_good h1)

theorem State.showCellar_good {s : State} (h : Good z s) [Unwatched z.parts.objs] : Good z (State.showCellar s) := by
  unfold State.showCellar; exact (State.setObj_good (State.setObj_good h))

theorem State.askSnapshot_good {s : State} {b : Nat} {full : Bool} {risk : Bool} (h : Good z s) [Unwatched z.parts.objs] [Unwatched z.parts.cellar] : Good z (State.askSnapshot s b full risk) := by
  unfold State.askSnapshot
  extract_lets +onlyGivenNames -merge -useContext -underBinder v1 v2 v3 v4 v5 v6
  have h5 : Good z v5 := (State.updCellar_good h)
  have h6 : Good z v6 := (good_ite h5 (State.setObj_good h5))
  exact (State.showCellar_good h6)

theorem State.snapshotStart_good {s : State} (h : Good z s) [Unwatched z.parts.objs] [Unwatched z.parts.basins] [Unwatched z.parts.irqQ] [Unwatched z.parts.cellar] : Good z (State.snapshotStart s) := by
  unfold State.snapshotStart
  split
  · exact h
  · exact (good_ite h (by
      extract_lets +onlyGivenNames -merge -useContext -underBinder v1 v2 v3
      split
      · exact h
      · extract_lets +onlyGivenNames -merge -useContext -underBinder v4 v5 v6
        have h4 : Good z v4 := (good_ite (State.agentIrq_good h) h)
        have h5 : Good z v5 := (State.updCellar_good h4)
        have h6 : Good z v6 := (State.updBasin_good h5)
        exact (State.showCellar_good (State.setObj_good h6))))

theorem State.snapshotFail_good {s : State} {j : SnapJob} (h : Good z s) [Unwatched z.parts.objs] [Unwatched z.parts.basins] [Unwatched z.parts.alarmQ] [Unwatched z.parts.cellar] : Good z (State.snapshotFail s j) := by
  unfold State.snapshotFail
  extract_lets +onlyGivenNames -merge -useContext -underBinder v1 v2
  have h1 : Good z v1 := (State.updCellar_good h)
  have h2 : Good z v2 := (State.updBasin_good h1)
  exact (State.showCellar_good (State.agentAlarm_good (State.setObj_good h2)))

theorem State.readCells_good {l : List (Nat × Option CodeWord)} {s : State} (h : Good z s) [Unwatched z.parts.mem] [Unwatched z.parts.tregs] [Unwatched z.parts.objs] [Unwatched z.parts.win] [Unwatched z.parts.tiles] [Unwatched z.parts.basins] : GoodFst z (State.readCells s l) := by
  induction l generalizing s with
  | nil => exact goodFst_mk h
  | cons e rest ih =>
    obtain ⟨k, w⟩ := e
    unfold State.readCells
    cases w with
    | none => exact ih h
    | some w =>
      have hd : Good z (s.decodeRow (k / 65536) (k % 65536) w none true).2.2 := goodSnd_get (goodThd_get (State.decodeRow_good h))
      dsimp only
      split <;> first | exact goodFst_mk hd | exact ih hd

theorem State.snapshotCopy_good {s : State} {b : Nat} (h : Good z s) [Unwatched z.parts.mem] [Unwatched z.parts.tregs] [Unwatched z.parts.objs] [Unwatched z.parts.win] [Unwatched z.parts.tiles] [Unwatched z.parts.basins] [Unwatched z.parts.alarmQ] [Unwatched z.parts.cellar] : Good z (State.snapshotCopy s b) := by
  unfold State.snapshotCopy
  split
  · exact h
  · exact (good_ite h (by
      extract_lets +onlyGivenNames -merge -useContext -underBinder v1 v3
      have h1 : Good z v1 := (good_foldl (fun _ _ h2 => (State.foldDirty_good h2)) _ h)
      split
      · exact (good_ite (State.snapshotFail_good (by refine good_fst (by assumption) ?_; exact (State.readCells_good h1))) (by
          extract_lets +onlyGivenNames -merge -useContext -underBinder v4 v5 v6
          have h6 : Good z v6 := (State.updBasin_good (by refine good_fst (by assumption) ?_; exact (State.readCells_good h1)))
          exact (State.showCellar_good (State.setObj_good (State.updCellar_good h6)))))))

theorem State.snapshotRelease_good {s : State} {b : Nat} (h : Good z s) [Unwatched z.parts.free] [Unwatched z.parts.tregs] [Unwatched z.parts.objs] [Unwatched z.parts.tiles] [Unwatched z.parts.basins] [Unwatched z.parts.seams] [Unwatched z.parts.alarmQ] [Unwatched z.parts.irqQ] [Unwatched z.parts.boot] [Unwatched z.parts.cellar] : Good z (State.snapshotRelease s b) := by
  unfold State.snapshotRelease
  split
  · exact h
  · exact (good_ite h (by
      extract_lets +onlyGivenNames -merge -useContext -underBinder v1 v2 v5 v6
      have h1 : Good z v1 := (State.updCellar_good h)
      have h2 : Good z v2 := (good_foldl (fun _ _ h3 => (good_foldl (fun _ _ h4 => (State.updBank_good h4)) _ h3)) _ h1)
      have h5 : Good z v5 := (good_ite (State.seamTurn_good h2) h2)
      have h6 : Good z v6 := (State.updBasin_good h5)
      split
      · extract_lets +onlyGivenNames -merge -useContext -underBinder v7
        exact (State.showCellar_good (State.setObj_good (State.setObj_good (State.setObj_good (by refine good_snd (by assumption) ?_; exact (State.fresh_good h6))))))))

theorem State.clearSnap_good {s : State} {t : Nat} (h : Good z s) [Unwatched z.parts.tiles] : Good z (State.clearSnap s t) := by
  unfold State.clearSnap; exact (good_foldl (fun _ _ h1 => (State.updBank_good h1)) _ h)

theorem State.program_good {s : State} {n : Nat} (h : Good z s) [Unwatched z.parts.objs] [Unwatched z.parts.irqQ] : Good z (State.program s n) := by
  unfold State.program
  extract_lets +onlyGivenNames -merge -useContext -underBinder v1 v2 v3 v4
  have h4 : Good z v4 := (State.setObj_good (State.setObj_good h))
  exact (good_ite (State.agentIrq_good h4) h4)

theorem State.snapshotSecured_good {s : State} {b : Nat} (h : Good z s) [Unwatched z.parts.free] [Unwatched z.parts.objs] [Unwatched z.parts.tiles] [Unwatched z.parts.irqQ] [Unwatched z.parts.cellar] : Good z (State.snapshotSecured s b) := by
  unfold State.snapshotSecured
  split
  · exact h
  · split
    · exact h
    · exact (good_ite h (by
        extract_lets +onlyGivenNames -merge -useContext -underBinder v1 v2
        split
        · extract_lets +onlyGivenNames -merge -useContext -underBinder v3 v4 v6
          have h3 : Good z v3 := (State.reclaim_good (State.updCellar_good (by refine good_snd (by assumption) ?_; exact (State.fresh_good h))))
          have h4 : Good z v4 := (good_foldl (fun _ _ h5 => (State.clearSnap_good h5)) _ h3)
          have h6 : Good z v6 := (State.program_good h4)
          split
          · extract_lets +onlyGivenNames -merge -useContext -underBinder v7 v8 v9 v10 v11 v12
            have h7 : Good z v7 := (State.setObj_good (State.setObj_good (by refine good_snd (by assumption) ?_; exact (State.fresh_good h6))))
            have h8 : Good z v8 := (State.setObj_good (State.setObj_good (State.setObj_good h7)))
            have h9 : Good z v9 := (State.setObj_good h8)
            have h10 : Good z v10 := (good_ite (State.setObj_good h9) h9)
            have h11 : Good z v11 := (good_ite (State.bumpObj_good h10) h10)
            have h12 : Good z v12 := (State.setObj_good (State.bumpObj_good h11))
            exact (State.showCellar_good (State.agentIrq_good h12))))

theorem State.riskRequests_good {s : State} (h : Good z s) [Unwatched z.parts.objs] [Unwatched z.parts.cellar] : Good z (State.riskRequests s) := by
  unfold State.riskRequests
  exact (good_foldl (fun _ _ h1 => (by
      extract_lets +onlyGivenNames -merge -useContext -underBinder v2
      exact (good_ite (State.askSnapshot_good h1) h1))) _ h)

theorem State.riskEvaluate_good {s : State} (h : Good z s) [Unwatched z.parts.objs] [Unwatched z.parts.irqQ] [Unwatched z.parts.cellar] : Good z (State.riskEvaluate s) := by
  unfold State.riskEvaluate
  extract_lets +onlyGivenNames -merge -useContext -underBinder v1 v2 v3 v4 v5 v7 v8
  have h5 : Good z v5 := (good_foldl (fun _ _ h6 => (State.setObj_good h6)) _ (State.setObj_good h))
  have h7 : Good z v7 := (State.updCellar_good h5)
  exact (good_ite (State.updCellar_good h7) (by
    extract_lets +onlyGivenNames -merge -useContext -underBinder v9 v10
    exact (good_ite (State.updCellar_good (State.bumpObj_good (State.agentIrq_good (State.riskRequests_good h7)))) (good_ite (State.updCellar_good (State.riskRequests_good h7)) h7))))

theorem State.restoreEnd_good {s : State} {b : Nat} {status : Nat} (h : Good z s) [Unwatched z.parts.objs] [Unwatched z.parts.alarmQ] [Unwatched z.parts.irqQ] [Unwatched z.parts.cellar] : Good z (State.restoreEnd s b status) := by
  unfold State.restoreEnd
  extract_lets +onlyGivenNames -merge -useContext -underBinder v1 v2 v3
  have h1 : Good z v1 := (State.updCellar_good h)
  have h2 : Good z v2 := (State.setObj_good (State.setObj_good h1))
  have h3 : Good z v3 := (good_ite (State.setObj_good h2) h2)
  exact (State.showCellar_good (good_ite (State.agentIrq_good h3) (State.agentAlarm_good h3)))

theorem State.restoreBegin_good {s : State} {b : Nat} {older : Bool} {bad : List Nat} (h : Good z s) [Unwatched z.parts.objs] [Unwatched z.parts.alarmQ] [Unwatched z.parts.irqQ] [Unwatched z.parts.cellar] : Good z (State.restoreBegin s b older bad) := by
  unfold State.restoreBegin
  extract_lets +onlyGivenNames -merge -useContext -underBinder v1 v2 v3 v4 v5 v6
  clear_value v6
  split
  · exact (State.restoreEnd_good h)
  · exact (good_ite (State.restoreEnd_good h) (by
      extract_lets +onlyGivenNames -merge -useContext -underBinder v7
      exact (good_ite (State.restoreEnd_good h) (good_ite (State.restoreEnd_good h) (by
        extract_lets +onlyGivenNames -merge -useContext -underBinder v8 v9 v10
        have h9 : Good z v9 := (State.updCellar_good h)
        have h10 : Good z v10 := (State.setObj_good h9)
        exact (State.showCellar_good (good_ite (State.setObj_good h10) (State.setObj_good h10))))))))

theorem State.askRestore_good {s : State} {b : Nat} {older : Bool} {bad : List Nat} (h : Good z s) [Unwatched z.parts.objs] [Unwatched z.parts.alarmQ] [Unwatched z.parts.irqQ] [Unwatched z.parts.srv] [Unwatched z.parts.cellar] : Good z (State.askRestore s b older bad) := by
  unfold State.askRestore
  extract_lets +onlyGivenNames -merge -useContext -underBinder v1
  exact (good_ite (State.restoreBegin_good h) (State.refuseWrite_good h))

theorem State.restoreRows_good {s : State} {b : Nat} {chain : List SnapRecord} (h : Good z s) [Unwatched z.parts.mem] [Unwatched z.parts.tregs] [Unwatched z.parts.tiles] : Good z (State.restoreRows s b chain) := by
  unfold State.restoreRows
  extract_lets +onlyGivenNames -merge -useContext -underBinder v1
  exact (good_foldl (fun _ _ h2 => (State.installRow_good h2)) _ h)

theorem State.restoreTile_good {s : State} {x : SnapTile} {beats : Nat} (h : Good z s) [Unwatched z.parts.tregs] [Unwatched z.parts.tiles] : Good z (State.restoreTile s x beats) := by
  unfold State.restoreTile
  extract_lets +onlyGivenNames -merge -useContext -underBinder v1
  have h1 : Good z v1 := (State.updTile_good (State.putImage_good h))
  exact (good_foldl (fun _ _ h2 => (State.updBank_good h2)) _ h1)

theorem State.fillSnap_good {s : State} {t : Nat} (h : Good z s) [Unwatched z.parts.tiles] : Good z (State.fillSnap s t) := by
  unfold State.fillSnap; exact (good_foldl (fun _ _ h1 => (State.updBank_good h1)) _ h)

theorem State.restoreChannel_good {s : State} {c : SnapChannel} (h : Good z s) [Unwatched z.parts.link] : Good z (State.restoreChannel s c) := by
  unfold State.restoreChannel; exact (State.updPort_good h)

theorem State.renewLink_good {s : State} {p : Nat} (h : Good z s) [Unwatched z.parts.objs] [Unwatched z.parts.irqQ] [Unwatched z.parts.link] : Good z (State.renewLink s p) := by
  unfold State.renewLink; exact (good_ite (State.updPort_good (State.startRetrain_good h)) h)

theorem State.restoreSlot_good {s : State} {q_ : Nat} {c : Nat} (h : Good z s) [Unwatched z.parts.objs] [Unwatched z.parts.bar0] [Unwatched z.parts.host] : Good z (State.restoreSlot s q_ c) := by
  unfold State.restoreSlot
  extract_lets +onlyGivenNames -merge -useContext -underBinder v1
  have h1 : Good z v1 := (State.setObj_good h)
  exact (good_ite (State.qHalt_good (State.abortEntries_good h1)) h1)

theorem State.restoreBasin_good {s : State} {b : Nat} {r : SnapRecord} (h : Good z s) [Unwatched z.parts.objs] [Unwatched z.parts.bar0] [Unwatched z.parts.irqQ] [Unwatched z.parts.link] [Unwatched z.parts.host] [Unwatched z.parts.srv] : Good z (State.restoreBasin s b r) := by
  unfold State.restoreBasin
  extract_lets +onlyGivenNames -merge -useContext -underBinder v1 v2 v4 v6 v8 v10 v11
  have h1 : Good z v1 := (State.setObj_good (State.setObj_good (State.setObj_good (State.setObj_good h))))
  have h2 : Good z v2 := (good_foldl (fun _ _ h3 => (State.applyObj_good h3)) _ h1)
  have h4 : Good z v4 := (good_foldl (fun _ _ h5 => (State.restoreSlot_good h5)) _ h2)
  have h6 : Good z v6 := (good_foldl (fun _ _ h7 => (State.restoreChannel_good h7)) _ h4)
  have h8 : Good z v8 := (good_foldl (fun _ _ h9 => (State.renewLink_good h9)) _ h6)
  have h11 : Good z v11 := (good_host h8 _)
  exact (good_srv h11 _)

theorem State.completeLock_good {s : State} {b : Nat} (h : Good z s) [Unwatched z.parts.free] [Unwatched z.parts.mem] [Unwatched z.parts.tregs] [Unwatched z.parts.objs] [Unwatched z.parts.win] [Unwatched z.parts.tiles] [Unwatched z.parts.basins] [Unwatched z.parts.hubs] [Unwatched z.parts.seams] [Unwatched z.parts.alarmQ] [Unwatched z.parts.irqQ] [Unwatched z.parts.link] [Unwatched z.parts.host] [Unwatched z.parts.srv] [Unwatched z.parts.boot] : Good z (State.completeLock s b) := by
  unfold State.completeLock
  exact (good_foldl (fun _ _ h1 => (by
      split
      · exact h1
      · exact (State.updBasin_good (State.tileLock_good (by refine good_optSnd (by assumption) ?_; exact (State.lockBegin_good h1)))))) _ h)

theorem State.restoreFinish_good {s : State} {b : Nat} {r : SnapRecord} {image : ImageFacts} {table : Map (BitVec 128)} {fallback : Bool} (h : Good z s) [Unwatched z.parts.free] [Unwatched z.parts.mem] [Unwatched z.parts.tregs] [Unwatched z.parts.objs] [Unwatched z.parts.bar0] [Unwatched z.parts.win] [Unwatched z.parts.tiles] [Unwatched z.parts.basins] [Unwatched z.parts.hubs] [Unwatched z.parts.seams] [Unwatched z.parts.alarmQ] [Unwatched z.parts.irqQ] [Unwatched z.parts.link] [Unwatched z.parts.host] [Unwatched z.parts.srv] [Unwatched z.parts.boot] [Unwatched z.parts.cellar] : Good z (State.restoreFinish s b r image table fallback) := by
  unfold State.restoreFinish
  extract_lets +onlyGivenNames -merge -useContext -underBinder v1 v2 v4 v5
  have h2 : Good z v2 := (good_foldl (fun _ _ h3 => (State.atOpenLock_good (State.fillSnap_good h3))) _ h)
  have h4 : Good z v4 := (State.updBasin_good (State.restoreBasin_good h2))
  have h5 : Good z v5 := (State.updCellar_good (State.setObj_good h4))
  exact (State.restoreEnd_good (State.completeLock_good h5))

theorem State.restoreDone_good {s : State} {b : Nat} {media : Bool} (h : Good z s) [Unwatched z.parts.free] [Unwatched z.parts.mem] [Unwatched z.parts.tregs] [Unwatched z.parts.objs] [Unwatched z.parts.bar0] [Unwatched z.parts.win] [Unwatched z.parts.tiles] [Unwatched z.parts.basins] [Unwatched z.parts.hubs] [Unwatched z.parts.seams] [Unwatched z.parts.alarmQ] [Unwatched z.parts.irqQ] [Unwatched z.parts.link] [Unwatched z.parts.host] [Unwatched z.parts.srv] [Unwatched z.parts.boot] [Unwatched z.parts.cellar] : Good z (State.restoreDone s b media) := by
  unfold State.restoreDone
  split
  · exact h
  · exact (good_ite h (good_ite (by
      extract_lets +onlyGivenNames -merge -useContext -underBinder v1 v2 v3
      have h1 : Good z v1 := (State.agentAlarm_good (State.bumpObj_good h))
      have h2 : Good z v2 := (goodSnd_get (State.fresh_good h1))
      exact (good_ite (State.setObj_good (State.restoreEnd_good h2)) (State.updCellar_good h2))) (by
      split
      · exact h
      · extract_lets +onlyGivenNames -merge -useContext -underBinder v4 v5
        have h4 : Good z v4 := (State.restoreRows_good h)
        have h5 : Good z v5 := (State.markWindow_good (good_foldl (fun _ _ h6 => (State.restoreTile_good h6)) _ h4) h)
        exact (State.restoreFinish_good h5))))

theorem State.mappedTile_good {s : State} {t : Nat} {r : SnapRecord} (h : Good z s) [Unwatched z.parts.tregs] [Unwatched z.parts.tiles] : Good z (State.mappedTile s t r) := by
  unfold State.mappedTile
  split
  · exact (State.updTil_good (State.setRegN_good (State.setRegN_good (State.setRegN_good h))))

theorem State.restoreMapped_good {s : State} {b : Nat} (h : Good z s) [Unwatched z.parts.free] [Unwatched z.parts.mem] [Unwatched z.parts.tregs] [Unwatched z.parts.objs] [Unwatched z.parts.bar0] [Unwatched z.parts.win] [Unwatched z.parts.tiles] [Unwatched z.parts.basins] [Unwatched z.parts.hubs] [Unwatched z.parts.seams] [Unwatched z.parts.alarmQ] [Unwatched z.parts.irqQ] [Unwatched z.parts.link] [Unwatched z.parts.host] [Unwatched z.parts.srv] [Unwatched z.parts.boot] [Unwatched z.parts.cellar] : Good z (State.restoreMapped s b) := by
  unfold State.restoreMapped
  split
  · exact h
  · split
    · exact h
    · extract_lets +onlyGivenNames -merge -useContext -underBinder v1
      exact (good_ite (State.restoreEnd_good h) (by
        extract_lets +onlyGivenNames -merge -useContext -underBinder v2 v4 v8
        have h2 : Good z v2 := (good_foldl (fun _ _ h3 => (State.installRow_good h3)) _ h)
        have h4 : Good z v4 := (good_foldl (fun _ _ h5 => (by
            split
            · exact (good_foldl (fun _ _ h6 => (by
                  extract_lets +onlyGivenNames -merge -useContext -underBinder v7
                  exact (State.setReg_good h6))) _ h5)
            · exact h5)) _ h2)
        have h8 : Good z v8 := (State.markWindow_good (good_foldl (fun _ _ h9 => (State.mappedTile_good h9)) _ h4) h)
        exact (State.restoreFinish_good h8)))

theorem State.showShared_good {s : State} (h : Good z s) [Unwatched z.parts.objs] : Good z (State.showShared s) := by
  unfold State.showShared; exact (good_foldl (fun _ _ h1 => (State.setObj_good h1)) _ h)

theorem State.countBasins_good {s : State} (h : Good z s) [Unwatched z.parts.objs] : Good z (State.countBasins s) := by
  unfold State.countBasins; exact (State.setObj_good h)

theorem State.refuseBasin_good {s : State} {b : Nat} {cmd : Nat} {code : Nat} (h : Good z s) [Unwatched z.parts.objs] [Unwatched z.parts.irqQ] [Unwatched z.parts.srv] : Good z (State.refuseBasin s b cmd code) := by
  unfold State.refuseBasin; exact (State.refuseWrite_good (State.setObj_good (State.setObj_good h)))

theorem State.basinDefine_good {s : State} {b : Nat} (h : Good z s) [Unwatched z.parts.objs] [Unwatched z.parts.basins] [Unwatched z.parts.irqQ] [Unwatched z.parts.srv] [Unwatched z.parts.cellar] : Good z (State.basinDefine s b) := by
  unfold State.basinDefine
  extract_lets +onlyGivenNames -merge -useContext -underBinder v1 v2
  exact (good_ite (State.refuseBasin_good h) (by
    extract_lets +onlyGivenNames -merge -useContext -underBinder v3
    exact (good_ite (State.refuseBasin_good h) (by
      extract_lets +onlyGivenNames -merge -useContext -underBinder v4 v5 v6
      have h5 : Good z v5 := (State.setBasin_good (State.releaseRecords_good h))
      have h6 : Good z v6 := (State.setObj_good (State.setObj_good (State.setObj_good (State.setObj_good h5))))
      exact (State.showShared_good (State.countBasins_good h6))))))

theorem State.basinRemove_good {s : State} {b : Nat} (h : Good z s) [Unwatched z.parts.objs] [Unwatched z.parts.basins] [Unwatched z.parts.irqQ] [Unwatched z.parts.srv] [Unwatched z.parts.cellar] : Good z (State.basinRemove s b) := by
  unfold State.basinRemove
  extract_lets +onlyGivenNames -merge -useContext -underBinder v1
  exact (good_ite (State.refuseBasin_good h) (by
    extract_lets +onlyGivenNames -merge -useContext -underBinder v2 v3
    have h2 : Good z v2 := (State.setBasin_good (State.releaseRecords_good h))
    have h3 : Good z v3 := (State.discardBatches_good (State.setObj_good (State.setObj_good (State.setObj_good (State.setObj_good h2)))))
    exact (State.showShared_good (State.countBasins_good h3))))

theorem State.checkDefinitions_good {s : State} (h : Good z s) [Unwatched z.parts.objs] [Unwatched z.parts.basins] [Unwatched z.parts.irqQ] [Unwatched z.parts.cellar] : Good z (State.checkDefinitions s) := by
  unfold State.checkDefinitions
  extract_lets +onlyGivenNames -merge -useContext -underBinder v1 v2
  have h2 : Good z v2 := (good_foldl (fun _ _ h3 => (by
      extract_lets +onlyGivenNames -merge -useContext -underBinder v4
      have h4 : Good z v4 := (State.setBasin_good (State.releaseRecords_good h3))
      exact (State.agentIrq_good (State.setObj_good (State.setObj_good (State.setObj_good h4)))))) _ h)
  exact (State.showShared_good (State.countBasins_good (State.setObj_good h2)))

theorem State.updUpd_good {s : State} {f : Updates → Updates} (h : Good z s) [Unwatched z.parts.upd] : Good z (State.updUpd s f) := by
  unfold State.updUpd; exact (good_upd h _)

theorem State.updateEvent_good {s : State} {ev : Nat} {kind : Nat} {target : Nat} (h : Good z s) [Unwatched z.parts.irqQ] : Good z (State.updateEvent s ev kind target) := by
  unfold State.updateEvent; exact (State.agentIrq_good h)

theorem State.updateShow_good {s : State} {st : Nat} {reason : Nat} (h : Good z s) [Unwatched z.parts.objs] : Good z (State.updateShow s st reason) := by
  unfold State.updateShow; exact (State.setObj_good (State.setObj_good h))

theorem State.updateRefuse_good {s : State} {cmd : Nat} {reason : Nat} (h : Good z s) [Unwatched z.parts.objs] [Unwatched z.parts.irqQ] [Unwatched z.parts.srv] : Good z (State.updateRefuse s cmd reason) := by
  unfold State.updateRefuse
  extract_lets +onlyGivenNames -merge -useContext -underBinder v1 v2
  have h1 : Good z v1 := (State.refuseWrite_good (State.setObj_good h))
  have h2 : Good z v2 := (State.updateEvent_good h1)
  exact (good_ite h2 (State.updateShow_good h2))

theorem State.updateFail_good {s : State} {reason : Nat} (h : Good z s) [Unwatched z.parts.objs] [Unwatched z.parts.irqQ] [Unwatched z.parts.upd] : Good z (State.updateFail s reason) := by
  unfold State.updateFail
  split
  · exact h
  · exact (State.updateEvent_good (State.updateShow_good (State.updUpd_good h)))

theorem State.showLevels_good {s : State} {b : Nat} (h : Good z s) [Unwatched z.parts.objs] : Good z (State.showLevels s b) := by
  unfold State.showLevels
  extract_lets +onlyGivenNames -merge -useContext -underBinder v1
  split
  · exact (State.setObj_good (State.setObj_good h))

theorem State.updateDone_good {s : State} (h : Good z s) [Unwatched z.parts.objs] [Unwatched z.parts.irqQ] [Unwatched z.parts.upd] : Good z (State.updateDone s) := by
  unfold State.updateDone
  split
  · exact h
  · extract_lets +onlyGivenNames -merge -useContext -underBinder v1 v2
    have h1 : Good z v1 := (State.updUpd_good h)
    have h2 : Good z v2 := (by
      unfold v2
      split
      · exact (good_foldl (fun _ _ h3 => (State.showLevels_good h3)) _ h1)
      · exact (good_foldl (fun _ _ h4 => (State.showLevels_good (State.updUpd_good h4))) _ h1)
      · exact (State.updUpd_good h1)
      · exact (State.updUpd_good h1))
    exact (State.updateEvent_good (State.updateShow_good h2))

theorem State.updKeeper_good {s : State} {i : Nat} {f : Keeper → Keeper} (h : Good z s) [Unwatched z.parts.keepers] : Good z (State.updKeeper s i f) := by
  unfold State.updKeeper; exact (good_keepers h _)

theorem State.showStandby_good {s : State} (h : Good z s) [Unwatched z.parts.objs] : Good z (State.showStandby s) := by
  unfold State.showStandby; exact (State.setObj_good h)

theorem State.exchangeKeepers_good {s : State} {former : Nat} (h : Good z s) [Unwatched z.parts.objs] [Unwatched z.parts.bar0] [Unwatched z.parts.keepers] : Good z (State.exchangeKeepers s former) := by
  unfold State.exchangeKeepers
  extract_lets +onlyGivenNames -merge -useContext -underBinder v1 v2 v3
  have h3 : Good z v3 := (State.updKeeper_good (State.updKeeper_good h))
  exact (State.showStandby_good (State.setBar_good (State.setObj_good h3)))

theorem State.sendTileImage_good {s : State} {t : Nat} {i : UpdateImage} (h : Good z s) [Unwatched z.parts.objs] [Unwatched z.parts.tiles] : Good z (State.sendTileImage s t i) := by
  unfold State.sendTileImage; exact (good_ite h (State.fwShow_good (State.updFw_good h)))

theorem State.activateTiles_good {s : State} {u : Update} (h : Good z s) [Unwatched z.parts.tregs] [Unwatched z.parts.objs] [Unwatched z.parts.tiles] [Unwatched z.parts.irqQ] [Unwatched z.parts.srv] [Unwatched z.parts.upd] : Good z (State.activateTiles s u) := by
  unfold State.activateTiles
  extract_lets +onlyGivenNames -merge -useContext -underBinder v1 v2 v4 v5 v7 v8
  have h2 : Good z v2 := (good_foldl (fun _ _ h3 => (good_ite h3 (State.sendTileImage_good h3))) _ h)
  have h5 : Good z v5 := (good_foldl (fun _ _ h6 => (good_ite (State.fwExchange_good h6) h6)) _ h2)
  have h8 : Good z v8 := (good_foldl (fun _ _ h9 => (by
      extract_lets +onlyGivenNames -merge -useContext -underBinder v10 v11 v12
      have h11 : Good z v11 := (State.stageBatch_good h9)
      have h12 : Good z v12 := (good_foldl (fun _ _ h13 => (State.fwActivate_good h13)) _ h11)
      exact (State.updUpd_good h12))) _ h5)
  exact (good_ite (State.updateDone_good h8) (State.updateShow_good h8))

theorem State.updateSettle_good {s : State} (h : Good z s) [Unwatched z.parts.objs] [Unwatched z.parts.irqQ] [Unwatched z.parts.upd] : Good z (State.updateSettle s) := by
  unfold State.updateSettle
  split
  · exact h
  · exact (good_ite h (good_ite (State.updateFail_good h) (good_ite (State.updateDone_good h) h)))

theorem State.updateBegin_good {s : State} {u : Update} (h : Good z s) [Unwatched z.parts.tregs] [Unwatched z.parts.objs] [Unwatched z.parts.tiles] [Unwatched z.parts.irqQ] [Unwatched z.parts.link] [Unwatched z.parts.srv] [Unwatched z.parts.keepers] [Unwatched z.parts.power] [Unwatched z.parts.upd] : Good z (State.updateBegin s u) := by
  unfold State.updateBegin
  extract_lets +onlyGivenNames -merge -useContext -underBinder v1
  have h1 : Good z v1 := (State.updateShow_good (State.updUpd_good h))
  split
  · exact (State.showStandby_good (State.updKeeper_good h1))
  · exact (State.activateTiles_good h1)
  · exact (State.updateShow_good (State.updPort_good h1))
  · exact (good_power h1 _)

theorem State.updateCommand_good {s : State} {back : Bool} (h : Good z s) [Unwatched z.parts.tregs] [Unwatched z.parts.objs] [Unwatched z.parts.tiles] [Unwatched z.parts.irqQ] [Unwatched z.parts.link] [Unwatched z.parts.srv] [Unwatched z.parts.keepers] [Unwatched z.parts.power] [Unwatched z.parts.upd] : Good z (State.updateCommand s back) := by
  unfold State.updateCommand
  extract_lets +onlyGivenNames -merge -useContext -underBinder v1 v2 v3
  split
  · exact (State.updateRefuse_good h)
  · exact (good_ite (State.updateRefuse_good h) (by
      split
      · exact (State.updateBegin_good (State.setObj_good h))
      · exact (State.updateRefuse_good h)))

theorem State.updateCancel_good {s : State} (h : Good z s) [Unwatched z.parts.objs] [Unwatched z.parts.tiles] [Unwatched z.parts.irqQ] [Unwatched z.parts.link] [Unwatched z.parts.srv] [Unwatched z.parts.upd] : Good z (State.updateCancel s) := by
  unfold State.updateCancel
  extract_lets +onlyGivenNames -merge -useContext -underBinder v1
  have h1 : Good z v1 := (State.setObj_good h)
  split
  · exact h1
  · exact (good_ite (by
      extract_lets +onlyGivenNames -merge -useContext -underBinder v2 v4 v5
      have h2 : Good z v2 := (good_foldl (fun _ _ h3 => (State.updTile_good h3)) _ h1)
      have h5 : Good z v5 := (good_srv h2 _)
      exact (State.updateShow_good (State.updUpd_good h5))) (good_ite (State.updateShow_good (State.updUpd_good (State.updPort_good h1))) (State.refuseWrite_good h1)))

theorem State.standbyReboot_good {s : State} {ok : Bool} (h : Good z s) [Unwatched z.parts.objs] [Unwatched z.parts.irqQ] [Unwatched z.parts.keepers] [Unwatched z.parts.upd] : Good z (State.standbyReboot s ok) := by
  unfold State.standbyReboot
  extract_lets +onlyGivenNames -merge -useContext -underBinder v1
  exact (good_ite h (by
    extract_lets +onlyGivenNames -merge -useContext -underBinder v2
    have h2 : Good z v2 := (State.showStandby_good (State.updKeeper_good h))
    split
    · exact h2
    · exact (good_ite h2 (good_ite (State.updateFail_good h2) (good_ite (State.updUpd_good h2) (good_ite (State.updateDone_good h2) h2))))))

theorem State.lkHandover_good {s : State} (h : Good z s) [Unwatched z.parts.objs] [Unwatched z.parts.bar0] [Unwatched z.parts.irqQ] [Unwatched z.parts.srv] [Unwatched z.parts.keepers] [Unwatched z.parts.upd] : Good z (State.lkHandover s) := by
  unfold State.lkHandover
  split
  · exact (good_ite (State.updUpd_good (State.exchangeKeepers_good h)) (State.updateRefuse_good h))
  · exact (good_ite (State.updateShow_good (State.setObj_good (State.exchangeKeepers_good h))) (State.updateRefuse_good h))

theorem State.portDrainEnd_good {s : State} {p : Nat} (h : Good z s) [Unwatched z.parts.objs] [Unwatched z.parts.link] [Unwatched z.parts.upd] : Good z (State.portDrainEnd s p) := by
  unfold State.portDrainEnd
  split
  · exact (good_ite (by
      extract_lets +onlyGivenNames -merge -useContext -underBinder v1 v2 v3
      have h2 : Good z v2 := (good_link h _)
      have h3 : Good z v3 := (State.updPort_good (State.setObj_good h2))
      exact (State.updateShow_good (State.updUpd_good h3))) h)
  · exact h

theorem State.portDrainLimit_good {s : State} {p : Nat} (h : Good z s) [Unwatched z.parts.objs] [Unwatched z.parts.irqQ] [Unwatched z.parts.link] [Unwatched z.parts.upd] : Good z (State.portDrainLimit s p) := by
  unfold State.portDrainLimit
  split
  · exact (good_ite (State.updateFail_good (State.updPort_good h)) h)
  · exact h

theorem State.linkRestarted_good {s : State} {p : Nat} {ok : Bool} (h : Good z s) [Unwatched z.parts.objs] [Unwatched z.parts.irqQ] [Unwatched z.parts.link] [Unwatched z.parts.upd] : Good z (State.linkRestarted s p ok) := by
  unfold State.linkRestarted
  exact (good_ite h (by
    extract_lets +onlyGivenNames -merge -useContext -underBinder v1 v2 v3
    have h2 : Good z v2 := (good_link h _)
    have h3 : Good z v3 := (State.updPort_good (State.startRetrain_good (State.setObj_good h2)))
    exact (good_ite (State.updateDone_good h3) (State.updateFail_good h3))))

theorem State.powerCtrlRestarted_good {s : State} {f : Nat} (h : Good z s) [Unwatched z.parts.objs] [Unwatched z.parts.irqQ] [Unwatched z.parts.power] [Unwatched z.parts.upd] : Good z (State.powerCtrlRestarted s f) := by
  unfold State.powerCtrlRestarted; exact (good_ite (State.updateDone_good (good_power h _)) h)

theorem execBasinDefine_good {b : BasinId} {s : State} (h : Good z s) [Unwatched z.parts.objs] [Unwatched z.parts.basins] [Unwatched z.parts.irqQ] [Unwatched z.parts.srv] [Unwatched z.parts.cellar] : GoodOut z (execBasinDefine b s) := by
  unfold execBasinDefine; exact (goodOut_next (State.basinDefine_good h))

theorem execBasinRemove_good {b : BasinId} {s : State} (h : Good z s) [Unwatched z.parts.objs] [Unwatched z.parts.basins] [Unwatched z.parts.irqQ] [Unwatched z.parts.srv] [Unwatched z.parts.cellar] : GoodOut z (execBasinRemove b s) := by
  unfold execBasinRemove; exact (goodOut_next (State.basinRemove_good h))

theorem execUpdateActivate_good {s : State} (h : Good z s) [Unwatched z.parts.tregs] [Unwatched z.parts.objs] [Unwatched z.parts.tiles] [Unwatched z.parts.irqQ] [Unwatched z.parts.link] [Unwatched z.parts.srv] [Unwatched z.parts.keepers] [Unwatched z.parts.power] [Unwatched z.parts.upd] : GoodOut z (execUpdateActivate s) := by
  unfold execUpdateActivate; exact (goodOut_next (State.updateCommand_good h))

theorem execUpdateRollback_good {s : State} (h : Good z s) [Unwatched z.parts.tregs] [Unwatched z.parts.objs] [Unwatched z.parts.tiles] [Unwatched z.parts.irqQ] [Unwatched z.parts.link] [Unwatched z.parts.srv] [Unwatched z.parts.keepers] [Unwatched z.parts.power] [Unwatched z.parts.upd] : GoodOut z (execUpdateRollback s) := by
  unfold execUpdateRollback; exact (goodOut_next (State.updateCommand_good h))

theorem execUpdateCancel_good {s : State} (h : Good z s) [Unwatched z.parts.objs] [Unwatched z.parts.tiles] [Unwatched z.parts.irqQ] [Unwatched z.parts.link] [Unwatched z.parts.srv] [Unwatched z.parts.upd] : GoodOut z (execUpdateCancel s) := by
  unfold execUpdateCancel; exact (goodOut_next (State.updateCancel_good h))

theorem execLkHandover_good {s : State} (h : Good z s) [Unwatched z.parts.objs] [Unwatched z.parts.bar0] [Unwatched z.parts.irqQ] [Unwatched z.parts.srv] [Unwatched z.parts.keepers] [Unwatched z.parts.upd] : GoodOut z (execLkHandover s) := by
  unfold execLkHandover; exact (goodOut_next (State.lkHandover_good h))

theorem execStandbyRebootEnd_good {ok : Bool} {s : State} (h : Good z s) [Unwatched z.parts.objs] [Unwatched z.parts.irqQ] [Unwatched z.parts.keepers] [Unwatched z.parts.upd] : GoodOut z (execStandbyRebootEnd ok s) := by
  unfold execStandbyRebootEnd; exact (goodOut_next (State.standbyReboot_good h))

theorem execPortDrainEnd_good {p : PortId} {s : State} (h : Good z s) [Unwatched z.parts.objs] [Unwatched z.parts.link] [Unwatched z.parts.upd] : GoodOut z (execPortDrainEnd p s) := by
  unfold execPortDrainEnd; exact (goodOut_next (State.portDrainEnd_good h))

theorem execPortDrainLimit_good {p : PortId} {s : State} (h : Good z s) [Unwatched z.parts.objs] [Unwatched z.parts.irqQ] [Unwatched z.parts.link] [Unwatched z.parts.upd] : GoodOut z (execPortDrainLimit p s) := by
  unfold execPortDrainLimit; exact (goodOut_next (State.portDrainLimit_good h))

theorem execLinkControllerRestartEnd_good {p : PortId} {ok : Bool} {s : State} (h : Good z s) [Unwatched z.parts.objs] [Unwatched z.parts.irqQ] [Unwatched z.parts.link] [Unwatched z.parts.upd] : GoodOut z (execLinkControllerRestartEnd p ok s) := by
  unfold execLinkControllerRestartEnd; exact (goodOut_next (State.linkRestarted_good h))

theorem execPowerCtrlRestartEnd_good {f : FieldId} {s : State} (h : Good z s) [Unwatched z.parts.objs] [Unwatched z.parts.irqQ] [Unwatched z.parts.power] [Unwatched z.parts.upd] : GoodOut z (execPowerCtrlRestartEnd f s) := by
  unfold execPowerCtrlRestartEnd; exact (goodOut_next (State.powerCtrlRestarted_good h))

end Sys2Proof.Machine
end

