-- ==== Sys2Proof/Laws/KeepBoot.lean ====
section
/-! SUPPORT. The operations of ControlOps, BootOps, Cellar, RecoveryOps, DebugOps, DebugCmd, ObjRead, Links, ObjWrite keep the queue, the canonical form, and every
part of the device that their premises do not name. -/

namespace Sys2Proof.Machine

open Sys2Proof

variable {z : Watch}

theorem State.samplePound_good {s : State} {n : Nat} {share : Nat} (h : Good z s) [Unwatched z.parts.power] : GoodSnd z (State.samplePound s n share) := by
  unfold State.samplePound
  exact (goodSnd_ite (goodSnd_mk h) (by
    extract_lets +onlyGivenNames -merge -useContext -underBinder v1
    exact (goodSnd_mk (State.updPound_good h))))

theorem State.newCap_good {s : State} {d0 : Nat} {fixed : Nat} {a : Nat} (h : Good z s) [Unwatched z.parts.objs] [Unwatched z.parts.irqQ] [Unwatched z.parts.power] : Good z (State.newCap s d0 fixed a) := by
  unfold State.newCap
  extract_lets +onlyGivenNames -merge -useContext -underBinder v1 v2 v3 v4 v5 v6 v7 v8
  have h5 : Good z v5 := (good_power h _)
  have h7 : Good z v7 := (good_ite (State.bumpObj_good (State.agentIrq_good h5)) h5)
  exact (good_ite (State.setObj_good h7) (good_ite (by
    extract_lets +onlyGivenNames -merge -useContext -underBinder v9
    have h9 : Good z v9 := (State.setObj_good h7)
    exact (good_power h9 _)) h7))

theorem State.estimateSample_good {s : State} (h : Good z s) [Unwatched z.parts.free] [Unwatched z.parts.objs] [Unwatched z.parts.irqQ] [Unwatched z.parts.power] : Good z (State.estimateSample s) := by
  unfold State.estimateSample
  split
  · split
    · extract_lets +onlyGivenNames -merge -useContext -underBinder v2
      split
      · extract_lets +onlyGivenNames -merge -useContext -underBinder v3 v4 v5 v6 v7
        have h6 : Good z v6 := (good_power (by refine good_snd (by assumption) ?_; exact (goodSnd_foldl (fun _ _ h1 => (by
        split
        · exact (goodSnd_mk (by refine good_snd (by assumption) ?_; exact (State.samplePound_good (goodSnd_get h1)))))) _ (goodSnd_mk (by refine good_snd (by assumption) ?_; exact (State.fresh_good h))))) _)
        have h7 : Good z v7 := (State.setObj_good (State.setObj_good h6))
        exact (State.newCap_good h7)

theorem State.gainUpdate_good {s : State} {n : Nat} (h : Good z s) [Unwatched z.parts.objs] [Unwatched z.parts.irqQ] [Unwatched z.parts.power] : Good z (State.gainUpdate s n) := by
  unfold State.gainUpdate
  extract_lets +onlyGivenNames -merge -useContext -underBinder v1 v2
  have h2 : ∀ a2_0, Good z a2_0 → Good z (v2 a2_0) := by
    intro a2_0 h2_0
    dsimp -zeta only [v2]
    exact (State.updPound_good h2_0)
  exact (good_ite (h2 _ h) (by
    extract_lets +onlyGivenNames -merge -useContext -underBinder v3 v4 v5 v6 v7 v8 v9
    have h9 : Good z v9 := (State.setObj_good (State.updPound_good h))
    exact (h2 _ (good_ite (State.agentIrq_good h9) h9))))

theorem State.msUpdate_good {s : State} (h : Good z s) [Unwatched z.parts.objs] [Unwatched z.parts.irqQ] [Unwatched z.parts.power] : Good z (State.msUpdate s) := by
  unfold State.msUpdate
  extract_lets +onlyGivenNames -merge -useContext -underBinder v1
  split
  · split
    · extract_lets +onlyGivenNames -merge -useContext -underBinder v2 v3 v4 v6 v7
      have h2 : Good z v2 := (State.setObj_good h)
      have h4 : Good z v4 := (good_foldl (fun _ _ h5 => (good_ite h5 (State.setObj_good h5))) _ h2)
      have h6 : Good z v6 := (State.setObj_good h4)
      have h7 : Good z v7 := (good_foldl (fun _ _ h8 => (State.gainUpdate_good h8)) _ h6)
      exact (good_power h7 _)

theorem State.railCapture_good {s : State} {n : Nat} {ivpn : Nat} {ivpm : Nat} (h : Good z s) [Unwatched z.parts.objs] [Unwatched z.parts.irqQ] [Unwatched z.parts.power] : Good z (State.railCapture s n ivpn ivpm) := by
  unfold State.railCapture
  extract_lets +onlyGivenNames -merge -useContext -underBinder v1 v2 v3 v4 v5 v6 v7 v8 v9 v10 v11 v12 v13
  have h9 : Good z v9 := (State.updPound_good h)
  have h10 : Good z v10 := (good_ite (State.bumpObj_good h9) h9)
  have h11 : Good z v11 := (good_ite (State.agentIrq_good h10) h10)
  have h12 : Good z v12 := (good_ite (State.agentIrq_good h11) h11)
  exact (State.setObj_good h12)

theorem State.otherRails_good {s : State} (h : Good z s) [Unwatched z.parts.irqQ] : Good z (State.otherRails s) := by
  unfold State.otherRails; exact (good_foldl (fun _ _ h1 => (good_ite (State.agentIrq_good h1) h1)) _ h)

theorem State.sensorStep_good {s : State} {p : Nat} {tj : Int} (h : Good z s) [Unwatched z.parts.tregs] [Unwatched z.parts.objs] [Unwatched z.parts.alarmQ] [Unwatched z.parts.irqQ] [Unwatched z.parts.boot] [Unwatched z.parts.power] : Good z (State.sensorStep s p tj) := by
  unfold State.sensorStep
  extract_lets +onlyGivenNames -merge -useContext -underBinder v1
  exact (good_ite h (by
    extract_lets +onlyGivenNames -merge -useContext -underBinder v2 v3 v4
    have h4 : Good z v4 := (good_power h _)
    exact (good_ite (State.bumpObj_good (State.agentIrq_good (State.addLedger_good (State.setRegBit_good h4)))) h4)))

theorem State.substitute_good {s : State} {p : Nat} (h : Good z s) [Unwatched z.parts.tregs] : Good z (State.substitute s p) := by
  unfold State.substitute
  extract_lets +onlyGivenNames -merge -useContext -underBinder v1
  exact (good_ite (by
    extract_lets +onlyGivenNames -merge -useContext -underBinder v2
    exact (State.setRegN_good (State.setRegBit_good h))) h)

theorem State.tileThermal_good {s : State} {p : Nat} (h : Good z s) [Unwatched z.parts.tregs] [Unwatched z.parts.power] : Good z (State.tileThermal s p) := by
  unfold State.tileThermal
  extract_lets +onlyGivenNames -merge -useContext -underBinder v1 v2 v3 v4 v5 v6 v7 v8 v9 v10
  have h10 : Good z v10 := (good_power h _)
  exact (State.setRegN_good h10)

theorem State.poundThermal_good {s : State} {n : Nat} {before : Nat} (h : Good z s) [Unwatched z.parts.mem] [Unwatched z.parts.tregs] [Unwatched z.parts.objs] [Unwatched z.parts.tiles] [Unwatched z.parts.basins] [Unwatched z.parts.alarmQ] [Unwatched z.parts.irqQ] [Unwatched z.parts.boot] [Unwatched z.parts.power] [Unwatched z.parts.cellar] : Good z (State.poundThermal s n before) := by
  unfold State.poundThermal
  extract_lets +onlyGivenNames -merge -useContext -underBinder v1 v2 v3 v4 v5 v6 v7 v8 v9 v10 v11 v12 v13 v14
  have h11 : Good z v11 := (State.updPound_good h)
  have h12 : Good z v12 := (good_ite (State.agentIrq_good h11) h11)
  have h13 : Good z v13 := (good_ite (State.agentAlarm_good h12) h12)
  have h14 : Good z v14 := (State.setObj_good (State.setObj_good h13))
  split
  · exact (good_ite h14 (State.thermalShutdown_good h14))
  · exact h14

theorem State.tileCapture_good {s : State} {p : Nat} {m : Int × Nat × Nat} (h : Good z s) [Unwatched z.parts.tregs] : Good z (State.tileCapture s p m) := by
  unfold State.tileCapture
  extract_lets +onlyGivenNames -merge -useContext -underBinder v1 v2
  have h2 : Good z v2 := (State.setRegN_good (State.setRegN_good h))
  exact (good_ite h2 (State.setRegN_good h2))

theorem State.bareCapture_good {s : State} {n : Nat} {l : List (Nat × Int × Nat × Nat)} (h : Good z s) [Unwatched z.parts.mem] [Unwatched z.parts.tregs] [Unwatched z.parts.objs] [Unwatched z.parts.tiles] [Unwatched z.parts.basins] [Unwatched z.parts.alarmQ] [Unwatched z.parts.boot] [Unwatched z.parts.power] [Unwatched z.parts.cellar] : Good z (State.bareCapture s n l) := by
  unfold State.bareCapture
  extract_lets +onlyGivenNames -merge -useContext -underBinder v1 v2 v3 v4 v5 v6
  have h3 : Good z v3 := (good_power h _)
  have h6 : Good z v6 := (good_ite (State.agentAlarm_good (State.updPound_good h3)) h3)
  split
  · exact (good_ite h6 (State.thermalShutdown_good h6))
  · exact h6

theorem State.capture_good {s : State} {n : Nat} {ivpn : Nat} {ivpm : Nat} {sys : Option (List Nat)} {tiles : List (Int × Nat × Nat)} (h : Good z s) [Unwatched z.parts.mem] [Unwatched z.parts.tregs] [Unwatched z.parts.objs] [Unwatched z.parts.tiles] [Unwatched z.parts.basins] [Unwatched z.parts.alarmQ] [Unwatched z.parts.irqQ] [Unwatched z.parts.boot] [Unwatched z.parts.power] [Unwatched z.parts.cellar] : Good z (State.capture s n ivpn ivpm sys tiles) := by
  unfold State.capture
  exact (good_ite (State.bareCapture_good h) (by
    extract_lets +onlyGivenNames -merge -useContext -underBinder v1 v2 v3 v4 v5 v6 v8 v10
    have h2 : Good z v2 := (State.updPound_good h)
    have h3 : Good z v3 := (State.railCapture_good h2)
    have h4 : Good z v4 := (by
      unfold v4
      split
      · exact (State.otherRails_good (good_power h3 _))
      · exact h3)
    have h6 : Good z v6 := (good_foldl (fun _ _ h7 => (State.tileCapture_good h7)) _ h4)
    have h8 : Good z v8 := (good_foldl (fun _ _ h9 => (State.sensorStep_good h9)) _ h6)
    have h10 : Good z v10 := (good_foldl (fun _ _ h11 => (State.substitute_good h11)) _ h8)
    exact (State.poundThermal_good (good_foldl (fun _ _ h12 => (State.tileThermal_good h12)) _ h10))))

theorem State.takeBin_good {s : State} (h : Good z s) [Unwatched z.parts.objs] : Good z (State.takeBin s) := by
  unfold State.takeBin; exact (State.setObj_good h)

theorem State.voltageStep_good {s : State} {n : Nat} (h : Good z s) [Unwatched z.parts.tregs] [Unwatched z.parts.objs] [Unwatched z.parts.power] : Good z (State.voltageStep s n) := by
  unfold State.voltageStep
  exact (good_ite (by
    extract_lets +onlyGivenNames -merge -useContext -underBinder v1 v2
    have h1 : Good z v1 := (State.updPound_good h)
    have h2 : Good z v2 := (good_foldl (fun _ _ h3 => (by
        extract_lets +onlyGivenNames -merge -useContext -underBinder v4 v5 v6
        exact (good_ite h3 (State.setRegN_good h3)))) _ h1)
    exact (State.setRails_good h2)) h)

theorem State.vtSet_good {s : State} {t : Nat} {mv : Nat} (h : Good z s) [Unwatched z.parts.tregs] [Unwatched z.parts.objs] : Good z (State.vtSet s t mv) := by
  unfold State.vtSet
  exact (good_ite h (by
    extract_lets +onlyGivenNames -merge -useContext -underBinder v1 v2 v3
    have h2 : Good z v2 := (State.setRegN_good h)
    exact (good_ite (State.setRails_good h2) h2)))

theorem State.bistFound_good {s : State} {free : Nat} {f : Nat × Option Nat × Nat × Nat} (h : Good z s) [Unwatched z.parts.tregs] : Good z (State.bistFound s free f) := by
  unfold State.bistFound
  split
  · exact h
  · extract_lets +onlyGivenNames -merge -useContext -underBinder v1 v2 v3
    have h3 : Good z v3 := (State.setRegN_good h)
    exact (good_ite (State.setRegN_good h3) (good_ite (State.setRegN_good h3) h3))

theorem State.bistNote_good {s : State} {phase : Nat} {found : List (Nat × Option Nat × Nat × Nat)} (h : Good z s) [Unwatched z.parts.free] [Unwatched z.parts.tregs] : Good z (State.bistNote s phase found) := by
  unfold State.bistNote
  split
  · extract_lets +onlyGivenNames -merge -useContext -underBinder v1
    have h1 : Good z v1 := (good_foldl (fun _ _ h2 => (by
        extract_lets +onlyGivenNames -merge -useContext -underBinder v3 v4
        have h4 : Good z v4 := (State.setRegN_good h2)
        exact (good_ite (State.setRegN_good h4) (good_ite (State.setRegN_good h4) h4)))) _ (by refine good_snd (by assumption) ?_; exact (State.fresh_good h)))
    exact (good_foldl (fun _ _ h5 => (State.bistFound_good h5)) _ h1)

theorem State.phaseLedger_good {s : State} {phase : Nat} {found : List (Nat × Option Nat × Nat × Nat)} (h : Good z s) [Unwatched z.parts.free] [Unwatched z.parts.tregs] [Unwatched z.parts.objs] [Unwatched z.parts.alarmQ] [Unwatched z.parts.irqQ] [Unwatched z.parts.boot] : Good z (State.phaseLedger s phase found) := by
  unfold State.phaseLedger
  extract_lets +onlyGivenNames -merge -useContext -underBinder v1 v2 v3 v4
  have h4 : Good z v4 := (good_boot h _)
  exact (good_foldl (fun _ _ h5 => (State.addLedger_good h5)) _ (State.setObj_good (State.bistNote_good h4)))

theorem State.noShape_good {s : State} {detail : Nat} (h : Good z s) [Unwatched z.parts.objs] [Unwatched z.parts.alarmQ] : Good z (State.noShape s detail) := by
  unfold State.noShape; exact (State.agentAlarm_good (State.setObj_good (State.setObj_good (State.setObj_good h))))

theorem State.makeActive_good {s : State} {i : Nat} (h : Good z s) [Unwatched z.parts.objs] [Unwatched z.parts.bar0] [Unwatched z.parts.keepers] : Good z (State.makeActive s i) := by
  unfold State.makeActive; exact (State.setBar_good (State.setObj_good (State.updKeeper_good h)))

theorem State.chooseKeeper_good {s : State} {okA : Bool} {okB : Bool} (h : Good z s) [Unwatched z.parts.objs] [Unwatched z.parts.bar0] [Unwatched z.parts.irqQ] [Unwatched z.parts.keepers] : Good z (State.chooseKeeper s okA okB) := by
  unfold State.chooseKeeper
  extract_lets +onlyGivenNames -merge -useContext -underBinder v1 v2 v3
  clear_value v3
  split
  · exact (good_foldl (fun _ _ h4 => (State.updKeeper_good h4)) _ h)
  · extract_lets +onlyGivenNames -merge -useContext -underBinder v5 v6
    have h5 : Good z v5 := (State.updKeeper_good (State.makeActive_good h))
    have h6 : Good z v6 := (State.showStandby_good h5)
    exact (good_ite h6 (State.agentIrq_good h6))

theorem State.phaseOneEnd_good {s : State} {r : PhaseResult} (h : Good z s) [Unwatched z.parts.objs] [Unwatched z.parts.bar0] [Unwatched z.parts.alarmQ] [Unwatched z.parts.irqQ] [Unwatched z.parts.srv] [Unwatched z.parts.keepers] [Unwatched z.parts.power] : Good z (State.phaseOneEnd s r) := by
  unfold State.phaseOneEnd
  extract_lets +onlyGivenNames -merge -useContext -underBinder v1
  have h1 : Good z v1 := (State.chooseKeeper_good h)
  exact (good_ite (by
    extract_lets +onlyGivenNames -merge -useContext -underBinder v2 v3
    have h3 : Good z v3 := (good_srv h1 _)
    exact (State.setObj_good (State.setObj_good h3))) (good_ite (State.noShape_good h1) (by
    extract_lets +onlyGivenNames -merge -useContext -underBinder v4 v5 v6
    have h5 : Good z v5 := (good_power h1 _)
    have h6 : ∀ a6_0 a6_1, Good z a6_0 → Good z (v6 a6_0 a6_1) := by
      intro a6_0 a6_1 h6_0
      dsimp -zeta only [v6]
      exact (good_ite h6_0 (State.setPound_good h6_0))
    exact (State.setObj_good (State.takeBin_good (good_foldl (fun _ _ h7 => (h6 _ _ h7)) _ h5))))))

theorem State.loadSeams_good {s : State} (h : Good z s) [Unwatched z.parts.objs] [Unwatched z.parts.seams] [Unwatched z.parts.alarmQ] [Unwatched z.parts.irqQ] [Unwatched z.parts.boot] : Good z (State.loadSeams s) := by
  unfold State.loadSeams
  have h1 : Good z { s with seams := [] } := good_seams h _ (Map.wf_nil _)
  have h2 := good_foldl (f := fun (a : State) (e : LedgerEntry) => a.updSeam e.item (fun v => { v with wires := v.wires ++ [e.sub] }))
    (fun _ _ h => State.updSeam_good h) (({ s with seams := [] } : State).entries 5) h1
  exact good_foldl (fun _ _ h => State.updSeam_good h) _ (good_foldl (fun _ _ h => State.addLedger_good h) _ h2)

theorem State.fabricStart_good {s : State} {offsets : List (PhysId × Int)} (h : Good z s) [Unwatched z.parts.tregs] [Unwatched z.parts.objs] [Unwatched z.parts.tiles] [Unwatched z.parts.power] : Good z (State.fabricStart s offsets) := by
  unfold State.fabricStart
  extract_lets +onlyGivenNames -merge -useContext -underBinder v1 v2 v3 v4 v5
  have h3 : Good z v3 := good_tiles (good_tregs (good_power h _) _ (Map.wf_filter _ _ _ h.2.tregs)) _ (Map.wf_nil _)
  have h4 : Good z v4 := good_foldl (fun _ _ h => State.setRegN_good h) _ h3
  have h5 : Good z v5 := good_foldl (fun _ _ h => State.setRegN_good h) _ h4
  exact good_foldl (fun _ _ h => good_ite h (State.updPound_good (State.setRails_good (State.setPound_good h)))) _
    (State.setObj_good (State.setObj_good h5))

theorem State.fabricDefect_good {s : State} {f : Nat × Option Nat × Nat × Nat} (h : Good z s) [Unwatched z.parts.mem] [Unwatched z.parts.tregs] [Unwatched z.parts.objs] [Unwatched z.parts.tiles] [Unwatched z.parts.basins] [Unwatched z.parts.alarmQ] [Unwatched z.parts.irqQ] [Unwatched z.parts.boot] [Unwatched z.parts.power] [Unwatched z.parts.cellar] : Good z (State.fabricDefect s f) := by
  unfold State.fabricDefect
  split
  · exact (State.setRegBit_good h)
  · exact (State.phaseLost_good h)
  · exact (State.cellLost_good h)
  · exact (State.poundTrip_good h)
  · exact h

theorem State.phaseTwoEnd_good {s : State} {r : PhaseResult} (h : Good z s) [Unwatched z.parts.free] [Unwatched z.parts.mem] [Unwatched z.parts.tregs] [Unwatched z.parts.objs] [Unwatched z.parts.tiles] [Unwatched z.parts.basins] [Unwatched z.parts.seams] [Unwatched z.parts.alarmQ] [Unwatched z.parts.irqQ] [Unwatched z.parts.boot] [Unwatched z.parts.power] [Unwatched z.parts.cellar] : Good z (State.phaseTwoEnd s r) := by
  unfold State.phaseTwoEnd
  extract_lets +onlyGivenNames -merge -useContext -underBinder v1 v2
  have h1 : Good z v1 := (State.phaseLedger_good (State.fabricStart_good h))
  have h2 : Good z v2 := (good_foldl (fun _ _ h3 => (by
      split
      · exact (State.regFail_good h3)
      · exact h3)) _ h1)
  exact (State.setObj_good (State.loadSeams_good (good_foldl (fun _ _ h4 => (State.fabricDefect_good h4)) _ h2)))

theorem State.repairBank_good {s : State} {p : Nat} {b : Nat} (h : Good z s) [Unwatched z.parts.tregs] [Unwatched z.parts.objs] [Unwatched z.parts.alarmQ] [Unwatched z.parts.irqQ] [Unwatched z.parts.boot] : GoodFst z (State.repairBank s p b) := by
  unfold State.repairBank
  split
  · extract_lets +onlyGivenNames -merge -useContext -underBinder v1 v2 v4
    have h2 : Good z v2 := (good_foldl (fun _ _ h3 => (State.setRegN_good h3)) _ h)
    have h4 : Good z v4 := (good_foldl (fun _ _ h5 => (State.setRegN_good h5)) _ h2)
    exact (goodFst_mk (good_ite (State.addLedger_good h4) h4))

theorem State.phaseThreeEnd_good {s : State} {r : PhaseResult} (h : Good z s) [Unwatched z.parts.free] [Unwatched z.parts.mem] [Unwatched z.parts.tregs] [Unwatched z.parts.objs] [Unwatched z.parts.alarmQ] [Unwatched z.parts.irqQ] [Unwatched z.parts.link] [Unwatched z.parts.boot] : Good z (State.phaseThreeEnd s r) := by
  unfold State.phaseThreeEnd
  extract_lets +onlyGivenNames -merge -useContext -underBinder v1 v2 v3
  have h1 : Good z v1 := State.phaseLedger_good h
  have h2 : Good z v2 := good_mem (good_tregs h1 _ (Map.wf_filter _ _ _ h1.2.tregs)) _ (Map.wf_nil _)
  split
  rename_i s2 n heq
  have h3 : Good z s2 := by
    refine good_fst heq ?_
    exact goodFst_foldl (fun _ _ h => goodFst_mk (goodFst_get (State.repairBank_good (goodFst_get h)))) _ (goodFst_mk h2)
  exact State.setObj_good (State.setObj_good (good_foldl (fun _ _ h => good_ite (State.portEnable_good h) h) _ h3))

theorem State.writeCols_good {s : State} {h_ : Nat} {v : Nat} (h : Good z s) [Unwatched z.parts.tregs] : Good z (State.writeCols s h_ v) := by
  unfold State.writeCols; exact (State.setRegN_good (State.setRegN_good h))

theorem State.lighten_good {s : State} {t : Nat} (h : Good z s) [Unwatched z.parts.tiles] : Good z (State.lighten s t) := by
  unfold State.lighten; exact (good_ite h (State.setTile_good h))

theorem State.rampEnd_good {s : State} {n : Nat} {ok : Bool} (h : Good z s) [Unwatched z.parts.mem] [Unwatched z.parts.tregs] [Unwatched z.parts.objs] [Unwatched z.parts.tiles] [Unwatched z.parts.basins] [Unwatched z.parts.alarmQ] [Unwatched z.parts.irqQ] [Unwatched z.parts.boot] [Unwatched z.parts.power] : Good z (State.rampEnd s n ok) := by
  unfold State.rampEnd
  exact (good_ite h (good_ite (State.isolate_good h) (by
    extract_lets +onlyGivenNames -merge -useContext -underBinder v1 v2
    have h1 : Good z v1 := (State.setRails_good (State.updPound_good (State.setPound_good h)))
    have h2 : Good z v2 := (good_foldl (fun _ _ h3 => (State.lighten_good h3)) _ h1)
    exact (State.markPound_good h2))))

theorem State.startTiles_good {s : State} (h : Good z s) [Unwatched z.parts.tiles] : Good z (State.startTiles s) := by
  unfold State.startTiles
  extract_lets +onlyGivenNames -merge -useContext -underBinder v1
  exact (good_foldl (fun _ _ h3 => (good_ite (State.setTile_good h3) (State.setTile_good h3))) _ (good_foldl (fun _ _ h2 => (good_ite (State.setTile_good h2) h2)) _ h))

theorem State.dropBands_good {s : State} {maps : List FieldMap} (h : Good z s) [Unwatched z.parts.objs] : Good z (State.dropBands s maps) := by
  unfold State.dropBands
  exact (good_foldl (fun _ _ h1 => (by
      extract_lets +onlyGivenNames -merge -useContext -underBinder v2
      exact (good_ite (State.setObj_good (State.setObj_good (State.setPound_good h1))) h1))) _ h)

theorem State.ready_good {s : State} {grade : Nat} {maps : List FieldMap} (h : Good z s) [Unwatched z.parts.tregs] [Unwatched z.parts.objs] [Unwatched z.parts.tiles] [Unwatched z.parts.basins] [Unwatched z.parts.alarmQ] [Unwatched z.parts.irqQ] [Unwatched z.parts.boot] [Unwatched z.parts.cellar] : Good z (State.ready s grade maps) := by
  unfold State.ready
  extract_lets +onlyGivenNames -merge -useContext -underBinder v1 v2 v3 v4 v6 v7 v8
  have h1 : Good z v1 := (good_ite (State.addLedger_good h) h)
  have h2 : Good z v2 := (State.takeMaps_good (State.dropBands_good h1))
  have h4 : Good z v4 := (good_foldl (fun _ _ h5 => (State.writeCols_good h5)) _ h2)
  have h7 : Good z v7 := (State.setObj_good h4)
  have h8 : Good z v8 := (State.setObj_good (State.setObj_good (State.setObj_good (State.setObj_good (State.startTiles_good h7)))))
  exact (State.checkDefinitions_good h8)

theorem State.phaseFiveEnd_good {s : State} {r : PhaseResult} (h : Good z s) [Unwatched z.parts.free] [Unwatched z.parts.tregs] [Unwatched z.parts.objs] [Unwatched z.parts.tiles] [Unwatched z.parts.basins] [Unwatched z.parts.alarmQ] [Unwatched z.parts.irqQ] [Unwatched z.parts.boot] [Unwatched z.parts.cellar] : Good z (State.phaseFiveEnd s r) := by
  unfold State.phaseFiveEnd
  extract_lets +onlyGivenNames -merge -useContext -underBinder v1
  have h1 : Good z v1 := (State.phaseLedger_good h)
  exact (good_ite (State.noShape_good (State.setObj_good h1)) (by
    split
    · exact (State.ready_good h1)
    · exact (State.noShape_good (State.setObj_good h1))))

theorem State.phaseEnd_good {s : State} {r : PhaseResult} (h : Good z s) [Unwatched z.parts.free] [Unwatched z.parts.mem] [Unwatched z.parts.tregs] [Unwatched z.parts.objs] [Unwatched z.parts.bar0] [Unwatched z.parts.tiles] [Unwatched z.parts.basins] [Unwatched z.parts.seams] [Unwatched z.parts.alarmQ] [Unwatched z.parts.irqQ] [Unwatched z.parts.link] [Unwatched z.parts.srv] [Unwatched z.parts.keepers] [Unwatched z.parts.boot] [Unwatched z.parts.power] [Unwatched z.parts.cellar] : Good z (State.phaseEnd s r) := by
  unfold State.phaseEnd
  extract_lets +onlyGivenNames -merge -useContext -underBinder v1 v2
  have h2 : Good z v2 := (good_ite h (State.setObj_good h))
  clear_value v1
  split
  · exact (good_ite (State.chooseKeeper_good h) h)
  · exact (State.phaseOneEnd_good h2)
  · exact (State.phaseTwoEnd_good h2)
  · exact (State.phaseThreeEnd_good h2)
  · exact (State.setObj_good (State.phaseLedger_good h2))
  · exact (State.phaseFiveEnd_good h2)
  · exact h

theorem State.refuseService_good {s : State} {cmd : Nat} {reason : Nat} (h : Good z s) [Unwatched z.parts.objs] [Unwatched z.parts.irqQ] [Unwatched z.parts.srv] : Good z (State.refuseService s cmd reason) := by
  unfold State.refuseService; exact (State.refuseWrite_good (State.setObj_good h))

theorem State.serviceUnlock_good {s : State} {v : Nat} (h : Good z s) [Unwatched z.parts.objs] [Unwatched z.parts.boot] : Good z (State.serviceUnlock s v) := by
  unfold State.serviceUnlock
  extract_lets +onlyGivenNames -merge -useContext -underBinder v1
  have h1 : Good z v1 := (State.setObj_good h)
  exact (good_boot h1 _)

theorem State.markRemoval_good {s : State} {i : Nat} {b : Bool} (h : Good z s) [Unwatched z.parts.objs] [Unwatched z.parts.boot] : Good z (State.markRemoval s i b) := by
  unfold State.markRemoval
  extract_lets +onlyGivenNames -merge -useContext -underBinder v1
  exact (State.setObj_good (good_boot h _))

theorem State.removeEntry_good {s : State} {i : Nat} (h : Good z s) [Unwatched z.parts.objs] [Unwatched z.parts.irqQ] [Unwatched z.parts.srv] [Unwatched z.parts.boot] : Good z (State.removeEntry s i) := by
  unfold State.removeEntry
  extract_lets +onlyGivenNames -merge -useContext -underBinder v1
  have h1 : Good z v1 := (State.setObj_good h)
  exact (good_ite (State.refuseService_good h1) (good_ite (State.refuseService_good h1) (State.markRemoval_good h1)))

theorem State.cancelRemoval_good {s : State} {i : Nat} (h : Good z s) [Unwatched z.parts.objs] [Unwatched z.parts.irqQ] [Unwatched z.parts.srv] [Unwatched z.parts.boot] : Good z (State.cancelRemoval s i) := by
  unfold State.cancelRemoval
  extract_lets +onlyGivenNames -merge -useContext -underBinder v1
  have h1 : Good z v1 := (State.setObj_good h)
  exact (good_ite (State.refuseService_good h1) (by
    split
    · exact (State.refuseService_good h1)
    · exact (good_ite (State.markRemoval_good h1) (State.refuseService_good h1))))

theorem State.bringUp_good {s : State} (h : Good z s) [Unwatched z.parts.objs] [Unwatched z.parts.basins] [Unwatched z.parts.alarmQ] [Unwatched z.parts.irqQ] [Unwatched z.parts.link] [Unwatched z.parts.host] [Unwatched z.parts.srv] [Unwatched z.parts.boot] [Unwatched z.parts.power] [Unwatched z.parts.cellar] : Good z (State.bringUp s) := by
  unfold State.bringUp
  extract_lets +onlyGivenNames -merge -useContext -underBinder v1
  exact (good_ite (State.refuseService_good h) (good_ite (State.refuseService_good h) (by
    extract_lets +onlyGivenNames -merge -useContext -underBinder v2 v4 v6 v7 v8
    have h2 : Good z v2 := (good_foldl (fun _ _ h3 => (good_ite (State.endJob_good h3) h3)) _ h)
    have h4 : Good z v4 := (good_foldl (fun _ _ h5 => (good_ite (State.setPound_good h5) h5)) _ h2)
    have h8 : Good z v8 := (good_boot_power h4 _ _)
    exact (State.setObj_good (State.setObj_good (State.setObj_good (State.setObj_good (State.takeBin_good h8))))))))

theorem wfFrom_rects : ∀ (m : Map Basin) (lo : Option Nat), Map.wfFrom (fun _ => Basin.init) lo m = true →
    Map.wfFrom (fun _ => Basin.init) lo (m.filterMap (fun e =>
      if e.2.rect.isSome then some (e.1, { Basin.init with rect := e.2.rect }) else none)) = true
  | [], _, _ => rfl
  | (j, w) :: rest, lo, h => by
    rw [Map.wfFrom_cons] at h
    have ih := wfFrom_rects rest (some j) h.2.2
    by_cases hw : w.rect.isSome
    · simp only [List.filterMap_cons, hw, if_true]
      rw [Map.wfFrom_cons]
      refine ⟨h.1, ?_, ih⟩
      intro e
      have : w.rect = none := congrArg Basin.rect e
      simp [this] at hw
    · simp only [List.filterMap_cons, hw]
      cases lo with
      | none => exact Map.wfFrom_none _ _ j ih
      | some l => exact Map.wfFrom_weaken _ _ j l ih (by have := h.1 l rfl; omega)

theorem State.powerCycle_good {s : State} (h : Good z s) [Unwatched z.parts.mem] [Unwatched z.parts.tregs] [Unwatched z.parts.objs] [Unwatched z.parts.bar0] [Unwatched z.parts.win] [Unwatched z.parts.tiles] [Unwatched z.parts.basins] [Unwatched z.parts.hubs] [Unwatched z.parts.seams] [Unwatched z.parts.alarmQ] [Unwatched z.parts.irqQ] [Unwatched z.parts.agentRsp] [Unwatched z.parts.link] [Unwatched z.parts.host] [Unwatched z.parts.srv] [Unwatched z.parts.keepers] [Unwatched z.parts.boot] [Unwatched z.parts.power] [Unwatched z.parts.cellar] [Unwatched z.parts.upd] [Unwatched z.parts.dbg] : Good z (State.powerCycle s) := by
  unfold State.powerCycle
  refine good_foldl (fun _ _ h => State.setObj_good h) _ ?_
  refine ⟨h.1, { h.2 with mem := rfl, tregs := rfl, objs := Map.wf_filter _ _ _ h.2.objs, bar0 := rfl, win := rfl, tiles := rfl, basins := wfFrom_rects _ _ h.2.basins, hubs := rfl, seams := rfl }, ?_⟩
  constructor
  · exact h.3.free
  all_goals exact unwatched inferInstance

theorem State.powerDown_good {s : State} (h : Good z s) [Unwatched z.parts.mem] [Unwatched z.parts.tregs] [Unwatched z.parts.objs] [Unwatched z.parts.bar0] [Unwatched z.parts.win] [Unwatched z.parts.tiles] [Unwatched z.parts.basins] [Unwatched z.parts.hubs] [Unwatched z.parts.seams] [Unwatched z.parts.alarmQ] [Unwatched z.parts.irqQ] [Unwatched z.parts.agentRsp] [Unwatched z.parts.link] [Unwatched z.parts.host] [Unwatched z.parts.srv] [Unwatched z.parts.keepers] [Unwatched z.parts.boot] [Unwatched z.parts.power] [Unwatched z.parts.cellar] [Unwatched z.parts.upd] [Unwatched z.parts.dbg] : Good z (State.powerDown s) := by
  unfold State.powerDown; exact (good_ite (State.refuseService_good h) (good_ite (State.refuseService_good h) (State.powerCycle_good h)))

theorem State.busHoldupEnd_good {s : State} (h : Good z s) [Unwatched z.parts.mem] [Unwatched z.parts.tregs] [Unwatched z.parts.objs] [Unwatched z.parts.bar0] [Unwatched z.parts.win] [Unwatched z.parts.tiles] [Unwatched z.parts.basins] [Unwatched z.parts.hubs] [Unwatched z.parts.seams] [Unwatched z.parts.alarmQ] [Unwatched z.parts.irqQ] [Unwatched z.parts.agentRsp] [Unwatched z.parts.link] [Unwatched z.parts.host] [Unwatched z.parts.srv] [Unwatched z.parts.keepers] [Unwatched z.parts.boot] [Unwatched z.parts.power] [Unwatched z.parts.cellar] [Unwatched z.parts.upd] [Unwatched z.parts.dbg] : Good z (State.busHoldupEnd s) := by
  unfold State.busHoldupEnd; exact (good_ite (State.powerCycle_good h) h)

theorem execBringupPhaseEnd_good {r : PhaseResult} {s : State} (h : Good z s) [Unwatched z.parts.free] [Unwatched z.parts.mem] [Unwatched z.parts.tregs] [Unwatched z.parts.objs] [Unwatched z.parts.bar0] [Unwatched z.parts.tiles] [Unwatched z.parts.basins] [Unwatched z.parts.seams] [Unwatched z.parts.alarmQ] [Unwatched z.parts.irqQ] [Unwatched z.parts.link] [Unwatched z.parts.srv] [Unwatched z.parts.keepers] [Unwatched z.parts.boot] [Unwatched z.parts.power] [Unwatched z.parts.cellar] : GoodOut z (execBringupPhaseEnd r s) := by
  unfold execBringupPhaseEnd; exact (goodOut_next (State.phaseEnd_good h))

theorem execServiceUnlock_good {val : Word32} {s : State} (h : Good z s) [Unwatched z.parts.objs] [Unwatched z.parts.boot] : GoodOut z (execServiceUnlock val s) := by
  unfold execServiceUnlock; exact (goodOut_next (State.serviceUnlock_good h))

theorem execRemoveEntry_good {i : Nat} {s : State} (h : Good z s) [Unwatched z.parts.objs] [Unwatched z.parts.irqQ] [Unwatched z.parts.srv] [Unwatched z.parts.boot] : GoodOut z (execRemoveEntry i s) := by
  unfold execRemoveEntry; exact (goodOut_next (State.removeEntry_good h))

theorem execBringUp_good {s : State} (h : Good z s) [Unwatched z.parts.objs] [Unwatched z.parts.basins] [Unwatched z.parts.alarmQ] [Unwatched z.parts.irqQ] [Unwatched z.parts.link] [Unwatched z.parts.host] [Unwatched z.parts.srv] [Unwatched z.parts.boot] [Unwatched z.parts.power] [Unwatched z.parts.cellar] : GoodOut z (execBringUp s) := by
  unfold execBringUp; exact (goodOut_next (State.bringUp_good h))

theorem execPowerDown_good {s : State} (h : Good z s) [Unwatched z.parts.mem] [Unwatched z.parts.tregs] [Unwatched z.parts.objs] [Unwatched z.parts.bar0] [Unwatched z.parts.win] [Unwatched z.parts.tiles] [Unwatched z.parts.basins] [Unwatched z.parts.hubs] [Unwatched z.parts.seams] [Unwatched z.parts.alarmQ] [Unwatched z.parts.irqQ] [Unwatched z.parts.agentRsp] [Unwatched z.parts.link] [Unwatched z.parts.host] [Unwatched z.parts.srv] [Unwatched z.parts.keepers] [Unwatched z.parts.boot] [Unwatched z.parts.power] [Unwatched z.parts.cellar] [Unwatched z.parts.upd] [Unwatched z.parts.dbg] : GoodOut z (execPowerDown s) := by
  unfold execPowerDown; exact (goodOut_next (State.powerDown_good h))

theorem execCancelRemoval_good {i : Nat} {s : State} (h : Good z s) [Unwatched z.parts.objs] [Unwatched z.parts.irqQ] [Unwatched z.parts.srv] [Unwatched z.parts.boot] : GoodOut z (execCancelRemoval i s) := by
  unfold execCancelRemoval; exact (goodOut_next (State.cancelRemoval_good h))

theorem execBusHoldupEnd_good {s : State} (h : Good z s) [Unwatched z.parts.mem] [Unwatched z.parts.tregs] [Unwatched z.parts.objs] [Unwatched z.parts.bar0] [Unwatched z.parts.win] [Unwatched z.parts.tiles] [Unwatched z.parts.basins] [Unwatched z.parts.hubs] [Unwatched z.parts.seams] [Unwatched z.parts.alarmQ] [Unwatched z.parts.irqQ] [Unwatched z.parts.agentRsp] [Unwatched z.parts.link] [Unwatched z.parts.host] [Unwatched z.parts.srv] [Unwatched z.parts.keepers] [Unwatched z.parts.boot] [Unwatched z.parts.power] [Unwatched z.parts.cellar] [Unwatched z.parts.upd] [Unwatched z.parts.dbg] : GoodOut z (execBusHoldupEnd s) := by
  unfold execBusHoldupEnd; exact (goodOut_next (State.busHoldupEnd_good h))

theorem execSnapshotRequest_good {b : BasinId} {kind : Bool} {s : State} (h : Good z s) [Unwatched z.parts.objs] [Unwatched z.parts.cellar] : GoodOut z (execSnapshotRequest b kind s) := by
  unfold execSnapshotRequest; exact (goodOut_next (State.askSnapshot_good h))

theorem execSnapshotInterval_good {b : BasinId} {full : Bool} {s : State} (h : Good z s) [Unwatched z.parts.objs] [Unwatched z.parts.cellar] : GoodOut z (execSnapshotInterval b full s) := by
  unfold execSnapshotInterval; exact (goodOut_next (good_ite h (State.askSnapshot_good h)))

theorem execRiskEvaluate_good {s : State} (h : Good z s) [Unwatched z.parts.objs] [Unwatched z.parts.irqQ] [Unwatched z.parts.cellar] : GoodOut z (execRiskEvaluate s) := by
  unfold execRiskEvaluate; exact (goodOut_next (State.riskEvaluate_good h))

theorem execSnapshotStart_good {s : State} (h : Good z s) [Unwatched z.parts.objs] [Unwatched z.parts.basins] [Unwatched z.parts.irqQ] [Unwatched z.parts.cellar] : GoodOut z (execSnapshotStart s) := by
  unfold execSnapshotStart; exact (goodOut_next (State.snapshotStart_good h))

theorem execSnapshotCopy_good {b : BasinId} {s : State} (h : Good z s) [Unwatched z.parts.mem] [Unwatched z.parts.tregs] [Unwatched z.parts.objs] [Unwatched z.parts.win] [Unwatched z.parts.tiles] [Unwatched z.parts.basins] [Unwatched z.parts.alarmQ] [Unwatched z.parts.cellar] : GoodOut z (execSnapshotCopy b s) := by
  unfold execSnapshotCopy; exact (goodOut_next (State.snapshotCopy_good h))

theorem execSnapshotRelease_good {b : BasinId} {s : State} (h : Good z s) [Unwatched z.parts.free] [Unwatched z.parts.tregs] [Unwatched z.parts.objs] [Unwatched z.parts.tiles] [Unwatched z.parts.basins] [Unwatched z.parts.seams] [Unwatched z.parts.alarmQ] [Unwatched z.parts.irqQ] [Unwatched z.parts.boot] [Unwatched z.parts.cellar] : GoodOut z (execSnapshotRelease b s) := by
  unfold execSnapshotRelease; exact (goodOut_next (State.snapshotRelease_good h))

theorem execSnapshotSecured_good {b : BasinId} {s : State} (h : Good z s) [Unwatched z.parts.free] [Unwatched z.parts.objs] [Unwatched z.parts.tiles] [Unwatched z.parts.irqQ] [Unwatched z.parts.cellar] : GoodOut z (execSnapshotSecured b s) := by
  unfold execSnapshotSecured; exact (goodOut_next (State.snapshotSecured_good h))

theorem execRestoreLatest_good {b : BasinId} {bad : List Nat} {s : State} (h : Good z s) [Unwatched z.parts.objs] [Unwatched z.parts.alarmQ] [Unwatched z.parts.irqQ] [Unwatched z.parts.srv] [Unwatched z.parts.cellar] : GoodOut z (execRestoreLatest b bad s) := by
  unfold execRestoreLatest; exact (goodOut_next (State.askRestore_good h))

theorem execRestoreOlderFull_good {b : BasinId} {bad : List Nat} {s : State} (h : Good z s) [Unwatched z.parts.objs] [Unwatched z.parts.alarmQ] [Unwatched z.parts.irqQ] [Unwatched z.parts.srv] [Unwatched z.parts.cellar] : GoodOut z (execRestoreOlderFull b bad s) := by
  unfold execRestoreOlderFull; exact (goodOut_next (State.askRestore_good h))

theorem execRestoreDone_good {b : BasinId} {media : Bool} {s : State} (h : Good z s) [Unwatched z.parts.free] [Unwatched z.parts.mem] [Unwatched z.parts.tregs] [Unwatched z.parts.objs] [Unwatched z.parts.bar0] [Unwatched z.parts.win] [Unwatched z.parts.tiles] [Unwatched z.parts.basins] [Unwatched z.parts.hubs] [Unwatched z.parts.seams] [Unwatched z.parts.alarmQ] [Unwatched z.parts.irqQ] [Unwatched z.parts.link] [Unwatched z.parts.host] [Unwatched z.parts.srv] [Unwatched z.parts.boot] [Unwatched z.parts.cellar] : GoodOut z (execRestoreDone b media s) := by
  unfold execRestoreDone; exact (goodOut_next (State.restoreDone_good h))

theorem State.setRec_good {s : State} {b : Nat} {st : Nat} (h : Good z s) [Unwatched z.parts.objs] : Good z (State.setRec s b st) := by
  unfold State.setRec; exact (State.setObj_good h)

theorem State.endStep_good {s : State} {b : Nat} {detail : Nat} (h : Good z s) [Unwatched z.parts.tregs] [Unwatched z.parts.objs] [Unwatched z.parts.tiles] [Unwatched z.parts.basins] [Unwatched z.parts.alarmQ] [Unwatched z.parts.boot] : Good z (State.endStep s b detail) := by
  unfold State.endStep
  extract_lets +onlyGivenNames -merge -useContext -underBinder v1 v2
  have h1 : Good z v1 := (State.updBasin_good (State.setRec_good (State.bumpObj_good (State.agentAlarm_good h))))
  exact (good_ite (State.beginReset_good h1) (State.beginReset_good h1))

theorem State.prepareBank_good {s : State} {t : Nat} {b : Nat} (h : Good z s) [Unwatched z.parts.tiles] : Good z (State.prepareBank s t b) := by
  unfold State.prepareBank
  extract_lets +onlyGivenNames -merge -useContext -underBinder v1 v2
  exact (State.updBank_good h)

theorem State.prepareTile_good {s : State} {t : Nat} {pos : Nat} (h : Good z s) [Unwatched z.parts.tregs] [Unwatched z.parts.tiles] : Good z (State.prepareTile s t pos) := by
  unfold State.prepareTile
  split
  · exact h
  · extract_lets +onlyGivenNames -merge -useContext -underBinder v1 v2
    have h1 : Good z v1 := (State.atOpenLock_good (State.putImage_good (State.clearRegs_good h)))
    have h2 : Good z v2 := (State.updTile_good h1)
    exact (good_foldl (fun _ _ h3 => (State.prepareBank_good h3)) _ h2)

theorem State.prepareEngines_good {s : State} {b : Nat} (h : Good z s) [Unwatched z.parts.link] [Unwatched z.parts.host] : Good z (State.prepareEngines s b) := by
  unfold State.prepareEngines
  extract_lets +onlyGivenNames -merge -useContext -underBinder v1 v3
  have h1 : Good z v1 := (good_foldl (fun _ _ h2 => (State.updPort_good h2)) _ h)
  have h3 : Good z v3 := (good_foldl (fun _ _ h4 => (good_ite (by
      extract_lets +onlyGivenNames -merge -useContext -underBinder v5 v6
      have h6 : Good z v6 := (good_host h4 _)
      split
      · exact (good_ite (State.setWrite_good h6) h6)
      · exact h6) h4)) _ h1)
  exact (good_foldl (fun _ _ h7 => (State.slotRewind_good h7)) _ h3)

theorem State.prepare_good {s : State} {b : Nat} (h : Good z s) [Unwatched z.parts.tregs] [Unwatched z.parts.objs] [Unwatched z.parts.tiles] [Unwatched z.parts.basins] [Unwatched z.parts.link] [Unwatched z.parts.host] : Good z (State.prepare s b) := by
  unfold State.prepare
  extract_lets +onlyGivenNames -merge -useContext -underBinder v1 v2 v4
  have h2 : Good z v2 := (State.prepareEngines_good (good_foldl (fun _ _ h3 => (State.prepareTile_good h3)) _ h))
  have h4 : Good z v4 := (State.updBasin_good h2)
  exact (good_ite (State.setRec_good (State.askHold_good h4)) h4)

theorem State.tryPrepare_good {s : State} {b : Nat} (h : Good z s) [Unwatched z.parts.tregs] [Unwatched z.parts.objs] [Unwatched z.parts.tiles] [Unwatched z.parts.basins] [Unwatched z.parts.link] [Unwatched z.parts.host] : Good z (State.tryPrepare s b) := by
  unfold State.tryPrepare; exact (good_ite (State.prepare_good h) h)

theorem State.chooseStep_good {s : State} {b : Nat} (h : Good z s) [Unwatched z.parts.tregs] [Unwatched z.parts.objs] [Unwatched z.parts.tiles] [Unwatched z.parts.basins] [Unwatched z.parts.alarmQ] [Unwatched z.parts.link] [Unwatched z.parts.host] [Unwatched z.parts.boot] : Good z (State.chooseStep s b) := by
  unfold State.chooseStep
  extract_lets +onlyGivenNames -merge -useContext -underBinder v1 v2
  have h2 : Good z v2 := (State.updBasin_good h)
  exact (good_ite (State.endStep_good h2) (good_ite (State.endStep_good h2) (good_ite (State.endStep_good h2) (good_ite (State.endStep_good (State.agentAlarm_good h2)) (State.tryPrepare_good (State.setRec_good h2))))))

theorem State.showTriers_good {s : State} (h : Good z s) [Unwatched z.parts.objs] : Good z (State.showTriers s) := by
  unfold State.showTriers
  extract_lets +onlyGivenNames -merge -useContext -underBinder v1
  exact (good_foldl (fun _ _ h2 => (State.setObj_good h2)) _ h)

theorem State.deliverStop_good {s : State} {b : Nat} (h : Good z s) [Unwatched z.parts.tregs] [Unwatched z.parts.tiles] [Unwatched z.parts.link] [Unwatched z.parts.host] : Good z (State.deliverStop s b) := by
  unfold State.deliverStop
  extract_lets +onlyGivenNames -merge -useContext -underBinder v1 v3
  have h1 : Good z v1 := (good_foldl (fun _ _ h2 => (State.updTile_good (State.stopTile_good h2))) _ h)
  have h3 : Good z v3 := (good_foldl (fun _ _ h4 => (good_ite h4 (State.updPort_good h4))) _ h1)
  exact (good_host h3 _)

theorem State.collect_good {s : State} {b : Nat} (h : Good z s) [Unwatched z.parts.tregs] [Unwatched z.parts.objs] [Unwatched z.parts.tiles] [Unwatched z.parts.basins] [Unwatched z.parts.alarmQ] [Unwatched z.parts.link] [Unwatched z.parts.host] [Unwatched z.parts.boot] : Good z (State.collect s b) := by
  unfold State.collect
  extract_lets +onlyGivenNames -merge -useContext -underBinder v1 v2
  exact (good_ite h (by
    extract_lets +onlyGivenNames -merge -useContext -underBinder v3 v4 v5 v6 v7
    have h3 : Good z v3 := (State.deliverStop_good h)
    have h7 : Good z v7 := (State.updBasin_good h3)
    exact (good_ite (State.chooseStep_good h7) (by
      extract_lets +onlyGivenNames -merge -useContext -underBinder v8
      have h8 : Good z v8 := (good_foldl (fun _ _ h9 => (State.setRegN_good h9)) _ h7)
      exact (State.showTriers_good (State.setRec_good h8))))))

theorem State.transientFault_good {s : State} {t : Nat} {cls : Nat} (h : Good z s) [Unwatched z.parts.tregs] [Unwatched z.parts.objs] [Unwatched z.parts.irqQ] [Unwatched z.parts.boot] : Good z (State.transientFault s t cls) := by
  unfold State.transientFault
  extract_lets +onlyGivenNames -merge -useContext -underBinder v1 v2
  have h2 : Good z v2 := (State.agentIrq_good (State.bumpObj_good (State.bumpReg_good h)))
  exact (good_boot h2 _)

theorem State.killTile_good {s : State} {t : Nat} {cause : Nat} {lost : Bool} {idle : Bool} (h : Good z s) [Unwatched z.parts.objs] [Unwatched z.parts.basins] [Unwatched z.parts.alarmQ] [Unwatched z.parts.irqQ] [Unwatched z.parts.boot] : Good z (State.killTile s t cause lost idle) := by
  unfold State.killTile
  exact (good_ite (State.tileDeath_good h) (by
    extract_lets +onlyGivenNames -merge -useContext -underBinder v1
    exact (State.agentAlarm_good (State.bumpObj_good (State.addLedger_good h)))))

theorem State.repairRow_good {s : State} {t : Nat} {b : Nat} {row : Nat} (h : Good z s) [Unwatched z.parts.mem] [Unwatched z.parts.tregs] [Unwatched z.parts.objs] [Unwatched z.parts.win] [Unwatched z.parts.tiles] [Unwatched z.parts.basins] [Unwatched z.parts.alarmQ] [Unwatched z.parts.irqQ] [Unwatched z.parts.boot] : GoodOpt z (State.repairRow s t b row) := by
  unfold State.repairRow
  intro a e
  dsimp only at e
  obtain ⟨m, _, rfl⟩ := Option.map_eq_some_iff.mp e
  exact State.addLedger_good (State.setRegN_good (State.setWord_good (goodSnd_get (goodThd_get (State.decodeRow_good h)))))

theorem State.hubCopyFail_good {s : State} {t : Nat} {item : Nat} (h : Good z s) [Unwatched z.parts.objs] [Unwatched z.parts.basins] [Unwatched z.parts.alarmQ] [Unwatched z.parts.irqQ] [Unwatched z.parts.boot] : Good z (State.hubCopyFail s t item) := by
  unfold State.hubCopyFail
  extract_lets +onlyGivenNames -merge -useContext -underBinder v1 v2
  have h2 : Good z v2 := (State.addLedger_good h)
  exact (good_ite (by
    split
    · exact (State.lkError_good h2)
    · exact h2) h2)

theorem State.repairLink_good {s : State} {t : Nat} {item : Nat} {idle : Bool} (h : Good z s) [Unwatched z.parts.tregs] [Unwatched z.parts.objs] [Unwatched z.parts.basins] [Unwatched z.parts.seams] [Unwatched z.parts.alarmQ] [Unwatched z.parts.irqQ] [Unwatched z.parts.boot] : Good z (State.repairLink s t item idle) := by
  unfold State.repairLink
  extract_lets +onlyGivenNames -merge -useContext -underBinder v1
  exact (good_ite (by
    split
    · exact (State.seamWireFail_good h)
    · split
      · exact (State.killTile_good (State.addLedger_good h))
      · exact h) (good_ite (State.killTile_good h) (State.hubCopyFail_good h)))

theorem State.repair_good {s : State} {t : Nat} {cls : Nat} {item : Nat} {idle : Bool} (h : Good z s) [Unwatched z.parts.mem] [Unwatched z.parts.tregs] [Unwatched z.parts.objs] [Unwatched z.parts.win] [Unwatched z.parts.tiles] [Unwatched z.parts.basins] [Unwatched z.parts.seams] [Unwatched z.parts.alarmQ] [Unwatched z.parts.irqQ] [Unwatched z.parts.boot] : Good z (State.repair s t cls item idle) := by
  unfold State.repair
  split
  · extract_lets +onlyGivenNames -merge -useContext -underBinder v1 v2
    exact (good_ite (State.addLedger_good h) (good_getD (State.repairRow_good h) (State.killTile_good h)))
  · exact (State.killTile_good h)
  · extract_lets +onlyGivenNames -merge -useContext -underBinder v3 v4
    exact (good_ite (State.addLedger_good h) (State.killTile_good h))
  · exact (State.killTile_good h)
  · exact (State.killTile_good h)
  · exact (State.killTile_good h)
  · exact (State.repairLink_good h)

theorem State.lastingFault_good {s : State} {t : Nat} {cls : Nat} {item : Nat} {idle : Bool} (h : Good z s) [Unwatched z.parts.mem] [Unwatched z.parts.tregs] [Unwatched z.parts.objs] [Unwatched z.parts.win] [Unwatched z.parts.tiles] [Unwatched z.parts.basins] [Unwatched z.parts.seams] [Unwatched z.parts.alarmQ] [Unwatched z.parts.irqQ] [Unwatched z.parts.boot] : Good z (State.lastingFault s t cls item idle) := by
  unfold State.lastingFault
  extract_lets +onlyGivenNames -merge -useContext -underBinder v1 v2 v3 v4
  have h3 : Good z v3 := (State.setRegN_good h)
  have h4 : Good z v4 := (State.agentAlarm_good (State.bumpObj_good h3))
  exact (State.repair_good h4)

theorem State.testEnd_good {s : State} {t : Nat} {cls : Nat} {lasting : Bool} {item : Nat} (h : Good z s) [Unwatched z.parts.mem] [Unwatched z.parts.tregs] [Unwatched z.parts.objs] [Unwatched z.parts.win] [Unwatched z.parts.tiles] [Unwatched z.parts.basins] [Unwatched z.parts.seams] [Unwatched z.parts.alarmQ] [Unwatched z.parts.irqQ] [Unwatched z.parts.link] [Unwatched z.parts.host] [Unwatched z.parts.boot] : Good z (State.testEnd s t cls lasting item) := by
  unfold State.testEnd
  split
  · exact h
  · split
    · exact h
    · extract_lets +onlyGivenNames -merge -useContext -underBinder v1 v2 v3 v4 v5
      have h2 : Good z v2 := (State.bumpObj_good (State.updBasin_good h))
      have h3 : Good z v3 := (State.setRegN_good h2)
      have h4 : Good z v4 := (good_ite (State.updBasin_good (State.lastingFault_good h3)) (State.transientFault_good h3))
      have h5 : Good z v5 := (State.showTriers_good h4)
      exact (good_ite (State.chooseStep_good h5) h5)

theorem State.clearStop_good {s : State} {b : Nat} (h : Good z s) [Unwatched z.parts.tiles] [Unwatched z.parts.link] [Unwatched z.parts.host] : Good z (State.clearStop s b) := by
  unfold State.clearStop
  extract_lets +onlyGivenNames -merge -useContext -underBinder v1 v3
  have h1 : Good z v1 := (good_foldl (fun _ _ h2 => (State.updTile_good h2)) _ h)
  have h3 : Good z v3 := (good_foldl (fun _ _ h4 => (good_ite (State.updPort_good h4) h4)) _ h1)
  exact (good_host h3 _)

theorem State.askPause_good {s : State} {b : Nat} (h : Good z s) [Unwatched z.parts.basins] : Good z (State.askPause s b) := by
  unfold State.askPause; exact (good_ite (State.askHold_good h) h)

theorem State.replayRelease_good {s0 : State} {b : Nat} (hs0 : Good z s0) [Unwatched z.parts.free] [Unwatched z.parts.mem] [Unwatched z.parts.tregs] [Unwatched z.parts.objs] [Unwatched z.parts.win] [Unwatched z.parts.tiles] [Unwatched z.parts.basins] [Unwatched z.parts.hubs] [Unwatched z.parts.seams] [Unwatched z.parts.alarmQ] [Unwatched z.parts.irqQ] [Unwatched z.parts.link] [Unwatched z.parts.host] [Unwatched z.parts.srv] [Unwatched z.parts.boot] : Good z (State.replayRelease s0 b) := by
  unfold State.replayRelease
  extract_lets +onlyGivenNames -merge -useContext -underBinder v1 v2
  have h1 : Good z v1 := (State.tryPrepare_good hs0)
  exact (good_ite (by
    extract_lets +onlyGivenNames -merge -useContext -underBinder v3 v4 v5
    have h4 : Good z v4 := (State.updBasin_good (State.clearStop_good h1))
    have h5 : Good z v5 := (good_foldl (fun _ _ h6 => (State.setRegN_good h6)) _ h4)
    split
    · extract_lets +onlyGivenNames -merge -useContext -underBinder v7 v8
      have h7 : Good z v7 := (State.setObj_good (State.setObj_good (State.setRec_good (by refine good_snd (by assumption) ?_; exact (State.fresh_good h5)))))
      have h8 : Good z v8 := (State.agentIrq_good (State.bumpObj_good (State.bumpObj_good h7)))
      exact (State.askPause_good (State.completeLock_good h8))) h1)

theorem State.releaseRemap_good {s : State} {b : Nat} (h : Good z s) [Unwatched z.parts.objs] [Unwatched z.parts.basins] : Good z (State.releaseRemap s b) := by
  unfold State.releaseRemap
  extract_lets +onlyGivenNames -merge -useContext -underBinder v1 v2
  have h2 : Good z v2 := (State.updBasin_good h)
  exact (good_ite (State.setRec_good h2) h2)

theorem State.moveRows_good {s : State} {old : State} {t : Nat} (h : Good z s) (hold : Good z old) [Unwatched z.parts.mem] : Good z (State.moveRows s old t) := by
  unfold State.moveRows; exact (good_foldl (fun _ _ h1 => (State.setWord_good h1)) _ h)

theorem State.takeLoaded_good {s : State} {old : State} {t : Nat} {h_ : Nat} (h : Good z s) (hold : Good z old) [Unwatched z.parts.mem] [Unwatched z.parts.tregs] [Unwatched z.parts.tiles] : Good z (State.takeLoaded s old t h_) := by
  unfold State.takeLoaded
  extract_lets +onlyGivenNames -merge -useContext -underBinder v1 v2 v3 v4 v5
  have h3 : Good z v3 := good_foldl (fun _ _ h => State.setReg_good h) _ (State.clearRegs_good h)
  have h4 : Good z v4 := good_mem h3 _ (Map.wf_filter _ _ _ h3.2.mem)
  exact State.setTile_good (good_foldl (fun _ _ h => State.setWord_good h) _ h4)

theorem State.carryTile_good {s : State} {old : State} {t : Nat} {h_ : Nat} (h : Good z s) (hold : Good z old) [Unwatched z.parts.mem] [Unwatched z.parts.tiles] : Good z (State.carryTile s old t h_) := by
  unfold State.carryTile; exact (State.updTile_good (State.moveRows_good h hold))

theorem State.movedTile_good {s : State} {old : State} {t : Nat} (h : Good z s) (hold : Good z old) [Unwatched z.parts.mem] [Unwatched z.parts.tregs] [Unwatched z.parts.tiles] : Good z (State.movedTile s old t) := by
  unfold State.movedTile
  extract_lets +onlyGivenNames -merge -useContext -underBinder v1 v2 v3 v4 v5
  have h3 : Good z v3 := (good_ite (State.takeLoaded_good h hold) (State.carryTile_good h hold))
  have h4 : Good z v4 := (State.setRegN_good (State.updTile_good h3))
  have h5 : Good z v5 := (good_ite (State.setTile_good h4) h4)
  exact (good_ite (State.updTile_good h5) h5)

theorem State.noMap_good {s : State} {held : List Nat} {limit : Nat} (h : Good z s) [Unwatched z.parts.tregs] [Unwatched z.parts.objs] [Unwatched z.parts.tiles] [Unwatched z.parts.basins] [Unwatched z.parts.alarmQ] [Unwatched z.parts.boot] : Good z (State.noMap s held limit) := by
  unfold State.noMap
  exact (good_foldl (fun _ _ h1 => (by
      split
      · exact (State.endStep_good (State.updBasin_good (State.agentAlarm_good h1)))
      · exact (State.releaseRemap_good h1))) _ h)

theorem State.lateCols_good {s : State} {b : Nat} (h : Good z s) [Unwatched z.parts.tregs] : Good z (State.lateCols s b) := by
  unfold State.lateCols; exact (good_foldl (fun _ _ h1 => (State.setRegN_good h1)) _ h)

theorem State.remap_good {s0 : State} (hs0 : Good z s0) [Unwatched z.parts.mem] [Unwatched z.parts.tregs] [Unwatched z.parts.objs] [Unwatched z.parts.tiles] [Unwatched z.parts.basins] [Unwatched z.parts.seams] [Unwatched z.parts.alarmQ] [Unwatched z.parts.irqQ] [Unwatched z.parts.link] [Unwatched z.parts.host] [Unwatched z.parts.boot] : Good z (State.remap s0) := by
  unfold State.remap
  extract_lets +onlyGivenNames -merge -useContext -underBinder v1
  have h1 : Good z v1 := (good_foldl (fun _ _ h2 => (State.tryPrepare_good h2)) _ hs0)
  split
  · exact h1
  · extract_lets +onlyGivenNames -merge -useContext -underBinder v3 v4
    split
    · exact (State.noMap_good h1)
    · extract_lets +onlyGivenNames -merge -useContext -underBinder v5
      exact (good_ite (State.noMap_good h1) (by
        extract_lets +onlyGivenNames -merge -useContext -underBinder v6 v7 v8
        have h6 : Good z v6 := (State.takeMaps_good h1)
        exact (good_ite (good_foldl (fun _ _ h9 => (State.askHold_good h9)) _ h1) (by
          extract_lets +onlyGivenNames -merge -useContext -underBinder v10 v12 v13 v14 v17 v19
          have h10 : Good z v10 := (good_foldl (fun _ _ h11 => (State.movedTile_good h11 h1)) _ h6)
          have h14 : Good z v14 := (good_foldl (fun _ _ h16 => (by
              split
              · exact (good_ite (State.writeCols_good h16) h16)
              · exact (State.writeCols_good h16))) _ (good_foldl (fun _ _ h15 => (State.lateCols_good h15)) _ h10))
          have h17 : Good z v17 := (State.showShared_good (State.takeBin_good (good_foldl (fun _ _ h18 => (State.seamTurn_good h18)) _ h14)))
          have h19 : Good z v19 := (good_ite h17 (State.agentIrq_good h17))
          exact (good_foldl (fun _ _ h20 => (State.releaseRemap_good h20)) _ h19)))))

theorem State.freeRow_good {s : State} (h : Good z s) [Unwatched z.parts.free] : GoodSnd z (State.freeRow s) := by
  unfold State.freeRow
  split
  · split
    · split
      · split
        · exact (goodSnd_mk (by refine good_snd (by assumption) ?_; exact (State.fresh_good (by refine good_snd (by assumption) ?_; exact (State.fresh_good (by refine good_snd (by assumption) ?_; exact (State.fresh_good (by refine good_snd (by assumption) ?_; exact (State.fresh_good h)))))))))

theorem freeSet_good {l : Map Row} {s : State} (h : Good z s) [Unwatched z.parts.free] : GoodSnd z (freeSet l s) := by
  unfold freeSet
  exact (goodSnd_foldl (fun _ _ h1 => (by
      split
      · exact (goodSnd_mk (by refine good_snd (by assumption) ?_; exact (State.freeRow_good (goodSnd_get h1)))))) _ (goodSnd_mk h))

theorem State.wreckArray_good {s : State} {t : Nat} (h : Good z s) [Unwatched z.parts.free] [Unwatched z.parts.tiles] : Good z (State.wreckArray s t) := by
  unfold State.wreckArray
  extract_lets +onlyGivenNames -merge -useContext -underBinder v1
  split
  · split
    · exact (State.updArr_good (by refine good_snd (by assumption) ?_; exact (freeSet_good (by refine good_snd (by assumption) ?_; exact (freeSet_good h)))))

theorem State.wreckVector_good {s : State} {t : Nat} (h : Good z s) [Unwatched z.parts.free] [Unwatched z.parts.tiles] : Good z (State.wreckVector s t) := by
  unfold State.wreckVector
  exact (good_foldl (fun _ _ h1 => (by
      split
      · split
        · split
          · split
            · exact (State.updTile_good (by refine good_snd (by assumption) ?_; exact (State.freeRow_good (by refine good_snd (by assumption) ?_; exact (State.freeRow_good (by refine good_snd (by assumption) ?_; exact (State.freeRow_good (by refine good_snd (by assumption) ?_; exact (State.freeRow_good h1))))))))))) _ h)

theorem State.wreckScalars_good {s : State} {t : Nat} (h : Good z s) [Unwatched z.parts.free] [Unwatched z.parts.tregs] : Good z (State.wreckScalars s t) := by
  unfold State.wreckScalars
  exact (good_foldl (fun _ _ h1 => (by
      split
      · exact (State.setSreg_good (by refine good_snd (by assumption) ?_; exact (State.fresh_good h1))))) _ h)

theorem State.passDone_good {s : State} {t : Nat} (h : Good z s) [Unwatched z.parts.tregs] [Unwatched z.parts.objs] [Unwatched z.parts.boot] : Good z (State.passDone s t) := by
  unfold State.passDone
  extract_lets +onlyGivenNames -merge -useContext -underBinder v1 v2 v3 v4 v5
  have h3 : Good z v3 := (good_ite (State.setObj_good (State.setRegN_good h)) h)
  have h5 : Good z v5 := (good_boot h3 _)
  exact (State.bumpObj_good (State.setRegN_good h5))

theorem State.classPassed_good {s : State} {t : Nat} {cls : Nat} {item : Nat} (h : Good z s) [Unwatched z.parts.tregs] [Unwatched z.parts.objs] [Unwatched z.parts.boot] : Good z (State.classPassed s t cls item) := by
  unfold State.classPassed
  exact (good_ite (State.passDone_good h) (by
    extract_lets +onlyGivenNames -merge -useContext -underBinder v1 v2
    exact (good_ite (State.passDone_good h) (good_boot h _))))

theorem State.serviceFault_good {s : State} {t : Nat} {cls : Nat} {item : Nat} (h : Good z s) [Unwatched z.parts.mem] [Unwatched z.parts.tregs] [Unwatched z.parts.objs] [Unwatched z.parts.win] [Unwatched z.parts.tiles] [Unwatched z.parts.basins] [Unwatched z.parts.seams] [Unwatched z.parts.alarmQ] [Unwatched z.parts.irqQ] [Unwatched z.parts.boot] : Good z (State.serviceFault s t cls item) := by
  unfold State.serviceFault
  extract_lets +onlyGivenNames -merge -useContext -underBinder v1
  have h1 : Good z v1 := (State.lastingFault_good h)
  split
  · exact (good_ite (State.askHold_good h1) h1)
  · exact h1

theorem State.idleSlice_good {s : State} {t : Nat} {cls : Nat} {ok : Bool} {item : Nat} (h : Good z s) [Unwatched z.parts.free] [Unwatched z.parts.mem] [Unwatched z.parts.tregs] [Unwatched z.parts.objs] [Unwatched z.parts.win] [Unwatched z.parts.tiles] [Unwatched z.parts.basins] [Unwatched z.parts.seams] [Unwatched z.parts.alarmQ] [Unwatched z.parts.irqQ] [Unwatched z.parts.boot] : Good z (State.idleSlice s t cls ok item) := by
  unfold State.idleSlice
  extract_lets +onlyGivenNames -merge -useContext -underBinder v1
  exact (good_ite h (by
    extract_lets +onlyGivenNames -merge -useContext -underBinder v2 v3 v4 v5
    have h4 : Good z v4 := (good_boot h _)
    have h5 : Good z v5 := (by
      unfold v5
      split
      · exact (State.wreckArray_good h4)
      · exact (State.wreckVector_good h4)
      · exact (State.wreckScalars_good h4)
      · exact (State.wreckScalars_good (State.wreckVector_good (State.wreckArray_good h4)))
      · exact h4)
    exact (good_ite (State.classPassed_good h5) (State.serviceFault_good h5))))

theorem State.trierOverdue_good {s : State} {t : Nat} (h : Good z s) [Unwatched z.parts.tregs] [Unwatched z.parts.objs] [Unwatched z.parts.irqQ] : Good z (State.trierOverdue s t) := by
  unfold State.trierOverdue
  extract_lets +onlyGivenNames -merge -useContext -underBinder v1
  exact (good_ite h (State.agentIrq_good (State.bumpObj_good (State.setRegN_good h))))

theorem State.pauseRequest_good {s : State} {b : Nat} (h : Good z s) [Unwatched z.parts.objs] [Unwatched z.parts.basins] : Good z (State.pauseRequest s b) := by
  unfold State.pauseRequest
  extract_lets +onlyGivenNames -merge -useContext -underBinder v1
  have h1 : Good z v1 := (State.setObj_good h)
  exact (good_ite h1 (State.askPause_good h1))

theorem State.pauseDone_good {s : State} {b : Nat} {tested : List Nat} {faults : List (Nat × Nat × Nat)} (h : Good z s) [Unwatched z.parts.mem] [Unwatched z.parts.tregs] [Unwatched z.parts.objs] [Unwatched z.parts.win] [Unwatched z.parts.tiles] [Unwatched z.parts.basins] [Unwatched z.parts.seams] [Unwatched z.parts.alarmQ] [Unwatched z.parts.irqQ] [Unwatched z.parts.boot] : Good z (State.pauseDone s b tested faults) := by
  unfold State.pauseDone
  exact (good_ite (by
    extract_lets +onlyGivenNames -merge -useContext -underBinder v1 v2 v4 v6 v7
    have h2 : Good z v2 := (good_foldl (fun _ _ h3 => (State.passDone_good h3)) _ h)
    have h4 : Good z v4 := (good_foldl (fun _ _ h5 => (State.serviceFault_good h5)) _ h2)
    have h7 : Good z v7 := (State.updBasin_good h4)
    exact (State.agentIrq_good (State.setObj_good h7))) h)

theorem State.digestAppend_good {s : State} {b : Nat} {low : Nat} {lost : Bool} (h : Good z s) [Unwatched z.parts.objs] [Unwatched z.parts.basins] [Unwatched z.parts.irqQ] : Good z (State.digestAppend s b low lost) := by
  unfold State.digestAppend
  extract_lets +onlyGivenNames -merge -useContext -underBinder v1 v2 v3 v4 v5 v6 v7 v8 v9 v10 v11
  have h9 : Good z v9 := (State.updBasin_good h)
  have h10 : Good z v10 := (State.setObj_good h9)
  have h11 : Good z v11 := (good_ite (State.agentIrq_good h10) h10)
  exact (good_ite (State.agentIrq_good h11) h11)

theorem State.digestDrain_good {s : State} {b : Nat} (h : Good z s) [Unwatched z.parts.objs] [Unwatched z.parts.tiles] [Unwatched z.parts.basins] [Unwatched z.parts.irqQ] : Good z (State.digestDrain s b) := by
  unfold State.digestDrain
  exact (good_ite h (by
    extract_lets +onlyGivenNames -merge -useContext -underBinder v1 v2 v3 v4 v5 v7 v8 v9 v10
    have h5 : Good z v5 := (good_foldl (fun _ _ h6 => (State.digestAck_good h6)) _ h)
    have h7 : Good z v7 := (State.bumpObj_good (State.updBasin_good h5))
    exact (good_foldl (fun _ _ h11 => (State.digestAppend_good h11)) _ h7)))

theorem State.relayCapture_good {s : State} {b : Nat} (h : Good z s) [Unwatched z.parts.tregs] : Good z (State.relayCapture s b) := by
  unfold State.relayCapture
  extract_lets +onlyGivenNames -merge -useContext -underBinder v1 v2 v3
  have h3 : Good z v3 := (good_foldl (fun _ _ h4 => (good_ite (State.setRegBit_good h4) h4)) _ h)
  exact (good_ite (State.setRegN_good (State.setRegN_good h3)) h3)

theorem State.captureArm_good {s : State} {b : Nat} {epoch : Nat} (h : Good z s) [Unwatched z.parts.tregs] [Unwatched z.parts.objs] : Good z (State.captureArm s b epoch) := by
  unfold State.captureArm
  extract_lets +onlyGivenNames -merge -useContext -underBinder v1
  have h1 : Good z v1 := (State.setObj_good h)
  exact (State.relayCapture_good (State.setObj_good h1))

theorem State.bankArm_good {s : State} {b : Nat} {xy : Nat} (h : Good z s) [Unwatched z.parts.tregs] [Unwatched z.parts.objs] : Good z (State.bankArm s b xy) := by
  unfold State.bankArm
  extract_lets +onlyGivenNames -merge -useContext -underBinder v1
  exact (State.relayCapture_good (State.setObj_good h))

theorem State.relayProbes_good {s : State} (h : Good z s) [Unwatched z.parts.tregs] : Good z (State.relayProbes s) := by
  unfold State.relayProbes; exact (good_foldl (fun _ _ h1 => (State.setRegN_good h1)) _ h)

theorem State.probeSelect_good {s : State} (h : Good z s) [Unwatched z.parts.tregs] [Unwatched z.parts.dbg] : Good z (State.probeSelect s) := by
  unfold State.probeSelect
  extract_lets +onlyGivenNames -merge -useContext -underBinder v1 v2 v3
  have h1 : Good z v1 := (State.relayProbes_good h)
  exact (good_dbg h1 _)

theorem State.tapLoad_good {s : State} {i : Nat} (h : Good z s) [Unwatched z.parts.dbg] : Good z (State.tapLoad s i) := by
  unfold State.tapLoad; exact (good_ite (good_dbg h _) h)

theorem State.tapIdcode_good {s : State} (h : Good z s) [Unwatched z.parts.free] [Unwatched z.parts.dbg] : Good z (State.tapIdcode s) := by
  unfold State.tapIdcode
  extract_lets +onlyGivenNames -merge -useContext -underBinder v1
  have h1 : Good z v1 := (State.tapLoad_good h)
  exact (good_ite (by
    split
    · exact (good_dbg (by refine good_snd (by assumption) ?_; exact (State.fresh_good h1)) _)) h1)

theorem State.tapSample_good {s : State} (h : Good z s) [Unwatched z.parts.free] [Unwatched z.parts.dbg] : Good z (State.tapSample s) := by
  unfold State.tapSample
  extract_lets +onlyGivenNames -merge -useContext -underBinder v1
  have h1 : Good z v1 := (State.tapLoad_good h)
  exact (good_ite (by
    split
    · exact (good_dbg (by refine good_snd (by assumption) ?_; exact (State.fresh_good h1)) _)) h1)

theorem execDigestDrain_good {b : BasinId} {s : State} (h : Good z s) [Unwatched z.parts.objs] [Unwatched z.parts.tiles] [Unwatched z.parts.basins] [Unwatched z.parts.irqQ] : GoodOut z (execDigestDrain b s) := by
  unfold execDigestDrain; exact (goodOut_next (State.digestDrain_good h))

theorem execDigestAck_good {t : TileId} {n : Nat} {s : State} (h : Good z s) [Unwatched z.parts.mem] [Unwatched z.parts.tregs] [Unwatched z.parts.objs] [Unwatched z.parts.win] [Unwatched z.parts.tiles] [Unwatched z.parts.basins] [Unwatched z.parts.irqQ] [Unwatched z.parts.srv] : GoodOut z (execDigestAck t n s) := by
  unfold execDigestAck; exact (goodOut_next (State.towpathAsk_good h (fun _ h1 => (State.regWrite_good h1))))

theorem execDigestCaptureArm_good {b : BasinId} {epoch : Word64} {s : State} (h : Good z s) [Unwatched z.parts.tregs] [Unwatched z.parts.objs] : GoodOut z (execDigestCaptureArm b epoch s) := by
  unfold execDigestCaptureArm; exact (goodOut_next (State.captureArm_good h))

theorem execBankCaptureArm_good {b : BasinId} {xy : BitVec 16} {s : State} (h : Good z s) [Unwatched z.parts.tregs] [Unwatched z.parts.objs] : GoodOut z (execBankCaptureArm b xy s) := by
  unfold execBankCaptureArm; exact (goodOut_next (State.bankArm_good h))

theorem execTraceMark_good {t : TileId} {val : Word32} {s : State} (h : Good z s) [Unwatched z.parts.mem] [Unwatched z.parts.tregs] [Unwatched z.parts.objs] [Unwatched z.parts.win] [Unwatched z.parts.tiles] [Unwatched z.parts.basins] [Unwatched z.parts.irqQ] [Unwatched z.parts.srv] : GoodOut z (execTraceMark t val s) := by
  unfold execTraceMark; exact (goodOut_next (State.towpathAsk_good h (fun _ h1 => (State.regWrite_good h1))))

theorem execHsSelWrite_good {t : TileId} {val : Word32} {s : State} (h : Good z s) [Unwatched z.parts.mem] [Unwatched z.parts.tregs] [Unwatched z.parts.objs] [Unwatched z.parts.win] [Unwatched z.parts.tiles] [Unwatched z.parts.basins] [Unwatched z.parts.irqQ] [Unwatched z.parts.srv] : GoodOut z (execHsSelWrite t val s) := by
  unfold execHsSelWrite; exact (goodOut_next (State.towpathAsk_good h (fun _ h1 => (State.regWrite_good h1))))

theorem execProbeSelect_good {s : State} (h : Good z s) [Unwatched z.parts.tregs] [Unwatched z.parts.dbg] : GoodOut z (execProbeSelect s) := by
  unfold execProbeSelect; exact (goodOut_next (State.probeSelect_good h))

theorem execTraceStoreClear_good {s : State} (h : Good z s) [Unwatched z.parts.objs] [Unwatched z.parts.dbg] : GoodOut z (execTraceStoreClear s) := by
  unfold execTraceStoreClear; exact (goodOut_next (State.setObj_good (good_dbg h _)))

theorem execBypass_good {s : State} (h : Good z s) [Unwatched z.parts.dbg] : GoodOut z (execBypass s) := by
  unfold execBypass; exact (goodOut_next (State.tapLoad_good h))

theorem execIdcode_good {s : State} (h : Good z s) [Unwatched z.parts.free] [Unwatched z.parts.dbg] : GoodOut z (execIdcode s) := by
  unfold execIdcode; exact (goodOut_next (State.tapIdcode_good h))

theorem execSamplePreload_good {s : State} (h : Good z s) [Unwatched z.parts.free] [Unwatched z.parts.dbg] : GoodOut z (execSamplePreload s) := by
  unfold execSamplePreload; exact (goodOut_next (State.tapSample_good h))

theorem execExtest_good {s : State} (h : Good z s) [Unwatched z.parts.dbg] : GoodOut z (execExtest s) := by
  unfold execExtest; exact (goodOut_next (State.tapLoad_good h))

theorem execClamp_good {s : State} (h : Good z s) [Unwatched z.parts.dbg] : GoodOut z (execClamp s) := by
  unfold execClamp; exact (goodOut_next (State.tapLoad_good h))

theorem execHighz_good {s : State} (h : Good z s) [Unwatched z.parts.dbg] : GoodOut z (execHighz s) := by
  unfold execHighz; exact (goodOut_next (State.tapLoad_good h))

theorem State.markRead_good {s : State} {index : Nat} {sub : Nat} (h : Good z s) [Unwatched z.parts.srv] : Good z (State.markRead s index sub) := by
  unfold State.markRead
  exact (good_ite (by
    split
    · exact (good_srv h _)
    · exact h) h)

theorem State.upload_good {s : State} {index : Nat} {sub : Nat} (h : Good z s) [Unwatched z.parts.srv] : GoodSnd z (State.upload s index sub) := by
  unfold State.upload
  extract_lets +onlyGivenNames -merge -useContext -underBinder v1
  exact (goodSnd_ite (goodSnd_mk h) (goodSnd_mk (State.markRead_good h)))

theorem State.uploadAll_good {s : State} {index : Nat} {zero : Bool} (h : Good z s) [Unwatched z.parts.srv] : GoodSnd z (State.uploadAll s index zero) := by
  unfold State.uploadAll
  exact (goodSnd_ite (goodSnd_mk h) (by
    extract_lets +onlyGivenNames -merge -useContext -underBinder v1
    exact (goodSnd_mk (good_foldl (fun _ _ h2 => (State.markRead_good h2)) _ h))))

theorem execPortEnable_good {p : PortId} {en : BitVec 8} {s : State} (h : Good z s) [Unwatched z.parts.objs] [Unwatched z.parts.irqQ] [Unwatched z.parts.link] [Unwatched z.parts.srv] : GoodOut z (execPortEnable p en s) := by
  unfold execPortEnable
  extract_lets +onlyGivenNames -merge -useContext -underBinder v1
  have h1 : Good z v1 := (good_ite (State.logClamp_good h) h)
  exact (goodOut_next (State.portEnable_good h1))

theorem State.badLanes_good {s : State} {p : Nat} (h : Good z s) [Unwatched z.parts.objs] [Unwatched z.parts.alarmQ] [Unwatched z.parts.irqQ] [Unwatched z.parts.boot] : Good z (State.badLanes s p) := by
  unfold State.badLanes
  extract_lets +onlyGivenNames -merge -useContext -underBinder v1
  exact (good_foldl (fun _ _ h2 => (by
      extract_lets +onlyGivenNames -merge -useContext -underBinder v3
      have h3 : Good z v3 := (good_ite h2 (State.addLedger_good h2))
      exact (good_ite h3 (State.addLedger_good h3)))) _ h)

theorem execQualifyEnd.again_good {p : PortId} {s : State} {step : Nat} (h : Good z s) [Unwatched z.parts.objs] [Unwatched z.parts.alarmQ] [Unwatched z.parts.irqQ] [Unwatched z.parts.link] [Unwatched z.parts.boot] : Good z (execQualifyEnd.again p s step) := by
  unfold execQualifyEnd.again
  extract_lets +onlyGivenNames -merge -useContext -underBinder v1 v2
  have h2 : Good z v2 := (State.updPort_good h)
  exact (good_ite (State.addLedger_good (State.portFailed_good h2)) (State.beginAttempt_good h2))

theorem execQualifyEnd_good {p : PortId} {tx : BitVec 8} {rx : BitVec 8} {ok : Bool} {s : State} (h : Good z s) [Unwatched z.parts.objs] [Unwatched z.parts.alarmQ] [Unwatched z.parts.irqQ] [Unwatched z.parts.link] [Unwatched z.parts.boot] : GoodOut z (execQualifyEnd p tx rx ok s) := by
  unfold execQualifyEnd
  extract_lets +onlyGivenNames -merge -useContext -underBinder v1
  exact (goodOut_ite (goodOut_next h) (by
    extract_lets +onlyGivenNames -merge -useContext -underBinder v2 v3 v4
    have h2 : Good z v2 := (State.updPort_good h)
    have h3 : Good z v3 := (State.badLanes_good h2)
    split
    · exact (goodOut_ite (goodOut_next (State.addLedger_good (State.portFailed_good h3))) (goodOut_next (execQualifyEnd.again_good h3)))
    · exact (goodOut_ite (goodOut_next (State.portReady_good h3)) (goodOut_next (execQualifyEnd.again_good h3)))))

theorem execLaneTrainTimeout_good {p : PortId} {lane : Fin 8} {s : State} (h : Good z s) [Unwatched z.parts.link] : GoodOut z (execLaneTrainTimeout p lane s) := by
  unfold execLaneTrainTimeout
  exact (goodOut_ite (by
    extract_lets +onlyGivenNames -merge -useContext -underBinder v1
    exact (goodOut_next (State.updPort_good h))) (goodOut_next h))

theorem execRetrainEnd_good {p : PortId} {ok : Bool} {s : State} (h : Good z s) [Unwatched z.parts.objs] [Unwatched z.parts.win] [Unwatched z.parts.alarmQ] [Unwatched z.parts.irqQ] [Unwatched z.parts.link] : GoodOut z (execRetrainEnd p ok s) := by
  unfold execRetrainEnd
  exact (goodOut_ite (goodOut_next h) (goodOut_ite (goodOut_ite (goodOut_next h) (by
    extract_lets +onlyGivenNames -merge -useContext -underBinder v1 v2
    have h1 : Good z v1 := (State.updPort_good (State.setObj_good h))
    exact (goodOut_ite (goodOut_next (State.newLinkUp_good h1)) (by
      extract_lets +onlyGivenNames -merge -useContext -underBinder v3
      have h3 : Good z v3 := (by
        unfold v3
        split
        · exact (State.setObj_good (State.setObj_good h1))
        · exact h1)
      exact (goodOut_next (State.replayFrom_good (State.updPort_good h3))))))) (goodOut_ite (goodOut_next h) (by
    extract_lets +onlyGivenNames -merge -useContext -underBinder v4 v5
    have h5 : Good z v5 := (State.updPort_good h)
    exact (goodOut_next (good_ite (State.portFailed_good h5) h5))))))

theorem execLaneDrop_good {p : PortId} {lane : Fin 8} {s : State} (h : Good z s) [Unwatched z.parts.objs] [Unwatched z.parts.alarmQ] [Unwatched z.parts.irqQ] [Unwatched z.parts.link] : GoodOut z (execLaneDrop p lane s) := by
  unfold execLaneDrop
  extract_lets +onlyGivenNames -merge -useContext -underBinder v1
  exact (goodOut_ite (goodOut_next h) (by
    extract_lets +onlyGivenNames -merge -useContext -underBinder v2 v3 v4
    have h2 : Good z v2 := (State.agentIrq_good (State.updPort_good h))
    have h4 : Good z v4 := (good_link h2 _)
    split
    · exact (goodOut_next (State.portFailed_good h4))
    · exact (goodOut_next (State.sendCtrl_good (State.updPort_good (State.startRetrain_good h4))))))

theorem execLaneLossOfLock_good {p : PortId} {_lane : Fin 8} {s : State} (h : Good z s) [Unwatched z.parts.objs] [Unwatched z.parts.irqQ] [Unwatched z.parts.link] : GoodOut z (execLaneLossOfLock p _lane s) := by
  unfold execLaneLossOfLock; exact (goodOut_next (State.startRetrain_good h))

theorem execFlitReceive_good {p : PortId} {f : Flit} {rs : Bool} {s : State} (h : Good z s) [Unwatched z.parts.mem] [Unwatched z.parts.tregs] [Unwatched z.parts.objs] [Unwatched z.parts.win] [Unwatched z.parts.tiles] [Unwatched z.parts.basins] [Unwatched z.parts.alarmQ] [Unwatched z.parts.irqQ] [Unwatched z.parts.link] : GoodOut z (execFlitReceive p f rs s) := by
  unfold execFlitReceive; exact (goodOut_next (State.flitReceive_good h))

theorem execHeadFlit_good {p : PortId} {s : State} (h : Good z s) [Unwatched z.parts.objs] [Unwatched z.parts.alarmQ] [Unwatched z.parts.link] : GoodOut z (execHeadFlit p s) := by
  unfold execHeadFlit; exact (goodOut_next (State.headFlit_good h))

theorem execRowFlit_good {p : PortId} {s : State} (h : Good z s) [Unwatched z.parts.link] : GoodOut z (execRowFlit p s) := by
  unfold execRowFlit; exact (goodOut_next (State.rowFlit_good h))

theorem execBargeRowLand_good {p : PortId} {ch : BitVec 8} {s : State} (h : Good z s) [Unwatched z.parts.mem] [Unwatched z.parts.tregs] [Unwatched z.parts.objs] [Unwatched z.parts.win] [Unwatched z.parts.tiles] [Unwatched z.parts.basins] [Unwatched z.parts.link] : GoodOut z (execBargeRowLand p ch s) := by
  unfold execBargeRowLand; exact (goodOut_next (State.bargeRowLand_good h))

theorem execTailFlit_good {p : PortId} {s : State} (h : Good z s) [Unwatched z.parts.objs] [Unwatched z.parts.alarmQ] [Unwatched z.parts.link] : GoodOut z (execTailFlit p s) := by
  unfold execTailFlit; exact (goodOut_next (State.tailFlit_good h))

theorem execBargeCompletionSend_good {p : PortId} {ch : BitVec 8} {s : State} (h : Good z s) [Unwatched z.parts.mem] [Unwatched z.parts.tregs] [Unwatched z.parts.objs] [Unwatched z.parts.win] [Unwatched z.parts.tiles] [Unwatched z.parts.basins] [Unwatched z.parts.alarmQ] [Unwatched z.parts.link] : GoodOut z (execBargeCompletionSend p ch s) := by
  unfold execBargeCompletionSend; exact (goodOut_next (State.bargeComplete_good h))

theorem execCompletionFlit_good {p : PortId} {s : State} (h : Good z s) [Unwatched z.parts.mem] [Unwatched z.parts.tregs] [Unwatched z.parts.objs] [Unwatched z.parts.win] [Unwatched z.parts.tiles] [Unwatched z.parts.basins] [Unwatched z.parts.link] : GoodOut z (execCompletionFlit p s) := by
  unfold execCompletionFlit; exact (goodOut_next (State.completionFlit_good h))

theorem execBoundBargeRelease_good {p : PortId} {ch : BitVec 8} {s : State} (h : Good z s) [Unwatched z.parts.link] : GoodOut z (execBoundBargeRelease p ch s) := by
  unfold execBoundBargeRelease; exact (goodOut_next (State.boundRelease_good h))

theorem execDescriptorRead_good {p : PortId} {s : State} (h : Good z s) [Unwatched z.parts.mem] [Unwatched z.parts.tregs] [Unwatched z.parts.objs] [Unwatched z.parts.win] [Unwatched z.parts.tiles] [Unwatched z.parts.basins] [Unwatched z.parts.link] : GoodOut z (execDescriptorRead p s) := by
  unfold execDescriptorRead; exact (goodOut_next (State.descriptorRead_good h))

theorem execFlitGateRelease_good {p : PortId} {s : State} (h : Good z s) [Unwatched z.parts.mem] [Unwatched z.parts.tregs] [Unwatched z.parts.objs] [Unwatched z.parts.win] [Unwatched z.parts.tiles] [Unwatched z.parts.basins] [Unwatched z.parts.link] : GoodOut z (execFlitGateRelease p s) := by
  unfold execFlitGateRelease; exact (goodOut_next (State.flitRelease_good h))

theorem execAck_good {p : PortId} {body : BitVec 240} {s : State} (h : Good z s) [Unwatched z.parts.mem] [Unwatched z.parts.tregs] [Unwatched z.parts.objs] [Unwatched z.parts.win] [Unwatched z.parts.tiles] [Unwatched z.parts.basins] [Unwatched z.parts.alarmQ] [Unwatched z.parts.irqQ] [Unwatched z.parts.link] : GoodOut z (execAck p body s) := by
  unfold execAck; exact (goodOut_next (State.ctrlIn_good h))

theorem execNak_good {p : PortId} {body : BitVec 240} {s : State} (h : Good z s) [Unwatched z.parts.mem] [Unwatched z.parts.tregs] [Unwatched z.parts.objs] [Unwatched z.parts.win] [Unwatched z.parts.tiles] [Unwatched z.parts.basins] [Unwatched z.parts.alarmQ] [Unwatched z.parts.irqQ] [Unwatched z.parts.link] : GoodOut z (execNak p body s) := by
  unfold execNak; exact (goodOut_next (State.ctrlIn_good h))

theorem execCredit_good {p : PortId} {body : BitVec 240} {s : State} (h : Good z s) [Unwatched z.parts.mem] [Unwatched z.parts.tregs] [Unwatched z.parts.objs] [Unwatched z.parts.win] [Unwatched z.parts.tiles] [Unwatched z.parts.basins] [Unwatched z.parts.alarmQ] [Unwatched z.parts.irqQ] [Unwatched z.parts.link] : GoodOut z (execCredit p body s) := by
  unfold execCredit; exact (goodOut_next (State.ctrlIn_good h))

theorem execHello_good {p : PortId} {body : BitVec 240} {s : State} (h : Good z s) [Unwatched z.parts.mem] [Unwatched z.parts.tregs] [Unwatched z.parts.objs] [Unwatched z.parts.win] [Unwatched z.parts.tiles] [Unwatched z.parts.basins] [Unwatched z.parts.alarmQ] [Unwatched z.parts.irqQ] [Unwatched z.parts.link] : GoodOut z (execHello p body s) := by
  unfold execHello; exact (goodOut_next (State.ctrlIn_good h))

theorem execSync_good {p : PortId} {body : BitVec 240} {s : State} (h : Good z s) [Unwatched z.parts.mem] [Unwatched z.parts.tregs] [Unwatched z.parts.objs] [Unwatched z.parts.win] [Unwatched z.parts.tiles] [Unwatched z.parts.basins] [Unwatched z.parts.alarmQ] [Unwatched z.parts.irqQ] [Unwatched z.parts.link] : GoodOut z (execSync p body s) := by
  unfold execSync; exact (goodOut_next (State.ctrlIn_good h))

theorem execMode_good {p : PortId} {body : BitVec 240} {s : State} (h : Good z s) [Unwatched z.parts.mem] [Unwatched z.parts.tregs] [Unwatched z.parts.objs] [Unwatched z.parts.win] [Unwatched z.parts.tiles] [Unwatched z.parts.basins] [Unwatched z.parts.alarmQ] [Unwatched z.parts.irqQ] [Unwatched z.parts.link] : GoodOut z (execMode p body s) := by
  unfold execMode; exact (goodOut_next (State.ctrlIn_good h))

theorem execCtrlRepeat_good {p : PortId} {s : State} (h : Good z s) [Unwatched z.parts.link] : GoodOut z (execCtrlRepeat p s) := by
  unfold execCtrlRepeat
  extract_lets +onlyGivenNames -merge -useContext -underBinder v1
  exact (goodOut_ite (goodOut_next h) (goodOut_ite (goodOut_next (State.sendCtrl_good h)) (goodOut_ite (goodOut_next (State.sendSync_good h)) (goodOut_ite (by
    extract_lets +onlyGivenNames -merge -useContext -underBinder v2
    exact (goodOut_next (State.sendCtrl_good h))) (goodOut_next h)))))

theorem execAckSend_good {p : PortId} {s : State} (h : Good z s) [Unwatched z.parts.link] : GoodOut z (execAckSend p s) := by
  unfold execAckSend
  extract_lets +onlyGivenNames -merge -useContext -underBinder v1
  exact (goodOut_ite (goodOut_next (State.sendCtrl_good (State.updPort_good h))) (goodOut_next h))

theorem execAckTimeout_good {p : PortId} {s : State} (h : Good z s) [Unwatched z.parts.objs] [Unwatched z.parts.win] [Unwatched z.parts.irqQ] [Unwatched z.parts.link] : GoodOut z (execAckTimeout p s) := by
  unfold execAckTimeout
  extract_lets +onlyGivenNames -merge -useContext -underBinder v1
  exact (goodOut_ite (goodOut_next (State.replayFrom_good h)) (goodOut_next h))

theorem State.channelSeqWrite_good {s : State} {sub : Nat} {v : Nat} (h : Good z s) [Unwatched z.parts.objs] [Unwatched z.parts.irqQ] [Unwatched z.parts.link] [Unwatched z.parts.srv] : Good z (State.channelSeqWrite s sub v) := by
  unfold State.channelSeqWrite
  extract_lets +onlyGivenNames -merge -useContext -underBinder v1 v2 v3 v4 v5
  exact (good_ite h (good_ite (State.logClamp_good h) (State.updPort_good h)))

theorem execChannelSeqWrite_good {sub : BitVec 8} {val : Word32} {s : State} (h : Good z s) [Unwatched z.parts.objs] [Unwatched z.parts.irqQ] [Unwatched z.parts.link] [Unwatched z.parts.srv] : GoodOut z (execChannelSeqWrite sub val s) := by
  unfold execChannelSeqWrite; exact (goodOut_next (State.channelSeqWrite_good h))

theorem execLinkRefLost_good {s : State} (h : Good z s) [Unwatched z.parts.objs] [Unwatched z.parts.alarmQ] [Unwatched z.parts.irqQ] [Unwatched z.parts.link] : GoodOut z (execLinkRefLost s) := by
  unfold execLinkRefLost
  exact (goodOut_ite (goodOut_next h) (by
    extract_lets +onlyGivenNames -merge -useContext -underBinder v1 v2
    have h2 : Good z v2 := (State.agentAlarm_good (good_link h _))
    exact (goodOut_next (good_foldl (fun _ _ h3 => (State.startRetrain_good h3)) _ h2))))

theorem execLinkRefReturn_good {s : State} (h : Good z s) [Unwatched z.parts.objs] [Unwatched z.parts.alarmQ] [Unwatched z.parts.link] : GoodOut z (execLinkRefReturn s) := by
  unfold execLinkRefReturn
  exact (goodOut_ite (by
    extract_lets +onlyGivenNames -merge -useContext -underBinder v1 v2
    have h2 : Good z v2 := (State.agentAlarm_good (good_link h _))
    exact (goodOut_next (good_foldl (fun _ _ h3 => (good_ite (State.beginAttempt_good h3) h3)) _ h2))) (goodOut_next h))

theorem execCageMediumRemoved_good {cage : Fin 16} {s : State} (h : Good z s) [Unwatched z.parts.objs] [Unwatched z.parts.irqQ] [Unwatched z.parts.link] : GoodOut z (execCageMediumRemoved cage s) := by
  unfold execCageMediumRemoved
  extract_lets +onlyGivenNames -merge -useContext -underBinder v1 v2
  have h2 : Good z v2 := (good_link h _)
  exact (goodOut_next (good_foldl (fun _ _ h3 => (State.startRetrain_good h3)) _ h2))

theorem execCageMediumInserted_good {cage : Fin 16} {s : State} (h : Good z s) [Unwatched z.parts.objs] [Unwatched z.parts.link] : GoodOut z (execCageMediumInserted cage s) := by
  unfold execCageMediumInserted
  extract_lets +onlyGivenNames -merge -useContext -underBinder v1 v2
  have h2 : Good z v2 := (good_link h _)
  exact (goodOut_next (good_foldl (fun _ _ h3 => (good_ite (State.portEnable_good h3) h3)) _ h2))

theorem execCagePower_good {cage : Fin 16} {s : State} (h : Good z s) [Unwatched z.parts.objs] [Unwatched z.parts.irqQ] [Unwatched z.parts.link] : GoodOut z (execCagePower cage s) := by
  unfold execCagePower
  extract_lets +onlyGivenNames -merge -useContext -underBinder v1 v2
  have h2 : Good z v2 := (good_link h _)
  exact (goodOut_next (good_foldl (fun _ _ h3 => (State.startRetrain_good h3)) _ (State.agentIrq_good h2)))

theorem State.setpoints_good {s : State} {a : Option Nat} {c : Option Nat} (h : Good z s) [Unwatched z.parts.objs] [Unwatched z.parts.srv] : Good z (State.setpoints s a c) := by
  unfold State.setpoints
  extract_lets +onlyGivenNames -merge -useContext -underBinder v1 v2 v3
  have h3 : Good z v3 := (by
    unfold v3
    split
    · exact (State.setObj_good h)
    · exact h)
  exact (good_ite (by
    extract_lets +onlyGivenNames -merge -useContext -underBinder v4 v5 v6
    have h6 : Good z v6 := (good_srv h3 _)
    clear_value v4
    split
    · exact (State.setObj_good h6)
    · exact h6) (by
    clear_value v2
    split
    · exact (good_srv h3 _)
    · exact h3))

theorem State.setpointsLost_good {s : State} (h : Good z s) [Unwatched z.parts.irqQ] [Unwatched z.parts.srv] : Good z (State.setpointsLost s) := by
  unfold State.setpointsLost; exact (good_ite (State.agentIrq_good (good_srv h _)) h)

theorem State.clearClamps_good {s : State} (h : Good z s) [Unwatched z.parts.objs] [Unwatched z.parts.srv] : Good z (State.clearClamps s) := by
  unfold State.clearClamps; exact (State.setObj_good (good_srv h _))

theorem State.clearStatus_good {s : State} {v : Nat} (h : Good z s) [Unwatched z.parts.objs] : Good z (State.clearStatus s v) := by
  unfold State.clearStatus; exact (State.setObj_good h)

theorem State.resetObj_good {s : State} {level : Nat} (h : Good z s) [Unwatched z.parts.tregs] [Unwatched z.parts.objs] [Unwatched z.parts.tiles] [Unwatched z.parts.irqQ] [Unwatched z.parts.srv] [Unwatched z.parts.boot] : Good z (State.resetObj s level) := by
  unfold State.resetObj
  extract_lets +onlyGivenNames -merge -useContext -underBinder v1 v2 v3 v4
  have h1 : Good z v1 := (State.setObj_good h)
  split
  · exact (good_ite (State.askResetTile_good h1) (State.refuseReset_good h1))
  · exact (good_ite (State.askResetBerth_good h1) (State.refuseReset_good h1))
  · exact (State.askResetBasin_good h1)
  · exact (State.askResetDevice_good h1)

theorem State.serviceObj_good {s : State} {cmd : Nat} (h : Good z s) [Unwatched z.parts.mem] [Unwatched z.parts.tregs] [Unwatched z.parts.objs] [Unwatched z.parts.bar0] [Unwatched z.parts.win] [Unwatched z.parts.tiles] [Unwatched z.parts.basins] [Unwatched z.parts.hubs] [Unwatched z.parts.seams] [Unwatched z.parts.alarmQ] [Unwatched z.parts.irqQ] [Unwatched z.parts.agentRsp] [Unwatched z.parts.link] [Unwatched z.parts.host] [Unwatched z.parts.srv] [Unwatched z.parts.keepers] [Unwatched z.parts.boot] [Unwatched z.parts.power] [Unwatched z.parts.cellar] [Unwatched z.parts.upd] [Unwatched z.parts.dbg] : Good z (State.serviceObj s cmd) := by
  unfold State.serviceObj
  extract_lets +onlyGivenNames -merge -useContext -underBinder v1 v2
  have h1 : Good z v1 := (State.setObj_good h)
  split
  · exact (State.removeEntry_good h1)
  · exact (good_ite (State.refuseService_good h1) (State.bringUp_good h1))
  · exact (good_ite (State.refuseService_good h1) (State.powerDown_good h1))
  · exact (State.cancelRemoval_good h1)
  · exact h1

theorem State.updateObj_good {s : State} {cmd : Nat} (h : Good z s) [Unwatched z.parts.tregs] [Unwatched z.parts.objs] [Unwatched z.parts.bar0] [Unwatched z.parts.tiles] [Unwatched z.parts.irqQ] [Unwatched z.parts.link] [Unwatched z.parts.srv] [Unwatched z.parts.keepers] [Unwatched z.parts.power] [Unwatched z.parts.upd] : Good z (State.updateObj s cmd) := by
  unfold State.updateObj
  split
  · exact (State.updateCommand_good h)
  · exact (State.updateCommand_good h)
  · exact (State.updateCancel_good h)
  · exact (State.lkHandover_good h)
  · exact (State.setObj_good h)

theorem State.pauseWithdraw_good {s : State} {b : Nat} (h : Good z s) [Unwatched z.parts.objs] [Unwatched z.parts.basins] : Good z (State.pauseWithdraw s b) := by
  unfold State.pauseWithdraw; exact (State.updBasin_good (State.setObj_good h))

theorem State.applyEntry_good {s : State} {i : Nat} {sub : Nat} {v : Nat} (h : Good z s) [Unwatched z.parts.mem] [Unwatched z.parts.tregs] [Unwatched z.parts.objs] [Unwatched z.parts.bar0] [Unwatched z.parts.win] [Unwatched z.parts.tiles] [Unwatched z.parts.basins] [Unwatched z.parts.hubs] [Unwatched z.parts.seams] [Unwatched z.parts.alarmQ] [Unwatched z.parts.irqQ] [Unwatched z.parts.agentRsp] [Unwatched z.parts.link] [Unwatched z.parts.host] [Unwatched z.parts.srv] [Unwatched z.parts.keepers] [Unwatched z.parts.boot] [Unwatched z.parts.power] [Unwatched z.parts.cellar] [Unwatched z.parts.upd] [Unwatched z.parts.dbg] : Good z (State.applyEntry s i sub v) := by
  unfold State.applyEntry
  exact (good_ite (by
    split
    · exact (State.powerUp_good h)
    · exact (State.powerDownPound_good h)
    · exact (State.setObj_good h)) (good_ite (State.portEnable_good h) (good_ite (State.channelSeqWrite_good h) (good_ite (good_ite (State.pauseRequest_good h) (State.pauseWithdraw_good h)) (good_ite (good_ite h (State.askSnapshot_good h)) (good_ite (good_ite h (State.askRestore_good h)) (good_ite (by
    split
    · exact (State.basinDefine_good h)
    · exact (State.basinRemove_good h)
    · exact (State.setObj_good h)) (good_ite (State.resetObj_good h) (good_ite (State.updateObj_good h) (good_ite (State.captureArm_good h) (good_ite (State.bankArm_good h) (good_ite (State.setRegN_good (State.setObj_good h)) (good_ite (State.hsSelect_good (State.setObj_good h)) (good_ite (good_ite (State.setObj_good (good_dbg h _)) h) (good_ite (State.serviceObj_good h) (good_ite (State.serviceUnlock_good h) (good_ite (State.clearStatus_good h) (good_ite (good_ite (State.clearClamps_good h) h) (good_ite (State.setpoints_good h) (good_ite (State.setpoints_good h) (State.setObj_good h)))))))))))))))))))))

theorem State.issueBatch_good {s : State} {b : Nat} {entries : List (Nat × Nat)} {first : Bool} (h : Good z s) [Unwatched z.parts.srv] : Good z (State.issueBatch s b entries first) := by
  unfold State.issueBatch
  extract_lets +onlyGivenNames -merge -useContext -underBinder v1
  have h1 : Good z v1 := (State.stageBatch_good h)
  exact (good_ite (by
    split
    · extract_lets +onlyGivenNames -merge -useContext -underBinder v2 v3
      exact (good_srv h1 _)
    · exact h1) h1)

theorem State.logEntry_good {s : State} {i : Nat} {sub : Nat} {v : Nat} {c : Nat} {lock : Nat} {basin : Option Nat} (h : Good z s) [Unwatched z.parts.objs] [Unwatched z.parts.irqQ] [Unwatched z.parts.srv] : Good z (State.logEntry s i sub v c lock basin) := by
  unfold State.logEntry; exact (good_ite h (State.clampEntry_good h))

theorem State.writeEntry_good {s : State} {i : Nat} {sub : Nat} {v : Nat} {pairs : List (Nat × Nat)} {r : ObjDesc} (h : Good z s) [Unwatched z.parts.mem] [Unwatched z.parts.tregs] [Unwatched z.parts.objs] [Unwatched z.parts.bar0] [Unwatched z.parts.win] [Unwatched z.parts.tiles] [Unwatched z.parts.basins] [Unwatched z.parts.hubs] [Unwatched z.parts.seams] [Unwatched z.parts.alarmQ] [Unwatched z.parts.irqQ] [Unwatched z.parts.agentRsp] [Unwatched z.parts.link] [Unwatched z.parts.host] [Unwatched z.parts.srv] [Unwatched z.parts.keepers] [Unwatched z.parts.boot] [Unwatched z.parts.power] [Unwatched z.parts.cellar] [Unwatched z.parts.upd] [Unwatched z.parts.dbg] : GoodFst z (State.writeEntry s i sub v pairs r) := by
  unfold State.writeEntry
  extract_lets +onlyGivenNames -merge -useContext -underBinder v1 v2
  exact (goodFst_ite (goodFst_ite (by
    extract_lets +onlyGivenNames -merge -useContext -underBinder v3
    exact (goodFst_mk (State.clampEntry_good h))) (by
    split
    · exact (goodFst_mk (State.logEntry_good (State.applyObj_good h)))
    · exact (goodFst_mk (State.logEntry_good h)))) (by
    extract_lets +onlyGivenNames -merge -useContext -underBinder v4
    exact (goodFst_mk (State.logEntry_good (State.applyEntry_good h)))))

theorem State.writeEntries_good {i : Nat} {pairs : List (Nat × Nat)} {l : List (Nat × Nat)} {s : State}
    {acc : List (Nat × Nat × Nat)} (h : Good z s) [Unwatched z.parts.mem] [Unwatched z.parts.tregs] [Unwatched z.parts.objs] [Unwatched z.parts.bar0] [Unwatched z.parts.win] [Unwatched z.parts.tiles] [Unwatched z.parts.basins] [Unwatched z.parts.hubs] [Unwatched z.parts.seams] [Unwatched z.parts.alarmQ] [Unwatched z.parts.irqQ] [Unwatched z.parts.agentRsp] [Unwatched z.parts.link] [Unwatched z.parts.host] [Unwatched z.parts.srv] [Unwatched z.parts.keepers] [Unwatched z.parts.boot] [Unwatched z.parts.power] [Unwatched z.parts.cellar] [Unwatched z.parts.upd] [Unwatched z.parts.dbg] : GoodFst z (State.writeEntries s i pairs l acc) := by
  induction l generalizing s acc with
  | nil => exact goodFst_mk h
  | cons e rest ih =>
    obtain ⟨j, v⟩ := e
    unfold State.writeEntries
    split
    · exact ih h
    · exact ih (goodFst_get (State.writeEntry_good h))

theorem State.issueAll_good {s : State} {l : List (Nat × Nat × Nat)} (h : Good z s) [Unwatched z.parts.srv] : Good z (State.issueAll s l) := by
  unfold State.issueAll; exact (good_foldl (fun _ _ h1 => (State.issueBatch_good h1)) _ h)

theorem State.fromSrc_good {s : State} {src : Nat} (h : Good z s) [Unwatched z.parts.srv] : Good z (State.fromSrc s src) := by
  unfold State.fromSrc; exact (good_srv h _)

theorem State.download_good {s : State} {i : Nat} {sub : Nat} {data : List Nat} {src : Nat} (h : Good z s) [Unwatched z.parts.mem] [Unwatched z.parts.tregs] [Unwatched z.parts.objs] [Unwatched z.parts.bar0] [Unwatched z.parts.win] [Unwatched z.parts.tiles] [Unwatched z.parts.basins] [Unwatched z.parts.hubs] [Unwatched z.parts.seams] [Unwatched z.parts.alarmQ] [Unwatched z.parts.irqQ] [Unwatched z.parts.agentRsp] [Unwatched z.parts.link] [Unwatched z.parts.host] [Unwatched z.parts.srv] [Unwatched z.parts.keepers] [Unwatched z.parts.boot] [Unwatched z.parts.power] [Unwatched z.parts.cellar] [Unwatched z.parts.upd] [Unwatched z.parts.dbg] : GoodSnd z (State.download s i sub data src) := by
  unfold State.download
  extract_lets +onlyGivenNames -merge -useContext -underBinder v1
  exact (goodSnd_ite (goodSnd_mk h) (by
    extract_lets +onlyGivenNames -merge -useContext -underBinder v2
    split
    · exact (goodSnd_mk (State.fromSrc_good (State.issueAll_good (by refine good_fst (by assumption) ?_; exact (State.writeEntries_good (State.fromSrc_good h))))))))

theorem State.downloadAll_good {s : State} {i : Nat} {zero : Bool} {data : List (List Nat)} {src : Nat} (h : Good z s) [Unwatched z.parts.mem] [Unwatched z.parts.tregs] [Unwatched z.parts.objs] [Unwatched z.parts.bar0] [Unwatched z.parts.win] [Unwatched z.parts.tiles] [Unwatched z.parts.basins] [Unwatched z.parts.hubs] [Unwatched z.parts.seams] [Unwatched z.parts.alarmQ] [Unwatched z.parts.irqQ] [Unwatched z.parts.agentRsp] [Unwatched z.parts.link] [Unwatched z.parts.host] [Unwatched z.parts.srv] [Unwatched z.parts.keepers] [Unwatched z.parts.boot] [Unwatched z.parts.power] [Unwatched z.parts.cellar] [Unwatched z.parts.upd] [Unwatched z.parts.dbg] : GoodSnd z (State.downloadAll s i zero data src) := by
  unfold State.downloadAll
  extract_lets +onlyGivenNames -merge -useContext -underBinder v1
  exact (goodSnd_ite (goodSnd_mk h) (by
    extract_lets +onlyGivenNames -merge -useContext -underBinder v2
    split
    · exact (goodSnd_mk (State.fromSrc_good (State.issueAll_good (by refine good_fst (by assumption) ?_; exact (State.writeEntries_good (State.fromSrc_good h))))))))

end Sys2Proof.Machine
end

