-- ==== Sys2Proof/Laws/KeepCommands.lean ====
section
/-! SUPPORT. The operations of MailOps, EcatOps, HostCmd, ImageOps, KeeperOps, Lock, Moves, Power, Recovery, Resets, Tiller, Vector, WindowOps keep the queue, the canonical form, and every
part of the device that their premises do not name. -/

namespace Sys2Proof.Machine

open Sys2Proof

variable {z : Watch}

theorem State.mbDone_good {s : State} {abort : Nat} {data : Option (List Nat)} (h : Good z s) [Unwatched z.parts.bar0] [Unwatched z.parts.host] : Good z (State.mbDone s abort data) := by
  unfold State.mbDone
  extract_lets +onlyGivenNames -merge -useContext -underBinder v1 v2
  have h1 : Good z v1 := (State.setBar_good (State.setBar_good h))
  have h2 : Good z v2 := (by
    unfold v2
    split
    · exact (good_host h1 _)
    · exact h1)
  exact (State.signal_good h2)

theorem State.mbServe_good {s : State} (h : Good z s) [Unwatched z.parts.mem] [Unwatched z.parts.tregs] [Unwatched z.parts.objs] [Unwatched z.parts.bar0] [Unwatched z.parts.win] [Unwatched z.parts.tiles] [Unwatched z.parts.basins] [Unwatched z.parts.hubs] [Unwatched z.parts.seams] [Unwatched z.parts.alarmQ] [Unwatched z.parts.irqQ] [Unwatched z.parts.agentRsp] [Unwatched z.parts.link] [Unwatched z.parts.host] [Unwatched z.parts.srv] [Unwatched z.parts.keepers] [Unwatched z.parts.boot] [Unwatched z.parts.power] [Unwatched z.parts.cellar] [Unwatched z.parts.upd] [Unwatched z.parts.dbg] : Good z (State.mbServe s) := by
  unfold State.mbServe
  exact (good_ite h (by
    extract_lets +onlyGivenNames -merge -useContext -underBinder v1 v2 v3
    exact (good_ite (State.mbDone_good h) (good_ite (by
      extract_lets +onlyGivenNames -merge -useContext -underBinder v4
      have h4 : GoodSnd z v4 := (goodSnd_ite (State.downloadAll_good h) (State.download_good h))
      exact (State.mbDone_good (goodSnd_get h4))) (by
      extract_lets +onlyGivenNames -merge -useContext -underBinder v5
      have h5 : GoodSnd z v5 := (goodSnd_ite (State.uploadAll_good h) (State.upload_good h))
      exact (State.mbDone_good (goodSnd_get h5)))))))

theorem State.mbCtl_good {s : State} {ctl : Nat} (h : Good z s) [Unwatched z.parts.mem] [Unwatched z.parts.tregs] [Unwatched z.parts.objs] [Unwatched z.parts.bar0] [Unwatched z.parts.win] [Unwatched z.parts.tiles] [Unwatched z.parts.basins] [Unwatched z.parts.hubs] [Unwatched z.parts.seams] [Unwatched z.parts.alarmQ] [Unwatched z.parts.irqQ] [Unwatched z.parts.agentRsp] [Unwatched z.parts.link] [Unwatched z.parts.host] [Unwatched z.parts.srv] [Unwatched z.parts.keepers] [Unwatched z.parts.boot] [Unwatched z.parts.power] [Unwatched z.parts.cellar] [Unwatched z.parts.upd] [Unwatched z.parts.dbg] : Good z (State.mbCtl s ctl) := by
  unfold State.mbCtl
  extract_lets +onlyGivenNames -merge -useContext -underBinder v1
  exact (good_ite (State.setBar_good h) (good_ite (State.setBar_good h) (State.mbServe_good (State.setBar_good (State.setBar_good h)))))

theorem State.mbAbort_good {s : State} (h : Good z s) [Unwatched z.parts.bar0] [Unwatched z.parts.host] : Good z (State.mbAbort s) := by
  unfold State.mbAbort; exact (good_ite (State.mbDone_good h) h)

theorem State.mbPlace_good {s : State} {k : Nat} {l : List Nat} (h : Good z s) [Unwatched z.parts.host] : Good z (State.mbPlace s k l) := by
  unfold State.mbPlace
  extract_lets +onlyGivenNames -merge -useContext -underBinder v1
  exact (good_host h _)

theorem State.ringAddr_good {s : State} {off : Nat} {v : Nat} (h : Good z s) [Unwatched z.parts.bar0] : Good z (State.ringAddr s off v) := by
  unfold State.ringAddr; exact (State.setBar_good (State.setBar_good h))

theorem State.queueWrite_good {s : State} {q_ : Nat} {o : Nat} {v : Nat} (h : Good z s) [Unwatched z.parts.objs] [Unwatched z.parts.bar0] [Unwatched z.parts.host] : Good z (State.queueWrite s q_ o v) := by
  unfold State.queueWrite
  extract_lets +onlyGivenNames -merge -useContext -underBinder v1
  split
  · exact (State.ringAddr_good h)
  · exact (State.ringAddr_good h)
  · exact (State.setBar_good h)
  · extract_lets +onlyGivenNames -merge -useContext -underBinder v2
    have h2 : Good z v2 := (good_ite (State.queueEnable_good h) (State.queueDisable_good h))
    exact (State.setBar_good h2)
  · exact (State.cqHead_good h)
  · exact (State.setBar_good h)
  · exact (State.setBar_good h)
  · exact h

theorem State.msixWrite_good {s : State} {off : Nat} {v : Nat} (h : Good z s) [Unwatched z.parts.bar0] [Unwatched z.parts.host] : Good z (State.msixWrite s off v) := by
  unfold State.msixWrite
  extract_lets +onlyGivenNames -merge -useContext -underBinder v1 v2
  have h2 : Good z v2 := (State.setBar_good h)
  exact (good_ite h2 (good_ite (good_host h2 _) (by
    extract_lets +onlyGivenNames -merge -useContext -underBinder v3 v4 v5
    have h5 : Good z v5 := (good_host h2 _)
    exact (good_ite (State.signal_good h5) h5))))

theorem State.barWrite_good {s : State} {off : Nat} {v : Nat} (h : Good z s) [Unwatched z.parts.mem] [Unwatched z.parts.tregs] [Unwatched z.parts.objs] [Unwatched z.parts.bar0] [Unwatched z.parts.win] [Unwatched z.parts.tiles] [Unwatched z.parts.basins] [Unwatched z.parts.hubs] [Unwatched z.parts.seams] [Unwatched z.parts.alarmQ] [Unwatched z.parts.irqQ] [Unwatched z.parts.agentRsp] [Unwatched z.parts.link] [Unwatched z.parts.host] [Unwatched z.parts.srv] [Unwatched z.parts.keepers] [Unwatched z.parts.boot] [Unwatched z.parts.power] [Unwatched z.parts.cellar] [Unwatched z.parts.upd] [Unwatched z.parts.dbg] : Good z (State.barWrite s off v) := by
  unfold State.barWrite; exact (good_ite (State.queueWrite_good h) (good_ite (State.queueWrite_good h) (good_ite (State.doorbell_good h) (good_ite (State.setBar_good h) (good_ite (State.setBar_good h) (good_ite (State.setBar_good h) (good_ite (State.mbCtl_good h) (good_ite (State.mbPlace_good h) (good_ite (State.msixWrite_good h) h)))))))))

theorem execMbWrite_good {ca : Bool} {s : State} (h : Good z s) [Unwatched z.parts.mem] [Unwatched z.parts.tregs] [Unwatched z.parts.objs] [Unwatched z.parts.bar0] [Unwatched z.parts.win] [Unwatched z.parts.tiles] [Unwatched z.parts.basins] [Unwatched z.parts.hubs] [Unwatched z.parts.seams] [Unwatched z.parts.alarmQ] [Unwatched z.parts.irqQ] [Unwatched z.parts.agentRsp] [Unwatched z.parts.link] [Unwatched z.parts.host] [Unwatched z.parts.srv] [Unwatched z.parts.keepers] [Unwatched z.parts.boot] [Unwatched z.parts.power] [Unwatched z.parts.cellar] [Unwatched z.parts.upd] [Unwatched z.parts.dbg] : GoodOut z (execMbWrite ca s) := by
  unfold execMbWrite; exact (goodOut_next (State.mbCtl_good h))

theorem execMbRead_good {ca : Bool} {s : State} (h : Good z s) [Unwatched z.parts.mem] [Unwatched z.parts.tregs] [Unwatched z.parts.objs] [Unwatched z.parts.bar0] [Unwatched z.parts.win] [Unwatched z.parts.tiles] [Unwatched z.parts.basins] [Unwatched z.parts.hubs] [Unwatched z.parts.seams] [Unwatched z.parts.alarmQ] [Unwatched z.parts.irqQ] [Unwatched z.parts.agentRsp] [Unwatched z.parts.link] [Unwatched z.parts.host] [Unwatched z.parts.srv] [Unwatched z.parts.keepers] [Unwatched z.parts.boot] [Unwatched z.parts.power] [Unwatched z.parts.cellar] [Unwatched z.parts.upd] [Unwatched z.parts.dbg] : GoodOut z (execMbRead ca s) := by
  unfold execMbRead; exact (goodOut_next (State.mbCtl_good h))

theorem State.alSet_good {s : State} {st : Nat} {code : Nat} (h : Good z s) [Unwatched z.parts.srv] : Good z (State.alSet s st code) := by
  unfold State.alSet; exact (good_srv h _)

theorem State.takeLayout_good {s : State} (h : Good z s) [Unwatched z.parts.srv] : Good z (State.takeLayout s) := by
  unfold State.takeLayout; exact (good_srv h _)

theorem State.alRequest_good {s : State} {st : Nat} {dcMet : Bool} (h : Good z s) [Unwatched z.parts.objs] [Unwatched z.parts.srv] : Good z (State.alRequest s st dcMet) := by
  unfold State.alRequest
  exact (good_ite h (good_ite (State.alSet_good h) (good_ite (State.alSet_good h) (good_ite (State.alSet_good h) (by
    extract_lets +onlyGivenNames -merge -useContext -underBinder v1 v2
    have h1 : Good z v1 := (good_ite (State.takeLayout_good h) h)
    have h2 : Good z v2 := (good_ite (State.setObj_good h1) h1)
    exact (State.alSet_good h2))))))

theorem State.answer_good {s : State} {r : SdoRsp} (h : Good z s) [Unwatched z.parts.srv] : Good z (State.answer s r) := by
  unfold State.answer; exact (good_srv h _)

theorem State.foeWrite_good {s : State} {name : List Nat} {password : Nat} {len : Nat} {sigOk : Bool} {img : UpdateImage} (h : Good z s) [Unwatched z.parts.srv] [Unwatched z.parts.upd] : Good z (State.foeWrite s name password len sigOk img) := by
  unfold State.foeWrite
  exact (good_ite h (by
    split
    · exact (State.answer_good h)
    · exact (good_ite (State.answer_good h) (good_ite (State.answer_good h) (good_ite (State.answer_good h) (good_ite (State.answer_good h) (good_ite (State.answer_good h) (State.answer_good (State.updUpd_good h)))))))))

theorem State.setObjs_good {s : State} {index : Nat} {l : List (Nat × Nat)} (h : Good z s) [Unwatched z.parts.objs] : Good z (State.setObjs s index l) := by
  unfold State.setObjs; exact (good_foldl (fun _ _ h1 => (State.setObj_good h1)) _ h)

theorem State.latchPower_good {s : State} (h : Good z s) [Unwatched z.parts.objs] : Good z (State.latchPower s) := by
  unfold State.latchPower
  extract_lets +onlyGivenNames -merge -useContext -underBinder v1 v2 v3 v4 v5 v6
  have h5 : Good z v5 := (State.setObjs_good h)
  have h6 : Good z v6 := (State.setObjs_good h5)
  exact (good_foldl (fun _ _ h7 => (by
      extract_lets +onlyGivenNames -merge -useContext -underBinder v8
      exact (State.setObj_good (State.setObj_good (State.setObj_good (State.setObj_good h7)))))) _ h6)

theorem State.latchRest_good {s : State} (h : Good z s) [Unwatched z.parts.objs] : Good z (State.latchRest s) := by
  unfold State.latchRest
  extract_lets +onlyGivenNames -merge -useContext -underBinder v1 v2 v3
  have h2 : Good z v2 := (State.setObjs_good (State.setObj_good h))
  have h3 : Good z v3 := (State.setObjs_good h2)
  exact (State.setObjs_good h3)

theorem State.latch_good {s : State} (h : Good z s) [Unwatched z.parts.objs] [Unwatched z.parts.srv] : Good z (State.latch s) := by
  unfold State.latch
  extract_lets +onlyGivenNames -merge -useContext -underBinder v1 v2
  have h1 : Good z v1 := (State.setObjs_good h)
  have h2 : Good z v2 := (State.latchRest_good (State.latchPower_good h1))
  exact (good_srv h2 _)

theorem State.rxPdo_good {s : State} {a : Nat} {c : Nat} (h : Good z s) [Unwatched z.parts.objs] [Unwatched z.parts.srv] : Good z (State.rxPdo s a c) := by
  unfold State.rxPdo; exact (good_ite h (good_ite (good_srv h _) (State.setpoints_good h)))

theorem State.syncEdge_good {s : State} (h : Good z s) [Unwatched z.parts.objs] [Unwatched z.parts.srv] : Good z (State.syncEdge s) := by
  unfold State.syncEdge
  exact (good_ite h (by
    extract_lets +onlyGivenNames -merge -useContext -underBinder v1 v2 v3
    have h1 : Good z v1 := (by
      unfold v1
      split
      · exact (State.setpoints_good h)
      · exact h)
    have h3 : Good z v3 := (good_srv h1 _)
    exact (State.latch_good h3)))

theorem State.syncError_good {s : State} (h : Good z s) [Unwatched z.parts.objs] [Unwatched z.parts.irqQ] [Unwatched z.parts.srv] : Good z (State.syncError s) := by
  unfold State.syncError
  exact (good_ite h (by
    extract_lets +onlyGivenNames -merge -useContext -underBinder v1 v2 v3 v4
    have h1 : Good z v1 := (State.bumpObj_good h)
    have h4 : Good z v4 := (good_srv h1 _)
    exact (good_ite h4 (by
      extract_lets +onlyGivenNames -merge -useContext -underBinder v5
      have h5 : Good z v5 := (State.setObj_good h4)
      exact (State.setpointsLost_good (good_ite (State.alSet_good h5) h5))))))

theorem execSdoDownload_good {i : BitVec 16} {sub : BitVec 8} {data : List Nat} {s : State} (h : Good z s) [Unwatched z.parts.mem] [Unwatched z.parts.tregs] [Unwatched z.parts.objs] [Unwatched z.parts.bar0] [Unwatched z.parts.win] [Unwatched z.parts.tiles] [Unwatched z.parts.basins] [Unwatched z.parts.hubs] [Unwatched z.parts.seams] [Unwatched z.parts.alarmQ] [Unwatched z.parts.irqQ] [Unwatched z.parts.agentRsp] [Unwatched z.parts.link] [Unwatched z.parts.host] [Unwatched z.parts.srv] [Unwatched z.parts.keepers] [Unwatched z.parts.boot] [Unwatched z.parts.power] [Unwatched z.parts.cellar] [Unwatched z.parts.upd] [Unwatched z.parts.dbg] : GoodOut z (execSdoDownload i sub data s) := by
  unfold execSdoDownload
  exact (goodOut_next (good_ite (by
    extract_lets +onlyGivenNames -merge -useContext -underBinder v1
    have h1 : GoodSnd z v1 := (State.download_good h)
    exact (State.answer_good (goodSnd_get h1))) h))

theorem execSdoUpload_good {i : BitVec 16} {sub : BitVec 8} {s : State} (h : Good z s) [Unwatched z.parts.srv] : GoodOut z (execSdoUpload i sub s) := by
  unfold execSdoUpload
  exact (goodOut_next (good_ite (by
    extract_lets +onlyGivenNames -merge -useContext -underBinder v1
    have h1 : GoodSnd z v1 := (State.upload_good h)
    exact (State.answer_good (goodSnd_get h1))) h))

theorem execSdoCompleteDownload_good {i : BitVec 16} {zero : Bool} {data : List (List Nat)} {s : State} (h : Good z s) [Unwatched z.parts.mem] [Unwatched z.parts.tregs] [Unwatched z.parts.objs] [Unwatched z.parts.bar0] [Unwatched z.parts.win] [Unwatched z.parts.tiles] [Unwatched z.parts.basins] [Unwatched z.parts.hubs] [Unwatched z.parts.seams] [Unwatched z.parts.alarmQ] [Unwatched z.parts.irqQ] [Unwatched z.parts.agentRsp] [Unwatched z.parts.link] [Unwatched z.parts.host] [Unwatched z.parts.srv] [Unwatched z.parts.keepers] [Unwatched z.parts.boot] [Unwatched z.parts.power] [Unwatched z.parts.cellar] [Unwatched z.parts.upd] [Unwatched z.parts.dbg] : GoodOut z (execSdoCompleteDownload i zero data s) := by
  unfold execSdoCompleteDownload
  exact (goodOut_next (good_ite (by
    extract_lets +onlyGivenNames -merge -useContext -underBinder v1
    have h1 : GoodSnd z v1 := (State.downloadAll_good h)
    exact (State.answer_good (goodSnd_get h1))) h))

theorem execSdoCompleteUpload_good {i : BitVec 16} {zero : Bool} {s : State} (h : Good z s) [Unwatched z.parts.srv] : GoodOut z (execSdoCompleteUpload i zero s) := by
  unfold execSdoCompleteUpload
  exact (goodOut_next (good_ite (by
    extract_lets +onlyGivenNames -merge -useContext -underBinder v1
    have h1 : GoodSnd z v1 := (State.uploadAll_good h)
    exact (State.answer_good (goodSnd_get h1))) h))

theorem execSdoInformation_good {i : BitVec 16} {sub : BitVec 8} {s : State} (h : Good z s) [Unwatched z.parts.srv] : GoodOut z (execSdoInformation i sub s) := by
  unfold execSdoInformation; exact (goodOut_next (good_ite (State.answer_good h) h))

theorem execFoeWrite_good {name : List Nat} {password : Nat} {len : Nat} {sigOk : Bool} {img : UpdateImage} {s : State} (h : Good z s) [Unwatched z.parts.srv] [Unwatched z.parts.upd] : GoodOut z (execFoeWrite name password len sigOk img s) := by
  unfold execFoeWrite; exact (goodOut_next (State.foeWrite_good h))

theorem execAlStateRequest_good {st : Nat} {dcMet : Bool} {s : State} (h : Good z s) [Unwatched z.parts.objs] [Unwatched z.parts.srv] : GoodOut z (execAlStateRequest st dcMet s) := by
  unfold execAlStateRequest; exact (goodOut_next (State.alRequest_good h))

theorem execRxpdo_good {a : Word64} {c : Word64} {s : State} (h : Good z s) [Unwatched z.parts.objs] [Unwatched z.parts.srv] : GoodOut z (execRxpdo a c s) := by
  unfold execRxpdo; exact (goodOut_next (State.rxPdo_good h))

theorem execSync0_good {s : State} (h : Good z s) [Unwatched z.parts.objs] [Unwatched z.parts.srv] : GoodOut z (execSync0 s) := by
  unfold execSync0; exact (goodOut_next (State.syncEdge_good h))

theorem execPdoLatch_good {s : State} (h : Good z s) [Unwatched z.parts.objs] [Unwatched z.parts.srv] : GoodOut z (execPdoLatch s) := by
  unfold execPdoLatch; exact (goodOut_next (good_ite (State.latch_good h) h))

theorem execSyncError_good {s : State} (h : Good z s) [Unwatched z.parts.objs] [Unwatched z.parts.irqQ] [Unwatched z.parts.srv] : GoodOut z (execSyncError s) := by
  unfold execSyncError; exact (goodOut_next (State.syncError_good h))

theorem execSetpointTimeout_good {s : State} (h : Good z s) [Unwatched z.parts.irqQ] [Unwatched z.parts.srv] : GoodOut z (execSetpointTimeout s) := by
  unfold execSetpointTimeout; exact (goodOut_next (State.setpointsLost_good h))

theorem execClampLogClear_good {s : State} (h : Good z s) [Unwatched z.parts.objs] [Unwatched z.parts.srv] : GoodOut z (execClampLogClear s) := by
  unfold execClampLogClear; exact (goodOut_next (State.clearClamps_good h))

theorem execStatusClear_good {bits : Word32} {s : State} (h : Good z s) [Unwatched z.parts.objs] : GoodOut z (execStatusClear bits s) := by
  unfold execStatusClear; exact (goodOut_next (State.clearStatus_good h))

theorem execDoorbell_good {q_ : Fin 129} {val : Word32} {s : State} (h : Good z s) [Unwatched z.parts.bar0] [Unwatched z.parts.host] : GoodOut z (execDoorbell q_ val s) := by
  unfold execDoorbell; exact (goodOut_next (State.doorbell_good h))

theorem execQueueEnable_good {q_ : Fin 129} {s : State} (h : Good z s) [Unwatched z.parts.bar0] [Unwatched z.parts.host] : GoodOut z (execQueueEnable q_ s) := by
  unfold execQueueEnable; exact (goodOut_next (State.queueEnable_good h))

theorem execQueueDisable_good {q_ : Fin 129} {s : State} (h : Good z s) [Unwatched z.parts.objs] [Unwatched z.parts.bar0] [Unwatched z.parts.host] : GoodOut z (execQueueDisable q_ s) := by
  unfold execQueueDisable; exact (goodOut_next (State.queueDisable_good h))

theorem execQueueCoalesceSet_good {q_ : Fin 129} {on : Bool} {s : State} (h : Good z s) [Unwatched z.parts.bar0] : GoodOut z (execQueueCoalesceSet q_ on s) := by
  unfold execQueueCoalesceSet
  extract_lets +onlyGivenNames -merge -useContext -underBinder v1
  exact (goodOut_next (State.setBar_good h))

theorem execCqHeadWrite_good {q_ : Fin 129} {val : Word32} {s : State} (h : Good z s) [Unwatched z.parts.objs] [Unwatched z.parts.bar0] [Unwatched z.parts.host] : GoodOut z (execCqHeadWrite q_ val s) := by
  unfold execCqHeadWrite; exact (goodOut_next (State.cqHead_good h))

theorem execData_good {q_ : Fin 128} {entry : BitVec 512} {s : State} (h : Good z s) [Unwatched z.parts.objs] [Unwatched z.parts.bar0] [Unwatched z.parts.host] : GoodOut z (execData q_ entry s) := by
  unfold execData; exact (goodOut_next (State.dataEntry_good h))

theorem execHostRowLand_good {slot : Fin 128} {data : Row} {s : State} (h : Good z s) [Unwatched z.parts.mem] [Unwatched z.parts.tregs] [Unwatched z.parts.objs] [Unwatched z.parts.win] [Unwatched z.parts.tiles] [Unwatched z.parts.basins] [Unwatched z.parts.host] : GoodOut z (execHostRowLand slot data s) := by
  unfold execHostRowLand; exact (goodOut_next (State.hostRowLand_good h))

theorem execHostReadError_good {slot : Fin 128} {s : State} (h : Good z s) [Unwatched z.parts.objs] [Unwatched z.parts.host] : GoodOut z (execHostReadError slot s) := by
  unfold execHostReadError; exact (goodOut_next (State.hostReadError_good h))

theorem execHostDescriptorRead_good {h_ : Fin 4} {s : State} (h : Good z s) [Unwatched z.parts.mem] [Unwatched z.parts.tregs] [Unwatched z.parts.objs] [Unwatched z.parts.win] [Unwatched z.parts.tiles] [Unwatched z.parts.basins] [Unwatched z.parts.host] : GoodOut z (execHostDescriptorRead h_ s) := by
  unfold execHostDescriptorRead; exact (goodOut_next (State.hostEngine_good h))

theorem execCoalTimeout_good {q_ : Fin 129} {s : State} (h : Good z s) [Unwatched z.parts.host] : GoodOut z (execCoalTimeout q_ s) := by
  unfold execCoalTimeout; exact (goodOut_ite (goodOut_next h) (goodOut_next (State.signal_good (State.updQueue_good h))))

theorem execFunctionLevelReset_good {s : State} (h : Good z s) [Unwatched z.parts.bar0] [Unwatched z.parts.host] : GoodOut z (execFunctionLevelReset s) := by
  unfold execFunctionLevelReset; exact (goodOut_next (State.flr_good h))

theorem execPerstAssert_good {s : State} (h : Good z s) [Unwatched z.parts.objs] [Unwatched z.parts.bar0] [Unwatched z.parts.host] : GoodOut z (execPerstAssert s) := by
  unfold execPerstAssert
  extract_lets +onlyGivenNames -merge -useContext -underBinder v1
  have h1 : Good z v1 := (State.endpointReset_good h)
  exact (goodOut_next (good_host h1 _))

theorem execPcieReferenceLost_good {s : State} (h : Good z s) [Unwatched z.parts.objs] [Unwatched z.parts.bar0] [Unwatched z.parts.host] : GoodOut z (execPcieReferenceLost s) := by
  unfold execPcieReferenceLost
  extract_lets +onlyGivenNames -merge -useContext -underBinder v1
  have h1 : Good z v1 := (State.endpointReset_good h)
  exact (goodOut_next (good_host h1 _))

theorem execPcieLinkTrain_good {speed : Fin 6} {width : Fin 5} {s : State} (h : Good z s) [Unwatched z.parts.free] [Unwatched z.parts.objs] [Unwatched z.parts.host] : GoodOut z (execPcieLinkTrain speed width s) := by
  unfold execPcieLinkTrain
  split
  · extract_lets +onlyGivenNames -merge -useContext -underBinder v1
    have h1 : Good z v1 := (State.setObj_good (by refine good_snd (by assumption) ?_; exact (goodSnd_ite (State.fresh_good h) (goodSnd_mk h))))
    exact (goodOut_next (good_host h1 _))

theorem State.rejectBlock_good {s : State} {b : Nat} {off : Nat} {reason : Nat} (h : Good z s) [Unwatched z.parts.objs] : Good z (State.rejectBlock s b off reason) := by
  unfold State.rejectBlock; exact (State.setObj_good (State.setObj_good (State.setObj_good (State.setObj_good h))))

theorem State.refuseRecord_good {s : State} {i : Nat} {j : Nat} {v : Nat} (h : Good z s) [Unwatched z.parts.objs] [Unwatched z.parts.irqQ] [Unwatched z.parts.srv] : Good z (State.refuseRecord s i j v) := by
  unfold State.refuseRecord; exact (State.refuseWrite_good h)

theorem State.blockValue_good {s : State} {i : Nat} {j : Nat} {data : List Nat} {pairs : List (Nat × Nat)} (h : Good z s) [Unwatched z.parts.mem] [Unwatched z.parts.tregs] [Unwatched z.parts.objs] [Unwatched z.parts.bar0] [Unwatched z.parts.win] [Unwatched z.parts.tiles] [Unwatched z.parts.basins] [Unwatched z.parts.hubs] [Unwatched z.parts.seams] [Unwatched z.parts.alarmQ] [Unwatched z.parts.irqQ] [Unwatched z.parts.agentRsp] [Unwatched z.parts.link] [Unwatched z.parts.host] [Unwatched z.parts.srv] [Unwatched z.parts.keepers] [Unwatched z.parts.boot] [Unwatched z.parts.power] [Unwatched z.parts.cellar] [Unwatched z.parts.upd] [Unwatched z.parts.dbg] : GoodFst z (State.blockValue s i j data pairs) := by
  unfold State.blockValue
  split
  · exact (goodFst_mk h)
  · extract_lets +onlyGivenNames -merge -useContext -underBinder v1
    exact (goodFst_ite (goodFst_mk (good_ite h (State.refuseRecord_good h))) (goodFst_ite (goodFst_mk h) (State.writeEntry_good h)))

theorem State.blockValues_good {i : Nat} {pairs : List (Nat × Nat)} {l : List (Nat × List Nat)} {s : State}
    {acc : List (Nat × Nat × Nat)} (h : Good z s) [Unwatched z.parts.mem] [Unwatched z.parts.tregs] [Unwatched z.parts.objs] [Unwatched z.parts.bar0] [Unwatched z.parts.win] [Unwatched z.parts.tiles] [Unwatched z.parts.basins] [Unwatched z.parts.hubs] [Unwatched z.parts.seams] [Unwatched z.parts.alarmQ] [Unwatched z.parts.irqQ] [Unwatched z.parts.agentRsp] [Unwatched z.parts.link] [Unwatched z.parts.host] [Unwatched z.parts.srv] [Unwatched z.parts.keepers] [Unwatched z.parts.boot] [Unwatched z.parts.power] [Unwatched z.parts.cellar] [Unwatched z.parts.upd] [Unwatched z.parts.dbg] : GoodFst z (State.blockValues s i pairs l acc) := by
  induction l generalizing s acc with
  | nil => exact goodFst_mk h
  | cons e rest ih =>
    obtain ⟨j, v⟩ := e
    exact ih (goodFst_get (State.blockValue_good h))

theorem State.blockWords_good {t : Nat} {l : List Nat} {acc : List (Nat × Nat)} {off : Nat} {s : State} (h : Good z s) [Unwatched z.parts.mem] [Unwatched z.parts.tregs] [Unwatched z.parts.objs] [Unwatched z.parts.win] [Unwatched z.parts.tiles] [Unwatched z.parts.basins] [Unwatched z.parts.irqQ] [Unwatched z.parts.srv] :
    GoodSnd z (State.blockWords s t off l acc) := by
  induction s, off, l, acc using State.blockWords.induct t with
  | case1 s off a b c d rest acc hm =>
    unfold State.blockWords
    rw [if_pos hm]
    exact goodSnd_mk h
  | case2 s off a b c d rest acc v atLock hm ha x e s1 heq ih =>
    unfold State.blockWords
    rw [if_neg hm]
    show GoodSnd z (if atLock = true then (match s.batchWord t off v acc with
      | (_, e, s1) => s1.blockWords t (off + 4) rest (acc ++ e)) else _)
    rw [if_pos ha, heq]
    exact ih (good_thd heq (State.batchWord_good h))
  | case3 s off a b c d rest acc v atLock hm ha ih =>
    unfold State.blockWords
    rw [if_neg hm]
    show GoodSnd z (if atLock = true then _ else (s.regWrite t off v none).2.blockWords t (off + 4) rest acc)
    rw [if_neg ha]
    exact ih (goodSnd_get (State.regWrite_good h))
  | case4 l s off acc hl =>
    unfold State.blockWords
    split
    · exact absurd rfl (hl _ _ _ _ _)
    · exact goodSnd_mk h

theorem State.blockRecord_good {s : State} {g : Staging} {r : CfgRecord} (h : Good z s) [Unwatched z.parts.mem] [Unwatched z.parts.tregs] [Unwatched z.parts.objs] [Unwatched z.parts.bar0] [Unwatched z.parts.win] [Unwatched z.parts.tiles] [Unwatched z.parts.basins] [Unwatched z.parts.hubs] [Unwatched z.parts.seams] [Unwatched z.parts.alarmQ] [Unwatched z.parts.irqQ] [Unwatched z.parts.agentRsp] [Unwatched z.parts.link] [Unwatched z.parts.host] [Unwatched z.parts.srv] [Unwatched z.parts.keepers] [Unwatched z.parts.boot] [Unwatched z.parts.power] [Unwatched z.parts.cellar] [Unwatched z.parts.upd] [Unwatched z.parts.dbg] : GoodFst z (State.blockRecord s g r) := by
  unfold State.blockRecord
  exact (goodFst_ite (by
    extract_lets +onlyGivenNames -merge -useContext -underBinder v1
    split
    · exact (goodFst_mk (by refine good_snd (by assumption) ?_; exact (State.blockWords_good h)))) (by
    extract_lets +onlyGivenNames -merge -useContext -underBinder v2 v3
    split
    · exact (goodFst_mk (by refine good_fst (by assumption) ?_; exact (State.blockValues_good h)))))

theorem State.sealBlock_good {s : State} {b : Nat} {id : Nat} {target : Nat} {l : List (Nat × Nat × Nat)} (h : Good z s) [Unwatched z.parts.tiles] : Good z (State.sealBlock s b id target l) := by
  unfold State.sealBlock
  exact (good_foldl (fun _ _ h1 => (by
      extract_lets +onlyGivenNames -merge -useContext -underBinder v2
      exact (State.updTile_good h1))) _ h)

theorem State.applyBlock_good {s : State} {b : Nat} {l : List CfgRecord} (h : Good z s) [Unwatched z.parts.mem] [Unwatched z.parts.tregs] [Unwatched z.parts.objs] [Unwatched z.parts.bar0] [Unwatched z.parts.win] [Unwatched z.parts.tiles] [Unwatched z.parts.basins] [Unwatched z.parts.hubs] [Unwatched z.parts.seams] [Unwatched z.parts.alarmQ] [Unwatched z.parts.irqQ] [Unwatched z.parts.agentRsp] [Unwatched z.parts.link] [Unwatched z.parts.host] [Unwatched z.parts.srv] [Unwatched z.parts.keepers] [Unwatched z.parts.boot] [Unwatched z.parts.power] [Unwatched z.parts.cellar] [Unwatched z.parts.upd] [Unwatched z.parts.dbg] : Good z (State.applyBlock s b l) := by
  unfold State.applyBlock
  split
  · extract_lets +onlyGivenNames -merge -useContext -underBinder v2 v3 v4
    have h4 : Good z v4 := (good_ite (by refine good_fst (by assumption) ?_; exact (goodFst_foldl (fun _ _ h1 => (State.blockRecord_good (goodFst_get h1))) _ (goodFst_mk (State.fromSrc_good h)))) (State.sealBlock_good (State.issueBatch_good (by refine good_fst (by assumption) ?_; exact (goodFst_foldl (fun _ _ h1 => (State.blockRecord_good (goodFst_get h1))) _ (goodFst_mk (State.fromSrc_good h)))))))
    exact (State.fromSrc_good (State.issueAll_good h4))

theorem State.bindStream_good {s : State} {t : Nat} {i : Nat} {key : Nat} (h : Good z s) [Unwatched z.parts.tregs] : Good z (State.bindStream s t i key) := by
  unfold State.bindStream
  extract_lets +onlyGivenNames -merge -useContext -underBinder v1
  exact (State.setRegN_good (State.setRegN_good (State.setRegN_good (State.setRegN_good (State.setRegN_good (State.setRegN_good h))))))

theorem State.freeStream_good {s : State} {t : Nat} {i : Nat} (h : Good z s) [Unwatched z.parts.tregs] : Good z (State.freeStream s t i) := by
  unfold State.freeStream; exact (good_foldl (fun _ _ h1 => (State.setRegN_good h1)) _ h)

theorem State.loadTile_good {s : State} {img : Image} {t : Nat} (h : Good z s) [Unwatched z.parts.tregs] [Unwatched z.parts.tiles] : Good z (State.loadTile s img t) := by
  unfold State.loadTile
  extract_lets +onlyGivenNames -merge -useContext -underBinder v1 v2 v3 v4 v6 v7 v9
  have h3 : Good z v3 := (State.updTile_good h)
  have h4 : Good z v4 := (good_foldl (fun _ _ h5 => (State.setRegN_good h5)) _ h3)
  have h6 : Good z v6 := (State.setRegN_good (State.setRegN_good (State.setRegN_good h4)))
  have h7 : Good z v7 := (good_foldl (fun _ _ h8 => (State.freeStream_good h8)) _ h6)
  have h9 : Good z v9 := (good_foldl (fun _ _ h10 => (State.bindStream_good h10)) _ h7)
  exact (State.atOpenLock_good h9)

theorem State.loadRow_good {s : State} {ts : List Nat} {c : Nat × Nat × Row} (h : Good z s) [Unwatched z.parts.mem] [Unwatched z.parts.tregs] [Unwatched z.parts.tiles] : Good z (State.loadRow s ts c) := by
  unfold State.loadRow; exact (good_ite (State.installRow_good h) h)

theorem State.loadBasin_good {s : State} {b : Nat} {img : Image} {block : List CfgRecord} (h : Good z s) [Unwatched z.parts.free] [Unwatched z.parts.mem] [Unwatched z.parts.tregs] [Unwatched z.parts.objs] [Unwatched z.parts.bar0] [Unwatched z.parts.win] [Unwatched z.parts.tiles] [Unwatched z.parts.basins] [Unwatched z.parts.hubs] [Unwatched z.parts.seams] [Unwatched z.parts.alarmQ] [Unwatched z.parts.irqQ] [Unwatched z.parts.agentRsp] [Unwatched z.parts.link] [Unwatched z.parts.host] [Unwatched z.parts.srv] [Unwatched z.parts.keepers] [Unwatched z.parts.boot] [Unwatched z.parts.power] [Unwatched z.parts.cellar] [Unwatched z.parts.upd] [Unwatched z.parts.dbg] : Good z (State.loadBasin s b img block) := by
  unfold State.loadBasin
  extract_lets +onlyGivenNames -merge -useContext -underBinder v1 v2 v4 v6 v7 v8
  have h2 : Good z v2 := (good_foldl (fun _ _ h3 => (State.loadRow_good h3)) _ h)
  have h4 : Good z v4 := (State.markWindow_good (good_foldl (fun _ _ h5 => (State.loadTile_good h5)) _ h2) h)
  have h6 : Good z v6 := (State.updBasin_good h4)
  have h7 : Good z v7 := (State.setObj_good (State.setObj_good (State.setObj_good h6)))
  have h8 : Good z v8 := (State.setObj_good (State.setObj_good (State.setObj_good h7)))
  exact (State.restoreMapped_good (State.applyBlock_good (State.setObj_good h8)))

theorem State.loadImage_good {s : State} {b : Nat} {len : Nat} {img : Option Image} (h : Good z s) [Unwatched z.parts.free] [Unwatched z.parts.mem] [Unwatched z.parts.tregs] [Unwatched z.parts.objs] [Unwatched z.parts.bar0] [Unwatched z.parts.win] [Unwatched z.parts.tiles] [Unwatched z.parts.basins] [Unwatched z.parts.hubs] [Unwatched z.parts.seams] [Unwatched z.parts.alarmQ] [Unwatched z.parts.irqQ] [Unwatched z.parts.agentRsp] [Unwatched z.parts.link] [Unwatched z.parts.host] [Unwatched z.parts.srv] [Unwatched z.parts.keepers] [Unwatched z.parts.boot] [Unwatched z.parts.power] [Unwatched z.parts.cellar] [Unwatched z.parts.upd] [Unwatched z.parts.dbg] : GoodSnd z (State.loadImage s b len img) := by
  unfold State.loadImage
  split
  · exact (goodSnd_mk h)
  · exact (goodSnd_ite (goodSnd_mk h) (by
      split
      · exact (goodSnd_mk (State.rejectBlock_good h))
      · extract_lets +onlyGivenNames -merge -useContext -underBinder v1
        exact (goodSnd_ite (goodSnd_mk h) (goodSnd_mk (State.loadBasin_good h)))))

theorem State.adminEntry_good {s : State} {e : BitVec 512} {img : Option Image} (h : Good z s) [Unwatched z.parts.free] [Unwatched z.parts.mem] [Unwatched z.parts.tregs] [Unwatched z.parts.objs] [Unwatched z.parts.bar0] [Unwatched z.parts.win] [Unwatched z.parts.tiles] [Unwatched z.parts.basins] [Unwatched z.parts.hubs] [Unwatched z.parts.seams] [Unwatched z.parts.alarmQ] [Unwatched z.parts.irqQ] [Unwatched z.parts.agentRsp] [Unwatched z.parts.link] [Unwatched z.parts.host] [Unwatched z.parts.srv] [Unwatched z.parts.keepers] [Unwatched z.parts.boot] [Unwatched z.parts.power] [Unwatched z.parts.cellar] [Unwatched z.parts.upd] [Unwatched z.parts.dbg] : Good z (State.adminEntry s e img) := by
  unfold State.adminEntry
  exact (good_ite h (by
    extract_lets +onlyGivenNames -merge -useContext -underBinder v1 v2
    have h1 : Good z v1 := (State.fetchEntry_good h)
    have h2 : ∀ a2_0 a2_1, Good z a2_0 → Good z (v2 a2_0 a2_1) := by
      intro a2_0 a2_1 h2_0
      dsimp -zeta only [v2]
      exact (State.addEntry_good h2_0)
    exact (good_ite (h2 _ _ h1) (good_ite (h2 _ _ h1) (by
      extract_lets +onlyGivenNames -merge -useContext -underBinder v3
      have h3 : GoodSnd z v3 := (State.loadImage_good h1)
      exact (h2 _ _ (goodSnd_get h3)))))))

theorem execLoadImage_good {entry : BitVec 512} {image : Option Image} {s : State} (h : Good z s) [Unwatched z.parts.free] [Unwatched z.parts.mem] [Unwatched z.parts.tregs] [Unwatched z.parts.objs] [Unwatched z.parts.bar0] [Unwatched z.parts.win] [Unwatched z.parts.tiles] [Unwatched z.parts.basins] [Unwatched z.parts.hubs] [Unwatched z.parts.seams] [Unwatched z.parts.alarmQ] [Unwatched z.parts.irqQ] [Unwatched z.parts.agentRsp] [Unwatched z.parts.link] [Unwatched z.parts.host] [Unwatched z.parts.srv] [Unwatched z.parts.keepers] [Unwatched z.parts.boot] [Unwatched z.parts.power] [Unwatched z.parts.cellar] [Unwatched z.parts.upd] [Unwatched z.parts.dbg] : GoodOut z (execLoadImage entry image s) := by
  unfold execLoadImage; exact (goodOut_next (State.adminEntry_good h))

theorem State.trierSecond_good {s : State} (h : Good z s) [Unwatched z.parts.tregs] [Unwatched z.parts.objs] [Unwatched z.parts.boot] : Good z (State.trierSecond s) := by
  unfold State.trierSecond
  extract_lets +onlyGivenNames -merge -useContext -underBinder v1 v2 v3 v5 v6 v7 v9 v10
  have h3 : Good z v3 := (good_foldl (fun _ _ h4 => (State.setRegN_good h4)) _ h)
  have h6 : Good z v6 := (good_boot h3 _)
  have h7 : Good z v7 := (good_foldl (fun _ _ h8 => (State.setObj_good h8)) _ h6)
  have h10 : Good z v10 := (State.setObj_good h7)
  exact (good_ite (good_foldl (fun _ _ h11 => (State.setObj_good h11)) _ h10) h10)

theorem State.basinMs_good {s : State} {b : Nat} (h : Good z s) [Unwatched z.parts.srv] : Good z (State.basinMs s b) := by
  unfold State.basinMs
  extract_lets +onlyGivenNames -merge -useContext -underBinder v1 v2 v3 v4
  exact (good_srv h _)

theorem State.mirrorBar_good {s : State} (h : Good z s) [Unwatched z.parts.bar0] : Good z (State.mirrorBar s) := by
  unfold State.mirrorBar; exact (good_foldl (fun _ _ h1 => (State.setBar_good h1)) _ h)

theorem State.heartbeat_good {s : State} (h : Good z s) [Unwatched z.parts.mem] [Unwatched z.parts.tregs] [Unwatched z.parts.objs] [Unwatched z.parts.bar0] [Unwatched z.parts.win] [Unwatched z.parts.tiles] [Unwatched z.parts.basins] [Unwatched z.parts.hubs] [Unwatched z.parts.seams] [Unwatched z.parts.alarmQ] [Unwatched z.parts.irqQ] [Unwatched z.parts.agentRsp] [Unwatched z.parts.link] [Unwatched z.parts.host] [Unwatched z.parts.srv] [Unwatched z.parts.keepers] [Unwatched z.parts.boot] [Unwatched z.parts.power] [Unwatched z.parts.cellar] [Unwatched z.parts.upd] [Unwatched z.parts.dbg] : Good z (State.heartbeat s) := by
  unfold State.heartbeat
  exact (good_ite h (by
    extract_lets +onlyGivenNames -merge -useContext -underBinder v1 v2 v3
    have h2 : Good z v2 := (good_srv h _)
    have h3 : Good z v3 := (good_foldl (fun _ _ h4 => (State.basinMs_good h4)) _ h2)
    exact (State.mirrorBar_good (State.mbServe_good (good_ite (State.trierSecond_good h3) h3)))))

theorem State.recollect_good {s : State} {b : Nat} (h : Good z s) [Unwatched z.parts.objs] [Unwatched z.parts.basins] : Good z (State.recollect s b) := by
  unfold State.recollect; exact (good_ite (State.setRec_good (State.updBasin_good h)) h)

theorem State.recopy_good {s : State} (h : Good z s) [Unwatched z.parts.objs] [Unwatched z.parts.cellar] : Good z (State.recopy s) := by
  unfold State.recopy
  split
  · exact (good_ite (State.showCellar_good (State.setObj_good (State.updCellar_good h))) h)
  · exact h

theorem State.updateTaken_good {s : State} (h : Good z s) [Unwatched z.parts.objs] [Unwatched z.parts.irqQ] [Unwatched z.parts.upd] : Good z (State.updateTaken s) := by
  unfold State.updateTaken
  split
  · exact (good_ite h (State.updateFail_good h))
  · exact h

theorem State.takeover_good {s : State} (h : Good z s) [Unwatched z.parts.objs] [Unwatched z.parts.bar0] [Unwatched z.parts.basins] [Unwatched z.parts.irqQ] [Unwatched z.parts.host] [Unwatched z.parts.srv] [Unwatched z.parts.keepers] [Unwatched z.parts.cellar] [Unwatched z.parts.upd] : Good z (State.takeover s) := by
  unfold State.takeover
  exact (good_ite (by
    extract_lets +onlyGivenNames -merge -useContext -underBinder v1 v2 v3 v4 v5
    have h1 : Good z v1 := (State.exchangeKeepers_good h)
    have h3 : Good z v3 := (State.mbAbort_good (good_srv h1 _))
    have h4 : Good z v4 := (State.setObj_good (State.bumpObj_good h3))
    have h5 : Good z v5 := (State.showTriers_good (State.updateTaken_good (State.recopy_good (good_foldl (fun _ _ h6 => (State.recollect_good h6)) _ h4))))
    exact (State.agentIrq_good (State.agentIrq_good h5))) (by
    split
    · exact (good_ite (State.showStandby_good (State.updKeeper_good (State.updateFail_good h))) h)
    · exact h))

theorem State.bootTimeout_good {s : State} (h : Good z s) [Unwatched z.parts.objs] [Unwatched z.parts.bar0] [Unwatched z.parts.irqQ] [Unwatched z.parts.srv] [Unwatched z.parts.keepers] : Good z (State.bootTimeout s) := by
  unfold State.bootTimeout
  extract_lets +onlyGivenNames -merge -useContext -underBinder v1
  exact (good_ite h (by
    extract_lets +onlyGivenNames -merge -useContext -underBinder v2
    have h2 : Good z v2 := (State.updKeeper_good h)
    exact (good_ite (good_srv h2 _) (State.agentIrq_good (State.showStandby_good (State.makeActive_good h2))))))

theorem execLkHeartbeat_good {s : State} (h : Good z s) [Unwatched z.parts.mem] [Unwatched z.parts.tregs] [Unwatched z.parts.objs] [Unwatched z.parts.bar0] [Unwatched z.parts.win] [Unwatched z.parts.tiles] [Unwatched z.parts.basins] [Unwatched z.parts.hubs] [Unwatched z.parts.seams] [Unwatched z.parts.alarmQ] [Unwatched z.parts.irqQ] [Unwatched z.parts.agentRsp] [Unwatched z.parts.link] [Unwatched z.parts.host] [Unwatched z.parts.srv] [Unwatched z.parts.keepers] [Unwatched z.parts.boot] [Unwatched z.parts.power] [Unwatched z.parts.cellar] [Unwatched z.parts.upd] [Unwatched z.parts.dbg] : GoodOut z (execLkHeartbeat s) := by
  unfold execLkHeartbeat; exact (goodOut_next (State.heartbeat_good h))

theorem execLkTakeover_good {s : State} (h : Good z s) [Unwatched z.parts.objs] [Unwatched z.parts.bar0] [Unwatched z.parts.basins] [Unwatched z.parts.irqQ] [Unwatched z.parts.host] [Unwatched z.parts.srv] [Unwatched z.parts.keepers] [Unwatched z.parts.cellar] [Unwatched z.parts.upd] : GoodOut z (execLkTakeover s) := by
  unfold execLkTakeover; exact (goodOut_next (State.takeover_good h))

theorem execLkBootTimeout_good {s : State} (h : Good z s) [Unwatched z.parts.objs] [Unwatched z.parts.bar0] [Unwatched z.parts.irqQ] [Unwatched z.parts.srv] [Unwatched z.parts.keepers] : GoodOut z (execLkBootTimeout s) := by
  unfold execLkBootTimeout; exact (goodOut_next (State.bootTimeout_good h))

theorem execLockReport_good {t : TileId} {s : State} (h : Good z s) [Unwatched z.parts.tregs] [Unwatched z.parts.tiles] [Unwatched z.parts.basins] : GoodOut z (execLockReport t s) := by
  unfold execLockReport; exact (goodOut_next (State.lockReport_good h))

theorem execLockUp_good {r : Fin 152} {b : BasinId} {split : Bool} {hop : TpHop} {s : State} (h : Good z s) [Unwatched z.parts.tregs] [Unwatched z.parts.objs] [Unwatched z.parts.win] [Unwatched z.parts.tiles] [Unwatched z.parts.basins] [Unwatched z.parts.hubs] [Unwatched z.parts.alarmQ] [Unwatched z.parts.srv] : GoodOut z (execLockUp r b split hop s) := by
  unfold execLockUp
  exact (goodOut_ite (by
    extract_lets +onlyGivenNames -merge -useContext -underBinder v1
    have h1 : Good z v1 := (State.hopRetry_good h)
    exact (goodOut_ite (goodOut_next (State.hopLost_good (State.lockFrameLost_good h1))) (goodOut_next (State.lockUp_good h1)))) (goodOut_next h))

theorem execLockResult_good {t : TileId} {hop : TpHop} {s : State} (h : Good z s) [Unwatched z.parts.mem] [Unwatched z.parts.tregs] [Unwatched z.parts.objs] [Unwatched z.parts.win] [Unwatched z.parts.tiles] [Unwatched z.parts.basins] [Unwatched z.parts.hubs] [Unwatched z.parts.alarmQ] : GoodOut z (execLockResult t hop s) := by
  unfold execLockResult
  exact (goodOut_ite (by
    extract_lets +onlyGivenNames -merge -useContext -underBinder v1
    have h1 : Good z v1 := (State.hopRetry_good h)
    exact (goodOut_ite (goodOut_next (State.hopLost_good (State.updLk_good h1))) (goodOut_next (State.lockResult_good h1)))) (goodOut_next h))

theorem execLockBeat_good {t : TileId} {s : State} (h : Good z s) [Unwatched z.parts.free] [Unwatched z.parts.mem] [Unwatched z.parts.tregs] [Unwatched z.parts.objs] [Unwatched z.parts.win] [Unwatched z.parts.tiles] [Unwatched z.parts.basins] [Unwatched z.parts.hubs] [Unwatched z.parts.seams] [Unwatched z.parts.alarmQ] [Unwatched z.parts.irqQ] [Unwatched z.parts.link] [Unwatched z.parts.host] [Unwatched z.parts.srv] [Unwatched z.parts.boot] [Unwatched z.parts.upd] : GoodOut z (execLockBeat t s) := by
  unfold execLockBeat; exact (goodOut_next (State.updateSettle_good (State.lockBeat_good h)))

theorem execLockHoldRequest_good {b : BasinId} {cause : HoldCause} {lock : Nat} {s : State} (h : Good z s) [Unwatched z.parts.basins] : GoodOut z (execLockHoldRequest b cause lock s) := by
  unfold execLockHoldRequest; exact (goodOut_next (State.updBasin_good h))

theorem execLockHoldRelease_good {b : BasinId} {cause : HoldCause} {lock : Nat} {s : State} (h : Good z s) [Unwatched z.parts.tregs] [Unwatched z.parts.objs] [Unwatched z.parts.basins] [Unwatched z.parts.seams] [Unwatched z.parts.alarmQ] [Unwatched z.parts.irqQ] [Unwatched z.parts.boot] : GoodOut z (execLockHoldRelease b cause lock s) := by
  unfold execLockHoldRelease
  extract_lets +onlyGivenNames -merge -useContext -underBinder v1
  have h1 : Good z v1 := (good_ite (State.seamTurn_good h) h)
  exact (goodOut_next (State.updBasin_good h1))

theorem execEstoreDataWrite_good {t : TileId} {w : Fin 4} {val : Word32} {s : State} (h : Good z s) [Unwatched z.parts.mem] [Unwatched z.parts.tregs] [Unwatched z.parts.objs] [Unwatched z.parts.win] [Unwatched z.parts.tiles] [Unwatched z.parts.basins] [Unwatched z.parts.irqQ] [Unwatched z.parts.srv] : GoodOut z (execEstoreDataWrite t w val s) := by
  unfold execEstoreDataWrite; exact (goodOut_next (State.towpathAsk_good h (fun _ h1 => (State.regWrite_good h1))))

theorem execPacePulse_good {t : TileId} {s : State} (h : Good z s) [Unwatched z.parts.mem] [Unwatched z.parts.tregs] [Unwatched z.parts.objs] [Unwatched z.parts.win] [Unwatched z.parts.tiles] [Unwatched z.parts.basins] [Unwatched z.parts.hubs] [Unwatched z.parts.boot] : GoodOut z (execPacePulse t s) := by
  unfold execPacePulse; exact (goodOut_next (good_ite h (State.moverPulse_good (State.spokePulse_good (State.idleBanks_good (State.pacePulse_good h))))))

theorem State.moveAsk_good {s : State} {u : Nat} {v : Nat} (h : Good z s) [Unwatched z.parts.tregs] [Unwatched z.parts.tiles] : Good z (State.moveAsk s u v) := by
  unfold State.moveAsk; exact (good_ite h (good_ite (State.towpathAsk_good h (fun _ h1 => (State.unloadCtl_good h1))) (goodSnd_get (State.unloadCtl_good h))))

theorem execUnload_good {u : UnitId} {dir : Fin 4} {s : State} (h : Good z s) [Unwatched z.parts.tregs] [Unwatched z.parts.tiles] : GoodOut z (execUnload u dir s) := by
  unfold execUnload; exact (goodOut_next (State.moveAsk_good h))

theorem execLoad_good {u : UnitId} {dir : Fin 4} {s : State} (h : Good z s) [Unwatched z.parts.tregs] [Unwatched z.parts.tiles] : GoodOut z (execLoad u dir s) := by
  unfold execLoad; exact (goodOut_next (State.moveAsk_good h))

theorem execLoadEnd_good {u : UnitId} {ok : Bool} {s : State} (h : Good z s) [Unwatched z.parts.tregs] [Unwatched z.parts.objs] [Unwatched z.parts.win] [Unwatched z.parts.tiles] [Unwatched z.parts.basins] [Unwatched z.parts.alarmQ] [Unwatched z.parts.irqQ] [Unwatched z.parts.boot] : GoodOut z (execLoadEnd u ok s) := by
  unfold execLoadEnd; exact (goodOut_next (State.loadEnd_good h))

theorem execInputQualified_good {s : State} (h : Good z s) [Unwatched z.parts.objs] [Unwatched z.parts.power] : GoodOut z (execInputQualified s) := by
  unfold execInputQualified
  exact (goodOut_next (good_ite (by
    extract_lets +onlyGivenNames -merge -useContext -underBinder v1
    have h1 : Good z v1 := (State.setObj_good h)
    exact (good_power h1 _)) h))

theorem execPowerGood_good {scanEn : Bool} {s : State} (h : Good z s) [Unwatched z.parts.objs] [Unwatched z.parts.srv] [Unwatched z.parts.boot] : GoodOut z (execPowerGood scanEn s) := by
  unfold execPowerGood
  exact (goodOut_ite (goodOut_next h) (by
    extract_lets +onlyGivenNames -merge -useContext -underBinder v1 v2 v3 v4 v5
    have h3 : Good z v3 := (good_srv_boot h _ _)
    have h4 : Good z v4 := (State.setObj_good (State.setObj_good (State.setObj_good h3)))
    have h5 : Good z v5 := (State.setObj_good (State.setObj_good (State.setObj_good h4)))
    exact (goodOut_next (good_ite h5 (State.setObj_good (State.setObj_good h5))))))

theorem execPowerFail_good {cause : Fin 4} {s : State} (h : Good z s) [Unwatched z.parts.mem] [Unwatched z.parts.tregs] [Unwatched z.parts.objs] [Unwatched z.parts.tiles] [Unwatched z.parts.alarmQ] [Unwatched z.parts.boot] [Unwatched z.parts.power] [Unwatched z.parts.cellar] : GoodOut z (execPowerFail cause s) := by
  unfold execPowerFail; exact (goodOut_next (State.powerFail_good h))

theorem execPresOpen_good {s : State} (h : Good z s) [Unwatched z.parts.mem] [Unwatched z.parts.tregs] [Unwatched z.parts.objs] [Unwatched z.parts.tiles] [Unwatched z.parts.alarmQ] [Unwatched z.parts.boot] [Unwatched z.parts.power] [Unwatched z.parts.cellar] : GoodOut z (execPresOpen s) := by
  unfold execPresOpen; exact (goodOut_next (State.powerFail_good h))

theorem execCellLost_good {cell : Fin 16} {s : State} (h : Good z s) [Unwatched z.parts.mem] [Unwatched z.parts.tregs] [Unwatched z.parts.objs] [Unwatched z.parts.tiles] [Unwatched z.parts.alarmQ] [Unwatched z.parts.irqQ] [Unwatched z.parts.boot] [Unwatched z.parts.power] [Unwatched z.parts.cellar] : GoodOut z (execCellLost cell s) := by
  unfold execCellLost; exact (goodOut_next (State.cellLost_good h))

theorem execCeilingUpdate_good {vin : Nat} {s : State} (h : Good z s) [Unwatched z.parts.objs] [Unwatched z.parts.power] : GoodOut z (execCeilingUpdate vin s) := by
  unfold execCeilingUpdate
  extract_lets +onlyGivenNames -merge -useContext -underBinder v1 v2 v3 v4
  have h2 : Good z v2 := (good_power h _)
  have h4 : Good z v4 := (good_ite h2 (State.setObj_good h2))
  exact (goodOut_next (State.newCeiling_good h4))

theorem execPhaseLost_good {pd : PoundId} {phase : Fin 6} {s : State} (h : Good z s) [Unwatched z.parts.mem] [Unwatched z.parts.tregs] [Unwatched z.parts.objs] [Unwatched z.parts.tiles] [Unwatched z.parts.basins] [Unwatched z.parts.alarmQ] [Unwatched z.parts.irqQ] [Unwatched z.parts.boot] [Unwatched z.parts.power] : GoodOut z (execPhaseLost pd phase s) := by
  unfold execPhaseLost; exact (goodOut_next (State.phaseLost_good h))

theorem execRegFail_good {p : PhysId} {cause : Fin 4} {s : State} (h : Good z s) [Unwatched z.parts.mem] [Unwatched z.parts.tregs] [Unwatched z.parts.objs] [Unwatched z.parts.tiles] [Unwatched z.parts.basins] [Unwatched z.parts.alarmQ] [Unwatched z.parts.irqQ] [Unwatched z.parts.boot] : GoodOut z (execRegFail p cause s) := by
  unfold execRegFail; exact (goodOut_next (State.regFail_good h))

theorem execWeirDroop_good {pd : PoundId} {depth : Nat} {charge : Fin 101} {s : State} (h : Good z s) [Unwatched z.parts.objs] [Unwatched z.parts.win] [Unwatched z.parts.irqQ] [Unwatched z.parts.power] : GoodOut z (execWeirDroop pd depth charge s) := by
  unfold execWeirDroop
  extract_lets +onlyGivenNames -merge -useContext -underBinder v1 v2 v3 v4 v5
  have h3 : Good z v3 := (State.updPound_good h)
  have h4 : Good z v4 := (State.maxWin_good (State.bumpWin_good (State.bumpObj_good h3)))
  have h5 : Good z v5 := (good_ite (State.bumpObj_good h4) h4)
  exact (goodOut_next (good_ite (State.agentIrq_good h5) h5))

theorem execWeirOvershoot_good {pd : PoundId} {s : State} (h : Good z s) [Unwatched z.parts.objs] [Unwatched z.parts.win] [Unwatched z.parts.power] : GoodOut z (execWeirOvershoot pd s) := by
  unfold execWeirOvershoot
  extract_lets +onlyGivenNames -merge -useContext -underBinder v1
  have h1 : Good z v1 := (State.updPound_good h)
  exact (goodOut_next (State.bumpWin_good (State.bumpObj_good h1)))

theorem execWeirSettled_good {pd : PoundId} {s : State} (h : Good z s) [Unwatched z.parts.power] : GoodOut z (execWeirSettled pd s) := by
  unfold execWeirSettled; exact (goodOut_next (State.updPound_good h))

theorem execWeirBankRecharged_good {pd : PoundId} {s : State} (h : Good z s) [Unwatched z.parts.power] : GoodOut z (execWeirBankRecharged pd s) := by
  unfold execWeirBankRecharged; exact (goodOut_next (State.updPound_good h))

theorem execPoundTrip_good {pd : PoundId} {cause : Fin 4} {s : State} (h : Good z s) [Unwatched z.parts.mem] [Unwatched z.parts.tregs] [Unwatched z.parts.objs] [Unwatched z.parts.tiles] [Unwatched z.parts.basins] [Unwatched z.parts.alarmQ] [Unwatched z.parts.irqQ] [Unwatched z.parts.boot] [Unwatched z.parts.power] : GoodOut z (execPoundTrip pd cause s) := by
  unfold execPoundTrip; exact (goodOut_next (State.poundTrip_good h))

theorem execPoundPowerUp_good {pd : PoundId} {s : State} (h : Good z s) [Unwatched z.parts.objs] [Unwatched z.parts.irqQ] [Unwatched z.parts.srv] [Unwatched z.parts.power] : GoodOut z (execPoundPowerUp pd s) := by
  unfold execPoundPowerUp; exact (goodOut_next (State.powerUp_good h))

theorem execPoundPowerDown_good {pd : PoundId} {s : State} (h : Good z s) [Unwatched z.parts.tregs] [Unwatched z.parts.objs] [Unwatched z.parts.irqQ] [Unwatched z.parts.srv] [Unwatched z.parts.power] : GoodOut z (execPoundPowerDown pd s) := by
  unfold execPoundPowerDown; exact (goodOut_next (State.powerDownPound_good h))

theorem execPoundRampDownEnd_good {pd : PoundId} {s : State} (h : Good z s) [Unwatched z.parts.mem] [Unwatched z.parts.tregs] [Unwatched z.parts.objs] [Unwatched z.parts.tiles] [Unwatched z.parts.power] : GoodOut z (execPoundRampDownEnd pd s) := by
  unfold execPoundRampDownEnd; exact (goodOut_next (State.rampDownEnd_good h))

theorem execPoundGrantEval_good {s : State} (h : Good z s) [Unwatched z.parts.free] [Unwatched z.parts.objs] [Unwatched z.parts.irqQ] [Unwatched z.parts.power] : GoodOut z (execPoundGrantEval s) := by
  unfold execPoundGrantEval; exact (goodOut_next (State.grantEval_good h))

theorem execPoundRampEnd_good {pd : PoundId} {ok : Bool} {s : State} (h : Good z s) [Unwatched z.parts.mem] [Unwatched z.parts.tregs] [Unwatched z.parts.objs] [Unwatched z.parts.tiles] [Unwatched z.parts.basins] [Unwatched z.parts.alarmQ] [Unwatched z.parts.irqQ] [Unwatched z.parts.boot] [Unwatched z.parts.power] : GoodOut z (execPoundRampEnd pd ok s) := by
  unfold execPoundRampEnd; exact (goodOut_next (State.rampEnd_good h))

theorem execCapture8us_good {pd : PoundId} {ivpn : Nat} {ivpm : Nat} {sys : Option (List Nat)} {tiles : List (Int × Nat × Nat)} {s : State} (h : Good z s) [Unwatched z.parts.mem] [Unwatched z.parts.tregs] [Unwatched z.parts.objs] [Unwatched z.parts.tiles] [Unwatched z.parts.basins] [Unwatched z.parts.alarmQ] [Unwatched z.parts.irqQ] [Unwatched z.parts.boot] [Unwatched z.parts.power] [Unwatched z.parts.cellar] : GoodOut z (execCapture8us pd ivpn ivpm sys tiles s) := by
  unfold execCapture8us; exact (goodOut_next (State.capture_good h))

theorem execEstimateSample_good {s : State} (h : Good z s) [Unwatched z.parts.free] [Unwatched z.parts.objs] [Unwatched z.parts.irqQ] [Unwatched z.parts.power] : GoodOut z (execEstimateSample s) := by
  unfold execEstimateSample; exact (goodOut_next (State.estimateSample_good h))

theorem execEstimatorGainUpdate_good {s : State} (h : Good z s) [Unwatched z.parts.objs] [Unwatched z.parts.irqQ] [Unwatched z.parts.power] : GoodOut z (execEstimatorGainUpdate s) := by
  unfold execEstimatorGainUpdate; exact (goodOut_next (State.msUpdate_good h))

theorem execSkimFrame_good {t : TileId} {s : State} (h : Good z s) [Unwatched z.parts.tregs] : GoodOut z (execSkimFrame t s) := by
  unfold execSkimFrame
  extract_lets +onlyGivenNames -merge -useContext -underBinder v1
  exact (goodOut_next (good_ite (State.setRegN_good h) h))

theorem execCoolantSample_good {tin : Int} {flow : Nat} {s : State} (h : Good z s) [Unwatched z.parts.objs] [Unwatched z.parts.irqQ] [Unwatched z.parts.power] : GoodOut z (execCoolantSample tin flow s) := by
  unfold execCoolantSample
  extract_lets +onlyGivenNames -merge -useContext -underBinder v1 v2 v3 v4
  have h4 : Good z v4 := (State.setObj_good (State.setObj_good (State.setObj_good h)))
  exact (goodOut_next (good_ite (by
    extract_lets +onlyGivenNames -merge -useContext -underBinder v5 v6
    have h6 : Good z v6 := (good_power h4 _)
    exact (State.agentIrq_good h6)) h4))

theorem execVtSetWrite_good {t : TileId} {mv : BitVec 16} {s : State} (h : Good z s) [Unwatched z.parts.tregs] [Unwatched z.parts.objs] : GoodOut z (execVtSetWrite t mv s) := by
  unfold execVtSetWrite; exact (goodOut_next (State.vtSet_good h))

theorem execVoltageStep_good {pd : PoundId} {s : State} (h : Good z s) [Unwatched z.parts.tregs] [Unwatched z.parts.objs] [Unwatched z.parts.power] : GoodOut z (execVoltageStep pd s) := by
  unfold execVoltageStep; exact (goodOut_next (State.voltageStep_good h))

theorem execVoltageStepEnd_good {pd : PoundId} {s : State} (h : Good z s) [Unwatched z.parts.power] : GoodOut z (execVoltageStepEnd pd s) := by
  unfold execVoltageStepEnd; exact (goodOut_next (good_ite h (State.updPound_good h)))

theorem execSkimTestWrite_good {t : TileId} {val : Word32} {s : State} (h : Good z s) [Unwatched z.parts.mem] [Unwatched z.parts.tregs] [Unwatched z.parts.objs] [Unwatched z.parts.win] [Unwatched z.parts.tiles] [Unwatched z.parts.basins] [Unwatched z.parts.irqQ] [Unwatched z.parts.srv] : GoodOut z (execSkimTestWrite t val s) := by
  unfold execSkimTestWrite; exact (goodOut_next (State.towpathAsk_good h (fun _ h1 => (State.regWrite_good h1))))

theorem execAlarmCollectionEnd_good {b : BasinId} {s : State} (h : Good z s) [Unwatched z.parts.tregs] [Unwatched z.parts.objs] [Unwatched z.parts.tiles] [Unwatched z.parts.basins] [Unwatched z.parts.alarmQ] [Unwatched z.parts.link] [Unwatched z.parts.host] [Unwatched z.parts.boot] : GoodOut z (execAlarmCollectionEnd b s) := by
  unfold execAlarmCollectionEnd; exact (goodOut_next (State.collect_good h))

theorem execTargetedTestEnd_good {t : TileId} {cls : Fin 9} {lasting : Bool} {item : Nat} {s : State} (h : Good z s) [Unwatched z.parts.mem] [Unwatched z.parts.tregs] [Unwatched z.parts.objs] [Unwatched z.parts.win] [Unwatched z.parts.tiles] [Unwatched z.parts.basins] [Unwatched z.parts.seams] [Unwatched z.parts.alarmQ] [Unwatched z.parts.irqQ] [Unwatched z.parts.link] [Unwatched z.parts.host] [Unwatched z.parts.boot] : GoodOut z (execTargetedTestEnd t cls lasting item s) := by
  unfold execTargetedTestEnd; exact (goodOut_next (State.testEnd_good h))

theorem execReplayRelease_good {b : BasinId} {s : State} (h : Good z s) [Unwatched z.parts.free] [Unwatched z.parts.mem] [Unwatched z.parts.tregs] [Unwatched z.parts.objs] [Unwatched z.parts.win] [Unwatched z.parts.tiles] [Unwatched z.parts.basins] [Unwatched z.parts.hubs] [Unwatched z.parts.seams] [Unwatched z.parts.alarmQ] [Unwatched z.parts.irqQ] [Unwatched z.parts.link] [Unwatched z.parts.host] [Unwatched z.parts.srv] [Unwatched z.parts.boot] : GoodOut z (execReplayRelease b s) := by
  unfold execReplayRelease; exact (goodOut_next (State.replayRelease_good h))

theorem execRemap_good {s : State} (h : Good z s) [Unwatched z.parts.mem] [Unwatched z.parts.tregs] [Unwatched z.parts.objs] [Unwatched z.parts.tiles] [Unwatched z.parts.basins] [Unwatched z.parts.seams] [Unwatched z.parts.alarmQ] [Unwatched z.parts.irqQ] [Unwatched z.parts.link] [Unwatched z.parts.host] [Unwatched z.parts.boot] : GoodOut z (execRemap s) := by
  unfold execRemap; exact (goodOut_next (State.remap_good h))

theorem execIdleWindowSlice_good {t : TileId} {cls : Fin 9} {ok : Bool} {item : Nat} {s : State} (h : Good z s) [Unwatched z.parts.free] [Unwatched z.parts.mem] [Unwatched z.parts.tregs] [Unwatched z.parts.objs] [Unwatched z.parts.win] [Unwatched z.parts.tiles] [Unwatched z.parts.basins] [Unwatched z.parts.seams] [Unwatched z.parts.alarmQ] [Unwatched z.parts.irqQ] [Unwatched z.parts.boot] : GoodOut z (execIdleWindowSlice t cls ok item s) := by
  unfold execIdleWindowSlice; exact (goodOut_next (State.idleSlice_good h))

theorem execTrierOverdue_good {t : TileId} {s : State} (h : Good z s) [Unwatched z.parts.tregs] [Unwatched z.parts.objs] [Unwatched z.parts.irqQ] : GoodOut z (execTrierOverdue t s) := by
  unfold execTrierOverdue; exact (goodOut_next (State.trierOverdue_good h))

theorem execTrierPauseRequest_good {b : BasinId} {s : State} (h : Good z s) [Unwatched z.parts.objs] [Unwatched z.parts.basins] : GoodOut z (execTrierPauseRequest b s) := by
  unfold execTrierPauseRequest; exact (goodOut_next (State.pauseRequest_good h))

theorem execTrierPauseDone_good {b : BasinId} {tested : List TileId} {faults : List (TileId × Fin 9 × Nat)} {s : State} (h : Good z s) [Unwatched z.parts.mem] [Unwatched z.parts.tregs] [Unwatched z.parts.objs] [Unwatched z.parts.win] [Unwatched z.parts.tiles] [Unwatched z.parts.basins] [Unwatched z.parts.seams] [Unwatched z.parts.alarmQ] [Unwatched z.parts.irqQ] [Unwatched z.parts.boot] : GoodOut z (execTrierPauseDone b tested faults s) := by
  unfold execTrierPauseDone; exact (goodOut_next (State.pauseDone_good h))

theorem execResetTile_good {t : TileId} {s : State} (h : Good z s) [Unwatched z.parts.tregs] [Unwatched z.parts.objs] [Unwatched z.parts.tiles] [Unwatched z.parts.irqQ] [Unwatched z.parts.srv] [Unwatched z.parts.boot] : GoodOut z (execResetTile t s) := by
  unfold execResetTile; exact (goodOut_next (State.askResetTile_good h))

theorem execResetBerth_good {t : BerthId} {s : State} (h : Good z s) [Unwatched z.parts.tregs] [Unwatched z.parts.objs] [Unwatched z.parts.tiles] [Unwatched z.parts.irqQ] [Unwatched z.parts.srv] [Unwatched z.parts.boot] : GoodOut z (execResetBerth t s) := by
  unfold execResetBerth; exact (goodOut_next (State.askResetBerth_good h))

theorem execResetBasin_good {b : BasinId} {s : State} (h : Good z s) [Unwatched z.parts.tregs] [Unwatched z.parts.objs] [Unwatched z.parts.tiles] [Unwatched z.parts.irqQ] [Unwatched z.parts.srv] [Unwatched z.parts.boot] : GoodOut z (execResetBasin b s) := by
  unfold execResetBasin; exact (goodOut_next (State.askResetBasin_good h))

theorem execResetDevice_good {s : State} (h : Good z s) [Unwatched z.parts.tregs] [Unwatched z.parts.objs] [Unwatched z.parts.tiles] [Unwatched z.parts.irqQ] [Unwatched z.parts.srv] [Unwatched z.parts.boot] : GoodOut z (execResetDevice s) := by
  unfold execResetDevice; exact (goodOut_next (State.askResetDevice_good h))

theorem execResetDrainEnd_good {s : State} (h : Good z s) [Unwatched z.parts.tregs] [Unwatched z.parts.objs] [Unwatched z.parts.boot] : GoodOut z (execResetDrainEnd s) := by
  unfold execResetDrainEnd; exact (goodOut_next (State.drainEnd_good h))

theorem execDrainLimit_good {s : State} (h : Good z s) [Unwatched z.parts.tregs] [Unwatched z.parts.objs] [Unwatched z.parts.tiles] [Unwatched z.parts.boot] : GoodOut z (execDrainLimit s) := by
  unfold execDrainLimit; exact (goodOut_next (State.drainLimit_good h))

theorem State.ladderRestore_good {s : State} {l : Option Nat} (h : Good z s) [Unwatched z.parts.objs] [Unwatched z.parts.alarmQ] [Unwatched z.parts.irqQ] [Unwatched z.parts.cellar] : Good z (State.ladderRestore s l) := by
  unfold State.ladderRestore
  split
  · exact (good_ite (State.restoreBegin_good h) h)
  · exact h

theorem execResetEnd_good {s : State} (h : Good z s) [Unwatched z.parts.mem] [Unwatched z.parts.tregs] [Unwatched z.parts.objs] [Unwatched z.parts.tiles] [Unwatched z.parts.basins] [Unwatched z.parts.hubs] [Unwatched z.parts.alarmQ] [Unwatched z.parts.irqQ] [Unwatched z.parts.link] [Unwatched z.parts.host] [Unwatched z.parts.srv] [Unwatched z.parts.boot] [Unwatched z.parts.cellar] [Unwatched z.parts.upd] : GoodOut z (execResetEnd s) := by
  unfold execResetEnd; exact (goodOut_next (State.ladderRestore_good (State.updateSettle_good (goodFst_get (State.resetEnd_good h)))))

theorem execIllegalBundle_good {t : TileId} {s : State} (h : Good z s) [Unwatched z.parts.tregs] [Unwatched z.parts.objs] [Unwatched z.parts.win] [Unwatched z.parts.tiles] [Unwatched z.parts.basins] : GoodOut z (execIllegalBundle t s) := by
  unfold execIllegalBundle
  extract_lets +onlyGivenNames -merge -useContext -underBinder v1 v2
  exact (goodOut_ite (goodOut_next (State.taskFault_good (State.updTil_good h))) (goodOut_next h))

theorem execNop_good {t : TileId} {slot : Fin 6} {s : State} (h : Good z s) [Unwatched z.parts.tiles] : GoodOut z (execNop t slot s) := by
  unfold execNop
  split
  · exact (goodOut_next (State.slotOp_good h (fun _ h1 => h1)))

theorem execBr_good {t : TileId} {off : BitVec 16} {s : State} (h : Good z s) [Unwatched z.parts.tregs] [Unwatched z.parts.objs] [Unwatched z.parts.win] [Unwatched z.parts.tiles] [Unwatched z.parts.basins] : GoodOut z (execBr t off s) := by
  unfold execBr; exact (goodOut_next (State.slotOp_good h (fun _ h1 => (State.branch_good h1))))

theorem execBrz_good {t : TileId} {r : SReg} {off : BitVec 16} {s : State} (h : Good z s) [Unwatched z.parts.tregs] [Unwatched z.parts.objs] [Unwatched z.parts.win] [Unwatched z.parts.tiles] [Unwatched z.parts.basins] : GoodOut z (execBrz t r off s) := by
  unfold execBrz; exact (goodOut_next (State.slotOp_good h (fun _ h1 => (State.branch_good h1))))

theorem execBrnz_good {t : TileId} {r : SReg} {off : BitVec 16} {s : State} (h : Good z s) [Unwatched z.parts.tregs] [Unwatched z.parts.objs] [Unwatched z.parts.win] [Unwatched z.parts.tiles] [Unwatched z.parts.basins] : GoodOut z (execBrnz t r off s) := by
  unfold execBrnz; exact (goodOut_next (State.slotOp_good h (fun _ h1 => (State.branch_good h1))))

theorem execCall_good {t : TileId} {off : BitVec 16} {s : State} (h : Good z s) [Unwatched z.parts.tregs] [Unwatched z.parts.objs] [Unwatched z.parts.win] [Unwatched z.parts.tiles] [Unwatched z.parts.basins] : GoodOut z (execCall t off s) := by
  unfold execCall; exact (goodOut_next (State.slotOp_good h (fun _ h1 => (State.call_good h1))))

theorem execRet_good {t : TileId} {s : State} (h : Good z s) [Unwatched z.parts.tregs] [Unwatched z.parts.objs] [Unwatched z.parts.win] [Unwatched z.parts.tiles] [Unwatched z.parts.basins] : GoodOut z (execRet t s) := by
  unfold execRet; exact (goodOut_next (State.slotOp_good h (fun _ h1 => (State.ret_good h1))))

theorem execLoop_good {t : TileId} {len1 : Fin 64} {byReg : Bool} {count : BitVec 16} {s : State} (h : Good z s) [Unwatched z.parts.tregs] [Unwatched z.parts.objs] [Unwatched z.parts.win] [Unwatched z.parts.tiles] [Unwatched z.parts.basins] : GoodOut z (execLoop t len1 byReg count s) := by
  unfold execLoop; exact (goodOut_next (State.slotOp_good h (fun _ h1 => (State.loop_good h1))))

theorem execTask_good {t : TileId} {ctx : Fin 4} {s : State} (h : Good z s) [Unwatched z.parts.tregs] [Unwatched z.parts.objs] [Unwatched z.parts.win] [Unwatched z.parts.tiles] [Unwatched z.parts.basins] : GoodOut z (execTask t ctx s) := by
  unfold execTask; exact (goodOut_next (State.slotOp_good h (fun _ h1 => (State.task_good h1))))

theorem execBar_good {t : TileId} {num : BitVec 8} {ext : Fin 4} {s : State} (h : Good z s) [Unwatched z.parts.tregs] [Unwatched z.parts.objs] [Unwatched z.parts.win] [Unwatched z.parts.tiles] [Unwatched z.parts.basins] : GoodOut z (execBar t num ext s) := by
  unfold execBar; exact (goodOut_next (State.slotOp_good h (fun _ h1 => (State.barIssue_good h1))))

theorem execBarw_good {t : TileId} {num : BitVec 8} {s : State} (h : Good z s) [Unwatched z.parts.tiles] : GoodOut z (execBarw t num s) := by
  unfold execBarw; exact (goodOut_next (State.slotOp_good h (fun _ h1 => (State.barWait_good h1))))

theorem execEpochEnd_good {t : TileId} {s : State} (h : Good z s) [Unwatched z.parts.tregs] [Unwatched z.parts.objs] [Unwatched z.parts.win] [Unwatched z.parts.tiles] [Unwatched z.parts.basins] : GoodOut z (execEpochEnd t s) := by
  unfold execEpochEnd; exact (goodOut_next (State.slotOp_good h (fun _ h1 => (State.epochEnd_good h1))))

theorem State.alu_good {s : State} {t : Nat} {op : Nat} {d : Nat} {rest : List (Nat × Nat × Nat)} {f : State → Word32} (h : Good z s) [Unwatched z.parts.tiles] : Good z (State.alu s t op d rest f) := by
  unfold State.alu; exact (State.slotOp_good h (fun _ h1 => (State.writeS_good h1)))

theorem execAddi_good {t : TileId} {d : SReg} {r : SReg} {imm : BitVec 16} {s : State} (h : Good z s) [Unwatched z.parts.tiles] : GoodOut z (execAddi t d r imm s) := by
  unfold execAddi; exact (goodOut_next (State.alu_good h))

theorem execAndi_good {t : TileId} {d : SReg} {r : SReg} {imm : BitVec 16} {s : State} (h : Good z s) [Unwatched z.parts.tiles] : GoodOut z (execAndi t d r imm s) := by
  unfold execAndi; exact (goodOut_next (State.alu_good h))

theorem execOri_good {t : TileId} {d : SReg} {r : SReg} {imm : BitVec 16} {s : State} (h : Good z s) [Unwatched z.parts.tiles] : GoodOut z (execOri t d r imm s) := by
  unfold execOri; exact (goodOut_next (State.alu_good h))

theorem execXori_good {t : TileId} {d : SReg} {r : SReg} {imm : BitVec 16} {s : State} (h : Good z s) [Unwatched z.parts.tiles] : GoodOut z (execXori t d r imm s) := by
  unfold execXori; exact (goodOut_next (State.alu_good h))

theorem execShli_good {t : TileId} {d : SReg} {r : SReg} {imm : BitVec 16} {s : State} (h : Good z s) [Unwatched z.parts.tiles] : GoodOut z (execShli t d r imm s) := by
  unfold execShli; exact (goodOut_next (State.alu_good h))

theorem execShri_good {t : TileId} {d : SReg} {r : SReg} {imm : BitVec 16} {s : State} (h : Good z s) [Unwatched z.parts.tiles] : GoodOut z (execShri t d r imm s) := by
  unfold execShri; exact (goodOut_next (State.alu_good h))

theorem execLui_good {t : TileId} {d : SReg} {imm : BitVec 16} {s : State} (h : Good z s) [Unwatched z.parts.tiles] : GoodOut z (execLui t d imm s) := by
  unfold execLui; exact (goodOut_next (State.alu_good h))

theorem execAdd_good {t : TileId} {d : SReg} {r : SReg} {u : SReg} {s : State} (h : Good z s) [Unwatched z.parts.tiles] : GoodOut z (execAdd t d r u s) := by
  unfold execAdd; exact (goodOut_next (State.alu_good h))

theorem execSub_good {t : TileId} {d : SReg} {r : SReg} {u : SReg} {s : State} (h : Good z s) [Unwatched z.parts.tiles] : GoodOut z (execSub t d r u s) := by
  unfold execSub; exact (goodOut_next (State.alu_good h))

theorem execAndS_good {t : TileId} {d : SReg} {r : SReg} {u : SReg} {s : State} (h : Good z s) [Unwatched z.parts.tiles] : GoodOut z (execAndS t d r u s) := by
  unfold execAndS; exact (goodOut_next (State.alu_good h))

theorem execOrS_good {t : TileId} {d : SReg} {r : SReg} {u : SReg} {s : State} (h : Good z s) [Unwatched z.parts.tiles] : GoodOut z (execOrS t d r u s) := by
  unfold execOrS; exact (goodOut_next (State.alu_good h))

theorem execXorS_good {t : TileId} {d : SReg} {r : SReg} {u : SReg} {s : State} (h : Good z s) [Unwatched z.parts.tiles] : GoodOut z (execXorS t d r u s) := by
  unfold execXorS; exact (goodOut_next (State.alu_good h))

theorem execSltu_good {t : TileId} {d : SReg} {r : SReg} {u : SReg} {s : State} (h : Good z s) [Unwatched z.parts.tiles] : GoodOut z (execSltu t d r u s) := by
  unfold execSltu; exact (goodOut_next (State.alu_good h))

theorem execLrr_good {t : TileId} {d : SReg} {off : BitVec 16} {s : State} (h : Good z s) [Unwatched z.parts.tregs] [Unwatched z.parts.objs] [Unwatched z.parts.win] [Unwatched z.parts.tiles] [Unwatched z.parts.basins] : GoodOut z (execLrr t d off s) := by
  unfold execLrr
  exact (goodOut_next (State.slotOp_good h (fun _ h1 => (good_ite (State.taskFault_good h1) (by
    split
    · exact (State.writeS_good (by refine good_snd (by assumption) ?_; exact (State.regRead_good h1))))))))

theorem execLrw_good {t : TileId} {r : SReg} {off : BitVec 16} {s : State} (h : Good z s) [Unwatched z.parts.tregs] [Unwatched z.parts.objs] [Unwatched z.parts.win] [Unwatched z.parts.tiles] [Unwatched z.parts.basins] : GoodOut z (execLrw t r off s) := by
  unfold execLrw; exact (goodOut_next (State.slotOp_good h (fun _ h1 => (good_ite (State.taskFault_good h1) (good_ite (State.taskFault_good h1) (State.updTil_good h1))))))

theorem State.vecSlot_good {s : State} {t : Nat} {op : Nat} {lat : Nat} {use : Nat} {v : VecOp} {legal : Bool} {srcs : List Nat} {f : VecIn → VecOut} (h : Good z s) [Unwatched z.parts.tregs] [Unwatched z.parts.objs] [Unwatched z.parts.win] [Unwatched z.parts.tiles] [Unwatched z.parts.basins] : Good z (State.vecSlot s t op lat use v legal srcs f) := by
  unfold State.vecSlot; exact (State.slotOp_good h (fun _ h1 => (State.vecOp_good h1)))

theorem execVecMov_good {t : TileId} {v : VecOp} {s : State} (h : Good z s) [Unwatched z.parts.tregs] [Unwatched z.parts.objs] [Unwatched z.parts.win] [Unwatched z.parts.tiles] [Unwatched z.parts.basins] : GoodOut z (execVecMov t v s) := by
  unfold execVecMov; exact (goodOut_next (State.vecSlot_good h))

theorem execVecAnd_good {t : TileId} {v : VecOp} {s : State} (h : Good z s) [Unwatched z.parts.tregs] [Unwatched z.parts.objs] [Unwatched z.parts.win] [Unwatched z.parts.tiles] [Unwatched z.parts.basins] : GoodOut z (execVecAnd t v s) := by
  unfold execVecAnd; exact (goodOut_next (State.vecSlot_good h))

theorem execVecOr_good {t : TileId} {v : VecOp} {s : State} (h : Good z s) [Unwatched z.parts.tregs] [Unwatched z.parts.objs] [Unwatched z.parts.win] [Unwatched z.parts.tiles] [Unwatched z.parts.basins] : GoodOut z (execVecOr t v s) := by
  unfold execVecOr; exact (goodOut_next (State.vecSlot_good h))

theorem execVecXor_good {t : TileId} {v : VecOp} {s : State} (h : Good z s) [Unwatched z.parts.tregs] [Unwatched z.parts.objs] [Unwatched z.parts.win] [Unwatched z.parts.tiles] [Unwatched z.parts.basins] : GoodOut z (execVecXor t v s) := by
  unfold execVecXor; exact (goodOut_next (State.vecSlot_good h))

theorem execVecNot_good {t : TileId} {v : VecOp} {s : State} (h : Good z s) [Unwatched z.parts.tregs] [Unwatched z.parts.objs] [Unwatched z.parts.win] [Unwatched z.parts.tiles] [Unwatched z.parts.basins] : GoodOut z (execVecNot t v s) := by
  unfold execVecNot; exact (goodOut_next (State.vecSlot_good h))

theorem execVecBcast_good {t : TileId} {v : VecOp} {s : State} (h : Good z s) [Unwatched z.parts.tregs] [Unwatched z.parts.objs] [Unwatched z.parts.win] [Unwatched z.parts.tiles] [Unwatched z.parts.basins] : GoodOut z (execVecBcast t v s) := by
  unfold execVecBcast; exact (goodOut_next (State.vecSlot_good h))

theorem execVecRotl_good {t : TileId} {v : VecOp} {s : State} (h : Good z s) [Unwatched z.parts.tregs] [Unwatched z.parts.objs] [Unwatched z.parts.win] [Unwatched z.parts.tiles] [Unwatched z.parts.basins] : GoodOut z (execVecRotl t v s) := by
  unfold execVecRotl; exact (goodOut_next (State.vecSlot_good h))

theorem execVecRev_good {t : TileId} {v : VecOp} {s : State} (h : Good z s) [Unwatched z.parts.tregs] [Unwatched z.parts.objs] [Unwatched z.parts.win] [Unwatched z.parts.tiles] [Unwatched z.parts.basins] : GoodOut z (execVecRev t v s) := by
  unfold execVecRev; exact (goodOut_next (State.vecSlot_good h))

theorem execVecAdd_good {t : TileId} {v : VecOp} {s : State} (h : Good z s) [Unwatched z.parts.tregs] [Unwatched z.parts.objs] [Unwatched z.parts.win] [Unwatched z.parts.tiles] [Unwatched z.parts.basins] : GoodOut z (execVecAdd t v s) := by
  unfold execVecAdd; exact (goodOut_next (State.vecSlot_good h))

theorem execVecSub_good {t : TileId} {v : VecOp} {s : State} (h : Good z s) [Unwatched z.parts.tregs] [Unwatched z.parts.objs] [Unwatched z.parts.win] [Unwatched z.parts.tiles] [Unwatched z.parts.basins] : GoodOut z (execVecSub t v s) := by
  unfold execVecSub; exact (goodOut_next (State.vecSlot_good h))

theorem execVecMin_good {t : TileId} {v : VecOp} {s : State} (h : Good z s) [Unwatched z.parts.tregs] [Unwatched z.parts.objs] [Unwatched z.parts.win] [Unwatched z.parts.tiles] [Unwatched z.parts.basins] : GoodOut z (execVecMin t v s) := by
  unfold execVecMin; exact (goodOut_next (State.vecSlot_good h))

theorem execVecMax_good {t : TileId} {v : VecOp} {s : State} (h : Good z s) [Unwatched z.parts.tregs] [Unwatched z.parts.objs] [Unwatched z.parts.win] [Unwatched z.parts.tiles] [Unwatched z.parts.basins] : GoodOut z (execVecMax t v s) := by
  unfold execVecMax; exact (goodOut_next (State.vecSlot_good h))

theorem execVecAbs_good {t : TileId} {v : VecOp} {s : State} (h : Good z s) [Unwatched z.parts.tregs] [Unwatched z.parts.objs] [Unwatched z.parts.win] [Unwatched z.parts.tiles] [Unwatched z.parts.basins] : GoodOut z (execVecAbs t v s) := by
  unfold execVecAbs; exact (goodOut_next (State.vecSlot_good h))

theorem execVecNeg_good {t : TileId} {v : VecOp} {s : State} (h : Good z s) [Unwatched z.parts.tregs] [Unwatched z.parts.objs] [Unwatched z.parts.win] [Unwatched z.parts.tiles] [Unwatched z.parts.basins] : GoodOut z (execVecNeg t v s) := by
  unfold execVecNeg; exact (goodOut_next (State.vecSlot_good h))

theorem execVecMul_good {t : TileId} {v : VecOp} {s : State} (h : Good z s) [Unwatched z.parts.tregs] [Unwatched z.parts.objs] [Unwatched z.parts.win] [Unwatched z.parts.tiles] [Unwatched z.parts.basins] : GoodOut z (execVecMul t v s) := by
  unfold execVecMul; exact (goodOut_next (State.vecSlot_good h))

theorem execVecFma_good {t : TileId} {v : VecOp} {s : State} (h : Good z s) [Unwatched z.parts.tregs] [Unwatched z.parts.objs] [Unwatched z.parts.win] [Unwatched z.parts.tiles] [Unwatched z.parts.basins] : GoodOut z (execVecFma t v s) := by
  unfold execVecFma; exact (goodOut_next (State.vecSlot_good h))

theorem execVecShl_good {t : TileId} {v : VecOp} {s : State} (h : Good z s) [Unwatched z.parts.tregs] [Unwatched z.parts.objs] [Unwatched z.parts.win] [Unwatched z.parts.tiles] [Unwatched z.parts.basins] : GoodOut z (execVecShl t v s) := by
  unfold execVecShl; exact (goodOut_next (State.vecSlot_good h))

theorem execVecShr_good {t : TileId} {v : VecOp} {s : State} (h : Good z s) [Unwatched z.parts.tregs] [Unwatched z.parts.objs] [Unwatched z.parts.win] [Unwatched z.parts.tiles] [Unwatched z.parts.basins] : GoodOut z (execVecShr t v s) := by
  unfold execVecShr; exact (goodOut_next (State.vecSlot_good h))

theorem execVecSar_good {t : TileId} {v : VecOp} {s : State} (h : Good z s) [Unwatched z.parts.tregs] [Unwatched z.parts.objs] [Unwatched z.parts.win] [Unwatched z.parts.tiles] [Unwatched z.parts.basins] : GoodOut z (execVecSar t v s) := by
  unfold execVecSar; exact (goodOut_next (State.vecSlot_good h))

theorem execVecCmpeq_good {t : TileId} {v : VecOp} {s : State} (h : Good z s) [Unwatched z.parts.tregs] [Unwatched z.parts.objs] [Unwatched z.parts.win] [Unwatched z.parts.tiles] [Unwatched z.parts.basins] : GoodOut z (execVecCmpeq t v s) := by
  unfold execVecCmpeq; exact (goodOut_next (State.vecSlot_good h))

theorem execVecCmplt_good {t : TileId} {v : VecOp} {s : State} (h : Good z s) [Unwatched z.parts.tregs] [Unwatched z.parts.objs] [Unwatched z.parts.win] [Unwatched z.parts.tiles] [Unwatched z.parts.basins] : GoodOut z (execVecCmplt t v s) := by
  unfold execVecCmplt; exact (goodOut_next (State.vecSlot_good h))

theorem execVecCmple_good {t : TileId} {v : VecOp} {s : State} (h : Good z s) [Unwatched z.parts.tregs] [Unwatched z.parts.objs] [Unwatched z.parts.win] [Unwatched z.parts.tiles] [Unwatched z.parts.basins] : GoodOut z (execVecCmple t v s) := by
  unfold execVecCmple; exact (goodOut_next (State.vecSlot_good h))

theorem execVecCmpne_good {t : TileId} {v : VecOp} {s : State} (h : Good z s) [Unwatched z.parts.tregs] [Unwatched z.parts.objs] [Unwatched z.parts.win] [Unwatched z.parts.tiles] [Unwatched z.parts.basins] : GoodOut z (execVecCmpne t v s) := by
  unfold execVecCmpne; exact (goodOut_next (State.vecSlot_good h))

theorem execVecSel_good {t : TileId} {v : VecOp} {s : State} (h : Good z s) [Unwatched z.parts.tregs] [Unwatched z.parts.objs] [Unwatched z.parts.win] [Unwatched z.parts.tiles] [Unwatched z.parts.basins] : GoodOut z (execVecSel t v s) := by
  unfold execVecSel; exact (goodOut_next (State.vecSlot_good h))

theorem execVecRsum_good {t : TileId} {v : VecOp} {s : State} (h : Good z s) [Unwatched z.parts.tregs] [Unwatched z.parts.objs] [Unwatched z.parts.win] [Unwatched z.parts.tiles] [Unwatched z.parts.basins] : GoodOut z (execVecRsum t v s) := by
  unfold execVecRsum; exact (goodOut_next (State.vecSlot_good h))

theorem execVecRmax_good {t : TileId} {v : VecOp} {s : State} (h : Good z s) [Unwatched z.parts.tregs] [Unwatched z.parts.objs] [Unwatched z.parts.win] [Unwatched z.parts.tiles] [Unwatched z.parts.basins] : GoodOut z (execVecRmax t v s) := by
  unfold execVecRmax; exact (goodOut_next (State.vecSlot_good h))

theorem execVecRmin_good {t : TileId} {v : VecOp} {s : State} (h : Good z s) [Unwatched z.parts.tregs] [Unwatched z.parts.objs] [Unwatched z.parts.win] [Unwatched z.parts.tiles] [Unwatched z.parts.basins] : GoodOut z (execVecRmin t v s) := by
  unfold execVecRmin; exact (goodOut_next (State.vecSlot_good h))

theorem execVecRamax_good {t : TileId} {v : VecOp} {s : State} (h : Good z s) [Unwatched z.parts.tregs] [Unwatched z.parts.objs] [Unwatched z.parts.win] [Unwatched z.parts.tiles] [Unwatched z.parts.basins] : GoodOut z (execVecRamax t v s) := by
  unfold execVecRamax; exact (goodOut_next (State.vecSlot_good h))

theorem execVecCvtn_good {t : TileId} {v : VecOp} {s : State} (h : Good z s) [Unwatched z.parts.tregs] [Unwatched z.parts.objs] [Unwatched z.parts.win] [Unwatched z.parts.tiles] [Unwatched z.parts.basins] : GoodOut z (execVecCvtn t v s) := by
  unfold execVecCvtn
  extract_lets +onlyGivenNames -merge -useContext -underBinder v1
  exact (goodOut_next (State.vecSlot_good h))

theorem execVecCvtw_good {t : TileId} {v : VecOp} {s : State} (h : Good z s) [Unwatched z.parts.tregs] [Unwatched z.parts.objs] [Unwatched z.parts.win] [Unwatched z.parts.tiles] [Unwatched z.parts.basins] : GoodOut z (execVecCvtw t v s) := by
  unfold execVecCvtw
  extract_lets +onlyGivenNames -merge -useContext -underBinder v1
  exact (goodOut_next (State.vecSlot_good h))

theorem execVecCvti_good {t : TileId} {v : VecOp} {s : State} (h : Good z s) [Unwatched z.parts.tregs] [Unwatched z.parts.objs] [Unwatched z.parts.win] [Unwatched z.parts.tiles] [Unwatched z.parts.basins] : GoodOut z (execVecCvti t v s) := by
  unfold execVecCvti; exact (goodOut_next (State.vecSlot_good h))

theorem execVecCvtf_good {t : TileId} {v : VecOp} {s : State} (h : Good z s) [Unwatched z.parts.tregs] [Unwatched z.parts.objs] [Unwatched z.parts.win] [Unwatched z.parts.tiles] [Unwatched z.parts.basins] : GoodOut z (execVecCvtf t v s) := by
  unfold execVecCvtf; exact (goodOut_next (State.vecSlot_good h))

theorem execVecMxscale_good {t : TileId} {v : VecOp} {s : State} (h : Good z s) [Unwatched z.parts.tregs] [Unwatched z.parts.objs] [Unwatched z.parts.win] [Unwatched z.parts.tiles] [Unwatched z.parts.basins] : GoodOut z (execVecMxscale t v s) := by
  unfold execVecMxscale; exact (goodOut_next (State.vecSlot_good h))

theorem execVecMxapply_good {t : TileId} {v : VecOp} {s : State} (h : Good z s) [Unwatched z.parts.tregs] [Unwatched z.parts.objs] [Unwatched z.parts.win] [Unwatched z.parts.tiles] [Unwatched z.parts.basins] : GoodOut z (execVecMxapply t v s) := by
  unfold execVecMxapply; exact (goodOut_next (State.vecSlot_good h))

theorem execVecExp_good {t : TileId} {v : VecOp} {s : State} (h : Good z s) [Unwatched z.parts.tregs] [Unwatched z.parts.objs] [Unwatched z.parts.win] [Unwatched z.parts.tiles] [Unwatched z.parts.basins] : GoodOut z (execVecExp t v s) := by
  unfold execVecExp; exact (goodOut_next (State.vecSlot_good h))

theorem execVecExp2_good {t : TileId} {v : VecOp} {s : State} (h : Good z s) [Unwatched z.parts.tregs] [Unwatched z.parts.objs] [Unwatched z.parts.win] [Unwatched z.parts.tiles] [Unwatched z.parts.basins] : GoodOut z (execVecExp2 t v s) := by
  unfold execVecExp2; exact (goodOut_next (State.vecSlot_good h))

theorem execVecLog_good {t : TileId} {v : VecOp} {s : State} (h : Good z s) [Unwatched z.parts.tregs] [Unwatched z.parts.objs] [Unwatched z.parts.win] [Unwatched z.parts.tiles] [Unwatched z.parts.basins] : GoodOut z (execVecLog t v s) := by
  unfold execVecLog; exact (goodOut_next (State.vecSlot_good h))

theorem execVecLog2_good {t : TileId} {v : VecOp} {s : State} (h : Good z s) [Unwatched z.parts.tregs] [Unwatched z.parts.objs] [Unwatched z.parts.win] [Unwatched z.parts.tiles] [Unwatched z.parts.basins] : GoodOut z (execVecLog2 t v s) := by
  unfold execVecLog2; exact (goodOut_next (State.vecSlot_good h))

theorem execVecRecip_good {t : TileId} {v : VecOp} {s : State} (h : Good z s) [Unwatched z.parts.tregs] [Unwatched z.parts.objs] [Unwatched z.parts.win] [Unwatched z.parts.tiles] [Unwatched z.parts.basins] : GoodOut z (execVecRecip t v s) := by
  unfold execVecRecip; exact (goodOut_next (State.vecSlot_good h))

theorem execVecRsqrt_good {t : TileId} {v : VecOp} {s : State} (h : Good z s) [Unwatched z.parts.tregs] [Unwatched z.parts.objs] [Unwatched z.parts.win] [Unwatched z.parts.tiles] [Unwatched z.parts.basins] : GoodOut z (execVecRsqrt t v s) := by
  unfold execVecRsqrt; exact (goodOut_next (State.vecSlot_good h))

theorem execVecSqrt_good {t : TileId} {v : VecOp} {s : State} (h : Good z s) [Unwatched z.parts.tregs] [Unwatched z.parts.objs] [Unwatched z.parts.win] [Unwatched z.parts.tiles] [Unwatched z.parts.basins] : GoodOut z (execVecSqrt t v s) := by
  unfold execVecSqrt; exact (goodOut_next (State.vecSlot_good h))

theorem execVecTanh_good {t : TileId} {v : VecOp} {s : State} (h : Good z s) [Unwatched z.parts.tregs] [Unwatched z.parts.objs] [Unwatched z.parts.win] [Unwatched z.parts.tiles] [Unwatched z.parts.basins] : GoodOut z (execVecTanh t v s) := by
  unfold execVecTanh; exact (goodOut_next (State.vecSlot_good h))

theorem execVecSigmoid_good {t : TileId} {v : VecOp} {s : State} (h : Good z s) [Unwatched z.parts.tregs] [Unwatched z.parts.objs] [Unwatched z.parts.win] [Unwatched z.parts.tiles] [Unwatched z.parts.basins] : GoodOut z (execVecSigmoid t v s) := by
  unfold execVecSigmoid; exact (goodOut_next (State.vecSlot_good h))

theorem execVecSin_good {t : TileId} {v : VecOp} {s : State} (h : Good z s) [Unwatched z.parts.tregs] [Unwatched z.parts.objs] [Unwatched z.parts.win] [Unwatched z.parts.tiles] [Unwatched z.parts.basins] : GoodOut z (execVecSin t v s) := by
  unfold execVecSin; exact (goodOut_next (State.vecSlot_good h))

theorem execVecCos_good {t : TileId} {v : VecOp} {s : State} (h : Good z s) [Unwatched z.parts.tregs] [Unwatched z.parts.objs] [Unwatched z.parts.win] [Unwatched z.parts.tiles] [Unwatched z.parts.basins] : GoodOut z (execVecCos t v s) := by
  unfold execVecCos; exact (goodOut_next (State.vecSlot_good h))

theorem execVecRand_good {t : TileId} {v : VecOp} {s : State} (h : Good z s) [Unwatched z.parts.tregs] [Unwatched z.parts.objs] [Unwatched z.parts.win] [Unwatched z.parts.tiles] [Unwatched z.parts.basins] : GoodOut z (execVecRand t v s) := by
  unfold execVecRand; exact (goodOut_next (State.vecSlot_good h))

theorem execStreamRegWrite_good {t : TileId} {r : Fin 8} {w : Fin 6} {val : Word32} {s : State} (h : Good z s) [Unwatched z.parts.mem] [Unwatched z.parts.tregs] [Unwatched z.parts.objs] [Unwatched z.parts.win] [Unwatched z.parts.tiles] [Unwatched z.parts.basins] [Unwatched z.parts.irqQ] [Unwatched z.parts.srv] : GoodOut z (execStreamRegWrite t r w val s) := by
  unfold execStreamRegWrite; exact (goodOut_next (goodSnd_get (State.regWrite_good h)))

theorem State.foldWindow_good {s : State} (h : Good z s) [Unwatched z.parts.objs] [Unwatched z.parts.win] : Good z (State.foldWindow s) := by
  unfold State.foldWindow
  extract_lets +onlyGivenNames -merge -useContext -underBinder v1 v2
  have h1 : Good z v1 := good_foldl (fun _ _ h => State.setObj_good h) _ h
  have h2 : Good z v2 := good_foldl (fun _ _ h => State.setObj_good h) _ h1
  exact good_win h2 _ (Map.wf_nil _)

theorem State.measure_good {s : State} {m : BitVec 16 × BitVec 8 × Word64} (h : Good z s) [Unwatched z.parts.objs] : Good z (State.measure s m) := by
  unfold State.measure
  extract_lets +onlyGivenNames -merge -useContext -underBinder v1 v2 v3
  exact (good_ite (State.setObj_good h) h)

theorem State.paceFlags_good {s : State} {seams : List (Fin 8 × BitVec 8)} (h : Good z s) [Unwatched z.parts.objs] : Good z (State.paceFlags s seams) := by
  unfold State.paceFlags; exact (State.setObj_good h)

theorem State.windowRate_good {s : State} {b : Nat} (h : Good z s) [Unwatched z.parts.objs] [Unwatched z.parts.srv] : Good z (State.windowRate s b) := by
  unfold State.windowRate
  extract_lets +onlyGivenNames -merge -useContext -underBinder v1 v2 v3
  have h3 : Good z v3 := (State.setObj_good h)
  exact (good_srv h3 _)

theorem wf_foldl_put {α β : Type} [DecidableEq α] {d : Nat → α} {x : α} (hd : ∀ k, d k = x) (key : β → Nat) (val : β → α)
    (l : List β) : ∀ {m : Map α}, Map.wf m d = true →
      Map.wf (l.foldl (fun m e => Map.put m x (key e) (val e)) m) d = true := by
  induction l with
  | nil => exact fun h => h
  | cons e rest ih => exact fun h => ih (Map.wf_put _ _ _ _ _ (hd _).symm h)

theorem State.noticesAgain_good {s : State} (h : Good z s) [Unwatched z.parts.tiles] [Unwatched z.parts.power] : Good z (State.noticesAgain s) :=
  ⟨h.1, ⟨h.2.mem, h.2.tregs, h.2.objs, h.2.bar0, h.2.win, wf_foldl_put (fun _ => rfl) (fun e : Nat × Tile => e.1) _ _ (Map.wf_nil _),
    h.2.basins, h.2.hubs, h.2.seams⟩,
    { h.3 with tiles := unwatched inferInstance, power := unwatched inferInstance }⟩

theorem State.windowEnd_good {s : State} {m : List (BitVec 16 × BitVec 8 × Word64)} {seams : List (Fin 8 × BitVec 8)} (h : Good z s) [Unwatched z.parts.objs] [Unwatched z.parts.win] [Unwatched z.parts.tiles] [Unwatched z.parts.srv] [Unwatched z.parts.power] : Good z (State.windowEnd s m seams) := by
  unfold State.windowEnd
  extract_lets +onlyGivenNames -merge -useContext -underBinder v1 v3
  have h1 : Good z v1 := (State.paceFlags_good (good_foldl (fun _ _ h2 => (State.measure_good h2)) _ (State.foldWindow_good h)))
  have h3 : Good z v3 := (State.noticesAgain_good (good_foldl (fun _ _ h4 => (State.windowRate_good h4)) _ h1))
  exact (good_srv h3 _)

theorem execReportWindowEnd_good {m : List (BitVec 16 × BitVec 8 × Word64)} {seams : List (Fin 8 × BitVec 8)} {s : State} (h : Good z s) [Unwatched z.parts.objs] [Unwatched z.parts.win] [Unwatched z.parts.tiles] [Unwatched z.parts.srv] [Unwatched z.parts.power] : GoodOut z (execReportWindowEnd m seams s) := by
  unfold execReportWindowEnd; exact (goodOut_next (State.windowEnd_good h))

theorem State.towpathWrite_good {s : State} {t : Nat} {off : Nat} {v : Nat} (h : Good z s) [Unwatched z.parts.mem] [Unwatched z.parts.tregs] [Unwatched z.parts.objs] [Unwatched z.parts.win] [Unwatched z.parts.tiles] [Unwatched z.parts.basins] [Unwatched z.parts.irqQ] [Unwatched z.parts.srv] : Good z (State.towpathWrite s t off v) := by
  unfold State.towpathWrite; exact (State.towpathAsk_good h (fun _ h1 => (goodSnd_ite (goodSnd_mk h1) (State.regWrite_good h1))))

theorem State.contextWrite_good {s : State} {t : Nat} {c : Nat} {off : Nat} {v : Nat} (h : Good z s) [Unwatched z.parts.mem] [Unwatched z.parts.tregs] [Unwatched z.parts.objs] [Unwatched z.parts.win] [Unwatched z.parts.tiles] [Unwatched z.parts.basins] [Unwatched z.parts.irqQ] [Unwatched z.parts.srv] : Good z (State.contextWrite s t c off v) := by
  unfold State.contextWrite; exact (good_ite h (good_ite (State.taskFault_good h) (good_ite (State.taskFault_good h) (goodSnd_get (State.regWrite_good h)))))

theorem State.objectWrite_good {s : State} {i : Nat} {j : Nat} {v : Nat} (h : Good z s) [Unwatched z.parts.mem] [Unwatched z.parts.tregs] [Unwatched z.parts.objs] [Unwatched z.parts.bar0] [Unwatched z.parts.win] [Unwatched z.parts.tiles] [Unwatched z.parts.basins] [Unwatched z.parts.hubs] [Unwatched z.parts.seams] [Unwatched z.parts.alarmQ] [Unwatched z.parts.irqQ] [Unwatched z.parts.agentRsp] [Unwatched z.parts.link] [Unwatched z.parts.host] [Unwatched z.parts.srv] [Unwatched z.parts.keepers] [Unwatched z.parts.boot] [Unwatched z.parts.power] [Unwatched z.parts.cellar] [Unwatched z.parts.upd] [Unwatched z.parts.dbg] : Good z (State.objectWrite s i j v) := by
  unfold State.objectWrite
  exact (good_ite (by
    extract_lets +onlyGivenNames -merge -useContext -underBinder v1 v2
    have h2 : GoodSnd z v2 := (State.download_good h)
    exact (State.answer_good (goodSnd_get h2))) h)

theorem execRegisterWrite_good {target : RegTarget} {val : Word64} {s : State} (h : Good z s) [Unwatched z.parts.mem] [Unwatched z.parts.tregs] [Unwatched z.parts.objs] [Unwatched z.parts.bar0] [Unwatched z.parts.win] [Unwatched z.parts.tiles] [Unwatched z.parts.basins] [Unwatched z.parts.hubs] [Unwatched z.parts.seams] [Unwatched z.parts.alarmQ] [Unwatched z.parts.irqQ] [Unwatched z.parts.agentRsp] [Unwatched z.parts.link] [Unwatched z.parts.host] [Unwatched z.parts.srv] [Unwatched z.parts.keepers] [Unwatched z.parts.boot] [Unwatched z.parts.power] [Unwatched z.parts.cellar] [Unwatched z.parts.upd] [Unwatched z.parts.dbg] : GoodOut z (execRegisterWrite target val s) := by
  unfold execRegisterWrite
  exact (goodOut_next (by
    split
    · exact (State.towpathWrite_good h)
    · exact (State.contextWrite_good h)
    · exact (State.barWrite_good h)
    · exact (State.objectWrite_good h)))

end Sys2Proof.Machine
end

