-- ==== Sys2Proof/Laws/State.lean ====
section
/-! SUPPORT. What the named writes of the state leave as it was, and what a read after a write gives. -/

namespace Sys2Proof.Machine

open Sys2Proof

variable (s : State)

@[simp] theorem State.setTile_pending (t : Nat) (v : Tile) : (s.setTile t v).pending = s.pending := rfl
@[simp] theorem State.setTile_free (t : Nat) (v : Tile) : (s.setTile t v).free = s.free := rfl
@[simp] theorem State.setTile_mem (t : Nat) (v : Tile) : (s.setTile t v).mem = s.mem := rfl
@[simp] theorem State.setTile_tregs (t : Nat) (v : Tile) : (s.setTile t v).tregs = s.tregs := rfl
@[simp] theorem State.setTile_objs (t : Nat) (v : Tile) : (s.setTile t v).objs = s.objs := rfl
@[simp] theorem State.setTile_bar0 (t : Nat) (v : Tile) : (s.setTile t v).bar0 = s.bar0 := rfl
@[simp] theorem State.setTile_win (t : Nat) (v : Tile) : (s.setTile t v).win = s.win := rfl
@[simp] theorem State.setTile_basins (t : Nat) (v : Tile) : (s.setTile t v).basins = s.basins := rfl
@[simp] theorem State.setTile_hubs (t : Nat) (v : Tile) : (s.setTile t v).hubs = s.hubs := rfl
@[simp] theorem State.setTile_seams (t : Nat) (v : Tile) : (s.setTile t v).seams = s.seams := rfl
@[simp] theorem State.setTile_alarmQ (t : Nat) (v : Tile) : (s.setTile t v).alarmQ = s.alarmQ := rfl
@[simp] theorem State.setTile_irqQ (t : Nat) (v : Tile) : (s.setTile t v).irqQ = s.irqQ := rfl
@[simp] theorem State.setTile_agentRsp (t : Nat) (v : Tile) : (s.setTile t v).agentRsp = s.agentRsp := rfl
@[simp] theorem State.setTile_link (t : Nat) (v : Tile) : (s.setTile t v).link = s.link := rfl
@[simp] theorem State.setTile_host (t : Nat) (v : Tile) : (s.setTile t v).host = s.host := rfl
@[simp] theorem State.setTile_srv (t : Nat) (v : Tile) : (s.setTile t v).srv = s.srv := rfl
@[simp] theorem State.setTile_keepers (t : Nat) (v : Tile) : (s.setTile t v).keepers = s.keepers := rfl
@[simp] theorem State.setTile_boot (t : Nat) (v : Tile) : (s.setTile t v).boot = s.boot := rfl
@[simp] theorem State.setTile_power (t : Nat) (v : Tile) : (s.setTile t v).power = s.power := rfl
@[simp] theorem State.setTile_cellar (t : Nat) (v : Tile) : (s.setTile t v).cellar = s.cellar := rfl
@[simp] theorem State.setTile_upd (t : Nat) (v : Tile) : (s.setTile t v).upd = s.upd := rfl
@[simp] theorem State.setTile_dbg (t : Nat) (v : Tile) : (s.setTile t v).dbg = s.dbg := rfl
@[simp] theorem State.regN_setTile_read (t : Nat) (v : Tile) (u o : Nat) : (s.setTile t v).regN u o = s.regN u o := rfl
@[simp] theorem State.reg_setTile_read (t : Nat) (v : Tile) (u o : Nat) : (s.setTile t v).reg u o = s.reg u o := rfl
@[simp] theorem State.obj_setTile_read (t : Nat) (v : Tile) (k l : Nat) : (s.setTile t v).obj k l = s.obj k l := rfl
@[simp] theorem State.basin_setTile_read (t : Nat) (v : Tile) (c : Nat) : (s.setTile t v).basin c = s.basin c := rfl
@[simp] theorem State.word_setTile_read (t : Nat) (v : Tile) (a : Nat) : (s.setTile t v).word a = s.word a := rfl

@[simp] theorem State.updTile_pending (t : Nat) (f : Tile → Tile) : (s.updTile t f).pending = s.pending := rfl
@[simp] theorem State.updTile_free (t : Nat) (f : Tile → Tile) : (s.updTile t f).free = s.free := rfl
@[simp] theorem State.updTile_mem (t : Nat) (f : Tile → Tile) : (s.updTile t f).mem = s.mem := rfl
@[simp] theorem State.updTile_tregs (t : Nat) (f : Tile → Tile) : (s.updTile t f).tregs = s.tregs := rfl
@[simp] theorem State.updTile_objs (t : Nat) (f : Tile → Tile) : (s.updTile t f).objs = s.objs := rfl
@[simp] theorem State.updTile_bar0 (t : Nat) (f : Tile → Tile) : (s.updTile t f).bar0 = s.bar0 := rfl
@[simp] theorem State.updTile_win (t : Nat) (f : Tile → Tile) : (s.updTile t f).win = s.win := rfl
@[simp] theorem State.updTile_basins (t : Nat) (f : Tile → Tile) : (s.updTile t f).basins = s.basins := rfl
@[simp] theorem State.updTile_hubs (t : Nat) (f : Tile → Tile) : (s.updTile t f).hubs = s.hubs := rfl
@[simp] theorem State.updTile_seams (t : Nat) (f : Tile → Tile) : (s.updTile t f).seams = s.seams := rfl
@[simp] theorem State.updTile_alarmQ (t : Nat) (f : Tile → Tile) : (s.updTile t f).alarmQ = s.alarmQ := rfl
@[simp] theorem State.updTile_irqQ (t : Nat) (f : Tile → Tile) : (s.updTile t f).irqQ = s.irqQ := rfl
@[simp] theorem State.updTile_agentRsp (t : Nat) (f : Tile → Tile) : (s.updTile t f).agentRsp = s.agentRsp := rfl
@[simp] theorem State.updTile_link (t : Nat) (f : Tile → Tile) : (s.updTile t f).link = s.link := rfl
@[simp] theorem State.updTile_host (t : Nat) (f : Tile → Tile) : (s.updTile t f).host = s.host := rfl
@[simp] theorem State.updTile_srv (t : Nat) (f : Tile → Tile) : (s.updTile t f).srv = s.srv := rfl
@[simp] theorem State.updTile_keepers (t : Nat) (f : Tile → Tile) : (s.updTile t f).keepers = s.keepers := rfl
@[simp] theorem State.updTile_boot (t : Nat) (f : Tile → Tile) : (s.updTile t f).boot = s.boot := rfl
@[simp] theorem State.updTile_power (t : Nat) (f : Tile → Tile) : (s.updTile t f).power = s.power := rfl
@[simp] theorem State.updTile_cellar (t : Nat) (f : Tile → Tile) : (s.updTile t f).cellar = s.cellar := rfl
@[simp] theorem State.updTile_upd (t : Nat) (f : Tile → Tile) : (s.updTile t f).upd = s.upd := rfl
@[simp] theorem State.updTile_dbg (t : Nat) (f : Tile → Tile) : (s.updTile t f).dbg = s.dbg := rfl
@[simp] theorem State.regN_updTile_read (t : Nat) (f : Tile → Tile) (u o : Nat) : (s.updTile t f).regN u o = s.regN u o := rfl
@[simp] theorem State.reg_updTile_read (t : Nat) (f : Tile → Tile) (u o : Nat) : (s.updTile t f).reg u o = s.reg u o := rfl
@[simp] theorem State.obj_updTile_read (t : Nat) (f : Tile → Tile) (k l : Nat) : (s.updTile t f).obj k l = s.obj k l := rfl
@[simp] theorem State.basin_updTile_read (t : Nat) (f : Tile → Tile) (c : Nat) : (s.updTile t f).basin c = s.basin c := rfl
@[simp] theorem State.word_updTile_read (t : Nat) (f : Tile → Tile) (a : Nat) : (s.updTile t f).word a = s.word a := rfl

@[simp] theorem State.updTil_pending (t : Nat) (f : Tiller → Tiller) : (s.updTil t f).pending = s.pending := rfl
@[simp] theorem State.updTil_free (t : Nat) (f : Tiller → Tiller) : (s.updTil t f).free = s.free := rfl
@[simp] theorem State.updTil_mem (t : Nat) (f : Tiller → Tiller) : (s.updTil t f).mem = s.mem := rfl
@[simp] theorem State.updTil_tregs (t : Nat) (f : Tiller → Tiller) : (s.updTil t f).tregs = s.tregs := rfl
@[simp] theorem State.updTil_objs (t : Nat) (f : Tiller → Tiller) : (s.updTil t f).objs = s.objs := rfl
@[simp] theorem State.updTil_bar0 (t : Nat) (f : Tiller → Tiller) : (s.updTil t f).bar0 = s.bar0 := rfl
@[simp] theorem State.updTil_win (t : Nat) (f : Tiller → Tiller) : (s.updTil t f).win = s.win := rfl
@[simp] theorem State.updTil_basins (t : Nat) (f : Tiller → Tiller) : (s.updTil t f).basins = s.basins := rfl
@[simp] theorem State.updTil_hubs (t : Nat) (f : Tiller → Tiller) : (s.updTil t f).hubs = s.hubs := rfl
@[simp] theorem State.updTil_seams (t : Nat) (f : Tiller → Tiller) : (s.updTil t f).seams = s.seams := rfl
@[simp] theorem State.updTil_alarmQ (t : Nat) (f : Tiller → Tiller) : (s.updTil t f).alarmQ = s.alarmQ := rfl
@[simp] theorem State.updTil_irqQ (t : Nat) (f : Tiller → Tiller) : (s.updTil t f).irqQ = s.irqQ := rfl
@[simp] theorem State.updTil_agentRsp (t : Nat) (f : Tiller → Tiller) : (s.updTil t f).agentRsp = s.agentRsp := rfl
@[simp] theorem State.updTil_link (t : Nat) (f : Tiller → Tiller) : (s.updTil t f).link = s.link := rfl
@[simp] theorem State.updTil_host (t : Nat) (f : Tiller → Tiller) : (s.updTil t f).host = s.host := rfl
@[simp] theorem State.updTil_srv (t : Nat) (f : Tiller → Tiller) : (s.updTil t f).srv = s.srv := rfl
@[simp] theorem State.updTil_keepers (t : Nat) (f : Tiller → Tiller) : (s.updTil t f).keepers = s.keepers := rfl
@[simp] theorem State.updTil_boot (t : Nat) (f : Tiller → Tiller) : (s.updTil t f).boot = s.boot := rfl
@[simp] theorem State.updTil_power (t : Nat) (f : Tiller → Tiller) : (s.updTil t f).power = s.power := rfl
@[simp] theorem State.updTil_cellar (t : Nat) (f : Tiller → Tiller) : (s.updTil t f).cellar = s.cellar := rfl
@[simp] theorem State.updTil_upd (t : Nat) (f : Tiller → Tiller) : (s.updTil t f).upd = s.upd := rfl
@[simp] theorem State.updTil_dbg (t : Nat) (f : Tiller → Tiller) : (s.updTil t f).dbg = s.dbg := rfl
@[simp] theorem State.regN_updTil_read (t : Nat) (f : Tiller → Tiller) (u o : Nat) : (s.updTil t f).regN u o = s.regN u o := rfl
@[simp] theorem State.reg_updTil_read (t : Nat) (f : Tiller → Tiller) (u o : Nat) : (s.updTil t f).reg u o = s.reg u o := rfl
@[simp] theorem State.obj_updTil_read (t : Nat) (f : Tiller → Tiller) (k l : Nat) : (s.updTil t f).obj k l = s.obj k l := rfl
@[simp] theorem State.basin_updTil_read (t : Nat) (f : Tiller → Tiller) (c : Nat) : (s.updTil t f).basin c = s.basin c := rfl
@[simp] theorem State.word_updTil_read (t : Nat) (f : Tiller → Tiller) (a : Nat) : (s.updTil t f).word a = s.word a := rfl

@[simp] theorem State.takeSlot_pending (t n : Nat) : (s.takeSlot t n).pending = s.pending := rfl
@[simp] theorem State.takeSlot_free (t n : Nat) : (s.takeSlot t n).free = s.free := rfl
@[simp] theorem State.takeSlot_mem (t n : Nat) : (s.takeSlot t n).mem = s.mem := rfl
@[simp] theorem State.takeSlot_tregs (t n : Nat) : (s.takeSlot t n).tregs = s.tregs := rfl
@[simp] theorem State.takeSlot_objs (t n : Nat) : (s.takeSlot t n).objs = s.objs := rfl
@[simp] theorem State.takeSlot_bar0 (t n : Nat) : (s.takeSlot t n).bar0 = s.bar0 := rfl
@[simp] theorem State.takeSlot_win (t n : Nat) : (s.takeSlot t n).win = s.win := rfl
@[simp] theorem State.takeSlot_basins (t n : Nat) : (s.takeSlot t n).basins = s.basins := rfl
@[simp] theorem State.takeSlot_hubs (t n : Nat) : (s.takeSlot t n).hubs = s.hubs := rfl
@[simp] theorem State.takeSlot_seams (t n : Nat) : (s.takeSlot t n).seams = s.seams := rfl
@[simp] theorem State.takeSlot_alarmQ (t n : Nat) : (s.takeSlot t n).alarmQ = s.alarmQ := rfl
@[simp] theorem State.takeSlot_irqQ (t n : Nat) : (s.takeSlot t n).irqQ = s.irqQ := rfl
@[simp] theorem State.takeSlot_agentRsp (t n : Nat) : (s.takeSlot t n).agentRsp = s.agentRsp := rfl
@[simp] theorem State.takeSlot_link (t n : Nat) : (s.takeSlot t n).link = s.link := rfl
@[simp] theorem State.takeSlot_host (t n : Nat) : (s.takeSlot t n).host = s.host := rfl
@[simp] theorem State.takeSlot_srv (t n : Nat) : (s.takeSlot t n).srv = s.srv := rfl
@[simp] theorem State.takeSlot_keepers (t n : Nat) : (s.takeSlot t n).keepers = s.keepers := rfl
@[simp] theorem State.takeSlot_boot (t n : Nat) : (s.takeSlot t n).boot = s.boot := rfl
@[simp] theorem State.takeSlot_power (t n : Nat) : (s.takeSlot t n).power = s.power := rfl
@[simp] theorem State.takeSlot_cellar (t n : Nat) : (s.takeSlot t n).cellar = s.cellar := rfl
@[simp] theorem State.takeSlot_upd (t n : Nat) : (s.takeSlot t n).upd = s.upd := rfl
@[simp] theorem State.takeSlot_dbg (t n : Nat) : (s.takeSlot t n).dbg = s.dbg := rfl
@[simp] theorem State.regN_takeSlot_read (t n : Nat) (u o : Nat) : (s.takeSlot t n).regN u o = s.regN u o := rfl
@[simp] theorem State.reg_takeSlot_read (t n : Nat) (u o : Nat) : (s.takeSlot t n).reg u o = s.reg u o := rfl
@[simp] theorem State.obj_takeSlot_read (t n : Nat) (k l : Nat) : (s.takeSlot t n).obj k l = s.obj k l := rfl
@[simp] theorem State.basin_takeSlot_read (t n : Nat) (c : Nat) : (s.takeSlot t n).basin c = s.basin c := rfl
@[simp] theorem State.word_takeSlot_read (t n : Nat) (a : Nat) : (s.takeSlot t n).word a = s.word a := rfl

@[simp] theorem State.updArr_pending (t : Nat) (f : ArrayUnit → ArrayUnit) : (s.updArr t f).pending = s.pending := rfl
@[simp] theorem State.updArr_free (t : Nat) (f : ArrayUnit → ArrayUnit) : (s.updArr t f).free = s.free := rfl
@[simp] theorem State.updArr_mem (t : Nat) (f : ArrayUnit → ArrayUnit) : (s.updArr t f).mem = s.mem := rfl
@[simp] theorem State.updArr_tregs (t : Nat) (f : ArrayUnit → ArrayUnit) : (s.updArr t f).tregs = s.tregs := rfl
@[simp] theorem State.updArr_objs (t : Nat) (f : ArrayUnit → ArrayUnit) : (s.updArr t f).objs = s.objs := rfl
@[simp] theorem State.updArr_bar0 (t : Nat) (f : ArrayUnit → ArrayUnit) : (s.updArr t f).bar0 = s.bar0 := rfl
@[simp] theorem State.updArr_win (t : Nat) (f : ArrayUnit → ArrayUnit) : (s.updArr t f).win = s.win := rfl
@[simp] theorem State.updArr_basins (t : Nat) (f : ArrayUnit → ArrayUnit) : (s.updArr t f).basins = s.basins := rfl
@[simp] theorem State.updArr_hubs (t : Nat) (f : ArrayUnit → ArrayUnit) : (s.updArr t f).hubs = s.hubs := rfl
@[simp] theorem State.updArr_seams (t : Nat) (f : ArrayUnit → ArrayUnit) : (s.updArr t f).seams = s.seams := rfl
@[simp] theorem State.updArr_alarmQ (t : Nat) (f : ArrayUnit → ArrayUnit) : (s.updArr t f).alarmQ = s.alarmQ := rfl
@[simp] theorem State.updArr_irqQ (t : Nat) (f : ArrayUnit → ArrayUnit) : (s.updArr t f).irqQ = s.irqQ := rfl
@[simp] theorem State.updArr_agentRsp (t : Nat) (f : ArrayUnit → ArrayUnit) : (s.updArr t f).agentRsp = s.agentRsp := rfl
@[simp] theorem State.updArr_link (t : Nat) (f : ArrayUnit → ArrayUnit) : (s.updArr t f).link = s.link := rfl
@[simp] theorem State.updArr_host (t : Nat) (f : ArrayUnit → ArrayUnit) : (s.updArr t f).host = s.host := rfl
@[simp] theorem State.updArr_srv (t : Nat) (f : ArrayUnit → ArrayUnit) : (s.updArr t f).srv = s.srv := rfl
@[simp] theorem State.updArr_keepers (t : Nat) (f : ArrayUnit → ArrayUnit) : (s.updArr t f).keepers = s.keepers := rfl
@[simp] theorem State.updArr_boot (t : Nat) (f : ArrayUnit → ArrayUnit) : (s.updArr t f).boot = s.boot := rfl
@[simp] theorem State.updArr_power (t : Nat) (f : ArrayUnit → ArrayUnit) : (s.updArr t f).power = s.power := rfl
@[simp] theorem State.updArr_cellar (t : Nat) (f : ArrayUnit → ArrayUnit) : (s.updArr t f).cellar = s.cellar := rfl
@[simp] theorem State.updArr_upd (t : Nat) (f : ArrayUnit → ArrayUnit) : (s.updArr t f).upd = s.upd := rfl
@[simp] theorem State.updArr_dbg (t : Nat) (f : ArrayUnit → ArrayUnit) : (s.updArr t f).dbg = s.dbg := rfl
@[simp] theorem State.regN_updArr_read (t : Nat) (f : ArrayUnit → ArrayUnit) (u o : Nat) : (s.updArr t f).regN u o = s.regN u o := rfl
@[simp] theorem State.reg_updArr_read (t : Nat) (f : ArrayUnit → ArrayUnit) (u o : Nat) : (s.updArr t f).reg u o = s.reg u o := rfl
@[simp] theorem State.obj_updArr_read (t : Nat) (f : ArrayUnit → ArrayUnit) (k l : Nat) : (s.updArr t f).obj k l = s.obj k l := rfl
@[simp] theorem State.basin_updArr_read (t : Nat) (f : ArrayUnit → ArrayUnit) (c : Nat) : (s.updArr t f).basin c = s.basin c := rfl
@[simp] theorem State.word_updArr_read (t : Nat) (f : ArrayUnit → ArrayUnit) (a : Nat) : (s.updArr t f).word a = s.word a := rfl

@[simp] theorem State.updSw_pending (t : Nat) (f : Switch → Switch) : (s.updSw t f).pending = s.pending := rfl
@[simp] theorem State.updSw_free (t : Nat) (f : Switch → Switch) : (s.updSw t f).free = s.free := rfl
@[simp] theorem State.updSw_mem (t : Nat) (f : Switch → Switch) : (s.updSw t f).mem = s.mem := rfl
@[simp] theorem State.updSw_tregs (t : Nat) (f : Switch → Switch) : (s.updSw t f).tregs = s.tregs := rfl
@[simp] theorem State.updSw_objs (t : Nat) (f : Switch → Switch) : (s.updSw t f).objs = s.objs := rfl
@[simp] theorem State.updSw_bar0 (t : Nat) (f : Switch → Switch) : (s.updSw t f).bar0 = s.bar0 := rfl
@[simp] theorem State.updSw_win (t : Nat) (f : Switch → Switch) : (s.updSw t f).win = s.win := rfl
@[simp] theorem State.updSw_basins (t : Nat) (f : Switch → Switch) : (s.updSw t f).basins = s.basins := rfl
@[simp] theorem State.updSw_hubs (t : Nat) (f : Switch → Switch) : (s.updSw t f).hubs = s.hubs := rfl
@[simp] theorem State.updSw_seams (t : Nat) (f : Switch → Switch) : (s.updSw t f).seams = s.seams := rfl
@[simp] theorem State.updSw_alarmQ (t : Nat) (f : Switch → Switch) : (s.updSw t f).alarmQ = s.alarmQ := rfl
@[simp] theorem State.updSw_irqQ (t : Nat) (f : Switch → Switch) : (s.updSw t f).irqQ = s.irqQ := rfl
@[simp] theorem State.updSw_agentRsp (t : Nat) (f : Switch → Switch) : (s.updSw t f).agentRsp = s.agentRsp := rfl
@[simp] theorem State.updSw_link (t : Nat) (f : Switch → Switch) : (s.updSw t f).link = s.link := rfl
@[simp] theorem State.updSw_host (t : Nat) (f : Switch → Switch) : (s.updSw t f).host = s.host := rfl
@[simp] theorem State.updSw_srv (t : Nat) (f : Switch → Switch) : (s.updSw t f).srv = s.srv := rfl
@[simp] theorem State.updSw_keepers (t : Nat) (f : Switch → Switch) : (s.updSw t f).keepers = s.keepers := rfl
@[simp] theorem State.updSw_boot (t : Nat) (f : Switch → Switch) : (s.updSw t f).boot = s.boot := rfl
@[simp] theorem State.updSw_power (t : Nat) (f : Switch → Switch) : (s.updSw t f).power = s.power := rfl
@[simp] theorem State.updSw_cellar (t : Nat) (f : Switch → Switch) : (s.updSw t f).cellar = s.cellar := rfl
@[simp] theorem State.updSw_upd (t : Nat) (f : Switch → Switch) : (s.updSw t f).upd = s.upd := rfl
@[simp] theorem State.updSw_dbg (t : Nat) (f : Switch → Switch) : (s.updSw t f).dbg = s.dbg := rfl
@[simp] theorem State.regN_updSw_read (t : Nat) (f : Switch → Switch) (u o : Nat) : (s.updSw t f).regN u o = s.regN u o := rfl
@[simp] theorem State.reg_updSw_read (t : Nat) (f : Switch → Switch) (u o : Nat) : (s.updSw t f).reg u o = s.reg u o := rfl
@[simp] theorem State.obj_updSw_read (t : Nat) (f : Switch → Switch) (k l : Nat) : (s.updSw t f).obj k l = s.obj k l := rfl
@[simp] theorem State.basin_updSw_read (t : Nat) (f : Switch → Switch) (c : Nat) : (s.updSw t f).basin c = s.basin c := rfl
@[simp] theorem State.word_updSw_read (t : Nat) (f : Switch → Switch) (a : Nat) : (s.updSw t f).word a = s.word a := rfl

@[simp] theorem State.updLk_pending (t : Nat) (f : LockUnit → LockUnit) : (s.updLk t f).pending = s.pending := rfl
@[simp] theorem State.updLk_free (t : Nat) (f : LockUnit → LockUnit) : (s.updLk t f).free = s.free := rfl
@[simp] theorem State.updLk_mem (t : Nat) (f : LockUnit → LockUnit) : (s.updLk t f).mem = s.mem := rfl
@[simp] theorem State.updLk_tregs (t : Nat) (f : LockUnit → LockUnit) : (s.updLk t f).tregs = s.tregs := rfl
@[simp] theorem State.updLk_objs (t : Nat) (f : LockUnit → LockUnit) : (s.updLk t f).objs = s.objs := rfl
@[simp] theorem State.updLk_bar0 (t : Nat) (f : LockUnit → LockUnit) : (s.updLk t f).bar0 = s.bar0 := rfl
@[simp] theorem State.updLk_win (t : Nat) (f : LockUnit → LockUnit) : (s.updLk t f).win = s.win := rfl
@[simp] theorem State.updLk_basins (t : Nat) (f : LockUnit → LockUnit) : (s.updLk t f).basins = s.basins := rfl
@[simp] theorem State.updLk_hubs (t : Nat) (f : LockUnit → LockUnit) : (s.updLk t f).hubs = s.hubs := rfl
@[simp] theorem State.updLk_seams (t : Nat) (f : LockUnit → LockUnit) : (s.updLk t f).seams = s.seams := rfl
@[simp] theorem State.updLk_alarmQ (t : Nat) (f : LockUnit → LockUnit) : (s.updLk t f).alarmQ = s.alarmQ := rfl
@[simp] theorem State.updLk_irqQ (t : Nat) (f : LockUnit → LockUnit) : (s.updLk t f).irqQ = s.irqQ := rfl
@[simp] theorem State.updLk_agentRsp (t : Nat) (f : LockUnit → LockUnit) : (s.updLk t f).agentRsp = s.agentRsp := rfl
@[simp] theorem State.updLk_link (t : Nat) (f : LockUnit → LockUnit) : (s.updLk t f).link = s.link := rfl
@[simp] theorem State.updLk_host (t : Nat) (f : LockUnit → LockUnit) : (s.updLk t f).host = s.host := rfl
@[simp] theorem State.updLk_srv (t : Nat) (f : LockUnit → LockUnit) : (s.updLk t f).srv = s.srv := rfl
@[simp] theorem State.updLk_keepers (t : Nat) (f : LockUnit → LockUnit) : (s.updLk t f).keepers = s.keepers := rfl
@[simp] theorem State.updLk_boot (t : Nat) (f : LockUnit → LockUnit) : (s.updLk t f).boot = s.boot := rfl
@[simp] theorem State.updLk_power (t : Nat) (f : LockUnit → LockUnit) : (s.updLk t f).power = s.power := rfl
@[simp] theorem State.updLk_cellar (t : Nat) (f : LockUnit → LockUnit) : (s.updLk t f).cellar = s.cellar := rfl
@[simp] theorem State.updLk_upd (t : Nat) (f : LockUnit → LockUnit) : (s.updLk t f).upd = s.upd := rfl
@[simp] theorem State.updLk_dbg (t : Nat) (f : LockUnit → LockUnit) : (s.updLk t f).dbg = s.dbg := rfl
@[simp] theorem State.regN_updLk_read (t : Nat) (f : LockUnit → LockUnit) (u o : Nat) : (s.updLk t f).regN u o = s.regN u o := rfl
@[simp] theorem State.reg_updLk_read (t : Nat) (f : LockUnit → LockUnit) (u o : Nat) : (s.updLk t f).reg u o = s.reg u o := rfl
@[simp] theorem State.obj_updLk_read (t : Nat) (f : LockUnit → LockUnit) (k l : Nat) : (s.updLk t f).obj k l = s.obj k l := rfl
@[simp] theorem State.basin_updLk_read (t : Nat) (f : LockUnit → LockUnit) (c : Nat) : (s.updLk t f).basin c = s.basin c := rfl
@[simp] theorem State.word_updLk_read (t : Nat) (f : LockUnit → LockUnit) (a : Nat) : (s.updLk t f).word a = s.word a := rfl

@[simp] theorem State.updBank_pending (t b : Nat) (f : Bank → Bank) : (s.updBank t b f).pending = s.pending := rfl
@[simp] theorem State.updBank_free (t b : Nat) (f : Bank → Bank) : (s.updBank t b f).free = s.free := rfl
@[simp] theorem State.updBank_mem (t b : Nat) (f : Bank → Bank) : (s.updBank t b f).mem = s.mem := rfl
@[simp] theorem State.updBank_tregs (t b : Nat) (f : Bank → Bank) : (s.updBank t b f).tregs = s.tregs := rfl
@[simp] theorem State.updBank_objs (t b : Nat) (f : Bank → Bank) : (s.updBank t b f).objs = s.objs := rfl
@[simp] theorem State.updBank_bar0 (t b : Nat) (f : Bank → Bank) : (s.updBank t b f).bar0 = s.bar0 := rfl
@[simp] theorem State.updBank_win (t b : Nat) (f : Bank → Bank) : (s.updBank t b f).win = s.win := rfl
@[simp] theorem State.updBank_basins (t b : Nat) (f : Bank → Bank) : (s.updBank t b f).basins = s.basins := rfl
@[simp] theorem State.updBank_hubs (t b : Nat) (f : Bank → Bank) : (s.updBank t b f).hubs = s.hubs := rfl
@[simp] theorem State.updBank_seams (t b : Nat) (f : Bank → Bank) : (s.updBank t b f).seams = s.seams := rfl
@[simp] theorem State.updBank_alarmQ (t b : Nat) (f : Bank → Bank) : (s.updBank t b f).alarmQ = s.alarmQ := rfl
@[simp] theorem State.updBank_irqQ (t b : Nat) (f : Bank → Bank) : (s.updBank t b f).irqQ = s.irqQ := rfl
@[simp] theorem State.updBank_agentRsp (t b : Nat) (f : Bank → Bank) : (s.updBank t b f).agentRsp = s.agentRsp := rfl
@[simp] theorem State.updBank_link (t b : Nat) (f : Bank → Bank) : (s.updBank t b f).link = s.link := rfl
@[simp] theorem State.updBank_host (t b : Nat) (f : Bank → Bank) : (s.updBank t b f).host = s.host := rfl
@[simp] theorem State.updBank_srv (t b : Nat) (f : Bank → Bank) : (s.updBank t b f).srv = s.srv := rfl
@[simp] theorem State.updBank_keepers (t b : Nat) (f : Bank → Bank) : (s.updBank t b f).keepers = s.keepers := rfl
@[simp] theorem State.updBank_boot (t b : Nat) (f : Bank → Bank) : (s.updBank t b f).boot = s.boot := rfl
@[simp] theorem State.updBank_power (t b : Nat) (f : Bank → Bank) : (s.updBank t b f).power = s.power := rfl
@[simp] theorem State.updBank_cellar (t b : Nat) (f : Bank → Bank) : (s.updBank t b f).cellar = s.cellar := rfl
@[simp] theorem State.updBank_upd (t b : Nat) (f : Bank → Bank) : (s.updBank t b f).upd = s.upd := rfl
@[simp] theorem State.updBank_dbg (t b : Nat) (f : Bank → Bank) : (s.updBank t b f).dbg = s.dbg := rfl
@[simp] theorem State.regN_updBank_read (t b : Nat) (f : Bank → Bank) (u o : Nat) : (s.updBank t b f).regN u o = s.regN u o := rfl
@[simp] theorem State.reg_updBank_read (t b : Nat) (f : Bank → Bank) (u o : Nat) : (s.updBank t b f).reg u o = s.reg u o := rfl
@[simp] theorem State.obj_updBank_read (t b : Nat) (f : Bank → Bank) (k l : Nat) : (s.updBank t b f).obj k l = s.obj k l := rfl
@[simp] theorem State.basin_updBank_read (t b : Nat) (f : Bank → Bank) (c : Nat) : (s.updBank t b f).basin c = s.basin c := rfl
@[simp] theorem State.word_updBank_read (t b : Nat) (f : Bank → Bank) (a : Nat) : (s.updBank t b f).word a = s.word a := rfl

@[simp] theorem State.setReg_pending (t off : Nat) (v : Word64) : (s.setReg t off v).pending = s.pending := rfl
@[simp] theorem State.setReg_free (t off : Nat) (v : Word64) : (s.setReg t off v).free = s.free := rfl
@[simp] theorem State.setReg_mem (t off : Nat) (v : Word64) : (s.setReg t off v).mem = s.mem := rfl
@[simp] theorem State.setReg_objs (t off : Nat) (v : Word64) : (s.setReg t off v).objs = s.objs := rfl
@[simp] theorem State.setReg_bar0 (t off : Nat) (v : Word64) : (s.setReg t off v).bar0 = s.bar0 := rfl
@[simp] theorem State.setReg_win (t off : Nat) (v : Word64) : (s.setReg t off v).win = s.win := rfl
@[simp] theorem State.setReg_tiles (t off : Nat) (v : Word64) : (s.setReg t off v).tiles = s.tiles := rfl
@[simp] theorem State.setReg_basins (t off : Nat) (v : Word64) : (s.setReg t off v).basins = s.basins := rfl
@[simp] theorem State.setReg_hubs (t off : Nat) (v : Word64) : (s.setReg t off v).hubs = s.hubs := rfl
@[simp] theorem State.setReg_seams (t off : Nat) (v : Word64) : (s.setReg t off v).seams = s.seams := rfl
@[simp] theorem State.setReg_alarmQ (t off : Nat) (v : Word64) : (s.setReg t off v).alarmQ = s.alarmQ := rfl
@[simp] theorem State.setReg_irqQ (t off : Nat) (v : Word64) : (s.setReg t off v).irqQ = s.irqQ := rfl
@[simp] theorem State.setReg_agentRsp (t off : Nat) (v : Word64) : (s.setReg t off v).agentRsp = s.agentRsp := rfl
@[simp] theorem State.setReg_link (t off : Nat) (v : Word64) : (s.setReg t off v).link = s.link := rfl
@[simp] theorem State.setReg_host (t off : Nat) (v : Word64) : (s.setReg t off v).host = s.host := rfl
@[simp] theorem State.setReg_srv (t off : Nat) (v : Word64) : (s.setReg t off v).srv = s.srv := rfl
@[simp] theorem State.setReg_keepers (t off : Nat) (v : Word64) : (s.setReg t off v).keepers = s.keepers := rfl
@[simp] theorem State.setReg_boot (t off : Nat) (v : Word64) : (s.setReg t off v).boot = s.boot := rfl
@[simp] theorem State.setReg_power (t off : Nat) (v : Word64) : (s.setReg t off v).power = s.power := rfl
@[simp] theorem State.setReg_cellar (t off : Nat) (v : Word64) : (s.setReg t off v).cellar = s.cellar := rfl
@[simp] theorem State.setReg_upd (t off : Nat) (v : Word64) : (s.setReg t off v).upd = s.upd := rfl
@[simp] theorem State.setReg_dbg (t off : Nat) (v : Word64) : (s.setReg t off v).dbg = s.dbg := rfl
@[simp] theorem State.tile_setReg_read (t off : Nat) (v : Word64) (u : Nat) : (s.setReg t off v).tile u = s.tile u := rfl
@[simp] theorem State.obj_setReg_read (t off : Nat) (v : Word64) (k l : Nat) : (s.setReg t off v).obj k l = s.obj k l := rfl
@[simp] theorem State.basin_setReg_read (t off : Nat) (v : Word64) (c : Nat) : (s.setReg t off v).basin c = s.basin c := rfl
@[simp] theorem State.word_setReg_read (t off : Nat) (v : Word64) (a : Nat) : (s.setReg t off v).word a = s.word a := rfl

@[simp] theorem State.setRegN_pending (t off n : Nat) : (s.setRegN t off n).pending = s.pending := rfl
@[simp] theorem State.setRegN_free (t off n : Nat) : (s.setRegN t off n).free = s.free := rfl
@[simp] theorem State.setRegN_mem (t off n : Nat) : (s.setRegN t off n).mem = s.mem := rfl
@[simp] theorem State.setRegN_objs (t off n : Nat) : (s.setRegN t off n).objs = s.objs := rfl
@[simp] theorem State.setRegN_bar0 (t off n : Nat) : (s.setRegN t off n).bar0 = s.bar0 := rfl
@[simp] theorem State.setRegN_win (t off n : Nat) : (s.setRegN t off n).win = s.win := rfl
@[simp] theorem State.setRegN_tiles (t off n : Nat) : (s.setRegN t off n).tiles = s.tiles := rfl
@[simp] theorem State.setRegN_basins (t off n : Nat) : (s.setRegN t off n).basins = s.basins := rfl
@[simp] theorem State.setRegN_hubs (t off n : Nat) : (s.setRegN t off n).hubs = s.hubs := rfl
@[simp] theorem State.setRegN_seams (t off n : Nat) : (s.setRegN t off n).seams = s.seams := rfl
@[simp] theorem State.setRegN_alarmQ (t off n : Nat) : (s.setRegN t off n).alarmQ = s.alarmQ := rfl
@[simp] theorem State.setRegN_irqQ (t off n : Nat) : (s.setRegN t off n).irqQ = s.irqQ := rfl
@[simp] theorem State.setRegN_agentRsp (t off n : Nat) : (s.setRegN t off n).agentRsp = s.agentRsp := rfl
@[simp] theorem State.setRegN_link (t off n : Nat) : (s.setRegN t off n).link = s.link := rfl
@[simp] theorem State.setRegN_host (t off n : Nat) : (s.setRegN t off n).host = s.host := rfl
@[simp] theorem State.setRegN_srv (t off n : Nat) : (s.setRegN t off n).srv = s.srv := rfl
@[simp] theorem State.setRegN_keepers (t off n : Nat) : (s.setRegN t off n).keepers = s.keepers := rfl
@[simp] theorem State.setRegN_boot (t off n : Nat) : (s.setRegN t off n).boot = s.boot := rfl
@[simp] theorem State.setRegN_power (t off n : Nat) : (s.setRegN t off n).power = s.power := rfl
@[simp] theorem State.setRegN_cellar (t off n : Nat) : (s.setRegN t off n).cellar = s.cellar := rfl
@[simp] theorem State.setRegN_upd (t off n : Nat) : (s.setRegN t off n).upd = s.upd := rfl
@[simp] theorem State.setRegN_dbg (t off n : Nat) : (s.setRegN t off n).dbg = s.dbg := rfl
@[simp] theorem State.tile_setRegN_read (t off n : Nat) (u : Nat) : (s.setRegN t off n).tile u = s.tile u := rfl
@[simp] theorem State.obj_setRegN_read (t off n : Nat) (k l : Nat) : (s.setRegN t off n).obj k l = s.obj k l := rfl
@[simp] theorem State.basin_setRegN_read (t off n : Nat) (c : Nat) : (s.setRegN t off n).basin c = s.basin c := rfl
@[simp] theorem State.word_setRegN_read (t off n : Nat) (a : Nat) : (s.setRegN t off n).word a = s.word a := rfl

@[simp] theorem State.bumpReg_pending (t off n top : Nat) : (s.bumpReg t off n top).pending = s.pending := rfl
@[simp] theorem State.bumpReg_free (t off n top : Nat) : (s.bumpReg t off n top).free = s.free := rfl
@[simp] theorem State.bumpReg_mem (t off n top : Nat) : (s.bumpReg t off n top).mem = s.mem := rfl
@[simp] theorem State.bumpReg_objs (t off n top : Nat) : (s.bumpReg t off n top).objs = s.objs := rfl
@[simp] theorem State.bumpReg_bar0 (t off n top : Nat) : (s.bumpReg t off n top).bar0 = s.bar0 := rfl
@[simp] theorem State.bumpReg_win (t off n top : Nat) : (s.bumpReg t off n top).win = s.win := rfl
@[simp] theorem State.bumpReg_tiles (t off n top : Nat) : (s.bumpReg t off n top).tiles = s.tiles := rfl
@[simp] theorem State.bumpReg_basins (t off n top : Nat) : (s.bumpReg t off n top).basins = s.basins := rfl
@[simp] theorem State.bumpReg_hubs (t off n top : Nat) : (s.bumpReg t off n top).hubs = s.hubs := rfl
@[simp] theorem State.bumpReg_seams (t off n top : Nat) : (s.bumpReg t off n top).seams = s.seams := rfl
@[simp] theorem State.bumpReg_alarmQ (t off n top : Nat) : (s.bumpReg t off n top).alarmQ = s.alarmQ := rfl
@[simp] theorem State.bumpReg_irqQ (t off n top : Nat) : (s.bumpReg t off n top).irqQ = s.irqQ := rfl
@[simp] theorem State.bumpReg_agentRsp (t off n top : Nat) : (s.bumpReg t off n top).agentRsp = s.agentRsp := rfl
@[simp] theorem State.bumpReg_link (t off n top : Nat) : (s.bumpReg t off n top).link = s.link := rfl
@[simp] theorem State.bumpReg_host (t off n top : Nat) : (s.bumpReg t off n top).host = s.host := rfl
@[simp] theorem State.bumpReg_srv (t off n top : Nat) : (s.bumpReg t off n top).srv = s.srv := rfl
@[simp] theorem State.bumpReg_keepers (t off n top : Nat) : (s.bumpReg t off n top).keepers = s.keepers := rfl
@[simp] theorem State.bumpReg_boot (t off n top : Nat) : (s.bumpReg t off n top).boot = s.boot := rfl
@[simp] theorem State.bumpReg_power (t off n top : Nat) : (s.bumpReg t off n top).power = s.power := rfl
@[simp] theorem State.bumpReg_cellar (t off n top : Nat) : (s.bumpReg t off n top).cellar = s.cellar := rfl
@[simp] theorem State.bumpReg_upd (t off n top : Nat) : (s.bumpReg t off n top).upd = s.upd := rfl
@[simp] theorem State.bumpReg_dbg (t off n top : Nat) : (s.bumpReg t off n top).dbg = s.dbg := rfl
@[simp] theorem State.tile_bumpReg_read (t off n top : Nat) (u : Nat) : (s.bumpReg t off n top).tile u = s.tile u := rfl
@[simp] theorem State.obj_bumpReg_read (t off n top : Nat) (k l : Nat) : (s.bumpReg t off n top).obj k l = s.obj k l := rfl
@[simp] theorem State.basin_bumpReg_read (t off n top : Nat) (c : Nat) : (s.bumpReg t off n top).basin c = s.basin c := rfl
@[simp] theorem State.word_bumpReg_read (t off n top : Nat) (a : Nat) : (s.bumpReg t off n top).word a = s.word a := rfl

@[simp] theorem State.countReg_pending (t off n : Nat) : (s.countReg t off n).pending = s.pending := rfl
@[simp] theorem State.countReg_free (t off n : Nat) : (s.countReg t off n).free = s.free := rfl
@[simp] theorem State.countReg_mem (t off n : Nat) : (s.countReg t off n).mem = s.mem := rfl
@[simp] theorem State.countReg_objs (t off n : Nat) : (s.countReg t off n).objs = s.objs := rfl
@[simp] theorem State.countReg_bar0 (t off n : Nat) : (s.countReg t off n).bar0 = s.bar0 := rfl
@[simp] theorem State.countReg_win (t off n : Nat) : (s.countReg t off n).win = s.win := rfl
@[simp] theorem State.countReg_tiles (t off n : Nat) : (s.countReg t off n).tiles = s.tiles := rfl
@[simp] theorem State.countReg_basins (t off n : Nat) : (s.countReg t off n).basins = s.basins := rfl
@[simp] theorem State.countReg_hubs (t off n : Nat) : (s.countReg t off n).hubs = s.hubs := rfl
@[simp] theorem State.countReg_seams (t off n : Nat) : (s.countReg t off n).seams = s.seams := rfl
@[simp] theorem State.countReg_alarmQ (t off n : Nat) : (s.countReg t off n).alarmQ = s.alarmQ := rfl
@[simp] theorem State.countReg_irqQ (t off n : Nat) : (s.countReg t off n).irqQ = s.irqQ := rfl
@[simp] theorem State.countReg_agentRsp (t off n : Nat) : (s.countReg t off n).agentRsp = s.agentRsp := rfl
@[simp] theorem State.countReg_link (t off n : Nat) : (s.countReg t off n).link = s.link := rfl
@[simp] theorem State.countReg_host (t off n : Nat) : (s.countReg t off n).host = s.host := rfl
@[simp] theorem State.countReg_srv (t off n : Nat) : (s.countReg t off n).srv = s.srv := rfl
@[simp] theorem State.countReg_keepers (t off n : Nat) : (s.countReg t off n).keepers = s.keepers := rfl
@[simp] theorem State.countReg_boot (t off n : Nat) : (s.countReg t off n).boot = s.boot := rfl
@[simp] theorem State.countReg_power (t off n : Nat) : (s.countReg t off n).power = s.power := rfl
@[simp] theorem State.countReg_cellar (t off n : Nat) : (s.countReg t off n).cellar = s.cellar := rfl
@[simp] theorem State.countReg_upd (t off n : Nat) : (s.countReg t off n).upd = s.upd := rfl
@[simp] theorem State.countReg_dbg (t off n : Nat) : (s.countReg t off n).dbg = s.dbg := rfl
@[simp] theorem State.tile_countReg_read (t off n : Nat) (u : Nat) : (s.countReg t off n).tile u = s.tile u := rfl
@[simp] theorem State.obj_countReg_read (t off n : Nat) (k l : Nat) : (s.countReg t off n).obj k l = s.obj k l := rfl
@[simp] theorem State.basin_countReg_read (t off n : Nat) (c : Nat) : (s.countReg t off n).basin c = s.basin c := rfl
@[simp] theorem State.word_countReg_read (t off n : Nat) (a : Nat) : (s.countReg t off n).word a = s.word a := rfl

@[simp] theorem State.setRegBit_pending (t off i : Nat) (b : Bool) : (s.setRegBit t off i b).pending = s.pending := rfl
@[simp] theorem State.setRegBit_free (t off i : Nat) (b : Bool) : (s.setRegBit t off i b).free = s.free := rfl
@[simp] theorem State.setRegBit_mem (t off i : Nat) (b : Bool) : (s.setRegBit t off i b).mem = s.mem := rfl
@[simp] theorem State.setRegBit_objs (t off i : Nat) (b : Bool) : (s.setRegBit t off i b).objs = s.objs := rfl
@[simp] theorem State.setRegBit_bar0 (t off i : Nat) (b : Bool) : (s.setRegBit t off i b).bar0 = s.bar0 := rfl
@[simp] theorem State.setRegBit_win (t off i : Nat) (b : Bool) : (s.setRegBit t off i b).win = s.win := rfl
@[simp] theorem State.setRegBit_tiles (t off i : Nat) (b : Bool) : (s.setRegBit t off i b).tiles = s.tiles := rfl
@[simp] theorem State.setRegBit_basins (t off i : Nat) (b : Bool) : (s.setRegBit t off i b).basins = s.basins := rfl
@[simp] theorem State.setRegBit_hubs (t off i : Nat) (b : Bool) : (s.setRegBit t off i b).hubs = s.hubs := rfl
@[simp] theorem State.setRegBit_seams (t off i : Nat) (b : Bool) : (s.setRegBit t off i b).seams = s.seams := rfl
@[simp] theorem State.setRegBit_alarmQ (t off i : Nat) (b : Bool) : (s.setRegBit t off i b).alarmQ = s.alarmQ := rfl
@[simp] theorem State.setRegBit_irqQ (t off i : Nat) (b : Bool) : (s.setRegBit t off i b).irqQ = s.irqQ := rfl
@[simp] theorem State.setRegBit_agentRsp (t off i : Nat) (b : Bool) : (s.setRegBit t off i b).agentRsp = s.agentRsp := rfl
@[simp] theorem State.setRegBit_link (t off i : Nat) (b : Bool) : (s.setRegBit t off i b).link = s.link := rfl
@[simp] theorem State.setRegBit_host (t off i : Nat) (b : Bool) : (s.setRegBit t off i b).host = s.host := rfl
@[simp] theorem State.setRegBit_srv (t off i : Nat) (b : Bool) : (s.setRegBit t off i b).srv = s.srv := rfl
@[simp] theorem State.setRegBit_keepers (t off i : Nat) (b : Bool) : (s.setRegBit t off i b).keepers = s.keepers := rfl
@[simp] theorem State.setRegBit_boot (t off i : Nat) (b : Bool) : (s.setRegBit t off i b).boot = s.boot := rfl
@[simp] theorem State.setRegBit_power (t off i : Nat) (b : Bool) : (s.setRegBit t off i b).power = s.power := rfl
@[simp] theorem State.setRegBit_cellar (t off i : Nat) (b : Bool) : (s.setRegBit t off i b).cellar = s.cellar := rfl
@[simp] theorem State.setRegBit_upd (t off i : Nat) (b : Bool) : (s.setRegBit t off i b).upd = s.upd := rfl
@[simp] theorem State.setRegBit_dbg (t off i : Nat) (b : Bool) : (s.setRegBit t off i b).dbg = s.dbg := rfl
@[simp] theorem State.tile_setRegBit_read (t off i : Nat) (b : Bool) (u : Nat) : (s.setRegBit t off i b).tile u = s.tile u := rfl
@[simp] theorem State.obj_setRegBit_read (t off i : Nat) (b : Bool) (k l : Nat) : (s.setRegBit t off i b).obj k l = s.obj k l := rfl
@[simp] theorem State.basin_setRegBit_read (t off i : Nat) (b : Bool) (c : Nat) : (s.setRegBit t off i b).basin c = s.basin c := rfl
@[simp] theorem State.word_setRegBit_read (t off i : Nat) (b : Bool) (a : Nat) : (s.setRegBit t off i b).word a = s.word a := rfl

@[simp] theorem State.setBasin_pending (b : Nat) (v : Basin) : (s.setBasin b v).pending = s.pending := rfl
@[simp] theorem State.setBasin_free (b : Nat) (v : Basin) : (s.setBasin b v).free = s.free := rfl
@[simp] theorem State.setBasin_mem (b : Nat) (v : Basin) : (s.setBasin b v).mem = s.mem := rfl
@[simp] theorem State.setBasin_tregs (b : Nat) (v : Basin) : (s.setBasin b v).tregs = s.tregs := rfl
@[simp] theorem State.setBasin_objs (b : Nat) (v : Basin) : (s.setBasin b v).objs = s.objs := rfl
@[simp] theorem State.setBasin_bar0 (b : Nat) (v : Basin) : (s.setBasin b v).bar0 = s.bar0 := rfl
@[simp] theorem State.setBasin_win (b : Nat) (v : Basin) : (s.setBasin b v).win = s.win := rfl
@[simp] theorem State.setBasin_tiles (b : Nat) (v : Basin) : (s.setBasin b v).tiles = s.tiles := rfl
@[simp] theorem State.setBasin_hubs (b : Nat) (v : Basin) : (s.setBasin b v).hubs = s.hubs := rfl
@[simp] theorem State.setBasin_seams (b : Nat) (v : Basin) : (s.setBasin b v).seams = s.seams := rfl
@[simp] theorem State.setBasin_alarmQ (b : Nat) (v : Basin) : (s.setBasin b v).alarmQ = s.alarmQ := rfl
@[simp] theorem State.setBasin_irqQ (b : Nat) (v : Basin) : (s.setBasin b v).irqQ = s.irqQ := rfl
@[simp] theorem State.setBasin_agentRsp (b : Nat) (v : Basin) : (s.setBasin b v).agentRsp = s.agentRsp := rfl
@[simp] theorem State.setBasin_link (b : Nat) (v : Basin) : (s.setBasin b v).link = s.link := rfl
@[simp] theorem State.setBasin_host (b : Nat) (v : Basin) : (s.setBasin b v).host = s.host := rfl
@[simp] theorem State.setBasin_srv (b : Nat) (v : Basin) : (s.setBasin b v).srv = s.srv := rfl
@[simp] theorem State.setBasin_keepers (b : Nat) (v : Basin) : (s.setBasin b v).keepers = s.keepers := rfl
@[simp] theorem State.setBasin_boot (b : Nat) (v : Basin) : (s.setBasin b v).boot = s.boot := rfl
@[simp] theorem State.setBasin_power (b : Nat) (v : Basin) : (s.setBasin b v).power = s.power := rfl
@[simp] theorem State.setBasin_cellar (b : Nat) (v : Basin) : (s.setBasin b v).cellar = s.cellar := rfl
@[simp] theorem State.setBasin_upd (b : Nat) (v : Basin) : (s.setBasin b v).upd = s.upd := rfl
@[simp] theorem State.setBasin_dbg (b : Nat) (v : Basin) : (s.setBasin b v).dbg = s.dbg := rfl
@[simp] theorem State.tile_setBasin_read (b : Nat) (v : Basin) (u : Nat) : (s.setBasin b v).tile u = s.tile u := rfl
@[simp] theorem State.regN_setBasin_read (b : Nat) (v : Basin) (u o : Nat) : (s.setBasin b v).regN u o = s.regN u o := rfl
@[simp] theorem State.reg_setBasin_read (b : Nat) (v : Basin) (u o : Nat) : (s.setBasin b v).reg u o = s.reg u o := rfl
@[simp] theorem State.obj_setBasin_read (b : Nat) (v : Basin) (k l : Nat) : (s.setBasin b v).obj k l = s.obj k l := rfl
@[simp] theorem State.word_setBasin_read (b : Nat) (v : Basin) (a : Nat) : (s.setBasin b v).word a = s.word a := rfl

@[simp] theorem State.updBasin_pending (b : Nat) (f : Basin → Basin) : (s.updBasin b f).pending = s.pending := rfl
@[simp] theorem State.updBasin_free (b : Nat) (f : Basin → Basin) : (s.updBasin b f).free = s.free := rfl
@[simp] theorem State.updBasin_mem (b : Nat) (f : Basin → Basin) : (s.updBasin b f).mem = s.mem := rfl
@[simp] theorem State.updBasin_tregs (b : Nat) (f : Basin → Basin) : (s.updBasin b f).tregs = s.tregs := rfl
@[simp] theorem State.updBasin_objs (b : Nat) (f : Basin → Basin) : (s.updBasin b f).objs = s.objs := rfl
@[simp] theorem State.updBasin_bar0 (b : Nat) (f : Basin → Basin) : (s.updBasin b f).bar0 = s.bar0 := rfl
@[simp] theorem State.updBasin_win (b : Nat) (f : Basin → Basin) : (s.updBasin b f).win = s.win := rfl
@[simp] theorem State.updBasin_tiles (b : Nat) (f : Basin → Basin) : (s.updBasin b f).tiles = s.tiles := rfl
@[simp] theorem State.updBasin_hubs (b : Nat) (f : Basin → Basin) : (s.updBasin b f).hubs = s.hubs := rfl
@[simp] theorem State.updBasin_seams (b : Nat) (f : Basin → Basin) : (s.updBasin b f).seams = s.seams := rfl
@[simp] theorem State.updBasin_alarmQ (b : Nat) (f : Basin → Basin) : (s.updBasin b f).alarmQ = s.alarmQ := rfl
@[simp] theorem State.updBasin_irqQ (b : Nat) (f : Basin → Basin) : (s.updBasin b f).irqQ = s.irqQ := rfl
@[simp] theorem State.updBasin_agentRsp (b : Nat) (f : Basin → Basin) : (s.updBasin b f).agentRsp = s.agentRsp := rfl
@[simp] theorem State.updBasin_link (b : Nat) (f : Basin → Basin) : (s.updBasin b f).link = s.link := rfl
@[simp] theorem State.updBasin_host (b : Nat) (f : Basin → Basin) : (s.updBasin b f).host = s.host := rfl
@[simp] theorem State.updBasin_srv (b : Nat) (f : Basin → Basin) : (s.updBasin b f).srv = s.srv := rfl
@[simp] theorem State.updBasin_keepers (b : Nat) (f : Basin → Basin) : (s.updBasin b f).keepers = s.keepers := rfl
@[simp] theorem State.updBasin_boot (b : Nat) (f : Basin → Basin) : (s.updBasin b f).boot = s.boot := rfl
@[simp] theorem State.updBasin_power (b : Nat) (f : Basin → Basin) : (s.updBasin b f).power = s.power := rfl
@[simp] theorem State.updBasin_cellar (b : Nat) (f : Basin → Basin) : (s.updBasin b f).cellar = s.cellar := rfl
@[simp] theorem State.updBasin_upd (b : Nat) (f : Basin → Basin) : (s.updBasin b f).upd = s.upd := rfl
@[simp] theorem State.updBasin_dbg (b : Nat) (f : Basin → Basin) : (s.updBasin b f).dbg = s.dbg := rfl
@[simp] theorem State.tile_updBasin_read (b : Nat) (f : Basin → Basin) (u : Nat) : (s.updBasin b f).tile u = s.tile u := rfl
@[simp] theorem State.regN_updBasin_read (b : Nat) (f : Basin → Basin) (u o : Nat) : (s.updBasin b f).regN u o = s.regN u o := rfl
@[simp] theorem State.reg_updBasin_read (b : Nat) (f : Basin → Basin) (u o : Nat) : (s.updBasin b f).reg u o = s.reg u o := rfl
@[simp] theorem State.obj_updBasin_read (b : Nat) (f : Basin → Basin) (k l : Nat) : (s.updBasin b f).obj k l = s.obj k l := rfl
@[simp] theorem State.word_updBasin_read (b : Nat) (f : Basin → Basin) (a : Nat) : (s.updBasin b f).word a = s.word a := rfl

@[simp] theorem State.setWord_pending (k : Nat) (w : CodeWord) : (s.setWord k w).pending = s.pending := rfl
@[simp] theorem State.setWord_free (k : Nat) (w : CodeWord) : (s.setWord k w).free = s.free := rfl
@[simp] theorem State.setWord_tregs (k : Nat) (w : CodeWord) : (s.setWord k w).tregs = s.tregs := rfl
@[simp] theorem State.setWord_objs (k : Nat) (w : CodeWord) : (s.setWord k w).objs = s.objs := rfl
@[simp] theorem State.setWord_bar0 (k : Nat) (w : CodeWord) : (s.setWord k w).bar0 = s.bar0 := rfl
@[simp] theorem State.setWord_win (k : Nat) (w : CodeWord) : (s.setWord k w).win = s.win := rfl
@[simp] theorem State.setWord_tiles (k : Nat) (w : CodeWord) : (s.setWord k w).tiles = s.tiles := rfl
@[simp] theorem State.setWord_basins (k : Nat) (w : CodeWord) : (s.setWord k w).basins = s.basins := rfl
@[simp] theorem State.setWord_hubs (k : Nat) (w : CodeWord) : (s.setWord k w).hubs = s.hubs := rfl
@[simp] theorem State.setWord_seams (k : Nat) (w : CodeWord) : (s.setWord k w).seams = s.seams := rfl
@[simp] theorem State.setWord_alarmQ (k : Nat) (w : CodeWord) : (s.setWord k w).alarmQ = s.alarmQ := rfl
@[simp] theorem State.setWord_irqQ (k : Nat) (w : CodeWord) : (s.setWord k w).irqQ = s.irqQ := rfl
@[simp] theorem State.setWord_agentRsp (k : Nat) (w : CodeWord) : (s.setWord k w).agentRsp = s.agentRsp := rfl
@[simp] theorem State.setWord_link (k : Nat) (w : CodeWord) : (s.setWord k w).link = s.link := rfl
@[simp] theorem State.setWord_host (k : Nat) (w : CodeWord) : (s.setWord k w).host = s.host := rfl
@[simp] theorem State.setWord_srv (k : Nat) (w : CodeWord) : (s.setWord k w).srv = s.srv := rfl
@[simp] theorem State.setWord_keepers (k : Nat) (w : CodeWord) : (s.setWord k w).keepers = s.keepers := rfl
@[simp] theorem State.setWord_boot (k : Nat) (w : CodeWord) : (s.setWord k w).boot = s.boot := rfl
@[simp] theorem State.setWord_power (k : Nat) (w : CodeWord) : (s.setWord k w).power = s.power := rfl
@[simp] theorem State.setWord_cellar (k : Nat) (w : CodeWord) : (s.setWord k w).cellar = s.cellar := rfl
@[simp] theorem State.setWord_upd (k : Nat) (w : CodeWord) : (s.setWord k w).upd = s.upd := rfl
@[simp] theorem State.setWord_dbg (k : Nat) (w : CodeWord) : (s.setWord k w).dbg = s.dbg := rfl
@[simp] theorem State.tile_setWord_read (k : Nat) (w : CodeWord) (u : Nat) : (s.setWord k w).tile u = s.tile u := rfl
@[simp] theorem State.regN_setWord_read (k : Nat) (w : CodeWord) (u o : Nat) : (s.setWord k w).regN u o = s.regN u o := rfl
@[simp] theorem State.reg_setWord_read (k : Nat) (w : CodeWord) (u o : Nat) : (s.setWord k w).reg u o = s.reg u o := rfl
@[simp] theorem State.obj_setWord_read (k : Nat) (w : CodeWord) (k l : Nat) : (s.setWord k w).obj k l = s.obj k l := rfl
@[simp] theorem State.basin_setWord_read (k : Nat) (w : CodeWord) (c : Nat) : (s.setWord k w).basin c = s.basin c := rfl

@[simp] theorem State.setObj_pending (i j n : Nat) : (s.setObj i j n).pending = s.pending := rfl
@[simp] theorem State.setObj_free (i j n : Nat) : (s.setObj i j n).free = s.free := rfl
@[simp] theorem State.setObj_mem (i j n : Nat) : (s.setObj i j n).mem = s.mem := rfl
@[simp] theorem State.setObj_tregs (i j n : Nat) : (s.setObj i j n).tregs = s.tregs := rfl
@[simp] theorem State.setObj_bar0 (i j n : Nat) : (s.setObj i j n).bar0 = s.bar0 := rfl
@[simp] theorem State.setObj_win (i j n : Nat) : (s.setObj i j n).win = s.win := rfl
@[simp] theorem State.setObj_tiles (i j n : Nat) : (s.setObj i j n).tiles = s.tiles := rfl
@[simp] theorem State.setObj_basins (i j n : Nat) : (s.setObj i j n).basins = s.basins := rfl
@[simp] theorem State.setObj_hubs (i j n : Nat) : (s.setObj i j n).hubs = s.hubs := rfl
@[simp] theorem State.setObj_seams (i j n : Nat) : (s.setObj i j n).seams = s.seams := rfl
@[simp] theorem State.setObj_alarmQ (i j n : Nat) : (s.setObj i j n).alarmQ = s.alarmQ := rfl
@[simp] theorem State.setObj_irqQ (i j n : Nat) : (s.setObj i j n).irqQ = s.irqQ := rfl
@[simp] theorem State.setObj_agentRsp (i j n : Nat) : (s.setObj i j n).agentRsp = s.agentRsp := rfl
@[simp] theorem State.setObj_link (i j n : Nat) : (s.setObj i j n).link = s.link := rfl
@[simp] theorem State.setObj_host (i j n : Nat) : (s.setObj i j n).host = s.host := rfl
@[simp] theorem State.setObj_srv (i j n : Nat) : (s.setObj i j n).srv = s.srv := rfl
@[simp] theorem State.setObj_keepers (i j n : Nat) : (s.setObj i j n).keepers = s.keepers := rfl
@[simp] theorem State.setObj_boot (i j n : Nat) : (s.setObj i j n).boot = s.boot := rfl
@[simp] theorem State.setObj_power (i j n : Nat) : (s.setObj i j n).power = s.power := rfl
@[simp] theorem State.setObj_cellar (i j n : Nat) : (s.setObj i j n).cellar = s.cellar := rfl
@[simp] theorem State.setObj_upd (i j n : Nat) : (s.setObj i j n).upd = s.upd := rfl
@[simp] theorem State.setObj_dbg (i j n : Nat) : (s.setObj i j n).dbg = s.dbg := rfl
@[simp] theorem State.tile_setObj_read (i j n : Nat) (u : Nat) : (s.setObj i j n).tile u = s.tile u := rfl
@[simp] theorem State.regN_setObj_read (i j n : Nat) (u o : Nat) : (s.setObj i j n).regN u o = s.regN u o := rfl
@[simp] theorem State.reg_setObj_read (i j n : Nat) (u o : Nat) : (s.setObj i j n).reg u o = s.reg u o := rfl
@[simp] theorem State.basin_setObj_read (i j n : Nat) (c : Nat) : (s.setObj i j n).basin c = s.basin c := rfl
@[simp] theorem State.word_setObj_read (i j n : Nat) (a : Nat) : (s.setObj i j n).word a = s.word a := rfl

@[simp] theorem State.bumpObj_pending (i j n top : Nat) : (s.bumpObj i j n top).pending = s.pending := rfl
@[simp] theorem State.bumpObj_free (i j n top : Nat) : (s.bumpObj i j n top).free = s.free := rfl
@[simp] theorem State.bumpObj_mem (i j n top : Nat) : (s.bumpObj i j n top).mem = s.mem := rfl
@[simp] theorem State.bumpObj_tregs (i j n top : Nat) : (s.bumpObj i j n top).tregs = s.tregs := rfl
@[simp] theorem State.bumpObj_bar0 (i j n top : Nat) : (s.bumpObj i j n top).bar0 = s.bar0 := rfl
@[simp] theorem State.bumpObj_win (i j n top : Nat) : (s.bumpObj i j n top).win = s.win := rfl
@[simp] theorem State.bumpObj_tiles (i j n top : Nat) : (s.bumpObj i j n top).tiles = s.tiles := rfl
@[simp] theorem State.bumpObj_basins (i j n top : Nat) : (s.bumpObj i j n top).basins = s.basins := rfl
@[simp] theorem State.bumpObj_hubs (i j n top : Nat) : (s.bumpObj i j n top).hubs = s.hubs := rfl
@[simp] theorem State.bumpObj_seams (i j n top : Nat) : (s.bumpObj i j n top).seams = s.seams := rfl
@[simp] theorem State.bumpObj_alarmQ (i j n top : Nat) : (s.bumpObj i j n top).alarmQ = s.alarmQ := rfl
@[simp] theorem State.bumpObj_irqQ (i j n top : Nat) : (s.bumpObj i j n top).irqQ = s.irqQ := rfl
@[simp] theorem State.bumpObj_agentRsp (i j n top : Nat) : (s.bumpObj i j n top).agentRsp = s.agentRsp := rfl
@[simp] theorem State.bumpObj_link (i j n top : Nat) : (s.bumpObj i j n top).link = s.link := rfl
@[simp] theorem State.bumpObj_host (i j n top : Nat) : (s.bumpObj i j n top).host = s.host := rfl
@[simp] theorem State.bumpObj_srv (i j n top : Nat) : (s.bumpObj i j n top).srv = s.srv := rfl
@[simp] theorem State.bumpObj_keepers (i j n top : Nat) : (s.bumpObj i j n top).keepers = s.keepers := rfl
@[simp] theorem State.bumpObj_boot (i j n top : Nat) : (s.bumpObj i j n top).boot = s.boot := rfl
@[simp] theorem State.bumpObj_power (i j n top : Nat) : (s.bumpObj i j n top).power = s.power := rfl
@[simp] theorem State.bumpObj_cellar (i j n top : Nat) : (s.bumpObj i j n top).cellar = s.cellar := rfl
@[simp] theorem State.bumpObj_upd (i j n top : Nat) : (s.bumpObj i j n top).upd = s.upd := rfl
@[simp] theorem State.bumpObj_dbg (i j n top : Nat) : (s.bumpObj i j n top).dbg = s.dbg := rfl
@[simp] theorem State.tile_bumpObj_read (i j n top : Nat) (u : Nat) : (s.bumpObj i j n top).tile u = s.tile u := rfl
@[simp] theorem State.regN_bumpObj_read (i j n top : Nat) (u o : Nat) : (s.bumpObj i j n top).regN u o = s.regN u o := rfl
@[simp] theorem State.reg_bumpObj_read (i j n top : Nat) (u o : Nat) : (s.bumpObj i j n top).reg u o = s.reg u o := rfl
@[simp] theorem State.basin_bumpObj_read (i j n top : Nat) (c : Nat) : (s.bumpObj i j n top).basin c = s.basin c := rfl
@[simp] theorem State.word_bumpObj_read (i j n top : Nat) (a : Nat) : (s.bumpObj i j n top).word a = s.word a := rfl

@[simp] theorem State.bumpWin_pending (k n : Nat) : (s.bumpWin k n).pending = s.pending := rfl
@[simp] theorem State.bumpWin_free (k n : Nat) : (s.bumpWin k n).free = s.free := rfl
@[simp] theorem State.bumpWin_mem (k n : Nat) : (s.bumpWin k n).mem = s.mem := rfl
@[simp] theorem State.bumpWin_tregs (k n : Nat) : (s.bumpWin k n).tregs = s.tregs := rfl
@[simp] theorem State.bumpWin_objs (k n : Nat) : (s.bumpWin k n).objs = s.objs := rfl
@[simp] theorem State.bumpWin_bar0 (k n : Nat) : (s.bumpWin k n).bar0 = s.bar0 := rfl
@[simp] theorem State.bumpWin_tiles (k n : Nat) : (s.bumpWin k n).tiles = s.tiles := rfl
@[simp] theorem State.bumpWin_basins (k n : Nat) : (s.bumpWin k n).basins = s.basins := rfl
@[simp] theorem State.bumpWin_hubs (k n : Nat) : (s.bumpWin k n).hubs = s.hubs := rfl
@[simp] theorem State.bumpWin_seams (k n : Nat) : (s.bumpWin k n).seams = s.seams := rfl
@[simp] theorem State.bumpWin_alarmQ (k n : Nat) : (s.bumpWin k n).alarmQ = s.alarmQ := rfl
@[simp] theorem State.bumpWin_irqQ (k n : Nat) : (s.bumpWin k n).irqQ = s.irqQ := rfl
@[simp] theorem State.bumpWin_agentRsp (k n : Nat) : (s.bumpWin k n).agentRsp = s.agentRsp := rfl
@[simp] theorem State.bumpWin_link (k n : Nat) : (s.bumpWin k n).link = s.link := rfl
@[simp] theorem State.bumpWin_host (k n : Nat) : (s.bumpWin k n).host = s.host := rfl
@[simp] theorem State.bumpWin_srv (k n : Nat) : (s.bumpWin k n).srv = s.srv := rfl
@[simp] theorem State.bumpWin_keepers (k n : Nat) : (s.bumpWin k n).keepers = s.keepers := rfl
@[simp] theorem State.bumpWin_boot (k n : Nat) : (s.bumpWin k n).boot = s.boot := rfl
@[simp] theorem State.bumpWin_power (k n : Nat) : (s.bumpWin k n).power = s.power := rfl
@[simp] theorem State.bumpWin_cellar (k n : Nat) : (s.bumpWin k n).cellar = s.cellar := rfl
@[simp] theorem State.bumpWin_upd (k n : Nat) : (s.bumpWin k n).upd = s.upd := rfl
@[simp] theorem State.bumpWin_dbg (k n : Nat) : (s.bumpWin k n).dbg = s.dbg := rfl
@[simp] theorem State.tile_bumpWin_read (k n : Nat) (u : Nat) : (s.bumpWin k n).tile u = s.tile u := rfl
@[simp] theorem State.regN_bumpWin_read (k n : Nat) (u o : Nat) : (s.bumpWin k n).regN u o = s.regN u o := rfl
@[simp] theorem State.reg_bumpWin_read (k n : Nat) (u o : Nat) : (s.bumpWin k n).reg u o = s.reg u o := rfl
@[simp] theorem State.obj_bumpWin_read (k n : Nat) (k l : Nat) : (s.bumpWin k n).obj k l = s.obj k l := rfl
@[simp] theorem State.basin_bumpWin_read (k n : Nat) (c : Nat) : (s.bumpWin k n).basin c = s.basin c := rfl
@[simp] theorem State.word_bumpWin_read (k n : Nat) (a : Nat) : (s.bumpWin k n).word a = s.word a := rfl

@[simp] theorem State.maxWin_pending (k n : Nat) : (s.maxWin k n).pending = s.pending := rfl
@[simp] theorem State.maxWin_free (k n : Nat) : (s.maxWin k n).free = s.free := rfl
@[simp] theorem State.maxWin_mem (k n : Nat) : (s.maxWin k n).mem = s.mem := rfl
@[simp] theorem State.maxWin_tregs (k n : Nat) : (s.maxWin k n).tregs = s.tregs := rfl
@[simp] theorem State.maxWin_objs (k n : Nat) : (s.maxWin k n).objs = s.objs := rfl
@[simp] theorem State.maxWin_bar0 (k n : Nat) : (s.maxWin k n).bar0 = s.bar0 := rfl
@[simp] theorem State.maxWin_tiles (k n : Nat) : (s.maxWin k n).tiles = s.tiles := rfl
@[simp] theorem State.maxWin_basins (k n : Nat) : (s.maxWin k n).basins = s.basins := rfl
@[simp] theorem State.maxWin_hubs (k n : Nat) : (s.maxWin k n).hubs = s.hubs := rfl
@[simp] theorem State.maxWin_seams (k n : Nat) : (s.maxWin k n).seams = s.seams := rfl
@[simp] theorem State.maxWin_alarmQ (k n : Nat) : (s.maxWin k n).alarmQ = s.alarmQ := rfl
@[simp] theorem State.maxWin_irqQ (k n : Nat) : (s.maxWin k n).irqQ = s.irqQ := rfl
@[simp] theorem State.maxWin_agentRsp (k n : Nat) : (s.maxWin k n).agentRsp = s.agentRsp := rfl
@[simp] theorem State.maxWin_link (k n : Nat) : (s.maxWin k n).link = s.link := rfl
@[simp] theorem State.maxWin_host (k n : Nat) : (s.maxWin k n).host = s.host := rfl
@[simp] theorem State.maxWin_srv (k n : Nat) : (s.maxWin k n).srv = s.srv := rfl
@[simp] theorem State.maxWin_keepers (k n : Nat) : (s.maxWin k n).keepers = s.keepers := rfl
@[simp] theorem State.maxWin_boot (k n : Nat) : (s.maxWin k n).boot = s.boot := rfl
@[simp] theorem State.maxWin_power (k n : Nat) : (s.maxWin k n).power = s.power := rfl
@[simp] theorem State.maxWin_cellar (k n : Nat) : (s.maxWin k n).cellar = s.cellar := rfl
@[simp] theorem State.maxWin_upd (k n : Nat) : (s.maxWin k n).upd = s.upd := rfl
@[simp] theorem State.maxWin_dbg (k n : Nat) : (s.maxWin k n).dbg = s.dbg := rfl
@[simp] theorem State.tile_maxWin_read (k n : Nat) (u : Nat) : (s.maxWin k n).tile u = s.tile u := rfl
@[simp] theorem State.regN_maxWin_read (k n : Nat) (u o : Nat) : (s.maxWin k n).regN u o = s.regN u o := rfl
@[simp] theorem State.reg_maxWin_read (k n : Nat) (u o : Nat) : (s.maxWin k n).reg u o = s.reg u o := rfl
@[simp] theorem State.obj_maxWin_read (k n : Nat) (k l : Nat) : (s.maxWin k n).obj k l = s.obj k l := rfl
@[simp] theorem State.basin_maxWin_read (k n : Nat) (c : Nat) : (s.maxWin k n).basin c = s.basin c := rfl
@[simp] theorem State.word_maxWin_read (k n : Nat) (a : Nat) : (s.maxWin k n).word a = s.word a := rfl

@[simp] theorem State.agentAlarm_pending (c d b : Nat) : (s.agentAlarm c d b).pending = s.pending := rfl
@[simp] theorem State.agentAlarm_free (c d b : Nat) : (s.agentAlarm c d b).free = s.free := rfl
@[simp] theorem State.agentAlarm_mem (c d b : Nat) : (s.agentAlarm c d b).mem = s.mem := rfl
@[simp] theorem State.agentAlarm_tregs (c d b : Nat) : (s.agentAlarm c d b).tregs = s.tregs := rfl
@[simp] theorem State.agentAlarm_objs (c d b : Nat) : (s.agentAlarm c d b).objs = s.objs := rfl
@[simp] theorem State.agentAlarm_bar0 (c d b : Nat) : (s.agentAlarm c d b).bar0 = s.bar0 := rfl
@[simp] theorem State.agentAlarm_win (c d b : Nat) : (s.agentAlarm c d b).win = s.win := rfl
@[simp] theorem State.agentAlarm_tiles (c d b : Nat) : (s.agentAlarm c d b).tiles = s.tiles := rfl
@[simp] theorem State.agentAlarm_basins (c d b : Nat) : (s.agentAlarm c d b).basins = s.basins := rfl
@[simp] theorem State.agentAlarm_hubs (c d b : Nat) : (s.agentAlarm c d b).hubs = s.hubs := rfl
@[simp] theorem State.agentAlarm_seams (c d b : Nat) : (s.agentAlarm c d b).seams = s.seams := rfl
@[simp] theorem State.agentAlarm_irqQ (c d b : Nat) : (s.agentAlarm c d b).irqQ = s.irqQ := rfl
@[simp] theorem State.agentAlarm_agentRsp (c d b : Nat) : (s.agentAlarm c d b).agentRsp = s.agentRsp := rfl
@[simp] theorem State.agentAlarm_link (c d b : Nat) : (s.agentAlarm c d b).link = s.link := rfl
@[simp] theorem State.agentAlarm_host (c d b : Nat) : (s.agentAlarm c d b).host = s.host := rfl
@[simp] theorem State.agentAlarm_srv (c d b : Nat) : (s.agentAlarm c d b).srv = s.srv := rfl
@[simp] theorem State.agentAlarm_keepers (c d b : Nat) : (s.agentAlarm c d b).keepers = s.keepers := rfl
@[simp] theorem State.agentAlarm_boot (c d b : Nat) : (s.agentAlarm c d b).boot = s.boot := rfl
@[simp] theorem State.agentAlarm_power (c d b : Nat) : (s.agentAlarm c d b).power = s.power := rfl
@[simp] theorem State.agentAlarm_cellar (c d b : Nat) : (s.agentAlarm c d b).cellar = s.cellar := rfl
@[simp] theorem State.agentAlarm_upd (c d b : Nat) : (s.agentAlarm c d b).upd = s.upd := rfl
@[simp] theorem State.agentAlarm_dbg (c d b : Nat) : (s.agentAlarm c d b).dbg = s.dbg := rfl
@[simp] theorem State.tile_agentAlarm_read (c d b : Nat) (u : Nat) : (s.agentAlarm c d b).tile u = s.tile u := rfl
@[simp] theorem State.regN_agentAlarm_read (c d b : Nat) (u o : Nat) : (s.agentAlarm c d b).regN u o = s.regN u o := rfl
@[simp] theorem State.reg_agentAlarm_read (c d b : Nat) (u o : Nat) : (s.agentAlarm c d b).reg u o = s.reg u o := rfl
@[simp] theorem State.obj_agentAlarm_read (c d b : Nat) (k l : Nat) : (s.agentAlarm c d b).obj k l = s.obj k l := rfl
@[simp] theorem State.basin_agentAlarm_read (c d b : Nat) (c : Nat) : (s.agentAlarm c d b).basin c = s.basin c := rfl
@[simp] theorem State.word_agentAlarm_read (c d b : Nat) (a : Nat) : (s.agentAlarm c d b).word a = s.word a := rfl

@[simp] theorem State.agentIrq_pending (c d : Nat) : (s.agentIrq c d).pending = s.pending := rfl
@[simp] theorem State.agentIrq_free (c d : Nat) : (s.agentIrq c d).free = s.free := rfl
@[simp] theorem State.agentIrq_mem (c d : Nat) : (s.agentIrq c d).mem = s.mem := rfl
@[simp] theorem State.agentIrq_tregs (c d : Nat) : (s.agentIrq c d).tregs = s.tregs := rfl
@[simp] theorem State.agentIrq_objs (c d : Nat) : (s.agentIrq c d).objs = s.objs := rfl
@[simp] theorem State.agentIrq_bar0 (c d : Nat) : (s.agentIrq c d).bar0 = s.bar0 := rfl
@[simp] theorem State.agentIrq_win (c d : Nat) : (s.agentIrq c d).win = s.win := rfl
@[simp] theorem State.agentIrq_tiles (c d : Nat) : (s.agentIrq c d).tiles = s.tiles := rfl
@[simp] theorem State.agentIrq_basins (c d : Nat) : (s.agentIrq c d).basins = s.basins := rfl
@[simp] theorem State.agentIrq_hubs (c d : Nat) : (s.agentIrq c d).hubs = s.hubs := rfl
@[simp] theorem State.agentIrq_seams (c d : Nat) : (s.agentIrq c d).seams = s.seams := rfl
@[simp] theorem State.agentIrq_alarmQ (c d : Nat) : (s.agentIrq c d).alarmQ = s.alarmQ := rfl
@[simp] theorem State.agentIrq_agentRsp (c d : Nat) : (s.agentIrq c d).agentRsp = s.agentRsp := rfl
@[simp] theorem State.agentIrq_link (c d : Nat) : (s.agentIrq c d).link = s.link := rfl
@[simp] theorem State.agentIrq_host (c d : Nat) : (s.agentIrq c d).host = s.host := rfl
@[simp] theorem State.agentIrq_srv (c d : Nat) : (s.agentIrq c d).srv = s.srv := rfl
@[simp] theorem State.agentIrq_keepers (c d : Nat) : (s.agentIrq c d).keepers = s.keepers := rfl
@[simp] theorem State.agentIrq_boot (c d : Nat) : (s.agentIrq c d).boot = s.boot := rfl
@[simp] theorem State.agentIrq_power (c d : Nat) : (s.agentIrq c d).power = s.power := rfl
@[simp] theorem State.agentIrq_cellar (c d : Nat) : (s.agentIrq c d).cellar = s.cellar := rfl
@[simp] theorem State.agentIrq_upd (c d : Nat) : (s.agentIrq c d).upd = s.upd := rfl
@[simp] theorem State.agentIrq_dbg (c d : Nat) : (s.agentIrq c d).dbg = s.dbg := rfl
@[simp] theorem State.tile_agentIrq_read (c d : Nat) (u : Nat) : (s.agentIrq c d).tile u = s.tile u := rfl
@[simp] theorem State.regN_agentIrq_read (c d : Nat) (u o : Nat) : (s.agentIrq c d).regN u o = s.regN u o := rfl
@[simp] theorem State.reg_agentIrq_read (c d : Nat) (u o : Nat) : (s.agentIrq c d).reg u o = s.reg u o := rfl
@[simp] theorem State.obj_agentIrq_read (c d : Nat) (k l : Nat) : (s.agentIrq c d).obj k l = s.obj k l := rfl
@[simp] theorem State.basin_agentIrq_read (c d : Nat) (c : Nat) : (s.agentIrq c d).basin c = s.basin c := rfl
@[simp] theorem State.word_agentIrq_read (c d : Nat) (a : Nat) : (s.agentIrq c d).word a = s.word a := rfl

@[simp] theorem State.updHub_pending (h : Nat) (f : Hub → Hub) : (s.updHub h f).pending = s.pending := rfl
@[simp] theorem State.updHub_free (h : Nat) (f : Hub → Hub) : (s.updHub h f).free = s.free := rfl
@[simp] theorem State.updHub_mem (h : Nat) (f : Hub → Hub) : (s.updHub h f).mem = s.mem := rfl
@[simp] theorem State.updHub_tregs (h : Nat) (f : Hub → Hub) : (s.updHub h f).tregs = s.tregs := rfl
@[simp] theorem State.updHub_objs (h : Nat) (f : Hub → Hub) : (s.updHub h f).objs = s.objs := rfl
@[simp] theorem State.updHub_bar0 (h : Nat) (f : Hub → Hub) : (s.updHub h f).bar0 = s.bar0 := rfl
@[simp] theorem State.updHub_win (h : Nat) (f : Hub → Hub) : (s.updHub h f).win = s.win := rfl
@[simp] theorem State.updHub_tiles (h : Nat) (f : Hub → Hub) : (s.updHub h f).tiles = s.tiles := rfl
@[simp] theorem State.updHub_basins (h : Nat) (f : Hub → Hub) : (s.updHub h f).basins = s.basins := rfl
@[simp] theorem State.updHub_seams (h : Nat) (f : Hub → Hub) : (s.updHub h f).seams = s.seams := rfl
@[simp] theorem State.updHub_alarmQ (h : Nat) (f : Hub → Hub) : (s.updHub h f).alarmQ = s.alarmQ := rfl
@[simp] theorem State.updHub_irqQ (h : Nat) (f : Hub → Hub) : (s.updHub h f).irqQ = s.irqQ := rfl
@[simp] theorem State.updHub_agentRsp (h : Nat) (f : Hub → Hub) : (s.updHub h f).agentRsp = s.agentRsp := rfl
@[simp] theorem State.updHub_link (h : Nat) (f : Hub → Hub) : (s.updHub h f).link = s.link := rfl
@[simp] theorem State.updHub_host (h : Nat) (f : Hub → Hub) : (s.updHub h f).host = s.host := rfl
@[simp] theorem State.updHub_srv (h : Nat) (f : Hub → Hub) : (s.updHub h f).srv = s.srv := rfl
@[simp] theorem State.updHub_keepers (h : Nat) (f : Hub → Hub) : (s.updHub h f).keepers = s.keepers := rfl
@[simp] theorem State.updHub_boot (h : Nat) (f : Hub → Hub) : (s.updHub h f).boot = s.boot := rfl
@[simp] theorem State.updHub_power (h : Nat) (f : Hub → Hub) : (s.updHub h f).power = s.power := rfl
@[simp] theorem State.updHub_cellar (h : Nat) (f : Hub → Hub) : (s.updHub h f).cellar = s.cellar := rfl
@[simp] theorem State.updHub_upd (h : Nat) (f : Hub → Hub) : (s.updHub h f).upd = s.upd := rfl
@[simp] theorem State.updHub_dbg (h : Nat) (f : Hub → Hub) : (s.updHub h f).dbg = s.dbg := rfl
@[simp] theorem State.tile_updHub_read (h : Nat) (f : Hub → Hub) (u : Nat) : (s.updHub h f).tile u = s.tile u := rfl
@[simp] theorem State.regN_updHub_read (h : Nat) (f : Hub → Hub) (u o : Nat) : (s.updHub h f).regN u o = s.regN u o := rfl
@[simp] theorem State.reg_updHub_read (h : Nat) (f : Hub → Hub) (u o : Nat) : (s.updHub h f).reg u o = s.reg u o := rfl
@[simp] theorem State.obj_updHub_read (h : Nat) (f : Hub → Hub) (k l : Nat) : (s.updHub h f).obj k l = s.obj k l := rfl
@[simp] theorem State.basin_updHub_read (h : Nat) (f : Hub → Hub) (c : Nat) : (s.updHub h f).basin c = s.basin c := rfl
@[simp] theorem State.word_updHub_read (h : Nat) (f : Hub → Hub) (a : Nat) : (s.updHub h f).word a = s.word a := rfl

@[simp] theorem State.updPort_pending (p : Nat) (f : Port → Port) : (s.updPort p f).pending = s.pending := rfl
@[simp] theorem State.updPort_free (p : Nat) (f : Port → Port) : (s.updPort p f).free = s.free := rfl
@[simp] theorem State.updPort_mem (p : Nat) (f : Port → Port) : (s.updPort p f).mem = s.mem := rfl
@[simp] theorem State.updPort_tregs (p : Nat) (f : Port → Port) : (s.updPort p f).tregs = s.tregs := rfl
@[simp] theorem State.updPort_objs (p : Nat) (f : Port → Port) : (s.updPort p f).objs = s.objs := rfl
@[simp] theorem State.updPort_bar0 (p : Nat) (f : Port → Port) : (s.updPort p f).bar0 = s.bar0 := rfl
@[simp] theorem State.updPort_win (p : Nat) (f : Port → Port) : (s.updPort p f).win = s.win := rfl
@[simp] theorem State.updPort_tiles (p : Nat) (f : Port → Port) : (s.updPort p f).tiles = s.tiles := rfl
@[simp] theorem State.updPort_basins (p : Nat) (f : Port → Port) : (s.updPort p f).basins = s.basins := rfl
@[simp] theorem State.updPort_hubs (p : Nat) (f : Port → Port) : (s.updPort p f).hubs = s.hubs := rfl
@[simp] theorem State.updPort_seams (p : Nat) (f : Port → Port) : (s.updPort p f).seams = s.seams := rfl
@[simp] theorem State.updPort_alarmQ (p : Nat) (f : Port → Port) : (s.updPort p f).alarmQ = s.alarmQ := rfl
@[simp] theorem State.updPort_irqQ (p : Nat) (f : Port → Port) : (s.updPort p f).irqQ = s.irqQ := rfl
@[simp] theorem State.updPort_agentRsp (p : Nat) (f : Port → Port) : (s.updPort p f).agentRsp = s.agentRsp := rfl
@[simp] theorem State.updPort_host (p : Nat) (f : Port → Port) : (s.updPort p f).host = s.host := rfl
@[simp] theorem State.updPort_srv (p : Nat) (f : Port → Port) : (s.updPort p f).srv = s.srv := rfl
@[simp] theorem State.updPort_keepers (p : Nat) (f : Port → Port) : (s.updPort p f).keepers = s.keepers := rfl
@[simp] theorem State.updPort_boot (p : Nat) (f : Port → Port) : (s.updPort p f).boot = s.boot := rfl
@[simp] theorem State.updPort_power (p : Nat) (f : Port → Port) : (s.updPort p f).power = s.power := rfl
@[simp] theorem State.updPort_cellar (p : Nat) (f : Port → Port) : (s.updPort p f).cellar = s.cellar := rfl
@[simp] theorem State.updPort_upd (p : Nat) (f : Port → Port) : (s.updPort p f).upd = s.upd := rfl
@[simp] theorem State.updPort_dbg (p : Nat) (f : Port → Port) : (s.updPort p f).dbg = s.dbg := rfl
@[simp] theorem State.tile_updPort_read (p : Nat) (f : Port → Port) (u : Nat) : (s.updPort p f).tile u = s.tile u := rfl
@[simp] theorem State.regN_updPort_read (p : Nat) (f : Port → Port) (u o : Nat) : (s.updPort p f).regN u o = s.regN u o := rfl
@[simp] theorem State.reg_updPort_read (p : Nat) (f : Port → Port) (u o : Nat) : (s.updPort p f).reg u o = s.reg u o := rfl
@[simp] theorem State.obj_updPort_read (p : Nat) (f : Port → Port) (k l : Nat) : (s.updPort p f).obj k l = s.obj k l := rfl
@[simp] theorem State.basin_updPort_read (p : Nat) (f : Port → Port) (c : Nat) : (s.updPort p f).basin c = s.basin c := rfl
@[simp] theorem State.word_updPort_read (p : Nat) (f : Port → Port) (a : Nat) : (s.updPort p f).word a = s.word a := rfl

@[simp] theorem State.updMover_pending (t : Nat) (f : Mover → Mover) : (s.updMover t f).pending = s.pending := rfl
@[simp] theorem State.updMover_free (t : Nat) (f : Mover → Mover) : (s.updMover t f).free = s.free := rfl
@[simp] theorem State.updMover_mem (t : Nat) (f : Mover → Mover) : (s.updMover t f).mem = s.mem := rfl
@[simp] theorem State.updMover_tregs (t : Nat) (f : Mover → Mover) : (s.updMover t f).tregs = s.tregs := rfl
@[simp] theorem State.updMover_objs (t : Nat) (f : Mover → Mover) : (s.updMover t f).objs = s.objs := rfl
@[simp] theorem State.updMover_bar0 (t : Nat) (f : Mover → Mover) : (s.updMover t f).bar0 = s.bar0 := rfl
@[simp] theorem State.updMover_win (t : Nat) (f : Mover → Mover) : (s.updMover t f).win = s.win := rfl
@[simp] theorem State.updMover_basins (t : Nat) (f : Mover → Mover) : (s.updMover t f).basins = s.basins := rfl
@[simp] theorem State.updMover_hubs (t : Nat) (f : Mover → Mover) : (s.updMover t f).hubs = s.hubs := rfl
@[simp] theorem State.updMover_seams (t : Nat) (f : Mover → Mover) : (s.updMover t f).seams = s.seams := rfl
@[simp] theorem State.updMover_alarmQ (t : Nat) (f : Mover → Mover) : (s.updMover t f).alarmQ = s.alarmQ := rfl
@[simp] theorem State.updMover_irqQ (t : Nat) (f : Mover → Mover) : (s.updMover t f).irqQ = s.irqQ := rfl
@[simp] theorem State.updMover_agentRsp (t : Nat) (f : Mover → Mover) : (s.updMover t f).agentRsp = s.agentRsp := rfl
@[simp] theorem State.updMover_link (t : Nat) (f : Mover → Mover) : (s.updMover t f).link = s.link := rfl
@[simp] theorem State.updMover_host (t : Nat) (f : Mover → Mover) : (s.updMover t f).host = s.host := rfl
@[simp] theorem State.updMover_srv (t : Nat) (f : Mover → Mover) : (s.updMover t f).srv = s.srv := rfl
@[simp] theorem State.updMover_keepers (t : Nat) (f : Mover → Mover) : (s.updMover t f).keepers = s.keepers := rfl
@[simp] theorem State.updMover_boot (t : Nat) (f : Mover → Mover) : (s.updMover t f).boot = s.boot := rfl
@[simp] theorem State.updMover_power (t : Nat) (f : Mover → Mover) : (s.updMover t f).power = s.power := rfl
@[simp] theorem State.updMover_cellar (t : Nat) (f : Mover → Mover) : (s.updMover t f).cellar = s.cellar := rfl
@[simp] theorem State.updMover_upd (t : Nat) (f : Mover → Mover) : (s.updMover t f).upd = s.upd := rfl
@[simp] theorem State.updMover_dbg (t : Nat) (f : Mover → Mover) : (s.updMover t f).dbg = s.dbg := rfl
@[simp] theorem State.regN_updMover_read (t : Nat) (f : Mover → Mover) (u o : Nat) : (s.updMover t f).regN u o = s.regN u o := rfl
@[simp] theorem State.reg_updMover_read (t : Nat) (f : Mover → Mover) (u o : Nat) : (s.updMover t f).reg u o = s.reg u o := rfl
@[simp] theorem State.obj_updMover_read (t : Nat) (f : Mover → Mover) (k l : Nat) : (s.updMover t f).obj k l = s.obj k l := rfl
@[simp] theorem State.basin_updMover_read (t : Nat) (f : Mover → Mover) (c : Nat) : (s.updMover t f).basin c = s.basin c := rfl
@[simp] theorem State.word_updMover_read (t : Nat) (f : Mover → Mover) (a : Nat) : (s.updMover t f).word a = s.word a := rfl

@[simp] theorem State.updFw_pending (t : Nat) (f : FwStore → FwStore) : (s.updFw t f).pending = s.pending := rfl
@[simp] theorem State.updFw_free (t : Nat) (f : FwStore → FwStore) : (s.updFw t f).free = s.free := rfl
@[simp] theorem State.updFw_mem (t : Nat) (f : FwStore → FwStore) : (s.updFw t f).mem = s.mem := rfl
@[simp] theorem State.updFw_tregs (t : Nat) (f : FwStore → FwStore) : (s.updFw t f).tregs = s.tregs := rfl
@[simp] theorem State.updFw_objs (t : Nat) (f : FwStore → FwStore) : (s.updFw t f).objs = s.objs := rfl
@[simp] theorem State.updFw_bar0 (t : Nat) (f : FwStore → FwStore) : (s.updFw t f).bar0 = s.bar0 := rfl
@[simp] theorem State.updFw_win (t : Nat) (f : FwStore → FwStore) : (s.updFw t f).win = s.win := rfl
@[simp] theorem State.updFw_basins (t : Nat) (f : FwStore → FwStore) : (s.updFw t f).basins = s.basins := rfl
@[simp] theorem State.updFw_hubs (t : Nat) (f : FwStore → FwStore) : (s.updFw t f).hubs = s.hubs := rfl
@[simp] theorem State.updFw_seams (t : Nat) (f : FwStore → FwStore) : (s.updFw t f).seams = s.seams := rfl
@[simp] theorem State.updFw_alarmQ (t : Nat) (f : FwStore → FwStore) : (s.updFw t f).alarmQ = s.alarmQ := rfl
@[simp] theorem State.updFw_irqQ (t : Nat) (f : FwStore → FwStore) : (s.updFw t f).irqQ = s.irqQ := rfl
@[simp] theorem State.updFw_agentRsp (t : Nat) (f : FwStore → FwStore) : (s.updFw t f).agentRsp = s.agentRsp := rfl
@[simp] theorem State.updFw_link (t : Nat) (f : FwStore → FwStore) : (s.updFw t f).link = s.link := rfl
@[simp] theorem State.updFw_host (t : Nat) (f : FwStore → FwStore) : (s.updFw t f).host = s.host := rfl
@[simp] theorem State.updFw_srv (t : Nat) (f : FwStore → FwStore) : (s.updFw t f).srv = s.srv := rfl
@[simp] theorem State.updFw_keepers (t : Nat) (f : FwStore → FwStore) : (s.updFw t f).keepers = s.keepers := rfl
@[simp] theorem State.updFw_boot (t : Nat) (f : FwStore → FwStore) : (s.updFw t f).boot = s.boot := rfl
@[simp] theorem State.updFw_power (t : Nat) (f : FwStore → FwStore) : (s.updFw t f).power = s.power := rfl
@[simp] theorem State.updFw_cellar (t : Nat) (f : FwStore → FwStore) : (s.updFw t f).cellar = s.cellar := rfl
@[simp] theorem State.updFw_upd (t : Nat) (f : FwStore → FwStore) : (s.updFw t f).upd = s.upd := rfl
@[simp] theorem State.updFw_dbg (t : Nat) (f : FwStore → FwStore) : (s.updFw t f).dbg = s.dbg := rfl
@[simp] theorem State.regN_updFw_read (t : Nat) (f : FwStore → FwStore) (u o : Nat) : (s.updFw t f).regN u o = s.regN u o := rfl
@[simp] theorem State.reg_updFw_read (t : Nat) (f : FwStore → FwStore) (u o : Nat) : (s.updFw t f).reg u o = s.reg u o := rfl
@[simp] theorem State.obj_updFw_read (t : Nat) (f : FwStore → FwStore) (k l : Nat) : (s.updFw t f).obj k l = s.obj k l := rfl
@[simp] theorem State.basin_updFw_read (t : Nat) (f : FwStore → FwStore) (c : Nat) : (s.updFw t f).basin c = s.basin c := rfl
@[simp] theorem State.word_updFw_read (t : Nat) (f : FwStore → FwStore) (a : Nat) : (s.updFw t f).word a = s.word a := rfl

@[simp] theorem State.updSeam_pending (n : Nat) (f : Seam → Seam) : (s.updSeam n f).pending = s.pending := rfl
@[simp] theorem State.updSeam_free (n : Nat) (f : Seam → Seam) : (s.updSeam n f).free = s.free := rfl
@[simp] theorem State.updSeam_mem (n : Nat) (f : Seam → Seam) : (s.updSeam n f).mem = s.mem := rfl
@[simp] theorem State.updSeam_tregs (n : Nat) (f : Seam → Seam) : (s.updSeam n f).tregs = s.tregs := rfl
@[simp] theorem State.updSeam_objs (n : Nat) (f : Seam → Seam) : (s.updSeam n f).objs = s.objs := rfl
@[simp] theorem State.updSeam_bar0 (n : Nat) (f : Seam → Seam) : (s.updSeam n f).bar0 = s.bar0 := rfl
@[simp] theorem State.updSeam_win (n : Nat) (f : Seam → Seam) : (s.updSeam n f).win = s.win := rfl
@[simp] theorem State.updSeam_tiles (n : Nat) (f : Seam → Seam) : (s.updSeam n f).tiles = s.tiles := rfl
@[simp] theorem State.updSeam_basins (n : Nat) (f : Seam → Seam) : (s.updSeam n f).basins = s.basins := rfl
@[simp] theorem State.updSeam_hubs (n : Nat) (f : Seam → Seam) : (s.updSeam n f).hubs = s.hubs := rfl
@[simp] theorem State.updSeam_alarmQ (n : Nat) (f : Seam → Seam) : (s.updSeam n f).alarmQ = s.alarmQ := rfl
@[simp] theorem State.updSeam_irqQ (n : Nat) (f : Seam → Seam) : (s.updSeam n f).irqQ = s.irqQ := rfl
@[simp] theorem State.updSeam_agentRsp (n : Nat) (f : Seam → Seam) : (s.updSeam n f).agentRsp = s.agentRsp := rfl
@[simp] theorem State.updSeam_link (n : Nat) (f : Seam → Seam) : (s.updSeam n f).link = s.link := rfl
@[simp] theorem State.updSeam_host (n : Nat) (f : Seam → Seam) : (s.updSeam n f).host = s.host := rfl
@[simp] theorem State.updSeam_srv (n : Nat) (f : Seam → Seam) : (s.updSeam n f).srv = s.srv := rfl
@[simp] theorem State.updSeam_keepers (n : Nat) (f : Seam → Seam) : (s.updSeam n f).keepers = s.keepers := rfl
@[simp] theorem State.updSeam_boot (n : Nat) (f : Seam → Seam) : (s.updSeam n f).boot = s.boot := rfl
@[simp] theorem State.updSeam_power (n : Nat) (f : Seam → Seam) : (s.updSeam n f).power = s.power := rfl
@[simp] theorem State.updSeam_cellar (n : Nat) (f : Seam → Seam) : (s.updSeam n f).cellar = s.cellar := rfl
@[simp] theorem State.updSeam_upd (n : Nat) (f : Seam → Seam) : (s.updSeam n f).upd = s.upd := rfl
@[simp] theorem State.updSeam_dbg (n : Nat) (f : Seam → Seam) : (s.updSeam n f).dbg = s.dbg := rfl
@[simp] theorem State.tile_updSeam_read (n : Nat) (f : Seam → Seam) (u : Nat) : (s.updSeam n f).tile u = s.tile u := rfl
@[simp] theorem State.regN_updSeam_read (n : Nat) (f : Seam → Seam) (u o : Nat) : (s.updSeam n f).regN u o = s.regN u o := rfl
@[simp] theorem State.reg_updSeam_read (n : Nat) (f : Seam → Seam) (u o : Nat) : (s.updSeam n f).reg u o = s.reg u o := rfl
@[simp] theorem State.obj_updSeam_read (n : Nat) (f : Seam → Seam) (k l : Nat) : (s.updSeam n f).obj k l = s.obj k l := rfl
@[simp] theorem State.basin_updSeam_read (n : Nat) (f : Seam → Seam) (c : Nat) : (s.updSeam n f).basin c = s.basin c := rfl
@[simp] theorem State.word_updSeam_read (n : Nat) (f : Seam → Seam) (a : Nat) : (s.updSeam n f).word a = s.word a := rfl

@[simp] theorem State.updPound_pending (n : Nat) (f : Pound → Pound) : (s.updPound n f).pending = s.pending := rfl
@[simp] theorem State.updPound_free (n : Nat) (f : Pound → Pound) : (s.updPound n f).free = s.free := rfl
@[simp] theorem State.updPound_mem (n : Nat) (f : Pound → Pound) : (s.updPound n f).mem = s.mem := rfl
@[simp] theorem State.updPound_tregs (n : Nat) (f : Pound → Pound) : (s.updPound n f).tregs = s.tregs := rfl
@[simp] theorem State.updPound_objs (n : Nat) (f : Pound → Pound) : (s.updPound n f).objs = s.objs := rfl
@[simp] theorem State.updPound_bar0 (n : Nat) (f : Pound → Pound) : (s.updPound n f).bar0 = s.bar0 := rfl
@[simp] theorem State.updPound_win (n : Nat) (f : Pound → Pound) : (s.updPound n f).win = s.win := rfl
@[simp] theorem State.updPound_tiles (n : Nat) (f : Pound → Pound) : (s.updPound n f).tiles = s.tiles := rfl
@[simp] theorem State.updPound_basins (n : Nat) (f : Pound → Pound) : (s.updPound n f).basins = s.basins := rfl
@[simp] theorem State.updPound_hubs (n : Nat) (f : Pound → Pound) : (s.updPound n f).hubs = s.hubs := rfl
@[simp] theorem State.updPound_seams (n : Nat) (f : Pound → Pound) : (s.updPound n f).seams = s.seams := rfl
@[simp] theorem State.updPound_alarmQ (n : Nat) (f : Pound → Pound) : (s.updPound n f).alarmQ = s.alarmQ := rfl
@[simp] theorem State.updPound_irqQ (n : Nat) (f : Pound → Pound) : (s.updPound n f).irqQ = s.irqQ := rfl
@[simp] theorem State.updPound_agentRsp (n : Nat) (f : Pound → Pound) : (s.updPound n f).agentRsp = s.agentRsp := rfl
@[simp] theorem State.updPound_link (n : Nat) (f : Pound → Pound) : (s.updPound n f).link = s.link := rfl
@[simp] theorem State.updPound_host (n : Nat) (f : Pound → Pound) : (s.updPound n f).host = s.host := rfl
@[simp] theorem State.updPound_srv (n : Nat) (f : Pound → Pound) : (s.updPound n f).srv = s.srv := rfl
@[simp] theorem State.updPound_keepers (n : Nat) (f : Pound → Pound) : (s.updPound n f).keepers = s.keepers := rfl
@[simp] theorem State.updPound_boot (n : Nat) (f : Pound → Pound) : (s.updPound n f).boot = s.boot := rfl
@[simp] theorem State.updPound_cellar (n : Nat) (f : Pound → Pound) : (s.updPound n f).cellar = s.cellar := rfl
@[simp] theorem State.updPound_upd (n : Nat) (f : Pound → Pound) : (s.updPound n f).upd = s.upd := rfl
@[simp] theorem State.updPound_dbg (n : Nat) (f : Pound → Pound) : (s.updPound n f).dbg = s.dbg := rfl
@[simp] theorem State.tile_updPound_read (n : Nat) (f : Pound → Pound) (u : Nat) : (s.updPound n f).tile u = s.tile u := rfl
@[simp] theorem State.regN_updPound_read (n : Nat) (f : Pound → Pound) (u o : Nat) : (s.updPound n f).regN u o = s.regN u o := rfl
@[simp] theorem State.reg_updPound_read (n : Nat) (f : Pound → Pound) (u o : Nat) : (s.updPound n f).reg u o = s.reg u o := rfl
@[simp] theorem State.obj_updPound_read (n : Nat) (f : Pound → Pound) (k l : Nat) : (s.updPound n f).obj k l = s.obj k l := rfl
@[simp] theorem State.basin_updPound_read (n : Nat) (f : Pound → Pound) (c : Nat) : (s.updPound n f).basin c = s.basin c := rfl
@[simp] theorem State.word_updPound_read (n : Nat) (f : Pound → Pound) (a : Nat) : (s.updPound n f).word a = s.word a := rfl

@[simp] theorem State.updKeeper_pending (i : Nat) (f : Keeper → Keeper) : (s.updKeeper i f).pending = s.pending := rfl
@[simp] theorem State.updKeeper_free (i : Nat) (f : Keeper → Keeper) : (s.updKeeper i f).free = s.free := rfl
@[simp] theorem State.updKeeper_mem (i : Nat) (f : Keeper → Keeper) : (s.updKeeper i f).mem = s.mem := rfl
@[simp] theorem State.updKeeper_tregs (i : Nat) (f : Keeper → Keeper) : (s.updKeeper i f).tregs = s.tregs := rfl
@[simp] theorem State.updKeeper_objs (i : Nat) (f : Keeper → Keeper) : (s.updKeeper i f).objs = s.objs := rfl
@[simp] theorem State.updKeeper_bar0 (i : Nat) (f : Keeper → Keeper) : (s.updKeeper i f).bar0 = s.bar0 := rfl
@[simp] theorem State.updKeeper_win (i : Nat) (f : Keeper → Keeper) : (s.updKeeper i f).win = s.win := rfl
@[simp] theorem State.updKeeper_tiles (i : Nat) (f : Keeper → Keeper) : (s.updKeeper i f).tiles = s.tiles := rfl
@[simp] theorem State.updKeeper_basins (i : Nat) (f : Keeper → Keeper) : (s.updKeeper i f).basins = s.basins := rfl
@[simp] theorem State.updKeeper_hubs (i : Nat) (f : Keeper → Keeper) : (s.updKeeper i f).hubs = s.hubs := rfl
@[simp] theorem State.updKeeper_seams (i : Nat) (f : Keeper → Keeper) : (s.updKeeper i f).seams = s.seams := rfl
@[simp] theorem State.updKeeper_alarmQ (i : Nat) (f : Keeper → Keeper) : (s.updKeeper i f).alarmQ = s.alarmQ := rfl
@[simp] theorem State.updKeeper_irqQ (i : Nat) (f : Keeper → Keeper) : (s.updKeeper i f).irqQ = s.irqQ := rfl
@[simp] theorem State.updKeeper_agentRsp (i : Nat) (f : Keeper → Keeper) : (s.updKeeper i f).agentRsp = s.agentRsp := rfl
@[simp] theorem State.updKeeper_link (i : Nat) (f : Keeper → Keeper) : (s.updKeeper i f).link = s.link := rfl
@[simp] theorem State.updKeeper_host (i : Nat) (f : Keeper → Keeper) : (s.updKeeper i f).host = s.host := rfl
@[simp] theorem State.updKeeper_srv (i : Nat) (f : Keeper → Keeper) : (s.updKeeper i f).srv = s.srv := rfl
@[simp] theorem State.updKeeper_boot (i : Nat) (f : Keeper → Keeper) : (s.updKeeper i f).boot = s.boot := rfl
@[simp] theorem State.updKeeper_power (i : Nat) (f : Keeper → Keeper) : (s.updKeeper i f).power = s.power := rfl
@[simp] theorem State.updKeeper_cellar (i : Nat) (f : Keeper → Keeper) : (s.updKeeper i f).cellar = s.cellar := rfl
@[simp] theorem State.updKeeper_upd (i : Nat) (f : Keeper → Keeper) : (s.updKeeper i f).upd = s.upd := rfl
@[simp] theorem State.updKeeper_dbg (i : Nat) (f : Keeper → Keeper) : (s.updKeeper i f).dbg = s.dbg := rfl
@[simp] theorem State.tile_updKeeper_read (i : Nat) (f : Keeper → Keeper) (u : Nat) : (s.updKeeper i f).tile u = s.tile u := rfl
@[simp] theorem State.regN_updKeeper_read (i : Nat) (f : Keeper → Keeper) (u o : Nat) : (s.updKeeper i f).regN u o = s.regN u o := rfl
@[simp] theorem State.reg_updKeeper_read (i : Nat) (f : Keeper → Keeper) (u o : Nat) : (s.updKeeper i f).reg u o = s.reg u o := rfl
@[simp] theorem State.obj_updKeeper_read (i : Nat) (f : Keeper → Keeper) (k l : Nat) : (s.updKeeper i f).obj k l = s.obj k l := rfl
@[simp] theorem State.basin_updKeeper_read (i : Nat) (f : Keeper → Keeper) (c : Nat) : (s.updKeeper i f).basin c = s.basin c := rfl
@[simp] theorem State.word_updKeeper_read (i : Nat) (f : Keeper → Keeper) (a : Nat) : (s.updKeeper i f).word a = s.word a := rfl

@[simp] theorem State.updQueue_pending (q : Nat) (f : HostQueue → HostQueue) : (s.updQueue q f).pending = s.pending := rfl
@[simp] theorem State.updQueue_free (q : Nat) (f : HostQueue → HostQueue) : (s.updQueue q f).free = s.free := rfl
@[simp] theorem State.updQueue_mem (q : Nat) (f : HostQueue → HostQueue) : (s.updQueue q f).mem = s.mem := rfl
@[simp] theorem State.updQueue_tregs (q : Nat) (f : HostQueue → HostQueue) : (s.updQueue q f).tregs = s.tregs := rfl
@[simp] theorem State.updQueue_objs (q : Nat) (f : HostQueue → HostQueue) : (s.updQueue q f).objs = s.objs := rfl
@[simp] theorem State.updQueue_bar0 (q : Nat) (f : HostQueue → HostQueue) : (s.updQueue q f).bar0 = s.bar0 := rfl
@[simp] theorem State.updQueue_win (q : Nat) (f : HostQueue → HostQueue) : (s.updQueue q f).win = s.win := rfl
@[simp] theorem State.updQueue_tiles (q : Nat) (f : HostQueue → HostQueue) : (s.updQueue q f).tiles = s.tiles := rfl
@[simp] theorem State.updQueue_basins (q : Nat) (f : HostQueue → HostQueue) : (s.updQueue q f).basins = s.basins := rfl
@[simp] theorem State.updQueue_hubs (q : Nat) (f : HostQueue → HostQueue) : (s.updQueue q f).hubs = s.hubs := rfl
@[simp] theorem State.updQueue_seams (q : Nat) (f : HostQueue → HostQueue) : (s.updQueue q f).seams = s.seams := rfl
@[simp] theorem State.updQueue_alarmQ (q : Nat) (f : HostQueue → HostQueue) : (s.updQueue q f).alarmQ = s.alarmQ := rfl
@[simp] theorem State.updQueue_irqQ (q : Nat) (f : HostQueue → HostQueue) : (s.updQueue q f).irqQ = s.irqQ := rfl
@[simp] theorem State.updQueue_agentRsp (q : Nat) (f : HostQueue → HostQueue) : (s.updQueue q f).agentRsp = s.agentRsp := rfl
@[simp] theorem State.updQueue_link (q : Nat) (f : HostQueue → HostQueue) : (s.updQueue q f).link = s.link := rfl
@[simp] theorem State.updQueue_srv (q : Nat) (f : HostQueue → HostQueue) : (s.updQueue q f).srv = s.srv := rfl
@[simp] theorem State.updQueue_keepers (q : Nat) (f : HostQueue → HostQueue) : (s.updQueue q f).keepers = s.keepers := rfl
@[simp] theorem State.updQueue_boot (q : Nat) (f : HostQueue → HostQueue) : (s.updQueue q f).boot = s.boot := rfl
@[simp] theorem State.updQueue_power (q : Nat) (f : HostQueue → HostQueue) : (s.updQueue q f).power = s.power := rfl
@[simp] theorem State.updQueue_cellar (q : Nat) (f : HostQueue → HostQueue) : (s.updQueue q f).cellar = s.cellar := rfl
@[simp] theorem State.updQueue_upd (q : Nat) (f : HostQueue → HostQueue) : (s.updQueue q f).upd = s.upd := rfl
@[simp] theorem State.updQueue_dbg (q : Nat) (f : HostQueue → HostQueue) : (s.updQueue q f).dbg = s.dbg := rfl
@[simp] theorem State.tile_updQueue_read (q : Nat) (f : HostQueue → HostQueue) (u : Nat) : (s.updQueue q f).tile u = s.tile u := rfl
@[simp] theorem State.regN_updQueue_read (q : Nat) (f : HostQueue → HostQueue) (u o : Nat) : (s.updQueue q f).regN u o = s.regN u o := rfl
@[simp] theorem State.reg_updQueue_read (q : Nat) (f : HostQueue → HostQueue) (u o : Nat) : (s.updQueue q f).reg u o = s.reg u o := rfl
@[simp] theorem State.obj_updQueue_read (q : Nat) (f : HostQueue → HostQueue) (k l : Nat) : (s.updQueue q f).obj k l = s.obj k l := rfl
@[simp] theorem State.basin_updQueue_read (q : Nat) (f : HostQueue → HostQueue) (c : Nat) : (s.updQueue q f).basin c = s.basin c := rfl
@[simp] theorem State.word_updQueue_read (q : Nat) (f : HostQueue → HostQueue) (a : Nat) : (s.updQueue q f).word a = s.word a := rfl

@[simp] theorem State.updCellar_pending (f : Cellar → Cellar) : (s.updCellar f).pending = s.pending := rfl
@[simp] theorem State.updCellar_free (f : Cellar → Cellar) : (s.updCellar f).free = s.free := rfl
@[simp] theorem State.updCellar_mem (f : Cellar → Cellar) : (s.updCellar f).mem = s.mem := rfl
@[simp] theorem State.updCellar_tregs (f : Cellar → Cellar) : (s.updCellar f).tregs = s.tregs := rfl
@[simp] theorem State.updCellar_objs (f : Cellar → Cellar) : (s.updCellar f).objs = s.objs := rfl
@[simp] theorem State.updCellar_bar0 (f : Cellar → Cellar) : (s.updCellar f).bar0 = s.bar0 := rfl
@[simp] theorem State.updCellar_win (f : Cellar → Cellar) : (s.updCellar f).win = s.win := rfl
@[simp] theorem State.updCellar_tiles (f : Cellar → Cellar) : (s.updCellar f).tiles = s.tiles := rfl
@[simp] theorem State.updCellar_basins (f : Cellar → Cellar) : (s.updCellar f).basins = s.basins := rfl
@[simp] theorem State.updCellar_hubs (f : Cellar → Cellar) : (s.updCellar f).hubs = s.hubs := rfl
@[simp] theorem State.updCellar_seams (f : Cellar → Cellar) : (s.updCellar f).seams = s.seams := rfl
@[simp] theorem State.updCellar_alarmQ (f : Cellar → Cellar) : (s.updCellar f).alarmQ = s.alarmQ := rfl
@[simp] theorem State.updCellar_irqQ (f : Cellar → Cellar) : (s.updCellar f).irqQ = s.irqQ := rfl
@[simp] theorem State.updCellar_agentRsp (f : Cellar → Cellar) : (s.updCellar f).agentRsp = s.agentRsp := rfl
@[simp] theorem State.updCellar_link (f : Cellar → Cellar) : (s.updCellar f).link = s.link := rfl
@[simp] theorem State.updCellar_host (f : Cellar → Cellar) : (s.updCellar f).host = s.host := rfl
@[simp] theorem State.updCellar_srv (f : Cellar → Cellar) : (s.updCellar f).srv = s.srv := rfl
@[simp] theorem State.updCellar_keepers (f : Cellar → Cellar) : (s.updCellar f).keepers = s.keepers := rfl
@[simp] theorem State.updCellar_boot (f : Cellar → Cellar) : (s.updCellar f).boot = s.boot := rfl
@[simp] theorem State.updCellar_power (f : Cellar → Cellar) : (s.updCellar f).power = s.power := rfl
@[simp] theorem State.updCellar_upd (f : Cellar → Cellar) : (s.updCellar f).upd = s.upd := rfl
@[simp] theorem State.updCellar_dbg (f : Cellar → Cellar) : (s.updCellar f).dbg = s.dbg := rfl
@[simp] theorem State.tile_updCellar_read (f : Cellar → Cellar) (u : Nat) : (s.updCellar f).tile u = s.tile u := rfl
@[simp] theorem State.regN_updCellar_read (f : Cellar → Cellar) (u o : Nat) : (s.updCellar f).regN u o = s.regN u o := rfl
@[simp] theorem State.reg_updCellar_read (f : Cellar → Cellar) (u o : Nat) : (s.updCellar f).reg u o = s.reg u o := rfl
@[simp] theorem State.obj_updCellar_read (f : Cellar → Cellar) (k l : Nat) : (s.updCellar f).obj k l = s.obj k l := rfl
@[simp] theorem State.basin_updCellar_read (f : Cellar → Cellar) (c : Nat) : (s.updCellar f).basin c = s.basin c := rfl
@[simp] theorem State.word_updCellar_read (f : Cellar → Cellar) (a : Nat) : (s.updCellar f).word a = s.word a := rfl

@[simp] theorem State.updUpd_pending (f : Updates → Updates) : (s.updUpd f).pending = s.pending := rfl
@[simp] theorem State.updUpd_free (f : Updates → Updates) : (s.updUpd f).free = s.free := rfl
@[simp] theorem State.updUpd_mem (f : Updates → Updates) : (s.updUpd f).mem = s.mem := rfl
@[simp] theorem State.updUpd_tregs (f : Updates → Updates) : (s.updUpd f).tregs = s.tregs := rfl
@[simp] theorem State.updUpd_objs (f : Updates → Updates) : (s.updUpd f).objs = s.objs := rfl
@[simp] theorem State.updUpd_bar0 (f : Updates → Updates) : (s.updUpd f).bar0 = s.bar0 := rfl
@[simp] theorem State.updUpd_win (f : Updates → Updates) : (s.updUpd f).win = s.win := rfl
@[simp] theorem State.updUpd_tiles (f : Updates → Updates) : (s.updUpd f).tiles = s.tiles := rfl
@[simp] theorem State.updUpd_basins (f : Updates → Updates) : (s.updUpd f).basins = s.basins := rfl
@[simp] theorem State.updUpd_hubs (f : Updates → Updates) : (s.updUpd f).hubs = s.hubs := rfl
@[simp] theorem State.updUpd_seams (f : Updates → Updates) : (s.updUpd f).seams = s.seams := rfl
@[simp] theorem State.updUpd_alarmQ (f : Updates → Updates) : (s.updUpd f).alarmQ = s.alarmQ := rfl
@[simp] theorem State.updUpd_irqQ (f : Updates → Updates) : (s.updUpd f).irqQ = s.irqQ := rfl
@[simp] theorem State.updUpd_agentRsp (f : Updates → Updates) : (s.updUpd f).agentRsp = s.agentRsp := rfl
@[simp] theorem State.updUpd_link (f : Updates → Updates) : (s.updUpd f).link = s.link := rfl
@[simp] theorem State.updUpd_host (f : Updates → Updates) : (s.updUpd f).host = s.host := rfl
@[simp] theorem State.updUpd_srv (f : Updates → Updates) : (s.updUpd f).srv = s.srv := rfl
@[simp] theorem State.updUpd_keepers (f : Updates → Updates) : (s.updUpd f).keepers = s.keepers := rfl
@[simp] theorem State.updUpd_boot (f : Updates → Updates) : (s.updUpd f).boot = s.boot := rfl
@[simp] theorem State.updUpd_power (f : Updates → Updates) : (s.updUpd f).power = s.power := rfl
@[simp] theorem State.updUpd_cellar (f : Updates → Updates) : (s.updUpd f).cellar = s.cellar := rfl
@[simp] theorem State.updUpd_dbg (f : Updates → Updates) : (s.updUpd f).dbg = s.dbg := rfl
@[simp] theorem State.tile_updUpd_read (f : Updates → Updates) (u : Nat) : (s.updUpd f).tile u = s.tile u := rfl
@[simp] theorem State.regN_updUpd_read (f : Updates → Updates) (u o : Nat) : (s.updUpd f).regN u o = s.regN u o := rfl
@[simp] theorem State.reg_updUpd_read (f : Updates → Updates) (u o : Nat) : (s.updUpd f).reg u o = s.reg u o := rfl
@[simp] theorem State.obj_updUpd_read (f : Updates → Updates) (k l : Nat) : (s.updUpd f).obj k l = s.obj k l := rfl
@[simp] theorem State.basin_updUpd_read (f : Updates → Updates) (c : Nat) : (s.updUpd f).basin c = s.basin c := rfl
@[simp] theorem State.word_updUpd_read (f : Updates → Updates) (a : Nat) : (s.updUpd f).word a = s.word a := rfl

/-! ### Reads after writes -/

theorem State.tile_setTile_same (h : Canonical s) (t : Nat) (v : Tile) : (s.setTile t v).tile t = v :=
  Map.get_put_same _ (fun _ => Tile.init) _ _ _ h.tiles

theorem State.tile_setTile_other (t u : Nat) (v : Tile) (h : u ≠ t) : (s.setTile t v).tile u = s.tile u :=
  Map.get_put_other _ _ _ _ _ _ h

theorem State.tile_updTile_same (h : Canonical s) (t : Nat) (f : Tile → Tile) : (s.updTile t f).tile t = f (s.tile t) :=
  s.tile_setTile_same h t _

theorem State.tile_updTile_other (t u : Nat) (f : Tile → Tile) (h : u ≠ t) : (s.updTile t f).tile u = s.tile u :=
  s.tile_setTile_other t u _ h

theorem State.reg_setReg_same (h : Canonical s) (t o : Nat) (v : Word64) : (s.setReg t o v).reg t o = v :=
  Map.get_put_same _ (fun k => regDefault (k % 65536)) _ _ _ h.tregs

theorem State.reg_setReg_other (t o u p : Nat) (v : Word64) (h : regKey u p ≠ regKey t o) :
    (s.setReg t o v).reg u p = s.reg u p :=
  Map.get_put_other _ _ _ _ _ _ h

theorem State.basin_setBasin_same (h : Canonical s) (b : Nat) (v : Basin) : (s.setBasin b v).basin b = v :=
  Map.get_put_same _ (fun _ => Basin.init) _ _ _ h.basins

theorem State.basin_setBasin_other (b c : Nat) (v : Basin) (h : c ≠ b) : (s.setBasin b v).basin c = s.basin c :=
  Map.get_put_other _ _ _ _ _ _ h

theorem State.word_setWord_same (h : Canonical s) (k : Nat) (w : CodeWord) : (s.setWord k w).word k = w :=
  Map.get_put_same _ (fun _ => 0) _ _ _ h.mem

theorem State.word_setWord_other (k a : Nat) (w : CodeWord) (h : a ≠ k) : (s.setWord k w).word a = s.word a :=
  Map.get_put_other _ _ _ _ _ _ h

theorem State.obj_setObj_same (h : Canonical s) (i j n : Nat) : (s.setObj i j n).obj i j = n % 2 ^ 64 := by
  unfold State.obj State.setObj
  rw [Map.get_put_same _ objDefault _ _ _ h.objs, BitVec.toNat_ofNat]

theorem State.obj_setObj_other (i j n k l : Nat) (h : objKey k l ≠ objKey i j) : (s.setObj i j n).obj k l = s.obj k l := by
  unfold State.obj State.setObj
  rw [Map.get_put_other _ _ _ _ _ _ h]

end Sys2Proof.Machine
end

