-- ==== Sys2Proof/WellFormed.lean ====
section
/-! DEFINITION. Which commands are well formed: each operand is of the width that the device, its bus or its protocol
carries. A command that is not well formed cannot be sent; what a well-formed one does, a refusal included, is `exec`'s. -/

namespace Sys2Proof

/-- A list of bytes. -/
def areBytes (l : List Nat) : Bool := l.all (fun b => decide (b < 256))

/-- A number of at most 32 bits. -/
def isWord (n : Nat) : Bool := decide (n < 2 ^ 32)

/-- A firmware image: its version is text, and its numbers are bytes of its header (R306). -/
def UpdateImage.wellFormed (i : UpdateImage) : Bool :=
  areBytes i.version && areBytes [i.lo, i.hi, i.mirror, i.ident] && areBytes i.reads

/-- A program image: its rows, wheel entries and report beats lie on the device (R269). -/
def Image.wellFormed (i : Image) : Bool :=
  i.cells.all (fun c => decide (c.1 < 2304) && decide (c.2.1 < 40960)) &&
  i.wheels.all (fun w => decide (w.1 < 2304) && decide (w.2.1 < 512)) &&
  i.reports.all (fun r => decide (r.1 < 2304) && decide (r.2.1 < 256) && isWord r.2.2)

/-- What a phase of bring-up finds: entries of the kinds and places that the ledger has (R367, R368), and voltage offsets
of at most 20 mV (R351). -/
def PhaseResult.wellFormed (r : PhaseResult) : Bool :=
  r.found.all (fun e => decide (1 ≤ e.1) && decide (e.1 < 16) && e.2.1.all (fun p => decide (p < 2600)) &&
    decide (e.2.2.1 < 65536) && decide (e.2.2.2 < 65536)) &&
  r.offsets.all (fun o => decide (-20 ≤ o.2) && decide (o.2 ≤ 20))

/-- A word received again has been sent again (R211), and a message has at most 8 words (R207). -/
def TpHop.wellFormed (h : TpHop) : Bool :=
  match h.fate with
  | .whole => true
  | .repeated _ => decide (h.resent ≠ 0)
  | .words l => decide (l.length ≤ 8)

/-- Whether a command is well formed. -/
def Instr.wellFormed : Instr → Bool
  | .lockHoldRequest _ _ lock => decide (lock < 2 ^ 64)
  | .lockHoldRelease _ _ lock => decide (lock < 2 ^ 64)
  | .cfgWr _ _ words h => decide (words.length ≤ 6) && h.wellFormed
  | .lockUp _ _ _ h | .lockResult _ h | .barUp _ _ _ h | .barDone _ _ h | .alarm _ h | .irq _ h | .cfgRd _ _ h
  | .cfgRsp _ h | .batchSeal _ _ _ _ h | .fwInfo _ _ _ h | .fwChunk _ _ _ _ _ h | .fwQuery _ _ h | .missingUp _ h
  | .fwActivate _ _ _ h | .fwCancel _ h | .trace _ h => h.wellFormed
  | .narrowWrite _ row _ _ _ => decide (row < 65536)
  | .loadImage _ image => image.all Image.wellFormed
  | .sdoDownload _ _ l => areBytes l
  | .sdoCompleteDownload _ _ l => l.all areBytes
  | .foeWrite name password len _ img => areBytes name && isWord password && isWord len && img.wellFormed
  | .alStateRequest st _ => decide (st < 16)
  | .ceilingUpdate vin => isWord vin
  | .weirDroop _ depth _ => isWord depth
  | .capture8us _ ivpn ivpm sys tiles => isWord ivpn && isWord ivpm && sys.all (fun l => decide (l.length = 8) && l.all isWord) &&
      decide (tiles.length ≤ 65) && tiles.all (fun x => isWord x.2.1 && isWord x.2.2)
  | .coolantSample _ flow => isWord flow
  | .bringupPhaseEnd r => r.wellFormed
  | .removeEntry i => decide (i < 65536)
  | .cancelRemoval i => decide (i < 65536)
  | .targetedTestEnd _ _ _ item => isWord item
  | .idleWindowSlice _ _ _ item => isWord item
  | .trierPauseDone _ tested faults => decide (tested.Nodup) && faults.all (fun x => isWord x.2.2)
  | .restoreLatest _ bad => decide (bad.Nodup)
  | .restoreOlderFull _ bad => decide (bad.Nodup)
  | .digestAck _ n => isWord n
  | .pacePulse _ | .beatComplete _ _ | .illegalBundle _ | .nop _ _ | .br _ _ | .brz _ _ _ | .brnz _ _ _ | .call _ _
  | .ret _ | .loop _ _ _ _ | .task _ _ | .bar _ _ _ | .barw _ _ | .epochEnd _ | .addi _ _ _ _ | .andi _ _ _ _
  | .ori _ _ _ _ | .xori _ _ _ _ | .shli _ _ _ _ | .shri _ _ _ _ | .lui _ _ _ | .add _ _ _ _ | .sub _ _ _ _
  | .andS _ _ _ _ | .orS _ _ _ _ | .xorS _ _ _ _ | .sltu _ _ _ _ | .lrr _ _ _ | .lrw _ _ _ | .bankRead _ _ _
  | .bankWrite _ _ _ | .bankAlias _ _ _ | .bankZero _ _ _ | .inject _ _ | .land _ _ | .wheelStage _ _ _ _
  | .streamWs _ _ | .streamAs _ _ | .streamConv _ _ | .shadowLoad _ _ | .swap _ | .clear _ _ | .shadowComplete _
  | .arrayOutput _ | .checksumCompare _ _ | .vecMov _ _ | .vecAnd _ _ | .vecOr _ _ | .vecXor _ _ | .vecNot _ _
  | .vecBcast _ _ | .vecRotl _ _ | .vecRev _ _ | .vecAdd _ _ | .vecSub _ _ | .vecMin _ _ | .vecMax _ _ | .vecAbs _ _
  | .vecNeg _ _ | .vecMul _ _ | .vecFma _ _ | .vecShl _ _ | .vecShr _ _ | .vecSar _ _ | .vecCmpeq _ _
  | .vecCmplt _ _ | .vecCmple _ _ | .vecCmpne _ _ | .vecSel _ _ | .vecRsum _ _ | .vecRmax _ _ | .vecRmin _ _
  | .vecRamax _ _ | .vecCvtn _ _ | .vecCvtw _ _ | .vecCvti _ _ | .vecCvtf _ _ | .vecMxscale _ _ | .vecMxapply _ _
  | .vecExp _ _ | .vecExp2 _ _ | .vecLog _ _ | .vecLog2 _ _ | .vecRecip _ _ | .vecRsqrt _ _ | .vecSqrt _ _
  | .vecTanh _ _ | .vecSigmoid _ _ | .vecSin _ _ | .vecCos _ _ | .vecRand _ _ | .streamRegWrite _ _ _ _
  | .lockReport _ | .lockBeat _ | .estoreDataWrite _ _ _ | .stopArrive _ | .stopForce _
  | .tokenArrive _ _ _ _ | .tokenAck _ _ _ | .wheelInjection _ _ _ | .wheelDataWrite _ _ _ | .circWrite _ _ _ _ _
  | .stall _ _ | .stallRecord _ | .seamWireFail _ _ _ | .seamHandshakeFail _ _ _ | .pailResume _ _
  | .correctionWriteback _ _ | .patrolScrub _ _ _ | .gatherFlush _ _ _ | .rowWinWrite _ _ _ | .rowWinRead _ _
  | .bankOwnerWrite _ _ _ _ | .sleepRetain _ _ _ | .sleepOff _ _ _ | .bankDrained _ _ | .wake _ _ _
  | .wakeComplete _ _ | .remapEntryWrite _ _ _ _ _ | .remapCopy _ _ _ | .unload _ _ | .load _ _ | .loadEnd _ _
  | .portEnable _ _ | .qualifyEnd _ _ _ _ | .laneTrainTimeout _ _ | .retrainEnd _ _ | .laneDrop _ _
  | .flitReceive _ _ _ | .headFlit _ | .rowFlit _ | .bargeRowLand _ _ | .tailFlit _ | .bargeCompletionSend _ _
  | .completionFlit _ | .boundBargeRelease _ _ | .descriptorRead _ | .flitGateRelease _ | .ack _ _ | .nak _ _
  | .credit _ _ | .hello _ _ | .sync _ _ | .mode _ _ | .ctrlRepeat _ | .ackSend _ | .ackTimeout _
  | .channelSeqWrite _ _ | .linkRefLost | .linkRefReturn | .cageMediumRemoved _ | .cageMediumInserted _
  | .cagePower _ | .doorbell _ _ | .queueEnable _ | .queueDisable _ | .queueCoalesceSet _ _ | .cqHeadWrite _ _
  | .data _ _ | .hostRowLand _ _ | .hostReadError _ | .hostDescriptorRead _ | .coalTimeout _ | .functionLevelReset
  | .perstAssert | .pcieLinkTrain _ _ | .mbWrite _ | .mbRead _ | .sdoUpload _ _ | .sdoCompleteUpload _ _
  | .sdoInformation _ _ | .rxpdo _ _ | .sync0 | .pdoLatch | .syncError | .setpointTimeout | .clampLogClear
  | .statusClear _ | .lkHeartbeat | .lkTakeover | .lkBootTimeout | .inputQualified | .powerGood _ | .powerFail _
  | .presOpen | .cellLost _ | .phaseLost _ _ | .regFail _ _ | .weirOvershoot _ | .weirSettled _ | .poundTrip _ _
  | .poundPowerUp _ | .poundPowerDown _ | .poundGrantEval | .poundRampEnd _ _ | .vtSetWrite _ _ | .estimateSample
  | .estimatorGainUpdate | .skimFrame _ | .voltageStep _ | .voltageStepEnd _ | .skimTestWrite _ _ | .serviceUnlock _
  | .bringUp | .powerDown | .resetTile _ | .resetBerth _ | .resetBasin _ | .resetDevice | .resetDrainEnd
  | .drainLimit | .resetEnd | .alarmCollectionEnd _ | .replayRelease _ | .remap | .trierOverdue _
  | .trierPauseRequest _ | .snapshotRequest _ _ | .snapshotInterval _ _ | .riskEvaluate | .snapshotStart
  | .snapshotCopy _ | .snapshotRelease _ | .snapshotSecured _ | .restoreDone _ _ | .basinDefine _ | .basinRemove _
  | .updateActivate | .updateRollback | .updateCancel | .lkHandover | .standbyRebootEnd _ | .portDrainEnd _
  | .portDrainLimit _ | .powerCtrlRestartEnd _ | .digestDrain _ | .digestCaptureArm _ _ | .bankCaptureArm _ _
  | .traceMark _ _ | .hsSelWrite _ _ | .probeSelect | .traceStoreClear | .bypass | .idcode | .samplePreload
  | .extest | .clamp | .highz | .registerWrite _ _ | .reportWindowEnd _ _ | .laneLossOfLock _ _ | .pcieReferenceLost
  | .poundRampDownEnd _ | .weirBankRecharged _ | .linkControllerRestartEnd _ _ | .busHoldupEnd => true

end Sys2Proof
end

