-- ==== Sys2Proof/Tests/Slice0.lean ====
section
/-! SUPPORT. Tests: a state and operands that meet the premises of each statement, clause by clause; single steps whose
results the spec gives; and an ill-formed term for each check of well-formedness. -/

namespace Sys2Proof.Tests

open Sys2Proof Sys2Proof.Machine

set_option Elab.async false

/-- The canonical form, as a Boolean. -/
def canonB (s : State) : Bool :=
  Map.wf s.mem (fun _ => 0) && Map.wf s.tregs (fun k => regDefault (k % 65536)) && Map.wf s.objs objDefault &&
  Map.wf s.bar0 barDefault && Map.wf s.win (fun _ => 0) && Map.wf s.tiles (fun _ => Tile.init) &&
  Map.wf s.basins (fun _ => Basin.init) && Map.wf s.hubs (fun _ => Hub.init) && Map.wf s.seams (fun _ => Seam.init)

theorem canonical_of_canonB {s : State} (h : canonB s = true) : Canonical s := by
  constructor <;> (revert h; simp +contextual [canonB])

/-- The state of an outcome that is one, else reset. -/
def after (o : Host.Outcome State Fault Refusal) : State :=
  match o with
  | .next s => s
  | _ => State.reset

/-- Reset with tile 0 replaced. -/
def withTile (f : Tile → Tile) : State := { State.reset with tiles := [(0, f Tile.init)] }

/-- Reset with tile 0's tiller replaced. -/
def withTil (f : Tiller → Tiller) : State := withTile (fun t => { t with til := f t.til })

/-- A state with registers of tile 0 listed, by rising offset. -/
def withRegs (s : State) (l : List (Nat × Nat)) : State := { s with tregs := l.map (fun p => (p.1, BitVec.ofNat 64 p.2)) }

/-- Basin 0 as one berth of 16 tiles in the south-west, started. -/
def withBasin (f : Basin → Basin) (s : State) : State :=
  { s with basins := [(0, f { Basin.init with rect := some (0, 0, 0, 0), started := true })] }

/-- A state with dictionary entries listed, by rising key. -/
def withObjs (s : State) (l : List (Nat × Nat × Nat)) : State :=
  { s with objs := l.map (fun p => (objKey p.1 p.2.1, BitVec.ofNat 64 p.2.2)) }

/-! ### The queue and the control slot -/

theorem witness_StepRunsFrontCommand :
    ({ State.reset with pending := [.epochEnd 0, .sync0] } : State).pending = .epochEnd 0 :: [.sync0] ∧
    State.reset.pending = [] := by decide +kernel

theorem reset_canonical : Canonical State.reset := canonical_of_canonB (by decide +kernel)

theorem witness_StepKeepsCanonical :
    Canonical { State.reset with pending := [.epochEnd 0] } ∧
    (∃ s', step { State.reset with pending := [.epochEnd 0] } = .next s') :=
  ⟨canonical_of_canonB (by decide +kernel), _, rfl⟩

theorem witness_CommandFrame :
    Canonical State.reset ∧ ∃ s', exec (.epochEnd 0) State.reset = .next s' := ⟨reset_canonical, _, rfl⟩

/-- A bundle whose control slot holds `w`, of the format of contract level CL1. -/
def ctrlBundle (w : Nat) : Row := BitVec.ofNat 256 (w * 2 ^ 224 + 64)

/-- A tile that runs a program and holds a bundle. -/
def running (row : Row) : State := withTil (fun m => { m with cur := some row })

/-- ADDI S31, S0, 0xFFFF as R62 lays it out: opcode 0x10 in [31:26], d in [25:21], s in [20:16], imm in [15:0]. -/
theorem witness_ScalarImmediateOps :
    let f (op : Nat) := ctrlFields op [(25, 21, 31), (20, 16, 0), (15, 0, 0xFFFF)]
    (running (ctrlBundle 0x43E0FFFF)).issues 0 0 (f 0x10) = true ∧
    (∀ op ∈ [0x10, 0x11, 0x12, 0x13, 0x14, 0x15], State.reset.issues 0 0 (f op) = true) ∧
    State.reset.issues 0 0 (ctrlFields 0x16 [(25, 21, 31), (15, 0, 0xFFFF)]) = true := by decide +kernel

theorem witness_ScalarRegisterOps :
    let f (op : Nat) := ctrlFields op [(25, 21, 1), (20, 16, 2), (15, 11, 3)]
    (running (ctrlBundle 0x60221800)).issues 0 0 (f 0x18) = true ∧
    ∀ op ∈ [0x18, 0x19, 0x1A, 0x1B, 0x1C, 0x1D], State.reset.issues 0 0 (f op) = true := by decide +kernel

theorem witness_BranchOps :
    let z := State.reset
    let s := withRegs (withTil (fun m => { m with rets := [7], loops := [⟨0, 8, 2⟩], ipc := 3 })) [(0x204, 1)]
    Canonical s ∧ (s.tile 0).til.delay = 0 ∧ z.issues 0 0 (ctrlFields 1 [(15, 0, 2)]) ∧
    s.issues 0 0 (ctrlFields 1 [(15, 0, 2)]) ∧
    (z.tile 0).til.insideBody (branchTarget 0 0xFFFF#16) ∧ (s.tile 0).til.insideBody (branchTarget 3 2#16) ∧
    s.issues 0 0 (ctrlFields 2 [(20, 16, 1), (15, 0, 2)]) ∧ s.issues 0 0 (ctrlFields 2 [(20, 16, 2), (15, 0, 2)]) ∧
    s.sreg 0 1 ≠ 0#32 ∧ s.sreg 0 2 = 0#32 ∧ s.issues 0 0 (ctrlFields 3 [(20, 16, 2), (15, 0, 2)]) ∧
    s.issues 0 0 (ctrlFields 3 [(20, 16, 1), (15, 0, 2)]) ∧ s.issues 0 0 (ctrlFields 4 [(15, 0, 2)]) ∧
    (s.tile 0).til.rets.length < 8 ∧ s.issues 0 0 (ctrlFields 5 []) ∧ (s.tile 0).til.rets = [7] ∧
    (s.tile 0).til.insideBody 7 := by
  intro z s; exact ⟨canonical_of_canonB (by decide +kernel), by decide +kernel⟩

theorem witness_FlowOps :
    let z := State.reset
    let s := withRegs (withTil (fun m => { m with loops := [⟨0, 64, 2⟩] })) [(0x204, 1)]
    Canonical s ∧ z.issues 0 0 (ctrlFields 6 [(25, 20, 63), (19, 19, 0), (15, 0, 0xFFFF)]) ∧
    s.issues 0 0 (ctrlFields 6 [(25, 20, 63), (19, 19, 1), (4, 0, 1)]) ∧ (s.tile 0).til.delay = 0 ∧ s.sreg 0 1 ≠ 0#32 ∧
    (s.tile 0).til.loops.length < 4 ∧ ((s.tile 0).til.loops.all (fun l => decide (0 + (63 + 1) ≤ l.start + l.len))) ∧
    z.issues 0 0 (ctrlFields 8 [(1, 0, 3)]) ∧ (z.tile 0).til.loops = [] ∧ z.issues 0 0 (ctrlFields 0xB []) ∧
    ∀ n : Fin 6, z.issues 0 n [((opcodeField n).1, (opcodeField n).2, 0)] := by
  intro z s; exact ⟨canonical_of_canonB (by decide +kernel), by decide +kernel⟩

theorem witness_IllegalBundleFaults :
    let s := running 0#256
    let b := withBasin id State.reset
    Canonical b ∧ (b.tile 0).til.cur = none ∧ b.runs 0 = true ∧ b.canIssue 0 = true ∧ (b.tile 0).til.slots = [] ∧
    Canonical s ∧ (s.tile 0).til.cur = some 0#256 ∧ bitsOf (0#256).toNat 7 6 ≠ 1 ∧ s.canIssue 0 = true ∧
    6 ∉ (s.tile 0).til.slots ∧ (s.tile 0).til.active < 4 := by
  intro s b
  exact ⟨canonical_of_canonB (by decide +kernel), by decide +kernel, by decide +kernel, by decide +kernel,
    by decide +kernel, canonical_of_canonB (by decide +kernel), by decide +kernel⟩

theorem witness_LocalRegisterOps :
    let z := State.reset
    let k := withTil (fun m => { m with active := 0 })
    Canonical k ∧ (∀ off ∈ [0, 0xFFFC, 0xFFFF], z.issues 0 0 (ctrlFields 0x20 [(25, 21, 31), (15, 0, off)])) ∧
    (∀ off ∈ [0x4100, 0xFFFC, 0xFFFF], z.issues 0 0 (ctrlFields 0x21 [(20, 16, 31), (15, 0, off)])) ∧
    k.issues 0 0 (ctrlFields 0x21 [(20, 16, 31), (15, 0, 0xFFFC)]) ∧ (k.tile 0).til.active = 0 ∧
    (z.tile 0).til.active ≠ 0 ∧ (z.tile 0).til.active < 4 ∧ 0xFFFC % 4 = 0 ∧ 0xFFFF % 4 ≠ 0 ∧ 0x4100 % 4 = 0 ∧
    jobMayWrite 0x4100 = true ∧ jobMayWrite 0xFFFC = false := by
  intro z k; exact ⟨canonical_of_canonB (by decide +kernel), by decide +kernel⟩

/-- ADDI sign-extends its immediate (R62): S1 + 0xFFFF is S1 − 1. -/
theorem test_addi_sign :
    ((after (exec (.addi 0 2 1 0xFFFF) (withRegs State.reset [(0x204, 5)]))).tile 0).til.swrites =
      [⟨0, true, 2, 4#32⟩] := by decide +kernel

/-- Scalar arithmetic wraps modulo 2³² (R63). -/
theorem test_sub_wraps :
    ((after (exec (.sub 0 2 0 1) (withRegs State.reset [(0x204, 1)]))).tile 0).til.swrites =
      [⟨0, true, 2, 0xFFFFFFFF#32⟩] := by decide +kernel

/-- LUI sets imm × 65,536 and ignores s (R62). -/
theorem test_lui :
    ((after (exec (.lui 0 1 0x8001) State.reset)).tile 0).til.swrites = [⟨0, true, 1, 0x80010000#32⟩] := by decide +kernel

/-- A running tile issues what its bundle carries and nothing else: the bundle holds ADDI, so ORI is turned away (R61). -/
theorem test_bundle_decides :
    after (exec (.ori 0 31 0 0xFFFF) (running (ctrlBundle 0x43E0FFFF))) = running (ctrlBundle 0x43E0FFFF) := by
  decide +kernel

/-! ### The vector unit, banks and the array -/

/-- A vector op with every field at its top. -/
def topVec (ty : Fin 4) (rnd : Fin 8) (imm : BitVec 15) : VecOp := ⟨ty, 31, 31, 31, 31, rnd, imm⟩

theorem witness_VectorMoveOps :
    let v := topVec 3 7 0x7FDF#15
    (∀ op ∈ [1, 2, 3, 4, 5, 6, 8, 9, 0x18, 0x19, 0x1A, 0x34], State.reset.issues 0 1 (vecFields op v) = true) ∧
    v.imm.toNat % 64 < laneCount v.ty.val ∧ v.ty.val = 3 := by decide +kernel

theorem witness_VectorArithmeticOps :
    let v := topVec 1 5 0#15
    (∀ op ∈ [0x10, 0x11, 0x12, 0x13, 0x14, 0x15, 0x16, 0x17, 0x30, 0x31, 0x32, 0x33],
      State.reset.issues 0 1 (vecFields op v) = true) ∧ roundLegal 1 v.rnd.val = true ∧ roundLegal 0 v.rnd.val = true := by
  decide +kernel

theorem witness_VectorReduceConvertOps :
    let v := topVec 1 4 0x37#15
    let x := topVec 0 5 0x3D#15
    (∀ op ∈ [0x40, 0x41, 0x42, 0x43, 0x50, 0x51, 0x52, 0x53, 0x60, 0x61],
      State.reset.issues 0 1 (vecFields op v) = true) ∧ roundLegal 2 v.rnd.val = true ∧ roundLegal 1 v.rnd.val = true ∧
    moveLegal v.ty.val v.imm.toNat = true ∧ State.reset.issues 0 1 (vecFields 0x61 x) = true ∧ x.ty.val ≠ 3 ∧
    8 ≤ bitsOf x.imm.toNat 3 0 ∧ bitsOf x.imm.toNat 3 0 ≤ 0xD ∧ roundLegal 1 x.rnd.val = true := by
  decide +kernel

theorem witness_VectorFunctionOps :
    let v := topVec 2 0 7#15
    v.ty.val ≠ 3 ∧ v.rnd.val = 0 ∧ ∀ op ∈ [0x70, 0x71, 0x72, 0x73, 0x74, 0x75, 0x76, 0x77, 0x78, 0x79, 0x7A, 0x80],
      State.reset.issues 0 1 (vecFields op v) = true := by decide +kernel

theorem witness_IllegalVectorOps :
    let v := topVec 3 6 0x7FFF#15
    let x := topVec 0 6 0x7FFE#15
    (∀ op ∈ [6, 0x10, 0x11, 0x12, 0x13, 0x40, 0x41, 0x42, 0x43, 0x50, 0x51, 0x52, 0x53, 0x60, 0x61, 0x70, 0x71, 0x72, 0x73,
      0x74, 0x75, 0x76, 0x77, 0x78, 0x79, 0x7A, 0x80], State.reset.issues 0 1 (vecFields op v) = true) ∧
    (∀ op ∈ [0x18, 0x19, 0x1A, 0x52, 0x53, 0x60, 0x61, 0x70], State.reset.issues 0 1 (vecFields op x) = true) ∧
    (State.reset.tile 0).til.active < 4 ∧ x.ty.val ≠ 3 ∧ 5 < x.rnd.val ∧ 0xD < bitsOf x.imm.toNat 3 0 ∧
    bitsOf (topVec 0 0 7#15).imm.toNat 3 0 < 8 ∧ State.reset.issues 0 1 (vecFields 0x60 (topVec 0 0 7#15)) = true ∧
    v.ty.val = 3 ∧
    v.rnd.val ≠ 0 ∧ 5 < v.rnd.val ∧ laneCount v.ty.val ≤ v.imm.toNat % 64 ∧ moveLegal v.ty.val v.imm.toNat = false ∧
    0xD < bitsOf v.imm.toNat 3 0 := by decide +kernel

theorem witness_RowReadAfterWrite : Canonical State.reset ∧ 2303 < 2304 ∧ 40959 < 40960 := ⟨reset_canonical, by decide⟩

/-- A bank op of one row, in row mode. -/
def oneRow (route reg : Fin 32) : BankOp := ⟨0, 5, 0, route, reg, 1⟩

/-- Reset with tile 0 replaced and its context 1, the active one, given the whole row space as data. -/
def dataTile (f : Tile → Tile) (l : List (Nat × Nat)) : State :=
  withRegs { State.reset with tiles := if f Tile.init = Tile.init then [] else [(0, f Tile.init)] } ([(0x124, 40960)] ++ l)

/-- The last row of the row space, in row mode; and 2,047 rows that begin at row 0 by S1 in index mode. -/
theorem witness_BankReadStarts :
    let s := dataTile id [(0x204, 0xFFFFFFFF)]
    let o : BankOp := ⟨0, 40959#16, 0, 8, 31, 1⟩
    let p : BankOp := ⟨1, 1#16, 1, 7, 31, 0x7FF#11⟩
    Canonical s ∧ FirstAccess s 0 o 40959 ∧ s.issues 0 4 (bankFields 1 o) ∧ routeLegal 1 8 = true ∧ o.count.toNat = 1 ∧
    FirstAccess s 0 p 0 ∧ s.issues 0 3 (bankFields 1 p) ∧ routeLegal 1 7 = true ∧ routeLegal 1 1 = true := by
  intro s o p
  exact ⟨canonical_of_canonB (by decide +kernel), by constructor <;> decide +kernel, by decide +kernel, by decide +kernel,
    by decide +kernel, by constructor <;> decide +kernel, by decide +kernel⟩

theorem witness_BankStoreStarts :
    let s := dataTile id []
    let o : BankOp := ⟨0, 40959#16, 0, 0x13, 31, 1⟩
    Canonical s ∧ FirstAccess s 0 o 40959 ∧ s.inCode 0 40959 = false ∧ s.issues 0 4 (bankFields 2 o) ∧
    routeLegal 2 0x13 = true ∧ s.issues 0 4 (bankFields 4 o) := by
  intro s o
  exact ⟨canonical_of_canonB (by decide +kernel), by constructor <;> decide +kernel, by decide +kernel⟩

theorem witness_BankAliasStarts :
    let s := dataTile id [(bankOff 15 0x10, 5)]
    let o : BankOp := ⟨0, 40959#16, 0, 0x14, 31, 1⟩
    let q : BankOp := ⟨0, 40959#16, 0, 0x13, 31, 1⟩
    Canonical s ∧ FirstAccess s 0 o 40959 ∧ FirstAccess s 0 q 40959 ∧ s.inCode 0 40959 = false ∧
    (∀ b ∈ banksOf 40959 1, s.regN 0 (bankOff b 0x10) ≠ 0) ∧ s.regN 0 (bankOff (bankOf 40959) 0x10) ≠ 0 ∧
    s.issues 0 4 (bankFields 3 o) ∧ routeLegal 3 0x14 = true ∧
    s.issues 0 4 (bankFields 3 q) ∧ routeLegal 3 0x13 = true ∧ kolvosDecode (s.rowWord 0 40959) = .good 0 ∧
    (s.bank 0 15).gather = [] ∧ (s.vquarter 0 ((4 * 31 + 3) % 128)).2 = false := by
  intro s o q
  exact ⟨canonical_of_canonB (by decide +kernel), by constructor <;> decide +kernel,
    by constructor <;> decide +kernel, by decide +kernel⟩

/-- An active set of a format, with a shadow set beside it. -/
def setTile (fmt : Nat) (col : Bool) : State :=
  withTile (fun t => { t with arr := { t.arr with active := ⟨true, fmt, col, [], false⟩, complete := true } })

theorem witness_ArrayStreams :
    let w := setTile 0 false
    let a := setTile 0 true
    let c := setTile 6 false
    let o : ArrOp := ⟨0, 0, 5, 0xFFF#12, 31, 7, 0, true⟩
    let p : ArrOp := ⟨6, 1, 0, 1#12, 31, 1, 1, false⟩
    Canonical w ∧ Canonical a ∧ Canonical c ∧ w.issues 0 2 (arrFields 1 o) ∧ a.issues 0 2 (arrFields 2 o) ∧
    c.issues 0 2 (arrFields 5 p) ∧ arrFmt 0 = true ∧ arrFmt 6 = true ∧ fmtWidth 6 = 16 ∧ o.outFmt.val ≠ 7 ∧ o.rnd.val ≤ 5 ∧
    (w.tile 0).arr.active.valid = true ∧ fmtGroup 0 = fmtGroup (w.tile 0).arr.active.fmt ∧
    (a.tile 0).arr.active.colMajor = true ∧ ¬(ringUnits o.outFmt.val (w.width 0) = 2 ∧ o.ring.val = 0) ∧
    ¬(ringUnits p.outFmt.val (c.width 0) = 2 ∧ p.ring.val = 0) ∧ o.count ≠ 0 ∧ p.count ≠ 0 ∧
    (w.tile 0).arr.nextFree ≤ (w.tile 0).til.beat := by
  intro w a c o p
  exact ⟨canonical_of_canonB (by decide +kernel), canonical_of_canonB (by decide +kernel),
    canonical_of_canonB (by decide +kernel), by decide +kernel⟩

/-- A row on its way through the array, accepted in beat 0. -/
def flying : AccRow := ⟨0, 256, false, 0, 0, 0, 0, 0, 0, [], [], false, false⟩

theorem witness_StationarySets :
    let z := State.reset
    let s := setTile 0 false
    let w := withTile (fun t => { t with til := { t.til with beat := 64 }, arr := { t.arr with swapBeat := some 0, completeAt := some 64 } })
    let o : ArrOp := ⟨0, 0, 0, BitVec.ofNat 12 (setLen 0), 16, 0, 1, true⟩
    let c : ArrOp := ⟨0, 0, 0, 0xFFF#12, 0, 0, 0, false⟩
    let h := withTile (fun t => { t with til := { t.til with endIssued := true }, arr := { t.arr with completeAt := some 1 } })
    let l := withTile (fun t => { t with til := { t.til with beat := 66 }, arr := { t.arr with rows := [flying] } })
    Canonical w ∧ z.issues 0 2 (arrFields 3 o) ∧ w.issues 0 2 (arrFields 3 o) ∧ arrFmt 0 = true ∧
    o.count.toNat = setLen 0 ∧ o.gen.val < 2 ∧ (z.tile 0).arr.load = none ∧ (z.tile 0).arr.swapBeat = none ∧
    (w.tile 0).arr.swapBeat = some 0 ∧ 0 + 64 ≤ (w.tile 0).til.beat ∧ (w.tile 0).arr.load = none ∧
    (w.tile 0).arr.completeAt = some 64 ∧ 64 ≤ (w.tile 0).til.beat ∧
    Canonical s ∧ s.issues 0 2 [(39, 35, 4)] ∧ (s.tile 0).arr.complete = true ∧
    Canonical h ∧ (h.tile 0).arr.completeAt = some 1 ∧ (h.tile 0).til.drained = true ∧
    Canonical l ∧ z.issues 0 2 [(39, 35, 6), (24, 13, c.count.toNat)] ∧ c.count ≠ 0 ∧
    l.issues 0 2 [(39, 35, 6), (24, 13, c.count.toNat)] ∧ (∀ r ∈ (l.tile 0).arr.rows, r.beat + 66 ≤ (l.tile 0).til.beat) ∧
    (∀ x ∈ (l.tile 0).arr.streams, (l.tile 0).til.beat < x.beat + 2) := by
  intro z s w o c h l
  and_intros <;> first | exact canonical_of_canonB (by decide +kernel) | decide +kernel

theorem witness_ArrayResults :
    let s := withTile (fun t => { t with til := { t.til with beat := 66 }, arr := { t.arr with rows := [flying] } })
    let e := withTile (fun t => { t with til := { t.til with endIssued := true }, arr := { t.arr with rows := [flying] } })
    let c := withTile (fun t => { t with arr := { t.arr with checks := [⟨0, 255, false, 2, 0⟩, ⟨0, 1, true, 1, 9⟩] } })
    let g := withRegs c [(0x1020, 1)]
    let d := withTile (fun t => { t with arr := { t.arr with checks := [⟨0, 1, true, 1, 9⟩] } })
    Canonical s ∧ Canonical e ∧ Canonical c ∧ Canonical d ∧ Canonical g ∧ (s.tile 0).arr.rows = [flying] ∧
    flying.beat + 66 = (s.tile 0).til.beat ∧ (e.tile 0).arr.rows = [flying] ∧ (e.tile 0).til.drained = true ∧
    (c.tile 0).arr.checks = ⟨0, 255, false, 2, 0⟩ :: [⟨0, 1, true, 1, 9⟩] ∧ ((0 : Int) + residueMod) % residueMod = 0 ∧
    ((0 : Int) + 1) % residueMod ≠ 0 ∧ c.regN 0 0x1020 = 0 ∧ g.regN 0 0x1020 ≠ 0 ∧
    (g.tile 0).arr.checks = (c.tile 0).arr.checks ∧
    (d.tile 0).arr.checks = [⟨0, 1, true, 1, 9⟩] := by
  intro s e c g d
  exact ⟨canonical_of_canonB (by decide +kernel), canonical_of_canonB (by decide +kernel),
    canonical_of_canonB (by decide +kernel), canonical_of_canonB (by decide +kernel),
    canonical_of_canonB (by decide +kernel), by decide +kernel⟩

/-- A tile that issues, and one that is frozen. -/
theorem witness_StreamRegisterWrite :
    let f := withTil (fun m => { m with frozen := true })
    Canonical State.reset ∧ State.reset.canIssue 0 = true ∧ Canonical f ∧ f.canIssue 0 = false := by
  intro f
  exact ⟨reset_canonical, by decide +kernel, canonical_of_canonB (by decide +kernel), by decide +kernel⟩

/-- MOV writes all four quarters, readable two beats after issue (R81). -/
theorem test_mov_latency :
    ((after (exec (.vecMov 0 (topVec 0 0 0#15)) State.reset)).tile 0).vwrites.map (fun w => (w.beat, w.quarter)) =
      [(1, 124), (1, 125), (1, 126), (1, 127)] := by decide +kernel

/-- A WRITE of a row stores it with its check bits in the beat of issue; an all-zero quarter gives the zero codeword. -/
theorem test_bank_zero :
    (after (exec (.bankZero 0 0 ⟨0, 5#16, 0, 0, 0, 1⟩) (dataTile id []))).rowWord 0 5 = 0#276 := by decide +kernel

/-- A bank op beyond the data bound raises DATA_BOUND, task fault 1 (R74, R77). -/
theorem test_data_bound :
    (after (exec (.bankRead 0 0 ⟨0, 40960#16, 0, 8, 1, 1⟩) (dataTile id []))).regN 0 0x0c = 1 := by decide +kernel

/-! ### The mesh -/

theorem witness_MeshSlotOps :
    let s := withRegs (withTile (fun t => { t with sw := { t.sw with wheel := [(64 * 7 + 2, 0xE0000100#32)] } }))
      [(0x124, 40960), (0x204, 40959), (0x4100, 1)]
    let o : MeshOp := ⟨7, 2, 0#16, 1⟩
    let p : MeshOp := ⟨0, 0, 40959#16, 0⟩
    Canonical s ∧ o.mode.val ≠ 3 ∧ p.mode.val ≠ 3 ∧ s.issues 0 5 (meshFields 1 o) ∧ (s.meshRow 0 o).1 = 40959 ∧
    40959 < (s.dataRange 0 (s.tile 0).til.active).2 ∧ s.portXStatus 0 40959 [1] = 0 ∧
    s.inPail 0 (bankOf 40959) (localOf 40959) = false ∧
    o.lane.val ∈ (((List.range 8).map (fun l => (l, (s.tile 0).sw.entry l ((s.slotOf 0 + 2) % 64)))).filter (fun q =>
      weValid q.2 && decide (s.circAhead 0 (weCirc q.2) ≠ 0) && decide (weSrc q.2 = 8) && !weTrig q.2)).map (·.1) ∧
    s.issues 0 5 (meshFields 2 p) ∧ (s.meshRow 0 p).1 = 40959 ∧ s.inCode 0 40959 = false ∧
    s.issues 0 5 [(31, 28, 3), (27, 25, 7), (24, 19, 63), (18, 14, 1)] ∧ weMalformed (s.sreg 0 1).toNat = false := by
  intro s o p; exact ⟨canonical_of_canonB (by decide +kernel), by decide +kernel⟩

/-- A LOCAL entry with DELIV = 0, one with a reserved SRC, and one that neither forwards nor lands are malformed; a valid
LOCAL entry and one with V = 0 are not (R183, R184). -/
theorem witness_MalformedWheelEntries :
    let s := withRegs State.reset [(0x204, 0xE0000000), (0x208, 0xE0000100)]
    let v := withTile (fun t => { t with sw := { t.sw with staged := [(64 * 7 + 63, some 0x7FFFFFFF#32)] } })
    Canonical s ∧ Canonical v ∧ s.issues 0 5 [(31, 28, 3), (27, 25, 7), (24, 19, 63), (18, 14, 1)] ∧
    s.issues 0 5 [(31, 28, 3), (27, 25, 7), (24, 19, 63), (18, 14, 2)] ∧
    [0xE0000000, 0xE4000100, 0x80000100, 0xE2000100].all weMalformed = true ∧
    [0xE0000100, 0x7FFFFFFF].any weMalformed = false ∧
    (s.tile 0).dark = false ∧ bitOf (0x7FFFFFFF#32).toNat 31 = false ∧
    (v.tile 0).sw.staged = [(64 * 7 + 63, some 0x7FFFFFFF#32)] ∧ Map.wf (v.tile 0).sw.wheel (fun _ => 0) = true := by
  intro s v
  exact ⟨canonical_of_canonB (by decide +kernel), canonical_of_canonB (by decide +kernel), by decide +kernel⟩

/-- A token of epoch 0 that holds an all-zero row. -/
def token0 : Token := ⟨0, 0, false, true, 0⟩

/-- Lane 0 of tile 0 comes from lane 4 of tile 48. -/
theorem witness_TokensBetweenTiles :
    let s := { State.reset with tiles := [(48, { Tile.init with sw := { Switch.init with outs := [(4, some token0)] } })] }
    let a := { State.reset with tiles := [(0, { Tile.init with sw := { Switch.init with outs := [(0, some token0)] } }),
      (48, { Tile.init with sw := { Switch.init with owed := [4] } })] }
    Canonical s ∧ Canonical a ∧ laneEnd 0 0 = some (48, 4) ∧ (48 ≠ 0) ∧ s.ferryStages 48 4 = 0 ∧
    Map.get (s.tile 48).sw.outs none 4 = some token0 ∧ 0 ∉ (s.tile 0).sw.owed ∧ Map.get (s.tile 0).sw.inputs none 0 = none ∧
    a.ferryStages 0 0 = 0 ∧ Map.get (a.tile 0).sw.outs none 0 = some token0 ∧ 4 ∈ (a.tile 48).sw.owed ∧
    Map.get (a.tile 48).sw.inputs none 4 = none := by
  intro s a
  exact ⟨canonical_of_canonB (by decide +kernel), canonical_of_canonB (by decide +kernel), by decide +kernel⟩

theorem witness_WheelInjectionReads :
    let s := withRegs (withTile (fun t => { t with sw := { t.sw with wheel := [(64 * 7 + 2, 0xE1F00180#32)] } }))
      [(0x124, 40960), (0x41F8, 1), (0x41FC, 40959)]
    Canonical s ∧ s.trigWheels 0 31 = [(7, 0xE1F00180)] ∧ s.canIssue 0 ∧ s.meshSettled 0 ∧ 31 ∉ (s.tile 0).sw.doneCirc ∧
    s.grantOf 0 true 31 = (some 40959, true) ∧ s.portXStatus 0 40959 [1] = 0 ∧
    s.inPail 0 (bankOf 40959) (localOf 40959) = false := by
  intro s; exact ⟨canonical_of_canonB (by decide +kernel), by decide +kernel⟩

theorem witness_SwitchRegisterWrites :
    let s := withRegs State.reset [(0x41FC, 0xFFFF0000)]
    let r := withBasin id State.reset
    Canonical s ∧ Canonical r ∧ (s.tile 0).dark = false ∧ weMalformed (0xE0000100#32).toNat = false ∧
    r.runs 0 = true ∧ r.absorbing 0 = false ∧
    (r.canIssue 0 = true ∧ (r.basinOf 0).any (fun b => (r.basin b).started) = true) ∧
    ¬(s.canIssue 0 = true ∧ (s.basinOf 0).any (fun b => (s.basin b).started) = true) := by
  intro s r
  exact ⟨canonical_of_canonB (by decide +kernel), canonical_of_canonB (by decide +kernel), by decide +kernel⟩

theorem witness_StallSentinel :
    let s := withBasin id State.reset
    let q := withBasin (fun b => { b with stalls := [s.stallRec 195] }) State.reset
    Canonical s ∧ Canonical q ∧ berthMask 0 0x8000#16 = [147] ∧ s.basinOf 147 = some 0 ∧ 0 ∉ (s.basin 0).stalled ∧
    s.heldByRequest 0 = false ∧ (∀ r ∈ s.boot.resets, 147 ∉ r.tiles) ∧ (q.basin 0).stalls ≠ [] := by
  intro s q
  exact ⟨canonical_of_canonB (by decide +kernel), canonical_of_canonB (by decide +kernel), by decide +kernel⟩

/-- A seam lane whose last wires are worn and whose handshake wires have disagreed. -/
def wornSeam : Seam := { Seam.init with
  wires := [0, 1, 2, 3, 4, 5, 6], hsFailed := [3], hsRun := [(0, 1024), (5, 1024)], limit := 2, counts := [(291, 2)] }

/-- Reset with seam lane 1 worn. -/
def wornState : State := { State.reset with seams := [(1, wornSeam)] }

/-- The same with a basin on both sides of the seam. -/
def wornBasin : State := withBasin (fun b => { b with rect := some (2, 0, 4, 0) }) wornState

theorem wornState_unused : wornState.seamBasin 1 = none :=
  List.findSome?_eq_none_iff.mpr (fun x _ => ite_eq_right_iff.mpr (fun _ => rfl))

theorem wornBasin_used : wornBasin.seamBasin 1 = some 0 := by decide +kernel

theorem witness_SeamWires :
    (∀ s ∈ [wornState, wornBasin], Canonical s ∧ s.seamIn 11 2 = some 1 ∧ (s.seam 1).state ≠ 2 ∧ 291 ∉ (s.seam 1).wires ∧
      291 ∉ (s.seam 1).staged ∧ (s.seam 1).worn 291 = true ∧ (s.seam 1).wires.length + (s.seam 1).staged.length < 8 ∧
      5 ∉ (s.seam 1).hsFailed ∧ 1024 ≤ Map.get (s.seam 1).hsRun 0 5 ∧
      (s.seam 1).hsFailed.any (fun w => decide (w / 3 = 5 / 3)) = true ∧
      0 ∉ (s.seam 1).hsFailed ∧ 1024 ≤ Map.get (s.seam 1).hsRun 0 0 ∧
      (s.seam 1).hsFailed.any (fun w => decide (w / 3 = 0 / 3)) = false) ∧
    wornState.seamBasin 1 = none ∧ wornBasin.seamBasin 1 = some 0 := by
  refine ⟨?_, wornState_unused, wornBasin_used⟩
  simp only [List.forall_mem_cons, List.not_mem_nil, false_imp_iff, implies_true, and_true]
  exact ⟨⟨canonical_of_canonB (by decide +kernel), by decide +kernel⟩,
    canonical_of_canonB (by decide +kernel), by decide +kernel⟩
/-! ### Banks, pails and remap -/

/-- Reset with the last bank of tile 0 replaced. -/
def withBank (f : Bank → Bank) : State := withTile (fun t => { t with banks := [(15, f Bank.init)] })

/-- A gather entry of sound parity that is a beat old. -/
def entry (row : Nat) (d : Row) (mask : BitVec 8) : GatherEntry := ⟨row, d, mask, 5, wordParity d⟩

/-- Word 7 of this entry fails its parity. -/
def badEntry : GatherEntry := { entry 40959 2 0x80#8 with par := 0x80 }

theorem witness_FillInAccesses :
    let s := withRegs (withBank (fun k => { k with writeback := [(2559, 5)] })) []
    let c := { withRegs State.reset [(remapOff 15 31, 2 ^ 31 + 2559)] with mem := [(4096 * 15 + 2559, 1#276), (4096 * 15 + 2591, 1#276)] }
    let u := { c with mem := [(4096 * 15 + 2558, 7#276), (4096 * 15 + 2591, 7#276)] }
    let g := withBank (fun k => { k with gather := [entry 40959 7 0xFF#8] })
    let d := withBank (fun k => { k with gather := [entry 40959 7 0x0F#8], sleep := 2 })
    let r := withRegs State.reset [(remapOff 15 31, 2 ^ 29 + 2558)]
    let h := withRegs (withTile (fun t => { t with halted := true })) [(remapOff 15 31, 2 ^ 29 + 2558)]
    (∀ x ∈ [s, c, u, g, d, r, h], Canonical x) ∧ s.fillTurn 0 15 4 = true ∧ (s.bank 0 15).writeback = [(2559, 5)] ∧
    (c.bank 0 15).sleep = 0 ∧ c.fillTurn 0 15 7 = true ∧ c.spareOf 0 15 2559 = some 31 ∧
    kolvosDecode (c.rowWord 0 (2560 * 15 + 2559)) = .corrected 0 1 ∧
    kolvosDecode (c.word (spareKey 0 15 31)) = .corrected 0 1 ∧
    u.fillTurn 0 15 7 = true ∧ kolvosDecode (u.rowWord 0 (2560 * 15 + 2558)) = .uncorrectable ∧
    kolvosDecode (u.word (spareKey 0 15 31)) = .uncorrectable ∧
    g.dueGather 0 15 = some (entry 40959 7 0xFF#8) ∧ g.fillTurn 0 15 5 = true ∧ (entry 40959 7 0xFF#8).fails = false ∧
    bankOf 40959 = 15 ∧ d.dueGather 0 15 = some (entry 40959 7 0x0F#8) ∧ d.fillTurn 0 15 5 = true ∧
    (entry 40959 7 0x0F#8).fails = false ∧ kolvosDecode (d.rowWord 0 40959) = .good 0 ∧
    bitOf (r.regN 0 (remapOff 15 31)) 29 = true ∧ bitOf (r.regN 0 (remapOff 15 31)) 31 = false ∧
    bitOf (r.regN 0 (remapOff 15 31)) 28 = false ∧ r.regN 0 (remapOff 15 31) % 4096 = 2558 ∧ (r.bank 0 15).copies = [] ∧
    r.fillTurn 0 15 6 = true ∧ kolvosDecode (r.rowWord 0 (2560 * 15 + 2558)) = .good 0 ∧ r.canIssue 0 = true ∧
    h.fillTurn 0 15 6 = true ∧ h.canIssue 0 = false := by
  intro s c u g d r h
  refine ⟨?_, by decide +kernel⟩
  simp only [List.forall_mem_cons, List.not_mem_nil, false_imp_iff, implies_true, and_true]
  exact ⟨canonical_of_canonB (by decide +kernel), canonical_of_canonB (by decide +kernel),
    canonical_of_canonB (by decide +kernel), canonical_of_canonB (by decide +kernel), canonical_of_canonB (by decide +kernel),
    canonical_of_canonB (by decide +kernel), canonical_of_canonB (by decide +kernel)⟩

theorem witness_NarrowWrites :
    let s := withBank (fun k => { k with gather := List.replicate 7 (entry 38400 0 1#8) })
    let g := withBank (fun k => { k with gather := entry 38401 3 0xFF#8 :: List.replicate 7 (entry 38400 0 1#8) })
    let f := withBank (fun k => { k with gather := [entry 40959 2 0x80#8] })
    let b := withBank (fun k => { k with gather := [badEntry] })
    let at40959 (x : State) := (x.bank 0 15).gather.find? (fun e => decide (e.row = 40959))
    (∀ x ∈ [s, g, f, b], Canonical x ∧ x.portXStatus 0 40959 [1, 2] = 0) ∧ bankOf 40959 = 15 ∧ 0x80#8 ≠ 0#8 ∧
    at40959 s = none ∧ (s.bank 0 15).gather.length < 8 ∧ at40959 g = none ∧ 8 ≤ (g.bank 0 15).gather.length ∧
    g.fillTurn 0 15 5 = true ∧ (entry 38401 3 0xFF#8).fails = false ∧ bankOf 38401 = 15 ∧
    at40959 f = some (entry 40959 2 0x80#8) ∧ (entry 40959 2 0x80#8).fails = false ∧ at40959 b = some badEntry ∧
    badEntry.fails = true := by
  intro s g f b at40959
  refine ⟨?_, by decide +kernel⟩
  simp only [List.forall_mem_cons, List.not_mem_nil, false_imp_iff, implies_true, and_true]
  exact ⟨⟨canonical_of_canonB (by decide +kernel), by decide +kernel⟩,
    ⟨canonical_of_canonB (by decide +kernel), by decide +kernel⟩,
    ⟨canonical_of_canonB (by decide +kernel), by decide +kernel⟩, canonical_of_canonB (by decide +kernel), by decide +kernel⟩

theorem witness_RowWindow :
    let s := withRegs (withBank (fun k => { k with gather := List.replicate 7 (entry 38400 0 1#8) })) [(0x5800, 40959)]
    Canonical s ∧ Admitted s 0 (some 0) ∧ Admitted s 0 none ∧ s.portXStatus 0 (s.regN 0 0x5800) [1, 2] = 0 ∧
    s.fillTurn 0 15 6 = true ∧ bankOf (s.regN 0 0x5800) = 15 ∧
    usedNow (s.bank 0 15) (s.tile 0).til.beat (localOf 40959) (fun e => e == 1 || e == 2) = false ∧ (0x7F#8 ≠ 0#8) ∧
    (0x7F#8 ≠ 0xFF#8) ∧ (s.bank 0 15).gather.find? (fun e => decide (e.row = s.regN 0 0x5800)) = none ∧
    (s.bank 0 15).gather.length < 8 ∧ (3 : Fin 4).val ≠ 0 ∧ (s.tile 0).til.active < 4 := by
  intro s
  exact ⟨canonical_of_canonB (by decide +kernel), ⟨by decide +kernel, .inl rfl⟩, ⟨by decide +kernel, .inr (by decide +kernel)⟩,
    by decide +kernel⟩

theorem witness_BankSleep :
    let s := withBank (fun k => { k with owner := 0 })
    let d := withBank (fun k => { k with sleep := 2, wakePending := true })
    let w := withBank (fun k => { k with sleep := 5 })
    let f := withBank (fun k => { k with sleep := 5, wasOff := true })
    let h := withTile (fun t => { t with halted := true })
    Canonical s ∧ Canonical d ∧ Canonical w ∧ Canonical f ∧ Canonical h ∧ Admitted s 0 (some 0) ∧ Admitted h 0 none ∧
    (s.bank 0 15).sleep = 0 ∧ (0xFFFFFFFC#32).toNat % 8 ≤ 4 ∧ (0xFFFFFFFC#32).toNat % 8 ≠ (s.bank 0 15).owner ∧
    s.canIssue 0 = true ∧ h.canIssue 0 = false ∧ (2#32).toNat % 8 ≠ (h.bank 0 15).owner ∧
    h.ownerIdle 0 15 (h.bank 0 15).owner = true ∧ h.ownerIdle 0 15 2 = true ∧ (s.bank 0 15).owner = 0 ∧
    (s.bank 0 15).staged = none ∧
    ((d.bank 0 15).sleep = 1 ∨ (d.bank 0 15).sleep = 2) ∧ (d.bank 0 15).inflight (d.tile 0).til.beat = 0 ∧
    (w.bank 0 15).sleep = 5 ∧ (w.bank 0 15).wasOff = false ∧ (f.bank 0 15).sleep = 5 ∧ (f.bank 0 15).wasOff = true := by
  intro s d w f h
  exact ⟨canonical_of_canonB (by decide +kernel), canonical_of_canonB (by decide +kernel),
    canonical_of_canonB (by decide +kernel), canonical_of_canonB (by decide +kernel),
    canonical_of_canonB (by decide +kernel), ⟨by decide +kernel, .inl rfl⟩, ⟨by decide +kernel, .inr (by decide +kernel)⟩,
    by decide +kernel⟩

theorem witness_RemapEntries :
    let s := withObjs State.reset [(0x2000, 7, 2)]
    let v := withRegs State.reset [(remapOff 15 31, 2 ^ 31)]
    Canonical s ∧ Canonical v ∧ 2559 < 2560 ∧ Admitted s 0 (some 0) ∧ Admitted v 0 none ∧
    bitOf (s.regN 0 (remapOff 15 31)) 31 = false ∧
    s.sparesFree 0 15 ≠ 0 ∧ bitOf (v.regN 0 (remapOff 15 31)) 31 = true ∧ s.inBring 0 = false ∧ v.inBring 0 = true := by
  intro s v
  exact ⟨canonical_of_canonB (by decide +kernel), canonical_of_canonB (by decide +kernel), by decide +kernel,
    ⟨by decide +kernel, .inl rfl⟩, ⟨by decide +kernel, .inr (by decide +kernel)⟩, by decide +kernel⟩

/-- A READ whose last access is row 40959, which waits on a pail. -/
def paused : BankStream := ⟨0, 0, 1, 0, 40958, 0, 0, 2, 1, 0, 0, [], false, false, true, true, 40959⟩

/-- Tile 0 with the last row of bank 15 in a pail window, FULL or EMPTY. -/
def pailTile (full : Bool) (f : Tile → Tile) : State :=
  withRegs (withTile (fun t => { f t with banks := if full then [(15, { Bank.init with full := [(2559, true)] })] else [] }))
    [(pailOff 15 12, 4096 + 2559)]

theorem witness_PailResumes :
    let s := pailTile true (fun t => { t with til := { t.til with streams := [paused] } })
    let i := pailTile true (fun t => { t with sw := { t.sw with waitInj := some ⟨40959, [3], 9⟩ } })
    let l := pailTile false (fun t => { t with sw := { t.sw with forks := [⟨1, token0, [3], some 40959⟩] } })
    Canonical s ∧ Canonical i ∧ Canonical l ∧ s.canIssue 0 ∧ (s.tile 0).til.streams = [paused] ∧ paused.blocked = true ∧
    paused.op = 1 ∧ paused.mode ≠ 2 ∧ 40959 = (s.dataRange 0 paused.ctx).1 + (paused.row + paused.next) % 2 ^ 32 ∧
    bankOf 40959 = 15 ∧ (∀ x ∈ [s, i, l], x.inPail 0 15 (localOf 40959) = true ∧ (x.tile 0).sw.waitCirc = []) ∧
    Map.get (s.bank 0 15).full false (localOf 40959) = true ∧ (s.tile 0).sw.forks = [] ∧ (s.tile 0).sw.waitInj = none ∧
    i.canIssue 0 ∧ (i.tile 0).sw.waitInj = some ⟨40959, [3], 9⟩ ∧ (i.tile 0).til.streams = [] ∧ (i.tile 0).sw.forks = [] ∧
    Map.get (i.bank 0 15).full false (localOf 40959) = true ∧
    l.canIssue 0 ∧ (l.tile 0).sw.forks = [⟨1, token0, [3], some 40959⟩] ∧ l.portXStatus 0 40959 [1] = 0 ∧
    l.inAlias 0 15 (localOf 40959) = false ∧ Map.get (l.bank 0 15).full false (localOf 40959) = false ∧
    usedNow (l.bank 0 15) (l.tile 0).til.beat (localOf 40959) (fun e => e == 0) = false := by
  intro s i l
  exact ⟨canonical_of_canonB (by decide +kernel), canonical_of_canonB (by decide +kernel),
    canonical_of_canonB (by decide +kernel), by decide +kernel⟩

/-- A load engine that has all its rows, whose trailer is the digest of none. -/
def fullMover (gotSum : Nat) : Mover := { Mover.init with
  inn := some 3, landed := 42016, gotSum
  rows := (5, false) :: List.replicate 1054 (0, false) ++ [(BitVec.ofNat 256 (digestOf 0 42016), false)] }

theorem witness_TileStateMoves :
    let s := { State.reset with basins := [(3, { Basin.init with holds := [(.remap, 0)] })] }
    let m := withTile (fun t => { t with mover := fullMover 0 })
    let n := withTile (fun t => { t with mover := fullMover 1 })
    Canonical s ∧ Canonical m ∧ Canonical n ∧ s.unitIs 0 = true ∧ s.moveOpen 0 ∧ s.badSide 0 1 = false ∧
    (s.tile 0).dark = false ∧ s.absorbing 0 = false ∧ (s.tile 0).mover.inn = none ∧ (s.tile 0).mover.out = none ∧
    m.unitIs 0 = true ∧ (m.tile 0).mover.inn.isSome = true ∧ (m.tile 0).mover.landed = 42016 ∧
    (m.tile 0).mover.rows.length = 1056 ∧
    rowBits ((m.tile 0).mover.rows.getD 1055 (0, false)).1 0 64 = digestOf (m.tile 0).mover.gotSum 42016 ∧
    n.unitIs 0 = true ∧ (n.tile 0).mover.inn.isSome = true ∧ (n.tile 0).mover.landed = 42016 ∧
    rowBits ((n.tile 0).mover.rows.getD 1055 (0, false)).1 0 64 ≠ digestOf (n.tile 0).mover.gotSum 42016 ∧
    (n.tile 0).lk.faulted = false := by
  intro s m n
  exact ⟨canonical_of_canonB (by decide +kernel), canonical_of_canonB (by decide +kernel),
    canonical_of_canonB (by decide +kernel), by decide +kernel⟩

/-- A wake from off finds every row zero and every pail tag EMPTY (R171). -/
theorem test_wake_from_off :
    let s := { withBank (fun k => { k with sleep := 5, wasOff := true, full := [(3, true)] }) with mem := [(4096 * 15 + 3, 1#276)] }
    let a := after (exec (.wakeComplete 0 15) s)
    (a.mem, (a.bank 0 15).full, (a.bank 0 15).sleep) = ([], [], 0) := by decide +kernel

/-! ### Pulses, beats, barriers and locks -/

/-- Basin 0 as a width and height code, started, with its tiles 0 to 2303 changed as listed. -/
def withTiles (w h : Nat) (f : Basin → Basin) (l : List (Nat × (Tile → Tile))) : State :=
  { State.reset with
    tiles := l.map (fun p => (p.1, p.2 Tile.init))
    basins := [(0, f { Basin.init with rect := some (0, 0, w, h), started := true })] }

theorem witness_PulsesAndFrames :
    let s := withTil (fun m => { m with pulses := 31 })
    let p := withTil (fun m => { m with pulses := 15, pulse := true })
    let k := withRegs s [(0x7100, 12)]
    let d := withTile (fun t => { t with dark := true })
    Canonical s ∧ Canonical p ∧ Canonical k ∧ Canonical d ∧ (d.tile 0).dark = true ∧ (s.tile 0).dark = false ∧
    31 % 16 * 12 / 16 < (31 % 16 + 1) * 12 / 16 ∧ k.regN 0 0x7100 % 16 = 12 ∧
    31 % 16 * 0 / 16 = (31 % 16 + 1) * 0 / 16 ∧ s.regN 0 0x7100 % 16 = 0 ∧ (s.tile 0).til.pulse = false ∧
    (p.tile 0).til.pulse = true := by
  intro s p k d
  exact ⟨canonical_of_canonB (by decide +kernel), canonical_of_canonB (by decide +kernel),
    canonical_of_canonB (by decide +kernel), canonical_of_canonB (by decide +kernel), by decide +kernel⟩

theorem witness_BeatCompletes :
    let s := withTil (fun m => { m with pulse := true })
    let e := withTil (fun m => { m with pulse := true, endIssued := true })
    let d := withTile (fun t => { t with til := { t.til with pulse := true, endIssued := true }
                                         arr := { t.arr with load := some ⟨3, 0, 64, 1, 0, 0⟩ } })
    let h := withTile (fun t => { t with stop := true, til := { t.til with pulse := true } })
    Canonical s ∧ Canonical e ∧ Canonical d ∧ Canonical h ∧ (d.tile 0).til.pulse = true ∧ d.beatReady 0 = false ∧
    (d.tile 0).til.drained = true ∧ (d.tile 0).til.streams = [] ∧ (d.tile 0).arr.load.isSome = true ∧
    (h.tile 0).til.pulse = true ∧ h.beatReady 0 = true ∧ (h.tile 0).til.endIssued = false ∧
    ((h.beatEnd 0).tile 0).stop = true ∧ ((s.beatEnd 0).tile 0).til.frozen = false ∧
    (s.stopBundle 0).beatReady 0 = true ∧ State.reset.beatReady 0 = true ∧ (State.reset.tile 0).til.pulse = false ∧
    (s.tile 0).til.pulse = true ∧ s.beatReady 0 = true ∧ (s.tile 0).til.endIssued = false ∧
    ((s.beatEnd 0).tile 0).stop = false ∧ (e.tile 0).til.pulse = true ∧ e.beatReady 0 = true ∧
    (e.tile 0).til.endIssued = true := by
  intro s e d h
  exact ⟨canonical_of_canonB (by decide +kernel), canonical_of_canonB (by decide +kernel),
    canonical_of_canonB (by decide +kernel), canonical_of_canonB (by decide +kernel), by decide +kernel⟩

theorem witness_ScalarResultsLand :
    let s := withTil (fun m => { m with swrites := [⟨0, true, 31, 7⟩] })
    let t := withTil (fun m => { m with swrites := [⟨0, true, 31, 7⟩, ⟨0, false, 31, 9⟩] })
    let u := withTil (fun m => { m with swrites := [⟨0 + 1, true, 31, 7⟩] })
    Canonical s ∧ Canonical t ∧ Canonical u ∧ (s.tile 0).til.swrites = [⟨0, true, 31, 7⟩] ∧
    (t.tile 0).til.swrites = [⟨0, true, 31, 7⟩, ⟨0, false, 31, 9⟩] ∧ (u.tile 0).til.swrites = [⟨0 + 1, true, 31, 7⟩] := by
  intro s t u
  exact ⟨canonical_of_canonB (by decide +kernel), canonical_of_canonB (by decide +kernel),
    canonical_of_canonB (by decide +kernel), by decide +kernel⟩

theorem witness_BarriersAtTiles :
    let s := withTiles 0 0 id [(0, fun t => { t with til := { t.til with cur := some (ctrlBundle 0x240002FF) } })]
    let p := withTiles 0 0 (fun b => { b with barDone := [⟨255, false, [0]⟩] }) [(0, fun t => { t with
      til := { t.til with cur := some (ctrlBundle 0x280000FF) }
      tp := { TpRouter.init with pend := [255], waitBar := some 255 } })]
    Canonical s ∧ Canonical p ∧ s.issues 0 0 (ctrlFields 9 [(7, 0, 255), (9, 8, 2)]) ∧ (2 : Fin 4).val ≠ 3 ∧
    255 ∉ (s.tile 0).tp.pend ∧ s.basinOf 0 = some 0 ∧ p.issues 0 0 (ctrlFields 10 [(7, 0, 255)]) ∧
    hopLoses ⟨0, 3, .whole⟩ = false ∧ p.basinOf 0 = some 0 ∧
    (p.basin 0).barDone.find? (fun d => decide (d.num = 255) && d.gen == Map.get (p.tile 0).tp.gens false 255 &&
      decide (0 ∈ d.tiles)) = some ⟨255, false, [0]⟩ := by
  intro s p
  exact ⟨canonical_of_canonB (by decide +kernel), canonical_of_canonB (by decide +kernel), by decide +kernel⟩

/-- A basin of one berth with one barrier frame of all its sixteen tiles, or two frames, at a router. -/
def barBasin (fs : List BarFrame) : State := withBasin (fun b => { b with barFrames := fs }) State.reset

theorem witness_BarriersAtRouters :
    let t := barBasin [⟨0, 255, true, 0, 7⟩, ⟨0, 255, true, 0, 9⟩]
    let u := barBasin [⟨0, 255, true, 2, 16⟩]
    let f := barBasin [⟨144, 255, true, 1, 16⟩]
    let r := barBasin [⟨144, 255, true, 2, 16⟩]
    let m := barBasin [⟨0, 255, true, 0, 7⟩, ⟨0, 255, true, 1, 9⟩]
    Canonical t ∧ Canonical u ∧ Canonical f ∧ Canonical r ∧ Canonical m ∧ hopLoses ⟨2304, 1, .whole⟩ = false ∧
    barAt (u.basin 0).barFrames 0 255 false = [] ∧ barAt (f.basin 0).barFrames 144 255 false = [] ∧
    barAt (m.basin 0).barFrames 0 255 false = [] ∧
    barAt (t.basin 0).barFrames 0 255 true = [⟨0, 255, true, 0, 7⟩, ⟨0, 255, true, 0, 9⟩] ∧
    barAt (t.basin 0).barFrames 0 255 false = [] ∧ (t.berthTiles 0 0).length = 7 + 9 ∧
    barAt (u.basin 0).barFrames 0 255 true = [⟨0, 255, true, 2, 16⟩] ∧ (u.berthTiles 0 0).length = 16 ∧
    u.routerAbove 0 0 = some 144 ∧ barAt (f.basin 0).barFrames 144 255 true = [⟨144, 255, true, 1, 16⟩] ∧
    (f.fieldTiles 0 0).length = 16 ∧ barAt (r.basin 0).barFrames 144 255 true = [⟨144, 255, true, 2, 16⟩] ∧
    (r.tilesUnder 0 144).length = 16 ∧ r.routerAbove 0 144 = none ∧
    barAt (m.basin 0).barFrames 0 255 true = [⟨0, 255, true, 0, 7⟩, ⟨0, 255, true, 1, 9⟩] := by
  intro t u f r m
  exact ⟨canonical_of_canonB (by decide +kernel), canonical_of_canonB (by decide +kernel),
    canonical_of_canonB (by decide +kernel), canonical_of_canonB (by decide +kernel),
    canonical_of_canonB (by decide +kernel), by decide +kernel⟩

/-- A gateway that is not the root, of a basin that spans two fields. -/
theorem witness_BarriersAtRouters_above :
    let s := { State.reset with basins := [(0, { Basin.init with
      rect := some (0, 0, 5, 0)
      started := true
      barFrames := [⟨145, 255, true, 2, 48⟩] })] }
    Canonical s ∧ barAt (s.basin 0).barFrames 145 255 true = [⟨145, 255, true, 2, 48⟩] ∧ (s.tilesUnder 0 145).length = 48 ∧
    s.routerAbove 0 145 = some 144 := by
  intro s; exact ⟨canonical_of_canonB (by decide +kernel), by decide +kernel⟩

/-- A wave result of epoch beats 0 to 0 over one wave. -/
def calm (d : Int) : WaveResult := ⟨d, 0, 0, true, 0, 0, 0⟩

/-- A wave result of an epoch of 255 beats. -/
def late : WaveResult := ⟨0, 255, 255, true, 0, 0, 0⟩

theorem witness_LockWaves :
    let s := withTiles 0 0 id [(0, fun t => { t with lk := { t.lk with atLock := true } })]
    let q := withRegs (withTiles 0 0 id []) [(0xf08, 2), (0xf10, 1)]
    let u := withBasin (fun b => { b with lockFrames := [⟨0, 7, calm 1⟩, ⟨0, 9, calm (-1)⟩, ⟨144, 16, calm 0⟩] }) State.reset
    let e := withBasin (fun b => { b with lockFrames := [⟨144, 16, calm 1⟩] }) State.reset
    let m := withBasin (fun b => { b with lockFrames := [⟨144, 16, late⟩] }) State.reset
    Canonical s ∧ Canonical q ∧ Canonical u ∧ Canonical e ∧ Canonical m ∧ s.basinOf 0 = some 0 ∧
    (s.basin 0).started = true ∧
    (s.tile 0).lk.open_ = false ∧ (s.tile 0).lk.reported = false ∧ (s.tile 0).dark = false ∧ (s.tile 0).lk.atLock = true ∧
    q.regN 0 0xf10 < q.regN 0 0xf08 ∧
    (u.basin 0).lockFrames.filter (fun x => decide (x.at_ = 0)) = ⟨0, 7, calm 1⟩ :: [⟨0, 9, calm (-1)⟩] ∧
    [⟨0, 9, calm (-1)⟩].foldl (fun a (x : LockFrame) => a + x.count) 7 = (u.berthTiles 0 0).length ∧
    u.routerAbove 0 0 = some 144 ∧ (u.basin 0).lockFrames.filter (fun x => decide (x.at_ = 144)) = [⟨144, 16, calm 0⟩] ∧
    (u.tilesUnder 0 144).length = 16 ∧ u.routerAbove 0 144 = none ∧
    (u.basinTiles 0).all (fun t => u.countsAgree t (calm 0)) = true ∧ (calm 0).diff = 0 ∧ (calm 0).batch = true ∧
    (e.basin 0).lockFrames.filter (fun x => decide (x.at_ = 144)) = [⟨144, 16, calm 1⟩] ∧ (e.tilesUnder 0 144).length = 16 ∧
    (e.basinTiles 0).all (fun t => e.countsAgree t (calm 1)) = true ∧ (calm 1).diff ≠ 0 ∧
    (m.basin 0).lockFrames.filter (fun x => decide (x.at_ = 144)) = [⟨144, 16, late⟩] ∧ (m.tilesUnder 0 144).length = 16 ∧
    0 ∈ m.basinTiles 0 ∧ m.countsAgree 0 late = false ∧ late.diff = 0 ∧ hopLoses ⟨2448, 0, .whole⟩ = false := by
  intro s q u e m
  exact ⟨canonical_of_canonB (by decide +kernel), canonical_of_canonB (by decide +kernel),
    canonical_of_canonB (by decide +kernel), canonical_of_canonB (by decide +kernel), canonical_of_canonB (by decide +kernel),
    by and_intros <;> decide +kernel⟩

theorem witness_LockWaves_results :
    let tile : Tile → Tile := fun t => { t with lk := { t.lk with reported := true } }
    let s := withTiles 0 0 (fun b => { b with result := some (calm 0) }) [(0, tile)]
    let d := withTiles 0 0 (fun b => { b with result := some (calm (-1)) }) [(0, tile)]
    Canonical s ∧ Canonical d ∧ s.basinOf 0 = some 0 ∧ (s.basin 0).result = some (calm 0) ∧
    (s.tile 0).lk.reported = true ∧ (s.tile 0).lk.result = none ∧ (calm 0).wave = (s.tile 0).lk.wave % 256 ∧
    (s.tile 0).stop = false ∧ (s.tile 0).lk.missed = false ∧ (d.tile 0).lk.missed = false ∧
    (d.basin 0).result = some (calm (-1)) ∧ (d.tile 0).lk.reported = true ∧
    (d.tile 0).lk.result = none ∧ (calm (-1)).wave = (d.tile 0).lk.wave % 256 ∧ (d.tile 0).stop = false := by
  intro tile s d
  exact ⟨canonical_of_canonB (by decide +kernel), canonical_of_canonB (by decide +kernel), by decide +kernel⟩

/-- A basin of one berth whose sixteen tiles wait at their first lock with a pulse. -/
def waiting (f : Basin → Basin) : State :=
  withTiles 0 0 f ((rectTiles (0, 0, 0, 0)).map (fun t => (t, fun t => { t with
    lk := { t.lk with atLock := true, open_ := true }
    til := { t.til with pulse := true } })))

theorem witness_LockBeats :
    let s := waiting id
    let h := waiting (fun b => { b with holds := [(HoldCause.remap, 0)] })
    let d := waiting (fun b => { b with lockDone := [147], lockNow := some (1, .first, true) })
    Canonical s ∧ Canonical h ∧ Canonical d ∧ d.lockReady 147 = true ∧ 147 ∈ (d.basin 0).lockDone ∧
    d.lockReady 146 = true ∧ d.basinOf 146 = some 0 ∧ 146 ∉ (d.basin 0).lockDone ∧
    (d.basin 0).lockNow = some (1, .first, true) ∧ s.basinOf 147 = some 0 ∧ s.lockReady 147 = true ∧
    147 ∉ (s.basin 0).lockDone ∧
    (s.basin 0).lockNow = none ∧ s.lockHeld 0 (s.nextLockNum 0) = false ∧ s.allAtLock 0 = true ∧
    s.batchesApply 0 (s.nextLockNum 0) = true ∧ h.lockReady 147 = true ∧ h.basinOf 147 = some 0 ∧
    147 ∉ (h.basin 0).lockDone ∧
    (h.basin 0).lockNow = none ∧ h.lockHeld 0 (h.nextLockNum 0) = true ∧ (withBasin id State.reset).lockReady 0 = false ∧
    (estoreNext [] 255 0).1 < 256 := by
  intro s h d
  exact ⟨canonical_of_canonB (by decide +kernel), canonical_of_canonB (by decide +kernel),
    canonical_of_canonB (by decide +kernel), by and_intros <;> decide +kernel⟩

theorem witness_LockHolds :
    let s := withBasin id State.reset
    let h := waiting (fun b => { b with holds := [(HoldCause.remap, 0)], result := some (calm 0) })
    Canonical s ∧ Canonical h ∧ s.heldByRequest 0 = false ∧ h.heldByRequest 0 = true := by
  intro s h
  exact ⟨canonical_of_canonB (by decide +kernel), canonical_of_canonB (by decide +kernel), by decide +kernel⟩

theorem witness_EpochStoreWrites :
    let s := withBasin id State.reset
    Canonical s ∧ (s.tile 0).dark = false ∧ s.absorbing 0 = false ∧ s.storeOpen 0 = false ∧ State.reset.storeOpen 0 = true ∧
    (State.reset.tile 0).dark = false ∧ State.reset.absorbing 0 = false := by
  intro s; exact ⟨canonical_of_canonB (by decide +kernel), by decide +kernel⟩

/-- Where a control-slot op and a bank load name one register, the control-slot result stands (R63). -/
theorem test_control_result_wins :
    ((withTil (fun m => { m with swrites := [⟨0, true, 5, 7⟩, ⟨0, false, 5, 9⟩] })).applySWrites 0 0).sreg 0 5 = 7 := by
  decide +kernel

/-- A request for a lock that has completed holds the next one (R54). -/
theorem test_lock_hold :
    ((after (exec (.lockHoldRequest 0 .remap 3) (withObjs (withBasin id State.reset) [(0x2610, 1, 5)]))).basin 0).holds =
      [(.remap, 6)] := by decide +kernel

/-! ### The towpath -/

/-- Lockkeeper A active. -/
def led (s : State) : State := { s with keepers := [{ Keeper.init with state := 3 }, Keeper.init] }

theorem witness_AlarmsAndNotices :
    let m : AlarmMsg := ⟨0xB, 0xFFFF, 0, 0, 15, 0, 0⟩
    let n : AlarmMsg := ⟨0x17F, 0, 0, 0, 16, 0, 0⟩
    let k : AlarmMsg := ⟨0x183, 0, 0, 0, 16, 0, 0⟩
    let s := withObjs (led (withTile (fun t => { t with tp := { t.tp with alarms := [m], irqs := [n] } })))
      [(0x2002, 3, 1)]
    let q := withObjs (led { withTile (fun t => { t with tp := { t.tp with irqs := [k] } }) with alarmQ := [m], irqQ := [n] })
      [(0x2002, 3, 1)]
    Canonical s ∧ Canonical q ∧ State.reset.activeLk = none ∧ s.activeLk ≠ none ∧ (s.tile 0).tp.alarms = m :: [] ∧
    s.obj 0x2002 2 ≠ 0 ∧ (s.srv.emergencies.filter (fun e => decide (s.srv.ms < e.1 + 10))).length < s.obj 0x2002 3 ∧
    m.basin < 16 ∧ (m.cause = 0xB ∨ m.cause = 0xD) ∧ q.activeLk ≠ none ∧ q.alarmQ = m :: [] ∧
    (s.tile 0).tp.irqs = n :: [] ∧ ¬((0x180 ≤ n.cause ∧ n.cause ≤ 0x183) ∨ (n.cause = 0x18F ∧ n.detail % 16 = 3)) ∧
    (q.tile 0).tp.irqs = k :: [] ∧ 0x180 ≤ k.cause ∧ k.cause ≤ 0x183 ∧ q.obj 0x2002 2 ≠ 0 ∧
    (q.srv.emergencies.filter (fun e => decide (q.srv.ms < e.1 + 10))).length < q.obj 0x2002 3 ∧ (q.tile 0).tp.alarms = [] ∧
    (State.reset.tile 0).tp.irqs = [] ∧ q.irqQ = n :: [] ∧ hopLoses ⟨2455, 0, .whole⟩ = false := by
  intro m n k s q
  exact ⟨canonical_of_canonB (by decide +kernel), canonical_of_canonB (by decide +kernel), by decide +kernel⟩

/-- Tile 2303 stands at address 3055: offset 0x100C, words of no data, of one misplaced word and of six words, and what is
staged (R208, R219). -/
theorem witness_ConfigurationRequests :
    let d := withTile (fun t => { t with dark := true, tp := { t.tp with responses := [⟨0, 6, []⟩] } })
    Canonical State.reset ∧ Canonical d ∧ State.reset.destAt (0xBEF#12).toNat = some (.tile 2303) ∧
    d.destAt (0#12).toNat = some (.tile 0) ∧ hopLoses ⟨2303, 0, .repeated 0⟩ = false ∧ (d.tile 0).dark = true ∧
    (State.reset.tile 2303).dark = false ∧ State.reset.absorbing 2303 = false ∧
    cfgFields 0x0000FFFC = ⟨0xFFFC, 0, false, 0⟩ ∧
    cfgFields 0x0006FFFF = ⟨0xFFFF, 6, false, 0⟩ ∧ cfgFields 0x0006FFFC = ⟨0xFFFC, 6, false, 0⟩ ∧
    cfgFields 0x00010014 = ⟨0x14, 1, false, 0⟩ ∧ ([] : List Word32).length ≠ 6 ∧
    (0xFFFF#32).toNat < 65536 ∧ 256 ≤ (256#32).toNat ∧ (255#32).toNat < 256 ∧ (State.reset.tile 2303).tp.responses = [] ∧
    (d.tile 0).tp.responses ≠ [] := by
  intro d
  exact ⟨canonical_of_canonB (by decide +kernel), canonical_of_canonB (by decide +kernel), by decide +kernel⟩

theorem witness_TowpathAnswers :
    let d := withTile (fun t => { t with dark := true })
    let a := { State.reset with boot := { Boot.init with resets := [⟨1, 0, [0], true, 0, 0, none⟩] } }
    Canonical d ∧ Canonical a ∧ d.unitIs 0 = true ∧ a.unitIs 0 = true ∧ (d.tile 0).dark = true ∧
    (a.tile 0).dark = false ∧ a.absorbing 0 = true := by
  intro d a
  exact ⟨canonical_of_canonB (by decide +kernel), canonical_of_canonB (by decide +kernel), by decide +kernel⟩

theorem witness_BatchesAtTiles :
    let k : TileBatch := ⟨255, 1, none, 255, [], false, none, []⟩
    let s := withTiles 0 0 id [(0, fun t => { t with tp := { t.tp with batches := [k] } })]
    let z := withBasin id State.reset
    Canonical s ∧ Canonical z ∧ z.basinOf 0 = some 0 ∧ (z.tile 0).dark = false ∧ z.absorbing 0 = false ∧
    z.destAt (0#12).toNat = some (.tile 0) ∧ cfgFields 0xFF110F0C = ⟨0xf0c, 1, true, 255⟩ ∧ hopLoses TpHop.clean = false ∧
    (z.tile 0).tp.batches.all (fun k => decide (k.id ≠ 255)) = true ∧ s.destAt (0#12).toNat = some (.tile 0) ∧
    256 ≤ (256#32).toNat ∧ s.basinOf 0 = some 0 ∧
    (s.tile 0).dark = false ∧ s.absorbing 0 = false ∧ (s.tile 0).tp.batches = [k] ∧ k.id = (255#8).toNat := by
  intro k s z
  exact ⟨canonical_of_canonB (by decide +kernel), canonical_of_canonB (by decide +kernel), by decide +kernel⟩

/-- The check of chunk 511 of image 255, of zeros. -/
def chunkCrc : Word32 := BitVec.ofNat 32 (crc32 (bytesOf (511 + 65536 * 255) 4 ++ bytesOf 0 16))

/-- Image 255 of one chunk of zeros, or one that these bytes do not check. -/
def oneChunk (crc : Nat) : FwStore := { Tile.init.fw with ident := 255, count := 1, crc }

/-- The check of chunk 0 of image 255, of zeros. -/
def chunkCrc0 : Word32 := BitVec.ofNat 32 (crc32 (bytesOf (0 + 65536 * 255) 4 ++ bytesOf 0 16))

theorem witness_FirmwareBroadcast :
    let s := withTile (fun t => { t with fw := { t.fw with ident := 255, count := 512 } })
    let a := withTile (fun t => { t with fw := { t.fw with actStaged := true } })
    let one (crc : Nat) := withTile (fun t => { t with fw := oneChunk crc })
    let z := withBasin id State.reset
    let q := { z with hubs := [(0, { Hub.init with missing := (z.basinTiles 0).map (fun t => (t, 0, true, [])) })] }
    let g (limit : Nat) := { withObjs (withTiles 0 0 id [(0, fun t => { t with fw := oneChunk 0 })]) [(0x2641, 6, limit), (0x2641, 8, 3)] with
      upd := { State.reset.upd with fwGroup := some (.basin 0) } }
    let n (x : State) := ((x.targetTiles (.basin 0)).filter (fun u => (x.tile u).fw.misses 0)).length
    (∀ x ∈ [s, a, one 0, one (crc64 (bytesOf 0 16)), z, q, g 0, g 1], Canonical x) ∧ (a.tile 0).fw.actStaged = true ∧
    0 ∈ s.targetTiles (.tile 0) ∧ 0 ∉ s.targetTiles (.tile 2303) ∧ (s.tile 0).fw.actStaged = false ∧
    decide (crc32 (bytesOf ((511#16).toNat + 65536 * (255#8).toNat) 4 ++ bytesOf (0#128).toNat 16) = chunkCrc.toNat) = true ∧
    s.obj 0x2641 8 ≠ 3 ∧ (255#8).toNat = (s.tile 0).fw.ident ∧ (511#16).toNat < (s.tile 0).fw.count ∧
    (s.tile 0).fw.count ≤ (512#16).toNat ∧
    (Map.put (s.tile 0).fw.have_ false (511#16).toNat true).length < (s.tile 0).fw.count ∧
    decide (crc32 (bytesOf ((0#16).toNat + 65536 * (255#8).toNat) 4 ++ bytesOf (0#128).toNat 16) = chunkCrc0.toNat) = true ∧
    1 ≤ (Map.put (oneChunk 0).have_ false 0 true).length ∧
    (∀ c ∈ [0, crc64 (bytesOf 0 16)], ((one c).tile 0).fw = oneChunk c) ∧ crc64 (bytesOf 0 16) ≠ 0 ∧
    crc64 { oneChunk 0 with stagedHalf := Map.put (oneChunk 0).stagedHalf 0 0 0#128 }.bytes = crc64 (bytesOf 0 16) ∧
    (g 0).obj 0x2641 8 = 3 ∧ (g 0).obj 0x2641 6 < n (g 0) ∧ n (g 1) ≤ (g 1).obj 0x2641 6 ∧
    (z.missingFrames (z.targetTiles (.basin 0))).length ≠ (z.targetTiles (.basin 0)).length ∧
    (q.missingFrames (q.targetTiles (.basin 0))).length = (q.targetTiles (.basin 0)).length ∧
    (∀ e ∈ q.missingFrames (q.targetTiles (.basin 0)), e.2.1 = frameBase (q.missingFrames (q.targetTiles (.basin 0)))) ∧
    z.basinOf 0 = some 0 ∧ (z.tile 0).tp.batches = [] := by
  intro s a one z q g n
  refine ⟨?_, by decide +kernel⟩
  simp only [List.forall_mem_cons, List.not_mem_nil, false_imp_iff, implies_true, and_true]
  exact ⟨canonical_of_canonB (by decide +kernel), canonical_of_canonB (by decide +kernel),
    canonical_of_canonB (by decide +kernel), canonical_of_canonB (by decide +kernel),
    canonical_of_canonB (by decide +kernel), canonical_of_canonB (by decide +kernel),
    canonical_of_canonB (by decide +kernel), canonical_of_canonB (by decide +kernel)⟩

theorem witness_StopDelivery :
    let z := withBasin id State.reset
    let s := withBasin (fun b => { b with stop := true }) State.reset
    let d := { withTiles 0 0 (fun b => { b with stop := true }) [(147, fun t => { t with stop := true })] with
      link := { State.reset.link with ports := [(47, { State.reset.port 47 with stops := [0] })] }
      host := { State.reset.host with stops := [0] } }
    Canonical z ∧ Canonical s ∧ z.basinOf 147 = some 0 ∧ (z.tile 147).dark = false ∧ z.absorbing 147 = false ∧
    z.basinOf 0 = some 0 ∧ State.reset.basinOf 147 = none ∧ Canonical d ∧ d.basinOf 147 = some 0 ∧
    (d.tile 147).stop = true ∧
    (d.basin 0).stop = true ∧ 0 ∈ (d.port 47).stops ∧ 0 ∈ d.host.stops ∧
    (z.basin 0).stop = false ∧ (s.basin 0).stop = true ∧ (s.tile 147).stop = false ∧ 0 ∉ (s.port 0).stops ∧
    0 ∉ s.host.stops := by
  intro z s d
  exact ⟨canonical_of_canonB (by decide +kernel), canonical_of_canonB (by decide +kernel), by decide +kernel,
    by decide +kernel, by decide +kernel, by decide +kernel, by decide +kernel, canonical_of_canonB (by decide +kernel),
    by decide +kernel⟩

/-- A write of zero words is answered ZERO_LEN (R219). -/
theorem test_cfg_zero_length :
    ((after (exec (.cfgWr 0#12 0x0000100C [] .clean) State.reset)).tile 0).tp.responses = [⟨0, 1, []⟩] := by decide +kernel

/-- EPOCH_LEN below 256 is clamped to 256 and answered CLAMPED (R45, R219). -/
theorem test_cfg_clamped :
    ((after (exec (.cfgWr 0#12 0x00010F0C [255#32] .clean) State.reset)).tile 0).tp.responses = [⟨0, 2, []⟩] := by decide +kernel

/-- A word whose first parity wire is wrong (R206). -/
def badLine : TpLine := 2 ^ 36

theorem witness_MessagesAtHops :
    let m : AlarmMsg := ⟨1, 0, 0, 0, 16, 0, 0⟩
    let s := withTile (fun t => { t with tp := { t.tp with alarms := [m, m, m] } })
    let hop (r : Fin 2456) : TpHop := ⟨r, 8, .repeated badLine⟩
    Canonical s ∧ Canonical State.reset ∧ (s.tile 0).tp.alarms.length < 4 ∧ (hop 2303).router.val < 2304 ∧
    2304 ≤ (hop 2304).router.val ∧ (hop 2447).router.val < 2448 ∧ 2304 ≤ (hop 2455).router.val ∧ (hop 0).resent.val ≠ 0 ∧
    hopLoses (hop 0) = true ∧ hopMalformed (hop 0) = false ∧ hopLoses ⟨2455, 8, .whole⟩ = false ∧
    hopMalformed ⟨2455, 0, .words []⟩ = true ∧ s.obj 0x2641 8 ≠ 3 ∧ s.destAt (0#12).toNat = some (.tile 0) ∧
    s.destAt (0xECB#12).toNat = some (.hub 143) := by
  intro m s hop
  exact ⟨canonical_of_canonB (by decide +kernel), canonical_of_canonB (by decide +kernel), by decide +kernel⟩

theorem witness_FramesDiscarded :
    let m : AlarmMsg := ⟨1, 0, 0, 0, 0, 0, 0⟩
    let s := led (withTiles 0 0 (fun b => { b with
      barFrames := [⟨151, 255, true, 2, 1⟩]
      lockFrames := [⟨151, 1, calm 0⟩]
      result := some (calm 0) })
      [(0, fun t => { t with lk := { t.lk with reported := true }, tp := { t.tp with alarms := [m], responses := [⟨0, 0, []⟩] } })])
    let hop : TpHop := ⟨2304, 1, .repeated badLine⟩
    Canonical s ∧ hopLoses hop = true ∧ (∃ f ∈ (s.basin 0).barFrames, f.at_ = (151 : Fin 152).val ∧ f.num = (255#8).toNat) ∧
    (∃ f ∈ (s.basin 0).lockFrames, f.at_ = (151 : Fin 152).val) ∧ s.resultDue 0 = true ∧ s.activeLk ≠ none ∧
    2304 ≤ hop.router.val ∧ (s.tile 0).tp.alarms = m :: [] ∧ tpAddr (0#12).toNat = some (.tile 0) ∧
    (s.tile 0).tp.responses ≠ [] := by
  intro m s hop
  exact ⟨canonical_of_canonB (by decide +kernel), by decide +kernel⟩

theorem witness_HubRegisters :
    let s := { State.reset with hubs := [(143, { Hub.init with responses := [⟨2447, 0, []⟩] })] }
    Canonical s ∧ s.destAt (0xECB#12).toNat = some (.hub 143) ∧ hopLoses ⟨2447, 0, .whole⟩ = false ∧
    cfgFields 0x00040000 = ⟨0, 4, false, 0⟩ ∧ cfgFields 0x0001000C = ⟨12, 1, false, 0⟩ ∧
    (Map.get s.hubs Hub.init (143 : Fin 144).val).responses ≠ [] ∧ s.destAt (0xFC7#12).toNat = some (.gateway 7) ∧
    cfgFields 0x0001003C = ⟨60, 1, false, 0⟩ ∧ s.destAt (0xFFF#12).toNat = none := by
  intro s; exact ⟨canonical_of_canonB (by decide +kernel), by decide +kernel⟩

/-- R211: a word of a chunk that fails twice ends the chunk at its router, which counts one message. -/
theorem test_hop_drop :
    (after (exec (.fwChunk (.tile 7) 0 0 0 0 ⟨7, 1, .repeated badLine⟩) State.reset)).regN 7 0xc08 = 1 := by decide +kernel

/-- R226: HUB_BASIN of a berth in no basin reads 0x10. -/
theorem test_hub_basin : (Map.get (after (exec (.cfgRd 0xC05#12 0x0001000C .clean) State.reset)).hubs Hub.init 5).responses =
    [⟨2309, 0, [0x10#32]⟩] := by decide +kernel
/-! ### Voxvia ports -/

/-- Reset with port 0 changed and in a state of R262. -/
def withPort (st : Nat) (f : Port → Port) : State :=
  { State.reset with
    objs := if st = 0 then [] else [(objKey (portObj 0) 1, BitVec.ofNat 64 st)]
    link := { Links.init with ports := [(0, f Port.init)] } }

/-- A HELLO of a peer with all lanes, floor 4. -/
def peerHello : BitVec 240 := BitVec.ofNat 240 (0xFF * 2 ^ 24 + 4 * 2 ^ 32)

theorem witness_PortStates :
    let z := State.reset
    let tr := withPort 1 id
    let ok := withPort 1 (fun q => { q with qualTx := 0xFF, qualRx := 0xFF, peer := some peerHello, helloDone := true, attempts := 1 })
    let rt := withPort 4 (fun q => { q with retrainFails := 1 })
    let rf := withPort 4 (fun q => { q with retrainFails := 2 })
    let up := withPort 3 (fun q => { q with qualTx := 0xFF, qualRx := 0xFF, peer := some peerHello })
    let lone := withPort 3 (fun q => { q with qualTx := 0xFF, qualRx := 0x0F, peer := some peerHello })
    let a := (ok.updPort 0 (fun q => { q with qualTx := q.qualTx &&& 0xF0, qualRx := q.qualRx &&& 0xFF })).badLanes 0
    Canonical z ∧ Canonical tr ∧ Canonical ok ∧ Canonical rt ∧ Canonical rf ∧ Canonical up ∧ Canonical lone ∧
    (0xFF#8 ≠ 0) ∧ tr.portState 0 = 1 ∧ ok.portState 0 = 1 ∧ ok.link.refLost = false ∧
    a.laneMode 0 (a.portMinor 0) = some 4 ∧
    (a.port 0).helloDone = true ∧ (ok.port 0).attempts < 2 ∧ (a.port 0).attempts = (ok.port 0).attempts ∧
    rt.portState 0 = 4 ∧ Map.get rt.link.fwRestart false 0 = false ∧ rt.mediumOut 0 = false ∧ (rt.port 0).newLink = false ∧
    (rt.port 0).retrainFails < 2 ∧ rf.portState 0 = 4 ∧ Map.get rf.link.fwRestart false 0 = false ∧ rf.mediumOut 0 = false ∧
    2 ≤ (rf.port 0).retrainFails ∧ up.portState 0 = 3 ∧ bitOf (up.port 0).qualRx 7 = true ∧
    (up.updPort 0 (fun q => { q with qualRx := q.qualRx &&& (255 - 2 ^ 7) })).laneMode 0 (up.portMinor 0) ≠ none ∧
    lone.portState 0 = 3 ∧ bitOf (lone.port 0).qualRx 0 = true ∧
    (lone.updPort 0 (fun q => { q with qualRx := q.qualRx &&& (255 - 2 ^ 0) })).laneMode 0 (lone.portMinor 0) = none ∧
    z.portState 0 ≠ 3 := by
  intro z tr ok rt rf up lone a
  exact ⟨canonical_of_canonB (by decide +kernel), canonical_of_canonB (by decide +kernel),
    canonical_of_canonB (by decide +kernel), canonical_of_canonB (by decide +kernel),
    canonical_of_canonB (by decide +kernel), canonical_of_canonB (by decide +kernel),
    canonical_of_canonB (by decide +kernel), by decide +kernel⟩

theorem witness_FlitsReceived :
    let s := withPort 3 (fun q => { q with rxSeq := 16383 })
    let f := mkFlit 5 false true 255 255 16383 (kolvosEncode 0)
    let g := mkFlit 1 false false 0 0 0 (kolvosEncode 0)
    let z := mkFlit 0 false false 0 0 0 (kolvosEncode 0)
    let v := mkFlit 7 false false 0 0 0 (kolvosEncode 0)
    Canonical State.reset ∧ Canonical s ∧ State.reset.linkAlive 0 = false ∧ s.linkAlive 0 = true ∧
    headerOk (f ^^^ 1#320) = false ∧ 1 ≤ flitType g ∧ flitType g ≤ 5 ∧ flitType g ≠ 4 ∧ flitSeq g ≠ (s.port 0).rxSeq ∧
    headerOk g = true ∧
    headerOk f = true ∧ 1 ≤ flitType f ∧ flitType f ≤ 5 ∧ flitType f ≠ 4 ∧ flitSeq f = (s.port 0).rxSeq ∧
    kolvosDecode (flitWord f) = .good 0 ∧ flitPoison f = false ∧ headerOk z = true ∧ flitType z = 0 ∧ headerOk v = true ∧
    6 ≤ flitType v := by
  intro s f g z v
  exact ⟨canonical_of_canonB (by decide +kernel), canonical_of_canonB (by decide +kernel), by decide +kernel⟩

/-- A barge header: number `seq` of channel 255 for attachment 0 and basin 0, `count` rows from row `dest`. -/
def bargeHdr (seq count dest : Nat) : Row := BitVec.ofNat 256 (seq + count * 2 ^ 32 + dest * 2 ^ 72 + 255 * 2 ^ 104)

/-- A flit of channel 255 that carries a row. -/
def flit255 (ty : Nat) (d : Row) : Flit := mkFlit ty false false 255 0 0 (kolvosEncode d)

/-- A barge of one row at the receiver. -/
def arriving : RxBarge := ⟨bargeHdr 0 1 40959, none, false, false, 0, 0, 0, none, digestStart, [], false, none, false, [], false, false⟩

theorem witness_BargeFlits :
    let h := flit255 2 (bargeHdr 0xFFFFFFFF 4096 0)
    let j := flit255 2 (bargeHdr 0x7FFFFFFE 0 0)
    let hd := withPort 3 (fun q => { q with accepted := [h], expRx := [(255, 0xFFFFFFFF)] })
    let gap := withPort 3 (fun q => { q with accepted := [j], expRx := [(255, 0xFFFFFFFF)] })
    let ro := withPort 3 (fun q => { q with accepted := [flit255 1 7], rx := [(255, some arriving)] })
    let dup := withPort 3 (fun q => { q with accepted := [h], expRx := [(255, 0)] })
    let run := withBasin id (withPort 3 (fun q => { q with accepted := [h], expRx := [(255, 0xFFFFFFFF)] }))
    let ta := withPort 3 (fun q => { q with accepted := [flit255 5 7], rx := [(255, some { arriving with recvd := 1 })] })
    Canonical hd ∧ Canonical gap ∧ Canonical ro ∧ Canonical ta ∧ Canonical dup ∧ Canonical run ∧
    (firstsOfChannel (hd.port 0).accepted 2).find? (fun e => (hd.headTake 0 e.1 e.2).isSome) = some (0, h) ∧
    flitChannel h = 255 ∧ hd.rxBarge 0 255 = none ∧ flitPoison h = false ∧ hdrCount (cwData (flitWord h)) = 4096 ∧
    hdrChannel (cwData (flitWord h)) = 255 ∧ (hd.port 0).retDue = [] ∧
    hdrSeq (cwData (flitWord h)) = Map.get (hd.port 0).expRx 0 255 ∧ hd.attachAbsent 0 0 = false ∧
    hdrAttach (cwData (flitWord h)) = 0 ∧ hdrNotify (cwData (flitWord h)) = false ∧ hdrBound (cwData (flitWord h)) = false ∧
    hdrBasin (cwData (flitWord h)) = 0 ∧ hd.basinRuns 0 = false ∧ hd.holdRows 0 = false ∧
    (firstsOfChannel (gap.port 0).accepted 2).find? (fun e => (gap.headTake 0 e.1 e.2).isSome) = some (0, j) ∧
    hdrCount (cwData (flitWord j)) ≤ 4096 ∧
    hdrChannel (cwData (flitWord j)) = 255 ∧ seqAbove (hdrSeq (cwData (flitWord j))) 0xFFFFFFFF = true ∧
    (firstsOfChannel (ro.port 0).accepted 1).find? (fun e => (ro.rowTake 0 e.1 e.2).isSome) = some (0, flit255 1 7) ∧
    ro.rxBarge 0 255 = some arriving ∧
    arriving.waiting = false ∧ arriving.ended = false ∧ arriving.status = none ∧ arriving.dup = false ∧
    arriving.recvd < hdrCount arriving.hdr ∧ flitLast (flit255 1 7) = false ∧
    (firstsOfChannel (ta.port 0).accepted 5).find? (fun e => (ta.tailTake 0 e.1 e.2).isSome) = some (0, flit255 5 7) ∧
    ta.rxBarge 0 255 = some { arriving with recvd := 1 } ∧ 1 = hdrCount arriving.hdr ∧
    (firstsOfChannel (dup.port 0).accepted 2).find? (fun e => (dup.headTake 0 e.1 e.2).isSome) = some (0, h) ∧
    dup.rxBarge 0 255 = none ∧ hdrSeq (cwData (flitWord h)) ≠ Map.get (dup.port 0).expRx 0 255 ∧
    seqAbove (hdrSeq (cwData (flitWord h))) (Map.get (dup.port 0).expRx 0 255) = false ∧
    (firstsOfChannel (run.port 0).accepted 2).find? (fun e => (run.headTake 0 e.1 e.2).isSome) = some (0, h) ∧
    run.rxBarge 0 255 = none ∧ hdrSeq (cwData (flitWord h)) = Map.get (run.port 0).expRx 0 255 ∧
    run.attachAbsent 0 0 = false ∧ run.basinRuns 0 = true ∧ run.looseMode 0 = false := by
  intro h j hd gap ro dup run ta
  refine ⟨?_, ?_, ?_, ?_, ?_, ?_, by decide +kernel⟩ <;> exact canonical_of_canonB (by decide +kernel)

/-- A bound barge of its tile's epoch, one of a coming epoch and one of an earlier. -/
theorem witness_BargeFlits_bound :
    let w (e : Nat) : RxBarge := { arriving with hdr := bargeHdr 0 1 0 + BitVec.ofNat 256 (e * 2 ^ 48), waiting := true }
    let s (e : Nat) := withPort 3 (fun q => { q with rx := [(255, some (w e))] })
    let t := State.reset.attachTile 0 0
    Canonical (s 0) ∧ Canonical (s 1) ∧ Canonical (s 0xFFFF) ∧ (s 0).rxBarge 0 255 = some (w 0) ∧ (w 0).waiting = true ∧
    (s 0).holdRows 0 = false ∧ (s 0).bindOf t (w 0).hdr = 0 ∧ (s 0).landingsStopped t = false ∧
    (s 1).rxBarge 0 255 = some (w 1) ∧ (s 1).bindOf t (w 1).hdr = 1 ∧
    (s 0xFFFF).rxBarge 0 255 = some (w 0xFFFF) ∧ (s 0xFFFF).bindOf t (w 0xFFFF).hdr = 2 := by
  intro w s t
  exact ⟨canonical_of_canonB (by decide +kernel), canonical_of_canonB (by decide +kernel),
    canonical_of_canonB (by decide +kernel), by decide +kernel⟩

theorem witness_BargesLand :
    let b : RxBarge := { arriving with recvd := 1, rows := [(7, false)] }
    let d : RxBarge := { arriving with recvd := 1, taken := 1, landed := 1, ended := true }
    let s := { withPort 3 (fun q => { q with rx := [(255, some b)] }) with
      basins := [(0, { Basin.init with rect := some (0, 0, 1, 0) })] }
    let e := withPort 3 (fun q => { q with rx := [(255, some d)], granted := [(256, 1)], helloDone := true })
    let w := { s with tiles := [(7, { Tile.init with bargeNow := true })] }
    let x := { s with tiles := [(7, { Tile.init with banks := [(15, { Bank.init with owner := 0 })] })] }
    let m : RxBarge := { d with hdr := bargeHdr 0 1 40959 + BitVec.ofNat 256 (2 ^ 46 + 40959 * 2 ^ 88) }
    let n := { withPort 3 (fun q => { q with rx := [(255, some m)], granted := [(256, 1)], helloDone := true }) with
      basins := [(0, { Basin.init with rect := some (0, 0, 1, 0) })] }
    let fb := firstRow (hdrCount m.hdr) m.landed m.firstBad
    let t := State.reset.attachTile 0 (hdrAttach b.hdr)
    Canonical s ∧ Canonical e ∧ Canonical w ∧ Canonical x ∧ Canonical n ∧
    s.rxBarge 0 255 = some b ∧ b.rows = (7, false) :: [] ∧ hdrDest b.hdr + b.taken = 40959 ∧
    s.holdRows (hdrBasin b.hdr) = false ∧ s.landingsStopped t = false ∧ s.bargeTurn t (bankOf 40959) (some 0) = true ∧
    s.basinOf t = some (hdrBasin b.hdr) ∧ s.portXStatus t 40959 [1] = 0 ∧
    s.inAlias t (bankOf 40959) (localOf 40959) = false ∧ s.inPail t (bankOf 40959) (localOf 40959) = false ∧
    (s.bank t (bankOf 40959)).uses = [] ∧ b.loose = false ∧ e.rxBarge 0 255 = some d ∧ d.ended = true ∧ d.waiting = false ∧
    d.rows = [] ∧ e.maySend 0 256 = true ∧ d.dup = false ∧ d.isReturn = false ∧ hdrNotify d.hdr = false ∧ d.returns = [] ∧
    d.result ≠ 0x12 ∧ hdrSeq d.hdr = Map.get (e.port 0).expRx 0 255 ∧ t = 7 ∧
    w.rxBarge 0 255 = some b ∧ w.holdRows 0 = false ∧ w.landingsStopped 7 = false ∧ w.bargeTurn 7 15 (some 0) = false ∧
    x.rxBarge 0 255 = some b ∧ x.holdRows 0 = false ∧ x.landingsStopped 7 = false ∧ x.bargeTurn 7 15 (some 0) = true ∧
    x.basinOf 7 = some 0 ∧ x.portXStatus 7 40959 [1] ≠ 0 ∧ x.inAlias 7 15 2559 = false ∧ x.inPail 7 15 2559 = false ∧
    n.rxBarge 0 255 = some m ∧ m.ended = true ∧ m.waiting = false ∧ m.rows = [] ∧ n.maySend 0 256 = true ∧ m.dup = false ∧
    hdrNotify m.hdr = true ∧ m.status = none ∧ n.landingsStopped 7 = false ∧
    (n.notifyLand 0 255 7 m.hdr (cplRecord (hdrSeq m.hdr) 255 m.result m.landed fb.1 fb.2 0 0
      (digestOf m.digest m.recvd))).isSome = true := by
  intro b d s e w x m n fb t
  refine ⟨?_, ?_, ?_, ?_, ?_, by decide +kernel⟩ <;> exact canonical_of_canonB (by decide +kernel)

/-- A barge of one row of zeros from a return, sent on channel 255. -/
def leaving : TxBarge := ⟨bargeHdr 0 1 0, 0, 0, 16, false, 0, digestStart, false, some [(0, false)]⟩

theorem witness_BargesSent :
    let s := withObjs (withPort 3 id) [(portObj 0, 1, 3), (portObj 0, 0xF, 2 ^ 20 + 40959)]
    let tx (b : TxBarge) := withObjs (withPort 3 (fun q => { q with tx := [b], granted := [(255, 1)], helloDone := true }))
      [(portObj 0, 1, 3), (portObj 0, 6, 1)]
    let g : TxBarge := { leaving with basin := 0, gate := 27 }
    let own : TxBarge := { leaving with headSent := true, rows := none }
    let c := withPort 3 (fun q => { q with
      accepted := [flit255 3 0]
      outstanding := [leaving] })
    let t := State.reset.attachTile 0 0
    Canonical s ∧ Canonical (tx leaving) ∧ Canonical c ∧ Canonical (tx own) ∧ Canonical (tx g) ∧
    bitsOf (s.obj (portObj 0) 0xF) 27 20 ≠ 0 ∧ s.portState 0 = 3 ∧
    (s.port 0).retry = 0 ∧ (s.port 0).tx = [] ∧ (s.port 0).drain = 0 ∧ s.portStopped 0 t = false ∧ (s.tile t).stop = false ∧
    bitsOf (s.obj (portObj 0) 0xF) 15 0 + (s.port 0).winPos = 40959 ∧
    s.attachTile 0 (bitsOf (s.obj (portObj 0) 0xF) 19 16) = t ∧
    s.bargeTurn t (bankOf 40959) (some 64) = true ∧ s.portXStatus t 40959 [1] = 0 ∧
    s.inPail t (bankOf 40959) (localOf 40959) = false ∧
    (s.readRow t 40959 true none).2.1 = false ∧ hdrCount (s.readRow t 40959 true none).1 ≤ 4096 ∧
    s.attachAbsent 0 (descSrcAttach (s.readRow t 40959 true none).1) = false ∧
    descSrcRow (s.readRow t 40959 true none).1 + hdrCount (s.readRow t 40959 true none).1 ≤ 40960 ∧
    ((tx leaving).port 0).tx = [leaving] ∧ (tx leaving).maySend 0 255 = true ∧ hdrChannel leaving.desc = 255 ∧
    Map.get ((tx leaving).port 0).chState 0 255 ≠ 2 ∧ 1 ≤ (tx leaving).portMinor 0 ∧ leaving.headSent = false ∧
    (tx leaving).gatePassed leaving.basin leaving.gate = true ∧ (tx g).gatePassed g.basin g.gate = false ∧
 own.headSent = true ∧ own.rows = none ∧ own.read < hdrCount own.desc ∧
    (tx own).attachTile 0 (descSrcAttach own.desc) = t ∧ descSrcRow own.desc + own.read = 0 ∧ (tx own).pailRow t 0 = false ∧
    (tx own).gatePassed own.basin own.gate = true ∧ (tx own).bargeTurn t 0 (some 64) = true ∧
    (tx own).portXStatus t 0 [1] = 0 ∧ ((tx own).readRow t 0 true none).2.1 = false ∧
    hdrCount own.desc ≤ ({ own with read := 1 } : TxBarge).read ∧ g.headSent = false ∧
    leaving.read < hdrCount leaving.desc ∧ ([(0#256, false)].getD 0 (0, true)).2 = false ∧
    (c.port 0).accepted.findIdx? (fun f => decide (flitType f = 3)) = some 0 ∧
    (c.port 0).accepted[0]? = some (flit255 3 0) ∧
    (c.port 0).outstanding = [leaving] ∧ leaving.seq = bitsOf (cwData (flitWord (flit255 3 0))).toNat 31 0 ∧
    descOut leaving.desc = false ∧ hdrReturn leaving.desc = false ∧ Map.get (c.port 0).lastRep 0 255 = 0 := by
  intro s tx g own c t
  refine ⟨?_, ?_, ?_, ?_, ?_, by decide +kernel⟩ <;> exact canonical_of_canonB (by decide +kernel)

theorem witness_ControlMessages :
    let f := mkFlit 1 false false 0 0 16383 (kolvosEncode 0)
    let s := withPort 3 (fun q => { q with buf := [f], replays := 7 })
    let n := withPort 3 (fun q => { q with buf := [f], replays := 8 })
    let t := withPort 1 id
    let own := t.obj 0x2451 2
    let h : BitVec 240 := BitVec.ofNat 240 (t.obj 0x2451 1 + own / 256 * 2 ^ 8 + own % 256 * 2 ^ 16 + 2 ^ 112)
    Canonical State.reset ∧ Canonical s ∧ Canonical n ∧ Canonical t ∧ State.reset.linkAlive 0 = false ∧
    s.linkAlive 0 = true ∧
    (s.port 0).buf.findIdx? (fun f => decide (flitSeq f = 0)) = none ∧
    (s.port 0).buf.findIdx? (fun f => decide (flitSeq f = 16383)) = some 0 ∧ (s.port 0).replays < 8 ∧
    8 ≤ (n.port 0).replays ∧
    n.linkAlive 0 = true ∧ n.portState 0 = 3 ∧ t.linkAlive 0 = true ∧ helloField 0xFF 7 0 ≠ s.obj 0x2451 1 ∧
    helloField h 7 0 = t.obj 0x2451 1 ∧ max (own % 256) (helloField h 23 16) ≤ min (own / 256) (helloField h 15 8) ∧
    h.getLsbD 112 = true ∧ t.portState 0 < 3 ∧ (t.port 0).peer = none ∧ helloField 0xFF 7 0 ≠ t.obj 0x2451 1 ∧
    (BitVec.ofNat 240 (2 ^ 238)).getLsbD 238 = true ∧
    (BitVec.ofNat 240 (2 ^ 12)).getLsbD 12 = true := by
  intro f s n t own h
  exact ⟨canonical_of_canonB (by decide +kernel), canonical_of_canonB (by decide +kernel),
    canonical_of_canonB (by decide +kernel), canonical_of_canonB (by decide +kernel), by decide +kernel⟩

theorem witness_PortTimers :
    let f := mkFlit 1 false false 0 0 16383 (kolvosEncode 0)
    let s := withPort 3 (fun q => { q with buf := [f], replays := 7, ctrlSent := 31, unacked := 1 })
    let n := withPort 3 (fun q => { q with buf := [f], replays := 8 })
    let d := withPort 3 (fun q => { q with helloDone := true, modeDone := false })
    Canonical s ∧ Canonical n ∧ Canonical d ∧ d.linkAlive 0 = true ∧ (d.port 0).ctrlOut = [] ∧
    (d.port 0).ctrlSent < 32 + (d.port 0).ctrlBack ∧ (d.port 0).helloDone = true ∧ d.portMinor 0 < 2 ∧
    (d.port 0).modeDone = false ∧ State.reset.linkAlive 0 = false ∧ State.reset.obj 0x2450 1 / 256 % 64 = 0 ∧
    s.linkAlive 0 = true ∧ (s.port 0).ctrlOut = [] ∧
    (s.port 0).ctrlSent < 32 + (s.port 0).ctrlBack ∧ (s.port 0).helloDone = false ∧ 0 < (s.port 0).unacked ∧
    (n.port 0).unacked = 0 ∧ s.portState 0 = 3 ∧ (s.port 0).retry = 0 ∧ (s.port 0).buf ≠ [] ∧ (s.port 0).replays < 8 ∧
    n.portState 0 = 3 ∧ (n.port 0).retry = 0 ∧ (n.port 0).buf ≠ [] ∧ 8 ≤ (n.port 0).replays ∧
    s.obj 0x2450 1 / 256 % 64 = 0 ∧ State.reset.portState 0 ≠ 3 := by
  intro f s n d
  exact ⟨canonical_of_canonB (by decide +kernel), canonical_of_canonB (by decide +kernel),
    canonical_of_canonB (by decide +kernel), by decide +kernel⟩

theorem witness_LinkEnvironment :
    let s := withPort 3 id
    let r := { withPort 1 id with link := { Links.init with refLost := true } }
    Canonical s ∧ Canonical r ∧ s.link.refLost = false ∧ s.portState 0 = 3 ∧ s.portState 63 ≠ 3 ∧ r.link.refLost = true ∧
    r.portState 0 = 1 ∧ 0 / 4 = (0 : Fin 16).val ∧ 63 / 4 ≠ (0 : Fin 16).val ∧ s.obj (portObj 0) 2 = 1 := by
  intro s r
  exact ⟨canonical_of_canonB (by decide +kernel), canonical_of_canonB (by decide +kernel), by decide +kernel⟩

/-- A lane that loses lock retrains a READY port (R258). -/
theorem test_lane_loss : (after (exec (.laneLossOfLock 0 7) (withPort 3 id))).portState 0 = 4 := by decide +kernel

/-! ### The host interface -/

/-- A state with BAR0 words listed, by rising offset. -/
def withBars (s : State) (l : List (Nat × Nat)) : State := { s with bar0 := l.map (fun p => (p.1, BitVec.ofNat 32 p.2)) }

/-- Slot 127's queue changed, enabled and RUNNING. -/
def withQueue (f : HostQueue → HostQueue) : State :=
  withBars { State.reset with host := { HostIf.init with queues := [(127, f { HostQueue.init with size := 16 })] } }
    [(0x17F14, 1), (0x17F18, 1)]

/-- An entry whose four rows are to land. -/
def hostEntry : HostEntry := ⟨7, false, 0, 4, 4, 3, 0, false, none⟩

theorem witness_HostQueues :
    let z := State.reset
    let s := withQueue (fun k => { k with entries := [hostEntry], used := 15, coal := 1 })
    let m := { s with host := { s.host with unmasked := [127] } }
    Canonical z ∧ Canonical s ∧ Canonical m ∧ (15#32).toNat < 2 ^ z.bar (qBase 127 + 0x10) ∧
    2 ^ z.bar (qBase 127 + 0x10) ≤ (16#32).toNat ∧ (z.queue 127).entries = [] ∧ z.qOn 127 = false ∧ s.qOn 127 = true ∧
    (s.queue 127).entries = [hostEntry] ∧ hostEntry.status = none ∧ (s.queue 127).used < (s.queue 127).size ∧
    (z.queue 127).coal = 0 ∧ (s.queue 127).coal ≠ 0 ∧ 127 ∈ m.host.unmasked ∧ 127 ∉ s.host.unmasked := by
  intro z s m
  exact ⟨canonical_of_canonB (by decide +kernel), canonical_of_canonB (by decide +kernel),
    canonical_of_canonB (by decide +kernel), by decide +kernel⟩

/-- A DATA entry of a length and a start row. -/
def dataEntry (n start : Nat) : BitVec 512 := BitVec.ofNat 512 (1 + n * 2 ^ 32 + start * 2 ^ 128)

theorem witness_HostSubmissions :
    let s := withObjs (withQueue (fun k => { k with tail := 1 })) [(0x2510 + 127, 3, 9)]
    let well (e : BitVec 512) : Bool := subF e 7 0 == 1 && decide (subF e 63 32 ≤ 1048576) && subF e 68 64 == 0 && !(entryReserved e 192)
    Canonical State.reset ∧ Canonical s ∧ State.reset.canFetch 127 = false ∧ s.canFetch 127 = true ∧
    (s.queue 127).entries = [] ∧
    well (dataEntry 1048577 0) = false ∧ well (dataEntry 0 0) = true ∧ well (dataEntry 9 0) = true ∧
    s.cursor 127 + (s.queue 127).landedEpoch = 9 ∧ subF (dataEntry 9 0) 191 128 + subF (dataEntry 9 0) 63 32 = 9 ∧
    well (dataEntry 1 10) = true ∧ 9 < subF (dataEntry 1 10) 191 128 ∧ well (dataEntry 1048576 9) = true ∧
    subF (dataEntry 1048576 9) 191 128 = 9 ∧ subF (dataEntry 1048576 9) 63 32 = 1048576 := by
  intro s well
  exact ⟨canonical_of_canonB (by decide +kernel), canonical_of_canonB (by decide +kernel), by decide +kernel⟩

/-- Slot 127's ring is the last two rows of H0's tile, in basin 0, with the last row an EMPTY pail row. -/
theorem witness_HostRows_landing :
    let s := { withObjs (withQueue (fun k => { k with entries := [hostEntry], ringPos := 1 }))
        [(0x2510 + 127, 1, 40958 + 2 * 2 ^ 18), (0x2510 + 127, 2, 1)] with
      basins := [(0, { Basin.init with rect := some (0, 10, 0, 10), started := true })]
      tregs := [(65536 * 2018 + pailOff 15 0, BitVec.ofNat 64 (4096 + 2559))] }
    Canonical s ∧ s.slotTile 127 = 2018 ∧ (s.binding 127).1 + (s.queue 127).ringPos = 40959 ∧
    (s.queue 127).entries = [hostEntry] ∧ hostEntry.status = none ∧ hostEntry.landed < hostEntry.need ∧
    hostEntry.bad = false ∧ s.basinOf 2018 = some 0 ∧ s.slotIdle 127 = false ∧ s.basinRuns 0 = true ∧
    s.landingsStopped 2018 = false ∧ s.holdRows 0 = false ∧ bitOf (s.obj 0x2500 6) (s.binding 127).2.1 = false ∧
    0 ∉ s.host.stops ∧ (s.queue 127).landedEpoch < s.quota 127 ∧ s.bargeTurn 2018 (bankOf 40959) (hostLands 127) = true ∧
    s.portXStatus 2018 40959 [1] = 0 ∧ s.inPail 2018 (bankOf 40959) (localOf 40959) = true ∧
    Map.get (s.bank 2018 (bankOf 40959)).full false (localOf 40959) = false ∧ (s.bank 2018 (bankOf 40959)).uses = [] := by
  intro s; exact ⟨canonical_of_canonB (by decide +kernel), by decide +kernel⟩

theorem witness_HostRows_writes :
    let s := withObjs State.reset [(0x2501, 1, 65536 + 40959)]
    let w : HostWrite := ⟨BitVec.ofNat 256 (1 + 40959 * 2 ^ 32), 0, 16, 0, false⟩
    let u := { State.reset with host := { HostIf.init with writes := [(0, some w)] } }
    let e := { State.reset with host := { HostIf.init with writes := [(0, some { w with read := 1 })] } }
    let z : HostWrite := ⟨0, 27, 0, 0, false⟩
    let g := { State.reset with host := { HostIf.init with writes := [(0, some z)] } }
    let n := { State.reset with host := { HostIf.init with writes := [(0, some { z with basin := 16 })] } }
    let t := State.reset.hostTile 0
    let d := (s.readRow t 40959 true none).1
    Canonical s ∧ Canonical u ∧ Canonical e ∧ Canonical g ∧ Canonical n ∧ s.hostWrite 0 = none ∧
    s.obj 0x2501 1 / 65536 % 256 ≠ 0 ∧
    s.obj 0x2501 1 % 65536 + Map.get s.host.winPos 0 0 = 40959 ∧ bitOf (s.obj 0x2500 6) 0 = false ∧ s.basinOf t = none ∧
    16 ∉ s.host.stops ∧ (s.tile t).stop = false ∧ s.bargeTurn t (bankOf 40959) hostReads = true ∧
    s.portXStatus t 40959 [1] = 0 ∧
    s.inPail t (bankOf 40959) (localOf 40959) = false ∧ (s.readRow t 40959 true none).2.1 = false ∧ hdCount d ≤ 4096 ∧
    hdAddr d % 32 = 0 ∧ hdSrc d + hdCount d ≤ 40960 ∧ u.hostWrite 0 = some w ∧ w.read < hdCount w.desc ∧
    u.gatePassed w.basin w.gate = true ∧ hdSrc w.desc + w.read = 40959 ∧ u.inPail t (bankOf 40959) (localOf 40959) = false ∧
    u.bargeTurn t (bankOf 40959) hostReads = true ∧ u.portXStatus t 40959 [1] = 0 ∧
    (u.readRow t 40959 true none).2.1 = false ∧
    e.hostWrite 0 = some { w with read := 1 } ∧ hdCount w.desc ≤ 1 ∧ hdPost w.desc = false ∧
    hdNotify w.desc = false ∧ w.basin ∉ u.host.stops ∧ g.hostWrite 0 = some z ∧ hdCount z.desc = 0 ∧
    z.basin ∉ g.host.stops ∧
    g.gatePassed z.basin z.gate = false ∧ n.hostWrite 0 = some { z with basin := 16 } ∧ n.gatePassed 16 z.gate = true := by
  intro s w u e z g n t d
  exact ⟨canonical_of_canonB (by decide +kernel), canonical_of_canonB (by decide +kernel),
    canonical_of_canonB (by decide +kernel), canonical_of_canonB (by decide +kernel), canonical_of_canonB (by decide +kernel),
    by decide +kernel⟩

theorem witness_EndpointResets : Canonical (withQueue id) ∧ (withQueue id).qOn 127 = true ∧ (5 : Fin 6).val ≠ 0 :=
  ⟨canonical_of_canonB (by decide +kernel), by decide +kernel⟩

theorem witness_HostMailbox :
    let s := withBars State.reset [(0x40010, 256)]
    Canonical State.reset ∧ Canonical s ∧ Canonical (led State.reset) ∧ bitOf (s.bar 0x40010) 8 = true ∧
    bitOf (State.reset.bar 0x40010) 8 = false ∧ State.reset.activeLk = none ∧ (led State.reset).activeLk ≠ none ∧
    bitOf ((led State.reset).bar 0x40010) 8 = false := by
  intro s
  exact ⟨canonical_of_canonB (by decide +kernel), canonical_of_canonB (by decide +kernel),
    canonical_of_canonB (by decide +kernel), by decide +kernel⟩

/-- A doorbell beyond the ring counts and moves no tail (R267). -/
theorem test_doorbell_beyond : (after (exec (.doorbell 127 16#32) (withQueue id))).bar 0x17F38 = 1 := by decide +kernel

/-! ### EtherCAT, the object dictionary, Lockkeepers and updates -/

/-- An active Lockkeeper with the SubDevice in an AL state. -/
def inAl (al : Nat) : State := led { State.reset with srv := { ObjServer.init with al := al } }

theorem witness_SdoServices :
    let s := inAl 2
    let b := { s with basins := [(0, { Basin.init with rect := some (0, 10, 0, 10) })] }
    Canonical State.reset ∧ Canonical s ∧ Canonical b ∧ State.reset.coeOpen = false ∧ s.coeOpen = true ∧
    hasIndex 0xFFFF = false ∧ hasIndex 0x2000 = true ∧ s.writeAbort 0x2000 7 [] 0 ≠ 0 ∧
    s.completeAbort 0xFFFF false [] 0 ≠ 0 ∧
    (List.replicate 16 (0xFFFF#16)).length = 16 ∧ b.coeOpen = true ∧ [0, 0, 0, 1].length = 4 ∧
    ofBytes [0, 0, 0, 1] = 2 ^ 24 ∧
    b.basinOf (b.hostTile (b.bindingWill (0x2510 + 127) [(2, ofBytes [0, 0, 0, 1])] / 65536 % 4)) = some 0 := by
  intro s b
  exact ⟨canonical_of_canonB (by decide +kernel), canonical_of_canonB (by decide +kernel),
    canonical_of_canonB (by decide +kernel), by decide +kernel⟩

/-- The name tile.img. -/
def tileImg : List Nat := [0x74, 0x69, 0x6C, 0x65, 0x2E, 0x69, 0x6D, 0x67]

theorem witness_FoeAndAlStates :
    let s := inAl 2
    let u : Update := ⟨1, 0, false, factoryImage, 0, []⟩
    let b := { s with upd := { Updates.init with run := some u } }
    Canonical State.reset ∧ Canonical s ∧ Canonical b ∧ b.activeLk ≠ none ∧ b.srv.al ≠ 1 ∧ b.upd.run = some u ∧ u.kind = 1 ∧
    State.reset.activeLk = none ∧ s.activeLk ≠ none ∧ s.srv.al ≠ 1 ∧ foeFile [] = none ∧
    foeFile tileImg = some (1, 9216) ∧ 9216 < 9217 ∧ s.upd.run = none ∧ 5 ∉ [1, 2, 3, 4, 8] ∧ 8 ∈ [1, 2, 3, 4, 8] ∧
    alMay s.srv.al 8 = false ∧ 4 ∈ [1, 2, 3, 4, 8] ∧ alMay s.srv.al 4 = true ∧ s.srv.al = 2 := by
  intro s u b
  exact ⟨canonical_of_canonB (by decide +kernel), canonical_of_canonB (by decide +kernel),
    canonical_of_canonB (by decide +kernel), by decide +kernel⟩

theorem witness_ProcessData :
    let o (sync miss : Nat) (on : Bool) := led { State.reset with srv := { ObjServer.init with
      al := 8
      sync := sync
      present := on
      syncMiss := miss
      rxLayout := [objKey 0x7000 1, objKey 0x7000 2] } }
    Canonical State.reset ∧ Canonical (o 2 0 true) ∧ Canonical (o 0 0 false) ∧ State.reset.srv.al ≠ 8 ∧
    (o 2 0 true).activeLk ≠ none ∧ (o 2 0 true).srv.al = 8 ∧ (o 2 0 true).srv.sync = 2 ∧ (o 0 0 false).activeLk ≠ none ∧
    (o 0 0 false).srv.sync ≠ 2 ∧ objKey 0x7000 1 ∈ (o 0 0 false).srv.rxLayout ∧
    objKey 0x7000 2 ∈ (o 0 0 false).srv.rxLayout ∧
    (1#64).toNat % 2 ^ 32 ≠ (o 0 0 false).obj 0x7000 2 ∧ (o 0 0 false).srv.present = false ∧
    (0#64).toNat % 2 ^ 32 = (o 0 0 false).obj 0x7000 2 ∧ (o 2 0 true).srv.syncMiss + 1 < (o 2 0 true).obj 0x10F1 2 ∧
    (o 2 0xFFFF true).obj 0x10F1 2 ≤ (o 2 0xFFFF true).srv.syncMiss + 1 ∧ (o 0 0 true).srv.present = true := by
  intro o
  exact ⟨canonical_of_canonB (by decide +kernel), canonical_of_canonB (by decide +kernel),
    canonical_of_canonB (by decide +kernel), by decide +kernel⟩

theorem witness_StatusAndGenericWrites :
    let d := { State.reset with boot := { Boot.init with resets := [⟨1, 0, [0], false, 0, 0, none⟩] } }
    Canonical d ∧ Canonical (inAl 2) ∧ (0xFFFF#64).toNat < 65536 ∧ (d.tile 0).dark = false ∧ d.absorbing 0 = false ∧
    (0xFFFF#16).toNat % 4 ≠ 0 ∧ (inAl 2).coeOpen = true ∧ (255#64).toNat < 256 ∧ d.coeOpen = false := by
  intro d; exact ⟨canonical_of_canonB (by decide +kernel), canonical_of_canonB (by decide +kernel), by decide +kernel⟩

theorem witness_ReportWindows :
    let s := { State.reset with win := [(objKey 0x2640 4, 0xFFFFFFFF)] }
    Canonical s ∧ s.win = [(objKey 0x2640 4, 0xFFFFFFFF)] := by
  intro s; exact ⟨canonical_of_canonB (by decide +kernel), by decide +kernel⟩

/-- The two Lockkeepers in given states. -/
def keepersIn (a b : Nat) : State :=
  { State.reset with keepers := [{ Keeper.init with state := a }, { Keeper.init with state := b }] }

/-- The same with an update of the Lockkeepers' image in a phase. -/
def keepersUpdate (a b phase : Nat) : State :=
  { keepersIn a b with upd := { Updates.init with run := some ⟨0, 0, false, factoryImage, phase, []⟩ } }

theorem witness_Lockkeepers :
    Canonical (keepersUpdate 3 2 2) ∧ Canonical (keepersUpdate 3 4 1) ∧ (keepersUpdate 3 2 2).obj 0x2001 2 = 0 ∧
    (keepersUpdate 3 4 1).obj 0x2001 2 = 0 ∧ Canonical (keepersIn 3 2) ∧ Canonical (keepersIn 3 1) ∧
    Canonical (keepersIn 1 0) ∧ Canonical (keepersIn 1 1) ∧
    (keepersIn 1 1).activeLk = none ∧ (keepersIn 3 2).activeLk ≠ none ∧ bitOf ((keepersIn 3 2).bar 0x40010) 8 = false ∧
    (keepersIn 3 2).obj 0x2001 2 = 0 ∧ (keepersIn 3 2).upd.run = none ∧ (keepersIn 3 1).activeLk ≠ none ∧
    (keepersIn 3 1).obj 0x2001 2 = 0 ∧ (keepersIn 1 0).activeLk = none ∧ (keepersIn 1 0).obj 0x2001 1 = 0 :=
  ⟨canonical_of_canonB (by decide +kernel), canonical_of_canonB (by decide +kernel), by decide +kernel, by decide +kernel,
    canonical_of_canonB (by decide +kernel), canonical_of_canonB (by decide +kernel),
    canonical_of_canonB (by decide +kernel), canonical_of_canonB (by decide +kernel), by decide +kernel⟩

theorem witness_FirmwareUpdates :
    let u (k : Nat) : Updates := { Updates.init with staged := [(k, some factoryImage)], rollback := [(k, some factoryImage)] }
    let s (k n : Nat) := withObjs { State.reset with upd := u k } [(0x2B00, 2, k), (0x2B00, 3, n)]
    let r (k n ph : Nat) : Updates := { Updates.init with run := some ⟨k, n, false, factoryImage, ph, []⟩ }
    let d := { State.reset with upd := r 2 63 5 }
    let b := { State.reset with
      upd := r 2 63 5
      link := { Links.init with ports := [(63, { Port.init with buf := [0#320] })] } }
    let l := { State.reset with
      upd := r 2 63 6
      link := { Links.init with fwRestart := [(63, true)] } }
    let p := { State.reset with
      upd := r 3 7 6
      power := { Power.init with restart := [7] } }
    Canonical (s 3 7) ∧ Canonical (s 2 63) ∧ Canonical d ∧ Canonical b ∧ Canonical l ∧ Canonical p ∧
    State.reset.upd.run = none ∧ State.reset.stagedImg (State.reset.obj 0x2B00 2) = none ∧
    State.reset.rollbackImg (State.reset.obj 0x2B00 2) = none ∧ (s 3 7).obj 0x2B00 2 = 3 ∧ (s 3 7).obj 0x2B00 3 = 7 ∧
    (s 3 7).stagedImg 3 = some factoryImage ∧ (s 3 7).rollbackImg 3 = some factoryImage ∧ (s 2 63).obj 0x2B00 2 = 2 ∧
    (s 2 63).obj 0x2B00 3 = 63 ∧ (s 2 63).stagedImg 2 = some factoryImage ∧ (s 2 63).portInUse 63 = false ∧
    d.upd.run = some ⟨2, 63, false, factoryImage, 5, []⟩ ∧ d.portDrained 63 = true ∧ b.portDrained 63 = false ∧
    Map.get l.link.fwRestart false 63 = true ∧ 7 ∈ p.power.restart ∧ 7 ∉ d.power.restart := by
  intro u s r d b l p
  exact ⟨canonical_of_canonB (by decide +kernel), canonical_of_canonB (by decide +kernel),
    canonical_of_canonB (by decide +kernel), canonical_of_canonB (by decide +kernel),
    canonical_of_canonB (by decide +kernel), canonical_of_canonB (by decide +kernel), by decide +kernel⟩

/-- A download to a read-only entry aborts with 0x06010002 (R296). -/
theorem test_sdo_read_only :
    (after (exec (.sdoDownload 0x2000#16 7#8 [0]) (inAl 2))).srv.rsp = some ⟨0x06010002, []⟩ := by decide +kernel

/-- Only PREOP to SAFEOP and not to OP may be taken: the status code is 0x0011 (R289). -/
theorem test_al_refused : (after (exec (.alStateRequest 8 true) (inAl 2))).srv.alStatus = 0x11 := by decide +kernel

/-! ### Power -/

theorem witness_Supply :
    let o (v : Nat) := withObjs State.reset [(0x2100, 1, v)]
    let c := withObjs State.reset [(0x2100, 4, 8), (0x2100, 5, 2)]
    let m := withObjs State.reset [(0x2100, 4, 9)]
    Canonical (o 1) ∧ Canonical (o 2) ∧ Canonical c ∧ Canonical m ∧ (o 1).obj 0x2100 1 ≤ 1 ∧ 1 < (o 2).obj 0x2100 1 ∧
    (o 1).obj 0x2100 1 ≠ 2 ∧ (o 2).obj 0x2100 1 = 2 ∧ bitOf (c.obj 0x2100 5) (1 : Fin 16).val = true ∧
    bitOf (c.obj 0x2100 5) (0 : Fin 16).val = false ∧ c.obj 0x2100 4 ≤ 8 ∧
    bitOf (m.obj 0x2100 5) (15 : Fin 16).val = false ∧
    8 < m.obj 0x2100 4 := by
  intro o c m
  exact ⟨canonical_of_canonB (by decide +kernel), canonical_of_canonB (by decide +kernel),
    canonical_of_canonB (by decide +kernel), canonical_of_canonB (by decide +kernel), by decide +kernel⟩

/-- Reset with pound 0 changed and in a state of R322. -/
def withPound (st : Nat) (f : Pound → Pound) : State :=
  { State.reset with
    objs := if st = 0 then [] else [(objKey (poundObj 0) 1, BitVec.ofNat 64 st)]
    power := { Power.init with pounds := [(0, f Pound.init)] } }

theorem witness_PhasesRegulatorsWeir :
    let s := withPound 3 (fun p => { p with out := [0] })
    let t := withPound 3 (fun p => { p with out := [0, 1] })
    let wf (x : State) := Map.wf x.power.pounds (fun _ => Pound.init)
    let q := { State.reset with tregs := [(65536 * State.reset.holder 0 + 0x7010, 1#64)] }
    Canonical s ∧ Canonical t ∧ Canonical q ∧ wf s = true ∧ wf t = true ∧ wf q = true ∧ 0 ∈ (s.pound 0).out ∧
    5 ∉ (s.pound 0).out ∧
    (s.pound 0).out.length ≤ 1 ∧ 5 ∉ (t.pound 0).out ∧ (t.pound 0).out.length = 2 ∧ (t.pound 0).revived = none ∧
    (t.poundState 0 = 2 ∨ t.poundState 0 = 3) ∧ q.regN (q.holder 0) 0x7010 ≠ 0 ∧ s.regRoleOf 0 < 2 ∧
    s.regN (s.holder 0) 0x7010 = 0 ∧ State.reset.poundState (pPound 0) ≠ 3 ∧ s.poundState (pPound 0) = 3 ∧
    s.regRoleOf 0 = 0 ∧ s.logicalOf 0 ≠ none ∧ (rowPartners 0).all (fun q => decide (s.holder q.1 ≠ s.holder 0)) = true ∧
    (rowPartners 0).filter (fun q => decide (s.regRoleOf q.1 = 0) && decide (s.regN (s.holder q.1) 0x7010 = 0) &&
      decide (s.poundState (pPound q.1) = 3)) = [(1, 2)] := by
  intro s t wf q
  exact ⟨canonical_of_canonB (by decide +kernel), canonical_of_canonB (by decide +kernel),
    canonical_of_canonB (by decide +kernel), by decide +kernel⟩

theorem lem_no_pound_in_basin {s : State} (h : s.basins = []) (n : Nat) : s.poundInBasin n = false := by
  simp [State.poundInBasin, State.basinOf, h]

theorem lem_may_step_at_reset (s : State) (h : s.obj 0x2000 7 < 2) (hb : s.basins = []) (n : Nat) : s.mayStep n = true := by
  simp [State.mayStep, State.basin, Map.get, Basin.init, hb, h]

theorem witness_Pounds :
    let s (st : Nat) := withPound st (fun p => { p with revived := some 7 })
    let d := withPound 2 (fun p => { p with down := true })
    let a := withPound 1 (fun p => { p with asked := some 0 })
    let l := { State.reset with objs := [(objKey (poundObj 0) 1, 1#64), (objKey (poundObj 1) 1, 2#64)] }
    let b := { State.reset with
      basins := [(0, { Basin.init with rect := some (0, 0, 11, 11) })]
      objs := [(objKey (poundObj 0) 1, 4#64)] }
    let wf (x : State) := Map.wf x.power.pounds (fun _ => Pound.init)
    Canonical (s 3) ∧ Canonical (s 4) ∧ Canonical d ∧ Canonical a ∧ Canonical l ∧ Canonical b ∧
    (∀ st, (s st).poundInBasin 0 = false) ∧ a.poundInBasin 0 = false ∧ wf (s 3) = true ∧ wf d = true ∧
    wf a = true ∧ wf l = true ∧ wf b = true ∧ (s 4).poundState 0 ≠ 2 ∧ (s 4).poundState 0 ≠ 3 ∧
    ((s 3).poundState 0 = 2 ∨ (s 3).poundState 0 = 3) ∧ ((s 3).pound 0).revived = some 7 ∧ State.reset.poundState 0 = 0 ∧
    (s 4).poundState 0 = 4 ∧ b.poundState 0 = 4 ∧ b.poundInBasin 0 = true ∧
    a.poundState 0 = 1 ∧ (s 3).poundState 0 = 3 ∧
    ((s 3).pound 0).down = false ∧ (d.pound 0).down = true ∧ (∀ n, n < 40 → State.reset.poundState n ≠ 1) ∧
    (∀ n, n < 40 → n ≠ 0 → a.poundState n ≠ 1) ∧ a.power.restart.contains (0 / 5) = false ∧
    (∀ n, n < 40 → poundsAdjacent 0 n = true → a.letsRamp n = true) ∧ l.poundState 0 = 1 ∧
    (∀ n, n < 40 → n ≠ 0 → l.poundState n ≠ 1) ∧ poundsAdjacent 0 1 = true ∧ l.letsRamp 1 = false ∧ (s 2).poundState 0 = 2 ∧
    ((s 2).pound 0).down = false := by
  intro s d a l b wf
  exact ⟨canonical_of_canonB (by decide +kernel), canonical_of_canonB (by decide +kernel),
    canonical_of_canonB (by decide +kernel), canonical_of_canonB (by decide +kernel),
    canonical_of_canonB (by decide +kernel), canonical_of_canonB (by decide +kernel),
    fun _ => lem_no_pound_in_basin rfl 0, lem_no_pound_in_basin rfl 0, by decide +kernel⟩

theorem witness_TelemetryAndSkim :
    let s := withPound 0 (fun p => { p with sumI := 1, sumN := 1, estSum := 1, estN := 1 })
    let r := { State.reset with power := { Power.init with rails := [[4000000000, 0, 0, 0, 0, 0, 0, 0]] } }
    let m := withTil (fun m => { m with pulses := 1 })
    Canonical s ∧ Canonical r ∧ Canonical m ∧ Map.wf s.power.pounds (fun _ => Pound.init) = true ∧
    s.power.restart.contains (0 / 5) = false ∧ s.power.hot = [] ∧ s.sensorFailed (pAt 0 0 0) = false ∧
    Map.get s.power.odd 0 (pAt 0 0 0) < 15 ∧ (-400 : Int) ≤ s.tThr ∧ s.tThr ≤ 1500 ∧ (∀ n, n < 40 → r.poundState n ≠ 3) ∧
    r.obj 0x2200 5 ≤ 12 ∧ dieShare r.budget.2 < r.linkPower + r.keeperPower ∧ r.power.unmet = false ∧ (s.pound 0).sumN ≠ 0 ∧
    (s.pound 0).estN ≠ 0 ∧ (s.pound 0).estSum ≠ 0 ∧ (m.tile 0).til.pulses % 16 ≠ 0 ∧ (s.tile 0).til.pulses % 16 = 0 := by
  intro s r m
  exact ⟨canonical_of_canonB (by decide +kernel), canonical_of_canonB (by decide +kernel),
    canonical_of_canonB (by decide +kernel), by decide +kernel⟩

theorem witness_CoolantCeiling :
    let s := { State.reset with power := { Power.init with coolant := true } }
    let byT (t : Int) := (9800000 - 25000 * (t - 350)).toNat
    let byQ (q : Nat) := 9800000 * q / 16000
    Canonical State.reset ∧ Canonical s ∧ min 9800000 (min (byT 350) (byQ 16000)) = 9800000 ∧ s.power.coolant = true ∧
    min 9800000 (min (byT 351) (byQ 16000)) < 9800000 ∧ min 9800000 (min (byT 350) (byQ 15999)) < 9800000 ∧
    State.reset.power.coolant = false := by
  intro s byT byQ
  exact ⟨canonical_of_canonB (by decide +kernel), canonical_of_canonB (by decide +kernel), by decide +kernel⟩

theorem witness_VoltageAndSkimTest :
    let c := { State.reset with power := { Power.init with restart := [0] } }
    let s := withPound 3 id
    let n := { s with
      basins := [(0, { Basin.init with rect := some (0, 0, 11, 11), started := true })]
      objs := [(objKey 0x2000 7, 2#64), (objKey (poundObj 0) 1, 3#64)] }
    let d := withPound 2 (fun p => { p with down := true })
    Canonical c ∧ Canonical s ∧ Canonical n ∧ Canonical d ∧ s.mayStep 0 = true ∧
    Map.wf d.power.pounds (fun _ => Pound.init) = true ∧
    c.power.restart.contains (c.poundOf 0 / 5) = true ∧ s.power.restart.contains (s.poundOf 0 / 5) = false ∧
    s.poundState (s.poundOf 0) = 3 ∧ State.reset.poundState (State.reset.poundOf 0) ≠ 3 ∧ n.mayStep 0 = false ∧
    s.poundState 0 = 3 ∧ s.power.restart.contains (0 / 5) = false ∧
    (poundPhys 0).all (fun q => decide (q = 0) || decide (s.holder q ≠ s.holder 0)) = true ∧ 0 ∈ poundPhys 0 ∧
    s.regN (s.holder 0) 0x7014 = 0 ∧ (d.pound 0).down = true ∧ (s.pound 0).down = false ∧ (n.tile 0).dark = false ∧
    n.absorbing 0 = false ∧ n.basinOf 0 ≠ none ∧ s.basinOf 0 = none := by
  intro c s n d
  exact ⟨canonical_of_canonB (by decide +kernel), canonical_of_canonB (by decide +kernel),
    canonical_of_canonB (by decide +kernel), canonical_of_canonB (by decide +kernel),
    lem_may_step_at_reset s (by decide +kernel) rfl 0, by decide +kernel⟩

/-- A flow of half of 16 L/min allows half of 9,800 W (R357). -/
theorem test_coolant_flow :
    (after (exec (.coolantSample 350 8000) State.reset)).obj 0x2280 7 = f32Of 4900 1 := by decide +kernel

/-! ### Bring-up, service commands and resets -/

/-- A phase result without findings. -/
def clean (a b led : Bool) : PhaseResult := ⟨0xFFFFFFFF, a, b, led, [], []⟩

theorem witness_BringUpPhases :
    let s (ph : Nat) := withObjs State.reset [(0x2E00, 1, ph)]
    let l := { s 2 with keepers := [{ Keeper.init with state := 3 }, Keeper.init] }
    let e (sub : Nat) : LedgerEntry := ⟨0xF, true, false, false, none, 0, sub, 0, 0⟩
    let h := { s 5 with boot := { Boot.init with ledger := [e 0, e 1] } }
    let n := withObjs State.reset [(poundObj 0, 1, 4), (poundObj 1, 1, 4), (0x2E00, 1, 5)]
    Canonical State.reset ∧ Canonical (s 1) ∧ Canonical (s 6) ∧ Canonical l ∧ Canonical h ∧ Canonical n ∧
    State.reset.keepers = [Keeper.init, Keeper.init] ∧ State.reset.obj 0x2E00 1 = 0 ∧ State.reset.obj 0x2D00 1 ≠ 1 ∧
    5 < (s 6).obj 0x2E00 1 ∧ (s 1).obj 0x2E00 1 = 1 ∧ (s 1).activeLk = none ∧ (clean false false true).lkA = false ∧
    (clean false false true).lkB = false ∧ (clean true true false).lkA = true ∧ (s 1).obj 0x2001 1 = 0 ∧
    (clean true true false).ledgerOk = false ∧ (clean true true true).ledgerOk = true ∧ l.obj 0x2E00 1 = 2 ∧
    l.boot.ledger = [] ∧ (clean true true true).found = [] ∧ (s 3).obj 0x2E00 1 = 3 ∧ (s 4).obj 0x2E00 1 = 4 ∧
    h.obj 0x2E00 1 = 5 ∧ h.boot.ledger.all (fun e => !e.removal) = true ∧ h.hubLost = true ∧ n.obj 0x2E00 1 = 5 ∧
    n.hubLost = false ∧ n.chooseShape = none ∧ (s 5).obj 0x2E00 1 = 5 ∧ (s 5).boot.ledger = [] ∧
    (∀ n, n < 40 → (s 5).poundState n < 4) := by
  intro s l e h n
  exact ⟨canonical_of_canonB (by decide +kernel), canonical_of_canonB (by decide +kernel),
    canonical_of_canonB (by decide +kernel), canonical_of_canonB (by decide +kernel),
    canonical_of_canonB (by decide +kernel), canonical_of_canonB (by decide +kernel), by decide +kernel⟩

theorem witness_ServiceCommands :
    let e : LedgerEntry := ⟨1, true, false, true, some 0, 0, 0, 0, 0⟩
    let u := { State.reset with boot := { Boot.init with unlock := some 0, ledger := [e, { e with removal := false }] } }
    let r := { u with basins := [(0, { Basin.init with started := true })] }
    let g := withObjs u [(0x2000, 7, 2)]
    let f := withObjs State.reset [(0x2100, 1, 5)]
    Canonical u ∧ Canonical r ∧ Canonical g ∧ Canonical f ∧ State.reset.unlocked = false ∧ u.unlocked = true ∧
    u.boot.ledger.length ≤ 2 ∧ 1 < u.boot.ledger.length ∧ u.boot.ledger[0]? = some e ∧ e.removal = true ∧
    u.boot.ledger[1]? = some { e with removal := false } ∧ r.unlocked = true ∧ r.anyRuns = true ∧ r.obj 0x2000 7 ≠ 4 ∧
    g.unlocked = true ∧ g.anyRuns = false ∧ g.obj 0x2000 7 = 2 ∧ f.obj 0x2100 1 = 5 ∧ State.reset.obj 0x2100 1 ≠ 4 ∧
    State.reset.obj 0x2100 1 ≠ 5 := by
  intro e u r g f
  exact ⟨canonical_of_canonB (by decide +kernel), canonical_of_canonB (by decide +kernel),
    canonical_of_canonB (by decide +kernel), canonical_of_canonB (by decide +kernel), by decide +kernel⟩

theorem witness_ResetsBegin :
    let z := State.reset
    let o (m : Nat) := withObjs State.reset [(0x2000, 7, 2), (0x2A80, 3, m)]
    let r := withBasin id State.reset
    let b := { r with objs := [(objKey 0x2000 7, 2#64)] }
    Canonical z ∧ Canonical (o 1) ∧ Canonical r ∧ Canonical b ∧ z.mayReset 2303 = true ∧ r.mayReset 0 = false ∧
    (berthAll 143).all z.mayReset = true ∧ (berthAll 0).all (fun u => !r.mayReset u) = true ∧ b.obj 0x2000 7 = 2 ∧
    (b.basin 0).rect.isSome = true ∧ (z.basin 0).rect = none ∧ r.obj 0x2000 7 ≠ 2 ∧ r.obj 0x2000 7 ≠ 3 ∧
    2 ≤ b.obj 0x2000 7 ∧ z.obj 0x2000 7 < 2 ∧ (o 1).obj 0x2A80 3 = 1 ∧ (o 2).obj 0x2A80 3 ≠ 1 := by
  intro z o r b
  exact ⟨canonical_of_canonB (by decide +kernel), canonical_of_canonB (by decide +kernel),
    canonical_of_canonB (by decide +kernel), canonical_of_canonB (by decide +kernel), by decide +kernel⟩

theorem witness_ResetsEnd :
    let q : ResetReq := ⟨1, 2303, [2303], false, 0, 5, none⟩
    let s (q : ResetReq) := { State.reset with boot := { Boot.init with resets := [q] } }
    let w := { s q with tiles := [(2303, { Tile.init with tp := { TpRouter.init with responses := [⟨2303, 0, []⟩] } })] }
    let e : ResetReq := { q with phase := 1 }
    let a : ResetReq := { q with absorb := true }
    let b : ResetReq := { q with level := 3, target := 15, phase := 1 }
    let d : ResetReq := { q with level := 4, target := 0, tiles := [0, 2303], absorb := true }
    Canonical (s q) ∧ Canonical w ∧ Canonical (s d) ∧ (s q).boot.resets = [q] ∧ q.phase = 0 ∧ q.absorb = false ∧
    (s q).drained q = true ∧
    w.boot.resets = [q] ∧ w.drained q = false ∧ e.phase ≠ 0 ∧ a.absorb = true ∧ (a.absorb = true ∨ a.phase = 1) ∧
    e.ladder = none ∧ (s e).upd.run = none ∧ e.level < 3 ∧ e.tiles.Nodup ∧ b.level = 3 ∧ b.target < 16 ∧ b.phase = 1 ∧
    d.level = 4 ∧ (∀ k, k < 16 → ((s d).basin k).rect = none) ∧ (s d).boot.ledger = [] ∧
    (∀ n, n < 40 → (s d).poundState n < 4) := by
  intro q s w e a b d
  exact ⟨canonical_of_canonB (by decide +kernel), canonical_of_canonB (by decide +kernel), canonical_of_canonB (by decide +kernel), by decide +kernel⟩

/-- Without the unlock value a service command is refused with reason 1 (R369). -/
theorem test_service_locked : (after (exec .powerDown State.reset)).obj 0x2E01 4 = 1 := by decide +kernel

/-! ### Recovery and triers -/

/-- Basin 0 of one berth, stopped and in a recovery state, with errors and tests. -/
def recovering (st : Nat) (es : List AlarmMsg) (ts : List (Nat × Nat × Bool)) : State :=
  led (withObjs (withBasin (fun b => { b with stop := true, errors := es, tests := ts }) State.reset) [(0x2810, 1, st)])

theorem witness_CollectionAndTests :
    let m : AlarmMsg := ⟨1, 0, 0, 0, 0, 147, 0⟩
    let s := recovering 1 [m] []
    let g (c a : Nat) := recovering 4 [⟨c, 0, 0, 0, 0, 2304, a⟩] []
    let t := recovering 2 [m] [(147, 8, false), (0, 2, false)]
    let acts (x : State) : Bool := (x.basin 0).stop && x.activeLk.isSome && decide (x.recState 0 ≠ 0) && decide (x.recState 0 ≤ 4)
    Canonical s ∧ Canonical (g 0x163 0) ∧ Canonical (g 0x18B 2) ∧ Canonical (g 2 2) ∧ Canonical t ∧
    acts (withBasin id State.reset) = false ∧
    acts s = true ∧ (s.basin 0).errors = [m] ∧ m.isError = true ∧ (s.basin 0).judged = 0 ∧ (s.basin 0).tests = [] ∧
    s.errorTest 0 m = some (147, 5) ∧ acts (g 0x163 2) = true ∧ (AlarmMsg.mk 0x163 0 0 0 0 2304 2).isError = true ∧
    (g 0x163 2).errorTest 0 ⟨0x163, 0, 0, 0, 0, 2304, 2⟩ = none ∧ 0x163 ∈ [0x162, 0x163, 0x16D] ∧
    (g 0x18B 2).errorTest 0 ⟨0x18B, 0, 0, 0, 0, 2304, 2⟩ = none ∧ (AlarmMsg.mk 0x18B 0 0 0 0 2304 2).isError = true ∧
    (g 2 2).errorTest 0 ⟨2, 0, 0, 0, 0, 2304, 2⟩ = none ∧ (AlarmMsg.mk 2 0 0 0 0 2304 2).isError = true ∧
    2 ∉ [0x162, 0x163, 0x16D, 0x18B, 0xB] ∧ State.reset.basinOf 147 = none ∧ t.basinOf 147 = some 0 ∧ t.basinOf 0 = some 0 ∧
    s.basinOf 147 = some 0 ∧ (t.basin 0).tests = (147, 8, false) :: [(0, 2, false)] := by
  intro m s g t acts
  exact ⟨canonical_of_canonB (by decide +kernel), canonical_of_canonB (by decide +kernel),
    canonical_of_canonB (by decide +kernel), canonical_of_canonB (by decide +kernel),
    canonical_of_canonB (by decide +kernel), by decide +kernel⟩

/-- The map of a field without defects. -/
def wholeMap : FieldMap := ⟨24, 0xFF, false, List.replicate 24 12⟩

/-- The map's entries are at their defaults, and the shape is whole. -/
def WholeDie (x : State) : Prop :=
  Map.wf x.objs objDefault = true ∧ x.boot.rowsLow = 24 ∧ x.boot.rowsHigh = 24 ∧
  ∀ f sub, f < 8 → sub < 27 → Map.get x.objs (objDefault (objKey (mapObj f) sub)) (objKey (mapObj f) sub) =
    objDefault (objKey (mapObj f) sub)

theorem lem_whole_reg {x : State} (h : WholeDie x) (t off n : Nat) : WholeDie (x.setRegN t off n) := h

theorem lem_whole_obj {x : State} (h : WholeDie x) (i sub n : Nat)
    (hn : (∀ f s', f < 8 → s' < 27 → objKey (mapObj f) s' ≠ objKey i sub) ∨ BitVec.ofNat 64 n = objDefault (objKey i sub)) :
    WholeDie (x.setObj i sub n) := by
  refine ⟨Map.wf_put _ _ _ _ _ rfl h.1, h.2.1, h.2.2.1, fun f s' hf hs => ?_⟩
  show Map.get (Map.put _ _ _ _) _ _ = _
  by_cases he : objKey (mapObj f) s' = objKey i sub
  · rw [he, Map.get_put_same _ objDefault _ _ _ h.1]
    exact hn.elim (fun hn => absurd he (hn f s' hf hs)) id
  · rw [Map.get_put_other _ _ _ _ _ _ he]
    exact h.2.2.2 f s' hf hs

theorem lem_fold {α : Type} (P : State → Prop) (g : State → α → State) :
    ∀ (l : List α) (x : State), (∀ a ∈ l, ∀ y, P y → P (g y a)) → P x → P (l.foldl g x)
  | [], _, _, hx => hx
  | a :: l, x, hg, hx => lem_fold P g l (g x a) (fun b hb => hg b (List.mem_cons_of_mem _ hb)) (hg a (List.mem_cons_self ..) x hx)

theorem lem_map_defaults : ∀ f, f < 8 → objDefault (objKey (mapObj f) 1) = 24#64 ∧
objDefault (objKey (mapObj f) 0x1A) = 255#64 ∧
    ∀ y, y < 24 → objDefault (objKey (mapObj f) (2 + y)) = 12#64 := by decide +kernel

theorem lem_whole_maps : ∀ f, f < 8 → (List.replicate 8 wholeMap)[f]? = some wholeMap := by decide

theorem lem_whole_cols : ∀ y, y < 24 → BitVec.ofNat 64 (wholeMap.cols.getD y 0xFF) = 12#64 := by decide

theorem lem_whole_map {x : State} (h : WholeDie x) (limit f : Nat) (hf : f < 8) :
    WholeDie (x.writeMap (List.replicate 8 wholeMap) limit f) := by
  have hm : (List.replicate 8 wholeMap)[f]? = some wholeMap := lem_whole_maps f hf
  have hd := lem_map_defaults f hf
  have hk : ∀ j : Nat, (26 < j ∧ j < 256) → ∀ f' s' : Nat, f' < 8 → s' < 27 → objKey (mapObj f') s' ≠ objKey (mapObj f) j := by
    intro j hj f' s' hf' hs'; simp only [objKey, mapObj]; omega
  simp only [State.writeMap, hm]
  refine lem_whole_obj (lem_whole_obj (lem_fold WholeDie _ _ _ (fun y hy a ha => lem_whole_obj ha _ _ _ (.inr ?_))
    (lem_whole_obj (lem_whole_obj h _ _ _ (.inr hd.1.symm)) _ _ _ (.inr hd.2.1.symm))) _ _ _ (.inl (hk 27 (by decide))))
    _ _ _ (.inl (hk 28 (by decide)))
  have hy := List.mem_range.mp hy
  rw [hd.2.2 y hy]
  exact lem_whole_cols y hy

theorem lem_whole_take {x : State} (h : WholeDie x) : WholeDie (x.takeMaps 0 (List.replicate 8 wholeMap)) := by
  have ho : ∀ (i sub n : Nat) (y : State), (i < 0x2E10 ∧ sub < 256) → WholeDie y → WholeDie (y.setObj i sub n) :=
    fun i sub n y hi hy => lem_whole_obj hy _ _ _ (.inl (fun f' s' _ _ => by simp only [objKey, mapObj]; omega))
  unfold State.takeMaps
  refine lem_fold WholeDie _ _ _ (fun t _ y hy => lem_whole_reg hy _ _ _) ?_
  refine ho _ _ _ _ (by decide) (ho _ _ _ _ (by decide) (ho _ _ _ _ (by decide) (ho _ _ _ _ (by decide)
    (ho _ _ _ _ (by decide) (ho _ _ _ _ (by decide) ?_)))))
  refine lem_fold WholeDie _ _ _ (fun p hp y hy => ho _ _ _ _ ?_ hy) ?_
  · have := List.mem_range.mp hp; simp only [portObj]; omega
  refine lem_fold WholeDie _ _ _ (fun t _ y hy => lem_whole_reg hy _ _ _) ?_
  refine lem_fold WholeDie _ _ _ (fun t _ y hy => lem_whole_reg hy _ _ _) ?_
  refine lem_fold WholeDie _ _ _ (fun t _ y hy => lem_fold WholeDie _ _ _ (fun o _ z hz => lem_whole_reg hz _ _ _)
    (lem_whole_reg hy _ _ _)) ?_
  have h1 := lem_fold WholeDie (fun (a : State) f => a.writeMap (List.replicate 8 wholeMap) (if (0 : Nat) = 0 then 3 else 7) f) (List.range 8) x
    (fun f hf y hy => lem_whole_map hy _ f (List.mem_range.mp hf)) h
  generalize List.foldl (fun (a : State) f => a.writeMap (List.replicate 8 wholeMap) (if (0 : Nat) = 0 then 3 else 7) f) x
    (List.range 8) = w at h1 ⊢
  exact ⟨h1.1, by simp [wholeMap], by simp [wholeMap], h1.2.2.2⟩

theorem lem_whole_phys {x y : State} (hx : WholeDie x) (hy : WholeDie y) (u : Nat) (hu : u < 2304) : x.physOf u = y.physOf u := by
  have hf : x.fieldOf u = y.fieldOf u := by simp only [State.fieldOf, hx.2.1, hy.2.1]
  have hr : x.localRow u = y.localRow u := by simp only [State.localRow, hx.2.1, hy.2.1]
  have hlt : y.fieldOf u < 8 := by
    simp only [State.fieldOf, hy.2.1, tx, ty]; split <;> omega
  have hrow : y.localRow u < 24 := by
    simp only [State.localRow, hy.2.1, ty]; split <;> omega
  have hobj : ∀ sub, sub < 27 → x.obj (mapObj (y.fieldOf u)) sub = y.obj (mapObj (y.fieldOf u)) sub := fun sub hs => by
    simp only [State.obj, hx.2.2.2 _ _ hlt hs, hy.2.2.2 _ _ hlt hs]
  simp only [State.physOf, State.fieldRows, hf, hr, hobj 1 (by decide), hobj 0x1A (by decide), hobj (2 + y.localRow u) (by omega)]

/-- A basin of one berth that waits at its first lock under a remap hold. -/
def remapping : State := waiting (fun b => { b with holds := [(.remap, 0)] })

theorem lem_remapping_whole : WholeDie remapping :=
  ⟨by decide +kernel, by decide +kernel, by decide +kernel, fun f sub _ _ => by simp only [remapping, waiting, withTiles, State.reset, Map.get]⟩

/-- Sixteen entries of the berth's tiles, and two of row 10 of the same field. -/
def lostBerth : List LedgerEntry :=
  ((rectTiles (0, 0, 0, 0)).map (fun t => t % 48 + 52 * (t / 48)) ++ [520, 521]).map (fun p =>
    ⟨1, true, false, false, some p, 0, 0, 0, 0⟩)

theorem witness_ReplayAndRemap :
    let s := remapping
    let l := { remapping with boot := { Boot.init with ledger := lostBerth } }
    let r := withObjs (waiting (fun b => { b with stop := true, prepared := true, holds := [(.snapshot, 0)] })) [(0x2810, 1, 4)]
    Canonical s ∧ Canonical l ∧ Canonical r ∧ s.recState 0 ≠ 3 ∧ s.recState 0 ≠ 4 ∧ (r.basin 0).stop = true ∧
    r.recState 0 = 4 ∧
    (r.basin 0).prepared = true ∧ (r.basin 0).tests = [] ∧ (r.basin 0).judged = (r.errorsOf 0).length ∧
    (r.basin 0).holds.all (fun h => decide (h.1 ≠ .remap)) = true ∧ r.lockHeld 0 (r.nextLockNum 0) = true ∧
    (r.basin 0).lockNow = none ∧ (∀ n, n < 16 → s.recState n ≠ 3 ∧ s.recState n ≠ 4) ∧ State.reset.remapHeld = [] ∧
    s.obj 0x2E00 8 = 0 ∧ s.remapHeld = [0] ∧ s.chooseMaps 3 = some (List.replicate 8 wholeMap) ∧
    (((List.replicate 8 wholeMap)[0]?).map (fun m => m.cols.length)).getD 24 = s.boot.rowsLow ∧
    (((List.replicate 8 wholeMap)[4]?).map (fun m => m.cols.length)).getD 24 = s.boot.rowsHigh ∧
    l.remapHeld = [0] ∧ l.chooseMaps 3 = none ∧
    (l.basinTiles 0).all (fun u => (l.badTiles 3 (l.fieldOf u)).contains (l.physOf u)) = true := by
  intro s l r
  exact ⟨canonical_of_canonB (by decide +kernel), canonical_of_canonB (by decide +kernel),
    canonical_of_canonB (by decide +kernel), by decide +kernel⟩

theorem witness_ReplayAndRemap_map :
    ∀ u ∈ remapping.shapeTiles, remapping.physOf u = (remapping.takeMaps (remapping.obj 0x2E00 8) (List.replicate 8 wholeMap)).physOf u := by
  intro u hu
  rw [show remapping.obj 0x2E00 8 = 0 by decide +kernel]
  exact lem_whole_phys lem_remapping_whole (lem_whole_take lem_remapping_whole) u
    (List.mem_range.mp (show u ∈ List.range 2304 from hu))

theorem witness_TestingInService :
    let z := State.reset
    let d := withTile (fun t => { t with dark := true })
    let o := withRegs State.reset [(0x6084, 16)]
    let k := waiting (fun b => { b with holds := [(.trierPause, 0)] })
    let p := withBasin (fun b => { b with stop := true }) State.reset
    Canonical z ∧ Canonical d ∧ Canonical o ∧ Canonical k ∧ Canonical p ∧ (d.tile 0).dark = true ∧ p.basinOf 0 = some 0 ∧
    (p.basin 0).stop = true ∧
    (withBasin id State.reset).trierOwns 0 1 true 15 = false ∧ z.trierOwns 0 2 true 15 = true ∧
    z.trierOwns 0 3 true 0 = true ∧
    z.trierOwns 0 8 false 0 = true ∧ (2 : Fin 9).val ≠ 0 ∧ z.basinOf 0 = none ∧ (z.tile 0).dark = false ∧
    (2 : Fin 9).val ∈ [1, 2, 6, 7] ∧
    (Map.get z.boot.passed 0 (z.physOf 0) ||| 2 ^ (15 % 16)) &&& 0xFFFFF ≠ 0xFFFFF ∧ bitOf (o.regN 0 0x6084) 4 = true ∧
    bitOf (z.regN 0 0x6084) 4 = false ∧ (z.basin 0).stop = false ∧ z.heldFor 0 .trierPause = false ∧
    k.heldFor 0 .trierPause = true ∧ k.heldByRequest 0 = true ∧ (147 : TileId).val ∈ k.basinTiles 0 := by
  intro z d o k p
  exact ⟨canonical_of_canonB (by decide +kernel), canonical_of_canonB (by decide +kernel),
    canonical_of_canonB (by decide +kernel), canonical_of_canonB (by decide +kernel),
    canonical_of_canonB (by decide +kernel), by decide +kernel⟩

/-- An overdue pass counts once (R399). -/
theorem test_trier_overdue :
    (after (exec (.trierOverdue 0) (after (exec (.trierOverdue 0) State.reset)))).obj 0x2840 5 = 1 := by decide +kernel

/-! ### The cellar, basins, images and debug -/

theorem witness_SnapshotRequests :
    let j : SnapJob := ⟨1, true, 0, 2, none, false⟩
    let s := withObjs State.reset [(snapObj 0, 1, 1), (snapObj 0, 2, 0)]
    let q := { State.reset with cellar := { Cellar.init with queue := [(0, true)], job := some j } }
    let hot := withObjs State.reset [(0x2880, 2, 0), (0x2A10, 3, 3)]
    Canonical s ∧ Canonical q ∧ Canonical hot ∧ State.reset.cellar.job = none ∧ State.reset.cellar.queue = [] ∧
    q.cellar.queue = [(0, true)] ∧ s.obj (snapObj 0) 2 = 0 ∧ s.obj (snapObj 0) 1 ≠ 0 ∧
    min 1000 ((State.reset.riskParts State.reset.riskSample).foldl (· + ·) 0) < State.reset.obj 0x2880 2 ∧
    hot.obj 0x2880 2 ≤ min 1000 ((hot.riskParts hot.riskSample).foldl (· + ·) 0) ∧ hot.cellar.trigger = none ∧
    (∀ n, n < 16 → hot.obj (0x2A10 + n) 3 = 3 → n = 0) ∧ hot.obj (0x2A10 + 0) 3 = 3 ∧ hot.recordsOf 0 = [] := by
  intro j s q hot
  exact ⟨canonical_of_canonB (by decide +kernel), canonical_of_canonB (by decide +kernel),
    canonical_of_canonB (by decide +kernel), by decide +kernel⟩

/-- The first snapshot point is the lock itself where its record asks for one. -/
theorem witness_snapPoint (table : Map (BitVec 128)) (n : Nat) (h : recSnapshot (epochRec table n) = true) :
    snapPoint table n 65536 = some n := by
  rw [show (65536 : Nat) = 65535 + 1 from rfl, snapPoint, if_pos h]

/-- A record of basin 0 that holds nothing. -/
def emptyRecord (full : Bool) (grade level : Nat) : SnapRecord :=
  ⟨0, full, 0, 7, 1, 0, level, ImageFacts.init, 48, grade, (0, 0, 0, 0), [], [], [], [], [], [], 0, [], [], 0, 0, 0⟩

theorem witness_SnapshotSteps :
    let jobs (ph : Nat) (r : Option SnapRecord) : SnapJob := ⟨0, true, 1, ph, r, true⟩
    let s := { withBasin (fun b => { b with table := [(0, 0x2000000000000000000000004#128)] }) State.reset with
      cellar := { Cellar.init with queue := [(0, true)] } }
    let c := { waiting (fun b => { b with holds := [(.snapshot, 1)] }) with
      cellar := { Cellar.init with job := some (jobs 2 none) } }
    let d (r : Option SnapRecord) (ph : Nat) := { State.reset with cellar := { Cellar.init with job := some (jobs ph r) } }
    Canonical s ∧ Canonical c ∧ Canonical (d none 3) ∧ Canonical (d (some (emptyRecord true 0 1)) 4) ∧
    State.reset.cellar.queue = [] ∧ c.cellar.job ≠ none ∧ s.cellar.job = none ∧ s.cellar.restores = [] ∧
    s.cellar.queue = (0, true) :: [] ∧ (s.basin 0).started = true ∧ (s.basin 0).stop = false ∧
    recSnapshot (epochRec (s.basin 0).table (s.nextLockNum 0 + b2n (s.basin 0).waveBegun)) = true ∧
    c.cellar.job = some (jobs 2 none) ∧ (jobs 2 none).basin = 0 ∧ (jobs 2 none).phase = 2 ∧ c.nextLockNum 0 = 1 ∧
    c.heldByRequest 0 = true ∧ c.heldFor 0 .remap = false ∧ (c.basin 0).stop = false ∧ c.bargesDone 0 = true ∧ c.mem = [] ∧
    (c.basinTiles 0).all (fun t => (List.range 16).all (fun k => (c.bank t k).gather.isEmpty)) = true ∧
    (d none 3).heldByRequest 0 = false ∧ (d none 3).cellar.job = some (jobs 3 none) ∧ (jobs 3 none).phase = 3 ∧
    (d (some (emptyRecord true 0 1)) 4).cellar.job = some (jobs 4 (some (emptyRecord true 0 1))) ∧
    (jobs 4 (some (emptyRecord true 0 1))).rec_ = some (emptyRecord true 0 1) := by
  intro jobs s c d
  exact ⟨canonical_of_canonB (by decide +kernel), canonical_of_canonB (by decide +kernel),
    canonical_of_canonB (by decide +kernel), canonical_of_canonB (by decide +kernel), by decide +kernel⟩

theorem witness_Restores :
    let s (l : List SnapRecord) := { withObjs State.reset [(0x2A10, 3, 2)] with
      basins := [(0, { Basin.init with rect := some (0, 0, 0, 0) })]
      cellar := { Cellar.init with records := l } }
    let r := emptyRecord true 0 1
    let j (fb : Bool) : RestoreJob := ⟨0, false, fb, false, [r]⟩
    let d (fb : Bool) := { State.reset with cellar := { Cellar.init with restores := [j fb] } }
    Canonical State.reset ∧ Canonical (s []) ∧ Canonical (s [r, r]) ∧ Canonical (d true) ∧
    State.reset.obj (0x2A10 + 0) 3 = 0 ∧
    (s []).obj (0x2A10 + 0) 3 = 2 ∧ (s []).obj (snapObj 0) 0xE ≠ 2 ∧ (s []).recordsOf 0 = [] ∧
    (s [r]).recordsOf 0 = r :: [] ∧
    r.full = true ∧ ((s [r]).basin 0).rect = some r.rect ∧ r.rows = (s [r]).shapeRows ∧ oldChain [r] = [] ∧
    (emptyRecord true 1 1).grade ≠ (s [r]).obj 0x2E00 8 ∧ r.grade = (s [r]).obj 0x2E00 8 ∧ (s [r]).levelOk 0 9 = false ∧
    (s [r]).levelOk 0 r.level = true ∧ (s [r, r]).recordsOf 0 = [r, r] ∧ State.reset.cellar.restores = [] ∧
    (d true).cellar.restores = [j true] ∧ (j true).basin = 0 ∧ (j true).needImage = false ∧ (d true).cellar.job = none ∧
    (j true).fallback = true ∧ (j false).chain = [r] := by
  intro s r j d
  exact ⟨canonical_of_canonB (by decide +kernel), canonical_of_canonB (by decide +kernel),
    canonical_of_canonB (by decide +kernel), canonical_of_canonB (by decide +kernel), by decide +kernel⟩

/-- Every pound is on. -/
def powered (l : List (Nat × Nat × Nat)) : State :=
  withObjs State.reset ((0x2000, 7, 2) :: (List.range 40).map (fun n => (poundObj n, 1, 3)) ++ l)

theorem witness_BasinDefinitions :
    let u := withObjs State.reset [(0x2A10, 3, 2)]
    let z := withObjs State.reset [(0x2000, 7, 2)]
    let p := powered [(0x2A10, 1, 0xBBBB)]
    let m := { z with basins := [(1, { Basin.init with rect := some (0, 0, 0, 0) })] }
    Canonical u ∧ Canonical z ∧ Canonical p ∧ Canonical m ∧ 1 < u.obj (0x2A10 + 0) 3 ∧ u.obj 0x2000 7 ≠ 2 ∧
    z.obj (0x2A10 + 0) 3 ≤ 1 ∧ z.obj 0x2000 7 = 2 ∧ (m.basin 1).rect = some (0, 0, 0, 0) ∧
    rectsMeet (m.rectObj 0) (0, 0, 0, 0) = true ∧ m.obj 0x2000 7 = 2 ∧ p.obj (0x2A10 + 0) 3 ≤ 1 ∧ p.obj 0x2000 7 = 2 ∧
    p.rectObj 0 = (11, 11, 11, 11) ∧ (p.rectObj 0).2.2.2 < p.shapeRows / 4 ∧
    (rectTiles (11, 11, 11, 11)).all (fun t => decide (p.poundState (p.poundOf t) = 3)) = true ∧
    z.poundState (z.poundOf 0) ≠ 3 ∧ 0 ∈ rectTiles (z.rectObj 0) := by
  intro u z p m
  exact ⟨canonical_of_canonB (by decide +kernel), canonical_of_canonB (by decide +kernel),
    canonical_of_canonB (by decide +kernel), canonical_of_canonB (by decide +kernel), by decide +kernel⟩

/-- No other basin is defined: the premise of the definition that succeeds. -/
theorem witness_BasinDefinitions_alone :
    ∀ (c : BasinId) q, c ≠ 0 → ((powered [(0x2A10, 1, 0xBBBB)]).basin c).rect = some q →
      rectsMeet ((powered [(0x2A10, 1, 0xBBBB)]).rectObj 0) q = false := by
  intro c q _ h
  exact absurd h (by simp [powered, withObjs, State.basin, State.reset, Map.get, Basin.init])

/-- An admin queue that may fetch. -/
def adminQueue : State :=
  { withBars State.reset [(0x114, 1), (0x118, 1)] with
    host := { HostIf.init with queues := [(128, { HostQueue.init with size := 16, tail := 1 })] }
    objs := [(objKey 0x2A10 3, 1#64)]
    basins := [(0, { Basin.init with rect := some (0, 0, 0, 0) })] }

/-- An image of one row, of basin 0's shape. -/
def smallImage : Image :=
  ⟨true, 64, 0, 1, 64, 48, (0, 0, 0, 0), 0, [(147, 40959, 7)], [], [], [], [], [], [], [], [], []⟩

theorem witness_ImageLoading :
    let s := adminQueue
    let e (n : Nat) : BitVec 512 := BitVec.ofNat 512 (0x10 + n * 2 ^ 32)
    let well (e : BitVec 512) : Bool := subF e 7 0 == 0x10 && subF e 75 64 == 0 && !(entryReserved e 132)
    Canonical s ∧ subF (e 64) 131 128 = 0 ∧ s.canFetch 128 = true ∧ (s.queue 128).entries = [] ∧ well 0 = false ∧
    well (e 0) = true ∧ subF (e 0) 63 32 = 0 ∧ well (e 64) = true ∧ subF (e 64) 63 32 = 64 ∧ smallImage.len = 64 ∧
    smallImage.sound = true ∧ smallImage.config = [] ∧ s.imageStatus 0 smallImage = 0 ∧
    s.imageStatus 0 { smallImage with width := 60 } ≠ 0 ∧ ({ smallImage with sound := false } : Image).sound = false ∧
    s.cellar.restores = [] ∧ smallImage.cells = [(147, 40959, 7)] ∧
    147 ∈ s.basinTiles 0 ∧ (s.bank 147 (bankOf 40959)).sleep = 0 := by
  intro s e well; exact ⟨canonical_of_canonB (by decide +kernel), by decide +kernel⟩

theorem witness_DigestsAndCaptures :
    let d : DigestRec := ⟨0, 0, 0, 0, 0⟩
    let s := led (withBasin (fun b => { b with digests := { DigestLog.init with recs := [d] } }) State.reset)
    let w := { s with tiles := [(0, { Tile.init with dig := { DigestUnit.init with held := 8 } })] }
    let a := withObjs (withBasin id State.reset) [(0x2610, 1, 1), (0x2C10, 0xA, 3 + 256 * 3)]
    let c := withObjs (withBasin id State.reset) [(0x2C10, 9, 1)]
    let one := { s with tiles := (s.basinTiles 0).map (fun t => (t, { Tile.init with dig := { DigestUnit.init with held := 1 } })) }
    Canonical s ∧ Canonical w ∧ Canonical a ∧ Canonical c ∧ Canonical one ∧ (one.basin 0).started = true ∧
    one.activeLk ≠ none ∧
    (one.basinTiles 0).all (fun u => decide ((one.tile u).dig.held = 1) && decide ((one.tile u).dig.lost = 0) &&
      decide (one.regN u (0x880 + 16 * ((one.tile u).dig.oldest % 8)) = 0)) = true ∧ one.basinTiles 0 ≠ [] ∧
    (one.basin 0).digests.lostSeen = 0 ∧ (one.basin 0).digests.pend = [] ∧ (one.basin 0).digests.recs = [d] ∧
    (one.basin 0).digests.spans = [] ∧ (State.reset.basin 0).started = false ∧ (w.basin 0).started = true ∧
    w.activeLk ≠ none ∧ (w.basinTiles 0).all (fun u => decide ((w.tile u).dig.held ≤ 8)) = true ∧ (w.tile 0).dark = false ∧
    w.absorbing 0 = false ∧ (0#64).toNat < a.obj (0x2610 + 0) 1 ∧ a.obj 0x2C10 0xA = tx 147 + 256 * ty 147 ∧
    147 ∈ a.basinTiles 0 ∧ a.obj (0x2610 + 0) 1 ≤ (1#64).toNat ∧ (0x0303#16).toNat = tx 147 + 256 * ty 147 ∧
    c.obj (0x2C10 + 0) 9 = 1 ∧ 147 ∈ c.basinTiles 0 := by
  intro d s w a c one
  exact ⟨canonical_of_canonB (by decide +kernel), canonical_of_canonB (by decide +kernel),
    canonical_of_canonB (by decide +kernel), canonical_of_canonB (by decide +kernel), canonical_of_canonB (by decide +kernel), by decide +kernel⟩

theorem witness_TraceProbesTap :
    let q (n : Nat) := withRegs (led (withTile (fun t => { t with dig := { DigestUnit.init with trace := List.replicate n [6, 0, 0, 0], traceLost := 256 } })))
      [(0x9a0, 32)]
    let o := withObjs State.reset [(0x2D00, 1, 1)]
    Canonical State.reset ∧ Canonical (q 15) ∧ Canonical o ∧ (State.reset.tile 0).dig.trace = [] ∧
    ((q 2).tile 0).dig.trace = (6 :: [0, 0, 0]) :: [[6, 0, 0, 0]] ∧ (q 15).activeLk ≠ none ∧ ((q 15).tile 0).dark = false ∧
    (q 15).absorbing 0 = false ∧ bitOf ((q 15).regN 0 0x9a0) 5 = true ∧ ((q 15).tile 0).dig.trace.length < 16 ∧
    bitOf (State.reset.regN 0 0x9a0) 5 = false ∧ Map.wf o.dbg.mux (fun _ => 0) = true ∧ State.reset.obj 0x2D00 1 ≠ 1 ∧
    State.reset.dbg.tap = none ∧ o.obj 0x2D00 1 = 1 := by
  intro q o
  exact ⟨canonical_of_canonB (by decide +kernel), canonical_of_canonB (by decide +kernel),
    canonical_of_canonB (by decide +kernel), by decide +kernel⟩

theorem witness_KolvosErrors :
    (0 < 1 ∧ 1 < 275 ∧ 275 < 276) ∧ kolvosDecode (flipAt (kolvosEncode 0) 275) = .corrected 0 1 ∧
    kolvosDecode (flipAt (flipAt (kolvosEncode 0) 0) 275) = .corrected 0 2 ∧
    kolvosDecode (flipAt (flipAt (flipAt (kolvosEncode 0) 0) 1) 275) = .uncorrectable := by decide +kernel

/-- BYPASS loads with SCAN_EN high (R471). -/
theorem test_bypass : (after (exec .bypass (withObjs State.reset [(0x2D00, 1, 1)]))).dbg.tap = some 0 := by decide +kernel

/-- A basin on a die whose pounds are off is refused with reason 3 (R437). -/
theorem test_basin_unpowered : (after (exec (.basinDefine 0) (withObjs State.reset [(0x2000, 7, 2)]))).obj 0x2A10 9 = 3 := by
  decide +kernel

/-! ### Well-formedness: one ill-formed term for each check, and the largest well-formed one -/

/-- Operands that do not fit their fields are refused. -/
theorem smoke_numbers :
    (Instr.lockHoldRequest 0 .remap (2 ^ 64)).wellFormed = false ∧
    (Instr.lockHoldRequest 0 .remap (2 ^ 64 - 1)).wellFormed = true ∧
    (Instr.lockHoldRelease 0 .remap (2 ^ 64)).wellFormed = false ∧
    (Instr.cfgWr 0#12 0#32 (List.replicate 7 0#32) .clean).wellFormed = false ∧
    (Instr.cfgWr 0#12 0#32 (List.replicate 6 0#32) .clean).wellFormed = true ∧
    (Instr.narrowWrite 0 65536 0 0#8 false).wellFormed = false ∧ (Instr.narrowWrite 0 65535 0 0#8 false).wellFormed = true ∧
    (Instr.barDone 0 0#8 ⟨0, 0, .repeated badLine⟩).wellFormed = false ∧
    (Instr.barDone 0 0#8 ⟨0, 1, .repeated badLine⟩).wellFormed = true ∧
    (Instr.irq none ⟨0, 0, .words (List.replicate 9 0)⟩).wellFormed = false ∧
    (Instr.irq none ⟨0, 0, .words (List.replicate 8 0)⟩).wellFormed = true ∧
    (Instr.alStateRequest 16 true).wellFormed = false ∧ (Instr.alStateRequest 15 true).wellFormed = true ∧
    (Instr.ceilingUpdate (2 ^ 32)).wellFormed = false ∧ (Instr.weirDroop 0 (2 ^ 32) 0).wellFormed = false ∧
    (Instr.coolantSample 0 (2 ^ 32)).wellFormed = false ∧ (Instr.removeEntry 65536).wellFormed = false ∧
    (Instr.cancelRemoval 65536).wellFormed = false ∧ (Instr.targetedTestEnd 0 0 false (2 ^ 32)).wellFormed = false ∧
    (Instr.idleWindowSlice 0 0 false (2 ^ 32)).wellFormed = false ∧ (Instr.digestAck 0 (2 ^ 32)).wellFormed = false := by
  decide +kernel

/-- Bytes, words and lists without repeats. -/
theorem smoke_lists :
    (Instr.sdoDownload 0#16 0#8 [256]).wellFormed = false ∧ (Instr.sdoDownload 0#16 0#8 [255]).wellFormed = true ∧
    (Instr.sdoCompleteDownload 0#16 false [[0], [256]]).wellFormed = false ∧
    (Instr.foeWrite [256] 0 0 true factoryImage).wellFormed = false ∧
    (Instr.foeWrite [] (2 ^ 32) 0 true factoryImage).wellFormed = false ∧
    (Instr.foeWrite [] 0 (2 ^ 32) true factoryImage).wellFormed = false ∧
    (Instr.foeWrite [] 0 0 true { factoryImage with version := [256] }).wellFormed = false ∧
    (Instr.foeWrite [] 0 0 true { factoryImage with ident := 256 }).wellFormed = false ∧
    (Instr.foeWrite [] 0 0 true { factoryImage with reads := [256] }).wellFormed = false ∧
    (Instr.trierPauseDone 0 [0, 0] []).wellFormed = false ∧
    (Instr.trierPauseDone 0 [] [(0, 0, 2 ^ 32)]).wellFormed = false ∧
    (Instr.restoreLatest 0 [1, 1]).wellFormed = false ∧ (Instr.restoreOlderFull 0 [1, 1]).wellFormed = false ∧
    (Instr.capture8us 0 (2 ^ 32) 0 none []).wellFormed = false ∧
    (Instr.capture8us 0 0 (2 ^ 32) none []).wellFormed = false ∧
    (Instr.capture8us 0 0 0 (some [0]) []).wellFormed = false ∧
    (Instr.capture8us 0 0 0 (some (List.replicate 8 (2 ^ 32))) []).wellFormed = false ∧
    (Instr.capture8us 0 0 0 none (List.replicate 66 (0, 0, 0))).wellFormed = false ∧
    (Instr.capture8us 0 0 0 none [(0, 2 ^ 32, 0)]).wellFormed = false ∧
    (Instr.capture8us 0 0 0 none [(0, 0, 2 ^ 32)]).wellFormed = false ∧
    (Instr.capture8us 0 0 0 none (List.replicate 65 (0, 0, 0))).wellFormed = true := by decide +kernel

/-- Images and phase results name places of the device. -/
theorem smoke_images :
    (Instr.loadImage 0 (some smallImage)).wellFormed = true ∧
    (Instr.loadImage 0 (some { smallImage with cells := [(2304, 0, 0)] })).wellFormed = false ∧
    (Instr.loadImage 0 (some { smallImage with cells := [(0, 40960, 0)] })).wellFormed = false ∧
    (Instr.loadImage 0 (some { smallImage with wheels := [(2304, 0, 0)] })).wellFormed = false ∧
    (Instr.loadImage 0 (some { smallImage with wheels := [(0, 512, 0)] })).wellFormed = false ∧
    (Instr.loadImage 0 (some { smallImage with reports := [(2304, 0, 0)] })).wellFormed = false ∧
    (Instr.loadImage 0 (some { smallImage with reports := [(0, 256, 0)] })).wellFormed = false ∧
    (Instr.loadImage 0 (some { smallImage with reports := [(0, 0, 2 ^ 32)] })).wellFormed = false ∧
    (Instr.bringupPhaseEnd (clean true true true)).wellFormed = true ∧
    (Instr.bringupPhaseEnd { clean true true true with found := [(0, none, 0, 0)] }).wellFormed = false ∧
    (Instr.bringupPhaseEnd { clean true true true with found := [(16, none, 0, 0)] }).wellFormed = false ∧
    (Instr.bringupPhaseEnd { clean true true true with found := [(1, some 2600, 0, 0)] }).wellFormed = false ∧
    (Instr.bringupPhaseEnd { clean true true true with found := [(1, none, 65536, 0)] }).wellFormed = false ∧
    (Instr.bringupPhaseEnd { clean true true true with found := [(1, none, 0, 65536)] }).wellFormed = false ∧
    (Instr.bringupPhaseEnd { clean true true true with offsets := [(0, 21)] }).wellFormed = false ∧
    (Instr.bringupPhaseEnd { clean true true true with offsets := [(0, -21)] }).wellFormed = false := by decide +kernel

end Sys2Proof.Tests
end

/-! # PROOFS. Single errors and the poison word of the Kolvos code (R145 to R147)

Three ideas carry the family. Division by `g` is linear over GF(2), so flipping position `i` adds `xⁱ mod g` to the
syndrome. Multiplication by `x` is injective modulo `g`, so the powers of the 276 positions differ as soon as none but
the first is `1`. And `x + 1` divides `g`, so every power of `x` keeps odd weight, while P has even weight: no odd
number of errors has P as its syndrome. -/

namespace Sys2Proof.Machine

/-! ## Division of a bit string by a polynomial -/

section PolyRem

variable {g deg : Nat}

/-- A word with one bit more below. -/
def shiftIn (b : Bool) (r : Nat) : Nat := 2 * r + b.toNat

theorem shiftIn_lt {r : Nat} (b : Bool) (hr : r < 2 ^ deg) : shiftIn b r < 2 ^ (deg + 1) := by
  have hb : b.toNat < 2 := Bool.toNat_lt b
  rw [Nat.pow_succ]
  unfold shiftIn
  omega

theorem shiftIn_testBit_zero (b : Bool) (r : Nat) : (shiftIn b r).testBit 0 = b := by
  rw [Nat.testBit_zero, shiftIn, Nat.mul_add_mod]
  cases b <;> rfl

theorem shiftIn_testBit_succ (b : Bool) (r i : Nat) : (shiftIn b r).testBit (i + 1) = r.testBit i := by
  have hb : b.toNat < 2 := Bool.toNat_lt b
  have hhalf : shiftIn b r / 2 = r := by
    unfold shiftIn
    omega
  rw [Nat.testBit_succ, hhalf]

theorem shiftIn_xor (b b' : Bool) (r r' : Nat) : shiftIn (b ^^ b') (r ^^^ r') = shiftIn b r ^^^ shiftIn b' r' := by
  refine Nat.eq_of_testBit_eq fun i => ?_
  cases i with
  | zero => rw [Nat.testBit_xor, shiftIn_testBit_zero, shiftIn_testBit_zero, shiftIn_testBit_zero]
  | succ i =>
    rw [Nat.testBit_xor, shiftIn_testBit_succ, shiftIn_testBit_succ, shiftIn_testBit_succ, Nat.testBit_xor]

/-- One turn of the division: the next bit enters below the remainder, which is then reduced. -/
def polyStep (g deg : Nat) (b : Bool) (rem : Nat) : Nat :=
  if shiftIn b rem < 2 ^ deg then shiftIn b rem else shiftIn b rem ^^^ g

theorem polyRem_succ (v n r : Nat) :
    polyRem g deg v (n + 1) r = polyRem g deg v n (polyStep g deg (v.testBit n) r) := by
  simp only [polyRem, polyStep, shiftIn, Nat.toNat_testBit]

/-- A dividend with one bit more below takes one turn more at the end. -/
theorem polyRem_shiftIn (b : Bool) (v n r : Nat) :
    polyRem g deg (shiftIn b v) (n + 1) r = polyStep g deg b (polyRem g deg v n r) := by
  induction n generalizing r with
  | zero => rw [polyRem_succ, shiftIn_testBit_zero]; rfl
  | succ n ih => rw [polyRem_succ, ih, shiftIn_testBit_succ, ← polyRem_succ]

theorem polyRem_congr {v w n : Nat} (r : Nat) (h : ∀ i < n, v.testBit i = w.testBit i) :
    polyRem g deg v n r = polyRem g deg w n r := by
  induction n generalizing r with
  | zero => rfl
  | succ n ih =>
    rw [polyRem_succ, polyRem_succ, h n n.lt_succ_self]
    exact ih _ fun i hi => h i (Nat.lt_succ_of_lt hi)

theorem polyStep_false_zero : polyStep g deg false 0 = 0 := if_pos (Nat.two_pow_pos deg)

/-- Leading zeros leave the remainder zero. -/
theorem polyRem_of_lt {v k : Nat} (m : Nat) (hv : v < 2 ^ k) : polyRem g deg v (k + m) 0 = polyRem g deg v k 0 := by
  induction m with
  | zero => rfl
  | succ m ih =>
    have hbit : v.testBit (k + m) = false :=
      Nat.testBit_lt_two_pow (Nat.lt_of_lt_of_le hv (Nat.pow_le_pow_right (by decide) (Nat.le_add_right k m)))
    rw [← Nat.add_assoc, polyRem_succ, hbit, ← ih, polyStep_false_zero]

/-- A single bit at position `k` leaves the remainder of `xᵏ`: one, shifted `k` times. -/
theorem polyRem_two_pow (hdeg : 0 < deg) {k n : Nat} (hk : k < n) :
    polyRem g deg (2 ^ k) n 0 = polyRem g deg 0 k 1 := by
  obtain ⟨m, rfl⟩ := Nat.exists_eq_add_of_lt hk
  have hone : polyStep g deg true 0 = 1 := if_pos (Nat.one_lt_two_pow (Nat.ne_of_gt hdeg))
  rw [Nat.add_right_comm, polyRem_of_lt m (Nat.pow_lt_pow_right (by decide) k.lt_succ_self), polyRem_succ,
    Nat.testBit_two_pow_self, hone]
  exact polyRem_congr 1 fun i hi => by rw [Nat.testBit_two_pow_of_ne (Nat.ne_of_gt hi), Nat.zero_testBit]

/-! `g` has degree `deg`: its top bit is set. -/

variable (htop : g.testBit deg = true) (hg : g < 2 ^ (deg + 1))

theorem testBit_shiftIn_of_not_lt {b : Bool} {r : Nat} (hr : r < 2 ^ deg) (hge : ¬ shiftIn b r < 2 ^ deg) :
    (shiftIn b r).testBit deg = true :=
  Nat.testBit_of_two_pow_le_and_two_pow_add_one_gt (Nat.le_of_not_lt hge) (shiftIn_lt b hr)

/-- A turn subtracts `g` exactly when the top bit of the shifted remainder is set. -/
theorem polyStep_eq_xor {b : Bool} {r : Nat} (hr : r < 2 ^ deg) :
    polyStep g deg b r = shiftIn b r ^^^ (if (shiftIn b r).testBit deg then g else 0) := by
  unfold polyStep
  split
  next hlt => rw [Nat.testBit_lt_two_pow hlt, if_neg Bool.false_ne_true, Nat.xor_zero]
  next hge => rw [testBit_shiftIn_of_not_lt hr hge, if_pos rfl]

include htop hg in
theorem polyStep_lt {r : Nat} (b : Bool) (hr : r < 2 ^ deg) : polyStep g deg b r < 2 ^ deg := by
  unfold polyStep
  split
  next hlt => exact hlt
  next hge =>
    refine Nat.lt_pow_two_of_testBit _ fun i hi => ?_
    obtain rfl | hi := Nat.eq_or_lt_of_le hi
    · rw [Nat.testBit_xor, testBit_shiftIn_of_not_lt hr hge, htop, Bool.xor_self]
    · have hle : 2 ^ (deg + 1) ≤ 2 ^ i := Nat.pow_le_pow_right (by decide) hi
      rw [Nat.testBit_xor, Nat.testBit_lt_two_pow (Nat.lt_of_lt_of_le (shiftIn_lt b hr) hle),
        Nat.testBit_lt_two_pow (Nat.lt_of_lt_of_le hg hle), Bool.xor_false]

theorem polyStep_xor {r r' : Nat} (b b' : Bool) (hr : r < 2 ^ deg) (hr' : r' < 2 ^ deg) :
    polyStep g deg (b ^^ b') (r ^^^ r') = polyStep g deg b r ^^^ polyStep g deg b' r' := by
  have hite (p q : Bool) : (if (p ^^ q) then g else 0) = (if p then g else 0) ^^^ (if q then g else 0) := by
    cases p <;> cases q <;>
      simp only [Bool.xor_false, Bool.xor_true, Bool.not_false, Bool.not_true, Bool.false_eq_true, if_true, if_false,
        Nat.xor_zero, Nat.zero_xor, Nat.xor_self]
  rw [polyStep_eq_xor (Nat.xor_lt_two_pow hr hr'), polyStep_eq_xor hr, polyStep_eq_xor hr', shiftIn_xor, Nat.testBit_xor, hite]
  ac_rfl

include htop hg in
theorem polyRem_lt {r : Nat} (v n : Nat) (hr : r < 2 ^ deg) : polyRem g deg v n r < 2 ^ deg := by
  induction n generalizing r with
  | zero => exact hr
  | succ n ih => rw [polyRem_succ]; exact ih (polyStep_lt htop hg _ hr)

include htop hg in
/-- Division is linear over GF(2). -/
theorem polyRem_xor {r r' : Nat} (v w n : Nat) (hr : r < 2 ^ deg) (hr' : r' < 2 ^ deg) :
    polyRem g deg (v ^^^ w) n (r ^^^ r') = polyRem g deg v n r ^^^ polyRem g deg w n r' := by
  induction n generalizing r r' with
  | zero => rfl
  | succ n ih =>
    rw [polyRem_succ, polyRem_succ, polyRem_succ, Nat.testBit_xor, polyStep_xor _ _ hr hr',
      ih (polyStep_lt htop hg _ hr) (polyStep_lt htop hg _ hr')]

include htop hg in
theorem polyRem_xor_zero (v w n : Nat) :
    polyRem g deg (v ^^^ w) n 0 = polyRem g deg v n 0 ^^^ polyRem g deg w n 0 := by
  rw [← polyRem_xor htop hg v w n (Nat.two_pow_pos deg) (Nat.two_pow_pos deg), Nat.xor_self]

end PolyRem

/-! ## The powers of `x` modulo `g` -/

theorem kolvosPoly_testBit : kolvosPoly.testBit 20 = true := by decide

theorem kolvosPoly_lt : kolvosPoly < 2 ^ 21 := by decide

/-- `xⁿ mod g`, the syndrome of an error at position `n` (R145). -/
def xPow (n : Nat) : Nat := polyRem kolvosPoly 20 0 n 1

theorem xPow_lt (n : Nat) : xPow n < 2 ^ 20 := polyRem_lt kolvosPoly_testBit kolvosPoly_lt 0 n (by decide)

theorem xPow_succ (n : Nat) : xPow (n + 1) = polyStep kolvosPoly 20 false (xPow n) := polyRem_shiftIn false 0 n 1

/-- Below the degree of `g` a power is its own remainder. -/
theorem xPow_of_lt : ∀ n < 20, xPow n = 2 ^ n := by decide

theorem kolvosPowers_eq_map (n p : Nat) :
    kolvosPowers n p = (List.range n).map (fun i => polyRem kolvosPoly 20 0 i p) := by
  induction n generalizing p with
  | zero => rfl
  | succ n ih =>
    have hturn (i : Nat) : polyRem kolvosPoly 20 0 (i + 1) p = polyRem kolvosPoly 20 0 i (polyStep kolvosPoly 20 false p) := by
      rw [polyRem_succ, Nat.zero_testBit]
    rw [kolvosPowers, ih, List.range_succ_eq_map, List.map_cons, List.map_map]
    exact congrArg (p :: ·) (List.map_congr_left fun i _ => (hturn i).symm)

theorem kolvosPowers_one : kolvosPowers 276 1 = (List.range 276).map xPow := kolvosPowers_eq_map 276 1

/-- Multiplication by `x` is injective modulo `g`, whose constant term is 1. -/
theorem polyStep_false_inj {r r' : Nat} (h : polyStep kolvosPoly 20 false r = polyStep kolvosPoly 20 false r') :
    r = r' := by
  have hshift {a b : Nat} (e : shiftIn false a = shiftIn false b) : a = b :=
    Nat.eq_of_testBit_eq fun i => by rw [← shiftIn_testBit_succ false a, e, shiftIn_testBit_succ]
  have hodd (a b : Nat) : shiftIn false a ≠ shiftIn false b ^^^ kolvosPoly := fun e => by
    have hbit := congrArg (Nat.testBit · 0) e
    simp only [Nat.testBit_xor, shiftIn_testBit_zero] at hbit
    exact absurd hbit (by decide)
  unfold polyStep at h
  split at h <;> split at h
  · exact hshift h
  · exact absurd h (hodd _ _)
  · exact absurd h.symm (hodd _ _)
  · have hsum := congrArg (· ^^^ kolvosPoly) h
    simp only [Nat.xor_assoc, Nat.xor_self, Nat.xor_zero] at hsum
    exact hshift hsum

/-- The code is no longer than the order of `x`: no position above 0 has the power 1. -/
theorem xPow_succ_ne_one {j : Nat} (hj : j + 1 < 276) : xPow (j + 1) ≠ 1 := by
  have hlist : 1 ∉ kolvosPowers 275 2 := by decide +kernel
  have hstep : polyStep kolvosPoly 20 false 1 = 2 := by decide
  intro h
  rw [xPow, polyRem_succ, Nat.zero_testBit, hstep] at h
  refine hlist ?_
  rw [kolvosPowers_eq_map]
  exact List.mem_map.mpr ⟨j, List.mem_range.mpr (by omega), h⟩

theorem xPow_inj {i j : Nat} (hi : i < 276) (hj : j < 276) (h : xPow i = xPow j) : i = j := by
  induction i generalizing j with
  | zero =>
    cases j with
    | zero => rfl
    | succ j => exact absurd h.symm (xPow_succ_ne_one hj)
  | succ i ih =>
    cases j with
    | zero => exact absurd h (xPow_succ_ne_one hi)
    | succ j =>
      rw [xPow_succ, xPow_succ] at h
      rw [ih (by omega) (by omega) (polyStep_false_inj h)]

theorem kolvosPowers_length : (kolvosPowers 276 1).length = 276 := by
  rw [kolvosPowers_one, List.length_map, List.length_range]

theorem kolvosPowers_getElem {i : Nat} (hi : i < (kolvosPowers 276 1).length) : (kolvosPowers 276 1)[i] = xPow i := by
  simp only [kolvosPowers_one, List.getElem_map, List.getElem_range]

/-! ## The parity of the weight

The remainder modulo `x + 1` is the parity of a word's weight; it is kept by every turn, as `x + 1` divides `g`. -/

/-- The parity of the weight of a word below `2²¹`. -/
def weightParity (v : Nat) : Nat := polyRem 3 1 v 21 0

theorem weightParity_xor (v w : Nat) : weightParity (v ^^^ w) = weightParity v ^^^ weightParity w :=
  polyRem_xor_zero (by decide) (by decide) v w 21

theorem weightParity_kolvosPoly : weightParity kolvosPoly = 0 := by decide

theorem weightParity_zero : weightParity 0 = 0 := by decide

theorem weightParity_poisonCheck : weightParity 0x5A6C3 = 0 := by decide

theorem weightParity_shiftIn_false {r : Nat} (hr : r < 2 ^ 20) : weightParity (shiftIn false r) = weightParity r := by
  have hfix : ∀ p < 2, polyStep 3 1 false p = p := by decide
  calc weightParity (shiftIn false r) = polyStep 3 1 false (polyRem 3 1 r 20 0) := polyRem_shiftIn false r 20 0
    _ = polyRem 3 1 r 20 0 := hfix _ (polyRem_lt (by decide) (by decide) r 20 (by decide))
    _ = weightParity r := (polyRem_of_lt 1 hr).symm

theorem weightParity_xPow (n : Nat) : weightParity (xPow n) = 1 := by
  induction n with
  | zero => decide
  | succ n ih =>
    rw [xPow_succ, polyStep_eq_xor (xPow_lt n), weightParity_xor, weightParity_shiftIn_false (xPow_lt n), ih]
    split
    · rw [weightParity_kolvosPoly]
      rfl
    · rfl

theorem xPow_ne_zero (i : Nat) : xPow i ≠ 0 := ne_of_apply_ne weightParity (by
  rw [weightParity_xPow, weightParity_zero]
  decide)

/-! ## What the decoder's searches find -/

theorem findPower_eq_none_iff {s : Nat} {l : List Nat} {k : Nat} : findPower s l k = none ↔ ∀ p ∈ l, p ≠ s := by
  induction l generalizing k with
  | nil => exact ⟨fun _ p hp => absurd hp List.not_mem_nil, fun _ => rfl⟩
  | cons p rest ih =>
    rw [findPower, List.forall_mem_cons]
    split
    next heq => exact ⟨fun h => absurd h (Option.some_ne_none _), fun h => absurd heq h.1⟩
    next hne => rw [ih, and_iff_right hne]

/-- The search answers the first position that holds `s`. -/
theorem findPower_eq_some {s : Nat} {l : List Nat} {i : Nat} (k : Nat) (hi : i < l.length) (hval : l[i] = s)
    (hbefore : ∀ (j : Nat) (hj : j < i), l[j] ≠ s) : findPower s l k = some (k + i) := by
  induction l generalizing k i with
  | nil => exact absurd hi (Nat.not_lt_zero i)
  | cons p rest ih =>
    cases i with
    | zero => exact if_pos hval
    | succ i =>
      have hp : p ≠ s := hbefore 0 i.succ_pos
      rw [findPower, if_neg hp, ih (k + 1) (Nat.lt_of_succ_lt_succ hi) hval
        (fun j hj => hbefore (j + 1) (Nat.succ_lt_succ hj)), Nat.add_right_comm, Nat.add_assoc]

theorem findPair_eq_none_iff {s : Nat} {l : List Nat} {k : Nat} :
    findPair s l k = none ↔ l.Pairwise (fun p q => p ^^^ q ≠ s) := by
  induction l generalizing k with
  | nil => exact ⟨fun _ => List.Pairwise.nil, fun _ => rfl⟩
  | cons p rest ih =>
    have hsum (q : Nat) : q ≠ s ^^^ p ↔ p ^^^ q ≠ s := by
      refine not_congr ⟨?_, ?_⟩
      · rintro rfl
        rw [Nat.xor_comm s p, ← Nat.xor_assoc, Nat.xor_self, Nat.zero_xor]
      · rintro rfl
        rw [Nat.xor_comm p q, Nat.xor_assoc, Nat.xor_self, Nat.xor_zero]
    have hnone : findPower (s ^^^ p) rest (k + 1) = none ↔ ∀ q ∈ rest, p ^^^ q ≠ s := by
      simp only [findPower_eq_none_iff, hsum]
    rw [findPair, List.pairwise_cons, ← hnone, ← ih (k := k + 1)]
    split
    next heq => exact ⟨fun h => absurd h (Option.some_ne_none _), fun h => absurd (heq.symm.trans h.1) (Option.some_ne_none _)⟩
    next heq => exact (and_iff_right heq).symm

theorem findPower_kolvosPowers_eq_none {s : Nat} (h : ∀ i < 276, xPow i ≠ s) :
    findPower s (kolvosPowers 276 1) 0 = none := by
  rw [findPower_eq_none_iff, kolvosPowers_one, List.forall_mem_map]
  exact fun i hi => h i (List.mem_range.mp hi)

theorem findPower_xPow {i : Nat} (hi : i < 276) : findPower (xPow i) (kolvosPowers 276 1) 0 = some i := by
  have hlen : i < (kolvosPowers 276 1).length := by rwa [kolvosPowers_length]
  rw [findPower_eq_some 0 hlen (kolvosPowers_getElem hlen), Nat.zero_add]
  intro j hj h
  rw [kolvosPowers_getElem] at h
  exact absurd (xPow_inj (Nat.lt_trans hj hi) hi h) (Nat.ne_of_lt hj)

theorem findPair_kolvosPowers_eq_none_iff {s : Nat} :
    findPair s (kolvosPowers 276 1) 0 = none ↔ ∀ i j, i < j → j < 276 → xPow i ^^^ xPow j ≠ s := by
  simp only [findPair_eq_none_iff, List.pairwise_iff_getElem, kolvosPowers_getElem, kolvosPowers_length]
  exact ⟨fun h i j hij hj => h i j (Nat.lt_trans hij hj) hj hij, fun h i j _ hj hij => h i j hij hj⟩

/-! ## The syndrome is linear -/

theorem turns_eq (n x : Nat) : turns n x = n := by rw [turns, Nat.sub_self, Nat.add_zero]

theorem kolvosCheck_toNat (d : Row) : (kolvosCheck d).toNat = polyRem kolvosPoly 20 (d.toNat * 2 ^ 20) 276 0 := by
  rw [kolvosCheck, turns_eq, BitVec.toNat_ofNat]
  exact Nat.mod_eq_of_lt (polyRem_lt kolvosPoly_testBit kolvosPoly_lt _ _ (by decide))

theorem kolvosCheck_xor (d e : Row) : (kolvosCheck (d ^^^ e)).toNat = (kolvosCheck d).toNat ^^^ (kolvosCheck e).toNat := by
  rw [kolvosCheck_toNat, kolvosCheck_toNat, kolvosCheck_toNat,
    ← polyRem_xor_zero kolvosPoly_testBit kolvosPoly_lt, BitVec.toNat_xor,
    ← Nat.shiftLeft_eq, ← Nat.shiftLeft_eq, ← Nat.shiftLeft_eq, Nat.shiftLeft_xor_distrib]

theorem kolvosSyndrome_xor (w e : CodeWord) : kolvosSyndrome (w ^^^ e) = kolvosSyndrome w ^^^ kolvosSyndrome e := by
  simp only [kolvosSyndrome, cwData, cwCheck, BitVec.extractLsb'_xor, kolvosCheck_xor, BitVec.toNat_xor]
  ac_rfl

theorem cwData_append (c : BitVec 20) (d : Row) : cwData (c ++ d) = d := BitVec.extractLsb'_append_eq_right

theorem cwCheck_append (c : BitVec 20) (d : Row) : cwCheck (c ++ d) = c := BitVec.extractLsb'_append_eq_left

theorem cwData_kolvosEncode (d : Row) : cwData (kolvosEncode d) = d := cwData_append _ d

theorem kolvosCheck_zero : (kolvosCheck 0).toNat = 0 := by
  have hsum := kolvosCheck_xor 0 0
  rwa [Nat.xor_self, BitVec.xor_self] at hsum

theorem kolvosSyndrome_append (c : BitVec 20) (d : Row) :
    kolvosSyndrome (c ++ d) = (kolvosCheck d).toNat ^^^ c.toNat := by
  rw [kolvosSyndrome, cwData_append, cwCheck_append]

theorem kolvosSyndrome_kolvosEncode (d : Row) : kolvosSyndrome (kolvosEncode d) = 0 := by
  rw [kolvosEncode, kolvosSyndrome_append, Nat.xor_self]

theorem poisonCheck_toNat : poisonCheck.toNat = 0x5A6C3 := rfl

theorem cwData_poisonWord : cwData poisonWord = 0 := cwData_append _ _

theorem kolvosSyndrome_poisonWord : kolvosSyndrome poisonWord = 0x5A6C3 := by
  unfold poisonWord
  rw [kolvosSyndrome_append, kolvosCheck_zero, Nat.zero_xor, poisonCheck_toNat]

/-! ## The syndrome of a flipped bit -/

theorem ofNat_two_pow_check (j : Nat) :
    BitVec.ofNat 276 (2 ^ (256 + j)) = BitVec.ofNat 20 (2 ^ j) ++ (0 : Row) := by
  refine BitVec.eq_of_getLsbD_eq fun i hi => ?_
  rw [BitVec.getLsbD_append, BitVec.getLsbD_ofNat, BitVec.getLsbD_ofNat, Nat.testBit_two_pow, Nat.testBit_two_pow,
    Bool.eq_iff_iff]
  by_cases hdata : i < 256
  · simp only [hdata, if_true, Bool.and_eq_true, decide_eq_true_eq, BitVec.ofNat_eq_ofNat,
      BitVec.getLsbD_zero, Bool.false_eq_true, iff_false]
    omega
  · simp only [hdata, if_false, Bool.and_eq_true, decide_eq_true_eq]
    omega

theorem ofNat_two_pow_data {j : Nat} (hj : j < 256) :
    BitVec.ofNat 276 (2 ^ j) = (0 : BitVec 20) ++ BitVec.ofNat 256 (2 ^ j) := by
  refine BitVec.eq_of_getLsbD_eq fun i hi => ?_
  rw [BitVec.getLsbD_append, BitVec.getLsbD_ofNat, BitVec.getLsbD_ofNat, Nat.testBit_two_pow, Bool.eq_iff_iff]
  by_cases hdata : i < 256
  · simp only [hdata, hi, if_true, decide_true, Bool.true_and]
  · simp only [hdata, if_false, Bool.and_eq_true, decide_eq_true_eq, BitVec.ofNat_eq_ofNat,
      BitVec.getLsbD_zero, Bool.false_eq_true, iff_false]
    omega

theorem kolvosCheck_two_pow {j : Nat} (hj : j < 256) : (kolvosCheck (BitVec.ofNat 256 (2 ^ j))).toNat = xPow (j + 20) := by
  rw [kolvosCheck_toNat, BitVec.toNat_ofNat, Nat.mod_eq_of_lt (Nat.pow_lt_pow_right (by decide) hj), ← Nat.pow_add]
  exact polyRem_two_pow (by decide) (by omega)

/-- An error at position `i` adds `xⁱ mod g` to the syndrome (R145). -/
theorem kolvosSyndrome_flipAt (w : CodeWord) {i : Nat} (hi : i < 276) :
    kolvosSyndrome (flipAt w i) = kolvosSyndrome w ^^^ xPow i := by
  rw [flipAt, kolvosSyndrome_xor]
  congr 1
  split
  next hlt =>
    rw [ofNat_two_pow_check, kolvosSyndrome_append, kolvosCheck_zero, xPow_of_lt i hlt, BitVec.toNat_ofNat,
      Nat.mod_eq_of_lt (Nat.pow_lt_pow_right (by decide) hlt), Nat.zero_xor]
  next hge =>
    rw [ofNat_two_pow_data (by omega), kolvosSyndrome_append, kolvosCheck_two_pow (by omega), Nat.sub_add_cancel (by omega)]
    exact Nat.xor_zero _

theorem kolvosSyndrome_one_error (d : Row) {i : Nat} (hi : i < 276) :
    kolvosSyndrome (flipAt (kolvosEncode d) i) = xPow i := by
  rw [kolvosSyndrome_flipAt _ hi, kolvosSyndrome_kolvosEncode, Nat.zero_xor]

theorem kolvosSyndrome_two_errors (d : Row) {i j : Nat} (hi : i < 276) (hj : j < 276) :
    kolvosSyndrome (flipAt (flipAt (kolvosEncode d) i) j) = xPow i ^^^ xPow j := by
  rw [kolvosSyndrome_flipAt _ hj, kolvosSyndrome_one_error d hi]

theorem kolvosSyndrome_three_errors (d : Row) {i j k : Nat} (hi : i < 276) (hj : j < 276) (hk : k < 276) :
    kolvosSyndrome (flipAt (flipAt (flipAt (kolvosEncode d) i) j) k) = xPow i ^^^ xPow j ^^^ xPow k := by
  rw [kolvosSyndrome_flipAt _ hk, kolvosSyndrome_two_errors d hi hj]

theorem flipAt_flipAt_same (w : CodeWord) (i : Nat) : flipAt (flipAt w i) i = w := by
  rw [flipAt, flipAt, BitVec.xor_assoc, BitVec.xor_self, BitVec.xor_zero]

/-! ## P is the syndrome of no error of one, two or three bits (R146) -/

theorem xPow_ne_poisonCheck (i : Nat) : xPow i ≠ 0x5A6C3 := ne_of_apply_ne weightParity (by
  rw [weightParity_xPow, weightParity_poisonCheck]
  decide)

theorem xPow_xor_xPow_xor_xPow_ne_poisonCheck (i j k : Nat) : xPow i ^^^ xPow j ^^^ xPow k ≠ 0x5A6C3 :=
  ne_of_apply_ne weightParity (by
    simp only [weightParity_xor, weightParity_xPow, weightParity_poisonCheck]
    decide)

/-- The choice of P: the decoder's own search finds no pair of positions for it. -/
theorem findPair_poisonCheck : findPair 0x5A6C3 (kolvosPowers 276 1) 0 = none := by decide +kernel

theorem xPow_xor_xPow_ne_poisonCheck {i j : Nat} (hi : i < 276) (hj : j < 276) : xPow i ^^^ xPow j ≠ 0x5A6C3 := by
  have hpair := findPair_kolvosPowers_eq_none_iff.mp findPair_poisonCheck
  obtain hij | rfl | hij := Nat.lt_trichotomy i j
  · exact hpair i j hij hj
  · rw [Nat.xor_self]
    decide
  · rw [Nat.xor_comm]
    exact hpair j i hij hi

theorem ne_poisonWord_of_kolvosSyndrome_ne {w : CodeWord} (h : kolvosSyndrome w ≠ 0x5A6C3) : w ≠ poisonWord := by
  rintro rfl
  exact h kolvosSyndrome_poisonWord

/-! ## The outcomes of a decode (R147) -/

theorem kolvosDecode_of_syndrome_zero {w : CodeWord} (h : kolvosSyndrome w = 0) : kolvosDecode w = .good (cwData w) :=
  if_pos h

theorem kolvosSyndrome_of_kolvosDecode_good {w : CodeWord} {d : Row} (h : kolvosDecode w = .good d) :
    kolvosSyndrome w = 0 := by
  refine Decidable.byContradiction fun hs => ?_
  simp only [kolvosDecode, hs, if_false] at h
  split at h
  · split at h <;> cases h
  · split at h
    · cases h
    · split at h <;> cases h

theorem kolvosDecode_of_syndrome_xPow {w : CodeWord} {i : Nat} (hi : i < 276) (h : kolvosSyndrome w = xPow i) :
    kolvosDecode w = .corrected (cwData (flipAt w i)) 1 := by
  simp only [kolvosDecode, h, poisonCheck_toNat, xPow_ne_poisonCheck, xPow_ne_zero, findPower_xPow hi, if_false]

/-- A syndrome that is neither zero nor P and that no error of one or two bits has. -/
theorem kolvosDecode_eq_uncorrectable {w : CodeWord} (h0 : kolvosSyndrome w ≠ 0) (hP : kolvosSyndrome w ≠ 0x5A6C3)
    (h1 : ∀ i < 276, xPow i ≠ kolvosSyndrome w) (h2 : ∀ i j, i < j → j < 276 → xPow i ^^^ xPow j ≠ kolvosSyndrome w) :
    kolvosDecode w = .uncorrectable := by
  simp only [kolvosDecode, poisonCheck_toNat, h0, hP, findPower_kolvosPowers_eq_none h1,
    findPair_kolvosPowers_eq_none_iff.mpr h2, if_false]

theorem kolvosDecode_kolvosEncode (d : Row) : kolvosDecode (kolvosEncode d) = .good d := by
  rw [kolvosDecode_of_syndrome_zero (kolvosSyndrome_kolvosEncode d), cwData_kolvosEncode]

theorem kolvosDecode_flipAt_kolvosEncode (d : Row) {i : Nat} (hi : i < 276) :
    kolvosDecode (flipAt (kolvosEncode d) i) = .corrected d 1 := by
  rw [kolvosDecode_of_syndrome_xPow hi (kolvosSyndrome_one_error d hi), flipAt_flipAt_same, cwData_kolvosEncode]

theorem kolvosDecode_poisonWord : kolvosDecode poisonWord = .poison := by
  have hne : ¬ 0x5A6C3 = 0 := by decide
  rw [kolvosDecode, kolvosSyndrome_poisonWord, if_neg hne, poisonCheck_toNat, if_pos rfl, if_pos cwData_poisonWord]

/-- One more error in a poisoned word: its syndrome has odd weight, so it is no sum of two powers, and it is no power
because P is no sum of two. -/
theorem kolvosDecode_flipAt_poisonWord {i : Nat} (hi : i < 276) : kolvosDecode (flipAt poisonWord i) = .uncorrectable := by
  have hsyn : kolvosSyndrome (flipAt poisonWord i) = 0x5A6C3 ^^^ xPow i := by
    rw [kolvosSyndrome_flipAt _ hi, kolvosSyndrome_poisonWord]
  have hodd : weightParity (0x5A6C3 ^^^ xPow i) = 1 := by
    rw [weightParity_xor, weightParity_poisonCheck, weightParity_xPow]
    rfl
  have hne {v : Nat} (hv : weightParity v = 0) : 0x5A6C3 ^^^ xPow i ≠ v := ne_of_apply_ne weightParity (by
    rw [hodd, hv]
    decide)
  refine kolvosDecode_eq_uncorrectable ?_ ?_ (fun j hj => ?_) (fun j k _ _ => ?_) <;> rw [hsyn]
  · exact hne weightParity_zero
  · exact hne weightParity_poisonCheck
  · intro h
    exact xPow_xor_xPow_ne_poisonCheck hj hi (by rw [h, Nat.xor_assoc, Nat.xor_self, Nat.xor_zero])
  · refine (hne ?_).symm
    rw [weightParity_xor, weightParity_xPow, weightParity_xPow, Nat.xor_self]

/-! ## The poison word under errors (R146) -/

theorem kolvosSyndrome_flips_ne_poisonCheck (d : Row) {i j : Nat} (hi : i < 276) (hj : j < 276) :
    kolvosSyndrome (flipAt (kolvosEncode d) i) ≠ 0x5A6C3 ∧
      kolvosSyndrome (flipAt (flipAt (kolvosEncode d) i) j) ≠ 0x5A6C3 := by
  rw [kolvosSyndrome_one_error d hi, kolvosSyndrome_two_errors d hi hj]
  exact ⟨xPow_ne_poisonCheck i, xPow_xor_xPow_ne_poisonCheck hi hj⟩

theorem flips_ne_poisonWord (d : Row) {i j k : Nat} (hi : i < 276) (hj : j < 276) (hk : k < 276) :
    flipAt (kolvosEncode d) i ≠ poisonWord ∧ flipAt (flipAt (kolvosEncode d) i) j ≠ poisonWord ∧
      flipAt (flipAt (flipAt (kolvosEncode d) i) j) k ≠ poisonWord := by
  obtain ⟨hone, htwo⟩ := kolvosSyndrome_flips_ne_poisonCheck d hi hj
  refine ⟨ne_poisonWord_of_kolvosSyndrome_ne hone, ne_poisonWord_of_kolvosSyndrome_ne htwo,
    ne_poisonWord_of_kolvosSyndrome_ne ?_⟩
  rw [kolvosSyndrome_three_errors d hi hj hk]
  exact xPow_xor_xPow_xor_xPow_ne_poisonCheck i j k

/-- Settles O59 (R145 to R147): the syndrome of an error is the sum of the powers of its positions, the 276 powers
differ and have odd weight, and P, of even weight, is the sum of no two of them. -/
theorem kolvosOneError : Obligations.KolvosOneError := by
  unfold Obligations.KolvosOneError
  exact ⟨kolvosDecode_kolvosEncode, fun d _ => kolvosDecode_flipAt_kolvosEncode d, cwData_poisonWord,
    cwCheck_append _ _, by decide, fun d _ _ => kolvosSyndrome_flips_ne_poisonCheck d,
    fun d _ _ _ => flips_ne_poisonWord d, kolvosDecode_poisonWord, fun _ => kolvosDecode_flipAt_poisonWord,
    fun _ _ => kolvosSyndrome_of_kolvosDecode_good⟩

end Sys2Proof.Machine

/-! # PROOFS. Malformed wheel entries (R184)

A WHEEL_STAGE either stages its entry or latches ILLEGAL_OP, and then the waiting tokens are served. What remains to be
shown is that serving tokens, which may itself fault, alarm and land rows, leaves the wheels and a latched task fault
alone. `WheelsHeld` says so of one state, and each operation that serves a token or applies staged writes keeps it. -/

namespace Sys2Proof.Machine

open Sys2Proof

/-! ## The wheels and the latched fault of a tile -/

/-- The entries in force at a switch and the entries that wait for the lock. -/
def Switch.wheelTables (w : Switch) : Map Word32 × Map (Option Word32) := (w.wheel, w.staged)

/-- The wheels of tile `t` are `e` and, unless `cause` is zero, its latched task fault (FAULT_CAUSE, 0x0c) is
`cause`. -/
structure WheelsHeld (t : Nat) (e : Map Word32 × Map (Option Word32)) (cause : Nat) (s : State) : Prop where
  tiles : Map.wf s.tiles (fun _ => Tile.init) = true
  tables : (s.tile t).sw.wheelTables = e
  latch : cause ≠ 0 → s.regN t 0x0c = cause

theorem Canonical.wheelsHeld {s : State} (h : Canonical s) (t : Nat) :
    WheelsHeld t ((s.tile t).sw.wheel, (s.tile t).sw.staged) 0 s := ⟨h.tiles, rfl, fun hne => absurd rfl hne⟩

theorem WheelsHeld.wheel {t cause : Nat} {w : Map Word32} {st : Map (Option Word32)} {s : State}
    (h : WheelsHeld t (w, st) cause s) : (s.tile t).sw.wheel = w := congrArg Prod.fst h.tables

theorem WheelsHeld.staged {t cause : Nat} {w : Map Word32} {st : Map (Option Word32)} {s : State}
    (h : WheelsHeld t (w, st) cause s) : (s.tile t).sw.staged = st := congrArg Prod.snd h.tables

theorem bankOff_ne_latch (b off : Nat) : bankOff b off ≠ 0x0c := by unfold bankOff; omega

theorem pailOff_ne_latch (b off : Nat) : pailOff b off ≠ 0x0c := by unfold pailOff; omega

theorem ctxOff_ne_latch (n : Nat) : ctxOff 0x114 n ≠ 0x0c := by unfold ctxOff; omega

section Held

variable {t : Nat} {e : Map Word32 × Map (Option Word32)} {cause : Nat} {s : State}

/-! ## Writes of the state -/

/-- A write of neither tiles nor tile-local registers. -/
theorem WheelsHeld.congr {s' : State} (h : WheelsHeld t e cause s) (htiles : s'.tiles = s.tiles)
    (hregs : s'.tregs = s.tregs) : WheelsHeld t e cause s' := by
  obtain ⟨hwf, htables, hlatch⟩ := h
  refine ⟨htiles ▸ hwf, ?_, fun hne => ?_⟩
  · rw [State.tile, htiles]; exact htables
  · rw [State.regN, State.reg, hregs]; exact hlatch hne

theorem WheelsHeld.setBoot (h : WheelsHeld t e cause s) (b : Boot) : WheelsHeld t e cause { s with boot := b } :=
  h.congr rfl rfl

theorem State.setTile_tables {v : Tile} {e' : Map Word32 × Map (Option Word32)} (h : WheelsHeld t e cause s)
    (hv : v.sw.wheelTables = e') : WheelsHeld t e' cause (s.setTile t v) := by
  refine ⟨Map.wf_put _ _ _ _ _ rfl h.tiles, ?_, h.latch⟩
  rw [State.tile, State.setTile, Map.get_put_same _ (fun _ => Tile.init) _ _ _ h.tiles, hv]

theorem State.setTile_held {v : Tile} (h : WheelsHeld t e cause s) (hv : v.sw.wheelTables = (s.tile t).sw.wheelTables) :
    WheelsHeld t e cause (s.setTile t v) := State.setTile_tables h (hv.trans h.tables)

theorem State.updTile_held {f : Tile → Tile} (h : WheelsHeld t e cause s)
    (hf : (f (s.tile t)).sw.wheelTables = (s.tile t).sw.wheelTables) : WheelsHeld t e cause (s.updTile t f) :=
  State.setTile_held h hf

theorem State.updSw_held {f : Switch → Switch} (h : WheelsHeld t e cause s)
    (hf : (f (s.tile t).sw).wheelTables = (s.tile t).sw.wheelTables) : WheelsHeld t e cause (s.updSw t f) :=
  State.updTile_held h hf

theorem State.stageOver_held {key : Nat} (h : WheelsHeld t e cause s) : WheelsHeld t e cause (s.stageOver t key) :=
  State.updTile_held h rfl

/-- A staged entry waits in its place, instead of one staged there earlier (R189). -/
theorem State.stageEntry_tables {w : Map Word32} {st : Map (Option Word32)} {key : Nat} {x : Word32}
    (h : WheelsHeld t (w, st) cause s) :
    WheelsHeld t (w, Map.put st none key (some x)) cause (s.stageEntry t key x) := by
  rw [← h.wheel, ← h.staged]
  exact State.stageOver_held (State.setTile_tables h rfl)

/-- An entry takes its place in force. -/
theorem State.putWheel_tables {w : Map Word32} {st : Map (Option Word32)} {key : Nat} {x : Word32}
    (h : WheelsHeld t (w, st) cause s) : WheelsHeld t (Map.put w 0 key x, st) cause (s.putWheel t key x) := by
  rw [← h.wheel, ← h.staged]
  exact State.setTile_tables h rfl

theorem State.unstage_tables {w : Map Word32} {st : Map (Option Word32)} (h : WheelsHeld t (w, st) cause s) :
    WheelsHeld t (w, []) cause (s.updSw t fun k => { k with staged := [] }) := by
  rw [← h.wheel]
  exact State.setTile_tables h rfl

theorem State.updBank_held {b : Nat} {f : Bank → Bank} (h : WheelsHeld t e cause s) :
    WheelsHeld t e cause (s.updBank t b f) := State.updTile_held h rfl

theorem State.setReg_held {off : Nat} {v : Word64} (h : WheelsHeld t e cause s) (hoff : off ≠ 0x0c) :
    WheelsHeld t e cause (s.setReg t off v) := by
  refine ⟨h.tiles, h.tables, fun hne => ?_⟩
  have hkey : regKey t 0x0c ≠ regKey t off := by unfold regKey; omega
  rw [State.regN, State.reg_setReg_other s t off t 0x0c v hkey]
  exact h.latch hne

theorem State.setRegN_held {off n : Nat} (h : WheelsHeld t e cause s) (hoff : off ≠ 0x0c) :
    WheelsHeld t e cause (s.setRegN t off n) := State.setReg_held h hoff

theorem State.bumpReg_held {off n top : Nat} (h : WheelsHeld t e cause s) (hoff : off ≠ 0x0c) :
    WheelsHeld t e cause (s.bumpReg t off n top) := State.setRegN_held h hoff

theorem State.countReg_held {off n : Nat} (h : WheelsHeld t e cause s) (hoff : off ≠ 0x0c) :
    WheelsHeld t e cause (s.countReg t off n) := State.setRegN_held h hoff

theorem State.setRegBit_held {off i : Nat} {b : Bool} (h : WheelsHeld t e cause s) (hoff : off ≠ 0x0c) :
    WheelsHeld t e cause (s.setRegBit t off i b) := State.setRegN_held h hoff

theorem State.bumpWin_held {k n : Nat} (h : WheelsHeld t e cause s) : WheelsHeld t e cause (s.bumpWin k n) :=
  h.congr rfl rfl

theorem State.setWord_held {k : Nat} {w : CodeWord} (h : WheelsHeld t e cause s) :
    WheelsHeld t e cause (s.setWord k w) := h.congr rfl rfl

theorem State.setObj_held {i j n : Nat} (h : WheelsHeld t e cause s) : WheelsHeld t e cause (s.setObj i j n) :=
  h.congr rfl rfl

theorem State.bumpObj_held {i j n top : Nat} (h : WheelsHeld t e cause s) :
    WheelsHeld t e cause (s.bumpObj i j n top) := h.congr rfl rfl

theorem State.agentIrq_held {c d : Nat} (h : WheelsHeld t e cause s) : WheelsHeld t e cause (s.agentIrq c d) :=
  h.congr rfl rfl

theorem State.updBasin_held {b : Nat} {f : Basin → Basin} (h : WheelsHeld t e cause s) :
    WheelsHeld t e cause (s.updBasin b f) := h.congr rfl rfl

theorem WheelsHeld.of_snd {α : Type} {x : α × State} {a : α} (hx : x = (a, s)) (h : WheelsHeld t e cause x.2) :
    WheelsHeld t e cause s := by rwa [hx] at h

theorem WheelsHeld.of_thd {α β : Type} {x : α × β × State} {a : α} {b : β} (hx : x = (a, b, s))
    (h : WheelsHeld t e cause x.2.2) : WheelsHeld t e cause s := by rwa [hx] at h

theorem wheelsHeld_ite {c : Prop} [Decidable c] {a b : State} (ha : WheelsHeld t e cause a)
    (hb : WheelsHeld t e cause b) : WheelsHeld t e cause (if c then a else b) := by split <;> assumption

theorem wheelsHeld_snd_ite {α : Type} {c : Prop} [Decidable c] {x y : α} {a b : State} (ha : WheelsHeld t e cause a)
    (hb : WheelsHeld t e cause b) : WheelsHeld t e cause (if c then (x, a) else (y, b)).2 := by split <;> assumption

theorem wheelsHeld_foldl {β : Type} {f : State → β → State}
    (hf : ∀ a x, WheelsHeld t e cause a → WheelsHeld t e cause (f a x)) (l : List β) (h : WheelsHeld t e cause s) :
    WheelsHeld t e cause (l.foldl f s) :=
  List.foldlRecOn l f h fun a ha x _ => hf a x ha

theorem State.setRowWord_held {flat : Nat} {w : CodeWord} (h : WheelsHeld t e cause s) :
    WheelsHeld t e cause (s.setRowWord t flat w) := by
  unfold State.setRowWord
  exact wheelsHeld_foldl (fun _ _ ha => State.setWord_held ha) _ (State.setWord_held h)

/-! ## Alarms and faults -/

theorem State.trace_held {kind hi : Nat} {words : List Nat} (h : WheelsHeld t e cause s) :
    WheelsHeld t e cause (s.trace t kind hi words) := by
  unfold State.trace
  exact wheelsHeld_ite (wheelsHeld_ite (State.setTile_held h rfl)
    (State.bumpReg_held (State.setTile_held h rfl) (by decide))) h

theorem State.raiseAlarm_held {c detail aux : Nat} (h : WheelsHeld t e cause s) :
    WheelsHeld t e cause (s.raiseAlarm t c detail aux) := by
  unfold State.raiseAlarm
  extract_lets _ _ _ _ _ s1 s2
  have h1 : WheelsHeld t e cause s1 :=
    wheelsHeld_ite (State.setTile_held h rfl) (State.bumpWin_held (State.setTile_held h rfl))
  exact wheelsHeld_ite (State.trace_held (State.setRegN_held (State.setRegN_held h1 (by decide)) (by decide))) h1

theorem State.raiseStop_held {b u c : Nat} (h : WheelsHeld t e cause s) :
    WheelsHeld t e cause (s.raiseStop b u c) := by
  unfold State.raiseStop
  extract_lets s1 s2
  have h2 : WheelsHeld t e cause s2 :=
    wheelsHeld_ite (State.setObj_held (State.updBasin_held h)) (State.updBasin_held h)
  exact wheelsHeld_ite h (State.setObj_held (State.setObj_held (State.setObj_held (State.setObj_held h2))))

theorem State.setSummary_held {bit c : Nat} (h : WheelsHeld t e cause s) :
    WheelsHeld t e cause (s.setSummary t bit c) := by
  unfold State.setSummary
  extract_lets s1
  have h1 : WheelsHeld t e cause s1 := State.setRegBit_held (State.setRegBit_held h (by decide)) (by decide)
  split
  · exact State.raiseStop_held h1
  · exact h1

theorem State.tileError_held {bit c detail aux : Nat} (h : WheelsHeld t e cause s) :
    WheelsHeld t e cause (s.tileError t bit c detail aux) := State.raiseAlarm_held (State.setSummary_held h)

/-- What a task fault does beyond its latch. -/
theorem State.faultCounted_held {ctx c : Nat} (h : WheelsHeld t e cause s) :
    WheelsHeld t e cause (((s.bumpReg t 0x28 1 0xFFFF).setRegN t (ctxOff 0x114 ctx) 3).tileError t 1 2 c) :=
  State.tileError_held (State.setRegN_held (State.bumpReg_held h (by decide)) (ctxOff_ne_latch ctx))

/-- A later task fault leaves the latched one (R77). -/
theorem State.taskFault_held {c : Nat} (h : WheelsHeld t e cause s) : WheelsHeld t e cause (s.taskFault t c) := by
  refine State.faultCounted_held ?_
  split
  next hclear =>
    have hzero : cause = 0 := Decidable.byContradiction fun hne => hne ((h.latch hne).symm.trans hclear)
    exact ⟨h.tiles, h.tables, fun hne => absurd hzero hne⟩
  next => exact h

/-- The first task fault is latched (R77). -/
theorem State.taskFault_latches (hc : Canonical s) (hclear : s.regN t 0x0c = 0) {c : Nat} (hlt : c < 2 ^ 64) :
    WheelsHeld t (s.tile t).sw.wheelTables c (s.taskFault t c) := by
  refine State.faultCounted_held ?_
  rw [if_pos hclear]
  refine State.setRegN_held (State.setRegN_held ⟨hc.tiles, rfl, fun _ => ?_⟩ (by decide)) (by decide)
  rw [State.regN, State.setRegN, State.reg_setReg_same s hc, BitVec.toNat_ofNat, Nat.mod_eq_of_lt hlt]

theorem State.noteAlien_held (h : WheelsHeld t e cause s) : WheelsHeld t e cause (s.noteAlien t) := by
  unfold State.noteAlien
  split
  · exact State.updBasin_held h
  · exact h

/-! ## Rows -/

theorem State.errorAt_held {bit c detail aux : Nat} {due : Option Nat} (h : WheelsHeld t e cause s) :
    WheelsHeld t e cause (s.errorAt t bit c detail aux due) := by
  unfold State.errorAt
  split
  · exact State.tileError_held h
  · exact State.updTile_held h rfl

theorem State.countCe_held {b bits : Nat} (h : WheelsHeld t e cause s) : WheelsHeld t e cause (s.countCe t b bits) :=
  State.bumpWin_held (State.setRegN_held h (bankOff_ne_latch b _))

theorem State.decodeRow_held {flat : Nat} {w : CodeWord} {due : Option Nat} {fix : Bool} (h : WheelsHeld t e cause s) :
    WheelsHeld t e cause (s.decodeRow t flat w due fix).2.2 := by
  have h1 : WheelsHeld t e cause (s.countReg t 0x7130 1) := State.countReg_held h (by decide)
  unfold State.decodeRow
  dsimp only
  split
  · exact h1
  · exact wheelsHeld_ite (State.updBank_held (State.countCe_held h1)) (State.countCe_held h1)
  · have h2 := State.bumpReg_held (n := 1) (top := 0xFFFFFFFF) h1 (bankOff_ne_latch (bankOf flat) 0x20)
    dsimp only
    split
    · exact State.bumpWin_held h2
    · exact h2
  · have h2 := State.bumpWin_held (k := objKey 0x2700 4) (n := 1)
      (State.bumpReg_held (n := 1) (top := 0xFFFF) h1 (bankOff_ne_latch (bankOf flat) 0x1c))
    exact State.errorAt_held (wheelsHeld_ite (State.updBank_held (State.setRowWord_held h2)) h2)

theorem State.dropEntry_held {g : GatherEntry} (h : WheelsHeld t e cause s) : WheelsHeld t e cause (s.dropEntry t g) :=
  State.tileError_held (wheelsHeld_ite (State.setRegN_held (State.updBank_held h) (by decide)) (State.updBank_held h))

theorem State.mergePending_held {flat : Nat} {d : Row} {p : Bool} (h : WheelsHeld t e cause s) :
    WheelsHeld t e cause (s.mergePending t flat d p).2 := by
  unfold State.mergePending
  split
  · split
    · exact State.dropEntry_held h
    · exact h
  · exact h

theorem State.foldDigest_held {flat agent : Nat} {d : Row} {tail : List Nat} (h : WheelsHeld t e cause s) :
    WheelsHeld t e cause (s.foldDigest t flat agent d tail) :=
  wheelsHeld_ite (wheelsHeld_ite (State.trace_held (State.updTile_held h rfl)) (State.updTile_held h rfl)) h

theorem State.noteWrite_held {flat agent : Nat} (h : WheelsHeld t e cause s) :
    WheelsHeld t e cause (s.noteWrite t flat agent) := by
  have h1 := State.countReg_held (off := 0x7140) (n := 1) h (by decide)
  exact wheelsHeld_ite (State.updBank_held h1) (State.bumpReg_held (State.updBank_held h1) (pailOff_ne_latch _ _))

theorem State.writeRow_held {flat agent : Nat} {d : Row} {poison : Bool} (h : WheelsHeld t e cause s) :
    WheelsHeld t e cause (s.writeRow t flat d poison agent) := by
  have h1 (w : CodeWord) := State.noteWrite_held (flat := flat) (agent := agent)
    (State.setRowWord_held (flat := flat) (w := w) h)
  exact wheelsHeld_ite (State.foldDigest_held (h1 _)) (h1 _)

theorem State.aliasRow_held {flat agent : Nat} {op : Row} {poison window : Bool} {mask : BitVec 8}
    (h : WheelsHeld t e cause s) : WheelsHeld t e cause (s.aliasRow t flat op poison mask agent window).2.2 := by
  unfold State.aliasRow
  extract_lets mode due
  split
  next d0 p s0 hdec =>
    have h0 : WheelsHeld t e cause s0 := .of_thd hdec (State.decodeRow_held h)
    split
    next d s1 hmerge =>
      have h1 : WheelsHeld t e cause s1 := .of_snd hmerge (State.mergePending_held h0)
      have hnan (nan : Bool) : WheelsHeld t e cause (if nan then s1.setRegBit t 0x2004 7 true else s1) :=
        wheelsHeld_ite (State.setRegBit_held h1 (by decide)) h1
      have h2 (nan : Bool) (w : CodeWord) := State.noteWrite_held (flat := flat) (agent := agent)
        (State.setRowWord_held (flat := flat) (w := w) (hnan nan))
      exact wheelsHeld_ite (State.foldDigest_held (h2 _ _))
        (wheelsHeld_ite (State.foldDigest_held (h2 _ _)) (State.foldDigest_held (h2 _ _)))

theorem State.rejectX_held {flat status issuer : Nat} (h : WheelsHeld t e cause s) :
    WheelsHeld t e cause (s.rejectX t flat status issuer) := by
  unfold State.rejectX
  exact State.setRegN_held (wheelsHeld_ite (State.bumpWin_held (State.bumpReg_held h (bankOff_ne_latch _ _)))
    (State.bumpReg_held h (bankOff_ne_latch _ _))) (bankOff_ne_latch _ _)

theorem State.setTag_held {b loc : Nat} {full : Bool} (h : WheelsHeld t e cause s) :
    WheelsHeld t e cause (s.setTag t b loc full) := by
  unfold State.setTag
  exact State.updBank_held h

theorem State.noteUse_held {b loc kind : Nat} {old : Bank × CodeWord} (h : WheelsHeld t e cause s) :
    WheelsHeld t e cause (s.noteUse t b loc kind old) := State.updBank_held h

theorem State.countBlock_held {b : Nat} {write : Bool} (h : WheelsHeld t e cause s) :
    WheelsHeld t e cause (s.countBlock t b write) := State.setRegN_held h (pailOff_ne_latch b _)

theorem State.landCore_held {flat agent issuer : Nat} {d : Row} {poison loose : Bool} (h : WheelsHeld t e cause s) :
    WheelsHeld t e cause (s.landCore t flat d poison agent issuer loose).2 := by
  unfold State.landCore
  dsimp only
  split
  next => exact State.rejectX_held h
  split
  next => exact State.rejectX_held h
  split
  next =>
    split
    next => exact h
    next => exact State.noteUse_held (State.setTag_held (State.writeRow_held h))
  split
  next => exact State.bumpWin_held (State.bumpReg_held h (bankOff_ne_latch _ _))
  split
  next => exact State.noteUse_held (State.aliasRow_held h)
  next => exact State.noteUse_held (State.writeRow_held h)

theorem State.landRow_held {flat agent issuer : Nat} {d : Row} {poison loose : Bool} (h : WheelsHeld t e cause s) :
    WheelsHeld t e cause (s.landRow t flat d poison agent issuer loose).2 := by
  have hcore := State.landCore_held (flat := flat) (agent := agent) (issuer := issuer) (d := d) (poison := poison)
    (loose := loose) h
  unfold State.landRow
  split
  next s1 heq =>
    rw [heq] at hcore
    exact wheelsHeld_ite (State.noteAlien_held hcore) hcore
  next => exact hcore

/-! ## Serving a token -/

theorem State.recv_held {n : Nat} (h : WheelsHeld t e cause s) : WheelsHeld t e cause (s.recv t n) :=
  State.bumpReg_held h (by decide)

theorem State.fenceDrop_held (h : WheelsHeld t e cause s) : WheelsHeld t e cause (s.fenceDrop t) := by
  have h1 := State.bumpWin_held (k := objKey 0x2622 4) (n := 1)
    (State.bumpReg_held (off := 0x402c) (n := 1) (top := 0xFFFFFFFF) (State.recv_held (n := 1) h) (by decide))
  unfold State.fenceDrop
  dsimp only
  split
  · exact State.bumpWin_held h1
  · exact h1

theorem State.absorbed_held (h : WheelsHeld t e cause s) : WheelsHeld t e cause (s.absorbed t) := by
  unfold State.absorbed
  extract_lets s1
  have h1 : WheelsHeld t e cause s1 := State.bumpReg_held h (by decide)
  exact h1.setBoot _

theorem State.handshake_held {lane off : Nat} (h : WheelsHeld t e cause s) (hoff : off ≠ 0x0c) :
    WheelsHeld t e cause (s.handshake t lane off) :=
  wheelsHeld_ite (State.updSw_held (State.bumpReg_held h hoff) rfl) h

theorem State.sendLane_held {o : Nat} {k : Token} (h : WheelsHeld t e cause s) :
    WheelsHeld t e cause (s.sendLane t o k).2 := by
  unfold State.sendLane
  split
  · exact wheelsHeld_snd_ite (State.absorbed_held (State.recv_held h))
      (State.handshake_held (State.updSw_held h rfl) (by decide))
  · exact State.tileError_held (State.fenceDrop_held h)
  · exact State.tileError_held (State.fenceDrop_held h)

theorem State.sendLanes_held {k : Token} (lanes : List Nat) (h : WheelsHeld t e cause s) :
    WheelsHeld t e cause (s.sendLanes t k lanes).2 := by
  induction lanes generalizing s with
  | nil => exact h
  | cons o rest ih => exact ih (State.sendLane_held h)

theorem State.seamToken_held {i : Nat} {wire : Option Nat} (h : WheelsHeld t e cause s) :
    WheelsHeld t e cause (s.seamToken t i wire) := by
  unfold State.seamToken
  split
  · exact h.congr rfl rfl
  · exact h

theorem State.checkToken_held {lane : Nat} {k : Token} (h : WheelsHeld t e cause s) :
    WheelsHeld t e cause (s.checkToken t lane k).2 := by
  have hbump {a : State} {off key : Nat} (ha : WheelsHeld t e cause a) (hoff : off ≠ 0x0c) :
      WheelsHeld t e cause ((a.bumpReg t off 1).bumpWin key 1) := State.bumpWin_held (State.bumpReg_held ha hoff)
  have h0 (wire : Option Nat) : WheelsHeld t e cause (if k.spare ≠ 0 then
      ((s.seamToken t lane wire).bumpReg t 0x401c 1).bumpWin (objKey 0x2622 5) 1 else s.seamToken t lane wire) :=
    wheelsHeld_ite (hbump (State.seamToken_held h) (by decide)) (State.seamToken_held h)
  unfold State.checkToken
  generalize kolvosDecode k.word = dec
  dsimp only
  cases dec with
  | good d =>
    dsimp only
    cases k.poison
    · exact h0 _
    · exact hbump (h0 _) (by decide)
  | corrected d n =>
    dsimp only
    cases k.poison
    · exact hbump (h0 _) (by decide)
    · exact hbump (hbump (h0 _) (by decide)) (by decide)
  | poison =>
    dsimp only
    cases k.poison
    · exact hbump (h0 _) (by decide)
    · exact h0 _
  | uncorrectable => exact State.tileError_held (hbump (h0 _) (by decide))

theorem State.excess_held (h : WheelsHeld t e cause s) : WheelsHeld t e cause (s.excess t) := State.taskFault_held h

theorem State.landToken_held {flat : Nat} {k : Token} (h : WheelsHeld t e cause s) :
    WheelsHeld t e cause (s.landToken t flat k).2 := by
  unfold State.landToken
  dsimp only
  split
  next => exact State.countBlock_held h
  next st s1 heq =>
    have h1 : WheelsHeld t e cause s1 := .of_snd heq (State.landRow_held h)
    exact wheelsHeld_ite (State.updBank_held h1) (State.recv_held (State.updBank_held h1))

theorem State.landAt_held {flat : Nat} {k : Token} (h : WheelsHeld t e cause s) :
    WheelsHeld t e cause (s.landAt t flat k).2 := by
  have h1 := State.landToken_held (flat := flat) (k := k) h
  unfold State.landAt
  split
  next heq => rwa [heq] at h1
  next heq => rwa [heq] at h1

theorem State.circUse_held {k : Nat} (h : WheelsHeld t e cause s) : WheelsHeld t e cause (s.circUse t k) :=
  State.updSw_held h rfl

theorem State.landSource_held {i : Nat} {k : Token} {op : Option Nat} {ents : List (Nat × Nat)}
    (h : WheelsHeld t e cause s) : WheelsHeld t e cause (s.landSource t i k op ents).2 := by
  unfold State.landSource
  extract_lets rest s0
  have h0 : WheelsHeld t e cause s0 := wheelsHeld_foldl (fun _ _ ha => State.recv_held (State.excess_held ha)) rest h
  split
  · split
    · exact State.landAt_held h0
    · exact State.recv_held h0
  · split
    · exact h0
    next e' _ =>
      have h1 := State.circUse_held (k := weCirc e') h0
      dsimp only
      split
      · exact State.recv_held (State.taskFault_held h1)
      · split
        · exact State.recv_held (State.excess_held h1)
        · exact State.landAt_held h1

theorem State.serveLane_held {i : Nat} (h : WheelsHeld t e cause s) : WheelsHeld t e cause (s.serveLane t i) := by
  unfold State.serveLane
  dsimp only
  split
  next => exact h
  next k _ =>
  split
  next => exact h
  split
  next =>
    have h1 := State.updSw_held (f := fun w => { w with inputs := Map.put w.inputs none i none }) h rfl
    exact State.tileError_held (State.bumpWin_held (State.bumpReg_held
      (wheelsHeld_ite (State.setRegN_held (State.setRegN_held h1 (by decide)) (by decide)) h1) (by decide)))
  split
  next => exact h
  split
  next => exact h
  next =>
    have h1 := State.checkToken_held (lane := i) (k := k) (State.countReg_held (off := 0x7128) (n := 1) h (by decide))
    exact State.updSw_held (State.landSource_held (State.sendLanes_held _
      (wheelsHeld_ite (State.bumpReg_held h1 (by decide)) h1))) rfl

theorem State.serveLanes_held (h : WheelsHeld t e cause s) : WheelsHeld t e cause (s.serveLanes t) := by
  unfold State.serveLanes
  exact wheelsHeld_foldl (fun _ _ ha => State.serveLane_held ha) _ h

/-! ## Applying what waits for the lock -/

theorem State.clampTile_held {off src written applied : Nat} {lock : Option Nat} (h : WheelsHeld t e cause s) :
    WheelsHeld t e cause (s.clampTile t off src written applied lock) := by
  unfold State.clampTile State.logClamp
  extract_lets _ _ old _ s1 s2 _ s3
  have h2 : WheelsHeld t e cause s2 := State.bumpObj_held (State.setObj_held (h.congr rfl rfl))
  have h3 : WheelsHeld t e cause s3 := State.setObj_held h2
  clear_value old
  split
  · exact State.agentIrq_held (wheelsHeld_ite h3 (State.bumpObj_held h3))
  · exact h3

theorem State.aliasClamp_held {b : Nat} (h : WheelsHeld t e cause s) : WheelsHeld t e cause (s.aliasClamp t b) := by
  unfold State.aliasClamp
  exact wheelsHeld_ite (State.setRegN_held (State.clampTile_held h) (bankOff_ne_latch _ _)) h

theorem State.ownerTurn_held {b : Nat} (h : WheelsHeld t e cause s) : WheelsHeld t e cause (s.ownerTurn t b) := by
  unfold State.ownerTurn
  split
  · exact wheelsHeld_ite (State.updBank_held h) h
  · exact h

end Held

/-- A single staged wheel entry takes its place at a lock that applies no batch, and no other does (R189). -/
theorem State.applyStaged_single (s : State) (hc : Canonical s) (t n key : Nat) (v : Word32)
    (hstaged : (s.tile t).sw.staged = [(key, some v)]) :
    WheelsHeld t (Map.put (s.tile t).sw.wheel 0 key v, []) 0 (s.applyStaged t n false) := by
  unfold State.applyStaged
  extract_lets regs wheel s1 s2 s3 s4
  have h1 : WheelsHeld t ((s.tile t).sw.wheel, [(key, some v)]) 0 s1 := by
    refine List.foldlRecOn regs _ ⟨Map.wf_put _ _ _ _ _ rfl hc.tiles, ?_, fun hne => absurd rfl hne⟩
      fun a ha p _ => ?_
    · rw [State.tile_updTile_same s hc, Switch.wheelTables, hstaged]
    · split
      · exact ⟨ha.tiles, ha.tables, fun hne => absurd rfl hne⟩
      · exact ha
  have h2 : WheelsHeld t (Map.put (s.tile t).sw.wheel 0 key v, []) 0 s2 := by
    have hwheel : wheel = [(key, some v)] := hstaged
    unfold s2
    rw [hwheel]
    exact State.putWheel_tables (State.unstage_tables h1)
  have h4 : WheelsHeld t (Map.put (s.tile t).sw.wheel 0 key v, []) 0 s4 :=
    wheelsHeld_foldl (fun _ _ ha => State.updBank_held (State.ownerTurn_held (State.aliasClamp_held ha))) _ h2
  exact State.updTile_held h4 rfl

/-! ## WHEEL_STAGE -/

theorem weMalformed_iff (e : Nat) : weMalformed e = true ↔ bitOf e 31 = true ∧
    (8 < bitsOf e 29 26 ∨ (bitOf e 25 = true ∧ bitsOf e 29 26 = 8) ∨ (bitOf e 30 = false ∧ bitOf e 25 = false) ∨
      (bitsOf e 19 8 = 0 ∧ bitsOf e 29 26 = 8)) := by
  simp only [weMalformed, Bool.and_eq_true, Bool.or_eq_true, Bool.not_eq_true', decide_eq_true_eq, or_assoc]
  exact Iff.rfl

/-- The stored bits of an entry are all but its reserved bits [6:0] (R183). -/
theorem ofNat_weMask (x : Word32) : BitVec.ofNat 32 (weMask x.toNat) = x &&& 0xFFFFFF80#32 := by
  refine BitVec.eq_of_toNat_eq ?_
  have hmask : (0xFFFFFF80#32).toNat = (2 ^ 25 - 1) * 2 ^ 7 := by decide
  have hlt : weMask x.toNat < 2 ^ 32 := by unfold weMask; omega
  rw [BitVec.toNat_ofNat, Nat.mod_eq_of_lt hlt, BitVec.toNat_and, hmask, weMask, show 128 = 2 ^ 7 from rfl]
  refine Nat.eq_of_testBit_eq fun i => ?_
  rw [Nat.testBit_and, Nat.testBit_mul_two_pow, Nat.testBit_mul_two_pow, Nat.testBit_mod_two_pow,
    Nat.testBit_two_pow_sub_one, Nat.testBit_div_two_pow]
  by_cases hi : 7 ≤ i
  · simp only [hi, Nat.sub_add_cancel hi, decide_true, Bool.true_and, Bool.and_comm]
  · simp only [hi, decide_false, Bool.false_and, Bool.and_false]

theorem exec_wheelStage {s : State} {t : TileId} {lane : LaneId} {slot : Fin 64} {r : SReg}
    (hissue : s.issues t 5 [(31, 28, 3), (27, 25, lane.val), (24, 19, slot.val), (18, 14, r.val)]) :
    exec (.wheelStage t lane slot r) s =
      .next (((s.takeSlot t 5).wheelStage t lane slot (s.sreg t r)).serveLanes t) :=
  congrArg Host.Outcome.next (if_pos hissue)

theorem State.takeSlot_canonical {s : State} (hc : Canonical s) (t n : Nat) : Canonical (s.takeSlot t n) :=
  canonical_of hc fun _ _ _ _ _ _ _ _ _ _ _ _ _ _ _ _ _ _ _ _ _ _ _ h => State.takeSlot_good h

theorem State.takeSlot_sw {s : State} (hc : Canonical s) (t n : Nat) : ((s.takeSlot t n).tile t).sw = (s.tile t).sw := by
  rw [State.takeSlot, State.updTil, State.tile_updTile_same s hc]

/-- A malformed entry raises ILLEGAL_OP (R184), which serving the waiting tokens leaves latched. -/
theorem wheelStage_malformed_latch {s : State} (hc : Canonical s) {t lane slot : Nat} {x : Word32}
    (hbad : weMalformed x.toNat = true) (hclear : s.regN t 0x0c = 0) :
    ((s.wheelStage t lane slot x).serveLanes t).regN t 0x0c = 3 := by
  rw [State.wheelStage, if_pos hbad]
  exact (State.serveLanes_held (State.taskFault_latches hc hclear (by decide))).latch (by decide)

/-- A malformed entry is not staged (R184). -/
theorem wheelStage_malformed_staged {s : State} (hc : Canonical s) {t lane slot : Nat} {x : Word32}
    (hbad : weMalformed x.toNat = true) :
    (((s.wheelStage t lane slot x).serveLanes t).tile t).sw.staged = (s.tile t).sw.staged := by
  rw [State.wheelStage, if_pos hbad]
  exact (State.serveLanes_held (State.taskFault_held (hc.wheelsHeld t))).staged

/-- A well-formed entry waits for the lock without its reserved bits (R183, R189). -/
theorem wheelStage_wellFormed {s : State} (hc : Canonical s) {t lane slot : Nat} {x : Word32}
    (hgood : ¬ weMalformed x.toNat = true) :
    (((s.wheelStage t lane slot x).serveLanes t).tile t).sw.staged =
      Map.put (s.tile t).sw.staged none (64 * lane + slot) (some (x &&& 0xFFFFFF80#32)) := by
  rw [State.wheelStage, if_neg hgood, ofNat_weMask]
  exact (State.serveLanes_held (State.stageEntry_tables (hc.wheelsHeld t))).staged

/-! ## A towpath write -/

theorem answersOnly_respond {s : State} (hc : Canonical s) (t status : Nat) (data : List Word32) :
    AnswersOnly s (s.respond t status data) t status data := by
  refine ⟨⟨fun u hu => State.tile_updTile_other s t u _ hu, rfl⟩, ?_⟩
  rw [State.respond, State.tile_updTile_same s hc]
  exact ⟨rfl, rfl, rfl⟩

/-- A tile that absorbs refuses a write as well (R382). -/
theorem ctl0Write_of_refused {s : State} {t : Nat} {f : Nat → State → Nat × State} (hlit : (s.tile t).dark = false)
    (hf : f 3 s = (rspRefused, s)) : s.ctl0Write t none f = s.respond t rspRefused [] := by
  rw [State.ctl0Write, State.towpathAsk, hlit, hf, if_neg Bool.false_ne_true, ite_self]

theorem exec_wheelDataWrite_malformed {s : State} {t : TileId} {val : Word32} (hlit : (s.tile t).dark = false)
    (hbad : weMalformed val.toNat = true) :
    exec (.wheelDataWrite t none val) s = .next (s.respond t rspRefused []) := by
  have hbatch : s.wheelBatch t val.toNat = (rspRefused, s) := if_pos hbad
  have hwrite : s.wheelWrite t val.toNat = (rspRefused, s) := if_pos hbad
  exact congrArg Host.Outcome.next (ctl0Write_of_refused hlit (by simp only [hbatch, hwrite, ite_self]))

/-! ## An entry with V = 0 at the lock -/

theorem applyStaged_entry {s : State} (hc : Canonical s) {t n lane slot : Nat} {v : Word32}
    (hstaged : (s.tile t).sw.staged = [(64 * lane + slot, some v)])
    (hwheel : Map.wf (s.tile t).sw.wheel (fun _ => 0) = true) :
    ((s.applyStaged t n false).tile t).sw.entry lane slot = v.toNat := by
  rw [Switch.entry, (State.applyStaged_single s hc t n _ v hstaged).wheel, Map.get_put_same _ (fun _ => 0) _ _ _ hwheel]

/-- Settles O17 (R184): serving tokens leaves the staged entries and a latched task fault alone, a refused write only
answers, and the lock puts a staged entry, valid or not, in force. -/
theorem malformedWheelEntries : Obligations.MalformedWheelEntries := by
  unfold Obligations.MalformedWheelEntries
  intro s t lane slot r val hc src bad x staged
  have hc' : Canonical (s.takeSlot t 5) := State.takeSlot_canonical hc t 5
  have hbad (y : Word32) : bad y ↔ weMalformed y.toNat = true := (weMalformed_iff y.toNat).symm
  refine ⟨fun hissue => ⟨_, exec_wheelStage hissue, fun hx => ?_, fun hx => ?_⟩, fun hv hlit => ?_,
    fun hv n hst hwf => ?_⟩
  · have hx := (hbad x).mp hx
    refine ⟨?_, fun hclear => wheelStage_malformed_latch hc' hx hclear⟩
    rw [wheelStage_malformed_staged hc' hx, State.takeSlot_sw hc]
  · rw [wheelStage_wellFormed hc' (mt (hbad x).mpr hx), State.takeSlot_sw hc]
  · exact ⟨_, exec_wheelDataWrite_malformed hlit ((hbad val).mp hv), answersOnly_respond hc t _ _⟩
  · rw [weValid, applyStaged_entry hc hst hwf, hv]

end Sys2Proof.Machine

/-! # PROOFS. The coolant ceiling (R357)

A sample shows its three values and then, in one case, sends COOLANT: when the ceiling is below 9,800 W and the window
has sent none. Neither part touches what the other one writes, so the shown values, the notice and the mark of the
window are read off one at a time. -/

namespace Sys2Proof.Machine

open Sys2Proof

/-- What the inlet temperature `tin` (in 0.1 °C) allows, in mW. -/
def coolantByTemp (tin : Int) : Nat := (9800000 - 25000 * (tin - 350)).toNat

/-- What the flow (in mL/min) allows, in mW. -/
def coolantByFlow (flow : Nat) : Nat := 9800000 * flow / 16000

/-- The coolant ceiling, in mW. -/
def coolantLimit (tin : Int) (flow : Nat) : Nat := min 9800000 (min (coolantByTemp tin) (coolantByFlow flow))

/-- The inlet temperature, the flow and the ceiling are shown with the values `tempBits`, `flowBits` and `limitBits`. -/
def State.showCoolant (s : State) (tempBits flowBits limitBits : Nat) : State :=
  ((s.setObj 0x2280 5 tempBits).setObj 0x2280 6 flowBits).setObj 0x2280 7 limitBits

/-- COOLANT is sent, and the window remembers it; `detail` is 1 where the flow sets the ceiling. -/
def State.sendCoolant (s : State) (detail : Nat) : State :=
  { s with power := { s.power with coolant := true } }.agentIrq 0x16F detail

section Reads

variable (s : State) (a b c detail : Nat)

@[simp] theorem State.showCoolant_power : (s.showCoolant a b c).power = s.power := rfl
@[simp] theorem State.showCoolant_irqQ : (s.showCoolant a b c).irqQ = s.irqQ := rfl
@[simp] theorem State.sendCoolant_coolant : (s.sendCoolant detail).power.coolant = true := rfl
@[simp] theorem State.sendCoolant_irqQ :
    (s.sendCoolant detail).irqQ = s.irqQ ++ [⟨0x16F, detail, 0, 0, 16, 2304, 0⟩] := rfl
@[simp] theorem State.sendCoolant_obj (i j : Nat) : (s.sendCoolant detail).obj i j = s.obj i j := rfl

end Reads

/-- The state in which a sample of `tin` and `flow` is shown. That its power and notices are those of `s` is proved for
any three values above: unfolding it with these values would compute them. -/
def State.coolantShown (s : State) (tin : Int) (flow : Nat) : State :=
  s.showCoolant (f32Of tin 10) (f32Of flow 1000) (f32Of (coolantLimit tin flow) 1000)

theorem State.coolantShown_power (s : State) (tin : Int) (flow : Nat) : (s.coolantShown tin flow).power = s.power :=
  State.showCoolant_power s _ _ _

theorem State.coolantShown_irqQ (s : State) (tin : Int) (flow : Nat) : (s.coolantShown tin flow).irqQ = s.irqQ :=
  State.showCoolant_irqQ s _ _ _

/-- The notice is decided on the state before the sample, since showing values leaves the mark of the window alone. -/
theorem exec_coolantSample (s : State) (tin : Int) (flow : Nat) :
    exec (.coolantSample tin flow) s =
      .next (if coolantLimit tin flow < 9800000 ∧ s.power.coolant = false
        then (s.coolantShown tin flow).sendCoolant (b2n (decide (coolantByFlow flow < coolantByTemp tin)))
        else s.coolantShown tin flow) := by
  rw [← s.coolantShown_power tin flow]
  rfl

theorem State.setObj_canonical {s : State} (hc : Canonical s) (i j n : Nat) : Canonical (s.setObj i j n) :=
  canonical_of hc fun _ _ _ _ _ _ _ _ _ _ _ _ _ _ _ _ _ _ _ _ _ _ _ h => State.setObj_good h

/-- The three entries have keys of their own, so each keeps its value through the later stores. -/
theorem State.showCoolant_obj {s : State} (hc : Canonical s) (a b c : Nat) :
    (s.showCoolant a b c).obj 0x2280 5 = a % 2 ^ 64 ∧ (s.showCoolant a b c).obj 0x2280 6 = b % 2 ^ 64 ∧
      (s.showCoolant a b c).obj 0x2280 7 = c % 2 ^ 64 := by
  have hc5 := State.setObj_canonical hc 0x2280 5 a
  have hc6 := State.setObj_canonical hc5 0x2280 6 b
  unfold State.showCoolant
  refine ⟨?_, ?_, State.obj_setObj_same _ hc6 _ _ _⟩
  · rw [State.obj_setObj_other _ _ _ _ _ _ (by decide), State.obj_setObj_other _ _ _ _ _ _ (by decide),
      State.obj_setObj_same s hc]
  · rw [State.obj_setObj_other _ _ _ _ _ _ (by decide), State.obj_setObj_same _ hc5]

theorem State.coolantShown_obj {s : State} (hc : Canonical s) (tin : Int) (flow : Nat) :
    (s.coolantShown tin flow).obj 0x2280 5 = f32Of tin 10 % 2 ^ 64 ∧
      (s.coolantShown tin flow).obj 0x2280 6 = f32Of flow 1000 % 2 ^ 64 ∧
      (s.coolantShown tin flow).obj 0x2280 7 = f32Of (coolantLimit tin flow) 1000 % 2 ^ 64 :=
  State.showCoolant_obj hc _ _ _

/-- A window that begins may send COOLANT again. -/
theorem State.windowEnd_coolant (s : State) (m : List (BitVec 16 × BitVec 8 × Word64)) (seams : List (Fin 8 × BitVec 8)) :
    (s.windowEnd m seams).power.coolant = false := rfl

/-- Settles O46 (R357): by cases on whether the sample sends COOLANT. -/
theorem coolantCeiling : Obligations.CoolantCeiling := by
  unfold Obligations.CoolantCeiling
  intro s tin flow hc byT byQ ceiling
  refine ⟨?_, fun m seams => ⟨_, rfl, s.windowEnd_coolant m seams⟩⟩
  obtain ⟨htemp, hflow, hlimit⟩ := State.coolantShown_obj hc tin flow
  rw [exec_coolantSample]
  by_cases hsend : coolantLimit tin flow < 9800000 ∧ s.power.coolant = false
  case pos =>
    obtain ⟨hlow, hfirst⟩ := hsend
    rw [if_pos ⟨hlow, hfirst⟩]
    refine ⟨_, rfl, (State.sendCoolant_obj ..).trans htemp, (State.sendCoolant_obj ..).trans hflow,
      (State.sendCoolant_obj ..).trans hlimit, ?_, fun hquiet => ?_, fun _ _ => ?_⟩
    · have hmark : decide (ceiling < 9800000) = true := decide_eq_true hlow
      rw [State.sendCoolant_coolant, hmark, Bool.or_true]
    · cases hquiet with
      | inl hfull => exact absurd hfull (Nat.ne_of_lt hlow)
      | inr hdone => exact absurd (hfirst.symm.trans hdone) Bool.false_ne_true
    · rw [State.sendCoolant_irqQ, State.coolantShown_irqQ]
      rfl
  case neg =>
    rw [if_neg hsend]
    refine ⟨_, rfl, htemp, hflow, hlimit, ?_, fun _ => s.coolantShown_irqQ tin flow,
      fun hlow hfirst => absurd ⟨hlow, hfirst⟩ hsend⟩
    rw [State.coolantShown_power]
    cases hdone : s.power.coolant with
    | true => rfl
    | false => exact (decide_eq_false fun hlow => hsend ⟨hlow, hdone⟩).symm

end Sys2Proof.Machine

/-! # PROOFS. Two and three errors of the Kolvos code (R145, R146)

Multiplication by `x` carries a sum of four powers to the sum of the next four, so that no four powers of the 276
positions sum to zero as soon as none is the sum of 1 and two others. Two errors then have a syndrome of their own, and
three have one, of odd weight, that no error of at most two positions has. -/

namespace Sys2Proof.Machine

open Sys2Proof

/-! ## No four powers sum to zero -/

/-- The residues modulo `2¹⁴` of a list of words, as the set bits of one number. -/
def residueSet (l : List Nat) : Nat := l.foldl (fun m p => m ||| 2 ^ (p % 16384)) 0

/-- No word of `l` is the sum of 1, `p` and a word of `qs`; the residues rule most sums out before `l` is searched. -/
def sumsAvoid (l : List Nat) (p : Nat) (qs : List Nat) : Bool :=
  qs.all (fun q => !((residueSet l).testBit ((1 ^^^ p ^^^ q) % 16384) && l.contains (1 ^^^ p ^^^ q)))

/-- No word of `l` is the sum of 1 and two words of the given list. -/
def pairSumsAvoid (l : List Nat) : List Nat → Bool
  | [] => true
  | p :: qs => sumsAvoid l p qs && pairSumsAvoid l qs

theorem foldl_residue_testBit {l : List Nat} {m i : Nat} :
    (l.foldl (fun m p => m ||| 2 ^ (p % 16384)) m).testBit i = true ↔ m.testBit i = true ∨ ∃ p ∈ l, p % 16384 = i := by
  induction l generalizing m with
  | nil => simp
  | cons p rest ih => simp [ih, Nat.testBit_or, Nat.testBit_two_pow, or_assoc]

theorem residueSet_testBit {l : List Nat} {p : Nat} (hp : p ∈ l) : (residueSet l).testBit (p % 16384) = true :=
  foldl_residue_testBit.mpr (.inr ⟨p, hp, rfl⟩)

theorem sumsAvoid_iff {l qs : List Nat} {p : Nat} : sumsAvoid l p qs = true ↔ ∀ q ∈ qs, 1 ^^^ p ^^^ q ∉ l := by
  simp only [sumsAvoid, List.all_eq_true, Bool.not_eq_true', Bool.and_eq_false_iff, List.contains_eq_mem,
    decide_eq_false_iff_not]
  refine forall₂_congr fun q _ => ⟨fun h hmem => ?_, .inr⟩
  cases h with
  | inl hres => exact absurd (residueSet_testBit hmem) (by rw [hres]; decide)
  | inr hout => exact hout hmem

theorem pairSumsAvoid_iff {l ps : List Nat} :
    pairSumsAvoid l ps = true ↔ ps.Pairwise (fun p q => 1 ^^^ p ^^^ q ∉ l) := by
  induction ps with
  | nil => exact ⟨fun _ => .nil, fun _ => rfl⟩
  | cons p qs ih => rw [pairSumsAvoid, Bool.and_eq_true, sumsAvoid_iff, ih, List.pairwise_cons]

/-- The choice of `g`: none of the 276 powers is the sum of the first and two others. -/
theorem pairSumsAvoid_kolvosPowers : pairSumsAvoid (kolvosPowers 276 1) (kolvosPowers 276 1).tail = true := by
  decide +kernel

theorem xPow_mem_kolvosPowers {c : Nat} (hc : c < 276) : xPow c ∈ kolvosPowers 276 1 := by
  rw [kolvosPowers_one]
  exact List.mem_map_of_mem (List.mem_range.mpr hc)

theorem one_xor_xPow_xor_xPow_ne_xPow {a b c : Nat} (hab : a < b) (hb : b + 1 < 276) (hc : c < 276) :
    1 ^^^ xPow (a + 1) ^^^ xPow (b + 1) ≠ xPow c := by
  have hpairs := pairSumsAvoid_iff.mp pairSumsAvoid_kolvosPowers
  simp only [List.pairwise_iff_getElem, List.getElem_tail, kolvosPowers_getElem, List.length_tail,
    kolvosPowers_length] at hpairs
  exact fun h => hpairs a b (by omega) (by omega) hab (h ▸ xPow_mem_kolvosPowers hc)

/-- The sum of four powers of `x`. -/
def xPowSum (i j k l : Nat) : Nat := xPow i ^^^ xPow j ^^^ (xPow k ^^^ xPow l)

/-- Multiplication by `x` carries a sum to the sum of the next powers. -/
theorem xPowSum_succ (i j k l : Nat) :
    xPowSum (i + 1) (j + 1) (k + 1) (l + 1) = polyStep kolvosPoly 20 false (xPowSum i j k l) := by
  have hsum {a b : Nat} (ha : a < 2 ^ 20) (hb : b < 2 ^ 20) :
      polyStep kolvosPoly 20 false (a ^^^ b) = polyStep kolvosPoly 20 false a ^^^ polyStep kolvosPoly 20 false b :=
    polyStep_xor false false ha hb
  rw [xPowSum, xPowSum, xPow_succ, xPow_succ, xPow_succ, xPow_succ, hsum (Nat.xor_lt_two_pow (xPow_lt i) (xPow_lt j))
    (Nat.xor_lt_two_pow (xPow_lt k) (xPow_lt l)), hsum (xPow_lt i) (xPow_lt j), hsum (xPow_lt k) (xPow_lt l)]

theorem xor_left_cancel {a b c : Nat} (h : a ^^^ b = a ^^^ c) : b = c := by
  have hxor := congrArg (a ^^^ ·) h
  simpa only [← Nat.xor_assoc, Nat.xor_self, Nat.zero_xor] using hxor

theorem xor_eq_zero_iff_eq {a b : Nat} : a ^^^ b = 0 ↔ a = b :=
  ⟨fun h => (xor_left_cancel (h.trans (Nat.xor_self a).symm)).symm, fun h => h ▸ Nat.xor_self a⟩

/-- The code's distance is above four: no four powers sum to zero. -/
theorem xPowSum_ne_zero {i j k l : Nat} (hij : i < j) (hjk : j < k) (hk : k < 276) (hil : i < l) (hl : l < 276) :
    xPowSum i j k l ≠ 0 := by
  induction i generalizing j k l with
  | zero =>
    obtain ⟨j, rfl⟩ := Nat.exists_eq_succ_of_ne_zero (Nat.ne_of_gt hij)
    obtain ⟨k, rfl⟩ := Nat.exists_eq_succ_of_ne_zero (Nat.ne_of_gt (Nat.lt_trans hij hjk))
    rw [xPowSum, ← Nat.xor_assoc, Ne, xor_eq_zero_iff_eq]
    exact one_xor_xPow_xor_xPow_ne_xPow (Nat.lt_of_succ_lt_succ hjk) hk hl
  | succ i ih =>
    obtain ⟨j, rfl⟩ := Nat.exists_eq_succ_of_ne_zero (Nat.ne_of_gt (Nat.lt_trans i.succ_pos hij))
    obtain ⟨k, rfl⟩ := Nat.exists_eq_succ_of_ne_zero (Nat.ne_of_gt (Nat.lt_trans i.succ_pos (Nat.lt_trans hij hjk)))
    obtain ⟨l, rfl⟩ := Nat.exists_eq_succ_of_ne_zero (Nat.ne_of_gt (Nat.lt_trans i.succ_pos hil))
    rw [xPowSum_succ]
    intro h
    exact ih (by omega) (by omega) (by omega) (by omega) (by omega)
      (polyStep_false_inj (h.trans polyStep_false_zero.symm))

/-- A sum of two powers from position `i` on is no sum of two powers above it. -/
theorem xPow_xor_xPow_ne_of_lt {i j k l : Nat} (hij : i < j) (hj : j < 276) (hik : i < k) (hkl : k < l) (hl : l < 276) :
    xPow i ^^^ xPow j ≠ xPow k ^^^ xPow l := by
  have hswap : xPowSum i k l j = xPow i ^^^ xPow j ^^^ (xPow k ^^^ xPow l) := by
    unfold xPowSum
    ac_rfl
  rw [Ne, ← xor_eq_zero_iff_eq, ← hswap]
  exact xPowSum_ne_zero hik hkl hl hij hj

/-- Two positions are told from their sum. -/
theorem xPow_xor_xPow_inj {i j k l : Nat} (hij : i < j) (hj : j < 276) (hkl : k < l) (hl : l < 276)
    (h : xPow i ^^^ xPow j = xPow k ^^^ xPow l) : i = k ∧ j = l := by
  obtain hik | rfl | hki := Nat.lt_trichotomy i k
  · exact absurd h (xPow_xor_xPow_ne_of_lt hij hj hik hkl hl)
  · exact ⟨rfl, xPow_inj hj hl (xor_left_cancel h)⟩
  · exact absurd h.symm (xPow_xor_xPow_ne_of_lt hkl hl hki hij hj)

theorem xPow_xor_xPow_xor_xPow_ne_xPow {i j k l : Nat} (hij : i < j) (hjk : j < k) (hk : k < 276) (hl : l < 276) :
    xPow l ≠ xPow i ^^^ xPow j ^^^ xPow k := by
  intro h
  have hpair : xPow j ^^^ xPow k = xPow i ^^^ xPow l := by
    rw [h, ← Nat.xor_assoc, ← Nat.xor_assoc, Nat.xor_self, Nat.zero_xor]
  obtain hil | rfl | hli := Nat.lt_trichotomy i l
  · exact xPow_xor_xPow_ne_of_lt hil hl hij hjk hk hpair.symm
  · rw [Nat.xor_self, xor_eq_zero_iff_eq] at hpair
    exact Nat.ne_of_lt hjk (xPow_inj (Nat.lt_trans hjk hk) hk hpair)
  · rw [Nat.xor_comm (xPow i)] at hpair
    exact xPow_xor_xPow_ne_of_lt hli (Nat.lt_trans hij (Nat.lt_trans hjk hk)) (Nat.lt_trans hli hij) hjk hk hpair.symm

/-! ## What the decoder finds -/

theorem findPower_sound {s : Nat} {l : List Nat} {k b : Nat} (h : findPower s l k = some b) :
    ∃ j, ∃ hj : j < l.length, b = k + j ∧ l[j] = s := by
  induction l generalizing k with
  | nil => cases h
  | cons p rest ih =>
    rw [findPower] at h
    split at h
    next hval => exact ⟨0, Nat.succ_pos _, (Option.some.inj h).symm, hval⟩
    next =>
      obtain ⟨j, hj, hb, hval⟩ := ih h
      exact ⟨j + 1, Nat.succ_lt_succ hj, by omega, hval⟩

theorem findPair_sound {s : Nat} {l : List Nat} {k a b : Nat} (h : findPair s l k = some (a, b)) :
    ∃ i j, ∃ (hij : i < j) (hj : j < l.length), a = k + i ∧ b = k + j ∧ l[i] ^^^ l[j] = s := by
  induction l generalizing k with
  | nil => cases h
  | cons p rest ih =>
    rw [findPair] at h
    split at h
    next c hpower =>
      obtain ⟨rfl, rfl⟩ : k = a ∧ c = b := by simpa using h
      obtain ⟨j, hj, hb, hval⟩ := findPower_sound hpower
      refine ⟨0, j + 1, j.succ_pos, Nat.succ_lt_succ hj, rfl, by omega, ?_⟩
      rw [List.getElem_cons_succ, hval, List.getElem_cons_zero, Nat.xor_comm, Nat.xor_assoc, Nat.xor_self, Nat.xor_zero]
    next =>
      obtain ⟨i, j, hij, hj, ha, hb, hsum⟩ := ih h
      exact ⟨i + 1, j + 1, Nat.succ_lt_succ hij, Nat.succ_lt_succ hj, by omega, by omega, hsum⟩

theorem findPair_xPow_xor_xPow {i j : Nat} (hij : i < j) (hj : j < 276) :
    findPair (xPow i ^^^ xPow j) (kolvosPowers 276 1) 0 = some (i, j) := by
  cases hfind : findPair (xPow i ^^^ xPow j) (kolvosPowers 276 1) 0 with
  | none => exact absurd rfl (findPair_kolvosPowers_eq_none_iff.mp hfind i j hij hj)
  | some p =>
    obtain ⟨a, b, hab, hb, hpa, hpb, hsum⟩ := findPair_sound hfind
    rw [kolvosPowers_getElem, kolvosPowers_getElem] at hsum
    rw [kolvosPowers_length] at hb
    obtain ⟨rfl, rfl⟩ := xPow_xor_xPow_inj hab hb hij hj hsum
    rw [Nat.zero_add] at hpa hpb
    exact congrArg some (Prod.ext hpa hpb)

theorem weightParity_xPow_xor_xPow (i j : Nat) : weightParity (xPow i ^^^ xPow j) = 0 := by
  rw [weightParity_xor, weightParity_xPow, weightParity_xPow, Nat.xor_self]

theorem weightParity_xPow_xor_xPow_xor_xPow (i j k : Nat) : weightParity (xPow i ^^^ xPow j ^^^ xPow k) = 1 := by
  rw [weightParity_xor, weightParity_xPow_xor_xPow, weightParity_xPow, Nat.zero_xor]

theorem ne_of_weightParity {v w : Nat} (hv : weightParity v = 0) (hw : weightParity w = 1) : v ≠ w :=
  ne_of_apply_ne weightParity (by rw [hv, hw]; decide)

theorem kolvosDecode_of_syndrome_two {w : CodeWord} {i j : Nat} (hij : i < j) (hj : j < 276)
    (h : kolvosSyndrome w = xPow i ^^^ xPow j) :
    kolvosDecode w = .corrected (cwData (flipAt (flipAt w i) j)) 2 := by
  have h0 : xPow i ^^^ xPow j ≠ 0 := fun e => Nat.ne_of_lt hij (xPow_inj (Nat.lt_trans hij hj) hj (xor_eq_zero_iff_eq.mp e))
  have hpower := findPower_kolvosPowers_eq_none (s := xPow i ^^^ xPow j)
    (fun k _ => (ne_of_weightParity (weightParity_xPow_xor_xPow i j) (weightParity_xPow k)).symm)
  simp only [kolvosDecode, h, poisonCheck_toNat, xPow_xor_xPow_ne_poisonCheck (Nat.lt_trans hij hj) hj, h0, hpower,
    findPair_xPow_xor_xPow hij hj, if_false]

theorem flipAt_comm (w : CodeWord) (i j : Nat) : flipAt (flipAt w i) j = flipAt (flipAt w j) i := by
  unfold flipAt
  ac_rfl

theorem kolvosDecode_flipAt_flipAt_kolvosEncode (d : Row) {i j : Nat} (hij : i < j) (hj : j < 276) :
    kolvosDecode (flipAt (flipAt (kolvosEncode d) i) j) = .corrected d 2 := by
  rw [kolvosDecode_of_syndrome_two hij hj (kolvosSyndrome_two_errors d (Nat.lt_trans hij hj) hj), flipAt_comm _ j i,
    flipAt_flipAt_same, flipAt_flipAt_same, cwData_kolvosEncode]

/-- Three errors: the syndrome has odd weight, so it is neither zero nor P nor a sum of two powers, and it is no power
because no four powers sum to zero. -/
theorem kolvosDecode_three_errors (d : Row) {i j k : Nat} (hij : i < j) (hjk : j < k) (hk : k < 276) :
    kolvosDecode (flipAt (flipAt (flipAt (kolvosEncode d) i) j) k) = .uncorrectable := by
  have hodd := weightParity_xPow_xor_xPow_xor_xPow i j k
  refine kolvosDecode_eq_uncorrectable ?_ ?_ (fun l hl => ?_) (fun a b _ _ => ?_) <;>
    rw [kolvosSyndrome_three_errors d (Nat.lt_trans hij (Nat.lt_trans hjk hk)) (Nat.lt_trans hjk hk) hk]
  · exact (ne_of_weightParity weightParity_zero hodd).symm
  · exact xPow_xor_xPow_xor_xPow_ne_poisonCheck i j k
  · exact xPow_xor_xPow_xor_xPow_ne_xPow hij hjk hk hl
  · exact ne_of_weightParity (weightParity_xPow_xor_xPow a b) hodd

/-- Settles O60 (R145, R146): no four powers of the positions sum to zero, so that two errors are told from their
syndrome and three errors have one that no correction explains. -/
theorem kolvosTwoAndThreeErrors : Obligations.KolvosTwoAndThreeErrors := by
  unfold Obligations.KolvosTwoAndThreeErrors
  exact ⟨fun d _ _ => kolvosDecode_flipAt_flipAt_kolvosEncode d, fun d _ _ _ => kolvosDecode_three_errors d⟩

end Sys2Proof.Machine

/-! # PROOFS. The canonical form, the answer and the frame of every command

The laws of the operations give, of each command, that its next state is good under any watch that leaves out the parts
it writes. `leaves` names exactly such a watch, so that one case split over the commands gives the invariant, the frame
and the queue together. -/

namespace Sys2Proof.Machine
open Sys2Proof

/-- The outcome is a next state. -/
def IsNext (o : Host.Outcome State Fault Refusal) : Prop := ∃ s', o = .next s'

theorem isNext_next {s : State} : IsNext (.next s) := ⟨s, rfl⟩

theorem isNext_ite {c : Prop} [Decidable c] {a b : Host.Outcome State Fault Refusal} (ha : IsNext a) (hb : IsNext b) :
    IsNext (if c then a else b) := by
  split <;> assumption

/-! The commands whose outcome is chosen by a match. -/

theorem execShadowComplete_isNext (t : TileId) (s : State) : IsNext (execShadowComplete t s) := by
  unfold execShadowComplete
  split
  · exact isNext_ite isNext_next isNext_next
  · exact isNext_next

theorem execArrayOutput_isNext (t : TileId) (s : State) : IsNext (execArrayOutput t s) := by
  unfold execArrayOutput
  split
  · exact isNext_ite isNext_next isNext_next
  · exact isNext_next

theorem execChecksumCompare_isNext (t : TileId) (delta : Int) (s : State) : IsNext (execChecksumCompare t delta s) := by
  unfold execChecksumCompare
  split
  · exact isNext_ite isNext_next isNext_next
  · exact isNext_next

theorem execAlarm_isNext (src : Option TileId) (hop : TpHop) (s : State) : IsNext (execAlarm src hop s) := by
  refine isNext_ite isNext_next ?_
  cases src with
  | some t =>
    dsimp only
    split <;> exact isNext_next
  | none =>
    dsimp only
    split <;> exact isNext_next

theorem execIrq_isNext (src : Option TileId) (hop : TpHop) (s : State) : IsNext (execIrq src hop s) := by
  refine isNext_ite isNext_next ?_
  cases src with
  | some t =>
    dsimp only
    split <;> exact isNext_next
  | none =>
    dsimp only
    split <;> exact isNext_next

theorem execCfgWr_isNext (d : BitVec 12) (w : Word32) (data : List Word32) (hop : TpHop) (s : State) :
    IsNext (execCfgWr d w data hop s) := by
  refine isNext_ite isNext_next ?_
  split <;> exact isNext_next

theorem execCfgRd_isNext (d : BitVec 12) (w : Word32) (hop : TpHop) (s : State) : IsNext (execCfgRd d w hop s) := by
  refine isNext_ite isNext_next ?_
  split <;> exact isNext_next

theorem execTrace_isNext (t : TileId) (hop : TpHop) (s : State) : IsNext (execTrace t hop s) := by
  unfold execTrace
  dsimp only
  split
  · exact isNext_next
  · exact isNext_ite isNext_next (isNext_ite isNext_next isNext_next)

theorem execStopArrive_isNext (d : StopDest) (s : State) : IsNext (execStopArrive d s) := by
  cases d with
  | tile t =>
    unfold execStopArrive
    dsimp only
    split
    · exact isNext_ite isNext_next isNext_next
    · exact isNext_next
  | port p b => exact isNext_ite isNext_next isNext_next
  | host b => exact isNext_ite isNext_next isNext_next

theorem execCorrectionWriteback_isNext (t : TileId) (b : BankId) (s : State) :
    IsNext (execCorrectionWriteback t b s) := by
  unfold execCorrectionWriteback
  dsimp only
  split
  · exact isNext_next
  · exact isNext_ite isNext_next isNext_next

theorem execGatherFlush_isNext (t : TileId) (b : BankId) (bad : Bool) (s : State) :
    IsNext (execGatherFlush t b bad s) := by
  refine isNext_ite isNext_next ?_
  split
  · exact isNext_next
  · exact isNext_ite isNext_next isNext_next

theorem execQualifyEnd_isNext (p : PortId) (tx rx : BitVec 8) (ok : Bool) (s : State) :
    IsNext (execQualifyEnd p tx rx ok s) := by
  refine isNext_ite isNext_next ?_
  split
  · exact isNext_ite isNext_next isNext_next
  · exact isNext_ite isNext_next isNext_next

theorem execLaneDrop_isNext (p : PortId) (lane : Fin 8) (s : State) : IsNext (execLaneDrop p lane s) := by
  refine isNext_ite isNext_next ?_
  split <;> exact isNext_next

/-- Every command answers a next state: its meaning is one, chosen by tests and matches alone. -/
theorem exec_isNext (c : Instr) (s : State) : IsNext (exec c s) := by
  cases c with
  | ackSend | ackTimeout | coalTimeout | laneTrainTimeout | linkRefLost | linkRefReturn | illegalBundle | batchSeal
  | powerGood => exact isNext_ite isNext_next isNext_next
  | barUp | barDone | lockUp | lockResult | bankDrained | wakeComplete =>
    exact isNext_ite (isNext_ite isNext_next isNext_next) isNext_next
  | cfgRsp | missingUp => exact isNext_ite isNext_next (isNext_ite isNext_next isNext_next)
  | patrolScrub | narrowWrite =>
    exact isNext_ite isNext_next (isNext_ite isNext_next (isNext_ite isNext_next isNext_next))
  | ctrlRepeat =>
    exact isNext_ite isNext_next (isNext_ite isNext_next (isNext_ite isNext_next (isNext_ite isNext_next isNext_next)))
  | retrainEnd => 
    exact isNext_ite isNext_next (isNext_ite (isNext_ite isNext_next (isNext_ite isNext_next isNext_next))
      (isNext_ite isNext_next isNext_next))
  | shadowComplete => exact execShadowComplete_isNext ..
  | arrayOutput => exact execArrayOutput_isNext ..
  | checksumCompare => exact execChecksumCompare_isNext ..
  | alarm => exact execAlarm_isNext ..
  | irq => exact execIrq_isNext ..
  | cfgWr => exact execCfgWr_isNext ..
  | cfgRd => exact execCfgRd_isNext ..
  | trace => exact execTrace_isNext ..
  | stopArrive => exact execStopArrive_isNext ..
  | correctionWriteback => exact execCorrectionWriteback_isNext ..
  | gatherFlush => exact execGatherFlush_isNext ..
  | qualifyEnd => exact execQualifyEnd_isNext ..
  | laneDrop => exact execLaneDrop_isNext ..
  | _ => exact isNext_next

/-- A command keeps the queue, the canonical form and what `leaves` names of it. -/
theorem exec_good {z : Watch} {s : State} (c : Instr) (hz : z.parts = leaves c) (h : Good z s) : GoodOut z (exec c s) := by
  obtain ⟨queue, base, parts⟩ := z
  obtain rfl : parts = leaves c := hz
  have hout : Unwatched false := ⟨rfl⟩
  cases c with (dsimp only [leaves] at h ⊢)
  | pacePulse => exact execPacePulse_good h
  | beatComplete => exact execBeatComplete_good h
  | illegalBundle => exact execIllegalBundle_good h
  | nop => exact execNop_good h
  | br => exact execBr_good h
  | brz => exact execBrz_good h
  | brnz => exact execBrnz_good h
  | call => exact execCall_good h
  | ret => exact execRet_good h
  | loop => exact execLoop_good h
  | task => exact execTask_good h
  | bar => exact execBar_good h
  | barw => exact execBarw_good h
  | epochEnd => exact execEpochEnd_good h
  | addi => exact execAddi_good h
  | andi => exact execAndi_good h
  | ori => exact execOri_good h
  | xori => exact execXori_good h
  | shli => exact execShli_good h
  | shri => exact execShri_good h
  | lui => exact execLui_good h
  | add => exact execAdd_good h
  | sub => exact execSub_good h
  | andS => exact execAndS_good h
  | orS => exact execOrS_good h
  | xorS => exact execXorS_good h
  | sltu => exact execSltu_good h
  | lrr => exact execLrr_good h
  | lrw => exact execLrw_good h
  | bankRead => exact execBankRead_good h
  | bankWrite => exact execBankWrite_good h
  | bankAlias => exact execBankAlias_good h
  | bankZero => exact execBankZero_good h
  | inject => exact execInject_good h
  | land => exact execLand_good h
  | wheelStage => exact execWheelStage_good h
  | streamWs => exact execStreamWs_good h
  | streamAs => exact execStreamAs_good h
  | streamConv => exact execStreamConv_good h
  | shadowLoad => exact execShadowLoad_good h
  | swap => exact execSwap_good h
  | clear => exact execClear_good h
  | shadowComplete => exact execShadowComplete_good h
  | arrayOutput => exact execArrayOutput_good h
  | checksumCompare => exact execChecksumCompare_good h
  | vecMov => exact execVecMov_good h
  | vecAnd => exact execVecAnd_good h
  | vecOr => exact execVecOr_good h
  | vecXor => exact execVecXor_good h
  | vecNot => exact execVecNot_good h
  | vecBcast => exact execVecBcast_good h
  | vecRotl => exact execVecRotl_good h
  | vecRev => exact execVecRev_good h
  | vecAdd => exact execVecAdd_good h
  | vecSub => exact execVecSub_good h
  | vecMin => exact execVecMin_good h
  | vecMax => exact execVecMax_good h
  | vecAbs => exact execVecAbs_good h
  | vecNeg => exact execVecNeg_good h
  | vecMul => exact execVecMul_good h
  | vecFma => exact execVecFma_good h
  | vecShl => exact execVecShl_good h
  | vecShr => exact execVecShr_good h
  | vecSar => exact execVecSar_good h
  | vecCmpeq => exact execVecCmpeq_good h
  | vecCmplt => exact execVecCmplt_good h
  | vecCmple => exact execVecCmple_good h
  | vecCmpne => exact execVecCmpne_good h
  | vecSel => exact execVecSel_good h
  | vecRsum => exact execVecRsum_good h
  | vecRmax => exact execVecRmax_good h
  | vecRmin => exact execVecRmin_good h
  | vecRamax => exact execVecRamax_good h
  | vecCvtn => exact execVecCvtn_good h
  | vecCvtw => exact execVecCvtw_good h
  | vecCvti => exact execVecCvti_good h
  | vecCvtf => exact execVecCvtf_good h
  | vecMxscale => exact execVecMxscale_good h
  | vecMxapply => exact execVecMxapply_good h
  | vecExp => exact execVecExp_good h
  | vecExp2 => exact execVecExp2_good h
  | vecLog => exact execVecLog_good h
  | vecLog2 => exact execVecLog2_good h
  | vecRecip => exact execVecRecip_good h
  | vecRsqrt => exact execVecRsqrt_good h
  | vecSqrt => exact execVecSqrt_good h
  | vecTanh => exact execVecTanh_good h
  | vecSigmoid => exact execVecSigmoid_good h
  | vecSin => exact execVecSin_good h
  | vecCos => exact execVecCos_good h
  | vecRand => exact execVecRand_good h
  | streamRegWrite => exact execStreamRegWrite_good h
  | lockReport => exact execLockReport_good h
  | lockUp => exact execLockUp_good h
  | lockResult => exact execLockResult_good h
  | lockBeat => exact execLockBeat_good h
  | lockHoldRequest => exact execLockHoldRequest_good h
  | lockHoldRelease => exact execLockHoldRelease_good h
  | estoreDataWrite => exact execEstoreDataWrite_good h
  | barUp => exact execBarUp_good h
  | barDone => exact execBarDone_good h
  | alarm => exact execAlarm_good h
  | irq => exact execIrq_good h
  | cfgWr => exact execCfgWr_good h
  | cfgRd => exact execCfgRd_good h
  | cfgRsp => exact execCfgRsp_good h
  | batchSeal => exact execBatchSeal_good h
  | fwInfo => exact execFwInfo_good h
  | fwChunk => exact execFwChunk_good h
  | fwQuery => exact execFwQuery_good h
  | missingUp => exact execMissingUp_good h
  | fwActivate => exact execFwActivate_good h
  | fwCancel => exact execFwCancel_good h
  | trace => exact execTrace_good h
  | stopArrive => exact execStopArrive_good h
  | stopForce => exact execStopForce_good h
  | tokenArrive => exact execTokenArrive_good h
  | tokenAck => exact execTokenAck_good h
  | wheelInjection => exact execWheelInjection_good h
  | wheelDataWrite => exact execWheelDataWrite_good h
  | circWrite => exact execCircWrite_good h
  | stall => exact execStall_good h
  | stallRecord => exact execStallRecord_good h
  | seamWireFail => exact execSeamWireFail_good h
  | seamHandshakeFail => exact execSeamHandshakeFail_good h
  | pailResume => exact execPailResume_good h
  | correctionWriteback => exact execCorrectionWriteback_good h
  | patrolScrub => exact execPatrolScrub_good h
  | narrowWrite => exact execNarrowWrite_good h
  | gatherFlush => exact execGatherFlush_good h
  | rowWinWrite => exact execRowWinWrite_good h
  | rowWinRead => exact execRowWinRead_good h
  | bankOwnerWrite => exact execBankOwnerWrite_good h
  | sleepRetain => exact execSleepRetain_good h
  | sleepOff => exact execSleepOff_good h
  | bankDrained => exact execBankDrained_good h
  | wake => exact execWake_good h
  | wakeComplete => exact execWakeComplete_good h
  | remapEntryWrite => exact execRemapEntryWrite_good h
  | remapCopy => exact execRemapCopy_good h
  | unload => exact execUnload_good h
  | load => exact execLoad_good h
  | loadEnd => exact execLoadEnd_good h
  | portEnable => exact execPortEnable_good h
  | qualifyEnd => exact execQualifyEnd_good h
  | laneTrainTimeout => exact execLaneTrainTimeout_good h
  | retrainEnd => exact execRetrainEnd_good h
  | laneDrop => exact execLaneDrop_good h
  | flitReceive => exact execFlitReceive_good h
  | headFlit => exact execHeadFlit_good h
  | rowFlit => exact execRowFlit_good h
  | bargeRowLand => exact execBargeRowLand_good h
  | tailFlit => exact execTailFlit_good h
  | bargeCompletionSend => exact execBargeCompletionSend_good h
  | completionFlit => exact execCompletionFlit_good h
  | boundBargeRelease => exact execBoundBargeRelease_good h
  | descriptorRead => exact execDescriptorRead_good h
  | flitGateRelease => exact execFlitGateRelease_good h
  | ack => exact execAck_good h
  | nak => exact execNak_good h
  | credit => exact execCredit_good h
  | hello => exact execHello_good h
  | sync => exact execSync_good h
  | mode => exact execMode_good h
  | ctrlRepeat => exact execCtrlRepeat_good h
  | ackSend => exact execAckSend_good h
  | ackTimeout => exact execAckTimeout_good h
  | channelSeqWrite => exact execChannelSeqWrite_good h
  | linkRefLost => exact execLinkRefLost_good h
  | linkRefReturn => exact execLinkRefReturn_good h
  | cageMediumRemoved => exact execCageMediumRemoved_good h
  | cageMediumInserted => exact execCageMediumInserted_good h
  | cagePower => exact execCagePower_good h
  | doorbell => exact execDoorbell_good h
  | queueEnable => exact execQueueEnable_good h
  | queueDisable => exact execQueueDisable_good h
  | queueCoalesceSet => exact execQueueCoalesceSet_good h
  | cqHeadWrite => exact execCqHeadWrite_good h
  | data => exact execData_good h
  | loadImage => exact execLoadImage_good h
  | hostRowLand => exact execHostRowLand_good h
  | hostReadError => exact execHostReadError_good h
  | hostDescriptorRead => exact execHostDescriptorRead_good h
  | coalTimeout => exact execCoalTimeout_good h
  | functionLevelReset => exact execFunctionLevelReset_good h
  | perstAssert => exact execPerstAssert_good h
  | pcieLinkTrain => exact execPcieLinkTrain_good h
  | mbWrite => exact execMbWrite_good h
  | mbRead => exact execMbRead_good h
  | sdoDownload => exact execSdoDownload_good h
  | sdoUpload => exact execSdoUpload_good h
  | sdoCompleteDownload => exact execSdoCompleteDownload_good h
  | sdoCompleteUpload => exact execSdoCompleteUpload_good h
  | sdoInformation => exact execSdoInformation_good h
  | foeWrite => exact execFoeWrite_good h
  | alStateRequest => exact execAlStateRequest_good h
  | rxpdo => exact execRxpdo_good h
  | sync0 => exact execSync0_good h
  | pdoLatch => exact execPdoLatch_good h
  | syncError => exact execSyncError_good h
  | setpointTimeout => exact execSetpointTimeout_good h
  | clampLogClear => exact execClampLogClear_good h
  | statusClear => exact execStatusClear_good h
  | lkHeartbeat => exact execLkHeartbeat_good h
  | lkTakeover => exact execLkTakeover_good h
  | lkBootTimeout => exact execLkBootTimeout_good h
  | inputQualified => exact execInputQualified_good h
  | powerGood => exact execPowerGood_good h
  | powerFail => exact execPowerFail_good h
  | presOpen => exact execPresOpen_good h
  | cellLost => exact execCellLost_good h
  | ceilingUpdate => exact execCeilingUpdate_good h
  | phaseLost => exact execPhaseLost_good h
  | regFail => exact execRegFail_good h
  | weirDroop => exact execWeirDroop_good h
  | weirOvershoot => exact execWeirOvershoot_good h
  | weirSettled => exact execWeirSettled_good h
  | poundTrip => exact execPoundTrip_good h
  | poundPowerUp => exact execPoundPowerUp_good h
  | poundPowerDown => exact execPoundPowerDown_good h
  | poundGrantEval => exact execPoundGrantEval_good h
  | poundRampEnd => exact execPoundRampEnd_good h
  | capture8us => exact execCapture8us_good h
  | vtSetWrite => exact execVtSetWrite_good h
  | estimateSample => exact execEstimateSample_good h
  | estimatorGainUpdate => exact execEstimatorGainUpdate_good h
  | skimFrame => exact execSkimFrame_good h
  | coolantSample => exact execCoolantSample_good h
  | voltageStep => exact execVoltageStep_good h
  | voltageStepEnd => exact execVoltageStepEnd_good h
  | skimTestWrite => exact execSkimTestWrite_good h
  | bringupPhaseEnd => exact execBringupPhaseEnd_good h
  | serviceUnlock => exact execServiceUnlock_good h
  | removeEntry => exact execRemoveEntry_good h
  | bringUp => exact execBringUp_good h
  | powerDown => exact execPowerDown_good h
  | cancelRemoval => exact execCancelRemoval_good h
  | resetTile => exact execResetTile_good h
  | resetBerth => exact execResetBerth_good h
  | resetBasin => exact execResetBasin_good h
  | resetDevice => exact execResetDevice_good h
  | resetDrainEnd => exact execResetDrainEnd_good h
  | drainLimit => exact execDrainLimit_good h
  | resetEnd => exact execResetEnd_good h
  | alarmCollectionEnd => exact execAlarmCollectionEnd_good h
  | targetedTestEnd => exact execTargetedTestEnd_good h
  | replayRelease => exact execReplayRelease_good h
  | remap => exact execRemap_good h
  | idleWindowSlice => exact execIdleWindowSlice_good h
  | trierOverdue => exact execTrierOverdue_good h
  | trierPauseRequest => exact execTrierPauseRequest_good h
  | trierPauseDone => exact execTrierPauseDone_good h
  | snapshotRequest => exact execSnapshotRequest_good h
  | snapshotInterval => exact execSnapshotInterval_good h
  | riskEvaluate => exact execRiskEvaluate_good h
  | snapshotStart => exact execSnapshotStart_good h
  | snapshotCopy => exact execSnapshotCopy_good h
  | snapshotRelease => exact execSnapshotRelease_good h
  | snapshotSecured => exact execSnapshotSecured_good h
  | restoreLatest => exact execRestoreLatest_good h
  | restoreOlderFull => exact execRestoreOlderFull_good h
  | restoreDone => exact execRestoreDone_good h
  | basinDefine => exact execBasinDefine_good h
  | basinRemove => exact execBasinRemove_good h
  | updateActivate => exact execUpdateActivate_good h
  | updateRollback => exact execUpdateRollback_good h
  | updateCancel => exact execUpdateCancel_good h
  | lkHandover => exact execLkHandover_good h
  | standbyRebootEnd => exact execStandbyRebootEnd_good h
  | portDrainEnd => exact execPortDrainEnd_good h
  | portDrainLimit => exact execPortDrainLimit_good h
  | powerCtrlRestartEnd => exact execPowerCtrlRestartEnd_good h
  | digestDrain => exact execDigestDrain_good h
  | digestAck => exact execDigestAck_good h
  | digestCaptureArm => exact execDigestCaptureArm_good h
  | bankCaptureArm => exact execBankCaptureArm_good h
  | traceMark => exact execTraceMark_good h
  | hsSelWrite => exact execHsSelWrite_good h
  | probeSelect => exact execProbeSelect_good h
  | traceStoreClear => exact execTraceStoreClear_good h
  | bypass => exact execBypass_good h
  | idcode => exact execIdcode_good h
  | samplePreload => exact execSamplePreload_good h
  | extest => exact execExtest_good h
  | clamp => exact execClamp_good h
  | highz => exact execHighz_good h
  | registerWrite => exact execRegisterWrite_good h
  | reportWindowEnd => exact execReportWindowEnd_good h
  | laneLossOfLock _ lane => exact execLaneLossOfLock_good (_lane := lane) h
  | pcieReferenceLost => exact execPcieReferenceLost_good h
  | poundRampDownEnd => exact execPoundRampDownEnd_good h
  | weirBankRecharged => exact execWeirBankRecharged_good h
  | linkControllerRestartEnd => exact execLinkControllerRestartEnd_good h
  | busHoldupEnd => exact execBusHoldupEnd_good h

theorem exec_keeps {c : Instr} {s s' : State} (hc : Canonical s) (h : exec c s = .next s') :
    s'.pending = s.pending ∧ Canonical s' ∧ Same (leaves c) s s' := by
  obtain ⟨hqueue, hcanon, hsame⟩ := exec_good (z := ⟨s.pending, s, leaves c⟩) c rfl (good_start hc _) s' h
  exact ⟨hqueue, hcanon, hsame⟩

theorem Canonical.with_pending {s : State} (hc : Canonical s) (l : List Instr) : Canonical { s with pending := l } :=
  { hc with mem := hc.mem }

/-- Settles O3: every command's meaning ends in a next state, and none writes the queue. -/
theorem everyCommandAnswers : Obligations.EveryCommandAnswers := by
  unfold Obligations.EveryCommandAnswers
  intro c s hc
  obtain ⟨s', h⟩ := exec_isNext c s
  exact ⟨s', h, (exec_keeps hc h).1⟩

/-- Settles O4: a step is a command on the device with the rest of the queue, and every command keeps the form. -/
theorem stepKeepsCanonical : Obligations.StepKeepsCanonical := by
  unfold Obligations.StepKeepsCanonical
  intro s s' hc h
  unfold step at h
  split at h
  · cases h
    exact hc
  · exact (exec_keeps (hc.with_pending _) h).2.1

/-- Settles O5: the watch that `leaves` names holds from the state itself to every next state. -/
theorem commandFrame : Obligations.CommandFrame := by
  unfold Obligations.CommandFrame
  exact fun _ _ _ hc h => (exec_keeps hc h).2.2

end Sys2Proof.Machine

/-! # PROOFS. Statements that a key listed twice refutes

The canonical form of the device is that of its own sparse parts. It says nothing of the maps inside them: the banks of a
tile, the ports of the link part, the queues of the host part. A map that lists a key twice reads as its first entry;
a write that brings that entry back to what an unlisted key reads as removes it, and the second entry shows. So a
statement that gives the whole of such an entry after a write, or a field of it that becomes empty, fails at a state
whose inner map lists the key twice, which no run from reset reaches. -/

namespace Sys2Proof.Machine
open Sys2Proof

/-- The state that a command answers, and the state itself where it answers none. -/
def after (c : Instr) (s : State) : State :=
  match exec c s with
  | .next s' => s'
  | _ => s

/-- What a command promises of its next state holds of the state it answers. -/
theorem after_of {c : Instr} {s : State} {P : State → Prop} (h : ∃ s', exec c s = .next s' ∧ P s') : P (after c s) := by
  obtain ⟨s', he, hP⟩ := h
  rwa [after, he]

/-- The canonical form as a test. -/
def canonicalB (s : State) : Bool :=
  Map.wf s.mem (fun _ => 0) && Map.wf s.tregs (fun k => regDefault (k % 65536)) && Map.wf s.objs objDefault &&
  Map.wf s.bar0 barDefault && Map.wf s.win (fun _ => 0) && Map.wf s.tiles (fun _ => Tile.init) &&
  Map.wf s.basins (fun _ => Basin.init) && Map.wf s.hubs (fun _ => Hub.init) && Map.wf s.seams (fun _ => Seam.init)

theorem canonical_of_canonicalB {s : State} (h : canonicalB s = true) : Canonical s := by
  simp only [canonicalB, Bool.and_eq_true] at h
  obtain ⟨⟨⟨⟨⟨⟨⟨⟨hmem, htregs⟩, hobjs⟩, hbar0⟩, hwin⟩, htiles⟩, hbasins⟩, hhubs⟩, hseams⟩ := h
  exact ⟨hmem, htregs, hobjs, hbar0, hwin, htiles, hbasins, hhubs, hseams⟩


/-- Tile 0 lists bank 0 twice. -/
def bankTwice (first second : Bank) : State :=
  { State.reset with tiles := [(0, { Tile.init with banks := [(0, first), (0, second)] })] }

/-- The link part lists port 0 twice, and the port's state is `st`. -/
def portTwice (st : Word64) (first second : Port) : State :=
  { State.reset with
    objs := [(objKey (portObj 0) 1, st)], link := { State.reset.link with ports := [(0, first), (0, second)] } }

/-- Refutes O19: with the one correction of bank 0 written back, the bank is as after reset and its second entry, which
holds a correction, shows. -/
theorem not_fillInAndPailResumes : ¬ Obligations.FillInAndPailResumes := by
  unfold Obligations.FillInAndPailResumes
  intro h
  obtain ⟨hwriteback, -⟩ := h.1
    (bankTwice { Bank.init with writeback := [(0, 0)] } { Bank.init with writeback := [(1, 0)] }) 0 0
    (canonical_of_canonicalB (by decide +kernel))
  obtain ⟨hleft, -⟩ := after_of (hwriteback (0, 0) [] (by decide +kernel) (by decide) (by decide +kernel))
  exact absurd hleft (by decide +kernel)

/-- An entry of row 0 whose parity does not agree. -/
def failingEntry : GatherEntry := ⟨0, 0, 1, 5, 1⟩

/-- Refutes O20: with its failing entry dropped bank 0 is as after reset and its second entry, which holds an entry,
shows. -/
theorem not_narrowWritesAndRowWindow : ¬ Obligations.NarrowWritesAndRowWindow := by
  unfold Obligations.NarrowWritesAndRowWindow
  intro h
  obtain ⟨-, -, hheld⟩ := h.1
    (bankTwice { Bank.init with gather := [failingEntry] } { Bank.init with gather := [failingEntry] }) 0 0 0 1
    (canonical_of_canonicalB (by decide +kernel)) (by decide) (by decide +kernel)
  obtain ⟨-, hleft, -⟩ := after_of ((hheld failingEntry (by decide +kernel)).2 (by decide +kernel))
  exact absurd hleft (by decide +kernel)

/-- Tile 11 lists the lane that leads east over a seam twice, each time with a token, and tile 12 owes its acknowledge. -/
def laneTwice : State :=
  let tok : Token := ⟨0, 0, false, false, 0⟩
  { State.reset with tiles := [
      (11, { Tile.init with sw := { Switch.init with outs := [(2, some tok), (2, some tok)] } }),
      (12, { Tile.init with sw := { Switch.init with owed := [6] } })] }

/-- Refutes O18: with the first token acknowledged the second shows, the lane does not count as freed, and the handshake
wire that disagreed is not counted at the seam. -/
theorem not_tokensStallsAndSeams : ¬ Obligations.TokensStallsAndSeams := by
  unfold Obligations.TokensStallsAndSeams
  intro h
  have hnone : Map.get (laneTwice.tile 12).sw.inputs none 6 = none := by decide +kernel
  obtain ⟨-, hack⟩ := h.1 laneTwice 11 2 12 6 (canonical_of_canonicalB (by decide +kernel)) (by decide +kernel) (by decide)
  obtain ⟨-, -, -, -, hseam⟩ := after_of (hack ⟨0, 0, false, false, 0⟩ 1 (by decide +kernel) (by decide +kernel)
    (by decide +kernel) (fun _ hx => nomatch hnone.symm.trans hx) (by decide +kernel))
  exact absurd (hseam 0 (by decide +kernel)) (by decide +kernel)

/-- Refutes O30: without its one qualified lane port 0 is as after reset and its second entry, with another lane, shows. -/
theorem not_portStates : ¬ Obligations.PortStates := by
  unfold Obligations.PortStates
  intro h
  obtain ⟨-, hlane, -⟩ := h.1 (portTwice 1 { Port.init with qualTx := 1 } { Port.init with qualTx := 2 }) 0
    (canonical_of_canonicalB (by decide +kernel))
  exact absurd (after_of (hlane 0 (by decide +kernel))) (by decide +kernel)

/-- Refutes O33: with its one flit acknowledged port 0 is as after reset and its second entry, with a flit, shows. -/
theorem not_linkMessagesAndTimers : ¬ Obligations.LinkMessagesAndTimers := by
  unfold Obligations.LinkMessagesAndTimers
  intro h
  obtain ⟨-, hup⟩ := h.1 (portTwice 1 { Port.init with buf := [0] } { Port.init with buf := [0] }) 0 0
    (canonical_of_canonicalB (by decide +kernel))
  obtain ⟨-, hplace, -⟩ := hup (by decide +kernel)
  obtain ⟨hack, -⟩ := hplace 0 (by decide +kernel)
  exact absurd (after_of hack) (by decide +kernel)

/-- The host part lists queue 0 twice. -/
def queueTwice : State := { State.reset with host := { State.reset.host with
  queues := [(0, { HostQueue.init with tail := 1 }), (0, { HostQueue.init with tail := 2 })] } }

/-- Refutes O34: a doorbell of 0 leaves queue 0 as after reset and its second entry, with a tail of 2, shows. -/
theorem not_hostQueues : ¬ Obligations.HostQueues := by
  unfold Obligations.HostQueues
  intro h
  obtain ⟨hdoorbell, -⟩ := h.1 queueTwice 0 (canonical_of_canonicalB (by decide +kernel))
  obtain ⟨hqueue, -⟩ := after_of ((hdoorbell 0).1 (by decide +kernel))
  exact absurd hqueue (by decide +kernel)

/-- An update of port 0's link controller that waits for the port to drain. -/
def drainingUpdate : Update := ⟨2, 0, false, factoryImage, 5, []⟩

/-- Refutes O41: with the update cancelled port 0 is as after reset and its second entry, which drains, shows. -/
theorem not_firmwareUpdates : ¬ Obligations.FirmwareUpdates := by
  unfold Obligations.FirmwareUpdates
  intro h
  let s := portTwice 3 { Port.init with drain := 1 } { Port.init with drain := 1 }
  obtain ⟨-, hdrain, -⟩ := h { s with upd := { s.upd with run := some drainingUpdate } } 0 0
    (canonical_of_canonicalB (by decide +kernel))
  obtain ⟨hcancel, -⟩ := hdrain drainingUpdate rfl rfl rfl rfl
  obtain ⟨-, hport, -⟩ := after_of hcancel
  exact absurd hport (by decide +kernel)

/-- A full snapshot of basin 0 that is copied. -/
def copiedJob : SnapJob := ⟨0, true, 0, 3, none, false⟩

/-- A record that holds nothing. -/
def emptyRecord : SnapRecord :=
  ⟨0, true, 0, 0, 0, 0, 0, Basin.init.image, 0, 0, (0, 0, 0, 0), [], [], [], [], [], [], 0, [], [], 0, 0, 0⟩

/-- Refutes O54: with its late rows forgotten bank 0 is as after reset and its second entry, with a late row, shows. -/
theorem not_snapshots : ¬ Obligations.Snapshots := by
  unfold Obligations.Snapshots
  intro h
  let s := bankTwice { Bank.init with snapLate := [(0, true)] } { Bank.init with snapLate := [(0, true)] }
  obtain ⟨-, -, -, hjob⟩ := h.2
    { s with
      basins := [(0, { Basin.init with rect := some (0, 0, 0, 0) })],
      cellar := { s.cellar with job := some copiedJob } }
    0 0 [] copiedJob emptyRecord (canonical_of_canonicalB (by decide +kernel))
  obtain ⟨-, -, -, hrelease, -⟩ := hjob rfl rfl
  obtain ⟨-, -, -, hlate⟩ := after_of (hrelease rfl)
  exact absurd (hlate 0 (by decide +kernel) 0 (by decide)) (by decide +kernel)

end Sys2Proof.Machine

/-! # PROOFS. A command that writes one tile

What a chain of writes of tile `t` leaves: the tile's new value, and everything else of the device. -/

namespace Sys2Proof.Machine

open Sys2Proof

/-- A run of writes of tile `t` alone has led from `s` to `a`, where the tile reads `v`. -/
structure TileRun (s a : State) (t : Nat) (v : Tile) : Prop where
  tiles : Map.wf a.tiles (fun _ => Tile.init) = true
  becomes : TileBecomes s a t v

theorem TileRun.start {s : State} (hc : Canonical s) (t : Nat) : TileRun s s t (s.tile t) :=
  ⟨hc.tiles, rfl, fun _ _ => rfl, rfl⟩

theorem TileRun.setTile {s a : State} {t : Nat} {v : Tile} (h : TileRun s a t v) (w : Tile) :
    TileRun s (a.setTile t w) t w := by
  obtain ⟨htiles, -, hothers, hrest⟩ := h
  exact ⟨Map.wf_put _ _ _ _ _ rfl htiles, Map.get_put_same _ (fun _ => Tile.init) _ _ _ htiles,
    fun u hu => (a.tile_setTile_other t u w hu).trans (hothers u hu), hrest⟩

theorem TileRun.updTile {s a : State} {t : Nat} {v : Tile} (h : TileRun s a t v) (f : Tile → Tile) :
    TileRun s (a.updTile t f) t (f v) := by
  have hset := h.setTile (f (a.tile t))
  rw [h.becomes.1] at hset
  rw [State.updTile, h.becomes.1]
  exact hset

theorem TileRun.updTil {s a : State} {t : Nat} {v : Tile} (h : TileRun s a t v) (f : Tiller → Tiller) :
    TileRun s (a.updTil t f) t { v with til := f v.til } := h.updTile _

theorem TileRun.updArr {s a : State} {t : Nat} {v : Tile} (h : TileRun s a t v) (f : ArrayUnit → ArrayUnit) :
    TileRun s (a.updArr t f) t { v with arr := f v.arr } := h.updTile _

theorem TileRun.updSw {s a : State} {t : Nat} {v : Tile} (h : TileRun s a t v) (f : Switch → Switch) :
    TileRun s (a.updSw t f) t { v with sw := f v.sw } := h.updTile _

theorem TileRun.takeSlot {s : State} (hc : Canonical s) (t n : Nat) :
    TileRun s (s.takeSlot t n) t
      { s.tile t with til := { (s.tile t).til with slots := (s.tile t).til.slots ++ [n] } } :=
  (TileRun.start hc t).updTil _

/-- A slot op that the tile issues takes its slot and has its effect. -/
theorem State.slotOp_of_issues {s : State} {t n : Nat} {fields : List (Nat × Nat × Nat)} (f : State → State)
    (h : s.issues t n fields = true) : s.slotOp t n fields f = f (s.takeSlot t n) := if_pos h

theorem State.tile_takeSlot {s : State} (hc : Canonical s) (t n : Nat) :
    (s.takeSlot t n).tile t =
      { s.tile t with til := { (s.tile t).til with slots := (s.tile t).til.slots ++ [n] } } :=
  (TileRun.takeSlot hc t n).becomes.1

/-! ## Scalar ops (R62, R63) -/

/-- An ALU op that the tile issues sends what it makes of the scalar registers to S(d), and writes nothing else. -/
theorem State.alu_scalarResult {s : State} (hc : Canonical s) {t op : Nat} {d : SReg} {rest : List (Nat × Nat × Nat)}
    (f : State → Word32) (h : s.issues t 0 (ctrlFields op ((25, 21, d.val) :: rest)) = true) :
    ScalarResult s (s.alu t op d rest f) t d (f (s.takeSlot t 0)) := by
  rw [State.alu, State.slotOp_of_issues _ h, State.tile_takeSlot hc]
  exact ((TileRun.takeSlot hc t 0).updTil _).becomes

theorem lui_value (imm : BitVec 16) : imm ++ 0#16 = BitVec.ofNat 32 (imm.toNat * 65536) := by
  refine BitVec.eq_of_toNat_eq ?_
  have h := imm.isLt
  rw [BitVec.toNat_append, Nat.shiftLeft_eq, BitVec.toNat_ofNat, BitVec.toNat_ofNat]
  simp
  omega

theorem add_value (a b : Word32) : a + b = BitVec.ofNat 32 (a.toNat + b.toNat) := BitVec.eq_of_toNat_eq (by simp)

theorem sub_value (a b : Word32) : a - b = BitVec.ofInt 32 (a.toNat - b.toNat : Int) := by
  refine BitVec.eq_of_toNat_eq ?_
  have ha := a.isLt
  have hb := b.isLt
  rw [BitVec.toNat_sub, BitVec.toNat_ofInt]
  omega

/-- Settles O6 (R62, R63): each op is one ALU op, whose operands read as they did before it took its slot. -/
theorem scalarOps : Obligations.ScalarOps := by
  unfold Obligations.ScalarOps
  refine ⟨fun s t d r imm hc => ?_, fun s t d r u hc => ?_⟩
  · refine ⟨fun h => ⟨_, rfl, s.alu_scalarResult hc _ h⟩, fun h => ⟨_, rfl, s.alu_scalarResult hc _ h⟩,
      fun h => ⟨_, rfl, s.alu_scalarResult hc _ h⟩, fun h => ⟨_, rfl, s.alu_scalarResult hc _ h⟩,
      fun h => ⟨_, rfl, s.alu_scalarResult hc _ h⟩, fun h => ⟨_, rfl, s.alu_scalarResult hc _ h⟩, fun h => ?_⟩
    rw [← lui_value]
    exact ⟨_, rfl, s.alu_scalarResult hc _ h⟩
  · refine ⟨fun h => ⟨_, rfl, ?_⟩, fun h => ⟨_, rfl, ?_⟩, fun h => ⟨_, rfl, s.alu_scalarResult hc _ h⟩,
      fun h => ⟨_, rfl, s.alu_scalarResult hc _ h⟩, fun h => ⟨_, rfl, s.alu_scalarResult hc _ h⟩,
      fun h => ⟨_, rfl, s.alu_scalarResult hc _ h⟩⟩
    · rw [← add_value]
      exact s.alu_scalarResult hc _ h
    · rw [← sub_value]
      exact s.alu_scalarResult hc _ h

end Sys2Proof.Machine

/-! # PROOFS. The queue, reset, and the control slot's flow ops -/

namespace Sys2Proof.Machine

open Sys2Proof

/-- Settles O1, by the two equations of a step. -/
theorem stepRunsFrontCommand : Obligations.StepRunsFrontCommand := by
  unfold Obligations.StepRunsFrontCommand
  refine ⟨fun c rest s h => ?_, fun s h => ?_⟩
  · rw [step, h]
  · rw [step, h]

/-- Settles O2: every map of the device is empty at reset. -/
theorem resetCanonical : Obligations.ResetCanonical := by
  unfold Obligations.ResetCanonical
  exact ⟨reset_canonical, rfl⟩

/-! ## Branches, calls, loops, tasks and the last bundle (R61, R62, R70 to R73) -/

/-- What a taken branch to `p` of context `c` makes of the tiller. -/
def Tiller.jumped (m : Tiller) (c p : Nat) : Tiller :=
  let m1 := { m with redirect := some ⟨2, c, p⟩, delay := 3 }
  if !m.loops.isEmpty && decide (c = m.active) && (Map.get m.loopBuf none p).isSome then m1 else
    { m1 with fetched := m.fetched.filter (fun e => decide (e.addr = m.ipc + 1) || decide (e.addr = m.ipc + 2)),
              fctx := c, fpc := p }

theorem State.jump_eq (s : State) (t c p : Nat) : s.jump t c p = s.updTil t (fun m => m.jumped c p) := rfl

/-- The bundle's branch is taken to `p` of context `c`: the target waits for two delay slots, and no further branch is
taken meanwhile. -/
structure Tiller.Jumped (m m' : Tiller) (c p : Nat) : Prop where
  redirect : m'.redirect = some ⟨2, c, p⟩
  delay : m'.delay = 3
  slots : m'.slots = m.slots
  loops : m'.loops = m.loops
  rets : m'.rets = m.rets

theorem Tiller.jumped_jumped (m : Tiller) (c p : Nat) : m.Jumped (m.jumped c p) c p := by
  unfold Tiller.jumped
  split
  · exact ⟨rfl, rfl, rfl, rfl, rfl⟩
  · exact ⟨rfl, rfl, rfl, rfl, rfl⟩

/-- A jump of a tile that nothing else has changed but its tiller leaves every other part of the device. -/
theorem TileRun.jump {s a : State} {t : Nat} {v : Tile} (h : TileRun s a t v) (c p : Nat) :
    v.til.Jumped ((a.jump t c p).tile t).til c p ∧ TileOnly s (a.jump t c p) t := by
  have hjump := (h.updTil (fun m => m.jumped c p)).becomes
  rw [← State.jump_eq] at hjump
  rw [hjump.1]
  exact ⟨v.til.jumped_jumped c p, hjump.2⟩

/-- The tiller that has taken the control slot. -/
def Tiller.issued (m : Tiller) : Tiller := { m with slots := m.slots ++ [0] }

theorem TileRun.issue {s : State} (hc : Canonical s) (t : Nat) :
    TileRun s (s.takeSlot t 0) t { s.tile t with til := (s.tile t).til.issued } := TileRun.takeSlot hc t 0

theorem State.branch_taken {s : State} {t : Nat} {off : BitVec 16} {taken : Bool} (htaken : taken = true)
    (hdelay : (s.tile t).til.delay = 0) (hinside : (s.tile t).til.insideBody (branchTarget (s.tile t).til.ipc off) = true) :
    s.branch t off taken = s.jump t (s.tile t).til.active (branchTarget (s.tile t).til.ipc off) := by
  simp [State.branch, htaken, hdelay, hinside]

theorem State.branch_untaken {s : State} {t : Nat} {off : BitVec 16} {taken : Bool} (htaken : taken = false)
    (hdelay : (s.tile t).til.delay = 0) : s.branch t off taken = s.fallThrough t := by
  simp [State.branch, htaken, hdelay]

theorem State.call_taken {s : State} {t : Nat} {off : BitVec 16} (hdelay : (s.tile t).til.delay = 0)
    (hroom : (s.tile t).til.rets.length < 8)
    (hinside : (s.tile t).til.insideBody (branchTarget (s.tile t).til.ipc off) = true) :
    s.call t off = (s.updTil t (fun m => { m with rets := (m.ipc + 3) :: m.rets })).jump t (s.tile t).til.active
      (branchTarget (s.tile t).til.ipc off) := by
  have hfull : ¬ 8 ≤ (s.tile t).til.rets.length := by omega
  simp [State.call, hdelay, hfull, hinside]

theorem State.ret_taken {s : State} {t q : Nat} {rest : List Nat} (hrets : (s.tile t).til.rets = q :: rest)
    (hdelay : (s.tile t).til.delay = 0) (hinside : (s.tile t).til.insideBody q = true) :
    s.ret t = (s.updTil t (fun m => { m with rets := rest })).jump t (s.tile t).til.active q := by
  simp [State.ret, hrets, hdelay, hinside]

theorem State.loop_entered {s : State} {t len n : Nat} (hdelay : (s.tile t).til.delay = 0) (hn : n ≠ 0)
    (hroom : (s.tile t).til.loops.length < 4)
    (hinside : ((s.tile t).til.loops.all (fun l => decide ((s.tile t).til.ipc + len ≤ l.start + l.len))) = true) :
    s.loop t len n = s.updTil t (fun m => { m with
      loopBuf := if m.loops.isEmpty then [] else m.loopBuf, loops := ⟨m.ipc, len, n⟩ :: m.loops }) := by
  have hfull : ¬ 4 ≤ (s.tile t).til.loops.length := by omega
  have hlater : (s.tile t).til.loops.any (fun l => decide (l.start + l.len < (s.tile t).til.ipc + len)) = false := by
    rw [List.any_eq_false]
    intro l hl
    have := of_decide_eq_true (List.all_eq_true.1 hinside l hl)
    simpa using this
  simp [State.loop, hdelay, hfull, hlater, hn]

theorem State.epochEnd_issued {s : State} {t : Nat} (hdelay : (s.tile t).til.delay = 0) (hloops : (s.tile t).til.loops = []) :
    s.epochEnd t = s.updTil t (fun m => { m with endIssued := true }) := by
  simp [State.epochEnd, hdelay, hloops]

/-- What a taken branch shows, after the slot was taken and with the return addresses changed to `rets`. -/
theorem TileRun.taken {s a : State} {t : Nat} {v : Tile} (h : TileRun s a t v)
    (hslots : v.til.slots = (s.tile t).til.slots ++ [0]) (hloops : v.til.loops = (s.tile t).til.loops) (c p : Nat) :
    ((((a.jump t c p).tile t).til.redirect = some ⟨2, c, p⟩ ∧ ((a.jump t c p).tile t).til.delay = 3 ∧
      ((a.jump t c p).tile t).til.slots = (s.tile t).til.slots ++ [0] ∧
      ((a.jump t c p).tile t).til.loops = (s.tile t).til.loops ∧ TileOnly s (a.jump t c p) t)) ∧
    ((a.jump t c p).tile t).til.rets = v.til.rets := by
  obtain ⟨⟨hredirect, hdelay, hs, hl, hrets⟩, honly⟩ := h.jump c p
  exact ⟨⟨hredirect, hdelay, hs.trans hslots, hl.trans hloops, honly⟩, hrets⟩

/-- A command that answers `a` answers whatever `a` is shown to be. -/
theorem exec_next_of_eq {c : Instr} {s a b : State} (h : exec c s = .next a) (heq : a = b) : exec c s = .next b := heq ▸ h

/-- The tiller reads as it did before it took its slot, but for its slots. -/
theorem State.til_takeSlot {s : State} (hc : Canonical s) (t n : Nat) :
    ((s.takeSlot t n).tile t).til = { (s.tile t).til with slots := (s.tile t).til.slots ++ [n] } := by
  rw [State.tile_takeSlot hc t n]

theorem State.issued_branch_taken {s : State} (hc : Canonical s) {t : Nat} {off : BitVec 16} {taken : Bool}
    (hdelay : (s.tile t).til.delay = 0) (htaken : taken = true)
    (hinside : (s.tile t).til.insideBody (branchTarget (s.tile t).til.ipc off) = true) :
    (s.takeSlot t 0).branch t off taken =
      (s.takeSlot t 0).jump t (s.tile t).til.active (branchTarget (s.tile t).til.ipc off) := by
  have htil := State.til_takeSlot hc t 0
  have h := State.branch_taken (s := s.takeSlot t 0) (off := off) htaken (by rw [htil]; exact hdelay)
    (by rw [htil]; exact hinside)
  rwa [htil] at h

theorem State.issued_branch_untaken {s : State} (hc : Canonical s) {t : Nat} {off : BitVec 16} {taken : Bool}
    (hdelay : (s.tile t).til.delay = 0) (htaken : taken = false) :
    (s.takeSlot t 0).branch t off taken = (s.takeSlot t 0).fallThrough t :=
  State.branch_untaken htaken (by rw [State.til_takeSlot hc t 0]; exact hdelay)

theorem State.issued_call_taken {s : State} (hc : Canonical s) {t : Nat} {off : BitVec 16}
    (hdelay : (s.tile t).til.delay = 0) (hroom : (s.tile t).til.rets.length < 8)
    (hinside : (s.tile t).til.insideBody (branchTarget (s.tile t).til.ipc off) = true) :
    (s.takeSlot t 0).call t off =
      ((s.takeSlot t 0).updTil t (fun m => { m with rets := (m.ipc + 3) :: m.rets })).jump t (s.tile t).til.active
        (branchTarget (s.tile t).til.ipc off) := by
  have htil := State.til_takeSlot hc t 0
  have h := State.call_taken (s := s.takeSlot t 0) (off := off) (by rw [htil]; exact hdelay) (by rw [htil]; exact hroom)
    (by rw [htil]; exact hinside)
  rwa [htil] at h

theorem State.issued_ret_taken {s : State} (hc : Canonical s) {t q : Nat} {rest : List Nat}
    (hrets : (s.tile t).til.rets = q :: rest) (hdelay : (s.tile t).til.delay = 0)
    (hinside : (s.tile t).til.insideBody q = true) :
    (s.takeSlot t 0).ret t =
      ((s.takeSlot t 0).updTil t (fun m => { m with rets := rest })).jump t (s.tile t).til.active q := by
  have htil := State.til_takeSlot hc t 0
  have h := State.ret_taken (s := s.takeSlot t 0) (by rw [htil]; exact hrets) (by rw [htil]; exact hdelay)
    (by rw [htil]; exact hinside)
  rwa [htil] at h

theorem State.issued_loop_entered {s : State} (hc : Canonical s) {t len n : Nat} (hdelay : (s.tile t).til.delay = 0)
    (hn : n ≠ 0) (hroom : (s.tile t).til.loops.length < 4)
    (hinside : ((s.tile t).til.loops.all (fun l => decide ((s.tile t).til.ipc + len ≤ l.start + l.len))) = true) :
    (s.takeSlot t 0).loop t len n = (s.takeSlot t 0).updTil t (fun m => { m with
      loopBuf := if m.loops.isEmpty then [] else m.loopBuf, loops := ⟨m.ipc, len, n⟩ :: m.loops }) := by
  have htil := State.til_takeSlot hc t 0
  exact State.loop_entered (by rw [htil]; exact hdelay) hn (by rw [htil]; exact hroom) (by rw [htil]; exact hinside)

/-- The context of a tile that issues TASK is saved at the address after its two delay slots, and the tile goes on at the
address that the register of the named context holds. -/
theorem State.task_jumps {s : State} (hc : Canonical s) {t c : Nat} (hdelay : (s.tile t).til.delay = 0)
    (hloops : (s.tile t).til.loops = []) :
    ∃ a : State, a.tiles = s.tiles ∧ a.regN t (ctxOff 0x110 (s.tile t).til.active) = ((s.tile t).til.ipc + 3) % 65536 ∧
      s.task t c = a.jump t c
        (if c = (s.tile t).til.active then (s.tile t).til.ipc + 3 else s.regN t (ctxOff 0x110 c)) := by
  have hsaved : (s.setRegN t (ctxOff 0x110 (s.tile t).til.active) (((s.tile t).til.ipc + 3) % 65536)).regN t
      (ctxOff 0x110 (s.tile t).til.active) = ((s.tile t).til.ipc + 3) % 65536 := by
    rw [State.regN, State.setRegN, State.reg_setReg_same _ hc, BitVec.toNat_ofNat]
    omega
  have hother : regKey t (ctxOff 0x110 (s.tile t).til.active) ≠ regKey t (ctxOff 0x114 (s.tile t).til.active) := by
    unfold regKey ctxOff
    omega
  by_cases hsame : c = (s.tile t).til.active
  · exact ⟨s.setRegN t (ctxOff 0x110 (s.tile t).til.active) (((s.tile t).til.ipc + 3) % 65536), rfl, hsaved,
      by simp [State.task, hdelay, hloops, hsame]⟩
  · by_cases hfaulted : s.regN t (ctxOff 0x114 (s.tile t).til.active) = 3
    · exact ⟨s.setRegN t (ctxOff 0x110 (s.tile t).til.active) (((s.tile t).til.ipc + 3) % 65536), rfl, hsaved,
        by simp [State.task, hdelay, hloops, hsame, hfaulted]⟩
    · refine ⟨(s.setRegN t (ctxOff 0x110 (s.tile t).til.active) (((s.tile t).til.ipc + 3) % 65536)).setRegN t
        (ctxOff 0x114 (s.tile t).til.active) 2, rfl, ?_, by simp [State.task, hdelay, hloops, hsame, hfaulted]⟩
      rw [State.regN, State.setRegN, State.reg_setReg_other _ _ _ _ _ _ hother]
      exact hsaved

/-- Settles O7: each op takes its slot and then jumps, falls through, or writes its tiller alone. -/
theorem branchAndFlowOps : Obligations.BranchAndFlowOps := by
  unfold Obligations.BranchAndFlowOps
  refine ⟨fun s t off r hc hdelay => ?_, fun s t hc => ?_⟩
  · have hrun := TileRun.issue hc t
    have htaken := fun c p => hrun.taken rfl rfl c p
    have hthrough : TileBecomes s ((s.takeSlot t 0).fallThrough t) t { s.tile t with til :=
        { (s.tile t).til with slots := (s.tile t).til.slots ++ [0], delay := 3 } } := (hrun.updTil _).becomes
    refine ⟨fun h hin => ?_, fun h => ⟨fun hr hin => ?_, fun hr => ?_⟩, fun h => ⟨fun hr hin => ?_, fun hr => ?_⟩,
      fun h hroom hin => ?_, fun h q rest hrets hin => ?_⟩
    · exact ⟨_, exec_next_of_eq rfl ((State.slotOp_of_issues _ h).trans (State.issued_branch_taken hc hdelay rfl hin)),
        htaken _ _⟩
    · exact ⟨_, exec_next_of_eq rfl ((State.slotOp_of_issues _ h).trans
        (State.issued_branch_taken hc hdelay (decide_eq_true hr) hin)), (htaken _ _).1⟩
    · exact ⟨_, exec_next_of_eq rfl ((State.slotOp_of_issues _ h).trans
        (State.issued_branch_untaken hc hdelay (decide_eq_false hr))), hthrough⟩
    · exact ⟨_, exec_next_of_eq rfl ((State.slotOp_of_issues _ h).trans
        (State.issued_branch_taken hc hdelay (decide_eq_true hr) hin)), (htaken _ _).1⟩
    · exact ⟨_, exec_next_of_eq rfl ((State.slotOp_of_issues _ h).trans
        (State.issued_branch_untaken hc hdelay (decide_eq_false (fun h => h hr)))), hthrough⟩
    · exact ⟨_, exec_next_of_eq rfl ((State.slotOp_of_issues _ h).trans (State.issued_call_taken hc hdelay hroom hin)),
        (hrun.updTil _).taken rfl rfl _ _⟩
    · exact ⟨_, exec_next_of_eq rfl ((State.slotOp_of_issues _ h).trans (State.issued_ret_taken hc hrets hdelay hin)),
        (hrun.updTil _).taken rfl rfl _ _⟩
  · have hrun := TileRun.issue hc t
    refine ⟨fun len1 n h hdelay hn hroom hin => ?_, fun len1 r h hdelay hn hroom hin => ?_,
      fun c h hdelay hloops => ?_, fun h hdelay hloops => ?_, fun n h => ?_⟩
    · obtain ⟨htil, honly⟩ := (hrun.updTil (fun m => { m with
        loopBuf := if m.loops.isEmpty then [] else m.loopBuf, loops := ⟨m.ipc, len1.val + 1, n.toNat⟩ :: m.loops })).becomes
      exact ⟨_, exec_next_of_eq rfl ((State.slotOp_of_issues _ h).trans
        (State.issued_loop_entered hc hdelay (fun h0 => hn (BitVec.eq_of_toNat_eq h0)) hroom hin)),
        congrArg (fun v => v.til.loops) htil, honly⟩
    · obtain ⟨htil, honly⟩ := (hrun.updTil (fun m => { m with
        loopBuf := if m.loops.isEmpty then [] else m.loopBuf,
        loops := ⟨m.ipc, len1.val + 1, (s.sreg t (r.toNat % 32)).toNat⟩ :: m.loops })).becomes
      exact ⟨_, exec_next_of_eq rfl ((State.slotOp_of_issues _ h).trans
        (State.issued_loop_entered hc hdelay (fun h0 => hn (BitVec.eq_of_toNat_eq h0)) hroom hin)),
        congrArg (fun v => v.til.loops) htil, honly⟩
    · have htil := State.til_takeSlot hc t 0
      obtain ⟨a, htiles, hsaved, hjump⟩ := State.task_jumps (c := c.val) (s.takeSlot_canonical hc t 0)
        (by rw [htil]; exact hdelay) (by rw [htil]; exact hloops)
      have hat : TileRun a a t ((s.takeSlot t 0).tile t) :=
        ⟨htiles ▸ hrun.tiles, by rw [State.tile, htiles, State.tile], fun _ _ => rfl, rfl⟩
      obtain ⟨⟨hredirect, hdel, -, -, -⟩, -⟩ := hat.jump c.val
        (if c.val = ((s.takeSlot t 0).tile t).til.active then ((s.takeSlot t 0).tile t).til.ipc + 3
          else (s.takeSlot t 0).regN t (ctxOff 0x110 c.val))
      rw [htil] at hsaved hjump hredirect hdel
      exact ⟨_, exec_next_of_eq rfl ((State.slotOp_of_issues _ h).trans hjump), hsaved, hredirect, hdel⟩
    · have htil := State.til_takeSlot hc t 0
      exact ⟨_, exec_next_of_eq rfl ((State.slotOp_of_issues _ h).trans
        (State.epochEnd_issued (by rw [htil]; exact hdelay) (by rw [htil]; exact hloops))), (hrun.updTil _).becomes⟩
    · exact ⟨_, exec_next_of_eq rfl (State.slotOp_of_issues _ h), (TileRun.takeSlot hc t n.val).becomes⟩

end Sys2Proof.Machine

/-! # PROOFS. Rows read back what was written (R143, R168, R169) -/

namespace Sys2Proof.Machine

open Sys2Proof

/-- Where a row's word stands among the 4,096 places of its bank: at its own place, or at the spare of a valid remap entry
that names it. -/
def State.PlaceOf (s : State) (t flat x : Nat) : Prop :=
  x = localOf flat ∨ ∃ m < 32, x = 2560 + m ∧ bitOf (s.regN t (remapOff (bankOf flat) m)) 31 = true ∧
    s.regN t (remapOff (bankOf flat) m) % 4096 = localOf flat

theorem localOf_lt (flat : Nat) : localOf flat < 2560 := Nat.mod_lt _ (by decide)

theorem State.PlaceOf.lt {s : State} {t flat x : Nat} (h : s.PlaceOf t flat x) : x < 4096 := by
  have hloc := localOf_lt flat
  obtain rfl | ⟨m, hm, rfl, -, -⟩ := h <;> omega

theorem State.cellKey_place (s : State) (t flat : Nat) :
    ∃ x, s.PlaceOf t flat x ∧ s.cellKey t flat = 65536 * t + 4096 * bankOf flat + x := by
  cases hspare : s.spareOf t (bankOf flat) (localOf flat) with
  | none => exact ⟨_, .inl rfl, by rw [State.cellKey, hspare]; rfl⟩
  | some m =>
    have hmem := List.mem_of_find?_eq_some hspare
    have hvalid := List.find?_some hspare
    rw [List.mem_reverse, List.mem_range] at hmem
    simp only [Bool.and_eq_true, decide_eq_true_eq] at hvalid
    refine ⟨2560 + m, .inr ⟨m, hmem, rfl, hvalid⟩, ?_⟩
    rw [State.cellKey, hspare]
    show 65536 * t + 4096 * bankOf flat + 2560 + m = _
    omega

/-- The place of a row's word tells which row of the bank it is. -/
theorem State.PlaceOf.row {s : State} {t flat flat' x : Nat} (h : s.PlaceOf t flat x) (h' : s.PlaceOf t flat' x)
    (hbank : bankOf flat = bankOf flat') : flat = flat' := by
  have hloc := localOf_lt flat
  have hloc' := localOf_lt flat'
  have hsame : localOf flat = localOf flat' := by
    obtain rfl | ⟨m, -, rfl, -, hm⟩ := h
    · obtain h' | ⟨m', -, hx, -, -⟩ := h'
      · exact h'
      · omega
    · obtain h' | ⟨m', -, hx, -, hm'⟩ := h'
      · omega
      · obtain rfl : m = m' := by omega
        rw [hbank] at hm
        exact hm.symm.trans hm'
  unfold bankOf at hbank
  unfold localOf at hsame
  omega

theorem bankOf_lt {flat : Nat} (h : flat < 40960) : bankOf flat < 16 := by
  unfold bankOf
  omega

/-- Two rows have one key only if they are one row of one tile. -/
theorem State.cellKey_injective (s : State) {t u flat g : Nat} (hflat : flat < 40960) (hg : g < 40960)
    (h : s.cellKey t flat = s.cellKey u g) : t = u ∧ flat = g := by
  obtain ⟨x, hx, hkey⟩ := s.cellKey_place t flat
  obtain ⟨y, hy, hkey'⟩ := s.cellKey_place u g
  have hxlt := hx.lt
  have hylt := hy.lt
  have hbank := bankOf_lt hflat
  have hbank' := bankOf_lt hg
  obtain rfl : t = u := by omega
  have hsame : bankOf flat = bankOf g := by omega
  obtain rfl : x = y := by omega
  exact ⟨rfl, hx.row hy hsame⟩

/-- A row's mirror spare is no place of a row: its entry is not valid (R169). -/
theorem State.mirror_ne_cellKey (s : State) {t u flat g m : Nat} (hflat : flat < 40960) (hg : g < 40960)
    (hm : m ∈ s.mirrorsOf t (bankOf flat) (localOf flat)) : s.cellKey u g ≠ spareKey t (bankOf flat) m := by
  intro h
  obtain ⟨x, hx, hkey⟩ := s.cellKey_place u g
  have hxlt := hx.lt
  have hbank := bankOf_lt hflat
  have hbank' := bankOf_lt hg
  have hloc := localOf_lt g
  simp only [State.mirrorsOf, List.mem_filter, List.mem_range, Bool.and_eq_true, Bool.not_eq_true'] at hm
  obtain ⟨hm32, ⟨-, hinvalid⟩, -⟩ := hm
  unfold spareKey at h
  obtain rfl : t = u := by omega
  have hsame : bankOf flat = bankOf g := by omega
  obtain hx | ⟨m', hm', hxm, hvalid, -⟩ := hx
  · omega
  · obtain rfl : m = m' := by omega
    rw [hsame] at hinvalid
    rw [hinvalid] at hvalid
    cases hvalid

theorem State.word_setMirrors (ms : List Nat) (t bank : Nat) (w : CodeWord) {key : Nat} (a : State)
    (h : ∀ m ∈ ms, key ≠ spareKey t bank m) :
    (ms.foldl (fun a m => a.setWord (spareKey t bank m) w) a).word key = a.word key := by
  induction ms generalizing a with
  | nil => rfl
  | cons m ms ih =>
    rw [List.foldl_cons, ih _ (fun n hn => h n (List.mem_cons_of_mem m hn)),
      State.word_setWord_other _ _ _ _ (h m List.mem_cons_self)]

theorem State.cellKey_setMirrors (ms : List Nat) (t bank : Nat) (w : CodeWord) (u g : Nat) (a : State) :
    (ms.foldl (fun a m => a.setWord (spareKey t bank m) w) a).cellKey u g = a.cellKey u g := by
  induction ms generalizing a with
  | nil => rfl
  | cons m ms ih => exact ih _

theorem State.cellKey_setRowWord (s : State) (t flat : Nat) (w : CodeWord) (u g : Nat) :
    (s.setRowWord t flat w).cellKey u g = s.cellKey u g :=
  State.cellKey_setMirrors _ t (bankOf flat) w u g (s.setWord (s.cellKey t flat) w)

theorem State.rowWord_setRowWord_same {s : State} (hc : Canonical s) (t : Nat) {flat : Nat} (hflat : flat < 40960)
    (w : CodeWord) : (s.setRowWord t flat w).rowWord t flat = w := by
  rw [State.rowWord, State.cellKey_setRowWord, State.setRowWord,
    State.word_setMirrors _ _ _ _ _ (fun m hm => s.mirror_ne_cellKey hflat hflat hm), State.word_setWord_same _ hc]

theorem State.rowWord_setRowWord_other (s : State) {t u flat g : Nat} (hflat : flat < 40960) (hg : g < 40960)
    (w : CodeWord) (hne : u ≠ t ∨ g ≠ flat) : (s.setRowWord t flat w).rowWord u g = s.rowWord u g := by
  have hkey : s.cellKey u g ≠ s.cellKey t flat := by
    intro h
    obtain ⟨rfl, rfl⟩ := s.cellKey_injective hg hflat h
    exact hne.elim (fun h => h rfl) (fun h => h rfl)
  rw [State.rowWord, State.cellKey_setRowWord, State.setRowWord,
    State.word_setMirrors _ _ _ _ _ (fun m hm => s.mirror_ne_cellKey hflat hg hm), State.word_setWord_other _ _ _ _ hkey]
  rfl

theorem State.setRowWord_rowsElse (s : State) (t : Nat) {flat : Nat} (hflat : flat < 40960) (w : CodeWord) :
    RowsElse s (s.setRowWord t flat w) t flat :=
  fun _ _ _ hg hne => s.rowWord_setRowWord_other hflat hg w hne

/-- Settles O12: no two rows share a place, and no mirror spare is a place. -/
theorem rowReadAfterWrite : Obligations.RowReadAfterWrite := by
  unfold Obligations.RowReadAfterWrite
  exact fun s t _ w hc _ hflat => ⟨State.rowWord_setRowWord_same hc t hflat w, s.setRowWord_rowsElse t hflat w⟩

end Sys2Proof.Machine

/-! # PROOFS. Vector ops (R79 to R82, R130 to R140) -/

namespace Sys2Proof.Machine

open Sys2Proof

/-! ## Tile-local registers that a run of writes leaves alone -/

theorem regKey_ne {t u off g : Nat} (hoff : off < 65536) (hg : g < 65536) (h : u ≠ t ∨ g ≠ off) :
    regKey u g ≠ regKey t off := by
  unfold regKey
  omega

theorem State.regN_setRegN_same {s : State} (hc : Canonical s) (t off n : Nat) :
    (s.setRegN t off n).regN t off = n % 2 ^ 64 := by
  rw [State.regN, State.setRegN, State.reg_setReg_same _ hc, BitVec.toNat_ofNat]

theorem State.regN_setRegN_other (s : State) {t off u g : Nat} (n : Nat) (hoff : off < 65536) (hg : g < 65536)
    (h : u ≠ t ∨ g ≠ off) : (s.setRegN t off n).regN u g = s.regN u g := by
  rw [State.regN, State.setRegN, State.reg_setReg_other _ _ _ _ _ _ (regKey_ne hoff hg h), State.regN]

/-- A run of writes of the registers `offs` of tile `t` has led from `s` to `a`: nothing else has changed. -/
structure RegsRun (s a : State) (t : Nat) (offs : List Nat) : Prop where
  regs : ∀ u g, g < 65536 → (u ≠ t ∨ g ∉ offs) → a.regN u g = s.regN u g
  rest : { a with tregs := s.tregs } = s

theorem RegsRun.start (s : State) (t : Nat) (offs : List Nat) : RegsRun s s t offs := ⟨fun _ _ _ _ => rfl, rfl⟩

theorem RegsRun.setRegN {s a : State} {t : Nat} {offs : List Nat} (h : RegsRun s a t offs) {off : Nat} (n : Nat)
    (hmem : off ∈ offs) (hoff : off < 65536) : RegsRun s (a.setRegN t off n) t offs := by
  refine ⟨fun u g hg hne => ?_, h.rest⟩
  rw [State.regN_setRegN_other _ _ hoff hg (hne.imp_right (fun hn he => hn (he ▸ hmem)))]
  exact h.regs u g hg hne

theorem RegsRun.setRegBit {s a : State} {t : Nat} {offs : List Nat} (h : RegsRun s a t offs) {off : Nat} (i : Nat) (b : Bool)
    (hmem : off ∈ offs) (hoff : off < 65536) : RegsRun s (a.setRegBit t off i b) t offs := h.setRegN _ hmem hoff

theorem RegsRun.bumpReg {s a : State} {t : Nat} {offs : List Nat} (h : RegsRun s a t offs) {off : Nat} (n top : Nat)
    (hmem : off ∈ offs) (hoff : off < 65536) : RegsRun s (a.bumpReg t off n top) t offs := h.setRegN _ hmem hoff

theorem RegsRun.tiles {s a : State} {t : Nat} {offs : List Nat} (h : RegsRun s a t offs) : a.tiles = s.tiles := by
  have := congrArg State.tiles h.rest
  exact this

theorem RegsRun.mem {s a : State} {t : Nat} {offs : List Nat} (h : RegsRun s a t offs) : a.mem = s.mem := by
  have := congrArg State.mem h.rest
  exact this

theorem RegsRun.tile {s a : State} {t : Nat} {offs : List Nat} (h : RegsRun s a t offs) (u : Nat) : a.tile u = s.tile u := by
  rw [State.tile, h.tiles, State.tile]

/-- An event of a lane shows in NUM_STATUS and OUT_SAT_COUNT alone. -/
def numOffs : List Nat := [0x2004, 0x2018]

theorem RegsRun.noteRounded {s a : State} {t : Nat} (h : RegsRun s a t numOffs) (r : Rounded) :
    RegsRun s (a.noteRounded t r) t numOffs := by
  have bit : ∀ {x : State} (p : Bool) (i : Nat), RegsRun s x t numOffs →
      RegsRun s (if p then x.setRegBit t 0x2004 i true else x) t numOffs := by
    intro x p i hx
    split
    · exact hx.setRegBit _ _ (by decide) (by decide)
    · exact hx
  have hsat : RegsRun s (if r.sat then (a.setRegBit t 0x2004 2 true).bumpReg t 0x2018 1 else a) t numOffs := by
    split
    · exact (h.setRegBit _ _ (by decide) (by decide)).bumpReg _ _ (by decide) (by decide)
    · exact h
  exact bit r.nanLost 5 (bit r.nanOut 4 (bit r.under 3 hsat))

theorem RegsRun.noteLane {s a : State} {t : Nat} (h : RegsRun s a t numOffs) (e : LaneOut) (conv : Bool) :
    RegsRun s (a.noteLane t e conv) t numOffs := by
  have hbit : ∀ {x : State} (p : Bool) (i : Nat), RegsRun s x t numOffs →
      RegsRun s (if p then x.setRegBit t 0x2004 i true else x) t numOffs := by
    intro x p i hx
    split
    · exact hx.setRegBit _ _ (by decide) (by decide)
    · exact hx
  refine hbit e.invalid 7 ?_
  split
  · exact h.noteRounded e.r
  · exact hbit e.r.nanOut 4 h

theorem RegsRun.noteLanes {s a : State} {t : Nat} (es : List LaneOut) (conv : Bool) (h : RegsRun s a t numOffs) :
    RegsRun s (es.foldl (fun a e => a.noteLane t e conv) a) t numOffs := by
  induction es generalizing a with
  | nil => exact h
  | cons e es ih => exact ih (h.noteLane e conv)

/-! ## A vector op's effect -/

theorem TileRun.writeV {s a : State} {t : Nat} {v : Tile} (h : TileRun s a t v) (w : VWrite) :
    TileRun s (a.writeV t w) t { v with vwrites := v.vwrites ++ [w] } := h.updTile _

theorem TileRun.writesV {s a : State} {t : Nat} {v : Tile} (qs : List Nat) (f : Nat → VWrite) (h : TileRun s a t v) :
    TileRun s (qs.foldl (fun a q => a.writeV t (f q)) a) t { v with vwrites := v.vwrites ++ qs.map f } := by
  induction qs generalizing a v with
  | nil => simpa using h
  | cons q qs ih => simpa using ih (h.writeV (f q))

/-- Reading its operands, an op at most draws random bits. -/
theorem TileRun.vecIn {s a : State} {t : Nat} {v : Tile} (h : TileRun s a t v) (op use : Nat) (o : VecOp) :
    ∃ draws, TileRun s (a.vecIn t op use o).2 t { v with draws := draws } := by
  unfold State.vecIn
  dsimp only
  split
  · exact ⟨_, h.updTile (fun tl => { tl with draws := tl.draws ++ [_] })⟩
  · split
    · exact ⟨_, h.updTile (fun tl => { tl with draws := tl.draws ++ [_] })⟩
    · exact ⟨_, h⟩

@[simp] theorem State.vecIn_ty (s : State) (t op use : Nat) (v : VecOp) : (s.vecIn t op use v).1.ty = v.ty.val := by
  unfold State.vecIn; dsimp only

@[simp] theorem State.vecIn_imm (s : State) (t op use : Nat) (v : VecOp) : (s.vecIn t op use v).1.imm = v.imm.toNat := by
  unfold State.vecIn; dsimp only

/-- What two outcomes of a vector op write is the same. -/
def VecOut.SameWrites (o p : VecOut) : Prop := o.val = p.val ∧ o.quarters = p.quarters ∧ o.mask = p.mask

theorem VecOut.SameWrites.refl (o : VecOut) : o.SameWrites o := ⟨rfl, rfl, rfl⟩

/-- A legal vector op counts itself, reads its operands, writes its quarters and notes its events. -/
theorem State.vecOp_legal (s : State) {t op lat use off : Nat} {v : VecOp} {legal : Bool} (srcs : List Nat)
    (f : VecIn → VecOut) (hlegal : legal = true) (hround : roundLegal use v.rnd.val = true)
    (hoff : (if op < 0x70 then 0x711c else 0x7120) = off) {i : VecIn} {s1 : State}
    (hin : (s.countReg t off 1).vecIn t op use v = (i, s1)) :
    s.vecOp t op lat use v legal srcs f =
      (f i).events.foldl (fun a e => a.noteLane t e (f i).conv)
        ((f i).quarters.foldl (fun a q => a.writeV t
          ⟨(s1.tile t).til.beat + lat - 1, 1, (s1.tile t).vorder, 4 * v.vd.val + q, (f i).mask, vquarterOf (f i).val q,
            srcs.any (fun q => Map.get (s.tile t).vpoison false q)⟩)
          (s1.updTile t (fun tl => { tl with vorder := tl.vorder + 1 }))) := by
  simp [State.vecOp, hlegal, hround, hoff, hin]

/-- A legal vector op that the tile issues has the result `f` gives for its operands (R81). -/
theorem State.vecSlot_result {s : State} (hc : Canonical s) {t op lat use : Nat} {v : VecOp} {legal : Bool} {srcs : List Nat}
    {f g : VecIn → VecOut} (hlegal : legal = true) (hround : roundLegal use v.rnd.val = true)
    (hissues : s.issues t 1 (vecFields op v) = true)
    (hsame : ∀ a : State, (f (a.vecIn t op use v).1).SameWrites (g (a.vecIn t op use v).1)) :
    VectorResult s (s.vecSlot t op lat use v legal srcs f) t op lat use v srcs g := by
  have hoff : (if op < 0x70 then 0x711c else 0x7120) = 0x711c ∨ (if op < 0x70 then 0x711c else 0x7120) = 0x7120 := by
    split
    · exact .inl rfl
    · exact .inr rfl
  generalize hoffeq : (if op < 0x70 then 0x711c else 0x7120) = off at hoff
  have hofflt : off < 65536 := by omega
  have hnotnum : off ∉ numOffs := by
    obtain rfl | rfl := hoff <;> decide
  have hslotc := s.takeSlot_canonical hc t 1
  have hcount : TileRun ((s.takeSlot t 1).countReg t off 1) ((s.takeSlot t 1).countReg t off 1) t
      { s.tile t with til := { (s.tile t).til with slots := (s.tile t).til.slots ++ [1] } } :=
    ⟨(TileRun.takeSlot hc t 1).tiles, (TileRun.takeSlot hc t 1).becomes.1, fun _ _ => rfl, rfl⟩
  have hothers := (TileRun.takeSlot hc t 1).becomes.2.others
  obtain ⟨draws, hrun⟩ := hcount.vecIn op use v
  obtain ⟨hval, hquarters, hmask⟩ := hsame ((s.takeSlot t 1).countReg t off 1)
  have hslot := State.slotOp_of_issues (fun s => s.vecOp t op lat use v legal srcs f) hissues
  unfold VectorResult
  rw [State.vecSlot, hslot]
  dsimp only
  rw [hoffeq]
  generalize hin : ((s.takeSlot t 1).countReg t off 1).vecIn t op use v = p at *
  obtain ⟨i, s1⟩ := p
  rw [State.vecOp_legal _ _ _ hlegal hround hoffeq hin, hrun.becomes.1, State.tile_takeSlot hc]
  dsimp only at hval hquarters hmask hrun ⊢
  rw [hval, hquarters, hmask]
  have hwrites := (hrun.updTile (fun tl => { tl with vorder := tl.vorder + 1 })).writesV (g i).quarters
    (fun q => ⟨(s.tile t).til.beat + lat - 1, 1, (s.tile t).vorder, 4 * v.vd.val + q, (g i).mask, vquarterOf (g i).val q,
      srcs.any (fun q => Map.get (s.tile t).vpoison false q)⟩)
  generalize List.foldl _ (State.updTile _ _ _) _ = b at hwrites ⊢
  obtain ⟨-, ⟨htile, honly⟩⟩ := hwrites
  have hnotes := (RegsRun.start b t numOffs).noteLanes (f i).events (f i).conv
  generalize List.foldl _ b _ = c at hnotes ⊢
  have hregs : ∀ u g, b.regN u g = ((s.takeSlot t 1).countReg t off 1).regN u g := fun u g => by
    rw [State.regN, State.reg, State.regN, State.reg]
    have := congrArg State.tregs honly.rest
    exact congrArg (fun m => BitVec.toNat (Map.get m _ _)) this
  have hmem : b.mem = s.mem := by
    have := congrArg State.mem honly.rest
    exact this
  rw [hnotes.tile, htile]
  refine ⟨rfl, ?_, rfl, rfl, fun u hu => ?_, fun u g hg hne => ?_, hnotes.mem.trans hmem⟩
  · rw [hnotes.regs _ _ hofflt (.inr hnotnum), hregs, State.countReg, State.regN_setRegN_same hslotc]
    show (s.regN t off + 1) % 2 ^ 32 % 2 ^ 64 = _
    omega
  · rw [hnotes.tile, honly.others u hu]
    exact hothers u hu
  · rw [hnotes.regs _ _ hg (hne.imp_right (fun h => fun hn => h (List.mem_cons_of_mem _ hn))), hregs, State.countReg,
      State.regN_setRegN_other _ _ hofflt hg (hne.imp_right (fun h he => h (he ▸ List.mem_cons_self)))]
    rfl

/-- The same, where the statement's function is the op's own. -/
theorem State.vecSlot_exact {s : State} (hc : Canonical s) {t op lat use : Nat} {v : VecOp} {legal : Bool} {srcs : List Nat}
    {f : VecIn → VecOut} (hlegal : legal = true) (hround : roundLegal use v.rnd.val = true)
    (hissues : s.issues t 1 (vecFields op v) = true) :
    VectorResult s (s.vecSlot t op lat use v legal srcs f) t op lat use v srcs f :=
  State.vecSlot_result hc hlegal hround hissues (fun _ => .refl _)

theorem VecOut.SameWrites.of_eq {o p : VecOut} (h : o = p) : o.SameWrites p := h ▸ .refl o

theorem ofLanes_congr {w n : Nat} {f g : Nat → Nat} (h : ∀ l < n, f l = g l) : ofLanes w n f = ofLanes w n g := by
  have hfold : ∀ (ls : List Nat), (∀ l ∈ ls, l < n) → ∀ z,
      ls.foldl (fun a i => a + f i % 2 ^ w * 2 ^ (w * i)) z = ls.foldl (fun a i => a + g i % 2 ^ w * 2 ^ (w * i)) z := by
    intro ls
    induction ls with
    | nil => exact fun _ _ => rfl
    | cons l ls ih =>
      intro hls z
      rw [List.foldl_cons, List.foldl_cons, h l (hls l List.mem_cons_self),
        ih (fun k hk => hls k (List.mem_cons_of_mem l hk))]
  rw [ofLanes, hfold _ (fun l hl => List.mem_range.1 hl), ofLanes]

/-- An op whose lanes may have events writes the lanes' bits. -/
theorem VecIn.lanesOut_writes {i : VecIn} {conv : Bool} {f : Nat → LaneOut} {g : Nat → Nat} (h : ∀ l, (f l).r.bits = g l) :
    (i.lanesOut conv f).SameWrites (i.bitsOut g) := by
  refine ⟨ofLanes_congr fun l hl => ?_, rfl, rfl⟩
  rw [List.getD_eq_getElem?_getD, List.getElem?_map, List.getElem?_range hl, Option.map_some, Option.getD_some, h]

/-- Settles O10: every op is a legal vector op whose function is the one named. -/
theorem vectorMoveAndArithmeticOps : Obligations.VectorMoveAndArithmeticOps := by
  unfold Obligations.VectorMoveAndArithmeticOps
  refine ⟨fun s t v hc => ?_, fun s t v hc => ?_⟩
  · have hk : v.imm.toNat % 64 % 32 = v.imm.toNat % 32 := Nat.mod_mod_of_dvd _ (by decide)
    refine ⟨fun h => ⟨_, rfl, State.vecSlot_exact hc rfl rfl h⟩, fun h => ⟨_, rfl, State.vecSlot_exact hc rfl rfl h⟩,
      fun h => ⟨_, rfl, State.vecSlot_exact hc rfl rfl h⟩, fun h => ⟨_, rfl, State.vecSlot_exact hc rfl rfl h⟩,
      fun h => ⟨_, rfl, State.vecSlot_exact hc rfl rfl h⟩,
      fun hlane h => ⟨_, rfl, State.vecSlot_result hc (decide_eq_true hlane) rfl h fun a => .of_eq ?_⟩,
      fun h => ⟨_, rfl, State.vecSlot_result hc rfl rfl h fun a => .of_eq ?_⟩,
      fun h => ⟨_, rfl, State.vecSlot_result hc rfl rfl h fun a => .of_eq ?_⟩,
      fun hty h => ⟨_, rfl, State.vecSlot_result hc (decide_eq_true hty) rfl h fun a => .of_eq ?_⟩,
      fun hty h => ⟨_, rfl, State.vecSlot_result hc (decide_eq_true hty) rfl h fun a => .of_eq ?_⟩,
      fun hty h => ⟨_, rfl, State.vecSlot_result hc (decide_eq_true hty) rfl h fun a => .of_eq ?_⟩,
      fun h => ⟨_, rfl, State.vecSlot_exact hc rfl rfl h⟩⟩
    · rw [State.vecIn_imm]
    · rw [State.vecIn_imm, State.vecIn_ty]
    · rw [State.vecIn_ty]
    · rw [State.vecIn_imm, hk]
    · rw [State.vecIn_imm, hk]
    · rw [State.vecIn_imm, hk]
  · exact ⟨fun hr h => ⟨_, rfl, State.vecSlot_exact hc rfl hr h⟩, fun hr h => ⟨_, rfl, State.vecSlot_exact hc rfl hr h⟩,
      fun hr h => ⟨_, rfl, State.vecSlot_exact hc rfl hr h⟩, fun hr h => ⟨_, rfl, State.vecSlot_exact hc rfl hr h⟩,
      fun hr h => ⟨_, rfl, State.vecSlot_result hc rfl hr h fun _ => VecIn.lanesOut_writes fun _ => rfl⟩,
      fun hr h => ⟨_, rfl, State.vecSlot_result hc rfl hr h fun _ => VecIn.lanesOut_writes fun _ => rfl⟩,
      fun hr h => ⟨_, rfl, State.vecSlot_exact hc rfl hr h⟩, fun hr h => ⟨_, rfl, State.vecSlot_exact hc rfl hr h⟩,
      fun hr h => ⟨_, rfl, State.vecSlot_exact hc rfl hr h⟩, fun hr h => ⟨_, rfl, State.vecSlot_exact hc rfl hr h⟩,
      fun hr h => ⟨_, rfl, State.vecSlot_exact hc rfl hr h⟩, fun hr h => ⟨_, rfl, State.vecSlot_exact hc rfl hr h⟩⟩

theorem pairUp_map {α β : Type} {f : α → α → α} {g : β → β → β} {r : α → β} (h : ∀ a b, r (f a b) = g (r a) (r b)) :
    ∀ l : List α, (pairUp f l).map r = pairUp g (l.map r)
  | a :: b :: rest => by simp [pairUp, h, pairUp_map h rest]
  | [_] => rfl
  | [] => rfl

theorem treeFold_map {α β : Type} {f : α → α → α} {g : β → β → β} {r : α → β} (h : ∀ a b, r (f a b) = g (r a) (r b)) (z : α)
    (n : Nat) (l : List α) : r (treeFold f z n l) = treeFold g (r z) n (l.map r) := by
  induction n generalizing l with
  | zero => cases l <;> rfl
  | succ n ih => rw [treeFold, ih, pairUp_map h, treeFold]

/-- A reduction's result depends on the bits of its steps alone. -/
theorem VecIn.reduce_bits {i : VecIn} {f : LaneOut → LaneOut → LaneOut} {g : Nat → Nat → Nat} {pre : Nat → Nat}
    (h : ∀ a b, (f a b).r.bits = g a.r.bits b.r.bits) :
    (i.reduce f pre).r.bits = treeFold g 0 6 ((List.range (laneCount i.ty)).map (fun l => pre (i.na l))) := by
  rw [VecIn.reduce, treeFold_map (r := fun o : LaneOut => o.r.bits) (g := g) h, List.map_map]
  rfl

/-- A reduction writes its result in lane 0, and an event of its last step changes no bit. -/
theorem VecIn.single_writes {i : VecIn} {f : LaneOut → LaneOut → LaneOut} {g : Nat → Nat → Nat} {pre : Nat → Nat}
    (h : ∀ a b, (f a b).r.bits = g a.r.bits b.r.bits) :
    (VecOut.single (i.reduce f pre)).SameWrites
      (.whole (BitVec.ofNat 1024 (i.reduce (fun a b => .plain (g a.r.bits b.r.bits)) pre).r.bits)) :=
  ⟨congrArg (BitVec.ofNat 1024) ((VecIn.reduce_bits h).trans (VecIn.reduce_bits (fun _ _ => rfl)).symm), rfl, rfl⟩

theorem notInt {v : VecOp} (h : v.ty.val ≠ 3) : (!isInt v) = true := by
  simp [isInt, h]

/-- Settles O11: every op is a legal vector op whose function is the one named. -/
theorem vectorReduceAndFunctionOps : Obligations.VectorReduceAndFunctionOps := by
  unfold Obligations.VectorReduceAndFunctionOps
  refine ⟨fun s t v hc => ?_, fun s t v hc hty => ?_⟩
  · have hfmt : bitsOf v.imm.toNat 3 0 = v.imm.toNat % 16 := by simp [bitsOf]
    have hmx : v.ty.val ≠ 3 ∧ 8 ≤ bitsOf v.imm.toNat 3 0 ∧ bitsOf v.imm.toNat 3 0 ≤ 0xD →
        (!isInt v && decide (8 ≤ v.imm.toNat % 16) && decide (v.imm.toNat % 16 ≤ 0xD)) = true := by
      rintro ⟨hty, hlow, hhigh⟩
      rw [hfmt] at hlow hhigh
      simp [notInt hty, hlow, hhigh]
    refine ⟨fun hr h => ⟨_, rfl, State.vecSlot_exact hc rfl hr h⟩,
      fun hr h => ⟨_, rfl, State.vecSlot_result hc rfl hr h fun _ => VecIn.single_writes fun _ _ => rfl⟩,
      fun hr h => ⟨_, rfl, State.vecSlot_result hc rfl hr h fun _ => VecIn.single_writes fun _ _ => rfl⟩,
      fun hr h => ⟨_, rfl, State.vecSlot_result hc rfl hr h fun _ => ⟨rfl, rfl, rfl⟩⟩,
      fun hlegal hr h => ⟨_, rfl, State.vecSlot_exact hc hlegal hr h⟩,
      fun hlegal hr h => ⟨_, rfl, State.vecSlot_exact hc hlegal hr h⟩,
      fun hty hr h => ⟨_, rfl, State.vecSlot_exact hc (notInt hty) hr h⟩,
      fun hty hr h => ⟨_, rfl, State.vecSlot_exact hc (notInt hty) hr h⟩,
      fun hm hr h => ⟨_, rfl, State.vecSlot_result hc (hmx hm) hr h fun _ => .of_eq ?_⟩,
      fun hm hr h => ⟨_, rfl, State.vecSlot_exact hc (hmx hm) hr h⟩⟩
    rw [State.vecIn_imm, hfmt]
  · have hint := notInt hty
    exact ⟨fun hr h => ⟨_, rfl, State.vecSlot_exact hc hint (decide_eq_true hr) h⟩,
      fun hr h => ⟨_, rfl, State.vecSlot_exact hc hint (decide_eq_true hr) h⟩,
      fun hr h => ⟨_, rfl, State.vecSlot_exact hc hint (decide_eq_true hr) h⟩,
      fun hr h => ⟨_, rfl, State.vecSlot_exact hc hint (decide_eq_true hr) h⟩,
      fun hr h => ⟨_, rfl, State.vecSlot_exact hc hint (decide_eq_true hr) h⟩,
      fun hr h => ⟨_, rfl, State.vecSlot_exact hc hint (decide_eq_true hr) h⟩,
      fun hr h => ⟨_, rfl, State.vecSlot_exact hc hint (decide_eq_true hr) h⟩,
      fun hr h => ⟨_, rfl, State.vecSlot_exact hc hint (decide_eq_true hr) h⟩,
      fun hr h => ⟨_, rfl, State.vecSlot_exact hc hint (decide_eq_true hr) h⟩,
      fun hr h => ⟨_, rfl, State.vecSlot_exact hc hint (decide_eq_true hr) h⟩,
      fun hr h => ⟨_, rfl, State.vecSlot_exact hc hint (decide_eq_true hr) h⟩,
      fun h => ⟨_, rfl, State.vecSlot_exact hc hint rfl h⟩⟩

end Sys2Proof.Machine

/-! # PROOFS. Array streams and stationary sets (R93 to R104) -/

namespace Sys2Proof.Machine

open Sys2Proof

/-- The tile as it stands once its array slot is taken. -/
theorem TileRun.arraySlot {s : State} (hc : Canonical s) (t : Nat) :
    TileRun s (s.takeSlot t 2) t
      { s.tile t with til := { (s.tile t).til with slots := (s.tile t).til.slots ++ [2] } } := TileRun.takeSlot hc t 2

/-- The stream that a legal array op puts in flight. -/
def arrStreamOf (s : State) (t kind : Nat) (o : ArrOp) : ArrStream :=
  ⟨(s.tile t).til.beat, kind, o.fmt.val, o.outFmt.val, o.rnd.val, o.count.toNat, o.vd.val, o.ring.val, o.gen.val, o.acc,
    s.regN t 0x1000 % 2, s.regN t 0x100c, s.regN t 0x2000, (s.tile t).til.active, [], false, none, none, []⟩

/-- A legal stream whose set matches, with rows to stream and the array free, takes the array (R93, R95, R100). -/
theorem State.stream_starts {s : State} {t kind : Nat} {o : ArrOp} (hfmt : arrFmt o.fmt.val = true) (hout : o.outFmt.val ≠ 7)
    (hrnd : o.rnd.val ≤ 5) (hvalid : (s.tile t).arr.active.valid = true)
    (hgroup : fmtGroup o.fmt.val = fmtGroup (s.tile t).arr.active.fmt)
    (hmajor : (s.tile t).arr.active.colMajor = decide (kind = 1))
    (hring : ¬(ringUnits o.outFmt.val (s.width t) = 2 ∧ o.ring.val = 0)) (hcount : o.count ≠ 0)
    (hfree : (s.tile t).arr.nextFree ≤ (s.tile t).til.beat) :
    s.stream t kind o = s.updArr t (fun a => { a with
      streams := a.streams ++ [arrStreamOf s t kind o],
      nextFree := (s.tile t).til.beat + feedRows o.fmt.val * o.count.toNat,
      gens := if kind = 2 ∧ fmtWidth o.fmt.val = 16 then
          a.gens.map (fun p => if p.1 = o.gen.val ∧ p.2.start = (s.tile t).til.beat then
            (p.1, { p.2 with quad := true }) else p)
        else a.gens }) := by
  have hrnd' : ¬ 5 < o.rnd.val := by omega
  have hcount' : o.count.toNat ≠ 0 := fun h => hcount (BitVec.eq_of_toNat_eq h)
  have hfree' : ¬ (s.tile t).til.beat < (s.tile t).arr.nextFree := by omega
  simp only [State.stream, arrStreamOf]
  simp [hfmt, hout, hrnd', hvalid, hgroup, hmajor, hcount', hfree']
  exact fun hunits hzero => absurd ⟨hunits, congrArg Fin.val hzero⟩ hring

theorem State.issued_stream_starts {s : State} (hc : Canonical s) {t kind : Nat} {o : ArrOp}
    (hfmt : arrFmt o.fmt.val = true) (hout : o.outFmt.val ≠ 7)
    (hrnd : o.rnd.val ≤ 5) (hvalid : (s.tile t).arr.active.valid = true)
    (hgroup : fmtGroup o.fmt.val = fmtGroup (s.tile t).arr.active.fmt)
    (hmajor : (s.tile t).arr.active.colMajor = decide (kind = 1))
    (hring : ¬(ringUnits o.outFmt.val (s.width t) = 2 ∧ o.ring.val = 0)) (hcount : o.count ≠ 0)
    (hfree : (s.tile t).arr.nextFree ≤ (s.tile t).til.beat) :
    TileBecomes s ((s.takeSlot t 2).stream t kind o) t { s.tile t with
      til := { (s.tile t).til with slots := (s.tile t).til.slots ++ [2] },
      arr := { (s.tile t).arr with
        streams := (s.tile t).arr.streams ++ [arrStreamOf s t kind o],
        nextFree := (s.tile t).til.beat + feedRows o.fmt.val * o.count.toNat,
        gens := if kind = 2 ∧ fmtWidth o.fmt.val = 16 then
            (s.tile t).arr.gens.map (fun p => if p.1 = o.gen.val ∧ p.2.start = (s.tile t).til.beat then
              (p.1, { p.2 with quad := true }) else p)
          else (s.tile t).arr.gens } } := by
  have htile := State.tile_takeSlot hc t 2
  rw [State.stream_starts (s := s.takeSlot t 2) hfmt hout hrnd (by rw [htile]; exact hvalid) (by rw [htile]; exact hgroup)
    (by rw [htile]; exact hmajor) hring hcount (by rw [htile]; exact hfree), arrStreamOf, htile]
  exact ((TileRun.arraySlot hc t).updArr _).becomes

theorem State.shadowLoad_begins {s : State} {t : Nat} {o : ArrOp} (hfmt : arrFmt o.fmt.val = true)
    (hlen : o.count.toNat = setLen o.fmt.val) (hgen : o.gen.val < 2) (hload : (s.tile t).arr.load = none)
    (hswap : ∀ b, (s.tile t).arr.swapBeat = some b → b + 64 ≤ (s.tile t).til.beat) :
    s.shadowLoad t o = s.updArr t (fun a => { a with
      shadow := ⟨false, o.fmt.val, o.acc, [], false⟩, complete := false, completeAt := none,
      armed := decide (16 ≤ o.vd.val),
      load := some ⟨(s.tile t).til.beat, 0, setLen o.fmt.val, o.gen.val, s.regN t 0x1010, (s.tile t).til.active⟩ }) := by
  have hgen' : ¬ 2 ≤ o.gen.val := by omega
  cases hb : (s.tile t).arr.swapBeat with
  | none => simp [State.shadowLoad, hfmt, hlen, hgen', hload, hb]
  | some b =>
    have hlate : ¬ (s.tile t).til.beat < b + 64 := Nat.not_lt.2 (hswap b hb)
    simp [State.shadowLoad, hfmt, hlen, hgen', hload, hb, hlate]

theorem State.clear_takes {s : State} {t : Nat} {o : ArrOp} (hcount : o.count ≠ 0)
    (hrows : ∀ r ∈ (s.tile t).arr.rows, r.beat + 66 ≤ (s.tile t).til.beat)
    (hstreams : ∀ x ∈ (s.tile t).arr.streams, (s.tile t).til.beat < x.beat + 2) :
    s.clear t o = s.updArr t (fun a => { a with clearTo := o.count.toNat }) := by
  have hcount' : o.count.toNat ≠ 0 := fun h => hcount (BitVec.eq_of_toNat_eq h)
  have hnorow : (s.tile t).arr.rows.any (fun r => decide ((s.tile t).til.beat < r.beat + 66)) = false :=
    List.any_eq_false.2 fun r hr => by simpa using hrows r hr
  have hnostream : (s.tile t).arr.streams.any (fun m => decide (m.beat + 2 ≤ (s.tile t).til.beat)) = false :=
    List.any_eq_false.2 fun x hx => by simpa using hstreams x hx
  simp [State.clear, hcount', hnorow, hnostream]

/-- Settles O14: each op takes its slot and writes the tile's array alone. -/
theorem arrayStreamsAndSets : Obligations.ArrayStreamsAndSets := by
  unfold Obligations.ArrayStreamsAndSets
  refine ⟨fun s t o hc => ⟨fun h hfmt hout hrnd hvalid hgroup hmajor hring hcount hfree => ?_,
      fun h hfmt hout hrnd hvalid hgroup hmajor hring hcount hfree => ?_,
      fun h hfmt hout hrnd hvalid hgroup hmajor hring hcount hfree => ?_⟩,
    fun s t o hc => ⟨fun h hfmt hlen hgen hload hswap => ?_, fun b hat hb => ?_, fun h hcomplete => ?_,
      fun h hcount hrows hstreams => ?_⟩⟩
  · exact ⟨_, exec_next_of_eq rfl (State.slotOp_of_issues _ h),
      State.issued_stream_starts hc hfmt hout hrnd hvalid hgroup hmajor hring hcount hfree⟩
  · exact ⟨_, exec_next_of_eq rfl (State.slotOp_of_issues _ h),
      State.issued_stream_starts hc hfmt hout hrnd hvalid hgroup hmajor hring hcount hfree⟩
  · exact ⟨_, exec_next_of_eq rfl (State.slotOp_of_issues _ h),
      State.issued_stream_starts hc hfmt hout hrnd hvalid hgroup hmajor hring hcount hfree⟩
  · have htile := State.tile_takeSlot hc t 2
    have hload' := State.shadowLoad_begins (s := s.takeSlot t 2) (t := t) hfmt hlen hgen (by rw [htile]; exact hload)
      (by rw [htile]; exact hswap)
    rw [htile] at hload'
    exact ⟨_, exec_next_of_eq rfl ((State.slotOp_of_issues _ h).trans hload'),
      ((TileRun.arraySlot hc t).updArr _).becomes⟩
  · refine ⟨s.updArr t (fun a => { a with complete := true, completeAt := none, freshAt := some (s.tile t).til.beat }), ?_,
      ((TileRun.start hc t).updArr _).becomes⟩
    show execShadowComplete t s = _
    rw [execShadowComplete, hat]
    exact if_pos hb
  · have htile := State.tile_takeSlot hc t 2
    have hswap : (s.takeSlot t 2).swap t = _ := if_pos (by rw [htile]; exact hcomplete)
    rw [htile] at hswap
    exact ⟨_, exec_next_of_eq rfl ((State.slotOp_of_issues _ h).trans hswap),
      ((TileRun.arraySlot hc t).updArr _).becomes⟩
  · have htile := State.tile_takeSlot hc t 2
    exact ⟨_, exec_next_of_eq rfl ((State.slotOp_of_issues _ h).trans
      (State.clear_takes hcount (by rw [htile]; exact hrows) (by rw [htile]; exact hstreams))),
      ((TileRun.arraySlot hc t).updArr _).becomes⟩

end Sys2Proof.Machine

/-! # PROOFS. Statements that a tile's own lists refute

The canonical form says nothing of the lists inside a tile either: a register write that waits for the end of the beat may
name any register. -/

namespace Sys2Proof.Machine

open Sys2Proof

/-- Tile 0 has its pulse, and a write of TILLER_MISMATCH_CNT among the stream registers' writes that take effect with the
beat's end. -/
def mismatchPending : State :=
  { State.reset with tiles := [(0, { Tile.init with
      til := { Tile.init.til with pulse := true }, streamPend := [(0x20, 7)] })] }

/-- Refutes O22: the pending write replaces the count that the mismatch has raised. -/
theorem not_pulsesAndBeats : ¬ Obligations.PulsesAndBeats := by
  unfold Obligations.PulsesAndBeats
  intro h
  obtain ⟨-, -, hmismatch⟩ := h.2.1 mismatchPending 0 (canonical_of_canonicalB (by decide +kernel))
  obtain ⟨-, -, hcount, -⟩ := after_of (hmismatch false (by decide +kernel) (by decide +kernel) (by decide +kernel))
  exact absurd hcount (by decide +kernel)

end Sys2Proof.Machine

/-! # PROOFS. Statements on barges that a port listed twice refutes -/

namespace Sys2Proof.Machine

open Sys2Proof

/-- A barge head of channel 0 with sequence number 0 and no rows. -/
def emptyHead : Flit := mkFlit 2 false false 0 0 0 (kolvosEncode 0)

/-- The link part lists port 0 twice, each time with a head accepted. -/
def headTwice : State :=
  portTwice 3 { Port.init with accepted := [emptyHead] } { Port.init with accepted := [emptyHead] }

/-- The link part lists port 0 twice, as after reset and with a barge to send, and its descriptor window has one row. -/
def windowTwice : State :=
  { State.reset with
    objs := [(objKey (portObj 0) 1, 3), (objKey (portObj 0) 0xF, 0x100000)],
    link := { State.reset.link with
      ports := [(0, Port.init), (0, { Port.init with tx := [⟨0, 0, 0, 0, false, 0, 0, false, none⟩] })] } }

/-- Refutes O31: with its one accepted flit taken the port is as after reset, and its second entry, which holds a flit,
shows. -/
theorem not_flitsAndBarges : ¬ Obligations.FlitsAndBarges := by
  unfold Obligations.FlitsAndBarges
  intro h
  obtain ⟨hhead, -⟩ := h.2 headTwice 0 0 emptyHead (canonical_of_canonicalB (by decide +kernel))
  obtain ⟨hopens, -⟩ := hhead (by decide +kernel) (by decide +kernel) (by decide +kernel) (by decide +kernel)
    (by decide +kernel) (by decide +kernel)
  obtain ⟨hleft, -⟩ := after_of (hopens (by decide +kernel) (by decide +kernel) (by decide +kernel) (by decide +kernel)
    (by decide +kernel) (by decide +kernel))
  exact absurd hleft (by decide +kernel)

/-- Refutes O32: with the window's position back at its first row the port is as after reset, and its second entry, which
holds a barge, shows. -/
theorem not_bargesLandAndLeave : ¬ Obligations.BargesLandAndLeave := by
  unfold Obligations.BargesLandAndLeave
  intro h
  obtain ⟨hread, -⟩ := h.2 windowTwice 0 (canonical_of_canonicalB (by decide +kernel))
  obtain ⟨-, -, htx⟩ := after_of (hread (by decide +kernel) (by decide +kernel) (by decide +kernel) (by decide +kernel)
    (by decide +kernel) (by decide +kernel) (by decide +kernel) (by decide +kernel) (by decide +kernel) (by decide +kernel)
    (by decide +kernel) (by decide +kernel) (by decide +kernel) (by decide +kernel) (by decide +kernel))
  exact absurd (congrArg List.length htx) (by decide +kernel)

end Sys2Proof.Machine

/-! # PROOFS. Alarms of the Lockkeeper's agents carry their basin's epoch

`State.agentAlarm` puts the epoch number of its basin into the message. A statement that gives the whole message with the
epoch 0 fails in the first epoch after that. -/

namespace Sys2Proof.Machine

open Sys2Proof

/-- Basin 0 has the rectangle of pound 0's first tiles, and stands in epoch 1. -/
def inEpochOne (v : Basin) : State :=
  { State.reset with objs := [(objKey 0x2610 1, 1)], basins := [(0, { v with rect := some (0, 0, 0, 0) })] }

/-- Refutes O51: the alarm of the lasting fault names epoch 1. -/
theorem not_collectionAndTests : ¬ Obligations.CollectionAndTests := by
  unfold Obligations.CollectionAndTests
  intro h
  let s := inEpochOne { Basin.init with tests := [(0, 5, true), (1, 5, true)] }
  obtain ⟨-, -, -, -, htest⟩ := h s 0 ⟨0, 0, 0, 0, 0, 0, 0⟩ 0 5 0 0 (0, 5, true) [(1, 5, true)]
    (canonical_of_canonicalB (by decide +kernel))
  obtain ⟨-, hlasting⟩ := htest (by decide +kernel) rfl rfl rfl (by decide)
  obtain ⟨-, -, -, halarm⟩ := after_of hlasting
  exact absurd halarm (by decide +kernel)

/-- Refutes O53: the alarm of the fault that a slice finds in tile 0 names epoch 1. -/
theorem not_testingInService : ¬ Obligations.TestingInService := by
  unfold Obligations.TestingInService
  intro h
  obtain ⟨-, -, -, hfault, -⟩ := h (inEpochOne Basin.init) 0 0 4 false 0 []
    (canonical_of_canonicalB (by decide +kernel))
  have hhere : ¬((4 : Fin 9).val = 0 ∨
      (∃ n, (inEpochOne Basin.init).basinOf (0 : TileId) = some n ∧ ((inEpochOne Basin.init).basin n).stop = true) ∨
      ((inEpochOne Basin.init).tile (0 : TileId)).dark = true ∨
      ((4 : Fin 9).val = 8 ∧ (inEpochOne Basin.init).basinOf (0 : TileId) ≠ none) ∨
      (inEpochOne Basin.init).trierOwns (0 : TileId) (4 : Fin 9) false 0 = false) := by
    rintro (h4 | ⟨n, hn, hstop⟩ | hdark | ⟨h8, -⟩ | howns)
    · exact absurd h4 (by decide)
    · rw [show (inEpochOne Basin.init).basinOf (0 : TileId) = some 0 by decide +kernel, Option.some_inj] at hn
      subst hn
      exact absurd hstop (by decide +kernel)
    · exact absurd hdark (by decide +kernel)
    · exact absurd h8 (by decide)
    · exact absurd howns (by decide +kernel)
  obtain ⟨-, halarm⟩ := after_of (hfault hhere rfl)
  exact absurd halarm (by decide +kernel)

/-- A tile of field 0 that the ledger excludes. -/
def excluded (p : Nat) : LedgerEntry := ⟨1, true, false, false, some p, 0, 0, 0, 0⟩

/-- Basin 0 is held for a remap at the lock of epoch 1. Its tile 0 is lost, and so are pounds 0 and 1 of its field, so no
map is left. -/
def lostInEpochOne : State :=
  let s := inEpochOne { Basin.init with holds := [(.remap, 0)] }
  { s with
    objs := [(objKey (poundObj 0) 1, 4), (objKey (poundObj 1) 1, 4), (objKey 0x2610 1, 1)],
    tiles := (rectTiles (0, 0, 0, 0)).map (fun t => (t, { Tile.init with
      lk := { Tile.init.lk with atLock := true, open_ := true } })),
    boot := { s.boot with ledger := [excluded (s.physOf 0)] } }

/-- Refutes O52: the alarm of the job that ends names epoch 1. -/
theorem not_replayAndMoves : ¬ Obligations.ReplayAndMoves := by
  unfold Obligations.ReplayAndMoves
  intro h
  obtain ⟨-, -, hremap⟩ := h.1 lostInEpochOne 0 [] (canonical_of_canonicalB (by decide +kernel))
  obtain ⟨-, -, hnone⟩ := hremap (by decide +kernel)
  obtain ⟨-, -, halarm⟩ := after_of (hnone (by decide +kernel) (by decide +kernel) 0 (by decide +kernel) (by decide +kernel))
  exact absurd halarm (by decide +kernel)

end Sys2Proof.Machine

/-! # PROOFS. Objects, and restores from the cellar

Objects have keys of their own: a store of one leaves every other. -/

namespace Sys2Proof.Machine

open Sys2Proof

variable {s : State}

/-! ## Rules for objects -/

/-- A watch of no part: what is good for it stands in canonical form. -/
abbrev noParts : Parts :=
  ⟨false, false, false, false, false, false, false, false, false, false, false, false, false, false, false, false, false,
    false, false, false, false, false⟩

abbrev formOf (s : State) : Watch := ⟨s.pending, s, noParts⟩

/-- The part is outside every watch that `noParts` makes. -/
theorem unwatched_false : Unwatched false := ⟨rfl⟩

/-- Objects of different places, where the sub-index of each is a byte. -/
theorem State.obj_setObj_else (s : State) (i j n k l : Nat) (h : 256 * k + l ≠ 256 * i + j) :
    (s.setObj i j n).obj k l = s.obj k l := s.obj_setObj_other i j n k l h

/-! ## Ends of restores (R427 to R429) -/

theorem State.showCellar_obj (s : State) {k l : Nat} (h1 : 256 * k + l ≠ 256 * 0x2900 + 1)
    (h3 : 256 * k + l ≠ 256 * 0x2900 + 3) : s.showCellar.obj k l = s.obj k l := by
  rw [State.showCellar, State.obj_setObj_else _ _ _ _ _ _ h3, State.obj_setObj_else _ _ _ _ _ _ h1]

theorem State.showCellar_cellar (s : State) : s.showCellar.cellar = s.cellar := rfl

theorem State.restoreEnd_cellar (s : State) (b status : Nat) : (s.restoreEnd b status).cellar =
    { s.cellar with restores := s.cellar.restores.filter (fun r => decide (r.basin ≠ b)) } := by
  unfold State.restoreEnd
  simp only [State.showCellar_cellar]
  split <;> split <;> rfl

/-- What a restore that ends shows of itself is written first; the objects it writes later are others. -/
theorem State.restoreEnd_obj (s : State) (b : BasinId) (status l : Nat) (hl : l < 256) :
    (s.restoreEnd b status).obj (snapObj b) l =
      ((s.setObj (snapObj b) 0xE (if status ≤ 1 then 3 else 4)).setObj (snapObj b) 0xF status).obj (snapObj b) l := by
  have hb := b.isLt
  rw [State.restoreEnd, State.showCellar_obj _ (by simp only [snapObj]; omega) (by simp only [snapObj]; omega)]
  split <;> split <;>
    simp only [State.obj_agentIrq_read, State.obj_agentAlarm_read,
      State.obj_setObj_else _ (0x2810 + b.val) 1 _ _ _ (show 256 * snapObj b + l ≠ _ by simp only [snapObj]; omega)] <;> rfl

/-- A restore that ends shows its state and status, and is no longer among the restores. -/
theorem State.restoreEnd_shows (hc : Canonical s) (b : BasinId) {status : Nat} (hst : status < 16) :
    (s.restoreEnd b status).obj (snapObj b) 0xE = (if status ≤ 1 then 3 else 4) ∧
      (s.restoreEnd b status).obj (snapObj b) 0xF = status ∧
      ∀ x ∈ (s.restoreEnd b status).cellar.restores, x.basin ≠ b.val := by
  refine ⟨?_, ?_, ?_⟩
  · rw [State.restoreEnd_obj _ _ _ _ (by decide), State.obj_setObj_else _ _ _ _ _ _ (by omega),
      State.obj_setObj_same _ hc]
    split <;> rfl
  · rw [State.restoreEnd_obj _ _ _ _ (by decide), State.obj_setObj_same _ (State.setObj_canonical hc _ _ _)]
    exact Nat.mod_eq_of_lt (by omega)
  · rw [State.restoreEnd_cellar]
    simp

/-- A restore's last steps end it in canonical form, with 1 after a fallback and 0 else. -/
theorem State.restoreFinish_ends (hc : Canonical s) (b : Nat) (r : SnapRecord) (image : ImageFacts)
    (table : Map (BitVec 128)) (fallback : Bool) :
    ∃ x, Canonical x ∧ s.restoreFinish b r image table fallback = x.restoreEnd b (if fallback then 1 else 0) := by
  have hout := unwatched_false
  refine ⟨_, ?_, rfl⟩
  exact (State.completeLock_good (State.updCellar_good (State.setObj_good (State.updBasin_good (State.restoreBasin_good
    (good_foldl (fun _ _ h => State.atOpenLock_good (State.fillSnap_good h)) _ (good_start hc noParts))))))).canon

/-- What a restore's command answers, as the statement of O55 names it. -/
def RestoreEnds (b : BasinId) (a : State) (state status : Nat) : Prop :=
  a.obj (snapObj b) 0xE = state ∧ a.obj (snapObj b) 0xF = status ∧ ∀ x ∈ a.cellar.restores, x.basin ≠ b.val

theorem restoreEnds_of_status (hc : Canonical s) (b : BasinId) {status : Nat} (h1 : 1 < status) (h16 : status < 16) :
    RestoreEnds b (s.restoreEnd b status) 4 status := by
  have h := State.restoreEnd_shows hc b h16
  rwa [if_neg (by omega)] at h

/-- A chain that begins with a full record is that record. -/
theorem newChain_full {r : SnapRecord} (rest : List SnapRecord) (h : r.full = true) : newChain (r :: rest) = [r] := by
  rw [newChain, if_pos h]

/-- A restore begins to fill with a job. -/
def State.restoreFill (s : State) (b : Nat) (job : RestoreJob) : State :=
  (((s.updCellar (fun k => { k with
      restores := k.restores.filter (fun x => decide (x.basin ≠ b)) ++ [job] })).setObj (snapObj b) 0xE 2).setObj
    (0x2810 + b) 1 6).showCellar

theorem State.restoreFill_shows (hc : Canonical s) (b : BasinId) (job : RestoreJob) :
    (s.restoreFill b job).obj (snapObj b) 0xE = 2 ∧ (s.restoreFill b job).obj (0x2810 + b.val) 1 = 6 ∧
      job ∈ (s.restoreFill b job).cellar.restores := by
  have hb := b.isLt
  have hk : Canonical (s.updCellar (fun k => { k with
      restores := k.restores.filter (fun x => decide (x.basin ≠ b.val)) ++ [job] })) := { hc with mem := hc.mem }
  refine ⟨?_, ?_, ?_⟩
  · rw [State.restoreFill, State.showCellar_obj _ (by simp only [snapObj]; omega) (by simp only [snapObj]; omega),
      State.obj_setObj_else _ _ _ _ _ _ (by simp only [snapObj]; omega), State.obj_setObj_same _ hk] <;> rfl
  · rw [State.restoreFill, State.showCellar_obj _ (by omega) (by omega),
      State.obj_setObj_same _ (State.setObj_canonical hk _ _ _)] <;> rfl
  · exact List.mem_append_right _ (List.mem_singleton_self job)

/-- The checks of a restore of the newest or the older full snapshot, where that is one record of the basin's shape and
every manifest reads well (R427). -/
theorem State.restoreBegin_single {b : Nat} {older : Bool} {r : SnapRecord}
    (hchain : (if older then oldChain (s.recordsOf b) else newChain (s.recordsOf b)) = [r])
    (hrect : (s.basin b).rect = some r.rect) (hrows : r.rows = s.shapeRows) :
    s.restoreBegin b older [] =
      if r.grade ≠ s.obj 0x2E00 8 then s.restoreEnd b 5
      else if s.levelOk b r.level = false then s.restoreEnd b 6
      else s.restoreFill b ⟨b, older, false, false, [r]⟩ := by
  have hshape : (decide ((s.basin b).rect = some r.rect) && decide (r.rows = s.shapeRows)) = true := by
    simp [hrect, hrows]
  cases older <;> simp only [Bool.false_eq_true, if_false, if_true] at hchain <;>
    simp [State.restoreBegin, hchain, hshape, State.restoreFill]

theorem State.logClamp_srv (s : State) (r : ClampRec) :
    (s.logClamp r).srv = { s.srv with clamps := Map.put s.srv.clamps none (s.obj 0x2F11 2) (some r) } := by
  simp only [State.logClamp]
  split <;> simp [apply_ite State.srv]

theorem State.logClamp_cellar (s : State) (r : ClampRec) : (s.logClamp r).cellar = s.cellar := by
  simp only [State.logClamp]
  split <;> simp [apply_ite State.cellar]

/-- A write that is refused leaves the cellar and a clamp record. -/
theorem State.refuseWrite_keeps (s : State) (b : BasinId) (v : Nat) :
    (s.refuseWrite (snapObj b) 0xD v).cellar = s.cellar ∧
      (s.refuseWrite (snapObj b) 0xD v).srv.clamps = Map.put s.srv.clamps none (s.obj 0x2F11 2)
        (some ⟨snapObj b, 0xD, s.srv.src, 0, 255, 255, v, s.obj (snapObj b) 0xD, s.obj (0x2610 + b.val) 1, b.val, false⟩) := by
  have hbasin : ∀ b : BasinId, entryBasinOf (snapObj b) = some b.val := by decide
  rw [State.refuseWrite, State.logClamp_cellar, State.logClamp_srv, hbasin b]
  exact ⟨rfl, rfl⟩

/-- Settles O55: each check of a restore in its order, and the last of its writes. -/
theorem restores : Obligations.Restores := by
  unfold Obligations.Restores
  intro s b bad r rest j hc i st open_ refused ends
  have hends : ∀ {o : Host.Outcome State Fault Refusal} {a : State} {state status : Nat},
      o = .next a → RestoreEnds b a state status → ends o state status := fun ho ha => ⟨_, ho, ha⟩
  refine ⟨fun hclosed => ?_, fun hopen hnone => ?_, fun hopen hrec hfull hrect hrows => ?_,
    fun x hopen hrec hx hfull hrect hrows hgrade hlevel => ?_, fun hall media => ?_, fun hone hj himage hjob => ?_⟩
  · have hask : ∀ (older : Bool) (bad : List Nat), s.askRestore b older bad = s.refuseWrite (snapObj b) 0xD (if older then 2 else 1) :=
      fun _ _ => if_neg hclosed
    exact ⟨⟨_, rfl, (hask false bad).symm ▸ s.refuseWrite_keeps b 1⟩, ⟨_, rfl, (hask true bad).symm ▸ s.refuseWrite_keeps b 2⟩⟩
  · have hask : ∀ (older : Bool) (bad : List Nat), s.askRestore b older bad = s.restoreEnd b 2 := by
      intro older bad
      rw [State.askRestore, if_pos hopen, State.restoreBegin, hnone]
      cases older <;> rfl
    have hfail := restoreEnds_of_status hc b (status := 2) (by decide) (by decide)
    exact ⟨hends rfl ((hask false bad).symm ▸ hfail), hends rfl ((hask true bad).symm ▸ hfail)⟩
  · have hnew : newChain (s.recordsOf b) = [r] := by rw [hrec, newChain_full rest hfull]
    have hbegin := State.restoreBegin_single (s := s) (b := b.val) (older := false) (r := r) hnew hrect hrows
    have hlatest : s.askRestore b false [] = s.restoreBegin b false [] := if_pos hopen
    refine ⟨fun hold => ?_, fun hgrade => ?_, fun hgrade hlevel => ?_, fun hgrade hlevel => ?_⟩
    · have hask : s.askRestore b true [] = s.restoreEnd b 2 := by
        rw [State.askRestore, if_pos hopen, State.restoreBegin, hrec]
        simp [hold]
      exact hends rfl (hask.symm ▸ restoreEnds_of_status hc b (by decide) (by decide))
    · rw [hbegin, if_pos hgrade] at hlatest
      exact hends rfl (hlatest.symm ▸ restoreEnds_of_status hc b (by decide) (by decide))
    · rw [hbegin, if_neg (not_not_intro hgrade), if_pos hlevel] at hlatest
      exact hends rfl (hlatest.symm ▸ restoreEnds_of_status hc b (by decide) (by decide))
    · rw [hbegin, if_neg (not_not_intro hgrade), if_neg (by simp [hlevel])] at hlatest
      exact ⟨_, rfl, hlatest.symm ▸ State.restoreFill_shows hc b _⟩
  · have hold : oldChain (s.recordsOf b) = [r] := by
      rw [hrec, oldChain, newChain_full _ hx]
      exact newChain_full _ hfull
    have hask : s.askRestore b true [] = s.restoreFill b ⟨b, true, false, false, [r]⟩ := by
      rw [State.askRestore, if_pos hopen, State.restoreBegin_single (older := true) hold hrect hrows, if_neg (not_not_intro hgrade),
        if_neg (by simp [hlevel])]
    exact ⟨_, rfl, hask.symm ▸ State.restoreFill_shows hc b _⟩
  · have hfind : s.cellar.restores.find? (fun r => decide (r.basin = b.val) && !r.needImage) = none := by
      rw [List.find?_eq_none]
      intro x hx
      by_cases hxb : x.basin = b.val
      · simp [hall x hx hxb]
      · simp [hxb]
    exact congrArg Host.Outcome.next (by rw [State.restoreDone, hfind])
  · have hfind : s.cellar.restores.find? (fun r => decide (r.basin = b.val) && !r.needImage) = some j := by
      simp [hone, hj, himage]
    have hidle : ¬s.cellar.job.isSome = true := by simp [hjob]
    have hout := unwatched_false
    refine ⟨fun hlast => ?_, fun hchain => ?_⟩
    · let x := ((s.bumpObj 0x2900 7 1).agentAlarm 0x124 (s.fresh.1.toNat % 2 ^ 16) b.val).fresh.2
      have hx : Canonical x :=
        (goodSnd_get (State.fresh_good (State.agentAlarm_good (State.bumpObj_good (good_start hc noParts))))).canon
      have hlast' : (j.fallback || j.older || (oldChain (x.recordsOf b)).isEmpty) = true := by
        rcases hlast with h | h | h
        · simp [h]
        · simp [h]
        · have : x.recordsOf b = s.recordsOf b := rfl
          simp [this, h]
      have hend : s.restoreDone b true = (x.restoreEnd b 8).setObj 0x2900 1 4 := by
        rw [State.restoreDone, hfind]
        exact (if_neg hidle).trans ((if_pos rfl).trans (if_pos hlast'))
      obtain ⟨hstate, hstatus, hgone⟩ := restoreEnds_of_status hx b (status := 8) (by decide) (by decide)
      refine hends (congrArg Host.Outcome.next hend) ⟨?_, ?_, hgone⟩
      · rwa [State.obj_setObj_else _ _ _ _ _ _ (by have := b.isLt; simp only [snapObj]; omega)]
      · rwa [State.obj_setObj_else _ _ _ _ _ _ (by have := b.isLt; simp only [snapObj]; omega)]
    · have hrows : Canonical ((r.tiles.foldl (fun a x => a.restoreTile x r.beats) (s.restoreRows b j.chain)).markWindow s b) :=
        (State.markWindow_good (good_foldl (fun _ _ h => State.restoreTile_good h) _
          (State.restoreRows_good (good_start hc noParts))) (good_start hc noParts)).canon
      obtain ⟨x, hx, hfinish⟩ := State.restoreFinish_ends hrows b r r.image r.table j.fallback
      have hend : s.restoreDone b false = x.restoreEnd b (if j.fallback then 1 else 0) := by
        rw [← hfinish, State.restoreDone, hfind]
        refine (if_neg hidle).trans ((if_neg Bool.false_ne_true).trans ?_)
        rw [hchain]
        rfl
      refine hends (congrArg Host.Outcome.next hend) ?_
      cases j.fallback
      · exact State.restoreEnd_shows hx b (status := 0) (by decide)
      · exact State.restoreEnd_shows hx b (status := 1) (by decide)

end Sys2Proof.Machine

/-! # PROOFS. Definitions and removals of basins (R437, R438) -/

namespace Sys2Proof.Machine

open Sys2Proof

variable {s : State}

/-- What a fold of steps leaves that each step leaves. -/
theorem State.foldl_keeps {α β : Type} (read : State → α) {f : State → β → State} (h : ∀ a x, read (f a x) = read a)
    (xs : List β) : ∀ a, read (xs.foldl f a) = read a := by
  induction xs with
  | nil => exact fun _ => rfl
  | cons x xs ih => exact fun a => (ih (f a x)).trans (h a x)

/-! ## What the shown counts leave -/

theorem State.showShared_obj (s : State) {k l : Nat} (h : l < 256) (h6 : l ≠ 6) : s.showShared.obj k l = s.obj k l :=
  State.foldl_keeps (fun a => a.obj k l) (fun a b => a.obj_setObj_else _ _ _ _ _ (by omega)) _ s

theorem State.countBasins_obj (s : State) {k l : Nat} (h : 256 * k + l ≠ 256 * 0x2A00 + 2) :
    s.countBasins.obj k l = s.obj k l := s.obj_setObj_else _ _ _ _ _ h

/-- The counts that a definition or a removal shows are objects, and nothing else of the device. -/
theorem State.showCounts_keeps (hc : Canonical s) :
    s.countBasins.showShared.basins = s.basins ∧ s.countBasins.showShared.cellar = s.cellar ∧
      s.countBasins.showShared.srv = s.srv := by
  have hout := unwatched_false
  have h : Good ⟨s.pending, s, { objs := false }⟩ s.countBasins.showShared :=
    State.showShared_good (State.countBasins_good (good_start hc _))
  exact ⟨h.same.basins rfl, h.same.cellar rfl, h.same.srv rfl⟩

theorem State.basin_of_basins {a : State} (h : a.basins = s.basins) (b : Nat) : a.basin b = s.basin b := by
  rw [State.basin, State.basin, h]

theorem State.showCounts_obj (s : State) (b : BasinId) {l : Nat} (h : l < 256) (h6 : l ≠ 6) :
    s.countBasins.showShared.obj (0x2A10 + b.val) l = s.obj (0x2A10 + b.val) l := by
  rw [State.showShared_obj _ h h6, State.countBasins_obj _ (by omega)]

/-! ## Refusals -/

/-- A clamp record is kept among the objects 0x2F00 and 0x2F11. -/
theorem State.logClamp_obj (s : State) (r : ClampRec) {k l : Nat} (h : k ≠ 0x2F00 ∧ k ≠ 0x2F11) (hl : l < 256) :
    (s.logClamp r).obj k l = s.obj k l := by
  have hput : ∀ (a : State) (i j n : Nat), (i = 0x2F00 ∨ i = 0x2F11) → j < 256 → (a.setObj i j n).obj k l = a.obj k l :=
    fun a i j n hi hj => a.obj_setObj_else _ _ _ _ _ (by omega)
  simp only [State.logClamp]
  split <;> simp [apply_ite (fun a : State => a.obj k l), State.bumpObj, hput] <;> rfl

theorem State.logClamp_basins (s : State) (r : ClampRec) : (s.logClamp r).basins = s.basins := by
  simp only [State.logClamp]
  split <;> simp [apply_ite State.basins]

/-- A command on a basin that is refused shows its code; the basins and the state of its object stay. -/
theorem State.refuseBasin_shows (hc : Canonical s) (b : BasinId) {cmd code : Nat} (hcmd : cmd < 16) (hcode : code < 16) :
    (s.refuseBasin b cmd code).basins = s.basins ∧ (s.refuseBasin b cmd code).obj (0x2A10 + b.val) 2 = cmd ∧
      (s.refuseBasin b cmd code).obj (0x2A10 + b.val) 9 = code ∧
      (s.refuseBasin b cmd code).obj (0x2A10 + b.val) 3 = s.obj (0x2A10 + b.val) 3 := by
  have hb := b.isLt
  have hlog : ∀ l, l < 256 → (s.refuseBasin b cmd code).obj (0x2A10 + b.val) l =
      ((s.setObj (0x2A10 + b) 2 cmd).setObj (0x2A10 + b) 9 code).obj (0x2A10 + b.val) l :=
    fun l hl => State.logClamp_obj _ _ (by omega) hl
  refine ⟨State.logClamp_basins _ _, ?_, ?_, ?_⟩
  · rw [hlog 2 (by decide), State.obj_setObj_else _ _ _ _ _ _ (by omega), State.obj_setObj_same _ hc]
    exact Nat.mod_eq_of_lt (by omega)
  · rw [hlog 9 (by decide), State.obj_setObj_same _ (State.setObj_canonical hc _ _ _)]
    exact Nat.mod_eq_of_lt (by omega)
  · rw [hlog 3 (by decide), State.obj_setObj_else _ _ _ _ _ _ (by omega), State.obj_setObj_else _ _ _ _ _ _ (by omega)]

/-! ## Rectangles -/

/-- A rectangle is refused with 1 where it meets another basin's. -/
theorem State.rectFault_meets {b c : BasinId} {r : Nat × Nat × Nat × Nat} (hcb : c ≠ b)
    (hmeet : (s.basin c).rect.any (rectsMeet r) = true) : s.rectFault b r = 1 := by
  rw [State.rectFault, if_pos]
  refine List.any_eq_true.mpr ⟨c.val, List.mem_range.mpr c.isLt, ?_⟩
  revert hmeet
  cases (s.basin c).rect <;> simp [Fin.val_inj, hcb]

/-- Else it is refused with 3 where it does not lie on the shape or a pound of it is not on. -/
theorem State.rectFault_alone {b : BasinId} {r : Nat × Nat × Nat × Nat}
    (halone : ∀ c : BasinId, c ≠ b → (s.basin c).rect.any (rectsMeet r) = false) :
    s.rectFault b r = if s.shapeRows / 4 ≤ r.2.2.2 ∨ ∃ t ∈ rectTiles r, s.poundState (s.poundOf t) ≠ 3 then 3 else 0 := by
  rw [State.rectFault, if_neg]
  · have hany : (((rectTiles r).map s.poundOf).eraseDups.any (fun n => decide (s.poundState n ≠ 3)) = true) =
        ∃ t ∈ rectTiles r, s.poundState (s.poundOf t) ≠ 3 := by
      refine propext ?_
      simp only [List.any_eq_true, List.mem_eraseDups, List.mem_map, decide_eq_true_eq]
      constructor
      · rintro ⟨_, ⟨t, ht, rfl⟩, hoff⟩
        exact ⟨t, ht, hoff⟩
      · rintro ⟨t, ht, hoff⟩
        exact ⟨_, ⟨t, ht, rfl⟩, hoff⟩
    by_cases hshape : s.shapeRows / 4 ≤ r.2.2.2
    · rw [if_pos hshape, if_pos (Or.inl hshape)]
    · simp only [hany, hshape, if_false, false_or]
  · rw [List.any_eq_true]
    rintro ⟨c, hc, hmeet⟩
    have hlone := halone ⟨c, List.mem_range.mp hc⟩
    revert hlone hmeet
    simp only [Fin.ext_iff, ne_eq]
    cases (s.basin c).rect <;> simp +contextual

theorem sum_map_const {α : Type} (l : List α) (c : Nat) : (l.map fun _ => c).sum = l.length * c := by
  induction l with
  | nil => rw [List.map_nil, List.sum_nil, List.length_nil, Nat.zero_mul]
  | cons x l ih => rw [List.map_cons, List.sum_cons, ih, List.length_cons, Nat.succ_mul, Nat.add_comm]

theorem State.rectObj_length (s : State) (b : Nat) : (rectTiles (s.rectObj b)).length < 2 ^ 64 := by
  have hlen : ∀ r : Nat × Nat × Nat × Nat,
      (rectTiles r).length = 4 * (r.2.2.2 + 1 - r.2.1) * (4 * (r.2.2.1 + 1 - r.1)) := fun r => by
    simp only [rectTiles, List.length_flatten, List.map_map, Function.comp_def, List.length_map, List.length_range, sum_map_const]
  rw [hlen]
  have hx : 4 * ((s.rectObj b).2.2.2 + 1 - (s.rectObj b).2.1) ≤ 64 := by simp only [State.rectObj]; omega
  have hy : 4 * ((s.rectObj b).2.2.1 + 1 - (s.rectObj b).1) ≤ 64 := by simp only [State.rectObj]; omega
  exact Nat.lt_of_le_of_lt (Nat.mul_le_mul hx hy) (by decide)

/-! ## Definitions and removals -/

/-- The basin gets its new value and its object shows the command, the state and the size; the counts follow. -/
def State.withBasin (s : State) (b cmd state size : Nat) (v : Basin) : State :=
  let i := 0x2A10 + b
  ((((((s.releaseRecords b).setBasin b v).setObj i 2 cmd).setObj i 3 state).setObj i 9 0).setObj i 8 size)

theorem State.withBasin_canonical (hc : Canonical s) (b cmd state size : Nat) (v : Basin) :
    Canonical (s.withBasin b cmd state size v) := by
  have hout := unwatched_false
  exact (State.setObj_good (State.setObj_good (State.setObj_good (State.setObj_good (State.setBasin_good
    (State.releaseRecords_good (good_start hc noParts))))))).canon

theorem State.withBasin_basin (hc : Canonical s) (b : BasinId) (cmd state size : Nat) (v : Basin) :
    (s.withBasin b cmd state size v).basin b = v ∧
      ∀ c : BasinId, c ≠ b → (s.withBasin b cmd state size v).basin c = s.basin c := by
  have hout := unwatched_false
  have hrel : Canonical (s.releaseRecords b) := (State.releaseRecords_good (good_start hc noParts)).canon
  exact ⟨State.basin_setBasin_same _ hrel _ _, fun c hcb => State.basin_setBasin_other _ _ _ _ (Fin.val_ne_of_ne hcb)⟩

theorem State.withBasin_records (s : State) (b cmd state size : Nat) (v : Basin) :
    ∀ x ∈ (s.withBasin b cmd state size v).cellar.records, x.basin ≠ b := by
  have h : (s.withBasin b cmd state size v).cellar.records = s.cellar.records.filter (fun r => decide (r.basin ≠ b)) := rfl
  rw [h]
  simp

theorem State.withBasin_obj (hc : Canonical s) (b cmd state : Nat) (v : Basin) {size : Nat} (hstate : state < 16)
    (hsize : size < 2 ^ 64) :
    let a := s.withBasin b cmd state size v
    a.obj (0x2A10 + b) 3 = state ∧ a.obj (0x2A10 + b) 9 = 0 ∧ a.obj (0x2A10 + b) 8 = size := by
  have hout := unwatched_false
  have h2 := State.setObj_good (i := 0x2A10 + b) (j := 2) (n := cmd)
    (State.setBasin_good (b := b) (v := v) (State.releaseRecords_good (b := b) (good_start hc noParts)))
  have h3 := State.setObj_canonical h2.canon (0x2A10 + b) 3 state
  have h9 := State.setObj_canonical h3 (0x2A10 + b) 9 0
  refine ⟨?_, ?_, ?_⟩
  · rw [State.withBasin, State.obj_setObj_else _ _ _ _ _ _ (by omega), State.obj_setObj_else _ _ _ _ _ _ (by omega),
      State.obj_setObj_same _ h2.canon]
    exact Nat.mod_eq_of_lt (by omega)
  · rw [State.withBasin, State.obj_setObj_else _ _ _ _ _ _ (by omega), State.obj_setObj_same _ h3] <;> rfl
  · rw [State.withBasin, State.obj_setObj_same _ h9]
    exact Nat.mod_eq_of_lt hsize

/-- A batch of the basin that was open is discarded. -/
theorem State.discardBatches_closed (s : State) (b : Nat) :
    ∀ k ∈ (s.discardBatches b).srv.batches, k.basin = b → k.open_ = false := by
  have h : (s.discardBatches b).srv.batches =
      s.srv.batches.map (fun k => if k.basin = b ∧ k.open_ = true then { k with state := 3 } else k) := rfl
  rw [h]
  intro k hk hkb
  obtain ⟨x, -, rfl⟩ := List.mem_map.mp hk
  by_cases hx : x.basin = b ∧ x.open_ = true
  · rw [if_pos hx]
    rfl
  · rw [if_neg hx] at hkb ⊢
    simpa [hkb] using hx

theorem State.discardBatches_cellar (s : State) (b : Nat) : (s.discardBatches b).cellar = s.cellar := rfl
theorem State.basin_discardBatches (s : State) (b c : Nat) : (s.discardBatches b).basin c = s.basin c := rfl
theorem State.obj_discardBatches (s : State) (b k l : Nat) : (s.discardBatches b).obj k l = s.obj k l := rfl

/-- Settles O56. -/
theorem basinDefinitions : Obligations.BasinDefinitions := by
  unfold Obligations.BasinDefinitions
  intro s b hc i r refused
  have hrefused : ∀ {o : Host.Outcome State Fault Refusal} {cmd code : Nat}, cmd < 16 → code < 16 →
      o = .next (s.refuseBasin b cmd code) → refused o cmd code :=
    fun hcmd hcode ho => ⟨_, ho, State.refuseBasin_shows hc b hcmd hcode⟩
  have hdefine : s.basinDefine b = if 1 < s.obj i 3 ∨ s.obj 0x2000 7 ≠ 2 then s.refuseBasin b 1 2
      else if s.rectFault b r ≠ 0 then s.refuseBasin b 1 (s.rectFault b r)
      else (s.withBasin b 1 1 (rectTiles r).length { Basin.init with rect := some r }).countBasins.showShared := rfl
  have hremove : s.basinRemove b = if 1 < s.obj i 3 then s.refuseBasin b 2 2
      else ((s.withBasin b 2 0 0 Basin.init).discardBatches b).countBasins.showShared := rfl
  refine ⟨fun hrun => ⟨?_, ?_⟩, fun hready => ?_, fun hidle hready => ⟨fun c hcb hmeet => ?_, fun halone => ⟨?_, ?_⟩⟩,
    fun hidle => ?_⟩
  · exact hrefused (by decide) (by decide) (congrArg _ (hdefine.trans (if_pos (Or.inl hrun))))
  · exact hrefused (by decide) (by decide) (congrArg _ (hremove.trans (if_pos hrun)))
  · exact hrefused (by decide) (by decide) (congrArg _ (hdefine.trans (if_pos (Or.inr hready))))
  · rw [if_neg (by omega), State.rectFault_meets hcb hmeet] at hdefine
    exact hrefused (by decide) (by decide) (congrArg _ hdefine)
  · intro hfault
    rw [if_neg (by omega), State.rectFault_alone halone, if_pos hfault] at hdefine
    exact hrefused (by decide) (by decide) (congrArg _ hdefine)
  · intro hshape hon
    rw [if_neg (by omega), State.rectFault_alone halone,
      if_neg (not_not_intro (if_neg (fun h => h.elim (fun h => absurd h (by omega)) fun ⟨t, ht, h⟩ => h (hon t ht))))] at hdefine
    have hw := s.withBasin_canonical hc b 1 1 (rectTiles r).length { Basin.init with rect := some r }
    obtain ⟨hbasins, hcellar, -⟩ := State.showCounts_keeps hw
    obtain ⟨hself, hothers⟩ := s.withBasin_basin hc b 1 1 (rectTiles r).length { Basin.init with rect := some r }
    obtain ⟨h3, h9, h8⟩ := s.withBasin_obj hc b 1 1 { Basin.init with rect := some r } (by decide) (s.rectObj_length b)
    refine ⟨_, congrArg Host.Outcome.next hdefine, (State.basin_of_basins hbasins _).trans hself,
      fun c hcb => (State.basin_of_basins hbasins _).trans (hothers c hcb),
      (State.showCounts_obj _ _ (by decide) (by decide)).trans h3, (State.showCounts_obj _ _ (by decide) (by decide)).trans h9,
      (State.showCounts_obj _ _ (by decide) (by decide)).trans h8, ?_⟩
    rw [hcellar]
    exact s.withBasin_records _ _ _ _ _
  · rw [if_neg (by omega)] at hremove
    have hw := s.withBasin_canonical hc b 2 0 0 Basin.init
    have hd : Canonical ((s.withBasin b 2 0 0 Basin.init).discardBatches b) := { hw with mem := hw.mem }
    obtain ⟨hbasins, hcellar, hsrv⟩ := State.showCounts_keeps hd
    obtain ⟨hself, hothers⟩ := s.withBasin_basin hc b 2 0 0 Basin.init
    obtain ⟨h3, h9, -⟩ := s.withBasin_obj hc b 2 0 Basin.init (size := 0) (by decide) (by decide)
    refine ⟨_, congrArg Host.Outcome.next hremove, ?_, fun c hcb => ?_, ?_, ?_, ?_, ?_⟩
    · rw [State.basin_of_basins hbasins, State.basin_discardBatches, hself]
    · rw [State.basin_of_basins hbasins, State.basin_discardBatches, hothers c hcb]
    · rw [State.showCounts_obj _ _ (by decide) (by decide), State.obj_discardBatches, h3]
    · rw [State.showCounts_obj _ _ (by decide) (by decide), State.obj_discardBatches, h9]
    · rw [hcellar, State.discardBatches_cellar]
      exact s.withBasin_records _ _ _ _ _
    · rw [hsrv]
      exact State.discardBatches_closed _ _

end Sys2Proof.Machine

/-! # PROOFS. Loading a program image (R268, R269) -/

namespace Sys2Proof.Machine

open Sys2Proof

variable {s : State}

/-! ## Completions of a queue without entries -/

/-- A value that an unlisted key does not read as is read back from any map. -/
theorem map_get_put_of_ne {α : Type} [DecidableEq α] (m : Map α) (d : α) (k : Nat) {v : α} (h : v ≠ d) :
    Map.get (Map.put m d k v) d k = v := by
  rw [Map.put, if_neg h]
  exact Map.get_ins_same _ _ _ _

theorem State.queue_updQueue_same (s : State) (q : Nat) {f : HostQueue → HostQueue}
    (h : f (s.queue q) ≠ HostQueue.init) : (s.updQueue q f).queue q = f (s.queue q) :=
  map_get_put_of_ne _ _ _ h

theorem State.cplInterrupt_cpls (s : State) (q : Nat) : (s.cplInterrupt q).host.cpls = s.host.cpls := by
  have hsignal : ∀ (a : State) (v : Nat), (a.signal v).host.cpls = a.host.cpls := fun a v => by
    unfold State.signal
    split
    · rfl
    · split <;> rfl
  unfold State.cplInterrupt
  split
  · simp only
    split
    · exact hsignal _ _
    · rfl
  · exact hsignal _ _

/-- An entry that is done at once, on a queue without entries and with room, completes. -/
theorem State.addEntry_completes {q st : Nat} {e : HostEntry} (hq : (s.queue q).entries = []) (hroom : s.cplRoom q = true)
    (hst : e.status = some st) :
    ∃ c : HostCpl, (s.addEntry q e).host.cpls = s.host.cpls ++ [c] ∧ c.queue = q ∧ c.tag = e.tag ∧ c.status = st := by
  have hadd : (s.updQueue q (fun k => { k with entries := k.entries ++ [e] })).queue q =
      { s.queue q with entries := [e] } := by
    rw [State.queue_updQueue_same, hq]
    · rfl
    · rw [hq]
      exact fun h => absurd (congrArg HostQueue.entries h) (by simp [HostQueue.init])
  obtain ⟨hlen, hfront⟩ : ((s.updQueue q (fun k => { k with entries := k.entries ++ [e] })).queue q).entries.length = 1 ∧
      ((s.updQueue q (fun k => { k with entries := k.entries ++ [e] })).queue q).entries = [e] := by rw [hadd]; exact ⟨rfl, rfl⟩
  have hroom' : (s.updQueue q (fun k => { k with entries := k.entries ++ [e] })).cplRoom q = true := by
    rw [State.cplRoom, hadd]
    exact hroom
  rw [State.addEntry, State.postReady, hlen]
  show ∃ c : HostCpl, (State.postFront _ q).host.cpls = _ ∧ _
  rw [State.postFront, hfront]
  simp only [hst, hroom', Bool.not_true, Bool.false_eq_true, if_false]
  rw [apply_ite (fun a : State => a.host.cpls), State.bumpObj_host, ite_self, State.postCpl]
  simp only [apply_ite (fun a : State => a.host.cpls), State.cplInterrupt_cpls, ite_self]
  exact ⟨_, rfl, rfl, rfl, rfl⟩

theorem State.cplInterrupt_objs (s : State) (q : Nat) : (s.cplInterrupt q).objs = s.objs := by
  have hsignal : ∀ (a : State) (v : Nat), (a.signal v).objs = a.objs := fun a v => by
    simp only [State.signal, apply_ite State.objs, ite_self]
  simp only [State.cplInterrupt, apply_ite State.objs, hsignal]
  simp only [State.updQueue, ite_self]

/-- Only a submission queue's completions count among the objects. -/
theorem State.addEntry_objs (s : State) {q : Nat} (hq : 128 ≤ q) (e : HostEntry) : (s.addEntry q e).objs = s.objs := by
  have hpost : ∀ (a : State) (tag st rows : Nat) (irq : Bool), (a.postCpl q tag st rows irq).objs = a.objs :=
    fun a tag st rows irq => by
      simp only [State.postCpl, apply_ite State.objs, State.cplInterrupt_objs]
      simp only [State.updQueue, ite_self]
  refine (State.foldl_keeps State.objs (fun a _ => ?_) _ _).trans rfl
  unfold State.postFront
  split
  · rfl
  · split
    · rfl
    · simp only [if_neg (Nat.not_lt.mpr hq), apply_ite State.objs, hpost]
      exact ite_self _

/-- What an entry of the admin queue leaves. -/
theorem State.addEntry_keeps (hc : Canonical s) (q : Nat) (e : HostEntry) :
    (s.addEntry q e).basins = s.basins ∧ (s.addEntry q e).mem = s.mem ∧ (s.addEntry q e).tregs = s.tregs := by
  have hout := unwatched_false
  have h : Good ⟨s.pending, s, { objs := false, host := false }⟩ (s.addEntry q e) := State.addEntry_good (good_start hc _)
  exact ⟨h.same.basins rfl, h.same.mem rfl, h.same.tregs rfl⟩

/-! ## The words of rows -/

/-- The rows of every tile read the same: the words and the remap registers are what they were. -/
structure RowsKept (s a : State) : Prop where
  mem : a.mem = s.mem
  remap : ∀ u bank m, bank < 16 → m < 32 → a.regN u (remapOff bank m) = s.regN u (remapOff bank m)

theorem RowsKept.refl (s : State) : RowsKept s s := ⟨rfl, fun _ _ _ _ _ => rfl⟩

theorem RowsKept.foldl {β : Type} {f : State → β → State} (xs : List β) :
    ∀ {a : State}, (∀ a, ∀ x ∈ xs, RowsKept s a → RowsKept s (f a x)) → RowsKept s a → RowsKept s (xs.foldl f a) := by
  induction xs with
  | nil => exact fun _ h => h
  | cons x xs ih =>
    exact fun hf h => ih (fun a y hy => hf a y (List.mem_cons_of_mem x hy)) (hf _ x List.mem_cons_self h)

theorem find?_eq_of_forall_mem {α : Type} {p q : α → Bool} {l : List α} (h : ∀ x ∈ l, p x = q x) : l.find? p = l.find? q := by
  induction l with
  | nil => rfl
  | cons x l ih =>
    rw [List.find?_cons, List.find?_cons, h x List.mem_cons_self, ih fun y hy => h y (List.mem_cons_of_mem x hy)]

theorem RowsKept.rowWord {a : State} (h : RowsKept s a) (u : Nat) {g : Nat} (hg : g < 40960) :
    a.rowWord u g = s.rowWord u g := by
  have hspare : a.spareOf u (bankOf g) (localOf g) = s.spareOf u (bankOf g) (localOf g) := by
    refine find?_eq_of_forall_mem fun m hm => ?_
    rw [List.mem_reverse, List.mem_range] at hm
    simp only [h.remap u _ m (bankOf_lt hg) hm]
  rw [State.rowWord, State.rowWord, State.cellKey, State.cellKey, hspare, State.word, State.word, h.mem]

/-- A register outside the banks' remap entries. -/
theorem RowsKept.setRegN {a : State} (h : RowsKept s a) (t n : Nat) {off : Nat} (hoff : off < 0x3080 ∨ 0x4000 ≤ off)
    (hlt : off < 65536) : RowsKept s (a.setRegN t off n) :=
  ⟨h.mem, fun u bank m hbank hm => (State.regN_setRegN_other a n hlt (by unfold remapOff; omega)
    (.inr (by unfold remapOff; omega))).trans (h.remap u bank m hbank hm)⟩

theorem RowsKept.updTile {a : State} (h : RowsKept s a) (t : Nat) (f : Tile → Tile) : RowsKept s (a.updTile t f) :=
  ⟨h.mem, h.remap⟩

theorem RowsKept.updBank {a : State} (h : RowsKept s a) (t k : Nat) (f : Bank → Bank) : RowsKept s (a.updBank t k f) :=
  h.updTile _ _

theorem RowsKept.setObj {a : State} (h : RowsKept s a) (i j n : Nat) : RowsKept s (a.setObj i j n) := ⟨h.mem, h.remap⟩

theorem RowsKept.updBasin {a : State} (h : RowsKept s a) (b : Nat) (f : Basin → Basin) : RowsKept s (a.updBasin b f) :=
  ⟨h.mem, h.remap⟩

theorem RowsKept.freeStream {a : State} (h : RowsKept s a) (t : Nat) {i : Nat} (hi : i < 8) :
    RowsKept s (a.freeStream t i) :=
  RowsKept.foldl _ (fun _ o ho h => h.setRegN _ _
    (.inl (by simp only [List.mem_cons, List.not_mem_nil, or_false] at ho; omega))
    (by simp only [List.mem_cons, List.not_mem_nil, or_false] at ho; omega)) h

theorem RowsKept.bindStream {a : State} (h : RowsKept s a) (t : Nat) {i : Nat} (key : Nat) (hi : i < 8) :
    RowsKept s (a.bindStream t i key) := by
  have hset : ∀ {a : State} (o n : Nat), o < 0x20 → RowsKept s a → RowsKept s (a.setRegN t (0x2100 + 0x20 * i + o) n) :=
    fun o n ho h => h.setRegN _ _ (.inl (by omega)) (by omega)
  exact hset _ _ (by decide) (hset _ _ (by decide) (hset _ _ (by decide) (hset _ _ (by decide) (hset _ _ (by decide)
    (hset 0 0 (by decide) h)))))

/-- Making a tile ready for its first lock leaves every row's word. -/
theorem RowsKept.loadTile {a : State} (h : RowsKept s a) (img : Image) (t : Nat) : RowsKept s (a.loadTile img t) := by
  unfold State.loadTile
  extract_lets store wheels a1 a2 a3 a4 a5
  have h1 : RowsKept s a1 := h.updTile _ _
  have h2 : RowsKept s a2 := RowsKept.foldl _ (fun _ c hc h => by
    rw [List.mem_range] at hc
    exact h.setRegN _ _ (.inl (by unfold ctxOff; omega)) (by unfold ctxOff; omega)) h1
  have h3 : RowsKept s a3 := ((h2.setRegN _ _ (.inl (by decide)) (by decide)).setRegN _ _ (.inl (by decide))
    (by decide)).setRegN _ _ (.inl (by decide)) (by decide)
  have h4 : RowsKept s a4 := RowsKept.foldl _ (fun _ i hi h => h.freeStream t (List.mem_range.mp hi)) h3
  have h5 : RowsKept s a5 := RowsKept.foldl _ (fun _ w hw h => h.bindStream t _ (by
    have := (List.mem_filter.mp hw).2
    simp only [Bool.and_eq_true, decide_eq_true_eq] at this
    exact this.2)) h4
  exact h5.updTile _ _

/-! ## The loaded basin -/

/-- The rows and tiles of the image are written. -/
def State.loadedTiles (s : State) (b : Nat) (img : Image) : State :=
  ((s.basinTiles b).foldl (fun a t => a.loadTile img t)
    (img.cells.foldl (fun a c => a.loadRow (s.basinTiles b) c) s)).markWindow s b

/-- What a basin holds of the image it is loaded with. -/
def loadedBasin (img : Image) (v : Basin) : Basin :=
  { Basin.init with
    rect := v.rect, holds := v.holds, digests := { v.digests with replay := false, restored := false, spans := [] },
    table := tableOf (img.epochs.take 256), image := imageFacts img }

/-- The basin and its objects are written too. -/
def State.loadedState (s : State) (b : Nat) (img : Image) : State :=
  (((((((((s.loadedTiles b img).updBasin b (loadedBasin img)).setObj (0x2610 + b) 1 0).setObj (0x2610 + b) 2 0).setObj
    (0x2C10 + b) 1 img.seed.toNat).setObj (0x2810 + b) 1 0).setObj (0x2810 + b) 5 0).setObj (0x2A10 + b) 4
      img.level).setObj (0x2A10 + b) 3 2)

theorem State.loadedTiles_good (z : Watch) [Unwatched z.parts.mem] [Unwatched z.parts.tregs] [Unwatched z.parts.tiles]
    [Unwatched z.parts.srv] (h : Good z s) (b : Nat) (img : Image) : Good z (s.loadedTiles b img) :=
  State.markWindow_good (good_foldl (fun _ _ h => State.loadTile_good h) _
    (good_foldl (fun _ _ h => State.loadRow_good h) _ h)) h

theorem State.loadedState_good (z : Watch) [Unwatched z.parts.mem] [Unwatched z.parts.tregs] [Unwatched z.parts.tiles]
    [Unwatched z.parts.srv] [Unwatched z.parts.basins] [Unwatched z.parts.objs] (h : Good z s) (b : Nat) (img : Image) :
    Good z (s.loadedState b img) :=
  State.setObj_good (State.setObj_good (State.setObj_good (State.setObj_good (State.setObj_good (State.setObj_good
    (State.setObj_good (State.updBasin_good (State.loadedTiles_good z h b img))))))))

/-- An image without configuration writes nothing more, where no restore waits for an image. -/
theorem State.loadBasin_eq (hc : Canonical s) (b : Nat) (img : Image)
    (hnone : ∀ x ∈ s.cellar.restores, x.needImage = false) :
    s.loadBasin b img [] = ((s.loadedState b img).fromSrc 2).fromSrc 0 := by
  have hout := unwatched_false
  have h : Good ⟨s.pending, s, { noParts with cellar := true, host := true }⟩ (s.loadedState b img) :=
    State.loadedState_good _ (good_start hc _) b img
  have hcellar : (s.loadedState b img).cellar = s.cellar := h.same.cellar rfl
  show (((s.loadedState b img).fromSrc 2).fromSrc 0).restoreMapped b = _
  have hfind : (((s.loadedState b img).fromSrc 2).fromSrc 0).cellar.restores.find?
      (fun r => decide (r.basin = b) && r.needImage) = none := by
    show (s.loadedState b img).cellar.restores.find? _ = none
    rw [hcellar, List.find?_eq_none]
    intro x hx
    simp [hnone x hx]
  rw [State.restoreMapped, hfind]

theorem State.loadedState_obj (hc : Canonical s) (b : Nat) (img : Image) :
    (s.loadedState b img).obj (0x2A10 + b) 3 = 2 ∧ (s.loadedState b img).obj (0x2610 + b) 1 = 0 := by
  have hout := unwatched_false
  have h0 := State.updBasin_good (b := b) (f := loadedBasin img) (State.loadedTiles_good _ (good_start hc noParts) b img)
  have h1 := State.setObj_good (i := 0x2610 + b) (j := 1) (n := 0) h0
  have h6 := State.setObj_good (i := 0x2A10 + b) (j := 4) (n := img.level) (State.setObj_good (i := 0x2810 + b) (j := 5) (n := 0)
    (State.setObj_good (i := 0x2810 + b) (j := 1) (n := 0) (State.setObj_good (i := 0x2C10 + b) (j := 1) (n := img.seed.toNat)
      (State.setObj_good (i := 0x2610 + b) (j := 2) (n := 0) h1))))
  constructor
  · rw [State.loadedState, State.obj_setObj_same _ h6.canon] <;> rfl
  · rw [State.loadedState, State.obj_setObj_else _ _ _ _ _ _ (by omega), State.obj_setObj_else _ _ _ _ _ _ (by omega),
      State.obj_setObj_else _ _ _ _ _ _ (by omega), State.obj_setObj_else _ _ _ _ _ _ (by omega),
      State.obj_setObj_else _ _ _ _ _ _ (by omega), State.obj_setObj_else _ _ _ _ _ _ (by omega),
      State.obj_setObj_same _ h0.canon] <;> rfl

theorem State.loadedState_basin (hc : Canonical s) (b : Nat) (img : Image) :
    (s.loadedState b img).basin b = loadedBasin img (s.basin b) := by
  have hout := unwatched_false
  have h : Good ⟨s.pending, s, { noParts with basins := true }⟩ (s.loadedTiles b img) :=
    State.loadedTiles_good _ (good_start hc _) b img
  rw [State.loadedState]
  simp only [State.basin_setObj_read]
  rw [State.updBasin, State.basin_setBasin_same _ h.canon, State.basin_of_basins (h.same.basins rfl)]

/-- A row of the image that is the only one is what its place holds of the awake bank. -/
theorem State.loadedState_rowWord (hc : Canonical s) {b t f : Nat} {img : Image} {d : Row} (hcells : img.cells = [(t, f, d)])
    (ht : t ∈ s.basinTiles b) (hf : f < 40960) (hawake : (s.bank t (bankOf f)).sleep = 0) :
    (s.loadedState b img).rowWord t f = kolvosEncode d := by
  have hbank := bankOf_lt hf
  have hin : (s.basinTiles b).contains t && decide (f < 40960) := by simp [ht, hf]
  have hload : s.loadRow (s.basinTiles b) (t, f, d) = s.installRow t f (kolvosEncode d) := if_pos hin
  have hinstall : RowsKept (s.setRowWord t f (kolvosEncode d)) (s.installRow t f (kolvosEncode d)) := by
    simp only [State.installRow, hawake, ne_eq, not_true_eq_false, if_false]
    split
    · exact (RowsKept.refl _).updBank _ _ _
    · exact ((RowsKept.refl _).updBank _ _ _).setRegN _ _ (.inr (by simp only [pailOff]; omega)) (by simp only [pailOff]; omega)
  have htiles : RowsKept (s.setRowWord t f (kolvosEncode d)) (s.loadedTiles b img) := by
    have h : RowsKept (s.setRowWord t f (kolvosEncode d)) ((s.basinTiles b).foldl (fun a t => a.loadTile img t)
        (img.cells.foldl (fun a c => a.loadRow (s.basinTiles b) c) s)) :=
      RowsKept.foldl _ (fun _ _ _ h => h.loadTile img _) (by rw [hcells, List.foldl_cons, List.foldl_nil, hload]; exact hinstall)
    exact ⟨h.mem, h.remap⟩
  have hstate : RowsKept (s.setRowWord t f (kolvosEncode d)) (s.loadedState b img) :=
    (((((((htiles.updBasin _ _).setObj _ _ _).setObj _ _ _).setObj _ _ _).setObj _ _ _).setObj _ _ _).setObj _ _ _).setObj _ _ _
  rw [hstate.rowWord t hf, State.rowWord_setRowWord_same hc t hf]

theorem State.loadedState_host (hc : Canonical s) (b : Nat) (img : Image) : (s.loadedState b img).host = s.host := by
  have hout := unwatched_false
  have h : Good ⟨s.pending, s, { noParts with host := true }⟩ (s.loadedState b img) :=
    State.loadedState_good _ (good_start hc _) b img
  exact h.same.host rfl

/-- The entry of the admin queue whose completion says `st`. -/
def adminDone (e : BitVec 512) (st : Nat) : HostEntry :=
  ⟨subF e 31 16, e.getLsbD 8, 0, subF e 63 32, 0, 0, 0, false, some st⟩

theorem State.adminEntry_eq (e : BitVec 512) (img : Option Image) (h : s.canFetch 128 = true) :
    s.adminEntry e img =
      if subF e 7 0 ≠ 0x10 ∨ subF e 75 64 ≠ 0 ∨ entryReserved e 132 = true then (s.fetchEntry 128).addEntry 128 (adminDone e 0x12)
      else if subF e 63 32 = 0 then (s.fetchEntry 128).addEntry 128 (adminDone e 1)
      else
        let r := (s.fetchEntry 128).loadImage (subF e 131 128) (subF e 63 32) img
        r.2.addEntry 128 (adminDone e r.1) := if_neg (by simp [h])

/-- An image without configuration has a sound block. -/
theorem State.loadImage_sound {b len : Nat} {i : Image} (hsound : i.sound = true) (hlen : i.len = len)
    (hconfig : i.config = []) :
    s.loadImage b len (some i) =
      if s.imageStatus b i ≠ 0 then (s.imageStatus b i, s) else (0, s.loadBasin b i []) := by
  have hblock : s.checkBlock i.rect (i.config.map (·.toNat)) = ([], none) := by
    rw [hconfig]
    rfl
  simp only [State.loadImage, hsound, hlen, hblock]
  exact if_neg (by simp)

theorem State.host_fromSrc (s : State) (src : Nat) : (s.fromSrc src).host = s.host := rfl
theorem State.basin_fromSrc (s : State) (src b : Nat) : (s.fromSrc src).basin b = s.basin b := rfl
theorem State.rowWord_fromSrc (s : State) (src t f : Nat) : (s.fromSrc src).rowWord t f = s.rowWord t f := rfl
theorem State.host_fetchEntry (s : State) (q : Nat) : (s.fetchEntry q).host = s.host := rfl

/-- Settles O57. -/
theorem imageLoading : Obligations.ImageLoading := by
  unfold Obligations.ImageLoading
  intro s e image i b hc hb hfetch hempty well answers
  have hout := unwatched_false
  have hadmin := fun img => s.adminEntry_eq e img hfetch
  have hroom : s.cplRoom 128 = true := by
    simp only [State.canFetch, Bool.and_eq_true] at hfetch
    exact hfetch.2
  have hc1 : Canonical (s.fetchEntry 128) := (State.fetchEntry_good (good_start hc noParts)).canon
  have hposts : ∀ {a : State} (st : Nat), a.host = s.host → ∃ c, (a.addEntry 128 (adminDone e st)).host.cpls = s.host.cpls ++ [c] ∧
      c.queue = 128 ∧ c.tag = subF e 31 16 ∧ c.status = st := fun {a} st hhost => by
    have hqueue : a.queue 128 = s.queue 128 := by rw [State.queue, State.queue, hhost]
    obtain ⟨c, hcpls, hfields⟩ := State.addEntry_completes (s := a) (q := 128) (e := adminDone e st) (st := st)
      (hqueue ▸ hempty) (by rw [State.cplRoom, hqueue]; exact hroom) rfl
    exact ⟨c, hhost ▸ hcpls, hfields⟩
  have hanswers : ∀ (img : Option Image) (st : Nat),
      s.adminEntry e img = (s.fetchEntry 128).addEntry 128 (adminDone e st) → answers img st := fun img st h => by
    obtain ⟨hbasins, hmem, htregs⟩ := State.addEntry_keeps hc1 128 (adminDone e st)
    exact ⟨_, congrArg Host.Outcome.next h, hbasins, hmem, htregs, hposts st rfl⟩
  have hform : well → ∀ img, s.adminEntry e img =
      if subF e 63 32 = 0 then (s.fetchEntry 128).addEntry 128 (adminDone e 1)
      else
        let r := (s.fetchEntry 128).loadImage (subF e 131 128) (subF e 63 32) img
        r.2.addEntry 128 (adminDone e r.1) := by
    rintro ⟨hkind, hzero, hres⟩ img
    exact (hadmin img).trans (if_neg (by simp [hkind, hzero, hres]))
  refine ⟨fun hill => ?_, fun hwell hlen => ?_, fun hwell hlen => ?_⟩
  · have hbad : subF e 7 0 ≠ 0x10 ∨ subF e 75 64 ≠ 0 ∨ entryReserved e 132 = true := by
      refine Decidable.byContradiction fun h => ?_
      simp only [not_or, Decidable.not_not, Bool.not_eq_true] at h
      exact hill h
    exact hanswers _ _ ((hadmin image).trans (if_pos hbad))
  · exact hanswers _ _ ((hform hwell image).trans (if_pos hlen))
  · have hload := fun img => (hform hwell img).trans (if_neg hlen)
    refine ⟨hanswers _ _ (hload none), fun hbad => hanswers _ _ ?_, fun hsound hl hconfig => ⟨fun hst => hanswers _ _ ?_,
      fun hst hnone => ?_⟩⟩
    · have himg : (s.fetchEntry 128).loadImage (subF e 131 128) (subF e 63 32) (some i) = (0x20, s.fetchEntry 128) :=
        if_pos (by rcases hbad with h | h <;> simp [h])
      rw [hload (some i), himg]
    · have hst1 : (s.fetchEntry 128).imageStatus (subF e 131 128) i = s.imageStatus b i := by rw [hb]; rfl
      rw [hload (some i), State.loadImage_sound hsound hl hconfig, hst1, if_pos hst]
    · have hst1 : (s.fetchEntry 128).imageStatus (subF e 131 128) i = 0 := by rw [← hst, hb]; rfl
      have hdone : s.adminEntry e (some i) =
          ((((s.fetchEntry 128).loadedState b i).fromSrc 2).fromSrc 0).addEntry 128 (adminDone e 0) := by
        rw [hload (some i), State.loadImage_sound hsound hl hconfig, hst1, if_neg (not_not_intro rfl), hb,
          State.loadBasin_eq hc1 _ _ hnone]
      have hloaded : Canonical ((((s.fetchEntry 128).loadedState b i).fromSrc 2).fromSrc 0) :=
        (State.fromSrc_good (State.fromSrc_good (State.loadedState_good _ (good_start hc1 noParts) b i))).canon
      obtain ⟨hbasins, hmem, htregs⟩ := State.addEntry_keeps hloaded 128 (adminDone e 0)
      have hobjs : ∀ k l, (((((s.fetchEntry 128).loadedState b i).fromSrc 2).fromSrc 0).addEntry 128 (adminDone e 0)).obj k l =
          ((s.fetchEntry 128).loadedState b i).obj k l := fun k l => by
        rw [State.obj, State.addEntry_objs _ (by decide)]
        rfl
      obtain ⟨hstate, hepoch⟩ := State.loadedState_obj hc1 b i
      have hhost : ((((s.fetchEntry 128).loadedState b i).fromSrc 2).fromSrc 0).host = s.host := by
        rw [State.host_fromSrc, State.host_fromSrc, State.loadedState_host hc1, State.host_fetchEntry]
      have hbasin := State.basin_of_basins hbasins b
      rw [State.basin_fromSrc, State.basin_fromSrc, State.loadedState_basin hc1] at hbasin
      refine ⟨_, congrArg Host.Outcome.next hdone, hposts 0 hhost, ?_, ?_, ?_, ?_, ?_, fun t f d hcells ht _ hf hawake => ?_⟩
      · rw [hobjs, hstate]
      · rw [hobjs, hepoch]
      · rw [hbasin]
        rfl
      · rw [hbasin]
        rfl
      · rw [hbasin]
        rfl
      · have hkept : RowsKept ((((s.fetchEntry 128).loadedState b i).fromSrc 2).fromSrc 0)
            (((((s.fetchEntry 128).loadedState b i).fromSrc 2).fromSrc 0).addEntry 128 (adminDone e 0)) :=
          ⟨hmem, fun u bank m _ _ => by rw [State.regN, State.regN, State.reg, State.reg, htregs]⟩
        rw [hkept.rowWord t hf, State.rowWord_fromSrc, State.rowWord_fromSrc,
          State.loadedState_rowWord hc1 hcells ht hf hawake]

end Sys2Proof.Machine

/-! # PROOFS. Lockkeepers (R285, R287, R445) -/

namespace Sys2Proof.Machine

open Sys2Proof

variable {s : State} {x y : Keeper}

/-! ## The two Lockkeepers -/

section
variable (hk : s.keepers = [x, y])
include hk

theorem State.keeper_zero : s.keeper 0 = x := by rw [State.keeper, hk]; rfl
theorem State.keeper_one : s.keeper 1 = y := by rw [State.keeper, hk]; rfl

theorem State.updKeeper_zero (f : Keeper → Keeper) : (s.updKeeper 0 f).keepers = [f x, y] := by
  rw [State.updKeeper, hk]; rfl

theorem State.updKeeper_one (f : Keeper → Keeper) : (s.updKeeper 1 f).keepers = [x, f y] := by
  rw [State.updKeeper, hk]; rfl

/-- Lockkeeper 1 becomes active in place of 0. -/
theorem State.exchangeKeepers_zero (h0 : s.obj 0x2001 2 = 0) (former : Nat) :
    (s.exchangeKeepers former).keepers = [{ x with state := former }, { y with state := 3 }] := by
  have hactive : s.activeNo = 0 := h0
  have hstandby : s.standbyNo = 1 := by rw [State.standbyNo, h0]
  rw [State.exchangeKeepers, hactive, hstandby]
  have h := State.updKeeper_one (State.updKeeper_zero hk (fun k => { k with state := former }))
    (fun k => { k with state := 3 })
  exact h

end

theorem State.showStandby_obj (s : State) {k l : Nat} (h : 256 * k + l ≠ 256 * 0x2001 + 3) :
    s.showStandby.obj k l = s.obj k l := s.obj_setObj_else _ _ _ _ _ h

theorem State.exchangeKeepers_obj (hc : Canonical s) (h0 : s.obj 0x2001 2 = 0) (former : Nat) :
    (s.exchangeKeepers former).obj 0x2001 2 = 1 := by
  have hout := unwatched_false
  have hstandby : s.standbyNo = 1 := by rw [State.standbyNo, h0]
  have h := (State.updKeeper_good (f := fun k => { k with state := 3 }) (i := 1)
    (State.updKeeper_good (f := fun k => { k with state := former }) (i := s.activeNo) (good_start hc noParts))).canon
  rw [State.exchangeKeepers, State.showStandby_obj _ (by decide), hstandby]
  exact State.obj_setObj_same _ h 0x2001 2 1

/-! ## What a takeover leaves -/

/-- An object below those of the basins and the updates is left by what a takeover takes up. -/
theorem State.takenUp_obj (s : State) {l : Nat} (hl : l < 256) :
    (((List.range 16).foldl (fun a b => a.recollect b) s).recopy.updateTaken.showTriers).obj 0x2001 l = s.obj 0x2001 l := by
  have htriers : ∀ a : State, a.showTriers.obj 0x2001 l = a.obj 0x2001 l := fun a =>
    State.foldl_keeps (fun a => a.obj 0x2001 l) (fun a f => a.obj_setObj_else _ _ _ _ _ (by omega)) _ a
  have htaken : ∀ a : State, a.updateTaken.obj 0x2001 l = a.obj 0x2001 l := fun a => by
    have hfail : ∀ reason, (a.updateFail reason).obj 0x2001 l = a.obj 0x2001 l := fun reason => by
      unfold State.updateFail
      split
      · rfl
      · rw [State.updateEvent, State.obj_agentIrq_read, State.updateShow, State.obj_setObj_else _ _ _ _ _ _ (by omega),
          State.obj_setObj_else _ _ _ _ _ _ (by omega)]
        rfl
    unfold State.updateTaken
    split
    · split
      · rfl
      · exact hfail _
    · rfl
  have hcopy : ∀ a : State, a.recopy.obj 0x2001 l = a.obj 0x2001 l := fun a => by
    unfold State.recopy
    split
    · split
      · rw [State.showCellar_obj _ (by omega) (by omega),
          State.obj_setObj_else _ _ _ _ _ _ (by simp only [snapObj]; omega)]
        rfl
      · rfl
    · rfl
  have hrecollect : ∀ (a : State) (b : Nat), (a.recollect b).obj 0x2001 l = a.obj 0x2001 l := fun a b => by
    unfold State.recollect
    split
    · exact State.obj_setObj_else _ _ _ _ _ _ (by omega)
    · rfl
  rw [htriers, htaken, hcopy]
  exact State.foldl_keeps (fun a => a.obj 0x2001 l) hrecollect _ s

/-- Command 4 alone is refused with reason 3. -/
theorem State.updateRefuse_shows (hc : Canonical s) (hrun : s.upd.run = none) :
    (s.updateRefuse 4 3).keepers = s.keepers ∧ (s.updateRefuse 4 3).obj 0x2B00 4 = 6 ∧
      (s.updateRefuse 4 3).obj 0x2B00 5 = 3 := by
  have hout := unwatched_false
  have h : Good ⟨s.pending, s, { noParts with keepers := true }⟩ (s.updateRefuse 4 3) :=
    State.updateRefuse_good (good_start hc _)
  have hx := State.updateEvent_good (ev := 2) (kind := s.obj 0x2B00 2) (target := s.obj 0x2B00 3)
    (State.refuseWrite_good (index := 0x2B00) (sub := 1) (v := 4) (State.setObj_good (i := 0x2B00) (j := 1) (n := 4)
      (good_start hc noParts)))
  have hshow : s.updateRefuse 4 3 = ((((s.setObj 0x2B00 1 4).refuseWrite 0x2B00 1 4).updateEvent 2 (s.obj 0x2B00 2)
      (s.obj 0x2B00 3)).setObj 0x2B00 4 6).setObj 0x2B00 5 3 := if_neg (by rw [hrun]; exact Bool.false_ne_true)
  refine ⟨h.same.keepers rfl, ?_, ?_⟩
  · rw [hshow, State.obj_setObj_else _ _ _ _ _ _ (by decide), State.obj_setObj_same _ hx.canon] <;> rfl
  · rw [hshow, State.obj_setObj_same _ (State.setObj_canonical hx.canon _ _ _)] <;> rfl

/-! ## Heartbeats -/

theorem State.bar_setBar_same (hc : Canonical s) (off n : Nat) : (s.setBar off n).bar off = n % 2 ^ 32 := by
  rw [State.bar, State.setBar, Map.get_put_same _ barDefault _ _ _ hc.bar0, BitVec.toNat_ofNat]

theorem State.bar_setBar_other (s : State) (off n g : Nat) (h : g ≠ off) : (s.setBar off n).bar g = s.bar g := by
  rw [State.bar, State.setBar, Map.get_put_other _ _ _ _ _ _ h, State.bar]

theorem State.mirrorBar_ms (hc : Canonical s) : s.mirrorBar.bar 0x28 = s.srv.ms % 2 ^ 32 := by
  have hout := unwatched_false
  have h := State.setBar_good (off := 0x14) (n := s.obj 0x2001 2) (State.setBar_good (off := 0x10) (n := s.obj 0x2000 5)
    (State.setBar_good (off := 0xC) (n := s.obj 0x2000 6) (State.setBar_good (off := 8) (n := s.obj 0x6000 1)
      (State.setBar_good (off := 4) (n := s.obj 0x2000 7) (good_start hc noParts)))))
  simp only [State.mirrorBar, List.foldl_cons, List.foldl_nil]
  rw [State.bar_setBar_other _ _ _ _ (by decide), State.bar_setBar_other _ _ _ _ (by decide),
    State.bar_setBar_same h.canon, Nat.mod_mod]

theorem State.basinMs_ms (s : State) (b : Nat) : (s.basinMs b).srv.ms = s.srv.ms := rfl

/-- With no request in the mailbox a heartbeat counts the millisecond and mirrors it. -/
theorem State.heartbeat_counts (hc : Canonical s) (hactive : s.activeLk ≠ none) (hmb : bitOf (s.bar 0x40010) 8 = false) :
    s.heartbeat.srv.ms = s.srv.ms + 1 ∧ s.heartbeat.bar 0x28 = (s.srv.ms + 1) % 2 ^ 32 := by
  have hout := unwatched_false
  let a1 : State := { s with srv := { s.srv with ms := s.srv.ms + 1 } }
  let a2 : State := (List.range 16).foldl (fun (a : State) b => a.basinMs b) a1
  let a3 : State := if a2.srv.ms % 1000 = 0 then a2.trierSecond else a2
  have hc1 : Canonical a1 := { hc with mem := hc.mem }
  have h2 : Good ⟨a1.pending, a1, { noParts with bar0 := true }⟩ a2 :=
    good_foldl (fun _ _ h => State.basinMs_good h) _ (good_start hc1 _)
  have hms2 : a2.srv.ms = a1.srv.ms :=
    State.foldl_keeps (fun a => a.srv.ms) (fun a b => a.basinMs_ms b) (List.range 16) a1
  have h3 : Good ⟨a2.pending, a2, { noParts with bar0 := true, srv := true }⟩ a3 :=
    good_ite (State.trierSecond_good (good_start h2.canon _)) (good_start h2.canon _)
  have hidle : bitOf (a3.bar 0x40010) 8 = false := by
    rw [← hmb, State.bar, State.bar, h3.same.bar0 rfl, h2.same.bar0 rfl]
  have hserve : a3.mbServe = a3 := if_pos (by rw [hidle]; rfl)
  have hbeat : s.heartbeat = a3.mirrorBar := by
    rw [State.heartbeat, if_neg (by simpa using hactive)]
    exact congrArg State.mirrorBar hserve
  have hms : a3.srv.ms = s.srv.ms + 1 := by rw [h3.same.srv rfl, hms2]
  have hmirror : Good ⟨a3.pending, a3, { noParts with srv := true }⟩ a3.mirrorBar :=
    State.mirrorBar_good (good_start h3.canon _)
  rw [hbeat, hmirror.same.srv rfl, State.mirrorBar_ms h3.canon, hms]
  exact ⟨rfl, rfl⟩

/-! ## Takeovers, handovers and reboots -/

/-- The mirroring standby becomes active. -/
theorem State.takeover_shows (hc : Canonical s) (hk : s.keepers = [x, y]) (h0 : s.obj 0x2001 2 = 0) (hx : x.state = 3)
    (hy : y.state = 2) :
    s.takeover.keepers = [{ x with state := 1 }, { y with state := 3 }] ∧ s.takeover.obj 0x2001 2 = 1 ∧
      s.takeover.srv.rsp = some ⟨0x08000022, []⟩ ∧
      ∃ l, s.takeover.irqQ = l ++ [⟨0x181, 0, 0, 0, 16, 2304, 0⟩, ⟨0x182, 0, 0, 0, 16, 2304, 0⟩] := by
  have hout := unwatched_false
  have hmirror : (s.mirroring && s.activeLk.isSome) = true := by
    simp [State.mirroring, State.standbyNo, h0, State.keeper_one hk, hy, State.activeLk, hk, hx, List.findIdx?_cons]
  let a2 : State := { s.exchangeKeepers 1 with srv := { (s.exchangeKeepers 1).srv with rsp := some ⟨0x08000022, []⟩ } }
  let a3 : State := (a2.mbAbort.bumpObj 0x2001 4 1).setObj 0x2001 5 0
  let a4 : State := ((List.range 16).foldl (fun a b => a.recollect b) a3).recopy.updateTaken.showTriers
  have htake : s.takeover = (a4.agentIrq 0x181 0).agentIrq 0x182 0 := if_pos hmirror
  have h2 : Canonical a2 := (good_srv (State.exchangeKeepers_good (good_start hc noParts)) _).canon
  have h4 : Good ⟨a2.pending, a2, { noParts with keepers := true, srv := true }⟩ a4 :=
    State.showTriers_good (State.updateTaken_good (State.recopy_good (good_foldl (fun _ _ h => State.recollect_good h) _
      (State.setObj_good (State.bumpObj_good (State.mbAbort_good (good_start h2 _)))))))
  have hobj : a4.obj 0x2001 2 = a2.mbAbort.obj 0x2001 2 := by
    rw [State.takenUp_obj _ (by decide), State.obj_setObj_else _ _ _ _ _ _ (by decide), State.bumpObj,
      State.obj_setObj_else _ _ _ _ _ _ (by decide)]
  have habort : Good ⟨a2.pending, a2, { noParts with objs := true }⟩ a2.mbAbort := State.mbAbort_good (good_start h2 _)
  have hkeep : a4.keepers = a2.keepers := h4.same.keepers rfl
  have hsrv : a4.srv = a2.srv := h4.same.srv rfl
  simp only [htake, State.agentIrq_keepers, State.agentIrq_srv, State.obj_agentIrq_read]
  refine ⟨?_, ?_, ?_, a4.irqQ, ?_⟩
  · rw [hkeep]
    exact State.exchangeKeepers_zero hk h0 1
  · rw [hobj, State.obj, habort.same.objs rfl]
    exact State.exchangeKeepers_obj hc h0 1
  · rw [hsrv]
  · exact List.append_assoc _ _ _

/-- An update that fails is gone and shows its reason. -/
theorem State.updateFail_shows (hc : Canonical s) {u : Update} (hrun : s.upd.run = some u) {reason : Nat}
    (hr : reason < 16) :
    (s.updateFail reason).upd = { s.upd with run := none } ∧ (s.updateFail reason).obj 0x2B00 4 = 7 ∧
      (s.updateFail reason).obj 0x2B00 5 = reason := by
  have hout := unwatched_false
  have hfail : s.updateFail reason =
      (((s.updUpd (fun d => { d with run := none })).setObj 0x2B00 4 7).setObj 0x2B00 5 reason).updateEvent 3 u.kind u.target := by
    rw [State.updateFail, hrun]
    rfl
  have hgone : Canonical (s.updUpd (fun d => { d with run := none })) := (State.updUpd_good (good_start hc noParts)).canon
  rw [hfail]
  refine ⟨rfl, ?_, ?_⟩
  · rw [State.updateEvent, State.obj_agentIrq_read, State.obj_setObj_else _ _ _ _ _ _ (by decide),
      State.obj_setObj_same _ hgone] <;> rfl
  · rw [State.updateEvent, State.obj_agentIrq_read, State.obj_setObj_same _ (State.setObj_canonical hgone _ _ _)]
    exact Nat.mod_eq_of_lt (by omega)

/-- The standby or the former active Lockkeeper after its reboot. -/
def rebooted (s : State) (ok : Bool) (k : Keeper) : Keeper :=
  { k with
    state := if ok || (s.upd.run.any (fun u => decide (u.kind = 0))) then 2 else 0, selfTest := ok,
    slot := if ok && decide (k.state = 4) then 1 - k.slot else k.slot }

def State.withRebooted (s : State) (ok : Bool) : State := (s.updKeeper 1 (rebooted s ok)).showStandby

theorem State.withRebooted_keepers (hk : s.keepers = [x, y]) (ok : Bool) :
    (s.withRebooted ok).keepers = [x, rebooted s ok y] := State.updKeeper_one hk _

theorem State.withRebooted_canonical (hc : Canonical s) (ok : Bool) : Canonical (s.withRebooted ok) := by
  have hout := unwatched_false
  exact (State.showStandby_good (State.updKeeper_good (good_start hc noParts))).canon

theorem State.standbyReboot_eq (hk : s.keepers = [x, y]) (h0 : s.obj 0x2001 2 = 0) (hy : y.state = 4 ∨ y.state = 1)
    (ok : Bool) :
    s.standbyReboot ok =
      match s.upd.run with
      | none => s.withRebooted ok
      | some u =>
        if u.kind ≠ 0 then s.withRebooted ok
        else if !ok then (s.withRebooted ok).updateFail 6
        else if u.phase = 1 then (s.withRebooted ok).updUpd (fun d => { d with run := some { u with phase := 2 } })
        else if u.phase = 3 then (s.withRebooted ok).updateDone
        else s.withRebooted ok := by
  have hstandby : s.standbyNo = 1 := by rw [State.standbyNo, h0]
  rw [State.standbyReboot, hstandby, if_neg (by rw [State.keeper_one hk]; omega)]
  rfl

/-- Where no Lockkeeper is active and the preferred one is still in its self-test. -/
theorem State.bootTimeout_eq (hnone : s.activeLk = none) (h1 : s.obj 0x2001 1 = 0) (hk : s.keepers = [x, y])
    (hx : x.state = 1) :
    s.bootTimeout =
      if y.state = 0 then
        { s.updKeeper 0 (fun k => { k with state := 0 }) with srv := { s.srv with al := 1, alStatus := 1 } }
      else ((((s.updKeeper 0 (fun k => { k with state := 0 })).makeActive 1).showStandby).agentIrq 0x182 0) := by
  have hwait : ¬(s.activeLk.isSome = true ∨ (s.keeper 0).state ≠ 1) := by
    rw [hnone, State.keeper_zero hk, hx]
    simp
  have hother : (s.updKeeper 0 (fun k => { k with state := 0 })).keeper 1 = y :=
    State.keeper_one (State.updKeeper_zero hk _)
  rw [State.bootTimeout, h1]
  refine (if_neg hwait).trans ?_
  show (if ((s.updKeeper 0 (fun k => { k with state := 0 })).keeper 1).state = 0 then _ else _) = _
  rw [hother]
  rfl

/-- Settles O40. -/
theorem lockkeepers : Obligations.Lockkeepers := by
  unfold Obligations.Lockkeepers
  intro s x y hc hk
  have hout := unwatched_false
  refine ⟨fun hnone => ?_, fun hactive hmb => ⟨_, rfl, State.heartbeat_counts hc hactive hmb⟩, fun h0 hx hy => ⟨?_, fun hrun => ?_⟩,
    fun hrun h0 hy => ⟨?_, ?_, fun hy1 ok => ?_⟩, fun hnone h1 hx => ⟨fun hy => ?_, fun hy => ?_⟩,
    fun u hu hkind h0 => ⟨fun hphase => ?_, fun hphase hy => ⟨?_, ?_⟩⟩, fun hactive => ?_⟩
  · exact congrArg Host.Outcome.next (if_pos (by rw [hnone]; rfl))
  · exact ⟨_, rfl, State.takeover_shows hc hk h0 hx hy⟩
  · have hmirror : s.mirroring = true := by simp [State.mirroring, State.standbyNo, h0, State.keeper_one hk, hy]
    have hhand : s.lkHandover = ((s.exchangeKeepers 1).setObj 0x2B00 1 4).updateShow 5 0 := by
      rw [State.lkHandover, hrun]
      exact if_pos hmirror
    have hex : Canonical ((s.exchangeKeepers 1).setObj 0x2B00 1 4) :=
      (State.setObj_good (State.exchangeKeepers_good (good_start hc noParts))).canon
    refine ⟨_, congrArg Host.Outcome.next hhand, State.exchangeKeepers_zero hk h0 1, ?_, ?_⟩
    · rw [State.updateShow, State.obj_setObj_else _ _ _ _ _ _ (by decide), State.obj_setObj_else _ _ _ _ _ _ (by decide),
        State.obj_setObj_else _ _ _ _ _ _ (by decide)]
      exact State.exchangeKeepers_obj hc h0 1
    · rw [State.updateShow, State.obj_setObj_else _ _ _ _ _ _ (by decide), State.obj_setObj_same _ hex] <;> rfl
  · have hmirror : ¬s.mirroring = true := by simp [State.mirroring, State.standbyNo, h0, State.keeper_one hk, hy]
    have hhand : s.lkHandover = s.updateRefuse 4 3 := by
      rw [State.lkHandover, hrun]
      exact if_neg hmirror
    exact ⟨_, congrArg Host.Outcome.next hhand, State.updateRefuse_shows hc hrun⟩
  · have hmirror : s.mirroring = false := by simp [State.mirroring, State.standbyNo, h0, State.keeper_one hk, hy]
    refine congrArg Host.Outcome.next ?_
    rw [State.takeover, hmirror, hrun]
    rfl
  · have hreboot : s.standbyReboot ok = s.withRebooted ok := by
      rw [State.standbyReboot_eq hk h0 (.inr hy1), hrun]
    refine ⟨_, congrArg Host.Outcome.next hreboot, ?_⟩
    rw [State.withRebooted_keepers hk]
    simp [rebooted, hrun, hy1]
  · have hboot := State.bootTimeout_eq hnone h1 hk hx
    rw [if_pos hy] at hboot
    exact ⟨_, congrArg Host.Outcome.next hboot, State.updKeeper_zero hk (fun k => { k with state := 0 }), rfl, rfl⟩
  · have hboot := State.bootTimeout_eq hnone h1 hk hx
    rw [if_neg hy] at hboot
    have hlost : Canonical ((s.updKeeper 0 (fun k => { k with state := 0 })).updKeeper 1
        (fun k => { k with state := 3, selfTest := true })) :=
      (State.updKeeper_good (State.updKeeper_good (good_start hc noParts))).canon
    refine ⟨_, congrArg Host.Outcome.next hboot, ?_, ?_⟩
    · exact State.updKeeper_one (State.updKeeper_zero hk (fun k => { k with state := 0 }))
        (fun k => { k with state := 3, selfTest := true })
    · rw [State.obj_agentIrq_read, State.showStandby_obj _ (by decide)]
      exact State.obj_setObj_same _ hlost 0x2001 2 1
  · have hhand : s.lkHandover = (s.exchangeKeepers 4).updUpd (fun d => { d with run := some { u with phase := 3 } }) := by
      rw [State.lkHandover, hu]
      exact if_pos ⟨hkind, hphase⟩
    refine ⟨_, congrArg Host.Outcome.next hhand, State.exchangeKeepers_obj hc h0 4, State.exchangeKeepers_zero hk h0 4, ?_⟩
    rfl
  · have hreboot : s.standbyReboot true =
        (s.withRebooted true).updUpd (fun d => { d with run := some { u with phase := 2 } }) := by
      rw [State.standbyReboot_eq hk h0 (.inl hy), hu]
      simp [hkind, hphase]
    refine ⟨_, congrArg Host.Outcome.next hreboot, rfl, (State.withRebooted_keepers hk true).trans ?_⟩
    simp [rebooted, hy]
  · have hreboot : s.standbyReboot false = (s.withRebooted false).updateFail 6 := by
      rw [State.standbyReboot_eq hk h0 (.inl hy), hu]
      simp [hkind]
    have hrun : (s.withRebooted false).upd.run = some u := hu
    exact ⟨_, congrArg Host.Outcome.next hreboot,
      State.updateFail_shows (s.withRebooted_canonical hc false) hrun (by decide)⟩
  · exact congrArg Host.Outcome.next (if_pos (.inl (Option.isSome_iff_ne_none.mpr hactive)))

end Sys2Proof.Machine

/-! # PROOFS. FoE, the AL states and process data (R289 to R295, R306) -/

namespace Sys2Proof.Machine

open Sys2Proof

variable {s : State}

/-! ## FoE and the AL states -/

theorem State.foeWrite_eq (hactive : s.activeLk ≠ none) (hal : s.srv.al ≠ 1) (name : List Nat) (password len : Nat)
    (sigOk : Bool) (img : UpdateImage) :
    s.foeWrite name password len sigOk img =
      match foeFile name with
      | none => s.answer ⟨0x8001, []⟩
      | some (k, top) =>
        if password ≠ 0 then s.answer ⟨0x8002, []⟩
        else if top < len then s.answer ⟨0x8003, []⟩
        else if len = 0 then s.answer ⟨0, []⟩
        else if s.upd.run.any (fun u => decide (u.kind = k)) then s.answer ⟨0x8006, []⟩
        else if !sigOk then s.answer ⟨0x800B, []⟩
        else (s.updUpd (fun d => { d with staged := Map.put d.staged none k (some img) })).answer ⟨0, []⟩ := by
  refine if_neg ?_
  simp [hactive, hal]

theorem State.alRequest_eq (hactive : s.activeLk ≠ none) (st : Nat) (dc : Bool) :
    s.alRequest st dc =
      if !([1, 2, 3, 4, 8].contains st) then s.alSet s.srv.al 0x12
      else if !alMay s.srv.al st then s.alSet s.srv.al 0x11
      else if s.srv.al = 2 ∧ st = 4 ∧ dc = false then s.alSet 2 0x35
      else
        ((if st = 8 then (if s.srv.al = 2 ∧ st = 4 then s.takeLayout else s).setObj 0x1C32 0x20 0
          else (if s.srv.al = 2 ∧ st = 4 then s.takeLayout else s)).alSet st 0) := by
  refine if_neg ?_
  simp [hactive]

/-! ## Set-points and the latch -/

theorem State.setpoints_txLayout (s : State) (a c : Option Nat) : (s.setpoints a c).srv.txLayout = s.srv.txLayout := by
  simp only [State.setpoints]
  repeat' split
  all_goals rfl

/-- The process data of a latch, once its objects are written. -/
def State.latchPdo (s : State) (mark : Nat) : State :=
  { s with srv := { s.srv with
      alarmMark := mark, txPdo := s.srv.txLayout.map (fun k => (k, s.obj (k / 256) (k % 256))) } }

theorem State.latchPdo_txPdo (s : State) (mark : Nat) : (s.latchPdo mark).srv.txPdo =
    s.srv.txLayout.map (fun k => (k, (s.latchPdo mark).obj (k / 256) (k % 256))) := rfl

theorem State.latch_eq (hc : Canonical s) : ∃ a : State, a.srv = s.srv ∧ s.latch = a.latchPdo (s.obj 0x2640 3) := by
  have hout := unwatched_false
  have hlatch : ∃ a, Good ⟨s.pending, s, { noParts with srv := true }⟩ a ∧ s.latch = a.latchPdo (s.obj 0x2640 3) :=
    ⟨_, State.latchRest_good (State.latchPower_good (State.setObjs_good (good_start hc _))), rfl⟩
  obtain ⟨a, ha, hlatch⟩ := hlatch
  exact ⟨a, ha.same.srv rfl, hlatch⟩

/-- What is latched is what the objects of the layout hold. -/
theorem State.latch_txPdo (hc : Canonical s) :
    s.latch.srv.txPdo = s.srv.txLayout.map (fun k => (k, s.latch.obj (k / 256) (k % 256))) := by
  obtain ⟨a, ha, hlatch⟩ := State.latch_eq hc
  rw [hlatch, State.latchPdo_txPdo, ha]

theorem State.latch_sync (hc : Canonical s) :
    s.latch.srv.setPending = s.srv.setPending ∧ s.latch.srv.syncMiss = s.srv.syncMiss := by
  obtain ⟨a, ha, hlatch⟩ := State.latch_eq hc
  rw [hlatch, ← ha]
  exact ⟨rfl, rfl⟩

/-- A set-point that arrives with its counter. -/
theorem State.setpoints_both (s : State) (a c : Nat) :
    s.setpoints (some a) (some c) =
      if (decide (c % 2 ^ 32 ≠ s.obj 0x7000 2) || s.srv.present) = true then
        ({ s.setObj 0x7000 2 (c % 2 ^ 32) with
          srv := { s.srv with
            present := true, held := if decide (c % 2 ^ 32 ≠ s.obj 0x7000 2) then none else s.srv.held } } : State).setObj
          0x7000 1 (clampReal 0 0x46192000 0x46192000 (a % 2 ^ 32))
      else { s.setObj 0x7000 2 (c % 2 ^ 32) with
        srv := { s.srv with held := some (clampReal 0 0x46192000 0x46192000 (a % 2 ^ 32)) } } := rfl

/-- A set-point that arrives while one is present, or with a new counter, is in force. -/
theorem State.setpoints_taken (hc : Canonical s) {a c : Nat} (h : s.srv.present = true ∨ c % 2 ^ 32 ≠ s.obj 0x7000 2) :
    (s.setpoints (some a) (some c)).obj 0x7000 1 = clampReal 0 0x46192000 0x46192000 (a % 2 ^ 32) % 2 ^ 64 ∧
      (s.setpoints (some a) (some c)).obj 0x7000 2 = c % 2 ^ 32 ∧ (s.setpoints (some a) (some c)).srv.present = true := by
  have htaken : (decide (c % 2 ^ 32 ≠ s.obj 0x7000 2) || s.srv.present) = true := by
    rcases h with h | h
    · rw [h, Bool.or_true]
    · rw [decide_eq_true h, Bool.true_or]
  have hout := unwatched_false
  rw [State.setpoints_both, if_pos htaken]
  refine ⟨State.obj_setObj_same _ (good_srv (State.setObj_good (good_start hc noParts)) _).canon _ _ _, ?_, rfl⟩
  rw [State.obj_setObj_else _ _ _ _ _ _ (by decide)]
  refine (State.obj_setObj_same s hc 0x7000 2 _).trans (Nat.mod_eq_of_lt ?_)
  omega

/-- Without one and with the old counter it is held. -/
theorem State.setpoints_held {a c : Nat} (hp : s.srv.present = false) (h : c % 2 ^ 32 = s.obj 0x7000 2) :
    (s.setpoints (some a) (some c)).obj 0x7000 1 = s.obj 0x7000 1 ∧
      (s.setpoints (some a) (some c)).srv.present = false := by
  rw [State.setpoints_both, if_neg (by rw [hp, Bool.or_false, decide_eq_true_eq]; exact not_not_intro h)]
  exact ⟨State.obj_setObj_else s 0x7000 2 _ 0x7000 1 (by decide), hp⟩

/-- The edge has come: no outputs wait. -/
def State.edgeTaken (s : State) : State := { s with srv := { s.srv with setPending := none, syncMiss := 0 } }

/-- The outputs that wait for the edge apply. -/
def State.applyPending (s : State) : State :=
  match s.srv.setPending with
  | some (a, c) => s.setpoints (s.rxPick a c).1 (s.rxPick a c).2
  | none => s

theorem State.applyPending_canonical (hc : Canonical s) : Canonical s.applyPending := by
  have hout := unwatched_false
  unfold State.applyPending
  split
  · exact (State.setpoints_good (good_start hc noParts)).canon
  · exact hc

theorem State.applyPending_txLayout (s : State) : s.applyPending.srv.txLayout = s.srv.txLayout := by
  unfold State.applyPending
  split
  · exact s.setpoints_txLayout _ _
  · rfl

/-- A SYNC0 edge in mode 2: the outputs that wait apply, then inputs are latched. -/
theorem State.syncEdge_shows (hc : Canonical s) (hactive : s.activeLk ≠ none) (hsync : s.srv.sync = 2) :
    s.syncEdge.srv.setPending = none ∧ s.syncEdge.srv.syncMiss = 0 ∧
      s.syncEdge.srv.txPdo = s.srv.txLayout.map (fun k => (k, s.syncEdge.obj (k / 256) (k % 256))) := by
  have hout := unwatched_false
  have hedge : s.syncEdge = s.applyPending.edgeTaken.latch := if_neg (by simp [hactive, hsync])
  have ha : Canonical s.applyPending.edgeTaken := (good_srv (good_start (State.applyPending_canonical hc) noParts) _).canon
  obtain ⟨hpend, hmiss⟩ := State.latch_sync ha
  rw [hedge]
  refine ⟨hpend, hmiss, ?_⟩
  rw [State.latch_txPdo ha, ← s.applyPending_txLayout]
  rfl

/-- Outputs that both are mapped apply on arrival. -/
theorem State.rxPdo_applies (hactive : s.activeLk ≠ none) (hal : s.srv.al = 8) (hsync : s.srv.sync ≠ 2)
    (h1 : objKey 0x7000 1 ∈ s.srv.rxLayout) (h2 : objKey 0x7000 2 ∈ s.srv.rxLayout) (a c : Nat) :
    s.rxPdo a c = s.setpoints (some a) (some c) := by
  rw [State.rxPdo, if_neg (by simp [hactive, hal]), if_neg hsync, State.rxPick,
    if_pos (List.contains_iff_mem.mpr h1), if_pos (List.contains_iff_mem.mpr h2)]

/-- A missing edge is counted. -/
def State.missedEdge (s : State) : State :=
  { s.bumpObj 0x1C32 0xB 1 0xFFFF with srv := { s.srv with syncMiss := s.srv.syncMiss + 1 } }

/-- At the limit the SubDevice falls back to SAFEOP. -/
def State.fallBack (s : State) : State :=
  let s2 := s.missedEdge.setObj 0x1C32 0x20 1
  if s2.srv.al = 8 then s2.alSet 4 0x2C else s2

theorem State.fallBack_obj (s : State) : s.fallBack.obj 0x1C32 0x20 = (s.missedEdge.setObj 0x1C32 0x20 1).obj 0x1C32 0x20 := by
  simp only [State.fallBack]
  split <;> rfl

theorem State.fallBack_al (s : State) (hal : s.srv.al = 8) : s.fallBack.srv.al = 4 ∧ s.fallBack.srv.alStatus = 0x2C := by
  have hin : (s.missedEdge.setObj 0x1C32 0x20 1).srv.al = 8 := hal
  simp only [State.fallBack, if_pos hin]
  exact ⟨rfl, rfl⟩

theorem State.setpointsLost_present (s : State) : s.setpointsLost.srv.present = false := by
  unfold State.setpointsLost
  split
  · rfl
  · rename_i h
    exact Bool.not_eq_true _ ▸ h

theorem State.setpointsLost_keeps {s : State} : s.setpointsLost.obj 0x1C32 0x20 = s.obj 0x1C32 0x20 ∧
    s.setpointsLost.srv.al = s.srv.al ∧ s.setpointsLost.srv.alStatus = s.srv.alStatus := by
  unfold State.setpointsLost
  split <;> exact ⟨rfl, rfl, rfl⟩

/-- Settles O38. -/
theorem fieldbusStates : Obligations.FieldbusStates := by
  unfold Obligations.FieldbusStates
  refine ⟨?_, ?_⟩
  · intro s name password len sigOk img st dc hc write answers
    refine ⟨fun hnone => ⟨?_, ?_⟩, fun hactive hal => ⟨fun hfile => ?_, fun k top hfile => ?_⟩,
      fun hactive => ⟨fun hst => ?_, fun hst hmay => ?_, fun hal hst hdc => ?_, fun hst hmay hmet => ?_⟩⟩
    · exact congrArg Host.Outcome.next (if_pos (.inl (by rw [hnone]; rfl)))
    · exact congrArg Host.Outcome.next (if_pos (by rw [hnone]; rfl))
    · have hw := State.foeWrite_eq hactive hal name password len sigOk img
      rw [hfile] at hw
      exact ⟨_, congrArg Host.Outcome.next hw, rfl, rfl⟩
    · have hw := State.foeWrite_eq hactive hal name password len sigOk img
      rw [hfile] at hw
      refine ⟨fun hpw => ?_, fun hpw hlen => ?_, fun hpw hlen => ?_, fun hpw htop hlen => ⟨fun u hu hk => ?_, fun hidle =>
        ⟨fun hsig => ?_, fun hsig => ?_⟩⟩⟩
      · exact ⟨_, congrArg Host.Outcome.next (hw.trans (if_pos hpw)), rfl, rfl⟩
      all_goals replace hw := hw.trans (if_neg (not_not_intro hpw))
      · exact ⟨_, congrArg Host.Outcome.next (hw.trans (if_pos hlen)), rfl, rfl⟩
      · exact ⟨_, congrArg Host.Outcome.next (hw.trans ((if_neg (by omega)).trans (if_pos hlen))), rfl, rfl⟩
      all_goals replace hw := hw.trans ((if_neg (Nat.not_lt.mpr htop)).trans (if_neg hlen))
      · have hbusy : s.upd.run.any (fun u => decide (u.kind = k)) = true := by rw [hu]; exact decide_eq_true hk
        exact ⟨_, congrArg Host.Outcome.next (hw.trans (if_pos hbusy)), rfl, rfl⟩
      all_goals replace hw := hw.trans (if_neg (by rw [hidle]; exact Bool.false_ne_true))
      · exact ⟨_, congrArg Host.Outcome.next (hw.trans (if_pos (by rw [hsig]; rfl))), rfl, rfl⟩
      · exact ⟨_, congrArg Host.Outcome.next (hw.trans (if_neg (by rw [hsig]; decide))), rfl, rfl⟩
    · have ha := State.alRequest_eq hactive st dc
      rw [if_pos (by simpa using hst)] at ha
      exact ⟨_, congrArg Host.Outcome.next ha, rfl, rfl⟩
    · have ha := State.alRequest_eq hactive st dc
      rw [if_neg (by rw [List.contains_iff_mem.mpr hst]; decide), if_pos (by rw [hmay]; rfl)] at ha
      exact ⟨_, congrArg Host.Outcome.next ha, rfl, rfl⟩
    · have ha := State.alRequest_eq hactive st dc
      rw [if_neg (by rw [hst]; decide), if_neg (by rw [hal, hst]; decide), if_pos ⟨hal, hst, hdc⟩] at ha
      exact ⟨_, congrArg Host.Outcome.next ha, rfl, rfl⟩
    · have ha := State.alRequest_eq hactive st dc
      rw [if_neg (by rw [List.contains_iff_mem.mpr hst]; decide), if_neg (by rw [hmay]; decide),
        if_neg (by rintro ⟨h1, h2, h3⟩; rw [hmet h1 h2] at h3; cases h3)] at ha
      refine ⟨_, congrArg Host.Outcome.next ha, rfl, rfl, fun hal h4 => ?_⟩
      rw [if_neg (by omega), if_pos ⟨hal, h4⟩]
      exact ⟨rfl, rfl, rfl⟩
  · intro s a c hc latched
    have hout := unwatched_false
    refine ⟨fun hclosed => ?_, fun hactive hal => ⟨fun hsync => ?_, fun hsync ha hcnt => ⟨fun htaken => ?_, fun hp hold => ?_⟩⟩,
      fun hoff => ⟨?_, ?_⟩, fun hactive hsync => ⟨⟨_, rfl, State.syncEdge_shows hc hactive hsync⟩, fun hmiss => ?_, fun hmiss => ?_⟩,
      fun hactive hsync => ?_, fun hp => ?_, fun hp => ?_⟩
    · refine congrArg Host.Outcome.next (if_pos ?_)
      exact hclosed.imp (fun h => by rw [h]; rfl) id
    · have harrive : s.rxPdo a.toNat c.toNat = { s with srv := { s.srv with setPending := some (a.toNat, c.toNat) } } :=
        (if_neg (by simp [hactive, hal])).trans (if_pos hsync)
      exact ⟨_, congrArg Host.Outcome.next harrive, rfl, rfl⟩
    · exact ⟨_, congrArg Host.Outcome.next (State.rxPdo_applies hactive hal hsync ha hcnt _ _), State.setpoints_taken hc htaken⟩
    · exact ⟨_, congrArg Host.Outcome.next (State.rxPdo_applies hactive hal hsync ha hcnt _ _), State.setpoints_held hp hold⟩
    · exact congrArg Host.Outcome.next (if_pos (hoff.imp (fun h => by rw [h]; rfl) id))
    · exact congrArg Host.Outcome.next (if_pos (hoff.imp (fun h => by rw [h]; rfl) id))
    · have herror : s.syncError = s.missedEdge := by
        rw [State.syncError, if_neg (by simp [hactive, hsync])]
        exact if_pos hmiss
      refine ⟨_, congrArg Host.Outcome.next herror, rfl, rfl, ?_⟩
      exact (State.obj_setObj_same s hc 0x1C32 0xB _).trans (Nat.mod_eq_of_lt (by omega))
    · have herror : s.syncError = s.fallBack.setpointsLost := by
        rw [State.syncError, if_neg (by simp [hactive, hsync])]
        exact if_neg (Nat.not_lt.mpr hmiss)
      have hobj : s.fallBack.obj 0x1C32 0x20 = 1 :=
        s.fallBack_obj.trans (State.obj_setObj_same _ (good_srv (State.bumpObj_good (good_start hc noParts)) _).canon _ _ _)
      refine ⟨_, congrArg Host.Outcome.next herror, State.setpointsLost_present _, ?_, fun hal => ?_⟩
      · rw [State.setpointsLost_keeps.1, hobj]
      · rw [State.setpointsLost_keeps.2.1, State.setpointsLost_keeps.2.2]
        exact s.fallBack_al hal
    · refine ⟨_, congrArg Host.Outcome.next (if_pos ⟨?_, hsync⟩), State.latch_txPdo hc⟩
      exact Option.isSome_iff_ne_none.mpr hactive
    · exact ⟨_, congrArg Host.Outcome.next (if_pos hp), rfl, rfl⟩
    · exact congrArg Host.Outcome.next (if_neg (by rw [hp]; decide))

end Sys2Proof.Machine

/-! # PROOFS. SDO services (R288, R296 to R304) -/

namespace Sys2Proof.Machine

open Sys2Proof

variable {s : State}

/-! ## The clamp log -/

/-- A clamp is counted in 0x2F11.01. -/
theorem State.logClamp_count (hc : Canonical s) (r : ClampRec) :
    (s.logClamp r).obj 0x2F11 1 = min (s.obj 0x2F11 1 + 1) (2 ^ 64 - 1) := by
  have hout := unwatched_false
  have hput : ∀ (a : State) (i j n : Nat), 256 * 0x2F11 + 1 ≠ 256 * i + j → (a.setObj i j n).obj 0x2F11 1 = a.obj 0x2F11 1 :=
    fun a i j n h => a.obj_setObj_else i j n 0x2F11 1 h
  let s1 : State := { s with srv := { s.srv with clamps := Map.put s.srv.clamps none (s.obj 0x2F11 2) (some r) } }
  let s2 : State := s1.setObj 0x2F11 2 (if s.obj 0x2F11 2 = 255 then 1 else s.obj 0x2F11 2 + 1)
  have h2 : Canonical s2 := (State.setObj_good (good_srv (good_start hc noParts) _)).canon
  have hcount : (s2.bumpObj 0x2F11 1 1 (2 ^ 64 - 1)).obj 0x2F11 1 = min (s.obj 0x2F11 1 + 1) (2 ^ 64 - 1) := by
    have hold : s2.obj 0x2F11 1 = s.obj 0x2F11 1 := hput s1 _ _ _ (by decide)
    rw [State.bumpObj, State.obj_setObj_same _ h2, hold]
    exact Nat.mod_eq_of_lt (by omega)
  refine Eq.trans ?_ hcount
  simp only [State.logClamp]
  split
  · rw [State.obj_agentIrq_read]
    split
    · exact hput _ _ _ _ (by decide)
    · exact (hput _ _ _ _ (by decide)).trans (hput _ _ _ _ (by decide))
  · exact hput _ _ _ _ (by decide)

/-! ## Uploads -/

theorem State.markRead_objs (s : State) (i j : Nat) : (s.markRead i j).objs = s.objs := by
  unfold State.markRead
  split
  · split <;> rfl
  · rfl

theorem State.upload_eq (s : State) (i j : Nat) :
    (s.upload i j).1 = (if missing i j = 0 then ⟨0, s.entryBytes i j⟩ else ⟨missing i j, []⟩) ∧
      (s.upload i j).2.objs = s.objs := by
  unfold State.upload
  by_cases h : missing i j = 0
  · simp [h, State.markRead_objs]
  · simp [h]

/-! ## Writes of entries -/

/-- A write whose aborts are ruled out. -/
theorem State.download_eq {i j src : Nat} {data : List Nat} {r : ObjDesc} (hok : s.writeAbort i j data src = 0)
    (hrow : findObj i j = some r) :
    s.download i j data src =
      let w := (s.fromSrc src).writeEntry i j (ofBytes data) [(j, ofBytes data)] r
      (0, (w.1.issueAll w.2).fromSrc 0) := by
  simp only [State.download, hok, State.writeEntries, hrow, List.nil_append]
  rfl

theorem State.download_abort {i j src : Nat} {data : List Nat} (h : s.writeAbort i j data src ≠ 0) :
    s.download i j data src = (s.writeAbort i j data src, s) := if_pos h

/-- A plain entry that its range admits is stored. -/
theorem State.writeEntry_selection (s : State) {j v : Nat} {pairs : List (Nat × Nat)} {r : ObjDesc} (hv : v < 65536)
    (hr : r = ⟨0x2D01, 1, 1, 16, 2, 1, 0, 0, 0xFFFF⟩) :
    s.writeEntry 0x2D01 j v pairs r = (s.setObj 0x2D01 j v, []) := by
  subst hr
  have hmask : v &&& objMask 0x2D01 j = v := by
    rw [objMask, if_neg (by omega), if_neg (by omega), if_neg (by omega), if_neg (by omega), if_neg (by omega),
      if_neg (by omega), if_neg (by omega), if_neg (by omega), Nat.and_two_pow_sub_one_eq_mod]
    omega
  have hclamp : s.clampObj 0x2D01 j v ⟨0x2D01, 1, 1, 16, 2, 1, 0, 0, 0xFFFF⟩ = v := by
    simp [State.clampObj, clampN]
    omega
  simp only [State.writeEntry, hmask, hclamp]
  simp [State.applyEntry, State.logEntry]

/-- The row of 0x2D01: the sixteen selections of the observation pins. -/
def selectionRow : ObjDesc := ⟨0x2D01, 1, 1, 16, 2, 1, 0, 0, 0xFFFF⟩

theorem findObj_selection : ∀ j, j < 17 → 0 < j → findObj 0x2D01 j = some selectionRow := by decide +kernel

theorem State.writeEntries_selection {pairs : List (Nat × Nat)} (l : List (Nat × Nat))
    (hl : ∀ e ∈ l, 0 < e.1 ∧ e.1 < 17 ∧ e.2 < 65536) : ∀ a : State,
    a.writeEntries 0x2D01 pairs l [] = (l.foldl (fun a e => a.setObj 0x2D01 e.1 e.2) a, []) := by
  induction l with
  | nil => exact fun _ => rfl
  | cons e l ih =>
    intro a
    obtain ⟨hpos, hsub, hv⟩ := hl e List.mem_cons_self
    obtain ⟨j, v⟩ := e
    rw [State.writeEntries, findObj_selection j hsub hpos]
    simp only [State.writeEntry_selection a hv rfl, selectionRow, List.append_nil, List.foldl_cons]
    exact ih (fun e he => hl e (List.mem_cons_of_mem _ he)) _

/-- The values of a list stored from a subindex on. -/
def storeFrom (j : Nat) (vs : List Nat) (s : State) : State :=
  ((List.range' j vs.length).zip vs).foldl (fun a e => a.setObj 0x2D01 e.1 e.2) s

theorem storeFrom_cons (j v : Nat) (vs : List Nat) (s : State) :
    storeFrom j (v :: vs) s = storeFrom (j + 1) vs (s.setObj 0x2D01 j v) := rfl

theorem storeFrom_obj_before (vs : List Nat) : ∀ (j k : Nat) (s : State), k < j →
    (storeFrom j vs s).obj 0x2D01 k = s.obj 0x2D01 k := by
  induction vs with
  | nil => exact fun _ _ _ _ => rfl
  | cons v vs ih =>
    intro j k s hk
    rw [storeFrom_cons, ih _ _ _ (by omega), State.obj_setObj_else _ _ _ _ _ _ (by omega)]

theorem storeFrom_obj (vs : List Nat) : ∀ (j : Nat) (s : State), Canonical s → (∀ v ∈ vs, v < 65536) → ∀ n, n < vs.length →
    (storeFrom j vs s).obj 0x2D01 (j + n) = vs.getD n 0 := by
  induction vs with
  | nil => exact fun _ _ _ _ _ hn => absurd hn (Nat.not_lt_zero _)
  | cons v vs ih =>
    intro j s hc hv n hn
    rw [storeFrom_cons]
    cases n with
    | zero =>
      rw [storeFrom_obj_before _ _ _ _ (by omega), Nat.add_zero, State.obj_setObj_same _ hc]
      exact Nat.mod_eq_of_lt (Nat.lt_trans (hv v List.mem_cons_self) (by decide))
    | succ n =>
      have h := ih (j + 1) _ (State.setObj_canonical hc 0x2D01 j v) (fun v hv' => hv v (List.mem_cons_of_mem _ hv')) n
        (by simpa using hn)
      rw [Nat.add_assoc, Nat.add_comm 1 n] at h
      rw [h]
      rfl

/-- The two bytes of a selection. -/
def selectionBytes (v : BitVec 16) : List Nat := [v.toNat % 256, v.toNat / 256]

theorem ofBytes_selectionBytes (v : BitVec 16) : ofBytes (selectionBytes v) = v.toNat := by
  have := v.isLt
  simp only [ofBytes, selectionBytes, List.foldr_cons, List.foldr_nil]
  omega

theorem completeSubs_selection : completeSubs 0x2D01 false = List.range' 1 16 := by decide +kernel

theorem completePairs_zip : ∀ (subs : List Nat) (l : List (BitVec 16)), (∀ j ∈ subs, 0 < j ∧ j < 17) →
    completePairs 0x2D01 subs (l.map selectionBytes) = subs.zip (l.map BitVec.toNat)
  | [], _, _ => rfl
  | _ :: _, [], _ => rfl
  | j :: subs, v :: l, h => by
    obtain ⟨hpos, hlt⟩ := h j List.mem_cons_self
    have ih := completePairs_zip subs l (fun j hj => h j (List.mem_cons_of_mem _ hj))
    rw [completePairs] at ih ⊢
    simp only [List.map_cons, List.zip_cons_cons, List.filterMap_cons, findObj_selection j hlt hpos, selectionRow,
      ofBytes_selectionBytes, ih]
    rfl

theorem selectionSubs : ∀ j ∈ List.range' 1 16, 0 < j ∧ j < 17 := by decide

theorem State.subAbort_selection (s : State) {j : Nat} (hpos : 0 < j) (hlt : j < 17) (v : BitVec 16) :
    s.subAbort 0x2D01 j (selectionBytes v) = 0 := by
  rw [State.subAbort, findObj_selection j hlt hpos]
  simp [selectionRow, State.entryAbort, selectionBytes, objSize, State.pdoAbort, isPdoMap]

/-- A write of all sixteen selections is possible. -/
theorem State.completeAbort_selection (s : State) {l : List (BitVec 16)} (hl : l.length = 16) :
    s.completeAbort 0x2D01 false (l.map selectionBytes) 0 = 0 := by
  have hindex : hasIndex 0x2D01 = true := by decide +kernel
  have hnone : (((completeSubs 0x2D01 false).zip (l.map selectionBytes)).map (fun e => s.subAbort 0x2D01 e.1 e.2)).find?
      (fun x => decide (x ≠ 0)) = none := by
    rw [List.find?_eq_none]
    intro x hx
    obtain ⟨⟨j, d⟩, he, rfl⟩ := List.mem_map.mp hx
    obtain ⟨hj, hd⟩ := List.of_mem_zip he
    obtain ⟨v, -, rfl⟩ := List.mem_map.mp hd
    rw [completeSubs_selection] at hj
    obtain ⟨hpos, hlt⟩ := selectionSubs j hj
    simp [s.subAbort_selection hpos hlt]
  have hsplit : s.splitBasins 0x2D01 (completePairs 0x2D01 (completeSubs 0x2D01 false) (l.map selectionBytes)) = false := by
    rw [State.splitBasins, List.filter_eq_nil_iff.mpr]
    · simp
    · rintro ⟨j, v⟩ he
      rw [completeSubs_selection, completePairs_zip _ _ selectionSubs] at he
      obtain ⟨hpos, hlt⟩ := selectionSubs j (List.of_mem_zip he).1
      simp [findObj_selection j hlt hpos, selectionRow]
  have hlen : (completeSubs 0x2D01 false).length = (l.map selectionBytes).length := by
    rw [completeSubs_selection, List.length_map, hl]
    rfl
  simp only [State.completeAbort, hindex, State.mailboxShut, hnone, hsplit, hlen]
  simp

/-- The sixteen selections are stored in order. -/
theorem State.downloadAll_selection (s : State) {l : List (BitVec 16)} (hl : l.length = 16) :
    s.downloadAll 0x2D01 false (l.map selectionBytes) 0 =
      (0, (storeFrom 1 (l.map BitVec.toNat) (s.fromSrc 0)).fromSrc 0) := by
  have hpairs : completePairs 0x2D01 (completeSubs 0x2D01 false) (l.map selectionBytes) =
      (List.range' 1 (l.map BitVec.toNat).length).zip (l.map BitVec.toNat) := by
    rw [completeSubs_selection, completePairs_zip _ _ selectionSubs, List.length_map, hl]
  have hwrite := fun pairs => State.writeEntries_selection (pairs := pairs)
    ((List.range' 1 (l.map BitVec.toNat).length).zip (l.map BitVec.toNat)) (fun e he => by
      obtain ⟨hj, hv⟩ := List.of_mem_zip he
      obtain ⟨v, -, hv⟩ := List.mem_map.mp hv
      rw [List.length_map, hl] at hj
      obtain ⟨hpos, hlt⟩ := selectionSubs _ hj
      exact ⟨hpos, hlt, hv ▸ v.isLt⟩) (s.fromSrc 0)
  simp only [State.downloadAll, s.completeAbort_selection hl, hpairs, hwrite]
  rfl

/-! ## A clamped entry and a slot's quota -/

/-- The row of 0x2002.03, which takes 1 to 16. -/
def scaleRow : ObjDesc := ⟨0x2002, 1, 3, 1, 1, 1, 4, 1, 16⟩

theorem findObj_scale : findObj 0x2002 3 = some scaleRow := by decide +kernel

theorem and_allOnes {v : Nat} (h : v < 2 ^ 64) : v &&& (2 ^ 64 - 1) = v := by
  rw [Nat.and_two_pow_sub_one_eq_mod, Nat.mod_eq_of_lt h]

theorem State.writeEntry_scale (s : State) {v : Nat} (pairs : List (Nat × Nat)) (hv : v < 256) :
    s.writeEntry 0x2002 3 v pairs scaleRow =
      ((s.setObj 0x2002 3 (clampN 1 16 v)).logEntry 0x2002 3 v (clampN 1 16 v) 0 none, []) := by
  have hmask : v &&& objMask 0x2002 3 = v := and_allOnes (by omega)
  simp only [State.writeEntry, hmask]
  rfl

/-- The value stored, and the count of the clamp log. -/
theorem State.scale_logged (hc : Canonical s) (v c : Nat) (hclt : c < 256) :
    let a := (s.setObj 0x2002 3 c).logEntry 0x2002 3 v c 0 none
    a.obj 0x2002 3 = c ∧ a.obj 0x2F11 1 = if c = v then s.obj 0x2F11 1 else min (s.obj 0x2F11 1 + 1) (2 ^ 64 - 1) := by
  intro a
  have hset : (s.setObj 0x2002 3 c).obj 0x2002 3 = c := (State.obj_setObj_same _ hc _ _ _).trans (Nat.mod_eq_of_lt (by omega))
  have hold : (s.setObj 0x2002 3 c).obj 0x2F11 1 = s.obj 0x2F11 1 := State.obj_setObj_else _ _ _ _ _ _ (by decide)
  by_cases hcv : c = v
  · have ha : a = s.setObj 0x2002 3 c := if_pos hcv
    rw [ha, if_pos hcv]
    exact ⟨hset, hold⟩
  · have ha : a = (s.setObj 0x2002 3 c).logClamp ⟨0x2002, 3, s.srv.src, 0, 255, 255, v, c, 0 % 2 ^ 56, 255, false⟩ := if_neg hcv
    rw [ha, if_neg hcv, State.logClamp_count (State.setObj_canonical hc _ _ _), hold]
    exact ⟨(State.logClamp_obj _ _ (by decide) (by decide)).trans hset, rfl⟩

/-- The row of the quotas. -/
def quotaRow : ObjDesc := ⟨0x2510, 128, 2, 1, 4, 2, 0, 0, 0x1000000⟩

theorem findObj_quota : ∀ q : Fin 128, findObj (0x2510 + q.val) 2 = some quotaRow := by decide +kernel

theorem hasIndex_quota : ∀ q : Fin 128, hasIndex (0x2510 + q.val) = true := by decide +kernel

/-- A quota whose slot is bound to a basin is answered for the basin's batch. -/
theorem State.writeEntry_quota (s : State) (q : Fin 128) {v b : Nat} (hv : v ≤ 2 ^ 24)
    (hb : s.basinOf (s.hostTile (s.bindingWill (0x2510 + q.val) [(2, v)] / 65536 % 4)) = some b) :
    s.writeEntry (0x2510 + q.val) 2 v [(2, v)] quotaRow = (s, [(b, objKey (0x2510 + q.val) 2, v)]) := by
  have hq := q.isLt
  have hmask : v &&& objMask (0x2510 + q.val) 2 = v := by
    rw [objMask, if_neg (by omega), if_neg (by omega), if_neg (by omega), if_neg (by omega), if_neg (by omega),
      if_neg (by omega), if_neg (by omega), if_neg (by omega)]
    exact and_allOnes (by omega)
  have hclamp : s.clampObj (0x2510 + q.val) 2 v quotaRow = v := by
    rw [State.clampObj, if_neg (by omega), if_neg (by omega), if_neg (by omega), if_neg (by omega), if_neg (by omega),
      if_neg (by omega), if_neg (by omega), if_neg (by omega), if_neg (by omega), if_neg (by omega), if_neg (by omega)]
    show clampN 0 0x1000000 v = v
    rw [clampN, if_neg (by omega), if_neg (by omega)]
  have hstays : s.movesOut (0x2510 + q.val) 2 v = false := if_neg (by omega)
  have hhomes : s.homes (0x2510 + q.val) 2 v [(2, v)] = [b] := by
    have htrim : ¬isTrim (0x2510 + q.val) = true := by
      simp only [isTrim, Bool.and_eq_true, decide_eq_true_eq]
      omega
    have hslot : 0x2510 ≤ 0x2510 + q.val ∧ 0x2510 + q.val < 0x2590 ∧ 2 = 2 := ⟨by omega, by omega, rfl⟩
    rw [State.homes, if_neg htrim, if_pos hslot, hb]
    rfl
  simp only [State.writeEntry, hmask, hclamp, hstays, hhomes]
  simp [quotaRow, State.logEntry]

theorem State.obj_answer (s : State) (r : SdoRsp) (k l : Nat) : (s.answer r).obj k l = s.obj k l := rfl
theorem State.obj_fromSrc (s : State) (src k l : Nat) : (s.fromSrc src).obj k l = s.obj k l := rfl
theorem State.issueAll_nil (s : State) : s.issueAll [] = s := rfl

theorem State.issueAll_one (s : State) (b k v : Nat) : s.issueAll [(b, k, v)] = s.stageBatch b [(k, v)] := by
  simp [State.issueAll, State.issueBatch, List.eraseDups_cons]

/-- The newest batch is kept. -/
theorem mem_pruneBatches_last (l : List ObjBatch) (k : ObjBatch) : k ∈ pruneBatches (l ++ [k]) := by
  refine List.mem_filterMap.mpr ⟨(k, l.length), ?_, if_pos (.inl (by simp))⟩
  rw [List.mem_zipIdx_iff_getElem?]
  simp

/-- Settles O37. -/
theorem sdoServices : Obligations.SdoServices := by
  unfold Obligations.SdoServices
  intro s i sub hc
  have hout := unwatched_false
  refine ⟨fun hclosed d dd z c hmem => ?_, fun hopen => ⟨⟨_, congrArg Host.Outcome.next (if_pos hopen), ?_, ?_⟩, fun hindex => ?_,
    ⟨_, congrArg Host.Outcome.next (if_pos hopen), rfl, rfl⟩, fun z hindex => ⟨_, congrArg Host.Outcome.next (if_pos hopen), ?_, ?_⟩,
    fun d habort => ⟨_, congrArg Host.Outcome.next (if_pos hopen), ?_⟩,
    fun z d habort => ⟨_, congrArg Host.Outcome.next (if_pos hopen), ?_⟩,
    fun l hl => ⟨_, congrArg Host.Outcome.next (if_pos hopen), ?_⟩, fun v => ⟨_, congrArg Host.Outcome.next (if_pos hopen), ?_⟩,
    fun d => ⟨_, congrArg Host.Outcome.next (if_pos hopen), ?_⟩,
    fun q d b hlen hbytes htop hb => ⟨_, congrArg Host.Outcome.next (if_pos hopen), ?_⟩⟩⟩
  · have hshut : ¬s.coeOpen = true := by rw [hclosed]; exact Bool.false_ne_true
    simp only [List.mem_cons, List.not_mem_nil, or_false] at hmem
    rcases hmem with rfl | rfl | rfl | rfl | rfl <;> exact congrArg Host.Outcome.next (if_neg hshut)
  · exact (s.upload_eq i.toNat sub.toNat).2
  · exact congrArg some (s.upload_eq i.toNat sub.toNat).1
  · simp [missing, hindex]
  · show (s.uploadAll i.toNat z).2.objs = s.objs
    rw [State.uploadAll, if_neg (by simp [hindex])]
    exact State.foldl_keeps State.objs (fun a j => a.markRead_objs _ j) _ s
  · show some (s.uploadAll i.toNat z).1 = _
    rw [State.uploadAll, if_neg (by simp [hindex])]
  · have hdown : s.download i.toNat sub.toNat d 0 = (s.writeAbort i.toNat sub.toNat d 0, s) := if_pos habort
    rw [hdown]
    exact ⟨rfl, rfl, rfl⟩
  · have hdown : s.downloadAll i.toNat z d 0 = (s.completeAbort i.toNat z d 0, s) := if_pos habort
    rw [hdown]
    exact ⟨rfl, rfl, rfl⟩
  · have hdown : s.downloadAll (0x2D01#16).toNat false (l.map (fun v => [v.toNat % 256, v.toNat / 256])) 0 = _ :=
      s.downloadAll_selection hl
    rw [hdown]
    refine ⟨rfl, fun n hn => ?_⟩
    have hstored := storeFrom_obj (l.map BitVec.toNat) 1 (s.fromSrc 0) (State.fromSrc_good (good_start hc noParts)).canon
      (fun v hv => by
        obtain ⟨w, -, rfl⟩ := List.mem_map.mp hv
        exact w.isLt) n (by rw [List.length_map, hl]; exact hn)
    rw [Nat.add_comm] at hstored
    refine hstored.trans ?_
    rw [List.getD_eq_getElem?_getD, List.getElem?_map, List.getD_eq_getElem?_getD]
    cases l[n]? <;> rfl
  · have habort : s.writeAbort 0x2002 3 [v.toNat] 0 = 0 := by
      have hthere : missing 0x2002 3 = 0 := by decide +kernel
      rw [State.writeAbort, hthere, findObj_scale]
      simp [State.mailboxShut, State.entryAbort, scaleRow, objSize, State.pdoAbort, isPdoMap]
    have hval : ofBytes [v.toNat] = v.toNat := by
      have := v.isLt
      simp only [ofBytes, List.foldr_cons, List.foldr_nil]
      omega
    have hdown := State.download_eq habort findObj_scale
    simp only [hval, State.writeEntry_scale _ _ v.isLt] at hdown
    rw [show (0x2002#16).toNat = 0x2002 from rfl, show (3#8).toNat = 3 from rfl, hdown]
    refine ⟨rfl, ?_⟩
    have hlow : clampN 1 16 v.toNat < 256 := by
      unfold clampN
      repeat' split
      all_goals omega
    dsimp only
    rw [State.obj_answer, State.obj_answer, State.obj_fromSrc, State.obj_fromSrc, State.issueAll_nil]
    exact State.scale_logged (s := s.fromSrc 0) (State.fromSrc_good (good_start hc noParts)).canon v.toNat _ hlow
  · have habort : s.writeAbort 0x2000 7 d 0 = 0x06010002 := by
      have hthere : missing 0x2000 7 = 0 := by decide +kernel
      have hrow : findObj 0x2000 7 = some ⟨0x2000, 1, 7, 1, 1, 0, 0, 0, 255⟩ := by decide +kernel
      rw [State.writeAbort, hthere, hrow]
      simp [State.mailboxShut, State.entryAbort]
    have hdown := State.download_abort (s := s) (i := 0x2000) (j := 7) (data := d) (src := 0) (by rw [habort]; decide)
    rw [show (0x2000#16).toNat = 0x2000 from rfl, show (7#8).toNat = 7 from rfl]
    rw [hdown, habort]
    exact ⟨rfl, rfl⟩
  · have hq := q.isLt
    have hi : (BitVec.ofNat 16 (0x2510 + q.val)).toNat = 0x2510 + q.val := by
      rw [BitVec.toNat_ofNat]
      omega
    have habort : s.writeAbort (0x2510 + q.val) 2 d 0 = 0 := by
      have hthere : missing (0x2510 + q.val) 2 = 0 := by simp [missing, hasIndex_quota q, findObj_quota q]
      rw [State.writeAbort, hthere, findObj_quota q]
      have hindex : ¬(0x2510 + q.val = 0x7000) := by omega
      have hpdo : s.pdoAbort (0x2510 + q.val) 2 (ofBytes d) = 0 := by
        have hmap : isPdoMap (0x2510 + q.val) = false := by
          simp only [isPdoMap, Bool.or_eq_false_iff, Bool.and_eq_false_iff, decide_eq_false_iff_not]
          omega
        have hplain : ¬(0x2510 + q.val = 0x1C12 ∨ 0x2510 + q.val = 0x1C13) := by omega
        simp only [State.pdoAbort, hmap, hplain, Bool.false_eq_true, if_false]
      simp [State.mailboxShut, State.entryAbort, quotaRow, objSize, hlen, hindex, hpdo]
    have hdown := State.download_eq habort (findObj_quota q)
    rw [State.writeEntry_quota (s.fromSrc 0) q htop hb] at hdown
    rw [hi, show (2#8).toNat = 2 from rfl, hdown]
    dsimp only
    rw [State.issueAll_one]
    exact ⟨rfl, _, mem_pruneBatches_last _ _, rfl, rfl, rfl, rfl⟩

end Sys2Proof.Machine

/-! # PROOFS. Resets of the endpoint and the mailbox (R264, R278, R280, R287, R491) -/

namespace Sys2Proof.Machine

open Sys2Proof

variable {s : State}

/-! ## Resets of the endpoint -/

/-- What an unlisted key reads as, and every listed value has, a read has. -/
theorem map_get_of_forall {α : Type} {P : α → Prop} {d : α} (k : Nat) (hd : P d) :
    ∀ {m : Map α}, (∀ e ∈ m, P e.2) → P (Map.get m d k)
  | [], _ => hd
  | e :: rest, h => by
    obtain ⟨j, v⟩ := e
    rw [Map.get]
    split
    · exact h (j, v) List.mem_cons_self
    · exact map_get_of_forall k hd fun e he => h e (List.mem_cons_of_mem _ he)

/-- A read of a map with only the keys that `p` keeps. -/
theorem map_get_filter {α : Type} (p : Nat → Bool) (d : α) (k : Nat) : ∀ m : Map α,
    Map.get (m.filter (fun e => p e.1)) d k = if p k then Map.get m d k else d
  | [] => (ite_self d).symm
  | (j, v) :: rest => by
    have ih := map_get_filter p d k rest
    by_cases hj : p j = true
    · simp only [List.filter_cons, hj, if_true, Map.get, ih]
      by_cases hjk : j = k
      · subst hjk
        rw [if_pos rfl, if_pos rfl, if_pos hj]
      · rw [if_neg hjk, if_neg hjk]
    · simp only [List.filter_cons, hj, Bool.false_eq_true, if_false, Map.get, ih]
      by_cases hjk : j = k
      · subst hjk
        rw [if_neg hj, if_neg hj]
      · rw [if_neg hjk]

/-- A reset of the endpoint leaves every queue disabled and empty. -/
theorem State.flr_queue (s : State) (q : Nat) : (s.flr.queue q).entries = [] ∧ (s.flr.queue q).tail = 0 := by
  refine map_get_of_forall (P := fun k : HostQueue => k.entries = [] ∧ k.tail = 0) q ⟨rfl, rfl⟩ fun e he => ?_
  obtain ⟨e', -, rfl⟩ := List.mem_map.mp (List.mem_filter.mp he).1
  exact ⟨rfl, rfl⟩

theorem State.flr_bar (s : State) (off : Nat) :
    s.flr.bar off = if off < 0x100 then s.bar off else (barDefault off).toNat := by
  have h := map_get_filter (fun k => decide (k < 0x100)) (barDefault off) off s.bar0
  rw [State.bar, State.flr]
  rw [h]
  by_cases hoff : off < 0x100
  · simp [hoff, State.bar]
  · simp [hoff]

theorem State.flr_disabled (s : State) (q : Fin 129) : s.flr.qOn q = false ∧ s.flr.qState q = 0 := by
  have hdefault : ∀ q : Fin 129, ¬qBase q.val + 0x14 < 0x100 ∧ ¬qBase q.val + 0x18 < 0x100 ∧
      barDefault (qBase q.val + 0x14) = 0 ∧ barDefault (qBase q.val + 0x18) = 0 := by decide +kernel
  obtain ⟨hctl, hstate, hctl0, hstate0⟩ := hdefault q
  rw [State.qOn, State.qState, State.flr_bar, State.flr_bar, if_neg hctl, if_neg hstate, hctl0, hstate0]
  exact ⟨rfl, rfl⟩

/-- What every reset of the endpoint leaves, whatever else it notes of the host's side. -/
structure EndpointReset (s a : State) : Prop where
  disabled : ∀ q : Fin 129, a.qOn q = false ∧ a.qState q = 0 ∧ (a.queue q).entries = [] ∧ (a.queue q).tail = 0
  masked : a.host.unmasked = []
  mirrors : ∀ off, off < 0x100 → a.bar off = s.bar off
  slots : ∀ (q : Fin 128) (sub : Nat), a.obj (0x2510 + q.val) sub = s.obj (0x2510 + q.val) sub
  tiles : a.tiles = s.tiles

theorem State.flr_resets (s : State) : EndpointReset s s.flr :=
  ⟨fun q => ⟨(s.flr_disabled q).1, (s.flr_disabled q).2, s.flr_queue q⟩, rfl,
    fun off h => (s.flr_bar off).trans (if_pos h), fun _ _ => rfl, rfl⟩

theorem State.endpointReset_resets (s : State) : EndpointReset s s.endpointReset := by
  obtain ⟨hdisabled, hmasked, hmirrors, -, htiles⟩ := s.flr_resets
  refine ⟨hdisabled, hmasked, hmirrors, fun q sub => ?_, htiles⟩
  have hq := q.isLt
  exact s.flr.obj_setObj_else 0x2500 2 0 (0x2510 + q.val) sub (by omega)

theorem State.endpointReset_link (hc : Canonical s) :
    s.endpointReset.host.linkUp = false ∧ s.endpointReset.obj 0x2500 2 = 0 := by
  have hout := unwatched_false
  exact ⟨rfl, State.obj_setObj_same _ (State.flr_good (good_start hc noParts)).canon 0x2500 2 0⟩

/-- The link is up with a width and a speed. -/
def State.linkTrained (s : State) (n : Nat) : State :=
  { s.setObj 0x2500 2 n with host := { s.host with linkUp := true, perst := false, refLost := false } }

theorem State.linkTrained_obj (hc : Canonical s) {width v : Nat} (hw : width < 5) (hv : v < 256) :
    (s.linkTrained (2 ^ width + 256 * v)).obj 0x2500 2 % 256 = 2 ^ width ∧
      (s.linkTrained (2 ^ width + 256 * v)).obj 0x2500 2 / 256 = v := by
  have hobj : (s.linkTrained (2 ^ width + 256 * v)).obj 0x2500 2 = (2 ^ width + 256 * v) % 2 ^ 64 :=
    State.obj_setObj_same _ hc 0x2500 2 _
  have hpow : 2 ^ width < 2 ^ 5 := Nat.pow_lt_pow_right (by decide) hw
  rw [hobj]
  generalize 2 ^ width = p at hpow ⊢
  omega

/-! ## The mailbox -/

theorem State.mbDone_shows (hc : Canonical s) (abort : Nat) (data : Option (List Nat)) :
    (s.mbDone abort data).bar 0x40014 = abort % 2 ^ 32 ∧ bitOf ((s.mbDone abort data).bar 0x40010) 8 = false ∧
      (s.mbDone abort data).objs = s.objs ∧ ∀ d, data = some d → (s.mbDone abort data).host.mbData = d.take 4096 := by
  have hsignal : ∀ (a : State) (v : Nat), (a.signal v).bar0 = a.bar0 ∧ (a.signal v).objs = a.objs ∧
      (a.signal v).host.mbData = a.host.mbData := fun a v => by
    unfold State.signal
    split
    · exact ⟨rfl, rfl, rfl⟩
    · split <;> exact ⟨rfl, rfl, rfl⟩
  have hout := unwatched_false
  have hcode : Canonical (s.setBar 0x40014 abort) := (State.setBar_good (good_start hc noParts)).canon
  let a1 : State := (s.setBar 0x40014 abort).setBar 0x40010 (s.bar 0x40010 % 256)
  have hbar : ∃ a : State, s.mbDone abort data = a.signal 128 ∧ a.bar0 = a1.bar0 ∧ a.objs = s.objs ∧
      ∀ d, data = some d → a.host.mbData = d.take 4096 := by
    cases data with
    | none => exact ⟨a1, rfl, rfl, rfl, fun _ h => nomatch h⟩
    | some d =>
      refine ⟨_, rfl, rfl, rfl, fun d' h => ?_⟩
      cases h
      rfl
  obtain ⟨a, ha, hbar0, hobjs, hdata⟩ := hbar
  obtain ⟨hsbar, hsobjs, hsdata⟩ := hsignal a 128
  have hread : ∀ off, (s.mbDone abort data).bar off = a1.bar off := fun off => by
    rw [ha, State.bar, State.bar, hsbar, hbar0]
  refine ⟨?_, ?_, ?_, fun d hd => ?_⟩
  · rw [hread, State.bar_setBar_other _ _ _ _ (by decide), State.bar_setBar_same hc]
  · rw [hread, State.bar_setBar_same hcode, bitOf]
    have hlow : s.bar 0x40010 % 256 % 2 ^ 32 / 2 ^ 8 = 0 := by omega
    rw [hlow]
    rfl
  · rw [ha, hsobjs, hobjs]
  · rw [ha, hsdata, hdata d hd]

/-- A request is taken: busy is set beside the control that it brings. -/
def State.mbTaken (s : State) (ctl : Nat) : State := (s.setBar 0x4000C ctl).setBar 0x40010 (s.bar 0x40010 + 256)

theorem State.mbTaken_shows (hc : Canonical s) (ctl : Nat) (hidle : bitOf (s.bar 0x40010) 8 = false) :
    bitOf ((s.mbTaken ctl).bar 0x40010) 8 = true ∧ (s.mbTaken ctl).bar 0x4000C = ctl % 2 ^ 32 ∧
      (s.mbTaken ctl).bar 0x40000 = s.bar 0x40000 ∧ (s.mbTaken ctl).bar 0x40004 = s.bar 0x40004 := by
  have hout := unwatched_false
  have hctl : Canonical (s.setBar 0x4000C ctl) := (State.setBar_good (good_start hc noParts)).canon
  refine ⟨?_, ?_, ?_, ?_⟩
  · rw [State.mbTaken, State.bar_setBar_same hctl]
    simp only [bitOf, beq_eq_false_iff_ne, beq_iff_eq] at hidle ⊢
    omega
  · rw [State.mbTaken, State.bar_setBar_other _ _ _ _ (by decide), State.bar_setBar_same hc]
  · rw [State.mbTaken, State.bar_setBar_other _ _ _ _ (by decide), State.bar_setBar_other _ _ _ _ (by decide)]
  · rw [State.mbTaken, State.bar_setBar_other _ _ _ _ (by decide), State.bar_setBar_other _ _ _ _ (by decide)]

theorem State.mbCtl_idle {ctl : Nat} (hidle : bitOf (s.bar 0x40010) 8 = false) (h : ctl % 4 ≠ 0) (h8 : ctl < 8) :
    s.mbCtl ctl = (s.mbTaken ctl).mbServe := by
  rw [State.mbCtl, hidle]
  simp only [Bool.false_eq_true, if_false, h, Nat.mod_eq_of_lt h8]
  rfl

theorem State.mbCtl_busy {ctl : Nat} (hbusy : bitOf (s.bar 0x40010) 8 = true) :
    s.mbCtl ctl = s.setBar 0x40010 (256 + min (s.bar 0x40010 % 256 + 1) 255) := if_pos hbusy

/-- The active Lockkeeper serves a request for a read of one entry. -/
theorem State.mbServe_read (hc : Canonical s) (hactive : s.activeLk ≠ none) (hidle : bitOf (s.bar 0x40010) 8 = false) :
    (s.mbTaken 2).mbServe =
      let r := (s.mbTaken 2).upload (s.bar 0x40000) (s.bar 0x40004)
      r.2.mbDone r.1.abort (if r.1.abort = 0 then some r.1.data else none) := by
  obtain ⟨hbusy, hctl, hindex, hsub⟩ := State.mbTaken_shows hc 2 hidle
  have hactive' : (s.mbTaken 2).activeLk.isNone = false :=
    Option.isNone_eq_false_iff.mpr (Option.isSome_iff_ne_none.mpr hactive)
  simp only [State.mbServe, hbusy, hactive', hctl, hindex, hsub]
  rfl

theorem State.mbServe_write (hc : Canonical s) (hactive : s.activeLk ≠ none) (hidle : bitOf (s.bar 0x40010) 8 = false) :
    (s.mbTaken 1).mbServe =
      let r := (s.mbTaken 1).download (s.bar 0x40000) (s.bar 0x40004) (s.mbTaken 1).mbSend 1
      r.2.mbDone r.1 none := by
  obtain ⟨hbusy, hctl, hindex, hsub⟩ := State.mbTaken_shows hc 1 hidle
  have hactive' : (s.mbTaken 1).activeLk.isNone = false :=
    Option.isNone_eq_false_iff.mpr (Option.isSome_iff_ne_none.mpr hactive)
  simp only [State.mbServe, hbusy, hactive', hctl, hindex, hsub]
  rfl

/-- Settles O36. -/
theorem endpointAndMailbox : Obligations.EndpointAndMailbox := by
  unfold Obligations.EndpointAndMailbox
  have hout := unwatched_false
  refine ⟨fun s hc => ⟨fun c hmem => ?_, ⟨_, rfl, rfl, rfl⟩, ⟨_, rfl, rfl, State.endpointReset_link hc⟩,
    ⟨_, rfl, rfl, State.endpointReset_link hc⟩, fun speed width => ?_⟩, fun s ca hc => ⟨fun hbusy c hmem => ?_, fun hidle =>
      ⟨fun hnone c hmem => ?_, fun hactive => ⟨?_, ?_⟩⟩⟩⟩
  · simp only [List.mem_cons, List.not_mem_nil, or_false] at hmem
    obtain ⟨hdisabled, hmasked, hmirrors, hslots, htiles⟩ := s.endpointReset_resets
    rcases hmem with rfl | rfl | rfl
    · obtain ⟨hdisabled, hmasked, hmirrors, hslots, htiles⟩ := s.flr_resets
      exact ⟨_, rfl, hdisabled, hmasked, hmirrors, hslots, htiles⟩
    · exact ⟨_, rfl, hdisabled, hmasked, hmirrors, hslots, htiles⟩
    · exact ⟨_, rfl, hdisabled, hmasked, hmirrors, hslots, htiles⟩
  · by_cases hspeed : speed = 0
    · subst hspeed
      have hfresh : Canonical s.fresh.2 := (goodSnd_get (State.fresh_good (good_start hc noParts))).canon
      exact ⟨_, rfl, rfl, (State.linkTrained_obj hfresh width.isLt (Nat.mod_lt _ (by decide))).1, fun h => absurd rfl h⟩
    · have htrain : exec (.pcieLinkTrain speed width) s =
          .next (s.linkTrained (2 ^ width.val + 256 * [0, 5, 8, 16, 32, 64].getD speed.val 0)) := by
        show execPcieLinkTrain speed width s = _
        rw [execPcieLinkTrain, if_neg hspeed]
        rfl
      have hv : ∀ speed : Fin 6, [0, 5, 8, 16, 32, 64].getD speed.val 0 < 256 := by decide
      obtain ⟨hwidth, hcode⟩ := State.linkTrained_obj hc width.isLt (hv speed)
      exact ⟨_, htrain, rfl, hwidth, fun _ => hcode⟩
  · have hbar : (s.setBar 0x40010 (256 + min (s.bar 0x40010 % 256 + 1) 255)).bar 0x40010 =
        256 + min (s.bar 0x40010 % 256 + 1) 255 :=
      (State.bar_setBar_same hc _ _).trans (Nat.mod_eq_of_lt (by omega))
    simp only [List.mem_cons, List.not_mem_nil, or_false] at hmem
    rcases hmem with rfl | rfl <;> exact ⟨_, congrArg Host.Outcome.next (State.mbCtl_busy hbusy), rfl, hbar⟩
  · have hwait : ∀ ctl, ctl % 4 ≠ 0 → ctl < 8 → s.mbCtl ctl = s.mbTaken ctl := fun ctl h4 h8 => by
      have hnone' : (s.mbTaken ctl).activeLk.isNone = true := Option.isNone_iff_eq_none.mpr hnone
      rw [State.mbCtl_idle hidle h4 h8, State.mbServe, hnone', Bool.or_true, if_pos rfl]
    simp only [List.mem_cons, List.not_mem_nil, or_false] at hmem
    rcases hmem with rfl | rfl
    · exact ⟨_, congrArg Host.Outcome.next (hwait (1 + 4 * b2n ca) (by cases ca <;> decide) (by cases ca <;> decide)), rfl,
        (State.mbTaken_shows hc _ hidle).1⟩
    · exact ⟨_, congrArg Host.Outcome.next (hwait (2 + 4 * b2n ca) (by cases ca <;> decide) (by cases ca <;> decide)), rfl,
        (State.mbTaken_shows hc _ hidle).1⟩
  · have htaken := (State.setBar_good (off := 0x40010) (n := s.bar 0x40010 + 256)
      (State.setBar_good (off := 0x4000C) (n := 2) (good_start hc noParts)))
    obtain ⟨hcode, hdone, -, hdata⟩ := State.mbDone_shows
      (goodSnd_get (State.upload_good (index := s.bar 0x40000) (sub := s.bar 0x40004) htaken)).canon
      ((s.mbTaken 2).upload (s.bar 0x40000) (s.bar 0x40004)).1.abort
      (if ((s.mbTaken 2).upload (s.bar 0x40000) (s.bar 0x40004)).1.abort = 0
        then some ((s.mbTaken 2).upload (s.bar 0x40000) (s.bar 0x40004)).1.data else none)
    have hserve := (State.mbCtl_idle (ctl := 2) hidle (by decide) (by decide)).trans (State.mbServe_read hc hactive hidle)
    exact ⟨_, congrArg Host.Outcome.next hserve, hcode, hdone, fun h0 => hdata _ (if_pos h0)⟩
  · have htaken := (State.setBar_good (off := 0x40010) (n := s.bar 0x40010 + 256)
      (State.setBar_good (off := 0x4000C) (n := 1) (good_start hc noParts)))
    obtain ⟨hcode, hdone, hobjs, -⟩ := State.mbDone_shows
      (goodSnd_get (State.download_good (i := s.bar 0x40000) (sub := s.bar 0x40004) (data := (s.mbTaken 1).mbSend) (src := 1)
        htaken)).canon ((s.mbTaken 1).download (s.bar 0x40000) (s.bar 0x40004) (s.mbTaken 1).mbSend 1).1 none
    have hserve := (State.mbCtl_idle (ctl := 1) hidle (by decide) (by decide)).trans (State.mbServe_write hc hactive hidle)
    exact ⟨_, congrArg Host.Outcome.next hserve, hcode, hdone, hobjs⟩

end Sys2Proof.Machine

/-! # PROOFS. Lock holds and the epoch store (R54 to R56, R219) -/

namespace Sys2Proof.Machine

open Sys2Proof

variable {s : State}

/-! ## Requests of the towpath -/

theorem State.towpathAsk_open {t : Nat} (f : State → Nat × State) (hlit : (s.tile t).dark = false) (hin : s.absorbing t = false) :
    s.towpathAsk t f = (f s).2.respond t (f s).1 [] := by
  simp [State.towpathAsk, hlit, hin]

/-- A tile that answers, over any run of writes of the tile. -/
theorem TileRun.respond {a : State} {t : Nat} {v : Tile} (h : TileRun s a t v) (st : Nat) (data : List Word32) :
    TileRun s (a.respond t st data) t { v with tp := { v.tp.send t 9 keeperAddr ((st + 65536 * data.length) :: data.map (·.toNat)) with
      responses := v.tp.responses ++ [⟨t, st, data⟩] } } := h.updTile _

/-- What a tile's answer adds to the state. -/
theorem State.respond_shows (hc : Canonical s) (t st : Nat) (data : List Word32) :
    TileOnly s (s.respond t st data) t ∧
      (s.respond t st data).tile t = { s.tile t with tp := ((s.respond t st data).tile t).tp } ∧
      ((s.respond t st data).tile t).tp.responses = (s.tile t).tp.responses ++ [⟨t, st, data⟩] ∧
      ((s.respond t st data).tile t).tp.batches = (s.tile t).tp.batches := by
  obtain ⟨htile, hothers, hrest⟩ := ((TileRun.start hc t).respond st data).becomes
  exact ⟨⟨hothers, hrest⟩, by rw [htile], by rw [htile], by rw [htile]; rfl⟩

theorem State.answersOnly_respond (hc : Canonical s) (t st : Nat) (data : List Word32) :
    AnswersOnly s (s.respond t st data) t st data := State.respond_shows hc t st data

/-! ## The epoch store -/

/-- The row of ESTORE_DATA in the table of a tile's registers. -/
def estoreRow : RegDesc := ⟨0xf40, 4, 4, 0, 1, 32, 1, 0, 0xffffffff, 0, 0xffffffff⟩

theorem findReg_estore : ∀ w : Fin 4, (findReg (0xf40 + 4 * w)).map Prod.fst = some estoreRow := by decide +kernel

/-- The word that ESTORE_DATA takes: the reserved bits of word 3 are zero (R8). -/
def estoreGiven (w : Fin 4) (val : Word32) : Nat :=
  if w.val = 3 then (val &&& 0xFFFFFF1F#32).toNat else val.toNat

theorem estoreGiven_eq (w : Fin 4) (val : Word32) :
    (val.toNat % 2 ^ 32) &&& (if 0xf40 + 4 * w.val = 0xf4c then 0xFFFFFF1F else estoreRow.mask) = estoreGiven w val := by
  rw [Nat.mod_eq_of_lt val.isLt, estoreGiven]
  by_cases h : w.val = 3
  · rw [if_pos (by omega), if_pos h, BitVec.toNat_and]
    rfl
  · rw [if_neg (by omega), if_neg h]
    exact (Nat.and_two_pow_sub_one_eq_mod _ 32).trans (Nat.mod_eq_of_lt val.isLt)

/-- The nearest value of the field's range (R56). -/
def State.estoreLegal (s : State) (t : Nat) (w : Fin 4) (given : Nat) : Nat :=
  s.legalValue t (0xf40 + 4 * w) given estoreRow

theorem State.estoreLegal_eq (s : State) (t : Nat) (w : Fin 4) (given : Nat) :
    s.estoreLegal t w given =
      match w with
      | 0 => max 1 given
      | 1 => max 256 given
      | 2 =>
        let len := (Map.get (s.tile t).lk.estore 0 (s.regN t 0xf38)).toNat / 2 ^ 32 % 2 ^ 32
        if len = 0 then max 1 given else clampN 1 (len - 1) given
      | _ => given := by
  match w with
  | 0 | 1 | 2 | 3 => rfl

theorem clampN_lt {lo hi v n : Nat} (hlo : lo < n) (hhi : hi < n) (hv : v < n) : clampN lo hi v < n := by
  unfold clampN
  split
  · exact hlo
  · split <;> assumption

theorem estoreGiven_lt (w : Fin 4) (val : Word32) : estoreGiven w val < 2 ^ 32 := by
  unfold estoreGiven
  split <;> exact BitVec.isLt _

theorem State.estoreLegal_lt (s : State) (t : Nat) (w : Fin 4) {given : Nat} (h : given < 2 ^ 32) :
    s.estoreLegal t w given < 2 ^ 32 := by
  rw [State.estoreLegal_eq]
  split
  · omega
  · omega
  · generalize (Map.get (s.tile t).lk.estore 0 (s.regN t 0xf38)).toNat = e
    simp only
    split
    · omega
    · exact clampN_lt (by omega) (by omega) h
  · exact h

/-- ESTORE_DATA acts only where the store may be written (R56). -/
theorem State.regAct_estore (s : State) (t : Nat) (w : Fin 4) (v : Nat) :
    s.regAct t (0xf40 + 4 * w) v none estoreRow =
      if s.storeOpen t then (rspOK, s.estoreWrite t w v) else (rspRefused, s) := by
  have hw := w.isLt
  rw [State.regAct, if_neg (by omega), if_neg (by omega), if_pos (by rfl), show (0xf40 + 4 * w.val - 0xf40) / 4 = w.val by omega]
  simp

/-- A write of ESTORE_DATA brings its word into range, and then acts (R56, R219). -/
theorem State.regWrite_estore (s : State) (t : Nat) (w : Fin 4) (val : Word32) :
    let given := estoreGiven w val
    let legal := s.estoreLegal t w given
    s.regWrite t (0xf40 + 4 * w) val.toNat none =
      if s.storeOpen t then
        if legal = given then (0, s.estoreWrite t w legal)
        else (2, (s.estoreWrite t w legal).clampTile t (0xf40 + 4 * w) 3 given legal none)
      else (4, s) := by
  have hw := w.isLt
  have hrange : ¬(0x100 ≤ 0xf40 + 4 * w.val ∧ 0xf40 + 4 * w.val < 0x110) := by omega
  have hwheel : ¬0xf40 + 4 * w.val = 0x4004 := by omega
  obtain ⟨⟨r, k⟩, hfind, hr⟩ := Option.map_eq_some_iff.mp (findReg_estore w)
  obtain rfl : r = estoreRow := hr
  simp only [State.regWrite, hfind, hrange, hwheel, if_false]
  rw [if_neg (by decide), if_neg (by decide), if_neg (by decide), if_neg (by decide)]
  rw [show estoreRow.bits = 32 from rfl, estoreGiven_eq]
  simp only [State.regAct_estore, ← State.estoreLegal.eq_1]
  by_cases hopen : s.storeOpen t = true
  · by_cases h : s.estoreLegal t w (estoreGiven w val) = estoreGiven w val
    · simp [hopen, h, rspOK]
    · simp [hopen, h, rspOK, rspRefused, rspClamped, Writer.src]
  · simp [hopen, rspRefused]

/-- The selected record with its word `w` replaced. -/
def State.estoreRecord (s : State) (t : Nat) (w : Fin 4) (legal : Nat) : BitVec 128 :=
  let old := (Map.get (s.tile t).lk.estore 0 (s.regN t 0xf38)).toNat
  BitVec.ofNat 128 (old - old / 2 ^ (32 * w.val) % 2 ^ 32 * 2 ^ (32 * w.val) + legal * 2 ^ (32 * w.val))

/-- A tile whose store has record `i` replaced. -/
def Tile.withRecord (tl : Tile) (i : Nat) (v : BitVec 128) : Tile :=
  { tl with lk := { tl.lk with estore := Map.put tl.lk.estore 0 i v } }

theorem TileRun.estoreWrite (hc : Canonical s) (t : Nat) (w : Fin 4) {legal : Nat} (hlegal : legal < 2 ^ 32) :
    TileRun s (s.estoreWrite t w legal) t ((s.tile t).withRecord (s.regN t 0xf38) (s.estoreRecord t w legal)) := by
  have hwrite : s.estoreWrite t w legal =
      s.updTile t (fun tl => tl.withRecord (s.regN t 0xf38) (s.estoreRecord t w (legal % 2 ^ 32))) := rfl
  rw [hwrite, Nat.mod_eq_of_lt hlegal]
  exact (TileRun.start hc t).updTile _

theorem State.tile_of_tiles {a : State} (h : a.tiles = s.tiles) (t : Nat) : a.tile t = s.tile t := by
  rw [State.tile, State.tile, h]

theorem State.clampTile_tiles (s : State) (t off src written applied : Nat) (lock : Option Nat) :
    (s.clampTile t off src written applied lock).tiles = s.tiles := by
  have h : ∀ r : ClampRec, (s.logClamp r).tiles = s.tiles := fun r => by
    simp only [State.logClamp]
    split <;> simp [apply_ite State.tiles]
  exact h _

theorem State.clampTile_count (hc : Canonical s) (t off src written applied : Nat) (lock : Option Nat) :
    (s.clampTile t off src written applied lock).obj 0x2F11 1 = min (s.obj 0x2F11 1 + 1) (2 ^ 64 - 1) :=
  State.logClamp_count hc _

theorem execEstoreDataWrite_open {t : TileId} (w : Fin 4) (val : Word32) (hlit : (s.tile t).dark = false)
    (hin : s.absorbing t = false) :
    exec (.estoreDataWrite t w val) s =
      .next ((s.regWrite t (0xf40 + 4 * w) val.toNat none).2.respond t (s.regWrite t (0xf40 + 4 * w) val.toNat none).1 []) :=
  congrArg _ (State.towpathAsk_open _ hlit hin)

/-- Where the store may be written, the word is stored and answered; one out of range is brought into it and recorded. -/
theorem State.estoreDataWrite_stores (hc : Canonical s) {t : TileId} (w : Fin 4) (val : Word32)
    (hlit : (s.tile t).dark = false) (hin : s.absorbing t = false) (hopen : s.storeOpen t = true) {given legal : Nat}
    (hgiven : estoreGiven w val = given) (hlegal : s.estoreLegal t w given = legal) :
    ∃ s', exec (.estoreDataWrite t w val) s = .next s' ∧
      s'.tile t = { (s.tile t).withRecord (s.regN t 0xf38) (s.estoreRecord t w legal) with tp := (s'.tile t).tp } ∧
      (s'.tile t).tp.responses = (s.tile t).tp.responses ++ [⟨t.val, if legal = given then 0 else 2, []⟩] ∧
      (legal = given → TileOnly s s' t) ∧
      (legal ≠ given → s'.obj 0x2F11 1 = min (s.obj 0x2F11 1 + 1) (2 ^ 64 - 1)) := by
  have hout := unwatched_false
  have hlt : legal < 2 ^ 32 := hlegal ▸ s.estoreLegal_lt t w (hgiven ▸ estoreGiven_lt w val)
  have hrun := TileRun.estoreWrite hc t.val w hlt
  have hexec := execEstoreDataWrite_open w val hlit hin
  have hw := s.regWrite_estore t.val w val
  simp only [hopen, if_true, hgiven, hlegal] at hw
  rw [hw] at hexec
  by_cases hin : legal = given
  · rw [if_pos hin] at hexec
    obtain ⟨htile, hothers, hrest⟩ := (hrun.respond 0 []).becomes
    exact ⟨_, hexec, by rw [htile], by rw [htile, if_pos hin]; rfl, fun _ => ⟨hothers, hrest⟩, fun h => absurd hin h⟩
  · rw [if_neg hin] at hexec
    have hstored : Canonical (s.estoreWrite t w legal) := (State.estoreWrite_good (good_start hc noParts)).canon
    obtain ⟨htile, -, -⟩ := hrun.becomes
    have hsame := State.tile_of_tiles ((s.estoreWrite t w legal).clampTile_tiles t (0xf40 + 4 * w) 3 given legal none) t
    have hcount := State.clampTile_count hstored t (0xf40 + 4 * w) 3 given legal none
    have hclamped : Canonical ((s.estoreWrite t w legal).clampTile t (0xf40 + 4 * w) 3 given legal none) :=
      (State.clampTile_good (good_start hstored noParts)).canon
    obtain ⟨-, hrsp, hresponses, -⟩ := State.respond_shows hclamped t.val 2 []
    rw [hsame, htile] at hrsp hresponses
    exact ⟨_, hexec, hrsp, by rw [hresponses, if_neg hin]; rfl, fun h => absurd h hin, fun _ => hcount⟩

/-! ## The obligation -/

theorem State.basin_updBasin_same (hc : Canonical s) (b : Nat) (f : Basin → Basin) :
    (s.updBasin b f).basin b = f (s.basin b) := s.basin_setBasin_same hc b _

theorem State.basin_updBasin_other (s : State) {b c : Nat} (h : c ≠ b) (f : Basin → Basin) :
    (s.updBasin b f).basin c = s.basin c := s.basin_setBasin_other b c _ h

theorem State.updBasin_rest (s : State) (b : Nat) (f : Basin → Basin) : { s.updBasin b f with basins := s.basins } = s := rfl

/-- Settles O25: a request adds to its basin's holds, a release takes it back, and a write of ESTORE_DATA replaces one
word of the selected record. -/
theorem lockHoldsAndEpochStore : Obligations.LockHoldsAndEpochStore := by
  unfold Obligations.LockHoldsAndEpochStore
  have hout := unwatched_false
  refine ⟨fun s b cause lock hc => ⟨?_, fun hheld => ?_, fun hheld => ?_⟩, fun s t w val hc hlit hin => ⟨fun hopen => ?_, fun hopen => ?_⟩⟩
  · exact ⟨_, rfl, State.basin_updBasin_same hc _ _, fun c hcb => s.basin_updBasin_other hcb _, s.updBasin_rest _ _⟩
  · refine ⟨_, rfl, ?_⟩
    simp only [hheld, Bool.false_eq_true, if_false]
    exact ⟨State.basin_updBasin_same hc _ _, fun c hcb => s.basin_updBasin_other hcb _, s.updBasin_rest _ _⟩
  · have ha : Canonical (s.seamTurn b) := (State.seamTurn_good (good_start hc noParts)).canon
    refine ⟨_, rfl, ?_⟩
    simp only [hheld, if_true]
    exact ⟨State.basin_updBasin_same ha _ _, fun c hcb => State.basin_updBasin_other _ hcb _, State.updBasin_rest _ _ _⟩
  · exact State.estoreDataWrite_stores hc w val hlit hin hopen rfl (by match w with | 0 | 1 | 2 | 3 => rfl)
  · have hexec := execEstoreDataWrite_open w val hlit hin
    rw [s.regWrite_estore t.val w val, hopen] at hexec
    exact ⟨_, hexec, State.answersOnly_respond hc t.val 4 []⟩

end Sys2Proof.Machine

/-! # PROOFS. Alarms, notices and STOP (R217, R218, R282, R307, R390, R391) -/

namespace Sys2Proof.Machine

open Sys2Proof

variable {s : State}

/-! ## Messages on their way to the Lockkeeper -/

/-- Words sent again are counted in registers of a tile or hub, and in the window of 0x2640.01. -/
theorem State.hopRetry_keeps (hc : Canonical s) (hop : TpHop) :
    Good ⟨s.pending, s, { tregs := false, win := false, hubs := false }⟩ (s.hopRetry hop) := by
  have hout := unwatched_false
  exact State.hopRetry_good (good_start hc _)

theorem State.hopRetry_whole {hop : TpHop} (h : hop.resent.val = 0) : s.hopRetry hop = s := if_pos h

/-- A message whose words are sound is taken up. -/
theorem State.alarmHop_whole {hop : TpHop} (m : AlarmMsg) (h : hopLoses hop = false) :
    s.alarmHop m hop = (s.hopRetry hop).alarmIn m := if_neg (Bool.eq_false_iff.mp h)

theorem State.irqHop_whole {hop : TpHop} (m : AlarmMsg) (h : hopLoses hop = false) :
    s.irqHop m hop = (s.hopRetry hop).irqIn m := if_neg (Bool.eq_false_iff.mp h)

/-! ## Emergencies (R307) -/

/-- Whether an Emergency may be sent: they are on, and fewer than the limit went out in the last 10 ms. -/
def State.sendsEmergency (s : State) : Prop :=
  s.obj 0x2002 2 ≠ 0 ∧ (s.srv.emergencies.filter (fun e => decide (s.srv.ms < e.1 + 10))).length < s.obj 0x2002 3

theorem State.emergency_sent (m : AlarmMsg) (h : s.sendsEmergency) :
    (s.emergency m).srv.emergencies = s.srv.emergencies ++ [(s.srv.ms, m)] := by
  rw [State.emergency, if_neg h.1, if_pos h.2]
  rfl

theorem State.emergency_obj (s : State) (m : AlarmMsg) {k l : Nat} (h0 : 256 * k + l ≠ 256 * 0x1001 + 0)
    (h4 : 256 * k + l ≠ 256 * 0x2002 + 4) : (s.emergency m).obj k l = s.obj k l := by
  unfold State.emergency
  split
  · rfl
  · split
    · exact State.obj_setObj_else _ _ _ _ _ _ h0
    · exact State.obj_setObj_else _ _ _ _ _ _ h4

/-! ## STOP (R390, R391) -/

/-- STOP stands in its basin; what the basin knows of its errors stays. -/
theorem State.raiseStop_basin (hc : Canonical s) (b t cause : Nat) :
    ((s.raiseStop b t cause).basin b).stop = true ∧ ((s.raiseStop b t cause).basin b).errors = (s.basin b).errors ∧
      ((s.basin b).stop = false → ((s.raiseStop b t cause).basin b).stopPos = s.leastPos b) := by
  unfold State.raiseStop
  split
  next hstop => exact ⟨hstop, rfl, fun h => absurd hstop (by simp [h])⟩
  next =>
    have hbasin := State.basin_updBasin_same hc b (fun v => { v with stop := true, stopPos := s.leastPos b })
    have hset : ∀ (a : State) (i j n : Nat), (a.setObj i j n).basin b = a.basin b := fun _ _ _ _ => rfl
    simp only [hset, apply_ite (fun a : State => a.basin b), hbasin, ite_self]
    exact ⟨trivial, trivial, fun _ => trivial⟩

theorem State.raiseStop_obj (s : State) {b t cause k l : Nat} (hb : b < 16) (hl : l < 256) (hstate : k < 0x2810 ∨ 0x2820 ≤ k)
    (hbasin : k < 0x2A10 ∨ 0x2A20 ≤ k) : (s.raiseStop b t cause).obj k l = s.obj k l := by
  have hput : ∀ (a : State) (i j n : Nat), (i = 0x2810 + b ∨ i = 0x2A10 + b) → j < 256 → (a.setObj i j n).obj k l = a.obj k l :=
    fun a i j n hi hj => a.obj_setObj_else _ _ _ _ _ (by omega)
  unfold State.raiseStop
  split
  · rfl
  · simp only [hput _ _ _ _ (Or.inl rfl) (by decide : (1 : Nat) < 256), hput _ _ _ _ (Or.inl rfl) (by decide : (2 : Nat) < 256),
      hput _ _ _ _ (Or.inl rfl) (by decide : (3 : Nat) < 256), hput _ _ _ _ (Or.inl rfl) (by decide : (4 : Nat) < 256),
      apply_ite (fun a : State => a.obj k l), hput _ _ _ _ (Or.inr rfl) (by decide : (3 : Nat) < 256), ite_self]
    rfl

/-! ## Alarms at the active Lockkeeper (R217, R282) -/

/-- The alarm is counted, shown in BAR0, signalled and sent on. -/
def State.alarmShown (s : State) (m : AlarmMsg) : State :=
  let s1 := s.bumpObj 0x2640 3 1 (2 ^ 64 - 1)
  let s2 := ((s1.setBar 0x18 (s1.obj 0x2640 3 % 2 ^ 32)).setBar 0x1C (m.cause + 65536 * (m.detail % 65536))).setBar 0x20
    (if m.basin < 16 then m.basin else 0xFF)
  ((s2.signal 129).emergency m).standbyAlarm m

theorem State.alarmIn_eq (s : State) (m : AlarmMsg) : s.alarmIn m =
    if m.basin < 16 then
      let a := (s.alarmShown m).updBasin m.basin (fun v => { v with errors := v.errors ++ [m] })
      if m.cause = 0xB ∨ m.cause = 0xD then
        a.raiseStop m.basin (if m.src < 2304 then m.src else (a.basinTiles m.basin).headD 0) m.cause
      else a
    else s.alarmShown m := rfl

theorem State.signal_keeps (s : State) (v : Nat) : (s.signal v).objs = s.objs ∧ (s.signal v).srv = s.srv ∧
    (s.signal v).bar0 = s.bar0 := by
  unfold State.signal
  split
  · exact ⟨rfl, rfl, rfl⟩
  · split <;> exact ⟨rfl, rfl, rfl⟩

theorem State.obj_of_objs {a : State} (h : a.objs = s.objs) (k l : Nat) : a.obj k l = s.obj k l := by
  rw [State.obj, State.obj, h]

theorem State.bar_of_bar0 {a : State} (h : a.bar0 = s.bar0) (off : Nat) : a.bar off = s.bar off := by
  rw [State.bar, State.bar, h]

/-- What BAR0 shows of an alarm: its cause and detail, and its basin. -/
theorem State.alarmShown_shows (hc : Canonical s) (m : AlarmMsg) :
    Canonical (s.alarmShown m) ∧
      (s.alarmShown m).obj 0x2640 3 = min (s.obj 0x2640 3 + 1) (2 ^ 64 - 1) ∧
      (s.alarmShown m).bar 0x1C = (m.cause + 65536 * (m.detail % 65536)) % 2 ^ 32 ∧
      (s.alarmShown m).bar 0x20 = (if m.basin < 16 then m.basin else 0xFF) ∧
      (s.sendsEmergency → (s.alarmShown m).srv.emergencies = s.srv.emergencies ++ [(s.srv.ms, m)]) := by
  have hout := unwatched_false
  let s1 := s.bumpObj 0x2640 3 1 (2 ^ 64 - 1)
  let x1 := s1.setBar 0x18 (s1.obj 0x2640 3 % 2 ^ 32)
  let x2 := x1.setBar 0x1C (m.cause + 65536 * (m.detail % 65536))
  let x3 := x2.setBar 0x20 (if m.basin < 16 then m.basin else 0xFF)
  have h1 : Good (formOf s) x1 := State.setBar_good (State.bumpObj_good (good_start hc noParts))
  have h2 : Good (formOf s) x2 := State.setBar_good h1
  have hshown : s.alarmShown m = ((x3.signal 129).emergency m).standbyAlarm m := rfl
  have hcanon : Canonical (s.alarmShown m) := by
    rw [hshown]
    exact (State.standbyAlarm_good (State.emergency_good (State.signal_good (State.setBar_good h2)))).canon
  have hemerg : Good ⟨(x3.signal 129).pending, x3.signal 129, { noParts with bar0 := true }⟩ ((x3.signal 129).emergency m) :=
    State.emergency_good (good_start (State.signal_good (State.setBar_good h2)).canon _)
  obtain ⟨hobjs, hsrv, hbar⟩ := x3.signal_keeps 129
  have hobj : ∀ k l, 256 * k + l ≠ 256 * 0x2640 + 3 → (x3.signal 129).obj k l = s.obj k l := fun k l h =>
    (State.obj_of_objs hobjs k l).trans (State.obj_setObj_else _ _ _ _ _ _ h)
  have hread : ∀ off, (s.alarmShown m).bar off = x3.bar off := fun off => by
    rw [hshown, ← State.bar_of_bar0 hbar off]
    exact State.bar_of_bar0 (hemerg.same.bar0 rfl) off
  refine ⟨hcanon, ?_, ?_, ?_, fun h => ?_⟩
  · have hcount : s1.obj 0x2640 3 = min (s.obj 0x2640 3 + 1) (2 ^ 64 - 1) :=
      (State.obj_setObj_same _ hc _ _ _).trans (Nat.mod_eq_of_lt (by omega))
    rw [← hcount, hshown]
    exact (State.emergency_obj _ m (by decide) (by decide)).trans (State.obj_of_objs hobjs _ _)
  · rw [hread, State.bar_setBar_other _ _ _ _ (by decide), State.bar_setBar_same h1.canon]
  · rw [hread, State.bar_setBar_same h2.canon]
    split <;> omega
  · have hsrv' : (x3.signal 129).srv = s.srv := hsrv
    have hmay : (x3.signal 129).sendsEmergency := by
      rw [State.sendsEmergency, hobj _ _ (by decide), hobj _ _ (by decide), hsrv']
      exact h
    have hsent := State.emergency_sent m hmay
    rw [hsrv'] at hsent
    exact hsent

/-- What the active Lockkeeper makes of an alarm. -/
theorem State.alarmIn_shows (hc : Canonical s) (m : AlarmMsg) :
    (s.alarmIn m).obj 0x2640 3 = min (s.obj 0x2640 3 + 1) (2 ^ 64 - 1) ∧
      (s.alarmIn m).bar 0x1C = (m.cause + 65536 * (m.detail % 65536)) % 2 ^ 32 ∧
      (s.alarmIn m).bar 0x20 = (if m.basin < 16 then m.basin else 0xFF) ∧
      (m.basin < 16 → ((s.alarmIn m).basin m.basin).errors = (s.basin m.basin).errors ++ [m]) ∧
      (m.basin < 16 → m.cause = 0xB ∨ m.cause = 0xD → ((s.alarmIn m).basin m.basin).stop = true) ∧
      (s.sendsEmergency → (s.alarmIn m).srv.emergencies = s.srv.emergencies ++ [(s.srv.ms, m)]) := by
  have hout := unwatched_false
  obtain ⟨hcanon, hobj, hbar1C, hbar20, hsent⟩ := State.alarmShown_shows hc m
  have hbasins : (s.alarmShown m).basins = s.basins := by
    have h : Good ⟨s.pending, s, { noParts with basins := true }⟩ (s.alarmShown m) :=
      State.standbyAlarm_good (State.emergency_good (State.signal_good (State.setBar_good (State.setBar_good
        (State.setBar_good (State.bumpObj_good (good_start hc _)))))))
    exact h.same.basins rfl
  rw [State.alarmIn_eq]
  by_cases hb : m.basin < 16
  · simp only [hb, if_true] at hbar20 ⊢
    let a := (s.alarmShown m).updBasin m.basin (fun v => { v with errors := v.errors ++ [m] })
    have ha : Good ⟨(s.alarmShown m).pending, s.alarmShown m, { noParts with bar0 := true, srv := true, objs := true }⟩ a :=
      State.updBasin_good (good_start hcanon _)
    have herrors : (a.basin m.basin).errors = (s.basin m.basin).errors ++ [m] := by
      rw [State.basin_updBasin_same hcanon, State.basin_of_basins hbasins]
    by_cases hcause : m.cause = 0xB ∨ m.cause = 0xD
    · rw [if_pos hcause]
      generalize (if m.src < 2304 then m.src else (a.basinTiles m.basin).headD 0) = t
      have hr : Good ⟨a.pending, a, { noParts with bar0 := true, srv := true }⟩ (a.raiseStop m.basin t m.cause) :=
        State.raiseStop_good (good_start ha.canon _)
      obtain ⟨hstop, hkept, -⟩ := State.raiseStop_basin ha.canon m.basin t m.cause
      have hbar : ∀ off, (a.raiseStop m.basin t m.cause).bar off = (s.alarmShown m).bar off := fun off =>
        State.bar_of_bar0 ((hr.same.bar0 rfl).trans (ha.same.bar0 rfl)) off
      have hsrv : (a.raiseStop m.basin t m.cause).srv = (s.alarmShown m).srv := (hr.same.srv rfl).trans (ha.same.srv rfl)
      refine ⟨?_, ?_, ?_, fun _ => ?_, fun _ _ => hstop, fun h => ?_⟩
      · rw [State.raiseStop_obj a hb (by decide) (by decide) (by decide)]
        exact hobj
      · rw [hbar, hbar1C]
      · rw [hbar, hbar20]
      · rw [hkept, herrors]
      · rw [hsrv, hsent h]
    · rw [if_neg hcause]
      exact ⟨hobj, hbar1C, hbar20, fun _ => herrors, fun _ h => absurd h hcause, hsent⟩
  · simp only [hb, if_false] at hbar20 ⊢
    exact ⟨hobj, hbar1C, hbar20, fun h => h.elim, fun h => h.elim, hsent⟩

/-! ## STOP at a tile -/

/-- A bit that is set reads as set. -/
theorem State.bitOf_setRegBit (hc : Canonical s) (t off : Nat) :
    bitOf ((s.setRegBit t off 8 true).regN t off) 8 = true := by
  have hv : s.regN t off < 2 ^ 64 := BitVec.isLt _
  rw [State.setRegBit, State.regN_setRegN_same hc]
  generalize s.regN t off = v at hv
  have hbit : b2n (bitOf v 8) = v / 256 % 2 := by
    rw [b2n, bitOf]
    rcases Nat.mod_two_eq_zero_or_one (v / 256) with h | h <;> simp [h]
  rw [hbit, bitOf, beq_iff_eq, show b2n true = 1 from rfl]
  omega

theorem State.basinOf_setRegBit (s : State) (t off i : Nat) (v : Bool) (u : Nat) :
    (s.setRegBit t off i v).basinOf u = s.basinOf u := rfl
theorem State.basin_setRegBit (s : State) (t off i : Nat) (v : Bool) (b : Nat) :
    (s.setRegBit t off i v).basin b = s.basin b := rfl
theorem State.tile_setRegBit (s : State) (t off i : Nat) (v : Bool) (u : Nat) :
    (s.setRegBit t off i v).tile u = s.tile u := rfl
theorem State.leastPos_setRegBit (s : State) (t off i : Nat) (v : Bool) (b : Nat) :
    (s.setRegBit t off i v).leastPos b = s.leastPos b := rfl
theorem State.basin_respond (s : State) (t st : Nat) (data : List Word32) (b : Nat) :
    (s.respond t st data).basin b = s.basin b := rfl

/-- The row of STOP_FORCE in the table of a tile's registers. -/
def stopForceRow : RegDesc := ⟨0x6014, 0, 1, 0, 1, 32, 1, 0, 1, 0, 1⟩

theorem findReg_stopForce : findReg 0x6014 = some (stopForceRow, 0) := by decide +kernel

theorem State.regWrite_stopForce (s : State) (t : Nat) : s.regWrite t 0x6014 1 none = (0, s.stopForce t 1) := by
  have hact : ∀ v, s.regAct t 0x6014 v none stopForceRow = (rspOK, s.stopForce t v) := fun _ => rfl
  have hlegal : s.legalValue t 0x6014 1 stopForceRow = 1 := rfl
  simp only [State.regWrite, findReg_stopForce]
  rw [if_neg (by decide), if_neg (by decide), if_neg (by decide), if_neg (by decide), if_neg (by decide), if_neg (by decide)]
  rw [show (1 % 2 ^ stopForceRow.bits &&& if 0x6014 = 0xf4c then 0xFFFFFF1F else stopForceRow.mask) = 1 by decide, hlegal,
    hact, if_pos (Or.inl rfl)]
  rfl

theorem State.stopForce_eq {t b : Nat} (hb : s.basinOf t = some b) :
    s.stopForce t 1 = (s.setRegBit t 0x6000 8 true).raiseStop b t 0 := by
  have hbasin : (s.setRegBit t 0x6000 8 true).basinOf t = some b := (s.basinOf_setRegBit _ _ _ _ _).trans hb
  rw [State.stopForce, if_pos (by decide)]
  simp only [hbasin]

/-- STOP_FORCE raises STOP in its tile's basin, and is answered OK. -/
theorem State.stopForce_shows (hc : Canonical s) {t : TileId} {b : Nat} (hb : s.basinOf t = some b)
    (hlit : (s.tile t).dark = false) (hin : s.absorbing t = false) :
    ∃ s', exec (.stopForce t) s = .next s' ∧ (s'.basin b).stop = true ∧ bitOf (s'.regN t 0x6000) 8 = true ∧
      (s'.tile t).tp.responses = (s.tile t).tp.responses ++ [⟨t.val, 0, []⟩] ∧
      ((s.basin b).stop = false → (s'.basin b).stopPos = s.leastPos b) := by
  have hout := unwatched_false
  have hexec : exec (.stopForce t) s = .next (((s.setRegBit t 0x6000 8 true).raiseStop b t 0).respond t 0 []) := by
    rw [← State.stopForce_eq hb]
    have hask : s.towpathAsk t (fun s => s.regWrite t 0x6014 1 none) = (s.stopForce t 1).respond t 0 [] := by
      rw [State.towpathAsk_open _ hlit hin, s.regWrite_stopForce]
    exact congrArg _ hask
  let a := s.setRegBit t 0x6000 8 true
  have ha : Canonical a := (State.setRegBit_good (good_start hc noParts)).canon
  have hr : Good ⟨a.pending, a, { noParts with tregs := true, tiles := true }⟩ (a.raiseStop b t 0) :=
    State.raiseStop_good (good_start ha _)
  obtain ⟨hstop, -, hpos⟩ := State.raiseStop_basin ha b t 0
  obtain ⟨-, -, hresponses, -⟩ := State.respond_shows hr.canon t.val 0 []
  rw [s.basin_setRegBit, s.leastPos_setRegBit] at hpos
  rw [← State.basin_respond _ t 0 []] at hstop hpos
  refine ⟨_, hexec, hstop, ?_, ?_, hpos⟩
  · have hreg : (a.raiseStop b t 0).regN t 0x6000 = a.regN t 0x6000 := by
      rw [State.regN, State.regN, State.reg, State.reg, hr.same.tregs rfl]
    rw [State.respond, State.regN_updTile_read, hreg]
    exact State.bitOf_setRegBit hc t.val 0x6000
  · rw [hresponses, State.tile_of_tiles (hr.same.tiles rfl), s.tile_setRegBit]

/-- A tile that STOP reaches latches its completed beats, and drops a wave result whose horizon has not passed. -/
theorem State.stopTile_shows (hc : Canonical s) {t : Nat} (hgoing : (s.tile t).stop = false) :
    (s.stopTile t).regN t 0x600c = (s.tile t).til.beat % 2 ^ 24 ∧ RegsElse s (s.stopTile t) t 0x600c ∧
      (s.stopTile t).mem = s.mem ∧
      (s.stopTile t).tile t = { s.tile t with stop := true, lk := { (s.tile t).lk with
        result := if (s.tile t).lk.cleanPass then (s.tile t).lk.result else none } } := by
  have hout := unwatched_false
  let f (tl : Tile) : Tile := { tl with stop := true, lk := { tl.lk with result := if tl.lk.cleanPass then tl.lk.result else none } }
  have hstop : s.stopTile t = (s.updTile t f).setRegN t 0x600c ((s.tile t).til.beat % 2 ^ 24) :=
    if_neg (Bool.eq_false_iff.mp hgoing)
  have ha : Canonical (s.updTile t f) := (State.updTile_good (good_start hc noParts)).canon
  rw [hstop]
  refine ⟨?_, fun u g hg h => ?_, ?_, ?_⟩
  · rw [State.regN_setRegN_same ha]
    exact Nat.mod_eq_of_lt (by omega)
  · rw [State.regN_setRegN_other _ _ (by decide) hg h, State.regN_updTile_read]
  · rw [State.setRegN, State.setReg_mem, State.updTile_mem]
  · rw [State.tile_setRegN_read]
    exact s.tile_updTile_same hc t f

/-- STOP arrives where it stands in the basin and has not arrived before. -/
theorem State.stopPort_arrives (b : BasinId) (p : PortId) (hstop : (s.basin b).stop = true) (hnew : b.val ∉ (s.port p).stops) :
    ∃ s', exec (.stopArrive (.port p b)) s = .next s' ∧ { s' with link := s.link } = s ∧
      s'.port p = { s.port p with stops := (s.port p).stops ++ [b.val] } := by
  refine ⟨_, if_pos (by simp [hstop, hnew]), rfl, ?_⟩
  have hport : ({ s.port p with stops := (s.port p).stops ++ [b.val] } : Port) ≠ Port.init := fun h => by
    have hstops := congrArg Port.stops h
    simp [Port.init] at hstops
  exact map_get_put_of_ne _ _ _ hport

/-! ## Messages taken up -/

theorem execAlarm_tile {t : TileId} {m : AlarmMsg} {rest : List AlarmMsg} {hop : TpHop} (hactive : s.activeLk ≠ none)
    (hm : (s.tile t).tp.alarms = m :: rest) (hwhole : hopLoses hop = false) :
    exec (.alarm (some t) hop) s = .next
      ((((s.updTile t (fun tl => { tl with tp := { tl.tp with alarms := rest } })).tileTook t 5).hopRetry hop).alarmIn m) := by
  rw [← State.alarmHop_whole m hwhole]
  show execAlarm (some t) hop s = _
  rw [execAlarm, if_neg (by simpa using hactive)]
  simp only [hm]

theorem execAlarm_agent {m : AlarmMsg} {rest : List AlarmMsg} {hop : TpHop} (hactive : s.activeLk ≠ none)
    (hm : s.alarmQ = m :: rest) (hwhole : hopLoses hop = false) :
    exec (.alarm none hop) s = .next ((State.hopRetry { s with alarmQ := rest } hop).alarmIn m) := by
  rw [← State.alarmHop_whole m hwhole]
  show execAlarm none hop s = _
  rw [execAlarm, if_neg (by simpa using hactive)]
  simp only [hm]

theorem execIrq_tile {t : TileId} {m : AlarmMsg} {rest : List AlarmMsg} {hop : TpHop} (hactive : s.activeLk ≠ none)
    (hm : (s.tile t).tp.irqs = m :: rest) (hwhole : hopLoses hop = false) :
    exec (.irq (some t) hop) s = .next
      ((((s.updTile t (fun tl => { tl with tp := { tl.tp with irqs := rest } })).tileTook t 6).hopRetry hop).irqIn m) := by
  rw [← State.irqHop_whole m hwhole]
  show execIrq (some t) hop s = _
  rw [execIrq, if_neg (by simpa using hactive)]
  simp only [hm]

theorem execIrq_agent {m : AlarmMsg} {rest : List AlarmMsg} {hop : TpHop} (hactive : s.activeLk ≠ none)
    (hm : s.irqQ = m :: rest) (hwhole : hopLoses hop = false) :
    exec (.irq none hop) s = .next ((State.hopRetry { s with irqQ := rest } hop).irqIn m) := by
  rw [← State.irqHop_whole m hwhole]
  show execIrq none hop s = _
  rw [execIrq, if_neg (by simpa using hactive)]
  simp only [hm]

/-- The tile that sent its oldest alarm has it no longer; the Lockkeeper has counted, shown, kept and sent it. -/
theorem State.tileAlarm_shows (hc : Canonical s) {t : TileId} {m : AlarmMsg} {rest : List AlarmMsg} {hop : TpHop}
    (hactive : s.activeLk ≠ none) (hm : (s.tile t).tp.alarms = m :: rest) (hwhole : hopLoses hop = false) :
    ∃ s', exec (.alarm (some t) hop) s = .next s' ∧
      s'.tile t = { s.tile t with tp := { (s.tile t).tp with alarms := rest, up := tpTake (s.tile t).tp.up 5 } } ∧
      s'.obj 0x2640 3 = min (s.obj 0x2640 3 + 1) (2 ^ 64 - 1) ∧
      s'.bar 0x1C = (m.cause + 65536 * (m.detail % 65536)) % 2 ^ 32 ∧
      s'.bar 0x20 = (if m.basin < 16 then m.basin else 0xFF) ∧
      (m.basin < 16 → (s'.basin m.basin).errors = (s.basin m.basin).errors ++ [m]) ∧
      (m.basin < 16 → m.cause = 0xB ∨ m.cause = 0xD → (s'.basin m.basin).stop = true) ∧
      (s.sendsEmergency → s'.srv.emergencies = s.srv.emergencies ++ [(s.srv.ms, m)]) := by
  have hout := unwatched_false
  let a := (s.updTile t (fun tl => { tl with tp := { tl.tp with alarms := rest } })).tileTook t 5
  have htaken : TileRun s a t { s.tile t with tp := { (s.tile t).tp with alarms := rest, up := tpTake (s.tile t).tp.up 5 } } :=
    ((TileRun.start hc t).updTile _).updTile _
  have ha : Good (formOf s) a := State.tileTook_good (State.updTile_good (good_start hc _))
  have hretry := State.hopRetry_keeps ha.canon hop
  have hin : Good ⟨(a.hopRetry hop).pending, a.hopRetry hop, { noParts with tiles := true }⟩ ((a.hopRetry hop).alarmIn m) :=
    State.alarmIn_good (good_start hretry.canon _)
  have hshows := State.alarmIn_shows hretry.canon m
  rw [State.obj_of_objs (hretry.same.objs rfl), State.basin_of_basins (hretry.same.basins rfl), hretry.same.srv rfl,
    State.sendsEmergency, State.obj_of_objs (hretry.same.objs rfl), State.obj_of_objs (hretry.same.objs rfl),
    hretry.same.srv rfl] at hshows
  refine ⟨_, execAlarm_tile hactive hm hwhole, ?_, hshows⟩
  rw [State.tile_of_tiles (hin.same.tiles rfl), State.tile_of_tiles (hretry.same.tiles rfl)]
  exact htaken.becomes.1

theorem State.agentAlarm_shows (hc : Canonical s) {m : AlarmMsg} {rest : List AlarmMsg} {hop : TpHop}
    (hactive : s.activeLk ≠ none) (hm : s.alarmQ = m :: rest) (hb : m.basin < 16) (hwhole : hopLoses hop = false) :
    ∃ s', exec (.alarm none hop) s = .next s' ∧ s'.alarmQ = rest ∧ s'.tiles = s.tiles ∧
      s'.obj 0x2640 3 = min (s.obj 0x2640 3 + 1) (2 ^ 64 - 1) ∧
      (s'.basin m.basin).errors = (s.basin m.basin).errors ++ [m] := by
  have hout := unwatched_false
  let a : State := { s with alarmQ := rest }
  have ha : Good (formOf s) a := good_alarmQ (good_start hc _) _
  have hretry := State.hopRetry_keeps ha.canon hop
  have hin : Good ⟨(a.hopRetry hop).pending, a.hopRetry hop, { noParts with tiles := true, alarmQ := true }⟩
      ((a.hopRetry hop).alarmIn m) := State.alarmIn_good (good_start hretry.canon _)
  obtain ⟨hcount, -, -, herrors, -, -⟩ := State.alarmIn_shows hretry.canon m
  rw [State.obj_of_objs (hretry.same.objs rfl)] at hcount
  rw [State.basin_of_basins (hretry.same.basins rfl)] at herrors
  exact ⟨_, execAlarm_agent hactive hm hwhole, (hin.same.alarmQ rfl).trans (hretry.same.alarmQ rfl),
    (hin.same.tiles rfl).trans (hretry.same.tiles rfl), hcount, herrors hb⟩

/-- Whether a notice is told in an Emergency. -/
def AlarmMsg.Told (m : AlarmMsg) : Prop := (0x180 ≤ m.cause ∧ m.cause ≤ 0x183) ∨ (m.cause = 0x18F ∧ m.detail % 16 = 3)

theorem State.irqIn_told {m : AlarmMsg} (h : m.Told) : s.irqIn m = s.emergency m := if_pos h

theorem State.irqIn_quiet {m : AlarmMsg} (h : ¬m.Told) : s.irqIn m = s := if_neg h

theorem State.tileNotice_told (hc : Canonical s) {t : TileId} {m : AlarmMsg} {rest : List AlarmMsg} {hop : TpHop}
    (hactive : s.activeLk ≠ none) (hm : (s.tile t).tp.irqs = m :: rest) (hwhole : hopLoses hop = false) (htold : m.Told)
    (hsends : s.sendsEmergency) :
    ∃ s', exec (.irq (some t) hop) s = .next s' ∧ (s'.tile t).tp.irqs = rest ∧
      s'.srv.emergencies = s.srv.emergencies ++ [(s.srv.ms, m)] ∧ s'.mem = s.mem := by
  have hout := unwatched_false
  let a := (s.updTile t (fun tl => { tl with tp := { tl.tp with irqs := rest } })).tileTook t 6
  have htaken : TileRun s a t { s.tile t with tp := { (s.tile t).tp with irqs := rest, up := tpTake (s.tile t).tp.up 6 } } :=
    ((TileRun.start hc t).updTile _).updTile _
  have ha : Good (formOf s) a := State.tileTook_good (State.updTile_good (good_start hc _))
  have hretry := State.hopRetry_keeps ha.canon hop
  have hin : Good ⟨(a.hopRetry hop).pending, a.hopRetry hop, { noParts with tiles := true, mem := true }⟩
      ((a.hopRetry hop).emergency m) := State.emergency_good (good_start hretry.canon _)
  have hmay : (a.hopRetry hop).sendsEmergency := by
    rw [State.sendsEmergency, State.obj_of_objs (hretry.same.objs rfl), State.obj_of_objs (hretry.same.objs rfl),
      hretry.same.srv rfl]
    exact hsends
  have hsent := State.emergency_sent m hmay
  rw [hretry.same.srv rfl] at hsent
  have hexec := execIrq_tile hactive hm hwhole
  rw [State.irqIn_told htold] at hexec
  refine ⟨_, hexec, ?_, hsent, (hin.same.mem rfl).trans (hretry.same.mem rfl)⟩
  rw [State.tile_of_tiles (hin.same.tiles rfl), State.tile_of_tiles (hretry.same.tiles rfl), htaken.becomes.1]

/-- Settles O26: each clause by what the Lockkeeper makes of the oldest message, and by how STOP is raised and arrives. -/
theorem alarmsAndStop : Obligations.AlarmsAndStop := by
  unfold Obligations.AlarmsAndStop
  have hout := unwatched_false
  refine ⟨fun s t m rest hop hc hwhole => ⟨fun hnone src => ?_, fun hnil => ?_, fun hnil => ?_, fun hactive hm => ?_,
    fun hactive hm hb => ?_, fun hactive hm => ⟨fun htold hsound => ?_, fun htold hsends => ?_⟩, fun hactive hm htold hsound => ?_⟩,
    fun s t b hc => ⟨fun hb => ⟨fun hlit hin => ?_, fun hstop => ?_, fun hstop hheld => ?_, fun hstop hgoing => ?_⟩, fun hb => ?_,
      fun p => ⟨fun hstop hnew => ?_, fun hno => ?_⟩, fun hstop hnew => ?_, fun hno => ?_⟩⟩
  · exact ⟨if_pos (by simp [hnone]), if_pos (by simp [hnone])⟩
  · show execAlarm (some t) hop s = _
    rw [execAlarm]
    simp [hnil]
  · show execIrq (some t) hop s = _
    rw [execIrq]
    simp [hnil]
  · exact State.tileAlarm_shows hc hactive hm hwhole
  · exact State.agentAlarm_shows hc hactive hm hb hwhole
  · have hexec := execIrq_tile hactive hm hwhole
    rw [State.hopRetry_whole hsound, State.irqIn_quiet htold] at hexec
    exact ⟨_, hexec, (((TileRun.start hc t).updTile _).updTile _).becomes⟩
  · exact State.tileNotice_told hc hactive hm hwhole htold hsends
  · have hexec := execIrq_agent hactive hm hwhole
    rwa [State.hopRetry_whole hsound, State.irqIn_quiet htold] at hexec
  · exact State.stopForce_shows hc hb hlit hin
  · show execStopArrive (.tile t) s = _
    simp [execStopArrive, hb, hstop]
  · show execStopArrive (.tile t) s = _
    simp [execStopArrive, hb, hstop, State.stopTile, hheld]
  · refine ⟨s.stopTile t, ?_, State.stopTile_shows hc hgoing⟩
    show execStopArrive (.tile t) s = _
    simp [execStopArrive, hb, hstop]
  · show execStopArrive (.tile t) s = _
    simp [execStopArrive, hb]
  · exact State.stopPort_arrives b p hstop hnew
  · exact if_neg (by simpa [Classical.or_iff_not_imp_left] using hno)
  · exact if_pos (by simp [hstop, hnew])
  · exact if_neg (by simpa [Classical.or_iff_not_imp_left] using hno)

end Sys2Proof.Machine

/-! # PROOFS. Barriers (R62, R212, R213) -/

namespace Sys2Proof.Machine

open Sys2Proof

variable {s : State}

/-! ## Trace records -/

/-- A trace record is put to the tile's digest unit and its link; nothing else of a tile changes. -/
theorem State.trace_tile (hc : Canonical s) (t kind hi : Nat) (words : List Nat) :
    ∃ (d : DigestUnit) (l : List TpEntry), (s.trace t kind hi words).tile t =
      { s.tile t with dig := d, tp := { (s.tile t).tp with up := l } } := by
  unfold State.trace
  split
  · simp only
    split
    · exact ⟨_, _, s.tile_setTile_same hc t _⟩
    · rw [State.bumpReg, State.tile_setRegN_read]
      exact ⟨_, (s.tile t).tp.up, s.tile_setTile_same hc t _⟩
  · exact ⟨(s.tile t).dig, (s.tile t).tp.up, rfl⟩

theorem State.trace_others (s : State) {t u : Nat} (kind hi : Nat) (words : List Nat) (h : u ≠ t) :
    (s.trace t kind hi words).tile u = s.tile u := by
  unfold State.trace
  split
  · simp only
    split
    · exact s.tile_setTile_other t u _ h
    · rw [State.bumpReg, State.tile_setRegN_read]
      exact s.tile_setTile_other t u _ h
  · rfl

theorem State.trace_keeps (hc : Canonical s) (t kind hi : Nat) (words : List Nat) :
    Good ⟨s.pending, s, { tregs := false, tiles := false }⟩ (s.trace t kind hi words) := by
  have hout := unwatched_false
  exact State.trace_good (good_start hc _)

/-! ## Barriers at a tile -/

/-- A router of a tile that has sent its frame of generation `g` of barrier `num`. -/
def TpRouter.barred (r : TpRouter) (num : Nat) (g : Bool) : TpRouter :=
  { r with gens := Map.put r.gens false num g, pend := r.pend ++ [num] }

theorem State.basinOf_of_basins {a : State} (h : a.basins = s.basins) (t : Nat) : a.basinOf t = s.basinOf t := by
  rw [State.basinOf, State.basinOf, h]

theorem State.barIssue_eq (hc : Canonical s) {t num ext b : Nat} (hext : ext ≠ 3) (hpend : num ∉ (s.tile t).tp.pend)
    (hb : s.basinOf t = some b) :
    let g := !(Map.get (s.tile t).tp.gens false num)
    s.barIssue t num ext =
      (((s.updTile t (fun tl => { tl with tp := tl.tp.barred num g })).trace t 5 num []).tileSend t 1 (tpCode (.hub (berthOf t)))
        [barWord num g ext]).updBasin b
        (fun v => { v with barFrames := v.barFrames ++ [⟨berthOf t, num, g, ext, 1⟩] }) := by
  have hout := unwatched_false
  intro g
  have ha : Canonical (s.updTile t (fun tl => { tl with tp := tl.tp.barred num g })) :=
    (State.updTile_good (good_start hc noParts)).canon
  have hbasin := (State.basinOf_of_basins ((State.trace_keeps ha t 5 num []).same.basins rfl) t).trans hb
  simp only [TpRouter.barred, g] at hbasin
  simp only [State.barIssue, if_neg hext, if_neg hpend, hbasin]
  rfl

/-- BAR of a number that is not pending sends one frame. -/
theorem State.barIssue_shows (hc : Canonical s) {t num ext b : Nat} (hext : ext ≠ 3) (hpend : num ∉ (s.tile t).tp.pend)
    (hb : s.basinOf t = some b) :
    ((s.barIssue t num ext).tile t).tp.pend = (s.tile t).tp.pend ++ [num] ∧
      ((s.barIssue t num ext).tile t).tp.gens =
        Map.put (s.tile t).tp.gens false num (!(Map.get (s.tile t).tp.gens false num)) ∧
      ((s.barIssue t num ext).tile t).til = (s.tile t).til ∧
      (∀ u, u ≠ t → (s.barIssue t num ext).tile u = s.tile u) ∧
      (s.barIssue t num ext).basin b = { s.basin b with barFrames := (s.basin b).barFrames ++
        [⟨berthOf t, num, !(Map.get (s.tile t).tp.gens false num), ext, 1⟩] } := by
  have hout := unwatched_false
  let a := s.updTile t (fun tl => { tl with tp := tl.tp.barred num (!(Map.get (s.tile t).tp.gens false num)) })
  have ha : Canonical a := (State.updTile_good (good_start hc noParts)).canon
  have htrace := State.trace_keeps ha t 5 num []
  obtain ⟨d, l, htile⟩ := State.trace_tile ha t 5 num []
  have hbarred : a.tile t = { s.tile t with tp := (s.tile t).tp.barred num (!(Map.get (s.tile t).tp.gens false num)) } := s.tile_updTile_same hc t _
  rw [State.barIssue_eq hc hext hpend hb]
  generalize hup : [barWord num (!(Map.get (s.tile t).tp.gens false num)) ext] = up
  have hsent : ((a.trace t 5 num []).tileSend t 1 (tpCode (.hub (berthOf t))) up).tile t =
      { (a.trace t 5 num []).tile t with tp := ((a.trace t 5 num []).tile t).tp.send t 1 (tpCode (.hub (berthOf t))) up } :=
    State.tile_updTile_same _ htrace.canon t _
  have hcanon : Canonical ((a.trace t 5 num []).tileSend t 1 (tpCode (.hub (berthOf t))) up) :=
    (State.updTile_good (good_start htrace.canon noParts)).canon
  simp only [State.tile_updBasin_read]
  refine ⟨?_, ?_, ?_, fun u hu => ?_, ?_⟩
  · rw [hsent, htile, hbarred]
    rfl
  · rw [hsent, htile, hbarred]
    rfl
  · rw [hsent, htile, hbarred]
  · rw [State.tileSend, State.tile_updTile_other _ _ _ _ hu, State.trace_others _ _ _ _ hu]
    exact s.tile_updTile_other t u _ hu
  · rw [State.basin_updBasin_same hcanon, State.tileSend, State.basin_updTile_read,
      State.basin_of_basins (htrace.same.basins rfl), State.basin_updTile_read]

/-- A completion of the tile's generation ends what the tile has pending and waits for. -/
theorem State.barDeliver_shows (hc : Canonical s) {t num b : Nat} {d : BarDone} (hb : s.basinOf t = some b)
    (hd : (s.basin b).barDone.find? (fun d => decide (d.num = num) && d.gen == Map.get (s.tile t).tp.gens false num &&
      decide (t ∈ d.tiles)) = some d) :
    { ((s.barDeliver t num).tile t).tp with up := (s.tile t).tp.up } = { (s.tile t).tp with
      pend := (s.tile t).tp.pend.filter (fun x => decide (x ≠ num)),
      waitBar := if (s.tile t).tp.waitBar = some num then none else (s.tile t).tp.waitBar } ∧
    ((s.barDeliver t num).tile t).til = (s.tile t).til ∧ (∀ u, u ≠ t → (s.barDeliver t num).tile u = s.tile u) ∧
    (s.barDeliver t num).mem = s.mem := by
  have hout := unwatched_false
  let d' : BarDone := { d with tiles := d.tiles.filter (fun x => decide (x ≠ t)) }
  let s1 := s.updBasin b (fun v => { v with
    barDone := (v.barDone.map (fun x => if x = d then d' else x)).filter (fun x => !x.tiles.isEmpty) })
  let s2 := s1.updTile t (fun tl => { tl with tp := { tl.tp with
    pend := tl.tp.pend.filter (fun x => decide (x ≠ num)),
    waitBar := if tl.tp.waitBar = some num then none else tl.tp.waitBar } })
  have h1 : Good (formOf s) s1 := State.updBasin_good (good_start hc _)
  have h2 : Good (formOf s) s2 := State.updTile_good h1
  have hdeliver : s.barDeliver t num = s2.trace t 5 (num + 256) [] := by
    simp only [State.barDeliver, hb, hd]
    rfl
  obtain ⟨dig, l, htile⟩ := State.trace_tile h2.canon t 5 (num + 256) []
  have hs2 := s1.tile_updTile_same h1.canon t (fun tl => { tl with tp := { tl.tp with
    pend := tl.tp.pend.filter (fun x => decide (x ≠ num)),
    waitBar := if tl.tp.waitBar = some num then none else tl.tp.waitBar } })
  rw [State.tile_updBasin_read] at hs2
  rw [hs2] at htile
  rw [hdeliver]
  refine ⟨?_, ?_, fun u hu => ?_, (State.trace_keeps h2.canon t 5 (num + 256) []).same.mem rfl⟩
  · rw [htile]
  · rw [htile]
  · rw [State.trace_others _ _ _ _ hu, State.tile_updTile_other _ _ _ _ hu, State.tile_updBasin_read]

theorem execBarDone_delivers {t : TileId} {num : BitVec 8} {hop : TpHop} {b : Nat} {d : BarDone} (hwhole : hopLoses hop = false)
    (hb : s.basinOf t = some b)
    (hd : (s.basin b).barDone.find? (fun d => decide (d.num = num.toNat) && d.gen == Map.get (s.tile t).tp.gens false num.toNat &&
      decide (t.val ∈ d.tiles)) = some d) :
    exec (.barDone t num hop) s = .next ((s.hopRetry hop).barDeliver t num.toNat) := by
  have hdue : s.barDue t num.toNat = some d := by
    simp only [State.barDue, hb, hd]
  show execBarDone t num hop s = _
  rw [execBarDone, hdue, if_pos (show (some d).isSome = true from rfl)]
  exact if_neg (Bool.eq_false_iff.mp hwhole)

/-! ## Barriers at a router -/

/-- A router's frames have gone on: they are no longer among the basin's. -/
def State.framesGone (s : State) (r b num : Nat) (g : Bool) : State :=
  (s.updBasin b (fun v => { v with barFrames := barDrop v.barFrames r num g })).framesTaken b r 1

theorem State.framesTaken_keeps (hc : Canonical s) (b r op : Nat) :
    Good ⟨s.pending, s, { tiles := false, hubs := false }⟩ (s.framesTaken b r op) := by
  have hout := unwatched_false
  exact State.framesTaken_good (good_start hc _)

theorem State.framesGone_shows (hc : Canonical s) (r b num : Nat) (g : Bool) :
    Canonical (s.framesGone r b num g) ∧
      (s.framesGone r b num g).basin b = { s.basin b with barFrames := barDrop (s.basin b).barFrames r num g } ∧
      (s.framesGone r b num g).alarmQ = s.alarmQ ∧ (s.framesGone r b num g).objs = s.objs := by
  have hout := unwatched_false
  have ha := (State.updBasin_good (b := b) (f := fun v => { v with barFrames := barDrop v.barFrames r num g })
    (good_start hc noParts)).canon
  have h := State.framesTaken_keeps ha b r 1
  exact ⟨h.canon, (State.basin_of_basins (h.same.basins rfl) b).trans (State.basin_updBasin_same hc b _),
    h.same.alarmQ rfl, h.same.objs rfl⟩

/-- A router without frames of the number and generation does nothing. -/
theorem State.barCombine_none {r b num : Nat} {g : Bool} (h : barAt (s.basin b).barFrames r num g = []) :
    s.barCombine r b num g = s := by
  simp only [State.barCombine, h]

/-- The barrier completes for `tiles`. -/
def State.barFinished (s : State) (r b num : Nat) (g : Bool) (tiles : List Nat) : State :=
  (s.framesGone r b num g).updBasin b (fun v => { v with barDone := v.barDone ++ [⟨num, g, tiles⟩] })

theorem State.barFinished_basin (hc : Canonical s) (r b num : Nat) (g : Bool) (tiles : List Nat) :
    (s.barFinished r b num g tiles).basin b = { s.basin b with
      barFrames := barDrop (s.basin b).barFrames r num g, barDone := (s.basin b).barDone ++ [⟨num, g, tiles⟩] } := by
  obtain ⟨hcanon, hbasin, -, -⟩ := State.framesGone_shows hc r b num g
  rw [State.barFinished, State.basin_updBasin_same hcanon, hbasin]

/-- One frame for all of them goes on to router `p`. -/
def State.barPassed (s : State) (r b num : Nat) (g : Bool) (p e n : Nat) : State :=
  let a := s.framesGone r b num g
  (if r < 144 then a.hubSend r 1 (tpCode (.gateway (p - 144))) [barWord num g e] else a).updBasin b
    (fun v => { v with barFrames := v.barFrames ++ [⟨p, num, g, e, n⟩] })

theorem State.barPassed_basin (hc : Canonical s) (r b num : Nat) (g : Bool) (p e n : Nat) :
    (s.barPassed r b num g p e n).basin b = { s.basin b with
      barFrames := barDrop (s.basin b).barFrames r num g ++ [⟨p, num, g, e, n⟩] } := by
  have hout := unwatched_false
  obtain ⟨hcanon, hbasin, -, -⟩ := State.framesGone_shows hc r b num g
  unfold State.barPassed
  simp only
  split
  · have h : Good ⟨(s.framesGone r b num g).pending, s.framesGone r b num g, { noParts with basins := true }⟩
        ((s.framesGone r b num g).hubSend r 1 (tpCode (.gateway (p - 144))) [barWord num g e]) :=
      State.updHub_good (good_start hcanon _)
    rw [State.basin_updBasin_same h.canon, State.basin_of_basins (h.same.basins rfl), hbasin]
  · rw [State.basin_updBasin_same hcanon, hbasin]

section Frames

variable {r b num : Nat} {g : Bool} {f : BarFrame} {rest : List BarFrame}

/-- Frames of one extent at its router, or that go on from it. -/
theorem State.barCombine_agree (hfs : barAt (s.basin b).barFrames r num g = f :: rest)
    (hsame : ∀ x ∈ f :: rest, x.ext = f.ext) :
    s.barCombine r b num g =
      let n := (f :: rest).foldl (fun a x => a + x.count) 0
      if f.ext = 0 then
        if n = (s.berthTiles b r).length then s.barFinished r b num g (s.berthTiles b r) else s
      else if f.ext = 1 ∧ 144 ≤ r then
        if n = (s.fieldTiles b (r - 144)).length then s.barFinished r b num g (s.fieldTiles b (r - 144)) else s
      else
        if n ≠ (if r < 144 then s.berthTiles b r else s.tilesUnder b r).length then s
        else match s.routerAbove b r with
          | none => s.barFinished r b num g (s.basinTiles b)
          | some p => s.barPassed r b num g p f.ext n := by
  have hany : (f :: rest).any (fun x => decide (x.ext ≠ f.ext)) = false := by
    simpa [List.any_eq_false] using hsame
  simp only [State.barCombine, hfs]
  rw [if_neg (Bool.eq_false_iff.mp hany)]
  rfl

/-- Frames of different extents meet. -/
theorem State.barCombine_differ (hfs : barAt (s.basin b).barFrames r num g = f :: rest)
    (hdiff : ∃ x ∈ f :: rest, ∃ y ∈ f :: rest, x.ext ≠ y.ext) :
    s.barCombine r b num g = (s.framesGone r b num g).barForm b num := by
  have hany : (f :: rest).any (fun x => decide (x.ext ≠ f.ext)) = true := by
    refine Decidable.byContradiction fun hno => ?_
    have hsame : ∀ x ∈ f :: rest, x.ext = f.ext := by simpa [List.any_eq_true] using hno
    obtain ⟨x, hx, y, hy, hxy⟩ := hdiff
    exact hxy ((hsame x hx).trans (hsame y hy).symm)
  simp only [State.barCombine, hfs]
  rw [if_pos hany]
  rfl

end Frames

/-! ## A router's two generations -/

theorem barAt_barDrop {l : List BarFrame} {r num : Nat} (g : Bool) {g' : Bool} (h : barAt l r num g' = []) :
    barAt (barDrop l r num g) r num g' = [] := by
  unfold barAt barDrop at *
  rw [List.filter_eq_nil_iff] at h ⊢
  exact fun f hf => h f (List.mem_filter.mp hf).1

theorem barAt_append_other (l : List BarFrame) (r num p e n : Nat) (g : Bool) :
    barAt (l ++ [⟨p, num, g, e, n⟩]) r num (!g) = barAt l r num (!g) := by
  simp [barAt, List.filter_append]

/-- With frames of one generation alone, a router combines those. -/
theorem State.barUp_one {r b num : Nat} {g : Bool} (hother : barAt (s.basin b).barFrames r num (!g) = [])
    (hafter : barAt ((s.barCombine r b num g).basin b).barFrames r num (!g) = []) :
    s.barUp r b num = s.barCombine r b num g := by
  cases g
  · exact State.barCombine_none hafter
  · rw [State.barUp, State.barCombine_none (g := false) hother]

theorem execBarUp_held {r : Fin 152} {b : BasinId} {num : BitVec 8} {g : Bool} {hop : TpHop}
    (hfs : barAt (s.basin b).barFrames r num.toNat g ≠ []) (hwhole : hopLoses hop = false) :
    exec (.barUp r b num hop) s = .next ((s.hopRetry hop).barUp r b num.toNat) := by
  have hheld : s.barHeld r b num.toNat = true := by
    obtain ⟨f, hf⟩ := List.exists_mem_of_ne_nil _ hfs
    obtain ⟨hmem, hat⟩ := List.mem_filter.mp hf
    rw [Bool.and_eq_true] at hat
    exact List.any_eq_true.mpr ⟨f, hmem, hat.1⟩
  show execBarUp r b num hop s = _
  rw [execBarUp, if_pos hheld]
  exact if_neg (Bool.eq_false_iff.mp hwhole)

/-- Words sent again change no more than registers, the window and hubs. -/
theorem State.hopRetry_eq (s : State) (hop : TpHop) :
    ∃ x y z, s.hopRetry hop = { s with tregs := x, win := y, hubs := z } := by
  unfold State.hopRetry State.tpRetry
  split
  · exact ⟨_, _, _, rfl⟩
  · simp only
    split
    · exact ⟨_, _, _, rfl⟩
    · split <;> exact ⟨_, _, _, rfl⟩

section Router

variable {r b num : Nat} {g : Bool}

theorem State.barUp_finished (hc : Canonical s) (hother : barAt (s.basin b).barFrames r num (!g) = []) {tiles : List Nat}
    (h : s.barCombine r b num g = s.barFinished r b num g tiles) :
    (s.barUp r b num).basin b = { s.basin b with
      barFrames := barDrop (s.basin b).barFrames r num g, barDone := (s.basin b).barDone ++ [⟨num, g, tiles⟩] } := by
  have hbasin := State.barFinished_basin hc r b num g tiles
  rw [State.barUp_one hother (by rw [h, hbasin]; exact barAt_barDrop g hother), h, hbasin]

theorem State.barUp_passed (hc : Canonical s) (hother : barAt (s.basin b).barFrames r num (!g) = []) {p e n : Nat}
    (h : s.barCombine r b num g = s.barPassed r b num g p e n) :
    (s.barUp r b num).basin b = { s.basin b with
      barFrames := barDrop (s.basin b).barFrames r num g ++ [⟨p, num, g, e, n⟩] } := by
  have hbasin := State.barPassed_basin hc r b num g p e n
  refine (congrArg (fun a : State => a.basin b) (State.barUp_one hother ?_)).trans (h ▸ hbasin)
  rw [h, hbasin]
  exact (barAt_append_other _ _ _ _ _ _ _).trans (barAt_barDrop g hother)

theorem State.barUp_formless (hc : Canonical s) (hother : barAt (s.basin b).barFrames r num (!g) = []) (hb : b < 16)
    (h : s.barCombine r b num g = (s.framesGone r b num g).barForm b num) :
    (s.barUp r b num).basin b = { s.basin b with barFrames := barDrop (s.basin b).barFrames r num g } ∧
      (s.barUp r b num).alarmQ = s.alarmQ ++ [⟨0xF, num, 0, s.obj (0x2610 + b) 1 % 2 ^ 32, b, 2304, 0⟩] := by
  obtain ⟨-, hbasin, halarms, hobjs⟩ := State.framesGone_shows hc r b num g
  have hform : ((s.framesGone r b num g).barForm b num).basin b = (s.framesGone r b num g).basin b := rfl
  have hq : ((s.framesGone r b num g).barForm b num).alarmQ = ((s.framesGone r b num g).agentAlarm 0xF num b).alarmQ := rfl
  rw [State.barUp_one hother (by rw [h, hform, hbasin]; exact barAt_barDrop g hother), h, hform, hq, hbasin]
  refine ⟨rfl, ?_⟩
  simp only [State.agentAlarm, if_pos hb, halarms, State.obj_of_objs hobjs]

end Router

/-! ## The obligation -/

theorem execBar_shows (hc : Canonical s) {t : TileId} {num : BitVec 8} {ext : Fin 4} {b : Nat}
    (hissues : s.issues t 0 (ctrlFields 9 [(7, 0, num.toNat), (9, 8, ext.val)]) = true) (hext : ext.val ≠ 3)
    (hpend : num.toNat ∉ (s.tile t).tp.pend) (hb : s.basinOf t = some b) :
    let tp := (s.tile t).tp
    ∃ s', exec (.bar t num ext) s = .next s' ∧ (s'.tile t).tp.pend = tp.pend ++ [num.toNat] ∧
      (s'.tile t).tp.gens = Map.put tp.gens false num.toNat (!(Map.get tp.gens false num.toNat)) ∧
      (s'.tile t).til = { (s.tile t).til with slots := (s.tile t).til.slots ++ [0] } ∧
      (∀ u, u ≠ t.val → s'.tile u = s.tile u) ∧
      s'.basin b = { s.basin b with barFrames := (s.basin b).barFrames ++
        [⟨berthOf t, num.toNat, !(Map.get tp.gens false num.toNat), ext.val, 1⟩] } := by
  intro tp
  obtain ⟨htile, hothers, -⟩ := (TileRun.takeSlot hc t.val 0).becomes
  have htp : ((s.takeSlot t 0).tile t).tp = tp := by rw [htile]
  have hexec : exec (.bar t num ext) s = .next ((s.takeSlot t 0).barIssue t num.toNat ext) :=
    congrArg Host.Outcome.next (State.slotOp_of_issues _ hissues)
  have hbarred := State.barIssue_shows (State.takeSlot_canonical hc t.val 0) hext (by rw [htp]; exact hpend)
    (show (s.takeSlot t 0).basinOf t = some b from hb)
  rw [htp] at hbarred
  obtain ⟨hp, hg, htil, hu, hbasin⟩ := hbarred
  exact ⟨_, hexec, hp, hg, htil.trans (by rw [htile]),
    fun u h => (hu u h).trans (hothers u h), hbasin⟩

theorem execBarw_becomes (hc : Canonical s) {t : TileId} {num : BitVec 8}
    (hissues : s.issues t 0 (ctrlFields 10 [(7, 0, num.toNat)]) = true) :
    ∃ s', exec (.barw t num) s = .next s' ∧ TileBecomes s s' t { s.tile t with
      til := { (s.tile t).til with slots := (s.tile t).til.slots ++ [0] },
      tp := { (s.tile t).tp with
        waitBar := if num.toNat ∈ (s.tile t).tp.pend then some num.toNat else (s.tile t).tp.waitBar } } := by
  have htaken := TileRun.takeSlot hc t.val 0
  have hpend : ((s.takeSlot t 0).tile t).tp.pend = (s.tile t).tp.pend := by rw [htaken.becomes.1]
  have hexec : exec (.barw t num) s = .next ((s.takeSlot t 0).barWait t num.toNat) :=
    congrArg Host.Outcome.next (State.slotOp_of_issues _ hissues)
  refine ⟨_, hexec, ?_⟩
  rw [State.barWait, hpend]
  by_cases h : num.toNat ∈ (s.tile t).tp.pend
  · rw [if_pos h, if_pos h]
    exact (htaken.updTile _).becomes
  · rw [if_neg h, if_neg h]
    exact htaken.becomes

/-- Settles O23: BAR, BARW and completions at a tile, and the frames of one number and generation at a router. -/
theorem barriers : Obligations.Barriers := by
  unfold Obligations.Barriers
  refine ⟨fun s t num hc => ⟨fun ext b hissues hext hpend hb => execBar_shows hc hissues hext hpend hb,
    fun hissues => execBarw_becomes hc hissues, fun b d hop hb hwhole hd => ?_⟩, fun s r b num g hop hc => ?_⟩
  · have hretry := State.hopRetry_keeps hc hop
    have htile := State.tile_of_tiles (hretry.same.tiles rfl)
    have hbasin := State.basin_of_basins (hretry.same.basins rfl)
    have hdone := State.barDeliver_shows hretry.canon (num := num.toNat)
      ((State.basinOf_of_basins (hretry.same.basins rfl) t).trans hb) (by rw [hbasin, htile]; exact hd)
    simp only [htile, hretry.same.mem rfl] at hdone
    exact ⟨_, execBarDone_delivers hwhole hb hd, hdone⟩
  · intro v fs gone n done up hfs hother hwhole
    have hexec := execBarUp_held hfs hwhole
    obtain ⟨x, y, z, hretry⟩ := s.hopRetry_eq hop
    have ha : Canonical { s with tregs := x, win := y, hubs := z } := hretry ▸ (State.hopRetry_keeps hc hop).canon
    rw [hretry] at hexec
    generalize hsa : ({ s with tregs := x, win := y, hubs := z } : State) = a at hexec ha
    have hbasin : a.basin b = s.basin b := hsa ▸ rfl
    have hberth : a.berthTiles b r = s.berthTiles b r := hsa ▸ rfl
    have hfield : a.fieldTiles b (r.val - 144) = s.fieldTiles b (r.val - 144) := hsa ▸ rfl
    have hunder : a.tilesUnder b r = s.tilesUnder b r := hsa ▸ rfl
    have habove : a.routerAbove b r = s.routerAbove b r := hsa ▸ rfl
    have htiles : a.basinTiles b = s.basinTiles b := hsa ▸ rfl
    have halarmQ : a.alarmQ = s.alarmQ := hsa ▸ rfl
    have hobjs : a.objs = s.objs := hsa ▸ rfl
    replace hother : barAt (a.basin b).barFrames r num.toNat (!g) = [] := by rwa [hbasin]
    obtain ⟨f, rest, hcons⟩ := List.exists_cons_of_ne_nil hfs
    have hat : barAt (a.basin b).barFrames r num.toNat g = f :: rest := hbasin ▸ hcons
    have hn : (f :: rest).foldl (fun a x => a + x.count) 0 = n := hcons ▸ rfl
    have hagree : ∀ e, (∀ x ∈ fs, x.ext = e) → f.ext = e ∧ ∀ x ∈ f :: rest, x.ext = f.ext := fun e he => by
      rw [hcons] at he
      have hf := he f List.mem_cons_self
      exact ⟨hf, fun x hx => (he x hx).trans hf.symm⟩
    refine ⟨fun he hlen => ?_, fun he hr hlen => ?_, fun e p hep he hr hlen hp => ?_, fun he hr hlen => ⟨fun hp => ?_, fun p hp => ?_⟩,
      fun hdiff => ?_⟩
    · obtain ⟨hf, hsame⟩ := hagree 0 he
      have h := State.barCombine_agree hat hsame
      simp only [hf, hn, hberth, if_true] at h
      rw [if_pos hlen] at h
      exact ⟨_, hexec, (State.barUp_finished ha hother h).trans (by rw [hbasin])⟩
    · obtain ⟨hf, hsame⟩ := hagree 1 he
      have h := State.barCombine_agree hat hsame
      simp only [hf, hn, hfield, hr, and_self, if_true] at h
      rw [if_neg (by decide), if_pos hlen] at h
      exact ⟨_, hexec, (State.barUp_finished ha hother h).trans (by rw [hbasin])⟩
    · obtain ⟨hf, hsame⟩ := hagree e he
      have h := State.barCombine_agree hat hsame
      simp only [hf, hn, hberth, habove, hp, hr, if_true] at h
      rw [if_neg (by omega), if_neg (by omega), if_neg (by simp [hlen])] at h
      exact ⟨_, hexec, (State.barUp_passed ha hother h).trans (by rw [hbasin])⟩
    · obtain ⟨hf, hsame⟩ := hagree 2 he
      have h := State.barCombine_agree hat hsame
      simp only [hf, hn, hunder, habove, hp, show ¬r.val < 144 by omega, if_false, htiles] at h
      rw [if_neg (by decide), if_neg (by omega), if_neg (by simp [hlen])] at h
      exact ⟨_, hexec, (State.barUp_finished ha hother h).trans (by rw [hbasin])⟩
    · obtain ⟨hf, hsame⟩ := hagree 2 he
      have h := State.barCombine_agree hat hsame
      simp only [hf, hn, hunder, habove, hp, show ¬r.val < 144 by omega, if_false] at h
      rw [if_neg (by decide), if_neg (by omega), if_neg (by simp [hlen])] at h
      exact ⟨_, hexec, (State.barUp_passed ha hother h).trans (by rw [hbasin])⟩
    · have h := State.barCombine_differ hat (hcons ▸ hdiff)
      obtain ⟨hframes, halarm⟩ := State.barUp_formless ha hother b.isLt h
      exact ⟨_, hexec, hframes.trans (by rw [hbasin]), halarm.trans (by rw [halarmQ, State.obj_of_objs hobjs])⟩

end Sys2Proof.Machine

/-! # PROOFS. The supply (R312 to R315, R330, R478) -/

namespace Sys2Proof.Machine

open Sys2Proof

variable {s : State}

/-! ## Folds over the parts of the device -/

/-- What a step establishes for its own item, and every step keeps, a fold leaves of all its items. -/
theorem State.foldl_reaches {β : Type} {f : State → β → State} {I : State → Prop} {P : β → State → Prop}
    (hI : ∀ a x, I a → I (f a x)) (hown : ∀ a x, I a → P x (f a x)) (hkeep : ∀ a x y, I a → P y a → P y (f a x))
    (xs : List β) : ∀ a, I a → I (xs.foldl f a) ∧ (∀ y, P y a → P y (xs.foldl f a)) ∧ ∀ x ∈ xs, P x (xs.foldl f a) := by
  induction xs with
  | nil => exact fun a ha => ⟨ha, fun _ h => h, fun x hx => by cases hx⟩
  | cons x xs ih =>
    intro a ha
    obtain ⟨hlast, hkept, hall⟩ := ih (f a x) (hI a x ha)
    refine ⟨hlast, fun y hy => hkept y (hkeep a x y ha hy), fun y hy => ?_⟩
    rcases List.mem_cons.mp hy with rfl | hy
    · exact hkept y (hown a y ha)
    · exact hall y hy

/-! ## Loss of power (R313) -/

/-- A pound's e-fuse opens. -/
def State.openPound (a : State) (n : Nat) : State :=
  (((a.setObj (poundObj n) 1 0).setObj (poundObj n) 3 0).setObj (poundObj n) 4 0).updPound n (fun p => { p with
    hold := false, asked := none, down := false, boost := false, shunt := false })

theorem State.obj_updPound (s : State) (n : Nat) (f : Pound → Pound) (k l : Nat) : (s.updPound n f).obj k l = s.obj k l := rfl

theorem State.openPound_obj (a : State) (n : Nat) {k l : Nat} (hl : l < 256) (h : k ≠ poundObj n) :
    (a.openPound n).obj k l = a.obj k l := by
  have hput : ∀ (a : State) (j m : Nat), j < 256 → (a.setObj (poundObj n) j m).obj k l = a.obj k l :=
    fun a j m hj => a.obj_setObj_else _ _ _ _ _ (by unfold poundObj at *; omega)
  rw [State.openPound, State.obj_updPound, hput _ _ _ (by decide), hput _ _ _ (by decide), hput _ _ _ (by decide)]

theorem State.openPound_state (hc : Canonical s) (n : Nat) : (s.openPound n).poundState n = 0 := by
  rw [State.poundState, State.openPound, State.obj_updPound, State.obj_setObj_else _ _ _ _ _ _ (by omega),
    State.obj_setObj_else _ _ _ _ _ _ (by omega), State.obj_setObj_same _ hc] <;> rfl

theorem State.poundCounts_obj (s : State) {k l : Nat} (h : k ≠ 0x2330) (hl : l < 256) : s.poundCounts.obj k l = s.obj k l := by
  rw [State.poundCounts, State.obj_setObj_else _ _ _ _ _ _ (by omega), State.obj_setObj_else _ _ _ _ _ _ (by omega)]

theorem State.darken_obj (s : State) (t k l : Nat) : (s.darken t).obj k l = s.obj k l := rfl

theorem State.darken_tile (hc : Canonical s) (t : Nat) : (s.darken t).tile t = Tile.off :=
  Map.get_put_same s.tiles (fun _ => Tile.init) Tile.init t Tile.off hc.tiles

theorem State.darken_tile_other (s : State) {t u : Nat} (h : u ≠ t) : (s.darken t).tile u = s.tile u :=
  Map.get_put_other s.tiles Tile.init Tile.init t u Tile.off h

theorem State.darken_mem (s : State) (t k : Nat) :
    Map.get (s.darken t).mem 0 k = if k / 65536 ≠ t then Map.get s.mem 0 k else 0 :=
  (map_get_filter (fun k => decide (k / 65536 ≠ t)) (0 : CodeWord) k s.mem).trans (by simp only [decide_eq_true_eq])

theorem State.darken_canonical (hc : Canonical s) (t : Nat) : Canonical (s.darken t) := by
  have hout := unwatched_false
  exact (State.darken_good (good_start hc noParts)).canon

/-- Everything is held, and the copy to the cellar ends. -/
def State.holdAll (s : State) : State :=
  { s with power := { s.power with allHeld := true }, cellar := { s.cellar with job := none } }

theorem State.holdAll_good {z : Watch} (h : Good z s) [Unwatched z.parts.power] [Unwatched z.parts.cellar] : Good z s.holdAll :=
  good_cellar (good_power h { s.power with allHeld := true }) { s.cellar with job := none }

/-- The input is off, and the fail is counted. -/
def State.failInput (s : State) : State :=
  { s with boot := { s.boot with fails := s.boot.fails + 1 }, power := { s.power with input := false } }

theorem State.failInput_good {z : Watch} (h : Good z s) [Unwatched z.parts.power] [Unwatched z.parts.boot] : Good z s.failInput :=
  good_power (good_boot h { s.boot with fails := s.boot.fails + 1 }) { s.power with input := false }

theorem State.obj_holdAll (s : State) (k l : Nat) : s.holdAll.obj k l = s.obj k l := rfl
theorem State.failInput_fails (s : State) : s.failInput.boot.fails = s.boot.fails + 1 := rfl
theorem State.failInput_held (s : State) : s.failInput.power.allHeld = s.power.allHeld := rfl

/-- Every pound is off and everything is held, before the tiles go dark. -/
def State.allOff (s : State) : State :=
  ((List.range 40).foldl State.openPound s).poundCounts.holdAll

theorem State.openAll_eq (s : State) : s.openAll = allTiles.foldl State.darken s.allOff := rfl

theorem State.allOff_shows (hc : Canonical s) : Canonical s.allOff ∧ (∀ p, p < 40 → s.allOff.poundState p = 0) ∧
    (∀ j, j < 256 → s.allOff.obj 0x2100 j = s.obj 0x2100 j) ∧ s.allOff.power.allHeld = true ∧ s.allOff.boot = s.boot ∧
    s.allOff.alarmQ = s.alarmQ := by
  have hout := unwatched_false
  have hopen : ∀ (a : State) (n : Nat), Canonical a → Canonical (a.openPound n) := fun a n ha =>
    (State.updPound_good (State.setObj_good (State.setObj_good (State.setObj_good (good_start ha noParts))))).canon
  obtain ⟨hcanon, -, hoff⟩ := State.foldl_reaches (P := fun p a => a.poundState p = 0) hopen
    (fun a n ha => State.openPound_state ha n) (fun a n p ha hp => by
      by_cases h : p = n
      · subst h
        exact State.openPound_state ha p
      · rw [State.poundState, State.openPound_obj _ _ (by decide) (by unfold poundObj; omega)]
        exact hp) (List.range 40) s hc
  have hobj : ∀ j, j < 256 → ((List.range 40).foldl State.openPound s).obj 0x2100 j = s.obj 0x2100 j := fun j hj =>
    State.foldl_keeps (fun a => a.obj 0x2100 j) (fun a n => a.openPound_obj n hj (by unfold poundObj; omega)) _ s
  have hkept : Good ⟨s.pending, s, { noParts with boot := true, alarmQ := true }⟩ ((List.range 40).foldl State.openPound s) :=
    good_foldl (fun _ _ h => State.updPound_good (State.setObj_good (State.setObj_good (State.setObj_good h)))) _ (good_start hc _)
  have hcounts : Good ⟨s.pending, s, { noParts with boot := true, alarmQ := true }⟩ s.allOff :=
    State.holdAll_good (State.poundCounts_good hkept)
  have hread : ∀ k l, s.allOff.obj k l = ((List.range 40).foldl State.openPound s).poundCounts.obj k l := State.obj_holdAll _
  refine ⟨?_, fun p hp => ?_, fun j hj => ?_, rfl, hcounts.same.boot rfl, hcounts.same.alarmQ rfl⟩
  · exact hcounts.canon
  · rw [State.poundState, hread, State.poundCounts_obj _ (by unfold poundObj; omega) (by decide)]
    exact hoff p (List.mem_range.mpr hp)
  · rw [hread, State.poundCounts_obj _ (by decide) hj, hobj j hj]

/-- Every tile is dark and holds nothing. -/
theorem State.openAll_shows (hc : Canonical s) : Canonical s.openAll ∧ (∀ p, p < 40 → s.openAll.poundState p = 0) ∧
    (∀ j, j < 256 → s.openAll.obj 0x2100 j = s.obj 0x2100 j) ∧ s.openAll.power.allHeld = true ∧ s.openAll.boot = s.boot ∧
    s.openAll.alarmQ = s.alarmQ ∧ (∀ t, t < 2304 → (s.openAll.tile t).dark = true) ∧
    ∀ k, k / 65536 < 2304 → Map.get s.openAll.mem 0 k = 0 := by
  obtain ⟨hcanon, hoff, hobj, hheld, hboot, halarm⟩ := State.allOff_shows hc
  have hout := unwatched_false
  have hkept : Good ⟨s.allOff.pending, s.allOff, { mem := false, tregs := false, tiles := false }⟩ s.openAll :=
    good_foldl (fun _ _ h => State.darken_good h) _ (good_start hcanon _)
  have hobjs : ∀ k l, s.openAll.obj k l = s.allOff.obj k l := State.obj_of_objs (hkept.same.objs rfl)
  obtain ⟨hlast, -, hdark⟩ := State.foldl_reaches (f := State.darken) (I := Canonical) (P := fun t a => (a.tile t).dark = true)
    (fun a t ha => State.darken_canonical ha t) (fun a t ha => by rw [State.darken_tile ha]; rfl) (fun a t u ha hu => by
      by_cases h : u = t
      · rw [h, State.darken_tile ha]
        rfl
      · rwa [State.darken_tile_other _ h]) allTiles s.allOff hcanon
  obtain ⟨-, -, hmem⟩ := State.foldl_reaches (I := fun _ => True) (P := fun t a => ∀ k, k / 65536 = t → Map.get a.mem 0 k = 0)
    (f := State.darken) (fun _ _ _ => trivial) (fun a t _ k hk => by rw [State.darken_mem, if_neg (by simp [hk])])
    (fun a t u _ hu k hk => by rw [State.darken_mem, hu k hk, ite_self]) allTiles s.allOff trivial
  exact ⟨hlast, fun p hp => (hobjs _ _).trans (hoff p hp), fun j hj => (hobjs _ _).trans (hobj j hj),
    (congrArg (·.allHeld) (hkept.same.power rfl)).trans hheld, (hkept.same.boot rfl).trans hboot,
    (hkept.same.alarmQ rfl).trans halarm, fun t ht => hdark t (List.mem_range.mpr ht),
    fun k hk => hmem _ (List.mem_range.mpr hk) k rfl⟩

theorem State.powerFail_shows (hc : Canonical s) (c : Nat) :
    (s.powerFail c).obj 0x2100 1 = (if c = 2 then 5 else 4) ∧ (s.powerFail c).power.allHeld = true ∧
      (s.powerFail c).power.input = false ∧ (s.powerFail c).boot.fails = s.boot.fails + 1 ∧
      (∀ p, p < 40 → (s.powerFail c).poundState p = 0) ∧ (∀ t, t < 2304 → ((s.powerFail c).tile t).dark = true) ∧
      (∀ k, k / 65536 < 2304 → Map.get (s.powerFail c).mem 0 k = 0) ∧ (s.powerFail c).obj 0x2100 4 = s.obj 0x2100 4 ∧
      ∃ l, (s.powerFail c).alarmQ = l ++ [⟨0x168, c, 0, 0, 16, 2304, 0⟩] := by
  have hout := unwatched_false
  obtain ⟨hcanon, hoff, hobj, hheld, hboot, halarm, hdark, hmem⟩ := State.openAll_shows hc
  let a : State := s.openAll.failInput
  have ha : Good ⟨s.openAll.pending, s.openAll, { boot := false, power := false }⟩ a :=
    State.failInput_good (good_start hcanon _)
  have hobjs : a.objs = s.openAll.objs := ha.same.objs rfl
  have hfail : s.powerFail c = (a.setObj 0x2100 1 (if c = 2 then 5 else 4)).agentAlarm 0x168 c 16 := rfl
  have hlast : Good ⟨a.pending, a, { objs := false, alarmQ := false }⟩ (s.powerFail c) := by
    rw [hfail]
    exact State.agentAlarm_good (State.setObj_good (good_start ha.canon _))
  have hread : ∀ k l, 256 * k + l ≠ 256 * 0x2100 + 1 → (s.powerFail c).obj k l = s.openAll.obj k l := fun k l h => by
    rw [hfail, State.obj_agentAlarm_read, State.obj_setObj_else _ _ _ _ _ _ h]
    rw [State.obj_of_objs hobjs]
  have htiles : (s.powerFail c).tiles = s.openAll.tiles := (hlast.same.tiles rfl).trans (ha.same.tiles rfl)
  have hmems : (s.powerFail c).mem = s.openAll.mem := (hlast.same.mem rfl).trans (ha.same.mem rfl)
  have hpower : (s.powerFail c).power = s.openAll.failInput.power := hlast.same.power rfl
  have hboots : (s.powerFail c).boot = s.openAll.failInput.boot := hlast.same.boot rfl
  refine ⟨?_, ?_, ?_, ?_, fun p hp => ?_, fun t ht => ?_, fun k hk => ?_, ?_, ?_⟩
  · rw [hfail, State.obj_agentAlarm_read, State.obj_setObj_same _ ha.canon]
    split <;> rfl
  · rw [hpower, State.failInput_held, hheld]
  · rw [hpower]
    rfl
  · rw [hboots, State.failInput_fails, hboot]
  · exact (hread _ _ (by unfold poundObj; omega)).trans (hoff p hp)
  · rw [State.tile_of_tiles htiles]
    exact hdark t ht
  · rw [hmems]
    exact hmem k hk
  · exact (hread _ _ (by decide)).trans (hobj 4 (by decide))
  · rw [hfail, State.agentAlarm]
    exact ⟨_, rfl⟩

/-! ## Cells and the ceiling (R314, R315) -/

theorem State.addLedger_obj (s : State) (kind : Nat) (tile : Option Nat) (item sub : Nat) (service : Bool) {k l : Nat}
    (h : k ≠ 0x2E02) (hl : l < 256) : (s.addLedger kind tile item sub service).obj k l = s.obj k l := by
  unfold State.addLedger
  split
  · rfl
  · split
    · split <;> rfl
    · rw [State.obj_agentIrq_read, State.bumpObj, State.obj_setObj_else _ _ _ _ _ _ (by omega),
        State.obj_setObj_else _ _ _ _ _ _ (by omega)]
      rfl

theorem State.addLedger_fails (s : State) (kind : Nat) (tile : Option Nat) (item sub : Nat) (service : Bool) :
    (s.addLedger kind tile item sub service).boot.fails = s.boot.fails := by
  unfold State.addLedger
  split
  · rfl
  · split
    · split <;> rfl
    · rfl

theorem State.newCeiling_obj (s : State) {k l : Nat} (h2 : 256 * k + l ≠ 256 * 0x2100 + 2)
    (h3 : 256 * k + l ≠ 256 * 0x2100 + 3) : s.newCeiling.obj k l = s.obj k l := by
  rw [State.newCeiling, State.obj_setObj_else _ _ _ _ _ _ h3, State.obj_setObj_else _ _ _ _ _ _ h2]

theorem State.newCeiling_shows (hc : Canonical s) :
    s.newCeiling.obj 0x2100 2 = f32Of (ceilingOf (s.obj 0x2100 4) s.power.vin) 1000 % 2 ^ 64 ∧
      s.newCeiling.obj 0x2100 3 = f32Of (dieShare (ceilingOf (s.obj 0x2100 4) s.power.vin)) 1000 % 2 ^ 64 := by
  rw [State.newCeiling]
  exact ⟨(State.obj_setObj_else _ _ _ _ _ _ (by decide)).trans (State.obj_setObj_same _ hc _ _ _),
    State.obj_setObj_same _ (State.setObj_canonical hc _ _ _) _ _ _⟩

/-- A clear bit that is added is set, in an object's 64 bits. -/
theorem bitOf_add_two_pow {v c : Nat} (hc : c < 16) (h : bitOf v c = false) : bitOf ((v + 2 ^ c) % 2 ^ 64) c = true := by
  have hbit : ∀ n, bitOf n c = n.testBit c := fun n => by
    rw [bitOf, Nat.testBit_eq_decide_div_mod_eq]
    rfl
  rw [hbit, Nat.testBit_mod_two_pow, ← hbit]
  have hpos : 0 < 2 ^ c := Nat.two_pow_pos c
  simp only [bitOf, beq_eq_false_iff_ne, Nat.add_div_right _ hpos, Bool.and_eq_true, decide_eq_true_eq, beq_iff_eq] at h ⊢
  omega

/-- The cell leaves the array, and is reported. -/
def State.cellOut (s : State) (c : Nat) : State :=
  ((((s.setObj 0x2100 5 (s.obj 0x2100 5 + 2 ^ c)).setObj 0x2100 4 (s.obj 0x2100 4 - 1)).addLedger 0xA none c 0 true).agentIrq
    0x166 c).newCeiling

theorem State.cellLost_eq {c : Nat} (h : bitOf (s.obj 0x2100 5) c = false) :
    s.cellLost c = if (s.cellOut c).obj 0x2100 4 < 8 then (s.cellOut c).powerFail 3 else s.cellOut c :=
  if_neg (Bool.eq_false_iff.mp h)

theorem State.cellOut_shows (hc : Canonical s) {c : Nat} (hlt : c < 16) (h : bitOf (s.obj 0x2100 5) c = false) :
    Canonical (s.cellOut c) ∧ (s.cellOut c).obj 0x2100 4 = s.obj 0x2100 4 - 1 ∧ bitOf ((s.cellOut c).obj 0x2100 5) c = true ∧
      (s.cellOut c).obj 0x2100 2 = f32Of (ceilingOf (s.obj 0x2100 4 - 1) s.power.vin) 1000 % 2 ^ 64 ∧
      (⟨0x166, c, 0, 0, 16, 2304, 0⟩ : AlarmMsg) ∈ (s.cellOut c).irqQ ∧ (s.cellOut c).tiles = s.tiles ∧
      (s.cellOut c).boot.fails = s.boot.fails := by
  have hout := unwatched_false
  let s1 := (s.setObj 0x2100 5 (s.obj 0x2100 5 + 2 ^ c)).setObj 0x2100 4 (s.obj 0x2100 4 - 1)
  let s2 := (s1.addLedger 0xA none c 0 true).agentIrq 0x166 c
  have h2 : Good ⟨s.pending, s, { noParts with power := true, tiles := true }⟩ s2 :=
    State.agentIrq_good (State.addLedger_good (State.setObj_good (State.setObj_good (good_start hc _))))
  have hcells : s1.obj 0x2100 4 = s.obj 0x2100 4 - 1 :=
    (State.obj_setObj_same _ (State.setObj_canonical hc _ _ _) _ _ _).trans
      (Nat.mod_eq_of_lt (by have : s.obj 0x2100 4 < 2 ^ 64 := BitVec.isLt _; omega))
  have hread : ∀ l, l < 256 → s2.obj 0x2100 l = s1.obj 0x2100 l := fun l hl =>
    State.addLedger_obj s1 0xA none c 0 true (by decide) hl
  have hlast : s.cellOut c = s2.newCeiling := rfl
  have hfails : s2.boot.fails = s.boot.fails := State.addLedger_fails s1 0xA none c 0 true
  have hcanon : Good ⟨s2.pending, s2, { objs := false }⟩ s2.newCeiling := State.newCeiling_good (good_start h2.canon _)
  obtain ⟨hceiling, -⟩ := State.newCeiling_shows h2.canon
  rw [hread 4 (by decide), hcells, show s2.power = s.power from h2.same.power rfl] at hceiling
  rw [hlast]
  refine ⟨hcanon.canon, ?_, ?_, hceiling, ?_, (hcanon.same.tiles rfl).trans (h2.same.tiles rfl), ?_⟩
  · rw [State.newCeiling_obj _ (by decide) (by decide), hread 4 (by decide), hcells]
  · rw [State.newCeiling_obj _ (by decide) (by decide), hread 5 (by decide),
      State.obj_setObj_else _ _ _ _ _ _ (by decide), State.obj_setObj_same _ hc]
    exact bitOf_add_two_pow hlt h
  · rw [hcanon.same.irqQ rfl]
    exact List.mem_append_right _ List.mem_cons_self
  · rw [hcanon.same.boot rfl, hfails]

/-! ## The obligation -/

/-- The input voltage is read: an input that is off qualifies from 355 V, and the ceiling follows. -/
theorem State.ceilingUpdate_shows (hc : Canonical s) (vin : Nat) :
    ∃ s', exec (.ceilingUpdate vin) s = .next s' ∧ s'.power = { s.power with vin := vin } ∧
      s'.obj 0x2100 1 = (if 1 < s.obj 0x2100 1 then s.obj 0x2100 1 else b2n (decide (355000 ≤ vin))) ∧
      s'.obj 0x2100 2 = f32Of (ceilingOf (s.obj 0x2100 4) vin) 1000 % 2 ^ 64 ∧
      s'.obj 0x2100 3 = f32Of (dieShare (ceilingOf (s.obj 0x2100 4) vin)) 1000 % 2 ^ 64 := by
  have hout := unwatched_false
  let s1 : State := { s with power := { s.power with vin := vin } }
  have h1 : Canonical s1 := (good_power (good_start hc noParts) { s.power with vin := vin }).canon
  have hexec : exec (.ceilingUpdate vin) s = .next
      (if 1 < s.obj 0x2100 1 then s1 else s1.setObj 0x2100 1 (b2n (decide (355000 ≤ vin)))).newCeiling := rfl
  have hread : ∀ a : State, a.newCeiling.obj 0x2100 1 = a.obj 0x2100 1 := fun a =>
    a.newCeiling_obj (by decide) (by decide)
  refine ⟨_, hexec, ?_⟩
  by_cases h : 1 < s.obj 0x2100 1
  · rw [if_pos h, if_pos h]
    exact ⟨rfl, hread s1, State.newCeiling_shows h1⟩
  · rw [if_neg h, if_neg h]
    have hshows := State.newCeiling_shows (State.setObj_canonical h1 0x2100 1 (b2n (decide (355000 ≤ vin))))
    rw [State.obj_setObj_else _ _ _ _ _ _ (by decide)] at hshows
    refine ⟨rfl, (hread _).trans ?_, hshows⟩
    rw [State.obj_setObj_same _ h1]
    unfold b2n
    split <;> rfl

/-- The power-on is counted, and what the boot has recorded is shown. -/
def State.poweredOn (s : State) (scan : Bool) : State :=
  let b := s.boot
  let s1 : State := { s with
    boot := { b with powerOns := b.powerOns + 1, bringUps := b.bringUps + b2n (!scan), ledgerFull := false, unlock := none },
    srv := { s.srv with ms := 0 } }
  let s2 := ((s1.setObj 0x2100 1 3).setObj 0x2D00 1 (b2n scan)).setObj 0x2100 7 b.fails
  ((s2.setObj 0x2280 8 b.shutdowns).setObj 0x2E02 1 b.ledger.length).setObj 0x2E00 0xD s1.boot.bringUps

theorem State.poweredOn_shows (hc : Canonical s) (scan : Bool) :
    Canonical (s.poweredOn scan) ∧ (s.poweredOn scan).obj 0x2100 1 = 3 ∧ (s.poweredOn scan).obj 0x2D00 1 = b2n scan ∧
      (s.poweredOn scan).obj 0x2000 7 = s.obj 0x2000 7 ∧
      (s.poweredOn scan).boot.powerOns = s.boot.powerOns + 1 ∧
      (s.poweredOn scan).boot.bringUps = s.boot.bringUps + b2n (!scan) := by
  have hout := unwatched_false
  let s1 : State := { s with
    boot := { s.boot with powerOns := s.boot.powerOns + 1, bringUps := s.boot.bringUps + b2n (!scan), ledgerFull := false,
                          unlock := none },
    srv := { s.srv with ms := 0 } }
  have h1 : Canonical s1 := (good_srv (good_boot (good_start hc noParts) s1.boot) s1.srv).canon
  have hlast : s.poweredOn scan = (((((s1.setObj 0x2100 1 3).setObj 0x2D00 1 (b2n scan)).setObj 0x2100 7 s.boot.fails).setObj
      0x2280 8 s.boot.shutdowns).setObj 0x2E02 1 s.boot.ledger.length).setObj 0x2E00 0xD s1.boot.bringUps := rfl
  have hkept : Good ⟨s1.pending, s1, { objs := false }⟩ (s.poweredOn scan) := by
    rw [hlast]
    exact State.setObj_good (State.setObj_good (State.setObj_good (State.setObj_good (State.setObj_good
      (State.setObj_good (good_start h1 _))))))
  have hread : ∀ k l, (k = 0x2100 ∧ l = 1) ∨ k = 0x2D00 ∨ k = 0x2000 → l < 256 →
      (s.poweredOn scan).obj k l = ((s1.setObj 0x2100 1 3).setObj 0x2D00 1 (b2n scan)).obj k l := fun k l h hl => by
    rw [hlast, State.obj_setObj_else _ _ _ _ _ _ (by omega), State.obj_setObj_else _ _ _ _ _ _ (by omega),
      State.obj_setObj_else _ _ _ _ _ _ (by omega), State.obj_setObj_else _ _ _ _ _ _ (by omega)]
  refine ⟨hkept.canon, ?_, ?_, ?_, ?_, ?_⟩
  · rw [hread _ _ (by decide) (by decide), State.obj_setObj_else _ _ _ _ _ _ (by decide), State.obj_setObj_same _ h1] <;> rfl
  · rw [hread _ _ (by decide) (by decide), State.obj_setObj_same _ (State.setObj_canonical h1 _ _ _)]
    cases scan <;> rfl
  · rw [hread _ _ (by decide) (by decide), State.obj_setObj_else _ _ _ _ _ _ (by decide),
      State.obj_setObj_else _ _ _ _ _ _ (by decide)]
    rfl
  · rw [hkept.same.boot rfl]
  · rw [hkept.same.boot rfl]

theorem State.powerGood_shows (hc : Canonical s) (scan : Bool) (h : s.obj 0x2100 1 = 2) :
    ∃ s', exec (.powerGood scan) s = .next s' ∧ s'.obj 0x2100 1 = 3 ∧ s'.boot.powerOns = s.boot.powerOns + 1 ∧
      s'.obj 0x2D00 1 = b2n scan ∧
      (scan = false → s'.obj 0x2000 7 = 1 ∧ s'.obj 0x2E00 1 = 1 ∧ s'.boot.bringUps = s.boot.bringUps + 1) ∧
      (scan = true → s'.obj 0x2000 7 = s.obj 0x2000 7 ∧ s'.boot.bringUps = s.boot.bringUps) := by
  have hout := unwatched_false
  obtain ⟨hcanon, hon, hscan, hstate, hpowerOns, hups⟩ := State.poweredOn_shows hc scan
  have hexec : exec (.powerGood scan) s = .next
      (if scan then s.poweredOn scan else ((s.poweredOn scan).setObj 0x2000 7 1).setObj 0x2E00 1 1) := if_neg (not_not_intro h)
  refine ⟨_, hexec, ?_⟩
  cases scan
  · have hread : ∀ k l, 256 * k + l ≠ 256 * 0x2000 + 7 → 256 * k + l ≠ 256 * 0x2E00 + 1 →
        (((s.poweredOn false).setObj 0x2000 7 1).setObj 0x2E00 1 1).obj k l = (s.poweredOn false).obj k l := fun k l h h' => by
      rw [State.obj_setObj_else _ _ _ _ _ _ h', State.obj_setObj_else _ _ _ _ _ _ h]
    rw [if_neg Bool.false_ne_true]
    refine ⟨(hread _ _ (by decide) (by decide)).trans hon, hpowerOns, (hread _ _ (by decide) (by decide)).trans hscan,
      fun _ => ⟨?_, State.obj_setObj_same _ (State.setObj_canonical hcanon _ _ _) _ _ _, hups⟩, fun h => by cases h⟩
    exact (State.obj_setObj_else _ _ _ _ _ _ (by decide)).trans (State.obj_setObj_same _ hcanon _ _ _)
  · rw [if_pos rfl]
    exact ⟨hon, hpowerOns, hscan, fun h => (Bool.false_ne_true h.symm).elim, fun _ => ⟨hstate, hups⟩⟩

/-- Settles O42: what a power fail leaves is said once, for its three causes. -/
theorem supply : Obligations.Supply := by
  unfold Obligations.Supply
  have hout := unwatched_false
  intro s cause cell vin scan hc fails
  refine ⟨fun h => ?_, fun h => ?_, fun h => ?_, fun h => State.powerGood_shows hc scan h, ⟨_, rfl, State.powerFail_shows hc _⟩,
    ⟨_, rfl, State.powerFail_shows hc 0⟩, fun h => ?_, fun h => ⟨fun hcells => ?_, fun hcells => ?_⟩,
    State.ceilingUpdate_shows hc vin⟩
  · have hexec : exec .inputQualified s = .next { s.setObj 0x2100 1 2 with power := { s.power with input := true } } :=
      congrArg Host.Outcome.next (if_pos h)
    exact ⟨_, hexec, State.obj_setObj_same _ hc 0x2100 1 2, rfl, rfl⟩
  · exact congrArg Host.Outcome.next (if_neg (by omega))
  · exact if_pos h
  · exact congrArg Host.Outcome.next (if_pos h)
  · obtain ⟨-, hleft, hbit, hceiling, hirq, htiles, -⟩ := State.cellOut_shows hc cell.isLt h
    have hexec : exec (.cellLost cell) s = .next (s.cellOut cell) :=
      congrArg Host.Outcome.next ((State.cellLost_eq h).trans (if_neg (by omega)))
    exact ⟨_, hexec, hleft, hbit, hceiling, hirq, htiles⟩
  · obtain ⟨hcanon, hleft, -, -, -, -, hfails⟩ := State.cellOut_shows hc cell.isLt h
    have hexec : exec (.cellLost cell) s = .next ((s.cellOut cell).powerFail 3) :=
      congrArg Host.Outcome.next ((State.cellLost_eq h).trans (if_pos (by omega)))
    have hfail := State.powerFail_shows hcanon 3
    rw [hleft, hfails] at hfail
    exact ⟨_, hexec, hfail⟩

end Sys2Proof.Machine

/-! # PROOFS. Phases, regulators and the weir (R316, R318 to R321, R322 to R325, R333) -/

namespace Sys2Proof.Machine

open Sys2Proof

variable {s : State}

/-! ## What leaves the objects of the pounds -/

/-- The objects 0x2300 to 0x2327 of `a` are those of `s`. -/
def PoundsKept (s a : State) : Prop :=
  ∀ k l, 0x2300 ≤ k → k < 0x2328 → l < 256 → a.obj k l = s.obj k l

theorem PoundsKept.refl (s : State) : PoundsKept s s := fun _ _ _ _ _ => rfl

theorem PoundsKept.pound {a : State} (h : PoundsKept s a) {n l : Nat} (hn : n < 40) (hl : l < 256) :
    a.obj (poundObj n) l = s.obj (poundObj n) l :=
  h _ _ (by unfold poundObj; omega) (by unfold poundObj; omega) hl

theorem PoundsKept.of_objs {a b : State} (h : PoundsKept s a) (hobjs : b.objs = a.objs) : PoundsKept s b :=
  fun k l hlow hhigh hl => (State.obj_of_objs hobjs k l).trans (h k l hlow hhigh hl)

theorem PoundsKept.setObj {a : State} (h : PoundsKept s a) (i j n : Nat) (hi : (i < 0x2300 ∧ j < 256) ∨ 0x2328 ≤ i) :
    PoundsKept s (a.setObj i j n) :=
  fun k l hlow hhigh hl => (a.obj_setObj_else _ _ _ _ _ (by omega)).trans (h k l hlow hhigh hl)

theorem PoundsKept.foldl {β : Type} {f : State → β → State} (hf : ∀ a x, PoundsKept s a → PoundsKept s (f a x)) (xs : List β) :
    ∀ {a : State}, PoundsKept s a → PoundsKept s (xs.foldl f a) := by
  induction xs with
  | nil => exact fun h => h
  | cons x xs ih => exact fun h => ih (hf _ x h)

theorem PoundsKept.ite {a b : State} {c : Prop} [Decidable c] (ha : PoundsKept s a) (hb : PoundsKept s b) :
    PoundsKept s (if c then a else b) := by
  split
  · exact ha
  · exact hb

theorem PoundsKept.agentAlarm {a : State} (h : PoundsKept s a) (cause detail b : Nat) :
    PoundsKept s (a.agentAlarm cause detail b) := h.of_objs (a.agentAlarm_objs _ _ _)

theorem PoundsKept.darken {a : State} (h : PoundsKept s a) (t : Nat) : PoundsKept s (a.darken t) := h.of_objs rfl

theorem PoundsKept.setRegN {a : State} (h : PoundsKept s a) (t off n : Nat) : PoundsKept s (a.setRegN t off n) := h.of_objs rfl

theorem PoundsKept.markLanes {a : State} (h : PoundsKept s a) (t : Nat) : PoundsKept s (a.markLanes t) :=
  PoundsKept.foldl (fun _ _ h => h.setRegN _ _ _) _ h

theorem PoundsKept.writeMap {a : State} (h : PoundsKept s a) (maps : List FieldMap) (limit f : Nat) :
    PoundsKept s (a.writeMap maps limit f) := by
  have hmap : ∀ {b : State} (j n : Nat), PoundsKept s b → PoundsKept s (b.setObj (mapObj f) j n) := fun j n hb =>
    hb.setObj _ _ _ (Or.inr (by unfold mapObj; omega))
  unfold State.writeMap
  split
  · exact h
  · exact hmap _ _ (hmap _ _ (PoundsKept.foldl (fun _ _ hb => hmap _ _ hb) _ (hmap _ _ (hmap _ _ h))))

theorem PoundsKept.takeMaps {a : State} (h : PoundsKept s a) (grade : Nat) (maps : List FieldMap) :
    PoundsKept s (a.takeMaps grade maps) := by
  unfold State.takeMaps
  extract_lets +onlyGivenNames -merge -useContext -underBinder v1 v2 v4 v5 v6 v7 v8 v10 v11 v12 v14 v16 v18 v19 v20 v21 v22
  have h2 : PoundsKept s v2 := PoundsKept.foldl (fun _ _ h => h.writeMap _ _ _) _ h
  have h7 : PoundsKept s v7 := h2.of_objs rfl
  have h8 : PoundsKept s v8 := PoundsKept.foldl (fun _ _ h => (h.setRegN _ _ _).markLanes _) _ h7
  have h12 : PoundsKept s v12 := PoundsKept.foldl (fun _ _ h => h.setRegN _ _ _) _ h8
  have h14 : PoundsKept s v14 := PoundsKept.foldl (fun _ _ h => h.setRegN _ _ _) _ h12
  have h16 : PoundsKept s v16 := PoundsKept.foldl (fun _ _ h => h.setObj _ _ _ (Or.inr (by unfold portObj; omega))) _ h14
  have h20 : PoundsKept s v20 := (((h16.setObj _ _ _ (by decide)).setObj _ _ _ (by decide)).setObj _ _ _ (by decide)).setObj
    _ _ _ (by decide)
  exact PoundsKept.foldl (fun _ _ h => h.setRegN _ _ _) _ ((h20.setObj _ _ _ (by decide)).setObj _ _ _ (by decide))

theorem PoundsKept.addLedger {a : State} (h : PoundsKept s a) (kind : Nat) (tile : Option Nat) (item sub : Nat) (service : Bool) :
    PoundsKept s (a.addLedger kind tile item sub service) :=
  fun k l hlow hhigh hl => (a.addLedger_obj _ _ _ _ _ (by omega) hl).trans (h k l hlow hhigh hl)

theorem PoundsKept.lkError {a : State} (h : PoundsKept s a) (b t cause detail aux : Nat) :
    PoundsKept s (a.lkError b t cause detail aux) := by
  have hset : ∀ {c : State} (i j n : Nat), 0x2810 ≤ i → PoundsKept s c → PoundsKept s (c.setObj i j n) := fun i j n hi hc =>
    hc.setObj _ _ _ (Or.inr (by omega))
  have hstop : PoundsKept s (a.raiseStop b t cause) := by
    unfold State.raiseStop
    extract_lets s1 s2
    have h2 : PoundsKept s s2 := PoundsKept.ite (hset _ _ _ (by omega) (h.of_objs rfl)) (h.of_objs rfl)
    exact PoundsKept.ite h (hset _ _ _ (by omega) (hset _ _ _ (by omega) (hset _ _ _ (by omega) (hset _ _ _ (by omega) h2))))
  exact hstop.of_objs rfl

theorem PoundsKept.shapeAfterLoss {a : State} (h : PoundsKept s a) : PoundsKept s a.shapeAfterLoss := by
  have hmaps : PoundsKept s (match a.chooseShape with | some (g, m) => a.takeMaps g m | none => a) := by
    split
    · exact h.takeMaps _ _
    · exact h
  unfold State.shapeAfterLoss
  exact PoundsKept.ite h (PoundsKept.ite (PoundsKept.ite (h.setObj _ _ _ (by decide)) hmaps)
    ((h.setObj _ _ _ (by decide)).setObj _ _ _ (by decide)))

theorem PoundsKept.markPound {a : State} (h : PoundsKept s a) (n : Nat) : PoundsKept s (a.markPound n) :=
  PoundsKept.foldl (fun _ _ h => h.markLanes _) _ h

/-! ## Isolation (R322 to R325) -/

theorem State.setPound_obj (s : State) (n st : Nat) {k l : Nat} (h : 256 * k + l ≠ 256 * poundObj n + 1) (hk : k ≠ 0x2330)
    (hl : l < 256) : (s.setPound n st).obj k l = s.obj k l :=
  (State.poundCounts_obj _ hk hl).trans (State.obj_setObj_else _ _ _ _ _ _ h)

theorem State.setPound_state (hc : Canonical s) {n st : Nat} (hn : n < 40) (hst : st < 8) : (s.setPound n st).poundState n = st :=
  (State.poundCounts_obj _ (by unfold poundObj; omega) (by decide)).trans
    ((State.obj_setObj_same _ hc _ _ _).trans (Nat.mod_eq_of_lt (by omega)))

/-- Whether a pound trips too soon after its revival. -/
def State.tripsAgain (s : State) (n : Nat) : Bool :=
  (s.pound n).revived.any (fun ms => decide (s.poundState n = 2) || decide (s.srv.ms ≤ ms + 1000))

/-- The e-fuse opens, before the loss is told. -/
def State.fuseOpen (s : State) (n cause : Nat) : State :=
  let s1 := (s.setPound n (if s.tripsAgain n then 5 else 4)).updPound n (fun p => { p with
    hold := false, asked := none, down := false, boost := false, shunt := false })
  (((s1.bumpObj (poundObj n) 0xD 1 255).setObj (poundObj n) 0xE cause).setObj (poundObj n) 3 0).setObj (poundObj n) 4 0

theorem State.fuseOpen_shows (hc : Canonical s) {n cause : Nat} (hn : n < 40) (hcause : cause < 16) :
    (s.fuseOpen n cause).poundState n = (if s.tripsAgain n then 5 else 4) ∧ (s.fuseOpen n cause).obj (poundObj n) 3 = 0 ∧
      (s.fuseOpen n cause).obj (poundObj n) 4 = 0 ∧ (s.fuseOpen n cause).obj (poundObj n) 0xE = cause := by
  have hout := unwatched_false
  let s1 := (s.setPound n (if s.tripsAgain n then 5 else 4)).updPound n (fun p => { p with
    hold := false, asked := none, down := false, boost := false, shunt := false })
  let s2 := s1.bumpObj (poundObj n) 0xD 1 255
  have h2 : Canonical s2 := (State.bumpObj_good (State.updPound_good (State.setPound_good (good_start hc noParts)))).canon
  have hs1 : s1.obj (poundObj n) 1 = if s.tripsAgain n then 5 else 4 :=
    (State.obj_updPound _ _ _ _ _).trans (State.setPound_state hc hn (by split <;> decide))
  have h3 := State.setObj_canonical h2 (poundObj n) 0xE cause
  have h4 := State.setObj_canonical h3 (poundObj n) 3 0
  have hlast : s.fuseOpen n cause = ((s2.setObj (poundObj n) 0xE cause).setObj (poundObj n) 3 0).setObj (poundObj n) 4 0 := rfl
  rw [hlast, State.poundState]
  refine ⟨?_, ?_, ?_, ?_⟩
  · rw [State.obj_setObj_else _ _ _ _ _ _ (by omega), State.obj_setObj_else _ _ _ _ _ _ (by omega),
      State.obj_setObj_else _ _ _ _ _ _ (by omega)]
    exact (State.obj_setObj_else _ _ _ _ _ _ (by omega)).trans hs1
  · rw [State.obj_setObj_else _ _ _ _ _ _ (by omega), State.obj_setObj_same _ h3] <;> rfl
  · rw [State.obj_setObj_same _ h4] <;> rfl
  · rw [State.obj_setObj_else _ _ _ _ _ _ (by omega), State.obj_setObj_else _ _ _ _ _ _ (by omega),
      State.obj_setObj_same _ h2]
    exact Nat.mod_eq_of_lt (by omega)

/-- What follows the opening of the e-fuse: tiles darken, lanes are marked, and the loss is told. -/
def State.fuseTold (a : State) (n cause : Nat) (bs : List Nat) : State :=
  let a1 := (((a.poundTiles n).foldl (fun a t => a.darken t) a).markPound n).addLedger 0xD none n cause true
  let code := if cause = 2 then 0x163 else 0x162
  (bs.foldl (fun a b =>
    let t := ((a.poundTiles n).find? (fun t => decide (a.basinOf t = some b))).getD 0
    a.lkError b t code n 2) (a1.agentAlarm code n 16)).shapeAfterLoss

theorem PoundsKept.fuseTold {a : State} (h : PoundsKept s a) (n cause : Nat) (bs : List Nat) :
    PoundsKept s (a.fuseTold n cause bs) := by
  have h1 := ((PoundsKept.foldl (fun _ t h => PoundsKept.darken h t) (a.poundTiles n) h).markPound n).addLedger 0xD none n cause true
  exact (PoundsKept.foldl (fun _ _ h => h.lkError _ _ _ _ _) bs (h1.agentAlarm _ n 16)).shapeAfterLoss

theorem State.isolate_eq (s : State) (n cause : Nat) :
    s.isolate n cause = (s.fuseOpen n cause).fuseTold n cause (s.poundBasins n) := by
  cases h : (s.pound n).revived <;>
    simp only [State.isolate, State.fuseTold, State.fuseOpen, State.tripsAgain, h, Option.any_none, Option.any_some]

theorem State.isolate_shows (hc : Canonical s) {n cause : Nat} (hn : n < 40) (hcause : cause < 16) :
    (s.isolate n cause).poundState n = (if s.tripsAgain n then 5 else 4) ∧ (s.isolate n cause).obj (poundObj n) 3 = 0 ∧
      (s.isolate n cause).obj (poundObj n) 4 = 0 ∧ (s.isolate n cause).obj (poundObj n) 0xE = cause := by
  have hkept := (PoundsKept.refl (s.fuseOpen n cause)).fuseTold n cause (s.poundBasins n)
  rw [State.isolate_eq]
  rw [State.poundState, hkept.pound hn (by decide), hkept.pound hn (by decide), hkept.pound hn (by decide),
    hkept.pound hn (by decide)]
  exact State.fuseOpen_shows hc hn hcause

/-! ## Phases (R316) -/

theorem State.pound_updPound_same (hw : Map.wf s.power.pounds (fun _ => Pound.init) = true) (n : Nat) (f : Pound → Pound) :
    (s.updPound n f).pound n = f (s.pound n) := Map.get_put_same s.power.pounds (fun _ => Pound.init) Pound.init n _ hw

theorem State.pound_of_power {a : State} (h : a.power = s.power) (n : Nat) : a.pound n = s.pound n := by
  rw [State.pound, State.pound, h]

/-- The phase is out, its pound's rating follows, and the loss is told. -/
def State.phaseOut (s : State) (n ph : Nat) : State :=
  let left := 6 - ((s.pound n).out.length + 1)
  let s2 := ((s.updPound n (fun p => { p with out := p.out ++ [ph] })).setObj (poundObj n) 5 left).addLedger 9 none n ph true
  let r := ratingOf left
  let s3 := (s2.setObj (poundObj n) 6 (f32Of r 1)).agentIrq 0x165 (n + 256 * ph)
  if r < f32Scaled (s3.obj (0x2220 + n) 1) 1 ∧ 0 < r then s3.setObj (0x2220 + n) 1 (f32Of r 1) else s3

theorem State.phaseLost_eq (hw : Map.wf s.power.pounds (fun _ => Pound.init) = true) {n ph : Nat} (h : ph ∉ (s.pound n).out) :
    s.phaseLost n ph =
      if 6 - ((s.pound n).out.length + 1) ≤ 3 then (s.phaseOut n ph).poundTrip n 3 else s.phaseOut n ph := by
  have hout : ((s.updPound n (fun p => { p with out := p.out ++ [ph] })).pound n).out.length = (s.pound n).out.length + 1 := by
    rw [State.pound_updPound_same hw, List.length_append]
    rfl
  simp only [State.phaseLost, if_neg h, hout]
  rfl

theorem ratingOf_bits : ∀ k : Nat, k < 7 → f32Of (ratingOf k) 1 < 2 ^ 64 := by decide +kernel

theorem State.phaseOut_shows (hc : Canonical s) {n : Nat} (hn : n < 40) (ph : Nat) :
    let left := 6 - ((s.pound n).out.length + 1)
    Canonical (s.phaseOut n ph) ∧
      (s.phaseOut n ph).power = (s.updPound n (fun p => { p with out := p.out ++ [ph] })).power ∧
      (s.phaseOut n ph).obj (poundObj n) 5 = left ∧ (s.phaseOut n ph).obj (poundObj n) 6 = f32Of (ratingOf left) 1 ∧
      (⟨0x165, n + 256 * ph, 0, 0, 16, 2304, 0⟩ : AlarmMsg) ∈ (s.phaseOut n ph).irqQ ∧
      (s.phaseOut n ph).poundState n = s.poundState n := by
  have hout := unwatched_false
  intro left
  let s1 := s.updPound n (fun p => { p with out := p.out ++ [ph] })
  let s2 := (s1.setObj (poundObj n) 5 left).addLedger 9 none n ph true
  let s3 := (s2.setObj (poundObj n) 6 (f32Of (ratingOf left) 1)).agentIrq 0x165 (n + 256 * ph)
  have h1 : Good ⟨s.pending, s, { power := false }⟩ s1 := State.updPound_good (good_start hc _)
  have h2 : Good ⟨s1.pending, s1, { noParts with power := true }⟩ s2 :=
    State.addLedger_good (State.setObj_good (good_start h1.canon _))
  have h3 : Good ⟨s1.pending, s1, { noParts with power := true }⟩ s3 := State.agentIrq_good (State.setObj_good h2)
  have hread : ∀ k l, s3.obj k l = (s2.setObj (poundObj n) 6 (f32Of (ratingOf left) 1)).obj k l := fun k l =>
    State.obj_agentIrq_read _ _ _ k l
  have hstate : s3.obj (poundObj n) 1 = s.obj (poundObj n) 1 :=
    (hread _ _).trans <| (State.obj_setObj_else _ _ _ _ _ _ (by omega)).trans ((State.addLedger_obj _ _ _ _ _ _ (by unfold poundObj; omega)
      (by decide)).trans (State.obj_setObj_else _ _ _ _ _ _ (by omega)))
  have hleft : s3.obj (poundObj n) 5 = left :=
    (hread _ _).trans <| (State.obj_setObj_else _ _ _ _ _ _ (by omega)).trans ((State.addLedger_obj _ _ _ _ _ _ (by unfold poundObj; omega)
      (by decide)).trans ((State.obj_setObj_same _ h1.canon _ _ _).trans (Nat.mod_eq_of_lt (by omega))))
  have hrating : s3.obj (poundObj n) 6 = f32Of (ratingOf left) 1 :=
    (hread _ _).trans <| (State.obj_setObj_same _ h2.canon _ _ _).trans (Nat.mod_eq_of_lt (ratingOf_bits left (by omega)))
  have hirq : (⟨0x165, n + 256 * ph, 0, 0, 16, 2304, 0⟩ : AlarmMsg) ∈ s3.irqQ :=
    List.mem_append_right _ List.mem_cons_self
  have hlast : s.phaseOut n ph = if ratingOf left < f32Scaled (s3.obj (0x2220 + n) 1) 1 ∧ 0 < ratingOf left then
      s3.setObj (0x2220 + n) 1 (f32Of (ratingOf left) 1) else s3 := rfl
  have hkept : ∀ l, l < 256 → (s3.setObj (0x2220 + n) 1 (f32Of (ratingOf left) 1)).obj (poundObj n) l = s3.obj (poundObj n) l :=
    fun l hl => State.obj_setObj_else _ _ _ _ _ _ (by unfold poundObj; omega)
  have h4 : Good ⟨s3.pending, s3, { objs := false }⟩ (s3.setObj (0x2220 + n) 1 (f32Of (ratingOf left) 1)) :=
    State.setObj_good (good_start h3.canon _)
  have hpower : s3.power = s1.power := h3.same.power rfl
  by_cases hlow : ratingOf left < f32Scaled (s3.obj (0x2220 + n) 1) 1 ∧ 0 < ratingOf left
  · rw [if_pos hlow] at hlast
    rw [hlast]
    exact ⟨h4.canon, (h4.same.power rfl).trans hpower, (hkept 5 (by decide)).trans hleft, (hkept 6 (by decide)).trans hrating,
      h4.same.irqQ rfl ▸ hirq, (hkept 1 (by decide)).trans hstate⟩
  · rw [if_neg hlow] at hlast
    rw [hlast]
    exact ⟨h3.canon, hpower, hleft, hrating, hirq, hstate⟩

/-! ## The places of physical tiles -/

/-- `a` is canonical, and maps each physical tile to the logical one that `s` maps it to. -/
structure Placed (s a : State) : Prop where
  canon : Canonical a
  logical : ∀ p, a.logicalOf p = s.logicalOf p

theorem State.logicalOf_congr {a : State} (hobj : ∀ f j, a.obj (mapObj f) j = s.obj (mapObj f) j)
    (hlow : a.boot.rowsLow = s.boot.rowsLow) (hhigh : a.boot.rowsHigh = s.boot.rowsHigh) (p : Nat) :
    a.logicalOf p = s.logicalOf p := by
  have hrows : ∀ f, a.fieldRows f = s.fieldRows f := fun f => by rw [State.fieldRows, State.fieldRows, hobj, hobj]
  simp only [State.logicalOf, hrows, hobj, hlow, hhigh]

theorem Placed.refl (hc : Canonical s) : Placed s s := ⟨hc, fun _ => rfl⟩

theorem Placed.trans {a b : State} (h : Placed s a) (h' : Placed a b) : Placed s b :=
  ⟨h'.canon, fun p => (h'.logical p).trans (h.logical p)⟩

theorem Placed.holder {a : State} (h : Placed s a) (p : Nat) : a.holder p = s.holder p := by
  rw [State.holder, State.holder, h.logical]

theorem Placed.setRegN {a : State} (h : Placed s a) (t off n : Nat) : Placed s (a.setRegN t off n) := by
  have hout := unwatched_false
  exact h.trans ⟨(State.setRegN_good (good_start h.canon noParts)).canon, State.logicalOf_congr (fun _ _ => rfl) rfl rfl⟩

theorem Placed.setObj {a : State} (h : Placed s a) {i j : Nat} (hi : i < 0x2E10) (hj : j < 256) (n : Nat) :
    Placed s (a.setObj i j n) :=
  h.trans ⟨State.setObj_canonical h.canon _ _ _, State.logicalOf_congr
    (fun f k => State.obj_setObj_else _ _ _ _ _ _ (by unfold mapObj; omega)) rfl rfl⟩

theorem State.addLedger_rows (s : State) (kind : Nat) (tile : Option Nat) (item sub : Nat) (service : Bool) :
    (s.addLedger kind tile item sub service).boot.rowsLow = s.boot.rowsLow ∧
      (s.addLedger kind tile item sub service).boot.rowsHigh = s.boot.rowsHigh := by
  unfold State.addLedger
  split
  · exact ⟨rfl, rfl⟩
  · split
    · split <;> exact ⟨rfl, rfl⟩
    · exact ⟨rfl, rfl⟩

theorem State.addLedger_mapObj (s : State) (kind : Nat) (tile : Option Nat) (item sub : Nat) (service : Bool) (f j : Nat) :
    (s.addLedger kind tile item sub service).obj (mapObj f) j = s.obj (mapObj f) j := by
  unfold State.addLedger
  split
  · rfl
  · split
    · split <;> rfl
    · rw [State.obj_agentIrq_read, State.bumpObj, State.obj_setObj_else _ _ _ _ _ _ (by unfold mapObj; omega),
        State.obj_setObj_else _ _ _ _ _ _ (by unfold mapObj; omega)]
      rfl

theorem Placed.addLedger {a : State} (h : Placed s a) (kind : Nat) (tile : Option Nat) (item sub : Nat) (service : Bool) :
    Placed s (a.addLedger kind tile item sub service) := by
  have hout := unwatched_false
  obtain ⟨hlow, hhigh⟩ := a.addLedger_rows kind tile item sub service
  exact h.trans ⟨(State.addLedger_good (good_start h.canon noParts)).canon,
    State.logicalOf_congr (a.addLedger_mapObj _ _ _ _ _) hlow hhigh⟩

theorem Placed.agentIrq {a : State} (h : Placed s a) (cause detail : Nat) : Placed s (a.agentIrq cause detail) := by
  have hout := unwatched_false
  exact h.trans ⟨(State.agentIrq_good (good_start h.canon noParts)).canon, State.logicalOf_congr (fun _ _ => rfl) rfl rfl⟩

/-! ## Regulators (R318, R319) -/

/-- The failure is recorded, entered in the ledger and told. -/
def State.regFailed (s : State) (p cause : Nat) : State :=
  ((s.setRegN (s.holder p) 0x7010 cause).addLedger 7 (some p) cause 0 true).agentIrq 0x160 (pName p)

theorem State.regFailed_placed (hc : Canonical s) (p cause : Nat) : Placed s (s.regFailed p cause) :=
  (((Placed.refl hc).setRegN _ _ _).addLedger _ _ _ _ _).agentIrq _ _

theorem State.addLedger_tregs (hc : Canonical s) (kind : Nat) (tile : Option Nat) (item sub : Nat) (service : Bool) :
    Good ⟨s.pending, s, { objs := false, alarmQ := false, irqQ := false, boot := false }⟩
      (s.addLedger kind tile item sub service) := by
  have hout := unwatched_false
  exact State.addLedger_good (good_start hc _)

theorem State.regN_of_tregs {a : State} (h : a.tregs = s.tregs) (t off : Nat) : a.regN t off = s.regN t off := by
  rw [State.regN, State.regN, State.reg, State.reg, h]

theorem State.regFailed_regN (hc : Canonical s) (p cause t off : Nat) :
    (s.regFailed p cause).regN t off = (s.setRegN (s.holder p) 0x7010 cause).regN t off :=
  State.regN_of_tregs ((State.addLedger_tregs ((Placed.refl hc).setRegN _ _ _).canon 7 (some p) cause 0 true).same.tregs rfl) t off

theorem State.regFailed_obj (s : State) (p cause : Nat) {k l : Nat} (h : k ≠ 0x2E02) (hl : l < 256) :
    (s.regFailed p cause).obj k l = s.obj k l :=
  (State.obj_agentIrq_read _ _ _ _ _).trans ((State.addLedger_obj _ _ _ _ _ _ h hl).trans (State.obj_setRegN_read _ _ _ _ _ _))

theorem State.regFailed_shows (hc : Canonical s) (p : Nat) {cause : Nat} (hcause : cause < 16) :
    (s.regFailed p cause).regN (s.holder p) 0x7010 = cause ∧ (s.regFailed p cause).tiles = s.tiles ∧
      (⟨0x160, pName p, 0, 0, 16, 2304, 0⟩ : AlarmMsg) ∈ (s.regFailed p cause).irqQ := by
  refine ⟨?_, ?_, List.mem_append_right _ List.mem_cons_self⟩
  · rw [State.regFailed_regN hc, State.regN_setRegN_same hc]
    exact Nat.mod_eq_of_lt (by omega)
  · have hset := ((Placed.refl hc).setRegN (s.holder p) 0x7010 cause).canon
    have htiles : ((s.setRegN (s.holder p) 0x7010 cause).addLedger 7 (some p) cause 0 true).tiles =
      (s.setRegN (s.holder p) 0x7010 cause).tiles := (State.addLedger_tregs hset 7 (some p) cause 0 true).same.tiles rfl
    rw [State.regFailed, State.agentIrq_tiles, htiles, State.setRegN, State.setReg_tiles]

/-- The row neighbours whose regulators can carry a failed one's tile. -/
def State.carriers (s : State) (p : Nat) : List (Nat × Nat) :=
  (rowPartners p).filter (fun q => decide (s.regRoleOf q.1 = 0) && decide (s.regN (s.holder q.1) 0x7010 = 0) &&
    decide (s.poundState (pPound q.1) = 3))

theorem State.regFail_eq {p cause : Nat} (hrole : s.regRoleOf p < 2) (hgood : s.regN (s.holder p) 0x7010 = 0) :
    s.regFail p cause =
      let a := s.regFailed p cause
      if s.poundState (pPound p) ≠ 3 then a
      else if s.regRoleOf p = 1 then
        (a.regGroup 4 [p]).foldl (fun a q => a.regDark q)
          ((a.setObj 0x2103 1 (a.obj 0x2103 1 - 1)).setObj (poundObj (pPound p)) 0xF (a.obj (poundObj (pPound p)) 0xF - 1))
      else if (a.logicalOf p).isNone then a.regRole p 3 none
      else if (a.carriers p).isEmpty then (a.agentAlarm 0x161 (pName p) 16).regDark p
      else a.bridge p (a.carriers p) := if_neg (by omega)

theorem rowPartners_pound {p : Nat} {q : Nat × Nat} (hp : p < 2600) (hq : q ∈ rowPartners p) : pPound q.1 < 40 ∧ 2 ≤ q.2 := by
  unfold rowPartners at hq
  rcases List.mem_append.mp hq with h | h <;> split at h <;> simp only [List.mem_singleton, List.not_mem_nil] at h
  · subst h
    unfold pPound pField pc pr at *
    omega
  · subst h
    unfold pPound pField pc pr at *
    omega

/-- A failure leaves what its neighbours can carry, where their tiles are held elsewhere. -/
theorem State.carriers_regFailed (hc : Canonical s) {p : Nat} (hp : p < 2600) (cause : Nat)
    (hother : ∀ q ∈ rowPartners p, s.holder q.1 ≠ s.holder p) : (s.regFailed p cause).carriers p = s.carriers p := by
  have hplaced := State.regFailed_placed hc p cause
  refine List.filter_congr fun q hq => ?_
  have hpound : pPound q.1 < 40 := (rowPartners_pound hp hq).1
  rw [State.regRoleOf, State.regRoleOf, hplaced.holder, State.regFailed_regN hc, State.regFailed_regN hc,
    State.regN_setRegN_other _ _ (by decide) (by decide) (Or.inr (by decide)),
    State.regN_setRegN_other _ _ (by decide) (by decide) (Or.inl (hother q hq)), State.poundState, State.poundState,
    State.regFailed_obj _ _ _ (by unfold poundObj; omega) (by decide)]

/-! ## Bridged groups -/

theorem Placed.setRegBit {a : State} (h : Placed s a) (t off i : Nat) (v : Bool) : Placed s (a.setRegBit t off i v) :=
  h.setRegN _ _ _

theorem Placed.regRole {a : State} (h : Placed s a) (p role : Nat) (bridge : Option Nat) : Placed s (a.regRole p role bridge) := by
  unfold State.regRole
  cases bridge
  · exact h.setRegN _ _ _
  · exact (h.setRegN _ _ _).setRegBit _ _ _ _

theorem State.regRole_obj (s : State) (p role : Nat) (bridge : Option Nat) (k l : Nat) :
    (s.regRole p role bridge).obj k l = s.obj k l := by
  cases bridge <;> simp only [State.regRole, State.setRegBit, State.obj_setRegN_read]

/-- Setting a bit from bit 2 on leaves the two role bits. -/
theorem setBit_role {v i : Nat} (hi : 2 ≤ i) :
    (v - b2n (bitOf v i) * 2 ^ i + b2n true * 2 ^ i) % 2 ^ 64 % 4 = v % 4 := by
  obtain ⟨k, rfl⟩ : ∃ k, i = k + 2 := ⟨i - 2, by omega⟩
  have hbit : b2n (bitOf v (k + 2)) * 2 ^ (k + 2) ≤ v := by
    unfold b2n bitOf
    split
    next h =>
      rw [beq_iff_eq] at h
      have hone : 1 ≤ v / 2 ^ (k + 2) := Nat.pos_of_ne_zero fun h0 => absurd (h0 ▸ h) (by decide)
      exact Nat.le_trans (Nat.mul_le_mul_right _ hone) (Nat.div_mul_le_self _ _)
    next => simp
  have hpow : 2 ^ (k + 2) = 4 * 2 ^ k := by rw [Nat.pow_add, Nat.mul_comm]
  rw [hpow] at hbit ⊢
  rw [show b2n true = 1 from rfl]
  generalize 2 ^ k = x at *
  have hcases : b2n (bitOf v (k + 2)) = 0 ∨ b2n (bitOf v (k + 2)) = 1 := by
    unfold b2n
    split <;> simp
  rcases hcases with h | h <;> rw [h] at hbit ⊢ <;> omega

/-- A regulator that has been given a role and a bridge has the role. -/
theorem State.regRole_given (hc : Canonical s) (p : Nat) {role i : Nat} (hrole : role < 4) (hi : 2 ≤ i) :
    (s.regRole p role (some i)).regN (s.holder p) 0x7000 % 4 = role := by
  have h1 := ((Placed.refl hc).setRegN (s.holder p) 0x7000 (s.regN (s.holder p) 0x7000 / 4 * 4 + role)).canon
  have hv : s.regN (s.holder p) 0x7000 < 2 ^ 64 := BitVec.isLt _
  simp only [State.regRole, State.setRegBit]
  rw [State.regN_setRegN_same h1, setBit_role hi, State.regN_setRegN_same hc]
  omega

/-- The failed regulator and its carriers take their roles, and the bridges between them close. -/
def State.bridged (s : State) (p : Nat) (partners : List (Nat × Nat)) : State :=
  partners.foldl (fun a q => (a.regRole q.1 1 (some (5 - q.2))).regRole p 2 (some q.2)) s

theorem State.bridged_cons (s : State) (p : Nat) (q : Nat × Nat) (rest : List (Nat × Nat)) :
    s.bridged p (q :: rest) = ((s.regRole q.1 1 (some (5 - q.2))).regRole p 2 (some q.2)).bridged p rest := List.foldl_cons ..

theorem State.bridged_role (p : Nat) (partners : List (Nat × Nat)) (hside : ∀ q ∈ partners, 2 ≤ q.2) :
    ∀ a, Placed s a → Placed s (a.bridged p partners) ∧
      (partners ≠ [] ∨ a.regN (s.holder p) 0x7000 % 4 = 2 → (a.bridged p partners).regN (s.holder p) 0x7000 % 4 = 2) := by
  induction partners with
  | nil => exact fun a h => ⟨h, fun hrole => hrole.resolve_left (fun hne => hne rfl)⟩
  | cons q rest ih =>
    intro a h
    have hq : Placed s (a.regRole q.1 1 (some (5 - q.2))) := h.regRole _ _ _
    have hrole := State.regRole_given hq.canon p (by decide : 2 < 4) (hside q List.mem_cons_self)
    rw [hq.holder] at hrole
    obtain ⟨hplaced, hlast⟩ := ih (fun x hx => hside x (List.mem_cons_of_mem _ hx)) _ (hq.regRole p 2 (some q.2))
    rw [State.bridged_cons]
    exact ⟨hplaced, fun _ => hlast (Or.inr hrole)⟩

/-- The regulators of a group are set to one voltage and one floor. -/
def State.grouped (s : State) (group : List Nat) (top floor : Nat) : State :=
  group.foldl (fun a q => (a.setRegN (a.holder q) 0x7004 top).setRegN (a.holder q) 0x7014 floor) s

theorem State.grouped_shows (hc : Canonical s) (group : List Nat) (top : Nat) {floor : Nat} (hfloor : floor < 16) :
    Placed s (s.grouped group top floor) ∧ (∀ t, (s.grouped group top floor).regN t 0x7000 = s.regN t 0x7000) ∧
      ∀ q ∈ group, (s.grouped group top floor).regN (s.holder q) 0x7014 = floor := by
  have hown : ∀ (a : State) (q : Nat), Placed s a →
      ((a.setRegN (a.holder q) 0x7004 top).setRegN (a.holder q) 0x7014 floor).regN (s.holder q) 0x7014 = floor := fun a q ha => by
    rw [ha.holder, State.regN_setRegN_same (ha.setRegN _ _ _).canon]
    exact Nat.mod_eq_of_lt (by omega)
  obtain ⟨hplaced, -, hall⟩ := State.foldl_reaches (I := Placed s)
    (P := fun q a => a.regN (s.holder q) 0x7014 = floor) (f := fun a q => (a.setRegN (a.holder q) 0x7004 top).setRegN (a.holder q) 0x7014 floor)
    (fun a q ha => (ha.setRegN _ _ _).setRegN _ _ _) hown (fun a q r ha hr => by
      by_cases h : s.holder r = s.holder q
      · rw [h]
        exact hown a q ha
      · rw [State.regN_setRegN_other _ _ (by decide) (by decide) (Or.inl (by rw [ha.holder]; exact h)),
          State.regN_setRegN_other _ _ (by decide) (by decide) (Or.inr (by decide))]
        exact hr) group s (Placed.refl hc)
  refine ⟨hplaced, fun t => State.foldl_keeps (fun a => a.regN t 0x7000) (fun a q => ?_) _ s, hall⟩
  rw [State.regN_setRegN_other _ _ (by decide) (by decide) (Or.inr (by decide)),
    State.regN_setRegN_other _ _ (by decide) (by decide) (Or.inr (by decide))]

theorem State.bridge_eq (s : State) (p : Nat) (partners : List (Nat × Nat)) :
    s.bridge p partners =
      ((((s.bridged p partners).grouped (p :: partners.map (·.1))
        ((p :: partners.map (·.1)).foldl (fun a q => max a (s.regN (s.holder q) 0x7004)) 0)
        (if partners.length = 2 then 4 else 7)).bumpObj 0x2103 1 1 2600).bumpObj (poundObj (pPound p)) 0xF 1 65).setRails
        (pPound p) := rfl

theorem Placed.setRails {a : State} (h : Placed s a) {n : Nat} (hn : n < 40) : Placed s (a.setRails n) :=
  (h.setObj (by unfold poundObj; omega) (by decide) _).setObj (by unfold poundObj; omega) (by decide) _

theorem State.regN_setRails (s : State) (n t off : Nat) : (s.setRails n).regN t off = s.regN t off := by
  rw [State.setRails, State.regN_setObj_read, State.regN_setObj_read]

theorem State.setRails_obj (s : State) {n k l : Nat} (h : k ≠ poundObj n) (hl : l < 256) : (s.setRails n).obj k l = s.obj k l := by
  have hput : ∀ (a : State) (j m : Nat), j < 256 → (a.setObj (poundObj n) j m).obj k l = a.obj k l :=
    fun a j m hj => a.obj_setObj_else _ _ _ _ _ (by unfold poundObj at *; omega)
  rw [State.setRails, hput _ _ _ (by decide), hput _ _ _ (by decide)]

/-- The failed tile is bridged to its carriers, under a floor of skim. -/
theorem State.bridge_shows (hc : Canonical s) {p : Nat} (hp : p < 2600) {partners : List (Nat × Nat)} (hne : partners ≠ [])
    (hside : ∀ q ∈ partners, 2 ≤ q.2) :
    (s.bridge p partners).regRoleOf p = 2 ∧
      (s.bridge p partners).regN (s.holder p) 0x7014 = (if partners.length = 2 then 4 else 7) ∧
      (s.bridge p partners).obj 0x2103 1 = min (s.obj 0x2103 1 + 1) 2600 := by
  have hn : pPound p < 40 := by unfold pPound pField pc pr; omega
  obtain ⟨hroles, hrole⟩ := State.bridged_role p partners hside s (Placed.refl hc)
  rw [State.bridge_eq]
  generalize (p :: partners.map (·.1)).foldl (fun a q => max a (s.regN (s.holder q) 0x7004)) 0 = top
  obtain ⟨hgroup, hkept, hfloor⟩ := State.grouped_shows hroles.canon (p :: partners.map (·.1)) top
    (floor := if partners.length = 2 then 4 else 7) (by split <;> decide)
  have hobj : ((s.bridged p partners).grouped (p :: partners.map (·.1)) top (if partners.length = 2 then 4 else 7)).obj 0x2103 1 =
      s.obj 0x2103 1 := by
    refine (State.foldl_keeps (fun a => a.obj 0x2103 1) (fun a q => ?_) _ _).trans
      (State.foldl_keeps (fun a => a.obj 0x2103 1) (fun a q => ?_) _ _)
    · rw [State.obj_setRegN_read, State.obj_setRegN_read]
    · rw [State.regRole_obj, State.regRole_obj]
  have hplaced := hroles.trans hgroup
  generalize (s.bridged p partners).grouped (p :: partners.map (·.1)) top (if partners.length = 2 then 4 else 7) = b at *
  have hcounted : Placed s (b.bumpObj 0x2103 1 1 2600) := hplaced.setObj (by decide) (by decide) _
  have hlast : Placed s (((b.bumpObj 0x2103 1 1 2600).bumpObj (poundObj (pPound p)) 0xF 1 65).setRails (pPound p)) :=
    (hcounted.setObj (by unfold poundObj; omega) (by decide) _).setRails hn
  have hregs : ∀ t off, (((b.bumpObj 0x2103 1 1 2600).bumpObj (poundObj (pPound p)) 0xF 1 65).setRails (pPound p)).regN t off =
      b.regN t off := fun t off => by
    rw [State.regN_setRails, State.bumpObj, State.regN_setObj_read, State.bumpObj, State.regN_setObj_read]
  refine ⟨?_, ?_, ?_⟩
  · rw [State.regRoleOf, hlast.holder, hregs, hkept, hrole (Or.inl hne)]
  · rw [hregs, ← hroles.holder]
    exact hfloor p List.mem_cons_self
  · rw [State.setRails_obj _ (by unfold poundObj; omega) (by decide), State.bumpObj,
      State.obj_setObj_else _ _ _ _ _ _ (by unfold poundObj; omega), State.bumpObj, State.obj_setObj_same _ hplaced.canon, hobj]
    exact Nat.mod_eq_of_lt (by omega)

/-! ## The weir (R320, R321) -/

theorem State.win_bumpWin_same (hc : Canonical s) (k n : Nat) : Map.get (s.bumpWin k n).win 0 k = Map.get s.win 0 k + n :=
  Map.get_put_same _ (fun _ => 0) _ _ _ hc.win

theorem State.win_bumpWin_other (s : State) {k j : Nat} (n : Nat) (h : j ≠ k) :
    Map.get (s.bumpWin k n).win 0 j = Map.get s.win 0 j := Map.get_put_other _ _ _ _ _ _ h

theorem State.win_maxWin_same (hc : Canonical s) (k n : Nat) : Map.get (s.maxWin k n).win 0 k = max (Map.get s.win 0 k) n :=
  Map.get_put_same _ (fun _ => 0) _ _ _ hc.win

theorem State.win_maxWin_other (s : State) {k j : Nat} (n : Nat) (h : j ≠ k) :
    Map.get (s.maxWin k n).win 0 j = Map.get s.win 0 j := Map.get_put_other _ _ _ _ _ _ h

theorem State.bumpObj_same (hc : Canonical s) (i j n : Nat) {top : Nat} (h : top < 2 ^ 64) :
    (s.bumpObj i j n top).obj i j = min (s.obj i j + n) top :=
  (State.obj_setObj_same _ hc _ _ _).trans (Nat.mod_eq_of_lt (by omega))

theorem State.bumpObj_else (s : State) (i j n top k l : Nat) (h : 256 * k + l ≠ 256 * i + j) :
    (s.bumpObj i j n top).obj k l = s.obj k l := s.obj_setObj_else _ _ _ _ _ h

/-- A pound whose weir boosts. -/
def Pound.boosted (p : Pound) (c : Nat) : Pound :=
  { p with boost := true, shunt := false, charge := min c 99, depleted := p.depleted || decide (c < 50) }

/-- The droop is counted. -/
def State.droopSeen (s : State) (n c depth : Nat) : State :=
  let a := (((s.updPound n (fun p => p.boosted c)).bumpObj (poundObj n) 0xA 1).bumpWin (objKey 0x2104 1) 1).maxWin
    (objKey (poundObj n) 0xC) depth
  if c < 50 then a.bumpObj 0x2104 3 1 else a

theorem State.droopSeen_shows (hc : Canonical s) {n : Nat} (hn : n < 40) (c depth : Nat) :
    let a := s.droopSeen n c depth
    a.power = { s.power with pounds := Map.put s.power.pounds Pound.init n ((s.pound n).boosted c) } ∧
      a.obj (poundObj n) 0xA = min (s.obj (poundObj n) 0xA + 1) 0xFFFFFFFF ∧
      Map.get a.win 0 (objKey 0x2104 1) = Map.get s.win 0 (objKey 0x2104 1) + 1 ∧
      Map.get a.win 0 (objKey (poundObj n) 0xC) = max (Map.get s.win 0 (objKey (poundObj n) 0xC)) depth ∧
      a.obj 0x2104 3 = (if c < 50 then min (s.obj 0x2104 3 + 1) 0xFFFFFFFF else s.obj 0x2104 3) ∧ a.irqQ = s.irqQ := by
  have hout := unwatched_false
  intro a
  let a1 := s.updPound n (fun p => p.boosted c)
  let a2 := a1.bumpObj (poundObj n) 0xA 1
  let a3 := a2.bumpWin (objKey 0x2104 1) 1
  let a4 := a3.maxWin (objKey (poundObj n) 0xC) depth
  have h1 : Good ⟨s.pending, s, { power := false }⟩ a1 := State.updPound_good (good_start hc _)
  have h3 : Good ⟨a1.pending, a1, { win := false, objs := false }⟩ a3 :=
    State.bumpWin_good (State.bumpObj_good (good_start h1.canon _))
  have h4 : Good ⟨a1.pending, a1, { win := false, objs := false }⟩ a4 := State.maxWin_good h3
  have hkey : objKey (poundObj n) 0xC ≠ objKey 0x2104 1 := by unfold objKey poundObj; omega
  have hcount : a4.obj (poundObj n) 0xA = min (s.obj (poundObj n) 0xA + 1) 0xFFFFFFFF :=
    State.bumpObj_same h1.canon _ _ _ (by decide)
  have hdeep : a4.obj 0x2104 3 = s.obj 0x2104 3 := a1.bumpObj_else _ _ _ _ _ _ (by unfold poundObj; omega)
  have hwin : Map.get a4.win 0 (objKey 0x2104 1) = Map.get s.win 0 (objKey 0x2104 1) + 1 := by
    rw [State.win_maxWin_other _ _ hkey.symm,
      State.win_bumpWin_same (State.bumpObj_good (z := ⟨a1.pending, a1, noParts⟩) (good_start h1.canon _)).canon]
    rfl
  have hdepth : Map.get a4.win 0 (objKey (poundObj n) 0xC) = max (Map.get s.win 0 (objKey (poundObj n) 0xC)) depth := by
    rw [State.win_maxWin_same h3.canon, State.win_bumpWin_other _ _ hkey]
    rfl
  have hlast : a = if c < 50 then a4.bumpObj 0x2104 3 1 else a4 := rfl
  have hpower : a4.power = a1.power := h4.same.power rfl
  have hirq : a4.irqQ = s.irqQ := (h4.same.irqQ rfl).trans (h1.same.irqQ rfl)
  rw [hlast]
  by_cases hlow : c < 50
  · have h5 : Good ⟨a4.pending, a4, { objs := false }⟩ (a4.bumpObj 0x2104 3 1) := State.bumpObj_good (good_start h4.canon _)
    rw [if_pos hlow, if_pos hlow]
    refine ⟨(h5.same.power rfl).trans hpower, (a4.bumpObj_else _ _ _ _ _ _ (by unfold poundObj; omega)).trans hcount,
      (congrArg (Map.get · 0 _) (h5.same.win rfl)).trans hwin, (congrArg (Map.get · 0 _) (h5.same.win rfl)).trans hdepth, ?_,
      (h5.same.irqQ rfl).trans hirq⟩
    rw [State.bumpObj_same h4.canon _ _ _ (by decide), hdeep]
  · rw [if_neg hlow, if_neg hlow]
    exact ⟨hpower, hcount, hwin, hdepth, hdeep, hirq⟩

theorem State.weirDroop_shows (hc : Canonical s) (pd : PoundId) (depth : Nat) (charge : Fin 101) :
    let pn := s.pound pd
    let c := if pn.charge = 100 then 100 else charge.val
    ∃ s', exec (.weirDroop pd depth charge) s = .next s' ∧
      s'.power = { s.power with pounds := Map.put s.power.pounds Pound.init pd.val (pn.boosted c) } ∧
      s'.obj (poundObj pd) 0xA = min (s.obj (poundObj pd) 0xA + 1) 0xFFFFFFFF ∧
      Map.get s'.win 0 (objKey 0x2104 1) = Map.get s.win 0 (objKey 0x2104 1) + 1 ∧
      Map.get s'.win 0 (objKey (poundObj pd) 0xC) = max (Map.get s.win 0 (objKey (poundObj pd) 0xC)) depth ∧
      s'.obj 0x2104 3 = (if c < 50 then min (s.obj 0x2104 3 + 1) 0xFFFFFFFF else s.obj 0x2104 3) ∧
      s'.irqQ = if c < 50 ∧ pn.depleted = false then s.irqQ ++ [⟨0x167, pd.val, 0, 0, 16, 2304, 0⟩] else s.irqQ := by
  intro pn c
  have hexec : exec (.weirDroop pd depth charge) s = .next
      (if c < 50 ∧ pn.depleted = false then (s.droopSeen pd c depth).agentIrq 0x167 pd else s.droopSeen pd c depth) := rfl
  obtain ⟨hpower, hcount, hwin, hdepth, hlow, hirq⟩ := State.droopSeen_shows hc pd.isLt c depth
  refine ⟨_, hexec, ?_⟩
  by_cases htold : c < 50 ∧ pn.depleted = false
  · rw [if_pos htold, if_pos htold]
    exact ⟨hpower, hcount, hwin, hdepth, hlow, congrArg (· ++ [_]) hirq⟩
  · rw [if_neg htold, if_neg htold]
    exact ⟨hpower, hcount, hwin, hdepth, hlow, hirq⟩

theorem State.weirOvershoot_shows (hc : Canonical s) (pd : PoundId) :
    ∃ s', exec (.weirOvershoot pd) s = .next s' ∧
      s'.power = { s.power with pounds := Map.put s.power.pounds Pound.init pd.val { s.pound pd with shunt := true } } ∧
      s'.obj (poundObj pd) 0xB = min (s.obj (poundObj pd) 0xB + 1) 0xFFFFFFFF ∧
      Map.get s'.win 0 (objKey 0x2104 2) = Map.get s.win 0 (objKey 0x2104 2) + 1 := by
  have hout := unwatched_false
  let a1 := s.updPound pd (fun p => { p with shunt := true })
  have h1 : Canonical a1 := (State.updPound_good (good_start hc noParts)).canon
  have h2 : Good ⟨a1.pending, a1, { objs := false }⟩ (a1.bumpObj (poundObj pd) 0xB 1) := State.bumpObj_good (good_start h1 _)
  have h3 : Good ⟨a1.pending, a1, { objs := false, win := false }⟩ ((a1.bumpObj (poundObj pd) 0xB 1).bumpWin (objKey 0x2104 2) 1) :=
    State.bumpWin_good (State.bumpObj_good (good_start h1 _))
  have hwin : (a1.bumpObj (poundObj pd) 0xB 1).win = a1.win := h2.same.win rfl
  refine ⟨_, rfl, h3.same.power rfl, State.bumpObj_same h1 _ _ _ (by decide), ?_⟩
  rw [State.win_bumpWin_same h2.canon, hwin]
  rfl

/-! ## The obligation -/

/-- Settles O43: phases and regulators by what they show, the weir by what it counts. -/
theorem phasesRegulatorsWeir : Obligations.PhasesRegulatorsWeir := by
  unfold Obligations.PhasesRegulatorsWeir
  intro s pd ph p cause depth charge hc hw pn becomes c
  refine ⟨fun h => ?_, fun h hlen => ?_, fun h hlen hrevived hstate => ?_, fun h => ?_,
    fun hrole hgood => ⟨fun hstate => ?_, fun hstate hzero hlogical hother => ?_⟩,
    State.weirDroop_shows hc pd depth charge, State.weirOvershoot_shows hc pd, ⟨_, rfl, rfl, rfl⟩, ⟨_, rfl, rfl, rfl⟩⟩
  · exact congrArg Host.Outcome.next (if_pos h)
  · change (s.pound pd).out.length ≤ 1 at hlen
    obtain ⟨-, hpower, hphases, hrating, hirq, -⟩ := State.phaseOut_shows hc pd.isLt ph.val
    have hexec : exec (.phaseLost pd ph) s = .next (s.phaseOut pd ph) :=
      congrArg Host.Outcome.next ((State.phaseLost_eq hw h).trans (if_neg (by omega)))
    exact ⟨_, hexec, hpower, hphases, hrating, hirq⟩
  · change (s.pound pd).out.length = 2 at hlen
    change (s.pound pd).revived = none at hrevived
    obtain ⟨hcanon, hpower, -, -, -, hkept⟩ := State.phaseOut_shows hc pd.isLt ph.val
    have htrip : (s.phaseOut pd ph).poundTrip pd 3 = (s.phaseOut pd ph).isolate pd 3 := if_pos (by rw [hkept]; exact hstate)
    have hexec : exec (.phaseLost pd ph) s = .next ((s.phaseOut pd ph).isolate pd 3) :=
      congrArg Host.Outcome.next ((State.phaseLost_eq hw h).trans ((if_pos (by omega)).trans htrip))
    have hagain : (s.phaseOut pd ph).tripsAgain pd = false := by
      rw [State.tripsAgain, State.pound_of_power hpower, State.pound_updPound_same hw]
      simp [hrevived]
    obtain ⟨hoff, -, -, hcause⟩ := State.isolate_shows hcanon pd.isLt (by decide : 3 < 16)
    rw [hagain] at hoff
    exact ⟨_, hexec, hoff, hcause⟩
  · exact congrArg Host.Outcome.next (if_pos h)
  · have hexec : exec (.regFail p cause) s = .next (s.regFailed p (cause + 1)) :=
      congrArg Host.Outcome.next ((State.regFail_eq hrole hgood).trans (if_pos hstate))
    exact ⟨_, hexec, State.regFailed_shows hc p (by omega)⟩
  · intro good hne
    have hcarriers : (s.regFailed p (cause + 1)).carriers p = good := State.carriers_regFailed hc p.isLt _ hother
    have hplaced := State.regFailed_placed hc p (cause + 1)
    have hexec : exec (.regFail p cause) s = .next ((s.regFailed p (cause + 1)).bridge p good) := by
      refine congrArg Host.Outcome.next ((State.regFail_eq hrole hgood).trans ?_)
      simp only [hstate, hzero, hplaced.logical, hcarriers]
      rw [if_neg (by simp), if_neg (by simp), if_neg (by simpa using hlogical), if_neg (by simpa using hne)]
    obtain ⟨hbridged, hfloor, hcount⟩ := State.bridge_shows hplaced.canon p.isLt hne
      (fun q hq => (rowPartners_pound p.isLt (List.mem_filter.mp hq).1).2)
    rw [hplaced.holder] at hfloor
    rw [State.regFailed_obj _ _ _ (by decide) (by decide)] at hcount
    exact ⟨_, hexec, hbridged, hfloor, hcount⟩

end Sys2Proof.Machine

/-! # PROOFS. Pound trips, ramps and grants (R322 to R329) -/

namespace Sys2Proof.Machine

open Sys2Proof

variable {s : State}

/-! ## Rules for a pound -/

theorem State.pounds_updPound (hw : Map.wf s.power.pounds (fun _ => Pound.init) = true) (n : Nat) (f : Pound → Pound) :
    Map.wf (s.updPound n f).power.pounds (fun _ => Pound.init) = true := Map.wf_put _ _ _ _ _ rfl hw

theorem State.pound_updPound_other (s : State) {n m : Nat} (f : Pound → Pound) (h : m ≠ n) :
    (s.updPound n f).pound m = s.pound m := Map.get_put_other _ _ _ _ _ _ h

theorem State.setPound_power (s : State) (n st : Nat) : (s.setPound n st).power = s.power := rfl

theorem State.poundState_lt (s : State) (n : Nat) : s.poundState n < 2 ^ 64 := BitVec.isLt _

/-- A state of pound `n` that another pound's change of state leaves. -/
theorem State.setPound_state_other (s : State) {n m : Nat} (st : Nat) (hm : m < 40) (h : m ≠ n) :
    (s.setPound n st).poundState m = s.poundState m :=
  State.setPound_obj _ _ _ (by unfold poundObj; omega) (by unfold poundObj; omega) (by decide)

theorem State.setPound_canonical (hc : Canonical s) (n st : Nat) : Canonical (s.setPound n st) := by
  have hout := unwatched_false
  exact (State.setPound_good (good_start hc noParts)).canon

theorem State.updPound_canonical (hc : Canonical s) (n : Nat) (f : Pound → Pound) : Canonical (s.updPound n f) := by
  have hout := unwatched_false
  exact (State.updPound_good (good_start hc noParts)).canon

/-! ## Power-up and power-down (R326, R328) -/

/-- A power-up asks for a grant. -/
def State.askGrant (a : State) (n : Nat) : State :=
  ((a.setPound n 1).setObj (poundObj n) 8 0).updPound n (fun p => { p with asked := some 0, deferred := false })

theorem State.askGrant_shows (hc : Canonical s) (hw : Map.wf s.power.pounds (fun _ => Pound.init) = true) {n : Nat} (hn : n < 40) :
    (s.askGrant n).poundState n = 1 ∧
      (s.askGrant n).pound n = { s.pound n with asked := some 0, deferred := false } ∧
      Map.wf (s.askGrant n).power.pounds (fun _ => Pound.init) = true := by
  have hpower : ((s.setPound n 1).setObj (poundObj n) 8 0).power = s.power := rfl
  have hw' : Map.wf ((s.setPound n 1).setObj (poundObj n) 8 0).power.pounds (fun _ => Pound.init) = true := by rwa [hpower]
  refine ⟨?_, ?_, State.pounds_updPound hw' _ _⟩
  · rw [State.poundState, State.askGrant, State.obj_updPound, State.obj_setObj_else _ _ _ _ _ _ (by omega)]
    exact State.setPound_state hc hn (by decide)
  · rw [State.askGrant, State.pound_updPound_same hw', State.pound_of_power hpower]

theorem State.powerUp_off {n : Nat} (h : s.poundState n = 0) : s.powerUp n = (s.setObj (poundObj n) 2 1).askGrant n := by
  simp only [State.powerUp, h]
  rfl

theorem State.powerUp_isolated {n : Nat} (h : s.poundState n = 4) (hfree : s.poundInBasin n = false) :
    s.powerUp n = ((s.setObj (poundObj n) 2 1).askGrant n).updPound n (fun p => { p with revived := some s.srv.ms }) := by
  simp only [State.powerUp, h, hfree]
  rfl

theorem State.powerUp_refused {n : Nat} (h : s.poundState n = 5 ∨ (s.poundState n = 4 ∧ s.poundInBasin n = true)) :
    s.powerUp n = s.refuseWrite (poundObj n) 2 1 := by
  rcases h with h | ⟨h, hin⟩
  · simp only [State.powerUp, h]
  · simp only [State.powerUp, h, hin, if_true]

theorem State.logClamp_power (s : State) (r : ClampRec) : (s.logClamp r).power = s.power ∧ (s.logClamp r).tregs = s.tregs := by
  simp only [State.logClamp]
  split <;> simp [apply_ite State.power, apply_ite State.tregs]

/-- A refused write of a pound's command leaves the pound, and a clamp record. -/
theorem State.refusePound_shows (s : State) (pd : PoundId) (v : Nat) :
    let a := s.refuseWrite (poundObj pd) 2 v
    a.poundState pd = s.poundState pd ∧ a.power = s.power ∧ a.tregs = s.tregs ∧
      a.srv.clamps = Map.put s.srv.clamps none (s.obj 0x2F11 2)
        (some ⟨poundObj pd, 2, s.srv.src, 0, 255, 255, v, s.obj (poundObj pd) 2, 0, 255, false⟩) := by
  have hbasin : ∀ n : PoundId, entryBasinOf (poundObj n) = none := by decide
  intro a
  have ha : a = s.logClamp ⟨poundObj pd, 2, s.srv.src, 0, 255, 255, v, s.obj (poundObj pd) 2, 0, 255, false⟩ := by
    simp only [a, State.refuseWrite, hbasin pd, Option.getD_none]
  have hpd := pd.isLt
  obtain ⟨hpower, htregs⟩ := s.logClamp_power ⟨poundObj pd, 2, s.srv.src, 0, 255, 255, v, s.obj (poundObj pd) 2, 0, 255, false⟩
  rw [ha]
  exact ⟨State.logClamp_obj _ _ (by unfold poundObj; omega) (by decide), hpower, htregs, by rw [State.logClamp_srv]⟩

theorem State.powerDown_refused {n : Nat} (h : s.poundInBasin n = true) :
    s.powerDownPound n = s.refuseWrite (poundObj n) 2 2 := if_pos h

theorem State.powerDown_asking {n : Nat} (hfree : s.poundInBasin n = false) (h : s.poundState n = 1) :
    s.powerDownPound n = ((s.setObj (poundObj n) 2 2).setPound n 0).updPound n (fun p => { p with asked := none, revived := none }) := by
  simp only [State.powerDownPound, hfree, h]
  rfl

theorem State.powerDown_on {n : Nat} (hfree : s.poundInBasin n = false) (h : s.poundState n = 3) :
    s.powerDownPound n =
      (((s.setObj (poundObj n) 2 2).setPound n 2).updPound n (fun p => { p with hold := true, down := true })).markPound n := by
  simp only [State.powerDownPound, hfree, h]
  rfl

/-- A change of a pound's state and of what is known of it. -/
theorem State.setPound_updPound_shows (hc : Canonical s) (hw : Map.wf s.power.pounds (fun _ => Pound.init) = true) {n st : Nat}
    (hn : n < 40) (hst : st < 8) (f : Pound → Pound) :
    ((s.setPound n st).updPound n f).poundState n = st ∧ ((s.setPound n st).updPound n f).pound n = f (s.pound n) := by
  have hw' : Map.wf (s.setPound n st).power.pounds (fun _ => Pound.init) = true := by rwa [State.setPound_power]
  refine ⟨?_, ?_⟩
  · rw [State.poundState, State.obj_updPound]
    exact State.setPound_state hc hn hst
  · rw [State.pound_updPound_same hw', State.pound_of_power (State.setPound_power _ _ _)]

theorem State.markPound_keeps (hc : Canonical s) (n : Nat) : Good ⟨s.pending, s, { tregs := false }⟩ (s.markPound n) := by
  have hout := unwatched_false
  exact State.markPound_good (good_start hc _)

/-- The ramp of a power-down ends in a pound that is off, its rails at zero. -/
theorem State.rampDownEnd_shows (hc : Canonical s) (hw : Map.wf s.power.pounds (fun _ => Pound.init) = true) {n : Nat}
    (hn : n < 40) (hdown : (s.pound n).down = true) :
    (s.rampDownEnd n).poundState n = 0 ∧ (s.rampDownEnd n).obj (poundObj n) 3 = 0 ∧ (s.rampDownEnd n).obj (poundObj n) 4 = 0 ∧
      ((s.rampDownEnd n).pound n).hold = false ∧ ((s.rampDownEnd n).pound n).down = false := by
  have hout := unwatched_false
  let a1 := (s.setPound n 0).updPound n (fun p => { p with hold := false, down := false })
  let a2 := (a1.setObj (poundObj n) 3 0).setObj (poundObj n) 4 0
  obtain ⟨hstate, hpound⟩ := State.setPound_updPound_shows hc hw hn (by decide : 0 < 8) (fun p => { p with hold := false, down := false })
  have h1 : Canonical a1 := State.updPound_canonical (State.setPound_canonical hc _ _) _ _
  have h2 : Canonical a2 := State.setObj_canonical (State.setObj_canonical h1 _ _ _) _ _ _
  have hend : s.rampDownEnd n = (a2.poundTiles n).foldl (fun a t => a.darken t) a2 := if_pos hdown
  have hlast : Good ⟨a2.pending, a2, { mem := false, tregs := false, tiles := false }⟩ (s.rampDownEnd n) := by
    rw [hend]
    exact good_foldl (fun _ _ h => State.darken_good h) _ (good_start h2 _)
  have hobj : ∀ k l, (s.rampDownEnd n).obj k l = a2.obj k l := State.obj_of_objs (hlast.same.objs rfl)
  have hpower : (s.rampDownEnd n).power = a1.power := hlast.same.power rfl
  rw [State.poundState, hobj, hobj, hobj, State.pound_of_power hpower, hpound]
  refine ⟨?_, ?_, ?_, rfl, rfl⟩
  · rw [State.obj_setObj_else _ _ _ _ _ _ (by omega), State.obj_setObj_else _ _ _ _ _ _ (by omega)]
    exact hstate
  · rw [State.obj_setObj_else _ _ _ _ _ _ (by omega), State.obj_setObj_same _ h1] <;> rfl
  · rw [State.obj_setObj_same _ (State.setObj_canonical h1 _ _ _)] <;> rfl

/-! ## Grants (R327) -/

/-- The average of a pound's captures is shown. -/
def State.showMean (a : State) (n : Nat) : State :=
  if (a.pound n).caps.isEmpty then a else a.setObj (poundObj n) 7 (f32Of (a.mean64 n) 1000)

theorem State.grantEval_eq (s : State) :
    s.grantEval = (List.range 40).foldl (fun a n => a.grantOne n) ((List.range 40).foldl State.showMean s) := rfl

/-- `a` is `s` but for the averages that the pounds show. -/
structure MeansShown (s a : State) : Prop where
  canon : Canonical a
  power : a.power = s.power
  irqQ : a.irqQ = s.irqQ
  obj : ∀ n, n < 40 → ∀ l, l < 256 → l ≠ 7 → a.obj (poundObj n) l = s.obj (poundObj n) l

theorem MeansShown.refl (hc : Canonical s) : MeansShown s s := ⟨hc, rfl, rfl, fun _ _ _ _ _ => rfl⟩

theorem MeansShown.mean64 {a : State} (h : MeansShown s a) (n : Nat) : a.mean64 n = s.mean64 n := by
  rw [State.mean64, State.mean64, State.pound_of_power h.power]

theorem MeansShown.showMean {a : State} (h : MeansShown s a) (n : Nat) : MeansShown s (a.showMean n) := by
  unfold State.showMean
  split
  · exact h
  · exact ⟨State.setObj_canonical h.canon _ _ _, (a.setObj_power _ _ _).trans h.power, (a.setObj_irqQ _ _ _).trans h.irqQ, fun m hm l hl h7 =>
      (State.obj_setObj_else _ _ _ _ _ _ (by unfold poundObj; omega)).trans (h.obj m hm l hl h7)⟩

theorem MeansShown.letsRamp {a : State} (h : MeansShown s a) {n : Nat} (hn : n < 40) : a.letsRamp n = s.letsRamp n := by
  have hstate : a.poundState n = s.poundState n := h.obj n hn 1 (by decide) (by decide)
  have hrating : a.rating n = s.rating n := by rw [State.rating, State.rating, h.obj n hn 6 (by decide) (by decide)]
  rw [State.letsRamp, State.letsRamp, hstate, hrating, h.mean64]

/-- The averages of all pounds are shown. -/
def State.meansShown (s : State) : State := (List.range 40).foldl State.showMean s

theorem State.meansShown_shows (hc : Canonical s) : MeansShown s s.meansShown ∧
    ∀ n, n < 40 → (s.pound n).caps ≠ [] → s.meansShown.obj (poundObj n) 7 = f32Of (s.mean64 n) 1000 % 2 ^ 64 := by
  have hown : ∀ (a : State) (n : Nat), MeansShown s a → (s.pound n).caps ≠ [] →
      (a.showMean n).obj (poundObj n) 7 = f32Of (s.mean64 n) 1000 % 2 ^ 64 := fun a n h hcaps => by
    rw [State.showMean, State.pound_of_power h.power, if_neg (by simpa using hcaps), State.obj_setObj_same _ h.canon, h.mean64]
  obtain ⟨hshown, -, hall⟩ := State.foldl_reaches (I := MeansShown s) (f := State.showMean)
    (P := fun n a => (s.pound n).caps ≠ [] → a.obj (poundObj n) 7 = f32Of (s.mean64 n) 1000 % 2 ^ 64)
    (fun a n h => h.showMean n) hown (fun a n m h hm hcaps => by
      by_cases heq : m = n
      · exact heq ▸ hown a m h hcaps
      · unfold State.showMean
        split
        · exact hm hcaps
        · exact (State.obj_setObj_else _ _ _ _ _ _ (by unfold poundObj; omega)).trans (hm hcaps)) (List.range 40) s (MeansShown.refl hc)
  exact ⟨hshown, fun n hn => hall n (List.mem_range.mpr hn)⟩

theorem State.grantOne_idle {n : Nat} (h : s.poundState n ≠ 1) : s.grantOne n = s := if_pos (Or.inl h)

/-- With no request among a list of pounds there is nothing to grant. -/
theorem State.grants_idle (l : List Nat) (a : State) (h : ∀ n ∈ l, a.poundState n ≠ 1) :
    l.foldl (fun a n => a.grantOne n) a = a := by
  induction l with
  | nil => rfl
  | cons n l ih =>
    rw [List.foldl_cons, State.grantOne_idle (h n List.mem_cons_self)]
    exact ih fun m hm => h m (List.mem_cons_of_mem _ hm)

/-- Grants to a list of pounds of which `p` alone asks. -/
theorem State.grants_one {p : Nat} (l : List Nat) (a : State) (hnodup : l.Nodup) (hp : p ∈ l)
    (hidle : ∀ n ∈ l, n ≠ p → a.poundState n ≠ 1) (hafter : ∀ n ∈ l, n ≠ p → (a.grantOne p).poundState n ≠ 1) :
    l.foldl (fun a n => a.grantOne n) a = a.grantOne p := by
  induction l with
  | nil => cases hp
  | cons n l ih =>
    obtain ⟨hn, hl⟩ := List.nodup_cons.mp hnodup
    rw [List.foldl_cons]
    by_cases h : n = p
    · rw [h] at hn ⊢
      exact State.grants_idle l _ fun m hm => hafter m (List.mem_cons_of_mem _ hm) (fun h => hn (h ▸ hm))
    · rw [State.grantOne_idle (hidle n List.mem_cons_self h)]
      exact ih hl ((List.mem_cons.mp hp).resolve_left (Ne.symm h)) (fun m hm => hidle m (List.mem_cons_of_mem _ hm))
        (fun m hm => hafter m (List.mem_cons_of_mem _ hm))

/-- A request that every adjacent pound lets pass is granted. -/
def State.granted (a : State) (n : Nat) : State :=
  let (v, s1) := a.fresh
  ((s1.setPound n 2).setObj (poundObj n) 9 (v.toNat % 2 ^ 32)).updPound n (fun p => { p with asked := none })

/-- One that some pound does not let pass is deferred, and told the first time. -/
def State.deferred (a : State) (n : Nat) : State :=
  let s1 := a.bumpObj (poundObj n) 8 1
  (if (a.pound n).deferred then s1 else s1.agentIrq 0x164 n).updPound n (fun p => { p with deferred := true })

theorem State.grantOne_asked {n : Nat} (h : s.poundState n = 1) (hfree : s.power.restart.contains (n / 5) = false) :
    s.grantOne n = if ((List.range 40).filter (poundsAdjacent n)).all s.letsRamp then s.granted n else s.deferred n :=
  if_neg (by rw [hfree]; simp [h])

theorem State.granted_shows (hc : Canonical s) (hw : Map.wf s.power.pounds (fun _ => Pound.init) = true) {n : Nat} (hn : n < 40) :
    (s.granted n).poundState n = 2 ∧ ((s.granted n).pound n).asked = none ∧
      ∀ m, m < 40 → m ≠ n → (s.granted n).poundState m = s.poundState m := by
  have hout := unwatched_false
  let s1 : State := { s with free := s.free + 1 }
  have h1 : Canonical s1 := (good_free (good_start hc noParts) _).canon
  let a := (s1.setPound n 2).setObj (poundObj n) 9 ((Config.freeValue s.free).toNat % 2 ^ 32)
  have ha : s.granted n = a.updPound n (fun p => { p with asked := none }) := rfl
  have hpower : a.power = s.power := (State.setObj_power _ _ _ _).trans (State.setPound_power s1 n 2)
  have hread : ∀ m, (s.granted n).poundState m = (s1.setPound n 2).poundState m := fun m => by
    rw [ha, State.poundState, State.obj_updPound, State.obj_setObj_else _ _ _ _ _ _ (by unfold poundObj; omega)]
    rfl
  refine ⟨?_, ?_, fun m hm h => ?_⟩
  · rw [hread, State.setPound_state h1 hn (by decide)]
  · rw [ha, State.pound_updPound_same (by rwa [hpower])]
  · rw [hread, State.setPound_state_other _ _ hm h]
    rfl

theorem State.deferred_shows (hc : Canonical s) (hw : Map.wf s.power.pounds (fun _ => Pound.init) = true) {n : Nat} :
    (∀ m, (s.deferred n).poundState m = s.poundState m) ∧ ((s.deferred n).pound n).deferred = true ∧
      (s.deferred n).obj (poundObj n) 8 = min (s.obj (poundObj n) 8 + 1) 0xFFFFFFFF ∧
      (s.deferred n).irqQ = if (s.pound n).deferred = true then s.irqQ else s.irqQ ++ [⟨0x164, n, 0, 0, 16, 2304, 0⟩] := by
  have hcount : (s.bumpObj (poundObj n) 8 1).obj (poundObj n) 8 = min (s.obj (poundObj n) 8 + 1) 0xFFFFFFFF :=
    State.bumpObj_same hc _ _ _ (by decide)
  have hstate : ∀ m, (s.bumpObj (poundObj n) 8 1).obj (poundObj m) 1 = s.obj (poundObj m) 1 := fun m =>
    s.bumpObj_else _ _ _ _ _ _ (by unfold poundObj; omega)
  have hpower : (s.bumpObj (poundObj n) 8 1).power = s.power := State.setObj_power _ _ _ _
  have hpower' : ((s.bumpObj (poundObj n) 8 1).agentIrq 0x164 n).power = s.power := (State.agentIrq_power _ _ _).trans hpower
  have hirq : (s.bumpObj (poundObj n) 8 1).irqQ = s.irqQ := State.setObj_irqQ _ _ _ _
  unfold State.deferred
  by_cases h : (s.pound n).deferred = true
  · simp only [h, if_true]
    exact ⟨hstate, by rw [State.pound_updPound_same (by rwa [hpower])], hcount, hirq⟩
  · simp only [h, Bool.false_eq_true, if_false]
    exact ⟨hstate, by rw [State.pound_updPound_same (by rwa [hpower'])], hcount, congrArg (· ++ [_]) hirq⟩

/-- What the end of a window makes of the one pound that asks. -/
theorem State.grantEval_one (hc : Canonical s) (pd : PoundId) (hst : s.poundState pd = 1)
    (hothers : ∀ n, n < 40 → n ≠ pd.val → s.poundState n ≠ 1) (hfree : s.power.restart.contains (pd.val / 5) = false)
    {b : State} (hb : (if ((List.range 40).filter (poundsAdjacent pd)).all s.letsRamp then s.meansShown.granted pd
      else s.meansShown.deferred pd) = b) (hkept : ∀ m, m < 40 → m ≠ pd.val → b.poundState m = s.meansShown.poundState m) :
    exec .poundGrantEval s = .next b := by
  obtain ⟨hshown, -⟩ := State.meansShown_shows hc
  have hstate : ∀ n, n < 40 → s.meansShown.poundState n = s.poundState n := fun n hn => hshown.obj n hn 1 (by decide) (by decide)
  have hlets : ((List.range 40).filter (poundsAdjacent pd)).all s.meansShown.letsRamp =
      ((List.range 40).filter (poundsAdjacent pd)).all s.letsRamp := by
    rw [Bool.eq_iff_iff, List.all_eq_true, List.all_eq_true]
    exact forall₂_congr fun n hn => by rw [hshown.letsRamp (List.mem_range.mp (List.mem_filter.mp hn).1)]
  have hone : s.meansShown.grantOne pd = b := by
    rw [State.grantOne_asked ((hstate _ pd.isLt).trans hst) (by rw [hshown.power]; exact hfree), hlets, hb]
  have hidle : ∀ n ∈ List.range 40, n ≠ pd.val → s.meansShown.poundState n ≠ 1 := fun n hn h => by
    rw [hstate n (List.mem_range.mp hn)]
    exact hothers n (List.mem_range.mp hn) h
  have hafter : ∀ n ∈ List.range 40, n ≠ pd.val → (s.meansShown.grantOne pd).poundState n ≠ 1 := fun n hn h => by
    rw [hone, hkept n (List.mem_range.mp hn) h]
    exact hidle n hn h
  have hgrants := State.grants_one (List.range 40) s.meansShown List.nodup_range (List.mem_range.mpr pd.isLt) hidle hafter
  exact congrArg Host.Outcome.next (hgrants.trans hone)

/-! ## Ends of ramps (R328) -/

theorem State.holder_updPound (s : State) (n : Nat) (f : Pound → Pound) (p : Nat) : (s.updPound n f).holder p = s.holder p := rfl
theorem State.regN_updPound (s : State) (n : Nat) (f : Pound → Pound) (t off : Nat) :
    (s.updPound n f).regN t off = s.regN t off := rfl
theorem State.regN_setPound (s : State) (n st t off : Nat) : (s.setPound n st).regN t off = s.regN t off := rfl

/-- The rails of a pound whose ramp ends well stand at their targets. -/
theorem State.rampEnd_shows (hc : Canonical s) (hw : Map.wf s.power.pounds (fun _ => Pound.init) = true) {n : Nat} (hn : n < 40)
    (hst : s.poundState n = 2) (hup : (s.pound n).down = false) :
    (s.rampEnd n true).poundState n = 3 ∧ ((s.rampEnd n true).pound n).hold = false ∧
      (s.rampEnd n true).obj (poundObj n) 3 = f32Of (s.vpnTarget n) 1000 % 2 ^ 64 ∧
      (s.rampEnd n true).obj (poundObj n) 4 = f32Of 750 1000 := by
  have hout := unwatched_false
  let f (p : Pound) : Pound := { p with hold := false, revived := p.revived.map (fun _ => s.srv.ms) }
  let a := (s.setPound n 3).updPound n f
  obtain ⟨hstate, hpound⟩ := State.setPound_updPound_shows hc hw hn (by decide : 3 < 8) f
  have ha : Canonical a := State.updPound_canonical (State.setPound_canonical hc _ _) _ _
  have hrails : Canonical (a.setRails n) := State.setObj_canonical (State.setObj_canonical ha _ _ _) _ _ _
  have hend : s.rampEnd n true =
      (((a.setRails n).poundTiles n).foldl (fun a t => a.lighten t) (a.setRails n)).markPound n := by
    rw [State.rampEnd, if_neg (by simp [hst, hup]), if_neg (by decide)]
  have hlast : Good ⟨(a.setRails n).pending, a.setRails n, { tregs := false, tiles := false }⟩ (s.rampEnd n true) := by
    rw [hend]
    exact State.markPound_good (good_foldl (fun _ _ h => State.lighten_good h) _ (good_start hrails _))
  have hobj : ∀ k l, (s.rampEnd n true).obj k l = (a.setRails n).obj k l := State.obj_of_objs (hlast.same.objs rfl)
  have hpower : (s.rampEnd n true).power = a.power :=
    (hlast.same.power rfl).trans ((State.setObj_power _ _ _ _).trans (State.setObj_power _ _ _ _))
  have hplaced : Placed s (s.setPound n 3) := by
    unfold State.setPound State.poundCounts
    exact (((Placed.refl hc).setObj (by unfold poundObj; omega) (by decide) _).setObj (by decide) (by decide) _).setObj
      (by decide) (by decide) _
  have hholder : ∀ p, a.holder p = s.holder p := fun p =>
    (State.holder_updPound _ _ _ _).trans (hplaced.holder p)
  have hregs : ∀ t off, a.regN t off = s.regN t off := fun t off =>
    (State.regN_updPound _ _ _ _ _).trans (State.regN_setPound _ _ _ _ _)
  have htarget : a.vpnTarget n = s.vpnTarget n := by
    simp only [State.vpnTarget, hholder, hregs]
  rw [State.poundState, hobj, hobj, hobj, State.pound_of_power hpower, hpound, State.setRails, htarget]
  refine ⟨?_, rfl, ?_, ?_⟩
  · rw [State.obj_setObj_else _ _ _ _ _ _ (by omega), State.obj_setObj_else _ _ _ _ _ _ (by omega)]
    exact hstate
  · rw [State.obj_setObj_else _ _ _ _ _ _ (by omega), State.obj_setObj_same _ ha]
  · rw [State.obj_setObj_same _ (State.setObj_canonical ha _ _ _)]
    exact Nat.mod_eq_of_lt (by decide +kernel)

/-! ## The obligation -/

/-- What an isolation leaves of its pound. -/
theorem State.isolated_of (hc : Canonical s) {pd : PoundId} {cause : Nat} (hcause : cause < 16) {o : Host.Outcome State Fault Refusal}
    (h : o = .next (s.isolate pd cause)) : ∃ s', o = .next s' ∧
      ((s.pound pd).revived = none → s'.poundState pd = 4) ∧
      (∀ ms, (s.pound pd).revived = some ms → s'.poundState pd = if s.poundState pd = 2 ∨ s.srv.ms ≤ ms + 1000 then 5 else 4) ∧
      s'.obj (poundObj pd) 3 = 0 ∧ s'.obj (poundObj pd) 4 = 0 ∧ s'.obj (poundObj pd) 0xE = cause := by
  obtain ⟨hoff, hvpn, hvpm, hcode⟩ := State.isolate_shows hc pd.isLt hcause
  refine ⟨_, h, fun hnone => ?_, fun ms hms => ?_, hvpn, hvpm, hcode⟩
  · simpa [State.tripsAgain, hnone] using hoff
  · simpa [State.tripsAgain, hms] using hoff

/-- Settles O44: a pound's trips, commands, grants and ramps, by the state that each leaves it in. -/
theorem pounds : Obligations.Pounds := by
  unfold Obligations.Pounds
  intro s pd cause hc hw pn st isolated refuses
  have hpd := pd.isLt
  have hw2 : ∀ v, Map.wf (s.setObj (poundObj pd) 2 v).power.pounds (fun _ => Pound.init) = true := fun v => by
    rwa [State.setObj_power]
  have hpound : ∀ v, (s.setObj (poundObj pd) 2 v).pound pd = s.pound pd := fun v =>
    State.pound_of_power (State.setObj_power _ _ _ _) _
  have hcanon : ∀ v, Canonical (s.setObj (poundObj pd) 2 v) := fun v => State.setObj_canonical hc _ _ _
  obtain ⟨hshown, hmeans⟩ := State.meansShown_shows hc
  have hwm : Map.wf s.meansShown.power.pounds (fun _ => Pound.init) = true := by rwa [hshown.power]
  refine ⟨fun h2 h3 => ?_, fun h => ?_, fun h => ?_, fun h hfree => ?_, fun h => ?_, fun h => ?_, fun hfree => ⟨fun h => ?_, fun h => ?_⟩,
    fun h => ?_, fun h => ?_, fun h => ?_, fun h hothers hfree => ⟨fun hlets => ?_, fun n hn hadj hblocks => ?_⟩, fun ok h => ?_,
    fun h hup => ⟨?_, ?_⟩⟩
  · exact congrArg Host.Outcome.next (if_neg (fun h => h.elim h2 h3))
  · exact State.isolated_of hc (by omega) (congrArg Host.Outcome.next (if_pos h))
  · obtain ⟨hstate, hasked, -⟩ := State.askGrant_shows (hcanon 1) (hw2 1) hpd
    exact ⟨_, congrArg Host.Outcome.next (State.powerUp_off h), hstate, by rw [hasked]⟩
  · obtain ⟨hstate, hasked, hw'⟩ := State.askGrant_shows (hcanon 1) (hw2 1) hpd
    refine ⟨_, congrArg Host.Outcome.next (State.powerUp_isolated h hfree), ?_, ?_, ?_⟩
    · rw [State.poundState, State.obj_updPound]
      exact hstate
    · rw [State.pound_updPound_same hw', hasked]
    · rw [State.pound_updPound_same hw']
  · exact ⟨_, congrArg Host.Outcome.next (State.powerUp_refused h), s.refusePound_shows pd 1⟩
  · exact ⟨_, congrArg Host.Outcome.next (State.powerDown_refused h), s.refusePound_shows pd 2⟩
  · obtain ⟨hstate, hasked⟩ := State.setPound_updPound_shows (hcanon 2) (hw2 2) hpd (by decide : 0 < 8)
      (fun p => { p with asked := none, revived := none })
    exact ⟨_, congrArg Host.Outcome.next (State.powerDown_asking hfree h), hstate, by rw [hasked]⟩
  · obtain ⟨hstate, hheld⟩ := State.setPound_updPound_shows (hcanon 2) (hw2 2) hpd (by decide : 2 < 8)
      (fun p => { p with hold := true, down := true })
    have hmark := State.markPound_keeps (State.updPound_canonical (State.setPound_canonical (hcanon 2) pd 2) pd
      (fun p => { p with hold := true, down := true })) pd
    refine ⟨_, congrArg Host.Outcome.next (State.powerDown_on hfree h), ?_, ?_⟩
    · rw [State.poundState, State.obj_of_objs (hmark.same.objs rfl)]
      exact hstate
    · rw [State.pound_of_power (hmark.same.power rfl), hheld]
      exact ⟨rfl, rfl⟩
  · exact congrArg Host.Outcome.next (if_neg (Bool.eq_false_iff.mp h))
  · exact ⟨_, rfl, State.rampDownEnd_shows hc hw hpd h⟩
  · have hstate : ∀ n, n < 40 → s.meansShown.poundState n = s.poundState n := fun n hn => hshown.obj n hn 1 (by decide) (by decide)
    have hidle : s.grantEval = s.meansShown := State.grants_idle (List.range 40) s.meansShown fun n hn => by
      rw [hstate n (List.mem_range.mp hn)]
      exact h n (List.mem_range.mp hn)
    exact ⟨_, congrArg Host.Outcome.next hidle, fun n hn => ⟨hstate n hn, hmeans n hn⟩⟩
  · obtain ⟨hstate, hasked, hkept⟩ := State.granted_shows hshown.canon hwm hpd
    have hall : ((List.range 40).filter (poundsAdjacent pd)).all s.letsRamp = true := by
      rw [List.all_eq_true]
      intro n hn
      obtain ⟨hrange, hadj⟩ := List.mem_filter.mp hn
      exact hlets n (List.mem_range.mp hrange) hadj
    exact ⟨_, State.grantEval_one hc pd h hothers hfree (if_pos hall) hkept, hstate, hasked⟩
  · obtain ⟨hstate, hdeferred, hcount, hirq⟩ := State.deferred_shows hshown.canon hwm (n := pd.val)
    have hsome : ¬((List.range 40).filter (poundsAdjacent pd)).all s.letsRamp = true := fun hall => by
      have hn' := List.all_eq_true.mp hall n (List.mem_filter.mpr ⟨List.mem_range.mpr hn, hadj⟩)
      rw [hblocks] at hn'
      cases hn'
    rw [hshown.obj pd hpd 8 (by decide) (by decide)] at hcount
    rw [State.pound_of_power hshown.power, hshown.irqQ] at hirq
    exact ⟨_, State.grantEval_one hc pd h hothers hfree (if_neg hsome) (fun m _ _ => hstate m),
      (hstate pd).trans ((hshown.obj pd hpd 1 (by decide) (by decide)).trans h), hdeferred, hcount, hirq⟩
  · exact congrArg Host.Outcome.next (if_pos h)
  · have hend : s.rampEnd pd false = s.isolate pd 4 := by
      have hgo : ¬(s.poundState pd ≠ 2 ∨ (s.pound pd).down = true) := by
        rintro (hne | hdown)
        · exact hne h
        · exact Bool.false_ne_true (hup.symm.trans hdown)
      rw [State.rampEnd, if_neg hgo, if_pos (by decide)]
    exact State.isolated_of hc (by decide) (congrArg Host.Outcome.next hend)
  · exact ⟨_, rfl, State.rampEnd_shows hc hw hpd h hup⟩

end Sys2Proof.Machine

/-! # PROOFS. Set voltages, voltage steps and the skim test (R317, R334, R351 to R353, R359) -/

namespace Sys2Proof.Machine

open Sys2Proof

variable {s : State}

/-! ## Places of tiles -/

theorem presentedRows_lt {skip band r : Nat} (h : r ∈ presentedRows skip band) : r < 25 := by
  unfold presentedRows at h
  split at h
  · exact List.mem_range.mp (List.mem_filter.mp h).1
  · simp only at h
    split at h
    · exact List.mem_range.mp (List.mem_filter.mp h).1
    · exact List.mem_range.mp (List.mem_filter.mp h).1

/-- A tile of the shape stands at a physical place of one of the 40 pounds. -/
theorem State.poundOf_lt (s : State) (t : TileId) : s.poundOf t < 40 := by
  have ht := t.isLt
  have hfield : s.fieldOf t < 8 := by
    unfold State.fieldOf tx
    split <;> omega
  have hrow : (s.fieldRows (s.fieldOf t)).getD (s.localRow t) 0 < 25 := by
    rw [List.getD_eq_getElem?_getD]
    cases h : (s.fieldRows (s.fieldOf t))[s.localRow t]? with
    | none => decide
    | some r => exact presentedRows_lt (List.mem_of_getElem? h)
  have hskip : ∀ b : Bool, b2n b ≤ 1 := by decide
  have hskip' := hskip (decide (s.obj (mapObj (s.fieldOf t)) (2 + s.localRow t) ≤ tx t % 12))
  have hx : tx t.val % 12 < 12 := Nat.mod_lt _ (by decide)
  unfold State.poundOf State.physOf pPound pField pc pr
  simp only
  generalize s.fieldOf t = f at *
  generalize (s.fieldRows f).getD (s.localRow t) 0 = r at *
  generalize b2n (decide (s.obj (mapObj f) (2 + s.localRow t) ≤ tx t % 12)) = k at *
  generalize tx t.val % 12 = x at *
  omega

theorem poundPhys_nodup : ∀ n : PoundId, (poundPhys n).Nodup := by decide +kernel

/-! ## Set voltages (R334) -/

/-- The voltage that a pound's rails aim at is read off its tiles' places and set voltages. -/
theorem State.vpnTarget_congr {a : State} (hplaced : ∀ p, a.holder p = s.holder p) (hregs : ∀ t, a.regN t 0x7004 = s.regN t 0x7004)
    (n : Nat) : a.vpnTarget n = s.vpnTarget n := by
  simp only [State.vpnTarget, hplaced, hregs]

theorem State.setRails_shows (hc : Canonical s) {n : Nat} (hn : n < 40) :
    (s.setRails n).obj (poundObj n) 3 = f32Of ((s.setRails n).vpnTarget n) 1000 % 2 ^ 64 := by
  rw [State.vpnTarget_congr ((Placed.refl hc).setRails hn).holder (fun t => State.regN_setRails _ _ _ _), State.setRails,
    State.obj_setObj_else _ _ _ _ _ _ (by omega), State.obj_setObj_same _ hc]

theorem State.poundOf_setRegN (s : State) (t off n u : Nat) : (s.setRegN t off n).poundOf u = s.poundOf u := rfl

theorem State.vtSet_shows (hc : Canonical s) (t : TileId) (mv : Nat) (hfree : s.power.restart.contains (s.poundOf t / 5) = false) :
    (s.vtSet t mv).regN t 0x7004 = clampN 600 850 mv ∧ (s.vtSet t mv).tiles = s.tiles ∧
      (s.poundState (s.poundOf t) = 3 →
        (s.vtSet t mv).obj (poundObj (s.poundOf t)) 3 = f32Of ((s.vtSet t mv).vpnTarget (s.poundOf t)) 1000 % 2 ^ 64) ∧
      (s.poundState (s.poundOf t) ≠ 3 → (s.vtSet t mv).objs = s.objs) := by
  let a := s.setRegN t 0x7004 (clampN 600 850 mv)
  have ha : Canonical a := ((Placed.refl hc).setRegN _ _ _).canon
  have hreg : a.regN t 0x7004 = clampN 600 850 mv :=
    (State.regN_setRegN_same hc _ _ _).trans (Nat.mod_eq_of_lt (by
      unfold clampN
      split
      · decide
      · split <;> omega))
  have hstate : a.poundState (a.poundOf t) = s.poundState (s.poundOf t) := by
    rw [State.poundOf_setRegN, State.poundState, State.obj_setRegN_read, State.poundState]
  have hset : s.vtSet t mv = if a.poundState (a.poundOf t) = 3 then a.setRails (a.poundOf t) else a :=
    if_neg (Bool.eq_false_iff.mp hfree)
  rw [hset, hstate, State.poundOf_setRegN]
  by_cases h : s.poundState (s.poundOf t) = 3
  · have htiles : (a.setRails (s.poundOf t)).tiles = s.tiles := by
      rw [State.setRails, State.setObj_tiles, State.setObj_tiles]
      exact State.setReg_tiles _ _ _ _
    rw [if_pos h]
    exact ⟨(State.regN_setRails _ _ _ _).trans hreg, htiles, fun _ => State.setRails_shows ha (s.poundOf_lt t), fun hne => absurd h hne⟩
  · rw [if_neg h]
    exact ⟨hreg, State.setReg_tiles _ _ _ _, fun h3 => absurd h3 h, fun _ => State.setReg_objs _ _ _ _⟩

/-! ## Voltage steps (R353) -/

/-- Where a step of at most 10 mV toward `g` brings a regulator. -/
def stepToward (v g : Nat) : Nat := if v < g then min g (v + 10) else max g (v - 10)

/-- A regulator takes its step. -/
def State.stepTile (a : State) (p : Nat) : State :=
  if a.regN (a.holder p) 0x7014 ≠ 0 then a
  else a.setRegN (a.holder p) 0x7004 (stepToward (a.regN (a.holder p) 0x7004) (a.vtTarget p))

theorem State.voltageStep_eq (s : State) (n : Nat) :
    s.voltageStep n = if s.mayStep n && decide (s.poundState n = 3) && !s.power.restart.contains (n / 5) then
      ((poundPhys n).foldl State.stepTile (s.updPound n (fun p => { p with hold := true }))).setRails n
    else s := rfl

/-- `a` has the places of `s` and its registers but those at 0x7004. -/
structure StepsTaken (s a : State) : Prop where
  canon : Canonical a
  objs : a.objs = s.objs
  places : ∀ p, a.holder p = s.holder p
  regs : ∀ t off, off < 65536 → off ≠ 0x7004 → a.regN t off = s.regN t off

theorem StepsTaken.refl (hc : Canonical s) : StepsTaken s s := ⟨hc, rfl, fun _ => rfl, fun _ _ _ _ => rfl⟩

theorem StepsTaken.vtTarget {a : State} (h : StepsTaken s a) (p : Nat) : a.vtTarget p = s.vtTarget p := by
  simp only [State.vtTarget, State.obj_of_objs h.objs, h.places, h.regs _ 0x713c (by decide) (by decide)]

theorem StepsTaken.stepTile {a : State} (h : StepsTaken s a) (p : Nat) : StepsTaken s (a.stepTile p) := by
  unfold State.stepTile
  split
  · exact h
  · have hset := (Placed.refl h.canon).setRegN (a.holder p) 0x7004 (stepToward (a.regN (a.holder p) 0x7004) (a.vtTarget p))
    exact ⟨hset.canon, (State.setReg_objs _ _ _ _).trans h.objs, fun q => (hset.holder q).trans (h.places q), fun t off hoff hne =>
      (State.regN_setRegN_other _ _ (by decide) hoff (Or.inr hne)).trans (h.regs t off hoff hne)⟩

/-- The set voltage of a tile whose holder no listed place shares stays. -/
theorem StepsTaken.foldl {t : Nat} (l : List Nat) (hl : ∀ q ∈ l, s.holder q ≠ t) :
    ∀ {a : State}, StepsTaken s a → StepsTaken s (l.foldl State.stepTile a) ∧
      (l.foldl State.stepTile a).regN t 0x7004 = a.regN t 0x7004 := by
  induction l with
  | nil => exact fun h => ⟨h, rfl⟩
  | cons q l ih =>
    intro a h
    obtain ⟨hlast, hkept⟩ := ih (fun x hx => hl x (List.mem_cons_of_mem _ hx)) (h.stepTile q)
    refine ⟨hlast, hkept.trans ?_⟩
    unfold State.stepTile
    split
    · rfl
    · exact State.regN_setRegN_other _ _ (by decide) (by decide) (Or.inl (by
        rw [h.places]
        exact Ne.symm (hl q List.mem_cons_self)))

theorem stepToward_lt {v g : Nat} (hv : v < 2 ^ 64) (hg : g ≤ 850) : stepToward v g < 2 ^ 64 := by
  unfold stepToward
  split <;> omega

theorem State.vtTarget_le (s : State) (p : Nat) : s.vtTarget p ≤ 850 := by
  unfold State.vtTarget
  simp only
  omega

/-- A place that a list names once, and whose holder no other place of it shares, takes one step. -/
theorem StepsTaken.steps {p : Nat} (hfloor : s.regN (s.holder p) 0x7014 = 0) (l : List Nat) (hnodup : l.Nodup) (hp : p ∈ l)
    (hl : ∀ q ∈ l, q ≠ p → s.holder q ≠ s.holder p) : ∀ {a : State}, StepsTaken s a →
      a.regN (s.holder p) 0x7004 = s.regN (s.holder p) 0x7004 →
      (l.foldl State.stepTile a).regN (s.holder p) 0x7004 = stepToward (s.regN (s.holder p) 0x7004) (s.vtTarget p) := by
  induction l with
  | nil => cases hp
  | cons q l ih =>
    intro a h hreg
    obtain ⟨hq, hnodup'⟩ := List.nodup_cons.mp hnodup
    rw [List.foldl_cons]
    by_cases heq : q = p
    · rw [heq] at hq ⊢
      obtain ⟨-, hkept⟩ := StepsTaken.foldl (t := s.holder p) l
        (fun x hx => hl x (List.mem_cons_of_mem _ hx) (fun hxp => hq (hxp ▸ hx))) (h.stepTile p)
      have hstep : (a.stepTile p).regN (s.holder p) 0x7004 = stepToward (s.regN (s.holder p) 0x7004) (s.vtTarget p) := by
        rw [State.stepTile, h.places, h.regs _ _ (by decide) (by decide), if_neg (by simp [hfloor]), hreg, h.vtTarget,
          State.regN_setRegN_same h.canon]
        exact Nat.mod_eq_of_lt (stepToward_lt (BitVec.isLt _) (s.vtTarget_le p))
      exact hkept.trans hstep
    · refine ih hnodup' ((List.mem_cons.mp hp).resolve_left (Ne.symm heq)) (fun x hx => hl x (List.mem_cons_of_mem _ hx))
        (h.stepTile q) ?_
      obtain ⟨-, hkept⟩ := StepsTaken.foldl (t := s.holder p) [q]
        (fun x hx => by rw [List.mem_singleton.mp hx]; exact hl q List.mem_cons_self heq) h
      exact hkept.trans hreg

/-! ## The skim test (R359) -/

/-- The row of SKIM_TEST in the table of a tile's registers. -/
def skimTestRow : RegDesc := ⟨0x7104, 0, 1, 0, 1, 32, 1, 0, 0x1f, 0, 0xffffffff⟩

theorem findReg_skimTest : findReg 0x7104 = some (skimTestRow, 0) := by decide +kernel

/-- The level that a write of `v` leaves, with its enable bit: at most 12. -/
def skimLevel (v : Nat) : Nat := min (v % 16) 12 + v / 16 * 16

theorem skimTest_masked (val : Word32) : val.toNat % 2 ^ 32 &&& 0x1f = val.toNat % 32 := by
  rw [Nat.mod_eq_of_lt val.isLt]
  exact Nat.and_two_pow_sub_one_eq_mod _ 5

theorem State.regAct_skimTest (s : State) (t v : Nat) : s.regAct t 0x7104 v none skimTestRow =
    if (s.basinOf t).isSome then (rspRefused, s) else (rspOK, s.setRegN t 0x7104 v) := rfl

/-- A write of SKIM_TEST brings its level into range, and acts on a tile of no basin. -/
theorem State.regWrite_skimTest (s : State) (t : Nat) (val : Word32) :
    let v0 := val.toNat % 32
    let c := skimLevel v0
    s.regWrite t 0x7104 val.toNat none =
      if (s.basinOf t).isSome then (4, s)
      else if c = v0 then (0, s.setRegN t 0x7104 c)
      else (2, (s.setRegN t 0x7104 c).clampTile t 0x7104 3 v0 c none) := by
  intro v0 c
  have hlegal : s.legalValue t 0x7104 v0 skimTestRow = c := rfl
  simp only [State.regWrite, findReg_skimTest]
  rw [if_neg (by decide), if_neg (by decide), if_neg (by decide), if_neg (by decide), if_neg (by decide), if_neg (by decide),
    show (val.toNat % 2 ^ skimTestRow.bits &&& if 0x7104 = 0xf4c then 0xFFFFFF1F else skimTestRow.mask) =
      val.toNat % 2 ^ 32 &&& 0x1f from rfl, skimTest_masked]
  simp only [v0] at hlegal
  simp only [hlegal, State.regAct_skimTest]
  by_cases hin : (s.basinOf t).isSome = true
  · simp [hin, rspRefused]
  · by_cases h : c = v0
    · simp [hin, h, v0, rspOK]
    · simp [hin, h, v0, rspOK, rspRefused, rspClamped, Writer.src]

theorem execSkimTestWrite_open {t : TileId} (val : Word32) (hlit : (s.tile t).dark = false) (hin : s.absorbing t = false) :
    exec (.skimTestWrite t val) s =
      .next ((s.regWrite t 0x7104 val.toNat none).2.respond t (s.regWrite t 0x7104 val.toNat none).1 []) :=
  congrArg _ (State.towpathAsk_open _ hlit hin)

theorem State.clampTile_tregs (s : State) (t off src written applied : Nat) (lock : Option Nat) :
    (s.clampTile t off src written applied lock).tregs = s.tregs := (State.logClamp_power _ _).2

/-- A write that acts stores its level, and is answered OK or CLAMPED. -/
theorem State.skimTest_stores (hc : Canonical s) {t : TileId} (val : Word32) (hlit : (s.tile t).dark = false)
    (hin : s.absorbing t = false) (hnone : s.basinOf t = none) :
    let v0 := val.toNat % 32
    let c := skimLevel v0
    ∃ s', exec (.skimTestWrite t val) s = .next s' ∧ s'.regN t 0x7104 = c ∧
      (s'.tile t).tp.responses = (s.tile t).tp.responses ++ [⟨t.val, if c = v0 then 0 else 2, []⟩] := by
  have hout := unwatched_false
  intro v0 c
  let a := s.setRegN t 0x7104 c
  have ha : Canonical a := ((Placed.refl hc).setRegN _ _ _).canon
  have hreg : a.regN t 0x7104 = c := (State.regN_setRegN_same hc _ _ _).trans (Nat.mod_eq_of_lt (by
    have : val.toNat < 2 ^ 32 := val.isLt
    simp only [c, v0, skimLevel]
    omega))
  have hexec := execSkimTestWrite_open val hlit hin
  have hw := s.regWrite_skimTest t.val val
  simp only [hnone, Option.isSome_none, Bool.false_eq_true, if_false] at hw
  rw [hw] at hexec
  by_cases h : c = v0
  · rw [if_pos h] at hexec
    obtain ⟨-, -, hresponses, -⟩ := State.respond_shows ha t.val 0 []
    refine ⟨_, hexec, (State.regN_updTile_read _ _ _ _ _).trans hreg, ?_⟩
    rw [hresponses, if_pos h, State.tile_setRegN_read]
  · rw [if_neg h] at hexec
    have hclamped : Canonical (a.clampTile t 0x7104 3 v0 c none) := (State.clampTile_good (good_start ha noParts)).canon
    obtain ⟨-, -, hresponses, -⟩ := State.respond_shows hclamped t.val 2 []
    refine ⟨_, hexec, ?_, ?_⟩
    · rw [State.respond, State.regN_updTile_read, State.regN_of_tregs (State.clampTile_tregs _ _ _ _ _ _ _)]
      exact hreg
    · rw [hresponses, if_neg h, State.tile_of_tiles (State.clampTile_tiles _ _ _ _ _ _ _), State.tile_setRegN_read]

/-- Settles O47: set voltages, voltage steps and the skim test. -/
theorem voltageAndSkimTest : Obligations.VoltageAndSkimTest := by
  unfold Obligations.VoltageAndSkimTest
  intro s pd t mv val hc hw n v0 c
  refine ⟨fun h => ?_, fun h => ⟨_, rfl, State.vtSet_shows hc t _ h⟩, fun h => ?_, fun hmay hon hfree => ?_, fun h => ?_, fun h => ?_,
    fun hlit hin hbasin => ?_, fun hlit hin hnone => State.skimTest_stores hc val hlit hin hnone⟩
  · exact congrArg Host.Outcome.next (if_pos h)
  · have hno : ¬(s.mayStep pd && decide (s.poundState pd = 3) && !s.power.restart.contains (pd.val / 5)) = true := by
      rintro hyes
      simp only [Bool.and_eq_true, decide_eq_true_eq, Bool.not_eq_true'] at hyes
      obtain ⟨⟨hmay, hon⟩, hfree⟩ := hyes
      rcases h with h | h | h
      · exact Bool.false_ne_true (h.symm.trans hmay)
      · exact h hon
      · exact Bool.false_ne_true (hfree.symm.trans h)
    exact congrArg Host.Outcome.next ((State.voltageStep_eq s pd).trans (if_neg hno))
  · let a := s.updPound pd (fun p => { p with hold := true })
    have hexec : exec (.voltageStep pd) s = .next (((poundPhys pd).foldl State.stepTile a).setRails pd) :=
      congrArg Host.Outcome.next ((State.voltageStep_eq s pd).trans (if_pos (by rw [hmay, hfree, hon]; rfl)))
    have ha : StepsTaken s a := ⟨State.updPound_canonical hc _ _, rfl, State.holder_updPound _ _ _, fun _ _ _ _ => rfl⟩
    refine ⟨_, hexec, ?_, fun p hp hother hfloor => ?_⟩
    · have hpower : (((poundPhys pd).foldl State.stepTile a).setRails pd).power = a.power := by
        rw [State.setRails, State.setObj_power, State.setObj_power]
        refine State.foldl_keeps State.power (fun b q => ?_) _ a
        unfold State.stepTile
        split
        · rfl
        · exact State.setReg_power _ _ _ _
      rw [State.pound_of_power hpower, State.pound_updPound_same hw]
    · rw [State.regN_setRails]
      exact StepsTaken.steps hfloor (poundPhys pd) (poundPhys_nodup pd) hp hother ha (State.regN_updPound _ _ _ _ _)
  · exact congrArg Host.Outcome.next (if_pos h)
  · exact ⟨_, congrArg Host.Outcome.next (if_neg (Bool.eq_false_iff.mp h)), State.pound_updPound_same hw _ _, rfl⟩
  · have hexec := execSkimTestWrite_open val hlit hin
    rw [s.regWrite_skimTest t.val val, if_pos (by simpa [Option.isSome_iff_ne_none] using hbasin)] at hexec
    obtain ⟨-, -, hresponses, -⟩ := State.respond_shows hc t.val 4 []
    exact ⟨_, hexec, State.regN_updTile_read _ _ _ _ _, hresponses⟩

end Sys2Proof.Machine

/-! # PROOFS. Captures, estimates and skim (R332, R338 to R346, R354 to R357) -/

namespace Sys2Proof.Machine

open Sys2Proof

variable {s : State}

/-! ## Folds in which one step counts -/

/-- What each step on a listed item leaves, a fold leaves. -/
theorem State.foldl_keeps_mem {α β : Type} (read : State → α) {f : State → β → State} (xs : List β)
    (h : ∀ a, ∀ x ∈ xs, read (f a x) = read a) : ∀ a, read (xs.foldl f a) = read a := by
  induction xs with
  | nil => exact fun _ => rfl
  | cons x xs ih => exact fun a => (ih (fun b y hy => h b y (List.mem_cons_of_mem _ hy)) (f a x)).trans (h a x List.mem_cons_self)

/-- The one step on `p` takes what stands before it to what stands after; the other steps leave both. -/
theorem State.foldl_once {β : Type} [DecidableEq β] {f : State → β → State} {before after : State → Prop} {p : β}
    (hp : ∀ a, before a → after (f a p)) (xs : List β) (hnodup : xs.Nodup) (hmem : p ∈ xs)
    (hbefore : ∀ a, ∀ x ∈ xs, x ≠ p → before a → before (f a x)) (hafter : ∀ a, ∀ x ∈ xs, x ≠ p → after a → after (f a x)) :
    ∀ a, before a → after (xs.foldl f a) := by
  induction xs with
  | nil => cases hmem
  | cons x xs ih =>
    intro a ha
    obtain ⟨hx, hxs⟩ := List.nodup_cons.mp hnodup
    rw [List.foldl_cons]
    by_cases h : x = p
    · subst h
      have hrest : ∀ (ys : List β), ys ⊆ xs → ∀ b, after b → after (ys.foldl f b) := fun ys => by
        induction ys with
        | nil => exact fun _ _ hb => hb
        | cons y ys ih' =>
          intro hys b hb
          have hy : y ∈ xs := hys List.mem_cons_self
          exact ih' (List.subset_of_cons_subset hys) _ (hafter b y (List.mem_cons_of_mem _ hy) (fun h => hx (h ▸ hy)) hb)
      exact hrest xs (List.Subset.refl _) _ (hp a ha)
    · exact ih hxs ((List.mem_cons.mp hmem).resolve_left (Ne.symm h)) (fun b y hy => hbefore b y (List.mem_cons_of_mem _ hy))
        (fun b y hy => hafter b y (List.mem_cons_of_mem _ hy)) _ (hbefore a x List.mem_cons_self h ha)

/-- A capture's readings of the other rails, where it has them (R338). -/
def State.otherShown (s : State) (sys : Option (List Nat)) : State :=
  match sys with
  | some l => ({ s with power := { s.power with rails := (l :: s.power.rails).take 125 } } : State).otherRails
  | none => s

/-- The readings that a capture takes of its pound. -/
def State.readings (s : State) (n vn vm : Nat) : State :=
  s.updPound n (fun p => { p with caps := ((vn, vm) :: p.caps).take 125, sumI := p.sumI + vn, sumN := p.sumN + 1 })

/-- What a capture does after its pound's rails: the other rails, and the tiles `l` with their readings. -/
def State.tilesCapture (s : State) (n : Nat) (sys : Option (List Nat)) (l : List (Nat × Int × Nat × Nat)) (before : Nat) : State :=
  let s4 := l.foldl (fun (a : State) x => a.tileCapture x.1 x.2) (s.otherShown sys)
  let s5 := l.foldl (fun (a : State) x => a.sensorStep x.1 x.2.1) s4
  let s6 := l.foldl (fun (a : State) x => a.substitute x.1) s5
  (l.foldl (fun (a : State) x => a.tileThermal x.1) s6).poundThermal n before

/-- A capture of a field whose power controller runs. -/
theorem State.capture_eq (s : State) (n vn vm : Nat) (sys : Option (List Nat)) (tiles : List (Int × Nat × Nat))
    (hrun : s.power.restart.contains (n / 5) = false) :
    s.capture n vn vm sys tiles =
      ((s.readings n vn vm).railCapture n vn vm).tilesCapture n sys ((poundPhys n).zip tiles) (s.throttling n).length := by
  unfold State.capture
  rw [if_neg (by rw [hrun]; decide)]
  rfl

/-! ## What leaves a pound's captures and its rail demand -/

/-- `a` has the captures of pound `n` in `s`, and the demand of its rail limit. -/
structure CapKept (n : Nat) (s a : State) : Prop where
  wf : Map.wf a.power.pounds (fun _ => Pound.init) = true
  caps : (a.pound n).caps = (s.pound n).caps
  demand : a.obj (0x2220 + n) 3 = s.obj (0x2220 + n) 3

namespace CapKept

variable {n : Nat} {a : State}

theorem refl (hw : Map.wf s.power.pounds (fun _ => Pound.init) = true) : CapKept n s s := ⟨hw, rfl, rfl⟩

theorem of {b : State} (h : CapKept n s a) (hpounds : b.power.pounds = a.power.pounds) (hobjs : b.objs = a.objs) :
    CapKept n s b := by
  obtain ⟨hwf, hcaps, hdemand⟩ := h
  refine ⟨by rwa [hpounds], ?_, (State.obj_of_objs hobjs _ _).trans hdemand⟩
  rwa [State.pound, hpounds]

theorem setObj (h : CapKept n s a) (i j v : Nat) (hij : 256 * (0x2220 + n) + 3 ≠ 256 * i + j) : CapKept n s (a.setObj i j v) :=
  ⟨h.wf, h.caps, (State.obj_setObj_else _ _ _ _ _ _ hij).trans h.demand⟩

theorem updPound (h : CapKept n s a) (m : Nat) (f : Pound → Pound) (hf : ∀ p, (f p).caps = p.caps) :
    CapKept n s (a.updPound m f) := by
  refine ⟨State.pounds_updPound h.wf m f, ?_, h.demand⟩
  by_cases hm : n = m
  · subst hm
    rw [State.pound_updPound_same h.wf, hf, h.caps]
  · rw [State.pound_updPound_other _ _ hm, h.caps]

theorem ite {b : State} {c : Prop} [Decidable c] (ha : CapKept n s a) (hb : CapKept n s b) : CapKept n s (if c then a else b) := by
  split
  · exact ha
  · exact hb

theorem foldl {β : Type} {f : State → β → State} (hf : ∀ a x, CapKept n s a → CapKept n s (f a x)) (xs : List β) :
    ∀ {a : State}, CapKept n s a → CapKept n s (xs.foldl f a) := by
  induction xs with
  | nil => exact fun h => h
  | cons x xs ih => exact fun h => ih (hf _ x h)

theorem setRegN (h : CapKept n s a) (t off v : Nat) : CapKept n s (a.setRegN t off v) :=
  h.of (congrArg Power.pounds (State.setReg_power _ _ _ _)) (State.setReg_objs _ _ _ _)

theorem agentIrq (h : CapKept n s a) (cause detail : Nat) : CapKept n s (a.agentIrq cause detail) :=
  h.of (congrArg Power.pounds (State.agentIrq_power _ _ _)) (State.agentIrq_objs _ _ _)

theorem agentAlarm (h : CapKept n s a) (cause detail b : Nat) : CapKept n s (a.agentAlarm cause detail b) :=
  h.of (congrArg Power.pounds (State.agentAlarm_power _ _ _ _)) (State.agentAlarm_objs _ _ _ _)

theorem addLedger (h : CapKept n s a) (hn : n < 40) (kind : Nat) (tile : Option Nat) (item sub : Nat) (service : Bool) :
    CapKept n s (a.addLedger kind tile item sub service) := by
  have hpower : (a.addLedger kind tile item sub service).power = a.power := by
    unfold State.addLedger
    split
    · rfl
    · split
      · split <;> rfl
      · rfl
  refine ⟨by rw [hpower]; exact h.wf, ?_, (State.addLedger_obj _ _ _ _ _ _ (by omega) (by decide)).trans h.demand⟩
  rw [State.pound_of_power hpower, h.caps]

theorem updBasin (h : CapKept n s a) (b : Nat) (f : Basin → Basin) : CapKept n s (a.updBasin b f) := h.of rfl rfl

theorem lkError (h : CapKept n s a) (hn : n < 40) (b t cause detail aux : Nat) : CapKept n s (a.lkError b t cause detail aux) := by
  have hset : ∀ {c : State} (i j v : Nat), 0x2810 ≤ i → CapKept n s c → CapKept n s (c.setObj i j v) := fun i j v hi hc =>
    hc.setObj _ _ _ (by omega)
  have hstop : CapKept n s (a.raiseStop b t cause) := by
    unfold State.raiseStop
    extract_lets s1 s2
    have h2 : CapKept n s s2 := ite (hset _ _ _ (by omega) (h.updBasin _ _)) (h.updBasin _ _)
    exact ite h (hset _ _ _ (by omega) (hset _ _ _ (by omega) (hset _ _ _ (by omega) (hset _ _ _ (by omega) h2))))
  rw [State.lkError]
  exact hstop.updBasin _ _

theorem holdAll (h : CapKept n s a) : CapKept n s a.holdAll := h.of rfl rfl

theorem darken (h : CapKept n s a) (t : Nat) : CapKept n s (a.darken t) := h.of rfl rfl

theorem openAll (h : CapKept n s a) (hn : n < 40) : CapKept n s a.openAll := by
  rw [State.openAll_eq]
  have hopen : ∀ (b : State) (m : Nat), CapKept n s b → CapKept n s (b.openPound m) := fun b m hb => by
    have hput : ∀ {c : State} (j v : Nat), CapKept n s c → j < 256 → CapKept n s (c.setObj (poundObj m) j v) := fun j v hc hj =>
      hc.setObj _ _ _ (by unfold poundObj; omega)
    exact (hput _ _ (hput _ _ (hput _ _ hb (by decide)) (by decide)) (by decide)).updPound _ _ fun _ => rfl
  have hcounts : CapKept n s ((List.range 40).foldl State.openPound a).poundCounts :=
    ((foldl hopen _ h).setObj _ _ _ (by omega)).setObj _ _ _ (by omega)
  have hoff : CapKept n s a.allOff := hcounts.holdAll
  exact foldl (fun b t hb => hb.darken t) _ hoff

theorem withPower (h : CapKept n s a) (p : Power) (hp : p.pounds = a.power.pounds) : CapKept n s { a with power := p } :=
  h.of hp rfl

theorem withPowerBoot (h : CapKept n s a) (p : Power) (q : Boot) (hp : p.pounds = a.power.pounds) :
    CapKept n s { a with power := p, boot := q } :=
  h.of hp rfl

theorem thermalShutdown (h : CapKept n s a) (hn : n < 40) (p : Nat) : CapKept n s (a.thermalShutdown p) := by
  unfold State.thermalShutdown
  have h1 : CapKept n s a.openAll := h.openAll hn
  generalize a.openAll = b at h1 ⊢
  extract_lets +onlyGivenNames -merge -useContext -underBinder bs s1 pw boot s2 s3
  have h2 : CapKept n s s2 := h1.withPowerBoot _ _ rfl
  exact foldl (fun _ _ hb => hb.lkError hn _ _ _ _ _) _ ((h2.setObj _ _ _ (by omega)).agentAlarm _ _ _)

theorem tileCapture (h : CapKept n s a) (p : Nat) (m : Int × Nat × Nat) : CapKept n s (a.tileCapture p m) :=
  ite ((h.setRegN _ _ _).setRegN _ _ _) (((h.setRegN _ _ _).setRegN _ _ _).setRegN _ _ _)

theorem sensorStep (h : CapKept n s a) (hn : n < 40) (p : Nat) (tj : Int) : CapKept n s (a.sensorStep p tj) := by
  unfold State.sensorStep
  extract_lets +onlyGivenNames -merge -useContext -underBinder h0
  refine ite h ?_
  extract_lets +onlyGivenNames -merge -useContext -underBinder m p1 s1
  have h1 : CapKept n s s1 := h.withPower _ rfl
  exact ite ((((h1.setRegN _ _ _).addLedger hn _ _ _ _ _).agentIrq _ _).setObj _ _ _ (by omega)) h1

theorem substitute (h : CapKept n s a) (p : Nat) : CapKept n s (a.substitute p) :=
  ite ((h.setRegN _ _ _).setRegN _ _ _) h

theorem tileThermal (h : CapKept n s a) (p : Nat) : CapKept n s (a.tileThermal p) := by
  unfold State.tileThermal
  extract_lets +onlyGivenNames -merge -useContext -underBinder v1 v2 v3 v4 v5 v6 v7 v8 v9 v10
  have h10 : CapKept n s v10 := h.withPower _ rfl
  exact h10.setRegN _ _ _

theorem poundThermal (h : CapKept n s a) (hn : n < 40) (before : Nat) : CapKept n s (a.poundThermal n before) := by
  unfold State.poundThermal
  extract_lets +onlyGivenNames -merge -useContext -underBinder v1 v2 v3 v4 v5 v6 v7 v8 v9 v10 v11 v12 v13 v14
  have h11 : CapKept n s v11 := h.updPound _ _ fun _ => rfl
  have h12 : CapKept n s v12 := ite (h11.agentIrq _ _) h11
  have h13 : CapKept n s v13 := ite (h12.agentAlarm _ _ _) h12
  have h14 : CapKept n s v14 := (h13.setObj _ _ _ (by omega)).setObj _ _ _ (by omega)
  split
  · exact ite h14 (h14.thermalShutdown hn _)
  · exact h14

theorem otherRails (h : CapKept n s a) : CapKept n s a.otherRails :=
  foldl (fun _ _ hb => ite (hb.agentIrq _ _) hb) _ h

theorem otherShown (h : CapKept n s a) (sys : Option (List Nat)) : CapKept n s (a.otherShown sys) := by
  unfold State.otherShown
  split
  · exact otherRails (h.of rfl rfl)
  · exact h

theorem tilesCapture (h : CapKept n s a) (hn : n < 40) (sys : Option (List Nat)) (l : List (Nat × Int × Nat × Nat)) (before : Nat) :
    CapKept n s (a.tilesCapture n sys l before) :=
  have h4 := foldl (f := fun a (x : Nat × Int × Nat × Nat) => a.tileCapture x.1 x.2) (fun _ x hb => hb.tileCapture x.1 x.2) l
    (h.otherShown sys)
  have h5 := foldl (f := fun a (x : Nat × Int × Nat × Nat) => a.sensorStep x.1 x.2.1) (fun _ x hb => hb.sensorStep hn x.1 x.2.1) l h4
  have h6 := foldl (f := fun a (x : Nat × Int × Nat × Nat) => a.substitute x.1) (fun _ x hb => hb.substitute x.1) l h5
  (foldl (f := fun a (x : Nat × Int × Nat × Nat) => a.tileThermal x.1) (fun _ x hb => hb.tileThermal x.1) l h6).poundThermal hn before

end CapKept

/-- The demand of a pound's rail limit after a capture (R354). -/
def State.railDemand (s : State) (n vn vm : Nat) : Nat :=
  if vn * 100 > 110 * s.vpnLimit n ∨ vn > 1000 * s.rating n ∨ vm * 100 > 110 * s.vpmLimit n then 12
  else if vn > s.vpnLimit n ∨ vm > s.vpmLimit n then min 12 (s.obj (0x2220 + n) 3 + 2)
  else if vn * 100 < 90 * s.vpnLimit n ∧ vm * 100 < 90 * s.vpmLimit n ∧ ((s.pound n).low + 1) % 8 = 0 then s.obj (0x2220 + n) 3 - 1
  else s.obj (0x2220 + n) 3

theorem State.railDemand_lt (s : State) (n vn vm : Nat) : s.railDemand n vn vm < 2 ^ 64 := by
  have hk : s.obj (0x2220 + n) 3 < 2 ^ 64 := BitVec.isLt _
  unfold State.railDemand
  split
  · decide
  · split
    · omega
    · split <;> omega

theorem State.railCapture_shows (hc : Canonical s) (hw : Map.wf s.power.pounds (fun _ => Pound.init) = true) (n vn vm : Nat) :
    (s.railCapture n vn vm).obj (0x2220 + n) 3 = s.railDemand n vn vm ∧
      Map.wf (s.railCapture n vn vm).power.pounds (fun _ => Pound.init) = true ∧
      ((s.railCapture n vn vm).pound n).caps = (s.pound n).caps := by
  have hout := unwatched_false
  have hlt := s.railDemand_lt n vn vm
  unfold State.railCapture
  extract_lets +onlyGivenNames -merge -useContext -underBinder va vb k far farM above low c s1 s2 s3 s4 k'
  have h1 : CapKept n s s1 := (CapKept.refl hw).updPound _ _ fun _ => rfl
  have g1 := State.updPound_good (n := n) (f := fun p => { p with low := c }) (good_start hc noParts)
  have g2 : Good _ s2 := good_ite (State.bumpObj_good g1) g1
  have g3 : Good _ s3 := good_ite (State.agentIrq_good g2) g2
  have hc4 : Canonical s4 := (good_ite (State.agentIrq_good g3) g3).canon
  have h2 : CapKept n s s2 := CapKept.ite (h1.setObj _ _ _ (by omega)) h1
  have h3 : CapKept n s s3 := CapKept.ite (h2.agentIrq _ _) h2
  have h4 : CapKept n s s4 := CapKept.ite (h3.agentIrq _ _) h3
  have hk : k' = s.railDemand n vn vm := by
    by_cases h : vn * 100 < 90 * s.vpnLimit n ∧ vm * 100 < 90 * s.vpmLimit n
    · have hlow : low = true := by simpa [low, va, vb] using h
      simp only [k', c, hlow, State.railDemand, far, farM, above, va, vb, k, h, Bool.or_eq_true, decide_eq_true_eq, if_true, or_assoc,
        Bool.true_and, true_and]
    · have hlow : low = false := by simpa [low, va, vb] using h
      have hdown : ¬ (vn * 100 < 90 * s.vpnLimit n ∧ vm * 100 < 90 * s.vpmLimit n ∧ ((s.pound n).low + 1) % 8 = 0) :=
        fun hall => h ⟨hall.1, hall.2.1⟩
      simp only [k', hlow, State.railDemand, far, farM, above, va, vb, k, Bool.or_eq_true, decide_eq_true_eq, or_assoc,
        Bool.false_and, Bool.false_eq_true, if_false, if_neg hdown]
  refine ⟨?_, h4.wf, h4.caps⟩
  rw [State.obj_setObj_same _ hc4, hk, Nat.mod_eq_of_lt hlt]

/-- A capture counts its readings and sets the demand of the pound's rail limit. -/
theorem State.capture_shows (hc : Canonical s) (hw : Map.wf s.power.pounds (fun _ => Pound.init) = true) {n : Nat} (hn : n < 40)
    (vn vm : Nat) (sys : Option (List Nat)) (tiles : List (Int × Nat × Nat)) (hrun : s.power.restart.contains (n / 5) = false) :
    ((s.capture n vn vm sys tiles).pound n).caps = ((vn, vm) :: (s.pound n).caps).take 125 ∧
      (s.capture n vn vm sys tiles).obj (0x2220 + n) 3 = s.railDemand n vn vm := by
  have hout := unwatched_false
  have hp : ∀ f : Pound → Pound, (s.updPound n f).pound n = f (s.pound n) := State.pound_updPound_same hw n
  obtain ⟨hdemand, hwf, hcaps⟩ := State.railCapture_shows (s := s.readings n vn vm)
    (State.updPound_good (good_start hc noParts)).canon (State.pounds_updPound hw _ _) n vn vm
  have hrest := (CapKept.refl hwf).tilesCapture hn sys ((poundPhys n).zip tiles) (s.throttling n).length
  rw [State.capture_eq _ _ _ _ _ _ hrun]
  refine ⟨?_, ?_⟩
  · rw [hrest.caps, hcaps, State.readings, hp]
  · rw [hrest.demand, hdemand, State.railDemand, State.readings, hp]
    rfl

/-! ## The tile's readings (R341, R342, R355) -/

/-- `a` has the registers of `s`, its places, its throttle threshold, and the sensors' counts. -/
structure Metered (s a : State) : Prop where
  placed : Placed s a
  tregs : a.tregs = s.tregs
  hot : a.power.hot = s.power.hot
  odd : a.power.odd = s.power.odd
  thr : a.obj 0x2280 1 = s.obj 0x2280 1

namespace Metered

variable {a : State}

theorem refl (hc : Canonical s) : Metered s s := ⟨Placed.refl hc, rfl, rfl, rfl, rfl⟩

theorem updPound (h : Metered s a) (n : Nat) (f : Pound → Pound) : Metered s (a.updPound n f) :=
  ⟨h.placed.trans ⟨State.updPound_canonical h.placed.canon n f, fun _ => rfl⟩, h.tregs, h.hot, h.odd, h.thr⟩

theorem setObj (h : Metered s a) {i j : Nat} (hi : i < 0x2280) (hj : j < 256) (v : Nat) : Metered s (a.setObj i j v) :=
  ⟨h.placed.setObj (by omega) hj v, h.tregs, h.hot, h.odd, (State.obj_setObj_else _ _ _ _ _ _ (by omega)).trans h.thr⟩

theorem agentIrq (h : Metered s a) (cause detail : Nat) : Metered s (a.agentIrq cause detail) :=
  ⟨h.placed.agentIrq cause detail, h.tregs, h.hot, h.odd, h.thr⟩

theorem ite {b : State} {c : Prop} [Decidable c] (ha : Metered s a) (hb : Metered s b) : Metered s (if c then a else b) := by
  split
  · exact ha
  · exact hb

theorem railCapture (h : Metered s a) {n : Nat} (hn : n < 40) (vn vm : Nat) : Metered s (a.railCapture n vn vm) := by
  unfold State.railCapture
  extract_lets +onlyGivenNames -merge -useContext -underBinder va vb k far farM above low c s1 s2 s3 s4 k'
  have h1 : Metered s s1 := h.updPound _ _
  have h2 : Metered s s2 := Metered.ite (h1.setObj (by omega) (by decide) _) h1
  have h3 : Metered s s3 := Metered.ite (h2.agentIrq _ _) h2
  have h4 : Metered s s4 := Metered.ite (h3.agentIrq _ _) h3
  exact h4.setObj (by omega) (by decide) _

theorem otherRails (h : Metered s a) : Metered s a.otherRails := by
  unfold State.otherRails
  generalize List.range 3 = xs
  induction xs generalizing a with
  | nil => exact h
  | cons x xs ih => exact ih (Metered.ite (h.agentIrq _ _) h)

theorem otherShown (h : Metered s a) (sys : Option (List Nat)) : Metered s (a.otherShown sys) := by
  have hout := unwatched_false
  unfold State.otherShown
  split
  · exact otherRails ⟨h.placed.trans ⟨(good_power (good_start h.placed.canon noParts) _).canon, fun _ => rfl⟩, h.tregs, h.hot, h.odd, h.thr⟩
  · exact h

theorem captured (hc : Canonical s) {n : Nat} (hn : n < 40) (vn vm : Nat) (sys : Option (List Nat)) :
    Metered s (((s.readings n vn vm).railCapture n vn vm).otherShown sys) :=
  (((Metered.refl hc).updPound _ _).railCapture hn vn vm).otherShown sys

end Metered

/-- The first tile of a pound's captures. -/
theorem poundPhys_head (n : Nat) : (poundPhys n).head? = some (pAt (n / 5) 0 (5 * (n % 5))) := rfl

theorem poundPhys_zip_one (n : Nat) (m : Int × Nat × Nat) : (poundPhys n).zip [m] = [(pAt (n / 5) 0 (5 * (n % 5)), m)] := by
  obtain ⟨ps, h⟩ := List.head?_eq_some_iff.mp (poundPhys_head n)
  rw [h, List.zip_cons_cons, List.zip_nil_right]

/-- A reading within the sensor's range is read back from the sensor's register. -/
theorem signed_reading {x : Int} (hlow : -400 ≤ x) (hhigh : x ≤ 1500) : signed 32 ((x % 2 ^ 32).toNat % 2 ^ 64) = x := by
  unfold signed
  split <;> omega

/-- `a` has taken the readings `m` of the tile at `p`, whose sensor has not failed. -/
structure Sensed (s : State) (p : Nat) (m : Int × Nat × Nat) (a : State) : Prop where
  placed : Placed s a
  thr : a.tThr = s.tThr
  failed : a.sensorFailed p = false
  volts : a.regN (s.holder p) 0x7008 = min m.2.1 1000
  amps : a.regN (s.holder p) 0x700c = min m.2.2 8000
  temp : a.tj (s.holder p) = m.1

theorem Sensed.power {a : State} {p : Nat} {m : Int × Nat × Nat} (h : Sensed s p m a) (q : Power) :
    Sensed s p m { a with power := q } := by
  have hout := unwatched_false
  exact ⟨h.placed.trans ⟨(good_power (good_start h.placed.canon noParts) _).canon, fun _ => rfl⟩, h.thr, h.failed, h.volts, h.amps, h.temp⟩

theorem State.tThr_setRegN (s : State) (t off v : Nat) : (s.setRegN t off v).tThr = s.tThr := rfl

theorem Metered.tileCapture {a : State} {p : Nat} {m : Int × Nat × Nat} (h : Metered s a) (hf : s.sensorFailed p = false)
    (hlow : -400 ≤ m.1) (hhigh : m.1 ≤ 1500) : Sensed s p m (a.tileCapture p m) ∧ (a.tileCapture p m).power = a.power := by
  have hreg : ∀ t off, a.regN t off = s.regN t off := State.regN_of_tregs h.tregs
  have hnear : ∀ (b : State) (off v : Nat), off < 65536 → off ≠ 0x710c → (b.setRegN (s.holder p) off v).regN (s.holder p) 0x710c =
      b.regN (s.holder p) 0x710c := fun b off v hoff hne =>
    State.regN_setRegN_other _ _ hoff (by decide) (Or.inr (Ne.symm hne))
  have hfail : bitOf (a.regN (s.holder p) 0x710c) 0 = false := by rw [hreg]; exact hf
  have hwrite : a.tileCapture p m = (((a.setRegN (s.holder p) 0x7008 (min m.2.1 1000)).setRegN (s.holder p) 0x700c
      (min m.2.2 8000)).setRegN (s.holder p) 0x7108 (m.1 % 2 ^ 32).toNat) := by
    unfold State.tileCapture
    extract_lets +onlyGivenNames -merge -useContext -underBinder hold s1
    have hh : hold = s.holder p := h.placed.holder p
    have hs1 : s1 = (a.setRegN (s.holder p) 0x7008 (min m.2.1 1000)).setRegN (s.holder p) 0x700c (min m.2.2 8000) := by
      simp only [s1, hh]
    have hok : ¬ (a.sensorFailed p = true) := by
      rw [State.sensorFailed, h.placed.holder, hfail]
      decide
    rw [if_neg hok, hs1, hh]
  have h1 := h.placed.setRegN (s.holder p) 0x7008 (min m.2.1 1000)
  have h2 := h1.setRegN (s.holder p) 0x700c (min m.2.2 8000)
  have h3 := h2.setRegN (s.holder p) 0x7108 (m.1 % 2 ^ 32).toNat
  rw [hwrite]
  refine ⟨⟨h3, ?_, ?_, ?_, ?_, ?_⟩, by rw [State.setRegN_power, State.setRegN_power, State.setRegN_power]⟩
  · rw [State.tThr_setRegN, State.tThr_setRegN, State.tThr_setRegN, State.tThr, h.thr, State.tThr]
  · rw [State.sensorFailed, h3.holder, hnear _ _ _ (by decide) (by decide), hnear _ _ _ (by decide) (by decide),
      hnear _ _ _ (by decide) (by decide), hfail]
  · rw [State.regN_setRegN_other _ _ (by decide) (by decide) (Or.inr (by decide)),
      State.regN_setRegN_other _ _ (by decide) (by decide) (Or.inr (by decide)), State.regN_setRegN_same h.placed.canon]
    omega
  · rw [State.regN_setRegN_other _ _ (by decide) (by decide) (Or.inr (by decide)), State.regN_setRegN_same h1.canon]
    omega
  · rw [State.tj, State.regN_setRegN_same h2.canon, signed_reading hlow hhigh]

/-- Readings that are in range and not odd for too long leave the sensor in use. -/
theorem Sensed.sensorStep {a : State} {p : Nat} {m : Int × Nat × Nat} (h : Sensed s p m a) (hodd : Map.get a.power.odd 0 p < 15)
    (hlow : -400 ≤ m.1) (hhigh : m.1 ≤ 1500) :
    Sensed s p m (a.sensorStep p m.1) ∧ (a.sensorStep p m.1).power.hot = a.power.hot := by
  unfold State.sensorStep
  extract_lets +onlyGivenNames -merge -useContext -underBinder hold
  rw [if_neg (by rw [h.failed]; decide)]
  extract_lets +onlyGivenNames -merge -useContext -underBinder n p1 s1
  have hn : n < 16 := by
    simp only [n]
    split <;> omega
  rw [if_neg (by omega)]
  exact ⟨h.power _, rfl⟩

theorem Sensed.substitute {a : State} {p : Nat} {m : Int × Nat × Nat} (h : Sensed s p m a) : a.substitute p = a :=
  if_neg (by rw [h.failed]; decide)

/-- The counts of hot captures of the tile at `p`, when it had none. -/
def hotOnce (p : Nat) (x : Int) : Map Nat :=
  Map.put (Map.put [] 0 (2 * p + 0) (if 1050 ≤ x then 1 else 0)) 0 (2 * p + 1)
    (if 1100 ≤ x then Map.get (Map.put ([] : Map Nat) 0 (2 * p + 0) (if 1050 ≤ x then 1 else 0)) 0 (2 * p + 1) + 1 else 0)

theorem hotOnce_le (p q : Nat) (x : Int) : Map.get (hotOnce p x) 0 (2 * q + 1) ≤ 1 := by
  have hfirst : ∀ q, Map.get (Map.put ([] : Map Nat) 0 (2 * p + 0) (if 1050 ≤ x then 1 else 0)) 0 (2 * q + 1) = 0 := fun q =>
    Map.get_put_other _ _ _ _ _ _ (by omega)
  have hwf : Map.wf (Map.put ([] : Map Nat) 0 (2 * p + 0) (if 1050 ≤ x then 1 else 0)) (fun _ => 0) = true :=
    Map.wf_put _ _ _ _ _ rfl rfl
  unfold hotOnce
  by_cases hq : q = p
  · subst hq
    rw [Map.get_put_same _ (fun _ => 0) _ _ _ hwf, hfirst]
    split <;> omega
  · rw [Map.get_put_other _ _ _ _ _ _ (by omega), hfirst]
    omega

theorem Sensed.tileThermal {a : State} {p : Nat} {m : Int × Nat × Nat} (h : Sensed s p m a) (hhot : a.power.hot = [])
    (hthr : s.tThr ≤ m.1) :
    Sensed s p m (a.tileThermal p) ∧ (a.tileThermal p).power.hot = hotOnce p m.1 ∧
      bitsOf ((a.tileThermal p).regN (s.holder p) 0x7100) 15 12 = min 12 (2 + 2 * ((m.1 - s.tThr) / 10).toNat) := by
  have hlt : a.regN (s.holder p) 0x7100 < 2 ^ 64 := BitVec.isLt _
  unfold State.tileThermal
  extract_lets +onlyGivenNames -merge -useContext -underBinder hold t thr v old cool k hot pw s1
  have hh : hold = s.holder p := h.placed.holder p
  have ht : t = m.1 := by simp only [t, hh, h.temp]
  have hk : k = min 12 (2 + 2 * ((m.1 - s.tThr) / 10).toNat) := by
    simp only [k, ht, thr, h.thr]
    exact if_pos hthr
  have hv : v = a.regN (s.holder p) 0x7100 := by simp only [v, hh]
  have h1 : Sensed s p m s1 := h.power _
  obtain ⟨hplaced, hthr1, hfailed, hvolts, hamps, htemp⟩ := h1
  have hne : ∀ off, off < 65536 → off ≠ 0x7100 → (s1.setRegN hold 0x7100 (v - old * 4096 + k * 4096)).regN (s.holder p) off =
      s1.regN (s.holder p) off := fun off hoff hne => State.regN_setRegN_other _ _ (by decide) hoff (Or.inr hne)
  have hlast := hplaced.setRegN hold 0x7100 (v - old * 4096 + k * 4096)
  refine ⟨⟨hlast, ?_, ?_, ?_, ?_, ?_⟩, ?_, ?_⟩
  · rw [State.tThr_setRegN, hthr1]
  · rw [State.sensorFailed, hlast.holder, hne _ (by decide) (by decide), ← hplaced.holder]
    exact hfailed
  · rw [hne _ (by decide) (by decide), hvolts]
  · rw [hne _ (by decide) (by decide), hamps]
  · rw [State.tj, hne _ (by decide) (by decide)]
    exact htemp
  · rw [State.setRegN_power]
    simp only [s1, hot, hhot, ht, hotOnce]
    rfl
  · have hold2 : old = v / 2 ^ 12 % 2 ^ 4 := rfl
    rw [hh, State.regN_setRegN_same hplaced.canon, bitsOf, hold2, ← hk]
    have : k ≤ 12 := by omega
    omega

/-- A pound whose tiles are not hot for two captures keeps every register. -/
theorem State.poundThermal_tregs (s : State) (n before : Nat) (hcold : ∀ q, Map.get s.power.hot 0 (2 * q + 1) ≤ 1) :
    (s.poundThermal n before).tregs = s.tregs := by
  unfold State.poundThermal
  extract_lets +onlyGivenNames -merge -useContext -underBinder ps t hotAt now pn near warm critNow crit say s1 s2 s3 s4
  have hnone : ps.find? (hotAt 1) = none := List.find?_eq_none.mpr fun q _ => by
    have := hcold q
    simp only [hotAt, decide_eq_true_eq]
    omega
  have h1 : s1.tregs = s.tregs := rfl
  have h2 : s2.tregs = s1.tregs := by
    simp only [s2]
    split <;> rfl
  have h3 : s3.tregs = s2.tregs := by
    simp only [s3]
    split <;> rfl
  have h4 : s4.tregs = s3.tregs := rfl
  rw [hnone]
  exact h4.trans (h3.trans (h2.trans h1))

/-- A capture of one tile shows its readings, and the demand of its temperature (R355). -/
theorem State.capture_tile (hc : Canonical s) {n : Nat} (hn : n < 40) (vn vm : Nat) (sys : Option (List Nat)) (m : Int × Nat × Nat)
    (hrun : s.power.restart.contains (n / 5) = false) (hhot : s.power.hot = []) {p : Nat} (hp : p = pAt (n / 5) 0 (5 * (n % 5)))
    (hf : s.sensorFailed p = false) (hodd : Map.get s.power.odd 0 p < 15) (hlow : -400 ≤ m.1) (hhigh : m.1 ≤ 1500)
    (hthr : s.tThr ≤ m.1) :
    (s.capture n vn vm sys [m]).regN (s.holder p) 0x7008 = min m.2.1 1000 ∧
      (s.capture n vn vm sys [m]).regN (s.holder p) 0x700c = min m.2.2 8000 ∧
      bitsOf ((s.capture n vn vm sys [m]).regN (s.holder p) 0x7100) 15 12 = min 12 (2 + 2 * ((m.1 - s.tThr) / 10).toNat) := by
  have hm := Metered.captured hc hn vn vm sys
  have hcapt := State.capture_eq s n vn vm sys [m] hrun
  rw [poundPhys_zip_one, ← hp] at hcapt
  generalize (s.readings n vn vm).railCapture n vn vm = a at hm hcapt
  obtain ⟨h4, hp4⟩ := hm.tileCapture hf hlow hhigh
  obtain ⟨h5, hhot5⟩ := h4.sensorStep (by rw [hp4, hm.odd]; exact hodd) hlow hhigh
  obtain ⟨h7, hhot7, hdemand⟩ := h5.tileThermal (by rw [hhot5, hp4, hm.hot, hhot]) hthr
  have hlast : s.capture n vn vm sys [m] = ((((a.otherShown sys).tileCapture p m).sensorStep p m.1).tileThermal p).poundThermal n
      (s.throttling n).length := by
    rw [hcapt, State.tilesCapture, List.foldl_cons, List.foldl_nil, List.foldl_cons, List.foldl_nil, List.foldl_cons,
      List.foldl_nil, List.foldl_cons, List.foldl_nil, h5.substitute]
  have hregs := State.regN_of_tregs (State.poundThermal_tregs _ n (s.throttling n).length
    (fun q => by rw [hhot7]; exact hotOnce_le p q m.1))
  rw [hlast, hregs, hregs, hregs]
  exact ⟨h7.volts, h7.amps, hdemand⟩

/-! ## The estimate (R341, R346) -/

/-- The estimates of every pound, and the device that has noted them. -/
def State.sampled (s : State) : PoundPower × State :=
  (List.range 40).foldl (fun (a : PoundPower × State) n =>
    let (x, t) := a.2.samplePound n (s.fresh.1.toNat % 2 ^ 32)
    (a.1.add x, t)) (PoundPower.zero, s.fresh.2)

/-- The device that a sample leaves before it sets its cap. -/
def State.noted (s : State) (parts : PoundPower) : State :=
  let last := (List.range 2600).foldl (fun m p =>
    (vtEvents ++ vmEvents).foldl (fun m e =>
      Map.put m 0 (65536 * s.holder p + e.1) (s.regN (s.holder p) e.1)) m) s.power.last
  let classes := [s.linkPower, s.keeperPower, (parts.bank + parts.fill + parts.acc) / 1000000, (parts.dyn + parts.leak) / 1000000]
  { s with power := { s.power with
    last := last, classes := List.zipWith (· + ·) s.power.classes classes, classN := s.power.classN + 1 } }

/-- The budget of the sample, shown. -/
def State.allowed (s : State) (budget : Nat × Nat) : State :=
  (s.setObj 0x2200 3 (f32Of (dieShare budget.2) 1000)).setObj 0x2200 4 budget.1

/-- The device after a sample with the estimates `parts`, on the device `s` that has noted them. -/
def State.sampleEnd (s : State) (parts : PoundPower) : State :=
  let a := (s.noted parts).allowed s.budget
  a.newCap ((parts.dyn0 + parts.acc0) / 1000000) (a.linkPower + a.keeperPower + (parts.bank + parts.fill + parts.leak) / 1000000)
    (dieShare s.budget.2)

theorem State.estimateSample_eq (s : State) : s.estimateSample = s.sampled.2.sampleEnd s.sampled.1 := by
  have hall : ∀ x, s.sampled = x → s.estimateSample = x.2.sampleEnd x.1 := fun ⟨parts, a⟩ hx => by
    unfold State.sampled at hx
    unfold State.estimateSample
    generalize s.fresh = f at hx ⊢
    obtain ⟨v, s0⟩ := f
    dsimp only at hx ⊢
    rw [hx]
    unfold State.sampleEnd State.allowed State.noted
    rcases a.budget with ⟨src, b⟩
    rfl
  exact hall _ rfl

/-- A sample notes estimates at pounds and nothing else. -/
structure PoundsOnly (s a : State) : Prop where
  eq : ∃ k ps, a = { s with free := k, power := { s.power with pounds := ps } }

theorem PoundsOnly.samplePound {a : State} (h : PoundsOnly s a) (n share : Nat) : PoundsOnly s (a.samplePound n share).2 := by
  obtain ⟨k, ps, rfl⟩ := h
  unfold State.samplePound
  split
  · exact ⟨k, ps, rfl⟩
  · exact ⟨k, _, rfl⟩

theorem State.sampled_only (s : State) : PoundsOnly s s.sampled.2 := by
  unfold State.sampled
  have h0 : PoundsOnly s (PoundPower.zero, s.fresh.2).2 := ⟨_, _, rfl⟩
  generalize (PoundPower.zero, s.fresh.2) = a at h0 ⊢
  generalize List.range 40 = xs
  induction xs generalizing a with
  | nil => exact h0
  | cons x xs ih => exact ih _ (h0.samplePound _ _)

/-- With no pound on there is nothing to estimate. -/
theorem State.sampled_dark (s : State) (hoff : ∀ n, n < 40 → s.poundState n ≠ 3) :
    s.sampled = (PoundPower.zero, s.fresh.2) := by
  have hkeep : ∀ xs : List Nat, (∀ n ∈ xs, n < 40) → xs.foldl (fun (a : PoundPower × State) n =>
      let (x, t) := a.2.samplePound n (s.fresh.1.toNat % 2 ^ 32)
      (a.1.add x, t)) (PoundPower.zero, s.fresh.2) = (PoundPower.zero, s.fresh.2) := fun xs => by
    induction xs with
    | nil => exact fun _ => rfl
    | cons n xs ih =>
      intro hxs
      have hone : s.fresh.2.samplePound n (s.fresh.1.toNat % 2 ^ 32) = (PoundPower.zero, s.fresh.2) :=
        if_pos (hoff n (hxs n List.mem_cons_self))
      rw [List.foldl_cons]
      simp only [hone]
      exact ih fun m hm => hxs m (List.mem_cons_of_mem _ hm)
  exact hkeep _ fun n => List.mem_range.mp

theorem capFor_zero {f : Int} (h : f < 0) : capFor 0 f = 13 := by
  have hnone : (List.range 13).find? (fun (k : Nat) => decide (0 ≤ f ∧ (0 : Int) * ((16 : Int) - (k : Int)) ≤ f * 16)) = none :=
    List.find?_eq_none.mpr fun k _ => by
      rw [decide_eq_true_eq]
      exact fun hk => absurd hk.1 (by omega)
  rw [capFor, hnone, Option.getD_none]

/-- A new cap leaves the budget and its source. -/
theorem State.newCap_budget (s : State) (d0 fixed a : Nat) (j : Nat) (hj : j = 3 ∨ j = 4) :
    (s.newCap d0 fixed a).obj 0x2200 j = s.obj 0x2200 j := by
  unfold State.newCap
  extract_lets +onlyGivenNames -merge -useContext -underBinder k old p0 p s1 least s2 k'
  have h1 : s1.obj 0x2200 j = s.obj 0x2200 j := rfl
  have h2 : s2.obj 0x2200 j = s1.obj 0x2200 j := by
    simp only [s2]
    split
    · rw [State.bumpObj, State.obj_setObj_else _ _ _ _ _ _ (by omega)]
      rfl
    · rfl
  split
  · rw [State.obj_setObj_else _ _ _ _ _ _ (by omega), h2, h1]
  · split
    · exact (State.obj_setObj_else s2 _ _ _ _ _ (by omega)).trans (h2.trans h1)
    · rw [h2, h1]

/-- A budget that the unscaled power alone exceeds ends in the highest cap, and is reported once (R346). -/
theorem State.newCap_unmet (hc : Canonical s) {fixed a : Nat} (hunmet : a < fixed) (hcap : s.obj 0x2200 5 ≤ 12) :
    (s.newCap 0 fixed a).obj 0x2200 5 = 12 ∧ (s.newCap 0 fixed a).power.unmet = true ∧
      (s.power.unmet = false → (s.newCap 0 fixed a).irqQ = s.irqQ ++ [⟨0x169, fixed / 1000, 0, 0, 16, 2304, 0⟩]) := by
  have hout := unwatched_false
  generalize hb : s.newCap 0 fixed a = b
  unfold State.newCap at hb
  extract_lets +onlyGivenNames -merge -useContext -underBinder k old p0 p s1 least s2 k' at hb
  have hk : k = 13 := capFor_zero (by omega)
  have hk' : k' = 12 := by simp only [k', hk]; rfl
  have hleast : least = fixed := by simp only [least]; omega
  have hun : p.unmet = true := by simp only [p, hk]; rfl
  have g1 : Good _ s1 := good_power (good_start hc noParts) _
  have g2 : Good _ s2 := good_ite (State.bumpObj_good (State.agentIrq_good g1)) g1
  have hobj : s2.obj 0x2200 5 = old := by
    simp only [s2]
    split
    · rw [State.bumpObj, State.obj_setObj_else _ _ _ _ _ _ (by omega)]
      rfl
    · rfl
  have hpow : s2.power.unmet = true := by
    simp only [s2]
    split <;> exact hun
  have hirq : s.power.unmet = false → s2.irqQ = s.irqQ ++ [⟨0x169, fixed / 1000, 0, 0, 16, 2304, 0⟩] := fun hfirst => by
    have hs2 : s2 = (s1.agentIrq 0x169 (least / 1000)).bumpObj 0x2200 8 1 := if_pos ⟨hk, hfirst⟩
    rw [hs2, hleast]
    rfl
  rw [hk'] at hb
  by_cases hless : old < 12
  · rw [if_pos hless] at hb
    subst hb
    exact ⟨State.obj_setObj_same _ g2.canon _ _ _, hpow, hirq⟩
  · rw [if_neg hless, if_neg (by omega)] at hb
    subst hb
    exact ⟨hobj.trans (by omega), hpow, hirq⟩

theorem State.setBudget_source_le (s : State) : s.setBudget.1 ≤ 1 := by
  unfold State.setBudget
  split <;> simp

theorem State.budget_source_le (s : State) : s.budget.1 ≤ 4 := by
  have hstep : ∀ (xs : List (Nat × Nat)) (a : Nat × Nat), (∀ x ∈ xs, x.1 ≤ 4) → a.1 ≤ 4 →
      (xs.foldl (fun a x => if x.2 < a.2 then x else a) a).1 ≤ 4 := fun xs => by
    induction xs with
    | nil => exact fun _ _ ha => ha
    | cons x xs ih =>
      intro a hxs ha
      have hone : (if x.2 < a.2 then x else a).1 ≤ 4 := by
        split
        · exact hxs x List.mem_cons_self
        · exact ha
      exact ih _ (fun y hy => hxs y (List.mem_cons_of_mem _ hy)) hone
  refine hstep _ _ (fun x hx => ?_) (Nat.le_trans s.setBudget_source_le (by decide))
  simp only [List.mem_cons, List.not_mem_nil, or_false] at hx
  rcases hx with rfl | rfl | rfl <;> dsimp only <;> omega

/-- `a` has the objects, the fieldbus, the rails and the shape of `s`, from which a sample takes its budget. -/
structure SampleOf (s a : State) : Prop where
  canon : Canonical a
  objs : a.objs = s.objs
  irqQ : a.irqQ = s.irqQ
  srv : a.srv = s.srv
  boot : a.boot = s.boot
  rails : a.power.rails = s.power.rails
  unmet : a.power.unmet = s.power.unmet

theorem PoundsOnly.sampleOf {a : State} (hc : Canonical s) (h : PoundsOnly s a) : SampleOf s a := by
  obtain ⟨k, ps, rfl⟩ := h
  exact ⟨⟨hc.mem, hc.tregs, hc.objs, hc.bar0, hc.win, hc.tiles, hc.basins, hc.hubs, hc.seams⟩, rfl, rfl, rfl, rfl, rfl, rfl⟩

theorem State.noted_power (s : State) (parts : PoundPower) :
    ∃ p, s.noted parts = { s with power := p } ∧ p.rails = s.power.rails ∧ p.unmet = s.power.unmet := ⟨_, rfl, rfl, rfl⟩

theorem SampleOf.noted {a : State} (h : SampleOf s a) (parts : PoundPower) : SampleOf s (a.noted parts) := by
  obtain ⟨p, hp, hrails, hunmet⟩ := a.noted_power parts
  obtain ⟨hc, hobjs, hirq, hsrv, hboot, hr, hu⟩ := h
  rw [hp]
  exact ⟨⟨hc.mem, hc.tregs, hc.objs, hc.bar0, hc.win, hc.tiles, hc.basins, hc.hubs, hc.seams⟩, hobjs, hirq, hsrv, hboot,
    hrails.trans hr, hunmet.trans hu⟩

theorem SampleOf.budget {a : State} (h : SampleOf s a) : a.budget = s.budget := by
  simp only [State.budget, State.setBudget, State.obj_of_objs h.objs, h.srv]

theorem State.otherPower_congr {a : State} (hrails : a.power.rails = s.power.rails) (hboot : a.boot = s.boot) :
    a.linkPower + a.keeperPower = s.linkPower + s.keeperPower := by
  simp only [State.linkPower, State.keeperPower, State.rail, State.shapeRows, hrails, hboot]

theorem State.allowed_power (s : State) (budget : Nat × Nat) : (s.allowed budget).power = s.power := by
  rw [State.allowed, State.setObj_power, State.setObj_power]

theorem State.allowed_boot (s : State) (budget : Nat × Nat) : (s.allowed budget).boot = s.boot := by
  rw [State.allowed, State.setObj_boot, State.setObj_boot]

theorem State.allowed_irqQ (s : State) (budget : Nat × Nat) : (s.allowed budget).irqQ = s.irqQ := by
  rw [State.allowed, State.setObj_irqQ, State.setObj_irqQ]

theorem State.allowed_canonical (hc : Canonical s) (budget : Nat × Nat) : Canonical (s.allowed budget) :=
  State.setObj_canonical (State.setObj_canonical hc _ _ _) _ _ _

/-- A sample shows the budget in force, and asks for the highest cap where nothing fits (R341, R346). -/
theorem State.estimateSample_shows (hc : Canonical s) :
    s.estimateSample.obj 0x2200 3 = f32Of (dieShare s.budget.2) 1000 % 2 ^ 64 ∧ s.estimateSample.obj 0x2200 4 = s.budget.1 ∧
      ((∀ n, n < 40 → s.poundState n ≠ 3) → s.obj 0x2200 5 ≤ 12 → dieShare s.budget.2 < s.linkPower + s.keeperPower →
        s.estimateSample.obj 0x2200 5 = 12 ∧ s.estimateSample.power.unmet = true ∧
        (s.power.unmet = false →
          s.estimateSample.irqQ = s.irqQ ++ [⟨0x169, (s.linkPower + s.keeperPower) / 1000, 0, 0, 16, 2304, 0⟩])) := by
  have hb := s.sampled_only.sampleOf hc
  have ha := hb.noted s.sampled.1
  have hcan := State.allowed_canonical ha.canon s.sampled.2.budget
  have h3 : ∀ (a : State), Canonical a → ∀ budget, (a.allowed budget).obj 0x2200 3 = f32Of (dieShare budget.2) 1000 % 2 ^ 64 :=
    fun a hca budget => by
      rw [State.allowed, State.obj_setObj_else _ _ _ _ _ _ (by decide), State.obj_setObj_same _ hca]
  have h4 : ∀ (a : State), Canonical a → ∀ budget : Nat × Nat, budget.1 ≤ 4 → (a.allowed budget).obj 0x2200 4 = budget.1 :=
    fun a hca budget hle => by
      rw [State.allowed, State.obj_setObj_same _ (State.setObj_canonical hca _ _ _)]
      omega
  have h5 : ∀ (a : State) (budget : Nat × Nat), (a.allowed budget).obj 0x2200 5 = a.obj 0x2200 5 := fun a budget => by
    rw [State.allowed, State.obj_setObj_else _ _ _ _ _ _ (by decide), State.obj_setObj_else _ _ _ _ _ _ (by decide)]
  have hrest : ∀ (a : State) (budget : Nat × Nat), (a.allowed budget).linkPower + (a.allowed budget).keeperPower =
      a.linkPower + a.keeperPower := fun a budget =>
    State.otherPower_congr (congrArg Power.rails (State.allowed_power a budget)) (State.allowed_boot a budget)
  rw [State.estimateSample_eq, State.sampleEnd, hb.budget]
  rw [hb.budget] at hcan
  refine ⟨?_, ?_, fun hoff hcap hless => ?_⟩
  · rw [State.newCap_budget _ _ _ _ 3 (Or.inl rfl), h3 _ ha.canon]
  · rw [State.newCap_budget _ _ _ _ 4 (Or.inr rfl), h4 _ ha.canon _ s.budget_source_le]
  · have hzero := s.sampled_dark hoff
    have hparts : s.sampled.1 = PoundPower.zero := by rw [hzero]
    rw [hparts] at ha hcan ⊢
    obtain ⟨hcap12, hunmet, hirq⟩ := State.newCap_unmet hcan (fixed := s.linkPower + s.keeperPower) hless (by
      rw [h5, State.obj_of_objs ha.objs]
      exact hcap)
    have hfixed := (hrest (s.sampled.2.noted PoundPower.zero) s.budget).trans (State.otherPower_congr ha.rails ha.boot)
    have hzero0 : (PoundPower.zero.dyn0 + PoundPower.zero.acc0) / 1000000 = 0 := rfl
    have hzero1 : (PoundPower.zero.bank + PoundPower.zero.fill + PoundPower.zero.leak) / 1000000 = 0 := rfl
    rw [hfixed, hzero0, hzero1, Nat.add_zero]
    rw [State.allowed_irqQ, State.allowed_power, ha.irqQ, ha.unmet] at hirq
    exact ⟨hcap12, hunmet, hirq⟩

/-! ## The estimator's gain (R342) -/

/-- `a` has the counts of pound `n` in `s`, and its set point. -/
structure Ungained (n : Nat) (s a : State) : Prop where
  wf : Map.wf a.power.pounds (fun _ => Pound.init) = true
  pound : a.pound n = s.pound n
  volts : a.obj (poundObj n) 3 = s.obj (poundObj n) 3

/-- The gain that an update gives a pound with counts. -/
def State.newGain (s : State) (n : Nat) : Nat :=
  min 1150000000 (max 850000000 ((7 * (s.pound n).gain + s.vpn n * (s.pound n).sumI * 1000 / (s.pound n).sumN * 1000000000 /
    max 1 ((s.pound n).estSum / (s.pound n).estN)) / 8))

/-- The counts of a pound begin anew. -/
def Pound.cleared (p : Pound) : Pound := { p with sumI := 0, sumN := 0, estSum := 0, estN := 0 }

theorem Pound.cleared_gain (p : Pound) : p.cleared.gain = p.gain := rfl

/-- A gain is shown, and reported where it comes to rest at a bound. -/
def State.showGain (s : State) (n g : Nat) (report : Bool) : State :=
  if report then (s.setObj (0x2220 + n) 5 (f32Of g 1000000000)).agentIrq 0x170 n else s.setObj (0x2220 + n) 5 (f32Of g 1000000000)

theorem State.showGain_power (s : State) (n g : Nat) (report : Bool) : (s.showGain n g report).power = s.power := by
  unfold State.showGain
  split
  · rw [State.agentIrq_power, State.setObj_power]
  · rw [State.setObj_power]

theorem State.showGain_volts (s : State) (n g : Nat) (report : Bool) (m : Nat) (_hn : n < 40) :
    (s.showGain n g report).obj (poundObj m) 3 = s.obj (poundObj m) 3 := by
  unfold State.showGain
  split
  · rw [State.obj_agentIrq_read, State.obj_setObj_else _ _ _ _ _ _ (by unfold poundObj; omega)]
  · rw [State.obj_setObj_else _ _ _ _ _ _ (by unfold poundObj; omega)]

theorem State.gainUpdate_idle (s : State) (n : Nat) (h : (s.pound n).sumN = 0 ∨ (s.pound n).estN = 0 ∨ (s.pound n).estSum = 0) :
    s.gainUpdate n = s.updPound n Pound.cleared := if_pos h

theorem State.gainUpdate_counted (s : State) (n : Nat) (h : ¬ ((s.pound n).sumN = 0 ∨ (s.pound n).estN = 0 ∨ (s.pound n).estSum = 0)) :
    ∃ report, s.gainUpdate n =
      ((s.updPound n (fun p => { p with gain := s.newGain n })).showGain n (s.newGain n) report).updPound n Pound.cleared :=
  ⟨_, if_neg h⟩

theorem Ungained.gainUpdate_other {a : State} {n m : Nat} (h : Ungained n s a) (hm : m < 40) (hne : m ≠ n) :
    Ungained n s (a.gainUpdate m) := by
  have hupd : ∀ {b : State} (f : Pound → Pound), Ungained n s b → Ungained n s (b.updPound m f) := fun f hb =>
    ⟨State.pounds_updPound hb.wf _ _, (State.pound_updPound_other _ _ (Ne.symm hne)).trans hb.pound, hb.volts⟩
  by_cases hidle : (a.pound m).sumN = 0 ∨ (a.pound m).estN = 0 ∨ (a.pound m).estSum = 0
  · rw [State.gainUpdate_idle _ _ hidle]
    exact hupd _ h
  · obtain ⟨report, hgain⟩ := a.gainUpdate_counted m hidle
    have h1 := hupd (fun p => { p with gain := a.newGain m }) h
    rw [hgain]
    exact hupd _ ⟨by rw [State.showGain_power]; exact h1.wf, (State.pound_of_power (State.showGain_power _ _ _ _) _).trans h1.pound,
      (State.showGain_volts _ _ _ _ _ hm).trans h1.volts⟩

theorem Ungained.gainUpdate {a : State} {n : Nat} (h : Ungained n s a)
    (hcount : ¬ ((s.pound n).sumN = 0 ∨ (s.pound n).estN = 0 ∨ (s.pound n).estSum = 0)) :
    ((a.gainUpdate n).pound n).gain = s.newGain n ∧ Map.wf (a.gainUpdate n).power.pounds (fun _ => Pound.init) = true := by
  obtain ⟨report, hgain⟩ := a.gainUpdate_counted n (by rw [h.pound]; exact hcount)
  have hnew : a.newGain n = s.newGain n := by rw [State.newGain, State.newGain, h.pound, State.vpn, State.vpn, h.volts]
  have hwf := State.pounds_updPound h.wf n (fun p => { p with gain := a.newGain n })
  have hwf2 : Map.wf ((a.updPound n (fun p => { p with gain := a.newGain n })).showGain n (a.newGain n) report).power.pounds
      (fun _ => Pound.init) = true := by
    rw [State.showGain_power]
    exact hwf
  rw [hgain]
  refine ⟨?_, State.pounds_updPound hwf2 _ _⟩
  rw [State.pound_updPound_same hwf2, Pound.cleared_gain, State.pound_of_power (State.showGain_power _ _ _ _),
    State.pound_updPound_same h.wf, hnew]

/-- A gain update of one pound leaves the gain of another. -/
theorem State.gainUpdate_gain {a : State} {n m g : Nat} (hm : m < 40) (hne : m ≠ n)
    (h : (a.pound n).gain = g ∧ Map.wf a.power.pounds (fun _ => Pound.init) = true) :
    ((a.gainUpdate m).pound n).gain = g ∧ Map.wf (a.gainUpdate m).power.pounds (fun _ => Pound.init) = true := by
  obtain ⟨hwf, hpound, _⟩ := Ungained.gainUpdate_other (s := a) ⟨h.2, rfl, rfl⟩ hm hne
  exact ⟨by rw [hpound, h.1], hwf⟩

/-- What the device shows of its power each millisecond. -/
def State.powerShown (s : State) : State :=
  let m := s.msPower.1 / 1000000 + (s.linkPower + s.keeperPower)
  let e := s.msPower.2 / 1000000 + (s.linkPower + s.keeperPower)
  let s1 := s.setObj 0x2200 7 (f32Of ((((e : Int) - m) * 100)) (max 1 m))
  let s2 := (List.range 4).foldl (fun a i =>
    if a.power.classN = 0 then a else a.setObj 0x2201 (i + 1) (f32Of (s1.power.classes.getD i 0) (1000 * a.power.classN))) s1
  s2.setObj 0x2200 6 (f32Of (inputFor (s2.power.fixed + s2.power.scaled * 4 / 16)) 1000)

/-- The gains of every pound, updated. -/
def State.gainUpdates (s : State) : State := (List.range 40).foldl (fun a n => a.gainUpdate n) s

theorem State.msUpdate_eq (s : State) : s.msUpdate = { s.powerShown.gainUpdates with
    power := { s.powerShown.gainUpdates.power with classes := [0, 0, 0, 0], classN := 0 } } := by
  unfold State.msUpdate State.gainUpdates State.powerShown
  rcases s.msPower with ⟨m, e⟩
  dsimp only

theorem State.powerShown_keeps (s : State) (n : Nat) :
    s.powerShown.power = s.power ∧ s.powerShown.obj (poundObj n) 3 = s.obj (poundObj n) 3 := by
  unfold State.powerShown
  extract_lets m e s1 s2
  have hpower : s2.power = s.power := (State.foldl_keeps_mem State.power _ (fun a i _ => by
    split
    · rfl
    · rw [State.setObj_power]) s1).trans (State.setObj_power _ _ _ _)
  have hobj : s2.obj (poundObj n) 3 = s.obj (poundObj n) 3 :=
    (State.foldl_keeps_mem (fun a : State => a.obj (poundObj n) 3) _ (fun a i hi => by
      have := List.mem_range.mp hi
      split
      · rfl
      · rw [State.obj_setObj_else _ _ _ _ _ _ (by unfold poundObj; omega)]) s1).trans
      (State.obj_setObj_else _ _ _ _ _ _ (by unfold poundObj; omega))
  exact ⟨(State.setObj_power _ _ _ _).trans hpower,
    (State.obj_setObj_else _ _ _ _ _ _ (by unfold poundObj; omega)).trans hobj⟩

/-- An update moves the gain of a pound with counts an eighth of the way, within its bounds. -/
theorem State.msUpdate_gain (hw : Map.wf s.power.pounds (fun _ => Pound.init) = true) {n : Nat} (hn : n < 40)
    (hcount : ¬ ((s.pound n).sumN = 0 ∨ (s.pound n).estN = 0 ∨ (s.pound n).estSum = 0)) :
    (s.msUpdate.pound n).gain = s.newGain n := by
  obtain ⟨hpower, hvolts⟩ := s.powerShown_keeps n
  have h0 : Ungained n s s.powerShown := ⟨by rw [hpower]; exact hw, State.pound_of_power hpower n, hvolts⟩
  have hgains : ((s.powerShown.gainUpdates.pound n).gain = s.newGain n ∧
      Map.wf s.powerShown.gainUpdates.power.pounds (fun _ => Pound.init) = true) := by
    rw [State.gainUpdates]
    exact State.foldl_once (before := Ungained n s) (f := fun a m => a.gainUpdate m)
      (after := fun a => (a.pound n).gain = s.newGain n ∧ Map.wf a.power.pounds (fun _ => Pound.init) = true)
      (fun a ha => ha.gainUpdate hcount) (List.range 40) List.nodup_range (List.mem_range.mpr hn)
      (fun a m hm hne ha => ha.gainUpdate_other (List.mem_range.mp hm) hne)
      (fun a m hm hne ha => State.gainUpdate_gain (List.mem_range.mp hm) hne ha) _ h0
  rw [State.msUpdate_eq]
  generalize s.powerShown.gainUpdates = a at hgains ⊢
  exact hgains.1

theorem State.msUpdate_classN (s : State) : s.msUpdate.power.classN = 0 := by
  rw [State.msUpdate_eq]

/-! ## Frames (R341) -/

theorem skimFrame_off (s : State) (t : TileId) (h : (s.tile t).til.pulses % 16 ≠ 0) : exec (.skimFrame t) s = .next s := by
  change Host.Outcome.next (if _ then _ else s) = _
  rw [if_neg h]

theorem State.regsOnly_setRegN (s : State) (t off v : Nat) : RegsOnly s (s.setRegN t off v) := by
  unfold RegsOnly State.setRegN State.setReg
  rfl

/-- A frame begins with the level that its demands ask for. -/
theorem skimFrame_on (hc : Canonical s) (t : TileId) (h : (s.tile t).til.pulses % 16 = 0) :
    ∃ s', exec (.skimFrame t) s = .next s' ∧ RegsOnly s s' ∧ s'.regN t 0x7100 % 16 = s.skimDemand t ∧
      s'.regN t 0x7100 / 16 = s.regN t 0x7100 / 16 := by
  have hlt : s.regN t 0x7100 < 2 ^ 64 := BitVec.isLt _
  have hk : s.skimDemand t ≤ 12 := Nat.min_le_left _ _
  refine ⟨s.setRegN t 0x7100 (s.regN t 0x7100 / 16 * 16 + s.skimDemand t), ?_, State.regsOnly_setRegN _ _ _ _, ?_, ?_⟩
  · change Host.Outcome.next (if _ then _ else s) = _
    rw [if_pos h]
  · rw [State.regN_setRegN_same hc]
    omega
  · rw [State.regN_setRegN_same hc]
    omega

/-- Settles O45: a capture, a sample, a millisecond's update and a frame each show what the rules ask of them. -/
theorem telemetryAndSkim : Obligations.TelemetryAndSkim := by
  unfold Obligations.TelemetryAndSkim
  intro s pd vn vm sys tiles t hc hw pn k a b p
  refine ⟨fun hrun => ⟨_, rfl, ?_⟩, fun x v i hrun hhot hf hodd hlow hhigh hthr => ⟨_, rfl, ?_⟩, ⟨_, rfl, State.estimateSample_shows hc⟩,
    ⟨_, rfl, s.msUpdate_classN, fun h1 h2 h3 => ?_⟩, skimFrame_off s t, skimFrame_on hc t⟩
  · exact State.capture_shows hc hw pd.isLt vn vm sys tiles hrun
  · exact State.capture_tile hc pd.isLt vn vm sys (x, v, i) hrun hhot rfl hf hodd hlow hhigh hthr
  · exact State.msUpdate_gain hw pd.isLt fun h => h.elim h1 fun h => h.elim h2 h3

end Sys2Proof.Machine

/-! # PROOFS. Configuration requests and batches at a tile (R51, R52, R207, R219, R220) -/

namespace Sys2Proof.Machine

open Sys2Proof

variable {s : State}

/-! ## The registers of the requests -/

/-- The row of EPOCH_LEN in the table of a tile's registers. -/
def epochLenRow : RegDesc := ⟨0xf0c, 0, 1, 0, 1, 32, 2, 0x4000, 0xffffffff, 0x100, 0xffffffff⟩

/-- The row of SCALE_ROW in the table of a tile's registers. -/
def scaleRowRow : RegDesc := ⟨0x100c, 0, 1, 0, 1, 16, 1, 0, 0xffff, 0, 0xffff⟩

/-- The row of STARVED_ROWS in the table of a tile's registers. -/
def starvedRowsRow : RegDesc := ⟨0x1014, 0, 1, 0, 1, 32, 0, 0, 0xffffffff, 0, 0xffffffff⟩

theorem findReg_epochLen : findReg 0xf0c = some (epochLenRow, 0) := by decide +kernel
theorem findReg_scaleRow : findReg 0x100c = some (scaleRowRow, 0) := by decide +kernel
theorem findReg_starvedRows : findReg 0x1014 = some (starvedRowsRow, 0) := by decide +kernel

theorem State.legalValue_epochLen (s : State) (t v : Nat) : s.legalValue t 0xf0c v epochLenRow = clampN 0x100 0xffffffff v := rfl

theorem State.sideClamps_epochLen (s : State) (t v : Nat) : s.sideClamps t 0xf0c v = [] := rfl

theorem and_allOnes32 {v : Nat} (h : v < 2 ^ 32) : (v % 2 ^ 32) &&& 0xffffffff = v := by
  rw [Nat.mod_eq_of_lt h]
  exact (Nat.and_two_pow_sub_one_eq_mod _ 32).trans (Nat.mod_eq_of_lt h)

theorem clampN_epochLen {v : Nat} (h : v < 2 ^ 32) : clampN 0x100 0xffffffff v = max 256 v := by
  unfold clampN
  split
  · omega
  · rw [if_neg (by omega)]
    omega

/-- A write of EPOCH_LEN stages the length for the next lock, or the least one where it is below that (R51). -/
theorem State.regWrite_epochLen (s : State) (t : Nat) {v : Nat} (hv : v < 2 ^ 32) :
    s.regWrite t 0xf0c v none =
      if max 256 v = v then (0, s.stageReg t 0xf0c v)
      else (2, (s.clampTile t 0xf0c 3 v (max 256 v) (s.nextLock t)).stageReg t 0xf0c (max 256 v)) := by
  have hwrite : s.regWrite t 0xf0c v none =
      (let v0 := (v % 2 ^ 32) &&& 0xffffffff
      let c := clampN 0x100 0xffffffff v0
      (if c ≠ v0 || !([] : List (Nat × Nat × Nat)).isEmpty then rspClamped else rspOK,
        (if c = v0 then s else s.clampTile t 0xf0c 3 v0 c (s.nextLock t)).stageReg t 0xf0c c)) := by
    simp only [State.regWrite, findReg_epochLen]
    rfl
  rw [hwrite, and_allOnes32 hv]
  simp only [clampN_epochLen hv]
  by_cases h : max 256 v = v <;> simp [h, rspOK, rspClamped]

theorem State.regWrite_scaleRow (s : State) (t : Nat) {v : Nat} (hv : v < 65536) :
    s.regWrite t 0x100c v none = (0, s.setRegN t 0x100c v) := by
  have hwrite : s.regWrite t 0x100c v none =
      (let v0 := (v % 2 ^ 16) &&& 0xffff
      let c := clampN 0 0xffff v0
      if c = v0 ∨ rspOK = rspRefused then (rspOK, s.setRegN t 0x100c c)
      else (if rspOK = rspOK then rspClamped else rspOK, (s.setRegN t 0x100c c).clampTile t 0x100c 3 v0 c none)) := by
    simp only [State.regWrite, findReg_scaleRow]
    rfl
  have hmask : (v % 2 ^ 16) &&& 0xffff = v :=
    (Nat.and_two_pow_sub_one_eq_mod _ 16).trans ((Nat.mod_mod _ _).trans (Nat.mod_eq_of_lt hv))
  have hclamp : clampN 0 0xffff v = v := by
    unfold clampN
    rw [if_neg (by omega), if_neg (by omega)]
  rw [hwrite, hmask]
  simp only [hclamp, true_or, if_true]
  rfl

theorem State.regWrite_starvedRows (s : State) (t v : Nat) : s.regWrite t 0x1014 v none = (3, s) := by
  simp only [State.regWrite, findReg_starvedRows]
  rw [if_pos (by rfl)]

/-! ## Requests that reach a tile -/

theorem State.hopRetry_none (s : State) {hop : TpHop} (h : hop.resent.val = 0) : s.hopRetry hop = s := if_pos h

section

variable {t : Nat} {d : BitVec 12} {hop : TpHop}

theorem execCfgWr_tile (w : Word32) (l : List Word32) (hdest : s.destAt d.toNat = some (.tile t)) (hwhole : hopLoses hop = false)
    (hfirst : hop.resent.val = 0) :
    exec (.cfgWr d w l hop) s = .next (s.cfgWrTile t (cfgFields w).off (cfgFields w).n l
      (if (cfgFields w).batch then some (cfgFields w).id else none)) := by
  change execCfgWr d w l hop s = _
  simp only [execCfgWr, State.hopRetry_none s hfirst, hwhole, hdest, Bool.false_eq_true, if_false]

theorem execCfgRd_tile (w : Word32) (hdest : s.destAt d.toNat = some (.tile t)) (hwhole : hopLoses hop = false)
    (hfirst : hop.resent.val = 0) : exec (.cfgRd d w hop) s = .next (s.cfgRdTile t (cfgFields w).off (cfgFields w).n) := by
  change execCfgRd d w hop s = _
  simp only [execCfgRd, State.hopRetry_none s hfirst, hwhole, hdest, Bool.false_eq_true, if_false]

theorem tpAddr_of_destAt {x : TpDest} (h : s.destAt d.toNat = some x) : tpAddr d.toNat = some x := (Option.filter_eq_some_iff.mp h).1

theorem waitingAt_tile (h : tpAddr d.toNat = some (.tile t)) : s.waitingAt d.toNat = (s.tile t).tp.responses := by
  rw [State.waitingAt, h]

/-- What an open tile's registers make of a write of words (R219). -/
theorem State.cfgWrTile_open (hlit : (s.tile t).dark = false) (hin : s.absorbing t = false) {o n : Nat} {l : List Word32}
    (hlen : l.length = n) (hn : n ≠ 0) (ho : o % 4 = 0) :
    s.cfgWrTile t o n l none = (s.cfgWords t o l 0).2.respond t (s.cfgWords t o l 0).1 [] := by
  rw [State.cfgWrTile, if_neg (by rw [hlit]; decide), if_neg (by rw [hin]; decide), if_neg (fun h => h hlen), if_neg hn,
    if_neg (fun h => h ho)]

/-- A write of one word but WHEEL_DATA is a write of its register. -/
theorem State.cfgWords_one (s : State) (t : Nat) {o : Nat} (h : o ≠ 0x4004) (v : Word32) :
    s.cfgWords t o [v] 0 = s.regWrite t o v.toNat none := by
  simp only [State.cfgWords]
  rw [if_neg (by simp [h])]
  rcases s.regWrite t o v.toNat none with ⟨st, a⟩
  simp

/-- A one-word write of an open tile's register answers what the register answers. -/
theorem execCfgWr_register {o : Nat} (hdest : s.destAt d.toNat = some (.tile t)) (hwhole : hopLoses hop = false)
    (hfirst : hop.resent.val = 0) (hlit : (s.tile t).dark = false) (hin : s.absorbing t = false)
    (hw : cfgFields (BitVec.ofNat 32 (0x10000 + o)) = ⟨o, 1, false, 0⟩) (ho : o % 4 = 0) (hwheel : o ≠ 0x4004) (v : Word32) :
    exec (.cfgWr d (BitVec.ofNat 32 (0x10000 + o)) [v] hop) s =
      .next ((s.regWrite t o v.toNat none).2.respond t (s.regWrite t o v.toNat none).1 []) := by
  rw [execCfgWr_tile _ _ hdest hwhole hfirst, hw]
  simp only [Bool.false_eq_true, if_false]
  rw [State.cfgWrTile_open hlit hin (l := [v]) (n := 1) rfl (by decide) ho, State.cfgWords_one _ _ hwheel]

end

/-- A register read changes at most what its tile has latched of the register. -/
theorem TileRun.regRead {a : State} {t : Nat} {v : Tile} (h : TileRun s a t v) (off : Nat) :
    ∃ v', TileRun s (a.regRead t off).2 t v' ∧ v'.tp = v.tp := by
  unfold State.regRead
  split
  · exact ⟨v, h, rfl⟩
  · extract_lets x
    split
    · dsimp only
      exact ⟨_, h.updTile _, rfl⟩
    · exact ⟨v, h, rfl⟩
  · split
    · dsimp only
      exact ⟨_, h.updTile _, rfl⟩
    · exact ⟨v, h, rfl⟩

theorem TileRun.readWords {t : Nat} (n : Nat) : ∀ {a : State} {v : Tile} (_ : TileRun s a t v) (off : Nat) (acc : List Word32),
    ∃ v', TileRun s (a.readWords t off n acc).2 t v' ∧ v'.tp = v.tp := by
  induction n with
  | zero => exact fun {_ v} h _ _ => ⟨v, h, rfl⟩
  | succ n ih =>
    intro a v h off acc
    obtain ⟨v1, hone, htp⟩ := h.regRead off
    obtain ⟨v2, hrest, htp2⟩ := ih hone (off + 4) (acc ++ [(a.regRead t off).1])
    exact ⟨v2, hrest, htp2.trans htp⟩

/-- A read of an open tile's registers answers their words, and changes nothing but what the tile has latched. -/
theorem State.cfgRdTile_open (hc : Canonical s) {t : Nat} (hlit : (s.tile t).dark = false) (hin : s.absorbing t = false) {o n : Nat}
    (hn : n ≠ 0) (hn6 : n ≤ 6) (ho : o % 4 = 0) :
    TileOnly s (s.cfgRdTile t o n) t ∧
      ((s.cfgRdTile t o n).tile t).tp.responses = (s.tile t).tp.responses ++ [⟨t, 0, (s.readWords t o n []).1⟩] := by
  have hread : s.cfgRdTile t o n = (s.readWords t o n []).2.respond t 0 (s.readWords t o n []).1 := by
    rw [State.cfgRdTile, if_neg (by rw [hlit]; decide), if_neg (by rw [hin]; decide), if_neg (by omega), if_neg hn,
      if_neg (fun h => h ho)]
    rfl
  obtain ⟨v', hrun, htp⟩ := (TileRun.start hc t).readWords n o []
  obtain ⟨htile, hothers, hrest⟩ := (hrun.respond 0 (s.readWords t o n []).1).becomes
  rw [hread]
  exact ⟨⟨hothers, hrest⟩, by rw [htile, htp]⟩

/-! ## The words of a request (R219) -/

theorem State.regN_bumpReg_same (hc : Canonical s) (t off n : Nat) :
    (s.bumpReg t off n).regN t off = min (s.regN t off + n) 0xFFFFFFFF := by
  rw [State.bumpReg, State.regN_setRegN_same hc]
  omega

/-- A malformed message of a tile is counted there. -/
theorem State.tpDrop_tile (hc : Canonical s) {t : Nat} (ht : t < 2304) :
    (s.tpDrop t).regN t 0xc08 = min (s.regN t 0xc08 + 1) 0xFFFFFFFF ∧ RegsElse s (s.tpDrop t) t 0xc08 ∧
      (s.tpDrop t).tiles = s.tiles ∧ (s.tpDrop t).mem = s.mem ∧ Canonical (s.tpDrop t) := by
  have hout := unwatched_false
  have hdrop : s.tpDrop t = (s.bumpWin (objKey 0x2640 2) 1).bumpReg t 0xc08 1 := if_pos ht
  have hwin : Canonical (s.bumpWin (objKey 0x2640 2) 1) := (State.bumpWin_good (good_start hc noParts)).canon
  have hcanon : Canonical (s.tpDrop t) := (State.tpDrop_good (good_start hc noParts)).canon
  refine ⟨?_, fun u g hg h => ?_, ?_, ?_, hcanon⟩
  · rw [hdrop, State.regN_bumpReg_same hwin]
    rfl
  · rw [hdrop]
    exact State.regN_setRegN_other _ _ (by decide) hg h
  · rw [hdrop, State.bumpReg_tiles, State.bumpWin_tiles]
  · rw [hdrop, State.bumpReg_mem, State.bumpWin_mem]

theorem State.respond_tregs (s : State) (t st : Nat) (data : List Word32) : (s.respond t st data).tregs = s.tregs := rfl

theorem State.respond_mem (s : State) (t st : Nat) (data : List Word32) : (s.respond t st data).mem = s.mem := rfl

theorem State.respond_objs (s : State) (t st : Nat) (data : List Word32) : (s.respond t st data).objs = s.objs := rfl

/-- A write whose words are not as many as it says is answered MALFORMED and counted (R219). -/
theorem State.cfgWrTile_malformed (hc : Canonical s) {t : Nat} (ht : t < 2304) (hlit : (s.tile t).dark = false)
    (hin : s.absorbing t = false) (o : Nat) {n : Nat} {l : List Word32} (hlen : l.length ≠ n) (batch : Option Nat) :
    ((s.cfgWrTile t o n l batch).tile t).tp.responses = (s.tile t).tp.responses ++ [⟨t, 5, []⟩] ∧
      RegsElse s (s.cfgWrTile t o n l batch) t 0xc08 ∧
      (s.cfgWrTile t o n l batch).regN t 0xc08 = min (s.regN t 0xc08 + 1) 0xFFFFFFFF ∧ (s.cfgWrTile t o n l batch).mem = s.mem := by
  have hwrite : s.cfgWrTile t o n l batch = (s.tpDrop t).respond t 5 [] := by
    unfold State.cfgWrTile
    rw [if_neg (by rw [hlit]; decide), if_neg (by rw [hin]; decide), if_pos hlen]
  obtain ⟨hcount, helse, htiles, hmem, hcanon⟩ := State.tpDrop_tile hc ht
  obtain ⟨-, -, hresponses, -⟩ := State.respond_shows hcanon t 5 []
  have hregs : ∀ u g, ((s.tpDrop t).respond t 5 []).regN u g = (s.tpDrop t).regN u g :=
    State.regN_of_tregs (State.respond_tregs _ _ _ _)
  rw [hwrite]
  refine ⟨by rw [hresponses, State.tile_of_tiles htiles], fun u g hg h => (hregs u g).trans (helse u g hg h), (hregs _ _).trans hcount,
    (State.respond_mem _ _ _ _).trans hmem⟩

/-! ## Staged lengths (R51) -/

/-- A tile that stages a register value for its next lock. -/
def Tile.stages (tl : Tile) (off v : Nat) : Tile :=
  { tl with
    stagedRegs := Map.put tl.stagedRegs none off (some (BitVec.ofNat 64 v))
    tp := { tl.tp with batches := tl.tp.batches.map (fun k =>
      if k.writes.any (fun w => decide (w.1 = off)) then { k with covered := off :: k.covered } else k) } }

theorem TileRun.stageReg {a : State} {t : Nat} {v : Tile} (h : TileRun s a t v) (off x : Nat) :
    TileRun s (a.stageReg t off x) t (v.stages off x) := by
  unfold State.stageReg State.stageOver
  exact (h.updTile _).updTile _

theorem State.clampTile_keeps (hc : Canonical s) (t off src written applied : Nat) (lock : Option Nat) :
    Canonical (s.clampTile t off src written applied lock) ∧ (s.clampTile t off src written applied lock).tregs = s.tregs := by
  have hout := unwatched_false
  exact ⟨(State.clampTile_good (good_start hc noParts)).canon, State.clampTile_tregs _ _ _ _ _ _ _⟩

theorem State.stageReg_tregs (s : State) (t off v : Nat) : (s.stageReg t off v).tregs = s.tregs := rfl

theorem State.stageReg_objs (s : State) (t off v : Nat) : (s.stageReg t off v).objs = s.objs := rfl

section

variable {t : TileId} {d : BitVec 12} {hop : TpHop}

/-- A length that is long enough is staged as written. -/
theorem cfgWr_epochLen_kept (hc : Canonical s) (hdest : s.destAt d.toNat = some (.tile t.val)) (hwhole : hopLoses hop = false)
    (hfirst : hop.resent.val = 0) (hlit : (s.tile t).dark = false) (hin : s.absorbing t = false) {v : Word32} (hv : 256 ≤ v.toNat) :
    ∃ s', exec (.cfgWr d (BitVec.ofNat 32 (0x10000 + 0xf0c)) [v] hop) s = .next s' ∧ TileOnly s s' t ∧
      (s'.tile t).stagedRegs = Map.put (s.tile t).stagedRegs none 0xf0c (some (v.setWidth 64)) ∧
      (s'.tile t).tp.responses = (s.tile t).tp.responses ++ [⟨t.val, 0, []⟩] := by
  have hexec := execCfgWr_register hdest hwhole hfirst hlit hin (o := 0xf0c) (by decide) (by decide) (by decide) v
  rw [State.regWrite_epochLen _ _ v.isLt, if_pos (Nat.max_eq_right hv)] at hexec
  obtain ⟨htile, hothers, hrest⟩ := (((TileRun.start hc t.val).stageReg 0xf0c v.toNat).respond 0 []).becomes
  exact ⟨_, hexec, ⟨hothers, hrest⟩, by rw [htile, ← BitVec.ofNat_toNat]; rfl, by rw [htile]; rfl⟩

/-- A length below the least one is brought to it, and the clamp is recorded. -/
theorem cfgWr_epochLen_clamped (hc : Canonical s) (hdest : s.destAt d.toNat = some (.tile t.val)) (hwhole : hopLoses hop = false)
    (hfirst : hop.resent.val = 0) (hlit : (s.tile t).dark = false) (hin : s.absorbing t = false) {v : Word32} (hv : v.toNat < 256) :
    ∃ s', exec (.cfgWr d (BitVec.ofNat 32 (0x10000 + 0xf0c)) [v] hop) s = .next s' ∧ s'.tregs = s.tregs ∧
      (s'.tile t).stagedRegs = Map.put (s.tile t).stagedRegs none 0xf0c (some 256) ∧
      (s'.tile t).tp.responses = (s.tile t).tp.responses ++ [⟨t.val, 2, []⟩] ∧
      s'.obj 0x2F11 1 = min (s.obj 0x2F11 1 + 1) (2 ^ 64 - 1) := by
  have hexec := execCfgWr_register hdest hwhole hfirst hlit hin (o := 0xf0c) (by decide) (by decide) (by decide) v
  rw [State.regWrite_epochLen _ _ v.isLt, if_neg (by omega), Nat.max_eq_left (by omega)] at hexec
  obtain ⟨hcanon, htregs⟩ := State.clampTile_keeps hc t 0xf0c 3 v.toNat 256 (s.nextLock t)
  have hcount := State.clampTile_count hc t 0xf0c 3 v.toNat 256 (s.nextLock t)
  have htile0 := State.tile_of_tiles (s.clampTile_tiles t 0xf0c 3 v.toNat 256 (s.nextLock t)) t
  obtain ⟨htile, -⟩ := (((TileRun.start hcanon t.val).stageReg 0xf0c 256).respond 2 []).becomes
  refine ⟨_, hexec, ?_, ?_, ?_, ?_⟩
  · rw [State.respond_tregs, State.stageReg_tregs, htregs]
  · rw [htile, htile0]
    rfl
  · rw [htile, htile0]
    rfl
  · rw [State.obj_of_objs (State.respond_objs _ _ _ _), State.obj_of_objs (State.stageReg_objs _ _ _ _), hcount]

theorem State.respond_rest (s : State) (t st : Nat) (data : List Word32) (x : Map Tile) (y : Map Word64) :
    { s.respond t st data with tiles := x, tregs := y } = { s with tiles := x, tregs := y } := rfl

theorem State.setRegN_rest (s : State) (t off n : Nat) (x : Map Tile) (y : Map Word64) :
    { s.setRegN t off n with tiles := x, tregs := y } = { s with tiles := x, tregs := y } := rfl

/-- A write of SCALE_ROW takes effect at once. -/
theorem cfgWr_scaleRow (hc : Canonical s) (hdest : s.destAt d.toNat = some (.tile t.val)) (hwhole : hopLoses hop = false)
    (hfirst : hop.resent.val = 0) (hlit : (s.tile t).dark = false) (hin : s.absorbing t = false) {v : Word32} (hv : v.toNat < 65536) :
    ∃ s', exec (.cfgWr d (BitVec.ofNat 32 (0x10000 + 0x100c)) [v] hop) s = .next s' ∧ s'.regN t 0x100c = v.toNat ∧
      (s'.tile t).tp.responses = (s.tile t).tp.responses ++ [⟨t.val, 0, []⟩] ∧ RegsElse s s' t 0x100c ∧
      { s' with tiles := s.tiles, tregs := s.tregs } = s := by
  have hout := unwatched_false
  have hexec := execCfgWr_register hdest hwhole hfirst hlit hin (o := 0x100c) (by decide) (by decide) (by decide) v
  rw [State.regWrite_scaleRow _ _ hv] at hexec
  dsimp only at hexec
  have hcanon : Canonical (s.setRegN t 0x100c v.toNat) := (State.setRegN_good (good_start hc noParts)).canon
  obtain ⟨-, -, hresponses, -⟩ := State.respond_shows hcanon t.val 0 []
  rw [State.tile_of_tiles (State.setRegN_tiles s t.val 0x100c v.toNat) t.val] at hresponses
  have hregs : ∀ u g, ((s.setRegN t 0x100c v.toNat).respond t 0 []).regN u g = (s.setRegN t 0x100c v.toNat).regN u g :=
    State.regN_of_tregs (State.respond_tregs _ _ _ _)
  refine ⟨_, hexec, ?_, hresponses, fun u g hg h => ?_, ?_⟩
  · rw [hregs, State.regN_setRegN_same hc]
    omega
  · rw [hregs, State.regN_setRegN_other _ _ (by decide) hg h]
  · exact (State.respond_rest _ _ _ _ _ _).trans (State.setRegN_rest _ _ _ _ _ _)

end

/-! ## Towpath writes of one register (R219, R323, R382) -/

theorem State.towpathAsk_dark {t : Nat} (f : State → Nat × State) (h : (s.tile t).dark = true) :
    s.towpathAsk t f = s.respond t 6 [] := if_pos h

theorem State.towpathAsk_absorbing {t : Nat} (f : State → Nat × State) (hlit : (s.tile t).dark = false) (h : s.absorbing t = true) :
    s.towpathAsk t f = s.respond t 4 [] := by
  rw [State.towpathAsk, if_neg (by rw [hlit]; decide), if_pos h]
  rfl

/-- The command is a write of a register of tile `t` over the towpath. -/
def State.Asks (s : State) (t : Nat) (c : Instr) : Prop := ∃ f, exec c s = .next (s.towpathAsk t f)

theorem State.Asks.ctl0 {t : Nat} {c : Instr} (f : Nat → State → Nat × State) (h : exec c s = .next (s.ctl0Write t none f)) :
    s.Asks t c := ⟨f 3, h⟩

theorem State.Asks.dark {t : Nat} {c : Instr} (h : s.Asks t c) (hc : Canonical s) (hdark : (s.tile t).dark = true) :
    ∃ s', exec c s = .next s' ∧ AnswersOnly s s' t 6 [] := by
  obtain ⟨f, hf⟩ := h
  exact ⟨_, hf.trans (congrArg _ (State.towpathAsk_dark f hdark)), State.answersOnly_respond hc t 6 []⟩

theorem State.Asks.absorbing {t : Nat} {c : Instr} (h : s.Asks t c) (hc : Canonical s) (hlit : (s.tile t).dark = false)
    (hin : s.absorbing t = true) : ∃ s', exec c s = .next s' ∧ AnswersOnly s s' t 4 [] := by
  obtain ⟨f, hf⟩ := h
  exact ⟨_, hf.trans (congrArg _ (State.towpathAsk_absorbing f hlit hin)), State.answersOnly_respond hc t 4 []⟩

/-- The commands of one register that a tile's towpath or a context of it gives. -/
noncomputable def registerAsks (t : TileId) (b : BankId) (m k : Fin 32) (row : Bool) (mask : BitVec 8) (val : Word32) (off : BitVec 16)
    (v64 : Word64) (ctx : Option (Fin 4)) : List Instr :=
  [.bankOwnerWrite t ctx b val, .sleepRetain t ctx b, .sleepOff t ctx b, .wake t ctx b, .remapEntryWrite t ctx b m val,
    .rowWinWrite t ctx mask, .rowWinRead t ctx, .wheelDataWrite t ctx val, .circWrite t ctx k row val,
    .registerWrite (.tile t ctx off) v64]

section

variable {t : TileId} {b : BankId} {m k : Fin 32} {w dir : Fin 4} {row : Bool} {mask : BitVec 8} {val : Word32} {n : Nat}
  {off : BitVec 16} {v64 : Word64} {u : UnitId}

theorem registerAsks_ask : ∀ c ∈ registerAsks t b m k row mask val off v64 none, s.Asks t c := by
  simp only [registerAsks, List.forall_mem_cons]
  exact ⟨.ctl0 _ rfl, .ctl0 _ rfl, .ctl0 _ rfl, .ctl0 _ rfl, .ctl0 _ rfl, .ctl0 _ rfl, .ctl0 _ rfl, .ctl0 _ rfl, ⟨_, rfl⟩, ⟨_, rfl⟩,
    List.forall_mem_nil _⟩

theorem State.moveAsk_asks (hu : u.val = t.val) (hunit : s.unitIs u = true) (v : Nat) :
    s.moveAsk u v = s.towpathAsk t (fun s => s.unloadCtl u v) := by
  rw [State.moveAsk, if_neg (by rw [hunit]; decide), if_pos (by omega), hu]

theorem otherAsks_ask (hu : u.val = t.val) (hunit : s.unitIs u = true) :
    ∀ c ∈ ([.estoreDataWrite t w val, .stopForce t, .skimTestWrite t val, .unload u dir, .load u dir, .digestAck t n,
      .traceMark t val, .hsSelWrite t val] : List Instr), s.Asks t c := by
  simp only [List.forall_mem_cons]
  exact ⟨⟨_, rfl⟩, ⟨_, rfl⟩, ⟨_, rfl⟩, ⟨_, congrArg _ (State.moveAsk_asks hu hunit _)⟩,
    ⟨_, congrArg _ (State.moveAsk_asks hu hunit _)⟩, ⟨_, rfl⟩, ⟨_, rfl⟩, ⟨_, rfl⟩, List.forall_mem_nil _⟩

/-- A context of a dark tile writes nothing. -/
theorem registerAsks_context_dark (hdark : (s.tile t).dark = true) (x : Fin 4) :
    ∀ c ∈ registerAsks t b m k row mask val off v64 (some x), exec c s = .next s := by
  have hctl : ∀ f, s.ctl0Write t (some x) f = s := fun f => if_pos hdark
  have hcirc : ∀ a : State, (if (s.tile t).dark = true then s else a) = s := fun a => if_pos hdark
  have hctx : ∀ o v, s.contextWrite t x o v = s := fun o v => if_pos hdark
  simp only [registerAsks, List.forall_mem_cons]
  exact ⟨congrArg _ (hctl _), congrArg _ (hctl _), congrArg _ (hctl _), congrArg _ (hctl _), congrArg _ (hctl _), congrArg _ (hctl _),
    congrArg _ (hctl _), congrArg _ (hctl _), congrArg _ (hcirc _), congrArg _ (hctx _ _), List.forall_mem_nil _⟩

end

/-! ## Batches (R52, R220) -/

/-- The lock for which a batch of a basin is meant that a tile does not hold yet. -/
def State.sealTarget (s : State) (b id : Nat) : Nat :=
  match s.srv.batches.find? (fun k => decide (k.basin = b) && decide (k.id = id) && k.open_) with
  | some k => k.target
  | none => s.batchLock b

/-- What a tile's batch becomes, where it holds one of the identifier or none. -/
def Tile.withBatch (tl : Tile) (id target : Nat) (f : TileBatch → TileBatch) : Tile :=
  { tl with tp := { tl.tp with batches :=
      (if tl.tp.batches.any (fun k => decide (k.id = id)) then tl.tp.batches
        else tl.tp.batches ++ [⟨id, target, none, 0, [], false, none, []⟩]).map (fun k => if k.id = id then f k else k) } }

theorem TileRun.updBatch {a : State} {t : Nat} {v : Tile} (h : TileRun s a t v) (b id : Nat) (f : TileBatch → TileBatch) :
    TileRun s (a.updBatch t b id f) t (v.withBatch id (a.sealTarget b id) f) := by
  unfold State.updBatch State.sealTarget Tile.withBatch
  exact h.updTile _

theorem Tile.withBatch_new {tl : Tile} {id : Nat} (h : ∀ k ∈ tl.tp.batches, k.id ≠ id) (target : Nat) (f : TileBatch → TileBatch) :
    tl.withBatch id target f =
      { tl with tp := { tl.tp with batches := tl.tp.batches ++ [f ⟨id, target, none, 0, [], false, none, []⟩] } } := by
  have hnone : tl.tp.batches.any (fun k => decide (k.id = id)) = false := List.any_eq_false.mpr fun k hk => by simp [h k hk]
  have hkeep : tl.tp.batches.map (fun k => if k.id = id then f k else k) = tl.tp.batches :=
    (List.map_congr_left fun k hk => if_neg (h k hk)).trans (List.map_id _)
  rw [Tile.withBatch, hnone]
  simp [hkeep]

theorem Tile.withBatch_held {tl : Tile} {k : TileBatch} {id : Nat} (hk : tl.tp.batches = [k]) (hid : k.id = id) (target : Nat)
    (f : TileBatch → TileBatch) : tl.withBatch id target f = { tl with tp := { tl.tp with batches := [f k] } } := by
  simp [Tile.withBatch, hk, hid]

/-- A long enough EPOCH_LEN enters a batch as written. -/
theorem State.batchWords_epochLen (s : State) (t : Nat) {v : Word32} (hv : 256 ≤ v.toNat) :
    s.batchWords t 0xf0c [v] 0 [] = (0, [(0xf0c, v.toNat)], s) := by
  have hclamp : clampN 0x100 0xffffffff v.toNat = v.toNat := (clampN_epochLen v.isLt).trans (Nat.max_eq_right hv)
  have hword : s.batchWord t 0xf0c v.toNat [] = (0, [(0xf0c, v.toNat)], s) := by
    have heq : s.batchWord t 0xf0c v.toNat [] =
        (let v0 := (v.toNat % 2 ^ 32) &&& 0xffffffff
        let c := clampN 0x100 0xffffffff v0
        let all : List (Nat × Nat × Nat) := (if c = v0 then [] else [(0xf0c, v0, c)]) ++ []
        (if all.isEmpty then rspOK else rspClamped, [(0xf0c, c)],
          all.foldl (fun a k => a.clampTile t k.1 3 k.2.1 k.2.2 (s.nextLock t)) s)) := by
      simp only [State.batchWord, findReg_epochLen]
      rfl
    rw [heq, and_allOnes32 v.isLt]
    simp [hclamp, rspOK]
  simp [State.batchWords, hword]

section

variable {t : TileId} {b : Nat} {d : BitVec 12} {hop : TpHop} {id : BitVec 8} {w : Word32}

/-- A write of EPOCH_LEN in a batch adds to the batch that its tile holds (R220). -/
theorem cfgWr_batch (hc : Canonical s) (hb : s.basinOf t = some b) (hlit : (s.tile t).dark = false) (hin : s.absorbing t = false)
    (hdest : s.destAt d.toNat = some (.tile t.val)) (hw : cfgFields w = ⟨0xf0c, 1, true, id.toNat⟩) (hwhole : hopLoses hop = false)
    (hfirst : hop.resent.val = 0) {v : Word32} (hv : 256 ≤ v.toNat) :
    ∃ s', exec (.cfgWr d w [v] hop) s = .next s' ∧ TileOnly s s' t ∧
      (s'.tile t).tp.batches = ((s.tile t).withBatch id.toNat (s.sealTarget b id.toNat) (fun k => { k with
        msgs := k.msgs + 1, writes := k.writes ++ [(0xf0c, v.toNat)],
        covered := k.covered.filter (fun p => decide (p ≠ 0xf0c)) })).tp.batches ∧
      (s'.tile t).tp.responses = (s.tile t).tp.responses ++ [⟨t.val, 0, []⟩] := by
  have hwrite : s.cfgWrTile t 0xf0c 1 [v] (some id.toNat) =
      (s.updBatch t b id.toNat (fun k => { k with
        msgs := k.msgs + 1, writes := k.writes ++ [(0xf0c, v.toNat)],
        covered := k.covered.filter (fun p => !(([(0xf0c, v.toNat)] : List (Nat × Nat)).any (fun w => decide (w.1 = p)))) })).respond
        t 0 [] := by
    unfold State.cfgWrTile
    rw [if_neg (by rw [hlit]; decide), if_neg (by rw [hin]; decide), if_neg (by simp), if_neg (by decide), if_neg (by decide), hb]
    simp only [State.batchWords_epochLen s t hv]
    exact if_pos (Or.inl rfl)
  have hcovered : ∀ k : TileBatch, k.covered.filter (fun p => !(([(0xf0c, v.toNat)] : List (Nat × Nat)).any (fun w => decide (w.1 = p)))) =
      k.covered.filter (fun p => decide (p ≠ 0xf0c)) := fun k => List.filter_congr fun p _ => by
    simp [eq_comm]
  simp only [hcovered] at hwrite
  have hexec := execCfgWr_tile w [v] hdest hwhole hfirst
  rw [hw] at hexec
  simp only [if_true] at hexec
  rw [hwrite] at hexec
  obtain ⟨htile, hothers, hrest⟩ := (((TileRun.start hc t.val).updBatch b id.toNat (fun k => { k with
        msgs := k.msgs + 1, writes := k.writes ++ [(0xf0c, v.toNat)],
        covered := k.covered.filter (fun p => decide (p ≠ 0xf0c)) })).respond 0 []).becomes
  exact ⟨_, hexec, ⟨hothers, hrest⟩, by rw [htile]; rfl, by rw [htile]; rfl⟩

/-- A seal says how many messages the batch has, and for which lock it is. -/
theorem batchSeal_shows (hc : Canonical s) (hb : s.basinOf t = some b) (hlit : (s.tile t).dark = false) (hwhole : hopLoses hop = false)
    (hfirst : hop.resent.val = 0) (count : BitVec 16) (low : Word32) :
    ∃ s', exec (.batchSeal t id count low hop) s = .next s' ∧
      TileBecomes s s' t ((s.tile t).withBatch id.toNat (s.sealTarget b id.toNat) (fun k => { k with
        sealN := some count.toNat, target := max k.target (lockNear (s.nextLockNum b) low.toNat) })) := by
  have hexec : exec (.batchSeal t id count low hop) s = .next (s.sealBatch t id.toNat count.toNat low.toNat) := by
    change execBatchSeal t id count low hop s = _
    rw [execBatchSeal, State.hopRetry_none s hfirst, hwhole]
    rfl
  have hseal : s.sealBatch t id.toNat count.toNat low.toNat = s.updBatch t b id.toNat (fun k => { k with
        sealN := some count.toNat, target := max k.target (lockNear (s.nextLockNum b) low.toNat) }) := by
    simp only [State.sealBatch, hb, hlit]
    rfl
  rw [hseal] at hexec
  exact ⟨_, hexec, ((TileRun.start hc t.val).updBatch b id.toNat _).becomes⟩

end

theorem TileBatch.complete_iff (k : TileBatch) (n : Nat) :
    ({ k with sealN := some n } : TileBatch).complete = true ↔ k.msgs = n ∧ k.bad = false := by
  simp [TileBatch.complete]

/-- A response leaves, oldest first (R219). -/
theorem cfgRsp_tile (hc : Canonical s) {t : TileId} {d : BitVec 12} {hop : TpHop} (hdest : s.destAt d.toNat = some (.tile t.val))
    (hwhole : hopLoses hop = false) (hfirst : hop.resent.val = 0) :
    ((s.tile t).tp.responses = [] → exec (.cfgRsp d hop) s = .next s) ∧
      ((s.tile t).tp.responses ≠ [] → ∃ s', exec (.cfgRsp d hop) s = .next s' ∧ TileBecomes s s' t { s.tile t with
        tp := { (s.tile t).tp with responses := (s.tile t).tp.responses.drop 1, up := tpTake (s.tile t).tp.up 9 } }) := by
  have hwait := waitingAt_tile (s := s) (tpAddr_of_destAt hdest)
  have htake : s.takeResponse d.toNat =
      (s.updTile t (fun tl => { tl with tp := { tl.tp with responses := tl.tp.responses.drop 1 } })).tileTook t 9 := by
    rw [State.takeResponse, tpAddr_of_destAt hdest]
  have hexec : exec (.cfgRsp d hop) s = if (s.tile t).tp.responses.isEmpty then .next s else .next (s.takeResponse d.toNat) := by
    change execCfgRsp d hop s = _
    rw [execCfgRsp, hwait]
    simp only [State.hopRetry_none _ hfirst, hwhole]
    rfl
  refine ⟨fun h => ?_, fun h => ⟨s.takeResponse d.toNat, ?_, ?_⟩⟩
  · rw [hexec, h]
    rfl
  · rw [hexec, if_neg (by simpa using h)]
  · rw [htake]
    exact (((TileRun.start hc t.val).updTile _).updTile _).becomes

/-- Settles O27: a tile answers each request by what it makes of it, a dark or absorbing one writes nothing, and a batch
counts its messages. -/
theorem configurationAndBatches : Obligations.ConfigurationAndBatches := by
  unfold Obligations.ConfigurationAndBatches
  refine ⟨fun s t d v hop hc hdest hwhole hfirst => ?_, fun s t b m k w dir row mask val n off v64 u hc hu hunit => ?_,
    fun s t b d id count low v w hop hc hb hlit hin hdest hw hwhole hfirst => ?_⟩
  · have hwr := fun w l => execCfgWr_tile (s := s) w l hdest hwhole hfirst
    have hrd := fun w => execCfgRd_tile (s := s) w hdest hwhole hfirst
    obtain ⟨hnone, hsome⟩ := cfgRsp_tile hc hdest hwhole hfirst
    refine ⟨fun hdark w l => ⟨?_, ?_⟩, fun hlit hin => ⟨fun w l => ?_, ?_, ?_, ?_, ?_⟩, hnone, hsome⟩
    · rw [hwr, State.cfgWrTile.eq_def, if_pos hdark]
      exact ⟨_, rfl, State.answersOnly_respond hc _ _ _⟩
    · rw [hrd, State.cfgRdTile, if_pos hdark]
      exact ⟨_, rfl, State.answersOnly_respond hc _ _ _⟩
    · have hlit' : ¬ (s.tile t).dark = true := by rw [hlit]; decide
      have hin' : ¬ s.absorbing t = true := by rw [hin]; decide
      refine ⟨fun hn hl => ?_, fun hlen => ?_, fun hlen hn ho => ?_, fun hn => ?_, fun hn hn6 ho => ?_, fun hn hn6 ho => ?_, fun hn ho => ?_⟩
      · rw [hwr, State.cfgWrTile.eq_def, if_neg hlit', if_neg hin', if_neg (by rw [hl, hn]; decide), if_pos hn]
        exact ⟨_, rfl, State.answersOnly_respond hc _ _ _⟩
      · rw [hwr]
        exact ⟨_, rfl, State.cfgWrTile_malformed hc t.isLt hlit hin _ hlen _⟩
      · rw [hwr, State.cfgWrTile.eq_def, if_neg hlit', if_neg hin', if_neg (fun h => h hlen), if_neg hn, if_pos ho]
        exact ⟨_, rfl, State.answersOnly_respond hc _ _ _⟩
      · rw [hrd, State.cfgRdTile, if_neg hlit', if_neg hin', if_neg (by omega), if_pos hn]
        exact ⟨_, rfl, State.answersOnly_respond hc _ _ _⟩
      · rw [hrd, State.cfgRdTile, if_neg hlit', if_neg hin', if_neg (by omega), if_neg (by omega), if_pos ho]
        exact ⟨_, rfl, State.answersOnly_respond hc _ _ _⟩
      · rw [hrd]
        exact ⟨_, rfl, State.cfgRdTile_open hc hlit hin (by omega) hn6 ho⟩
      · rw [hn]
        rfl
    · have hexec := execCfgWr_register hdest hwhole hfirst hlit hin (o := 0x1014) (by decide) (by decide) (by decide) v
      rw [State.regWrite_starvedRows] at hexec
      exact ⟨_, hexec, State.answersOnly_respond hc _ _ _⟩
    · exact cfgWr_scaleRow hc hdest hwhole hfirst hlit hin
    · exact cfgWr_epochLen_kept hc hdest hwhole hfirst hlit hin
    · exact cfgWr_epochLen_clamped hc hdest hwhole hfirst hlit hin
  · have hall := List.forall_mem_append.mpr ⟨registerAsks_ask (s := s) (t := t) (b := b) (m := m) (k := k) (row := row) (mask := mask)
      (val := val) (off := off) (v64 := v64), otherAsks_ask (w := w) (val := val) (n := n) (dir := dir) hu hunit⟩
    exact ⟨fun hdark => ⟨fun c hcmd => (hall c hcmd).dark hc hdark, fun x c hcmd => registerAsks_context_dark hdark x c hcmd⟩,
      fun hlit hin c hcmd => (hall c hcmd).absorbing hc hlit hin⟩
  · refine ⟨fun hnew => ⟨fun hv => ?_, ?_⟩, fun k hk hid => ⟨fun hv => ?_, ?_⟩⟩
    · obtain ⟨s', hexec, honly, hbatches, hrsp⟩ := cfgWr_batch hc hb hlit hin hdest hw hwhole hfirst hv
      rw [Tile.withBatch_new hnew] at hbatches
      exact ⟨s', hexec, honly, hbatches, hrsp⟩
    · obtain ⟨s', hexec, hbecomes⟩ := batchSeal_shows (id := id) hc hb hlit hwhole hfirst count low
      rw [Tile.withBatch_new hnew] at hbecomes
      exact ⟨s', hexec, hbecomes⟩
    · obtain ⟨s', hexec, honly, hbatches, -⟩ := cfgWr_batch hc hb hlit hin hdest hw hwhole hfirst hv
      rw [Tile.withBatch_held hk hid] at hbatches
      exact ⟨s', hexec, honly, hbatches⟩
    · obtain ⟨s', hexec, hbecomes⟩ := batchSeal_shows (id := id) hc hb hlit hwhole hfirst count low
      rw [Tile.withBatch_held hk hid] at hbecomes
      exact ⟨s', hexec, hbecomes, k.complete_iff _⟩

end Sys2Proof.Machine

/-! # PROOFS. Words, discards and hub registers of the towpath (R206 to R208, R211, R219) -/

namespace Sys2Proof.Machine

open Sys2Proof

variable {s : State}

/-! ## The counters of a hop (R211) -/

/-- From `s` to `s'`, router `r` has counted `m` words sent again and `dropped` messages dropped. -/
def TpCounts (s s' : State) (r m dropped : Nat) : Prop :=
  Map.get s'.win 0 (objKey 0x2640 1) = Map.get s.win 0 (objKey 0x2640 1) + m ∧
  Map.get s'.win 0 (objKey 0x2640 2) = Map.get s.win 0 (objKey 0x2640 2) + dropped ∧
  (r < 2304 →
    s'.regN r 0xc04 = (if m = 0 then s.regN r 0xc04 else min (s.regN r 0xc04 + m) 0xFFFFFFFF) ∧
    s'.regN r 0xc08 = (if dropped = 0 then s.regN r 0xc08 else min (s.regN r 0xc08 + dropped) 0xFFFFFFFF)) ∧
  (2304 ≤ r → r < 2448 →
    let h := Map.get s.hubs Hub.init (r - 2304)
    let h' := Map.get s'.hubs Hub.init (r - 2304)
    h'.retry = (if m = 0 then h.retry else min (h.retry + m) 0xFFFFFFFF) ∧
    h'.drops = (if dropped = 0 then h.drops else min (h.drops + dropped) 0xFFFFFFFF))

theorem TpCounts.start (s : State) (r : Nat) : TpCounts s s r 0 0 := ⟨rfl, rfl, fun _ => ⟨rfl, rfl⟩, fun _ _ => ⟨rfl, rfl⟩⟩

/-- What leaves the counters leaves what has been counted. -/
theorem TpCounts.of {a b : State} {r m n : Nat} (h : TpCounts s a r m n)
    (hwin : ∀ j, j = 1 ∨ j = 2 → Map.get b.win 0 (objKey 0x2640 j) = Map.get a.win 0 (objKey 0x2640 j))
    (hregs : ∀ off, off = 0xc04 ∨ off = 0xc08 → b.regN r off = a.regN r off)
    (hhub : ∀ k, (Map.get b.hubs Hub.init k).retry = (Map.get a.hubs Hub.init k).retry ∧
      (Map.get b.hubs Hub.init k).drops = (Map.get a.hubs Hub.init k).drops) : TpCounts s b r m n := by
  obtain ⟨h1, h2, htile, hhubs⟩ := h
  refine ⟨(hwin 1 (Or.inl rfl)).trans h1, (hwin 2 (Or.inr rfl)).trans h2, fun hr => ?_, fun hlow hhigh => ?_⟩
  · rw [hregs _ (Or.inl rfl), hregs _ (Or.inr rfl)]
    exact htile hr
  · simp only [(hhub _).1, (hhub _).2]
    exact hhubs hlow hhigh

/-- `a` differs from `s` in counters of the towpath alone. -/
structure TpCounted (s a : State) : Prop where
  canon : Canonical a
  rest : { a with tregs := s.tregs, win := s.win, hubs := s.hubs } = s
  regs : ∀ t off, off < 65536 → off ≠ 0xc04 → off ≠ 0xc08 → a.regN t off = s.regN t off
  responses : ∀ k, (Map.get a.hubs Hub.init k).responses = (Map.get s.hubs Hub.init k).responses

theorem TpCounted.refl (hc : Canonical s) : TpCounted s s := ⟨hc, rfl, fun _ _ _ _ _ => rfl, fun _ => rfl⟩

theorem TpCounted.eq {a : State} (h : TpCounted s a) : ∃ x y z, a = { s with tregs := x, win := y, hubs := z } :=
  ⟨a.tregs, a.win, a.hubs, by rw [← h.rest]⟩

theorem TpCounted.trans {a b : State} (h : TpCounted s a) (h' : TpCounted a b) : TpCounted s b := by
  refine ⟨h'.canon, ?_, fun t off hoff h4 h8 => (h'.regs t off hoff h4 h8).trans (h.regs t off hoff h4 h8),
    fun k => (h'.responses k).trans (h.responses k)⟩
  obtain ⟨x, y, z, hb⟩ := h'.eq
  obtain ⟨x', y', z', ha⟩ := h.eq
  subst ha
  subst hb
  rfl

theorem TpCounted.tiles {a : State} (h : TpCounted s a) : a.tiles = s.tiles := by obtain ⟨x, y, z, rfl⟩ := h.eq; rfl
theorem TpCounted.objs {a : State} (h : TpCounted s a) : a.objs = s.objs := by obtain ⟨x, y, z, rfl⟩ := h.eq; rfl
theorem TpCounted.mem {a : State} (h : TpCounted s a) : a.mem = s.mem := by obtain ⟨x, y, z, rfl⟩ := h.eq; rfl
theorem TpCounted.basins {a : State} (h : TpCounted s a) : a.basins = s.basins := by obtain ⟨x, y, z, rfl⟩ := h.eq; rfl
theorem TpCounted.boot {a : State} (h : TpCounted s a) : a.boot = s.boot := by obtain ⟨x, y, z, rfl⟩ := h.eq; rfl
theorem TpCounted.alarmQ {a : State} (h : TpCounted s a) : a.alarmQ = s.alarmQ := by obtain ⟨x, y, z, rfl⟩ := h.eq; rfl
theorem TpCounted.agentRsp {a : State} (h : TpCounted s a) : a.agentRsp = s.agentRsp := by obtain ⟨x, y, z, rfl⟩ := h.eq; rfl
theorem TpCounted.srv {a : State} (h : TpCounted s a) : a.srv = s.srv := by obtain ⟨x, y, z, rfl⟩ := h.eq; rfl
theorem TpCounted.upd {a : State} (h : TpCounted s a) : a.upd = s.upd := by obtain ⟨x, y, z, rfl⟩ := h.eq; rfl

theorem objKey_towpath_ne {i j : Nat} (h : i ≠ j) : objKey 0x2640 i ≠ objKey 0x2640 j := by
  unfold objKey
  omega

theorem State.hub_updHub_same (hc : Canonical s) (k : Nat) (f : Hub → Hub) :
    Map.get (s.updHub k f).hubs Hub.init k = f (Map.get s.hubs Hub.init k) := Map.get_put_same _ (fun _ => Hub.init) _ _ _ hc.hubs

theorem State.hub_updHub_other (s : State) {k j : Nat} (h : j ≠ k) (f : Hub → Hub) :
    Map.get (s.updHub k f).hubs Hub.init j = Map.get s.hubs Hub.init j := Map.get_put_other _ _ _ _ _ _ h

theorem State.bumpWin_eq (s : State) (k n : Nat) : ∃ y, s.bumpWin k n = { s with win := y } := ⟨_, rfl⟩

theorem State.bumpReg_eq (s : State) (t off n : Nat) : ∃ x, s.bumpReg t off n = { s with tregs := x } := ⟨_, rfl⟩

theorem State.updHub_eq (s : State) (k : Nat) (f : Hub → Hub) : ∃ z, s.updHub k f = { s with hubs := z } := ⟨_, rfl⟩

theorem State.tpCount_eq (s : State) (j off n r : Nat) (f : Hub → Hub) :
    ∃ x y z, (if r < 2304 then (s.bumpWin (objKey 0x2640 j) n).bumpReg r off n
      else if r < 2448 then (s.bumpWin (objKey 0x2640 j) n).updHub (r - 2304) f else s.bumpWin (objKey 0x2640 j) n) =
        { s with tregs := x, win := y, hubs := z } := by
  obtain ⟨y, hy⟩ := s.bumpWin_eq (objKey 0x2640 j) n
  rw [hy]
  generalize ha : ({ s with win := y } : State) = a
  obtain ⟨x, hx⟩ := a.bumpReg_eq r off n
  obtain ⟨z, hz⟩ := a.updHub_eq (r - 2304) f
  rw [hx, hz]
  subst ha
  split
  · exact ⟨x, y, s.hubs, rfl⟩
  · split
    · exact ⟨s.tregs, y, z, rfl⟩
    · exact ⟨s.tregs, y, s.hubs, rfl⟩

/-- One more of a hop's counts: at the register and at the hub's field that hold it. -/
theorem State.tpCount_counted (hc : Canonical s) (j off n r : Nat) (hoff : off = 0xc04 ∨ off = 0xc08) (f : Hub → Hub)
    (hf : ∀ h, (f h).responses = h.responses) :
    TpCounted s (if r < 2304 then (s.bumpWin (objKey 0x2640 j) n).bumpReg r off n
      else if r < 2448 then (s.bumpWin (objKey 0x2640 j) n).updHub (r - 2304) f else s.bumpWin (objKey 0x2640 j) n) := by
  have hout := unwatched_false
  have hw := State.bumpWin_good (k := objKey 0x2640 j) (n := n) (good_start hc noParts)
  refine ⟨(good_ite (State.bumpReg_good hw) (good_ite (State.updHub_good hw) hw)).canon, ?_, fun t g hg h4 h8 => ?_, fun k => ?_⟩
  · obtain ⟨x, y, z, h⟩ := s.tpCount_eq j off n r f
    rw [h]
  · split
    · exact State.regN_setRegN_other _ _ (by omega) hg (Or.inr (by omega))
    · split <;> rfl
  · have hhubs : (s.bumpWin (objKey 0x2640 j) n).hubs = s.hubs := State.bumpWin_hubs _ _ _
    split
    · rw [State.bumpReg_hubs, hhubs]
    · split
      · by_cases hk : k = r - 2304
        · rw [hk, State.hub_updHub_same hw.canon, hf, hhubs]
        · rw [State.hub_updHub_other _ hk, hhubs]
      · rw [hhubs]

theorem State.tpRetry_counted (hc : Canonical s) (r n : Nat) : TpCounted s (s.tpRetry r n) :=
  State.tpCount_counted hc 1 0xc04 n r (Or.inl rfl) _ fun _ => rfl

theorem State.tpDrop_counted (hc : Canonical s) (r : Nat) : TpCounted s (s.tpDrop r) :=
  State.tpCount_counted hc 2 0xc08 1 r (Or.inr rfl) _ fun _ => rfl

theorem State.hopRetry_counted (hc : Canonical s) (hop : TpHop) : TpCounted s (s.hopRetry hop) := by
  unfold State.hopRetry
  split
  · exact TpCounted.refl hc
  · exact State.tpRetry_counted hc _ _

theorem State.tpRetry_counts (hc : Canonical s) (r : Nat) {m : Nat} (hm : m ≠ 0) : TpCounts s (s.tpRetry r m) r m 0 := by
  have hout := unwatched_false
  have hw := (State.bumpWin_good (k := objKey 0x2640 1) (n := m) (good_start hc noParts)).canon
  have hwin : (s.tpRetry r m).win = (s.bumpWin (objKey 0x2640 1) m).win := by
    unfold State.tpRetry
    extract_lets s1
    split
    · rfl
    · split <;> rfl
  refine ⟨by rw [hwin, State.win_bumpWin_same hc], by rw [hwin, State.win_bumpWin_other _ _ (objKey_towpath_ne (by decide))]; rfl,
    fun hr => ?_, fun hlow hhigh => ?_⟩
  · have hretry : s.tpRetry r m = (s.bumpWin (objKey 0x2640 1) m).bumpReg r 0xc04 m := if_pos hr
    rw [hretry, State.regN_bumpReg_same hw, if_neg hm, if_pos rfl]
    exact ⟨rfl, State.regN_setRegN_other _ _ (by decide) (by decide) (Or.inr (by decide))⟩
  · have hretry : s.tpRetry r m = (s.bumpWin (objKey 0x2640 1) m).updHub (r - 2304)
        (fun h => { h with retry := min (h.retry + m) 0xFFFFFFFF }) := (if_neg (by omega)).trans (if_pos hhigh)
    simp only
    rw [hretry, State.hub_updHub_same hw, if_neg hm]
    exact ⟨rfl, rfl⟩

theorem State.hopRetry_counts (hc : Canonical s) (hop : TpHop) :
    TpCounts s (s.hopRetry hop) hop.router.val hop.resent.val 0 := by
  unfold State.hopRetry
  split
  next h =>
    rw [h]
    exact TpCounts.start s _
  next h => exact State.tpRetry_counts hc _ h

theorem TpCounts.tpDrop {a : State} {r m : Nat} (h : TpCounts s a r m 0) (hc : Canonical a) : TpCounts s (a.tpDrop r) r m 1 := by
  have hout := unwatched_false
  have hw := (State.bumpWin_good (k := objKey 0x2640 2) (n := 1) (good_start hc noParts)).canon
  have hwin : (a.tpDrop r).win = (a.bumpWin (objKey 0x2640 2) 1).win := by
    unfold State.tpDrop
    extract_lets s1
    split
    · rfl
    · split <;> rfl
  obtain ⟨h1, h2, htile, hhubs⟩ := h
  refine ⟨?_, ?_, fun hr => ?_, fun hlow hhigh => ?_⟩
  · rw [hwin, State.win_bumpWin_other _ _ (objKey_towpath_ne (by decide)), h1]
  · rw [hwin, State.win_bumpWin_same hc, h2]
  · have hdrop : a.tpDrop r = (a.bumpWin (objKey 0x2640 2) 1).bumpReg r 0xc08 1 := if_pos hr
    obtain ⟨h4, h8⟩ := htile hr
    rw [hdrop, State.regN_bumpReg_same hw]
    refine ⟨(State.regN_setRegN_other _ _ (by decide) (by decide) (Or.inr (by decide))).trans h4, ?_⟩
    rw [show (a.bumpWin (objKey 0x2640 2) 1).regN r 0xc08 = a.regN r 0xc08 from rfl, h8]
    rfl
  · have hdrop : a.tpDrop r = (a.bumpWin (objKey 0x2640 2) 1).updHub (r - 2304)
        (fun h => { h with drops := min (h.drops + 1) 0xFFFFFFFF }) := (if_neg (by omega)).trans (if_pos hhigh)
    obtain ⟨h4, h8⟩ := hhubs hlow hhigh
    simp only
    rw [hdrop, State.hub_updHub_same hw]
    refine ⟨h4, ?_⟩
    rw [show Map.get (a.bumpWin (objKey 0x2640 2) 1).hubs Hub.init (r - 2304) = Map.get a.hubs Hub.init (r - 2304) from rfl]
    dsimp only
    rw [h8]
    rfl

/-! ## The alarm of a lost message (R211, R217) -/

/-- A tile with alarm `m` raised: what it waits for and answers stays, and the alarm is queued while it has room. -/
structure Tile.Raised (v v' : Tile) (m : AlarmMsg) : Prop where
  responses : v'.tp.responses = v.tp.responses
  missed : v'.lk.missed = v.lk.missed
  result : v'.lk.result = v.lk.result
  alarms : v.tp.alarms.length < 4 → v'.tp.alarms = v.tp.alarms ++ [m]

theorem Tile.Raised.traced {v v' : Tile} {m : AlarmMsg} (h : Tile.Raised v v' m) (d : DigestUnit) (l : List TpEntry) :
    Tile.Raised v { v' with dig := d, tp := { v'.tp with up := l } } m := ⟨h.responses, h.missed, h.result, h.alarms⟩

theorem State.regN_trace (s : State) (t kind hi : Nat) (words : List Nat) {off : Nat} (hoff : off < 65536) (h : off ≠ 0x9a8) :
    (s.trace t kind hi words).regN t off = s.regN t off := by
  unfold State.trace
  split
  · extract_lets tl body
    split
    · rfl
    · exact State.regN_setRegN_other _ _ (by decide) hoff (Or.inr h)
  · rfl

/-- What an alarm's message does to its tile's queue. -/
def State.alarmQueued (s : State) (t cause detail : Nat) : State :=
  if !(s.tile t).lk.faulted || decide ((s.tile t).tp.alarms.length < 4) then
    s.setTile t { s.tile t with
      lk := { (s.tile t).lk with faulted := true },
      tp := { ((s.tile t).tp.send t 5 keeperAddr [cause + detail % 65536 * 65536, s.regN t 0xf08, s.regN t 0xf00]) with
        alarms := (s.tile t).tp.alarms ++ [s.tileMsg t cause detail] } }
  else (s.setTile t { s.tile t with tp := { (s.tile t).tp with overflow := true } }).bumpWin (objKey 0x2640 4) 1

/-- The first alarm of a tile is shown in its registers, and traced. -/
def State.alarmShownAt (s : State) (t cause detail : Nat) : State :=
  (s.setRegN t 0x6004 (cause + detail % 65536 * 65536)).setRegN t 0x6008 (s.regN t 0xf08)

theorem State.raiseAlarm_eq (s : State) (t cause detail : Nat) :
    ∃ words, s.raiseAlarm t cause detail =
      if !(s.tile t).lk.faulted then ((s.alarmQueued t cause detail).alarmShownAt t cause detail).trace t 4 0 words
      else s.alarmQueued t cause detail := ⟨_, rfl⟩

theorem State.alarmQueued_tile (hc : Canonical s) (t cause detail : Nat) :
    Tile.Raised (s.tile t) ((s.alarmQueued t cause detail).tile t) (s.tileMsg t cause detail) := by
  unfold State.alarmQueued
  split
  · rw [s.tile_setTile_same hc t]
    exact ⟨rfl, rfl, rfl, fun _ => rfl⟩
  next h =>
    have hfull : ¬ (s.tile t).tp.alarms.length < 4 := fun hlt => h (by simp [hlt])
    rw [State.tile_of_tiles (State.bumpWin_tiles _ _ _), s.tile_setTile_same hc t]
    exact ⟨rfl, rfl, rfl, fun hlt => absurd hlt hfull⟩

/-- An alarm changes no tile but its own, no register but its own, and no counter of the hop. -/
theorem State.alarmQueued_keeps (s : State) (t cause detail : Nat) :
    (∀ u, u ≠ t → (s.alarmQueued t cause detail).tile u = s.tile u) ∧ (s.alarmQueued t cause detail).tregs = s.tregs ∧
      ∀ j, j = 1 ∨ j = 2 → Map.get (s.alarmQueued t cause detail).win 0 (objKey 0x2640 j) = Map.get s.win 0 (objKey 0x2640 j) := by
  unfold State.alarmQueued
  split
  · exact ⟨fun u hu => s.tile_setTile_other t u _ hu, rfl, fun _ _ => rfl⟩
  · refine ⟨fun u hu => (State.tile_of_tiles (State.bumpWin_tiles _ _ _) u).trans (s.tile_setTile_other t u _ hu),
      (State.bumpWin_tregs _ _ _).trans (State.setTile_tregs _ _ _), fun j hj => ?_⟩
    rw [State.win_bumpWin_other _ _ (objKey_towpath_ne (by omega)), State.setTile_win]

/-- What an alarm raised at tile `t` leaves, and what it does to the tile. -/
theorem State.raiseAlarm_shows (hc : Canonical s) (t cause detail : Nat) :
    Tile.Raised (s.tile t) ((s.raiseAlarm t cause detail).tile t) (s.tileMsg t cause detail) ∧
      (∀ u, u ≠ t → (s.raiseAlarm t cause detail).tile u = s.tile u) ∧
      (∀ off, off = 0xc04 ∨ off = 0xc08 → (s.raiseAlarm t cause detail).regN t off = s.regN t off) ∧
      (∀ j, j = 1 ∨ j = 2 → Map.get (s.raiseAlarm t cause detail).win 0 (objKey 0x2640 j) = Map.get s.win 0 (objKey 0x2640 j)) := by
  have hout := unwatched_false
  obtain ⟨words, heq⟩ := s.raiseAlarm_eq t cause detail
  have hraised := State.alarmQueued_tile hc t cause detail
  obtain ⟨hothers, htregs, hwin⟩ := s.alarmQueued_keeps t cause detail
  rw [heq]
  have hq : Canonical (s.alarmQueued t cause detail) :=
    (good_ite (State.setTile_good (good_start hc noParts)) (State.bumpWin_good (State.setTile_good (good_start hc noParts)))).canon
  generalize s.alarmQueued t cause detail = a at hq hraised hothers htregs hwin ⊢
  have hregs := State.regN_of_tregs (s := s) (a := a) htregs t
  split
  · have hcan : Canonical (a.alarmShownAt t cause detail) :=
      (State.setRegN_good (State.setRegN_good (good_start hq noParts))).canon
    have htiles : (a.alarmShownAt t cause detail).tiles = a.tiles := by
      rw [State.alarmShownAt, State.setRegN_tiles, State.setRegN_tiles]
    have hwin1 : (a.alarmShownAt t cause detail).win = a.win := by
      rw [State.alarmShownAt, State.setRegN_win, State.setRegN_win]
    obtain ⟨d, l, htile⟩ := State.trace_tile hcan t 4 0 words
    rw [htile, State.tile_of_tiles htiles]
    refine ⟨hraised.traced d l, fun u hu => ?_, fun off hoff => ?_, fun j hj => ?_⟩
    · rw [State.trace_others _ _ _ _ hu, State.tile_of_tiles htiles, hothers u hu]
    · rw [State.regN_trace _ _ _ _ _ (by omega) (by omega), State.alarmShownAt,
        State.regN_setRegN_other _ _ (by decide) (by omega) (Or.inr (by omega)),
        State.regN_setRegN_other _ _ (by decide) (by omega) (Or.inr (by omega)), hregs]
    · have hkeep : ((a.alarmShownAt t cause detail).trace t 4 0 words).win = (a.alarmShownAt t cause detail).win :=
        (State.trace_keeps hcan t 4 0 words).same.win rfl
      rw [hkeep, hwin1, hwin j hj]
  · exact ⟨hraised, hothers, fun off _ => hregs off, hwin⟩

/-- `a` has an alarm more than `s`, at the tile of router `r` or at the active Lockkeeper. -/
structure LinkFaulted (s a : State) (r b : Nat) : Prop where
  canon : Canonical a
  mem : a.mem = s.mem
  objs : a.objs = s.objs
  basins : a.basins = s.basins
  hubs : a.hubs = s.hubs
  agentRsp : a.agentRsp = s.agentRsp
  srv : a.srv = s.srv
  boot : a.boot = s.boot
  win : ∀ j, j = 1 ∨ j = 2 → Map.get a.win 0 (objKey 0x2640 j) = Map.get s.win 0 (objKey 0x2640 j)
  regs : ∀ off, off = 0xc04 ∨ off = 0xc08 → a.regN r off = s.regN r off
  others : ∀ u, u ≠ r → a.tile u = s.tile u
  tile : r < 2304 → a.alarmQ = s.alarmQ ∧ Tile.Raised (s.tile r) (a.tile r) (s.tileMsg r 0xE 0)
  agent : 2304 ≤ r → a.tiles = s.tiles ∧ a.alarmQ = s.alarmQ ++
    [⟨0xE, 0, 0, if b < 16 then s.obj (0x2610 + b) 1 % 2 ^ 32 else 0, b, 2304, 0⟩]

theorem State.linkFault_shows (hc : Canonical s) (r b : Nat) : LinkFaulted s (s.linkFault r b) r b := by
  have hout := unwatched_false
  unfold State.linkFault
  split
  next h =>
    obtain ⟨htile, hothers, hregs, hwin⟩ := State.raiseAlarm_shows hc r 0xE 0
    have hk : Good ⟨s.pending, s, { tregs := false, win := false, tiles := false }⟩ (s.raiseAlarm r 0xE 0) :=
      State.raiseAlarm_good (good_start hc _)
    exact ⟨hk.canon, hk.same.mem rfl, hk.same.objs rfl, hk.same.basins rfl, hk.same.hubs rfl, hk.same.agentRsp rfl, hk.same.srv rfl,
      hk.same.boot rfl, hwin, hregs, hothers, fun _ => ⟨hk.same.alarmQ rfl, htile⟩, fun h' => absurd h (by omega)⟩
  next h =>
    exact ⟨(State.agentAlarm_good (good_start hc noParts)).canon, rfl, rfl, rfl, rfl, rfl, rfl, rfl, fun _ _ => rfl, fun _ _ => rfl,
      fun _ _ => rfl, fun h' => absurd h' h, fun _ => ⟨rfl, rfl⟩⟩

section

variable {a : State} {r b : Nat}

theorem LinkFaulted.responses (h : LinkFaulted s a r b) (t : Nat) : (a.tile t).tp.responses = (s.tile t).tp.responses := by
  by_cases ht : t = r
  · subst ht
    by_cases hr : t < 2304
    · exact (h.tile hr).2.responses
    · rw [State.tile_of_tiles (h.agent (by omega)).1]
  · rw [h.others t ht]

theorem LinkFaulted.waits (h : LinkFaulted s a r b) (t : Nat) :
    (a.tile t).lk.missed = (s.tile t).lk.missed ∧ (a.tile t).lk.result = (s.tile t).lk.result := by
  by_cases ht : t = r
  · subst ht
    by_cases hr : t < 2304
    · exact ⟨(h.tile hr).2.missed, (h.tile hr).2.result⟩
    · rw [State.tile_of_tiles (h.agent (by omega)).1]
      exact ⟨rfl, rfl⟩
  · rw [h.others t ht]
    exact ⟨rfl, rfl⟩

theorem LinkFaulted.counts {z : State} {m n : Nat} (h : LinkFaulted s a r b) (hcount : TpCounts z s r m n) : TpCounts z a r m n :=
  hcount.of h.win h.regs fun k => by rw [h.hubs]; exact ⟨rfl, rfl⟩

end

/-- From `s` to `s'` a lost message has raised its alarm at router `r`, or at the active Lockkeeper for basin `b`. -/
def TpAlarmed (s s' : State) (r b : Nat) : Prop :=
  (r < 2304 → s'.alarmQ = s.alarmQ ∧ ((s.tile r).tp.alarms.length < 4 →
    (s'.tile r).tp.alarms = (s.tile r).tp.alarms ++ [s.tileMsg r 0xE 0])) ∧
  (2304 ≤ r → s'.tiles = s.tiles ∧ s'.alarmQ = s.alarmQ ++
    [⟨0xE, 0, 0, if b < 16 then s.obj (0x2610 + b) 1 % 2 ^ 32 else 0, b, 2304, 0⟩])

theorem TpCounted.tileMsg {a : State} (h : TpCounted s a) (t cause detail : Nat) : a.tileMsg t cause detail = s.tileMsg t cause detail := by
  rw [State.tileMsg, State.tileMsg, h.regs t 0xf08 (by decide) (by decide) (by decide), h.regs t 0xf00 (by decide) (by decide) (by decide),
    State.basinOf_of_basins h.basins]

theorem LinkFaulted.alarmed {d a : State} {r b : Nat} (hd : TpCounted s d) (h : LinkFaulted d a r b) : TpAlarmed s a r b := by
  refine ⟨fun hr => ?_, fun hr => ?_⟩
  · obtain ⟨hq, hraised⟩ := h.tile hr
    have halarms := hraised.alarms
    rw [State.tile_of_tiles hd.tiles, hd.tileMsg] at halarms
    exact ⟨hq.trans hd.alarmQ, halarms⟩
  · obtain ⟨htiles, hq⟩ := h.agent hr
    rw [hd.alarmQ, State.obj_of_objs hd.objs] at hq
    exact ⟨htiles.trans hd.tiles, hq⟩

/-- The device once a hop has dropped its message. -/
def State.hopDropped (s : State) (hop : TpHop) : State := (s.hopRetry hop).tpDrop hop.router.val

theorem State.hopDropped_counted (hc : Canonical s) (hop : TpHop) : TpCounted s (s.hopDropped hop) :=
  have h := State.hopRetry_counted hc hop
  h.trans (State.tpDrop_counted h.canon _)

theorem State.hopDropped_counts (hc : Canonical s) (hop : TpHop) :
    TpCounts s (s.hopDropped hop) hop.router.val hop.resent.val 1 :=
  (State.hopRetry_counts hc hop).tpDrop (State.hopRetry_counted hc hop).canon

theorem State.hopLost_malformed (s : State) {hop : TpHop} (h : hopMalformed hop = true) (b : Nat) :
    (s.hopRetry hop).hopLost hop b = s.hopDropped hop := if_pos h

theorem State.hopLost_fails (s : State) {hop : TpHop} (h : hopMalformed hop = false) (b : Nat) :
    (s.hopRetry hop).hopLost hop b = (s.hopDropped hop).linkFault hop.router.val b := if_neg (by rw [h]; decide)

theorem hopLoses_of_malformed {hop : TpHop} (h : hopMalformed hop = true) : hopLoses hop = true := by
  unfold hopMalformed at h
  unfold hopLoses
  split at h
  next l hl => rw [hl]; exact h
  next => cases h

/-- A hop that fails twice counts, raises its alarm, and changes nothing that a message carries. -/
theorem State.hopLost_shows (hc : Canonical s) {hop : TpHop} (h : hopMalformed hop = false) (b : Nat) :
    TpCounts s ((s.hopRetry hop).hopLost hop b) hop.router.val hop.resent.val 1 ∧
      TpAlarmed s ((s.hopRetry hop).hopLost hop b) hop.router.val b ∧
      LinkFaulted (s.hopDropped hop) ((s.hopRetry hop).hopLost hop b) hop.router.val b := by
  have hd := State.hopDropped_counted hc hop
  have hf := State.linkFault_shows hd.canon hop.router.val b
  rw [State.hopLost_fails s h]
  exact ⟨hf.counts (State.hopDropped_counts hc hop), hf.alarmed hd, hf⟩

/-! ## Messages that a hop passes on, or loses -/

/-- The message of `i` acts by `g` once its hop is behind it, and is lost as `lost` says. -/
def Passes (i : TpHop → Instr) (lost : State → TpHop → State) : Prop :=
  ∃ g : State → State, ∀ (s : State) (hop : TpHop), s.obj 0x2641 8 ≠ 3 →
    exec (i hop) s = .next (if hopLoses hop then lost (s.hopRetry hop) hop else g (s.hopRetry hop))

theorem Passes.whole {i : TpHop → Instr} {lost : State → TpHop → State} (h : Passes i lost) (hc : Canonical s) {hop : TpHop}
    (hwhole : hopLoses hop = false) (hobj : s.obj 0x2641 8 ≠ 3) :
    ∃ s1, exec (i hop) s = exec (i TpHop.clean) s1 ∧ TpCounts s s1 hop.router.val hop.resent.val 0 ∧
      { s1 with tregs := s.tregs, win := s.win, hubs := s.hubs } = s := by
  obtain ⟨g, hg⟩ := h
  have hcounted := State.hopRetry_counted hc hop
  refine ⟨s.hopRetry hop, ?_, State.hopRetry_counts hc hop, hcounted.rest⟩
  rw [hg s hop hobj, hg (s.hopRetry hop) TpHop.clean (by rw [State.obj_of_objs hcounted.objs]; exact hobj), hwhole,
    State.hopRetry_none _ (hop := TpHop.clean) rfl]
  rfl

theorem Passes.lost {i : TpHop → Instr} {lost : State → TpHop → State} (h : Passes i lost) {hop : TpHop} (hlost : hopLoses hop = true)
    (hobj : s.obj 0x2641 8 ≠ 3) : exec (i hop) s = .next (lost (s.hopRetry hop) hop) := by
  obtain ⟨g, hg⟩ := h
  rw [hg s hop hobj, if_pos hlost]

/-- What a write request does at its destination. -/
def State.writeAt (s : State) (d : BitVec 12) (w : Word32) (data : List Word32) : State :=
  let c := cfgFields w
  let batch := if c.batch then some c.id else none
  match s.destAt d.toNat with
  | some (.tile t) => s.cfgWrTile t c.off c.n data batch
  | some (.hub h) => s.cfgWrHub h c.off c.n data batch
  | some a => s.cfgAgent d.toNat a c.off c.n (some data) batch
  | none => s.agentRespond firstGateway rspUnreachable []

/-- What a read request does at its destination. -/
def State.readAt (s : State) (d : BitVec 12) (w : Word32) : State :=
  let c := cfgFields w
  match s.destAt d.toNat with
  | some (.tile t) => s.cfgRdTile t c.off c.n
  | some (.hub h) => s.cfgRdHub h c.off c.n
  | some a => s.cfgAgent d.toNat a c.off c.n none none
  | none => s.agentRespond firstGateway rspUnreachable []

theorem State.toTarget_tile (s : State) (t : TileId) (hop : TpHop) (f : State → Nat → State) :
    s.toTarget (.tile t) hop f =
      if hopLoses hop then (s.hopRetry hop).hopLost hop ((s.hopRetry hop).msgBasin t) else f (s.hopRetry hop) t := by
  unfold State.toTarget State.reached
  cases hopLoses hop <;> rfl

theorem State.repairTo_tile (s : State) (t : TileId) (idx : Nat) (h : s.obj 0x2641 8 ≠ 3) : s.repairTo (.tile t) idx = (.tile t, false) := by
  unfold State.repairTo
  split
  next u g hu hg =>
    obtain rfl : t = u := TpTarget.tile.inj hu
    exact if_pos h
  next => rfl

section

variable {t : TileId} {d : BitVec 12} {word low : Word32} {data : List Word32} {id x : BitVec 8} {c : BitVec 16} {w : BitVec 30}
  {bytes : BitVec 128} {crc : Word32} {sum : Word64}

theorem toTile_passes : ∀ i ∈ ([.batchSeal t id c low, .fwInfo (.tile t) w sum, .fwChunk (.tile t) id c bytes crc,
    .fwActivate (.tile t) w x, .fwCancel (.tile t)] : List (TpHop → Instr)), Passes i (fun s hop => s.hopLost hop (s.msgBasin t)) := by
  simp only [List.forall_mem_cons]
  refine ⟨⟨fun s => s.sealBatch t id.toNat c.toNat low.toNat, fun s hop _ => ?_⟩,
    ⟨fun s => s.fwInfo t (fwIdent w) (fwNumber w) sum, fun s hop _ => congrArg _ (s.toTarget_tile t hop _)⟩,
    ⟨fun s => s.fwChunk t id c bytes crc, fun s hop hobj => ?_⟩,
    ⟨fun s => s.fwActivate t (fwIdent w) x.toNat, fun s hop _ => congrArg _ (s.toTarget_tile t hop _)⟩,
    ⟨fun s => s.fwCancel t, fun s hop _ => congrArg _ (s.toTarget_tile t hop _)⟩, List.forall_mem_nil _⟩
  · change execBatchSeal t id c low hop s = _
    unfold execBatchSeal
    cases hopLoses hop <;> rfl
  · change execFwChunk (.tile t) id c bytes crc hop s = _
    unfold execFwChunk
    rw [State.repairTo_tile _ _ _ hobj]
    exact congrArg _ (s.toTarget_tile t hop _)

theorem requests_pass : ∀ i ∈ ([.cfgWr d word data, .cfgRd d word] : List (TpHop → Instr)),
    Passes i (fun s hop => s.requestLost d.toNat hop) := by
  simp only [List.forall_mem_cons]
  refine ⟨⟨fun s => s.writeAt d word data, fun s hop _ => ?_⟩, ⟨fun s => s.readAt d word, fun s hop _ => ?_⟩, List.forall_mem_nil _⟩
  · change execCfgWr d word data hop s = _
    unfold execCfgWr State.writeAt
    cases hopLoses hop
    · dsimp only
      cases (s.hopRetry hop).destAt d.toNat with
      | none => rfl
      | some x => cases x <;> rfl
    · rfl
  · change execCfgRd d word hop s = _
    unfold execCfgRd State.readAt
    cases hopLoses hop
    · dsimp only
      cases (s.hopRetry hop).destAt d.toNat with
      | none => rfl
      | some x => cases x <;> rfl
    · rfl

end

/-! ## What waits at an address -/

theorem State.destAt_congr {a : State} (h : a.boot = s.boot) (n : Nat) : a.destAt n = s.destAt n := by
  have hans : a.answers = s.answers := funext fun x => by
    unfold State.answers State.hubExists State.shapeRows
    rw [h]
  rw [State.destAt, State.destAt, hans]

theorem State.waitingAt_congr {a : State} (htiles : ∀ t, (a.tile t).tp.responses = (s.tile t).tp.responses)
    (hhubs : ∀ k, (Map.get a.hubs Hub.init k).responses = (Map.get s.hubs Hub.init k).responses) (hagent : a.agentRsp = s.agentRsp)
    (n : Nat) : a.waitingAt n = s.waitingAt n := by
  unfold State.waitingAt
  split
  · exact htiles _
  · exact hhubs _
  · rw [hagent]

theorem TpCounted.waitingAt {a : State} (h : TpCounted s a) (n : Nat) : a.waitingAt n = s.waitingAt n :=
  State.waitingAt_congr (fun t => by rw [State.tile_of_tiles h.tiles]) h.responses h.agentRsp n

theorem LinkFaulted.waitingAt {a : State} {r b : Nat} (h : LinkFaulted s a r b) (n : Nat) : a.waitingAt n = s.waitingAt n :=
  State.waitingAt_congr h.responses (fun k => by rw [h.hubs]) h.agentRsp n

theorem TpCounted.msgBasin {a : State} (h : TpCounted s a) (t : Nat) : a.msgBasin t = s.msgBasin t := by
  rw [State.msgBasin, State.msgBasin, State.basinOf_of_basins h.basins]

theorem TpCounted.destBasin {a : State} (h : TpCounted s a) (x : Option TpDest) : a.destBasin x = s.destBasin x := by
  unfold State.destBasin
  split
  · exact h.msgBasin _
  · exact h.msgBasin _
  · rfl

/-- A request whose hop fails is counted and raises its alarm; nothing is answered. -/
theorem State.requestLost_shows (hc : Canonical s) {hop : TpHop} (hfail : hopMalformed hop = false) (n : Nat) :
    let a := (s.hopRetry hop).requestLost n hop
    TpCounts s a hop.router.val hop.resent.val 1 ∧ TpAlarmed s a hop.router.val (s.destBasin (s.destAt n)) ∧
      a.mem = s.mem ∧ a.objs = s.objs ∧ a.basins = s.basins ∧ a.waitingAt n = s.waitingAt n := by
  have hr := State.hopRetry_counted hc hop
  have hd := State.hopDropped_counted hc hop
  obtain ⟨hcounts, halarm, hf⟩ := State.hopLost_shows hc hfail (s.destBasin (s.destAt n))
  have heq : (s.hopRetry hop).requestLost n hop = (s.hopRetry hop).hopLost hop (s.destBasin (s.destAt n)) := by
    rw [State.requestLost, hr.destBasin, State.destAt_congr hr.boot]
    exact if_neg (by rw [hfail]; decide)
  intro a
  have ha : a = _ := heq
  rw [ha]
  exact ⟨hcounts, halarm, hf.mem.trans hd.mem, hf.objs.trans hd.objs, hf.basins.trans hd.basins,
    (hf.waitingAt n).trans (hd.waitingAt n)⟩

/-! ## Answers of hubs and agents (R219) -/

theorem State.hubRespond_shows (hc : Canonical s) (h st : Nat) (data : List Word32) :
    (Map.get (s.hubRespond h st data).hubs Hub.init h).responses = (Map.get s.hubs Hub.init h).responses ++ [⟨2304 + h, st, data⟩] ∧
      (∀ g, g ≠ h → Map.get (s.hubRespond h st data).hubs Hub.init g = Map.get s.hubs Hub.init g) ∧
      { s.hubRespond h st data with hubs := s.hubs } = s ∧
      ∀ k, (Map.get (s.hubRespond h st data).hubs Hub.init k).retry = (Map.get s.hubs Hub.init k).retry ∧
        (Map.get (s.hubRespond h st data).hubs Hub.init k).drops = (Map.get s.hubs Hub.init k).drops := by
  have hout := unwatched_false
  have hsend : Canonical (s.hubSend h 9 keeperAddr ((st + 65536 * data.length) :: data.map (·.toNat))) :=
    (State.updHub_good (good_start hc noParts)).canon
  have hother : ∀ g, g ≠ h → Map.get (s.hubRespond h st data).hubs Hub.init g = Map.get s.hubs Hub.init g := fun g hg => by
    rw [State.hubRespond, State.hub_updHub_other _ hg, State.hubSend, State.hub_updHub_other _ hg]
  have hown : Map.get (s.hubRespond h st data).hubs Hub.init h = _ := State.hub_updHub_same hsend h _
  rw [State.hubSend, State.hub_updHub_same hc] at hown
  refine ⟨by rw [hown], hother, ?_, fun k => ?_⟩
  · obtain ⟨z, hz⟩ := s.updHub_eq h (fun x => { x with up := tpPost x.up (tpMessage 9 keeperAddr (tpCode (.hub h))
      ((st + 65536 * data.length) :: data.map (·.toNat))) })
    rw [State.hubRespond, State.hubSend, hz]
    obtain ⟨z', hz'⟩ := ({ s with hubs := z } : State).updHub_eq h (fun x => { x with
      responses := x.responses ++ [⟨2304 + h, st, data⟩] })
    rw [hz']
  · by_cases hk : k = h
    · subst hk
      rw [hown]
      exact ⟨rfl, rfl⟩
    · rw [hother k hk]
      exact ⟨rfl, rfl⟩

theorem State.agentRespond_waitingAt (s : State) (n st : Nat) (data : List Word32) :
    Map.get (s.agentRespond n st data).agentRsp [] n = Map.get s.agentRsp [] n ++ [⟨2448 + n % 64, st, data⟩] :=
  map_get_put_of_ne _ _ _ (by simp)

/-- A malformed request is counted and answered MALFORMED at its destination. -/
theorem State.requestMalformed_shows (hc : Canonical s) {hop : TpHop} (hbad : hopMalformed hop = true) (n : Nat) :
    let a := (s.hopRetry hop).requestLost n hop
    TpCounts s a hop.router.val hop.resent.val 1 ∧ a.mem = s.mem ∧ a.objs = s.objs ∧
      (∀ u : TileId, s.destAt n = some (.tile u.val) → a.waitingAt n = s.waitingAt n ++ [⟨u.val, 5, []⟩]) ∧
      (∀ h : Fin 144, s.destAt n = some (.hub h.val) →
        a.tiles = s.tiles ∧ a.waitingAt n = s.waitingAt n ++ [⟨2304 + h.val, 5, []⟩]) := by
  have hd := State.hopDropped_counted hc hop
  have hcounts := State.hopDropped_counts hc hop
  have heq : (s.hopRetry hop).requestLost n hop = (s.hopDropped hop).destRespond n 5 := by
    rw [State.requestLost, State.hopLost_malformed s hbad]
    exact if_pos hbad
  intro a
  have ha : a = _ := heq
  rw [ha]
  have haddr : ∀ x, s.destAt n = some x → tpAddr n = some x := fun x hx => (Option.filter_eq_some_iff.mp hx).1
  have hwait := hd.waitingAt n
  have hdest := State.destAt_congr hd.boot n
  have hmem := hd.mem
  have hobjs := hd.objs
  have htiles := hd.tiles
  have hcanon := hd.canon
  generalize s.hopDropped hop = b at hd hcounts hwait hdest hmem hobjs htiles hcanon ⊢
  have hsame : (∀ t, b.destAt n = some (.tile t) → b.destRespond n 5 = b.respond t 5 []) ∧
      (∀ k, b.destAt n = some (.hub k) → b.destRespond n 5 = b.hubRespond k 5 []) := by
    refine ⟨fun t ht => ?_, fun k hk => ?_⟩
    · rw [State.destRespond, ht]
    · rw [State.destRespond, hk]
  have hrest : (∃ t, b.destRespond n 5 = b.respond t 5 []) ∨ (∃ k, b.destRespond n 5 = b.hubRespond k 5 []) ∨
      ∃ m, b.destRespond n 5 = b.agentRespond m 5 [] := by
    unfold State.destRespond
    split
    · exact Or.inl ⟨_, rfl⟩
    · exact Or.inr (Or.inl ⟨_, rfl⟩)
    · exact Or.inr (Or.inr ⟨_, rfl⟩)
    · exact Or.inr (Or.inr ⟨_, rfl⟩)
  have hkeep : TpCounts s (b.destRespond n 5) hop.router.val hop.resent.val 1 ∧ (b.destRespond n 5).mem = b.mem ∧
      (b.destRespond n 5).objs = b.objs := by
    rcases hrest with ⟨t, ht⟩ | ⟨k, hk⟩ | ⟨m, hm⟩
    · rw [ht]
      exact ⟨hcounts.of (fun _ _ => rfl) (fun _ _ => rfl) fun _ => ⟨rfl, rfl⟩, rfl, rfl⟩
    · obtain ⟨-, -, -, hfields⟩ := State.hubRespond_shows hcanon k 5 []
      rw [hk]
      exact ⟨hcounts.of (fun _ _ => rfl) (fun _ _ => rfl) hfields, rfl, rfl⟩
    · rw [hm]
      exact ⟨hcounts.of (fun _ _ => rfl) (fun _ _ => rfl) fun _ => ⟨rfl, rfl⟩, rfl, rfl⟩
  obtain ⟨hcount, hm, ho⟩ := hkeep
  refine ⟨hcount, hm.trans hmem, ho.trans hobjs, fun u hu => ?_, fun k hk => ?_⟩
  · obtain ⟨-, -, hresponses, -⟩ := State.respond_shows hcanon u.val 5 []
    rw [hsame.1 _ (hdest.trans hu), ← hwait, State.waitingAt, State.waitingAt, haddr _ hu]
    exact hresponses
  · obtain ⟨hresponses, -⟩ := State.hubRespond_shows hcanon k.val 5 []
    rw [hsame.2 _ (hdest.trans hk), ← hwait]
    refine ⟨htiles, ?_⟩
    rw [State.waitingAt, State.waitingAt, haddr _ hk]
    exact hresponses

/-- The first part of O29: what a hop counts, and what is lost with its message. -/
theorem towpath_hops (hc : Canonical s) (hop : TpHop) (t : TileId) (d : BitVec 12) (word low : Word32) (data : List Word32)
    (id x : BitVec 8) (c : BitVec 16) (w : BitVec 30) (bytes : BitVec 128) (crc : Word32) (sum : Word64) (hobj : s.obj 0x2641 8 ≠ 3) :
    let toTile : List (TpHop → Instr) := [.batchSeal t id c low, .fwInfo (.tile t) w sum, .fwChunk (.tile t) id c bytes crc,
      .fwActivate (.tile t) w x, .fwCancel (.tile t)]
    let requests : List (TpHop → Instr) := [.cfgWr d word data, .cfgRd d word]
    (hopLoses hop = false → ∀ i ∈ toTile ++ requests, ∃ s1, exec (i hop) s = exec (i TpHop.clean) s1 ∧
      TpCounts s s1 hop.router.val hop.resent.val 0 ∧ { s1 with tregs := s.tregs, win := s.win, hubs := s.hubs } = s) ∧
    (∀ i ∈ toTile,
      (hopMalformed hop = true → ∃ s', exec (i hop) s = .next s' ∧ TpCounts s s' hop.router.val hop.resent.val 1 ∧
        { s' with tregs := s.tregs, win := s.win, hubs := s.hubs } = s) ∧
      (hopLoses hop = true → hopMalformed hop = false → ∃ s', exec (i hop) s = .next s' ∧
        TpCounts s s' hop.router.val hop.resent.val 1 ∧ TpAlarmed s s' hop.router.val ((s.basinOf t).getD 16) ∧
        s'.mem = s.mem ∧ s'.objs = s.objs ∧ s'.basins = s.basins)) ∧
    (∀ i ∈ requests,
      (hopLoses hop = true → hopMalformed hop = false → ∃ s', exec (i hop) s = .next s' ∧
        TpCounts s s' hop.router.val hop.resent.val 1 ∧ TpAlarmed s s' hop.router.val (s.destBasin (s.destAt d.toNat)) ∧
        s'.mem = s.mem ∧ s'.objs = s.objs ∧ s'.basins = s.basins ∧ s'.waitingAt d.toNat = s.waitingAt d.toNat) ∧
      (hopMalformed hop = true → ∃ s', exec (i hop) s = .next s' ∧ TpCounts s s' hop.router.val hop.resent.val 1 ∧
        s'.mem = s.mem ∧ s'.objs = s.objs ∧
        (∀ u : TileId, s.destAt d.toNat = some (.tile u.val) →
          s'.waitingAt d.toNat = s.waitingAt d.toNat ++ [⟨u.val, 5, []⟩]) ∧
        (∀ h : Fin 144, s.destAt d.toNat = some (.hub h.val) →
          s'.tiles = s.tiles ∧ s'.waitingAt d.toNat = s.waitingAt d.toNat ++ [⟨2304 + h.val, 5, []⟩]))) := by
  intro toTile requests
  have htile := toTile_passes (t := t) (low := low) (id := id) (x := x) (c := c) (w := w) (bytes := bytes) (crc := crc) (sum := sum)
  have hrequest := requests_pass (d := d) (word := word) (data := data)
  refine ⟨fun hwhole i hi => ?_, fun i hi => ⟨fun hbad => ?_, fun hlost hfail => ?_⟩, fun i hi => ⟨fun hlost hfail => ?_, fun hbad => ?_⟩⟩
  · rcases List.mem_append.mp hi with h | h
    · exact (htile i h).whole hc hwhole hobj
    · exact (hrequest i h).whole hc hwhole hobj
  · refine ⟨_, (htile i hi).lost (hopLoses_of_malformed hbad) hobj, ?_⟩
    rw [State.hopLost_malformed s hbad]
    exact ⟨State.hopDropped_counts hc hop, (State.hopDropped_counted hc hop).rest⟩
  · have hd := State.hopDropped_counted hc hop
    have hbasin : (s.hopRetry hop).msgBasin t = (s.basinOf t).getD 16 := (State.hopRetry_counted hc hop).msgBasin t
    obtain ⟨hcounts, halarm, hf⟩ := State.hopLost_shows hc hfail ((s.hopRetry hop).msgBasin t)
    rw [hbasin] at hcounts halarm hf
    refine ⟨_, (htile i hi).lost hlost hobj, ?_⟩
    rw [hbasin]
    exact ⟨hcounts, halarm, hf.mem.trans hd.mem, hf.objs.trans hd.objs, hf.basins.trans hd.basins⟩
  · exact ⟨_, (hrequest i hi).lost hlost hobj, State.requestLost_shows hc hfail d.toNat⟩
  · exact ⟨_, (hrequest i hi).lost (hopLoses_of_malformed hbad) hobj, State.requestMalformed_shows hc hbad d.toNat⟩

/-! ## What is discarded on its way (R211, R212, R215, R217) -/

/-- What a loss at a hop leaves of the device. -/
structure LossKeeps (s a : State) : Prop where
  basins : a.basins = s.basins
  srv : a.srv = s.srv
  responses : ∀ t, (a.tile t).tp.responses = (s.tile t).tp.responses
  waits : ∀ t, (a.tile t).lk.missed = (s.tile t).lk.missed ∧ (a.tile t).lk.result = (s.tile t).lk.result

theorem State.hopLost_keeps (hc : Canonical s) (hop : TpHop) (b : Nat) : LossKeeps s (s.hopLost hop b) := by
  have hd := State.tpDrop_counted hc hop.router.val
  have hf := State.linkFault_shows hd.canon hop.router.val b
  rw [State.hopLost]
  split
  · exact ⟨hd.basins, hd.srv, fun t => by rw [State.tile_of_tiles hd.tiles], fun t => by rw [State.tile_of_tiles hd.tiles]; exact ⟨rfl, rfl⟩⟩
  · refine ⟨hf.basins.trans hd.basins, hf.srv.trans hd.srv, fun t => ?_, fun t => ?_⟩
    · rw [hf.responses, State.tile_of_tiles hd.tiles]
    · rw [(hf.waits t).1, (hf.waits t).2, State.tile_of_tiles hd.tiles]
      exact ⟨rfl, rfl⟩

theorem State.hopLost_tiles (hc : Canonical s) {hop : TpHop} (hagent : 2304 ≤ hop.router.val) (b : Nat) :
    (s.hopLost hop b).tiles = s.tiles := by
  have hd := State.tpDrop_counted hc hop.router.val
  have hf := State.linkFault_shows hd.canon hop.router.val b
  rw [State.hopLost]
  split
  · exact hd.tiles
  · exact (hf.agent hagent).1.trans hd.tiles

section

variable {hop : TpHop} {r : Fin 152} {b : BasinId} {t : TileId}

theorem barUp_lost (hc : Canonical s) {num : BitVec 8} (hlost : hopLoses hop = true)
    (hheld : ∃ f ∈ (s.basin b).barFrames, f.at_ = r.val ∧ f.num = num.toNat) :
    ∃ s', exec (.barUp r b num hop) s = .next s' ∧ s'.basin b = { s.basin b with
      barFrames := (s.basin b).barFrames.eraseP (fun f => decide (f.at_ = r.val) && decide (f.num = num.toNat)) } := by
  have hout := unwatched_false
  have hany : s.barHeld r b num.toNat = true := List.any_eq_true.mpr (by simpa using hheld)
  have hexec : exec (.barUp r b num hop) s = .next (((s.hopRetry hop).barLost r b num.toNat).hopLost hop b) := by
    change execBarUp r b num hop s = _
    rw [execBarUp, if_pos hany, if_pos hlost]
  have hr := State.hopRetry_counted hc hop
  have hframes := State.framesTaken_keeps hr.canon b r 1
  have hlostc : Canonical ((s.hopRetry hop).barLost r b num.toNat) := (State.updBasin_good (good_start hframes.canon noParts)).canon
  refine ⟨_, hexec, ?_⟩
  rw [State.basin_of_basins (State.hopLost_keeps hlostc hop b).basins, State.barLost, State.basin_updBasin_same hframes.canon,
    State.basin_of_basins (hframes.same.basins rfl), State.basin_of_basins hr.basins]

theorem lockUp_lost (hc : Canonical s) {split : Bool} (hlost : hopLoses hop = true)
    (hheld : ∃ f ∈ (s.basin b).lockFrames, f.at_ = r.val) :
    ∃ s', exec (.lockUp r b split hop) s = .next s' ∧ s'.basin b = { s.basin b with
      lockFrames := (s.basin b).lockFrames.eraseP (fun f => decide (f.at_ = r.val)) } := by
  have hout := unwatched_false
  have hany : (s.basin b).lockFrames.any (fun f => decide (f.at_ = r.val)) = true := List.any_eq_true.mpr (by simpa using hheld)
  have hexec : exec (.lockUp r b split hop) s = .next (((s.hopRetry hop).lockFrameLost r b).hopLost hop b) := by
    change execLockUp r b split hop s = _
    rw [execLockUp, if_pos hany, if_pos hlost]
  have hr := State.hopRetry_counted hc hop
  have hframes := State.framesTaken_keeps hr.canon b r 3
  have hlostc : Canonical ((s.hopRetry hop).lockFrameLost r b) := (State.updBasin_good (good_start hframes.canon noParts)).canon
  refine ⟨_, hexec, ?_⟩
  rw [State.basin_of_basins (State.hopLost_keeps hlostc hop b).basins, State.lockFrameLost, State.basin_updBasin_same hframes.canon,
    State.basin_of_basins (hframes.same.basins rfl), State.basin_of_basins hr.basins]

theorem State.resultDue_missed (h : (s.tile t).lk.missed = true) : s.resultDue t = false := by
  unfold State.resultDue
  split
  · rfl
  · split
    · rfl
    · simp [h]

theorem State.resultDue_result (h : s.resultDue t = true) : (s.tile t).lk.result = none := by
  unfold State.resultDue at h
  split at h
  · cases h
  · split at h
    · cases h
    · simp only [Bool.and_eq_true] at h
      exact Option.isNone_iff_eq_none.mp h.1.1.2

/-- A tile that lost the result of its wave holds none, and receives none. -/
theorem lockResult_lost (hc : Canonical s) (hlost : hopLoses hop = true) (hdue : s.resultDue t = true) :
    ∃ s', exec (.lockResult t hop) s = .next s' ∧ s'.basins = s.basins ∧ (s'.tile t).lk.missed = true ∧
      (s'.tile t).lk.result = none ∧ ∀ again : TpHop, exec (.lockResult t again) s' = .next s' := by
  have hout := unwatched_false
  have hr := State.hopRetry_counted hc hop
  have hexec : exec (.lockResult t hop) s = .next (((s.hopRetry hop).updLk t (fun l => { l with missed := true })).hopLost hop
      ((s.hopRetry hop).msgBasin t)) := by
    change execLockResult t hop s = _
    rw [execLockResult, if_pos hdue, if_pos hlost]
  obtain ⟨htile, hothers, -⟩ := ((TileRun.start hr.canon t.val).updTile
    (fun tl => { tl with lk := { tl.lk with missed := true } })).becomes
  have hmiss : Canonical ((s.hopRetry hop).updLk t (fun l => { l with missed := true })) :=
    (State.updTile_good (good_start hr.canon noParts)).canon
  have hkeep := State.hopLost_keeps hmiss hop ((s.hopRetry hop).msgBasin t)
  have hlk : (((s.hopRetry hop).updLk t (fun l => { l with missed := true })).tile t).lk =
      { (s.tile t).lk with missed := true } := (congrArg Tile.lk htile).trans (by rw [State.tile_of_tiles hr.tiles])
  obtain ⟨hm, hres⟩ := hkeep.waits t
  rw [hlk] at hm hres
  refine ⟨_, hexec, hkeep.basins.trans hr.basins, hm, hres.trans (State.resultDue_result hdue), fun again => ?_⟩
  change execLockResult t again _ = _
  rw [execLockResult, if_neg (by rw [State.resultDue_missed hm]; decide)]

/-- An alarm that is lost leaves its queue and reaches no Lockkeeper. -/
theorem alarm_lost (hc : Canonical s) (hlost : hopLoses hop = true) {m : AlarmMsg} {rest : List AlarmMsg} (hactive : s.activeLk ≠ none)
    (hagent : 2304 ≤ hop.router.val) (halarms : (s.tile t).tp.alarms = m :: rest) :
    ∃ s', exec (.alarm (some t) hop) s = .next s' ∧ s'.basins = s.basins ∧ s'.srv = s.srv ∧
      s'.tile t = { s.tile t with tp := { (s.tile t).tp with alarms := rest, up := tpTake (s.tile t).tp.up 5 } } := by
  have hout := unwatched_false
  obtain ⟨htile, -⟩ := (((TileRun.start hc t.val).updTile
    (fun tl => { tl with tp := { tl.tp with alarms := rest } })).updTile
    (fun tl => { tl with tp := { tl.tp with up := tpTake tl.tp.up 5 } })).becomes
  have hexec : exec (.alarm (some t) hop) s = .next
      (((s.updTile t (fun tl => { tl with tp := { tl.tp with alarms := rest } })).tileTook t 5).alarmHop m hop) := by
    change execAlarm (some t) hop s = _
    rw [execAlarm, if_neg (by simpa using hactive)]
    simp only [halarms]
  have ha : Canonical ((s.updTile t (fun tl => { tl with tp := { tl.tp with alarms := rest } })).tileTook t 5) :=
    (State.updTile_good (State.updTile_good (good_start hc noParts))).canon
  have hbasins : ((s.updTile t (fun tl => { tl with tp := { tl.tp with alarms := rest } })).tileTook t 5).basins = s.basins := rfl
  have hsrv : ((s.updTile t (fun tl => { tl with tp := { tl.tp with alarms := rest } })).tileTook t 5).srv = s.srv := rfl
  change ((s.updTile t (fun tl => { tl with tp := { tl.tp with alarms := rest } })).tileTook t 5).tile t = _ at htile
  generalize (s.updTile t (fun tl => { tl with tp := { tl.tp with alarms := rest } })).tileTook t 5 = a at htile hexec ha hbasins hsrv
  have hr := State.hopRetry_counted ha hop
  have hhop : a.alarmHop m hop = (a.hopRetry hop).hopLost hop m.basin := if_pos hlost
  have hkeep := State.hopLost_keeps hr.canon hop m.basin
  refine ⟨_, hexec, ?_, ?_, ?_⟩
  · rw [hhop, hkeep.basins, hr.basins, hbasins]
  · rw [hhop, hkeep.srv, hr.srv, hsrv]
  · rw [hhop, State.tile_of_tiles (State.hopLost_tiles hr.canon hagent m.basin), State.tile_of_tiles hr.tiles, htile]

/-- A response that is lost leaves its queue. -/
theorem cfgRsp_lost (hc : Canonical s) (hlost : hopLoses hop = true) {d : BitVec 12} (haddr : tpAddr d.toNat = some (.tile t.val))
    (hsome : (s.tile t).tp.responses ≠ []) :
    ∃ s', exec (.cfgRsp d hop) s = .next s' ∧ (s'.tile t).tp.responses = (s.tile t).tp.responses.drop 1 := by
  have hout := unwatched_false
  have htake : s.takeResponse d.toNat =
      (s.updTile t (fun tl => { tl with tp := { tl.tp with responses := tl.tp.responses.drop 1 } })).tileTook t 9 := by
    rw [State.takeResponse, haddr]
  have hexec : exec (.cfgRsp d hop) s = .next (((s.takeResponse d.toNat).hopRetry hop).hopLost hop
      (((s.takeResponse d.toNat).hopRetry hop).destBasin (tpAddr d.toNat))) := by
    change execCfgRsp d hop s = _
    rw [execCfgRsp, waitingAt_tile haddr, if_neg (by simpa using hsome)]
    exact if_pos hlost
  obtain ⟨htile, -⟩ := (((TileRun.start hc t.val).updTile
    (fun tl => { tl with tp := { tl.tp with responses := tl.tp.responses.drop 1 } })).updTile
    (fun tl => { tl with tp := { tl.tp with up := tpTake tl.tp.up 9 } })).becomes
  have ha : Canonical (s.takeResponse d.toNat) := by
    rw [htake]
    exact (State.updTile_good (State.updTile_good (good_start hc noParts))).canon
  have hr := State.hopRetry_counted ha hop
  refine ⟨_, hexec, ?_⟩
  rw [(State.hopLost_keeps hr.canon hop _).responses, State.tile_of_tiles hr.tiles, htake]
  exact congrArg (fun v : Tile => v.tp.responses) htile

end

/-! ## Requests that go elsewhere than to a tile (R205, R208, R219, R226, R470) -/

theorem tpAddr_tile (t : TileId) : tpAddr (tpCode (.tile t.val)) = some (.tile t.val) := by
  have ht := t.isLt
  have hhi : (t.val / 48 * 64 + t.val % 48) / 64 % 64 = t.val / 48 := by omega
  have hlo : (t.val / 48 * 64 + t.val % 48) % 64 = t.val % 48 := by omega
  simp only [tpCode, tpAddr, hhi, hlo]
  rw [if_pos (by omega), if_pos (by omega), show 48 * (t.val / 48) + t.val % 48 = t.val by omega]

theorem tpAddr_hub (h : Fin 144) : tpAddr (tpCode (.hub h.val)) = some (.hub h.val) := by
  have hh := h.isLt
  have hhi : ((48 + h.val / 12) * 64 + h.val % 12) / 64 % 64 = 48 + h.val / 12 := by omega
  have hlo : ((48 + h.val / 12) * 64 + h.val % 12) % 64 = h.val % 12 := by omega
  simp only [tpCode, tpAddr, hhi, hlo]
  rw [if_neg (by omega), if_pos (by omega), if_pos (by omega), show 12 * (48 + h.val / 12 - 48) + h.val % 12 = h.val by omega]

section

variable {d : BitVec 12} {hop : TpHop}

theorem execCfgWr_whole (w : Word32) (l : List Word32) (hwhole : hopLoses hop = false) (hfirst : hop.resent.val = 0) :
    exec (.cfgWr d w l hop) s = .next (s.writeAt d w l) := by
  change execCfgWr d w l hop s = _
  unfold execCfgWr State.writeAt
  rw [State.hopRetry_none s hfirst, hwhole]
  dsimp only
  cases s.destAt d.toNat with
  | none => rfl
  | some x => cases x <;> rfl

theorem execCfgRd_whole (w : Word32) (hwhole : hopLoses hop = false) (hfirst : hop.resent.val = 0) :
    exec (.cfgRd d w hop) s = .next (s.readAt d w) := by
  change execCfgRd d w hop s = _
  unfold execCfgRd State.readAt
  rw [State.hopRetry_none s hfirst, hwhole]
  dsimp only
  cases s.destAt d.toNat with
  | none => rfl
  | some x => cases x <;> rfl

theorem waitingAt_hub {h : Nat} (haddr : tpAddr d.toNat = some (.hub h)) :
    s.waitingAt d.toNat = (Map.get s.hubs Hub.init h).responses := by rw [State.waitingAt, haddr]

/-- A berth hub answers its registers' words, and no write changes one. -/
theorem towpath_hub (hc : Canonical s) (v w : Word32) (hwhole : hopLoses hop = false) (hfirst : hop.resent.val = 0) (h : Fin 144)
    (hdest : s.destAt d.toNat = some (.hub h.val)) :
    let c := cfgFields w
    let x := Map.get s.hubs Hub.init h.val
    let answered (s' : State) (st : Nat) (l : List Word32) : Prop :=
      (Map.get s'.hubs Hub.init h.val).responses = x.responses ++ [⟨2304 + h.val, st, l⟩] ∧
      (∀ g, g ≠ h.val → Map.get s'.hubs Hub.init g = Map.get s.hubs Hub.init g) ∧ { s' with hubs := s.hubs } = s
    (c = ⟨0, 4, c.batch, c.id⟩ → ∃ s', exec (.cfgRd d w hop) s = .next s' ∧ answered s' 0 [BitVec.ofNat 32 x.missMask,
      BitVec.ofNat 32 x.retry, BitVec.ofNat 32 x.drops, BitVec.ofNat 32 ((s.basinOf (hubTile h.val)).getD 0x10)]) ∧
    (c.off % 4 = 0 → c.off < 16 → c.n = 1 → c.batch = false →
      ∃ s', exec (.cfgWr d w [v] hop) s = .next s' ∧ answered s' 3 []) ∧
    (x.responses ≠ [] → ∃ s', exec (.cfgRsp d hop) s = .next s' ∧ { s' with hubs := s.hubs } = s ∧
      (Map.get s'.hubs Hub.init h.val).responses = x.responses.drop 1) := by
  intro c x answered
  have hanswer : ∀ st l, answered (s.hubRespond h.val st l) st l := fun st l => by
    obtain ⟨hown, hother, hrest, -⟩ := State.hubRespond_shows hc h.val st l
    exact ⟨hown, hother, hrest⟩
  refine ⟨fun hw => ?_, fun ho hlt hn hbatch => ?_, fun hsome => ?_⟩
  · refine ⟨_, execCfgRd_whole w hwhole hfirst, ?_⟩
    have hread : s.readAt d w = s.cfgRdHub h.val c.off c.n := by
      rw [State.readAt, hdest]
    have hoff : c.off = 0 := congrArg CfgWord.off hw
    have hn : c.n = 4 := congrArg CfgWord.n hw
    rw [hread, hoff, hn]
    exact hanswer _ _
  · refine ⟨_, execCfgWr_whole w [v] hwhole hfirst, ?_⟩
    have hwrite : s.writeAt d w [v] = s.cfgWrHub h.val c.off c.n [v] none := by
      rw [State.writeAt, hdest]
      simp only [show (cfgFields w).batch = false from hbatch]
      rfl
    rw [hwrite, State.cfgWrHub, if_neg (by simp [hn]), if_neg (by omega), if_neg (by simp [ho]), if_pos hlt]
    exact hanswer _ _
  · have haddr := tpAddr_of_destAt hdest
    have hexec : exec (.cfgRsp d hop) s = .next (s.takeResponse d.toNat) := by
      change execCfgRsp d hop s = _
      rw [execCfgRsp, waitingAt_hub haddr, if_neg (by simpa using hsome)]
      dsimp only
      rw [State.hopRetry_none _ hfirst, hwhole]
      rfl
    have htake : s.takeResponse d.toNat = s.updHub h.val (fun x => { x with responses := x.responses.drop 1, up := tpTake x.up 9 }) := by
      rw [State.takeResponse, haddr]
    refine ⟨_, hexec, ?_, ?_⟩
    · obtain ⟨z, hz⟩ := s.updHub_eq h.val (fun x => { x with responses := x.responses.drop 1, up := tpTake x.up 9 })
      rw [htake, hz]
    · rw [htake, State.hub_updHub_same hc]

/-- FMUX_CH of a field gateway is written and read (R470). -/
theorem towpath_gateway (hc : Canonical s) (v w : Word32) (hwhole : hopLoses hop = false) (hfirst : hop.resent.val = 0) (f : Fin 8)
    (hdest : s.destAt d.toNat = some (.gateway f.val)) (ho : (cfgFields w).off % 4 = 0) (hlt : (cfgFields w).off < 64)
    (hn : (cfgFields w).n = 1) (hbatch : (cfgFields w).batch = false) :
    let sub := (cfgFields w).off / 4 + 1
    (∃ s', exec (.cfgWr d w [v] hop) s = .next s' ∧ s'.obj (0x2D10 + f) sub = v.toNat % 4096 ∧
      s'.waitingAt d.toNat = s.waitingAt d.toNat ++ [⟨2448 + d.toNat % 64, 0, []⟩] ∧ s'.tiles = s.tiles ∧ s'.mem = s.mem) ∧
    (∃ s', exec (.cfgRd d w hop) s = .next s' ∧ { s' with agentRsp := s.agentRsp } = s ∧
      s'.waitingAt d.toNat = s.waitingAt d.toNat ++ [⟨2448 + d.toNat % 64, 0, [BitVec.ofNat 32 (s.obj (0x2D10 + f) sub)]⟩]) := by
  intro sub
  have haddr := tpAddr_of_destAt hdest
  have hwaits : ∀ a : State, a.waitingAt d.toNat = Map.get a.agentRsp [] d.toNat := fun a => by rw [State.waitingAt, haddr]
  have hsub : (cfgFields w).off / 4 < 16 := by omega
  refine ⟨?_, ?_⟩
  · have hwrite : s.writeAt d w [v] = (s.setObj (0x2D10 + f) sub (v.toNat % 4096)).agentRespond d.toNat 0 [] := by
      rw [State.writeAt, hdest]
      simp only [hbatch, Bool.false_eq_true, if_false]
      rw [State.cfgAgent, if_neg (by simp [hn]), if_neg (by omega), if_neg (by simp [ho])]
      simp [State.cfgWrGateway, hsub, sub, rspOK]
    rw [execCfgWr_whole w [v] hwhole hfirst, hwrite]
    refine ⟨_, rfl, ?_, ?_, rfl, rfl⟩
    · have hobj : ∀ a : State, (a.agentRespond d.toNat 0 []).obj (0x2D10 + f) sub = a.obj (0x2D10 + f) sub := fun _ => rfl
      rw [hobj, State.obj_setObj_same _ hc]
      omega
    · rw [hwaits, hwaits, State.agentRespond_waitingAt]
      rfl
  · have hread : s.readAt d w = s.agentRespond d.toNat 0 [BitVec.ofNat 32 (s.obj (0x2D10 + f) sub)] := by
      rw [State.readAt, hdest]
      simp only
      rw [State.cfgAgent, if_neg (by simp [hn]), if_neg (by omega), if_neg (by simp [ho]), hn]
      simp [State.gatewayWord, hsub, sub, rspOK]
    rw [execCfgRd_whole w hwhole hfirst, hread]
    refine ⟨_, rfl, rfl, ?_⟩
    rw [hwaits, hwaits, State.agentRespond_waitingAt]

theorem tpAddr_firstGateway : tpAddr firstGateway = some (.gateway 0) := by decide

/-- A request that finds nothing at its address is answered UNREACHABLE at the first gateway. -/
theorem towpath_nothing (w : Word32) (hwhole : hopLoses hop = false) (hfirst : hop.resent.val = 0) (hdest : s.destAt d.toNat = none)
    (l : List Word32) :
    (∃ s', exec (.cfgWr d w l hop) s = .next s' ∧ { s' with agentRsp := s.agentRsp } = s ∧
      s'.waitingAt firstGateway = s.waitingAt firstGateway ++ [⟨2448, 6, []⟩]) ∧
    (∃ s', exec (.cfgRd d w hop) s = .next s' ∧ { s' with agentRsp := s.agentRsp } = s ∧
      s'.waitingAt firstGateway = s.waitingAt firstGateway ++ [⟨2448, 6, []⟩]) := by
  have hwaits : ∀ a : State, a.waitingAt firstGateway = Map.get a.agentRsp [] firstGateway := fun a => by
    rw [State.waitingAt, tpAddr_firstGateway]
  have hwrite : s.writeAt d w l = s.agentRespond firstGateway 6 [] := by rw [State.writeAt, hdest]; rfl
  have hread : s.readAt d w = s.agentRespond firstGateway 6 [] := by rw [State.readAt, hdest]; rfl
  rw [execCfgWr_whole w l hwhole hfirst, execCfgRd_whole w hwhole hfirst, hwrite, hread]
  have hshow : (s.agentRespond firstGateway 6 []).waitingAt firstGateway = s.waitingAt firstGateway ++ [⟨2448, 6, []⟩] := by
    rw [hwaits, hwaits, State.agentRespond_waitingAt]
    rfl
  exact ⟨⟨_, rfl, rfl, hshow⟩, ⟨_, rfl, rfl, hshow⟩⟩

end

/-- Settles O29: what a hop counts and loses, what is discarded on its way, and what hubs, gateways and empty addresses answer. -/
theorem towpathMessages : Obligations.TowpathMessages := by
  unfold Obligations.TowpathMessages
  refine ⟨fun s hop t d word low data id x c w bytes crc sum hc => ?_, fun s hop r b t num split hc => ?_,
    fun s d v w hop hc hwhole hfirst => ?_⟩
  · intro r m toTile requests counts alarmed hobj
    exact towpath_hops hc hop t d word low data id x c w bytes crc sum hobj
  · intro v bars reports hlost
    exact ⟨barUp_lost hc hlost, lockUp_lost hc hlost, lockResult_lost hc hlost, fun m rest => alarm_lost hc hlost,
      fun d => cfgRsp_lost hc hlost⟩
  · exact ⟨tpAddr_tile, tpAddr_hub, by decide, fun h hdest => towpath_hub hc v w hwhole hfirst h hdest,
      fun f hdest ho hlt hn hbatch => towpath_gateway hc v w hwhole hfirst f hdest ho hlt hn hbatch,
      fun hdest l => towpath_nothing w hwhole hfirst hdest l⟩

end Sys2Proof.Machine

/-! # PROOFS. Accumulator updates and checksum comparisons (R103, R113 to R115, R128 to R130) -/

namespace Sys2Proof.Machine

open Sys2Proof

variable {s : State}

/-! ## What an output row may change -/

/-- From `s` to `a` tile `t` has become `v`, no other tile and no row has changed, and `n` rows are counted as poison. -/
structure OutputRun (s a : State) (t : Nat) (v : Tile) (n : Nat) : Prop where
  canon : Canonical a
  tile : a.tile t = v
  others : ∀ u, u ≠ t → a.tile u = s.tile u
  mem : a.mem = s.mem
  lost : a.regN t 0x1040 = n

namespace OutputRun

variable {a : State} {t n : Nat} {v : Tile}

theorem start (hc : Canonical s) (t : Nat) : OutputRun s s t (s.tile t) (s.regN t 0x1040) := ⟨hc, rfl, fun _ _ => rfl, rfl, rfl⟩

theorem updTile (h : OutputRun s a t v n) (f : Tile → Tile) : OutputRun s (a.updTile t f) t (f v) n := by
  have hout := unwatched_false
  refine ⟨(State.updTile_good (good_start h.canon noParts)).canon, ?_, fun u hu => ?_, h.mem, h.lost⟩
  · rw [State.updTile, State.tile_setTile_same _ h.canon, h.tile]
  · rw [State.updTile, State.tile_setTile_other _ _ _ _ hu, h.others u hu]

theorem setRegN (h : OutputRun s a t v n) {off : Nat} (hoff : off < 65536) (hne : off ≠ 0x1040) (x : Nat) :
    OutputRun s (a.setRegN t off x) t v n := by
  have hout := unwatched_false
  obtain ⟨hcanon, htile, hothers, hmem, hlost⟩ := h
  have htiles := State.setRegN_tiles a t off x
  exact ⟨(State.setRegN_good (good_start hcanon noParts)).canon, (State.tile_of_tiles htiles t).trans htile,
    fun u hu => (State.tile_of_tiles htiles u).trans (hothers u hu), (State.setRegN_mem a t off x).trans hmem,
    (State.regN_setRegN_other _ _ hoff (by decide) (Or.inr (Ne.symm hne))).trans hlost⟩

theorem bumpReg (h : OutputRun s a t v n) {off : Nat} (hoff : off < 65536) (hne : off ≠ 0x1040) (k top : Nat) :
    OutputRun s (a.bumpReg t off k top) t v n := h.setRegN hoff hne _

theorem setRegBit (h : OutputRun s a t v n) {off : Nat} (hoff : off < 65536) (hne : off ≠ 0x1040) (i : Nat) (b : Bool) :
    OutputRun s (a.setRegBit t off i b) t v n := h.setRegN hoff hne _

/-- One more row is counted as poison. -/
theorem countLost (h : OutputRun s a t v n) : OutputRun s (a.bumpReg t 0x1040 1) t v (min (n + 1) 0xFFFFFFFF) := by
  have hout := unwatched_false
  obtain ⟨hcanon, htile, hothers, hmem, hlost⟩ := h
  have htiles := State.bumpReg_tiles a t 0x1040 1 0xFFFFFFFF
  exact ⟨(State.bumpReg_good (good_start hcanon noParts)).canon, (State.tile_of_tiles htiles t).trans htile,
    fun u hu => (State.tile_of_tiles htiles u).trans (hothers u hu), (State.bumpReg_mem a t 0x1040 1 _).trans hmem,
    (State.regN_bumpReg_same hcanon _ _ _).trans (by rw [hlost])⟩

theorem updBasin (h : OutputRun s a t v n) (b : Nat) (f : Basin → Basin) : OutputRun s (a.updBasin b f) t v n := by
  have hout := unwatched_false
  exact ⟨(State.updBasin_good (good_start h.canon noParts)).canon, h.tile, h.others, h.mem, h.lost⟩

theorem noteAlien (h : OutputRun s a t v n) : OutputRun s (a.noteAlien t) t v n := by
  unfold State.noteAlien
  split
  · exact h.updBasin _ _
  · exact h

theorem ite {b : State} {c : Prop} [Decidable c] (ha : OutputRun s a t v n) (hb : OutputRun s b t v n) :
    OutputRun s (if c then a else b) t v n := by
  split
  · exact ha
  · exact hb

theorem drawArray (h : OutputRun s a t v n) (k : Nat) (due : Bool) :
    ∃ d e, OutputRun s (a.drawArray t k due).2 t { v with draws := d, arrDraw := e } n :=
  ⟨_, _, h.updTile (fun tl => { tl with draws := tl.draws ++ [k], arrDraw := some k })⟩

theorem noteRounded (h : OutputRun s a t v n) (r : Rounded) : OutputRun s (a.noteRounded t r) t v n := by
  unfold State.noteRounded
  extract_lets +onlyGivenNames -merge -useContext -underBinder s1 s2 s3
  have h1 : OutputRun s s1 t v n := ite ((h.setRegBit (by decide) (by decide) _ _).bumpReg (by decide) (by decide) _ _) h
  have h2 : OutputRun s s2 t v n := ite (h1.setRegBit (by decide) (by decide) _ _) h1
  have h3 : OutputRun s s3 t v n := ite (h2.setRegBit (by decide) (by decide) _ _) h2
  exact ite (h3.setRegBit (by decide) (by decide) _ _) h3

theorem writesV (qs : List Nat) (f : Nat → VWrite) (h : OutputRun s a t v n) :
    OutputRun s (qs.foldl (fun a q => a.writeV t (f q)) a) t { v with vwrites := v.vwrites ++ qs.map f } n := by
  induction qs generalizing a v with
  | nil => simpa using h
  | cons q qs ih =>
    have hone : OutputRun s (a.writeV t (f q)) t { v with vwrites := v.vwrites ++ [f q] } n := h.updTile _
    simpa using ih hone

/-- The quarters of the ring that an output row writes. -/
def ringWrites (r : AccRow) (now bits : Nat) (poison : Bool) (width : Nat) : List VWrite :=
  (List.range (4 * ringUnits r.outFmt width)).map fun q =>
    ⟨now, 2, 0, 4 * ((r.vd + (r.idx * ringUnits r.outFmt width + q / 4) % (r.ring + 1)) % 32) + q % 4, wholeRow,
      BitVec.ofNat 256 (bits / 2 ^ (256 * q)), poison⟩

theorem ringWrite (h : OutputRun s a t v n) (r : AccRow) (bits : Nat) (poison : Bool) (width : Nat) :
    OutputRun s (a.ringWrite t r bits poison width) t
      { v with vwrites := v.vwrites ++ ringWrites r v.til.beat bits poison width } n := by
  have hnow : (a.tile t).til.beat = v.til.beat := by rw [h.tile]
  unfold State.ringWrite
  rw [hnow]
  exact h.writesV _ _

theorem rounded (width : Nat) (f : Nat → Rounded) (g : Nat → Nat → Nat) (h : OutputRun s a t v n) (x : Nat) :
    OutputRun s ((List.range width).foldl (fun (acc : Nat × State) c => (g acc.1 c, acc.2.noteRounded t (f c))) (x, a)).2 t v n := by
  generalize List.range width = cs
  induction cs generalizing a x with
  | nil => exact h
  | cons c cs ih => exact ih (h.noteRounded (f c)) _

end OutputRun

/-! ## An output row (R113 to R115, R128) -/

/-- A tile whose oldest output row has updated its accumulator entry. -/
def Tile.rowTaken (tl : Tile) (r : AccRow) (width : Nat) (st : EntryStep) : Tile :=
  { tl with arr := { tl.arr with rows := tl.arr.rows.drop 1
                                 entries := Map.put tl.arr.entries (AccEntry.zero width) (r.idx % 256) st.entry } }

/-- What the oldest output row makes: its entry, its quarters of the ring, and its comparison. -/
theorem State.arrayOutput_shows (hc : Canonical s) (t : Nat) (r : AccRow) :
    let width := s.width t
    let st := r.step (Map.get (s.tile t).arr.entries (AccEntry.zero width) (r.idx % 256)) width
    let lost := st.mix || decide (st.entry.poison ≠ 0) || r.poison || r.range
    let tl := (s.tile t).rowTaken r width st
    ∃ (d : List Nat) (e : Option Nat) (bits : Nat),
      OutputRun s (s.arrayOutput t r) t
        { tl with
          draws := d, arrDraw := e, vwrites := tl.vwrites ++ OutputRun.ringWrites r tl.til.beat bits lost width
          arr := { tl.arr with checks := tl.arr.checks ++ [if lost then ⟨tl.til.beat, r.idx % 256, true, 0, 0⟩ else
            ⟨tl.til.beat, r.idx % 256, false, if r.mode = 1 then 1 else 2, st.delta⟩] } }
        (if lost then min (s.regN t 0x1040 + 1) 0xFFFFFFFF else s.regN t 0x1040) := by
  intro width st lost tl
  generalize hend : s.arrayOutput t r = b
  unfold State.arrayOutput at hend
  extract_lets +onlyGivenNames -merge -useContext -underBinder width' n now s0 old st' s1 at hend
  have h0 : OutputRun s s0 t _ _ := (OutputRun.start hc t).updTile _
  have hold : old = Map.get (s.tile t).arr.entries (AccEntry.zero width) (r.idx % 256) := by simp only [old, h0.tile]; rfl
  have hst : st' = st := by simp only [st', hold]; rfl
  have h1 : OutputRun s s1 t tl (s.regN t 0x1040) := by
    simp only [s1, hst]
    exact h0.updTile _
  split at hend
  next x blk s2 hx =>
    have h2 : ∃ d e, OutputRun s s2 t { tl with draws := d, arrDraw := e } (s.regN t 0x1040) := by
      have hs2 : s2 = (if r.rnd = 5 then s1.drawArray t (r.numCtl % 8) (decide (r.beat + 66 = now)) else (0, s1)).2 := by rw [hx]
      rw [hs2]
      split
      · exact h1.drawArray _ _
      · exact ⟨tl.draws, tl.arrDraw, h1⟩
    obtain ⟨d, e, h2⟩ := h2
    extract_lets +onlyGivenNames -merge -useContext -underBinder bad at hend
    have hbad : bad = lost := by simp only [bad, hst]; rfl
    rw [hbad] at hend
    refine ⟨d, e, ?_⟩
    by_cases hl : lost = true
    · rw [if_pos hl] at hend
      extract_lets +onlyGivenNames -merge -useContext -underBinder own s3 s4 s5 s6 at hend
      have h3 : OutputRun s s3 t { tl with draws := d, arrDraw := e } (min (s.regN t 0x1040 + 1) 0xFFFFFFFF) :=
        (OutputRun.ite h2.noteAlien h2).countLost
      have h4 : OutputRun s s4 t _ _ := OutputRun.ite ((h3.bumpReg (by decide) (by decide) _ _).setRegBit (by decide) (by decide) _ _) h3
      have h5 : OutputRun s s5 t _ _ := OutputRun.ite ((h4.bumpReg (by decide) (by decide) _ _).setRegBit (by decide) (by decide) _ _) h4
      have h6 : OutputRun s s6 t _ _ := OutputRun.ite ((h5.bumpReg (by decide) (by decide) _ _).setRegBit (by decide) (by decide) _ _) h5
      have hlast := (h6.ringWrite r 0 true width).updTile (fun tl => { tl with arr := { tl.arr with
        checks := tl.arr.checks ++ [⟨now, n, true, 0, 0⟩] } })
      rw [hl, if_pos rfl, if_pos rfl]
      subst hend
      exact ⟨0, hlast⟩
    · rw [if_neg hl] at hend
      extract_lets +onlyGivenNames -merge -useContext -underBinder inex s3 w at hend
      have h3 : OutputRun s s3 t _ _ := OutputRun.ite ((h2.bumpReg (by decide) (by decide) _ _).setRegBit (by decide) (by decide) _ _) h2
      split at hend
      next y bits s4 hy =>
        have h4 : OutputRun s s4 t { tl with draws := d, arrDraw := e } (s.regN t 0x1040) := by
          have hfold := OutputRun.rounded width (fun c => outRound r.outFmt r.rnd (bitOf r.numCtl 8)
            ((st'.entry.cols.getD c ColAcc.zero).value r.mode r.rnd) (blk.toNat / 2 ^ (16 * c) % 65536))
            (fun x c => x + (outRound r.outFmt r.rnd (bitOf r.numCtl 8)
            ((st'.entry.cols.getD c ColAcc.zero).value r.mode r.rnd) (blk.toNat / 2 ^ (16 * c) % 65536)).bits * 2 ^ (w * c)) h3 0
          rw [show s4 = (bits, s4).2 from rfl, ← hy]
          exact hfold
        have hlast := (h4.ringWrite r bits false width).updTile (fun tl => { tl with arr := { tl.arr with
          checks := tl.arr.checks ++ [⟨now, n, false, if r.mode = 1 then 1 else 2, st'.delta⟩] } })
        rw [Bool.not_eq_true] at hl
        rw [hl, if_neg (by decide : ¬ (false = true)), if_neg (by decide : ¬ (false = true))]
        rw [hst] at hend hlast
        subst hend
        exact ⟨bits, hlast⟩

/-! ## A comparison that differs (R129, R130) -/

/-- An alarm changes of its tile the lock's and the router's state, and the digest unit. -/
theorem State.raiseAlarm_tile (hc : Canonical s) (t cause detail : Nat) :
    ((s.raiseAlarm t cause detail).tile t).arr = (s.tile t).arr ∧ ((s.raiseAlarm t cause detail).tile t).til = (s.tile t).til := by
  have hout := unwatched_false
  obtain ⟨words, heq⟩ := s.raiseAlarm_eq t cause detail
  have hq : Canonical (s.alarmQueued t cause detail) :=
    (good_ite (State.setTile_good (good_start hc noParts)) (State.bumpWin_good (State.setTile_good (good_start hc noParts)))).canon
  have hkeep : ((s.alarmQueued t cause detail).tile t).arr = (s.tile t).arr ∧
      ((s.alarmQueued t cause detail).tile t).til = (s.tile t).til := by
    unfold State.alarmQueued
    split
    · rw [s.tile_setTile_same hc t]
      exact ⟨rfl, rfl⟩
    · rw [State.tile_of_tiles (State.bumpWin_tiles _ _ _), s.tile_setTile_same hc t]
      exact ⟨rfl, rfl⟩
  rw [heq]
  generalize s.alarmQueued t cause detail = a at hq hkeep ⊢
  split
  · have hcan : Canonical (a.alarmShownAt t cause detail) :=
      (State.setRegN_good (State.setRegN_good (good_start hq noParts))).canon
    have htiles : (a.alarmShownAt t cause detail).tiles = a.tiles := by
      rw [State.alarmShownAt, State.setRegN_tiles, State.setRegN_tiles]
    obtain ⟨d, l, htile⟩ := State.trace_tile hcan t 4 0 words
    rw [htile, State.tile_of_tiles htiles]
    exact hkeep
  · exact hkeep

/-- An alarm writes its tile's alarm registers and the trace's count alone. -/
theorem State.raiseAlarm_regN (s : State) (t cause detail : Nat) {off : Nat} (hoff : off < 65536) (h4 : off ≠ 0x6004) (h8 : off ≠ 0x6008)
    (hlost : off ≠ 0x9a8) : (s.raiseAlarm t cause detail).regN t off = s.regN t off := by
  obtain ⟨words, heq⟩ := s.raiseAlarm_eq t cause detail
  obtain ⟨-, htregs, -⟩ := s.alarmQueued_keeps t cause detail
  rw [heq]
  generalize s.alarmQueued t cause detail = a at htregs ⊢
  have hregs := State.regN_of_tregs (s := s) (a := a) htregs t
  split
  · rw [State.regN_trace _ _ _ _ _ hoff hlost, State.alarmShownAt, State.regN_setRegN_other _ _ (by decide) hoff (Or.inr h8),
      State.regN_setRegN_other _ _ (by decide) hoff (Or.inr h4), hregs]
  · exact hregs off

/-- A bit of a word, set. -/
def withBit (v i : Nat) : Nat := v - b2n (bitOf v i) * 2 ^ i + 2 ^ i

theorem b2n_bitOf (v i : Nat) : b2n (bitOf v i) = v / 2 ^ i % 2 := by
  rw [b2n, bitOf]
  rcases Nat.mod_two_eq_zero_or_one (v / 2 ^ i) with h | h <;> simp [h]

theorem State.regN_setRegBit_true (hc : Canonical s) (t off i : Nat) :
    (s.setRegBit t off i true).regN t off = withBit (s.regN t off) i % 2 ^ 64 := by
  rw [State.setRegBit, State.regN_setRegN_same hc, withBit]
  simp [b2n]

theorem summary_bits (v : Nat) :
    bitOf (withBit (withBit v 2 % 2 ^ 64) 8 % 2 ^ 64) 2 = true ∧ bitOf (withBit (withBit v 2 % 2 ^ 64) 8 % 2 ^ 64) 8 = true := by
  simp only [withBit, b2n_bitOf]
  simp only [bitOf, beq_iff_eq]
  omega

/-- What a tile's error leaves, and what it shows in the fault summary. -/
theorem State.tileError_shows (hc : Canonical s) (t cause : Nat) :
    let a := s.tileError t 2 3 cause
    (a.tile t).arr = (s.tile t).arr ∧ (a.tile t).til = (s.tile t).til ∧ (∀ u, u ≠ t → a.tile u = s.tile u) ∧ a.mem = s.mem ∧
      bitOf (a.regN t 0x6000) 2 = true ∧ bitOf (a.regN t 0x6000) 8 = true ∧
      ∀ off, off < 0x6000 → off ≠ 0x9a8 → a.regN t off = s.regN t off := by
  have hout := unwatched_false
  have h1 : Canonical (s.setRegBit t 0x6000 2 true) := (State.setRegBit_good (good_start hc noParts)).canon
  have h2 : Canonical ((s.setRegBit t 0x6000 2 true).setRegBit t 0x6000 8 true) := (State.setRegBit_good (good_start h1 noParts)).canon
  have hsum : Good ⟨((s.setRegBit t 0x6000 2 true).setRegBit t 0x6000 8 true).pending, (s.setRegBit t 0x6000 2 true).setRegBit t 0x6000 8 true, { objs := false, basins := false }⟩
      (s.setSummary t 2 3) := by
    unfold State.setSummary
    extract_lets s1
    split
    · exact State.raiseStop_good (good_start h2 _)
    · exact good_start h2 _
  have htiles : (s.setSummary t 2 3).tiles = s.tiles := (hsum.same.tiles rfl).trans (by
    rw [State.setRegBit, State.setRegN_tiles, State.setRegBit, State.setRegN_tiles])
  have hmem : (s.setSummary t 2 3).mem = s.mem := (hsum.same.mem rfl).trans (by
    rw [State.setRegBit, State.setRegN_mem, State.setRegBit, State.setRegN_mem])
  have hregs := State.regN_of_tregs (hsum.same.tregs rfl) t
  have hbits : (s.setSummary t 2 3).regN t 0x6000 = withBit (withBit (s.regN t 0x6000) 2 % 2 ^ 64) 8 % 2 ^ 64 := by
    rw [hregs, State.regN_setRegBit_true h1, State.regN_setRegBit_true hc]
  have helse : ∀ off, off < 0x6000 → (s.setSummary t 2 3).regN t off = s.regN t off := fun off hoff => by
    rw [hregs, State.setRegBit, State.regN_setRegN_other _ _ (by decide) (by omega) (Or.inr (by omega)), State.setRegBit,
      State.regN_setRegN_other _ _ (by decide) (by omega) (Or.inr (by omega))]
  have hcan := hsum.canon
  intro a
  have ha : a = (s.setSummary t 2 3).raiseAlarm t 3 cause := rfl
  rw [ha]
  generalize s.setSummary t 2 3 = b at hcan htiles hmem hbits helse
  obtain ⟨harr, htil⟩ := State.raiseAlarm_tile hcan t 3 cause
  obtain ⟨-, hothers, -, -⟩ := State.raiseAlarm_shows hcan t 3 cause
  have hk : Good ⟨b.pending, b, { tregs := false, win := false, tiles := false }⟩ (b.raiseAlarm t 3 cause) :=
    State.raiseAlarm_good (good_start hcan _)
  rw [harr, htil, State.tile_of_tiles htiles, State.raiseAlarm_regN _ _ _ _ (off := 0x6000) (by decide) (by decide) (by decide) (by decide), hbits]
  refine ⟨rfl, rfl, fun u hu => (hothers u hu).trans (State.tile_of_tiles htiles u), (hk.same.mem rfl).trans hmem,
    (summary_bits _).1, (summary_bits _).2, fun off hoff hne => ?_⟩
  rw [State.raiseAlarm_regN _ _ _ _ (by omega) (by omega) (by omega) hne, helse off hoff]

/-- The difference of a comparison is latched. -/
def State.latched (s : State) (t cause entry : Nat) (delta : Int) : State :=
  (((s.setRegN t 0x1020 cause).setRegN t 0x1024 (s.regN t 0xf08)).setRegN t 0x1028 entry).setRegN t 0x1030 (twos 64 delta)

theorem State.arrayCheck_eq (s : State) (t cause entry : Nat) (delta : Int) :
    s.arrayCheck t cause entry delta =
      ((if s.regN t 0x1020 = 0 then s.latched t cause entry delta else s).bumpReg t 0x101c 1).tileError t 2 3 cause := rfl

theorem twos_lt (d : Int) : twos 64 d < 2 ^ 64 := by
  unfold twos
  omega

theorem State.latched_shows (hc : Canonical s) (t cause entry : Nat) (delta : Int) :
    Canonical (s.latched t cause entry delta) ∧ (s.latched t cause entry delta).tiles = s.tiles ∧
      (s.latched t cause entry delta).mem = s.mem ∧ (s.latched t cause entry delta).regN t 0x101c = s.regN t 0x101c ∧
      (s.latched t cause entry delta).regN t 0x1020 = cause % 2 ^ 64 ∧
      (s.latched t cause entry delta).regN t 0x1024 = s.regN t 0xf08 ∧
      (s.latched t cause entry delta).regN t 0x1028 = entry % 2 ^ 64 ∧ (s.latched t cause entry delta).regN t 0x1030 = twos 64 delta := by
  have hout := unwatched_false
  have h1 : Canonical (s.setRegN t 0x1020 cause) := (State.setRegN_good (good_start hc noParts)).canon
  have h2 : Canonical ((s.setRegN t 0x1020 cause).setRegN t 0x1024 (s.regN t 0xf08)) := (State.setRegN_good (good_start h1 noParts)).canon
  have h3 : Canonical (((s.setRegN t 0x1020 cause).setRegN t 0x1024 (s.regN t 0xf08)).setRegN t 0x1028 entry) :=
    (State.setRegN_good (good_start h2 noParts)).canon
  have hother : ∀ (a : State) {off g : Nat} (x : Nat), off < 65536 → g < 65536 → g ≠ off → (a.setRegN t off x).regN t g = a.regN t g :=
    fun a _ _ x hoff hg h => State.regN_setRegN_other _ _ hoff hg (Or.inr h)
  have hlt : s.regN t 0xf08 < 2 ^ 64 := BitVec.isLt _
  unfold State.latched
  refine ⟨(State.setRegN_good (good_start h3 noParts)).canon, ?_, ?_, ?_, ?_, ?_, ?_, ?_⟩
  · rw [State.setRegN_tiles, State.setRegN_tiles, State.setRegN_tiles, State.setRegN_tiles]
  · rw [State.setRegN_mem, State.setRegN_mem, State.setRegN_mem, State.setRegN_mem]
  · rw [hother _ _ (by decide) (by decide) (by decide), hother _ _ (by decide) (by decide) (by decide),
      hother _ _ (by decide) (by decide) (by decide), hother _ _ (by decide) (by decide) (by decide)]
  · rw [hother _ _ (by decide) (by decide) (by decide), hother _ _ (by decide) (by decide) (by decide),
      hother _ _ (by decide) (by decide) (by decide), State.regN_setRegN_same hc]
  · rw [hother _ _ (by decide) (by decide) (by decide), hother _ _ (by decide) (by decide) (by decide), State.regN_setRegN_same h1,
      Nat.mod_eq_of_lt hlt]
  · rw [hother _ _ (by decide) (by decide) (by decide), State.regN_setRegN_same h2]
  · rw [State.regN_setRegN_same h3, Nat.mod_eq_of_lt (twos_lt delta)]

/-- A comparison whose sides differ is counted and shown, and latched where none is latched yet. -/
theorem State.arrayCheck_shows (hc : Canonical s) (t cause entry : Nat) (delta : Int) :
    let a := s.arrayCheck t cause entry delta
    (a.tile t).arr = (s.tile t).arr ∧ (a.tile t).til = (s.tile t).til ∧ (∀ u, u ≠ t → a.tile u = s.tile u) ∧ a.mem = s.mem ∧
      a.regN t 0x101c = min (s.regN t 0x101c + 1) 0xFFFFFFFF ∧ bitOf (a.regN t 0x6000) 2 = true ∧ bitOf (a.regN t 0x6000) 8 = true ∧
      (s.regN t 0x1020 = 0 → cause < 256 → a.regN t 0x1020 = cause ∧ a.regN t 0x1024 = s.regN t 0xf08 ∧
        a.regN t 0x1028 = entry % 2 ^ 64 ∧ a.regN t 0x1030 = twos 64 delta) ∧
      (s.regN t 0x1020 ≠ 0 → ∀ off ∈ [0x1020, 0x1024, 0x1028, 0x1030], a.regN t off = s.regN t off) := by
  have hout := unwatched_false
  intro a
  have ha : a = _ := s.arrayCheck_eq t cause entry delta
  obtain ⟨hlc, hltiles, hlmem, hlcount, hl20, hl24, hl28, hl30⟩ := State.latched_shows hc t cause entry delta
  have hif : ∃ b, (if s.regN t 0x1020 = 0 then s.latched t cause entry delta else s) = b ∧ Canonical b ∧ b.tiles = s.tiles ∧
      b.mem = s.mem ∧ b.regN t 0x101c = s.regN t 0x101c ∧ (s.regN t 0x1020 = 0 → b = s.latched t cause entry delta) ∧
      (s.regN t 0x1020 ≠ 0 → b = s) := by
    split
    next h => exact ⟨_, rfl, hlc, hltiles, hlmem, hlcount, fun _ => rfl, fun h' => absurd h h'⟩
    next h => exact ⟨_, rfl, hc, rfl, rfl, rfl, fun h' => absurd h' h, fun _ => rfl⟩
  obtain ⟨b, hb, hbc, hbtiles, hbmem, hbcount, hblatched, hbsame⟩ := hif
  rw [hb] at ha
  have hcb : Canonical (b.bumpReg t 0x101c 1) := (State.bumpReg_good (good_start hbc noParts)).canon
  have hother : ∀ off, off < 65536 → off ≠ 0x101c → (b.bumpReg t 0x101c 1).regN t off = b.regN t off := fun off hoff h =>
    State.regN_setRegN_other _ _ (by decide) hoff (Or.inr h)
  have htile := State.tile_of_tiles ((State.bumpReg_tiles b t 0x101c 1 0xFFFFFFFF).trans hbtiles)
  obtain ⟨harr, htil, hothers, hmem, hbit2, hbit8, hregs⟩ := State.tileError_shows hcb t cause
  rw [ha, harr, htil, htile, hregs 0x101c (by decide) (by decide), State.regN_bumpReg_same hbc, hbcount]
  refine ⟨rfl, rfl, fun u hu => (hothers u hu).trans (htile u), hmem.trans ((State.bumpReg_mem _ _ _ _ _).trans hbmem), rfl, hbit2, hbit8,
    fun hzero hcause => ?_, fun hset off hoff => ?_⟩
  · rw [hregs _ (by decide) (by decide), hregs _ (by decide) (by decide), hregs _ (by decide) (by decide), hregs _ (by decide) (by decide),
      hother _ (by decide) (by decide), hother _ (by decide) (by decide), hother _ (by decide) (by decide), hother _ (by decide) (by decide),
      hblatched hzero, hl20, hl24, hl28, hl30]
    exact ⟨Nat.mod_eq_of_lt (by omega), rfl, rfl, rfl⟩
  · have hlt : off < 0x6000 ∧ off ≠ 0x9a8 ∧ off ≠ 0x101c := by
      simp only [List.mem_cons, List.not_mem_nil, or_false] at hoff
      omega
    rw [hregs off hlt.1 hlt.2.1, hother off (by omega) hlt.2.2, hbsame hset]

/-- Settles O15: an output row updates its entry and writes its ring, and a comparison that differs is counted, shown and latched. -/
theorem arrayResults : Obligations.ArrayResults := by
  unfold Obligations.ArrayResults
  intro s t hc a m width
  have hout := unwatched_false
  refine ⟨fun r rest hrows hdue => ?_, fun c rest hchecks delta => ?_⟩
  · obtain ⟨d, e, bits, hcanon, htile, hothers, hmem, hlost⟩ := State.arrayOutput_shows hc t.val r
    intro st lost units
    have hexec : exec (.arrayOutput t) s = .next (s.arrayOutput t r) := by
      change execArrayOutput t s = _
      rw [execArrayOutput, show (s.tile t).arr.rows = r :: rest from hrows]
      exact if_pos hdue
    refine ⟨_, hexec, hothers, hmem, by rw [htile]; rfl, by rw [htile]; rfl, ?_, ?_, hlost⟩
    · rw [htile]
      simp only [Tile.rowTaken, show (s.tile t).arr.rows = r :: rest from hrows, List.drop_one, List.tail_cons]
      rfl
    · rw [htile]
      simp only [Tile.rowTaken, OutputRun.ringWrites, List.map_append, List.map_map]
      rfl
  · intro d'
    have hexec : exec (.checksumCompare t delta) s = if c.skip || decide (d' = 0) then
        .next (s.updArr t (fun a => { a with checks := a.checks.drop 1 }))
        else .next ((s.updArr t (fun a => { a with checks := a.checks.drop 1 })).arrayCheck t c.cause c.entry d') := by
      change execChecksumCompare t delta s = _
      rw [execChecksumCompare, show (s.tile t).arr.checks = c :: rest from hchecks]
    have hrun := (TileRun.start hc t.val).updArr (fun a => { a with checks := a.checks.drop 1 })
    have hdrop : (s.tile t).arr.checks.drop 1 = rest := by rw [show (s.tile t).arr.checks = c :: rest from hchecks]; rfl
    obtain ⟨htile, hothers, hrest⟩ := hrun.becomes
    rw [hdrop] at htile
    have hcan : Canonical (s.updArr t (fun a => { a with checks := a.checks.drop 1 })) := (State.updTile_good (good_start hc noParts)).canon
    refine ⟨fun hsame => ?_, fun hskip hd => ?_⟩
    · have hcond : (c.skip || decide (d' = 0)) = true := by simpa using hsame
      refine ⟨_, hexec.trans (if_pos hcond), htile, hothers, hrest⟩
    · have hcond : ¬ (c.skip || decide (d' = 0)) = true := by simp [hskip, hd]
      have hregs : ∀ off, (s.updArr t (fun a => { a with checks := a.checks.drop 1 })).regN t off = s.regN t off := fun _ => rfl
      have hmem0 : (s.updArr t (fun a => { a with checks := a.checks.drop 1 })).mem = s.mem := rfl
      refine ⟨_, hexec.trans (if_neg hcond), ?_⟩
      obtain ⟨harr, htil, hoth, hmem, hcount, hbit2, hbit8, hlatch, hkept⟩ := State.arrayCheck_shows hcan t.val c.cause c.entry d'
      rw [htile] at harr htil
      simp only [hregs] at hcount hlatch hkept
      exact ⟨harr, htil, fun u hu => (hoth u hu).trans (hothers u hu), hmem.trans hmem0, hcount, hbit2, hbit8, hlatch, hkept⟩

end Sys2Proof.Machine

/-! # PROOFS. A clean wave's result writes a tile's gather buffers back

Where the clean horizon has passed, the result that a tile receives writes its gather entries to their rows. An entry whose
word fails its parity is then dropped with BANK_UE, which raises STOP in the tile's basin. -/

namespace Sys2Proof.Machine

open Sys2Proof

/-- The result of a wave of tile 0 that shows no difference, no fault and complete batches. -/
def cleanWave : WaveResult := ⟨0, 0, 0, true, 0, 0, 1⟩

/-- Tile 0 of basin 0 has reported and passed the horizon, and holds a gather entry whose word fails its parity. -/
def unsoundGather : State :=
  { State.reset with
    basins := [(0, { Basin.init with rect := some (0, 0, 0, 0), result := some cleanWave })]
    tiles := [(0, { Tile.init with
      lk := { LockUnit.init with reported := true, cleanPass := true }
      banks := [(0, { Bank.init with gather := [⟨0, 0, 0xFF, 0, 0xFF⟩] })] })] }

/-- Refutes O24: tile 0 receives the clean result, and the entry that it drops raises STOP in basin 0. -/
theorem not_lockWavesAndBeats : ¬ Obligations.LockWavesAndBeats := by
  unfold Obligations.LockWavesAndBeats
  intro h
  obtain ⟨-, -, hresult⟩ := h.1 unsoundGather 0 TpHop.clean (canonical_of_canonicalB (by decide +kernel)) rfl
  obtain ⟨hclean, -⟩ := hresult 0 cleanWave (by decide +kernel) (by decide +kernel) (by decide +kernel) (by decide +kernel)
    (by decide +kernel) (by decide +kernel) (by decide +kernel)
  obtain ⟨hbasins, -⟩ := after_of (hclean rfl)
  exact absurd hbasins (by decide +kernel)

end Sys2Proof.Machine

/-! # PROOFS. What an access to a row leaves of the device

Every access to row `flat` of tile `t` leaves the other rows and the other tiles, and of the tile its
tiller, switch, array and pending vector writes. -/

namespace Sys2Proof.Machine

open Sys2Proof

variable {s : State}

/-- The units of a tile that an access to one of its rows leaves. -/
structure TileUnits where
  til : Tiller
  sw : Switch
  arr : ArrayUnit
  vwrites : List VWrite

def Tile.units (v : Tile) : TileUnits := ⟨v.til, v.sw, v.arr, v.vwrites⟩

/-- From `s` to `a` no row but row `flat` of tile `t` and no other tile has changed; that row has become `w`, and the tile's
units `v`. -/
structure RowRun (s a : State) (t flat : Nat) (w : CodeWord) (v : TileUnits) : Prop where
  canon : Canonical a
  room : flat < 40960
  word : a.rowWord t flat = w
  rows : RowsElse s a t flat
  others : ∀ u, u ≠ t → a.tile u = s.tile u
  units : (a.tile t).units = v

/-- A register of a tile that is no remap entry of a bank. -/
def PlainReg (off : Nat) : Prop := off < 65536 ∧ ∀ b m, b < 16 → m < 32 → off ≠ remapOff b m

theorem plainReg_of {off : Nat} (h : off < 0x3080 ∨ 0x4000 ≤ off) (hlt : off < 65536) : PlainReg off :=
  ⟨hlt, fun _ _ _ _ => by unfold remapOff; omega⟩

theorem plainReg_bankOff {b off : Nat} (hb : b < 16) (hoff : off < 0x80) : PlainReg (bankOff b off) :=
  ⟨by unfold bankOff; omega, fun _ _ _ _ => by unfold remapOff bankOff; omega⟩

theorem plainReg_pailOff {b off : Nat} (hb : b < 16) (hoff : off < 0x80) : PlainReg (pailOff b off) :=
  plainReg_of (Or.inr (by unfold pailOff; omega)) (by unfold pailOff; omega)

theorem RowsKept.setPlain {a : State} (h : RowsKept s a) (t n : Nat) {off : Nat} (hoff : PlainReg off) :
    RowsKept s (a.setRegN t off n) :=
  ⟨h.mem, fun u b m hb hm => (State.regN_setRegN_other a n hoff.1 (by unfold remapOff; omega)
    (.inr (hoff.2 b m hb hm).symm)).trans (h.remap u b m hb hm)⟩

namespace RowRun

variable {a b : State} {t flat : Nat} {w : CodeWord} {v : TileUnits}

theorem start (hc : Canonical s) (t : Nat) {flat : Nat} (hflat : flat < 40960) :
    RowRun s s t flat (s.rowWord t flat) (s.tile t).units :=
  ⟨hc, hflat, rfl, fun _ _ _ _ _ => rfl, fun _ _ => rfl, rfl⟩

/-- An operation that keeps every row's word, every other tile and the tile's units. -/
theorem kept (h : RowRun s a t flat w v) (hc : Canonical b) (hrows : RowsKept a b) (hothers : ∀ u, u ≠ t → b.tile u = a.tile u)
    (hunits : (b.tile t).units = (a.tile t).units) : RowRun s b t flat w v :=
  ⟨hc, h.room, (hrows.rowWord t h.room).trans h.word,
    fun u g hu hg hne => (hrows.rowWord u hg).trans (h.rows u g hu hg hne),
    fun u hu => (hothers u hu).trans (h.others u hu), hunits.trans h.units⟩

/-- The tile becomes `x`. -/
theorem become (h : RowRun s a t flat w v) (x : Tile) : RowRun s (a.setTile t x) t flat w x.units := by
  have hout := unwatched_false
  have hc := (State.setTile_good (t := t) (v := x) (good_start h.canon noParts)).canon
  refine ⟨hc, h.room, h.word, h.rows, fun u hu => ?_, ?_⟩
  · rw [State.tile_setTile_other _ _ _ _ hu, h.others u hu]
  · rw [State.tile_setTile_same _ h.canon]

theorem setTile (h : RowRun s a t flat w v) {x : Tile} (hx : x.units = v) : RowRun s (a.setTile t x) t flat w v :=
  hx ▸ h.become x

theorem updTil (h : RowRun s a t flat w v) (f : Tiller → Tiller) :
    RowRun s (a.updTil t f) t flat w { v with til := f v.til } := h.units ▸ h.become _

theorem updSw (h : RowRun s a t flat w v) (f : Switch → Switch) :
    RowRun s (a.updSw t f) t flat w { v with sw := f v.sw } := h.units ▸ h.become _

theorem updArr (h : RowRun s a t flat w v) (f : ArrayUnit → ArrayUnit) :
    RowRun s (a.updArr t f) t flat w { v with arr := f v.arr } := h.units ▸ h.become _

theorem writeV (h : RowRun s a t flat w v) (x : VWrite) :
    RowRun s (a.writeV t x) t flat w { v with vwrites := v.vwrites ++ [x] } := h.units ▸ h.become _

theorem updTile (h : RowRun s a t flat w v) {f : Tile → Tile} (hf : ∀ x, (f x).units = x.units) :
    RowRun s (a.updTile t f) t flat w v := h.setTile ((hf _).trans h.units)

theorem updBank (h : RowRun s a t flat w v) (k : Nat) (f : Bank → Bank) : RowRun s (a.updBank t k f) t flat w v :=
  h.updTile fun _ => rfl

theorem setRegN (h : RowRun s a t flat w v) {off : Nat} (hoff : PlainReg off) (x : Nat) :
    RowRun s (a.setRegN t off x) t flat w v := by
  have hout := unwatched_false
  exact h.kept (State.setRegN_good (good_start h.canon noParts)).canon ((RowsKept.refl a).setPlain t x hoff) (fun _ _ => rfl) rfl

theorem bumpReg (h : RowRun s a t flat w v) {off : Nat} (hoff : PlainReg off) (k top : Nat) :
    RowRun s (a.bumpReg t off k top) t flat w v := h.setRegN hoff _

theorem countReg (h : RowRun s a t flat w v) {off : Nat} (hoff : PlainReg off) (k : Nat) :
    RowRun s (a.countReg t off k) t flat w v := h.setRegN hoff _

theorem setRegBit (h : RowRun s a t flat w v) {off : Nat} (hoff : PlainReg off) (i : Nat) (x : Bool) :
    RowRun s (a.setRegBit t off i x) t flat w v := h.setRegN hoff _

theorem bumpWin (h : RowRun s a t flat w v) (k n : Nat) : RowRun s (a.bumpWin k n) t flat w v := by
  have hout := unwatched_false
  exact h.kept (State.bumpWin_good (good_start h.canon noParts)).canon ⟨rfl, fun _ _ _ _ _ => rfl⟩ (fun _ _ => rfl) rfl

theorem setObj (h : RowRun s a t flat w v) (i j n : Nat) : RowRun s (a.setObj i j n) t flat w v :=
  h.kept (State.setObj_canonical h.canon i j n) ((RowsKept.refl a).setObj i j n) (fun _ _ => rfl) rfl

theorem updBasin (h : RowRun s a t flat w v) (b : Nat) (f : Basin → Basin) : RowRun s (a.updBasin b f) t flat w v := by
  have hout := unwatched_false
  exact h.kept (State.updBasin_good (good_start h.canon noParts)).canon ((RowsKept.refl a).updBasin b f) (fun _ _ => rfl) rfl

theorem setRowWord (h : RowRun s a t flat w v) (x : CodeWord) : RowRun s (a.setRowWord t flat x) t flat x v := by
  have hout := unwatched_false
  have htiles : (a.setRowWord t flat x).tiles = a.tiles :=
    (State.setRowWord_good (t := t) (flat := flat) (w := x) (good_start h.canon { noParts with tiles := true })).same.tiles rfl
  exact ⟨(State.setRowWord_good (good_start h.canon noParts)).canon, h.room, State.rowWord_setRowWord_same h.canon t h.room x,
    fun u g hu hg hne => (State.setRowWord_rowsElse a t h.room x u g hu hg hne).trans (h.rows u g hu hg hne),
    fun u hu => (State.tile_of_tiles htiles u).trans (h.others u hu), by rw [State.tile_of_tiles htiles, h.units]⟩

theorem ite {c : Prop} [Decidable c] (ha : RowRun s a t flat w v) (hb : RowRun s b t flat w v) :
    RowRun s (if c then a else b) t flat w v := by
  split
  · exact ha
  · exact hb

/-! ## Errors -/

theorem trace (h : RowRun s a t flat w v) (kind hi : Nat) (words : List Nat) :
    RowRun s (a.trace t kind hi words) t flat w v := by
  unfold State.trace
  extract_lets tl body
  have hlost : RowRun s (a.setTile t { tl with dig := { tl.dig with traceLost := tl.dig.traceLost + 1 } }) t flat w v :=
    h.setTile h.units
  exact ite (ite (h.setTile h.units) (hlost.bumpReg (plainReg_of (by decide) (by decide)) _ _)) h

theorem raiseStop (h : RowRun s a t flat w v) (b u cause : Nat) : RowRun s (a.raiseStop b u cause) t flat w v := by
  unfold State.raiseStop
  extract_lets s1 s2
  have h1 : RowRun s s1 t flat w v := h.updBasin _ _
  have h2 : RowRun s s2 t flat w v := ite (h1.setObj _ _ _) h1
  exact ite h ((((h2.setObj _ _ _).setObj _ _ _).setObj _ _ _).setObj _ _ _)

theorem setSummary (h : RowRun s a t flat w v) (bit cause : Nat) : RowRun s (a.setSummary t bit cause) t flat w v := by
  have hplain : PlainReg 0x6000 := plainReg_of (by decide) (by decide)
  unfold State.setSummary
  extract_lets s1
  have h1 : RowRun s s1 t flat w v := (h.setRegBit hplain _ _).setRegBit hplain _ _
  split
  · exact h1.raiseStop _ _ _
  · exact h1

theorem raiseAlarm (h : RowRun s a t flat w v) (cause detail aux : Nat) :
    RowRun s (a.raiseAlarm t cause detail aux) t flat w v := by
  unfold State.raiseAlarm
  extract_lets +onlyGivenNames -merge -useContext -underBinder tl first words tp lk s1 s2
  have hfull : RowRun s (a.setTile t { tl with tp := { tl.tp with overflow := true } }) t flat w v := h.setTile h.units
  have h1 : RowRun s s1 t flat w v := ite (h.setTile h.units) (hfull.bumpWin _ _)
  have h2 : RowRun s s2 t flat w v :=
    (h1.setRegN (plainReg_of (by decide) (by decide)) _).setRegN (plainReg_of (by decide) (by decide)) _
  exact ite (h2.trace _ _ _) h1

theorem tileError (h : RowRun s a t flat w v) (bit cause detail aux : Nat) :
    RowRun s (a.tileError t bit cause detail aux) t flat w v := (h.setSummary bit cause).raiseAlarm cause detail aux

theorem errorAt (h : RowRun s a t flat w v) (bit cause detail aux : Nat) (due : Option Nat) :
    RowRun s (a.errorAt t bit cause detail aux due) t flat w v := by
  unfold State.errorAt
  split
  · exact h.tileError _ _ _ _
  · exact h.updTile fun _ => rfl

theorem scalarPoison (h : RowRun s a t flat w v) (beat : Nat) : RowRun s (a.scalarPoison t beat) t flat w v :=
  h.updTile fun _ => rfl

/-! ## The accesses -/

theorem noteUse (h : RowRun s a t flat w v) (k loc kind : Nat) (old : Bank × CodeWord) :
    RowRun s (a.noteUse t k loc kind old) t flat w v := h.updBank _ _

theorem setTag (h : RowRun s a t flat w v) (k loc : Nat) (full : Bool) : RowRun s (a.setTag t k loc full) t flat w v := by
  unfold State.setTag
  exact h.updBank _ _

theorem dropEntry (h : RowRun s a t flat w v) (e : GatherEntry) : RowRun s (a.dropEntry t e) t flat w v := by
  unfold State.dropEntry
  extract_lets b s0 s1
  have h0 : RowRun s s0 t flat w v := h.updBank _ _
  have h1 : RowRun s s1 t flat w v := ite (h0.setRegN (plainReg_of (by decide) (by decide)) _) h0
  exact h1.tileError _ _ _ _

theorem mergePending (h : RowRun s a t flat w v) (d : Row) (p : Bool) :
    RowRun s (a.mergePending t flat d p).2 t flat w v := by
  unfold State.mergePending
  split
  · split
    · exact h.dropEntry _
    · exact h
  · exact h

theorem countCe (h : RowRun s a t flat w v) {k : Nat} (hk : k < 16) (bits : Nat) : RowRun s (a.countCe t k bits) t flat w v :=
  (h.setRegN (plainReg_bankOff hk (by decide)) _).bumpWin _ _

/-- Reading a codeword: an uncorrectable row may become the poison word. -/
theorem decodeRow (h : RowRun s a t flat w v) (x : CodeWord) (due : Option Nat) (fix : Bool) :
    ∃ w', RowRun s (a.decodeRow t flat x due fix).2.2 t flat w' v := by
  have hb := bankOf_lt h.room
  have h0 : RowRun s (a.countReg t 0x7130 1) t flat w v := h.countReg (plainReg_of (by decide) (by decide)) _
  unfold State.decodeRow
  extract_lets s0 k loc s1 aux s2 s3
  change RowRun s s0 t flat w v at h0
  have h1 : RowRun s s1 t flat w v := h0.bumpReg (plainReg_bankOff hb (by decide)) _ _
  have h2 : RowRun s s2 t flat w v := (h0.bumpReg (plainReg_bankOff hb (by decide)) _ _).bumpWin _ _
  split
  · exact ⟨w, h0⟩
  · next n _ =>
    have hce : RowRun s (s0.countCe t k n) t flat w v := h0.countCe hb n
    exact ⟨w, ite (hce.updBank _ _) hce⟩
  · refine ⟨w, ?_⟩
    dsimp only
    split
    · exact h1.bumpWin _ _
    · exact h1
  · obtain ⟨w', h3⟩ : ∃ w', RowRun s s3 t flat w' v := by
      unfold s3
      split
      · exact ⟨poisonWord, (h2.setRowWord poisonWord).updBank _ _⟩
      · exact ⟨w, h2⟩
    exact ⟨w', h3.errorAt _ _ _ _ _⟩

theorem readRow (h : RowRun s a t flat w v) (portX : Bool) (due : Option Nat) :
    ∃ w', RowRun s (a.readRow t flat portX due).2.2 t flat w' v := by
  unfold State.readRow
  extract_lets k loc
  split
  · next e _ => exact h.decodeRow e.old due false
  · obtain ⟨w', h'⟩ := h.decodeRow (a.rowWord t flat) due true
    exact ⟨w', h'.mergePending _ _⟩

theorem noteWrite (h : RowRun s a t flat w v) (agent : Nat) : RowRun s (a.noteWrite t flat agent) t flat w v := by
  unfold State.noteWrite
  extract_lets k loc sup s1
  have h1 : RowRun s s1 t flat w v := (h.countReg (plainReg_of (by decide) (by decide)) _).updBank _ _
  exact ite h1 (h1.bumpReg (plainReg_pailOff (bankOf_lt h.room) (by decide)) _ _)

theorem foldDigest (h : RowRun s a t flat w v) (agent : Nat) (d : Row) (tail : List Nat) :
    RowRun s (a.foldDigest t flat agent d tail) t flat w v := by
  unfold State.foldDigest
  extract_lets k hash s1 rows
  have h1 : RowRun s s1 t flat w v := h.updTile fun _ => rfl
  exact ite (ite (h1.trace _ _ _) h1) h

theorem writeRow (h : RowRun s a t flat w v) (d : Row) (p : Bool) (agent : Nat) :
    RowRun s (a.writeRow t flat d p agent) t flat (if p then poisonWord else kolvosEncode d) v := by
  have h2 := (h.setRowWord (if p then poisonWord else kolvosEncode d)).noteWrite agent
  exact ite (h2.foldDigest _ _ _) h2

end RowRun

/-! ## What a read answers -/

theorem State.bank_updBank_same (hc : Canonical s) (t b : Nat) {f : Bank → Bank} (hf : f (s.bank t b) ≠ Bank.init) :
    (s.updBank t b f).bank t b = f (s.bank t b) := by
  rw [State.bank, State.updBank, State.updTile, State.tile_setTile_same _ hc]
  exact map_get_put_of_ne _ _ _ hf

/-- The row and the poison mark that a codeword is read as. -/
def rowAnswer (w : CodeWord) : Row × Bool :=
  match kolvosDecode w with
  | .good d => (d, false)
  | .corrected d _ => (d, false)
  | .poison => (0, true)
  | .uncorrectable => (0, true)

/-- The row that a pending gather entry makes of `d`. -/
def Bank.merged (k : Bank) (flat : Nat) (d : Row) (p : Bool) : Row :=
  match k.gather.find? (fun e => decide (e.row = flat)) with
  | some e => if e.fails then d else if p then d else mergeWords d e.data e.mask
  | none => d

/-- What a read of row `flat`, whose word is `w`, answers: the row as it was before an access of the same beat, if one is
noted, else the row with its gather entry. -/
def Bank.answer (k : Bank) (beat flat : Nat) (portX pail : Bool) (w : CodeWord) : Row × Bool :=
  match oldUse k.uses beat (localOf flat) portX pail with
  | some e =>
    (match e.gath with
      | some g => if (rowAnswer e.old).2 then (rowAnswer e.old).1 else mergeWords (rowAnswer e.old).1 g.1 g.2
      | none => (rowAnswer e.old).1, (rowAnswer e.old).2)
  | none => (k.merged flat (rowAnswer w).1 (rowAnswer w).2, (rowAnswer w).2)

theorem State.decodeRow_answer (s : State) (t flat : Nat) (w : CodeWord) (due : Option Nat) (fix : Bool) :
    (s.decodeRow t flat w due fix).1 = (rowAnswer w).1 ∧ (s.decodeRow t flat w due fix).2.1 = (rowAnswer w).2 := by
  unfold State.decodeRow rowAnswer
  cases kolvosDecode w <;> exact ⟨rfl, rfl⟩

theorem State.bank_of_tiles {a : State} (h : a.tiles = s.tiles) (t b : Nat) : a.bank t b = s.bank t b :=
  congrArg (fun x : Tile => Map.get x.banks Bank.init b) (State.tile_of_tiles h t)

theorem State.countCe_tiles (s : State) (t b n : Nat) : (s.countCe t b n).tiles = s.tiles := by
  rw [State.countCe, State.bumpWin_tiles, State.setRegN_tiles]

/-- A good codeword is read as it is. -/
theorem State.decodeRow_of_good (s : State) (t flat : Nat) {w : CodeWord} {d : Row} (due : Option Nat) (fix : Bool)
    (hw : kolvosDecode w = .good d) : s.decodeRow t flat w due fix = (d, false, s.countReg t 0x7130 1) := by
  unfold State.decodeRow
  rw [hw]

/-- A corrected codeword is counted and waits for its write-back. -/
theorem State.decodeRow_of_corrected (s : State) (t flat : Nat) {w : CodeWord} {d : Row} {n : Nat} (due : Option Nat)
    (fix : Bool) (hw : kolvosDecode w = .corrected d n) :
    (s.decodeRow t flat w due fix).2.2 =
      if fix then ((s.countReg t 0x7130 1).countCe t (bankOf flat) n).updBank t (bankOf flat)
        (fun k => { k with writeback := k.writeback ++ [(localOf flat, d)] })
      else (s.countReg t 0x7130 1).countCe t (bankOf flat) n := by
  unfold State.decodeRow
  rw [hw]

/-- Reading a codeword that is not poison leaves the bank's gather entries. -/
theorem State.decodeRow_gather (hc : Canonical s) (t flat : Nat) (w : CodeWord) (due : Option Nat) (fix : Bool)
    (hp : (rowAnswer w).2 = false) :
    ((s.decodeRow t flat w due fix).2.2.bank t (bankOf flat)).gather = (s.bank t (bankOf flat)).gather := by
  have hout := unwatched_false
  cases hw : kolvosDecode w with
  | good d => rw [s.decodeRow_of_good t flat due fix hw, State.bank_of_tiles (State.countReg_tiles s t 0x7130 1)]
  | corrected d n =>
    have hce : Canonical ((s.countReg t 0x7130 1).countCe t (bankOf flat) n) :=
      (State.countCe_good (State.countReg_good (good_start hc noParts))).canon
    have htiles : ((s.countReg t 0x7130 1).countCe t (bankOf flat) n).tiles = s.tiles := by
      rw [State.countCe_tiles, State.countReg_tiles]
    rw [s.decodeRow_of_corrected t flat due fix hw]
    generalize (s.countReg t 0x7130 1).countCe t (bankOf flat) n = a at hce htiles ⊢
    split
    · rw [State.bank_updBank_same hce t (bankOf flat) (fun h => by simpa [Bank.init] using congrArg Bank.writeback h),
        State.bank_of_tiles htiles]
    · rw [State.bank_of_tiles htiles]
  | poison => simp [rowAnswer, hw] at hp
  | uncorrectable => simp [rowAnswer, hw] at hp

theorem Bank.merged_true (k : Bank) (flat : Nat) (d : Row) : k.merged flat d true = d := by
  unfold Bank.merged
  split
  · split <;> rfl
  · rfl

theorem Bank.merged_of_gather {k l : Bank} (h : k.gather = l.gather) (flat : Nat) (d : Row) (p : Bool) :
    k.merged flat d p = l.merged flat d p := by
  unfold Bank.merged
  rw [h]

theorem State.mergePending_answer (s : State) (t flat : Nat) (d : Row) (p : Bool) :
    (s.mergePending t flat d p).1 = (s.bank t (bankOf flat)).merged flat d p := by
  unfold State.mergePending Bank.merged
  cases (s.bank t (bankOf flat)).gather.find? (fun e => decide (e.row = flat)) with
  | some e => exact (apply_ite Prod.fst _ _ _)
  | none => rfl

theorem State.readRow_of_use (s : State) (t flat : Nat) (portX : Bool) (due : Option Nat) {e : RowUse}
    (h : oldUse (s.bank t (bankOf flat)).uses (s.tile t).til.beat (localOf flat) portX
      (s.inPail t (bankOf flat) (localOf flat)) = some e) :
    ((s.readRow t flat portX due).1, (s.readRow t flat portX due).2.1) =
      ((match e.gath with
        | some g => if (rowAnswer e.old).2 then (rowAnswer e.old).1 else mergeWords (rowAnswer e.old).1 g.1 g.2
        | none => (rowAnswer e.old).1), (rowAnswer e.old).2) := by
  obtain ⟨hd, hp⟩ := s.decodeRow_answer t flat e.old due false
  unfold State.readRow
  simp only [h, hd, hp] <;> rfl

theorem State.readRow_of_none (s : State) (t flat : Nat) (portX : Bool) (due : Option Nat)
    (h : oldUse (s.bank t (bankOf flat)).uses (s.tile t).til.beat (localOf flat) portX
      (s.inPail t (bankOf flat) (localOf flat)) = none) :
    ((s.readRow t flat portX due).1, (s.readRow t flat portX due).2.1) =
      (((s.decodeRow t flat (s.rowWord t flat) due true).2.2.mergePending t flat (rowAnswer (s.rowWord t flat)).1
        (rowAnswer (s.rowWord t flat)).2).1, (rowAnswer (s.rowWord t flat)).2) := by
  obtain ⟨hd, hp⟩ := s.decodeRow_answer t flat (s.rowWord t flat) due true
  unfold State.readRow
  simp only [h, hd, hp]

/-- What a read answers rests on the row's word, its bank and the beat alone. -/
theorem State.readRow_answer (hc : Canonical s) (t flat : Nat) (portX : Bool) (due : Option Nat) :
    ((s.readRow t flat portX due).1, (s.readRow t flat portX due).2.1) =
      (s.bank t (bankOf flat)).answer (s.tile t).til.beat flat portX (s.inPail t (bankOf flat) (localOf flat))
        (s.rowWord t flat) := by
  unfold Bank.answer
  cases h : oldUse (s.bank t (bankOf flat)).uses (s.tile t).til.beat (localOf flat) portX
      (s.inPail t (bankOf flat) (localOf flat)) with
  | some e => exact s.readRow_of_use t flat portX due h
  | none =>
    rw [s.readRow_of_none t flat portX due h, State.mergePending_answer]
    cases hp : (rowAnswer (s.rowWord t flat)).2 with
    | true => rw [Bank.merged_true, Bank.merged_true]
    | false => rw [Bank.merged_of_gather (State.decodeRow_gather hc t flat _ due true hp)]

end Sys2Proof.Machine

/-! # PROOFS. READ, WRITE, ZERO and ALIAS: the first access (R65, R147, R156) -/

namespace Sys2Proof.Machine

open Sys2Proof

variable {s : State}

/-! ## The access begins -/

/-- The stream that a bank op issues, before its first access. -/
def startStream (s : State) (t n op : Nat) (o : BankOp) (flat : Nat) : BankStream :=
  { firstStream s t n op o flat with next := 0 }

/-- The device once slot `n` of tile `t` has issued stream `m`. -/
def State.joined (s : State) (t n : Nat) (m : BankStream) : State :=
  (s.takeSlot t n).updTil t (fun w => { w with streams := w.streams ++ [m] })

theorem State.tile_joined (hc : Canonical s) (t n : Nat) (m : BankStream) :
    (s.joined t n m).tile t = { s.tile t with til := { (s.tile t).til with
      slots := (s.tile t).til.slots ++ [n], streams := (s.tile t).til.streams ++ [m] } } :=
  ((TileRun.takeSlot hc t n).updTil _).becomes.1

theorem State.bank_joined (hc : Canonical s) (t n b : Nat) (m : BankStream) : (s.joined t n m).bank t b = s.bank t b := by
  rw [State.bank, State.tile_joined hc, State.bank]

theorem State.bank_takeSlot (hc : Canonical s) (t n b : Nat) : (s.takeSlot t n).bank t b = s.bank t b := by
  rw [State.bank, State.tile_takeSlot hc, State.bank]

theorem RowRun.joined (hc : Canonical s) (t n : Nat) (m : BankStream) {flat : Nat} (hflat : flat < 40960) :
    RowRun s (s.joined t n m) t flat (s.rowWord t flat) { (s.tile t).units with til := { (s.tile t).til with
      slots := (s.tile t).til.slots ++ [n], streams := (s.tile t).til.streams ++ [m] } } :=
  ((RowRun.start hc t hflat).updTil _).updTil _

theorem bankOpRow_lt (s : State) (t : Nat) (o : BankOp) : bankOpRow s t o < 2 ^ 32 := by
  have h := o.row.isLt
  unfold bankOpRow
  split <;> omega

/-- A stream that no generator, no other stream, no owner and no bad bank holds up makes its access. -/
theorem State.streamBeat_free (s : State) {t : Nat} {m : BankStream} (earlier : List BankStream) {flat : Nat}
    (hmode : m.mode ≠ 2) (hstopped : m.stopped = false) (hbound : (m.row + m.next) % 2 ^ 32 < (s.dataRange t m.ctx).2)
    (hflat : flat = (s.dataRange t m.ctx).1 + (m.row + m.next) % 2 ^ 32)
    (hclaims : ∀ b ∈ m.held, b ∉ (s.tile t).til.gclaims) (hfetch : ¬(bankOf flat = 15 ∧ (s.tile t).til.fetchNow = true))
    (howner : (s.bank t (bankOf flat)).owner = ctxOwner m.ctx) (hbad : (s.tile t).til.badBank ≠ some (bankOf flat)) :
    s.streamBeat t m earlier = s.streamRow t m flat := by
  have hheld : m.held.any (fun h => decide (h ∈ (s.tile t).til.gclaims)) = false :=
    List.any_eq_false.mpr fun b hb => by simpa using hclaims b hb
  unfold State.streamBeat
  generalize s.dataRange t m.ctx = r at hbound hflat
  obtain ⟨base, bound⟩ := r
  subst hflat
  have hfetch' : (decide (bankOf (base + (m.row + m.next) % 2 ^ 32) = 15) && (s.tile t).til.fetchNow) = false := by
    simpa using hfetch
  simp only [hstopped, if_neg (Nat.not_le.mpr hbound), hmode, decide_false, Bool.false_and, Bool.false_eq_true,
    if_false, hheld, Bool.false_or, hfetch', howner, ne_eq, not_true_eq_false, hbad]

/-- A bank op of a row stream that the form and the other streams allow begins its stream. -/
theorem State.bankOp_starts (s : State) {t n op : Nat} {o : BankOp} {flat : Nat} (hmode : o.mode.val < 2)
    (hroute : routeLegal op o.route.val = true) (hcount : o.count.toNat ≠ 0)
    (hone : op = 1 → o.route.val = 8 → o.count.toNat = 1)
    (hwithin : bankOpRow s t o + o.count.toNat ≤ (s.dataRange t (s.tile t).til.active).2)
    (hflat : flat = (s.dataRange t (s.tile t).til.active).1 + bankOpRow s t o)
    (hfree : ∀ e ∈ (s.tile t).til.streams, e.mode ≠ 2 → ∀ b ∈ banksOf flat o.count.toNat, b ∉ e.held)
    (howned : ∀ b ∈ banksOf flat o.count.toNat, (s.bank t b).owner = ctxOwner (s.tile t).til.active)
    (halias : op = 3 → ∀ b ∈ banksOf flat o.count.toNat, s.regN t (bankOff b 0x10) ≠ 0) :
    s.bankOp t n op o = (s.updTil t (fun w => { w with streams := w.streams ++ [startStream s t n op o flat] })).streamBeat t
      (startStream s t n op o flat) (s.tile t).til.streams := by
  have hstarts : bankStarts op o.mode.val o.route.val o.count.toNat = true := by
    have hlanes : (decide (op = 1) && decide (o.route.val = 8) && decide (o.count.toNat ≠ 1)) = false := by simpa using hone
    have h3 : o.mode.val ≠ 3 := by omega
    simp only [bankStarts, hlanes, h3, hroute, hcount, decide_true, ne_eq, not_false_eq_true, Bool.and_self, Bool.not_false]
  have h1 : (s.tile t).til.streams.any (fun e => e.mode != 2 && e.held.any (fun h => decide (h ∈ banksOf flat o.count.toNat)))
      = false := by
    refine List.any_eq_false.mpr fun e he => ?_
    simp only [Bool.and_eq_true, bne_iff_ne, ne_eq, List.any_eq_true, decide_eq_true_eq, not_and, not_exists]
    exact fun hm b hb hin => hfree e he hm b hin hb
  have h2 : (banksOf flat o.count.toNat).any (fun b => decide ((s.bank t b).owner ≠ ctxOwner (s.tile t).til.active)) = false :=
    List.any_eq_false.mpr fun b hb => by simpa using howned b hb
  have h3 : (decide (op = 3) && (banksOf flat o.count.toNat).any (fun b => decide (s.regN t (bankOff b 0x10) = 0))) = false := by
    simpa using halias
  unfold State.bankOp startStream firstStream
  subst hflat
  unfold bankOpRow at *
  have hm3 : o.mode.val ≠ 3 := by omega
  have hm2 : o.mode.val ≠ 2 := by omega
  simp only [hm3, hm2, hroute, hcount, hstarts, h1, h2, h3, if_neg (Nat.not_lt.mpr hwithin), decide_false, Bool.false_or,
    Bool.not_true, Bool.false_eq_true, if_false]

/-- A row stream's first access, where nothing stands in its way. -/
theorem State.bankOp_first (hc : Canonical s) {t : Nat} {o : BankOp} {flat : Nat} (h : FirstAccess s t o flat) (n : Nat)
    {op : Nat} (hroute : routeLegal op o.route.val = true) (hone : op = 1 → o.route.val = 8 → o.count.toNat = 1)
    (halias : op = 3 → ∀ b ∈ banksOf flat o.count.toNat, s.regN t (bankOff b 0x10) ≠ 0) :
    (s.takeSlot t n).bankOp t n op o =
      (s.joined t n (startStream s t n op o flat)).streamRow t (startStream s t n op o flat) flat := by
  have htil := State.til_takeSlot hc t n
  have hcount : o.count.toNat ≠ 0 := fun h0 => h.some (BitVec.eq_of_toNat_eq h0)
  have hpos : 0 < o.count.toNat := Nat.pos_of_ne_zero hcount
  have hrow : (bankOpRow s t o + 0) % 2 ^ 32 = bankOpRow s t o := Nat.mod_eq_of_lt (bankOpRow_lt s t o)
  have hstart : startStream (s.takeSlot t n) t n op o flat = startStream s t n op o flat := by
    unfold startStream firstStream
    rw [htil]
    rfl
  have hbegin : (s.takeSlot t n).bankOp t n op o = (s.joined t n (startStream s t n op o flat)).streamBeat t
      (startStream s t n op o flat) ((s.takeSlot t n).tile t).til.streams := by
    rw [State.bankOp_starts (s.takeSlot t n) h.mode hroute hcount hone (flat := flat), hstart]
    · rfl
    · rw [htil]
      exact h.within
    · rw [htil]
      exact h.first
    · rw [htil]
      exact h.free
    · intro b hb
      rw [State.bank_takeSlot hc, htil]
      exact h.owned b hb
    · exact halias
  rw [hbegin]
  have hjoined := State.tile_joined hc t n (startStream s t n op o flat)
  have hheld := State.bank_joined hc t n (bankOf flat) (startStream s t n op o flat)
  have hrange : (s.joined t n (startStream s t n op o flat)).dataRange t (s.tile t).til.active =
      s.dataRange t (s.tile t).til.active := rfl
  have hwithin := h.within
  refine State.streamBeat_free _ _ (Nat.ne_of_lt h.mode) rfl ?_ ?_ ?_ ?_ ?_ ?_
  · show (bankOpRow s t o + 0) % 2 ^ 32 < _
    rw [hrow]
    exact Nat.lt_of_lt_of_le (by omega) hwithin
  · show flat = _ + (bankOpRow s t o + 0) % 2 ^ 32
    rw [hrow]
    exact h.first
  · rw [hjoined]
    exact h.generators
  · rw [hjoined]
    exact h.fetch
  · rw [hheld]
    exact h.first_owned
  · rw [hjoined]
    exact h.parity

theorem RowRun.advanceStream {a : State} {t flat : Nat} {w : CodeWord} {v : TileUnits} (h : RowRun s a t flat w v)
    (m : BankStream) : RowRun s (a.advanceStream t m) t flat w { v with til := { v.til with
      streams := setStream v.til.streams { m with next := m.next + 1, blocked := false, counted := false } } } :=
  h.updTil (fun x => { x with streams := setStream x.streams { m with next := m.next + 1, blocked := false, counted := false } })

/-- The first access of a stream is noted in the tile's streams. -/
theorem setStream_start (l : List BankStream) (n op : Nat) (s : State) (t : Nat) (o : BankOp) (flat : Nat) :
    setStream (l ++ [startStream s t n op o flat]) (firstStream s t n op o flat) =
      setStream (l ++ [firstStream s t n op o flat]) (firstStream s t n op o flat) := by
  simp [setStream, startStream, firstStream]

/-! ## READ -/

/-- Where a READ brings its row. -/
structure Delivered (v v' : TileUnits) (m : BankStream) (u : Nat) (d : Row) (p : Bool) : Prop where
  streams : v'.til.streams = v.til.streams
  vector : 4 ≤ m.route ∧ m.route ≤ 7 →
    v'.vwrites = v.vwrites ++ [⟨u + 2, m.slot, 0, (4 * m.reg + (m.route - 4) + m.next) % 128, wholeRow, d, p⟩]
  scalar : m.route = 8 → v'.til.swrites = v.til.swrites ++ [⟨u + 2, false, m.reg, if p then 0 else d.setWidth 32⟩]
  array : m.route = 1 ∨ m.route = 2 → v'.arr.feed = v.arr.feed ++ [⟨u + 2, m.slot - 3, m.route == 2, d, p⟩]

theorem RowRun.deliver {a : State} {t flat : Nat} {w : CodeWord} {v : TileUnits} (h : RowRun s a t flat w v)
    (m : BankStream) (u : Nat) (d : Row) (p : Bool) :
    ∃ v', RowRun s (a.deliver t m u d p) t flat w v' ∧ Delivered v v' m u d p := by
  unfold State.deliver
  extract_lets rank s1
  split
  · next hroute => exact ⟨_, h.updArr _, rfl, fun _ => by omega, fun _ => by omega, fun _ => rfl⟩
  · next hroute =>
    split
    · next hroute' => exact ⟨_, h.writeV _, rfl, fun _ => rfl, fun _ => by omega, fun _ => by omega⟩
    · split
      · next hroute' =>
        have h1 : RowRun s s1 t flat w { v with til := { v.til with
          swrites := v.til.swrites ++ [⟨u + 2, false, m.reg, if p then 0 else d.setWidth 32⟩] } } := h.updTil _
        exact ⟨_, RowRun.ite (h1.scalarPoison _) h1, rfl, fun _ => by omega, fun _ => rfl, fun _ => by omega⟩
      · exact ⟨v, h, rfl, fun _ => by omega, fun _ => by omega, fun _ => by omega⟩

theorem State.streamRow_read (s : State) {t : Nat} {m : BankStream} {flat : Nat} (hop : m.op = 1)
    (hplain : s.inPail t (bankOf flat) (localOf flat) = false) :
    s.streamRow t m flat =
      (((s.readRow t flat false (some ((s.tile t).til.beat + 2))).2.2.noteUse t (bankOf flat) (localOf flat) 0
        (s.bank t (bankOf flat), s.rowWord t flat)).deliver t m (s.tile t).til.beat
          (s.readRow t flat false (some ((s.tile t).til.beat + 2))).1
          (s.readRow t flat false (some ((s.tile t).til.beat + 2))).2.1).advanceStream t m := by
  unfold State.streamRow
  simp only [hop, hplain, if_true, Bool.false_eq_true, if_false]

/-- What a read answers in a stream's first access. -/
theorem State.readRow_joined (hc : Canonical s) (t n : Nat) (m : BankStream) (flat : Nat) (portX : Bool) (due : Option Nat) :
    (((s.joined t n m).readRow t flat portX due).1, ((s.joined t n m).readRow t flat portX due).2.1) =
      ((s.readRow t flat portX due).1, (s.readRow t flat portX due).2.1) := by
  have hout := unwatched_false
  have hcan : Canonical (s.joined t n m) := (State.updTil_good (State.takeSlot_good (good_start hc noParts))).canon
  rw [State.readRow_answer hcan, State.readRow_answer hc, State.bank_joined hc, State.tile_joined hc]
  rfl

/-- The access of a READ's stream. -/
theorem RowRun.readStream {a : State} {t flat : Nat} {w : CodeWord} {v : TileUnits} (h : RowRun s a t flat w v)
    {m : BankStream} (hop : m.op = 1) (hplain : a.inPail t (bankOf flat) (localOf flat) = false) :
    ∃ w' v', RowRun s (a.streamRow t m flat) t flat w' { v' with til := { v'.til with
        streams := setStream v.til.streams { m with next := m.next + 1, blocked := false, counted := false } } } ∧
      Delivered v v' m v.til.beat (a.readRow t flat false (some (v.til.beat + 2))).1
        (a.readRow t flat false (some (v.til.beat + 2))).2.1 := by
  have hbeat : (a.tile t).til.beat = v.til.beat := congrArg (fun x : TileUnits => x.til.beat) h.units
  rw [a.streamRow_read hop hplain, hbeat]
  obtain ⟨w', hread⟩ := h.readRow false (some (v.til.beat + 2))
  obtain ⟨v', hdeliver, hshows⟩ := (hread.noteUse (bankOf flat) (localOf flat) 0
    (a.bank t (bankOf flat), a.rowWord t flat)).deliver m v.til.beat
      (a.readRow t flat false (some (v.til.beat + 2))).1 (a.readRow t flat false (some (v.til.beat + 2))).2.1
  have hend := hdeliver.advanceStream m
  rw [hshows.streams] at hend
  exact ⟨w', v', hend, hshows⟩

/-! ## WRITE and ZERO -/

theorem State.streamRow_write (s : State) {t : Nat} {m : BankStream} {flat : Nat} (hop : m.op = 2 ∨ m.op = 4)
    (hcode : m.ctx = 0 ∨ s.inCode t flat = false) (hplain : s.inPail t (bankOf flat) (localOf flat) = false) :
    s.streamRow t m flat =
      ((s.writeRow t flat (if m.op = 4 then 0 else (s.bankSource t m).1) (if m.op = 4 then false else (s.bankSource t m).2.1)
        0).noteUse t (bankOf flat) (localOf flat) 1 (s.bank t (bankOf flat), s.rowWord t flat)).advanceStream t m := by
  have hallowed : (decide (m.ctx ≠ 0) && s.inCode t flat) = false := by
    obtain h | h := hcode <;> simp [h]
  unfold State.streamRow
  obtain hop | hop := hop <;>
    simp only [hop, hplain, hallowed, Bool.false_eq_true, if_false, if_true, show ¬(2 = 1) from by decide,
      show ¬(4 = 1) from by decide, show ¬(2 = 3) from by decide, show ¬(4 = 3) from by decide,
      show ¬(2 = 4) from by decide]

theorem RowRun.writeStream {a : State} {t flat : Nat} {w : CodeWord} {v : TileUnits} (h : RowRun s a t flat w v)
    {m : BankStream} (hop : m.op = 2 ∨ m.op = 4) (hcode : m.ctx = 0 ∨ a.inCode t flat = false)
    (hplain : a.inPail t (bankOf flat) (localOf flat) = false) :
    ∃ v', RowRun s (a.streamRow t m flat) t flat (if m.op = 4 then kolvosEncode 0
      else if (a.bankSource t m).2.1 then poisonWord else kolvosEncode (a.bankSource t m).1) v' := by
  rw [a.streamRow_write hop hcode hplain]
  have hwrite := ((h.writeRow (if m.op = 4 then 0 else (a.bankSource t m).1) (if m.op = 4 then false
    else (a.bankSource t m).2.1) 0).noteUse (bankOf flat) (localOf flat) 1 (a.bank t (bankOf flat), a.rowWord t flat)).advanceStream m
  obtain hop | hop := hop <;> simp only [hop] at hwrite ⊢ <;> exact ⟨_, hwrite⟩

/-! ## ALIAS -/

theorem State.mergePending_of_empty (s : State) {t flat : Nat} (d : Row) (p : Bool)
    (h : (s.bank t (bankOf flat)).gather = []) : s.mergePending t flat d p = (d, s) := by
  unfold State.mergePending
  rw [h]
  rfl

/-- What ALIAS makes of a good row. -/
def aliasedRow (mode : Nat) (mask : BitVec 8) (old op : Row) : Row :=
  rowOfWords (fun w => if mask.getLsbD w then aliasWord mode (rowWord8 old w) (rowWord8 op w) else rowWord8 old w)

theorem aliasMode_off (b : Nat) : b * 0x100 + 0x3010 = bankOff b 0x10 := by
  unfold bankOff
  omega

theorem State.aliasRow_of_good (s : State) {t flat : Nat} {old : Row} (hgood : kolvosDecode (s.rowWord t flat) = .good old)
    (hgather : (s.bank t (bankOf flat)).gather = []) (op : Row) (mask : BitVec 8) :
    ∃ nan : Bool, s.aliasRow t flat op false mask 0 false = (old, false,
      (((if nan then (s.countReg t 0x7130 1).setRegBit t 0x2004 7 true else s.countReg t 0x7130 1).setRowWord t flat
        (kolvosEncode (aliasedRow (s.regN t (bankOff (bankOf flat) 0x10)) mask old op))).noteWrite t flat 0).foldDigest t flat 0
          (aliasedRow (s.regN t (bankOff (bankOf flat) 0x10)) mask old op) []) := by
  have hempty : ((s.countReg t 0x7130 1).bank t (bankOf flat)).gather = [] := by
    rw [State.bank_of_tiles (State.countReg_tiles s t 0x7130 1), hgather]
  unfold State.aliasRow
  dsimp only
  rw [s.decodeRow_of_good t flat _ false hgood]
  dsimp only
  rw [State.mergePending_of_empty _ old false hempty, aliasMode_off]
  exact ⟨_, rfl⟩

/-- ALIAS at a good row with no pending gather entry. -/
theorem RowRun.aliasRow {a : State} {t flat : Nat} {w : CodeWord} {v : TileUnits} (h : RowRun s a t flat w v) {old : Row}
    (hgood : kolvosDecode w = .good old) (hgather : (a.bank t (bankOf flat)).gather = []) (op : Row) (mask : BitVec 8) :
    RowRun s (a.aliasRow t flat op false mask 0 false).2.2 t flat
        (kolvosEncode (aliasedRow (a.regN t (bankOff (bankOf flat) 0x10)) mask old op)) v := by
  obtain ⟨nan, heq⟩ := a.aliasRow_of_good (h.word.symm ▸ hgood) hgather op mask
  have hread : RowRun s (a.countReg t 0x7130 1) t flat w v := h.countReg (plainReg_of (by decide) (by decide)) 1
  have hmarked : RowRun s (if nan then (a.countReg t 0x7130 1).setRegBit t 0x2004 7 true else a.countReg t 0x7130 1) t flat w v :=
    RowRun.ite (hread.setRegBit (plainReg_of (by decide) (by decide)) 7 true) hread
  rw [heq]
  exact ((hmarked.setRowWord _).noteWrite 0).foldDigest 0 _ []

theorem RowRun.swapReturn {a : State} {t flat : Nat} {w : CodeWord} {v : TileUnits} (h : RowRun s a t flat w v)
    (m : BankStream) (u : Nat) (d : Row) (p : Bool) : ∃ v', RowRun s (a.swapReturn t m u d p) t flat w v' := by
  unfold State.swapReturn
  extract_lets s1
  split
  · have h1 : RowRun s s1 t flat w { v with til := { v.til with
      swrites := v.til.swrites ++ [⟨u + 2, false, m.reg, if p then 0 else d.setWidth 32⟩] } } := h.updTil _
    exact ⟨_, RowRun.ite (h1.scalarPoison _) h1⟩
  · exact ⟨_, h.writeV _⟩

theorem RowRun.aliasStream {a : State} {t flat : Nat} {w : CodeWord} {v : TileUnits} (h : RowRun s a t flat w v)
    {m : BankStream} (hop : m.op = 3) (hcode : m.ctx = 0 ∨ a.inCode t flat = false)
    (hmode : a.regN t (bankOff (bankOf flat) 0x10) ≠ 0) {old : Row} (hgood : kolvosDecode w = .good old)
    (hgather : (a.bank t (bankOf flat)).gather = []) (hsound : (a.bankSource t m).2.1 = false) :
    ∃ v', RowRun s (a.streamRow t m flat) t flat (kolvosEncode (aliasedRow (a.regN t (bankOff (bankOf flat) 0x10))
      (a.bankSource t m).2.2 old (a.bankSource t m).1)) v' := by
  have hallowed : (decide (m.ctx ≠ 0) && a.inCode t flat) = false := by
    obtain h | h := hcode <;> simp [h]
  have halias := (h.aliasRow hgood hgather (a.bankSource t m).1 (a.bankSource t m).2.2).noteUse (bankOf flat) (localOf flat) 2
    (a.bank t (bankOf flat), a.rowWord t flat)
  unfold State.streamRow
  simp only [hop, hallowed, hmode, hsound, Bool.false_eq_true, if_false, if_true, show ¬(3 = 1) from by decide]
  split
  · obtain ⟨v', hswap⟩ := halias.swapReturn m (a.tile t).til.beat
      (a.aliasRow t flat (a.bankSource t m).1 false (a.bankSource t m).2.2 0 false).1
      (a.aliasRow t flat (a.bankSource t m).1 false (a.bankSource t m).2.2 0 false).2.1
    exact ⟨_, hswap.advanceStream m⟩
  · exact ⟨_, halias.advanceStream m⟩

/-- The vector quarter that a bank op of route 0x10 to 0x13 takes. -/
theorem State.bankSource_joined (hc : Canonical s) (t n op : Nat) (o : BankOp) (flat : Nat) (h : o.route.val ≠ 0x14) :
    (s.joined t n (startStream s t n op o flat)).bankSource t (startStream s t n op o flat) =
      ((s.vquarter t ((4 * o.reg.val + (o.route.val - 0x10)) % 128)).1,
        (s.vquarter t ((4 * o.reg.val + (o.route.val - 0x10)) % 128)).2, 0xFF) := by
  have hroute : (startStream s t n op o flat).route ≠ 0x14 := h
  have hquarter : ∀ q, (s.joined t n (startStream s t n op o flat)).vquarter t q = s.vquarter t q := fun q => by
    rw [State.vquarter, State.tile_joined hc, State.vquarter]
  unfold State.bankSource
  rw [if_neg hroute, hquarter]
  rfl

/-- The scalar that a bank op of route 0x14 takes. -/
theorem State.bankSource_joined_scalar (s : State) (t n op : Nat) (o : BankOp) (flat : Nat) (h : o.route.val = 0x14) :
    (s.joined t n (startStream s t n op o flat)).bankSource t (startStream s t n op o flat) =
      ((s.sreg t o.reg.val).setWidth 256, false, 1) := by
  have hroute : (startStream s t n op o flat).route = 0x14 := h
  unfold State.bankSource
  rw [if_pos hroute]
  rfl

theorem rowOfWords_congr {f g : Nat → Word32} (h : ∀ w < 8, f w = g w) : rowOfWords f = rowOfWords g := by
  unfold rowOfWords
  rw [h 0 (by decide), h 1 (by decide), h 2 (by decide), h 3 (by decide), h 4 (by decide), h 5 (by decide), h 6 (by decide),
    h 7 (by decide)]

theorem aliasedRow_scalar (mode : Nat) (old op : Row) : aliasedRow mode 1 old op =
    rowOfWords (fun w => if w ≠ 0 then rowWord8 old w else aliasWord mode (rowWord8 old w) (rowWord8 op w)) :=
  rowOfWords_congr fun w hw => by
    have hmask : ∀ w < 8, (1 : BitVec 8).getLsbD w = decide (w = 0) := by decide
    simp only [hmask w hw, decide_eq_true_eq, ne_eq, ite_not]

theorem aliasedRow_whole (mode : Nat) (old op : Row) : aliasedRow mode 0xFF old op =
    rowOfWords (fun w => aliasWord mode (rowWord8 old w) (rowWord8 op w)) :=
  rowOfWords_congr fun w hw => by
    have hmask : ∀ w < 8, (0xFF : BitVec 8).getLsbD w = true := by decide
    simp only [hmask w hw, if_true]

/-- The operand of ALIAS and what it makes of a good row: a scalar touches word 0 alone (R156). -/
theorem State.bankSource_alias (hc : Canonical s) {t : Nat} {o : BankOp} (n flat mode : Nat) (old : Row)
    (hsound : o.route.val ≠ 0x14 → (s.vquarter t ((4 * o.reg.val + (o.route.val - 0x10)) % 128)).2 = false) :
    ((s.joined t n (startStream s t n 3 o flat)).bankSource t (startStream s t n 3 o flat)).2.1 = false ∧
    aliasedRow mode ((s.joined t n (startStream s t n 3 o flat)).bankSource t (startStream s t n 3 o flat)).2.2 old
        ((s.joined t n (startStream s t n 3 o flat)).bankSource t (startStream s t n 3 o flat)).1 =
      rowOfWords (fun w => if o.route.val = 0x14 ∧ w ≠ 0 then rowWord8 old w
        else aliasWord mode (rowWord8 old w) (rowWord8 (if o.route.val = 0x14 then (s.sreg t o.reg.val).setWidth 256
          else (s.vquarter t ((4 * o.reg.val + (o.route.val - 0x10)) % 128)).1) w)) := by
  by_cases hscalar : o.route.val = 0x14
  · rw [State.bankSource_joined_scalar s _ _ _ _ _ hscalar]
    exact ⟨rfl, (aliasedRow_scalar _ _ _).trans (by simp only [hscalar, true_and, if_true])⟩
  · rw [State.bankSource_joined hc _ _ _ _ _ hscalar]
    exact ⟨hsound hscalar, (aliasedRow_whole _ _ _).trans (by simp only [hscalar, false_and, if_false])⟩

/-- Settles O13: what `FirstAccess` names lets the op's stream make its access at issue, and each access leaves the other rows
and the other tiles. -/
theorem bankOpsStart : Obligations.BankOpsStart := by
  unfold Obligations.BankOpsStart
  refine ⟨fun s t slot o flat hc h hissues hroute hone => ?_, fun s t slot o flat hc h hcode => ⟨fun hissues hroute => ?_,
    fun hissues => ?_⟩, fun s t slot o flat old hc h hcode hbanks hmode hissues hroute hgood hgather hsound => ?_⟩
  · have hfirst := State.bankOp_first hc h (3 + slot.val) (op := 1) hroute (fun _ => hone) (fun hop => absurd hop (by decide))
    obtain ⟨hd, hp⟩ := Prod.mk.inj (State.readRow_joined hc t (3 + slot.val) (startStream s t (3 + slot.val) 1 o flat) flat
      false (some ((s.tile t).til.beat + 2)))
    obtain ⟨w', v', hrun, hshows⟩ := (RowRun.joined hc t (3 + slot.val) (startStream s t (3 + slot.val) 1 o flat)
      h.room).readStream (m := startStream s t (3 + slot.val) 1 o flat) rfl h.plain
    dsimp only at hshows
    rw [hd, hp] at hshows
    have htil := congrArg TileUnits.til hrun.units
    have hvec := congrArg TileUnits.vwrites hrun.units
    have harr := congrArg TileUnits.arr hrun.units
    refine ⟨_, congrArg Host.Outcome.next ((State.slotOp_of_issues _ hissues).trans hfirst), hrun.rows, hrun.others,
      ?_, fun h1 => ?_, fun h1 => ?_, fun h1 => ?_⟩
    · exact (congrArg Tiller.streams htil).trans (setStream_start _ _ _ _ _ _ _)
    · exact hvec.trans (hshows.vector h1)
    · exact (congrArg Tiller.swrites htil).trans (hshows.scalar h1)
    · refine (congrArg ArrayUnit.feed harr).trans ((hshows.array h1).trans ?_)
      have hslot : (startStream s t (3 + slot.val) 1 o flat).slot - 3 = slot.val := Nat.add_sub_cancel_left 3 slot.val
      rw [hslot]
      rfl
  · have hne : o.route.val ≠ 0x14 := by
      simp only [routeLegal, Bool.and_eq_true, decide_eq_true_eq] at hroute
      omega
    have hfirst := State.bankOp_first hc h (3 + slot.val) (op := 2) hroute (fun hop => absurd hop (by decide))
      (fun hop => absurd hop (by decide))
    obtain ⟨v', hrun⟩ := (RowRun.joined hc t (3 + slot.val) (startStream s t (3 + slot.val) 2 o flat) h.room).writeStream
      (m := startStream s t (3 + slot.val) 2 o flat) (Or.inl rfl) hcode h.plain
    refine ⟨_, congrArg Host.Outcome.next ((State.slotOp_of_issues _ hissues).trans hfirst), hrun.word.trans ?_, hrun.rows,
      hrun.others⟩
    rw [State.bankSource_joined hc _ _ _ _ _ hne]
    rfl
  · have hfirst := State.bankOp_first hc h (3 + slot.val) (op := 4) rfl (fun hop => absurd hop (by decide))
      (fun hop => absurd hop (by decide))
    obtain ⟨v', hrun⟩ := (RowRun.joined hc t (3 + slot.val) (startStream s t (3 + slot.val) 4 o flat) h.room).writeStream
      (m := startStream s t (3 + slot.val) 4 o flat) (Or.inr rfl) hcode h.plain
    exact ⟨_, congrArg Host.Outcome.next ((State.slotOp_of_issues _ hissues).trans hfirst), hrun.word, hrun.rows, hrun.others⟩
  · obtain ⟨hclean, hvalue⟩ := State.bankSource_alias hc (3 + slot.val) flat (s.regN t (bankOff (bankOf flat) 0x10)) old hsound
    have hfirst := State.bankOp_first hc h (3 + slot.val) (op := 3) hroute (fun hop => absurd hop (by decide))
      (fun _ => hbanks)
    obtain ⟨v', hrun⟩ := (RowRun.joined hc t (3 + slot.val) (startStream s t (3 + slot.val) 3 o flat) h.room).aliasStream
      (m := startStream s t (3 + slot.val) 3 o flat) rfl hcode hmode hgood ((State.bank_joined hc t _ _ _).symm ▸ hgather) hclean
    exact ⟨_, congrArg Host.Outcome.next ((State.slotOp_of_issues _ hissues).trans hfirst), hrun.rows, hrun.others,
      hrun.word.trans (congrArg kolvosEncode hvalue)⟩

end Sys2Proof.Machine

/-! # PROOFS. INJECT, LAND and WHEEL_STAGE (R68, R179, R184, R186, R189) -/

namespace Sys2Proof.Machine

open Sys2Proof

variable {s : State}

/-- What the row operand of a mesh slot op writes back (R68). -/
def meshStep (s : State) (t : Nat) (o : MeshOp) : List SWrite :=
  if o.mode.val = 2 then [⟨(s.tile t).til.beat, false, o.sidx.val, s.sreg t o.sidx + 1⟩] else []

/-- The tiller once slot 5 has issued a mesh slot op. -/
def meshTil (s : State) (t : Nat) (o : MeshOp) : Tiller :=
  { (s.tile t).til with slots := (s.tile t).til.slots ++ [5], swrites := (s.tile t).til.swrites ++ meshStep s t o }

theorem State.meshRow_takeSlot (s : State) (t n : Nat) (o : MeshOp) : ((s.takeSlot t n).meshRow t o).1 = (s.meshRow t o).1 := by
  unfold State.meshRow
  dsimp only
  split
  · rfl
  · split <;> rfl

/-- What the row operand does: nothing, or a write of its scalar register. -/
theorem State.meshRow_step (s : State) (t : Nat) (o : MeshOp) :
    (s.meshRow t o).2 = s ∧ o.mode.val ≠ 2 ∨ o.mode.val = 2 ∧
      (s.meshRow t o).2 = s.updTil t (fun m => { m with swrites := m.swrites ++ [⟨m.beat, false, o.sidx, s.sreg t o.sidx + 1⟩] }) := by
  unfold State.meshRow
  dsimp only
  split
  · next h => exact Or.inl ⟨rfl, by omega⟩
  · split
    · next h => exact Or.inr ⟨h, rfl⟩
    · next h => exact Or.inl ⟨rfl, h⟩

theorem TileRun.meshRow (hc : Canonical s) (t : Nat) (o : MeshOp) :
    TileRun s ((s.takeSlot t 5).meshRow t o).2 t { s.tile t with til := meshTil s t o } := by
  have htaken := TileRun.takeSlot hc t 5
  unfold meshTil meshStep
  obtain ⟨heq, hmode⟩ | ⟨hmode, heq⟩ := (s.takeSlot t 5).meshRow_step t o <;> rw [heq]
  · rw [if_neg hmode, List.append_nil]
    exact htaken
  · rw [if_pos hmode]
    exact htaken.updTil _

theorem TileOnly.dataRange {a : State} {t : Nat} (h : TileOnly s a t) (u c : Nat) : a.dataRange u c = s.dataRange u c :=
  (congrArg (fun x : State => x.dataRange u c) h.rest :)

theorem TileOnly.inCode {a : State} {t : Nat} (h : TileOnly s a t) (u flat : Nat) : a.inCode u flat = s.inCode u flat :=
  (congrArg (fun x : State => x.inCode u flat) h.rest :)

/-! ## WHEEL_STAGE -/

theorem TileRun.stageEntry {a : State} {t : Nat} {v : Tile} (h : TileRun s a t v) (key : Nat) (e : Word32) :
    ∃ tp, TileRun s (a.stageEntry t key e) t
      { v with sw := { v.sw with staged := Map.put v.sw.staged none key (some e) }, tp := tp } :=
  ⟨_, (h.updSw (fun w => { w with staged := Map.put w.staged none key (some e) })).updTile (fun tl =>
    { tl with tp := { tl.tp with batches := tl.tp.batches.map (fun k =>
      if k.writes.any (fun w => decide (w.1 = 0x10000 + key)) then { k with covered := (0x10000 + key) :: k.covered } else k) } })⟩

theorem State.wheelStage_shows (hc : Canonical s) (t lane slot : Nat) {e : Word32} (he : weMalformed e.toNat = false) :
    ∃ tp, TileRun s ((s.takeSlot t 5).wheelStage t lane slot e) t { s.tile t with
      til := { (s.tile t).til with slots := (s.tile t).til.slots ++ [5] }
      sw := { (s.tile t).sw with
        staged := Map.put (s.tile t).sw.staged none (64 * lane + slot) (some (e &&& 0xFFFFFF80#32)) }
      tp := tp } := by
  obtain ⟨tp, hrun⟩ := (TileRun.takeSlot hc t 5).stageEntry (64 * lane + slot) (e &&& 0xFFFFFF80#32)
  unfold State.wheelStage
  rw [he, ofNat_weMask]
  exact ⟨tp, hrun⟩

/-! ## LAND -/

theorem State.landOp_shows (hc : Canonical s) {t : Nat} {o : MeshOp} (hmode : o.mode.val ≠ 3)
    (hrow : (s.meshRow t o).1 < (s.dataRange t (s.tile t).til.active).2)
    (hcode : (s.tile t).til.active = 0 ∨ s.inCode t ((s.dataRange t (s.tile t).til.active).1 + (s.meshRow t o).1) = false) :
    TileBecomes s ((s.takeSlot t 5).landOp t o) t { s.tile t with
      til := meshTil s t o
      sw := { (s.tile t).sw with
        landOps := (s.tile t).sw.landOps ++ [(o.lane.val, (s.dataRange t (s.tile t).til.active).1 + (s.meshRow t o).1)]
        opBank := some (bankOf ((s.dataRange t (s.tile t).til.active).1 + (s.meshRow t o).1)) } } := by
  have hrun := TileRun.meshRow hc t o
  have hr := s.meshRow_takeSlot t 5 o
  unfold State.landOp
  rw [if_neg hmode]
  generalize (s.takeSlot t 5).meshRow t o = r at hrun hr ⊢
  obtain ⟨r, a⟩ := r
  obtain ⟨-, htile, honly⟩ := id hrun
  have hrange := honly.dataRange t (s.tile t).til.active
  have hactive : (a.tile t).til.active = (s.tile t).til.active := by rw [htile]; rfl
  dsimp only at hr hrange
  subst hr
  dsimp only
  rw [hactive, hrange]
  generalize s.dataRange t (s.tile t).til.active = range at *
  obtain ⟨base, bound⟩ := range
  have hinside := honly.inCode t (base + (s.meshRow t o).1)
  have hallowed : (decide ((s.tile t).til.active ≠ 0) && s.inCode t (base + (s.meshRow t o).1)) = false := by
    obtain h | h := hcode <;> simp [h]
  dsimp only at hrow hcode hinside ⊢
  rw [if_neg (Nat.not_le.mpr hrow), hinside, hallowed, if_neg Bool.false_ne_true]
  exact ((hrun.updSw _).updSw _).becomes

/-! ## INJECT -/

theorem TileRun.rowRun {a : State} {t : Nat} {v : Tile} (h : TileRun s a t v) (hc : Canonical a) {flat : Nat}
    (hflat : flat < 40960) : RowRun s a t flat (s.rowWord t flat) v.units := by
  obtain ⟨-, htile, hothers, hrest⟩ := h
  have hword : ∀ u g, a.rowWord u g = s.rowWord u g := fun u g => (congrArg (fun x : State => x.rowWord u g) hrest :)
  exact ⟨hc, hflat, hword t flat, fun u g _ _ _ => hword u g, hothers, congrArg Tile.units htile⟩

theorem TileRun.bank {a : State} {t : Nat} {v : Tile} (h : TileRun s a t v) (hbanks : v.banks = (s.tile t).banks) (b : Nat) :
    a.bank t b = s.bank t b := by
  rw [State.bank, h.becomes.1, hbanks, State.bank]

theorem TileRun.portXStatus {a : State} {t : Nat} {v : Tile} (h : TileRun s a t v) (hbanks : v.banks = (s.tile t).banks)
    (flat : Nat) (owners : List Nat) : a.portXStatus t flat owners = s.portXStatus t flat owners := by
  have habsorb : a.absorbing t = s.absorbing t := (congrArg (fun x : State => x.absorbing t) h.becomes.2.rest :)
  unfold State.portXStatus
  rw [habsorb, h.bank hbanks]

theorem State.fetchRow_plain (s : State) {t flat : Nat} (due : Option Nat)
    (h : s.inPail t (bankOf flat) (localOf flat) = false) :
    s.fetchRow t flat due = (some ((s.readRow t flat true due).1, (s.readRow t flat true due).2.1),
      (s.readRow t flat true due).2.2.noteUse t (bankOf flat) (localOf flat) 5 (s.bank t (bankOf flat), s.rowWord t flat)) := by
  unfold State.fetchRow
  dsimp only
  rw [h, if_neg Bool.false_ne_true]

/-- Marking a bank's port X as taken changes no answer of a read. -/
theorem State.readRow_busy (hc : Canonical s) (t flat : Nat) (portX : Bool) (due : Option Nat) :
    ((((s.updBank t (bankOf flat) (fun v => { v with busy := true })).readRow t flat portX due).1,
      ((s.updBank t (bankOf flat) (fun v => { v with busy := true })).readRow t flat portX due).2.1)) =
      ((s.readRow t flat portX due).1, (s.readRow t flat portX due).2.1) := by
  have hout := unwatched_false
  have hbank := State.bank_updBank_same hc t (bankOf flat) (f := fun v => { v with busy := true })
    (fun h => Bool.noConfusion (congrArg Bank.busy h : true = false))
  have hcan : Canonical (s.updBank t (bankOf flat) (fun v => { v with busy := true })) :=
    (State.updBank_good (good_start hc noParts)).canon
  have htil : ((s.updBank t (bankOf flat) (fun v => { v with busy := true })).tile t).til = (s.tile t).til := by
    rw [State.updBank, State.updTile, State.tile_setTile_same _ hc]
  rw [State.readRow_answer hcan, State.readRow_answer hc, hbank, htil]
  rfl

/-- Writes of the tile's tiller and switch change no answer of a read. -/
theorem TileRun.readRow {a : State} {t : Nat} {v : Tile} (h : TileRun s a t v) (hc : Canonical s) (ha : Canonical a)
    (hbanks : v.banks = (s.tile t).banks) (hbeat : v.til.beat = (s.tile t).til.beat) (flat : Nat) (portX : Bool)
    (due : Option Nat) : ((a.readRow t flat portX due).1, (a.readRow t flat portX due).2.1) =
      ((s.readRow t flat portX due).1, (s.readRow t flat portX due).2.1) := by
  have hword : a.rowWord t flat = s.rowWord t flat := (congrArg (fun x : State => x.rowWord t flat) h.becomes.2.rest :)
  have hpail : a.inPail t (bankOf flat) (localOf flat) = s.inPail t (bankOf flat) (localOf flat) :=
    (congrArg (fun x : State => x.inPail t (bankOf flat) (localOf flat)) h.becomes.2.rest :)
  rw [State.readRow_answer ha, State.readRow_answer hc, h.bank hbanks, h.becomes.1, hbeat, hword, hpail]

/-- Port X reads an INJECT's row, and its word waits for its beat. -/
theorem State.injectRead_shows (hc : Canonical s) {a : State} {t : Nat} {v : Tile} (h : TileRun s a t v) (ha : Canonical a)
    (hbanks : v.banks = (s.tile t).banks) (hbeat : v.til.beat = (s.tile t).til.beat) {flat : Nat} (hflat : flat < 40960)
    (hport : s.portXStatus t flat [1] = 0) (hplain : s.inPail t (bankOf flat) (localOf flat) = false) (lanes : List Nat)
    (last : Bool) (deliv : Nat) :
    ∃ w, RowRun s (a.injectRead t flat lanes last deliv 32) t flat w { v.units with sw := { v.sw with
      injections := v.sw.injections ++ [⟨(s.tile t).til.beat + 2, lanes,
        if (s.readRow t flat true (some ((s.tile t).til.beat + 2))).2.1 then poisonWord
        else kolvosEncode (s.readRow t flat true (some ((s.tile t).til.beat + 2))).1,
        (s.readRow t flat true (some ((s.tile t).til.beat + 2))).2.1, last, deliv, true⟩] } } := by
  have hpail : a.inPail t (bankOf flat) (localOf flat) = s.inPail t (bankOf flat) (localOf flat) :=
    (congrArg (fun x : State => x.inPail t (bankOf flat) (localOf flat)) h.becomes.2.rest :)
  have hbusy := (State.readRow_busy ha t flat true (some ((s.tile t).til.beat + 2))).trans
    (h.readRow hc ha hbanks hbeat flat true (some ((s.tile t).til.beat + 2)))
  have hrun := (h.rowRun ha hflat).updBank (bankOf flat) (fun v => { v with busy := true })
  unfold State.injectRead
  rw [h.portXStatus hbanks, hport, h.becomes.1, hbeat]
  dsimp only
  rw [if_neg (by decide)]
  generalize hb : a.updBank t (bankOf flat) (fun v => { v with busy := true }) = b at *
  have hplainb : b.inPail t (bankOf flat) (localOf flat) = false := by
    rw [← hb]
    exact hpail.trans hplain
  obtain ⟨hd, hp⟩ := Prod.mk.inj hbusy
  obtain ⟨w, hread⟩ := hrun.readRow true (some ((s.tile t).til.beat + 2))
  have huse := hread.noteUse (bankOf flat) (localOf flat) 5 (b.bank t (bankOf flat), b.rowWord t flat)
  have hnow : ((((b.readRow t flat true (some ((s.tile t).til.beat + 2))).2.2.noteUse t (bankOf flat) (localOf flat) 5
      (b.bank t (bankOf flat), b.rowWord t flat)).tile t).til.beat) = (s.tile t).til.beat :=
    (congrArg (fun x : TileUnits => x.til.beat) huse.units).trans hbeat
  rw [b.fetchRow_plain _ hplainb, hd, hp]
  refine ⟨w, ?_⟩
  unfold State.queueInjection
  dsimp only
  rw [hnow]
  exact huse.updSw _

/-- The lanes whose wheel injects by request two slots ahead, with their entries (R186). -/
def State.injectEntries (s : State) (t : Nat) : List (Nat × Nat) :=
  ((List.range 8).map (fun l => (l, (s.tile t).sw.entry l ((s.slotOf t + 2) % 64)))).filter (fun q =>
    weValid q.2 && decide (s.circAhead t (weCirc q.2) ≠ 0) && decide (weSrc q.2 = 8) && !weTrig q.2)

theorem State.injectEntries_takeSlot (hc : Canonical s) (t n : Nat) :
    (s.takeSlot t n).injectEntries t = s.injectEntries t := by
  have hahead : ∀ k, (s.takeSlot t n).circAhead t k = s.circAhead t k := fun k => by
    rw [State.circAhead, State.tile_takeSlot hc, State.circAhead]
    rfl
  unfold State.injectEntries
  simp only [hahead, State.tile_takeSlot hc]
  rfl

theorem State.inject_of_lane (s : State) {t : Nat} {o : MeshOp} {r base bound : Nat} {a b : State} (hmode : o.mode.val ≠ 3)
    (hlane : o.lane.val ∈ (s.injectEntries t).map (·.1)) (hrow : s.meshRow t o = (r, a))
    (hcount : a.updSw t (fun w => { w with injects := w.injects + 1 }) = b)
    (hrange : b.dataRange t (b.tile t).til.active = (base, bound)) (hbound : r < bound) :
    s.inject t o = (b.updSw t (fun w => { w with opBank := some (bankOf (base + r)) })).injectRead t (base + r)
      ((s.injectEntries t).map (·.1)) false ((((s.injectEntries t).head?).map (fun q => weDeliv q.2)).getD 0) 32 := by
  unfold State.inject
  rw [if_neg hmode]
  change (if o.lane.val ∉ (s.injectEntries t).map (·.1) then _ else _) = _
  rw [if_neg (fun h => h hlane), hrow]
  dsimp only
  rw [hcount, hrange]
  exact if_neg (Nat.not_le.mpr hbound)

theorem State.inject_shows (hc : Canonical s) {t : Nat} {o : MeshOp} {flat : Nat} (hmode : o.mode.val ≠ 3)
    (hrow : (s.meshRow t o).1 < (s.dataRange t (s.tile t).til.active).2)
    (hflat : flat = (s.dataRange t (s.tile t).til.active).1 + (s.meshRow t o).1) (hroom : flat < 40960)
    (hport : s.portXStatus t flat [1] = 0) (hplain : s.inPail t (bankOf flat) (localOf flat) = false)
    (hlane : o.lane.val ∈ (s.injectEntries t).map (·.1)) :
    ∃ w, RowRun s ((s.takeSlot t 5).inject t o) t flat w { (s.tile t).units with
      til := meshTil s t o
      sw := { (s.tile t).sw with
        injects := (s.tile t).sw.injects + 1
        opBank := some (bankOf flat)
        injections := (s.tile t).sw.injections ++ [⟨(s.tile t).til.beat + 2, (s.injectEntries t).map (·.1),
          if (s.readRow t flat true (some ((s.tile t).til.beat + 2))).2.1 then poisonWord
          else kolvosEncode (s.readRow t flat true (some ((s.tile t).til.beat + 2))).1,
          (s.readRow t flat true (some ((s.tile t).til.beat + 2))).2.1, false,
          (((s.injectEntries t).head?).map (fun q => weDeliv q.2)).getD 0, true⟩] } } := by
  have hout := unwatched_false
  have hcount := (TileRun.meshRow hc t o).updSw (fun w => { w with injects := w.injects + 1 })
  have hbank := hcount.updSw (fun w => { w with opBank := some (bankOf flat) })
  have hcan : Canonical ((((s.takeSlot t 5).meshRow t o).2.updSw t (fun w => { w with injects := w.injects + 1 })).updSw t
      (fun w => { w with opBank := some (bankOf flat) })) :=
    (State.updSw_good (State.updSw_good (State.meshRow_good (State.takeSlot_good (good_start hc noParts))))).canon
  have hrange := hcount.becomes.2.dataRange t (s.tile t).til.active
  have hactive := congrArg (fun x : Tile => x.til.active) hcount.becomes.1
  have hinject := (s.takeSlot t 5).inject_of_lane hmode ((State.injectEntries_takeSlot hc t 5).symm ▸ hlane) (Prod.eta _).symm rfl
    ((congrArg _ hactive).trans (hrange.trans (Prod.eta _).symm)) (by rw [s.meshRow_takeSlot]; exact hrow)
  rw [s.meshRow_takeSlot, State.injectEntries_takeSlot hc, ← hflat] at hinject
  rw [hinject]
  exact State.injectRead_shows hc hbank hcan rfl rfl hroom hport hplain _ false _

/-- Settles O16: each op acts at issue on its own tile, and INJECT reads one row of it. -/
theorem meshSlotOps : Obligations.MeshSlotOps := by
  unfold Obligations.MeshSlotOps
  intro s t o hc
  dsimp only
  refine ⟨fun hissues hmode hrow hroom hport hplain hlane => ?_, fun hissues hmode hrow hcode => ?_,
    fun lane slot r hissues hgood => ?_⟩
  · obtain ⟨w, hrun⟩ := State.inject_shows hc hmode hrow rfl hroom hport hplain hlane
    have hsw := congrArg TileUnits.sw hrun.units
    exact ⟨_, congrArg Host.Outcome.next (State.slotOp_of_issues _ hissues), hrun.rows, congrArg Switch.injections hsw,
      congrArg Switch.injects hsw, congrArg TileUnits.til hrun.units⟩
  · exact ⟨_, congrArg Host.Outcome.next (State.slotOp_of_issues _ hissues), State.landOp_shows hc hmode hrow hcode⟩
  · obtain ⟨tp, hrun⟩ := State.wheelStage_shows hc t lane.val slot.val hgood
    exact ⟨_, congrArg Host.Outcome.next (State.slotOp_of_issues _ hissues), hrun.becomes.2,
      congrArg Tile.til hrun.becomes.1, congrArg Tile.sw hrun.becomes.1⟩

end Sys2Proof.Machine

/-! # PROOFS. Quota rows and host writes (R271, R274, R275) -/

namespace Sys2Proof.Machine

open Sys2Proof

variable {s : State}

/-! ## A row lands in a pail -/

/-- A run of row accesses that has led from `s` to `a`, where the row's bank holds the tags `full` and the tile has counted
`n` rows as sent. -/
structure LandRun (s a : State) (t flat : Nat) (w : CodeWord) (v : TileUnits) (full : Map Bool) (n : Nat) : Prop where
  run : RowRun s a t flat w v
  full : (a.bank t (bankOf flat)).full = full
  sent : a.regN t 0xf18 = n

theorem put_true_ne_nil (m : Map Bool) (k : Nat) : Map.put m false k true ≠ [] := by
  intro h
  have hget := map_get_put_of_ne m false k (v := true) (by decide)
  rw [h] at hget
  exact Bool.noConfusion (hget : false = true)

namespace LandRun

variable {a : State} {t flat n : Nat} {w : CodeWord} {v : TileUnits} {full : Map Bool}

theorem start (hc : Canonical s) (t : Nat) {flat : Nat} (hflat : flat < 40960) :
    LandRun s s t flat (s.rowWord t flat) (s.tile t).units (s.bank t (bankOf flat)).full (s.regN t 0xf18) :=
  ⟨RowRun.start hc t hflat, rfl, rfl⟩

theorem setRegN (h : LandRun s a t flat w v full n) {off : Nat} (hoff : PlainReg off) (hne : off ≠ 0xf18) (x : Nat) :
    LandRun s (a.setRegN t off x) t flat w v full n :=
  ⟨h.run.setRegN hoff x, h.full, (State.regN_setRegN_other _ _ hoff.1 (by decide) (Or.inr hne.symm)).trans h.sent⟩

theorem bumpReg (h : LandRun s a t flat w v full n) {off : Nat} (hoff : PlainReg off) (hne : off ≠ 0xf18) (k top : Nat) :
    LandRun s (a.bumpReg t off k top) t flat w v full n := h.setRegN hoff hne _

/-- A write of the tile that keeps its units and banks. -/
theorem setTile (h : LandRun s a t flat w v full n) {x : Tile} (hx : x.units = (a.tile t).units)
    (hbanks : x.banks = (a.tile t).banks) : LandRun s (a.setTile t x) t flat w v full n := by
  refine ⟨h.run.setTile (hx.trans h.run.units), ?_, h.sent⟩
  rw [State.bank, State.tile_setTile_same _ h.run.canon, hbanks]
  exact h.full

theorem updTile (h : LandRun s a t flat w v full n) {f : Tile → Tile} (hf : ∀ x, (f x).units = x.units)
    (hbanks : ∀ x, (f x).banks = x.banks) : LandRun s (a.updTile t f) t flat w v full n := h.setTile (hf _) (hbanks _)

theorem updBank (h : LandRun s a t flat w v full n) {f : Bank → Bank} {full' : Map Bool}
    (hfull : (f (a.bank t (bankOf flat))).full = full') (hne : f (a.bank t (bankOf flat)) ≠ Bank.init) :
    LandRun s (a.updBank t (bankOf flat) f) t flat w v full' n :=
  ⟨h.run.updBank _ _, (congrArg Bank.full (State.bank_updBank_same h.run.canon t _ hne)).trans hfull, h.sent⟩

theorem setRowWord (h : LandRun s a t flat w v full n) (x : CodeWord) :
    LandRun s (a.setRowWord t flat x) t flat x v full n := by
  have hout := unwatched_false
  have hkeep := (State.setRowWord_good (t := t) (flat := flat) (w := x)
    (good_start h.run.canon { noParts with tiles := true, tregs := true })).same
  exact ⟨h.run.setRowWord x, (congrArg Bank.full (State.bank_of_tiles (hkeep.tiles rfl) t _)).trans h.full,
    (State.regN_of_tregs (hkeep.tregs rfl) t 0xf18).trans h.sent⟩

theorem ite {b : State} {c : Prop} [Decidable c] (ha : LandRun s a t flat w v full n) (hb : LandRun s b t flat w v full n) :
    LandRun s (if c then a else b) t flat w v full n := by
  split
  · exact ha
  · exact hb

theorem trace (h : LandRun s a t flat w v full n) (kind hi : Nat) (words : List Nat) :
    LandRun s (a.trace t kind hi words) t flat w v full n := by
  obtain ⟨d, l, htile⟩ := State.trace_tile h.run.canon t kind hi words
  refine ⟨h.run.trace kind hi words, ?_, (a.regN_trace t kind hi words (by decide) (by decide)).trans h.sent⟩
  rw [State.bank, htile]
  exact h.full

theorem noteWrite (h : LandRun s a t flat w v full n) (agent : Nat) :
    LandRun s (a.noteWrite t flat agent) t flat w v full n := by
  have hb := bankOf_lt h.run.room
  unfold State.noteWrite
  extract_lets k loc sup s1
  have hcount : LandRun s (a.countReg t 0x7140 1) t flat w v full n :=
    h.setRegN (plainReg_of (by decide) (by decide)) (by decide) _
  have h1 : LandRun s s1 t flat w v full n :=
    hcount.updBank hcount.full (fun h => put_true_ne_nil _ _ (congrArg Bank.epochDirty h))
  exact ite h1 (h1.bumpReg (plainReg_pailOff hb (by decide)) (by unfold pailOff; omega) _ _)

theorem foldDigest (h : LandRun s a t flat w v full n) (agent : Nat) (d : Row) (tail : List Nat) :
    LandRun s (a.foldDigest t flat agent d tail) t flat w v full n := by
  unfold State.foldDigest
  extract_lets k hash s1 rows
  have h1 : LandRun s s1 t flat w v full n := h.updTile (fun _ => rfl) (fun _ => rfl)
  exact ite (ite (h1.trace _ _ _) h1) h

theorem writeRow (h : LandRun s a t flat w v full n) (d : Row) (agent : Nat) :
    LandRun s (a.writeRow t flat d false agent) t flat (kolvosEncode d) v full n := by
  have h2 := (h.setRowWord (kolvosEncode d)).noteWrite agent
  exact ite (h2.foldDigest _ _ _) h2

theorem noteUse (h : LandRun s a t flat w v full n) (loc kind : Nat) (old : Bank × CodeWord) :
    LandRun s (a.noteUse t (bankOf flat) loc kind old) t flat w v full n :=
  h.updBank h.full (fun h => by simpa [Bank.init] using congrArg Bank.uses h)

theorem setFull (h : LandRun s a t flat w v full n) (loc : Nat) :
    LandRun s (a.setTag t (bankOf flat) loc true) t flat w v (Map.put full false loc true) n := by
  unfold State.setTag
  exact h.updBank (by rw [h.full]) (fun h => put_true_ne_nil _ _ (congrArg Bank.full h))

theorem bargeUse (h : LandRun s a t flat w v full n) (rank : Option Nat) :
    LandRun s (a.bargeUse t (bankOf flat) rank) t flat w v full n := by
  have huse : LandRun s (a.useFill t (bankOf flat)) t flat w v full n :=
    ite (h.updBank h.full (fun h => Bool.noConfusion (congrArg Bank.fill h : true = false))) h
  unfold State.bargeUse
  extract_lets s1
  split
  · exact huse.updTile (fun _ => rfl) (fun _ => rfl)
  · exact huse

theorem unblock (h : LandRun s a t flat w v full n) (key : Nat) : LandRun s (a.unblock t key) t flat w v full n :=
  ite (h.updTile (fun _ => rfl) (fun _ => rfl)) h

/-- A row counts as sent. -/
theorem countSent (h : LandRun s a t flat w v full n) :
    LandRun s (a.bumpReg t 0xf18 1) t flat w v full (min (n + 1) 0xFFFFFFFF) :=
  ⟨h.run.bumpReg (plainReg_of (by decide) (by decide)) 1 0xFFFFFFFF,
    (congrArg Bank.full (State.bank_of_tiles (State.bumpReg_tiles a t 0xf18 1 0xFFFFFFFF) t _)).trans h.full,
    (State.regN_bumpReg_same h.run.canon t 0xf18 1).trans (by rw [h.sent])⟩

/-- A change of the host's side and of a counter of the device. -/
theorem counted (h : LandRun s a t flat w v full n) {q : Nat} {f : HostQueue → HostQueue} {k m : Nat} :
    LandRun s ((a.updQueue q f).bumpWin k m) t flat w v full n := by
  have hout := unwatched_false
  have hc : Canonical ((a.updQueue q f).bumpWin k m) :=
    (State.bumpWin_good (State.updQueue_good (good_start h.run.canon noParts))).canon
  exact ⟨h.run.kept hc ⟨rfl, fun _ _ _ _ _ => rfl⟩ (fun _ _ => rfl) rfl, h.full, h.sent⟩

end LandRun

/-- A landing in an EMPTY row of a pail that no access of the beat has used (R150, R160). -/
def State.landedInPail (s : State) (t flat : Nat) (d : Row) : State :=
  ((s.writeRow t flat d false 3).setTag t (bankOf flat) (localOf flat) true).noteUse t (bankOf flat) (localOf flat) 4
    (s.bank t (bankOf flat), s.rowWord t flat)

theorem State.landRow_pail (s : State) {t flat : Nat} (d : Row) (issuer : Nat) (hport : s.portXStatus t flat [1] = 0)
    (hpail : s.inPail t (bankOf flat) (localOf flat) = true)
    (hempty : Map.get (s.bank t (bankOf flat)).full false (localOf flat) = false)
    (huses : (s.bank t (bankOf flat)).uses = []) :
    s.landRow t flat d false 3 issuer false = (some 0, s.landedInPail t flat d) := by
  have hunused : usedNow (s.bank t (bankOf flat)) (s.tile t).til.beat (localOf flat) (fun e => e == 0) = false := by
    rw [usedNow, huses]
    rfl
  have hcore : s.landCore t flat d false 3 issuer false = (some 0, s.landedInPail t flat d) := by
    unfold State.landCore
    dsimp only
    rw [hport, if_neg (by decide), hpail, hempty, hunused]
    rfl
  unfold State.landRow
  rw [hcore]
  rfl

theorem LandRun.landed (hc : Canonical s) (t : Nat) {flat : Nat} (hflat : flat < 40960) (d : Row) :
    LandRun s (s.landedInPail t flat d) t flat (kolvosEncode d) (s.tile t).units
      (Map.put (s.bank t (bankOf flat)).full false (localOf flat) true) (s.regN t 0xf18) :=
  (((LandRun.start hc t hflat).writeRow d 3).setFull _).noteUse _ _ _

/-- The oldest entry is the one in progress. -/
theorem updOpen_cons {e : HostEntry} (rest : List HostEntry) (f : HostEntry → HostEntry) (hstatus : e.status = none)
    (hneed : e.landed < e.need) : updOpen f (e :: rest) = f e :: rest := by
  rw [updOpen, hstatus, decide_eq_true hneed]
  rfl

theorem openEntry_cons {e : HostEntry} (rest : List HostEntry) (hstatus : e.status = none) (hneed : e.landed < e.need) :
    openEntry (e :: rest) = some e := by
  rw [openEntry, List.find?_cons_of_pos (by simp [hstatus, hneed])]

/-- The device once a row of slot `q` has landed in row `flat`, port X has been used and the row counts as sent. -/
def State.hostLanded (s : State) (q flat : Nat) (d : Row) : State :=
  (((s.landedInPail (s.slotTile q) flat d).bargeUse (s.slotTile q) (bankOf flat) (hostLands q)).bumpReg
    (s.slotTile q) 0xf18 1).unblock (s.slotTile q) (xKey 5 0 q flat)

theorem LandRun.hostLanded (hc : Canonical s) (q : Nat) {flat : Nat} (hflat : flat < 40960) (d : Row) :
    LandRun s (s.hostLanded q flat d) (s.slotTile q) flat (kolvosEncode d) (s.tile (s.slotTile q)).units
      (Map.put (s.bank (s.slotTile q) (bankOf flat)).full false (localOf flat) true)
      (min (s.regN (s.slotTile q) 0xf18 + 1) 0xFFFFFFFF) :=
  (((LandRun.landed hc (s.slotTile q) hflat d).bargeUse (hostLands q)).countSent).unblock _

/-- The landing of a row leaves the host's side. -/
theorem State.hostLanded_host (hc : Canonical s) (q flat : Nat) (d : Row) : (s.hostLanded q flat d).host = s.host := by
  have hout := unwatched_false
  have hland : Good ⟨s.pending, s, { noParts with host := true }⟩ (s.landedInPail (s.slotTile q) flat d) :=
    State.noteUse_good (State.setTag_good (State.writeRow_good (good_start hc _)))
  exact (State.unblock_good (State.bumpReg_good (State.bargeUse_good hland))).same.host rfl

/-- What a row that has landed in a ring of `len` rows changes of its slot. -/
def landedEntry (len : Nat) (k : HostQueue) : HostQueue :=
  { k with
    ringPos := if k.ringPos + 1 < len then k.ringPos + 1 else 0
    landedEpoch := k.landedEpoch + 1
    entries := updOpen (fun e => { e with landed := e.landed + 1 }) k.entries }

/-- The next row of a slot's oldest entry lands in its EMPTY ring row. -/
theorem State.hostRowLand_of_turn (s : State) {q b : Nat} (d : Row) {e : HostEntry}
    (hentries : (s.queue q).entries = [e]) (hstatus : e.status = none) (hneed : e.landed < e.need) (hgood : e.bad = false)
    (hbasin : s.basinOf (s.slotTile q) = some b) (hidle : s.slotIdle q = false) (hruns : s.basinRuns b = true)
    (hstopped : s.landingsStopped (s.slotTile q) = false) (hhold : s.holdRows b = false)
    (hhost : bitOf (s.obj 0x2500 6) (s.binding q).2.1 = false) (hstops : b ∉ s.host.stops)
    (hquota : (s.queue q).landedEpoch < s.quota q) {flat : Nat} (hflat : flat = (s.binding q).1 + (s.queue q).ringPos)
    (hroom : flat < 40960) (hturn : s.bargeTurn (s.slotTile q) (bankOf flat) (hostLands q) = true)
    (hport : s.portXStatus (s.slotTile q) flat [1] = 0)
    (hpail : s.inPail (s.slotTile q) (bankOf flat) (localOf flat) = true)
    (hempty : Map.get (s.bank (s.slotTile q) (bankOf flat)).full false (localOf flat) = false)
    (huses : (s.bank (s.slotTile q) (bankOf flat)).uses = []) :
    s.hostRowLand q d =
      ((s.hostLanded q flat d).updQueue q (landedEntry (s.binding q).2.2)).bumpWin (objKey 0x2500 3) 1 := by
  have hopen : openEntry (s.queue q).entries = some e := hentries ▸ openEntry_cons [] hstatus hneed
  have hland := s.landRow_pail d 1 hport hpail hempty huses
  have hrow : s.pailRow (s.slotTile q) flat = true := by
    rw [State.pailRow, hpail, decide_eq_true hroom]
    rfl
  have hgo : (s.slotIdle q || !s.basinRuns b || s.landingsStopped (s.slotTile q) || s.holdRows b ||
      bitOf (s.obj 0x2500 6) (s.binding q).2.1 || s.host.stops.contains b || decide (s.quota q ≤ (s.queue q).landedEpoch)) =
        false := by
    simp [hidle, hruns, hstopped, hhold, hhost, hstops, hquota]
  subst hflat
  unfold State.slotTile at *
  unfold State.hostRowLand
  dsimp only
  rw [hbasin, hopen]
  dsimp only
  rw [hgo, if_neg Bool.false_ne_true, hturn, hgood]
  simp only [Bool.not_true, Bool.false_eq_true, if_false, hland, hrow, decide_true, Bool.and_self, if_true]
  rfl

/-! ## Descriptors and rows that the engine reads -/

/-- A read of a row outside the pails, its use of port X, and the end of its wait leave the host's side. -/
theorem State.fetched_host (hc : Canonical s) (t flat : Nat) (due : Option Nat) :
    (s.fetchRow t flat due).2.host = s.host := by
  have hout := unwatched_false
  exact (State.fetchRow_good (good_start hc { noParts with host := true })).same.host rfl

theorem State.bargeUse_host (s : State) (t b : Nat) (rank : Option Nat) : (s.bargeUse t b rank).host = s.host := by
  have huse : (s.useFill t b).host = s.host := by
    unfold State.useFill
    split <;> rfl
  unfold State.bargeUse
  dsimp only
  split
  · exact huse
  · exact huse

theorem State.unblock_host (s : State) (t key : Nat) : (s.unblock t key).host = s.host := by
  unfold State.unblock
  split <;> rfl

theorem State.setWrite_host (s : State) (h : Nat) (w : Option HostWrite) :
    (s.setWrite h w).host = { s.host with writes := Map.put s.host.writes none h w } := rfl

/-- The engine takes up its next descriptor. -/
theorem State.hostDescriptor_of_turn (hc : Canonical s) {h : Nat} {flat : Nat}
    (hflat : flat = s.obj 0x2501 (h + 1) % 65536 + Map.get s.host.winPos 0 h)
    (hlen : s.obj 0x2501 (h + 1) / 65536 % 256 ≠ 0) (hon : bitOf (s.obj 0x2500 6) h = false)
    (hstops : (s.basinOf (s.hostTile h)).getD 16 ∉ s.host.stops) (hstop : (s.tile (s.hostTile h)).stop = false)
    (hroom : flat < 40960) (hturn : s.bargeTurn (s.hostTile h) (bankOf flat) hostReads = true)
    (hport : s.portXStatus (s.hostTile h) flat [1] = 0)
    (hplain : s.inPail (s.hostTile h) (bankOf flat) (localOf flat) = false)
    (hsound : (s.readRow (s.hostTile h) flat true none).2.1 = false)
    (hcount : hdCount (s.readRow (s.hostTile h) flat true none).1 ≤ 4096)
    (haddr : hdAddr (s.readRow (s.hostTile h) flat true none).1 % 32 = 0)
    (hrows : hdSrc (s.readRow (s.hostTile h) flat true none).1 + hdCount (s.readRow (s.hostTile h) flat true none).1 ≤ 40960) :
    (s.hostDescriptor h).host = { s.host with
      winPos := Map.put s.host.winPos 0 h (if Map.get s.host.winPos 0 h + 1 < s.obj 0x2501 (h + 1) / 65536 % 256
        then Map.get s.host.winPos 0 h + 1 else 0)
      writes := Map.put s.host.writes none h (some ⟨(s.readRow (s.hostTile h) flat true none).1,
        Map.get (s.bank (s.hostTile h) (bankOf flat)).fillBeat 0 (localOf flat), (s.basinOf (s.hostTile h)).getD 16, 0,
        false⟩) } := by
  have hfetched := State.fetched_host hc (s.hostTile h) flat none
  rw [s.fetchRow_plain none hplain] at hfetched
  have hform : ¬(4096 < hdCount (s.readRow (s.hostTile h) flat true none).1 ∨
      hdAddr (s.readRow (s.hostTile h) flat true none).1 % 32 ≠ 0 ∨
      40960 < hdSrc (s.readRow (s.hostTile h) flat true none).1 + hdCount (s.readRow (s.hostTile h) flat true none).1) := by
    omega
  have hgo : ¬(s.obj 0x2501 (h + 1) / 65536 % 256 = 0 ∨ bitOf (s.obj 0x2500 6) h = true ∨
      s.host.stops.contains ((s.basinOf (s.hostTile h)).getD 16) = true ∨ (s.tile (s.hostTile h)).stop = true ∨
      40960 ≤ flat) := by
    simp [hlen, hon, hstops, hstop, hroom]
  unfold State.hostDescriptor
  dsimp only
  rw [← hflat, if_neg hgo, hturn, hport, s.fetchRow_plain none hplain]
  dsimp only
  rw [hsound] at hfetched ⊢
  simp only [Bool.not_true, Bool.false_eq_true, if_false, ne_eq, not_true_eq_false, if_neg hform]
  rw [State.setWrite_host, State.unblock_host]
  dsimp only
  rw [State.bargeUse_host, hfetched]

theorem State.postRow_host (s : State) (h : Nat) (w : HostWrite) (d : Row) : (s.postRow h w d false).host = { s.host with
    posted := s.host.posted ++ [(hdAddr w.desc + 32 * w.read, d)]
    writes := Map.put s.host.writes none h (some { w with read := w.read + 1 }) } := by
  unfold State.postRow
  simp only [Bool.or_false, Bool.false_and, Bool.false_eq_true, if_false]
  rfl

/-- A good row of a write whose gate has passed goes out to the host. -/
theorem State.hostWriteRow_of_turn (hc : Canonical s) {h flat : Nat} {w : HostWrite} (hflat : flat = hdSrc w.desc + w.read)
    (hplain : s.inPail (s.hostTile h) (bankOf flat) (localOf flat) = false)
    (hgate : s.gatePassed w.basin w.gate = true) (hturn : s.bargeTurn (s.hostTile h) (bankOf flat) hostReads = true)
    (hport : s.portXStatus (s.hostTile h) flat [1] = 0)
    (hsound : (s.readRow (s.hostTile h) flat true none).2.1 = false) :
    (s.hostWriteRow h w).host = { s.host with
      posted := s.host.posted ++ [(hdAddr w.desc + 32 * w.read, (s.readRow (s.hostTile h) flat true none).1)]
      writes := Map.put s.host.writes none h (some { w with read := w.read + 1 }) } := by
  have hfetched := State.fetched_host hc (s.hostTile h) flat none
  rw [s.fetchRow_plain none hplain] at hfetched
  have hrow : s.pailRow (s.hostTile h) flat = false := by
    rw [State.pailRow, hplain, Bool.and_false]
  unfold State.hostWriteRow
  dsimp only
  rw [← hflat, hrow, s.fetchRow_plain none hplain]
  rw [hsound] at hfetched ⊢
  simp only [Bool.not_false, Bool.true_or, Bool.true_and, Bool.false_eq_true, if_false, hgate, if_true, hturn, Bool.not_true,
    hport, ne_eq, not_true_eq_false]
  rw [State.postRow_host, State.unblock_host, State.bargeUse_host, hfetched]

/-- A write that posts no completion and notifies nobody ends with its OSEQ counted once (R275). -/
theorem State.hostFinish_quiet (s : State) (h : Nat) {w : HostWrite} (hpost : hdPost w.desc = false)
    (hnotify : hdNotify w.desc = false) :
    (s.hostFinish h w).host.writes = Map.put s.host.writes none h none ∧
      (s.hostFinish h w).host.oseq = if Map.get s.host.oseq 0 w.basin ≤ hdOseq w.desc
        then Map.put s.host.oseq 0 w.basin (hdOseq w.desc + 1) else s.host.oseq := by
  unfold State.hostFinish
  simp only [hpost, hnotify, Bool.false_and, Bool.false_eq_true, if_false, decide_eq_true_eq, State.setWrite_host]
  split <;> exact ⟨rfl, rfl⟩

theorem State.landedEntry_queue (s : State) {q : Nat} {e : HostEntry} (len : Nat) (hentries : (s.queue q).entries = [e])
    (hstatus : e.status = none) (hneed : e.landed < e.need) : landedEntry len (s.queue q) = { s.queue q with
      ringPos := if (s.queue q).ringPos + 1 < len then (s.queue q).ringPos + 1 else 0
      landedEpoch := (s.queue q).landedEpoch + 1
      entries := [{ e with landed := e.landed + 1 }] } := by
  rw [landedEntry, hentries, updOpen_cons [] _ hstatus hneed]

/-- What a failed read changes of its slot: the entry in progress is bad (R274). -/
def failedRead (k : HostQueue) : HostQueue := { k with entries := updOpen (fun e => { e with bad := true }) k.entries }

theorem State.hostReadError_of_open (s : State) {q : Nat} {e : HostEntry} {rest : List HostEntry}
    (hentries : (s.queue q).entries = e :: rest) (hstatus : e.status = none) (hneed : e.landed < e.need) :
    s.hostReadError q = (s.updQueue q failedRead).bumpObj 0x2500 5 1 := by
  unfold State.hostReadError
  rw [hentries, openEntry_cons rest hstatus hneed]
  rfl

theorem State.obj_bumpObj_updQueue (hc : Canonical s) (q : Nat) (f : HostQueue → HostQueue) :
    ((s.updQueue q f).bumpObj 0x2500 5 1).obj 0x2500 5 = min (s.obj 0x2500 5 + 1) 0xFFFFFFFF := by
  have hout := unwatched_false
  have hobj : (s.updQueue q f).obj 0x2500 5 = s.obj 0x2500 5 := rfl
  rw [State.bumpObj, State.obj_setObj_same _ (State.updQueue_good (good_start hc noParts)).canon, hobj]
  omega

/-- What the engine does with a write in progress. -/
theorem State.hostEngine_of_write (s : State) {h : Nat} {w : HostWrite} (hwrite : s.hostWrite h = some w) :
    s.hostEngine h =
      if w.read < hdCount w.desc then
        if (decide (w.read = 0) && !s.gatePassed w.basin w.gate) && s.host.stops.contains w.basin then s
        else s.hostWriteRow h w
      else if (decide (w.read = 0) && !s.gatePassed w.basin w.gate) && decide (hdCount w.desc = 0) then s
      else s.hostFinish h w := by
  unfold State.hostEngine
  rw [hwrite]

/-! ## The statement -/

/-- Settles O35: each access writes one row of the attachment tile, and the engine's registers follow it. -/
theorem hostRows : Obligations.HostRows := by
  unfold Obligations.HostRows
  intro s hc
  refine ⟨fun slot d e b => ?_, fun slot e rest hentries hstatus hneed => ?_, fun h => ⟨?_, ?_⟩⟩
  · dsimp only
    intro hentries hstatus hneed hgood hbasin hidle hruns hstopped hhold hhost hstops hquota hroom hturn hport hpail hempty huses
    have hland := s.hostRowLand_of_turn d hentries hstatus hneed hgood hbasin hidle hruns hstopped hhold hhost hstops hquota rfl
      hroom hturn hport hpail hempty huses
    obtain ⟨hrow, hfull, hsent⟩ := (LandRun.hostLanded hc slot hroom d).counted (q := slot)
      (f := landedEntry (s.binding slot).2.2) (k := objKey 0x2500 3) (m := 1)
    have hkept := State.hostLanded_host hc slot ((s.binding slot).1 + (s.queue slot).ringPos) d
    generalize s.hostLanded slot ((s.binding slot).1 + (s.queue slot).ringPos) d = a at hland hrow hfull hsent hkept
    have hqueue : a.queue slot = s.queue slot := congrArg (fun x : HostIf => Map.get x.queues HostQueue.init slot) hkept
    refine ⟨_, congrArg Host.Outcome.next hland, hrow.word, hrow.rows, hfull, hsent, ?_⟩
    have hvalue := s.landedEntry_queue (q := slot) (s.binding slot).2.2 hentries hstatus hneed
    have hput : (a.updQueue slot (landedEntry (s.binding slot).2.2)).queue slot = landedEntry (s.binding slot).2.2 (a.queue slot) :=
      State.queue_updQueue_same a slot (by
        rw [hqueue, hvalue]
        exact fun h => List.cons_ne_nil _ _ (congrArg HostQueue.entries h))
    exact hput.trans (by rw [hqueue, hvalue])
  · have hvalue : failedRead (s.queue slot) = { s.queue slot with entries := { e with bad := true } :: rest } := by
      rw [failedRead, hentries, updOpen_cons rest _ hstatus hneed]
    have hput : (s.updQueue slot failedRead).queue slot = failedRead (s.queue slot) :=
      State.queue_updQueue_same s slot (by
        rw [hvalue]
        exact fun h => List.cons_ne_nil _ _ (congrArg HostQueue.entries h))
    exact ⟨_, congrArg Host.Outcome.next (s.hostReadError_of_open hentries hstatus hneed),
      congrArg HostQueue.entries (hput.trans hvalue), State.obj_bumpObj_updQueue hc slot failedRead⟩
  · intro hwrite hlen hon hstops hstop hroom hturn hport hplain hsound hcount haddr hrows
    have hhost := State.hostDescriptor_of_turn hc rfl hlen hon hstops hstop hroom hturn hport hplain hsound hcount haddr hrows
    have hengine : s.hostEngine h.val = s.hostDescriptor h.val := by
      unfold State.hostEngine
      rw [hwrite]
    refine ⟨_, rfl, ?_, ?_⟩
    · rw [hengine, hhost]
    · rw [hengine, hhost]
  · intro w hwrite hstops
    have hengine : s.hostEngine h.val = _ := State.hostEngine_of_write s hwrite
    refine ⟨fun hread hgate => ?_, fun hzero hread hgate => ?_, fun hread hopen hpost hnotify => ?_⟩
    · dsimp only
      intro hroom hplain hturn hport hsound
      have hhost := State.hostWriteRow_of_turn hc rfl hplain hgate hturn hport hsound
      rw [hgate, Bool.not_true, Bool.and_false, if_pos hread, if_neg (by simp)] at hengine
      refine ⟨_, rfl, ?_, ?_⟩
      · rw [hengine, hhost]
      · rw [hengine, hhost]
    · rw [hgate, hzero, hread] at hengine
      exact congrArg Host.Outcome.next hengine
    · have hshut : (decide (w.read = 0) && !s.gatePassed w.basin w.gate) = false := by
        obtain h | h := hopen
        · rw [decide_eq_false (by omega), Bool.false_and]
        · rw [h, Bool.not_true, Bool.and_false]
      obtain ⟨hwrites, hoseq⟩ := s.hostFinish_quiet h.val hpost hnotify
      rw [hshut, if_neg (Nat.not_lt.mpr hread), Bool.false_and, if_neg Bool.false_ne_true] at hengine
      exact ⟨_, congrArg Host.Outcome.next hengine, hwrites, hoseq⟩

end Sys2Proof.Machine
